-- ==== Sys2Proof/Word.lean ====
section
/-! DEFINITION. Words of the module: bytes, 32-bit and 64-bit words, and the outcomes of Table 0-7.
Every record, register and dictionary value is little-endian, bit 0 the least significant (R13). -/

namespace Sys2Proof

/-- One byte. -/
abbrev Byte := BitVec 8
/-- A 32-bit word: index registers, FP32 codes, sequence numbers, claim numbers. -/
abbrev Word32 := BitVec 32
/-- A 64-bit word of a record, a command or an instruction. -/
abbrev Word64 := BitVec 64

/-- The outcomes of Table 0-7 (R26). -/
inductive Status where
  | ok | discarded | lengthExceeds | badAlign | notReady | stale | unknownOutcome | fenced
  | epochMismatch | accessDenied | sealed | regionDark | deadlineMissed | typeMismatch
  | noSuchObject | busy | badSignature | rollback
  | trap | runLimit | uncorrected | coreLost
  deriving DecidableEq, Repr


end Sys2Proof
end

