-- ==== Sys2Proof/Syntax.lean ====
section
/-! DEFINITION. The commands of the block: one constructor per row of the table of operations and events, with the
operands that the spec gives the row. Data that come from outside the module (sensor readings, packets, records,
contents of host memory, answers of modules) are operands of the command that brings them. -/

namespace Sys2Proof

/-- A bit error that a row port meets while it moves one row of an instruction: the row's place in the instruction,
the group, and the bit positions in error; one is corrected, two or more are detected (R37). -/
structure RowError where
  row : Nat
  group : Nat
  bits : List Nat
  deriving DecidableEq, Repr

/-- An error in a 64-byte line of a memory unit, 0 to 15 a polder and 16 to 31 a tier channel: the symbols of the code, or DRAM devices
of the module, that hold wrong bits, and the number of those bits (R266, R311). -/
structure MemError where
  unit : Fin 32
  line : Nat
  parts : Nat
  flips : Nat
  deriving DecidableEq, Repr

/-- Which transfer an arrival concerns: one of a running step, or one of a discarded step that lands or is dropped
(R228). -/
inductive Landing where
  | live | orphan | dropped
  deriving DecidableEq, Repr

/-- What the hub reads from a module's SPD (R309, Table 8-1): the CRC holds, an RDIMM with register clock driver, SPD5 hub
and PMIC, modules on the channel, subchannels and the bits of one, DRAM width, ranks, stack height, capacity in GiB, speed grade in MT/s, serial number. -/
structure Spd where
  crcOk : Bool
  rdimm : Bool
  modules : Nat
  subchannels : Nat
  subchannelBits : Nat
  dramWidth : Nat
  ranks : Nat
  stack : Nat
  capacity : Nat
  rate : Nat
  serial : Nat
  deriving DecidableEq, Repr

/-- Where an identity word arrives: receive lane n of a site, a lane of a fabric port, or a lane of the pair link
(R368, R481, R498). -/
inductive IdentAt where
  | ground (site : Fin 12) (n : Fin 96)
  | fabric (port : Fin 4) (lane : Fin 8)
  | pair (lane : Fin 16)
  deriving DecidableEq, Repr

/-- Why a region resets: a write of RegionCommand, or a fault of the region (R383). -/
inductive ResetCause where
  | command (v : Nat)
  | fault (site : Fin 12)
  deriving DecidableEq, Repr

/-- What carried a packet to the endpoint that checks it: a fabric port, or lane n of a bride (R457). -/
inductive Via where
  | port (x : Fin 4)
  | lane (src : Fin 12) (dst : Fin 12) (n : Fin 96)
  | pair (lane : Fin 16)
  deriving DecidableEq, Repr

/-- A packet (R432, Table 11-2): the fields of its header, its payload as the receiver has expanded it (R434), the CRC and the reserved
bits of its trailer, and what carries it. -/
structure Packet where
  opcode : Nat
  epoch : Nat
  compressed : Bool
  lines : Nat
  channel : Nat
  retry : Bool
  multicast : Bool
  dest : Nat
  source : Nat
  seq : Nat
  claim : Nat
  tail : Nat
  /-- Word 2 [57:48]. -/
  rsv2 : Nat
  address : Nat
  status : Nat
  space : Nat
  phase : Nat
  counted : Bool
  storeIndex : Nat
  storeCount : Nat
  aux : Nat
  /-- Word 3 [21:0]. -/
  rsv3 : Nat
  payload : List Byte
  /-- Trailer bits [31:0]. -/
  crc : Nat
  /-- Trailer bits [63:32]. -/
  rsvT : Nat
  via : Via
  deriving DecidableEq, Repr

/-- The content of a HELLO (Table 12-2), and with it the paired streams that are open on the sender, those that it marks Unsynced and
those that the standby leads (log entry 40). -/
structure Hello where
  claim : Nat
  priority : Nat
  serial : Nat
  role : Nat
  begun : Bool
  frameLength : Nat
  anchorFrame : Nat
  anchorTick : Nat
  digest : Nat
  ready : Bool
  opened : List Nat
  unsynced : List Nat
  led : List Nat
  deriving DecidableEq, Repr

/-- An entry of a pricking that the active copies to its partner, as its two words (Table 2-6). -/
structure PrickCopy where
  frame : Nat
  slot : Nat
  repeatable : Bool
  entries : List (Nat × Nat)
  deriving DecidableEq, Repr

/-- The content of a RESYNC (Table 12-2, R516): the stream context's parameters, the sequence origin, the ingress position, the
committed state record with its size, and granules by address, tier space or polder space, with their bytes. -/
structure StreamCopy where
  stream : Nat
  home : Nat
  owner : Nat
  failover : Bool
  reportSteps : Bool
  outSize : Nat
  ringQ0 : Nat
  ringQ1 : Nat
  f0 : Nat
  emitted : Nat
  inHead : Nat
  inSeq : Nat
  inTick : Nat
  state : List Byte
  granules : List (Bool × Nat × List Byte)
  deriving DecidableEq, Repr

/-- Known-answer messages (R523, R524): the partner's request, the partner's result, and the result digest of a run on
the unit's own die. -/
inductive KatMsg where
  | request (die : Fin 8) (frame : Nat)
  | result (die : Fin 8) (frame : Nat) (pass : Bool)
  | own (die : Fin 8) (frame : Nat) (digest : Nat)
  deriving DecidableEq, Repr

/-- What a register write names: a subindex of the dictionary with the bytes of its value, a word of a port's BAR0 (Table 13-2), or a
word of the BAR4 mailbox (Table 14-9). -/
inductive RegTarget where
  | object (idx : BitVec 16) (sub : BitVec 8) (data : List Byte)
  | bar0 (port : Fin 2) (offset : BitVec 32) (v : BitVec 64)
  | bar4 (port : Fin 2) (offset : BitVec 16) (v : BitVec 64)
  deriving DecidableEq, Repr

/-- A repair unit of the vertical connections that no row-port error shows (Table 1-4): the bank control of a physical core, a block
of a polder's interface, a block of a die port in one direction (1 out of the die), a block of the sideband. -/
inductive Conn where
  | bankControl (die : Fin 8) (pos : Fin 52)
  | polder (p : Fin 16) (block : Fin 85)
  | diePort (d : Fin 8) (dir : Fin 2) (block : Fin 88)
  | sideband (d : Fin 8) (block : Fin 32)
  deriving DecidableEq, Repr

/-- What a housekeeping round measures (R302, R313, R358, R623, R639, R641). A list that is short leaves its last entries as they
were, or 0 for a figure that is only reported (log entry 9). -/
structure Readings where
  /-- The 536 temperature sensors by number, units of 0.125 °C: 48 of each compute die, 24 of the hub, 64 of the Ground, 4 of each
  HBM4 stack (Table 15-4). -/
  sensors : List Int := []
  /-- The two sensors of each DDR5 module, °C (R313). -/
  dimms : List (Nat × Nat) := []
  /-- Coolant inlet and outlet, units of 0.1 °C, and flow, units of 0.01 L/min (R641). -/
  inlet : Nat := 0
  outlet : Nat := 0
  flow : Nat := 0
  /-- The four package substrate sensors, units of 0.1 °C. -/
  package : List Nat := []
  /-- Input voltage, units of 0.01 V, and input power, W (R639). -/
  volts : Nat := 0
  watts : Nat := 0
  /-- Power of each compute die, W (R639). -/
  dieWatts : List Nat := []
  /-- Power of each rail, W (Table 15-6). -/
  rails : List Nat := []
  /-- The sixteen coupler taps, units of 0.01 dBm (R358). -/
  taps : List Int := []
  /-- Each module's share at each tap, units of 0.01 dBm (R358). -/
  shares : List (Int × Int) := []
  /-- Is each module's pilot tone detected at some tap (R358)? -/
  toneA : Bool := true
  toneB : Bool := true
  /-- Connections lost since the last round, each by its repair unit (R35, R43, R126). -/
  lost : List Conn := []
  /-- Dies whose bank layer is in reset (R36, R86, R230). -/
  bankResets : List (Fin 8) := []
  deriving DecidableEq, Repr

/-- What bring-up meets, beside the state of the module (Table 16-1): the last step that it runs to; whether the fuses and the rails
are good; the revision word that each site reports; the dies whose revision the hub firmware does not list; what the SPD of each
socketed module holds; the polders and channels whose training fails; whether the seated laser modules supply light, and their
shares of the sixteen coupler taps; the paths that end their training out of service; the dies that fail the known-answer run. -/
structure BringUp where
  upTo : Nat
  fusesOk : Bool
  railsOk : Bool
  revisions : List (BitVec 32)
  unlisted : List (Fin 12)
  modules : List (Fin 16 × Spd)
  polderFail : List (Fin 16)
  chanFail : List (Fin 16)
  light : Bool
  taps : List (Fin 2 × Fin 16 × Int)
  pathFail : List (Fin 12 × Fin 12 × Fin 96)
  katFail : List (Fin 8)
  deriving DecidableEq, Repr

/-- Units of BIST slices (Table 17-1): a physical core, a physical bank of one, a transmit lane of a site, a channel of a
polder. -/
inductive BistUnit where
  | core (die : Fin 8) (pos : Fin 52)
  | bank (die : Fin 8) (pos : Fin 52) (bank : Fin 34)
  | lane (site : Fin 12) (n : Fin 96)
  | region (polder : Fin 16) (channel : Fin 32)
  deriving DecidableEq, Repr

/-- Instructions of the test port (R692, R693); the others of IEEE 1149.1 and IEEE 1838 are internal scan. -/
inductive TapInstr where
  | bypass | idcode | samplePreload | extest | interconnect | scan (code : Nat)
  deriving DecidableEq, Repr

/-- The commands, one per row of the table. -/
inductive Instr where
  /-- The 50 V input reaches 44.0 V and the carrier supervisor starts the bring-up sequence of Table 16-1 (R650). -/
  | powerApplied
  /-- The module runs bring-up steps 2 to 13 in order and ends in service (R650). -/
  | bringUp (env : BringUp)
  /-- No laser module supplies light within 60 s of step 9, so every site region except H ends step 9 dark (R651). -/
  | laserWaitTimeout
  /-- A word clock edge advances the locked count by one tick and counts toward the lock criterion (R58). -/
  | wordClockEdge (period : Nat) (err : Int) (offset : Int)
  /-- A 1PPS edge aligns the tick count to a multiple of 48,000 and counts toward the lock criterion (R59). -/
  | ppsEdge (interval : Nat) (tenMHz : Bool) (offset : Int)
  /-- The media count advances by one tick from the disciplined or free-running rate (R15). -/
  | mediaTick
  /-- A host write of word 2 commits a PTP correlation record, which the hub validates and uses (R62). -/
  | ptpCorrelationRecord (port : Fin 2) (word2 : Nat) (residual : Nat) (offset : Int)
  /-- The source in use fails its loss criterion, and the timebase switches source or enters holdover (R60). -/
  | sourceLost (src : Fin 4)
  /-- A higher-priority source has been qualified for 10 s, and automatic mode switches to it (R60). -/
  | sourceSwitch (src : Fin 4)
  /-- No lock within 10 s of timebase start puts the timebase in free-run (R64). -/
  | acquireTimeout
  /-- HoldoverLimit seconds elapse in holdover, and the timebase enters free-run with HoldoverExpired set (R64). -/
  | holdoverLimitExpiry
  /-- A write selects the media reference source or is rejected with TYPE_MISMATCH (R56). -/
  | mediaReferenceSourceWrite (v : Nat)
  /-- The timebase first leaves acquiring, the count is loaded once, and the first frame begins (R66). -/
  | firstFrameBegin (elapsed : Nat)
  /-- At each frame boundary the hub advances FrameNumber and multicasts the anchor, then carries out the boundary actions (R70). -/
  | frameBoundary
  /-- A FrameLength write is checked, refused with BUSY while prickings are pending, and applied at the next second boundary (R69). -/
  | frameLengthWrite (v : Nat)
  /-- A host rings the pricking doorbell for a slot, and the hub validates and accepts or rejects the pricking (R72). -/
  | prickingDoorbell (port : Fin 2) (slot : Fin 8)
  /-- A Pending entry reaches its StartOffset with its predecessor committed and becomes Ready (R79). -/
  | entryStartOffset (frame : Nat) (idx : Nat)
  /-- The sequencer manager grants free cores to the head Ready entry by deadline order, after the grant checks (R80). -/
  | coreGrant (die : Fin 8)
  /-- An entry still Pending or Ready when its deadline tick begins is Withdrawn with DEADLINE_MISSED, along with its dependants (R84). -/
  | deadlineTick (die : Fin 8)
  /-- A step has run StepRunLimit ticks since its grant and faults with RUN_LIMIT (R229). -/
  | stepRunLimit (die : Fin 8)
  /-- The sequencer issues the next instruction into its unit's queue (R106). -/
  | instructionIssue (die : Fin 8) (core : Fin 48)
  /-- An instruction completes as its class defines and increments its pin (R179). -/
  | instructionComplete (die : Fin 8) (core : Fin 48) (unit : Fin 12) (pos : Nat)
  /-- The 4-cycle pause after a spare switch-in ends, and waiting row moves start (R40). -/
  | rowPortPauseEnd (die : Fin 8) (phys : Fin 52)
  /-- A bank copy of 2,048 cycles ends, the bank map switches, and waiting row moves proceed (R129). -/
  | bankCopyEnd (die : Fin 8) (phys : Fin 52) (doubles : List Nat)
  /-- Every 16 cycles each crossbar arbiter recomputes its source weights (R123). -/
  | arbiterWeightUpdate (die : Fin 8)
  /-- Every 16 cycles the die port reports its pending source count to the site endpoint (R125). -/
  | diePortWeightReport (die : Fin 8)
  /-- A write requests an operating point for a die, applied at the next frame boundary (R117). -/
  | dieOperatingPointWrite (die : Fin 8) (v : Nat)
  /-- A region's time counter reaches T and the scheduled frequency change or stop takes effect (R617). -/
  | synchronisedChange
  /-- 20 µs before a raise boundary, the hub starts the VCORE ramp (R621). -/
  | vcoreRampStart (die : Fin 8)
  /-- 2 µs before the boundary, an unsettled VCORE moves the raise to the next boundary (R621). -/
  | vcoreSettleCheck (die : Fin 8) (settled : Bool)
  /-- Count rows move from the row store to scratch (R192). -/
  | rowin (die : Fin 8) (core : Fin 48) (errs : List RowError)
  /-- Count rows move from scratch to the row store (R192). -/
  | rowout (die : Fin 8) (core : Fin 48) (errs : List RowError)
  /-- Rows move from the row store to scratch at register-given addresses (R193). -/
  | rowinX (die : Fin 8) (core : Fin 48) (errs : List RowError)
  /-- Rows move from scratch to the row store at register-given addresses (R193). -/
  | rowoutX (die : Fin 8) (core : Fin 48) (errs : List RowError)
  /-- One engine accumulates A times B transposed into an accumulator set (R197). -/
  | mma (die : Fin 8) (core : Fin 48) (engine : Fin 4)
  /-- All four engines accumulate in shared-B operation (R199). -/
  | mma4 (die : Fin 8) (core : Fin 48)
  /-- An accumulator set is written to scratch as FP32 or BF16 (R162). -/
  | drain (die : Fin 8) (core : Fin 48) (engine : Fin 4)
  /-- An accumulator set is loaded from FP32 scratch data (R200). -/
  | accload (die : Fin 8) (core : Fin 48) (engine : Fin 4)
  /-- The vector unit writes A + B (R202). -/
  | add (die : Fin 8) (core : Fin 48)
  /-- The vector unit writes A - B (R202). -/
  | sub (die : Fin 8) (core : Fin 48)
  /-- The vector unit writes A times B (R202). -/
  | mul (die : Fin 8) (core : Fin 48)
  /-- The vector unit writes A times B plus Dst, rounded or saturated once (R154). -/
  | fma (die : Fin 8) (core : Fin 48)
  /-- The vector unit writes the IEEE maximum of A and B (R736). -/
  | max (die : Fin 8) (core : Fin 48)
  /-- The vector unit writes the IEEE minimum of A and B (R736). -/
  | min (die : Fin 8) (core : Fin 48)
  /-- The vector unit writes abs(A) (R202). -/
  | abs (die : Fin 8) (core : Fin 48)
  /-- The vector unit converts A to the Dst format (R202). -/
  | cvt (die : Fin 8) (core : Fin 48)
  /-- The vector unit converts A into MX blocks with scales (R146). -/
  | tomx (die : Fin 8) (core : Fin 48)
  /-- The vector unit writes A times 2 to the power Imm (R202). -/
  | scale2 (die : Fin 8) (core : Fin 48)
  /-- The vector unit gathers rows of A by UINT32 indices in B (R204). -/
  | gather (die : Fin 8) (core : Fin 48)
  /-- The vector unit rotates element pairs of A by the cosines and sines in B (R204). -/
  | rope (die : Fin 8) (core : Fin 48)
  /-- The vector unit writes a draft tree's mask in bit or additive form (R259). -/
  | treemask (die : Fin 8) (core : Fin 48)
  /-- The vector unit copies A unchanged to Dst (R202). -/
  | vectorCopy (die : Fin 8) (core : Fin 48)
  /-- The special function unit writes e to the power A (R237). -/
  | exp (die : Fin 8) (core : Fin 48)
  /-- The special function unit writes 1 / A (R237). -/
  | recip (die : Fin 8) (core : Fin 48)
  /-- The special function unit writes the reciprocal square root of A (R237). -/
  | rsqrt (die : Fin 8) (core : Fin 48)
  /-- The special function unit writes SiLU of A (R237). -/
  | silu (die : Fin 8) (core : Fin 48)
  /-- The special function unit writes GELU of A (R237). -/
  | gelu (die : Fin 8) (core : Fin 48)
  /-- The special function unit writes the softmax of each logical row, with an optional mask (R239). -/
  | softmax (die : Fin 8) (core : Fin 48)
  /-- The special function unit writes the RMS normalisation of each row with a gain (R241). -/
  | rmsnorm (die : Fin 8) (core : Fin 48)
  /-- The special function unit writes the layer normalisation of each row with a gain (R241). -/
  | layernorm (die : Fin 8) (core : Fin 48)
  /-- The special function unit writes the sum of each row in fixed order (R238). -/
  | redsum (die : Fin 8) (core : Fin 48)
  /-- The special function unit writes the maximum of each row (R243). -/
  | redmax (die : Fin 8) (core : Fin 48)
  /-- The special function unit writes the k largest elements of each row and their positions (R244). -/
  | topk (die : Fin 8) (core : Fin 48)
  /-- The special function unit draws one token per row under the stream's sampling state and updates the record (R251). -/
  | sample (die : Fin 8) (core : Fin 48)
  /-- The special function unit walks a draft tree with target draws and updates the sampling record (R260). -/
  | treeverify (die : Fin 8) (core : Fin 48)
  /-- A transfer queue reads remote data into own scratch (R209). -/
  | get (die : Fin 8) (core : Fin 48) (queue : Fin 4) (errs : List MemError)
  /-- A transfer queue writes own scratch to a remote space (R209). -/
  | put (die : Fin 8) (core : Fin 48) (queue : Fin 4) (errs : List MemError)
  /-- A transfer queue writes data and then a flagged store of the flag word (R445). -/
  | putf (die : Fin 8) (core : Fin 48) (queue : Fin 4)
  /-- A transfer queue writes to every compute die of a Ground row or column (R374). -/
  | mcast (die : Fin 8) (core : Fin 48) (queue : Fin 4)
  /-- A transfer queue issues one remote atomic and writes the old value and status to scratch (R212). -/
  | atomic (die : Fin 8) (core : Fin 48) (queue : Fin 4)
  /-- The die's polder controllers copy between polder, tier and stream spaces (R207). -/
  | copy (die : Fin 8) (core : Fin 48) (queue : Fin 4)
  /-- A transfer's last data or acknowledgement arrives and it completes (R209). -/
  | transferComplete (die : Fin 8) (core : Fin 48) (queue : Fin 4) (pos : Nat) (which : Landing) (data : List Byte)
  /-- Issue stops until a pin reaches a count, which is then subtracted unless Keep is set (R215). -/
  | waitpin (die : Fin 8) (core : Fin 48)
  /-- A value is added to a grant semaphore (R216). -/
  | semadd (die : Fin 8) (core : Fin 48)
  /-- Issue stops until a grant semaphore reaches a value (R215). -/
  | semwait (die : Fin 8) (core : Fin 48)
  /-- Issue stops until every instruction issued to the selected units has completed (R218). -/
  | fence (die : Fin 8) (core : Fin 48)
  /-- Issue stops until a UINT32 scratch word reaches a value (R217). -/
  | waitmem (die : Fin 8) (core : Fin 48)
  /-- Every 8 cycles a waiting WAITMEM rereads its word (R217). -/
  | waitmemPoll (die : Fin 8) (core : Fin 48)
  /-- No operation (R219). -/
  | nop (die : Fin 8) (core : Fin 48)
  /-- The end instruction retires once every queue of the core has drained, ending the step on that core (R111). -/
  | endStep (die : Fin 8) (core : Fin 48)
  /-- The sequencer continues at the target instruction (R219). -/
  | br (die : Fin 8) (core : Fin 48)
  /-- The sequencer branches when a register compared with Imm meets the condition (R221). -/
  | brc (die : Fin 8) (core : Fin 48)
  /-- An index register receives another plus a signed immediate (R221). -/
  | iadd (die : Fin 8) (core : Fin 48)
  /-- An index register receives an immediate (R221). -/
  | iset (die : Fin 8) (core : Fin 48)
  /-- An index register receives a UINT32 word from scratch (R221). -/
  | iload (die : Fin 8) (core : Fin 48)
  /-- The step faults with cause TRAP and the given code (R219). -/
  | trap (die : Fin 8) (core : Fin 48)
  /-- The hub checks a pattern image and loads it on every die of DieMask or none (R224). -/
  | patternLoad
  /-- The hub removes a pattern from the dies of DieMask at the next frame boundary (R733). -/
  | patternUnload
  /-- The hub frees an old pattern image once no step that uses it runs (R225). -/
  | patternImageFree (die : Fin 8)
  /-- A polder controller scrubs lines to cover its polder once per ScrubPeriod (R269). -/
  | patrolScrub (polder : Fin 16) (lines : Nat) (errs : List MemError)
  /-- Every controller reports no old-epoch access in flight, and held frames become free (R285). -/
  | ledgerEpochDrain
  /-- A host writes the ledger queue tail, and the hub takes commands in order (R540). -/
  | ledgerQueueDoorbell (port : Fin 2) (v : Nat)
  /-- Count invalid ledger entries are made valid from the template (R291). -/
  | map
  /-- Count valid ledger entries are made invalid and their frames released (R289). -/
  | unmap
  /-- The Write, Fabric, Guest and Pinned bits of Count entries are changed (R289). -/
  | protect
  /-- Count granules are moved to new frames while accesses continue (R299). -/
  | migrate
  /-- Every granule owned by the given stream is unmapped (R290). -/
  | unmapstream
  /-- A phase of one granule's migration ends and the next phase starts (R299). -/
  | migrationPhaseEnd (index : Nat)
  /-- A polder controller idle for SelfRefreshIdle microseconds puts its stack in self-refresh (R303). -/
  | selfRefreshEntry (polder : Fin 16)
  /-- A tier channel with no pending access for 50 µs enters self-refresh (R321). -/
  | channelSelfRefresh (chan : Fin 16)
  /-- DnPRES_N stays low for 1 s, and the channel enters Discovering (R314). -/
  | presenceDetect (chan : Fin 16)
  /-- DnPRES_N goes high, and the channel becomes Empty or Failed (R314). -/
  | presenceRemoved (chan : Fin 16)
  /-- 200 ms after power enable, the hub reads and checks the SPD, then trains or refuses the module (R314). -/
  | spdRead (chan : Fin 16) (d : Spd)
  /-- Channel training ends, and the channel goes In service or Failed (R316). -/
  | channelTrainingEnd (chan : Fin 16) (pass : Bool)
  /-- A channel's I3C bus stops answering, and the channel goes to Failed (R314). -/
  | i3cBusLoss (chan : Fin 16)
  /-- A drain command moves every valid granule off the channel (R335). -/
  | channelDrain
  /-- A discover command restarts discovery of an Empty, Refused or Failed channel (R334). -/
  | discover
  /-- The last granule of a drain moves, and the channel enters Drained and self-refresh (R314). -/
  | drainComplete (chan : Fin 16)
  /-- 10 ms after a channel is Drained, DnPWREN goes off (R314). -/
  | powerEnableOff (chan : Fin 16)
  /-- A host writes the staging queue tail, and the hub takes commands (R540). -/
  | stagingQueueDoorbell (port : Fin 2) (v : Nat)
  /-- Tier granules are copied into polder granules by NeedFrame (R329). -/
  | stagein (errs : List MemError)
  /-- Polder granules are copied into tier granules by NeedFrame (R329). -/
  | stageout (errs : List MemError)
  /-- A staging command's copy ends with OK or DEADLINE_MISSED, and its completion is written (R329). -/
  | stagingComplete (pos : Nat)
  /-- A lease period boundary begins, sources send requests, and leases change lessee (R346). -/
  | leasePeriod
  /-- A destination collects a source's backlog and weight request (R349). -/
  | leaseRequest (dst : Fin 12) (src : Fin 12) (backlog : Nat) (multicast : Bool)
  /-- A source receives grants and revocations and confirms the free granted lanes (R353). -/
  | leaseGrant (src : Fin 12)
  /-- A destination receives confirmations and selects drop paths for the leased lanes (R349). -/
  | leaseConfirm (dst : Fin 12)
  /-- A receiver checks an identity word against its lessee and lane and reports any mismatch (R368). -/
  | identityWord (at_ : IdentAt) (word : BitVec 64)
  /-- The hub attributes a mismatch report and orders a wrong-line relock or retraining (R410). -/
  | identityReport
  /-- Training of a bride's paths ends, and the destination reports the result to the hub (R365). -/
  | pathTrainingEnd (src : Fin 12) (dst : Fin 12) (failed : List (Fin 96))
  /-- LaserCommand ramps a laser module off over 50 ms, refused with BUSY unless the other module supplies (R360). -/
  | laserRelease (m : Fin 2)
  /-- LaserCommand ramps a seated laser module on over 50 ms (R360). -/
  | laserStart (m : Fin 2)
  /-- A laser ramp ends, and the module reads supplying or removable (R360). -/
  | laserRampEnd (m : Fin 2)
  /-- A laser module stops without release, and every lane loses 3 dB (R361). -/
  | laserLoss (m : Fin 2)
  /-- Both laser modules stop, and every region is treated as dark (R362). -/
  | laserLossBoth
  /-- A laser module's I3C report of the seat contact sets or clears the seated state and the enable line (R720). -/
  | laserSeatReport (m : Fin 2) (seated : Bool)
  /-- A RegionCommand reset is checked and starts the reset of a site's Ground region (R391). -/
  | regionReset (cause : ResetCause)
  /-- A site receives a region-dark notice, voids leases through the region and holds transfers (R383). -/
  | regionDarkNotice (at_ : Fin 12) (x : Fin 12)
  /-- At 1 µs the region parks its rings and asserts its endpoint reset (R383). -/
  | regionEndpointReset (x : Fin 12)
  /-- At 11 µs the region releases reset and starts ring lock (R383). -/
  | regionResetRelease (x : Fin 12)
  /-- The region returns to service, and sources resend held transfers whose paths are up (R385). -/
  | regionUpNotice (x : Fin 12)
  /-- A region not back within 50 ms is left dark and its site isolated (R388). -/
  | regionReturnTimeout (x : Fin 12)
  /-- The Dyke admits a guest packet with the guest's source ID, or drops it with ACCESS_DENIED (R378). -/
  | dykeGuestPacket (g : Fin 2) (p : Packet)
  /-- A write to a guest window's base or limit word is checked and applied to later packets (R380). -/
  | dykeWindowWrite (g : Fin 2) (sub : Fin 32) (v : Nat)
  /-- Every 250 µs the housekeeping sequencer reads every sensor and applies throttles, trips, feedforward and reports (R623). -/
  | housekeepingRound (r : Readings)
  /-- A housekeeping sequencer misses two rounds, and every die it watches trips (R633). -/
  | housekeepingMissed (dies : List (Fin 8)) (hub : Bool)
  /-- Every 50 µs a ring's loop updates its heater code and may declare loss of lock (R397). -/
  | lockInUpdate (site : Fin 12) (slot : Fin 1344) (err : Int)
  /-- A relock sweep finds its comb line and locks, or fails after 300 GHz (R406). -/
  | ringLockAchieved (site : Fin 12) (slot : Fin 1344) (heater : Option (Fin 16384)) (line : Fin 16)
  /-- A scheduled lane calibration removes the lane from its pool and starts once its leases end (R415). -/
  | laneCalibrationStart (site : Fin 12) (n : Fin 96)
  /-- A lane calibration keeps the best setting, records trims and retrains the lane's paths (R415). -/
  | laneCalibrationEnd (site : Fin 12) (n : Fin 96) (eyes : List (Nat × Nat × Nat))
  /-- CalCommand 0x01 starts lane calibration of every lane of a site (R420). -/
  | laneCalibrationCommand
  /-- CalCommand 0x02 resets a region and calibrates every lane (R418). -/
  | fullCalibrationCommand
  /-- A write of RingSite or RingSlot selects a ring for RingTrim (R414). -/
  | ringSelect (sub : Fin 2) (v : Nat)
  /-- A target reads Lines lines and answers READRESP (R438). -/
  | read (p : Packet) (errs : List MemError)
  /-- A target writes the payload, applies counted stores, and answers WRITEACK when visible (R439). -/
  | write (p : Packet)
  /-- A target's tracker holds a flag until its counted stores arrive, then adds 1 to the flag word (R447). -/
  | flag (p : Packet)
  /-- An allowed sender invalidates lines of the fabric line cache (R479). -/
  | invalidate (p : Packet)
  /-- A target answers whether a request was not seen, applied or in progress (R453). -/
  | probe (p : Packet)
  /-- A source receives read data for a request (R441). -/
  | readresp (p : Packet)
  /-- A source receives acknowledgement that a write is visible (R439). -/
  | writeack (p : Packet)
  /-- A source receives the outcome of a flag (R441). -/
  | flagack (p : Packet)
  /-- A source receives an atomic's old value and status (R459). -/
  | atomicresp (p : Packet)
  /-- A source receives a procedure's result (R468). -/
  | triggerresp (p : Packet)
  /-- A source receives the outcome of an invalidation (R480). -/
  | invalack (p : Packet)
  /-- A source resends, completes or restarts its timer on a probe answer (R454). -/
  | proberesp (p : Packet)
  /-- A request's response timer expires, and the source sends a probe or abandons after ProbeLimit (R451). -/
  | responseTimeout (source : Nat) (seq : Nat)
  /-- 2 µs after a BUSY answer, the source resends the packet (R449). -/
  | busyResend (source : Nat) (seq : Nat)
  /-- A flag held 2 s without its count is dropped unapplied (R450). -/
  | flagEntryTimeout (dest : Fin 4096) (source : Nat) (phase : Fin 4)
  /-- 64 ms after a unit restarts, it stops answering retries with UNKNOWN_OUTCOME (R464). -/
  | replyCacheGuardEnd (site : Fin 12)
  /-- The atomic adds A to a 32-bit word (R458). -/
  | add32 (p : Packet)
  /-- The atomic adds A to a 64-bit word (R458). -/
  | add64 (p : Packet)
  /-- The atomic swaps a 32-bit word with A (R458). -/
  | swap32 (p : Packet)
  /-- The atomic swaps a 64-bit word with A (R458). -/
  | swap64 (p : Packet)
  /-- The atomic compares a 32-bit word with A and stores B on equality (R458). -/
  | cas32 (p : Packet)
  /-- The atomic compares a 64-bit word with A and stores B on equality (R458). -/
  | cas64 (p : Packet)
  /-- The atomic stores the unsigned maximum of a 32-bit word and A (R458). -/
  | umax32 (p : Packet)
  /-- The atomic stores the unsigned maximum of a 64-bit word and A (R458). -/
  | umax64 (p : Packet)
  /-- The atomic stores the unsigned minimum of a 32-bit word and A (R458). -/
  | umin32 (p : Packet)
  /-- The atomic stores the unsigned minimum of a 64-bit word and A (R458). -/
  | umin64 (p : Packet)
  /-- The atomic ORs A into a 32-bit word (R458). -/
  | or32 (p : Packet)
  /-- The atomic ORs A into a 64-bit word (R458). -/
  | or64 (p : Packet)
  /-- The atomic ANDs A into a 32-bit word (R458). -/
  | and32 (p : Packet)
  /-- The atomic ANDs A into a 64-bit word (R458). -/
  | and64 (p : Packet)
  /-- Procedure 0x00 returns endpoint, claim, frame number and tick (R467). -/
  | ping (p : Packet)
  /-- Procedure 0x01 raises a claim fence floor and answers once lower writes have drained (R474). -/
  | raiseFence (p : Packet)
  /-- Procedure 0x02 drops every line of the fabric line cache (R478). -/
  | flushLineCache (p : Packet)
  /-- A host procedure trigger is placed on a host port's trigger ring (R469). -/
  | hostProcedure (p : Packet)
  /-- A dictionary write raises a claim fence floor or is rejected with STALE (R473). -/
  | claimFenceWrite (sub : Fin 48) (v : Nat)
  /-- A write of 0x01 to LineCacheFlush drops every cached line (R478). -/
  | lineCacheFlush (v : Nat)
  /-- RouteCommand 0x01 loads the inactive routing version from the tier (R486). -/
  | routeLoad
  /-- RouteCommand 0x02 makes the loaded routing version active (R486). -/
  | routeSwitch
  /-- The old epoch's outstanding count reaches zero, or 2 ms pass, and the old version is freed (R487). -/
  | epochFree (late : Bool)
  /-- The pair link comes up, and both units send HELLO (R498). -/
  | pairLinkUp (lanes : Nat)
  /-- The pair link goes down, and holds stop (R498). -/
  | pairLinkDown
  /-- Every 100 ms each paired unit sends HELLO (R500). -/
  | helloTimer
  /-- A unit receives the partner's HELLO and decides roles and join conditions (R496). -/
  | hello (h : Hello)
  /-- The standby receives a fixed pricking copy from the active (R507). -/
  | pricking (c : PrickCopy)
  /-- The standby checks and applies the active's commit record, compares, adopts and posts records (R511). -/
  | commit (record : List Byte)
  /-- A unit receives a stream's context, state record and owned granules from the lead unit (R516). -/
  | resync (c : StreamCopy)
  /-- A resync copy ends, and the stream becomes Synced at the next boundary (R516). -/
  | resyncEnd (stream : Fin 16384)
  /-- A unit receives a partner's new claim and steps down if it is higher (R497). -/
  | claim (n : Nat)
  /-- A standby receives a YIELD and becomes active at frame B (R528). -/
  | yield (frame : Nat)
  /-- A unit receives a known-answer request or result and acts under Table 12-9 (R523). -/
  | kat (m : KatMsg)
  /-- No HELLO within 10 s, and the unit begins its first frame Alone (R501). -/
  | joinTimeout
  /-- At FrameLength/2 the standby fixes the next frame's pricking (R507). -/
  | standbyPrickingFix
  /-- The hold ends without the commit record, which is counted missed, and the standby sends its own records (R512). -/
  | commitHoldExpiry
  /-- 48 ticks after its PING, the standby takes over or becomes Detached (R526). -/
  | pingWaitExpiry
  /-- Every KatInterval/8 seconds a unit runs the known-answer pattern on its next die (R524). -/
  | katInterval
  /-- An arbitration result missing 4 frames after M counts as missing (R523). -/
  | katResultTimeout
  /-- PairCommand 0x01 makes the active send YIELD for the current frame + 2 (R534). -/
  | switchover
  /-- PairCommand 0x02 marks paired streams Unsynced and restarts joining (R534). -/
  | rejoin
  /-- A host writes a submission queue tail (R540). -/
  | sqDoorbell (port : Fin 2) (sq : Fin 64) (v : BitVec 64)
  /-- The hub fetches a queue entry once a completion slot can be reserved (R559). -/
  | sqFetch
  /-- The hub places one ingress record into the stream's ring (R561). -/
  | ingress (port : Fin 2) (data : List Byte)
  /-- The hub opens a stream context and writes both state copies (R553). -/
  | openStream (port : Fin 2)
  /-- A stream moves to Closing and closes at the next idle frame boundary (R557). -/
  | closeStream (port : Fin 2)
  /-- The selected sampling fields are written to the committed record (R554). -/
  | sampling (port : Fin 2)
  /-- Host memory is written to the committed state record (R554). -/
  | statewrite (port : Fin 2) (data : List Byte)
  /-- The committed state record is read to host memory (R554). -/
  | stateread (port : Fin 2)
  /-- Host memory is written to polder or tier, all eight copies for replicated ranges (R558). -/
  | memwrite (port : Fin 2) (data : List Byte)
  /-- Polder or tier data is read to host memory (R558). -/
  | memread (port : Fin 2)
  /-- A stream's owner, failover and rings change at the next frame boundary (R555). -/
  | rebind (port : Fin 2)
  /-- The host sets Enable with the link up, and the port enters Up (R544). -/
  | portEnable (port : Fin 2) (v : BitVec 63)
  /-- A port leaves Up, discards unfetched work and hands off or parks its streams (R545). -/
  | portDisable (port : Fin 2) (v : BitVec 63)
  /-- A host link goes down or is reset, and the port enters Down (R544). -/
  | linkDown (port : Fin 2)
  /-- PERST_N held low resets the port to Down (R717). -/
  | perst (port : Fin 2) (low : Bool)
  /-- A stream Waiting for WaitLimit seconds is closed with ClosedByLimit (R547). -/
  | waitLimitExpiry (stream : Fin 16384)
  /-- Clearing a submission queue's Enable discards its entries and zeroes head and tail (R555). -/
  | sqDisable (port : Fin 2) (sq : Fin 64)
  /-- Setting a ring's Enable checks its size and initialises every slot (R566). -/
  | ringEnable (port : Fin 2) (ring : Fin 64) (count : BitVec 16) (size : BitVec 16)
  /-- Clearing a ring's Enable discards every unwritten slot (R566). -/
  | ringDisable (port : Fin 2) (ring : Fin 64)
  /-- The host returns slots, and the hub marks them STALE (R570). -/
  | consumerIndexWrite (port : Fin 2) (ring : Fin 64) (v : BitVec 32)
  /-- A ring's holdoff ends, and its pending MSI-X vector is raised (R572). -/
  | irqHoldoffEnd (port : Fin 2) (ring : Fin 64)
  /-- A host write to BAR2 is ignored and counted (R538). -/
  | bar2Write (port : Fin 2)
  /-- A host writes a pricking slot's header or entries in BAR0 (R72). -/
  | prickingSlotWrite (port : Fin 2) (slot : Fin 8) (word : Nat) (v : BitVec 64)
  /-- A dictionary READ frame is checked and answered with the value (R592). -/
  | dapRead (port : Fin 2) (frame : List Byte)
  /-- A dictionary WRITE frame is checked and applied to its subindex (R592). -/
  | dapWrite (port : Fin 2) (frame : List Byte)
  /-- A READRECORD frame returns every subindex of a record at one instant (R591). -/
  | dapReadrecord (port : Fin 2) (frame : List Byte)
  /-- An OPEN frame creates a pending session with a device nonce (R596). -/
  | dapOpen (port : Fin 2) (frame : List Byte)
  /-- An AUTH frame decrypts and verifies the station's secret and opens the session (R596). -/
  | dapAuth (port : Fin 2) (frame : List Byte)
  /-- A CLOSE frame closes the session (R598). -/
  | dapClose (port : Fin 2) (frame : List Byte)
  /-- A WATCH frame replaces the session's watch list (R601). -/
  | dapWatch (port : Fin 2) (frame : List Byte)
  /-- A pending session without AUTH for 5 s is removed (R596). -/
  | sessionPendingExpiry (session : BitVec 32)
  /-- A session idle for SessionIdleLimit seconds closes (R598). -/
  | sessionIdleExpiry (session : BitVec 32)
  /-- A write of 1 to Go runs the BAR4 mailbox request and clears Busy when done (R608). -/
  | bar4Go (port : Fin 2)
  /-- A key entry write is checked by level and closes every session opened with that entry (R595). -/
  | accessKeyWrite (level : Fin 4) (sub : Fin 16) (v : Nat)
  /-- 1 s after a field network setting is written, it takes effect (R589). -/
  | networkConfigApply
  /-- Writing the serial number's low word arms the field seal (R603). -/
  | fieldSealArm (v : BitVec 32)
  /-- Writing the inverse within 10 s blows the fuse and closes the service level (R604). -/
  | fieldSealConfirm (v : BitVec 32)
  /-- 10 s pass without confirmation, and the seal disarms (R603). -/
  | fieldSealArmExpiry
  /-- A write of 0x01 schedules every kept value outside 0x1000-0x1FFF to its default at the next bring-up (R606). -/
  | restoreDefaults (v : Nat)
  /-- A write to an object with no row of its own is checked, stored and applied (R605). -/
  | registerWrite (target : RegTarget)
  /-- The oscillator in use is lost, and synthesisers hold frequency (R611). -/
  | oscillatorLoss (which : Fin 2)
  /-- Within 20 µs the hub switches phase-continuously to the other oscillator (R611). -/
  | oscillatorSwitch
  /-- Both oscillators are lost for 10 ms, and the module enters Fault-off (R612). -/
  | clockFault
  /-- A droop detector fires, and the region lengthens its next clock period (R613). -/
  | droopStretch (region : Fin 54) (sixteenths : Fin 8)
  /-- Every 1 µs a sync pulse slews every region time counter (R616). -/
  | syncPulse (drift : List (Fin 73 × Int))
  /-- A die 5 s in restart pending restarts at the next frame boundary at point 2 (R635). -/
  | dieRestart (die : Fin 8)
  /-- A site number written to ThermalTripClear releases a latched die (R636). -/
  | thermalTripClear (v : Nat)
  /-- The input stays below 43.0 V for 1 ms, setting InputLow and a 2,600 W cap (R638). -/
  | inputLow
  /-- The input stays below 40.0 V for 20 µs, and the module goes to Fault-off (R638). -/
  | inputUndervoltage
  /-- The input stays above 60.0 V for 10 µs, and the module goes to Fault-off (R638). -/
  | inputOvervoltage
  /-- The input stays in range for 1 s, lifting InputLow or starting bring-up after Fault-off (R638). -/
  | inputRestored
  /-- A rail fault takes the module to Fault-off (R643). -/
  | railFault
  /-- After a hub trip, the carrier supervisor starts bring-up once its substrate sensors read below 80 °C for 5 s (R637). -/
  | faultOffRestart
  /-- PowerCommand 0x01 stops dispatch, saves state, ramps lasers off and power-gates the dies (R645). -/
  | enterRetention
  /-- The entry sequence ends, and PowerState reads Retention (R645). -/
  | retentionEntryEnd
  /-- PowerCommand 0x02 raises the rails and lasers, relocks rings and restores the module (R647). -/
  | wake
  /-- Wake ends at the first frame boundary after its last phase, and PowerState reads In service (R647). -/
  | wakeEnd
  /-- A RecoveryLength write erases slot 0 and clears the piece record (R664). -/
  | recoveryLength (v : Nat)
  /-- A RecoveryOffset write sets the offset of the next piece (R664). -/
  | recoveryOffset (v : Nat)
  /-- A RecoveryPiece write stores 512 bytes at the offset and counts the piece (R664). -/
  | recoveryPiece (piece : List Byte)
  /-- RecoveryCommand 0x01 verifies the loaded image and restarts bring-up on OK (R664). -/
  | recoveryVerify (v : Nat)
  /-- Update command 0x01 checks the image and writes it to the inactive slot (R673). -/
  | updateStage
  /-- Update command 0x02 starts switching instances one slice at a time (R674). -/
  | updateApply
  /-- Update command 0x03 raises the rollback counter and makes the new slot active (R680). -/
  | updateCommit
  /-- Update command 0x04 switches instances back to the old image in slices (R679). -/
  | updateRevert
  /-- Update command 0x05 continues a stopped update from the waiting instance (R677). -/
  | updateResume
  /-- At its frame boundary an instance pauses, hands over state and starts the new image (R674). -/
  | updateSlice
  /-- A new image not alive within 2 ms reverts the instance and stops the update (R676). -/
  | imageAliveTimeout
  /-- An abandoned instance not back within 60 s stops the update with NOT_READY (R677). -/
  | sliceRetryTimeout
  /-- AutoCommitHours after the last slice, the hub commits the update itself (R680). -/
  | autoCommit
  /-- An SPDM GET_VERSION request is answered (R670). -/
  | getVersion (port : Fin 2)
  /-- An SPDM GET_CAPABILITIES request is answered (R670). -/
  | getCapabilities (port : Fin 2)
  /-- An SPDM NEGOTIATE_ALGORITHMS request is answered (R670). -/
  | negotiateAlgorithms (port : Fin 2) (offered : Bool)
  /-- An SPDM GET_DIGESTS request is answered (R670). -/
  | getDigests (port : Fin 2)
  /-- An SPDM GET_CERTIFICATE request returns the slot 0 chain (R670). -/
  | getCertificate (port : Fin 2) (slot : Fin 8) (offset : BitVec 16) (length : BitVec 16)
  /-- An SPDM CHALLENGE is signed with the device identity key (R670). -/
  | challenge (port : Fin 2) (slot : Fin 8) (summary : Bool) (nonce : List Byte)
  /-- An SPDM GET_MEASUREMENTS returns the signed measurement blocks (R671). -/
  | getMeasurements (port : Fin 2) (index : BitVec 8) (signed : Bool) (nonce : List Byte)
  /-- The hub starts a BIST slice on a free core, bank, lane or polder channel (R684). -/
  | bistSliceStart (u : BistUnit)
  /-- A BIST slice ends; a confirmed failure acts under Table 17-2 (R688). -/
  | bistSliceEnd (u : BistUnit) (pass : Bool)
  /-- A DieBistCommand write runs a full die test (R689). -/
  | dieBist (v : Nat)
  /-- The full die test ends, and DieBistStatus reads its outcome (R689). -/
  | dieBistEnd (die : Fin 8) (failures : List BistUnit) (margins : List (Fin 52))
  /-- A test port instruction is carried out when allowed by TestPortEnable and the seal (R693). -/
  | testPortInstruction (t : TapInstr)
  /-- A TraceControl write starts, stops or reconfigures tracing within 1 µs (R696). -/
  | traceControlWrite (v : Nat)
  /-- The hub drains a 4 KiB block of a site trace buffer into the trace region (R695). -/
  | traceBlockDrain (site : Fin 12)
  /-- TraceCopy command 0x01 copies trace data to the tier (R700). -/
  | traceCopy (v : Nat)
  /-- A write to a dump trigger is applied or refused with BUSY while Count is nonzero (R701). -/
  | dumpTriggerWrite (trigger : Fin 4) (sub : Fin 5) (v : Nat)
  /-- FreezeCommand 0x01 stops grants at the next boundary and drains to a consistent cut (R707). -/
  | freezeAtBoundary
  /-- FreezeCommand 0x02 stops every unit at time count T (R708). -/
  | freezeAtOnce
  /-- FreezeCommand 0x03 resumes dispatch at the next frame boundary (R710). -/
  | freezeRelease
  /-- Every buffer is empty, and the hub writes the freeze record and reads frozen (R707). -/
  | freezeDrainEnd
  /-- FreezeDrainLimit passes without a drain, and the hub freezes at once (R707). -/
  | freezeDrainLimit
  /-- A host port's PCI Express link comes up (after PERST_N rises and training ends), and the port enters Linked (R544). -/
  | hostLinkUp (port : Fin 2)
  /-- Light from a laser module returns without a start command, and the hub retrains every bride and announces region-up site by site (R362). -/
  | laserLightReturn (m : Fin 2)
  /-- A tripped ring region that has been 5 s in restart pending restarts and its rings relock under R407 (R634). -/
  | ringRegionRestart (x : Fin 12)
  /-- The footside finishes training a fabric port lane with its link partner, and the lane enters service and the port comes up (R481). -/
  | fabricLaneTrained (port : Fin 4) (lane : Fin 8)
  /-- A lost 100 MHz oscillator becomes present again and its Good bit in ReferenceState is set (R611). -/
  | oscillatorReturn (which : Fin 2)
  /-- A 10BASE-T1S port gains or loses its link and PLCA role, and LinkState changes (R587). -/
  | fieldNetworkLink (port : Fin 2) (up : Bool)
  /-- A newly started image reports itself alive within 2 ms, and its instance counts as switched in InstancesDone (R676). -/
  | imageAliveReport
  /-- A ledger command's entries pass R285 step 3, and the hub writes Status and CompletionTick and posts its completion (R289). -/
  | ledgerCommandComplete
  /-- A host submission command such as MEMWRITE or MEMREAD completes once its data is visible, and its kind 0x03 completion is posted (R560). -/
  | commandCompletion (port : Fin 2)
  /-- The copy of a pattern image into every die's pattern memory ends, and PatternLoad Status reads the outcome (R224). -/
  | patternLoadEnd
  /-- Loading the inactive routing version from the tier ends, and RouteStatus reads the outcome (R486). -/
  | routeLoadEnd
  /-- A trace copy into the tier ends, and TraceCopy status reads the outcome (R700). -/
  | traceCopyEnd
  /-- Staging of an update image into the inactive slot and the hub ends, and the update Status reads the outcome (R672). -/
  | updateStageEnd
  deriving DecidableEq, Repr

end Sys2Proof
end

