-- ==== Sys2Proof/Machine/Table.lean ====
section
/-! DEFINITION. Sparse tables. A table holds the entries that differ from their default, sorted by key:
one canonical form, so that equal contents are equal data. Memories, register files, rings, lanes, ledger
replicas and dictionary values are all tables; what an unlisted key reads as is the default given to `get`. -/

namespace Sys2Proof.Machine

/-- A sparse table from number keys to values. -/
abbrev Tbl (α : Type) := List (Nat × α)

/-- The value at key `k`, where `d` is what an unlisted key reads as. -/
def Tbl.get {α : Type} (d : α) : Tbl α → Nat → α
  | [], _ => d
  | (i, v) :: r, k => if k = i then v else if k < i then d else Tbl.get d r k

/-- Insert or replace without looking at the default. -/
def Tbl.ins {α : Type} : Tbl α → Nat → α → Tbl α
  | [], k, v => [(k, v)]
  | (i, w) :: r, k, v =>
    if k < i then (k, v) :: (i, w) :: r
    else if k = i then (k, v) :: r
    else (i, w) :: Tbl.ins r k v

/-- Remove a key. -/
def Tbl.del {α : Type} : Tbl α → Nat → Tbl α
  | [], _ => []
  | (i, w) :: r, k => if k < i then (i, w) :: r else if k = i then r else (i, w) :: Tbl.del r k

/-- Write `v` at `k`: writing what an unlisted key reads as removes the entry, so the form stays canonical. -/
def Tbl.put {α : Type} [DecidableEq α] (d : α) (t : Tbl α) (k : Nat) (v : α) : Tbl α :=
  if v = d then Tbl.del t k else Tbl.ins t k v

/-- Replace the value at `k` by its image. -/
def Tbl.upd {α : Type} [DecidableEq α] (d : α) (t : Tbl α) (k : Nat) (f : α → α) : Tbl α :=
  Tbl.put d t k (f (Tbl.get d t k))

/-- Keys strictly rising. -/
def Tbl.rising {α : Type} : Tbl α → Bool
  | [] => true
  | [_] => true
  | (i, _) :: (j, w) :: r => decide (i < j) && Tbl.rising ((j, w) :: r)

/-- The canonical form: keys strictly rising and no entry equal to its default. -/
def Tbl.wf {α : Type} [DecidableEq α] (d : α) (t : Tbl α) : Bool :=
  Tbl.rising t && t.all (fun e => decide (e.2 ≠ d))

/-- Drop every entry whose key the predicate names. -/
def Tbl.drop {α : Type} (p : Nat → Bool) (t : Tbl α) : Tbl α := t.filter (fun e => !p e.1)

/-! Byte memories: an unlisted byte reads as 0. -/

/-- Read one byte. -/
def rdByte (m : Tbl Byte) (a : Nat) : Byte := Tbl.get 0 m a

/-- Write one byte. -/
def wrByte (m : Tbl Byte) (a : Nat) (b : Byte) : Tbl Byte := Tbl.put 0 m a b

/-- The canonical form of a byte memory. -/
def Memory.wf (m : Tbl Byte) : Bool := Tbl.wf (0 : Byte) m

/-- Read `n` bytes from address `a` upward. -/
def rdBytes (m : Tbl Byte) (a : Nat) : Nat → List Byte
  | 0 => []
  | n + 1 => rdByte m a :: rdBytes m (a + 1) n

/-- Write bytes from address `a` upward. -/
def wrBytes (m : Tbl Byte) (a : Nat) : List Byte → Tbl Byte
  | [] => m
  | b :: bs => wrBytes (wrByte m a b) (a + 1) bs

/-- Bytes as one little-endian number (R13). -/
def leNat : List Byte → Nat
  | [] => 0
  | b :: bs => b.toNat + 256 * leNat bs

/-- The low `n` bytes of a number, little-endian (R13). -/
def leBytes : Nat → Nat → List Byte
  | 0, _ => []
  | n + 1, v => BitVec.ofNat 8 v :: leBytes n (v / 256)

/-- Read an `n`-byte little-endian number. -/
def rdLe (m : Tbl Byte) (a n : Nat) : Nat := leNat (rdBytes m a n)

/-- Write an `n`-byte little-endian number. -/
def wrLe (m : Tbl Byte) (a n v : Nat) : Tbl Byte := wrBytes m a (leBytes n v)

/-- Zero `n` bytes from address `a`. -/
def wrZeros (m : Tbl Byte) (a n : Nat) : Tbl Byte := Tbl.drop (fun k => decide (a ≤ k) && decide (k < a + n)) m

/-- Copy the n bytes from address a over those from address b. -/
def copyRange (m : Tbl Byte) (a n b : Nat) : Tbl Byte :=
  (m.filter (fun e => decide (a ≤ e.1) && decide (e.1 < a + n))).foldl (fun t e => wrByte t (e.1 - a + b) e.2) (wrZeros m b n)

/-! Small list helpers shared by the families. -/

/-- Replace the element at index `i`, if there is one, by its image. -/
def modifyAt {α : Type} (l : List α) (i : Nat) (f : α → α) : List α :=
  match l, i with
  | [], _ => []
  | x :: r, 0 => f x :: r
  | x :: r, i + 1 => x :: modifyAt r i f

/-- Remove the element at index `i`. -/
def removeAt {α : Type} (l : List α) (i : Nat) : List α :=
  match l, i with
  | [], _ => []
  | _ :: r, 0 => r
  | x :: r, i + 1 => x :: removeAt r i

/-- Map the first element that satisfies `p`. -/
def modifyFirst {α : Type} (p : α → Bool) (f : α → α) : List α → List α
  | [] => []
  | x :: r => if p x then f x :: r else x :: modifyFirst p f r

/-- Map the last element that satisfies `p`. -/
def modifyLast {α : Type} (p : α → Bool) (f : α → α) (l : List α) : List α := (modifyFirst p f l.reverse).reverse

/-- Remove the first element that satisfies `p`. -/
def removeFirst {α : Type} (p : α → Bool) : List α → List α
  | [] => []
  | x :: r => if p x then r else x :: removeFirst p r

/-- Insert a number once into a list kept without repeats. -/
def addOnce (l : List Nat) (x : Nat) : List Nat := if l.contains x then l else l ++ [x]

/-- Drop repeats. -/
def distinct (l : List Nat) : List Nat := l.foldl addOnce []

/-- Fold `f` over 0, 1, …, `n - 1` in ascending order. -/
def loopTo {σ : Type} (n : Nat) (f : Nat → σ → σ) (s : σ) : σ :=
  (List.range n).foldl (fun a i => f i a) s

/-- Round `a` up to the next multiple of `b` (R66). -/
def roundUp (a b : Nat) : Nat := if b = 0 then a else (a + b - 1) / b * b

/-- Add one with saturation at the largest `w`-bit value. -/
def satInc (w v : Nat) : Nat := if v + 1 < 2 ^ w then v + 1 else 2 ^ w - 1

/-! Checks over bytes that the spec defines by polynomial. -/

/-- One bit of the reflected CRC-32C (polynomial 0x1EDC_6F41, reflected 0x82F6_3B78; R434). -/
def crcStep (c : BitVec 32) : BitVec 32 := if c.getLsbD 0 then (c >>> 1) ^^^ 0x82F63B78#32 else c >>> 1

/-- One byte of CRC-32C. -/
def crcByte (c : BitVec 32) (b : Byte) : BitVec 32 :=
  let x := c ^^^ b.setWidth 32
  crcStep (crcStep (crcStep (crcStep (crcStep (crcStep (crcStep (crcStep x)))))))

/-- CRC-32C: initial value and final XOR 0xFFFF_FFFF (R434). -/
def crc32c (bs : List Byte) : BitVec 32 := (bs.foldl crcByte 0xFFFFFFFF#32) ^^^ 0xFFFFFFFF#32

/-- One bit of CRC-8, polynomial 0x07, most significant bit first (Table 9-5). -/
def crc8Step (c : BitVec 8) : BitVec 8 := if c.getLsbD 7 then (c <<< 1) ^^^ 0x07#8 else c <<< 1

/-- One byte of CRC-8. -/
def crc8Byte (c : BitVec 8) (b : Byte) : BitVec 8 :=
  let x := c ^^^ b
  crc8Step (crc8Step (crc8Step (crc8Step (crc8Step (crc8Step (crc8Step (crc8Step x)))))))

/-- CRC-8 of an identity word over bits [63:8], most significant byte first (Table 9-5). -/
def crc8Ident (w : Word64) : BitVec 8 :=
  ([w.extractLsb' 56 8, w.extractLsb' 48 8, w.extractLsb' 40 8, w.extractLsb' 32 8,
    w.extractLsb' 24 8, w.extractLsb' 16 8, w.extractLsb' 8 8]).foldl crc8Byte 0#8

/-- Serial-number order of sequence numbers (R16, R17): `b` is newer than `a`. -/
def newer32 (b a : Word32) : Bool :=
  let d := (b - a).toNat
  decide (1 ≤ d) && decide (d ≤ 2 ^ 31 - 1)

/-- Serial-number order on 64-bit byte counts (R573 by R16): `b` is newer than `a`. -/
def newer64 (b a : Nat) : Bool :=
  let d := (b + 2 ^ 64 - a % 2 ^ 64) % 2 ^ 64
  decide (1 ≤ d) && decide (d ≤ 2 ^ 63 - 1)

/-! Fields of numbers. -/

/-- A field [msb:lsb] of a number (R13). -/
def bits (v msb lsb : Nat) : Nat := v / 2 ^ lsb % 2 ^ (msb + 1 - lsb)

/-- Set or clear one bit of a number. -/
def setBit (v i : Nat) (b : Bool) : Nat :=
  if b then (if v / 2 ^ i % 2 = 1 then v else v + 2 ^ i) else (if v / 2 ^ i % 2 = 1 then v - 2 ^ i else v)

/-- Replace the field [msb:lsb]. -/
def setField (v msb lsb x : Nat) : Nat := v - bits v msb lsb * 2 ^ lsb + x % 2 ^ (msb + 1 - lsb) * 2 ^ lsb

end Sys2Proof.Machine
end

