-- ==== Sys2Proof/Machine/Numbers.lean ====
section
/-! DEFINITION. Number formats and exact arithmetic (chapter 4): element formats of Table 4-1, MX scales,
rounding to nearest ties to even (R141), FP32 and BF16 arithmetic rounded once (R154), INT8 lanes. -/

namespace Sys2Proof.Machine

/-- A real number with sign, or an infinity, or a NaN: (−1)^s × m × 2^e. Zero is m = 0 and keeps its sign. -/
inductive Fp where
  | nan
  | inf (s : Bool)
  | fin (s : Bool) (m : Nat) (e : Int)
  deriving DecidableEq, Repr

/-- Parameters of a binary element format (Table 4-1); `maxCode` is the code of its largest finite value. -/
structure FloatFmt where
  eb : Nat
  mb : Nat
  bias : Nat
  maxCode : Nat
  hasInf : Bool
  hasNan : Bool
  deriving DecidableEq, Repr

def fmtFP32 : FloatFmt := ⟨8, 23, 127, 0x7F7FFFFF, true, true⟩
def fmtBF16 : FloatFmt := ⟨8, 7, 127, 0x7F7F, true, true⟩
def fmtE4M3 : FloatFmt := ⟨4, 3, 7, 0x7E, false, true⟩
def fmtE5M2 : FloatFmt := ⟨5, 2, 15, 0x7B, true, true⟩
def fmtE2M3 : FloatFmt := ⟨2, 3, 1, 0x1F, false, false⟩
def fmtE3M2 : FloatFmt := ⟨3, 2, 3, 0x1F, false, false⟩
def fmtE2M1 : FloatFmt := ⟨2, 1, 1, 0x7, false, false⟩

/-- Bits of a code of the format. -/
def FloatFmt.bits (f : FloatFmt) : Nat := 1 + f.eb + f.mb

/-- The value of a code (R137, Table 4-1). -/
def decodeFp (f : FloatFmt) (code : Nat) : Fp :=
  let s := decide ((code / 2 ^ (f.eb + f.mb)) % 2 = 1)
  let mag := code % 2 ^ (f.eb + f.mb)
  if f.maxCode < mag then
    if f.hasInf && decide (mag = f.maxCode + 1) then .inf s
    else if f.hasNan then .nan
    else .fin s 0 0
  else
    let e := mag / 2 ^ f.mb
    let m := mag % 2 ^ f.mb
    if e = 0 then .fin s m (1 - (f.bias : Int) - f.mb)
    else .fin s (2 ^ f.mb + m) ((e : Int) - f.bias - f.mb)

/-- floor(log2(n / d)) for n, d > 0. -/
def log2Ratio (n d : Nat) : Int :=
  let k : Int := (Nat.log2 n : Int) - Nat.log2 d
  -- n/d lies in (2^(k-1), 2^(k+1))
  if 0 ≤ k then (if d * 2 ^ k.toNat ≤ n then k else k - 1)
  else (if d ≤ n * 2 ^ (-k).toNat then k else k - 1)

/-- n / d rounded to the nearest integer, ties to even (R141). -/
def divRne (n d : Nat) : Nat :=
  let q := n / d
  let r := n % d
  if 2 * r < d then q
  else if d < 2 * r then q + 1
  else if q % 2 = 0 then q else q + 1

/-- A signed x / d rounded to the nearest integer, ties to even (R141). -/
def divRneInt (x : Int) (d : Nat) : Int := if x < 0 then -(divRne x.natAbs d : Int) else divRne x.natAbs d

/-- Magnitude n/d × 2^e rounded into the format: the code without sign, before any range check (R141). It
exceeds `maxCode` exactly when the rounded magnitude lies beyond the format's largest finite value. -/
def roundCode (f : FloatFmt) (n d : Nat) (e : Int) : Nat :=
  if n = 0 ∨ d = 0 then 0 else
  let emin : Int := 1 - f.bias
  let E := log2Ratio n d + e
  let q := (if E < emin then emin else E) - f.mb
  -- n/d × 2^e / 2^q
  let sh := e - q
  let r := if 0 ≤ sh then divRne (n * 2 ^ sh.toNat) d else divRne n (d * 2 ^ (-sh).toNat)
  if E < emin then r else (E - emin + 1).toNat * 2 ^ f.mb + (r - 2 ^ f.mb)

/-- A rounding: the code written, and whether it overflowed or made a nonzero value ±0. -/
structure Rounded where
  code : Nat
  exceeds : Bool
  zeroed : Bool
  deriving DecidableEq, Repr

/-- The sign bit of a format, as a number. -/
def FloatFmt.sign (f : FloatFmt) (s : Bool) : Nat := if s then 2 ^ (f.eb + f.mb) else 0

/-- Does a magnitude n/d × 2^e exceed the format's largest finite value (R147, R166)? -/
def exceedsMax (f : FloatFmt) (n d : Nat) (e : Int) : Bool :=
  match decodeFp f f.maxCode with
  | .fin _ m x => decide (m * d * 2 ^ (x - e).toNat < n * 2 ^ (e - x).toNat)
  | _ => false

/-- Round a magnitude; an overflow yields ±infinity (formats with one) or the largest finite value. A rounding that saturates exceeds by
the magnitude itself, before it is rounded (R147, R166). -/
def roundMag (f : FloatFmt) (saturate : Bool) (s : Bool) (n d : Nat) (e : Int) : Rounded :=
  let c := roundCode f n d e
  if f.maxCode < c then
    if f.hasInf && !saturate then ⟨f.sign s + f.maxCode + 1, true, false⟩
    else ⟨f.sign s + f.maxCode, true, false⟩
  else ⟨f.sign s + c, saturate && exceedsMax f n d e, decide (c = 0) && decide (n ≠ 0)⟩

/-- The NaN code that the device writes (Table 4-3). -/
def nanCode (f : FloatFmt) : Nat :=
  if f.eb = 8 then (if f.mb = 23 then 0x7FC00000 else 0x7FC0)
  else if f.eb = 5 then 0x7E else 0x7F

/-! ArithFlags (Table 4-7). -/

def flagNanScale : Nat := 0x80
def flagNanProduced : Nat := 0x40
def flagInfProduced : Nat := 0x20
def flagConvSaturated : Nat := 0x10
def flagConvUnderflow : Nat := 0x08
def flagScaleClamped : Nat := 0x04
def flagNanInput : Nat := 0x02
def flagInfInput : Nat := 0x01

/-- OR of two flag sets. -/
def orFlags (a b : Nat) : Nat := a ||| b

/-- A computed value with the flags it raised. -/
abbrev Flagged (α : Type) := α × Nat

/-- Round an exact value into FP32 or BF16 (R151, R154): an overflow of a finite value yields ±infinity and
sets InfProduced. `conv` says that the rounding is a conversion into another format, in which a nonzero value
that becomes ±0 sets ConvUnderflow (R732). -/
def roundFp (f : FloatFmt) (conv : Bool) : Fp → Flagged Nat
  | .nan => (nanCode f, 0)
  | .inf s => (f.sign s + f.maxCode + 1, 0)
  | .fin s m e =>
    let r := roundMag f false s m 1 e
    (r.code, orFlags (if r.exceeds then flagInfProduced else 0) (if conv && r.zeroed then flagConvUnderflow else 0))

/-- Flags of reading an operand: NanInput, InfInput (Table 4-7). -/
def inputFlags : Fp → Nat
  | .nan => flagNanInput
  | .inf _ => flagInfInput
  | .fin .. => 0

/-- Align two finite numbers to one exponent: the signed integers and the exponent. -/
def alignFin (s₁ : Bool) (m₁ : Nat) (e₁ : Int) (s₂ : Bool) (m₂ : Nat) (e₂ : Int) : Int × Int × Int :=
  let e := if e₁ ≤ e₂ then e₁ else e₂
  let a : Int := (m₁ * 2 ^ (e₁ - e).toNat : Nat)
  let b : Int := (m₂ * 2 ^ (e₂ - e).toNat : Nat)
  ((if s₁ then -a else a), (if s₂ then -b else b), e)

/-- Exact sum (R152): ∞ − ∞ is invalid. A zero sum of opposite signs is +0; −0 + −0 is −0. DESIGN CHOICE (log
entry 69): a signaling NaN is a NaN like any other, and no invalid operation that sets NanProduced. -/
def Fp.add : Fp → Fp → Flagged Fp
  | .nan, _ => (.nan, 0)
  | _, .nan => (.nan, 0)
  | .inf s, .inf t => if s = t then (.inf s, 0) else (.nan, flagNanProduced)
  | .inf s, .fin .. => (.inf s, 0)
  | .fin .., .inf t => (.inf t, 0)
  | .fin s m e, .fin t n d =>
    let (a, b, x) := alignFin s m e t n d
    let c := a + b
    if c = 0 then (.fin (s && t && decide (m = 0) && decide (n = 0)) 0 x, 0)
    else (.fin (decide (c < 0)) c.natAbs x, 0)

/-- The negative. -/
def Fp.neg : Fp → Fp
  | .nan => .nan
  | .inf s => .inf (!s)
  | .fin s m e => .fin (!s) m e

/-- Exact product (R152): 0 × ∞ is invalid. DESIGN CHOICE (log entry 69): a signaling NaN counts as any NaN. -/
def Fp.mul : Fp → Fp → Flagged Fp
  | .nan, _ => (.nan, 0)
  | _, .nan => (.nan, 0)
  | .inf s, .inf t => (.inf (s != t), 0)
  | .inf s, .fin t n _ => if n = 0 then (.nan, flagNanProduced) else (.inf (s != t), 0)
  | .fin s m _, .inf t => if m = 0 then (.nan, flagNanProduced) else (.inf (s != t), 0)
  | .fin s m e, .fin t n d => (.fin (s != t) (m * n) (e + d), 0)

/-- Magnitude. -/
def Fp.abs : Fp → Fp
  | .nan => .nan
  | .inf _ => .inf false
  | .fin _ m e => .fin false m e

/-- Multiply by 2^k exactly. -/
def Fp.scale (k : Int) : Fp → Fp
  | .fin s m e => .fin s m (e + k)
  | x => x

/-- Is the value zero? -/
def Fp.isZero : Fp → Bool
  | .fin _ m _ => decide (m = 0)
  | _ => false

/-- Is the value finite? -/
def Fp.isFin : Fp → Bool
  | .fin .. => true
  | _ => false

def Fp.isNan : Fp → Bool
  | .nan => true
  | _ => false

/-- Strict order of numbers, +0 above −0 (R736); false when either is a NaN. -/
def Fp.lt : Fp → Fp → Bool
  | .nan, _ => false
  | _, .nan => false
  | .inf s, .inf t => s && !t
  | .inf s, .fin .. => s
  | .fin .., .inf t => !t
  | .fin s m e, .fin t n d =>
    let (a, b, _) := alignFin s m e t n d
    decide (a < b) || (decide (a = b) && s && !t)

/-- Numeric order without the sign of zero. -/
def Fp.ltNum (x y : Fp) : Bool := Fp.lt x y && !(x.isZero && y.isZero)

/-- Numeric equality: equal values, +0 equal to −0, NaN equal to nothing. -/
def Fp.eqNum (x y : Fp) : Bool := !x.isNan && !y.isNan && !Fp.ltNum x y && !Fp.ltNum y x

/-- The integer n as an exact value. -/
def Fp.ofInt (n : Int) : Fp := .fin (decide (n < 0)) n.natAbs 0

/-- FP32 and BF16 codes as values. -/
def f32 (c : Nat) : Fp := decodeFp fmtFP32 c
def bf16 (c : Nat) : Fp := decodeFp fmtBF16 c

/-- Round an exact value to FP32. -/
def toF32 (x : Fp) : Flagged Nat := roundFp fmtFP32 false x

/-- FP32 addition with one rounding. -/
def f32Add (a b : Nat) : Flagged Nat :=
  let (x, g) := Fp.add (f32 a) (f32 b)
  let (c, h) := toF32 x
  (c, orFlags g (if (f32 a).isFin && (f32 b).isFin then h else 0))

/-- FP32 multiplication with one rounding. -/
def f32Mul (a b : Nat) : Flagged Nat :=
  let (x, g) := Fp.mul (f32 a) (f32 b)
  let (c, h) := toF32 x
  (c, orFlags g (if (f32 a).isFin && (f32 b).isFin then h else 0))

/-- FP32 subtraction with one rounding. -/
def f32Sub (a b : Nat) : Flagged Nat :=
  let (x, g) := Fp.add (f32 a) (Fp.neg (f32 b))
  let (c, h) := toF32 x
  (c, orFlags g (if (f32 a).isFin && (f32 b).isFin then h else 0))

/-- An exact integer as an FP32 code. -/
def f32OfNat (n : Nat) : Nat := (toF32 (Fp.ofInt n)).1

/-- The unsigned integer that an FP32 code stands for exactly, if any. -/
def f32ToNat? (c : Nat) : Option Nat :=
  match f32 c with
  | .fin s m e =>
    if m = 0 then some 0
    else if s then none
    else if 0 ≤ e then some (m * 2 ^ e.toNat)
    else if m % 2 ^ (-e).toNat = 0 then some (m / 2 ^ (-e).toNat) else none
  | _ => none

/-! Element formats of descriptors (Table 5-6). -/

/-- The descriptor formats of Table 5-6. -/
inductive Fmt where
  | fp32 | bf16 | int8 | e4m3 | e5m2 | e2m3 | e3m2 | e2m1 | kv4 | kv8 | uint32 | byte
  deriving DecidableEq, Repr

/-- The Format field (R187): 0x0C to 0x1F are reserved. -/
def Fmt.ofCode : Nat → Option Fmt
  | 0x00 => some .fp32 | 0x01 => some .bf16 | 0x02 => some .int8 | 0x03 => some .e4m3
  | 0x04 => some .e5m2 | 0x05 => some .e2m3 | 0x06 => some .e3m2 | 0x07 => some .e2m1
  | 0x08 => some .kv4 | 0x09 => some .kv8 | 0x0A => some .uint32 | 0x0B => some .byte
  | _ => none

/-- The MX element formats (R145). -/
def Fmt.isMx : Fmt → Bool
  | .e4m3 | .e5m2 | .e2m3 | .e3m2 | .e2m1 => true
  | _ => false

def Fmt.isKv : Fmt → Bool
  | .kv4 | .kv8 => true
  | _ => false

/-- Bits of one packed element; KV formats are laid out by unit instead (R164). -/
def Fmt.bits : Fmt → Nat
  | .fp32 | .uint32 => 32
  | .bf16 => 16
  | .int8 | .e4m3 | .e5m2 | .byte => 8
  | .e2m3 | .e3m2 => 6
  | .e2m1 => 4
  | .kv4 | .kv8 => 8

/-- Bytes of a packed row of n elements (R138, Table 5-6; KV rows hold whole units of 64, R164). -/
def Fmt.rowBytes (f : Fmt) (n : Nat) : Nat :=
  match f with
  | .kv4 => (n + 63) / 64 * 36
  | .kv8 => (n + 63) / 64 * 68
  | _ => (n * f.bits + 7) / 8

/-- The float parameters of a format that has them. -/
def Fmt.float? : Fmt → Option FloatFmt
  | .fp32 => some fmtFP32
  | .bf16 => some fmtBF16
  | .e4m3 => some fmtE4M3
  | .e5m2 => some fmtE5M2
  | .e2m3 => some fmtE2M3
  | .e3m2 => some fmtE3M2
  | .e2m1 => some fmtE2M1
  | _ => none

/-- The value of an 8-bit two's complement integer (R153). -/
def int8Val (c : Nat) : Int := (BitVec.ofNat 8 c).toInt

/-- Saturate an exact integer into an 8-bit lane (R154). -/
def sat8 (x : Int) : Flagged Nat :=
  if x < -128 then (0x80, flagConvSaturated)
  else if 127 < x then (0x7F, flagConvSaturated)
  else ((BitVec.ofInt 8 x).toNat, 0)

/-- Value of an element code in its format, before any block scale. -/
def Fmt.decode (f : Fmt) (c : Nat) : Fp :=
  match f.float? with
  | some p => decodeFp p c
  | none => if f = .int8 then Fp.ofInt (int8Val c) else Fp.ofInt c

/-- Apply an E8M0 scale (R142, R143): 0xFF makes the element NaN and sets NanScaleSeen. -/
def applyScale (x : Fp) (scale : Nat) : Flagged Fp :=
  if scale = 0xFF then (.nan, flagNanScale) else (x.scale ((scale : Int) - 127), 0)

/-- A value rounded to an INT8 lane (R153): NaN becomes 0 with NanInput, beyond the range saturates. -/
def fpToInt8 : Fp → Flagged Nat
  | .nan => (0, flagNanInput)
  | .inf s => ((if s then 0x80 else 0x7F), flagConvSaturated)
  | .fin s m e =>
    let r := if 0 ≤ e then m * 2 ^ e.toNat else divRne m (2 ^ (-e).toNat)
    let x : Int := if s then -(r : Int) else r
    let (c, g) := sat8 x
    (c, orFlags g (if decide (r = 0) && decide (m ≠ 0) then flagConvUnderflow else 0))

/-! Conversion into MX blocks (R146 to R149). -/

/-- emax of an MX element format (R146). -/
def emaxOf : Fmt → Int
  | .e4m3 => 8
  | .e5m2 => 15
  | .e2m3 => 2
  | .e3m2 => 4
  | _ => 2

/-- floor(log2 x) of a nonzero finite value. -/
def Fp.log2 : Fp → Int
  | .fin _ m e => (Nat.log2 m : Int) + e
  | _ => 0

/-- The largest magnitude among finite values. -/
def amax (xs : List Fp) : Fp :=
  xs.foldl (fun a x => if Fp.lt a x.abs then x.abs else a) (.fin false 0 0)

/-- One MX block: the scale byte, the element codes, the flags (R146 to R149). -/
def toMxBlock (f : Fmt) (p : FloatFmt) (xs : List Fp) : Nat × List Nat × Nat :=
  if xs.any Fp.isNan then (0xFF, xs.map (fun _ => 0), flagNanInput ||| (if xs.any (fun x => x == .inf true || x == .inf false) then flagInfInput else 0))
  else if xs.any (fun x => !x.isFin) then (0xFF, xs.map (fun _ => 0), flagInfInput)
  else
    let a := amax xs
    if a.isZero then
      (0x00, xs.map (fun x => match x with | .fin s _ _ => p.sign s | _ => 0), 0)
    else
      let X := a.log2 - emaxOf f + 127
      let clamp := decide (X < 0)
      let Y : Int := if X < 0 then 0 else X
      let rs := xs.map (fun x => match x with
        | .fin s m e => roundMag p true s m 1 (e - (Y - 127))
        | _ => ⟨0, false, false⟩)
      let g := rs.foldl (fun g r => orFlags g (orFlags (if r.exceeds then flagConvSaturated else 0)
        (if r.zeroed then flagConvUnderflow else 0))) (if clamp then flagScaleClamped else 0)
      (Y.toNat, rs.map (·.code), g)

/-! KV units (R163 to R168). -/

/-- Divide by an FP32 constant in FP32: the FP32 code of a / n (R165). -/
def f32DivNat (a : Fp) (n : Nat) : Nat :=
  match a with
  | .fin s m e => (roundMag fmtFP32 false s m n e).code
  | _ => 0

/-- The smallest E4M3 code not below a finite non-negative value; above 448 it is 0x7E (R165). -/
def e4m3Ceil (x : Fp) : Nat :=
  (List.range 0x7F).foldr (fun c acc => if Fp.ltNum (decodeFp fmtE4M3 c) x then acc else c) 0x7E

/-- Encode one KV block of 16 values: scale byte, element codes, flags (R165 to R167). A quotient below
2^-9 or above 448 is clamped and sets ScaleClamped. -/
def toKvBlock (kv4 : Bool) (xs : List Fp) : Nat × List Nat × Nat :=
  let p := if kv4 then fmtE2M1 else fmtE4M3
  let hasNan := xs.any Fp.isNan
  let hasInf := xs.any (fun x => !x.isFin && !x.isNan)
  if hasNan || hasInf then
    (0x7F, xs.map (fun _ => 0), orFlags (if hasNan then flagNanInput else 0) (if hasInf then flagInfInput else 0))
  else
    let a := amax xs
    if a.isZero then
      (0x00, xs.map (fun x => match x with | .fin s _ _ => p.sign s | _ => 0), 0)
    else
      let q := f32 (f32DivNat a (if kv4 then 6 else 448))
      let low := Fp.ltNum q (.fin false 1 (-9))
      let high := Fp.ltNum (.fin false 448 0) q
      let sc := if low then 1 else if high then 0x7E else e4m3Ceil q
      match decodeFp fmtE4M3 sc with
      | .fin _ sm se =>
        let rs := xs.map (fun x => match x with
          | .fin s m e => roundMag p true s m sm (e - se)
          | _ => ⟨0, false, false⟩)
        let g := rs.foldl (fun g r => orFlags g (orFlags (if r.exceeds then flagConvSaturated else 0)
          (if r.zeroed then flagConvUnderflow else 0))) (if low || high then flagScaleClamped else 0)
        (sc, rs.map (·.code), g)
      | _ => (sc, xs.map (fun _ => 0), 0)

/-- Decode one KV element (R168): scale 0x00 gives +0, a scale decoding as NaN gives NaN; bit 7 of the scale
byte is ignored except in 0xFF. DESIGN CHOICE (log entry 69): a NaN scale sets NanScaleSeen alone. -/
def fromKv (kv4 : Bool) (scale code : Nat) : Flagged Fp :=
  let sc := if scale = 0xFF then 0x7F else scale % 0x80
  if sc = 0 then (.fin false 0 0, 0)
  else if sc = 0x7F then (.nan, flagNanScale)
  else
    let v := decodeFp (if kv4 then fmtE2M1 else fmtE4M3) code
    let (x, _) := Fp.mul v (decodeFp fmtE4M3 sc)
    (x, inputFlags v)

end Sys2Proof.Machine
end

