-- ==== Sys2Proof/Config.lean ====
section
/-! DEFINITION. What the spec leaves to an implementation or leaves open: free values (opaque constants, which no
proof can see into) and cryptographic functions that the spec takes from other standards. -/

namespace Sys2Proof

/-- The FP32 code that the special function unit offers for an operation, as a function of the operation, its
operand codes and the position of the result (R172, R237; log entry 3). The unit writes it only where it lies
within the bound of Table 6-3. -/
opaque Config.sfuFree : Nat → List Nat → Nat → Nat

/-- A fresh free number for the n-th time that the spec leaves a value open (log entry 4). -/
opaque Config.freeNat : Nat → Nat

/-- SHA-512 of FIPS 180-4, as 64 bytes (log entry 5). -/
opaque Config.sha512 : List Byte → List Byte

/-- The first 16 bytes of HMAC-SHA-512 under a key (R591; log entry 5). -/
opaque Config.hmac16 : List Byte → List Byte → List Byte

/-- RSAES-OAEP decryption with the device identity key (Table 14-8); none where the padding fails (log entry 5). -/
opaque Config.oaepDecrypt : List Byte → Option (List Byte)

/-- RSASSA-PSS verification: modulus, message, signature (Table 14-8, R661; log entry 5). -/
opaque Config.pssVerify : Nat → List Byte → List Byte → Bool

/-- RSASSA-PSS signature with the device identity key (R669; log entry 5). -/
opaque Config.pssSign : List Byte → List Byte

/-- The known-answer digest of a die revision, which the hub firmware image holds (R521; log entry 6). -/
opaque Config.katDigest : Nat → Nat

/-- Which sensor of its field lies nearest to a ring, by ring key (R395; log entry 33). -/
opaque Config.nearestSensor : Nat → Nat

/-- The hub's boot ROM, fixed at manufacture (Table 16-7; log entry 5). -/
opaque Config.bootRom : List Byte


end Sys2Proof
end

