-- ==== Sys2Proof/Machine/Objects.lean ====
section
/-! DEFINITION. The object dictionary's objects (Table 14-1, Table 14-2 and the object tables of every chapter):
index, subindices, type, access, default and the range that a chapter gives. Values are held as numbers, little-endian
(R13); OCTET and string values as the number their bytes spell. -/

namespace Sys2Proof.Machine

/-- Object types (Table 14-1). -/
inductive ObjType where
  | u8 | u16 | u32 | u64 | i16 | f32 | str | o16 | o512
  deriving DecidableEq, Repr

/-- Size in a frame; 0 for a string, whose size varies (Table 14-1). -/
def ObjType.size : ObjType → Nat
  | .u8 => 1 | .u16 => 2 | .u32 => 4 | .u64 => 8 | .i16 => 2 | .f32 => 4 | .str => 0 | .o16 => 16 | .o512 => 512

/-- The largest value of a type. -/
def maxOf (t : ObjType) : Nat := 256 ^ (if t = .str then 64 else t.size) - 1

/-- Access codes (Table 0-6): `w1c` is RO/W1C. -/
inductive ObjAccess where
  | ro | rw | wo | w1c
  deriving DecidableEq, Repr

/-- One row of an object table: subindices `subLo` to `subHi` of the indices `idx` to `idxHi`. -/
structure ObjRow where
  idx : Nat
  idxHi : Nat
  subLo : Nat
  subHi : Nat
  type : ObjType
  access : ObjAccess
  dflt : Nat
  lo : Nat
  hi : Nat
  deriving DecidableEq, Repr

/-- The objects of 0x0000 to 0x0FFF. -/
def objects0 : List ObjRow := [
  ⟨0x0101, 0x0101, 1, 1, .str, .ro, 126948201163859, 0, maxOf .str⟩,
  ⟨0x0101, 0x0101, 2, 2, .str, .ro, 1038503170617507734860, 0, maxOf .str⟩,
  ⟨0x0101, 0x0101, 3, 3, .str, .ro, 21735473035496531, 0, maxOf .str⟩,
  ⟨0x0101, 0x0101, 4, 4, .u64, .ro, 0, 0, maxOf .u64⟩,
  ⟨0x0101, 0x0101, 5, 5, .u16, .ro, 0, 0, maxOf .u16⟩,
  ⟨0x0110, 0x0110, 1, 12, .u32, .ro, 0, 0, maxOf .u32⟩,
  ⟨0x0120, 0x0120, 1, 12, .u32, .ro, 0, 0, maxOf .u32⟩,
  ⟨0x0140, 0x0140, 0, 0, .u16, .ro, 1, 0, maxOf .u16⟩]

/-- The objects of 0x1000 to 0x1FFF. -/
def objects1 : List ObjRow := [
  ⟨0x1001, 0x1001, 1, 2, .u8, .rw, 255, 0, maxOf .u8⟩,
  ⟨0x1002, 0x1002, 1, 2, .u8, .rw, 8, 2, 254⟩,
  ⟨0x1004, 0x1004, 1, 2, .u64, .ro, 0, 0, maxOf .u64⟩,
  ⟨0x1005, 0x1005, 1, 2, .o16, .rw, 0, 0, maxOf .o16⟩,
  ⟨0x1006, 0x1006, 1, 2, .u8, .rw, 64, 1, 128⟩,
  ⟨0x1007, 0x1007, 0, 0, .u16, .rw, 47400, 1024, 65535⟩,
  ⟨0x1008, 0x1008, 1, 2, .u8, .ro, 0, 0, maxOf .u8⟩,
  ⟨0x1010, 0x1010, 0, 0, .u8, .ro, 0, 0, maxOf .u8⟩,
  ⟨0x1011, 0x1011, 0, 0, .u16, .rw, 60, 10, 3600⟩,
  ⟨0x1020, 0x1020, 1, 8, .u64, .ro, 0, 0, maxOf .u64⟩,
  ⟨0x1031, 0x1031, 0, 0, .u8, .wo, 0, 1, 1⟩,
  ⟨0x1210, 0x1210, 1, 2, .u8, .rw, 2, 0, 2⟩]

/-- The objects of 0x2000 to 0x2FFF. -/
def objects2 : List ObjRow := [
  ⟨0x2001, 0x2001, 0, 0, .u64, .ro, 0, 0, maxOf .u64⟩,
  ⟨0x2002, 0x2002, 0, 0, .u16, .rw, 480, 0, maxOf .u16⟩,
  ⟨0x2003, 0x2003, 0, 0, .u64, .ro, 0, 0, maxOf .u64⟩,
  ⟨0x2004, 0x2004, 0, 0, .u64, .ro, 0, 0, maxOf .u64⟩,
  ⟨0x2010, 0x2010, 0, 0, .u8, .rw, 0, 0, maxOf .u8⟩,
  ⟨0x2011, 0x2011, 0, 0, .u32, .w1c, 0, 0, maxOf .u32⟩,
  ⟨0x2012, 0x2012, 0, 0, .u32, .rw, 600, 0, maxOf .u32⟩,
  ⟨0x2013, 0x2013, 0, 0, .u64, .rw, 0, 0, maxOf .u64⟩,
  ⟨0x2021, 0x2021, 0, 0, .u32, .ro, 0, 0, maxOf .u32⟩,
  ⟨0x2022, 0x2022, 0, 0, .u8, .rw, 8, 0, maxOf .u8⟩,
  ⟨0x2030, 0x2030, 0, 0, .u8, .rw, 8, 0, 48⟩,
  ⟨0x2031, 0x2031, 1, 5, .u64, .ro, 0, 0, maxOf .u64⟩,
  ⟨0x2032, 0x2032, 0, 0, .u16, .rw, 24, 0, maxOf .u16⟩]

/-- The objects of 0x3000 to 0x3FFF. -/
def objects3 : List ObjRow := [
  ⟨0x3001, 0x3001, 0, 0, .u16, .ro, 16384, 0, maxOf .u16⟩,
  ⟨0x3002, 0x3002, 1, 2, .u8, .ro, 0, 0, maxOf .u8⟩,
  ⟨0x3003, 0x3003, 0, 0, .u16, .ro, 0, 0, maxOf .u16⟩,
  ⟨0x3010, 0x3010, 0, 0, .u8, .rw, 240, 0, maxOf .u8⟩,
  ⟨0x3011, 0x3011, 0, 0, .u32, .rw, 30, 1, 86400⟩,
  ⟨0x3020, 0x3020, 1, 8, .u64, .ro, 0, 0, maxOf .u64⟩,
  ⟨0x3021, 0x3021, 1, 8, .u64, .ro, 0, 0, maxOf .u64⟩,
  ⟨0x3030, 0x3030, 1, 1, .u16, .rw, 0, 0, 16383⟩,
  ⟨0x3030, 0x3030, 2, 3, .u64, .ro, 0, 0, maxOf .u64⟩,
  ⟨0x3030, 0x3030, 4, 4, .u32, .ro, 0, 0, maxOf .u32⟩]

/-- The objects of 0x4000 to 0x4FFF. -/
def objects4 : List ObjRow := [
  ⟨0x4001, 0x4001, 1, 8, .u8, .rw, 0, 0, 2⟩,
  ⟨0x4002, 0x4002, 1, 8, .u8, .ro, 0, 0, maxOf .u8⟩,
  ⟨0x4100, 0x4107, 1, 52, .u32, .ro, 0, 0, maxOf .u32⟩,
  ⟨0x4200, 0x4200, 1, 5, .u64, .ro, 0, 0, maxOf .u64⟩,
  ⟨0x4300, 0x4300, 1, 1, .u8, .rw, 0, 0, maxOf .u8⟩,
  ⟨0x4300, 0x4300, 2, 2, .u64, .rw, 0, 0, maxOf .u64⟩,
  ⟨0x4300, 0x4300, 3, 3, .u32, .rw, 0, 0, maxOf .u32⟩,
  ⟨0x4300, 0x4300, 4, 4, .u8, .wo, 0, 1, 2⟩,
  ⟨0x4300, 0x4300, 5, 5, .u8, .ro, 0, 0, maxOf .u8⟩,
  ⟨0x4300, 0x4300, 6, 6, .u16, .rw, 0, 0, maxOf .u16⟩,
  ⟨0x4301, 0x4301, 1, 8, .u16, .ro, 0, 0, maxOf .u16⟩,
  ⟨0x4302, 0x4302, 1, 8, .u32, .ro, 268435456, 0, maxOf .u32⟩,
  ⟨0x4310, 0x4310, 0, 0, .u32, .rw, 48000, 480, 4800000⟩,
  ⟨0x4311, 0x4311, 1, 5, .u64, .ro, 0, 0, maxOf .u64⟩]

/-- The objects of 0x5000 to 0x5FFF. -/
def objects5 : List ObjRow := [
  ⟨0x5001, 0x5001, 1, 16, .u32, .ro, 0, 0, maxOf .u32⟩,
  ⟨0x5002, 0x5002, 1, 16, .u64, .ro, 0, 0, maxOf .u64⟩,
  ⟨0x5003, 0x5003, 0, 0, .u32, .ro, 0, 0, maxOf .u32⟩,
  ⟨0x5010, 0x5010, 0, 0, .u8, .rw, 0, 0, 7⟩,
  ⟨0x5020, 0x5020, 1, 5, .u64, .ro, 0, 0, maxOf .u64⟩,
  ⟨0x5030, 0x5030, 0, 0, .u32, .rw, 20, 0, maxOf .u32⟩,
  ⟨0x5031, 0x5031, 0, 0, .u16, .rw, 8, 1, 168⟩,
  ⟨0x5040, 0x5040, 1, 4, .u64, .ro, 0, 0, maxOf .u64⟩,
  ⟨0x5041, 0x5041, 0, 0, .u32, .rw, 100000, 1, 400000⟩,
  ⟨0x5060, 0x5060, 1, 3, .u32, .ro, 0, 0, maxOf .u32⟩,
  ⟨0x5101, 0x5101, 1, 16, .u32, .ro, 0, 0, maxOf .u32⟩,
  ⟨0x5102, 0x5102, 1, 16, .u64, .ro, 0, 0, maxOf .u64⟩,
  ⟨0x5103, 0x5103, 1, 16, .u32, .ro, 0, 0, maxOf .u32⟩,
  ⟨0x5110, 0x5110, 1, 1, .u8, .rw, 0, 0, maxOf .u8⟩,
  ⟨0x5110, 0x5110, 2, 2, .u8, .wo, 0, 0, maxOf .u8⟩,
  ⟨0x5110, 0x5110, 3, 3, .u8, .ro, 0, 0, maxOf .u8⟩,
  ⟨0x5111, 0x5111, 0, 0, .u32, .rw, 40000, 1, 200000⟩,
  ⟨0x5130, 0x5130, 1, 4, .u64, .ro, 0, 0, maxOf .u64⟩]

/-- The objects of 0x6000 to 0x6FFF. -/
def objects6 : List ObjRow := [
  ⟨0x6001, 0x6001, 1, 2, .u8, .ro, 0, 0, maxOf .u8⟩,
  ⟨0x6002, 0x6002, 1, 16, .i16, .ro, 0, 0, maxOf .i16⟩,
  ⟨0x6003, 0x6003, 0, 0, .u8, .wo, 0, 0, maxOf .u8⟩,
  ⟨0x6004, 0x6004, 0, 0, .u8, .ro, 0, 0, maxOf .u8⟩,
  ⟨0x6005, 0x6005, 1, 32, .i16, .ro, 0, 0, maxOf .i16⟩,
  ⟨0x6020, 0x6020, 1, 1, .u8, .rw, 0, 0, maxOf .u8⟩,
  ⟨0x6020, 0x6020, 2, 2, .u8, .wo, 0, 0, maxOf .u8⟩,
  ⟨0x6020, 0x6020, 3, 3, .u8, .ro, 0, 0, maxOf .u8⟩,
  ⟨0x6030, 0x6030, 1, 8, .u64, .ro, 0, 0, maxOf .u64⟩,
  ⟨0x6100, 0x610B, 1, 96, .u32, .ro, 0, 0, maxOf .u32⟩,
  ⟨0x6200, 0x6200, 0, 0, .u16, .rw, 80, 20, 300⟩,
  ⟨0x6201, 0x6201, 0, 0, .u8, .rw, 0, 0, 1⟩,
  ⟨0x6202, 0x6202, 0, 0, .u16, .rw, 24, 1, 168⟩,
  ⟨0x6203, 0x6203, 1, 1, .u8, .rw, 0, 0, maxOf .u8⟩,
  ⟨0x6203, 0x6203, 2, 2, .u8, .wo, 0, 0, maxOf .u8⟩,
  ⟨0x6203, 0x6203, 3, 3, .u8, .ro, 0, 0, maxOf .u8⟩,
  ⟨0x6210, 0x6210, 1, 1, .u8, .rw, 0, 0, maxOf .u8⟩,
  ⟨0x6210, 0x6210, 2, 2, .u16, .rw, 0, 0, maxOf .u16⟩,
  ⟨0x6210, 0x6210, 3, 3, .u64, .ro, 0, 0, maxOf .u64⟩,
  ⟨0x6220, 0x6220, 1, 12, .u16, .ro, 0, 0, maxOf .u16⟩,
  ⟨0x6221, 0x6221, 1, 12, .u8, .ro, 0, 0, maxOf .u8⟩,
  ⟨0x6240, 0x6240, 1, 8, .u64, .ro, 0, 0, maxOf .u64⟩,
  ⟨0x6300, 0x6301, 1, 32, .u64, .rw, 0, 0, maxOf .u64⟩,
  ⟨0x6302, 0x6302, 1, 2, .u16, .rw, 200, 1, 400⟩,
  ⟨0x6303, 0x6303, 1, 4, .u64, .ro, 0, 0, maxOf .u64⟩]

/-- The objects of 0x7000 to 0x7FFF. -/
def objects7 : List ObjRow := [
  ⟨0x7001, 0x7001, 0, 0, .u16, .rw, 0, 0, 4095⟩,
  ⟨0x7002, 0x7002, 0, 0, .u16, .ro, 0, 0, maxOf .u16⟩,
  ⟨0x7010, 0x7010, 1, 4, .u16, .ro, 0, 0, maxOf .u16⟩,
  ⟨0x7011, 0x7011, 1, 4, .u64, .ro, 0, 0, maxOf .u64⟩,
  ⟨0x7020, 0x7020, 1, 1, .u16, .rw, 4, 1, 100⟩,
  ⟨0x7020, 0x7020, 2, 2, .u16, .rw, 200, 50, 10000⟩,
  ⟨0x7020, 0x7020, 3, 3, .u8, .rw, 8, 1, 64⟩,
  ⟨0x7030, 0x7030, 1, 8, .u64, .ro, 0, 0, maxOf .u64⟩,
  ⟨0x7100, 0x7100, 1, 1, .u64, .rw, 0, 0, maxOf .u64⟩,
  ⟨0x7100, 0x7100, 2, 2, .u8, .wo, 0, 0, maxOf .u8⟩,
  ⟨0x7100, 0x7100, 3, 4, .u8, .ro, 0, 0, maxOf .u8⟩,
  ⟨0x7100, 0x7100, 5, 7, .u32, .ro, 0, 0, maxOf .u32⟩,
  ⟨0x7200, 0x7200, 1, 3, .u8, .rw, 3, 0, maxOf .u8⟩,
  ⟨0x7200, 0x7200, 4, 63, .u8, .rw, 0, 0, 2⟩,
  ⟨0x7401, 0x7401, 0, 0, .u8, .wo, 0, 1, 1⟩]

/-- The objects of 0x8000 to 0x8FFF. -/
def objects8 : List ObjRow := [
  ⟨0x8001, 0x8001, 0, 0, .u8, .rw, 0, 0, 1⟩,
  ⟨0x8002, 0x8002, 0, 0, .u8, .rw, 0, 0, maxOf .u8⟩,
  ⟨0x8005, 0x8005, 0, 0, .u8, .wo, 0, 0, maxOf .u8⟩,
  ⟨0x8006, 0x8006, 0, 0, .u8, .ro, 0, 0, maxOf .u8⟩,
  ⟨0x8010, 0x8010, 0, 0, .u32, .ro, 0, 0, maxOf .u32⟩,
  ⟨0x8011, 0x8011, 0, 0, .u32, .ro, 0, 0, maxOf .u32⟩,
  ⟨0x8012, 0x8012, 0, 0, .u16, .rw, 0, 0, maxOf .u16⟩,
  ⟨0x8013, 0x8013, 0, 0, .u64, .rw, 0, 0, maxOf .u64⟩,
  ⟨0x8020, 0x8020, 0, 0, .u16, .rw, 64, 8, 1024⟩,
  ⟨0x8021, 0x8021, 0, 0, .u16, .rw, 3, 1, maxOf .u16⟩,
  ⟨0x8022, 0x8022, 0, 0, .f32, .rw, 981668463, 0, maxOf .f32⟩,
  ⟨0x8023, 0x8023, 0, 0, .f32, .rw, 981668463, 0, maxOf .f32⟩,
  ⟨0x8024, 0x8024, 0, 0, .u16, .rw, 96, 8, 240⟩,
  ⟨0x8025, 0x8025, 0, 0, .u8, .rw, 2, 1, 16⟩,
  ⟨0x8026, 0x8026, 0, 0, .u32, .rw, 600, 60, 86400⟩,
  ⟨0x8027, 0x8027, 0, 0, .u16, .rw, 1, 1, 16⟩,
  ⟨0x8040, 0x8040, 1, 16, .u32, .rw, 0, 0, maxOf .u32⟩,
  ⟨0x8050, 0x8050, 0, 0, .u32, .w1c, 0, 0, maxOf .u32⟩,
  ⟨0x8051, 0x8051, 1, 3, .u16, .ro, 0, 0, maxOf .u16⟩,
  ⟨0x8052, 0x8052, 1, 8, .u16, .ro, 0, 0, maxOf .u16⟩,
  ⟨0x8053, 0x8053, 1, 8, .u64, .ro, 0, 0, maxOf .u64⟩,
  ⟨0x8060, 0x8060, 1, 8, .u64, .ro, 0, 0, maxOf .u64⟩]

/-- The objects of 0x9000 to 0x9FFF. -/
def objects9 : List ObjRow := [
  ⟨0x9001, 0x9001, 0, 0, .u32, .w1c, 0, 0, maxOf .u32⟩,
  ⟨0x9010, 0x9010, 1, 108, .u64, .ro, 0, 0, maxOf .u64⟩,
  ⟨0x9100, 0x9100, 0, 0, .u32, .ro, 250, 0, maxOf .u32⟩,
  ⟨0x9110, 0x9110, 0, 0, .u16, .rw, 20, 0, maxOf .u16⟩,
  ⟨0x9111, 0x9111, 1, 1, .u16, .rw, 30, 0, maxOf .u16⟩,
  ⟨0x9111, 0x9111, 2, 2, .u16, .rw, 2, 0, maxOf .u16⟩,
  ⟨0x9112, 0x9112, 1, 1, .u16, .rw, 120, 0, maxOf .u16⟩,
  ⟨0x9112, 0x9112, 2, 2, .u16, .rw, 4, 0, maxOf .u16⟩,
  ⟨0x9120, 0x9120, 1, 1, .u8, .rw, 100, 85, 100⟩,
  ⟨0x9120, 0x9120, 2, 3, .u8, .ro, 112, 0, maxOf .u8⟩,
  ⟨0x9120, 0x9120, 4, 4, .u8, .ro, 95, 0, maxOf .u8⟩,
  ⟨0x9120, 0x9120, 5, 5, .u8, .ro, 80, 0, maxOf .u8⟩,
  ⟨0x9130, 0x9130, 1, 12, .u32, .ro, 0, 0, maxOf .u32⟩,
  ⟨0x9131, 0x9131, 1, 4, .u16, .ro, 0, 0, maxOf .u16⟩,
  ⟨0x9132, 0x9132, 1, 12, .u8, .ro, 0, 0, maxOf .u8⟩,
  ⟨0x9133, 0x9133, 1, 4, .u16, .ro, 0, 0, maxOf .u16⟩,
  ⟨0x9140, 0x9140, 1, 6, .u64, .ro, 0, 0, maxOf .u64⟩,
  ⟨0x9150, 0x9150, 0, 0, .u8, .wo, 0, 0, maxOf .u8⟩,
  ⟨0x9200, 0x9200, 0, 0, .u8, .ro, 0, 0, maxOf .u8⟩,
  ⟨0x9201, 0x9201, 0, 0, .u8, .wo, 0, 0, maxOf .u8⟩,
  ⟨0x9202, 0x9202, 0, 0, .u8, .ro, 0, 0, maxOf .u8⟩,
  ⟨0x9300, 0x9300, 0, 0, .u16, .rw, 3400, 600, 3400⟩,
  ⟨0x9301, 0x9301, 0, 0, .u16, .ro, 0, 0, maxOf .u16⟩,
  ⟨0x9302, 0x9302, 0, 0, .u16, .ro, 0, 0, maxOf .u16⟩,
  ⟨0x9303, 0x9303, 0, 0, .u8, .w1c, 0, 0, maxOf .u8⟩,
  ⟨0x9310, 0x9310, 1, 31, .u16, .ro, 0, 0, maxOf .u16⟩]

/-- The objects of 0xA000 to 0xAFFF. -/
def objectsA : List ObjRow := [
  ⟨0xA001, 0xA001, 0, 0, .u32, .ro, 0, 0, maxOf .u32⟩,
  ⟨0xA010, 0xA010, 0, 0, .o512, .ro, 0, 0, maxOf .o512⟩,
  ⟨0xA011, 0xA011, 1, 16, .o512, .ro, 0, 0, maxOf .o512⟩,
  ⟨0xA012, 0xA012, 0, 0, .u16, .ro, 0, 0, maxOf .u16⟩,
  ⟨0xA020, 0xA020, 1, 4, .o16, .ro, 0, 0, maxOf .o16⟩,
  ⟨0xA030, 0xA030, 1, 9, .u64, .ro, 0, 0, maxOf .u64⟩,
  ⟨0xA031, 0xA031, 1, 9, .u16, .ro, 0, 0, maxOf .u16⟩,
  ⟨0xA040, 0xA040, 1, 1, .u8, .rw, 0, 0, maxOf .u8⟩,
  ⟨0xA040, 0xA040, 2, 2, .u64, .rw, 0, 0, maxOf .u64⟩,
  ⟨0xA040, 0xA040, 3, 3, .u32, .rw, 0, 0, maxOf .u32⟩,
  ⟨0xA040, 0xA040, 4, 4, .u8, .wo, 0, 0, maxOf .u8⟩,
  ⟨0xA040, 0xA040, 5, 6, .u8, .ro, 0, 0, maxOf .u8⟩,
  ⟨0xA040, 0xA040, 7, 7, .u16, .rw, 24, 8, 96⟩,
  ⟨0xA040, 0xA040, 8, 8, .u16, .rw, 10, 1, 1000⟩,
  ⟨0xA040, 0xA040, 9, 9, .u16, .rw, 0, 0, 720⟩,
  ⟨0xA050, 0xA050, 1, 9, .u64, .ro, 0, 0, maxOf .u64⟩,
  ⟨0xA051, 0xA051, 1, 9, .u64, .ro, 0, 0, maxOf .u64⟩,
  ⟨0xA090, 0xA090, 1, 1, .u32, .wo, 0, 0, maxOf .u32⟩,
  ⟨0xA090, 0xA090, 2, 2, .u32, .rw, 0, 0, maxOf .u32⟩,
  ⟨0xA090, 0xA090, 3, 3, .o512, .wo, 0, 0, maxOf .o512⟩,
  ⟨0xA090, 0xA090, 4, 4, .u8, .wo, 0, 0, maxOf .u8⟩,
  ⟨0xA090, 0xA090, 5, 5, .u32, .ro, 0, 0, maxOf .u32⟩,
  ⟨0xA090, 0xA090, 6, 6, .u8, .ro, 0, 0, maxOf .u8⟩,
  ⟨0xA0F0, 0xA0F0, 0, 0, .u8, .ro, 0, 0, maxOf .u8⟩,
  ⟨0xA0F1, 0xA0F1, 0, 0, .u32, .wo, 0, 0, maxOf .u32⟩]

/-- The objects of 0xB000 to 0xBFFF. -/
def objectsB : List ObjRow := [
  ⟨0xB001, 0xB001, 2, 2, .u8, .rw, 4, 1, 4⟩,
  ⟨0xB001, 0xB001, 3, 3, .u8, .wo, 0, 0, maxOf .u8⟩,
  ⟨0xB001, 0xB001, 4, 4, .u8, .ro, 0, 0, maxOf .u8⟩,
  ⟨0xB002, 0xB002, 1, 8, .u64, .ro, 0, 0, maxOf .u64⟩,
  ⟨0xB003, 0xB003, 1, 16, .u32, .ro, 0, 0, maxOf .u32⟩,
  ⟨0xB004, 0xB004, 1, 8, .u64, .ro, 0, 0, maxOf .u64⟩,
  ⟨0xB010, 0xB010, 0, 0, .u64, .rw, 34359738368, 0, maxOf .u64⟩,
  ⟨0xB011, 0xB011, 0, 0, .u64, .rw, 0, 0, maxOf .u64⟩,
  ⟨0xB012, 0xB012, 1, 4, .u64, .ro, 0, 0, maxOf .u64⟩,
  ⟨0xB013, 0xB013, 1, 3, .u64, .rw, 0, 0, maxOf .u64⟩,
  ⟨0xB013, 0xB013, 4, 4, .u8, .wo, 0, 0, maxOf .u8⟩,
  ⟨0xB013, 0xB013, 5, 5, .u8, .ro, 0, 0, maxOf .u8⟩,
  ⟨0xB020, 0xB023, 1, 1, .u64, .rw, 0, 0, maxOf .u64⟩,
  ⟨0xB020, 0xB023, 2, 2, .u32, .rw, 0, 0, maxOf .u32⟩,
  ⟨0xB020, 0xB023, 3, 4, .u64, .rw, 0, 0, maxOf .u64⟩,
  ⟨0xB020, 0xB023, 5, 5, .u64, .ro, 0, 0, maxOf .u64⟩,
  ⟨0xB040, 0xB040, 0, 0, .u8, .rw, 0, 0, maxOf .u8⟩,
  ⟨0xB050, 0xB050, 1, 1, .u8, .wo, 0, 0, maxOf .u8⟩,
  ⟨0xB050, 0xB050, 2, 2, .u8, .ro, 0, 0, maxOf .u8⟩,
  ⟨0xB050, 0xB050, 3, 4, .u64, .rw, 0, 0, maxOf .u64⟩,
  ⟨0xB050, 0xB050, 5, 5, .u8, .ro, 0, 0, maxOf .u8⟩,
  ⟨0xB050, 0xB050, 6, 6, .u16, .rw, 0, 0, maxOf .u16⟩,
  ⟨0xB050, 0xB050, 7, 7, .u8, .rw, 0, 0, maxOf .u8⟩,
  ⟨0xB060, 0xB060, 1, 6, .u64, .ro, 0, 0, maxOf .u64⟩]

/-- AccessKeys, `0x1100` (R594): the modulus at 2e + 1, the level at 2e + 2. -/
def accessKeyRow (sub : Nat) : ObjRow :=
  if sub % 2 = 1 then ⟨0x1100, 0x1100, sub, sub, .o512, .rw, 0, 0, maxOf .o512⟩
  else ⟨0x1100, 0x1100, sub, sub, .u8, .rw, 0, 0, 3⟩

/-- TriggerSenders, `0x7210`: the endpoint at 2e + 1, the mask at 2e + 2. -/
def senderRow (sub : Nat) : ObjRow :=
  if sub % 2 = 1 then ⟨0x7210, 0x7210, sub, sub, .u16, .rw, 0, 0, maxOf .u16⟩
  else ⟨0x7210, 0x7210, sub, sub, .u64, .rw, 0, 0, maxOf .u64⟩

/-- ClaimFences, `0x7300`: base 3f + 1, length 3f + 2, floor 3f + 3 (R473). -/
def fenceRow (sub : Nat) : ObjRow :=
  if sub % 3 = 0 then ⟨0x7300, 0x7300, sub, sub, .u32, .rw, 0, 0, maxOf .u32⟩
  else ⟨0x7300, 0x7300, sub, sub, .u64, .rw, 0, 0, maxOf .u64⟩

/-- LineCacheRanges, `0x7400`: endpoint 3r + 1, base 3r + 2, length 3r + 3. -/
def rangeRow (sub : Nat) : ObjRow :=
  if sub % 3 = 1 then ⟨0x7400, 0x7400, sub, sub, .u16, .rw, 0, 0, maxOf .u16⟩
  else ⟨0x7400, 0x7400, sub, sub, .u64, .rw, 0, 0, maxOf .u64⟩

/-- Every plain row. -/
def objects : List ObjRow := objects0 ++ objects1 ++ objects2 ++ objects3 ++ objects4 ++ objects5 ++ objects6 ++ objects7 ++ objects8 ++ objects9 ++ objectsA ++ objectsB

/-- The rows whose index range holds an index. -/
def rowsOf (idx : Nat) : List ObjRow := objects.filter (fun r => decide (r.idx ≤ idx) && decide (idx ≤ r.idxHi))

/-- The highest subindex of an object, which subindex 0x00 of a record reads (R23, R581); none where there is no
object (R583). A plain object has only subindex 0x00. -/
def highSub (idx : Nat) : Option Nat :=
  match idx with
  | 0x1100 => some 16
  | 0x7210 => some 64
  | 0x7300 => some 48
  | 0x7400 => some 24
  | _ =>
    match rowsOf idx with
    | [] => none
    | rs => some (rs.foldl (fun a r => max a r.subHi) 0)

/-- The row of one subindex, other than a record's subindex 0x00. -/
def objRow (idx sub : Nat) : Option ObjRow :=
  match idx with
  | 0x1100 => if 1 ≤ sub ∧ sub ≤ 16 then some (accessKeyRow sub) else none
  | 0x7210 => if 1 ≤ sub ∧ sub ≤ 64 then some (senderRow sub) else none
  | 0x7300 => if 1 ≤ sub ∧ sub ≤ 48 then some (fenceRow sub) else none
  | 0x7400 => if 1 ≤ sub ∧ sub ≤ 24 then some (rangeRow sub) else none
  | _ => (rowsOf idx).find? (fun r => decide (r.subLo ≤ sub) && decide (sub ≤ r.subHi))

/-- The row of one subindex, a record's subindex 0x00 included (R23). -/
def anyRow (idx sub : Nat) : Option ObjRow :=
  match objRow idx sub with
  | some r => some r
  | none =>
    if sub = 0 then
      match highSub idx with
      | some h => some ⟨idx, idx, 0, 0, .u8, .ro, h, 0, 255⟩
      | none => none
    else none

/-- The key of a subindex in the dictionary's store. -/
def okey (idx sub : Nat) : Nat := idx * 256 + sub

/-- The default of a subindex, by its key: what a key that the store does not list reads as. -/
def dictDflt (k : Nat) : Nat :=
  match objRow (k / 256) (k % 256) with
  | some r => r.dflt
  | none => 0

/-- Is this RW subindex a selector, which the non-volatile store does not keep (R605)? -/
def isSelector (k : Nat) : Bool :=
  k == 0x303001 || k == 0x430001 || k == 0x430002 || k == 0x430003 || k == 0x430006 || k == 0x511001 ||
  k == 0x602001 || k == 0x620301 || k == 0x621001 || k == 0x621002

/-- Read level of an object (Table 14-4). -/
def readLevel (idx sub : Nat) : Nat :=
  if 0xE000 ≤ idx then 3
  else if idx < 0x1000 then 0
  else if (idx = 0x2001 ∨ idx = 0x2003 ∨ idx = 0x2004) ∧ sub = 0 then 0
  else 1

/-- Write level of an object (Table 14-4): the operator objects are at 1. -/
def writeLevel (idx sub : Nat) : Nat :=
  if 0xE000 ≤ idx then 3
  else if idx = 0x2011 ∨ (idx = 0x3030 ∧ sub = 1) ∨ idx = 0x4001 ∨ idx = 0x4300 ∨ idx = 0x5110 ∨ idx = 0x6003 ∨
    idx = 0x6020 ∨ idx = 0x6203 ∨ (idx = 0x6210 ∧ (sub = 1 ∨ sub = 2)) ∨ idx = 0x7401 ∨ idx = 0x8005 ∨
    idx = 0x8050 then 1
  else 2

end Sys2Proof.Machine
end

