-- ==== Sys2Proof/Machine/State.lean ====
section
/-! DEFINITION. The state of the block: every register, table, buffer, counter and mode that the spec gives the module,
as plain data, and the queue of waiting commands. Each field names the rule that gives it and its value after reset. -/

namespace Sys2Proof.Machine

open Sys2Proof



/-- Timebase states (R64); the code is that of Table 2-4. -/
inductive TbState where
  | acquiring | locked | holdover | freeRun
  deriving DecidableEq, Repr

/-- Progress of one reference source toward its lock criterion (Table 2-1). -/
structure SrcState where
  /-- Consecutive edges or records within the criterion; 0. -/
  count : Nat := 0
  /-- The source meets its lock criterion now; false. -/
  good : Bool := false
  /-- Count minus reference at its last edge or record, in units of 10⁻⁵ / 48,000² s (R61); 0. -/
  offset : Int := 0
  /-- The length of a tick that it shows, in region-time units of 62.5 ps / 65,536 (R58, R59, R71); 0, not measured. -/
  period : Nat := 0
  deriving DecidableEq, Repr

/-- A frame anchor as a site holds it (R71): frame number, starting tick, tick period in region-time units of 62.5 ps / 65,536,
and the region time of the frame's start in the same units; a period of 0 is no anchor yet. -/
structure Anchor where
  frame : Nat := 0
  tick : Nat := 0
  period : Nat := 0
  elapsed : Nat := 0
  deriving DecidableEq, Repr

/-- The media timebase (R56 to R71). -/
structure Timebase where
  /-- The timebase runs: bring-up has started it (R650); false. -/
  started : Bool := false
  /-- Timebase state (R64); acquiring (Table 2-4). -/
  st : TbState := .acquiring
  /-- ActiveSource (Table 2-4); 0. -/
  active : Nat := 0
  /-- Sources 0x01 to 0x04 (Table 2-1), by value; no progress. -/
  src : Tbl SrcState := []
  /-- AbsoluteTime (Table 2-4); 0. -/
  absolute : Bool := false
  /-- Count-minus-reference phase in units of 10⁻⁵ / 48,000² s, which are 1/2,304,000 of 10 ns (R61, Table 2-4); 0. -/
  phase : Int := 0
  /-- Steering away from the source's rate, in units of 10/48,000 ppm (R61); 0. -/
  steer : Int := 0
  /-- The timebase has left acquiring, so the count may start (R66); false. -/
  left : Bool := false
  /-- The first frame has begun (R66, R67); false. -/
  begun : Bool := false
  /-- MediaTickCount, `0x2001:00` (R15, R67); 0. -/
  count : Nat := 0
  /-- FrameNumber, `0x2003:00` (R70); 0. -/
  frame : Nat := 0
  /-- FrameStartTick, `0x2004:00` (R70); 0. -/
  frameStart : Nat := 0
  /-- FrameLength in force in the current frame (R69); 480, the default of `0x2002:00`. -/
  frameLength : Nat := 480
  /-- Words 0 to 2 of the PTP correlation record windows of Q0 and Q1 (Table 2-2), key port × 4 + word; undefined
  until written, DESIGN CHOICE 0 (log entry 8). -/
  ptpRec : Tbl Nat := []
  /-- PTP time in ns of the last valid record of each port (R62); 0. -/
  ptpNs : Tbl Nat := []
  /-- PTM master time in ns of the last valid record of each port (R62); 0. -/
  ptmNs : Tbl Nat := []
  /-- The disciplined rate as the length of a tick in region-time units of 62.5 ps / 65,536 (R58, R59, R71); nominal, 1/48,000 s. -/
  period : Nat := 21845333333
  /-- Region time that the ticks have lasted since the first frame, in the same units (R71); 0. -/
  elapsed : Nat := 0
  /-- The last command of the timebase was a PPS edge (R66); false. -/
  ppsNow : Bool := false
  /-- The frame anchor that each site last received, by site (R71); none. -/
  anchors : Tbl Anchor := []
  /-- Frame and starting tick of the last 16 frames, newest first (R503, R504); none. -/
  past : List (Nat × Nat) := []
  /-- Ticks of the oscillator since the last HELLO, before the first frame (R501); 0. -/
  idle : Nat := 0
  deriving DecidableEq, Repr

/-- Entry classes (Table 2-6). -/
inductive EntryClass where
  | live | nearLive | bulk
  deriving DecidableEq, Repr

/-- States of an entry (Table 2-8). -/
inductive EntrySt where
  | pending | ready | running | committed | withdrawn | discarded
  deriving DecidableEq, Repr

/-- An entry of a pricking as the host wrote it (Table 2-6). -/
structure PEntry where
  stream : Nat
  die : Nat
  cls : Nat
  rsv : Nat
  pattern : Nat
  firstStep : Nat
  stepCount : Nat
  start : Nat
  deadline : Nat
  cores : Nat
  after : Option Nat
  deriving DecidableEq, Repr

/-- A pricking that the hub holds for a frame (R74, R76, R78). -/
structure Accepted where
  frame : Nat
  slot : Nat
  repeatable : Bool
  /-- FrameLength under which it was accepted (R78). -/
  frameLength : Nat
  entries : List PEntry
  deriving DecidableEq, Repr

/-- The RO words of a pricking slot's header (Table 2-5). -/
structure SlotStatus where
  rejectIndex : Nat := 0
  status : Nat := 0
  acceptTick : Nat := 0
  deriving DecidableEq, Repr

/-- The pricking store (R72 to R78). -/
structure Prickings where
  /-- Slot memory as 64-bit words, key slot × 131,072 + word (R72); undefined, DESIGN CHOICE 0 (log entry 8). -/
  mem : Tbl Nat := []
  /-- RejectIndex, Status and AcceptTick per slot (Table 2-5); undefined, DESIGN CHOICE 0 (log entry 8). -/
  ro : Tbl SlotStatus := []
  /-- Accepted prickings of frames that are not fixed yet (R74); none. -/
  accepted : List Accepted := []
  /-- The pricking fixed for the next frame, with that frame (R77); none. -/
  fixed : Option Accepted := none
  /-- Repeats in a row (R77); 0. -/
  repeats : Nat := 0
  /-- Dies that the multicast of the fixed pricking did not reach, directly or by relay (R386); none. -/
  unreached : List Nat := []
  deriving DecidableEq, Repr

/-- A pricking entry of a frame that has begun, on its die (R79). -/
structure Entry where
  frame : Nat
  idx : Nat
  die : Nat
  stream : Nat
  cls : EntryClass
  pattern : Nat
  firstStep : Nat
  stepCount : Nat
  /-- Absolute tick of StartOffset. -/
  start : Nat
  /-- Absolute deadline tick (R73). -/
  deadline : Nat
  cores : Nat
  after : Option Nat
  st : EntrySt := .pending
  /-- Steps committed so far. -/
  done : Nat := 0
  /-- FrameLength of the frame that the offsets count from. -/
  frameLength : Nat
  /-- A SAMPLE or TREEVERIFY ran in the entry (Table 12-5). -/
  drew : Bool := false
  /-- Tokens that the entry has emitted, in order (Table 12-5). -/
  tokens : List Nat := []
  /-- The smallest slack of its draws, as an FP32 code (R518). -/
  slack : Option Nat := none
  deriving DecidableEq, Repr

/-- An instruction in a unit's queue or started and not yet complete: its index in the step, its word, the index
registers as they stood at issue (R182), and for a transfer whether a dark region holds it (R211) and the sequence
numbers of the requests that it still awaits (R209). -/
structure QInstr where
  idx : Nat
  word : Nat
  regs : Tbl Nat := []
  held : Bool := false
  awaits : List Nat := []
  /-- Ledger epoch under which its accesses were translated (R285). -/
  epoch : Nat := 0
  /-- Translated ledger entries of the source and the destination, by index (R284, R286). -/
  src : List (Nat × Nat) := []
  dst : List (Nat × Nat) := []
  /-- Its data has landed and its flag is on the way, or all but the counted stores are acknowledged and the flag travels with those
  (R445). -/
  landed : Bool := false
  /-- The FlagPhase that a PUTF took at its start (R444). -/
  phase : Nat := 0
  /-- The claim number in force at its issue (R470). -/
  claim : Nat := 0
  /-- A fence refused an atomic as it was translated (R472). -/
  fenced : Bool := false
  /-- How often floors of fences had been raised as its writes were checked (R474). -/
  checked : Nat := 0
  /-- Rows of a row move that wait for a bank's copy or slice, or for an earlier row, by their place in it (R104, R129); none. -/
  left : List Nat := []
  deriving DecidableEq, Repr

/-- A core's part in a running step (R181, R108, R226). -/
structure CoreRun where
  /-- Number of the grant that the core serves. -/
  grant : Nat
  /-- Position in the grant, the I2 of step start (R181). -/
  pos : Nat
  /-- Index of the next instruction to issue. -/
  pc : Nat := 0
  /-- I0 to I15 (R181); those not listed hold 0. -/
  idx : Tbl Nat := []
  /-- Pins 0 to 31, 16 bits each (R108); 0. -/
  pins : Tbl Nat := []
  /-- ArithFlags (R169); 0. -/
  arith : Nat := 0
  /-- Unit queues 1 to 11, oldest first (R106): 1 row port, 2 to 5 E0 to E3, 6 vector, 7 special function, 8 to 11
  TQ0 to TQ3; empty. -/
  queues : Tbl (List QInstr) := []
  /-- Instructions started and not complete, by unit, oldest first; none. -/
  started : Tbl (List QInstr) := []
  /-- The step has ended on this core (R111). -/
  ended : Bool := false
  /-- A WAITMEM has read its word and waits (R217). -/
  memWait : Bool := false
  /-- The common wait of the sequencer's own next instruction is met and its count subtracted (R177, R220). -/
  waited : Bool := false
  /-- The sampling-state record held in the special function unit, eight words (R248); none before the first use. -/
  sfu : Option (List Nat) := none
  deriving DecidableEq, Repr

/-- Modes of a core (Table 3-7). -/
inductive CoreMode where
  | spare | inService | outAtBringUp | outInService | copying
  deriving DecidableEq, Repr

/-- A failure that the ladder of Table 3-6 judges: a failed connection, by its bit position among the port's 64 groups of 72, with the banks
of its corrected moves, a failed
bank, or a lost bank control interface. -/
inductive RungFailure where
  | connection (position : Nat) (banks : List Nat)
  | bank (phys : Nat)
  | control
  deriving DecidableEq, Repr

/-- One physical core Ck/#m with its bank region, row port, scratch and accumulators. -/
structure PCore where
  /-- Enabled number n of Ck/n, if bring-up gave one (R11, R50); none. -/
  number : Option Nat := none
  /-- CoreMode (Table 3-7); mapped out at bring-up until bring-up enables the core (log entry 1). -/
  mode : CoreMode := .spare
  /-- PortWidth (Table 3-7): 0 full, 1 half A only, 2 half B only (R41); 0. -/
  width : Nat := 0
  /-- Row-port groups whose spare is in use (R40); none. -/
  groupsUsed : List Nat := []
  /-- The row port pauses after a spare switch-in (R40); false. -/
  pause : Bool := false
  /-- A BIST slice holds the core (R682); false. -/
  bist : Bool := false
  /-- A BIST slice runs on this physical bank (Table 17-1); none. -/
  bistBank : Option Nat := none
  /-- Row moves made through the port (R39); 0. -/
  moves : Nat := 0
  /-- Corrections of the last 1,024 row moves: move number, group × 72 + bit, physical bank (R39, R127). -/
  corrections : List (Nat × Nat × Nat) := []
  /-- Bank map: the physical bank of each logical bank (R102, R129); identity. -/
  bankMap : Tbl Nat := []
  /-- Spare physical banks that are free (R129); 32 and 33. -/
  spareBanks : List Nat := [32, 33]
  /-- Corrected rows: media tick, physical bank and row (R128; log entry 19). -/
  bankErrors : List (Nat × Nat × Nat) := []
  /-- Rows with double-bit errors since bring-up, by bank and row (R128). -/
  bankDoubles : List (Nat × Nat) := []
  /-- The bank copy in progress: logical bank, old and new physical banks (R129, R131). -/
  copy : Option (Nat × Nat × Nat) := none
  /-- Failures that wait for the copy's end (R131). -/
  later : List RungFailure := []
  /-- Row store bytes by physical row × 512 + byte, physical row = bank × 1,024 + row (R102); undefined until written,
  DESIGN CHOICE 0 (log entry 8). -/
  rows : Tbl Byte := []
  /-- Physical rows marked poisoned (R42, R130); none. -/
  poisoned : List Nat := []
  /-- Scratch bytes (R99); undefined until written, DESIGN CHOICE 0 (log entry 8). -/
  scratch : Tbl Byte := []
  /-- ArithFlags as the last step on the core left them; a running step holds its own (R169, Table 4-7); 0. -/
  arith : Nat := 0
  /-- Accumulators as FP32 codes, key (engine × 2 + set) × 2,048 + row × 64 + column (R95); 0.0. -/
  acc : Tbl Nat := []
  deriving DecidableEq, Repr

/-- A pattern loaded on a die (R222 to R225). -/
structure Pattern where
  id : Nat
  /-- Address of the image in the pattern memory of P2k. -/
  base : Nat
  length : Nat
  steps : Nat
  /-- Frame boundary action: the image is new and takes effect there (R225). -/
  fresh : Bool := false
  /-- Frame boundary action: the image leaves there (R225). -/
  leaving : Bool := false
  /-- The image has left the table and is freed once no step runs it (R225). -/
  old : Bool := false
  deriving DecidableEq, Repr

/-- A granted step (R79, R183, R226). -/
structure Grant where
  id : Nat
  die : Nat
  frame : Nat
  entry : Nat
  stream : Nat
  pattern : Nat
  step : Nat
  cls : EntryClass
  /-- Physical positions of its cores, in ascending enabled number. -/
  cores : List Nat
  /-- Tick of the grant (R229). -/
  tick : Nat
  /-- Grant semaphores S0 to S15 (R183); 0. -/
  sems : Tbl Nat := []
  /-- ArithFlags of cores that have ended, ORed (R171). -/
  arith : Nat := 0
  /-- Image address, instruction offset and count, descriptor offset and count (Table 5-15). -/
  base : Nat
  codeOff : Nat
  codeLen : Nat
  descOff : Nat
  descCount : Nat
  deriving DecidableEq, Repr

/-- A compute die (chapters 3 and 5). -/
structure Die where
  /-- The die has completed bring-up and serves (R650); false. -/
  up : Bool := false
  /-- The die is kept out of service (R53, R134, R659); false. -/
  isolated : Bool := false
  /-- The die port is out of service, which isolates the die, and the sideband interface is (R43); false. -/
  portOut : Bool := false
  sideOut : Bool := false
  /-- Its known-answer check failed on both units of the pair (Table 12-9); false. -/
  katFailed : Bool := false
  /-- The bank layer is in reset (R36, R230); false. -/
  bankReset : Bool := false
  /-- Connections lost per repair unit, the first of which its spares replace (R35, R49): key position for a core's bank control,
  100 + 85 × polder + block, 300 + 88 × direction + block of the die port, 500 + block of the sideband; 0. -/
  connsLost : Tbl Nat := []
  /-- Operating point the die runs at: 0, 1 or 2 (R120); 0. -/
  point : Nat := 0
  /-- Voltage that VCORE is set to, mV (Table 15-2, R621); 0. -/
  vcore : Nat := 0
  /-- Point that a VCORE ramp prepares for the next frame boundary (R621); none. -/
  ramp : Option Nat := none
  /-- VCORE has settled at the voltage of that point (R618, R621); false. -/
  settled : Bool := false
  /-- Patterns in the die's pattern memory, oldest first (R222); none. -/
  patterns : List Pattern := []
  /-- Crossbar arbiter weights: key target port × 64 + input port (R122, R123); 0. Ports 0 to 51 are the cores, 52
  and 53 the polder controllers, 54 the die port, 55 the sequencer manager. -/
  weights : Tbl Nat := []
  /-- The die's weight at its site endpoint (R125); 0. -/
  siteWeight : Nat := 0
  /-- The part of it toward each site (R353); 0. -/
  siteWeights : Tbl Nat := []
  deriving DecidableEq, Repr

/-- A transfer of a discarded step that may still land (R228): die, physical core and the transfer. -/
structure Orphan where
  die : Nat
  core : Nat
  stream : Nat
  base : Nat
  descOff : Nat
  q : QInstr
  deriving DecidableEq, Repr

/-- An entry of the repair map (R654). Cores are named by die × 64 + physical position. -/
inductive MapEntry where
  | spareGroup (core group : Nat)
  | portHalved (core width : Nat)
  | bankOut (core bank spare : Nat)
  | spareBankOut (core bank : Nat)
  | coreOut (core : Nat)
  | polderFrame (polder frame : Nat)
  | tierFrame (chan serial frame : Nat)
  | laneOut (path lane : Nat)
  /-- A spare of a die's repair unit other than a row port, numbered as in `Die.connsLost` (R35, R49). -/
  | spareConn (die repairUnit : Nat)
  deriving DecidableEq, Repr

/-- A pattern load that runs (R223, R224): dies, outcome of the checks, and the image. -/
structure PatCmd where
  mask : Nat
  status : Nat
  image : List Byte
  deriving DecidableEq, Repr

/-- A response that the module has sent (R433), with the space and address of its request. -/
structure Response where
  opcode : Nat
  /-- SourceId: the DestId of the request that it answers (R429). -/
  source : Nat
  dest : Nat
  seq : Nat
  status : Nat
  aux : Nat := 0
  space : Nat := 0
  address : Nat := 0
  line : List Byte := []
  /-- The routing version by which it was sent, 0 on the Ground (R484, R485). -/
  epoch : Nat := 0
  deriving DecidableEq, Repr

/-- Where a packet's address lies: polder or tier memory as the die of foreign accesses translated it on arrival, or a core's
scratch (R281, R308, Table 11-1; log entry 39). -/
inductive Place where
  | mem (die : Nat) (tier : Bool) (tr : List (Nat × Nat))
  | scratch (k addr : Nat)
  deriving DecidableEq, Repr

/-- The memory behind one polder controller (units 0 to 15) or tier channel (units 16 to 31), with its poison list. -/
structure Store where
  /-- Bytes by physical address (R276); undefined until written, DESIGN CHOICE 0 (log entry 8). -/
  mem : Tbl Byte := []
  /-- Poisoned 64-byte lines, by physical address / 64 (R267, R312); none. -/
  poison : List Nat := []
  /-- The poison list saved in the save frame or metadata frames (R305, R321); none. -/
  saved : List Nat := []
  /-- Retired frames (R268, R312); none. -/
  retired : List Nat := []
  /-- Frames in which errors have left four poisoned lines, until they are retired (R268, R312); none. -/
  due : List Nat := []
  /-- Out of service (R270, R317); false. -/
  out : Bool := false
  /-- In self-refresh (R303, R321); false. -/
  selfRefresh : Bool := false
  /-- HotRefresh (R302, R313); false. -/
  hot : Bool := false
  /-- Hottest sensor in °C (Table 7-10, Table 8-6); 0. -/
  temp : Nat := 0
  /-- Next line of the patrol scrub (R269, R306); 0. -/
  scrub : Nat := 0
  deriving DecidableEq, Repr

/-- One line of a translation cache (R282): ledger index and the entry as cached. -/
structure CacheLine where
  index : Nat
  entry : Nat
  deriving DecidableEq, Repr

/-- States of a tier channel (Table 8-2). -/
inductive ChanSt where
  | empty | discovering | training | inService | draining | drained | failed | refused
  deriving DecidableEq, Repr

/-- A DDR5 channel (chapter 8). -/
structure Chan where
  /-- State (Table 8-2); Empty. -/
  st : ChanSt := .empty
  /-- SpeedBin, DeviceWidth and CapacityGiB (Table 8-6); 0. -/
  speed : Nat := 0
  width : Nat := 0
  capacity : Nat := 0
  /-- Serial number of the module, from its SPD (R654); 0. -/
  serial : Nat := 0
  /-- Throttled (R313); 0. -/
  throttled : Bool := false
  /-- DnPRES_N reads low: a module is present (R314); DESIGN CHOICE false (log entry 1). -/
  present : Bool := false
  /-- A discover command on an Empty channel waits for a module (Table 8-2); false. -/
  asked : Bool := false
  /-- DnPWREN (R314); off. -/
  power : Bool := false
  /-- Trace frames at the top of the channel (R322); 0. -/
  traceFrames : Nat := 0
  deriving DecidableEq, Repr

/-- Who asked for a migration: the ledger command of a port, a drain, a retirement of a frame. -/
inductive MigOwner where
  | command (port : Nat)
  | drain (chan : Nat)
  | retire (unit : Nat) (frame : Nat)
  deriving DecidableEq, Repr

/-- A WRITE, FLAG or ATOMIC packet that a migration holds from its phase 4 on (R299, R300), whether it came from a guest, and where it
goes. -/
structure HeldPacket where
  packet : Packet
  guest : Bool
  place : Place
  /-- Ledger epoch under which it was translated (R286). -/
  epoch : Nat := 0
  /-- How often floors of fences had been raised as it was checked (R474). -/
  checked : Nat := 0
  deriving DecidableEq, Repr

/-- A migration of one granule (Table 7-9). -/
structure Migration where
  /-- Ledger index of the granule. -/
  index : Nat
  owner : MigOwner
  /-- Unit field and frame before and after (for Placement 1 the unit is bit 20 of Unit; for tier the channel). -/
  oldUnit : Nat
  oldFrame : Nat
  newUnit : Nat
  newFrame : Nat
  /-- Phase 1 to 6. -/
  phase : Nat := 1
  /-- Dirty sub-blocks since the copy (R299). -/
  dirty : List Nat := []
  /-- Recopy passes done. -/
  passes : Nat := 0
  /-- Packets whose writes it holds until the switch, oldest first. -/
  writes : List HeldPacket := []
  deriving DecidableEq, Repr

/-- A frame released by a ledger change and held until the old epoch drains (R286). -/
structure HeldFrame where
  /-- Memory unit 0 to 31. -/
  unit : Nat
  frame : Nat
  /-- Epoch that the change flipped to. -/
  epoch : Nat
  deriving DecidableEq, Repr

/-- The ledger command that runs (R289): its port, queue entry, words, and outcome. -/
structure LedgerCmd where
  port : Nat
  entry : Nat
  words : List Nat
  /-- Outcome, once the command has done its work. -/
  status : Option Nat := none
  /-- A completion slot is reserved in this ring. -/
  ring : Option Nat := none
  /-- Its port has left Up since: its completion is discarded (R545). -/
  gone : Bool := false
  /-- Granules of a MIGRATE still to start, as ledger indices with their new frames. -/
  todo : List (Nat × Nat) := []
  /-- Granules that it has switched, with the Unit field and the frame that they had (R293); none. -/
  moved : List (Nat × Nat × Nat) := []
  deriving DecidableEq, Repr

/-- A staging command that the hub has accepted (R324 to R332). -/
structure StageCmd where
  port : Nat
  entry : Nat
  words : List Nat
  ring : Option Nat := none
  /-- Translations taken at acceptance (R326): the tier frame and the four polder frames of each granule, each as
  memory unit and frame; a Placement 1 granule lists all eight copies. -/
  map : List (List (Nat × Nat) × List (List (Nat × Nat))) := []
  /-- Ledger epoch of the acceptance. -/
  epoch : Nat := 0
  /-- Outcome of a failed check, or of the copy. -/
  status : Option Nat := none
  /-- Its port has left Up since (R545). -/
  gone : Bool := false
  /-- Its tier granules that have not started, and those in flight (R328). -/
  todo : List Nat := []
  flight : List Nat := []
  deriving DecidableEq, Repr

/-- States of a site's Ground region (R382, R383, Table 9-8): parked; in service; a dark notice is out; endpoint reset
asserted; reset released and rings locking; left dark. -/
inductive RegionSt where
  | parked | up | noticed | reset | locking | dark
  deriving DecidableEq, Repr

/-- The Ground region of a site (section 9.10). -/
structure Region where
  /-- State; parked until bring-up (log entry 1). -/
  st : RegionSt := .parked
  /-- Sites that hold the dark notice (Table 9-8); none. -/
  heard : List Nat := []
  /-- Left dark 50 ms after its reset (R388); false. -/
  isolated : Bool := false
  /-- The site runs no endpoint firmware, so its region stays dark until the next bring-up (R663); false. -/
  barred : Bool := false
  /-- A ring sensor tripped the region at 95 °C, which waits for its restart (R409, R634); false. -/
  tripped : Bool := false
  /-- RegionStatus answers this reset at region-up (R391); false. -/
  asked : Bool := false
  /-- A full calibration follows region-up (R418); false. -/
  fullCal : Bool := false
  /-- A calibration of the whole site runs: on command, or a full one (R418, R420); false. -/
  calRun : Bool := false
  /-- A full calibration is due after two failed lane calibrations, once the region serves and no other one runs (R418); false. -/
  fullDue : Bool := false
  /-- Ticks of the wrong-line relocks of the last hour (R411); none. -/
  wrongs : List Nat := []
  deriving DecidableEq, Repr

/-- States of a ring (Table 10-4). -/
inductive RingSt where
  | parked | sweeping | locked | lost | notFitted | out
  deriving DecidableEq, Repr

/-- Trims of a ring (Table 10-4). -/
structure Trims where
  calHeater : Nat := 0
  /-- Units of 0.5 °C. -/
  calTemp : Nat := 0
  /-- κ = 12.0 + 0.05 × code GHz/°C. -/
  kappa : Nat := 0
  /-- Six-bit two's complement code, GHz. -/
  setPoint : Nat := 0
  swing : Nat := 0
  dither : Nat := 0
  deriving DecidableEq, Repr

/-- A microring (chapter 10), by site × 1,344 + slot. -/
structure MicroRing where
  st : RingSt := .parked
  /-- HeaterCode; 0. -/
  heater : Nat := 0
  /-- Trims in force; the saved values at bring-up (R408), DESIGN CHOICE 0 (log entry 1). -/
  trims : Trims := {}
  /-- New trims that wait for a period or frame boundary (R422). -/
  pending : Option Trims := none
  /-- The last update saw the error outside ±40 GHz (R399); false. -/
  outside : Bool := false
  /-- Ring temperature at the last round, units of 0.125 °C (R395); 0. -/
  temp : Int := 0
  /-- Rate term r of R401, in units of 1/160 GHz per round; 0. -/
  rate : Int := 0
  /-- Index of the comb line that it is locked to, which a modulator's identity words carry (Table 9-5, R369); 0. -/
  line : Nat := 0
  deriving DecidableEq, Repr

/-- States of a transmit or receive lane (Table 9-11). -/
inductive LaneSt where
  | idle | leased | standing | training | relocking | out | dark | notFitted
  deriving DecidableEq, Repr

/-- Transmit lane Tn and receive lane Ln of a site, by site × 96 + n (R339, Table 9-11). -/
structure Lane where
  tx : LaneSt := .notFitted
  /-- Destination site, 0xE multicast, 0xF none. -/
  txPeer : Nat := 0xF
  /-- 0 row, 1 column, 3 none. -/
  txGroup : Nat := 3
  rx : LaneSt := .notFitted
  /-- Source site, 0xF none. -/
  rxPeer : Nat := 0xF
  retrains : Nat := 0
  /-- Destinations that grant this transmit lane for the next period, with the source's weight toward each (R351). -/
  offers : List (Nat × Nat) := []
  /-- Destination that the source has confirmed for the next period (R349). -/
  confirmed : Option Nat := none
  /-- Source to which the destination has granted the receive lane, not yet confirmed (R349). -/
  granted : Option Nat := none
  /-- Source whose confirmation the destination holds for the next period (R349). -/
  rxNext : Option Nat := none
  /-- Lease periods until a revocation or release takes effect (R350); none runs. -/
  ending : Option Nat := none
  /-- The receiver discards packets until the next valid identity word (R368); false. -/
  discards : Bool := false
  /-- The destination has revoked the lease of its receive lane (R350, R354); false. -/
  revoked : Bool := false
  /-- The transmit lane returns to its pool only once each of its paths has retrained (R369); false. -/
  relock : Bool := false
  /-- Sequence of the next identity word on the transmit lane (Table 9-5); 0. -/
  seq : Nat := 0
  /-- Lease periods since its last identity word (R367); 0. -/
  since : Nat := 0
  /-- The last identity word sent on it (R366); 0. -/
  ident : Nat := 0
  /-- Lane calibration: 0 none, 1 waits for its leases to end, 2 running its settings, 4 retraining its paths, 3 its trims wait for a
  boundary (R415, R422); 0. -/
  cal : Nat := 0
  /-- The lane is scheduled for calibration, and by its rings' temperature (R417); false. -/
  calDue : Bool := false
  calHot : Bool := false
  /-- Ticks of failed lane calibrations (R418); none. -/
  calFails : List Nat := []
  /-- Region time of its last calibration (R417); 0. -/
  calTime : Nat := 0
  deriving DecidableEq, Repr

/-- A path (S, D, n) of a bride, by (S × 12 + D) × 96 + n (R364). -/
structure Path where
  /-- 0 in service, 1 out of service and retraining, 2 out until bring-up; 0. -/
  st : Nat := 0
  /-- Ticks of failed retrainings (R364); none. -/
  fails : List Nat := []
  /-- Check outcomes of the last 16 identity words, newest first (R364); none. -/
  words : List Bool := []
  /-- Ticks of packets that failed their end-to-end check, newest first (R364); none. -/
  crcs : List Nat := []
  /-- A training of the path has ended since its regions were last reset (Table 9-8); false. -/
  tried : Bool := false
  deriving DecidableEq, Repr

/-- Requests that a destination has collected in the present lease period (R349): source, backlog, weight, multicast. -/
structure LeaseReq where
  src : Nat
  backlog : Nat
  weight : Nat
  multicast : Bool
  deriving DecidableEq, Repr

/-- A site's lease arbiter (R349, R353). -/
structure Arbiter where
  reqs : List LeaseReq := []
  /-- Remainders carried forward by deficit, per source (R353); 0. -/
  deficit : Tbl Nat := []
  /-- Per source, one more than the lane that it leases in place of the bride's standing lane (R370); 0 none. -/
  substs : Tbl Nat := []
  deriving DecidableEq, Repr

/-- States of a laser module (Table 9-12). -/
inductive LaserSt where
  | absent | seated | rampUp | supplying | flagged | rampDown | removable | failed
  deriving DecidableEq, Repr

/-- A laser module and its shares of the sixteen coupler taps (R358). -/
structure Laser where
  /-- State; absent (Table 9-12). -/
  st : LaserSt := .absent
  /-- The I3C link reports its fibre block seated (R55, R720); false. -/
  seat : Bool := false
  /-- Enable line driven to the module (R719); false. -/
  enable : Bool := false
  /-- Shares at bring-up per tap, 0.01 dBm (R358); none for a module that did not supply light then. -/
  base : Option (Tbl Int) := none
  /-- Shares at the last round, 0.01 dBm (R358); 0. -/
  share : Tbl Int := []
  /-- Consecutive rounds without its tone (R358); 0. -/
  silent : Nat := 0
  deriving DecidableEq, Repr

/-- A guest die behind the Dyke (section 9.9). -/
structure Guest where
  /-- A guest die, not a filler, is fitted (R46); DESIGN CHOICE false (log entry 1). -/
  fitted : Bool := false
  /-- It has an IEEE 1838 port (R691); DESIGN CHOICE false (log entry 1). -/
  testPort : Bool := false
  /-- Bytes from and to the guest that the rate limit has not worked off yet (R381); 0. -/
  inDebt : Nat := 0
  outDebt : Nat := 0
  /-- Packets from the guest that wait for it, oldest first (R381); none. -/
  waiting : List Packet := []
  deriving DecidableEq, Repr

/-- A request packet that a source of this module has sent, on the Ground or to another endpoint, and keeps until its response arrives
(R430, R451). -/
structure Request where
  /-- SourceId bits [11:0]: site × 256 + unit (R429). -/
  source : Nat
  seq : Nat
  /-- DestId (R429). -/
  dest : Nat
  opcode : Nat
  /-- Multicast (R488); false. -/
  multicast : Bool := false
  /-- Target space (Table 11-2): the polder at another endpoint (log entry 23). -/
  space : Nat := 3
  address : Nat
  /-- Bytes read or written. -/
  size : Nat
  payload : List Byte := []
  aux : Nat := 0
  /-- FlagPhase, Counted, StoreIndex and StoreCount (R443). -/
  phase : Nat := 0
  counted : Bool := false
  storeIndex : Nat := 0
  storeCount : Nat := 0
  /-- Claim stamped at issue (R470). -/
  claim : Nat := 0
  /-- Routing version by which it was sent (R484). -/
  epoch : Nat := 0
  retry : Bool := false
  /-- Consecutive probes without an answer (R455). -/
  probes : Nat := 0
  /-- A BUSY answer waits 2 µs for its resend (R449, R465). -/
  busy : Bool := false
  /-- The lines of its answer may enter the line cache (R476, R480). -/
  fills : Bool := true
  /-- Media tick at which it was first sent, from which its Age counts (R459). -/
  sentAt : Nat := 0
  /-- Status and data of the response. -/
  answer : Option (Nat × List Byte) := none
  deriving DecidableEq, Repr

/-- An entry of a flag tracker (R447): of a destination, by its site and unit, for a SourceId and FlagPhase. -/
structure Tracker where
  dest : Nat
  source : Nat
  phase : Nat
  /-- StoreIndex bits set, as a number. -/
  bits : Nat := 0
  /-- The held flag, as it arrived (R308, R447); none. -/
  flag : Option HeldPacket := none
  deriving DecidableEq, Repr

/-- An entry of a reply cache (R461): applying site, SourceId, Sequence, outcome and response line. -/
structure Reply where
  site : Nat
  source : Nat
  seq : Nat
  status : Nat
  line : List Byte
  /-- Media tick at which it was applied. -/
  tick : Nat
  deriving DecidableEq, Repr

/-- A packet that waits at a fabric port (R490), with the input that it came by, as the site number. -/
structure PortPacket where
  input : Nat
  packet : Packet
  deriving DecidableEq, Repr

/-- Fabric port X0 to X3 (R481). -/
structure XPort where
  /-- Bit j: lane j in service; 0. -/
  lanes : Nat := 0
  /-- Outcomes of the last 16 identity words of each lane, newest first (R481); none. -/
  words : Tbl (List Bool) := []
  /-- Of the identity words that the footside sends on each lane (R481): the Sequence of the next one, the lease periods since the last
  one, and the last one; 0. -/
  seqs : Tbl Nat := []
  since : Tbl Nat := []
  idents : Tbl Nat := []
  /-- Packets that wait for the port, oldest first (R483, R490); none. -/
  queue : List PortPacket := []
  /-- The input that it serves, and how many packets of that input it may still send in this turn (R490); 0. -/
  turn : Nat := 0
  left : Nat := 0
  /-- The lane to which it dealt its last packet (R490); 0. -/
  lane : Nat := 0
  /-- Bytes that its lanes can still take in this lease period (R481); 0. -/
  credit : Nat := 0
  /-- Packets that left in the last lease period, each with its lane, oldest first; none. -/
  sent : List (Nat × PortPacket) := []
  deriving DecidableEq, Repr

/-- Who awaits the completion of a raised floor (R474): the sender of a trigger, the mailbox of a port, a session of the dictionary
server with the port and the frame, or the writer of the object itself. -/
inductive FenceAsker where
  | trigger (p : Packet)
  | mailbox (port : Nat)
  | station (port session : Nat) (frame : List Byte)
  | writer
  /-- A mailbox request whose port has left Up since: nobody is answered (R608). -/
  | gone
  deriving DecidableEq, Repr

/-- The hub's own bookkeeping of the fabric and the ledger. -/
structure HubCtl where
  /-- The old routing version is not free yet (R487); false. -/
  oldRoute : Bool := false
  /-- Requests without a response that were left as a version was freed after 2 ms, oldest first (R487); none. -/
  stuck : List Nat := []
  /-- Atomics, flags and triggers sent in the last 64 ms: source, DestId and media tick (R462); none. -/
  sends : List (Nat × Nat × Nat) := []
  /-- Raised floors that writes checked before them still hold back: the fence, the number of the raise, and who asked (R474); none. -/
  fences : List (Nat × Nat × FenceAsker) := []
  /-- How often a floor has been raised (R474); 0. -/
  raises : Nat := 0
  /-- Media ticks at which granules of commands and of retirements began to move in the last second (section 7.10); none. -/
  moves : List Nat := []
  /-- The same of the granules that drains move (R335); none. -/
  drains : List Nat := []
  deriving DecidableEq, Repr

/-- Pair roles (Table 12-1). -/
inductive Role where
  | unpaired | alone | active | joining | standby | detached
  deriving DecidableEq, Repr

/-- A completion of a paired stream's entry, as a step entry needs it (Table 12-5), with the entry's smallest slack
(R518). -/
structure StepNote where
  stream : Nat
  die : Nat
  idx : Nat
  pattern : Nat
  hasDraw : Bool
  committed : Bool
  status : Nat
  frame : Nat
  tick : Nat
  /-- The sampling-state record after the entry. -/
  words : List Nat
  /-- Tokens that the entry emitted, in order. -/
  tokens : List Nat
  slack : Option Nat
  deriving DecidableEq, Repr

/-- The output of a stream in a frame (R573, Table 13-16, Table 12-6). -/
structure OutRec where
  stream : Nat
  frame : Nat
  /-- A record is formed: the frame produced output (R573). -/
  formed : Bool
  status : Nat
  seq : Nat
  /-- Media timestamp. -/
  time : Nat
  late : Bool
  payload : List Byte
  /-- The active withholds it (R514, Table 12-7). -/
  carried : Bool
  /-- Ingress bytes placed in the frame (Table 12-6). -/
  ingress : List Byte
  /-- Owner port and ring of the stream when the record was formed, for a stream that closes there (R557, R576). -/
  owner : Nat
  ring : Nat
  deriving DecidableEq, Repr

/-- A step entry of the active as the standby reads it (Table 12-5). -/
structure ActiveStep where
  stream : Nat
  die : Nat
  idx : Nat
  frame : Nat
  hasDraw : Bool
  committed : Bool
  status : Nat
  draws : Nat
  token : Nat
  top1 : Nat
  prob : Nat
  u : Nat
  margin : Nat
  accepted : Nat
  digest : Nat
  drafted : Nat
  deriving DecidableEq, Repr

/-- A known-answer run on a die (R522 to R524): for arbitration or not, its own and the partner's result. -/
structure Kat where
  die : Nat
  frame : Nat
  arb : Bool
  mine : Option Bool := none
  theirs : Option Bool := none
  deriving DecidableEq, Repr

/-- What the pair endpoints send: the messages of Table 12-2, the probes and answers of the packets that carry them, the refusal of a
resync, and what a standby asks over the fabric. -/
inductive PairMsg where
  | hello (h : Hello)
  | pricking (c : PrickCopy)
  | commit (record : List Byte)
  | resync (c : StreamCopy)
  | claim (n : Nat)
  | yield (frame : Nat)
  | kat (m : KatMsg)
  | ping
  | fence (endpoint fence floor : Nat)
  | probe (seq : Nat)
  | writeAck (seq : Nat)
  | probeResp (seq aux : Nat)
  | denied (stream : Nat)
  deriving DecidableEq, Repr

/-- A pair message whose packets are not acknowledged yet (R500): its Sequence, and the probes without an answer. -/
structure PairOut where
  seq : Nat
  msg : PairMsg
  probes : Nat := 0
  deriving DecidableEq, Repr

/-- The redundant pair (chapter 12). -/
structure Pair where
  /-- Role (Table 12-1); unpaired until bring-up reads PairControl (R493). -/
  role : Role := .unpaired
  /-- Bit j: pair lane j in service (R498); 0. -/
  lanes : Nat := 0
  /-- Outcomes of the last 16 identity words of each pair lane (R498); none. -/
  words : Tbl (List Bool) := []
  /-- Lane training runs (Table 12-11); false. -/
  training : Bool := false
  /-- The partner's last HELLO; none. -/
  partner : Option Hello := none
  /-- TimeAligned and ConfigMatch (Table 12-11); false. -/
  aligned : Bool := false
  config : Bool := false
  /-- The unit must be brought up again before it can join (R503); false. -/
  barred : Bool := false
  /-- The first frame waits for a HELLO (R501); false. -/
  waits : Bool := false
  /-- Anchor and FrameLength of a partner that has begun, which the first frame follows: frame, tick and length (R501); none. -/
  follow : Option (Nat × Nat × Nat) := none
  /-- Frame at which a joiner takes the standby role, F + 2 (Table 12-3); none. -/
  standbyAt : Option Nat := none
  /-- Pricking copies that the active sent (R507); none. -/
  copies : List Accepted := []
  /-- Completions of paired streams' entries in the current frame (R508); none. -/
  notes : List StepNote := []
  /-- The frame whose commit record is expected, its completions and own output records, and whether they are still held
  (R510); none. -/
  expect : Option Nat := none
  held : Bool := false
  /-- Its hold has ended without it (R512); false. -/
  late : Bool := false
  heldNotes : List StepNote := []
  heldOut : List OutRec := []
  /-- Own completions of earlier frames that no step entry of the active has met, and step entries of the active whose entries this unit
  has not completed (R517); none. -/
  early : List StepNote := []
  owed : List ActiveStep := []
  /-- Frames in a row whose records were missed (R525); 0. -/
  missed : Nat := 0
  /-- Records applied since the last miss (R532); 0. -/
  applied : Nat := 0
  /-- Classes of the last compared entries per die, newest first, true for Diverged (R520); none. -/
  windows : Tbl (List Bool) := []
  /-- Suspect dies (R520); none. -/
  suspect : List Nat := []
  /-- Dies left out of comparison, since their own check failed alone (Table 12-9); none. -/
  excluded : List Nat := []
  /-- Per die one more than the frame of its last known-answer pass, 0 for none; a pass at bring-up counts as one of the first frame
  (R532); 0. -/
  katPass : Tbl Nat := []
  /-- Suspect dies whose BIST has ended since (Table 12-9); none. -/
  tested : List Nat := []
  /-- Ticks of unresolved divergences per die (Table 12-9); none. -/
  unresolved : Tbl (List Nat) := []
  /-- Tick until which comparison of a die is suspended (Table 12-9); 0. -/
  suspended : Tbl Nat := []
  /-- Known-answer runs without a full outcome; none. -/
  kats : List Kat := []
  /-- Die of the next periodic run (R524); 0. -/
  katNext : Nat := 0
  /-- A takeover waits for the next frame boundary (R527); false. -/
  takes : Bool := false
  /-- A higher partner claim makes this active unit standby at the next boundary (R497); false. -/
  steps : Bool := false
  /-- It has stepped down and fixes no prickings until it is Standby (R497); false. -/
  quiet : Bool := false
  /-- Frame B of a YIELD sent or received (R528); none. -/
  yieldAt : Option Nat := none
  /-- The answer to a PING is awaited before a takeover (R526); false. -/
  pinging : Bool := false
  /-- That answer: claim and frame number; none. -/
  pong : Option (Nat × Nat) := none
  /-- Streams whose copy runs from this unit (R516); none. -/
  copying : List Nat := []
  /-- Streams whose copy to this unit has ended and which become Synced at the next boundary (R516); none. -/
  landed : List Nat := []
  /-- Streams whose resync ended with ACCESS_DENIED (R516); none. -/
  refused : List Nat := []
  /-- A rejoin runs (R534); false. -/
  rejoining : Bool := false
  /-- Tolerances, limits and window in force since the last frame boundary, by dictionary key (R535); the defaults. -/
  limits : Tbl Nat := []
  /-- The messages that the last command sent; none. -/
  sent : List PairMsg := []
  /-- Messages whose packets are not acknowledged yet, oldest first (R500); none. -/
  outbox : List PairOut := []
  deriving DecidableEq, Repr

/-- One slot of a result ring (Table 13-14): its header fields and content bytes. -/
structure Slot where
  gen : Nat := 0xFFFF
  phase : Nat := 1
  kind : Nat := 0
  length : Nat := 0
  status : Nat := 0x05
  content : List Byte := []
  deriving DecidableEq, Repr

/-- A result ring (Table 13-12, R566 to R572). -/
structure Ring where
  /-- Enable; 0. -/
  enable : Bool := false
  /-- SlotCount; 0. -/
  slotCount : Nat := 0
  /-- SlotSize; 0. -/
  slotSize : Nat := 0
  /-- Status of the last write to Enable; 0x00. -/
  status : Nat := 0
  /-- ProducerIndex, 32 bits; 0. -/
  producer : Nat := 0
  /-- Consumer index, 32 bits; 0. -/
  consumer : Nat := 0
  /-- IrqHoldoff in µs; 0. -/
  holdoff : Nat := 0
  /-- Slots reserved for completions (R567); 0. -/
  reserved : Nat := 0
  /-- Records lost since the last loss marker (R571); 0. -/
  lost : Nat := 0
  /-- Tick of the first of them. -/
  firstLoss : Nat := 0
  /-- The holdoff runs since the last raise of the vector (R572); false. -/
  holding : Bool := false
  /-- A raise waits for the holdoff's end (R572); false. -/
  irqWaits : Bool := false
  /-- Slots by slot number; every slot reads as after an enable until it is written. -/
  slots : Tbl Slot := []
  deriving DecidableEq, Repr

/-- A command that the hub has fetched from a submission queue (R555). -/
structure Taken where
  sq : Nat
  /-- Entry index in the queue. -/
  entry : Nat
  /-- Words 0 to 7. -/
  words : List Nat
  /-- Ring in which a completion slot is reserved (R560, R567). -/
  ring : Option Nat
  /-- Ledger epoch of its acceptance (R285, R558). -/
  epoch : Nat := 0
  /-- The entries of a MEMWRITE's or MEMREAD's range as that epoch had them, none where one does not allow it (R558). -/
  range : Option (List (Nat × Nat)) := none
  /-- Its outcome, once the hub has carried it out. -/
  status : Option Nat := none
  deriving DecidableEq, Repr

/-- A submission queue (Table 13-9, R540). -/
structure Sq where
  /-- Enable; 0. -/
  enable : Bool := false
  /-- CompletionValid; 0. -/
  complValid : Bool := false
  /-- CompletionRing; 0. -/
  complRing : Nat := 0
  /-- Head, 10 bits; 0. -/
  head : Nat := 0
  /-- Tail, 10 bits; 0. -/
  tail : Nat := 0
  deriving DecidableEq, Repr

/-- A ledger or staging queue: head, tail and the next entry to take, 8 bits each (R540). -/
structure CmdQueue where
  head : Nat := 0
  tail : Nat := 0
  take : Nat := 0
  /-- Completion statuses of entries between head and take that have completed out of order, by entry index. -/
  finished : Tbl (Option Nat) := []
  deriving DecidableEq, Repr

/-- The BAR4 mailbox of a port (Table 14-9). -/
structure Mailbox where
  /-- The request word at 0x0000; 0. -/
  request : Nat := 0
  /-- Busy; 0. -/
  busy : Bool := false
  /-- Status; 0x00. -/
  status : Nat := 0
  /-- ResponseLength; 0. -/
  respLen : Nat := 0
  /-- The 1,280 data bytes at 0x1000; 0. -/
  data : Tbl Byte := []
  deriving DecidableEq, Repr

/-- States of a host port (Table 13-5). -/
inductive PortSt where
  | down | linked | up
  deriving DecidableEq, Repr

/-- A host port with its BAR0, BAR2 and BAR4 (chapter 13). -/
structure Port where
  /-- PortState (Table 13-5); Down. -/
  st : PortSt := .down
  /-- PortControl (Table 13-4); 0. -/
  control : Nat := 0
  /-- Submission queues 0 to 63. -/
  sqs : Tbl Sq := []
  /-- Result rings 0 to 63. -/
  rings : Tbl Ring := []
  /-- Ledger queue (R540). -/
  ledgerQ : CmdQueue := {}
  /-- Staging queue (R540). -/
  stagingQ : CmdQueue := {}
  /-- Queue memory of BAR0 as 64-bit words, key offset / 8: ledger queue, staging queue, submission queues (Table
  13-2); 0. -/
  bar0 : Tbl Nat := []
  /-- Commands fetched and not yet completed, oldest first (R559). -/
  taken : List Taken := []
  /-- Times that each MSI-X vector has been raised (R572); 0. -/
  msix : Tbl Nat := []
  /-- PERST_N is held low (R717); false. -/
  perst : Bool := false
  /-- The submission queue that the hub serves next on this port (R559); 0. -/
  sqTurn : Nat := 0
  /-- The BAR4 mailbox. -/
  box : Mailbox := {}
  /-- The port has left Up, and its streams are handled once the commands already taken have run (R545); false. -/
  leaving : Bool := false
  deriving DecidableEq, Repr

/-- A SAMPLING, STATEWRITE or STATEREAD that waits for a running step to end (R554), with the bytes that the hub has
read from host memory. -/
structure Deferred where
  port : Nat
  sq : Nat
  entry : Nat
  words : List Nat
  data : List Byte
  /-- The check that it fails, unless R250 refuses it first when its turn comes (R556, R559); none. -/
  fails : Option Nat := none
  deriving DecidableEq, Repr

/-- A fetched command that waits for a frame boundary: its port, queue, entry and words. -/
structure Cmd where
  port : Nat
  sq : Nat
  entry : Nat
  words : List Nat
  deriving DecidableEq, Repr

/-- States of a stream context (R548, Table 13-19). -/
inductive StreamSt where
  | closed | opened | waiting | closing
  deriving DecidableEq, Repr

/-- A stream context (R548 to R557, Table 13-19) with both copies of its state record. -/
structure Stream where
  st : StreamSt := .closed
  /-- Owner port. -/
  owner : Nat := 0
  home : Nat := 0
  paired : Bool := false
  /-- Sync of Table 13-19: 0 unpaired, 1 Synced, 2 Unsynced, 3 led by the standby. -/
  sync : Nat := 0
  failover : Bool := false
  reportSteps : Bool := false
  stateSize : Nat := 0
  outSize : Nat := 0
  ringQ0 : Nat := 0
  ringQ1 : Nat := 0
  /-- Sequence origin F0 (R574). -/
  f0 : Nat := 0
  /-- Bytes emitted, E (R573). -/
  emitted : Nat := 0
  /-- IngressHead, IngressNextSeq, IngressBase, IngressSize and LastPlacedTick (Table 13-7). -/
  inHead : Nat := 0
  inSeq : Nat := 0
  inBase : Nat := 0
  inSize : Nat := 0
  inTick : Nat := 0
  /-- Ingress bytes placed in the current frame, in arrival order (Table 12-6); none. -/
  inBytes : List Byte := []
  /-- Where its record lies in each polder of the home die's pair, and whether the committed copy lies in P2k+1 and the working one in P2k
  (R550; log entry 27). -/
  recBase : Nat := 0
  swapped : Bool := false
  /-- Committed copy of the state record (R550, R551). -/
  committed : Tbl Byte := []
  /-- Working copy. -/
  working : Tbl Byte := []
  /-- Its first 0x40 bytes as the running step found them, which a GET returns (R249); none. -/
  stepHead : List Byte := []
  /-- A step committed with DEADLINE_MISSED since the last output record (R83, Table 13-16). -/
  late : Bool := false
  /-- A late commit fell inside the frame of its deadline, so this frame's record ends at the OutputHead, with the OutputMediaTime,
  from before it (R83); none. -/
  lateFrom : Option (Nat × Nat) := none
  /-- Some step of the stream committed in the current frame (R87). -/
  stepped : Bool := false
  /-- Commands that wait for the running step to end (R554), in order; none. -/
  deferred : List Deferred := []
  /-- The command whose REBIND waits for the frame boundary (Table 13-10); none. -/
  rebind : Option Cmd := none
  /-- The command whose CLOSE waits for an idle frame boundary (R557); none. -/
  closer : Option Cmd := none
  /-- The stream closes with event ClosedByLimit (R547). -/
  limit : Bool := false
  deriving DecidableEq, Repr

/-- A frame that the dictionary server sends: a response or a notify (Table 14-5). -/
structure DapFrame where
  /-- Field network port that it leaves by (R590). -/
  port : Nat
  /-- 2 response, 3 notify. -/
  type : Nat
  opcode : Nat
  status : Nat
  session : Nat
  request : Nat
  index : Nat
  sub : Nat
  payload : List Byte := []
  /-- The 16 bytes of the MAC; none without one (R591). -/
  mac : List Byte := []
  deriving DecidableEq, Repr

/-- A session of the dictionary access protocol (R594 to R601). -/
structure Session where
  id : Nat
  level : Nat
  /-- Key entry that it opened with. -/
  entry : Nat
  stationNonce : List Byte
  deviceNonce : List Byte
  /-- AUTH has succeeded; false: pending. -/
  isOpen : Bool := false
  /-- Session key, 64 bytes (R597). -/
  key : List Byte := []
  /-- Newest RequestId carried out (R599); 0. -/
  newest : Nat := 0
  /-- The last 32 responses, newest first (R599). -/
  kept : List DapFrame := []
  /-- Watched subindices with the value last sent (R601). -/
  watch : List (Nat × Nat) := []
  /-- Notifies sent (R601). -/
  notifies : Nat := 0
  deriving DecidableEq, Repr

/-- The dictionary server and the field network ports (chapter 14). -/
structure Dap where
  /-- Sessions, oldest first (R594); none. -/
  sessions : List Session := []
  /-- SessionIds used since bring-up (R596); none. -/
  used : List Nat := []
  /-- Region times of the sessionless answers of the last second (R593); none. -/
  answers : List Nat := []
  /-- Field network settings in force, by dictionary key (R589); their defaults. -/
  net : Tbl Nat := []
  /-- Settings that wait for their second, oldest first: key and value (R589); none. -/
  netNext : List (Nat × Nat) := []
  /-- The physical link of each port (R587); none. -/
  link : Tbl Bool := []
  /-- The frames that the last command sent; none. -/
  sent : List DapFrame := []
  /-- RestoreDefaults was written (R606); false. -/
  restore : Bool := false
  deriving DecidableEq, Repr

/-- Trip states of a die or ring region (R630, R634, R636; Table 15-13). -/
inductive TripSt where
  | none | tripped | pending | latched
  deriving DecidableEq, Repr

/-- Thermal control of a compute die (0 to 7), the hub (8) or the ring region of site x (16 + x) (sections 15.6 and 15.7).
Temperatures are in units of 0.125 °C. -/
structure Thermal where
  trip : TripSt := .none
  /-- A tripped die still reads 112 °C or more after 4 further rounds, so all of it stops (R631); false. -/
  hard : Bool := false
  /-- Rounds at 112 °C or more since the trip; 0. -/
  hot : Nat := 0
  /-- Ticks of the trips of the last hour (R636); none. -/
  trips : List Nat := []
  /-- Rounds spent in restart pending without a break (R634); 0. -/
  rest : Nat := 0
  /-- Die maximum at the last round (R624); none before the first. -/
  last : Option Int := none
  /-- Rises of the last rounds, newest first (R628); none. -/
  rises : List Int := []
  /-- Warn (Table 15-5); false. -/
  warn : Bool := false
  /-- The rate throttle stands (Table 15-5); false. -/
  rate : Bool := false
  /-- Consecutive rounds with rises below RiseWarnPerRound; 0. -/
  calm : Nat := 0
  /-- The point that the junction throttle holds the die at (Table 15-5); 0, which holds nothing. -/
  lowered : Nat := 0
  /-- Rounds at or above ThrottleJunction at point 2; 0. -/
  hotAt2 : Nat := 0
  /-- Engines issue on alternate cycles only (Table 15-5); false. -/
  half : Bool := false
  /-- Consecutive rounds below ThrottleJunction − 5 °C; 0. -/
  cool : Nat := 0
  /-- The point from which the die steps up after the throttles have lifted or a restart (Table 15-5, R635); 0. -/
  climb : Nat := 0
  /-- It steps up one point per second rather than per boundary: after a restart (R635); false. -/
  slow : Bool := false
  /-- Tick from which that second counts (R635); 0. -/
  climbTick : Nat := 0
  deriving DecidableEq, Repr

/-- A temperature sensor (Table 15-4, R625, R626). -/
structure Sensor where
  /-- Reading of the last round, units of 0.125 °C; 0. -/
  reading : Int := 0
  /-- Values of the last rounds, newest first, at most nine (R417, R626); none. -/
  values : List Int := []
  /-- Its fuse-held neighbours (R625); DESIGN CHOICE none (log entry 1). -/
  near : List Nat := []
  suspect : Bool := false
  /-- Consecutive rounds more than 6 °C from the median of its neighbours; 0. -/
  off : Nat := 0
  /-- Consecutive rounds within 3 °C of it while suspect; 0. -/
  within : Nat := 0
  deriving DecidableEq, Repr

/-- Why the module is in Fault-off (R612, R632, R638, R643). -/
inductive FaultOff where
  | none | clock | hubTrip | input | rail
  deriving DecidableEq, Repr

/-- What a synchronised change does (R617, R708). -/
inductive Sync where
  | point (die point : Nat)
  | stop
  deriving DecidableEq, Repr

/-- A synchronised change that waits for its time count (R617). -/
structure Change where
  time : Nat
  what : Sync
  deriving DecidableEq, Repr

/-- Clocks, region time, input power and power states (chapter 15). -/
structure Power where
  /-- Oscillators present (Table 15-12); false. -/
  primary : Bool := false
  secondary : Bool := false
  /-- ActiveOscillator (Table 15-12); 0. -/
  osc : Nat := 0
  /-- SyncCorrectionMax (Table 15-12); 0. -/
  correction : Nat := 0
  /-- The hub's region time, units of 62.5 ps (R616); 0. -/
  time : Nat := 0
  /-- Deviation of each region's time counter from the hub's, units of 62.5 ps, by region in the order of Table 15-1 with
  the die ports, host ports and always-on regions after the 54 stretching ones (R616); 0. -/
  skew : Tbl Int := []
  /-- Synchronised changes that wait, in the order in which they were sent (R617); none. -/
  changes : List Change := []
  /-- Time added by stretching per region, in units of 62.5 ps / 175,560 (R615); 0. -/
  stretch : Tbl Nat := []
  /-- The power cap holds each die at this point or a slower one (R639); 0. -/
  capped : Tbl Nat := []
  /-- The input has been low and not yet restored, so the cap is at most 2,600 W (R638); false. -/
  low : Bool := false
  /-- Input power of the last eight rounds in W, newest first (R639); none. -/
  watts : List Nat := []
  /-- Power of each compute die at the last round, W (R639); none. -/
  dieWatts : List Nat := []
  /-- Consecutive rounds with the average 100 W or more below the effective cap (R640); 0. -/
  under : Nat := 0
  /-- Low coolant flow holds every die at point 2 (R641); false. -/
  flowHold : Bool := false
  /-- Consecutive rounds with a flow below 2.0 L/min, and at 3.0 L/min or more (R641); 0. -/
  flowLow : Nat := 0
  flowGood : Nat := 0
  /-- Why the module is in Fault-off; it is not. -/
  fault : FaultOff := .none
  /-- Retention was asked for and dispatch stops at the next frame boundary (R645); false. -/
  retains : Bool := false
  deriving DecidableEq, Repr

/-- Progress of a live update (R672 to R680). -/
inductive UpdatePh where
  | none | staging | staged | applying | reverting | stopped | committed
  deriving DecidableEq, Repr

/-- A live update (section 16.7). -/
structure Update where
  ph : UpdatePh := .none
  /-- Component of the update; 0. -/
  comp : Nat := 0
  /-- Slot that holds the new image; 0. -/
  slot : Nat := 0
  /-- The image that the staging that runs has read. -/
  image : List Byte := []
  /-- Frame at whose boundary the next slice starts, or the last one started (R674). -/
  frame : Nat := 0
  /-- Tick until which a die whose sequencer manager is being replaced holds its grants (Table 16-4, SliceHold). -/
  holdTo : Nat := 0
  /-- A new hub boot stage waits for the next bring-up (R680); false. -/
  boot : Bool := false
  /-- The instance whose slice was abandoned and waits for its die or region (R677). -/
  waits : Bool := false
  /-- An instance whose new image has not reported itself alive yet (R676), and the slot that it ran before. -/
  fresh : Option (Nat × Nat) := none
  /-- It returns to the old image at the next frame boundary (R676). -/
  back : Option (Nat × Nat) := none
  /-- The switching under way is a revert (R679). -/
  reverts : Bool := false
  /-- A revert has run since the last slice (R680). -/
  reverted : Bool := false
  /-- Tick of the last slice (R680). -/
  last : Nat := 0
  deriving DecidableEq, Repr

/-- An SPDM response (R670): its code and content. -/
structure SpdmResp where
  port : Nat
  code : Nat
  content : List Byte
  signature : List Byte := []
  deriving DecidableEq, Repr

/-- Identity, images and updates (chapter 16). -/
structure Sec where
  /-- Values that fuses hold, by dictionary key: serial number, revision, MAC addresses, identity key and chain, root key
  hash, vendor service key (Tables 14-10, 14-11, 16-10); DESIGN CHOICE 0 (log entry 1). -/
  fuses : Tbl Nat := []
  /-- Blown bits of the field-seal fuse, of four (R602); 0. -/
  sealBits : Nat := 0
  /-- The field seal is armed (R603); false. -/
  armed : Bool := false
  /-- Image slots, key component × 2 + slot; empty. -/
  slots : Tbl (List Byte) := []
  /-- Active slot per component; 0. -/
  active : Tbl Nat := []
  /-- Rollback counters and raises that the store records, per component (R666); 0. -/
  counters : Tbl Nat := []
  raises : Tbl Nat := []
  /-- Blown bits of each component's fuse array, of 256 (R666); 0. -/
  blown : Tbl Nat := []
  /-- The image that each instance runs: key component × 16 + instance, slot + 1; 0, none. -/
  runs : Tbl Nat := []
  /-- The SHA-512 of every image started, by component × 32 + instance × 2 + slot, 64 bytes each (R665); none. -/
  measures : Tbl (List Byte) := []
  /-- The update. -/
  update : Update := {}
  /-- Recovery: an accepted length, the offsets loaded, and the offset (R664); none. -/
  recLength : Option Nat := none
  recPieces : List Nat := []
  recOffset : Nat := 0
  /-- SPDM connections: requests negotiated so far on each port (R670); 0. -/
  spdm : Tbl Nat := []
  /-- Messages that a CHALLENGE or GET_MEASUREMENTS signature covers, per port; empty. -/
  transcript : Tbl (List Byte) := []
  /-- The last SPDM response; none. -/
  spdmSent : Option SpdmResp := none
  deriving DecidableEq, Repr

/-- A BIST slice that runs. -/
structure BistSlice where
  unit : BistUnit
  /-- It runs again after a failure (R688). -/
  again : Bool := false
  deriving DecidableEq, Repr

/-- A trace record (Table 17-4). -/
structure TraceRec where
  stamp : Nat
  cls : Nat
  site : Nat
  unit : Nat
  event : Nat
  seq : Nat
  arg0 : Nat
  arg1 : Nat
  deriving DecidableEq, Repr

/-- A site's trace buffer (R695, R697). -/
structure TraceBuf where
  recs : List TraceRec := []
  /-- Records of the site since Enable; 0. -/
  seq : Nat := 0
  /-- Records dropped since the buffer was last full, and the stamp of the first; 0. -/
  dropped : Nat := 0
  first : Nat := 0
  deriving DecidableEq, Repr

/-- How a freeze stands (R706 to R710). -/
inductive FreezeSt where
  | none | asked | draining | stopping | frozen | atOnce
  deriving DecidableEq, Repr

/-- Self-test, trace and freeze (chapter 17). -/
structure Test where
  /-- BIST slices that run; none. -/
  slices : List BistSlice := []
  /-- Dies under a full test (R689); none. -/
  dieTests : List Nat := []
  /-- Housekeeping rounds in service, which the BIST cycle counts (R681, R687); 0. -/
  clock : Nat := 0
  /-- The clock at the end of each unit's last slice, by the unit's key (R681); 0. -/
  last : Tbl Nat := []
  /-- The die whose test DieBistStatus reports; none. -/
  dieCmd : Option Nat := none
  /-- The module came up in test mode: bring-up stopped after step 5 (R692); false. -/
  testMode : Bool := false
  /-- The instruction that the test port carries out (R692); BYPASS. -/
  tap : TapInstr := .bypass
  /-- The access ports that it went through, in their order: site and layer, 0 Ground region, 1 bank layer, 2 logic layer or the one die
  (R691); none. -/
  chain : List (Nat × Nat) := []
  /-- Site trace buffers; empty. -/
  bufs : Tbl TraceBuf := []
  /-- Blocks of the trace region written since Enable (R695); 0. -/
  blocks : Nat := 0
  /-- The trace copy that runs: offset, length and address (R700); none. -/
  copy : Option (Nat × Nat × Nat) := none
  /-- The freeze. -/
  freeze : FreezeSt := .none
  /-- Frame and region time of the cut (Table 17-8); 0. -/
  cutFrame : Nat := 0
  cutTime : Nat := 0
  /-- A release takes effect at the next frame boundary (R710); false. -/
  release : Bool := false
  deriving DecidableEq, Repr

/-- Why the block would stop. No command of this model stops: every row of the table has an effect, or leaves the
state as it is where its condition does not hold (log entry 2). The type has no constructor that a meaning uses. -/
inductive Fault where
  /-- Raised by no command; safe. -/
  | never
  deriving DecidableEq, Repr

/-- Why a command has no meaning. -/
inductive Refusal where
  /-- Raised by an arm of the dispatch whose row has no meaning in this model; safe. -/
  | notModelled (mnemonic : String)
  deriving DecidableEq, Repr

/-- The state of the module and the queue of waiting commands. -/
structure State where
  /-- The object dictionary's values, by key index × 256 + subindex: RW values, counters, statuses and sticky bits;
  an unlisted key reads its default (R581, the object tables). Reset: nothing listed. -/
  dict : Tbl Nat := []
  /-- The non-volatile store of R605: the kept values, by key. Reset: nothing kept. -/
  nv : Tbl Nat := []
  /-- The status that the last dictionary, register or doorbell write was answered with (R26). Reset: OK. -/
  lastStatus : Nat := 0
  /-- The model's own counter of free values (log entry 4). Reset: 0. -/
  freeCtr : Nat := 0
  /-- Host memory as the module has written it: port × 2^64 + address (R540). Reset: nothing listed. -/
  hostMem : Tbl Byte := []
  /-- The media timebase (R56 to R71). -/
  tb : Timebase := {}
  /-- The pricking store (R72 to R78). -/
  prick : Prickings := {}
  /-- Entries of begun frames, oldest frame first, by index (R79); none. -/
  entries : List Entry := []
  /-- Physical cores, key die × 64 + position (R33, R49). -/
  cores : Tbl PCore := []
  /-- The running part of each physical core, by the same key; none. -/
  runs : Tbl (Option CoreRun) := []
  /-- Compute dies C0 to C7. -/
  dies : Tbl Die := []
  /-- Granted steps; none. -/
  grants : List Grant := []
  /-- Number of the next grant; 0. -/
  nextGrant : Nat := 0
  /-- Transfers of discarded steps (R228); none. -/
  orphans : List Orphan := []
  /-- Every unit has stopped issuing and sending at a freeze at once (R708); false. -/
  stopped : Bool := false
  /-- The fuse map, written at manufacture (R654); DESIGN CHOICE: empty (log entry 1). -/
  fuseMap : List MapEntry := []
  /-- The field map in the hub's non-volatile store (R654); empty. -/
  fieldMap : List MapEntry := []
  /-- The pattern load that runs (R223); none. -/
  patCmd : Option PatCmd := none
  /-- Dispatch has stopped: the managers grant no entry and the hub takes no command (R645, R707); false. -/
  halted : Bool := false
  /-- Polder memories (units 0 to 15) and tier channels (units 16 to 31). -/
  stores : Tbl Store := []
  /-- The eight ledger replicas, key die × 2^25 + index (R273, R279); 0 (R280). -/
  ledger : Tbl Nat := []
  /-- Translation caches of the sixteen controllers: key polder × 512 + set, most recently used first (R282); empty. -/
  tlb : Tbl (List CacheLine) := []
  /-- Ledger epochs flipped so far (R285); 0. -/
  epoch : Nat := 0
  /-- Held frames (R286); none. -/
  heldFrames : List HeldFrame := []
  /-- Migrations under way (R299); none. -/
  migs : List Migration := []
  /-- The ledger command that runs (R289); none. -/
  ledgerCmd : Option LedgerCmd := none
  /-- Which port's ledger queue the hub takes from next (R559); 0. -/
  ledgerTurn : Nat := 0
  /-- Tier channels D0 to D15. -/
  chans : Tbl Chan := []
  /-- Staging commands accepted, in queue order; none. -/
  staging : List StageCmd := []
  /-- Which port's staging queue the hub takes from next (log entry 29); 0. -/
  stagingTurn : Nat := 0
  /-- Ring trims in the hub's non-volatile store, by ring key (R408); DESIGN CHOICE 0 (log entry 1). -/
  nvTrims : Tbl Trims := []
  /-- Trim words of the rings as they stood at the last housekeeping round, by ring key (R414); 0. -/
  trimWords : Tbl Nat := []
  /-- TrimApplyMode in force since the last frame boundary (R424); 0. -/
  trimMode : Nat := 0
  /-- The sites whose commanded calibrations run, which CalStatus reports (R420); none. -/
  calCmd : List Nat := []
  /-- Ground regions by site number (Table 9-1). -/
  regions : Tbl Region := []
  /-- Microrings, key site × 1,344 + slot (R392). -/
  rings : Tbl MicroRing := []
  /-- Lanes, key site × 96 + n (R339). -/
  lanes : Tbl Lane := []
  /-- Paths of brides, key (source × 12 + destination) × 96 + n (R343). -/
  paths : Tbl Path := []
  /-- Lease arbiters by destination site (R349). -/
  arbiters : Tbl Arbiter := []
  /-- Laser modules A (0) and B (1). -/
  lasers : Tbl Laser := []
  /-- Mismatch reports that the hub has not attributed yet: receiver, lane and word (R368); none. -/
  identReports : List (Nat × Nat × Nat) := []
  /-- Guests G0 (0) and G1 (1). -/
  guests : Tbl Guest := []
  /-- Requests without a response, oldest first (R451); none. -/
  requests : List Request := []
  /-- Next Sequence per source, key SourceId bits [11:0] (R430); 0. -/
  seqs : Tbl Nat := []
  /-- FlagPhase per source and destination, key source × 2^24 + DestId (R444); 0. -/
  phases : Tbl Nat := []
  /-- Flag trackers of all sites (R447); none. -/
  trackers : List Tracker := []
  /-- Reply caches of all sites, oldest first (R461); none. -/
  replies : List Reply := []
  /-- Sites whose reply cache guards its first 64 ms after a restart (R464); none. -/
  guards : List Nat := []
  /-- The response that the module sent last; none. -/
  lastResponse : Option Response := none
  /-- The fabric line cache: endpoint × 2^42 + line and its 64 bytes, newest first (R476); empty. -/
  lineCache : List (Nat × List Byte) := []
  /-- Fabric ports X0 to X3. -/
  xports : Tbl XPort := []
  /-- Routing entries, key version × 2^14 + port × 4,096 + endpoint (R482); 0. -/
  routes : Tbl Nat := []
  /-- The hub's bookkeeping of routing versions, sends, fences and migrations (R462, R474, R487). -/
  hub : HubCtl := {}
  /-- The route load that runs: its outcome and the image (R486); none. -/
  routeLoad : Option (Nat × List Byte) := none
  /-- The redundant pair (chapter 12). -/
  pair : Pair := {}
  /-- Host ports Q0 and Q1. -/
  ports : Tbl Port := []
  /-- Stream contexts, by StreamId; Closed. -/
  streams : Tbl Stream := []
  /-- The port whose submission queues the hub serves next (R559); 0. -/
  sqPort : Nat := 0
  /-- The dictionary server and the field network ports (chapter 14). -/
  dap : Dap := {}
  /-- Thermal control of the compute dies, the hub and the ring regions (chapter 15). -/
  thermals : Tbl Thermal := []
  /-- Temperature sensors by number (R623): 48 of each compute die, 24 of the hub from 384, 64 of the Ground from 408, 4 of
  each HBM4 stack from 472. -/
  sensors : Tbl Sensor := []
  /-- Clocks, region time, input power and power states (chapter 15). -/
  pw : Power := {}
  /-- Identity, images and updates (chapter 16). -/
  sec : Sec := {}
  /-- Self-test, trace and freeze (chapter 17). -/
  test : Test := {}
  /-- Commands waiting, first in, first out; empty after reset. -/
  pending : List Instr := []
  deriving DecidableEq, Repr

/-- The module after reset: no bring-up step has run (log entry 1). -/
def State.reset : State := {}

/-- The outcome of a command. -/
abbrev Out := Host.Outcome State Fault Refusal

end Sys2Proof.Machine
end

