-- ==== Sys2Proof/Machine/Codes.lean ====
section
/-! DEFINITION. The codes that the spec's tables give outcomes, states, modes and roles, and the field of a word. -/

namespace Sys2Proof

/-- The field `[msb:lsb]` of a word, as a number (R13). -/
def fieldOf {n : Nat} (w : BitVec n) (msb lsb : Nat) : Nat :=
  (w.toNat / 2 ^ lsb) % 2 ^ (msb + 1 - lsb)

/-- The 8-bit code of an outcome (Table 0-7). -/
def Status.code : Status → Nat
  | .ok => 0x00 | .discarded => 0x01 | .lengthExceeds => 0x02 | .badAlign => 0x03
  | .notReady => 0x04 | .stale => 0x05 | .unknownOutcome => 0x06 | .fenced => 0x07
  | .epochMismatch => 0x08 | .accessDenied => 0x09 | .sealed => 0x0A | .regionDark => 0x0B
  | .deadlineMissed => 0x0C | .typeMismatch => 0x0D | .noSuchObject => 0x0E | .busy => 0x0F
  | .badSignature => 0x10 | .rollback => 0x11
  | .trap => 0x80 | .runLimit => 0x81 | .uncorrected => 0x82 | .coreLost => 0x83

end Sys2Proof

namespace Sys2Proof.Machine

open Sys2Proof

/-- The site of die Ck (Table 9-1). -/
def siteOfDie (k : Nat) : Nat := if k < 4 then k else k + 4

/-- The compute die at a site, if any. -/
def dieAt (site : Nat) : Option Nat := if site < 4 then some site else if 8 ≤ site ∧ site < 12 then some (site - 4) else none

/-- TimebaseState of Table 2-4. -/
def TbState.code : TbState → Nat
  | .acquiring => 0 | .locked => 1 | .holdover => 2 | .freeRun => 3

/-- The code of a class; smaller is more urgent (R80). -/
def EntryClass.code : EntryClass → Nat
  | .live => 0 | .nearLive => 1 | .bulk => 2

/-- Is the state final (Table 2-8)? -/
def EntrySt.final : EntrySt → Bool
  | .committed | .withdrawn | .discarded => true
  | _ => false

/-- The CoreMode code of Table 3-7. -/
def CoreMode.code : CoreMode → Nat
  | .spare => 0 | .inService => 1 | .outAtBringUp => 2 | .outInService => 3 | .copying => 4

/-- The State code of Table 8-6. -/
def ChanSt.code : ChanSt → Nat
  | .empty => 0 | .discovering => 1 | .training => 2 | .inService => 3 | .draining => 4 | .drained => 5
  | .failed => 6 | .refused => 7

/-- The State code of Table 10-4. -/
def RingSt.code : RingSt → Nat
  | .parked => 0 | .sweeping => 1 | .locked => 2 | .lost => 3 | .notFitted => 4 | .out => 5

/-- The TxState code of Table 9-11. -/
def LaneSt.code : LaneSt → Nat
  | .idle => 0 | .leased => 1 | .standing => 2 | .training => 3 | .relocking => 4 | .out => 5 | .dark => 6 | .notFitted => 7

/-- The LaserModuleState code of Table 9-12. -/
def LaserSt.code : LaserSt → Nat
  | .absent => 0 | .seated => 1 | .rampUp => 2 | .supplying => 3 | .flagged => 4 | .rampDown => 5 | .removable => 6 | .failed => 7

/-- The code of a role (Table 12-1). -/
def Role.code : Role → Nat
  | .unpaired => 0 | .alone => 1 | .active => 2 | .joining => 3 | .standby => 4 | .detached => 5

/-- The PortState code of Table 13-5. -/
def PortSt.code : PortSt → Nat
  | .down => 0 | .linked => 1 | .up => 2

/-- The State code of Table 13-19. -/
def StreamSt.code : StreamSt → Nat
  | .closed => 0 | .opened => 1 | .waiting => 2 | .closing => 3

end Sys2Proof.Machine
end

