-- ==== Sys2Proof/Machine/Ops.lean ====
section
/-! DEFINITION. The operations that the families share: dictionary values, counters, answers, free values, units of the
state by number, and the posting of slots into result rings (R566 to R572). -/

namespace Sys2Proof.Machine

open Sys2Proof

/-! Dictionary values. -/

/-- The value stored at a dictionary key (R581). -/
def State.reg (s : State) (k : Nat) : Nat := Tbl.get (dictDflt k) s.dict k

/-- Store a dictionary value. -/
def State.setReg (s : State) (k v : Nat) : State := { s with dict := Tbl.put (dictDflt k) s.dict k v }

/-- Store an RW value, kept in the non-volatile store unless it is a selector (R605). -/
def State.keep (s : State) (k v : Nat) : State :=
  let s1 := s.setReg k v
  if isSelector k then s1 else { s1 with nv := Tbl.put (dictDflt k) s1.nv k v }

/-- Add to a counter object. -/
def State.addReg (s : State) (k n : Nat) : State := s.setReg k (s.reg k + n)

/-- Count one event. -/
def State.bump (s : State) (k : Nat) : State := s.addReg k 1

/-- Set sticky bits of an object whose Access is RO/W1C (R24). -/
def State.stick (s : State) (k bits : Nat) : State := s.setReg k (s.reg k ||| bits)

/-- Answer a write with a status (R26). -/
def State.answer (s : State) (st : Status) : State := { s with lastStatus := st.code }

/-- Answer a write with a status code. -/
def State.answerCode (s : State) (c : Nat) : State := { s with lastStatus := c }

/-- The free value that stands next (log entry 4). -/
def State.free (s : State) : Nat := Config.freeNat s.freeCtr

/-- A status that no rule states: one of the codes 0x00 to 0x11 of Table 0-7, and which is open (R26; log entry 37). -/
def State.freeStatus (s : State) : Nat := s.free % 18

/-- Use up one free value. -/
def State.tickFree (s : State) : State := { s with freeCtr := s.freeCtr + 1 }

/-- The next state when a condition holds, the state as it is otherwise (log entry 2). -/
def when (b : Bool) (t s : State) : State := if b then t else s

/-! Ledger entries (Table 7-4). -/

def eValid (e : Nat) : Bool := bits e 63 63 = 1
def ePlacement (e : Nat) : Nat := bits e 62 61
def eCodec (e : Nat) : Nat := bits e 60 59
def eWrite (e : Nat) : Bool := bits e 58 58 = 1
def eFabric (e : Nat) : Bool := bits e 57 57 = 1
def eGuest (e : Nat) : Bool := bits e 56 56 = 1
def ePinned (e : Nat) : Bool := bits e 55 55 = 1
def eMigrating (e : Nat) : Bool := bits e 54 54 = 1
def eAccessed (e : Nat) : Bool := bits e 52 52 = 1
def eDirty (e : Nat) : Bool := bits e 51 51 = 1
def eOwner (e : Nat) : Nat := bits e 50 37
def eOwnerValid (e : Nat) : Bool := bits e 36 36 = 1
def eUnit (e : Nat) : Nat := bits e 23 20
def eFrame (e : Nat) : Nat := bits e 19 0

/-- Ledger index of a virtual address (Table 7-3). -/
def ledgerIndex (tier : Bool) (va : Nat) : Nat := if tier then 2 ^ 24 + va / 2 ^ 18 else va / 2 ^ 16

/-- Bytes of a granule as a power of two. -/
def granShift (tier : Bool) : Nat := if tier then 18 else 16

/-- Size of a virtual space (Table 7-3). -/
def spaceSize (tier : Bool) : Nat := if tier then 2 ^ 42 else 2 ^ 40

/-- Entry i in the replica of a die (R279). -/
def State.entryAt (s : State) (die i : Nat) : Nat := Tbl.get 0 s.ledger (die * 2 ^ 25 + i)

/-- The key of SecureBootState. -/
def keyBootState : Nat := okey 0xA001 0

/-- Does a live update pause an instance of a component: its new image has started and not reported itself alive (R674,
Table 16-4; log entry 46)? -/
def State.pausedBy (s : State) (comp inst : Nat) : Bool :=
  decide (s.sec.update.comp = comp) && (match s.sec.update.fresh with | some f => decide (f.1 = inst) | none => false)

/-- Does an instance run an image of its component (R663)? -/
def State.hasImage (s : State) (comp inst : Nat) : Bool := decide (Tbl.get 0 s.sec.runs (comp * 16 + inst) ≠ 0)

/-- Append a field map entry, or set MapFull when the map holds 65,536 (R654, R656). -/
def State.mapRecord (s : State) (e : MapEntry) : State :=
  if s.fieldMap.length < 65536 then { s with fieldMap := s.fieldMap ++ [e] } else s.stick keyBootState (2 ^ 22)

/-! Units of the state by number. -/

def coreKey (die m : Nat) : Nat := die * 64 + m

def State.core (s : State) (k : Nat) : PCore := Tbl.get {} s.cores k
def State.setCore (s : State) (k : Nat) (c : PCore) : State := { s with cores := Tbl.put {} s.cores k c }
def State.run (s : State) (k : Nat) : Option CoreRun := Tbl.get none s.runs k
def State.setRun (s : State) (k : Nat) (r : Option CoreRun) : State := { s with runs := Tbl.put none s.runs k r }
def laneKey (site n : Nat) : Nat := site * 96 + n
def State.lane (s : State) (site n : Nat) : Lane := Tbl.get {} s.lanes (laneKey site n)
def State.setLane (s : State) (site n : Nat) (x : Lane) : State := { s with lanes := Tbl.put {} s.lanes (laneKey site n) x }
def State.dieOf (s : State) (d : Nat) : Die := Tbl.get {} s.dies d
def State.setDie (s : State) (d : Nat) (x : Die) : State := { s with dies := Tbl.put {} s.dies d x }
def State.store (s : State) (u : Nat) : Store := Tbl.get {} s.stores u
def State.setStore (s : State) (u : Nat) (x : Store) : State := { s with stores := Tbl.put {} s.stores u x }
def State.chan (s : State) (n : Nat) : Chan := Tbl.get {} s.chans n
def State.setChan (s : State) (n : Nat) (x : Chan) : State := { s with chans := Tbl.put {} s.chans n x }
def State.port (s : State) (p : Nat) : Port := Tbl.get {} s.ports p
def State.setPort (s : State) (p : Nat) (x : Port) : State := { s with ports := Tbl.put {} s.ports p x }
def State.stream (s : State) (i : Nat) : Stream := Tbl.get {} s.streams i
def State.setStream (s : State) (i : Nat) (x : Stream) : State := { s with streams := Tbl.put {} s.streams i x }

def Port.sq (p : Port) (i : Nat) : Sq := Tbl.get {} p.sqs i
def Port.setSq (p : Port) (i : Nat) (x : Sq) : Port := { p with sqs := Tbl.put {} p.sqs i x }
def Port.ring (p : Port) (i : Nat) : Ring := Tbl.get {} p.rings i
def Port.setRing (p : Port) (i : Nat) (x : Ring) : Port := { p with rings := Tbl.put {} p.rings i x }

/-- The physical core that carries enabled number n of a die (R11). -/
def State.physOf (s : State) (die n : Nat) : Option Nat :=
  (List.range 52).find? (fun m => (s.core (coreKey die m)).number == some n)

/-- Is a core in service: enabled and not mapped out (R12, R132)? A core with a bank copy in progress serves. -/
def PCore.serves (c : PCore) : Bool := c.number.isSome && (c.mode == .inService || c.mode == .copying)

/-- Enabled cores of a die in service, as physical positions in ascending enabled number (R50). -/
def State.servingCores (s : State) (die : Nat) : List Nat :=
  (List.range 52).filter (fun m => (s.core (coreKey die m)).serves)

/-- CoresInService of Table 1-8. -/
def State.coresInService (s : State) (die : Nat) : Nat := (s.servingCores die).length

/-! Media time at the sites (R71). -/

/-- The media tick that a site reads from its region time with its last anchor (R71); the hub's count before the first. -/
def Timebase.tickAt (tb : Timebase) (site : Nat) : Nat :=
  let a := Tbl.get {} tb.anchors site
  if a.period = 0 then tb.count else a.tick + divRne (tb.elapsed - a.elapsed) a.period

/-- The media tick on a die, by which its sequencer manager judges entries and stamps steps (R88). -/
def State.dieTick (s : State) (die : Nat) : Nat := s.tb.tickAt (siteOfDie die)

/-! Counter objects of the ports (Table 13-18). -/

def hostCtr (p i : Nat) : Nat := okey (if p = 0 then 0x3020 else 0x3021) i

/-! Slots (R566 to R572). -/

/-- Slots written and not returned. -/
def Ring.inUse (r : Ring) : Nat := (r.producer + 2 ^ 32 - r.consumer) % 2 ^ 32

/-- Slots neither full nor reserved (R567). -/
def Ring.free (r : Ring) : Nat := r.slotCount - r.inUse - r.reserved

/-- Write the slot of the next index: content, then header (R568, R569), and raise the ring's vector under R572. -/
def Ring.write (r : Ring) (kind : Nat) (content : List Byte) : Ring :=
  let x := r.producer
  { r with
    slots := Tbl.ins r.slots (x % r.slotCount)
      { gen := x / r.slotCount % 2 ^ 16, phase := x / r.slotCount % 2, kind := kind,
        length := content.length, status := 0, content := content }
    producer := (x + 1) % 2 ^ 32
    irqWaits := r.irqWaits || r.holding
    holding := r.holding || decide (r.holdoff ≠ 0) }

/-- The header word of a slot (Table 13-14). -/
def Slot.header (x : Slot) : Nat := x.gen % 2 ^ 16 * 2 ^ 48 + x.phase % 2 * 2 ^ 47 + x.kind % 256 * 2 ^ 32 + x.length % 2 ^ 16 * 2 ^ 16 + x.status % 256

/-- The bytes of a slot: the header and the content after it (R568); bytes past the content, which the spec leaves open, read 0 (log entry
42). -/
def Slot.bytes (x : Slot) (size : Nat) : List Byte :=
  (leBytes 8 x.header ++ x.content ++ List.replicate (size - 8 - x.content.length) (0 : Byte)).take size

/-- n bytes of BAR2 from an offset of a ring: a slot is served wholly as it stands before or after the command that writes it, and what lies
past the ring's slots reads 0 (R538, R569). -/
def Ring.read (r : Ring) (off n : Nat) : List Byte :=
  (List.range n).map (fun i =>
    let a := off + i
    if r.slotSize = 0 ∨ r.slotCount * r.slotSize ≤ a then 0
    else ((Tbl.get {} r.slots (a / r.slotSize)).bytes r.slotSize).getD (a % r.slotSize) 0)

/-- Count one record that found no slot (R571). -/
def Ring.lose (r : Ring) (tick : Nat) : Ring :=
  { r with lost := r.lost + 1, firstLoss := if r.lost = 0 then tick else r.firstLoss }

/-- Write the loss marker, if records were lost and a slot is free (R571, Table 13-15). -/
def Ring.mark (r : Ring) : Ring :=
  if r.enable && decide (r.lost ≠ 0) && decide (r.free ≠ 0) && decide (24 ≤ r.slotSize) then
    { r.write 0x06 (leBytes 8 (r.lost % 2 ^ 32 * 2 ^ 32) ++ leBytes 8 r.firstLoss) with lost := 0 }
  else r

/-- Raise the vector of ring i for the writes that took r to r' (R572). -/
def Port.raised (p : Port) (i : Nat) (r r' : Ring) : Port :=
  if r.producer ≠ r'.producer ∧ !r.holding then
    { p with msix := Tbl.upd 0 p.msix i (· + 1) }
  else p

/-- Post a slot that needs no reservation: output records, step completions, stream events (R567, R571). -/
def Port.postRing (p : Port) (i kind : Nat) (content : List Byte) (tick : Nat) : Port × Bool :=
  let r := p.ring i
  let r1 := if p.st = .up then r.mark else r
  if r1.enable && decide (r1.free ≠ 0) && decide (content.length + 8 ≤ r1.slotSize) && decide (p.st = .up) then
    let r2 := r1.write kind content
    ((p.raised i r r2).setRing i r2, true)
  else ((p.raised i r r1).setRing i (r1.lose tick), false)

/-- Post a command completion into its reserved slot (R567). -/
def Port.postReserved (p : Port) (i kind : Nat) (content : List Byte) : Port :=
  let r := { p.ring i with reserved := (p.ring i).reserved - 1 }
  if r.enable && decide (p.st = .up) then
    let r2 := r.write kind content
    (p.raised i r r2).setRing i r2
  else p.setRing i r

/-- Reserve a slot (R567): none where the ring is disabled or has no slot to reserve. -/
def Port.reserve (p : Port) (i : Nat) : Option Port :=
  let r := p.ring i
  if r.enable && decide (r.free ≠ 0) then some (p.setRing i { r with reserved := r.reserved + 1 }) else none

/-- Release a reservation that the outcome does not need (R567). -/
def Port.release (p : Port) (i : Nat) : Port :=
  let r := { p.ring i with reserved := (p.ring i).reserved - 1 }
  let r1 := if p.st = .up then r.mark else r
  (p.raised i r r1).setRing i r1

/-- Content of a command completion (Table 13-15, kind 0x03). -/
def completionContent (source queue tag stream entry status tick : Nat) : List Byte :=
  leBytes 8 (source % 256 * 2 ^ 56 + queue % 256 * 2 ^ 48 + tag % 2 ^ 16 * 2 ^ 32 + stream % 2 ^ 14 * 2 ^ 18
    + entry % 2 ^ 10 * 2 ^ 8 + status % 256) ++ leBytes 8 tick

/-- Post through a port, counting a loss in HostCounters :05 (R571, Table 13-18). -/
def State.postSlot (s : State) (p ring kind : Nat) (content : List Byte) : State :=
  let (q, done) := (s.port p).postRing ring kind content s.tb.count
  let s1 := s.setPort p q
  if done then s1 else s1.bump (hostCtr p 5)

/-- The ring of a stream on its owner port (R576). -/
def Stream.ring (x : Stream) : Nat := if x.owner = 0 then x.ringQ0 else x.ringQ1

/-! PortStatus (Table 13-3). -/

/-- Open and Waiting streams that a port owns. -/
def State.streamsOwned (s : State) (p : Nat) : Nat :=
  (s.streams.filter (fun e => (decide (e.2.st = .opened) || decide (e.2.st = .waiting)) && decide (e.2.owner = p))).length

/-- PortStatus of a port. -/
def State.portStatus (s : State) (p : Nat) : Nat :=
  s.streamsOwned p % 2 ^ 15 * 2 ^ 16 + (if s.tb.begun then 2 ^ 4 else 0) +
  (if (s.port (1 - p)).st = .up then 2 ^ 3 else 0) + (s.port p).st.code

/-- Raise vector 64 of each linked port whose PortStatus differs from what it was in an earlier state (R538). -/
def State.signal (s old : State) : State :=
  [0, 1].foldl (fun t p =>
    let q := t.port p
    if s.portStatus p ≠ old.portStatus p ∧ q.st ≠ .down then t.setPort p { q with msix := Tbl.upd 0 q.msix 64 (· + 1) } else t) s

/-! Trace (R695, R697). -/

/-- Records that a site trace buffer of 256 KiB holds. -/
def traceRoom : Nat := 8192

/-- Put one record into a site's buffer: a full one drops it, and a loss record goes first once there is room again (R697).
The stamp is the region time of the hub (log entry 44). -/
def TraceBuf.put (b : TraceBuf) (r : TraceRec) : TraceBuf :=
  let add (c : TraceBuf) (x : TraceRec) : TraceBuf := { c with recs := c.recs ++ [{ x with seq := c.seq % 2 ^ 32 }], seq := c.seq + 1 }
  if traceRoom ≤ b.recs.length then { b with dropped := b.dropped + 1, first := if b.dropped = 0 then r.stamp else b.first }
  else if b.dropped = 0 then add b r
  else
    let c := add { b with dropped := 0 } { r with cls := 0xF, event := 1, unit := 0xC0, arg0 := b.dropped, arg1 := b.first }
    if traceRoom ≤ c.recs.length then { c with dropped := 1, first := r.stamp } else add c r

/-- Write a trace record of a class at a site, if TraceControl selects both (Table 17-3, Table 17-5). -/
def State.trace (s : State) (cls site unit event arg0 arg1 : Nat) : State :=
  let w := s.reg (okey 0xB011 0)
  if bits w 63 63 = 1 ∧ bits w (32 + cls) (32 + cls) = 1 ∧ bits w (8 + site) (8 + site) = 1 then
    let b := Tbl.get {} s.test.bufs site
    let full := decide (traceRoom ≤ b.recs.length)
    let c := b.put { stamp := s.pw.time, cls := cls, site := site, unit := unit, event := event, seq := 0, arg0 := arg0 % 2 ^ 64, arg1 := arg1 % 2 ^ 64 }
    let s1 : State := { s with test := { s.test with bufs := Tbl.put {} s.test.bufs site c } }
    if full then s1.bump (okey 0xB012 3) else s1
  else s

/-- A record whose unit or arguments the spec gives no coding for: those are free values (log entry 44). -/
def State.traceOpen (s : State) (cls site event : Nat) (unit arg0 arg1 : Option Nat) : State :=
  let w := s.reg (okey 0xB011 0)
  if bits w 63 63 = 1 ∧ bits w (32 + cls) (32 + cls) = 1 ∧ bits w (8 + site) (8 + site) = 1 then
    { s.trace cls site (unit.getD (Config.freeNat s.freeCtr % 256)) event (arg0.getD (Config.freeNat (s.freeCtr + 1)))
        (arg1.getD (Config.freeNat (s.freeCtr + 2))) with freeCtr := s.freeCtr + 3 }
  else s

/-- Post a slot, with its trace record (Table 17-5). -/
def State.post (s : State) (p ring kind : Nat) (content : List Byte) : State :=
  let t := s.postSlot p ring kind content
  if ((t.port p).ring ring).producer = ((s.port p).ring ring).producer then t else t.traceOpen 7 5 2 (some 0x15) none none

/-- Post a stream event on the owner's event ring, if EventValid is set (Table 13-4, Table 13-15). -/
def State.event (s : State) (stream ev detail : Nat) : State :=
  let x := s.stream stream
  let c := (s.port x.owner).control
  if c / 2 ^ 17 % 2 = 1 then
    s.post x.owner (c / 2 ^ 11 % 64) 0x05
      (leBytes 8 (stream * 2 ^ 50 + ev * 2 ^ 32 + detail % 2 ^ 32) ++ leBytes 8 s.tb.count)
  else s

/-! BIST slices. -/

/-- Release what a slice holds. -/
def State.freeUnit (s : State) (u : BistUnit) : State :=
  match u with
  | .core d m => s.setCore (coreKey d.val m.val) { s.core (coreKey d.val m.val) with bist := false }
  | .bank d m _ => s.setCore (coreKey d.val m.val) { s.core (coreKey d.val m.val) with bistBank := none }
  | .lane a n =>
    let l := s.lane a.val n.val
    s.setLane a.val n.val { l with cal := if l.cal = 1 then 0 else if l.cal = 2 then 3 else l.cal }
  | .region _ _ => s

/-- Abandon the BIST slices of units that are lost; they are counted, and retried later (R687). -/
def State.dropSlices (s : State) (p : BistUnit → Bool) : State :=
  let gone := s.test.slices.filter (fun b => p b.unit)
  let s1 := gone.foldl (fun t b => t.freeUnit b.unit) s
  ({ s1 with test := { s1.test with slices := s1.test.slices.filter (fun b => !p b.unit) } }).addReg (okey 0xB002 6) gone.length

/-- A full test of a die begins (R689, R690). -/
def State.startDieTest (s : State) (d : Nat) : State := { s with test := { s.test with dieTests := addOnce s.test.dieTests d } }

/-! Freezes (R706 to R708). -/

/-- Is a freeze in force (R709)? -/
def State.frozen (s : State) : Bool := decide (s.test.freeze = .frozen) || decide (s.test.freeze = .atOnce)

/-- Is the freeze record's range mapped: every granule Valid, Placement 2, Write = 1 (R706)? -/
def State.freezeFits (s : State) : Bool :=
  let a := s.reg (okey 0xB050 3)
  let n := s.reg (okey 0xB050 4)
  decide (a + n ≤ spaceSize true) &&
  (List.range ((a + n + 2 ^ 18 - 1) / 2 ^ 18 - a / 2 ^ 18)).all (fun i =>
    let e := s.entryAt 0 (2 ^ 24 + a / 2 ^ 18 + i)
    decide (n = 0) || (eValid e && decide (ePlacement e = 2) && eWrite e))

/-- The checks of a FreezeCommand write (R706). -/
def State.freezeCheck (s : State) (v : Nat) : Status :=
  let f := s.test.freeze
  if v = 0 ∨ 3 < v then .typeMismatch
  else if v < 3 ∧ s.reg (okey 0x9200 0) ≠ 1 then .notReady
  else if v = 3 then (if f = .frozen ∨ f = .atOnce then .ok else .notReady)
  else if f ≠ .none then .busy
  else if s.reg (okey 0xB050 3) % 64 ≠ 0 ∨ s.reg (okey 0xB050 4) % 64 ≠ 0 then .badAlign
  else if !s.freezeFits then .lengthExceeds
  else .ok

/-- Send "stop at time count T", T 2 µs from now (R617, R708). -/
def State.stopAtOnce (s : State) : State :=
  let c : Change := { time := s.pw.time + 32000, what := .stop }
  { s with test := { s.test with freeze := .stopping }, pw := { s.pw with changes := s.pw.changes ++ [c] } }

/-- A write of FreezeCommand (R706 to R708, R710). FreezeState reads 1 until the freeze is in force, and FreezeStatus reads
BUSY (log entry 44). -/
def State.writeFreeze (s : State) (v : Nat) : State :=
  let st := s.freezeCheck v
  if st ≠ .ok then s.answer st
  else
    let s1 := s.answer .ok
    if v = 3 then { s1 with test := { s1.test with release := true } }
    else
      let s2 := (s1.setReg (okey 0xB050 5) 1).setReg (okey 0xB050 2) Status.busy.code
      if v = 1 then { s2 with test := { s2.test with freeze := .asked } } else s2.stopAtOnce

/-! Step completion records (R231, Table 5-19; R578). -/

/-- What a completion record reports of a fault. -/
structure FaultInfo where
  cause : Nat := 0
  trap : Nat := 0
  core : Nat := 0
  unit : Nat := 12
  instr : Nat := 0
  addr : Nat := 0
  deriving DecidableEq, Repr

/-- Word 0 of a completion record (Table 5-19). -/
def stepWord0 (stream die step pattern arith status : Nat) : Nat :=
  stream % 2 ^ 14 * 2 ^ 50 + die % 8 * 2 ^ 47 + step % 2 ^ 12 * 2 ^ 32 + pattern % 2 ^ 16 * 2 ^ 16 + arith % 256 * 2 ^ 8 + status

/-- A dispatch record: 1 grant, 2 commit, 3 withdraw, 4 discard (Table 17-5). -/
def State.traceStep (s : State) (event stream die step pattern arith status : Nat) : State :=
  s.trace 1 (if die < 4 then die else die + 4) 0xF0 event (stepWord0 stream die step pattern arith status) (s.dieTick die)

/-- The 32 bytes of a completion record (Table 5-19). -/
def stepRecord (stream die step pattern arith status tick : Nat) (f : FaultInfo) : List Byte :=
  leBytes 8 (stepWord0 stream die step pattern arith status) ++ leBytes 8 tick
  ++ leBytes 8 (f.cause * 2 ^ 56 + f.trap % 256 * 2 ^ 48 + f.core % 64 * 2 ^ 42 + f.unit % 16 * 2 ^ 38
    + f.instr % 2 ^ 13 * 2 ^ 25) ++ leBytes 8 f.addr

/-- Post a completion record to the ring of its stream's owner: always when Status is not OK, else when the stream or
its port reports every step (R578). A Cause that FreezeOnCause names asks for a freeze at once (R706). A closed stream has no owner, so nothing is posted for it (log entry 21). -/
def State.postStep (s0 : State) (stream die step pattern arith status : Nat) (f : FaultInfo) : State :=
  let ask := decide (f.cause ≠ 0) && decide (f.cause = s0.reg (okey 0xB050 7)) && decide (s0.freezeCheck 2 = .ok)
  let s : State := if ask then { s0.writeFreeze 2 with lastStatus := s0.lastStatus } else s0
  let x := s.stream stream
  if x.st ≠ .closed ∧ (status ≠ 0 ∨ x.reportSteps ∨ (s.port x.owner).control % 2 = 1) then
    s.post x.owner x.ring 0x02 (stepRecord stream die step pattern arith status (s.dieTick die) f)
  else s

end Sys2Proof.Machine
end

