-- ==== Sys2Proof/Machine/Operands.lean ====
section
/-! DEFINITION. Operand forms (sections 5.1 to 5.3): instruction fields, tensor descriptors with their effective
addresses, elements in scratch, and the checks of extents, alignment and bounds (Table 5-18). -/

namespace Sys2Proof.Machine

open Sys2Proof

/-! Instruction words (R175). -/

def iClass (w : Nat) : Nat := bits w 63 60
def iOp (w : Nat) : Nat := bits w 59 55
def iWaitValid (w : Nat) : Bool := bits w 54 54 = 1
def iWaitPin (w : Nat) : Nat := bits w 53 49
def iWaitCount (w : Nat) : Nat := bits w 48 41
def iIncValid (w : Nat) : Bool := bits w 40 40 = 1
def iIncPin (w : Nat) : Nat := bits w 39 35

/-- A signed field of n bits (two's complement). -/
def signed (n v : Nat) : Int := if v < 2 ^ (n - 1) then v else (v : Int) - 2 ^ n

/-- Index register Ix of a snapshot; I0 reads 0 (R181). -/
def ireg (t : Tbl Nat) (i : Nat) : Nat := if i = 0 then 0 else Tbl.get 0 t i

/-- Write an index register, modulo 2^32; a write of I0 is discarded (R181). -/
def setIreg (t : Tbl Nat) (i v : Nat) : Tbl Nat := if i = 0 then t else Tbl.put 0 t i (v % 2 ^ 32)

/-! Tensor descriptors (Table 5-4). -/

/-- A tensor descriptor. -/
structure Desc where
  space : Nat
  fmt : Nat
  working : Bool
  base : Nat
  dim0 : Nat
  dim1 : Nat
  dim2 : Nat
  stride1 : Nat
  stride2 : Nat
  target : Nat
  scaleBase : Nat
  /-- The RSV fields are 0. -/
  rsvOk : Bool
  deriving DecidableEq, Repr

/-- Decode a descriptor from its four words (Table 5-4). -/
def descOf (w0 w1 w2 w3 : Nat) : Desc :=
  { space := bits w0 63 60, fmt := bits w0 59 55, working := bits w0 54 54 = 1, base := bits w0 47 0,
    dim0 := bits w1 63 48, dim1 := bits w1 47 32, dim2 := bits w1 31 16,
    stride1 := bits w2 63 32, stride2 := bits w2 31 0, target := bits w3 63 48, scaleBase := bits w3 47 0,
    rsvOk := bits w0 53 48 = 0 && bits w1 15 0 = 0 }

/-- Descriptor i of a block at an address of a memory. -/
def descAt (m : Tbl Byte) (block i : Nat) : Desc :=
  let a := block + 32 * i
  descOf (rdLe m a 8) (rdLe m (a + 8) 8) (rdLe m (a + 16) 8) (rdLe m (a + 24) 8)

/-- A descriptor of a step, from the image in pattern memory (R185). -/
def State.stepDesc (s : State) (die base descOff i : Nat) : Desc := descAt (s.store (2 * die)).mem (base + descOff) i

/-- Instruction i of a step. -/
def State.stepCode (s : State) (g : Grant) (i : Nat) : Nat := rdLe (s.store (2 * g.die)).mem (g.base + g.codeOff + 8 * i) 8

/-- A descriptor with its effective bases (R188). -/
structure Operand where
  d : Desc
  /-- Element format, if the code is defined. -/
  f : Fmt
  eb : Nat
  es : Nat
  deriving DecidableEq, Repr

/-- The operand that a descriptor forms with an index register value (R188); only an MX format indexes its scales. A reserved format
code cannot be in a loaded pattern (Table 5-16); it would read as BYTE. -/
def operand (d : Desc) (ix : Nat) : Operand :=
  let f := (Fmt.ofCode d.fmt).getD .byte
  { d := d, f := f, eb := d.base + ix * d.stride1, es := if f.isMx then d.scaleBase + ix * d.dim0 / 32 else d.scaleBase }

/-- Number of elements. -/
def Desc.count (d : Desc) : Nat := d.dim0 * d.dim1 * d.dim2

/-- Byte address of row (i1, i2) (R188). -/
def Operand.row (o : Operand) (i1 i2 : Nat) : Nat := o.eb + i2 * o.d.stride2 + i1 * o.d.stride1

/-- Bytes of one row (R138, R295). -/
def Operand.rowLen (o : Operand) : Nat := o.f.rowBytes o.d.dim0

/-- Byte address of the scales of row (i1, i2) (R188). -/
def Operand.scaleRow (o : Operand) (i1 i2 : Nat) : Nat := o.es + (i2 * o.d.dim1 + i1) * o.d.dim0 / 32

/-- The rows (i1, i2), Dim2 outermost. -/
def Desc.rows (d : Desc) : List (Nat × Nat) :=
  (List.range d.dim2).flatMap (fun i2 => (List.range d.dim1).map (fun i1 => (i1, i2)))

/-- The byte runs that a tensor covers: its rows, and for an MX format the scales of each row. -/
def Operand.runs (o : Operand) : List (Nat × Nat) :=
  o.d.rows.map (fun r => (o.row r.1 r.2, o.rowLen)) ++
  (if o.f.isMx then o.d.rows.map (fun r => (o.scaleRow r.1 r.2, o.d.dim0 / 32)) else [])

/-- One past the last byte that a tensor touches; 0 where it has no element. -/
def Operand.endByte (o : Operand) : Nat := o.runs.foldl (fun a r => if r.2 = 0 then a else max a (r.1 + r.2)) 0

/-- Alignment under R189 with effective addresses (Table 5-18), and under R164 for a KV format. -/
def Operand.aligned (o : Operand) : Bool :=
  decide (o.eb % 64 = 0) && decide (o.d.stride1 % 64 = 0) && decide (o.d.stride2 % 64 = 0) &&
  decide (o.es % 64 = 0) && (!o.f.isMx || decide (o.d.dim0 % 32 = 0)) && (!o.f.isKv || decide (o.d.dim0 % 64 = 0))

/-- Scratch size (R99). -/
def scratchBytes : Nat := 2 ^ 21

/-- Every element inside scratch (Table 5-18). -/
def Operand.inScratch (o : Operand) : Bool := decide (o.endByte ≤ scratchBytes)

/-- The address that a bounds failure reports: the first byte outside (Table 5-19). -/
def Operand.badAddr (o : Operand) : Nat :=
  match o.runs.find? (fun r => decide (r.2 ≠ 0) && decide (scratchBytes < r.1 + r.2)) with
  | some r => max r.1 scratchBytes
  | none => 0

/-! Elements in a byte memory. -/

/-- n bits at a bit offset from a byte address, least significant first (R138). -/
def rdBits (m : Tbl Byte) (a off n : Nat) : Nat :=
  rdLe m (a + off / 8) ((off % 8 + n + 7) / 8) / 2 ^ (off % 8) % 2 ^ n

/-- The element codes of a row. -/
def Operand.rowCodes (o : Operand) (m : Tbl Byte) (i1 i2 : Nat) : List Nat :=
  (List.range o.d.dim0).map (fun i => rdBits m (o.row i1 i2) (i * o.f.bits) o.f.bits)

/-- The value of element i of a row, its scale applied, with the flags of reading it (R142, R143). -/
def Operand.elem (o : Operand) (m : Tbl Byte) (i1 i2 i : Nat) : Flagged Fp :=
  let c := rdBits m (o.row i1 i2) (i * o.f.bits) o.f.bits
  let x := o.f.decode c
  if o.f.isMx then
    let (y, g) := applyScale x (rdByte m (o.scaleRow i1 i2 + i / 32)).toNat
    (y, orFlags g (inputFlags y))
  else (x, inputFlags x)

/-- An element as the vector unit and special function unit take it: MX elements convert to FP32 exactly, beyond the
range to ±infinity with InfProduced (R150). -/
def Operand.value (o : Operand) (m : Tbl Byte) (i1 i2 i : Nat) : Flagged Fp :=
  let (x, g) := o.elem m i1 i2 i
  if o.f.isMx then
    let (c, h) := toF32 x
    (f32 c, orFlags g h)
  else (x, g)

/-- The values of a row. -/
def Operand.rowVals (o : Operand) (m : Tbl Byte) (i1 i2 : Nat) : List (Flagged Fp) :=
  (List.range o.d.dim0).map (fun i => o.value m i1 i2 i)

/-- Pack codes of n bits, first lowest (R138). -/
def packCodes (n : Nat) : List Nat → Nat
  | [] => 0
  | c :: r => c % 2 ^ n + 2 ^ n * packCodes n r

/-- Write a row of element codes. -/
def Operand.putRow (o : Operand) (m : Tbl Byte) (i1 i2 : Nat) (codes : List Nat) : Tbl Byte :=
  wrBytes m (o.row i1 i2) (leBytes o.rowLen (packCodes o.f.bits codes))

/-- Do two operands of one place share a byte (R180)? -/
def Operand.meets (a b : Operand) : Bool :=
  a.runs.any (fun x => b.runs.any (fun y => decide (x.1 < y.1 + y.2) && decide (y.1 < x.1 + x.2)))

/-! The fields of the vector and special function classes (R201). -/

def fDst (w : Nat) : Nat := bits w 34 29
def fSrcA (w : Nat) : Nat := bits w 28 23
def fSrcB (w : Nat) : Nat := bits w 22 17
def fIdx (w : Nat) : Nat := bits w 16 13
def fImm (w : Nat) : Nat := bits w 12 0

/-! Checks at issue. -/

/-- A failed check: its cause and the failing address. -/
structure Bad where
  cause : Nat
  addr : Nat := 0
  deriving DecidableEq, Repr

/-- The first failure in a list of checks. -/
def firstFail : List (Option Bad) → Option Bad
  | [] => none
  | some b :: _ => some b
  | none :: r => firstFail r

/-- A check that fails with a status. -/
def need (ok : Bool) (st : Status) (addr : Nat := 0) : Option Bad := if ok then none else some { cause := st.code, addr := addr }

/-- Alignment and bounds of a scratch operand, in the order of Table 5-18. -/
def Operand.scratchCheck (o : Operand) : List (Option Bad) :=
  [need o.aligned .badAlign o.eb, need o.inScratch .lengthExceeds o.badAddr]

/-- Alignment of every operand, then the bounds of every operand (Table 5-18). -/
def scratchChecks (os : List Operand) : List (Option Bad) :=
  os.map (fun o => need o.aligned .badAlign o.eb) ++ os.map (fun o => need o.inScratch .lengthExceeds o.badAddr)

/-- Does a descriptor lie in the core's own scratch? -/
def Operand.own (o : Operand) : Bool := decide (o.d.space = 0)

end Sys2Proof.Machine
end

