-- ==== Sys2Proof/Machine/Flags.lean ====
section
/-! DEFINITION. Flag computations (section 4.6): results rounded into a destination format with the flags of Table 4-7,
and their accumulation in a core's sticky ArithFlags (R169, R171, R732). -/

namespace Sys2Proof.Machine

open Sys2Proof

/-- OR of many flag sets. -/
def orAll (l : List Nat) : Nat := l.foldl orFlags 0

/-- Add flags to a core's sticky ArithFlags (R169). -/
def CoreRun.flag (r : CoreRun) (g : Nat) : CoreRun := { r with arith := r.arith ||| g }

/-- Round an exact value into a destination format: FP32, BF16 or INT8 (R141, R150, R151, R153). A rounding into BF16 is a conversion, in
which a nonzero value that becomes ±0 sets ConvUnderflow (R732). -/
def roundInto (f : Fmt) (x : Fp) : Flagged Nat :=
  match f with
  | .int8 => fpToInt8 x
  | .bf16 => roundFp fmtBF16 true x
  | _ => roundFp fmtFP32 false x

/-- Round an FP32 code into a destination format. -/
def f32Into (f : Fmt) (c : Nat) : Flagged Nat :=
  match f with
  | .fp32 => (c, 0)
  | _ => roundInto f (f32 c)

/-- The codes and the flags of a list of flagged codes. -/
def unzipFlags (l : List (Flagged Nat)) : List Nat × Nat := (l.map (·.1), orAll (l.map (·.2)))

/-- An FP32 result into the destination row formats of the special function unit, with its flags. -/
def f32Row (f : Fmt) (cs : List Nat) : List Nat × Nat := unzipFlags (cs.map (f32Into f))

end Sys2Proof.Machine
end

