-- ==== Sys2Proof/Machine/Memory.lean ====
section
/-! DEFINITION. Polder and tier memory (chapters 7 and 8): ledger entries, translation with its caches, access checks,
poisoned lines, and reads and writes at physical addresses, migrations in progress included. -/

namespace Sys2Proof.Machine

open Sys2Proof

/-- Write entry i in one replica. -/
def State.putEntryAt (s : State) (die i v : Nat) : State := { s with ledger := Tbl.put 0 s.ledger (die * 2 ^ 25 + i) v }

/-- Write entry i in all eight replicas (R279, R285 step 1). -/
def putAll (t : Tbl Nat) (i v : Nat) : Tbl Nat := loopTo 8 (fun d u => Tbl.put 0 u (d * 2 ^ 25 + i) v) t

/-- The memory unit, 0 to 31, that an entry names for die k (Table 7-4, R277). -/
def unitOf (e k : Nat) : Nat :=
  match ePlacement e with
  | 0 => eUnit e
  | 1 => 2 * k + bits e 20 20
  | _ => 16 + eUnit e

/-- Is a memory unit a tier channel? -/
def isTier (u : Nat) : Bool := decide (16 ≤ u)

/-- The physical address that an entry gives an offset (R276). -/
def physAddr (e off : Nat) : Nat := eFrame e * 2 ^ (if ePlacement e = 2 then 18 else 16) + off

/-! Units in service. -/

/-- Does a unit answer accesses: a polder in service, or a channel that is In service or Draining (R270, R317)? -/
def State.unitServes (s : State) (u : Nat) : Bool :=
  if isTier u then decide ((s.chan (u - 16)).st = .inService) || decide ((s.chan (u - 16)).st = .draining)
  else !(s.store u).out

/-- Does a polder belong to a die that a trip has stopped altogether (R631)? -/
def State.unitHard (s : State) (u : Nat) : Bool := (Tbl.get ({} : Thermal) s.thermals (u / 2)).hard && !isTier u

/-! Translation caches (R282, R283). -/

/-- Sets of a cache of 4,096 entries in 8 ways; which set an entry falls into is the model's choice (log entry 15). -/
def cacheSets : Nat := 512

/-- The key of an entry's set in controller c. -/
def setKey (c i : Nat) : Nat := c * cacheSets + i % cacheSets

/-- Look an entry up. -/
def cacheFind (t : Tbl (List CacheLine)) (c i : Nat) : Option Nat :=
  ((Tbl.get [] t (setKey c i)).find? (fun l => decide (l.index = i))).map (·.entry)

/-- Put an entry at the front of its set; the least recently used line leaves a full set (R282). -/
def cachePut (t : Tbl (List CacheLine)) (c i e : Nat) : Tbl (List CacheLine) :=
  let l := (Tbl.get [] t (setKey c i)).filter (fun x => decide (x.index ≠ i))
  Tbl.put [] t (setKey c i) ((⟨i, e⟩ :: l).take 8)

/-- Invalidate an entry in every cache (R285 step 2). -/
def cacheDrop (t : Tbl (List CacheLine)) (i : Nat) : Tbl (List CacheLine) :=
  loopTo 16 (fun c u =>
    Tbl.put [] u (setKey c i) ((Tbl.get [] u (setKey c i)).filter (fun x => decide (x.index ≠ i)))) t

/-- Cache every valid entry of the 64-byte line that starts at entry `first` of a die's replica (R283). -/
def State.cacheLine (s : State) (die c first : Nat) : State :=
  { s with tlb := loopTo 8 (fun j t =>
      if eValid (s.entryAt die (first + j)) then cachePut t c (first + j) (s.entryAt die (first + j)) else t) s.tlb }

/-- Is entry i the valid entry of highest index in its line (R283)? -/
def State.lastValid (s : State) (die i : Nat) : Bool :=
  (List.range 8).all (fun j => decide (i / 8 * 8 + j ≤ i) || !eValid (s.entryAt die (i / 8 * 8 + j)))

/-- Can die k's replica of entry i be read: P2k+1, which holds it at physical address 8 × i, is in service, and the line is not poisoned
(R267, R270, R279)? -/
def State.replicaReads (s : State) (die i : Nat) : Bool :=
  let x := s.store (2 * die + 1)
  !x.out && !x.poison.contains (i / 8)

/-- An access to a unit ends its self-refresh (R303, R321). -/
def State.touch (s : State) (u : Nat) : State :=
  if (s.store u).selfRefresh then s.setStore u { s.store u with selfRefresh := false } else s

/-- An access to every replica in service. -/
def State.touchReplicas (s : State) : State :=
  loopTo 8 (fun k t => if (t.store (2 * k + 1)).out then t else t.touch (2 * k + 1)) s

/-- Is the line of entry i poisoned in a replica, so that a write of the entry, 8 bytes of the line, is refused there (R267, R279)? -/
def State.replicaBad (s : State) (i : Nat) : Bool :=
  (List.range 8).any (fun k => !(s.store (2 * k + 1)).out && (s.store (2 * k + 1)).poison.contains (i / 8))

/-- Prefetch the next line after a hit on the last valid entry of a line, never past the last line of the half (R283); a line that cannot be
read fills no entry (R267, R270). -/
def State.prefetch (s : State) (die c i : Nat) : State :=
  let next := (i / 8 + 1) * 8
  if s.lastValid die i && decide (next ≠ 2 ^ 24) && decide (next < 2 ^ 25) then
    let t := (s.touch (2 * die + 1)).bump (okey 0x5020 5)
    if s.replicaReads die next then t.cacheLine die c next else t
  else s

/-- TRANSLATION_WALK: controller c of die k reads the line of entry i in the local replica, which ends the self-refresh of P2k+1, caches
its valid entries and sets Accessed in the local replica (R279, R283, R303); none where the replica cannot be read. -/
def State.walk (s : State) (die c i : Nat) : State × Option Nat :=
  let x := s.store (2 * die + 1)
  let s0 := (s.setStore (2 * die + 1) { x with selfRefresh := false }).bump (okey 0x5020 2)
  if !s.replicaReads die i then (s0, none)
  else
    let s1 := s0.cacheLine die c (i / 8 * 8)
    let e := s1.entryAt die i
    if !eValid e then (s1, some e)
    else
      let v := setBit e 52 true
      let s2 := s1.putEntryAt die i v
      ({ s2 with tlb := cachePut s2.tlb c i v }, some v)

/-- Look up entry i on die k's controller c for a read or write: a hit, or a walk on a miss and for a write whose entry shows Dirty 0
(R283). -/
def State.lookup (s : State) (die c i : Nat) (write : Bool) : State × Option Nat :=
  match cacheFind s.tlb c i with
  | some e =>
    if write && !eDirty e then s.walk die c i
    else
      let s1 := { s with tlb := cachePut s.tlb c i e }.bump (okey 0x5020 1)
      (s1.prefetch die c i, some e)
  | none => s.walk die c i

/-- Set Dirty in all eight replicas and in the cached copy of controller c, before the write of an admitted access proceeds, where the
entry shows Dirty 0 (R283). -/
def State.setDirty (s0 : State) (c i : Nat) : State :=
  if eDirty (s0.entryAt (c / 2) i) then s0
  else
  let s := s0.touchReplicas
  let l := loopTo 8 (fun d u => Tbl.put 0 u (d * 2 ^ 25 + i) (setBit (Tbl.get 0 u (d * 2 ^ 25 + i)) 51 true)) s.ledger
  { s with ledger := l, tlb := match cacheFind s.tlb c i with | some e => cachePut s.tlb c i (setBit e 51 true) | none => s.tlb }

/-! Access checks (Table 7-5). -/

/-- Who makes an access (R281). -/
inductive Accessor where
  | core | fabric | guest
  deriving DecidableEq, Repr

/-- The cause with which an access to an entry is refused (Table 7-5, R631). -/
def State.accessCause (s : State) (e die : Nat) (tier write : Bool) (who : Accessor) (codec : Option Nat) : Option Status :=
  if !eValid e then some .accessDenied
  else if (tier && decide (ePlacement e ≠ 2)) || (!tier && decide (2 ≤ ePlacement e)) then some .accessDenied
  else if write && !eWrite e then some .accessDenied
  else if (decide (who = .fabric) && !eFabric e) || (decide (who = .guest) && !eGuest e) then some .accessDenied
  else if decide (who ≠ .core) && write && decide (ePlacement e = 1) then some .accessDenied
  else if (match codec with | some c => decide (eCodec e ≠ c) | none => false) then some .typeMismatch
  else if s.unitHard (unitOf e die) then some .notReady
  else if !s.unitServes (unitOf e die) then some .uncorrected
  else none

/-- The codec that a descriptor format demands of a page (R294); BYTE reaches any page. -/
def codecOf (f : Fmt) : Option Nat :=
  match f with
  | .byte => none
  | .kv4 => some 1
  | .kv8 => some 2
  | _ => some 0

/-- Granules that a list of byte runs touches, each once, in order: ledger index and the first byte's address. -/
def granules (tier : Bool) (runs : List (Nat × Nat)) : List (Nat × Nat) :=
  runs.foldl (fun acc r =>
    if r.2 = 0 then acc
    else
      let a := r.1 / 2 ^ granShift tier
      let b := (r.1 + r.2 - 1) / 2 ^ granShift tier
      (List.range (b + 1 - a)).foldl (fun acc j =>
        let va := max r.1 ((a + j) * 2 ^ granShift tier)
        if acc.any (fun x => decide (x.1 = ledgerIndex tier va)) then acc else acc ++ [(ledgerIndex tier va, va)]) acc) []

/-- The controller of die k that translates a virtual address: VA[16] selects the polder (R281). Of a tier access
the first byte in the granule decides (log entry 15). -/
def translator (k va : Nat) : Nat := 2 * k + va / 2 ^ 16 % 2

/-- An access that has passed every check writes the granules: each shows Dirty from now on (R283, R284). -/
def State.dirtyAll (s : State) (die : Nat) (gs : List (Nat × Nat)) : State :=
  gs.foldl (fun t g => t.setDirty (translator die g.2) g.1) s

/-- Translate every granule that an access touches and check each (R284): the entries by index, or the first cause; a walk that cannot read
the replica answers UNCORRECTED, as does a write whose Dirty bit a poisoned line of a replica refuses (R267, R270, R283). -/
def State.translate (s : State) (die : Nat) (tier write : Bool) (who : Accessor) (codec : Option Nat) :
    List (Nat × Nat) → State × Except (Status × Nat) (List (Nat × Nat))
  | [] => (s, .ok [])
  | (i, va) :: r =>
    match s.lookup die (translator die va) i write with
    | (s1, none) => (s1, .error (.uncorrected, va))
    | (s1, some e) =>
      match s1.accessCause e die tier write who codec with
      | some st =>
        let s2 := if st = .accessDenied then s1.bump (okey 0x5020 3) else if st = .typeMismatch then s1.bump (okey 0x5020 4) else s1
        (s2, .error (st, va))
      | none =>
        if write && !eDirty e && s1.replicaBad i then (s1, .error (.uncorrected, va))
        else
        match s1.translate die tier write who codec r with
        | (s2, .ok l) => (s2, .ok ((i, e) :: l))
        | (s2, .error x) => (s2, .error x)

/-! Physical reads and writes. -/

/-- Lines of 64 bytes that a run covers. -/
def linesOf (a n : Nat) : List Nat := if n = 0 then [] else (List.range ((a + n - 1) / 64 + 1 - a / 64)).map (· + a / 64)

/-- Does a read of n bytes from a meet a poisoned line (R267)? -/
def Store.readPoisoned (x : Store) (a n : Nat) : Bool := (linesOf a n).any (fun l => x.poison.contains l)

/-- Does a write of n bytes at a cover part of a poisoned line, which refuses it (R267)? -/
def Store.writeRefused (x : Store) (a n : Nat) : Bool :=
  (linesOf a n).any (fun l => x.poison.contains l && !(decide (a ≤ l * 64) && decide (l * 64 + 64 ≤ a + n)))

/-- The marks of the lines that a write of n bytes at a covers wholly are cleared (R267). -/
def Store.clears (x : Store) (a n : Nat) : Store :=
  { x with poison := x.poison.filter (fun l => !(decide (a ≤ l * 64) && decide (l * 64 + 64 ≤ a + n))), selfRefresh := false }

/-- Write bytes; lines wholly covered lose their poison mark (R267). -/
def Store.write (x : Store) (a : Nat) (bs : List Byte) : Store :=
  { x with
    mem := wrBytes x.mem a bs
    poison := x.poison.filter (fun l => !(decide (a ≤ l * 64) && decide (l * 64 + 64 ≤ a + bs.length)))
    selfRefresh := false }

/-- Units that a migration's old frame lies in: one, or one of each pair for a replicated granule. -/
def Migration.oldUnits (m : Migration) (placement : Nat) : List Nat :=
  if placement = 1 then (List.range 8).map (fun k => 2 * k + m.oldUnit % 2)
  else if placement = 2 then [16 + m.oldUnit] else [m.oldUnit]

/-- The unit that takes the place of old unit u. -/
def Migration.newUnitFor (m : Migration) (placement u : Nat) : Nat :=
  if placement = 1 then u / 2 * 2 + m.newUnit % 2 else if placement = 2 then 16 + m.newUnit else m.newUnit

/-- Sub-block shift of a migration: 4 KiB of a polder frame, 16 KiB of a tier frame (R299, R335). -/
def subShift (u : Nat) : Nat := if isTier u then 14 else 12

/-- The migration, if any, whose old frame holds physical address a of unit u. -/
def State.migAt (s : State) (u a : Nat) : Option Migration :=
  s.migs.find? (fun m =>
    (m.oldUnits (ePlacement (s.entryAt 0 m.index))).contains u && decide (m.oldFrame = a / 2 ^ granShift (isTier u))
      && decide (m.phase ≤ 5))

/-- Is the granule at a physical address in phase 4 or 5 of a migration, which holds new writes until the switch (R299)? -/
def State.holdsWrites (s : State) (u a : Nat) : Bool :=
  match s.migAt u a with | some m => decide (4 ≤ m.phase) | none => false

/-- Mark the sub-blocks that a write dirties in phases 2 and 3 (R299). -/
def markDirty (u a n : Nat) (m : Migration) : Migration :=
  let sh := subShift u
  let off := a % 2 ^ granShift (isTier u)
  if n = 0 then m
  else { m with dirty := (List.range ((off + n - 1) / 2 ^ sh + 1 - off / 2 ^ sh)).foldl (fun l j => addOnce l (off / 2 ^ sh + j)) m.dirty }

/-- Write bytes at a physical address: phases 2 and 3 of a migration track them, and from phase 4 on, when nothing is left to recopy, a
write of the hub itself lands in both frames (R299, R300). -/
def State.physWrite (s : State) (u a : Nat) (bs : List Byte) : State :=
  let s1 := s.setStore u { (s.store u).write a bs with selfRefresh := false }
  match s.migAt u a with
  | some m =>
    if m.phase = 2 ∨ m.phase = 3 then
      { s1 with migs := s1.migs.map (fun x => if x.index = m.index then markDirty u a bs.length x else x) }
    else if 4 ≤ m.phase then
      let v := m.newUnitFor (ePlacement (s.entryAt 0 m.index)) u
      let b := m.newFrame * 2 ^ granShift (isTier u) + a % 2 ^ granShift (isTier u)
      s1.setStore v { (s1.store v).write b bs with selfRefresh := false }
    else s1
  | none => s1

/-- Read bytes at a physical address. -/
def State.physRead (s : State) (u a n : Nat) : List Byte := rdBytes (s.store u).mem a n

/-! Stream state records in the home die's pair (R213, R550; log entry 27). -/

/-- The polder that holds the committed or the working copy of a stream's record. -/
def Stream.recUnit (x : Stream) (working : Bool) : Nat := 2 * x.home + (if working != x.swapped then 1 else 0)

/-- Does a poisoned line, or an outage, refuse a read of n bytes from an offset of a copy (R267, R270)? -/
def State.recReadBad (s : State) (x : Stream) (working : Bool) (off n : Nat) : Bool :=
  let y := s.store (x.recUnit working)
  y.out || y.readPoisoned (x.recBase + off) n

/-- The same of a write. -/
def State.recWriteBad (s : State) (x : Stream) (working : Bool) (off n : Nat) : Bool :=
  let y := s.store (x.recUnit working)
  y.out || y.writeRefused (x.recBase + off) n

/-- A write of n bytes of a copy ends the self-refresh of its polder and clears the marks of whole lines (R267, R303). -/
def State.recWrote (s : State) (x : Stream) (working : Bool) (off n : Nat) : State :=
  s.setStore (x.recUnit working) ((s.store (x.recUnit working)).clears (x.recBase + off) n)

/-! Virtual accesses over translated entries. -/

/-- Split a run at granule boundaries. -/
def splitRun (sh : Nat) : Nat → Nat → Nat → List (Nat × Nat)
  | 0, _, _ => []
  | fuel + 1, a, n =>
    if n = 0 then []
    else
      let m := min n (2 ^ sh - a % 2 ^ sh)
      (a, m) :: splitRun sh fuel (a + m) (n - m)

/-- The pieces of a run, each within one granule. -/
def pieces (tier : Bool) (a n : Nat) : List (Nat × Nat) := splitRun (granShift tier) (n / 2 ^ granShift tier + 2) a n

/-- The translated entry of a virtual address. -/
def entryFor (tr : List (Nat × Nat)) (tier : Bool) (va : Nat) : Nat :=
  ((tr.find? (fun x => decide (x.1 = ledgerIndex tier va))).map (·.2)).getD 0

/-- The migration past its switch whose old frame holds physical address a of unit u: accesses that reach the old frame
are forwarded (Table 7-9, phase 6). -/
def State.forwarder (s : State) (u a : Nat) : Option Migration :=
  s.migs.find? (fun m =>
    (m.oldUnits (ePlacement (s.entryAt 0 m.index))).contains u && decide (m.oldFrame = a / 2 ^ granShift (isTier u))
      && decide (m.phase = 6))

/-- Where a virtual address lies for die k: unit and physical address, forwarded past a migration's switch. -/
def State.place (s : State) (tr : List (Nat × Nat)) (die : Nat) (tier : Bool) (va : Nat) : Nat × Nat :=
  let e := entryFor tr tier va
  let u := unitOf e die
  let a := physAddr e (va % 2 ^ granShift tier)
  match s.forwarder u a with
  | some m => (m.newUnitFor (ePlacement e) u, m.newFrame * 2 ^ granShift tier + va % 2 ^ granShift tier)
  | none => (u, a)

/-- The unit that serves a translated entry now (R301, Table 7-9). -/
def State.unitNow (s : State) (e die : Nat) : Nat :=
  let u := unitOf e die
  match s.forwarder u (physAddr e 0) with | some m => m.newUnitFor (ePlacement e) u | none => u

/-- Count the granules of an access that are forwarded to their new frames (Table 7-9, `0x5040:03`). -/
def State.countForwarded (s : State) (tr : List (Nat × Nat)) (die : Nat) : State :=
  let n := (tr.filter (fun x => (s.forwarder (unitOf x.2 die) (physAddr x.2 0)).isSome)).length
  if n = 0 then s else s.addReg (okey 0x5040 3) n

/-- The first virtual address of the runs that a read finds poisoned, or out of service by now (R267, R270, R317). -/
def State.readBad (s : State) (tr : List (Nat × Nat)) (die : Nat) (tier : Bool) (runs : List (Nat × Nat)) : Option Nat :=
  (runs.flatMap (fun r => pieces tier r.1 r.2)).findSome? (fun p =>
    let (u, a) := s.place tr die tier p.1
    if !s.unitServes u || (s.store u).readPoisoned a p.2 then some p.1 else none)

/-- The first virtual address whose write a poisoned line or a unit out of service refuses (R267, R270, R317). -/
def State.writeBad (s : State) (tr : List (Nat × Nat)) (die : Nat) (tier : Bool) (runs : List (Nat × Nat)) : Option Nat :=
  (runs.flatMap (fun r => pieces tier r.1 r.2)).findSome? (fun p =>
    let (u, a) := s.place tr die tier p.1
    if !s.unitServes u || (s.store u).writeRefused a p.2 then some p.1 else none)

/-- Does any piece of the runs lie in a granule that holds new writes (R299)? -/
def State.writesHeld (s : State) (tr : List (Nat × Nat)) (die : Nat) (tier : Bool) (runs : List (Nat × Nat)) : Bool :=
  (runs.flatMap (fun r => pieces tier r.1 r.2)).any (fun p =>
    let (u, a) := s.place tr die tier p.1
    s.holdsWrites u a)

/-- Read a run of virtual memory. -/
def State.virtRead (s : State) (tr : List (Nat × Nat)) (die : Nat) (tier : Bool) (a n : Nat) : List Byte :=
  (pieces tier a n).flatMap (fun p =>
    let (u, pa) := s.place tr die tier p.1
    s.physRead u pa p.2)

/-- Write a run of virtual memory, in die k's copy of a replicated granule (R277). -/
def State.virtWrite (s : State) (tr : List (Nat × Nat)) (die : Nat) (tier : Bool) (a : Nat) (bs : List Byte) : State :=
  (pieces tier a bs.length).foldl (fun t p =>
    let (u, pa) := t.place tr die tier p.1
    t.physWrite u pa ((bs.drop (p.1 - a)).take p.2)) s

/-- The units that runs touch. -/
def unitsOf (tr : List (Nat × Nat)) (die : Nat) : List Nat := tr.foldl (fun l x => addOnce l (unitOf x.2 die)) []

/-- The units that serve the entries of an access now, forwarded accesses at their new frames (R301). -/
def State.unitsNow (s : State) (tr : List (Nat × Nat)) (die : Nat) : List Nat := tr.foldl (fun l x => addOnce l (s.unitNow x.2 die)) []

/-- An access to the units of its entries ends their self-refresh (R303, R321). -/
def State.wake (s : State) (tr : List (Nat × Nat)) (die : Nat) : State := (s.unitsNow tr die).foldl (fun t u => t.touch u) s

/-! Ledger changes (R285, R286). -/

/-- Change entry i in every replica, drop it from every cache and flip the epoch: steps 1 to 3 of R285. -/
def State.changeEntry (s : State) (i v : Nat) : State :=
  { s with ledger := putAll s.ledger i v, tlb := cacheDrop s.tlb i, epoch := s.epoch + 1 }

/-- The frames that an entry maps: one, or one in each pair for a replicated granule (R277). -/
def framesOf (e : Nat) : List (Nat × Nat) :=
  if ePlacement e = 1 then (List.range 8).map (fun k => (unitOf e k, eFrame e)) else [(unitOf e 0, eFrame e)]

/-- Hold the frames that a change has released (R286). -/
def State.holdFrames (s : State) (fs : List (Nat × Nat)) : State :=
  { s with heldFrames := s.heldFrames ++ fs.map (fun f => { unit := f.1, frame := f.2, epoch := s.epoch }) }

end Sys2Proof.Machine
end

