-- ==== Sys2Proof/Machine/HubMemory.lean ====
section
/-! DEFINITION. The hub's own accesses to tier and polder memory (R558, R734). -/

namespace Sys2Proof.Machine

open Sys2Proof

/-! Hub accesses to tier and polder memory, from the replicas as the hub keeps them. -/

/-- The entries of a range as the hub reads them, if every entry is valid with the placement of its space. -/
def State.hubRange (s : State) (tier : Bool) (va n : Nat) : Option (List (Nat × Nat)) :=
  let tr := (granules tier [(va, n)]).map (fun g => (g.1, s.entryAt 0 g.1))
  if tr.all (fun e => eValid e.2 && (if tier then decide (ePlacement e.2 = 2) else decide (ePlacement e.2 < 2)))
  then some tr else none

/-- Do all units of a translated range serve (R270, R317)? -/
def State.rangeServes (s : State) (tr : List (Nat × Nat)) (die : Nat) : Bool := (unitsOf tr die).all s.unitServes

/-- Read a tier range for the hub: none where an access is answered UNCORRECTED (R734). -/
def State.hubRead (s : State) (tr : List (Nat × Nat)) (tier : Bool) (va n : Nat) : Option (List Byte) :=
  if s.rangeServes tr 0 && (s.readBad tr 0 tier [(va, n)]).isNone then some (s.virtRead tr 0 tier va n) else none

/-- Write a range for the hub: all eight copies of a replicated granule (R558, R327). -/
def State.hubWrite (s : State) (tr : List (Nat × Nat)) (tier : Bool) (va : Nat) (bs : List Byte) : State :=
  (pieces tier va bs.length).foldl (fun t p =>
    let e := entryFor tr tier p.1
    let part := (bs.drop (p.1 - va)).take p.2
    (framesOf e).foldl (fun u f => u.physWrite f.1 (physAddr e (p.1 % 2 ^ granShift tier)) part) t) s

end Sys2Proof.Machine
end

