-- ==== Sys2Proof/Machine/Special.lean ====
section
/-! DEFINITION. The special function unit's arithmetic (chapter 6): references for the exponential, reciprocal,
reciprocal square root, SiLU and GELU, the fixed summation order (R238), the bounds of Table 6-3, and the
Philox4x32-10 generator (R254). A result may be any FP32 value inside its bound: which one is a free value. -/

namespace Sys2Proof.Machine

/-! Fixed-point references: an integer v stands for v / 2^160. -/

def fxBits : Nat := 160
def fxOne : Int := 2 ^ 160
/-- ln 2 × 2^160. -/
def fxLn2 : Int := 1013035739299659071135698605846798551586536899366
/-- (1 / √(2π)) × 2^160. -/
def fxInvSqrt2Pi : Int := 583054796007218040734191730443699882195345907504

/-- A finite value as fixed point (toward zero). -/
def fxOf : Fp → Int
  | .fin s m e =>
    let x := e + 160
    let v : Int := if 0 ≤ x then (m * 2 ^ x.toNat : Nat) else (m / 2 ^ (-x).toNat : Nat)
    if s then -v else v
  | _ => 0

/-- A fixed-point number as an exact value. -/
def fxTo (v : Int) : Fp := .fin (decide (v < 0)) v.natAbs (-160)

def fxMul (a b : Int) : Int := a * b / fxOne

/-- Σ r^i / i! for i < n, by Horner's rule. -/
def fxExpTaylor (r : Int) : Nat → Int → Int
  | 0, acc => acc
  | n + 1, acc => fxExpTaylor r n (fxOne + fxMul r acc / (n + 1))

/-- e^x for a finite x of moderate size, as an exact dyadic value close to the true one: x = k ln 2 + r. -/
def expRef (x : Fp) : Fp :=
  let v := fxOf x
  let k := v / fxLn2
  let r := v - k * fxLn2
  (fxTo (fxExpTaylor r 48 fxOne)).scale k

/-- The quotient of two finite values, to 192 significant bits. -/
def divRef (a b : Fp) : Fp :=
  match a, b with
  | .fin s m e, .fin t n d =>
    if n = 0 then .fin false 0 0
    else
      let sh := 192 + Nat.log2 n
      .fin (s != t) (m * 2 ^ sh / n) (e - d - sh)
  | _, _ => .fin false 0 0

/-- Integer square root, bit by bit from bit `i - 1` down. -/
def isqrtGo (n : Nat) : Nat → Nat → Nat
  | 0, r => r
  | i + 1, r =>
    let c := r + 2 ^ i
    isqrtGo n i (if c * c ≤ n then c else r)

/-- floor(√n). -/
def isqrt (n : Nat) : Nat := isqrtGo n (Nat.log2 n / 2 + 1) 0

/-- √x of a finite non-negative value, to about 150 significant bits. -/
def sqrtRef : Fp → Fp
  | .fin _ m e =>
    let (m', e') := if e % 2 = 0 then (m, e) else (2 * m, e - 1)
    .fin false (isqrt (m' * 2 ^ 300)) (e' / 2 - 150)
  | _ => .fin false 0 0

/-- 1 / √x of a finite positive value. -/
def rsqrtRef (x : Fp) : Fp := divRef (.fin false 1 0) (sqrtRef x)

/-- The terms of Φ(x) − 1/2: t is (−1)^n x^(2n+1) / (2^n n!) at step n. -/
def fxPhiGo (x2 : Int) : Nat → Nat → Int → Int → Int
  | 0, _, _, acc => acc
  | fuel + 1, n, t, acc =>
    fxPhiGo x2 fuel (n + 1) (-(fxMul t x2) / (2 * (n + 1))) (acc + t / (2 * n + 1))

/-- Φ(x) for a finite x above −9; from 9 on it lies within 2^−62 of 1, and 2^−100 stands for the difference, which keeps its sign. -/
def phiRef (x : Fp) : Fp :=
  let v := fxOf x
  if 9 * fxOne ≤ v then .fin false (2 ^ 100 - 1) (-100)
  else fxTo (fxOne / 2 + fxMul fxInvSqrt2Pi (fxPhiGo (fxMul v v) 160 0 v 0))

/-- 2^k as a value. -/
def pow2 (k : Int) : Fp := .fin false 1 k

/-- One unit in the last place of the FP32 number nearest to x. -/
def ulp32 (x : Fp) : Fp :=
  match f32 (toF32 x).1 with
  | .fin _ m e =>
    if m = 0 then pow2 (-149)
    else
      let E := (Nat.log2 m : Int) + e
      pow2 ((if E < -126 then -126 else E) - 23)
  | _ => pow2 104

/-- The larger of two magnitudes. -/
def fpMax (a b : Fp) : Fp := if Fp.lt a b then b else a

/-- k × x for a small k. -/
def fpTimes (k : Nat) (x : Fp) : Fp := (Fp.mul (Fp.ofInt k) x).1

/-- Any FP32 code within the tolerance of the reference: the code offered when it is one, else the reference
rounded (R237, Table 6-3). -/
def pickWithin (ref tol : Fp) (offered : Nat) : Nat :=
  let c := offered % 2 ^ 32
  let diff := ((Fp.add (f32 c) ref.neg).1).abs
  if (f32 c).isFin && !Fp.lt tol diff then c else (toF32 ref).1

/-- The elementwise operations of Table 5-10. -/
inductive SfuOp where
  | exp | recip | rsqrt | silu | gelu | softmax | rmsnorm | layernorm | redsum | redmax | topk | sample | treeverify
  deriving DecidableEq, Repr

/-- Op field of the special function class (Table 5-10). -/
def SfuOp.code : SfuOp → Nat
  | .exp => 0 | .recip => 1 | .rsqrt => 2 | .silu => 3 | .gelu => 4 | .softmax => 5 | .rmsnorm => 6
  | .layernorm => 7 | .redsum => 8 | .redmax => 9 | .topk => 10 | .sample => 11 | .treeverify => 12

/-- A finite FP32 result that overflowed in rounding becomes ±∞ with InfProduced (Table 4-7). -/
def finOrInf (c : Nat) : Flagged Nat := (c, match f32 c with | .inf _ => flagInfProduced | _ => 0)

/-- A result that lies below the smallest normal FP32 value, and is not negative (Table 6-3). -/
def subnormal (c : Nat) : Nat := min (c % 2 ^ 31) 0x7FFFFF

/-- EXP of one value (Table 6-3). -/
def sfuExp (x : Fp) (offered : Nat) : Flagged Nat :=
  match x with
  | .nan => (nanCode fmtFP32, flagNanInput)
  | .inf s => ((if s then 0 else 0x7F800000), flagInfInput)
  | .fin s m e =>
    if m = 0 then (pickWithin (.fin false 1 0) (fpTimes 2 (ulp32 (.fin false 1 0))) offered, 0)
    else if Fp.lt (.fin false 887228 0) (fpTimes 10000 x) && !s then (0x7F800000, flagInfProduced)
    else if s && Fp.lt x (.fin true 110 0) then
      -- below −110 the exact result lies below half of the smallest subnormal: within 2 ulp it is 0 to 2^−148
      (subnormal (pickWithin (.fin false 0 0) (fpTimes 2 (pow2 (-149))) offered), 0)
    else if s && Fp.lt (fpTimes 10000 x) (.fin true 873365 0) then
      let r := expRef (.fin s m e)
      let top : Fp := .fin false 0x7FFFFF (-149)
      (subnormal (pickWithin (if Fp.lt top r then top else r) (fpTimes 2 (pow2 (-149))) offered), 0)
    else
      let r := expRef (.fin s m e)
      finOrInf (pickWithin r (fpTimes 2 (ulp32 r)) offered)

/-- RECIP of one value (Table 6-3). -/
def sfuRecip (x : Fp) (offered : Nat) : Flagged Nat :=
  match x with
  | .nan => (nanCode fmtFP32, flagNanInput)
  | .inf s => (fmtFP32.sign s, flagInfInput)
  | .fin s m e =>
    if m = 0 then (fmtFP32.sign s + 0x7F800000, flagInfProduced)
    else
      let r := divRef (.fin false 1 0) (.fin s m e)
      finOrInf (pickWithin r (ulp32 r) offered)

/-- RSQRT of one value (Table 6-3); −0 follows IEEE 754: −∞. -/
def sfuRsqrt (x : Fp) (offered : Nat) : Flagged Nat :=
  match x with
  | .nan => (nanCode fmtFP32, flagNanInput)
  | .inf s => if s then (nanCode fmtFP32, orFlags flagInfInput flagNanProduced) else (0, flagInfInput)
  | .fin s m e =>
    if m = 0 then (fmtFP32.sign s + 0x7F800000, flagInfProduced)
    else if s then (nanCode fmtFP32, flagNanProduced)
    else
      let r := rsqrtRef (.fin s m e)
      (pickWithin r (ulp32 r) offered, 0)

/-- A negative number whose magnitude is far below every bound of Table 6-3: it stands for a tail of that size. -/
def tinyNeg : Fp := .fin true 1 (-200)

/-- SILU of one value: x / (1 + e^−x) (Table 6-3). Beyond ±100 the difference from −0, or from x, is below 2^−130. -/
def sfuSilu (x : Fp) (offered : Nat) : Flagged Nat :=
  match x with
  | .nan => (nanCode fmtFP32, flagNanInput)
  | .inf s => ((if s then 0x80000000 else 0x7F800000), flagInfInput)
  | .fin s m e =>
    let y := Fp.fin s m e
    let r :=
      if Fp.lt y (.fin true 100 0) then tinyNeg
      else if Fp.lt (.fin false 100 0) y then (Fp.add y tinyNeg).1
      else divRef y ((Fp.add (.fin false 1 0) (expRef y.neg)).1)
    (pickWithin r (fpMax (fpTimes 4 (ulp32 r)) (pow2 (-24))) offered, 0)

/-- GELU of one value: x·Φ(x) (Table 6-3). Up to −9 the difference from −0 is below 2^−59. -/
def sfuGelu (x : Fp) (offered : Nat) : Flagged Nat :=
  match x with
  | .nan => (nanCode fmtFP32, flagNanInput)
  | .inf s => ((if s then 0x80000000 else 0x7F800000), flagInfInput)
  | .fin s m e =>
    let y := Fp.fin s m e
    let r := if Fp.lt (.fin true 9 0) y then (Fp.mul y (phiRef y)).1 else tinyNeg
    (pickWithin r (fpMax (fpTimes 8 (ulp32 r)) (pow2 (-24))) offered, 0)

/-- An elementwise special function of one value. -/
def sfuElem (op : SfuOp) (x : Fp) (offered : Nat) : Flagged Nat :=
  match op with
  | .exp => sfuExp x offered
  | .recip => sfuRecip x offered
  | .rsqrt => sfuRsqrt x offered
  | .silu => sfuSilu x offered
  | .gelu => sfuGelu x offered
  | _ => (0, 0)

/-! The fixed summation order (R238, R737). -/

/-- The elements at positions congruent to j modulo 32, in ascending position, added in FP32. DESIGN CHOICE (log entry 69): a lane starts at
+0, which is also the sum of a lane without elements. -/
def laneSum (xs : List Nat) (j : Nat) : Flagged Nat :=
  (xs.zipIdx).foldl (fun a e => if e.2 % 32 = j then
    let (c, g) := f32Add a.1 e.1
    (c, orFlags a.2 g) else a) (0, 0)

/-- One level of the pairwise tree: lane 2i with lane 2i + 1. -/
def pairUp : List (Flagged Nat) → List (Flagged Nat)
  | a :: b :: r => let (c, g) := f32Add a.1 b.1; (c, orFlags g (orFlags a.2 b.2)) :: pairUp r
  | l => l

/-- The sum of a logical row: 32 lane sums, then five levels of pairs (R238). -/
def fixedSum (xs : List Nat) : Flagged Nat :=
  match pairUp (pairUp (pairUp (pairUp (pairUp ((List.range 32).map (laneSum xs)))))) with
  | x :: _ => x
  | [] => (0, 0)

/-! Softmax over one logical row of FP32 codes (R239, R240). -/

/-- The largest value of a row of numbers, by Fp.lt. -/
def rowMax (xs : List Fp) : Fp := xs.foldl (fun a x => if Fp.lt a x then x else a) (.inf true)

/-- e^(x − m) as a reference value: 0 at −∞. -/
def softTerm (m x : Fp) : Fp :=
  match x with
  | .fin .. =>
    let d := (Fp.add x m.neg).1
    if Fp.lt d (.fin true 200 0) then .fin false 0 0 else expRef d
  | _ => .fin false 0 0

/-- Softmax of a row: the FP32 results before the final rounding, and the flags (R239, R240). `offered i` is
the free code at position i. -/
def softmaxRow (xs : List Nat) (offered : Nat → Nat) : List Nat × Nat :=
  let vs := xs.map f32
  if vs.any Fp.isNan then
    (xs.map (fun _ => nanCode fmtFP32), orFlags flagNanInput (if vs.any (fun x => x == .inf false) then orFlags flagInfInput flagNanProduced else 0))
  else if vs.any (fun x => x == .inf false) then
    (xs.map (fun _ => nanCode fmtFP32), orFlags flagInfInput flagNanProduced)
  else if vs.all (fun x => x == .inf true) then (xs.map (fun _ => 0), 0)
  else
    let m := rowMax vs
    let ts := vs.map (softTerm m)
    let S := ts.foldl (fun a t => (Fp.add a t).1) (.fin false 0 0)
    (ts.zipIdx.map (fun e =>
      match vs.getD e.2 .nan with
      | .inf _ => 0
      | _ =>
        let r := divRef e.1 S
        pickWithin r (fpMax (fpTimes 4 (ulp32 r)) (pow2 (-30))) (offered e.2) % 2 ^ 31), 0)

/-! Philox4x32-10 (R254). -/

/-- One round; the key advances afterwards. -/
def philoxRound (c0 c1 c2 c3 k0 k1 : Nat) : Nat × Nat × Nat × Nat :=
  let p0 := 0xD2511F53 * c0
  let p1 := 0xCD9E8D57 * c2
  (Nat.xor (Nat.xor (p1 / 2 ^ 32) c1) k0, p1 % 2 ^ 32, Nat.xor (Nat.xor (p0 / 2 ^ 32) c3) k1, p0 % 2 ^ 32)

/-- n further rounds. -/
def philoxGo : Nat → Nat × Nat × Nat × Nat → Nat → Nat → Nat × Nat × Nat × Nat
  | 0, c, _, _ => c
  | n + 1, (c0, c1, c2, c3), k0, k1 =>
    philoxGo n (philoxRound c0 c1 c2 c3 k0 k1) ((k0 + 0x9E3779B9) % 2 ^ 32) ((k1 + 0xBB67AE85) % 2 ^ 32)

/-- The first output word for a seed key, stream and draw number (R254). -/
def philoxX0 (seedKey stream d : Nat) : Nat :=
  (philoxGo 10 (d % 2 ^ 32, d / 2 ^ 32 % 2 ^ 32, 0, 0) (seedKey % 2 ^ 32)
    (Nat.xor (seedKey / 2 ^ 32 % 2 ^ 32) stream)).1

/-- u = (x0 >> 8) × 2^−24, as an FP32 code (R254). -/
def drawU (seedKey stream d : Nat) : Nat := (toF32 (.fin false (philoxX0 seedKey stream d / 256) (-24))).1

end Sys2Proof.Machine
end

