-- ==== Sys2Proof/Machine/Pricking.lean ====
section
/-! DEFINITION. Pricking slots and their validation (section 2.4, R542). -/

namespace Sys2Proof.Machine

open Sys2Proof

/-- Words of a slot: a header of four, then entries of two (R72). -/
def slotWords : Nat := 131072

/-- A word of a pricking slot. -/
def Prickings.word (p : Prickings) (slot w : Nat) : Nat := Tbl.get 0 p.mem (slot * slotWords + w)

/-- Decode a pricking entry from its two words (Table 2-6). -/
def pentryOf (w0 w1 : Nat) : PEntry :=
  { stream := bits w0 63 50, die := bits w0 49 47, cls := bits w0 46 45, rsv := bits w0 44 40,
    pattern := bits w0 39 24, firstStep := bits w0 23 12, stepCount := bits w0 11 0,
    start := bits w1 63 48, deadline := bits w1 47 24, cores := bits w1 23 16,
    after := if bits w1 15 15 = 1 then some (bits w1 14 0) else none }

/-- The two words of an entry (Table 2-6). -/
def PEntry.words (e : PEntry) : Nat × Nat :=
  (e.stream * 2 ^ 50 + e.die * 2 ^ 47 + e.cls * 2 ^ 45 + e.rsv * 2 ^ 40 + e.pattern * 2 ^ 24 + e.firstStep * 2 ^ 12 + e.stepCount,
   e.start * 2 ^ 48 + e.deadline * 2 ^ 24 + e.cores * 2 ^ 16 + (match e.after with | some i => 2 ^ 15 + i | none => 0))

/-- The entries of a slot. -/
def Prickings.entriesOf (p : Prickings) (slot n : Nat) : List PEntry :=
  (List.range n).map (fun i => pentryOf (p.word slot (4 + 2 * i)) (p.word slot (5 + 2 * i)))

/-- The longest deadline of a class in frames (Table 2-7). -/
def deadlineFrames (cls : Nat) : Nat := if cls = 0 then 1 else if cls = 1 then 4 else 64

/-- The per-entry rows of Table 2-7, in order, each with its status. -/
def entryRows (fl : Nat) : List (Status × (Nat → PEntry → Bool)) :=
  [(.typeMismatch, fun _ e => decide (e.cls ≠ 3)),
   (.typeMismatch, fun _ e => decide (e.start < e.deadline)),
   (.typeMismatch, fun _ e => decide (e.deadline ≤ deadlineFrames e.cls * fl)),
   (.lengthExceeds, fun _ e => decide (e.cores ≤ 48)),
   (.typeMismatch, fun i e => match e.after with | some a => decide (a < i) | none => true)]

/-- The first entry that fails a row. -/
def firstBad (ok : Nat → PEntry → Bool) (es : List PEntry) : Option Nat :=
  (es.zipIdx.find? (fun e => !ok e.2 e.1)).map (·.2)

/-- The first failing row with the entry that fails it. -/
def badEntry (fl : Nat) (es : List PEntry) : Option (Status × Nat) :=
  (entryRows fl).findSome? (fun r => (firstBad r.2 es).map (fun i => (r.1, i)))

/-- PRICKING_VALIDATE (R74, Table 2-7): the status and RejectIndex, with the pricking's entries. The first row covers the reserved
bits of every entry too, with the first such entry as RejectIndex (log entry 12). -/
def validatePricking (s : State) (slot : Nat) : Status × Nat × List PEntry :=
  let p := s.prick
  let w1 := p.word slot 1
  let c := s.tb.frame
  let f := p.word slot 0
  let n := bits w1 15 0
  let es := p.entriesOf slot (min n 32768)
  if bits w1 23 16 ≠ 1 ∨ bits w1 63 32 ≠ 0 ∨ bits w1 31 25 ≠ 0 ∨ bits (p.word slot 2) 31 8 ≠ 0 then
    (.typeMismatch, 0, [])
  else if (firstBad (fun _ e => decide (e.rsv = 0)) es).isSome then
    (.typeMismatch, (firstBad (fun _ e => decide (e.rsv = 0)) es).getD 0, [])
  else if 32768 < n then (.lengthExceeds, 0, [])
  else if f < c + 2 then (.stale, 0, [])
  else if c + 9 < f then (.busy, 0, [])
  else
    match badEntry s.tb.frameLength es with
    | some (st, i) => (st, i, [])
    | none => (.ok, 0, es)

/-- The RO words of a slot. -/
def Prickings.slotRo (p : Prickings) (slot : Nat) : SlotStatus := Tbl.get {} p.ro slot

/-- Write the RO words of a slot. -/
def Prickings.report (p : Prickings) (slot : Nat) (x : SlotStatus) : Prickings := { p with ro := Tbl.put {} p.ro slot x }

/-- Does the port own the slot (R542)? -/
def State.ownsSlot (s : State) (port slot : Nat) : Bool := decide (s.reg (okey 0x3010 0) / 2 ^ slot % 2 = port)

/-- Take an accepted pricking: it replaces an earlier one for its frame, whose slot then reads STALE (R76). -/
def Prickings.take (p : Prickings) (a : Accepted) : Prickings :=
  let old := p.accepted.filter (fun b => decide (b.frame = a.frame) && decide (b.slot ≠ a.slot))
  let p1 := old.foldl (fun q b =>
    q.report b.slot { q.slotRo b.slot with status := Status.stale.code }) p
  { p1 with accepted := p1.accepted.filter (fun b => decide (b.frame ≠ a.frame)) ++ [a] }

/-- PRICKING_DOORBELL (R72, R74 to R76, R78, R542). Before the first frame there is no current frame to check
against, and the pricking is refused with NOT_READY (log entry 12). -/
def execPrickingDoorbell (port : Fin 2) (slot : Fin 8) (s : State) : Out :=
  let i := slot.val
  let p := s.prick
  if (s.port port.val).st = .down then .next s
  else if !s.ownsSlot port.val i then
    .next { s.traceOpen 7 5 1 (some 0x15) none none with prick := p.report i { p.slotRo i with status := Status.accessDenied.code } }
  else if !s.tb.begun then
    .next { s.traceOpen 7 5 1 (some 0x15) none none with prick := p.report i { rejectIndex := 0, status := Status.notReady.code, acceptTick := 0 } }
  else
    let (st, bad, es) := validatePricking s i
    let p1 := p.report i { rejectIndex := bad, status := st.code, acceptTick := s.tb.count }
    if st = .ok then
      let a : Accepted :=
        { frame := p.word i 0, slot := i, repeatable := decide (bits (p.word i 1) 24 24 = 1),
          frameLength := s.tb.frameLength, entries := es }
      .next { s.traceOpen 7 5 1 (some 0x15) none none with prick := p1.take a }
    else .next { s.traceOpen 7 5 1 (some 0x15) none none with prick := p1 }

/-- The RW bits of a header word: word 2 keeps only its reserved field, word 3 is RO (Table 2-5). -/
def slotWordMask (word v : Nat) : Nat :=
  if word = 2 then v / 2 ^ 8 % 2 ^ 24 * 2 ^ 8 else if word = 3 then 0 else v

/-- PRICKING_SLOT_WRITE: a host writes a 64-bit word of a slot; RO fields keep what the hub wrote (R72, R24). Words
beyond the entries are not assigned (R538). The slots are shared by the ports (R539). -/
def execPrickingSlotWrite (port : Fin 2) (slot : Fin 8) (word : Nat) (v : BitVec 64) (s : State) : Out :=
  .next (when (decide ((s.port port.val).st ≠ .down) && decide (word < 4 + 2 * 32768))
    { s with prick := { s.prick with
      mem := Tbl.put 0 s.prick.mem (slot.val * slotWords + word) (slotWordMask word v.toNat) } } s)

/-- PRICKING_FIX at the start of frame c = N − 1: the pricking of frame N, repeating the last one where R77 and R78 let
it. The second part tells whether a repeat was counted. -/
def fixPricking (p : Prickings) (c limit fl : Nat) : Prickings × Bool :=
  match p.accepted.find? (fun a => decide (a.frame = c + 1)) with
  | some a => ({ p with fixed := some a, repeats := 0, accepted := p.accepted.filter (fun b => decide (c + 1 < b.frame)) }, false)
  | none =>
    let acc := p.accepted.filter (fun b => decide (c + 1 < b.frame))
    match p.fixed with
    | some a =>
      if decide (a.frame = c) && a.repeatable && decide (p.repeats < limit) && decide (a.frameLength = fl) then
        ({ p with fixed := some { a with frame := c + 1 }, repeats := p.repeats + 1, accepted := acc }, true)
      else ({ p with fixed := none, repeats := 0, accepted := acc }, false)
    | none => ({ p with fixed := none, repeats := 0, accepted := acc }, false)

/-- The class of an accepted entry. -/
def classOf (c : Nat) : EntryClass := if c = 0 then .live else if c = 1 then .nearLive else .bulk

/-- An entry as its die's sequencer manager receives it when its frame begins (R79). -/
def entryOf (frame start fl i : Nat) (e : PEntry) : Entry :=
  { frame := frame, idx := i, die := e.die, stream := e.stream, cls := classOf e.cls, pattern := e.pattern,
    firstStep := e.firstStep, stepCount := e.stepCount, start := start + e.start, deadline := start + e.deadline,
    cores := e.cores, after := e.after, frameLength := fl }

end Sys2Proof.Machine
end

