-- ==== Sys2Proof/Machine/StreamRecord.lean ====
section
/-! DEFINITION. Stream state records (sections 6.5, 13.4): the sampling-state record, and the stream commands SAMPLING,
STATEWRITE and STATEREAD on the committed copy, which wait while a step of the stream runs (R554). -/

namespace Sys2Proof.Machine

open Sys2Proof

/-- Word i of a state record. -/
def recWord (m : Tbl Byte) (i : Nat) : Nat := rdLe m (8 * i) 8

/-- The eight words of the sampling-state record (Table 6-4). -/
def samplingWords (m : Tbl Byte) : List Nat := (List.range 8).map (recWord m)

/-- Write them back. -/
def putSampling (m : Tbl Byte) (ws : List Nat) : Tbl Byte :=
  ws.zipIdx.foldl (fun t w => wrLe t (8 * w.2) 8 w.1) m

/-- Word i of a record held as a list. -/
def wd (ws : List Nat) (i : Nat) : Nat := ws.getD i 0

def recTemperature (ws : List Nat) : Nat := bits (wd ws 2) 63 32
def recTopK (ws : List Nat) : Nat := bits (wd ws 2) 31 16
def recNucleus (ws : List Nat) : Bool := bits (wd ws 2) 1 1 = 1
def recGreedy (ws : List Nat) : Bool := bits (wd ws 2) 0 0 = 1
def recTopP (ws : List Nat) : Nat := bits (wd ws 3) 63 32
def recLastToken (ws : List Nat) : Nat := bits (wd ws 3) 31 0

/-- Is an FP32 code a finite value above 0? -/
def f32Positive (c : Nat) : Bool :=
  match f32 c with | .fin s m _ => !s && decide (m ≠ 0) | _ => false

/-- The checks of R250, in order. -/
def recCheck (ws : List Nat) : Option Status :=
  if !recGreedy ws && !f32Positive (recTemperature ws) then some .typeMismatch
  else if recNucleus ws && !(f32Positive (recTopP ws) && !Fp.ltNum (f32 0x3F800000) (f32 (recTopP ws))) then some .typeMismatch
  else if bits (wd ws 2) 15 2 ≠ 0 ∨ wd ws 7 ≠ 0 then some .typeMismatch
  else if 1024 < recTopK ws then some .lengthExceeds
  else none

/-- The record that OPEN writes (R553, Table 6-4). -/
def initialRecord (seed : Nat) : List Nat :=
  [seed, 0, 0x3F800000 * 2 ^ 32, 0x3F800000 * 2 ^ 32, 0, 0, 0, 0]

/-- SAMPLING's effect on the record: FieldMask bits 0 to 5 select SeedKey, Temperature, TopP, TopK, LastToken, and Greedy
with Nucleus (Table 13-10). -/
def samplingWrite (ws cmd : List Nat) : List Nat :=
  let mask := bits (wd cmd 4) 63 58
  let sel (i : Nat) : Bool := decide (mask / 2 ^ i % 2 = 1)
  let w0 := if sel 0 then wd cmd 1 else wd ws 0
  let w2a := if sel 1 then setField (wd ws 2) 63 32 (bits (wd cmd 2) 63 32) else wd ws 2
  let w2b := if sel 3 then setField w2a 31 16 (bits (wd cmd 3) 63 48) else w2a
  let w2 := if sel 5 then setField w2b 1 0 (bits (wd cmd 4) 1 0) else w2b
  let w3a := if sel 2 then setField (wd ws 3) 63 32 (bits (wd cmd 2) 31 0) else wd ws 3
  let w3 := if sel 4 then setField w3a 31 0 (bits (wd cmd 3) 31 0) else w3a
  [w0, wd ws 1, w2, w3, wd ws 4, wd ws 5, wd ws 6, wd ws 7]

/-! Fields of a submission queue entry (R555, Table 13-10). -/

def cOpcode (ws : List Nat) : Nat := bits (wd ws 0) 63 56
def cNotify (ws : List Nat) : Bool := bits (wd ws 0) 55 55 = 1
def cTag (ws : List Nat) : Nat := bits (wd ws 0) 47 32
def cStream (ws : List Nat) : Nat := bits (wd ws 0) 31 18

/-- Where a record of n bytes goes in each polder of a home die's pair: the lowest place that is free in the frames reserved for records, or
one past every other where none there is long enough (log entry 27). -/
def State.recPlace (s : State) (home n : Nat) : Nat :=
  let held := (s.streams.filter (fun e => decide (e.2.st ≠ .closed) && decide (e.2.home = home))).map (fun e => (e.2.recBase, e.2.stateSize * 4096))
  let fits (b : Nat) : Bool := decide (b + n ≤ 6145 * 2 ^ 16) && held.all (fun h => decide (h.1 + h.2 ≤ b) || decide (b + n ≤ h.1))
  ((4097 * 2 ^ 16 :: held.map (fun h => h.1 + h.2)).find? fits).getD (held.foldl (fun a h => max a (h.1 + h.2)) (2 ^ 37))

/-- Give a fetched command its outcome. -/
def State.finishCmd (s : State) (port sq entry status : Nat) : State :=
  let p := s.port port
  let mine : Taken → Bool := fun t => decide (t.sq = sq) && decide (t.entry = entry) && t.status.isNone
  s.setPort port { p with taken := modifyFirst mine (fun t => { t with status := some status }) p.taken }

/-- Carry out a SAMPLING, STATEWRITE or STATEREAD on the committed copy (R554): a STATEREAD writes host memory. One that meets a poisoned
line of the copy, or an outage of its polder, changes nothing and answers UNCORRECTED (R267, R270, R734; log entry 41); a SAMPLING reads the
record and writes it back whole. -/
def State.applyDeferred (s0 : State) (d : Deferred) : State :=
  let i := cStream d.words
  let x := s0.stream i
  let s := s0.touch (x.recUnit false)
  let off := bits (wd d.words 2) 63 32
  let len := bits (wd d.words 2) 31 0
  if (match cOpcode d.words with
      | 0x04 => s.recReadBad x false 0 64
      | 0x05 => s.recWriteBad x false off len
      | _ => s.recReadBad x false off len) then s.finishCmd d.port d.sq d.entry Status.uncorrected.code
  else
  match cOpcode d.words with
  | 0x04 =>
    let ws := samplingWrite (samplingWords x.committed) d.words
    match recCheck ws with
    | some st => s.finishCmd d.port d.sq d.entry st.code
    | none => match d.fails with
      | some st => s.finishCmd d.port d.sq d.entry st
      | none => (s.setStream i { x with committed := putSampling x.committed ws }).finishCmd d.port d.sq d.entry 0
  | 0x05 =>
    ((s.recWrote x false off len).setStream i { x with committed := wrBytes x.committed off d.data }).finishCmd d.port d.sq d.entry 0
  | _ =>
    let s1 : State := { s with hostMem := wrBytes s.hostMem (d.port * 2 ^ 64 + wd d.words 1) (rdBytes x.committed off len) }
    s1.finishCmd d.port d.sq d.entry 0

/-- Does a step of the stream run (R554)? -/
def State.streamRuns (s : State) (i : Nat) : Bool := s.grants.any (fun g => decide (g.stream = i))

/-- Apply the commands that waited for a stream's step, unless another step of the stream still runs (R554). -/
def State.applyWaiting (s : State) (i : Nat) : State :=
  let x := s.stream i
  if s.streamRuns i then s
  else x.deferred.foldl (fun t d => t.applyDeferred d) (s.setStream i { x with deferred := [] })

/-- OutputHead and OutputMediaTime of the committed output block (Table 13-8). -/
def Stream.outputAt (x : Stream) : Nat × Nat := (rdLe x.committed 0x80 8, rdLe x.committed 0x88 8)

/-- A step commits: its working copy becomes the committed one, where it lies. Where the commit is late and falls inside the frame of its deadline
(`hold`), the output from here on waits for the next frame's record (R83, R87, R214). -/
def Stream.commitStep (x : Stream) (hold late : Bool) : Stream :=
  { x with
    committed := x.working
    swapped := !x.swapped
    stepped := true
    late := x.late || late
    lateFrom := if hold && x.lateFrom.isNone then some x.outputAt else x.lateFrom }

end Sys2Proof.Machine
end

