-- ==== Sys2Proof/Machine/Steps.lean ====
section
/-! DEFINITION. Entries and steps (sections 2.5 and 5.12 to 5.14): the states of an entry, grants, step start, faults,
withdrawal and discard with their completion records. -/

namespace Sys2Proof.Machine

open Sys2Proof

/-! Withdrawal and discard. -/

/-- The state of an entry's predecessor among entries already settled (the same pricking's frame; R79). -/
def predState (done : List Entry) (e : Entry) : Option EntrySt :=
  match e.after with
  | none => none
  | some a => (done.find? (fun x => decide (x.frame = e.frame) && decide (x.idx = a))).map (·.st)

/-- Has the predecessor committed, or is there none (Table 2-8)? -/
def predCommitted (es : List Entry) (e : Entry) : Bool :=
  match e.after with
  | none => true
  | some _ => predState es e == some .committed

/-- A pass over the entries in order: `f` names those that become withdrawn or discarded, with the cause, and every
entry that waits on a withdrawn or discarded predecessor follows it (R84, R86, R228). A discard that follows a
predecessor reports cause DISCARDED (log entry 13). -/
def sweep (f : Entry → Option (EntrySt × FaultInfo)) (es : List Entry) : List Entry × List (Entry × FaultInfo) :=
  es.foldl (fun (acc : List Entry × List (Entry × FaultInfo)) e =>
    if e.st.final then (acc.1 ++ [e], acc.2)
    else
      let change : Option (EntrySt × FaultInfo) :=
        match f e with
        | some r => some r
        | none =>
          match predState acc.1 e with
          | some .withdrawn => some (.withdrawn, {})
          | some .discarded => some (.discarded, { cause := Status.discarded.code })
          | _ => none
      match change with
      | some (st, fi) => (acc.1 ++ [{ e with st := st }], acc.2 ++ [({ e with st := st }, fi)])
      | none => (acc.1 ++ [e], acc.2)) ([], [])

/-- DeadlineCounters index of a miss by class (Table 2-9). -/
def missIndex : EntryClass → Nat
  | .live => 2 | .nearLive => 3 | .bulk => 4

/-- Note the completion of a paired stream's pricking entry for the commit record of the frame (R508). -/
def State.note (s : State) (e : Entry) (committed : Bool) (status : Nat) : State :=
  let x := s.stream e.stream
  if x.paired ∧ s.pair.role ≠ .unpaired then
    { s with pair := { s.pair with notes := s.pair.notes ++
        [{ stream := e.stream, die := e.die, idx := e.idx, pattern := e.pattern, hasDraw := e.drew, committed := committed,
           status := status, frame := e.frame, tick := s.dieTick e.die, words := samplingWords x.committed, tokens := e.tokens,
           slack := e.slack }] } }
  else s

/-- Report an entry that was withdrawn or discarded: one record, for the step that stands next (R231; log entry 13). -/
def State.reportEnded (s : State) (x : Entry × FaultInfo) : State :=
  let e := x.1
  let withdrawn := decide (e.st = .withdrawn)
  let s1 := s.postStep e.stream e.die (e.firstStep + e.done) e.pattern 0
    (if withdrawn then Status.deadlineMissed.code else Status.discarded.code) (if withdrawn then {} else x.2)
  let s1' := s1.traceStep (if withdrawn then 3 else 4) e.stream e.die (e.firstStep + e.done) e.pattern 0
    (if withdrawn then Status.deadlineMissed.code else Status.discarded.code)
  let s2 := s1'.note e false (if withdrawn then Status.deadlineMissed.code else Status.discarded.code)
  if withdrawn then s2.bump (okey 0x2031 (missIndex e.cls)) else s2

/-- Carry out a sweep with its reports. -/
def State.sweepEntries (s : State) (f : Entry → Option (EntrySt × FaultInfo)) : State :=
  let (es, ended) := sweep f s.entries
  ended.foldl (fun t x => t.reportEnded x) { s with entries := es }

/-- The started transfers of a core, which may still land after a discard (R228). -/
def orphansOf (g : Grant) (m : Nat) (r : CoreRun) : List Orphan :=
  (r.started.filter (fun e => decide (8 ≤ e.1))).flatMap (fun e =>
    e.2.map (fun q => { die := g.die, core := m, stream := g.stream, base := g.base, descOff := g.descOff, q := q }))

/-- The physical cores of a grant serve it no more; each keeps its ArithFlags as the step left them (R169). -/
def State.freeGrant (s : State) (g : Grant) : State :=
  { g.cores.foldl (fun t m => match t.run (coreKey g.die m) with
      | some r => (t.setCore (coreKey g.die m) { t.core (coreKey g.die m) with arith := r.arith }).setRun (coreKey g.die m) none
      | none => t) s with
    grants := s.grants.filter (fun x => decide (x.id ≠ g.id)) }

/-- Stop every core of a grant: queues, waits and the record in the special function unit are dropped (R112, R228). -/
def State.stopCores (s : State) (g : Grant) : State :=
  let orph := g.cores.flatMap (fun m =>
    match s.run (coreKey g.die m) with | some r => orphansOf g m r | none => [])
  { s.freeGrant g with orphans := s.orphans ++ orph }

/-- ArithFlags ORed over the grant (R171). -/
def State.grantFlags (s : State) (g : Grant) : Nat :=
  g.cores.foldl (fun a m => match s.run (coreKey g.die m) with | some r => a ||| r.arith | none => a) g.arith

/-- Counters of step faults by cause (Table 5-17). -/
def State.countFault (s : State) (cause : Nat) : State :=
  let s1 := s.bump (okey 0x4311 1)
  if cause = Status.runLimit.code then s1.bump (okey 0x4311 3)
  else if cause = Status.trap.code then s1.bump (okey 0x4311 4)
  else if cause = Status.uncorrected.code then s1.bump (okey 0x4311 5)
  else s1

/-- STEP_FAULT: the step is discarded on every core of its grant, with the entry's later steps and every entry that
waits on it; the committed stream state stays (R22, R112, R228). Commands that waited for the step then take effect
(R554). -/
def State.stepFault (s : State) (g : Grant) (fi : FaultInfo) : State :=
  let arith := s.grantFlags g
  let s1 := (s.stopCores g).countFault fi.cause
  let s2 := (s1.postStep g.stream g.die g.step g.pattern arith Status.discarded.code fi).traceStep 4 g.stream g.die g.step g.pattern arith
    Status.discarded.code
  let hit : Entry → Bool := fun e => decide (e.frame = g.frame) && decide (e.idx = g.entry) && decide (e.st = .running)
  let s3 : State := { s2 with entries := s2.entries.map (fun e => if hit e then { e with st := .discarded } else e) }
  let s4 := (s3.entries.filter (fun e => decide (e.frame = g.frame) && decide (e.idx = g.entry))).foldl
    (fun t e => t.note e false Status.discarded.code) s3
  (s4.sweepEntries (fun _ => none)).applyWaiting g.stream

/-- Discard every step that runs on a die, and its Pending and Ready entries (R86, R230). -/
def State.discardDie (s : State) (die : Nat) (fi : FaultInfo) : State :=
  let s1 := (s.grants.filter (fun g => decide (g.die = die))).foldl (fun t g => t.stepFault g fi) s
  s1.sweepEntries (fun e => if e.die = die then some (.discarded, fi) else none)

/-- The grant that a physical core serves. -/
def State.grantOf (s : State) (k : Nat) : Option (Grant × CoreRun) :=
  match s.run k with
  | none => none
  | some r => (s.grants.find? (fun g => decide (g.id = r.grant))).map (fun g => (g, r))

/-! Entries reach Ready, and leave it at their deadline. -/

/-- ENTRY_START_OFFSET: a Pending entry reaches its StartOffset with its predecessor committed and becomes Ready
(R79); a freeze leaves it Pending (Table 17-10). -/
def execEntryStartOffset (frame idx : Nat) (s : State) : Out :=
  if s.halted then .next s
  else .next { s with entries := s.entries.map (fun e =>
    if decide (e.frame = frame) && decide (e.idx = idx) && decide (e.st = .pending) && decide (e.start ≤ s.dieTick e.die)
      && predCommitted s.entries e then { e with st := .ready } else e) }

/-- DEADLINE_TICK: every entry of the die still Pending or Ready when its deadline tick begins is Withdrawn, with its
dependants (R84); in a freeze they stay until its release (R710). -/
def execDeadlineTick (die : Fin 8) (s : State) : Out :=
  if s.halted then .next s
  else .next (s.sweepEntries (fun e =>
    if decide (e.die = die.val) && (decide (e.st = .pending) || decide (e.st = .ready)) && decide (e.deadline ≤ s.dieTick die.val)
    then some (.withdrawn, {}) else none))

/-- The enabled number of a physical core, for reports. -/
def State.numberOf (s : State) (die m : Nat) : Nat := ((s.core (coreKey die m)).number).getD 0

/-- STEP_RUN_LIMIT: a step has run StepRunLimit ticks since its grant and faults with RUN_LIMIT; the record names the
first core of the grant and the sequencer manager (R229; log entry 13). -/
def execStepRunLimit (die : Fin 8) (s : State) : Out :=
  match s.grants.find? (fun g => !s.stopped && decide (g.die = die.val) && decide (g.tick + s.reg (okey 0x4310 0) ≤ s.dieTick die.val)) with
  | some g =>
    .next (s.stepFault g { cause := Status.runLimit.code, unit := 12, core := s.numberOf g.die (g.cores.headD 0) })
  | none => .next s

/-! Grants. -/

/-- PatternId of the known-answer pattern in the model's entries, above every PatternId (R521; log entry 35). -/
def katPattern : Nat := 2 ^ 16

/-- Does the unit complete a paired stream's entries with NOT_READY: it is the target of the stream's resync, or the unit is Detached (R515,
Table 12-1)? On an active unit that is a stream that its standby leads, and one that it took over Unsynced, which is lost until host
software opens it again (R525). -/
def State.pairBars (s : State) (stream : Nat) : Bool :=
  let x := s.stream stream
  x.paired && (match s.pair.role with
    | .detached => true
    | .standby | .joining => decide (x.sync = 2)
    | .active | .alone => decide (x.sync = 2) || decide (x.sync = 3)
    | .unpaired => false)

/-- Is the grant of an entry held: its stream waits for the commit record, or its copy runs (R510, R516), or commands on the stream's record
wait for its steps (R554), or it is a known-answer run while the table is being replaced (Table 16-4)? -/
def State.pairHolds (s : State) (e : Entry) : Bool :=
  let x := s.stream e.stream
  (decide (e.pattern = katPattern) && s.pausedBy 9 0) || decide (x.deferred ≠ []) || x.paired && (s.pair.held || s.pair.copying.contains e.stream)

/-- The order of R80, a known-answer run first among equal deadlines (R522); entries alike in all three go by frame (log entry 13). -/
def entryBefore (a b : Entry) : Bool :=
  if a.deadline ≠ b.deadline then decide (a.deadline < b.deadline)
  else if decide (a.pattern = katPattern) ≠ decide (b.pattern = katPattern) then decide (a.pattern = katPattern)
  else if a.cls ≠ b.cls then decide (a.cls.code < b.cls.code)
  else if a.idx ≠ b.idx then decide (a.idx < b.idx)
  else decide (a.frame < b.frame)

/-- Insert into the order. -/
def insertEntry (e : Entry) : List Entry → List Entry
  | [] => [e]
  | x :: r => if entryBefore e x then e :: x :: r else x :: insertEntry e r

/-- Ready entries of a die in the order of R80. -/
def State.readyOrder (s : State) (die : Nat) : List Entry :=
  (s.entries.filter (fun e => decide (e.die = die) && decide (e.st = .ready) && !s.pairHolds e)).foldl (fun l e => insertEntry e l) []

/-- The pattern a new entry runs: neither new before its boundary nor old (R225). -/
def Die.pattern (d : Die) (id : Nat) : Option Pattern :=
  d.patterns.find? (fun p => decide (p.id = id) && !p.fresh && !p.old)

/-- GRANT_CHECKS (R85, R515): the outcome with which the entry completes at once, if any; on a die under a full test NOT_READY
(R689). -/
def State.grantChecks (s : State) (e : Entry) : Option Status :=
  if s.test.dieTests.contains e.die then some .notReady
  else if e.pattern = katPattern then none
  else if s.pairBars e.stream then some .notReady
  else match (s.dieOf e.die).pattern e.pattern with
  | none => some .notReady
  | some p =>
    let st := (s.stream e.stream).st
    if st ≠ .opened ∧ st ≠ .waiting then some .notReady
    else if e.stepCount = 0 ∨ e.cores = 0 then some .ok
    else if s.coresInService e.die < e.cores then some .lengthExceeds
    else if p.steps < e.firstStep + e.stepCount then some .lengthExceeds
    else none

/-- Cores of a die in service that no grant and no BIST slice holds, in ascending number (R116). -/
def State.freeCores (s : State) (die : Nat) : List Nat :=
  (s.servingCores die).filter (fun m => (s.run (coreKey die m)).isNone && !(s.core (coreKey die m)).bist)

/-- Cores that bulk entries of a die hold (R82). -/
def State.bulkHeld (s : State) (die : Nat) : Nat :=
  ((s.grants.filter (fun g => decide (g.die = die) && decide (g.cls = .bulk))).map (·.cores.length)).sum

/-- Is a live or near-live entry of the die Pending, Ready or Running (R82)? -/
def State.liveOnDie (s : State) (die : Nat) : Bool :=
  s.entries.any (fun e => decide (e.die = die) && decide (e.cls ≠ .bulk) && !e.st.final)

/-- What the sequencer manager does with the order. -/
inductive GrantChoice where
  | refuse (e : Entry) (st : Status)
  | start (e : Entry)
  | hold
  deriving DecidableEq, Repr

/-- Walk the order (R80 to R82, R85): an entry's checks run when its turn comes; a bulk entry over the live reserve
waits with later bulk entries behind it and holds no cores; an entry that needs more cores than are free holds them
(log entry 13). -/
def State.choose (s : State) (die free : Nat) : List Entry → Bool → GrantChoice
  | [], _ => .hold
  | e :: r, bulkBlocked =>
    match s.grantChecks e with
    | some st => .refuse e st
    | none =>
      if e.cls = .bulk ∧ (bulkBlocked ∨ (s.liveOnDie die ∧ 48 - s.reg (okey 0x2030 0) < s.bulkHeld die + e.cores)) then
        s.choose die free r true
      else if free < e.cores then .hold
      else .start e

/-- Change the state of one entry. -/
def State.setEntry (s : State) (frame idx : Nat) (f : Entry → Entry) : State :=
  { s with entries := s.entries.map (fun e => if e.frame = frame ∧ e.idx = idx then f e else e) }

/-- An entry refused at grant completes at once with its check's status: with OK it counts as committed for the
entries that wait on it, else they are withdrawn (R85; log entry 13). -/
def State.refuseEntry (s : State) (e : Entry) (st : Status) : State :=
  let s0 := (s.postStep e.stream e.die e.firstStep e.pattern 0 st.code {}).note e (decide (st = .ok)) st.code
  let s1 := s0.traceStep (if st = .ok then 2 else 3) e.stream e.die e.firstStep e.pattern 0 st.code
  if st = .ok then s1.setEntry e.frame e.idx (fun x => { x with st := .committed })
  else (s1.setEntry e.frame e.idx (fun x => { x with st := .withdrawn })).sweepEntries (fun _ => none)

/-! STEP_START (R226). -/

/-- The ingress block that a grant writes (Table 13-7, R551). -/
def ingressBlock (x : Stream) (tick : Nat) : List Byte :=
  leBytes 8 x.inHead ++ leBytes 8 (x.inSeq % 2 ^ 32 * 2 ^ 32) ++ leBytes 8 x.inBase ++ leBytes 8 (x.inSize * 2 ^ 32)
  ++ leBytes 8 x.inTick ++ leBytes 8 tick ++ leBytes 16 0

/-- The state copy of R213, with the ingress block of R551 and the head that a GET of the step returns (R249). -/
def Stream.granted (x : Stream) (tick : Nat) : Stream :=
  { x with working := wrBytes x.committed 0x40 (ingressBlock x tick), stepHead := rdBytes x.committed 0 0x40 }

/-- The part of one core at step start (R181). -/
def startRun (g : Grant) (pos : Nat) : CoreRun :=
  { grant := g.id, pos := pos,
    idx := Tbl.put 0 (Tbl.put 0 (Tbl.put 0 (Tbl.put 0 [] 1 g.stream) 2 pos) 3 g.cores.length) 4 g.step }

/-- What a step start reads cannot be read: the committed record or the place of the working one, or the step's table entry, descriptors or
instructions in P2k, at a poisoned line or out of service (R213, R226, R267, R270). -/
def State.startBad (s : State) (g : Grant) : Bool :=
  let x := s.stream g.stream
  let y := s.store (2 * g.die)
  s.recReadBad x false 0 (x.stateSize * 4096) || (s.store (x.recUnit true)).out || y.out ||
  [(g.base + 64 + 16 * g.step, 16), (g.base + g.descOff, 32 * g.descCount), (g.base + g.codeOff, 8 * g.codeLen)].any
    (fun r => y.readPoisoned r.1 r.2)

/-- Start a step on every core of a grant: state copy, descriptors and code, cleared pins, semaphores and flags, index
registers (R226). The step table entry lies in the die's pattern memory, in P2k (R222, R278). What cannot be read faults the step with
UNCORRECTED before its first instruction, in the name of its first core (R267, R270; log entry 28). -/
def State.stepStart (s : State) (g : Grant) : State :=
  let img := (s.store (2 * g.die)).mem
  let w0 := rdLe img (g.base + 64 + 16 * g.step) 8
  let w1 := rdLe img (g.base + 72 + 16 * g.step) 8
  let g1 : Grant := { g with
    tick := s.dieTick g.die, sems := [], arith := 0, codeOff := bits w0 63 32, codeLen := bits w0 31 18,
    descCount := bits w0 17 11, descOff := bits w1 63 32 }
  let s0 := s.traceStep 1 g.stream g.die g.step g.pattern 0 0
  let x := s0.stream g.stream
  let s1 := (((s0.touch (2 * g.die)).touch (x.recUnit false)).recWrote x true 0 (x.stateSize * 4096)).setStream g.stream
    (x.granted (s0.dieTick g.die))
  let s2 : State := { s1 with
    grants := (s1.grants.filter (fun x => decide (x.id ≠ g.id))) ++ [g1]
    runs := g1.cores.zipIdx.foldl (fun t m => Tbl.put none t (coreKey g1.die m.1) (some (startRun g1 m.2))) s1.runs }
  if s0.startBad g1 then s2.stepFault g1 { cause := Status.uncorrected.code, core := s2.numberOf g.die (g.cores.headD 0) } else s2

/-- Grant an entry its cores and start its first step (R79, R116). -/
def State.grantEntry (s : State) (e : Entry) : State :=
  let base := match (s.dieOf e.die).pattern e.pattern with | some p => p.base | none => 0
  let g : Grant :=
    { id := s.nextGrant, die := e.die, frame := e.frame, entry := e.idx, stream := e.stream, pattern := e.pattern,
      step := e.firstStep + e.done, cls := e.cls, cores := (s.freeCores e.die).take e.cores, tick := s.dieTick e.die,
      base := base, codeOff := 0, codeLen := 0, descOff := 0, descCount := 0 }
  let s1 := { s with nextGrant := s.nextGrant + 1 }.setEntry e.frame e.idx (fun x => { x with st := .running })
  if e.pattern = katPattern then
    { s1 with grants := s1.grants ++ [g], runs := g.cores.zipIdx.foldl (fun t m => Tbl.put none t (coreKey g.die m.1) (some (startRun g m.2))) s1.runs }
  else s1.stepStart g

/-- CORE_GRANT: the sequencer manager of a die serves the head of its order (R80 to R82, R85, R226). A die that is out
of service, isolated or held grants nothing. -/
def execCoreGrant (die : Fin 8) (s : State) : Out :=
  let d := s.dieOf die.val
  let waits := s.pausedBy 4 die.val && decide (s.dieTick die.val < s.sec.update.holdTo)
  if !d.up || d.isolated || waits || s.halted then .next s
  else
    match s.choose die.val (s.freeCores die.val).length (s.readyOrder die.val) false with
    | .refuse e st => .next (s.refuseEntry e st)
    | .start e => .next (s.grantEntry e)
    | .hold => .next s

end Sys2Proof.Machine
end

