-- ==== Sys2Proof/Machine/Capture.lean ====
section
/-! DEFINITION. Tensor dumps (section 17.4): triggers, records and their statistics. -/

namespace Sys2Proof.Machine

open Sys2Proof

/-- Key of a subindex of dump trigger t (Table 17-6). -/
def dumpKey (t sub : Nat) : Nat := okey (0xB020 + t) sub

/-- Does a step match trigger t with captures left (R701, R702)? -/
def State.dumpMatches (s : State) (t : Nat) (g : Grant) : Bool :=
  let w := s.reg (dumpKey t 1)
  decide (bits w 63 63 = 1) && decide (s.reg (dumpKey t 2) ≠ 0) && decide (bits w 60 53 / 2 ^ g.die % 2 = 1) &&
  (decide (bits w 38 38 = 1) || decide (bits w 52 39 = g.stream)) && decide (bits w 31 16 = g.pattern) &&
  decide (bits w 15 4 = g.step)

/-- Statistics of a tensor in scratch: NaN count, infinity count, largest finite magnitude and sum of squares as FP32
codes (Table 17-7). -/
def tensorStats (o : Operand) (m : Tbl Byte) : Nat × Nat × Nat × Nat :=
  let vs := o.d.rows.flatMap (fun r => (List.range o.d.dim0).map (fun i => (o.elem m r.1 r.2 i).1))
  let cs := vs.map (fun x => if x.isFin then (toF32 x).1 else 0)
  ((vs.filter Fp.isNan).length, (vs.filter (fun x => !x.isFin && !x.isNan)).length,
   (toF32 (amax (vs.filter Fp.isFin))).1, (fixedSum (cs.map (fun c => (f32Mul c c).1))).1)

/-- The data of a tensor as R704 lays it out. -/
def tensorData (o : Operand) (m : Tbl Byte) : List Byte := o.runs.flatMap (fun r => rdBytes m r.1 r.2)

/-- The 64-byte header of a dump or digest record (Table 17-7). -/
def dumpHeader (g : Grant) (core desc : Nat) (d : Desc) (digest : Bool) (tick frame arith : Nat) (len crc : Nat)
    (st : Nat × Nat × Nat × Nat) : List Byte :=
  leBytes 8 (g.stream * 2 ^ 50 + g.die * 2 ^ 47 + core * 2 ^ 41 + desc * 2 ^ 35 + d.fmt * 2 ^ 30
    + (if digest then 2 ^ 29 else 0) + g.pattern)
  ++ leBytes 8 (g.step * 2 ^ 52 + (if digest then 0 else len)) ++ leBytes 8 tick
  ++ leBytes 8 (d.dim0 * 2 ^ 48 + d.dim1 * 2 ^ 32 + d.dim2 * 2 ^ 16)
  ++ leBytes 8 (crc * 2 ^ 32 + arith % 256 * 2 ^ 24)
  ++ leBytes 8 (st.1 % 2 ^ 32 * 2 ^ 32 + st.2.1 % 2 ^ 32)
  ++ leBytes 8 (st.2.2.1 * 2 ^ 32 + st.2.2.2) ++ leBytes 8 frame

/-- TENSOR_CAPTURE by trigger t on one core (R702 to R704). A destination that the ledger does not map, or that a poisoned
line refuses, skips the capture (log entry 16). -/
def State.captureBy (s : State) (t : Nat) (g : Grant) (m : Nat) (r : CoreRun) : State :=
  let w := s.reg (dumpKey t 1)
  let di := bits w 37 32
  if decide (g.descCount ≤ di) then s
  else
    let d := s.stepDesc g.die g.base g.descOff di
    let o := operand d 0
    let own := decide (d.space = 0)
    let sc := (s.core (coreKey g.die m)).scratch
    let data := if own then tensorData o sc else []
    let st := if own then tensorStats o sc else (0, 0, 0, 0)
    let pad := List.replicate (roundUp data.length 64 - data.length) (0 : Byte)
    let full := own && decide (bits w 62 62 = 0) && (decide (g.cls = .bulk) || decide (bits w 61 61 = 1))
      && decide (s.reg (dumpKey t 5) + 64 + roundUp data.length 64 ≤ s.reg (dumpKey t 4))
    let n := s.numberOf g.die m
    let hdr := dumpHeader g n di d (!full) s.tb.count s.tb.frame r.arith data.length
      (if own then (crc32c data).toNat else 0) st
    let recBytes := if full then hdr ++ data ++ pad else hdr
    let dest := s.reg (dumpKey t 3) + s.reg (dumpKey t 5)
    let s1 := s.setReg (dumpKey t 2) (s.reg (dumpKey t 2) - 1)
    if s.reg (dumpKey t 4) < s.reg (dumpKey t 5) + recBytes.length then s1.bump (okey 0xB060 3)
    else
      match s.hubRange true dest recBytes.length with
      | none => s1.bump (okey 0xB060 3)
      | some tr =>
        if !s.rangeServes tr 0 || (s.writeBad tr 0 true [(dest, recBytes.length)]).isSome then s1.bump (okey 0xB060 3)
        else
          ((s1.hubWrite tr true dest recBytes).setReg (dumpKey t 5) (s.reg (dumpKey t 5) + recBytes.length)).bump
            (okey 0xB060 (if full then 1 else 2))

/-- Captures of every matching trigger before END retires (R702). -/
def State.capture (s : State) (g : Grant) (m : Nat) (r : CoreRun) : State :=
  loopTo 4 (fun t u => if u.dumpMatches t g then u.captureBy t g m r else u) s

end Sys2Proof.Machine
end

