-- ==== Sys2Proof/Machine/Paths.lean ====
section
/-! DEFINITION. Sites and Ground paths (sections 9.1, 9.2, 9.10): which regions a path crosses, and when they are dark. -/

namespace Sys2Proof.Machine

open Sys2Proof

/-- Site numbers of the hub, the footside die and the guests (Table 9-1). -/
def siteH : Nat := 5
def siteF : Nat := 6
def siteG (g : Nat) : Nat := if g = 0 then 4 else 7

def siteRow (s : Nat) : Nat := s / 4
def siteCol (s : Nat) : Nat := s % 4

/-- The field whose turn rings a path crosses, if it turns (R344). -/
def turnField (a b : Nat) : Option Nat :=
  if siteRow a = siteRow b ∨ siteCol a = siteCol b then none
  else if a = siteH ∨ b = siteH then some (siteRow (if a = siteH then b else a) * 4 + 1)
  else some (siteRow a * 4 + siteCol b)

/-- The site at which a memory unit answers. -/
def unitSite (u : Nat) : Nat := if isTier u then siteH else siteOfDie (u / 2)

/-- The regions that a path runs through (R382). -/
def pathRegions (a b : Nat) : List Nat :=
  if a = b then [] else match turnField a b with | some f => [a, b, f] | none => [a, b]

/-- The ordered pairs that exchange traffic (R343). -/
def brideExists (a b : Nat) : Bool :=
  decide (a ≠ b) &&
  (((dieAt a).isSome && (dieAt b).isSome) || (decide (a = siteH) && decide (b < 12)) || (decide (b = siteH) && decide (a < 12)))

def State.region (s : State) (x : Nat) : Region := Tbl.get {} s.regions x
def State.setRegion (s : State) (x : Nat) (r : Region) : State := { s with regions := Tbl.put {} s.regions x r }
def State.guest (s : State) (g : Nat) : Guest := Tbl.get {} s.guests g
def State.setGuest (s : State) (g : Nat) (x : Guest) : State := { s with guests := Tbl.put {} s.guests g x }
def State.laser (s : State) (i : Nat) : Laser := Tbl.get {} s.lasers i
def State.setLaser (s : State) (i : Nat) (x : Laser) : State := { s with lasers := Tbl.put {} s.lasers i x }
def ringKey (site slot : Nat) : Nat := site * 1344 + slot
def State.mring (s : State) (k : Nat) : MicroRing := Tbl.get {} s.rings k
def State.setMring (s : State) (k : Nat) (x : MicroRing) : State := { s with rings := Tbl.put {} s.rings k x }
def pathKey (a b n : Nat) : Nat := (a * 12 + b) * 96 + n
def State.pathOf (s : State) (a b n : Nat) : Path := Tbl.get {} s.paths (pathKey a b n)
def State.setPath (s : State) (a b n : Nat) (x : Path) : State := { s with paths := Tbl.put {} s.paths (pathKey a b n) x }

/-- Is the region in service? -/
def Region.up (r : Region) : Bool := decide (r.st = .up)

/-- Packets on the region's paths are lost or do not start: its endpoint is in reset, or it is dark (Table 9-8). -/
def Region.lost (r : Region) : Bool := !decide (r.st = .up) && !decide (r.st = .noticed)

/-- Does site `at_` hold a dark notice for some region of a path (R383, R385)? -/
def State.pathHeld (s : State) (at_ : Nat) (p : Nat × Nat) : Bool :=
  (pathRegions p.1 p.2).any (fun x => !(s.region x).up && (s.region x).heard.contains at_)

/-- Is a packet on the path lost? -/
def State.pathLost (s : State) (p : Nat × Nat) : Bool := (pathRegions p.1 p.2).any (fun x => (s.region x).lost)

/-- Does only one laser module supply light (R357)? -/
def LaserSt.supplies (l : LaserSt) : Bool := decide (l = .supplying) || decide (l = .flagged)

def State.bothLasers (s : State) : Bool := (s.laser 0).st.supplies && (s.laser 1).st.supplies

/-- The bride protocol level that a die reported (R52, R371). -/
def State.brideLevel (s : State) (site : Nat) : Nat := bits (s.reg (okey 0x0120 (site + 1))) 23 20

end Sys2Proof.Machine
end

