-- ==== Sys2Proof/Machine/Packets.lean ====
section
/-! DEFINITION. The fabric's shared operations (chapter 11): the packet, identifiers, requests that a source keeps, claim fences,
atomic operations, flag trackers, reply caches and the line cache. -/

namespace Sys2Proof

/-! The packet on the wire (R432, R434, Table 11-2). -/

/-- The four words of a header. -/
def Packet.words (p : Packet) : List Nat :=
  [p.opcode % 64 * 2 ^ 58 + p.epoch % 2 * 2 ^ 57 + (if p.compressed then 2 ^ 56 else 0) + p.lines % 16 * 2 ^ 52 +
     p.channel % 4 * 2 ^ 50 + (if p.retry then 2 ^ 49 else 0) + (if p.multicast then 2 ^ 48 else 0) + p.dest % 2 ^ 24 * 2 ^ 24 +
     p.source % 2 ^ 24,
   p.seq % 2 ^ 32 * 2 ^ 32 + p.claim % 2 ^ 32,
   p.tail % 64 * 2 ^ 58 + p.rsv2 % 2 ^ 10 * 2 ^ 48 + p.address % 2 ^ 48,
   p.status % 256 * 2 ^ 56 + p.space % 16 * 2 ^ 52 + p.phase % 4 * 2 ^ 50 + (if p.counted then 2 ^ 49 else 0) +
     p.storeIndex % 1024 * 2 ^ 39 + p.storeCount % 2048 * 2 ^ 28 + p.aux % 64 * 2 ^ 22 + p.rsv3 % 2 ^ 22]

/-- Header word i. -/
def Packet.word (p : Packet) (i : Nat) : Nat := p.words.getD i 0

/-- The end-to-end check: CRC-32C over the header and the uncompressed payload, in byte order (R434). -/
def Packet.check (p : Packet) : Nat := (Machine.crc32c (p.words.flatMap (Machine.leBytes 8) ++ p.payload)).toNat

/-- Does the trailer hold it? -/
def Packet.crcOk (p : Packet) : Bool := p.crc == p.check

/-- Are the reserved fields 0 (R436)? -/
def Packet.rsvOk (p : Packet) : Bool := p.rsv2 == 0 && p.rsv3 == 0 && p.rsvT == 0

/-- Did a lane of the pair link carry it? -/
def Packet.viaPair (p : Packet) : Bool := match p.via with | .pair _ => true | _ => false

/-- The packet with its check in the trailer, as a sender completes it (R434). -/
def Packet.sealed (p : Packet) : Packet := { p with crc := p.check, rsvT := 0 }

end Sys2Proof

namespace Sys2Proof.Machine

open Sys2Proof

/-! Identifiers (R429). -/

/-- FabricEndpointIdActive (R427). -/
def State.endpoint (s : State) : Nat := s.reg (okey 0x7002 0)

/-- PairClaimNumber. -/
def State.claim (s : State) : Nat := s.reg (okey 0x8010 0)

/-- The claim that every request packet of the module carries: 0 while it is not in a pair (R470). -/
def State.stamp (s : State) : Nat := if s.pair.role = .unpaired then 0 else s.claim

/-- The SourceId bits [11:0] of queue q of core n of die k (Table 11-1). -/
def tqUnit (die n q : Nat) : Nat := siteOfDie die * 256 + 4 * n + q

/-- The management cluster of the hub (Table 11-1). -/
def hubUnit : Nat := siteH * 256 + 0x15

/-- The pair endpoint of the hub (Table 11-1, R500). -/
def pairUnit : Nat := siteH * 256 + 0x13

/-- An identifier from endpoint and the low bits. -/
def idOf (endpoint low : Nat) : Nat := endpoint * 2 ^ 12 + low

/-- DestId of a fabric endpoint as this module addresses it: its fabric endpoint unit (log entry 23). -/
def fabricDest (endpoint : Nat) : Nat := idOf endpoint (siteH * 256 + 0x12)

/-- The endpoint of an identifier. -/
def endpointOf (i : Nat) : Nat := bits i 23 12
def siteOfId (i : Nat) : Nat := bits i 11 8
def unitOfId (i : Nat) : Nat := bits i 7 0

/-! Claim fences (R471, R472). -/

/-- Base, length and floor of fence f. -/
def State.fence (s : State) (f : Nat) : Nat × Nat × Nat :=
  (s.reg (okey 0x7300 (3 * f + 1)), s.reg (okey 0x7300 (3 * f + 2)), s.reg (okey 0x7300 (3 * f + 3)))

/-- Does a write with this claim meet a fence whose floor exceeds it (R472)? -/
def State.fenced (s : State) (claim : Nat) (runs : List (Nat × Nat)) : Bool :=
  (List.range 16).any (fun f =>
    let (b, l, fl) := s.fence f
    decide (l ≠ 0) && decide (claim < fl) &&
      (granules false runs).any (fun g => decide (b / 2 ^ 16 ≤ g.1) && decide (g.1 < (b + l) / 2 ^ 16)))

/-! Routing (R482, R483). -/

/-- ActiveEpoch. -/
def State.activeEpoch (s : State) : Nat := s.reg (okey 0x7100 4)

def State.xport (s : State) (x : Nat) : XPort := Tbl.get {} s.xports x

/-- Is fabric port x not down: it has lanes in service, or is dark with F's region (R482)? -/
def State.portServes (s : State) (x : Nat) : Bool :=
  decide ((s.xport x).lanes ≠ 0) || (!(s.region siteF).up && decide ((s.region siteF).st ≠ .parked))

/-- Can an endpoint be reached in the active version (R483)? -/
def State.reachable (s : State) (endpoint : Nat) : Bool :=
  (List.range 4).any (fun x =>
    s.portServes x && decide (bits (Tbl.get 0 s.routes (s.activeEpoch * 2 ^ 14 + x * 4096 + endpoint)) 15 15 = 1))

/-! The pair link (R498). -/

/-- Is the pair link up: a lane in service and F's region not dark (R498)? -/
def State.linkUp (s : State) : Bool := decide (s.pair.lanes ≠ 0) && (s.region siteF).up

/-! Fabric ports (R483, R490). -/

/-- Bytes of a packet with n payload bytes: header, whole lines and trailer (R432). -/
def wireBytes (n : Nat) : Nat := 40 + (n + 63) / 64 * 64

/-- Lines of n bytes. -/
def linesFor (n : Nat) : Nat := (n + 63) / 64

/-- A payload in whole lines. -/
def padLines (b : List Byte) : List Byte := b ++ List.replicate (64 * linesFor b.length - b.length) (0 : Byte)

def PortPacket.source (p : PortPacket) : Nat := p.packet.source
def PortPacket.bytes (p : PortPacket) : Nat := wireBytes p.packet.payload.length

/-- Bytes that wait at a port. -/
def XPort.queued (x : XPort) : Nat := (x.queue.map (·.bytes)).sum

/-- The port that a packet of a routing version takes to an endpoint: the lowest Cost, then the fewest bytes queued, then the lowest
number (R483). -/
def State.exitPort (s : State) (endpoint epoch : Nat) : Option Nat :=
  let entry (x : Nat) : Nat := Tbl.get 0 s.routes (epoch * 2 ^ 14 + x * 4096 + endpoint)
  let rank (x : Nat) : Nat := bits (entry x) 7 0 * 2 ^ 64 + (s.xport x).queued
  ((List.range 4).filter (fun x => s.portServes x && decide (bits (entry x) 15 15 = 1))).foldl (fun best x =>
    match best with
    | none => some x
    | some b => if rank x < rank b then some x else some b) none

/-- A packet for another endpoint joins the queue of its port, by the input that its source's site is; it leaves uncompressed (R435, R483,
R490). -/
def State.toPort (s : State) (p : Packet) : State :=
  if endpointOf p.dest = s.endpoint then s
  else
    match s.exitPort (endpointOf p.dest) p.epoch with
    | none => s
    | some x =>
      let y := s.xport x
      { s with xports := Tbl.put {} s.xports x { y with queue := y.queue ++ [⟨siteOfId p.source, { p with via := .port (Fin.ofNat 4 x) }⟩] } }

/-- Weight of an input: its sources with a packet that waits for the port, at most 64 (R490). -/
def XPort.weight (x : XPort) (input : Nat) : Nat :=
  min 64 (distinct ((x.queue.filter (fun p => decide (p.input = input))).map (·.source))).length

/-- Does an input have a packet that waits? -/
def XPort.has (x : XPort) (input : Nat) : Bool := x.queue.any (fun p => decide (p.input = input))

/-- Deficit round robin in quanta of one packet: the input that is served stays while its turn lasts, and then the next one with a packet
begins a turn of its weight (R490). -/
def XPort.arbitrated (x : XPort) : Option XPort :=
  if 0 < x.left ∧ x.has x.turn then some x
  else
    match ((List.range 16).map (fun j => (x.turn + 1 + j) % 16)).find? x.has with
    | some i => some { x with turn := i, left := x.weight i }
    | none => none

/-- The next lane in turn among those in service (R490). -/
def XPort.nextLane (x : XPort) : Nat :=
  (((List.range 8).map (fun j => (x.lane + 1 + j) % 8)).find? (fun j => decide (bits x.lanes j j = 1))).getD x.lane

/-- The port sends packets while its lanes have room in this lease period: `fuel` bounds their number. -/
def XPort.drain : Nat → XPort → XPort
  | 0, x => x
  | n + 1, x =>
    match x.arbitrated with
    | none => { x with credit := 0 }
    | some y =>
      match y.queue.find? (fun p => decide (p.input = y.turn)) with
      | none => y
      | some p =>
        if y.credit < p.bytes then y
        else
          XPort.drain n { y with
            queue := removeFirst (fun q => decide (q.input = y.turn)) y.queue
            left := y.left - 1, lane := y.nextLane, credit := y.credit - p.bytes, sent := y.sent ++ [(y.nextLane, p)] }

/-- Bytes that a lane of 200 Gb/s carries in one lease period of 80 ns (R346, R481). -/
def laneBytes : Nat := 2000

/-- How many lanes of a mask of n bits are set. -/
def popCount (v : Nat) : Nat → Nat
  | 0 => 0
  | n + 1 => v % 2 + popCount (v / 2) n

/-- The lease period of a fabric port: with F's region up and nothing frozen its lanes take what they carry in the period, deals made by
R490 (log entry 63). -/
def State.drainPort (s : State) (x : Nat) : State :=
  let p := s.xport x
  let q := { p with sent := [] }
  if (s.region siteF).up && !s.stopped && !s.frozen then
    { s with xports := Tbl.put {} s.xports x (XPort.drain (p.queue.length + 1) { q with credit := min (p.credit + laneBytes * popCount p.lanes 8) (laneBytes * 8 + 552) }) }
  else { s with xports := Tbl.put {} s.xports x q }

/-! Requests (R430, R451). -/

/-- Next Sequence of a source. -/
def State.nextSeq (s : State) (source : Nat) : Nat := Tbl.get 0 s.seqs source

/-- Lines of a request (Table 11-3): those that a READ asks for, else those of its payload. -/
def Request.lines (r : Request) : Nat := if r.opcode = 1 then linesFor r.size else linesFor r.payload.length

/-- The packet of a request of a module's endpoint (R432, Table 11-2): Epoch is 0 on the Ground, and TailBytes gives a partial last line
(R437). -/
def Request.packet (r : Request) (endpoint : Nat) : Packet :=
  Packet.sealed {
    opcode := r.opcode, epoch := if endpointOf r.dest = endpoint then 0 else r.epoch % 2, compressed := false, lines := r.lines,
    channel := if r.opcode = 7 then 2 else 0, retry := r.retry, multicast := r.multicast, dest := r.dest,
    source := idOf endpoint r.source, seq := r.seq, claim := r.claim,
    tail := if r.opcode = 1 ∨ r.opcode = 2 then r.size % 64 else 0, rsv2 := 0, address := r.address, status := 0, space := r.space,
    phase := r.phase, counted := r.counted, storeIndex := r.storeIndex, storeCount := r.storeCount, aux := r.aux, rsv3 := 0,
    payload := padLines r.payload, crc := 0, rsvT := 0, via := .port 0 }

/-- A request leaves by a fabric port (R483). -/
def State.depart (s : State) (q : Request) : State := s.toPort (q.packet s.endpoint)

/-- A transfer record of a request: 1 issue, 2 complete, 3 hold, 4 resend, with Sequence and status (Table 17-5). -/
def State.traceRequest (s : State) (r : Request) (event status : Nat) : State :=
  s.traceOpen 2 (r.source / 256 % 16) event (some (r.source % 256)) (some ((r.packet s.endpoint).word 0)) (some (r.seq % 2 ^ 32 * 2 ^ 32 + status % 256))

/-- Send a request: it takes the source's Sequence, the module's claim and the active epoch, and joins a fabric port's queue (R430, R470,
R483, R484); one whose answer stands, from the line cache, does not leave the module (R476). -/
def State.send (s : State) (r : Request) : State :=
  let q : Request := { r with seq := s.nextSeq r.source, claim := s.stamp, epoch := s.activeEpoch, sentAt := s.tb.count }
  let t : State := { s with
    requests := s.requests ++ [q]
    seqs := Tbl.put 0 s.seqs r.source ((s.nextSeq r.source + 1) % 2 ^ 32) }
  let u := if q.answer.isSome then t else t.depart q
  u.traceRequest q 1 0

/-- The request of a source and Sequence. -/
def State.request (s : State) (source seq : Nat) : Option Request :=
  s.requests.find? (fun r => decide (r.source = source) && decide (r.seq = seq))

/-- Change a request. -/
def State.updRequest (s : State) (source seq : Nat) (f : Request → Request) : State :=
  { s with requests := modifyFirst (fun r => decide (r.source = source) && decide (r.seq = seq)) f s.requests }

/-- Is it a message or a copy that the pair link carries in WRITE packets, to be acknowledged (R500, Table 12-2)? -/
def PairMsg.carried : PairMsg → Bool
  | .hello _ | .pricking _ | .commit _ | .resync _ | .claim _ | .yield _ | .kat _ => true
  | _ => false

/-- A pair message takes the pair endpoint's Sequence and is kept until it is acknowledged (R430, R451, R500). -/
def State.enqueue (s : State) (m : PairMsg) : State :=
  if m.carried then
    { s with
      pair := { s.pair with outbox := s.pair.outbox ++ [{ seq := s.nextSeq pairUnit, msg := m }] }
      seqs := Tbl.put 0 s.seqs pairUnit ((s.nextSeq pairUnit + 1) % 2 ^ 32) }
  else s

/-- Age of a request in µs as the media ticks since it was first sent tell it, saturating at 65,535 (R459). -/
def State.age (s : State) (q : Request) : Nat := min 65535 (divRne ((s.tb.count - q.sentAt) * 125) 6)

/-- A request is sent again with its Sequence, an ATOMIC with its Age (R454, R459, R466). -/
def State.resend (s : State) (q : Request) (f : Request → Request) : State :=
  let g (r : Request) : Request :=
    let y := f r
    if y.opcode = 4 then { y with payload := y.payload.take 16 ++ leBytes 2 (s.age r) ++ y.payload.drop 18 } else y
  let t := (s.updRequest q.source q.seq g).depart (g q)
  (t.bump (okey 0x7030 4)).traceRequest (g q) 4 0

/-- The legs of a request's way out: to its destination's site, or over H and F to another endpoint. -/
def Request.legs (r : Request) (endpoint : Nat) : List (Nat × Nat) :=
  let a := siteOfId r.source
  if endpointOf r.dest = endpoint then [(a, siteOfId r.dest)] else [(a, siteH), (siteH, siteF)]

/-- Does a dark notice hold the path of a request: one that its source holds for a leg of it, or H for the leg to F (R211, R385, R451)? -/
def State.reqHeld (s : State) (r : Request) : Bool :=
  (r.legs s.endpoint).any (fun p => s.pathHeld (siteOfId r.source) p || (decide (p.1 = siteH) && s.pathHeld siteH p))

/-- The requests of a held transfer are sent again as a whole, whichever of them are answered, with Retry for those that apply once (R211,
R385, R454, Table 9-8). -/
def State.resendAll (s : State) (source : Nat) (seqs : List Nat) : State :=
  seqs.foldl (fun t n =>
    match t.request source n with
    | some q =>
      t.resend q (fun r => { r with probes := 0, busy := false, answer := none,
                                         retry := r.retry || decide (r.opcode = 3) || decide (r.opcode = 4) || decide (r.opcode = 5) })
    | none => t) s

/-! Limits on atomics, flags and triggers (R462). -/

/-- How many atomics, flags and triggers a source has sent to a DestId in the last 64 ms. -/
def State.sentTo (s : State) (source dest : Nat) : Nat :=
  (s.hub.sends.filter (fun x => decide (x.1 = source) && decide (x.2.1 = dest) && decide (s.tb.count < x.2.2 + 3072))).length

/-- May it send no further one now? -/
def State.sendFull (s : State) (source dest : Nat) : Bool := decide (4096 ≤ s.sentTo source dest)

/-- Record one; those older than 64 ms are forgotten. -/
def State.noteSend (s : State) (source dest : Nat) : State :=
  let kept := s.hub.sends.filter (fun x => decide (s.tb.count < x.2.2 + 3072))
  { s with hub := { s.hub with sends := kept ++ [(source, dest, s.tb.count)] } }

/-- Drop requests whose answers have been used. -/
def State.dropRequests (s : State) (source : Nat) (seqs : List Nat) : State :=
  { s with requests := s.requests.filter (fun r => !(decide (r.source = source) && seqs.contains r.seq)) }

/-! The line cache (R476 to R478). -/

/-- Line number of an address at an endpoint. -/
def lineId (endpoint addr : Nat) : Nat := endpoint * 2 ^ 42 + addr / 64

/-- Does a range of LineCacheRanges hold the line at an address (R476)? -/
def State.cachedRange (s : State) (endpoint addr : Nat) : Bool :=
  (List.range 8).any (fun r =>
    let e := s.reg (okey 0x7400 (3 * r + 1))
    let b := s.reg (okey 0x7400 (3 * r + 2))
    let l := s.reg (okey 0x7400 (3 * r + 3))
    decide (l ≠ 0) && decide (e = endpoint) && decide (b ≤ addr) && decide (addr < b + l))

/-- The cached bytes of n bytes from a line-aligned address, if every line of them is cached. -/
def State.cacheHit (s : State) (endpoint addr n : Nat) : Option (List Byte) :=
  let ls := (linesOf addr n).map (fun l => s.lineCache.find? (fun c => decide (c.1 = endpoint * 2 ^ 42 + l)))
  if ls.all Option.isSome then some ((ls.flatMap (fun c => match c with | some x => x.2 | none => [])).take n) else none

/-- Lines that the cache holds: 32 MiB (R476). -/
def lineCacheLines : Nat := 524288

/-- Fill the cache with the whole lines of data read from a cached range; the oldest lines leave a full cache (R476;
log entry 24). -/
def State.fillCache (s : State) (endpoint addr : Nat) (bs : List Byte) : State :=
  { s with lineCache := ((List.range (bs.length / 64)).foldl (fun c i =>
      let a := addr + 64 * i
      if s.cachedRange endpoint a then
        (lineId endpoint a, (bs.drop (64 * i)).take 64) :: c.filter (fun x => decide (x.1 ≠ lineId endpoint a))
      else c) s.lineCache).take lineCacheLines }

/-- Drop the cached lines that a write covers; a READ of such lines that is on its way fills none (R477, R478, R480). -/
def State.uncache (s : State) (endpoint addr n : Nat) : State :=
  { s with
    lineCache := s.lineCache.filter (fun c => !(linesOf addr n).any (fun l => decide (c.1 = endpoint * 2 ^ 42 + l)))
    requests := s.requests.map (fun r =>
      if endpointOf r.dest = endpoint ∧ r.address / 64 * 64 < addr + n ∧ addr / 64 * 64 < r.address + r.size then { r with fills := false } else r) }

/-- Drop every cached line; a READ that is on its way fills none (R478, R480). -/
def State.flushCache (s : State) : State := { s with lineCache := [], requests := s.requests.map (fun r => { r with fills := false }) }

/-! Atomic operations (Table 11-6). -/

/-- Bytes of the word of an operation. -/
def atomicWidth (op : Nat) : Nat := if op % 2 = 0 then 4 else 8

/-- The new value of a word: operands reduced to its width (Table 11-6). -/
def atomicNew (op old a b : Nat) : Nat :=
  let m := 2 ^ (8 * atomicWidth op)
  let a' := a % m
  let b' := b % m
  match op / 2 with
  | 0 => (old + a') % m
  | 1 => a'
  | 2 => if old = a' then b' else old
  | 3 => max old a'
  | 4 => min old a'
  | 5 => old ||| a'
  | _ => old &&& a'

/-! Reply caches (R461). -/

/-- The cached reply of a source and Sequence at a site. -/
def State.cached (s : State) (site source seq : Nat) : Option Reply :=
  s.replies.find? (fun r => decide (r.site = site) && decide (r.source = source) && decide (r.seq = seq))

/-- An entry at least 64 ms old (3,072 ticks) may leave; the last 4,096 of a source stay, and a newer outcome of the same source and
Sequence takes the older one's place (R461). -/
def State.keepReply (s : State) (r : Reply) : State :=
  let others := s.replies.filter (fun x => !(decide (x.site = r.site) && decide (x.source = r.source) && decide (x.seq = r.seq)))
  let mine := others.filter (fun x => decide (x.site = r.site) && decide (x.source = r.source))
  let kept :=
    if mine.length < 4096 then others
    else removeFirst (fun x => decide (x.site = r.site) && decide (x.source = r.source) && decide (x.tick + 3072 ≤ s.tb.count)) others
  { s with replies := kept ++ [r] }

/-- Is a site's reply cache full (R465)? -/
def State.cacheFull (s : State) (site : Nat) : Bool :=
  decide (262144 ≤ (s.replies.filter (fun x => decide (x.site = site))).length)

/-! The unit that answers for a site. -/

/-- The packet of a response (R432, R433, Table 11-2): it names the space and address that its request named. -/
def Response.packet (r : Response) (claim : Nat) : Packet :=
  Packet.sealed {
    opcode := r.opcode, epoch := r.epoch % 2, compressed := false, lines := linesFor r.line.length,
    channel := if r.opcode = 0x27 then 2 else 1, retry := false, multicast := false, dest := r.dest, source := r.source, seq := r.seq,
    claim := claim, tail := if r.opcode = 0x21 then r.line.length % 64 else 0, rsv2 := 0, address := r.address, status := r.status,
    space := r.space, phase := 0, counted := false, storeIndex := 0, storeCount := 0, aux := r.aux, rsv3 := 0,
    payload := padLines r.line, crc := 0, rsvT := 0, via := .port 0 }

/-- The SourceId that the Dyke stamps on a guest's packets (R377, Table 11-1). -/
def State.guestId (s : State) (g : Nat) : Nat := idOf s.endpoint (siteG g * 256)

/-- Bytes that a guest may send, or receive, in one lease period of 80 ns at its DykeRateLimit in GB/s (R381). -/
def State.guestShare (s : State) (g : Nat) : Nat := s.reg (okey 0x6302 (g + 1)) * 80

/-- The bytes of a guest's direction that its limit has not worked off yet: inward for a GET. -/
def Guest.debt (x : Guest) (inward : Bool) : Nat := if inward then x.inDebt else x.outDebt

/-- Add to them. -/
def Guest.owe (x : Guest) (inward : Bool) (n : Nat) : Guest :=
  if inward then { x with inDebt := x.inDebt + n } else { x with outDebt := x.outDebt + n }

/-- Send a response, to another endpoint under the current epoch and by a fabric port (R483 to R485). -/
def State.respond (s : State) (r : Response) : State :=
  let far := decide (endpointOf r.dest ≠ s.endpoint)
  let q : Response := { r with epoch := if far then s.activeEpoch else 0 }
  ({ s with lastResponse := some q }).toPort (q.packet s.stamp)

end Sys2Proof.Machine
end

