-- ==== Sys2Proof/Machine/Foreign.lean ====
section
/-! DEFINITION. What the requests of other endpoints and of guests do to this module's memory: their admission, the tracker of counted
stores and flags, the reply caches, and the landing of a write, a flag or an atomic, at once or when a migration releases it (sections
7.6, 7.10, 11.3 to 11.6). -/

namespace Sys2Proof.Machine

open Sys2Proof

/-! Packets (Table 11-2). -/

/-- Bytes that a packet's payload lines cover (Table 11-2). -/
def packetBytes (p : Packet) : Nat := if p.lines = 0 then 0 else 64 * (p.lines - 1) + (if p.tail = 0 then 64 else p.tail)

/-- Bytes of memory that a WRITE, FLAG or ATOMIC changes. -/
def touchedBytes (p : Packet) : Nat := match p.opcode with | 3 => 4 | 4 => atomicWidth p.aux | _ => packetBytes p

/-- The response opcode of a request opcode (Table 11-3); an undefined one is answered as 0x20 above it. -/
def responseOp (op : Nat) : Nat := (op + 0x20) % 64

/-- The response line of a request: an ATOMIC's or a TRIGGER's is one line, of zeros where nothing is returned (R433). -/
def answerLine (op : Nat) (line : List Byte) : List Byte :=
  if (op = 4 ∨ op = 5) ∧ line = [] then List.replicate 64 (0 : Byte) else line

/-- Answer a request. -/
def State.reply (s : State) (p : Packet) (st : Status) (line : List Byte := []) : State :=
  let t := if st = .fenced then
      s.traceOpen 4 (siteOfId p.dest) 3 (some (unitOfId p.dest))
        (some (responseOp p.opcode * 2 ^ 58 + 2 ^ 50 + p.source % 2 ^ 24 * 2 ^ 24 + p.dest % 2 ^ 24)) (some p.claim)
    else s
  t.respond { opcode := responseOp p.opcode, source := p.dest, dest := p.source, seq := p.seq, status := st.code, space := p.space,
              address := p.address, line := line }

/-! Admission (R281, R284, R472). -/

/-- The die of foreign accesses (R281). -/
def State.home (s : State) : Nat := s.reg (okey 0x5010 0)

/-- Who sends a packet. -/
def sender (guest : Bool) : Accessor := if guest then .guest else .fabric

/-- Does the unit that a packet names serve its space (Table 11-1): for scratch a core's queues or the die port, for polder space a polder
controller or the fabric endpoint, for tier space a channel controller or the fabric endpoint? The units that own requests name, and
reserved ones, follow log entry 39. -/
def unitServesSpace (p : Packet) : Bool :=
  let stack := (dieAt (siteOfId p.dest)).isSome
  let hub := decide (siteOfId p.dest = siteH)
  let u := unitOfId p.dest
  match p.space with
  | 1 | 2 => stack && (decide (u < 0xC0) || decide (u = 0xF3))
  | 3 => (stack && (decide (u = 0xF1) || decide (u = 0xF2))) || (hub && decide (u = 0x12))
  | 4 => hub && (decide (u < 0x10) || decide (u = 0x12))
  | _ => false

/-- The core whose scratch a packet addresses, and the address in it: the one whose transfer queues bear the unit number, or of the die
port the one that the address selects in steps of 2 MiB (log entry 39). -/
def State.packetCore (s : State) (p : Packet) : Option (Nat × Nat) :=
  match dieAt (siteOfId p.dest) with
  | some d =>
    if unitOfId p.dest = 0xF3 then (s.physOf d (p.address / 2 ^ 21)).map (fun m => (coreKey d m, p.address % 2 ^ 21))
    else (s.physOf d (unitOfId p.dest / 4)).map (fun m => (coreKey d m, p.address))
  | none => none

/-- Admit a request of n bytes: translation on ForeignHomeDie, access checks and fences before any byte moves (R281, R284, R308, R472). -/
def State.admitPacket (s : State) (p : Packet) (n : Nat) (write : Bool) (who : Accessor) (codec : Option Nat) :
    State × Except Status Place :=
  if who = .fabric ∧ !unitServesSpace p then (s, .error .accessDenied)
  else if p.space = 3 ∨ p.space = 4 then
    let tier := decide (p.space = 4)
    let gs := granules tier [(p.address, n)]
    if spaceSize tier < p.address + n then (s, .error .lengthExceeds)
    else
      match s.translate s.home tier write who codec gs with
      | (t, .error e) => (t, .error e.1)
      | (t, .ok tr) =>
        if write && !tier && t.fenced p.claim [(p.address, n)] then (t.bump (okey 0x7030 8), .error .fenced)
        else (if write then t.dirtyAll s.home gs else t, .ok (.mem s.home tier tr))
  else if (p.space = 1 ∨ p.space = 2) ∧ who = .fabric then
    match s.packetCore p with
    | none => (s, .error .notReady)
    | some (k, a) =>
      if scratchBytes < a + n then (s, .error .lengthExceeds)
      else if (s.core k).serves && (s.dieOf (k / 64)).up then (s, .ok (.scratch k a)) else (s, .error .notReady)
  else (s, .error .accessDenied)

/-- The site whose unit applies a packet, and whose reply cache keeps its outcome (R460, R461). -/
def State.placeSite (s : State) (p : Packet) : Place → Nat
  | .mem die tier tr => unitSite (s.place tr die tier p.address).1
  | .scratch k _ => siteOfDie (k / 64)

/-- Does a packet between the hub and a site not arrive: the path is dark, or the hub holds a dark notice for it and sends nothing (Table
9-8; log entry 39)? -/
def State.hubLost (s : State) (d : Nat) : Bool :=
  decide (d ≠ siteH) && (s.pathLost (siteH, d) || s.pathLost (d, siteH) || s.pathHeld siteH (siteH, d))

/-- Is a packet lost on its way from the hub to a place? -/
def State.placeLost (s : State) (p : Packet) (x : Place) : Bool := s.hubLost (s.placeSite p x)

/-- Read n bytes at a place; none at a poisoned line or a unit out of service (R267, R270). -/
def State.readPlace (s : State) (p : Packet) (n : Nat) : Place → Option (List Byte)
  | .mem die tier tr => if (s.readBad tr die tier [(p.address, n)]).isSome then none else some (s.virtRead tr die tier p.address n)
  | .scratch k a => some (rdBytes (s.core k).scratch a n)

/-- Write bytes at a place; none where a poisoned line or a unit out of service refuses them (R267, R270). -/
def State.writePlace (s : State) (p : Packet) (bs : List Byte) : Place → Option State
  | .mem die tier tr =>
    if (s.writeBad tr die tier [(p.address, bs.length)]).isSome then none
    else some ((s.virtWrite tr die tier p.address bs).wake tr die)
  | .scratch k a => some (s.setCore k { s.core k with scratch := wrBytes (s.core k).scratch a bs })

/-! Migrations that hold writes (R299, R300). -/

/-- Change the migration of a granule. -/
def State.setMig (s : State) (i : Nat) (f : Migration → Migration) : State :=
  { s with migs := s.migs.map (fun m => if m.index = i then f m else m) }

/-- The migration that holds new writes of a packet, if any. -/
def State.holder (s : State) (p : Packet) : Place → Option Migration
  | .mem die tier tr => (pieces tier p.address (touchedBytes p)).findSome? (fun q =>
      let (u, a) := s.place tr die tier q.1
      (s.migAt u a).filter (fun m => decide (4 ≤ m.phase)))
  | .scratch _ _ => none

/-- A packet joins the ones that a migration holds, in arrival order. -/
def State.holdIn (s : State) (m : Migration) (h : HeldPacket) : State := s.setMig m.index (fun y => { y with writes := y.writes ++ [h] })

/-- Does a migration hold the packet of a source and Sequence? -/
def State.inHand (s : State) (source seq : Nat) : Bool :=
  s.migs.any (fun m => m.writes.any (fun h => decide (h.packet.source = source) && decide (h.packet.seq = seq)))

/-! Flag trackers (R447 to R450). -/

/-- The destination whose tracker takes a packet: the site and unit of its DestId (R447). -/
def trackerOf (p : Packet) : Nat := p.dest % 2 ^ 12

/-- The tracker entry of a source and phase at a destination. -/
def State.tracker (s : State) (dest source phase : Nat) : Option Tracker :=
  s.trackers.find? (fun t => decide (t.dest = dest) && decide (t.source = source) && decide (t.phase = phase))

/-- Does the tracker of a destination have no room for a new entry (R449)? -/
def State.trackerFull (s : State) (dest : Nat) : Bool :=
  decide (8192 ≤ (s.trackers.filter (fun t => decide (t.dest = dest))).length)

/-- Replace a tracker entry. -/
def State.putTracker (s : State) (t : Tracker) : State :=
  { s with trackers := s.trackers.filter (fun x => !(decide (x.dest = t.dest) && decide (x.source = t.source) && decide (x.phase = t.phase))) ++ [t] }

/-- Drop a tracker entry. -/
def State.dropTracker (s : State) (dest source phase : Nat) : State :=
  { s with trackers := s.trackers.filter (fun x => !(decide (x.dest = dest) && decide (x.source = source) && decide (x.phase = phase))) }

/-! Reply caches (R461 to R465). -/

/-- An UNKNOWN_OUTCOME is counted and answered (R463, R464). -/
def State.unknown (s : State) (p : Packet) : State := (s.bump (okey 0x7030 7)).reply p .unknownOutcome (answerLine p.opcode [])

/-- A request that takes effect at most once, before anything else judges it: one in hand is not taken again, and a Retry whose outcome a
reply cache holds gets that response, or UNKNOWN_OUTCOME while the cache guards a restart (R463, R464). `go` is what else it meets. -/
def State.again (s : State) (p : Packet) (go : State) : State :=
  if s.inHand p.source p.seq then s
  else
    match (if p.retry then s.replies.find? (fun r => decide (r.source = p.source) && decide (r.seq = p.seq)) else none) with
    | some r =>
      if s.hubLost r.site then s
      else if s.guards.contains r.site then s.unknown p
      else s.respond { opcode := responseOp p.opcode, source := p.dest, dest := p.source, seq := p.seq, status := r.status, space := p.space,
                       address := p.address, line := r.line }
    | none => go

/-- Run a request that no reply cache holds: a Retry is refused when too old or while the cache guards a restart, and for another one a
full cache answers BUSY (R463 to R465). `age` is the request's Age in µs. -/
def State.once (s : State) (p : Packet) (site age : Nat) (apply : State → State) : State :=
  if p.retry ∧ (63800 < age ∨ s.guards.contains site) then s.unknown p
  else if !p.retry ∧ s.cacheFull site then s.reply p .busy (answerLine p.opcode [])
  else apply s

/-- Keep an outcome in the reply cache and answer it. -/
def State.settle (s : State) (p : Packet) (site : Nat) (st : Status) (line : List Byte) : State :=
  let l := answerLine p.opcode line
  (s.keepReply { site := site, source := p.source, seq := p.seq, status := st.code, line := l, tick := s.tb.count }).reply p st l

/-! Landing. -/

/-- A flag lands: 1 is added to its word, the reply is kept and FLAGACK follows (R445, R458, R461). -/
def State.landFlagPacket (s : State) (h : HeldPacket) : State :=
  let p := h.packet
  match s.readPlace p 4 h.place with
  | none => s.reply p .uncorrected
  | some b =>
    match s.writePlace p (leBytes 4 (leNat b + 1)) h.place with
    | none => s.reply p .uncorrected
    | some u => u.settle p (s.placeSite p h.place) .ok []

/-- A flag takes effect, or waits where a migration holds new writes (R300, R447). -/
def State.applyFlag (s : State) (h : HeldPacket) : State :=
  match s.holder h.packet h.place with
  | some m => s.holdIn m h
  | none => s.landFlagPacket h

/-- A held flag whose count is met takes effect where it was translated on arrival, and its entry is freed (R308, R447). -/
def State.trackerCheck (s : State) (dest source phase : Nat) : State :=
  match s.tracker dest source phase with
  | some t =>
    match t.flag with
    | some f => if f.packet.storeCount ≤ popCount t.bits 1024 then (s.dropTracker dest source phase).applyFlag f else s
    | none => s
  | none => s

/-- A write lands: the bytes, the tracker's bit of a counted store, and WRITEACK once they are visible (R439, R447, R448). -/
def State.landWrite (s : State) (h : HeldPacket) : State :=
  let p := h.packet
  match s.writePlace p (p.payload.take (packetBytes p)) h.place with
  | none => s.reply p .uncorrected
  | some u =>
    let d := trackerOf p
    let v := if p.counted then
        let y : Tracker := (u.tracker d p.source p.phase).getD { dest := d, source := p.source, phase := p.phase }
        (u.putTracker { y with bits := y.bits ||| 2 ^ (p.storeIndex % 1024) }).trackerCheck d p.source p.phase
      else u
    v.reply p .ok

/-- An atomic lands: the word's new value, the reply with the old one (R459, R460). -/
def State.landAtomicPacket (s : State) (h : HeldPacket) : State :=
  let p := h.packet
  let w := atomicWidth p.aux
  match s.readPlace p w h.place with
  | none => s.reply p .uncorrected (answerLine 4 [])
  | some b =>
    let old := leNat b
    let new := atomicNew p.aux old (leNat (p.payload.take 8)) (leNat ((p.payload.drop 8).take 8))
    match s.writePlace p (leBytes w new) h.place with
    | none => s.reply p .uncorrected (answerLine 4 [])
    | some v => v.settle p (s.placeSite p h.place) .ok (leBytes 8 old ++ List.replicate 56 (0 : Byte))

/-- A packet that a migration has held lands (R300). -/
def State.landHeld (s : State) (h : HeldPacket) : State :=
  match h.packet.opcode with
  | 2 => s.landWrite h
  | 3 => s.landFlagPacket h
  | _ => s.landAtomicPacket h

/-! Arrival. -/

/-- The effect of a WRITE, counted or not: it lands and is acknowledged, or waits for a migration's switch (R299, R439, R447 to R449). -/
def State.doWrite (s : State) (p : Packet) (guest : Bool) : State :=
  match s.admitPacket p (packetBytes p) true (sender guest) none with
  | (t, .error st) => t.reply p st
  | (t, .ok x) =>
    let h : HeldPacket := { packet := p, guest := guest, place := x, epoch := s.epoch, checked := s.hub.raises }
    let d := trackerOf p
    let e := t.tracker d p.source p.phase
    if t.placeLost p x then t
    else if p.counted ∧ e.isNone ∧ t.trackerFull d then t.reply p .busy
    else
      match t.holder p x with
      | some m =>
        (if p.counted then t.putTracker (e.getD { dest := d, source := p.source, phase := p.phase }) else t).holdIn m h
      | none => t.landWrite h

/-- The effect of a FLAG: at once when its count is met, held in its tracker entry until then (R447, R449, R463). A flag
carries no Age, so a Retry is taken as young (log entry 39). -/
def State.doFlag (s : State) (p : Packet) (guest : Bool) : State :=
  s.again p (
    match s.admitPacket p 4 true (sender guest) (some 0) with
    | (t, .error st) => t.reply p st
    | (t, .ok x) =>
      let h : HeldPacket := { packet := p, guest := guest, place := x, epoch := s.epoch, checked := s.hub.raises }
      let d := trackerOf p
      if t.placeLost p x then t
      else
        t.once p (t.placeSite p x) 0 (fun u =>
          if p.storeCount = 0 then u.applyFlag h
          else
            match u.tracker d p.source p.phase with
            | none =>
              if u.trackerFull d then u.reply p .busy
              else u.putTracker { dest := d, source := p.source, phase := p.phase, flag := some h }
            | some y => (u.putTracker { y with flag := some h }).trackerCheck d p.source p.phase))

/-- The effect of an atomic on its word (R460, R463). -/
def State.doAtomic (s : State) (p : Packet) : State :=
  s.again p (
    match s.admitPacket p (atomicWidth p.aux) true .fabric (some 0) with
    | (t, .error st) => t.reply p st (answerLine 4 [])
    | (t, .ok x) =>
      let h : HeldPacket := { packet := p, guest := false, place := x, epoch := s.epoch, checked := s.hub.raises }
      if t.placeLost p x then t
      else
        t.once p (t.placeSite p x) (leNat ((p.payload.drop 16).take 2)) (fun u =>
          match u.holder p x with
          | some m => u.holdIn m h
          | none => u.landAtomicPacket h))

end Sys2Proof.Machine
end

