-- ==== Sys2Proof/Machine/Ledger.lean ====
section
/-! DEFINITION. The Page Ledger (chapter 7): ledger commands, their checks and effects, held frames, migrations, frame
retirement, patrol scrub and self-refresh. -/

namespace Sys2Proof.Machine

open Sys2Proof

/-! Queues in BAR0 (Table 13-2, R540). -/

/-- A 64-bit word of a port's BAR0 queue memory. -/
def Port.word (p : Port) (off : Nat) : Nat := Tbl.get 0 p.bar0 (off / 8)

/-- Write one. -/
def Port.setWord (p : Port) (off v : Nat) : Port := { p with bar0 := Tbl.put 0 p.bar0 (off / 8) v }

/-- Words of ledger queue entry i. -/
def Port.ledgerWords (p : Port) (i : Nat) : List Nat := (List.range 4).map (fun w => p.word (0x10000 + 32 * i + 8 * w))

/-- Words of staging queue entry i. -/
def Port.stagingWords (p : Port) (i : Nat) : List Nat := (List.range 6).map (fun w => p.word (0x14000 + 64 * i + 8 * w))

/-- Does the hub take commands: in service and not halted (Table 15-10, R707)? -/
def State.takes (s : State) : Bool := decide (s.reg (okey 0x9200 0) = 1) && !s.halted

/-- A queue whose entries up to and with `i` are marked finished lets its head pass every finished entry (R540). -/
def CmdQueue.settle (q : CmdQueue) : Nat → CmdQueue
  | 0 => q
  | n + 1 =>
    if q.head ≠ q.take ∧ (Tbl.get none q.finished q.head).isSome then
      CmdQueue.settle { q with head := (q.head + 1) % 256, finished := Tbl.put none q.finished q.head none } n
    else q

/-- Mark an entry finished. -/
def CmdQueue.finish (q : CmdQueue) (i st : Nat) : CmdQueue :=
  CmdQueue.settle { q with finished := Tbl.put none q.finished i (some st) } 256

/-- The ring that a command queue's completions name: LedgerValid with LedgerRing, or StagingValid with StagingRing
(Table 13-4). -/
def Port.queueRing (p : Port) (staging : Bool) : Option Nat :=
  let (v, r) := if staging then (24, 18) else (31, 25)
  if bits p.control v v = 1 then some (bits p.control (r + 5) r) else none

/-- The port with a completion slot reserved, where the command names a ring; none where no slot can be reserved (R567;
log entry 29). -/
def Port.reserveFor (p : Port) (ring : Option Nat) : Option Port :=
  match ring with
  | none => some p
  | some r => p.reserve r

/-- The next ledger command of a port with its reservation, if the hub can take one (R289, R559). -/
def State.ledgerNextOf (s : State) (port : Nat) : Option (Port × Nat × List Nat) :=
  let p := s.port port
  if p.st = .up ∧ p.ledgerQ.take ≠ p.ledgerQ.tail then
    (p.reserveFor (p.queueRing false)).map (fun q => (q, p.ledgerQ.take, p.ledgerWords p.ledgerQ.take))
  else none

/-- The next ledger command of both ports, in turns (R559): its port, the port's state with the reservation, the entry
index and the words. None while a command runs (R289). -/
def State.ledgerNext (s : State) : Option (Nat × Port × Nat × List Nat) :=
  if s.takes && s.ledgerCmd.isNone then
    match s.ledgerNextOf s.ledgerTurn with
    | some x => some (s.ledgerTurn, x)
    | none => (s.ledgerNextOf (1 - s.ledgerTurn)).map (fun x => (1 - s.ledgerTurn, x))
  else none

/-! Ledger commands (Table 7-6). -/

def lOpcode (ws : List Nat) : Nat := bits (ws.getD 0 0) 63 56
def lCount (ws : List Nat) : Nat := bits (ws.getD 0 0) 24 0
def lTier (ws : List Nat) : Bool := bits (ws.getD 1 0) 63 63 = 1
def lAddr (ws : List Nat) : Nat := bits (ws.getD 1 0) 62 0
def lTemplate (ws : List Nat) : Nat := ws.getD 2 0

/-- Indices of the granules that a command names. -/
def lIndices (ws : List Nat) : List Nat :=
  (List.range (lCount ws)).map (fun i => ledgerIndex (lTier ws) (lAddr ws) + i)

/-! Frames. -/

/-- Frames of a memory unit: its fitted capacity (R276). -/
def State.frameCount (s : State) (u : Nat) : Nat := if isTier u then (s.chan (u - 16)).capacity * 4096 else 2 ^ 20

/-- Is a frame reserved: pattern memory, ledger replica, save frame and stream state records of a polder (R278, R550;
log entry 27), metadata and trace frames of a channel (R318, R322)? -/
def State.frameReserved (s : State) (u f : Nat) : Bool :=
  if isTier u then decide (f < 4) || decide (s.frameCount u - (s.chan (u - 16)).traceFrames ≤ f) else decide (f ≤ 6144)

/-- Does a valid entry map a frame (R277)? -/
def State.frameMapped (s : State) (u f : Nat) : Bool :=
  s.ledger.any (fun e => decide (e.1 < 2 ^ 25) && eValid e.2 && (framesOf e.2).contains (u, f) )

/-- Is a frame the new frame of a running migration? -/
def State.frameTaken (s : State) (u f : Nat) : Bool :=
  s.migs.any (fun m => decide (m.newFrame = f) &&
    ((m.oldUnits (ePlacement (s.entryAt 0 m.index))).map (m.newUnitFor (ePlacement (s.entryAt 0 m.index)))).contains u)

/-- Target units of a placement and a Unit field. -/
def targetUnits (placement unit : Nat) : List Nat :=
  if placement = 1 then (List.range 8).map (fun k => 2 * k + unit % 2) else if placement = 2 then [16 + unit] else [unit]

/-- Is a frame one that the running MIGRATE has moved a granule out of, to which the granule may have to go back (R293)? -/
def State.frameKept (s : State) (u f : Nat) : Bool :=
  match s.ledgerCmd with
  | some c => c.moved.any (fun g => decide (g.2.2 = f) && (targetUnits (ePlacement (s.entryAt 0 g.1)) g.2.1).contains u)
  | none => false

/-- Is a frame free: not held, not mapped and not about to be (Table 7-8)? -/
def State.frameFree (s : State) (u f : Nat) : Bool :=
  !s.frameKept u f && !(s.heldFrames.any (fun h => decide (h.unit = u) && decide (h.frame = f))) && !s.frameMapped u f && !s.frameTaken u f

/-- May a granule lie in a frame: fitted, not reserved, not retired? -/
def State.frameUsable (s : State) (u f : Nat) : Bool :=
  decide (f < s.frameCount u) && !s.frameReserved u f && !((s.store u).retired.contains f)

/-- Is a unit in service for new granules (Table 7-8, R335)? -/
def State.unitTakes (s : State) (u : Nat) : Bool :=
  if isTier u then decide ((s.chan (u - 16)).st = .inService) else !(s.store u).out

/-- The target frames of a command: for each granule, each unit with its frame. -/
def State.targets (s : State) (ws : List Nat) : List (Nat × Nat) :=
  let t := lTemplate ws
  (lIndices ws).zipIdx.flatMap (fun x =>
    let pl := if lOpcode ws = 1 then ePlacement t else ePlacement (s.entryAt 0 x.1)
    (targetUnits pl (eUnit t)).map (fun u => (u, eFrame t + x.2)))

/-! Checks (Table 7-8). -/

/-- Table 7-8 in its order: the status of the first failure; OK where a Count of 0 ends the command; none where it is
carried out (R290). -/
def State.ledgerCheck (s : State) (ws : List Nat) : Option Status :=
  let op := lOpcode ws
  let t := lTemplate ws
  let tier := lTier ws
  let n := lCount ws
  let idx := lIndices ws
  let es := idx.map (s.entryAt 0)
  let map := decide (op = 1)
  let mig := decide (op = 4)
  if op = 0 ∨ 5 < op ∨ bits (ws.getD 0 0) 31 25 ≠ 0 then some .typeMismatch
  else if map && (decide (bits t 53 53 ≠ 0) || decide (bits t 35 24 ≠ 0) || decide (ePlacement t = 3) || decide (eCodec t = 3) ||
      (decide (ePlacement t = 2) && decide (eCodec t ≠ 0)) || (decide (ePlacement t = 1) && decide (bits t 23 21 ≠ 0))) then
    some .typeMismatch
  else if op = 5 then (if bits (ws.getD 1 0) 63 14 ≠ 0 then some .typeMismatch else none)
  else if lAddr ws % 2 ^ granShift tier ≠ 0 then some .badAlign
  else if n = 0 then some .ok
  else if spaceSize tier < lAddr ws + n * 2 ^ granShift tier then some .lengthExceeds
  else
    let ts := s.targets ws
    if (map || mig) && ts.any (fun f => decide (s.frameCount f.1 ≤ f.2)) then some .lengthExceeds
    else if map && (if tier then decide (ePlacement t ≠ 2) else decide (2 ≤ ePlacement t)) then some .typeMismatch
    else if (map || mig) && ts.any (fun f => s.frameReserved f.1 f.2 || (s.store f.1).retired.contains f.2) then some .accessDenied
    else if !map && es.any (fun e => !eValid e) then some .accessDenied
    else if mig && es.any (fun e => decide (ePlacement e = 1)) && decide (bits t 23 21 ≠ 0) then some .typeMismatch
    else if map && es.any eValid then some .busy
    else if (map || mig) && ts.any (fun f => !s.frameFree f.1 f.2) then some .busy
    else if mig && es.any (fun e => ePinned e || eMigrating e) then some .busy
    else if (map || mig) && ts.any (fun f => !s.unitTakes f.1) then some .notReady
    else none

/-! Changes. -/

/-- Apply a function to entry i in each of the eight replicas, whose polders wake, and drop it from every cache (R285, steps 1 and 2;
R303). -/
def State.reEntry (s0 : State) (i : Nat) (f : Nat → Nat) : State :=
  let s := s0.touchReplicas
  { s with
    ledger := loopTo 8 (fun d t => Tbl.put 0 t (d * 2 ^ 25 + i) (f (Tbl.get 0 t (d * 2 ^ 25 + i)))) s.ledger
    tlb := cacheDrop s.tlb i }

/-- Flip the ledger epoch of every controller (R285, step 3). -/
def State.flip (s : State) : State := { s with epoch := s.epoch + 1 }

/-- LedgerEntriesValid and the held frames' count (Table 7-11, R286). -/
def State.ledgerReport (s : State) : State :=
  let count (pl : Nat) : Nat := (s.ledger.filter (fun e => decide (e.1 < 2 ^ 25) && eValid e.2 && decide (ePlacement e.2 = pl))).length
  (((s.setReg (okey 0x5060 1) (count 0)).setReg (okey 0x5060 2) (count 1)).setReg (okey 0x5060 3) (count 2)).setReg
    (okey 0x5040 4) s.heldFrames.length

/-- The entry that MAP writes for granule i (Table 7-7). -/
def mapEntry (t i : Nat) : Nat :=
  setBit (setBit (setBit (setBit (setField t 19 0 (eFrame t + i)) 63 true) 54 false) 52 false) 51 false

/-- The packets that a migration has held land, in arrival order (R300). -/
def State.releaseWrites (s : State) (m : Migration) : State := m.writes.foldl (fun t h => t.landHeld h) s

/-- Unmap granules: their entries become invalid and their frames are held; a migration of one ends, the packets that it held land in the
old frame, and its new frame is held too (Table 7-7, R286, R300; log entry 30). -/
def State.unmap (s : State) (idx : List Nat) : State :=
  let frames := idx.flatMap (fun i => framesOf (s.entryAt 0 i))
  let gone := s.migs.filter (fun m => idx.contains m.index)
  let news := gone.flatMap (fun m => (m.oldUnits (ePlacement (s.entryAt 0 m.index))).map (fun u =>
    if m.phase ≤ 5 then (m.newUnitFor (ePlacement (s.entryAt 0 m.index)) u, m.newFrame) else (u, m.oldFrame)))
  let s0 := gone.foldl (fun t m => t.releaseWrites m) { s with migs := s.migs.filter (fun m => !idx.contains m.index) }
  let s1 := (idx.foldl (fun t i => t.reEntry i (fun _ => 0)) s0).flip
  s1.holdFrames (frames ++ news)

/-- Valid granules that a stream owns (Table 7-7). -/
def State.ownedBy (s : State) (stream : Nat) : List Nat :=
  (s.ledger.filter (fun e => decide (e.1 < 2 ^ 25) && eValid e.2 && eOwnerValid e.2 && decide (eOwner e.2 = stream))).map (·.1)

/-! Migration (R299 to R301). -/

/-- Copy n bytes and the poison marks of their lines from physical address a of unit u to address b of unit v, which ends the self-refresh
of both (R303). -/
def State.moveBytes (s0 : State) (u a v b n : Nat) : State :=
  let s := s0.touch u
  let src := s.store u
  let dst := s.store v
  let mem := (src.mem.filter (fun e => decide (a ≤ e.1) && decide (e.1 < a + n))).foldl
    (fun t e => wrByte t (e.1 - a + b) e.2) (wrZeros dst.mem b n)
  let marks := (src.poison.filter (fun l => decide (a ≤ 64 * l) && decide (64 * l < a + n))).map (fun l => l - a / 64 + b / 64)
  s.setStore v { dst with
    mem := mem
    poison := dst.poison.filter (fun l => !(decide (b ≤ 64 * l) && decide (64 * l < b + n))) ++ marks
    selfRefresh := false }

/-- The pairs of old and new units of a migration. -/
def State.migUnits (s : State) (m : Migration) : List (Nat × Nat) :=
  let pl := ePlacement (s.entryAt 0 m.index)
  (m.oldUnits pl).map (fun u => (u, m.newUnitFor pl u))

/-- Bytes of a migrating granule as a power of two. -/
def migShift (m : Migration) : Nat := granShift (decide (2 ^ 24 ≤ m.index))

/-- Copy the whole granule to the new frame (phase 2). -/
def State.migCopy (s : State) (m : Migration) : State :=
  (s.migUnits m).foldl (fun t p =>
    t.moveBytes p.1 (m.oldFrame * 2 ^ migShift m) p.2 (m.newFrame * 2 ^ migShift m) (2 ^ migShift m)) s

/-- Copy the dirty sub-blocks (phases 3 and 4). -/
def State.migRecopy (s : State) (m : Migration) : State :=
  (s.migUnits m).foldl (fun t p => m.dirty.foldl (fun t2 b =>
    let sh := subShift p.1
    t2.moveBytes p.1 (m.oldFrame * 2 ^ migShift m + b * 2 ^ sh) p.2 (m.newFrame * 2 ^ migShift m + b * 2 ^ sh) (2 ^ sh)) t) s

/-- Is the source, the new frame or the path between them dark (R301)? -/
def State.migDark (s : State) (m : Migration) : Bool :=
  (s.migUnits m).any (fun p =>
    let a := unitSite p.1
    let b := unitSite p.2
    ([a, b] ++ pathRegions a b).any (fun x => !(s.region x).up))

/-- Ticks of the migrations that began in the last second (section 7.10). -/
def State.recentMoves (s : State) : List Nat := s.hub.moves.filter (fun t => decide (s.tb.count < t + 48000))

/-- May a further granule begin to move under MigrationRateLimit (section 7.10)? -/
def State.moveRoom (s : State) : Bool := decide (s.recentMoves.length < s.reg (okey 0x5041 0))

/-- Ticks of the granules that drains began to move in the last second, which DrainRateLimit bounds (R335). -/
def State.recentDrains (s : State) : List Nat := s.hub.drains.filter (fun t => decide (s.tb.count < t + 48000))
def State.drainRoom (s : State) : Bool := decide (s.recentDrains.length < s.reg (okey 0x5111 0))

/-- May the hub begin to move granules of its own accord? Not in a freeze, and none between the command that enters retention and the end
of the wake (R305, R707). -/
def State.movesFree (s : State) : Bool := !s.halted && decide (s.reg (okey 0x9200 0) < 2)

/-- Begin a migration: phase 1 marks the entry in all replicas (Table 7-9). -/
def State.startMig (s : State) (i : Nat) (owner : MigOwner) (unit frame : Nat) : State :=
  let e := s.entryAt 0 i
  let m : Migration :=
    { index := i, owner := owner, oldUnit := if ePlacement e = 1 then eUnit e % 2 else eUnit e, oldFrame := eFrame e,
      newUnit := unit, newFrame := frame }
  let hub := match owner with
    | .drain _ => { s.hub with drains := s.recentDrains ++ [s.tb.count] }
    | _ => { s.hub with moves := s.recentMoves ++ [s.tb.count] }
  { s.reEntry i (fun v => setBit v 54 true) with migs := s.migs ++ [m], hub := hub }

/-- MIGRATION_ABANDON: the entry keeps its old frame with Migrating cleared and the new frame is released; held writes
land in the old frame (R301). -/
def State.abandonMig (s : State) (m : Migration) : State :=
  let s1 : State := { s.reEntry m.index (fun v => setBit v 54 false) with migs := s.migs.filter (fun x => decide (x.index ≠ m.index)) }
  (s1.releaseWrites m).bump (okey 0x5040 2)

/-- Granules of a MIGRATE in flight at once (section 7.10). -/
def migFlight : Nat := 64

/-- Start further granules of the running MIGRATE, in ascending order, up to 64 in flight (section 7.10). -/
def State.feedMigrate (s : State) : Nat → State
  | 0 => s
  | n + 1 =>
    match s.ledgerCmd with
    | none => s
    | some c =>
      match c.todo with
      | [] => s
      | (i, f) :: r =>
        if !s.moveRoom || decide (migFlight ≤ (s.migs.filter (fun m => decide (m.owner = .command c.port) && decide (m.phase < 6))).length) then s
        else
          let pl := ePlacement (s.entryAt 0 i)
          let u := eUnit (lTemplate c.words)
          ({ s with ledgerCmd := some { c with todo := r } }.startMig i (.command c.port) (if pl = 1 then u % 2 else u) f).feedMigrate n

/-- When no granule of the running MIGRATE is left, it has its outcome (R289, R301). -/
def State.migrateSettled (s : State) : State :=
  match s.ledgerCmd with
  | some c =>
    if lOpcode c.words = 4 ∧ c.status.isNone ∧ c.todo = [] ∧
        (s.migs.filter (fun m => decide (m.owner = .command c.port) && decide (m.phase < 6))) = [] then
      { s with ledgerCmd := some { c with status := some 0 } }
    else s
  | none => s

/-- Record a retired frame in the field map, the unit's list and its report (R268, R312, R654). -/
def State.retireFrame (s : State) (u f : Nat) : State :=
  if (s.store u).retired.contains f then s
  else
    let s1 := s.setStore u { s.store u with retired := (s.store u).retired ++ [f], due := (s.store u).due.filter (· ≠ f) }
    let s2 := s1.mapRecord (if isTier u then .tierFrame (u - 16) (s.chan (u - 16)).serial f else .polderFrame u f)
    if isTier u then s2.bump (okey 0x5103 (u - 15)) else s2

/-- Poisoned lines in a frame (R268). -/
def State.poisonedIn (s : State) (u f : Nat) : Nat :=
  let sh := if isTier u then 18 else 16
  ((s.store u).poison.filter (fun l => decide (64 * l / 2 ^ sh = f))).length

/-- A MIGRATE remembers what it has switched, for as long as it runs (R293). -/
def State.noteMoved (s : State) (m : Migration) : State :=
  match m.owner, s.ledgerCmd with
  | .command _, some c => { s with ledgerCmd := some { c with moved := c.moved ++ [(m.index, m.oldUnit, m.oldFrame)] } }
  | _, _ => s

/-- The hub switches a granule to its new frame (phase 5): the entry with Migrating 0, steps 2 and 3 of R285, the held packets to the new
frame, and the old frame held, and retired where it is due (R268, R299, R300). -/
def State.switchMig (s : State) (m : Migration) : State :=
  let pl := ePlacement (s.entryAt 0 m.index)
  let put (v : Nat) : Nat := setBit (setField (setField v 19 0 m.newFrame) 23 20 m.newUnit) 54 false
  let olds := (m.oldUnits pl).map (fun u => (u, m.oldFrame))
  let s1 := ((s.reEntry m.index put).flip).holdFrames olds
  let s2 := ((s1.setMig m.index (fun x => { x with phase := 6, writes := [], dirty := [] })).releaseWrites m).bump (okey 0x5040 1)
  (olds.foldl (fun t f => if (t.store f.1).due.contains f.2 then t.retireFrame f.1 f.2 else t) (s2.noteMoved m)).ledgerReport

/-- The lowest usable free frame of a unit, or none, over n frames from f. -/
def State.findFrame (s : State) (ok : Nat → Bool) : Nat → Nat → Option Nat
  | 0, _ => none
  | n + 1, f => if ok f then some f else s.findFrame ok n (f + 1)

/-- The lowest frame that is usable and free in every unit of a list (log entry 31). -/
def State.freeFrameIn (s : State) (us : List Nat) : Option Nat :=
  s.findFrame (fun f => us.all (fun u => s.frameUsable u f && s.frameFree u f)) (s.frameCount (us.headD 0)) 0

/-! Drains (R335, R336). -/

/-- Valid granules on a channel that no migration moves yet, in ascending index. -/
def State.drainTodo (s : State) (c : Nat) : List Nat :=
  (s.ledger.filter (fun e => decide (e.1 < 2 ^ 25) && eValid e.2 && decide (ePlacement e.2 = 2) && decide (eUnit e.2 = c) &&
    !s.replicaBad e.1 && !s.migs.any (fun m => decide (m.index = e.1)))).map (·.1)

/-- Does a staging command touch a channel? -/
def State.stagingTouches (s : State) (c : Nat) : Bool :=
  s.staging.any (fun x => x.map.any (fun g => g.1.any (fun p => decide (p.1 = 16 + c))))

/-- A frame for a granule that leaves channel c: the lowest channel first (R335). -/
def State.drainTarget (s : State) (c : Nat) : Option (Nat × Nat) :=
  (List.range 16).findSome? (fun d =>
    if d ≠ c ∧ (s.chan d).st = .inService then (s.freeFrameIn [16 + d]).map (fun f => (d, f)) else none)

/-- Start up to n granules of a channel's drain; it waits for staging commands that touch the channel (R335), and starts none where the hub may move none. -/
def State.feedDrain (s : State) (c : Nat) : Nat → State
  | 0 => s
  | n + 1 =>
    if (s.chan c).st ≠ .draining ∨ !s.movesFree ∨ s.stagingTouches c ∨ !(s.region siteH).up ∨ !s.drainRoom ∨
        migFlight ≤ (s.migs.filter (fun m => decide (m.owner = .drain c) && decide (m.phase < 6))).length then s
    else
      match s.drainTodo c, s.drainTarget c with
      | i :: _, some (d, f) => (s.startMig i (.drain c) d f).feedDrain c n
      | _, _ => s

/-- Feed every drain, lowest channel first. -/
def State.feedDrains (s : State) : State := loopTo 16 (fun c t => t.feedDrain c migFlight) s

/-- Abandon, and end the command of a MIGRATE with a status: its granules not yet started stay (R293, R301). -/
def State.endMig (s : State) (m : Migration) (st : Status) : State :=
  let s1 := s.abandonMig m
  match m.owner, s1.ledgerCmd with
  | .command _, some c => { s1 with ledgerCmd := some { c with todo := [], status := some st.code } }
  | _, _ => s1

/-- A migration whose source, new frame or path is dark (R301). -/
def State.endDark (s : State) (m : Migration) : State := s.endMig m .regionDark

/-- A frame with four poisoned lines is due for retirement (R268, R312). -/
def State.markDue (s : State) (u f : Nat) : State :=
  if s.poisonedIn u f < 4 then s else s.setStore u { s.store u with due := addOnce (s.store u).due f }

/-- A granule that a MIGRATE has switched goes back to its old frame, which nothing else takes while the command runs; an access that was
translated to its new frame is forwarded from there on (R293, R300; log entry 64). -/
def State.moveBack (s : State) (g : Nat × Nat × Nat) : State :=
  let e := s.entryAt 0 g.1
  let pl := ePlacement e
  let olds := targetUnits pl g.2.1
  let pairs := olds.zip (targetUnits pl (eUnit e))
  let sh := granShift (decide (2 ^ 24 ≤ g.1))
  let back : Migration :=
    { index := g.1, owner := (s.migs.find? (fun m => decide (m.index = g.1))).elim (.command 0) (·.owner), phase := 6,
      oldUnit := if pl = 1 then eUnit e % 2 else eUnit e, oldFrame := eFrame e, newUnit := g.2.1, newFrame := g.2.2 }
  let s0 : State := { s with migs := s.migs.filter (fun m => decide (m.index ≠ g.1)) }
  if !eValid e || olds.any (fun u => s0.frameMapped u g.2.2 || s0.frameTaken u g.2.2) then s
  else
    let s1 := pairs.foldl (fun t p => t.moveBytes p.2 (eFrame e * 2 ^ sh) p.1 (g.2.2 * 2 ^ sh) (2 ^ sh)) s0
    let s2 := (s1.reEntry g.1 (fun v => setField (setField v 19 0 g.2.2) 23 20 g.2.1)).flip
    let s3 : State := { s2 with
      migs := s2.migs ++ [back]
      heldFrames := s2.heldFrames.filter (fun h => !(olds.contains h.unit && decide (h.frame = g.2.2))) }
    olds.foldl (fun t u => t.markDue u g.2.2) (s3.holdFrames (pairs.map (fun p => (p.2, eFrame e))))

/-- The entries that a MIGRATE had changed are restored as it ends DISCARDED, the last one first (R293). -/
def State.restoreMoved (s : State) : State :=
  match s.ledgerCmd with
  | some c =>
    if c.status = some Status.discarded.code then
      (c.moved.reverse.foldl (fun (t : State) g => t.moveBack g) { s with ledgerCmd := some { c with moved := [] } }).ledgerReport
    else s
  | none => s

/-- DrainStatus: an outcome shows once no drain runs any more (R337, Table 8-7). -/
def State.drainOutcome (s : State) (c : Nat) (st : Status) : State :=
  if (List.range 16).any (fun d => decide (d ≠ c) && decide ((s.chan d).st = .draining)) then s else s.setReg (okey 0x5110 3) st.code

/-! Units that leave service (R268, R270, R317). -/

/-- Abandon every migration that reads or writes a unit before its switch. A MIGRATE among their owners ends DISCARDED: the rest of its
granules in flight are abandoned too, and those that it has moved go back (R293). -/
def State.dropMigs (s : State) (u : Nat) : State :=
  let hit := s.migs.filter (fun m => decide (m.phase < 6) && (s.migUnits m).any (fun p => decide (p.1 = u) || decide (p.2 = u)))
  let cmd (m : Migration) : Bool := match m.owner with | .command _ => true | _ => false
  let rest := if hit.any cmd then s.migs.filter (fun m => decide (m.phase < 6) && cmd m && !hit.contains m) else []
  ((hit ++ rest).foldl (fun t m => t.endMig m .discarded) s).restoreMoved

/-- A polder leaves service, and its contents are lost (R268, R270). -/
def State.polderDrop (s : State) (u : Nat) : State :=
  let s1 := (s.dropMigs u).dropSlices (fun x => match x with | .region p _ => decide (p.val = u) | _ => false)
  s1.setStore u { s1.store u with out := true, mem := [], poison := [], due := [] }

/-- Does a staging command touch a channel, by its own translation or by the frame that a migration has moved it to (R317)? -/
def State.stageTouches (s : State) (x : StageCmd) (c : Nat) : Bool :=
  x.map.any (fun g => g.1.any (fun p => decide (p.1 = 16 + c) ||
    s.migs.any (fun m => decide (m.phase = 6) && decide (2 ^ 24 ≤ m.index) && decide (16 + m.oldUnit = p.1) && decide (m.oldFrame = p.2) &&
      decide (m.newUnit = c))))

/-! Granules of staging commands in flight (R328). -/

/-- Words 0 and 3 of a staging command (Table 8-4). -/
def gOpcode (ws : List Nat) : Nat := bits (ws.getD 0 0) 63 56
def gNeed (ws : List Nat) : Nat := ws.getD 3 0

/-- The tier channel of granule i of a command. -/
def StageCmd.channel (c : StageCmd) (i : Nat) : Nat := (((c.map.getD i ([], [])).1).headD (0, 0)).1

/-- Insert an index into a list in order of NeedFrame, 0 last, behind its equals. -/
def insNeed (need : Nat → Nat) (x : Nat) : List Nat → List Nat
  | [] => [x]
  | y :: r => if need x ≠ 0 ∧ (need y = 0 ∨ need x < need y) then x :: y :: r else y :: insNeed need x r

/-- The commands in the order in which they start (R328). -/
def needOrder (l : List StageCmd) : List Nat :=
  (List.range l.length).foldl (fun r i => insNeed (fun j => gNeed ((l.getD j { port := 0, entry := 0, words := [] }).words)) i r) []

/-- Start a command's granules in order: up to 64 in flight and 8 on a channel. One whose channel has no room lets later ones start (log
entry 68). `busy` holds the channels of the granules in flight. -/
def StageCmd.start (c : StageCmd) (busy : List Nat) : StageCmd × List Nat :=
  c.todo.foldl (fun a i =>
    let u := c.channel i
    if a.2.length < 64 ∧ a.2.count u < 8 then ({ a.1 with flight := a.1.flight ++ [i] }, a.2 ++ [u])
    else ({ a.1 with todo := a.1.todo ++ [i] }, a.2)) ({ c with todo := [] }, busy)

/-- Start the granules that may start now, command by command (R328). -/
def startGranules (l : List StageCmd) : List StageCmd :=
  ((needOrder l).foldl (fun (a : List StageCmd × List Nat) i =>
    match a.1[i]? with
    | none => a
    | some c => let r := c.start a.2; (a.1.set i r.1, r.2)) (l, l.flatMap (fun c => c.flight.map c.channel))).1

/-- Where a frame translated at acceptance lies now: an access that reaches an old frame is forwarded (R326, Table 7-9). -/
def State.frameNow (s : State) (f : Nat × Nat) : Nat × Nat :=
  let sh := if isTier f.1 then 18 else 16
  match s.forwarder f.1 (f.2 * 2 ^ sh) with
  | some m => (m.newUnitFor (ePlacement (s.entryAt 0 m.index)) f.1, m.newFrame)
  | none => f

/-- A request at a target port of a die's crossbar: the die, the target port, the input port and the source. Ports 0 to 51 are the
cores, 52 and 53 the polder controllers, 54 the die port (R121). -/
structure PortReq where
  die : Nat
  target : Nat
  input : Nat
  source : Nat
  deriving DecidableEq, Repr

/-- Key of an input's weight at a target port. -/
def PortReq.key (r : PortReq) : Nat := r.target * 64 + r.input

/-- The requests of the granules in flight at the polder ports, through the die ports. The staging engine is one source (R121, Table
11-1). -/
def State.stageReqs (s : State) (l : List StageCmd) : List PortReq :=
  l.flatMap (fun c => c.flight.flatMap (fun i => ((c.map.getD i ([], [])).2.flatten.map s.frameNow).filterMap (fun f =>
    if f.1 < 16 then some { die := f.1 / 2, target := 52 + f.1 % 2, input := 54, source := 2048 + 0x10 } else none)))

/-- The inputs of requests that arrive between two updates take part with weight 1 where they had none (R123; log entry 62). -/
def State.joinAll (s : State) (l : List PortReq) : State :=
  l.foldl (fun t r =>
    let d := t.dieOf r.die
    if Tbl.get 0 d.weights r.key = 0 then t.setDie r.die { d with weights := Tbl.put 0 d.weights r.key 1 } else t) s

/-- The staging commands from now on; the granules that start join the arbiters of their polders (R123). -/
def State.setStaging (s : State) (l : List StageCmd) : State := { s.joinAll (s.stageReqs l) with staging := l }

/-- A channel goes to Failed from In service or Draining: its contents and trace frames are lost, staging commands that
touch it end with DISCARDED, and a drain of it ends (R317, R323, R336; log entry 31). -/
def State.channelDrop (s : State) (c : Nat) : State :=
  let s1 := s.dropMigs (16 + c)
  let ch := s1.chan c
  let serving := decide (ch.st = .inService) || decide (ch.st = .draining)
  let s2 := s1.setChan c { ch with st := .failed, power := false, traceFrames := 0, throttled := false }
  let x := s2.store (16 + c)
  let s3 := if serving then s2.setStore (16 + c) { x with mem := [], poison := [], due := [], selfRefresh := false, hot := false }
    else s2.setStore (16 + c) { x with hot := false }
  let s4 := s3.addReg (okey 0x5130 3) ch.traceFrames
  let s5 := if ch.st = .draining then s4.drainOutcome c .discarded else s4
  let hit (y : StageCmd) : Bool := y.status.isNone && s.stageTouches y c
  if serving then
    s5.setStaging (startGranules (s5.staging.map (fun y =>
      if hit y then { y with status := some Status.discarded.code, todo := [], flight := [] } else y)))
  else s5

/-- Every unit in service whose poison list is full leaves service, and then those whose lists granules that went back have filled (R268,
R293, R312). -/
def State.fullCheck : Nat → State → State
  | 0, s => s
  | n + 1, s =>
    match (List.range 32).find? (fun u => decide (4096 ≤ (s.store u).poison.length) && s.unitServes u) with
    | none => s
    | some u => State.fullCheck n (if isTier u then s.channelDrop (u - 16) else s.polderDrop u)

/-- A polder leaves service (R268, R270). -/
def State.polderOut (s : State) (u : Nat) : State := (s.polderDrop u).fullCheck 32

/-- A channel goes to Failed. -/
def State.channelFail (s : State) (c : Nat) : State := (s.channelDrop c).fullCheck 32

/-- POISON_FRAME_RETIRE: a frame that is due is migrated within its unit and then retired, or retired at once where no granule lies in it
(R268, R312; log entry 31). It waits while its granule moves, no frame is free, no migration may start, or a region of its units is dark,
which would abandon the migration (R301). A reserved frame, which has no granule to migrate, stays in use with its marks (DESIGN CHOICE, the
spec does not say; log entry 31). -/
def State.retireCheck (s : State) (u f : Nat) : State :=
  if !(s.store u).due.contains f ∨ s.frameReserved u f ∨ (s.store u).retired.contains f ∨ !s.unitServes u then s
  else
    match s.ledger.find? (fun e => decide (e.1 < 2 ^ 25) && eValid e.2 && (framesOf e.2).contains (u, f)) with
    | none => s.retireFrame u f
    | some (i, e) =>
      if eMigrating e || s.migs.any (fun m => decide (m.index = i)) || !s.moveRoom || s.replicaBad i || !s.movesFree then s
      else
        let unit := if ePlacement e = 1 then u % 2 else eUnit e
        let us := targetUnits (ePlacement e) unit
        if us.any (fun v => !(s.region (unitSite v)).up) then s
        else
          match s.freeFrameIn us with
          | some g => s.startMig i (.retire u f) unit g
          | none => s

/-- New marks in a frame: four make it due, a full list takes its unit out, and the frame's granule begins to move (R268, R312). -/
def State.marked (s : State) (u f : Nat) : State := ((s.markDue u f).fullCheck 32).retireCheck u f

/-- Retire what is due, of every unit (R268, R312). -/
def State.retireDue (s : State) : State := loopTo 32 (fun u t => (t.store u).due.foldl (fun v f => v.retireCheck u f) t) s

/-- Start what may move now: granules of the running MIGRATE, of drains, and of frames that are due for retirement (R268, R312, R335,
section 7.10). -/
def State.feedAll (s : State) : State := ((s.feedMigrate migFlight).migrateSettled.feedDrains).retireDue

/-- MIGRATION_PHASE_END: a phase of a granule's migration ends and the next begins (Table 7-9). A phase whose source, new
frame or path is dark does not end: before phase 5 the migration is abandoned, and from then on the switch waits for the region's return
(R301). A phase waits while a live update pauses one of its polders (Table 16-4). -/
def execMigrationPhaseEnd (index : Nat) (s : State) : Out :=
  match s.migs.find? (fun m => decide (m.index = index)) with
  | none => .next s
  | some m =>
    let next (t : State) : State := t.feedAll
    if s.stopped || (s.migUnits m).any (fun p => s.pausedBy 5 p.1 || s.pausedBy 5 p.2) then .next s
    else if s.migDark m then
      if m.phase < 5 then .next (next (s.endDark m)) else .next s
    else
      match m.phase with
      | 1 => .next (((s.migCopy m).fullCheck 32).setMig index (fun x => { x with phase := 2, dirty := [] }))
      | 2 => .next (((s.migRecopy m).fullCheck 32).setMig index (fun x => { x with phase := 3, dirty := [], passes := 1 }))
      | 3 =>
        let t := (s.migRecopy m).fullCheck 32
        if m.dirty ≠ [] ∧ m.passes < 3 then .next (t.setMig index (fun x => { x with dirty := [], passes := x.passes + 1 }))
        else .next (t.setMig index (fun x => { x with phase := 4, dirty := [] }))
      | 4 => .next (s.setMig index (fun x => { x with phase := 5 }))
      | 5 => .next (next (s.switchMig m))
      | _ => .next s

/-! Taking and completing ledger commands (R289, R541). -/

/-- The entries that a command changes. -/
def State.commandIndices (s : State) (ws : List Nat) : List Nat :=
  if lOpcode ws = 5 then s.ownedBy (bits (ws.getD 1 0) 13 0) else lIndices ws

/-- Take the next ledger command, if its opcode is one that `mine` names: its checks, and then its effect. One whose entries lie in a
poisoned line of a replica cannot be written and ends DISCARDED with nothing changed (R267, R279, R293). -/
def State.takeLedger (s : State) (mine : Nat → Bool) (body : List Nat → State → State) : State :=
  match s.ledgerNext with
  | none => s
  | some (port, p, i, ws) =>
    if mine (lOpcode ws) then
      let c : LedgerCmd := { port := port, entry := i, words := ws, ring := p.queueRing false }
      let t : State := { s.setPort port { p with ledgerQ := { p.ledgerQ with take := (p.ledgerQ.take + 1) % 256 } } with
        ledgerTurn := 1 - port, ledgerCmd := some c }
      match s.ledgerCheck ws with
      | some st => { t with ledgerCmd := some { c with status := some st.code } }
      | none =>
        if (s.commandIndices ws).any s.replicaBad then { t with ledgerCmd := some { c with status := some Status.discarded.code } }
        else body ws t
    else s

/-- Give the running command the outcome OK. -/
def State.ledgerOk (s : State) : State :=
  { s with ledgerCmd := s.ledgerCmd.map (fun c => { c with status := some 0 }) }

/-- LEDGER_QUEUE_DOORBELL: the new tail of a port's ledger queue (R540). -/
def execLedgerQueueDoorbell (port : Fin 2) (v : Nat) (s : State) : Out :=
  let p := s.port port.val
  .next (when (decide (p.st ≠ .down)) ((s.setPort port.val { p with ledgerQ := { p.ledgerQ with tail := v % 256 } }).traceOpen 7 5 1 (some 0x15) none none) s)

/-- MAP: Count invalid entries become valid, granule by granule (R289 to R291). -/
def execMap (s : State) : Out :=
  .next (s.takeLedger (· == 1) (fun ws t =>
    ((lIndices ws).zipIdx.foldl (fun u x => u.reEntry x.1 (fun _ => mapEntry (lTemplate ws) x.2)) t).ledgerReport.ledgerOk))

/-- UNMAP: Count entries become invalid and their frames are released (R285, R286). -/
def execUnmap (s : State) : Out :=
  .next (s.takeLedger (· == 2) (fun ws t => (t.unmap (lIndices ws)).ledgerReport.ledgerOk))

/-- The four bits that PROTECT changes (Table 7-7). -/
def protectEntry (t v : Nat) : Nat := setField v 58 55 (bits t 58 55)

/-- PROTECT: the Write, Fabric, Guest and Pinned bits of Count entries (R285). -/
def execProtect (s : State) : Out :=
  .next (s.takeLedger (· == 3) (fun ws t =>
    ((lIndices ws).foldl (fun u i => u.reEntry i (protectEntry (lTemplate ws))) t).flip.ledgerOk))

/-- MIGRATE: Count granules begin to move, up to 64 in flight (section 7.10). -/
def execMigrate (s : State) : Out :=
  .next (s.takeLedger (· == 4) (fun ws t =>
    let todo := (lIndices ws).zipIdx.map (fun x => (x.1, eFrame (lTemplate ws) + x.2))
    let t1 : State := { t with ledgerCmd := t.ledgerCmd.map (fun c => { c with todo := todo }) }
    t1.feedMigrate migFlight))

/-- UNMAPSTREAM: every granule whose OwnerStream is the given stream is unmapped (R289, R290). -/
def execUnmapstream (s : State) : Out :=
  .next (s.takeLedger (· == 5) (fun ws t => (t.unmap (t.ownedBy (bits (ws.getD 1 0) 13 0))).ledgerReport.ledgerOk))

/-- Write Status and CompletionTick into a command's entry and post its completion (R541); nothing of a command whose port
has left Up since (R545). -/
def State.finishLedger (s : State) (c : LedgerCmd) (st : Nat) : State :=
  let s1 : State := { s with ledgerCmd := none }
  if c.gone then s1
  else
    let p := s1.port c.port
    let off := 0x10000 + 32 * c.entry
    let p1 := ((p.setWord off (setField (p.word off) 55 48 st)).setWord (off + 24) s.tb.count)
    let p2 : Port := { p1 with ledgerQ := p1.ledgerQ.finish c.entry st }
    let p3 := match c.ring with
      | some r => p2.postReserved r 0x03 (completionContent 1 0 (bits (c.words.getD 0 0) 47 32) 0 c.entry st s.tb.count)
      | none => p2
    let t := s1.setPort c.port p3
    if c.ring.isSome then t.traceOpen 7 5 2 (some 0x15) none none else t

/-- LEDGER_COMMAND_COMPLETE: the running command's changes have passed R285, step 3 (R286, R289). With no command running,
the hub takes one whose opcode is not defined and completes it (log entry 29). -/
def execLedgerCommandComplete (s : State) : Out :=
  let s1 := s.takeLedger (fun op => decide (op = 0) || decide (5 < op)) (fun _ t => t)
  match s1.ledgerCmd with
  | none => .next s1
  | some c =>
    match (if s.stopped then none else c.status) with
    | none => .next s1
    | some st =>
      if (s1.migs.filter (fun m => decide (m.owner = .command c.port) && decide (m.phase < 6))) = [] then .next (s1.finishLedger c st)
      else .next s1

/-! Epoch drain (R285 step 4, R286). -/

/-- Ledger epochs of the accesses in flight: started transfers, orphans, staging and host commands, and packets that a tracker or a
migration holds (R286, R308, R326, R558). -/
def State.epochsInFlight (s : State) : List Nat :=
  s.runs.flatMap (fun e => match e.2 with
    | some r => (r.started.filter (fun u => decide (8 ≤ u.1))).flatMap (fun u =>
        (u.2.filter (fun q => decide (q.src ≠ []) || decide (q.dst ≠ []))).map (·.epoch))
    | none => []) ++
  (s.orphans.filter (fun x => decide (x.q.src ≠ []) || decide (x.q.dst ≠ []))).map (·.q.epoch) ++
  (s.staging.filter (fun c => c.status.isNone)).map (·.epoch) ++
  s.trackers.filterMap (fun t => t.flag.map (·.epoch)) ++ s.migs.flatMap (fun m => m.writes.map (·.epoch)) ++
  [0, 1].flatMap (fun p => ((s.port p).taken.filter (fun t => t.status.isNone && (decide (cOpcode t.words = 7) || decide (cOpcode t.words = 8)))).map (·.epoch))

/-- LEDGER_EPOCH_DRAIN: held frames that no access in flight predates become free, and migrations that forwarded to
their new frames end (R285, R286, Table 7-9). -/
def execLedgerEpochDrain (s : State) : Out :=
  let es := s.epochsInFlight
  let stay := s.heldFrames.filter (fun h => es.any (fun e => decide (e < h.epoch)))
  let on (m : Migration) : Bool := decide (m.phase < 6) ||
    (s.migUnits m).any (fun p => stay.any (fun h => decide (h.unit = p.1) && decide (h.frame = m.oldFrame)))
  .next ({ s with heldFrames := stay, migs := s.migs.filter on }.setReg (okey 0x5040 4) stay.length).feedAll

/-! Errors in memory (R266 to R270, R311, R312). -/

/-- Is an error beyond correction: in more than one symbol of a polder line, in more than one device of a ×4 module, of more than one bit
in a ×8 module (R266, R311; log entry 65)? -/
def State.fatalError (s : State) (x : MemError) : Bool :=
  if isTier x.unit.val ∧ (s.chan (x.unit.val - 16)).width = 1 then decide (1 < x.flips) else decide (1 < x.parts)

/-- One error that a unit's controller meets in a line: corrected and counted, or poisoned (R266, R267, R311, R312). -/
def State.memError (s : State) (x : MemError) : State :=
  let u := x.unit.val
  if !s.unitServes u || decide (x.parts = 0) then s
  else if !s.fatalError x then s.bump (if isTier u then okey 0x5102 (u - 15) else okey 0x5002 (u + 1))
  else if (s.store u).poison.contains x.line then s
  else
    let f := 64 * x.line / 2 ^ (if isTier u then 18 else 16)
    let s1 := s.setStore u { s.store u with poison := (s.store u).poison ++ [x.line] }
    s1.marked u f

/-- Errors met by an access or the scrub. -/
def State.memErrors (s : State) (l : List MemError) : State := l.foldl (fun t x => t.memError x) s

/-- PATROL_SCRUB: a controller scrubs the next `lines` lines of its polder and meets `errs` in them (R269); retention stops the scrub where
it stands (R306), and a live update of the controller pauses it (Table 16-4). -/
def execPatrolScrub (polder : Fin 16) (lines : Nat) (errs : List MemError) (s : State) : Out :=
  let u := polder.val
  if (s.store u).out || s.pausedBy 5 u || decide (3 ≤ s.reg (okey 0x9200 0)) then .next s
  else
    let s1 := s.setStore u { s.store u with scrub := ((s.store u).scrub + lines) % 2 ^ 30 }
    .next (s1.memErrors (errs.filter (fun e => decide (e.unit.val = u))))

/-- SELF_REFRESH_ENTRY: an idle polder's stack enters self-refresh; SelfRefreshIdle 0 keeps it out (R303). -/
def execSelfRefreshEntry (polder : Fin 16) (s : State) : Out :=
  let x := s.store polder.val
  .next (when (!x.out && decide (s.reg (okey 0x5030 0) ≠ 0)) (s.setStore polder.val { x with selfRefresh := true }) s)

end Sys2Proof.Machine
end

