-- ==== Sys2Proof/Machine/Sequencer.lean ====
section
/-! DEFINITION. The sequencer of a core (sections 3.3, 5.10, 5.11): issue into the unit queues, waits and pins,
synchronisation and control instructions, the end of a step and its commit. -/

namespace Sys2Proof.Machine

open Sys2Proof

/-! Pins and waits (R108, R177, R179). -/

def CoreRun.pin (r : CoreRun) (i : Nat) : Nat := Tbl.get 0 r.pins i

/-- Is the common wait of an instruction met (R177)? -/
def CoreRun.waitMet (r : CoreRun) (w : Nat) : Bool := !iWaitValid w || decide (iWaitCount w ≤ r.pin (iWaitPin w))

/-- Subtract the common wait's count (R177). -/
def CoreRun.takeWait (r : CoreRun) (w : Nat) : CoreRun :=
  if iWaitValid w then { r with pins := Tbl.put 0 r.pins (iWaitPin w) (r.pin (iWaitPin w) - iWaitCount w) } else r

def CoreRun.queue (r : CoreRun) (u : Nat) : List QInstr := Tbl.get [] r.queues u
def CoreRun.active (r : CoreRun) (u : Nat) : List QInstr := Tbl.get [] r.started u
def CoreRun.setQueue (r : CoreRun) (u : Nat) (l : List QInstr) : CoreRun := { r with queues := Tbl.put [] r.queues u l }
def CoreRun.setActive (r : CoreRun) (u : Nat) (l : List QInstr) : CoreRun := { r with started := Tbl.put [] r.started u l }

/-- Continue at an instruction. -/
def CoreRun.goTo (r : CoreRun) (pc : Nat) : CoreRun := { r with pc := pc, memWait := false, waited := false }

/-- Next instruction in order. -/
def CoreRun.advance (r : CoreRun) : CoreRun := r.goTo (r.pc + 1)

/-- The unit that an instruction's class and fields select, 1 to 11; 0 for the sequencer's own (R106, R176). -/
def unitOfInstr (w : Nat) : Nat :=
  match iClass w with
  | 2 => 1
  | 3 => 2 + bits w 34 33
  | 4 => 6
  | 5 => 7
  | 6 => 8 + bits w 34 33
  | _ => 0

/-- MMA4, and DRAIN with DrainAll = 1, take a slot in each of the four engine queues (R199). -/
def allEngines (w : Nat) : Bool := iClass w = 3 && (iOp w = 1 || (iOp w = 2 && bits w 20 20 = 1))

/-- A running core by die and enabled number: its physical key, grant and part, unless everything has stopped. -/
def State.running (s : State) (die core : Nat) : Option (Nat × Grant × CoreRun) :=
  if s.stopped then none
  else
    match s.physOf die core with
    | none => none
    | some m =>
      match s.grantOf (coreKey die m) with
      | none => none
      | some (g, r) => if r.ended then none else some (coreKey die m, g, r)

/-- Fault the step of a core, naming the unit and instruction (R227, R231). -/
def State.coreFault (s : State) (k : Nat) (g : Grant) (unit idx : Nat) (cause addr : Nat) (trap : Nat := 0) : State :=
  s.stepFault g { cause := cause, trap := trap, core := s.numberOf g.die (k % 64), unit := unit, instr := idx, addr := addr }

/-- INSTRUCTION_ISSUE: the next instruction goes into its unit's queue of 8, with the index registers as they stand
(R106, R109, R182). A synchronisation or control instruction is the sequencer's own and is carried out by its row. -/
def execInstructionIssue (die : Fin 8) (core : Fin 48) (s : State) : Out :=
  match s.running die.val core.val with
  | none => .next s
  | some (k, g, r) =>
    let w := s.stepCode g r.pc
    let q : QInstr := { idx := r.pc, word := w, regs := r.idx }
    if g.codeLen ≤ r.pc ∨ unitOfInstr w = 0 then .next s
    else if allEngines w then
      if [2, 3, 4, 5].all (fun u => decide ((r.queue u).length < 8)) then
        .next (s.setRun k (some ([2, 3, 4, 5].foldl (fun x u => x.setQueue u (x.queue u ++ [q])) r).advance))
      else .next s
    else
      let u := unitOfInstr w
      if (r.queue u).length < 8 then .next (s.setRun k (some (r.setQueue u (r.queue u ++ [q])).advance)) else .next s

/-! Pins at completion. -/

/-- The completion of an instruction on a core: the increment of R179, whose carry beyond 65,535 faults the step with
LENGTH_EXCEEDS (R108). -/
def State.completeInstr (s : State) (k : Nat) (g : Grant) (r : CoreRun) (unit : Nat) (q : QInstr) : State :=
  if iIncValid q.word then
    let p := iIncPin q.word
    if 65535 < r.pin p + 1 then (s.setRun k (some r)).coreFault k g unit q.idx Status.lengthExceeds.code 0
    else s.setRun k (some { r with pins := Tbl.put 0 r.pins p (r.pin p + 1) })
  else s.setRun k (some r)

/-- The accumulator set that an engine instruction uses (Table 5-8). -/
def accSet (w : Nat) : Nat := if iOp w < 2 then bits w 12 12 else bits w 22 22

/-- May a started instruction of a unit complete while those before it have not: a row move whose rows are all done while the others
still have rows that wait (R129, R194), an engine instruction whose set no earlier one uses, a multiply-accumulate after another (R198, R200); elsewhere the oldest goes
first (R180). -/
def QInstr.ripe (q : QInstr) (u : Nat) (before : List QInstr) : Bool :=
  if u = 1 then q.left.isEmpty && before.all (fun x => !x.left.isEmpty)
  else if u < 6 then before.all (fun x => decide (accSet x.word ≠ accSet q.word) && (decide (2 ≤ iOp x.word) || decide (2 ≤ iOp q.word)))
  else before.isEmpty

/-- INSTRUCTION_COMPLETE: the started instruction at a place of a unit other than a transfer queue completes as its class
defines, and increments its pin (R179, R194, R200, R205). An MMA4 or DrainAll completes once, when all four engines have
finished (R199). -/
def execInstructionComplete (die : Fin 8) (core : Fin 48) (unit : Fin 12) (pos : Nat) (s : State) : Out :=
  match s.running die.val core.val with
  | none => .next s
  | some (k, g, r) =>
    let u := unit.val
    if 8 ≤ u then .next s
    else
      match (r.active u)[pos]? with
      | none => .next s
      | some q =>
        if !q.ripe u ((r.active u).take pos) then .next s
        else if allEngines q.word then
          let same : QInstr → Bool := fun x => decide (x.idx = q.idx) && allEngines x.word
          if [2, 3, 4, 5].all (fun e => (r.active e).any same) then
            .next (s.completeInstr k g ([2, 3, 4, 5].foldl (fun x e => x.setActive e (removeFirst same (x.active e))) r) 2 q)
          else .next s
        else .next (s.completeInstr k g (r.setActive u (removeAt (r.active u) pos)) u q)

/-! Synchronisation and control. -/

/-- Is the common wait of the sequencer's own instruction met, now or before (R220)? -/
def CoreRun.seqMet (r : CoreRun) (w : Nat) : Bool := r.waited || r.waitMet w

/-- Subtract it once, in the cycle in which it is met (R177, R178): its own condition may be met only later. -/
def CoreRun.seqTake (r : CoreRun) (w : Nat) : CoreRun :=
  if r.waited || !iWaitValid w then r else { r.takeWait w with waited := true }

/-- Carry out a sequencer instruction of class c and operation op, when it is next and its common wait is met (R220):
`f` gets the part, and the state, with the wait subtracted. -/
def State.sequence (s : State) (die core c op : Nat) (f : Nat → Grant → CoreRun → Nat → State → State) : State :=
  match s.running die core with
  | none => s
  | some (k, g, r) =>
    let w := s.stepCode g r.pc
    if decide (r.pc < g.codeLen) && decide (iClass w = c) && decide (iOp w = op) && r.seqMet w then
      f k g (r.seqTake w) w (s.setRun k (some (r.seqTake w)))
    else s

/-- WAITPIN subtracts Count from Pin unless Keep is set (Table 5-12). -/
def CoreRun.takePin (r : CoreRun) (w : Nat) : CoreRun :=
  if bits w 13 13 = 1 then r else { r with pins := Tbl.put 0 r.pins (bits w 34 30) (r.pin (bits w 34 30) - bits w 29 14) }

/-- WAITPIN: issue stops until Pin ≥ Count; Count is then subtracted unless Keep is set (R215). -/
def execWaitpin (die : Fin 8) (core : Fin 48) (s : State) : Out :=
  .next (s.sequence die.val core.val 1 0 (fun k _ r w s =>
    if bits w 29 14 ≤ r.pin (bits w 34 30) then s.setRun k (some (r.takePin w).advance) else s))

/-- A grant with one semaphore changed. -/
def State.setSem (s : State) (g : Grant) (i v : Nat) : State :=
  { s with grants := s.grants.map (fun x => if x.id = g.id then { x with sems := Tbl.put 0 x.sems i v } else x) }

/-- SEMADD: adds Value to a grant semaphore; beyond 2^32 − 1 the step faults with LENGTH_EXCEEDS (R216). -/
def execSemadd (die : Fin 8) (core : Fin 48) (s : State) : Out :=
  .next (s.sequence die.val core.val 1 1 (fun k g r w s =>
    let i := bits w 34 31
    let v := Tbl.get 0 g.sems i + bits w 30 15
    if v < 2 ^ 32 then (s.setRun k (some r.advance)).setSem g i v
    else s.coreFault k g 0 r.pc Status.lengthExceeds.code 0))

/-- SEMWAIT: issue stops until the semaphore is at least Value; subtracts nothing (R215). -/
def execSemwait (die : Fin 8) (core : Fin 48) (s : State) : Out :=
  .next (s.sequence die.val core.val 1 2 (fun k g r w s =>
    if bits w 30 15 ≤ Tbl.get 0 g.sems (bits w 34 31) then s.setRun k (some r.advance) else s))

/-- Have all instructions issued to a unit completed? -/
def CoreRun.drained (r : CoreRun) (u : Nat) : Bool := (r.queue u).isEmpty && (r.active u).isEmpty

/-- FENCE: issue stops until every instruction issued to a selected unit has completed; UnitMask bit i selects unit
i + 1 (R215, R218). -/
def execFence (die : Fin 8) (core : Fin 48) (s : State) : Out :=
  .next (s.sequence die.val core.val 1 3 (fun k _ r w s =>
    let mask := bits w 34 24
    if (List.range 11).all (fun i => decide (mask / 2 ^ i % 2 = 0) || r.drained (i + 1)) then s.setRun k (some r.advance) else s))

/-- The scratch word operand of WAITMEM and ILOAD: space 0x0 and UINT32, aligned and inside scratch (R217, R221). -/
def wordCheck (o : Operand) : Option Bad :=
  firstFail ([need (decide (o.d.space = 0) && decide (o.f = .uint32)) .typeMismatch] ++
    (if o.d.count = 0 then [] else o.scratchCheck))

/-- The operand of a sequencer instruction with descriptor field i and index register field x. -/
def State.seqOperand (s : State) (g : Grant) (r : CoreRun) (i x : Nat) : Operand :=
  operand (s.stepDesc g.die g.base g.descOff i) (ireg r.idx x)

/-- A read of WAITMEM's word: issue goes on when it is at least Value (R217). A descriptor of zero elements has no word
and waits for nothing (R190). -/
def State.waitmem (s : State) (k : Nat) (g : Grant) (r : CoreRun) (w : Nat) (poll : Bool) : State :=
  let o := s.seqOperand g r (bits w 34 29) (bits w 28 25)
  match wordCheck o with
  | some b => if poll then s else s.coreFault k g 0 r.pc b.cause b.addr
  | none =>
    if o.d.count = 0 ∨ bits w 24 9 ≤ rdLe (s.core k).scratch o.eb 4 then s.setRun k (some r.advance)
    else s.setRun k (some { r with memWait := true })

/-- WAITMEM: checks its descriptor, reads the word, and waits when it is below Value (R217). -/
def execWaitmem (die : Fin 8) (core : Fin 48) (s : State) : Out :=
  .next (s.sequence die.val core.val 1 4 (fun k g r w s => s.waitmem k g r w false))

/-- WAITMEM_POLL: every 8 cycles a waiting WAITMEM rereads its word (R217). -/
def execWaitmemPoll (die : Fin 8) (core : Fin 48) (s : State) : Out :=
  .next (s.sequence die.val core.val 1 4 (fun k g r w s => if r.memWait then s.waitmem k g r w true else s))

/-- NOP (R219). -/
def execNop (die : Fin 8) (core : Fin 48) (s : State) : Out :=
  .next (s.sequence die.val core.val 0 0 (fun k _ r _ s => s.setRun k (some r.advance)))

/-- BR: continues at instruction Target (R219). -/
def execBr (die : Fin 8) (core : Fin 48) (s : State) : Out :=
  .next (s.sequence die.val core.val 0 2 (fun k _ r w s => s.setRun k (some (r.goTo (bits w 12 0)))))

/-- The condition of BRC (Table 5-13), unsigned. -/
def brcMet (cond x imm : Nat) : Bool :=
  match cond with
  | 0 => decide (x = imm)
  | 1 => decide (x ≠ imm)
  | 2 => decide (x < imm)
  | _ => decide (imm ≤ x)

/-- BRC: branches when Reg compared with Imm meets Cond (R219, R221). -/
def execBrc (die : Fin 8) (core : Fin 48) (s : State) : Out :=
  .next (s.sequence die.val core.val 0 3 (fun k _ r w s =>
    if brcMet (bits w 30 29) (ireg r.idx (bits w 34 31)) (bits w 28 17) then s.setRun k (some (r.goTo (bits w 12 0)))
    else s.setRun k (some r.advance)))

/-- IADD: Dst = Src + Imm, signed 27-bit, modulo 2^32 (R219, R221). -/
def execIadd (die : Fin 8) (core : Fin 48) (s : State) : Out :=
  .next (s.sequence die.val core.val 0 4 (fun k _ r w s =>
    let v := (((ireg r.idx (bits w 30 27) : Nat) : Int) + signed 27 (bits w 26 0)) % 2 ^ 32
    s.setRun k (some { r with idx := setIreg r.idx (bits w 34 31) v.toNat }.advance)))

/-- ISET: Dst = Imm, zero-extended (R219, R221). -/
def execIset (die : Fin 8) (core : Fin 48) (s : State) : Out :=
  .next (s.sequence die.val core.val 0 5 (fun k _ r w s =>
    s.setRun k (some { r with idx := setIreg r.idx (bits w 34 31) (bits w 30 0) }.advance)))

/-- ILOAD: Dst = the UINT32 scratch word at the descriptor's effective base (R219, R221). -/
def execIload (die : Fin 8) (core : Fin 48) (s : State) : Out :=
  .next (s.sequence die.val core.val 0 6 (fun k g r w s =>
    let o := s.seqOperand g r (bits w 30 25) (bits w 24 21)
    match wordCheck o with
    | some b => s.coreFault k g 0 r.pc b.cause b.addr
    | none =>
      if o.d.count = 0 then s.setRun k (some r.advance)
      else s.setRun k (some { r with idx := setIreg r.idx (bits w 34 31) (rdLe (s.core k).scratch o.eb 4) }.advance)))

/-- TRAP: the step faults with cause TRAP and the given code (R219). -/
def execTrap (die : Fin 8) (core : Fin 48) (s : State) : Out :=
  .next (s.sequence die.val core.val 0 7 (fun k g r w s =>
    s.coreFault k g 0 r.pc Status.trap.code 0 (bits w 7 0)))

/-! END and commit (R111, R214). -/

/-- Deadline accounting of an entry's last commit: the status reported and the counters (R73, R83, R89). Bulk and
near-live entries that are met are counted only as margin warnings (Table 2-9). -/
def State.judge (s : State) (e : Entry) : State × Status :=
  if e.deadline ≤ s.dieTick e.die then (s.bump (okey 0x2031 (missIndex e.cls)), .deadlineMissed)
  else
    let s1 := if e.cls = .live then s.bump (okey 0x2031 1) else s
    let s2 := if e.deadline - s.dieTick e.die < s.reg (okey 0x2032 0) then s1.bump (okey 0x2031 5) else s1
    (s2, .ok)

/-- The next step of an entry whose pattern has left the die, or become too short, at a frame boundary is discarded with
the cause of the grant check (R85, R225; log entry 28). -/
def State.dropNext (s : State) (g : Grant) (cause : Nat) : State :=
  let fi : FaultInfo := { cause := cause, core := s.numberOf g.die (g.cores.headD 0) }
  let s1 := (s.postStep g.stream g.die (g.step + 1) g.pattern 0 Status.discarded.code fi).traceStep 4 g.stream g.die (g.step + 1) g.pattern 0
    Status.discarded.code
  let s2 := (s1.entries.filter (fun e => decide (e.frame = g.frame) && decide (e.idx = g.entry))).foldl
    (fun t e => t.note e false Status.discarded.code) s1
  (s2.setEntry g.frame g.entry (fun e => { e with st := .discarded })).sweepEntries (fun _ => none)

/-- STEP_COMMIT: the working copy becomes the committed one, the completion record is written, and the entry's next step
starts or the entry is Committed (R79, R83, R214, R231). Only the entry's last step is judged against the deadline
(log entry 14). The entry's cores
pass to its next step without a new grant, so a bulk entry keeps them beside live work (DEDUCED from R82's "keep their cores until
they commit" and R79; log entry 13). In a freeze the entry then stands between steps (R707; log entry 44). -/
def State.commit (s : State) (g : Grant) : State :=
  let x := s.stream g.stream
  match s.entries.find? (fun e => decide (e.frame = g.frame) && decide (e.idx = g.entry)) with
  | none => s.freeGrant g
  | some e =>
    let last := decide (e.stepCount ≤ e.done + 1)
    let (s1, st) := if last then s.judge e else (s, .ok)
    let s2 := s1.setStream g.stream (x.commitStep (decide (st = .deadlineMissed) && decide (s.tb.frameStart < e.deadline)) (decide (st = .deadlineMissed)))
    let s3 := ((s2.postStep g.stream g.die g.step g.pattern g.arith st.code {}).traceStep 2 g.stream g.die g.step g.pattern g.arith st.code).setEntry g.frame g.entry
      (fun y => { y with done := y.done + 1, st := if last then .committed else y.st })
    let s3' := if last then s3.note e true st.code else s3
    let s4 := (s3'.freeGrant g).applyWaiting g.stream
    if last then s4
    else if s4.halted then s4.setEntry g.frame g.entry (fun y => { y with st := .ready })
    else
      match (s4.dieOf g.die).pattern g.pattern with
      | none => s4.dropNext g Status.notReady.code
      | some p =>
        if p.steps ≤ g.step + 1 then s4.dropNext g Status.lengthExceeds.code
        else s4.stepStart { g with step := g.step + 1, base := p.base }

/-- END: retires once every queue of the core has drained; captures come first, and the core that holds the
sampling-state record writes it back to the working copy (R111, R248, R702). The last core commits the step (R214). -/
def execEndStep (die : Fin 8) (core : Fin 48) (s : State) : Out :=
  .next (s.sequence die.val core.val 0 1 (fun k g r _ s =>
    if (List.range 11).all (fun i => r.drained (i + 1)) then
      let s1 := s.capture g (k % 64) r
      let x := s1.stream g.stream
      let s2 := match r.sfu with
        | some ws => s1.setStream g.stream { x with working := putSampling x.working ws }
        | none => s1
      let g1 : Grant := { g with arith := g.arith ||| r.arith }
      let s3 : State := { s2 with
        grants := s2.grants.map (fun y => if y.id = g.id then { y with arith := g1.arith } else y)
        runs := Tbl.put none s2.runs k (some { r with ended := true }) }
      if g.cores.all (fun m => match s3.run (coreKey g.die m) with | some y => y.ended | none => true) then s3.commit g1
      else s3
    else s))

end Sys2Proof.Machine
end

