-- ==== Sys2Proof/Machine/Units.lean ====
section
/-! DEFINITION. How a unit starts the instruction at the head of its queue (R107, R199, R227): the wait, the checks at
issue, the effect, and the place among the started instructions until it completes. -/

namespace Sys2Proof.Machine

open Sys2Proof

/-! A transfer and its operands (R207). -/

/-- Operand of LocalDesc. -/
def State.xLocal (s : State) (x : Orphan) : Operand :=
  operand (s.stepDesc x.die x.base x.descOff (bits x.q.word 32 27)) (ireg x.q.regs (bits x.q.word 20 17))

/-- Operand of RemoteDesc. -/
def State.xRemote (s : State) (x : Orphan) : Operand :=
  operand (s.stepDesc x.die x.base x.descOff (bits x.q.word 26 21)) (ireg x.q.regs (bits x.q.word 16 13))

/-- Aux field. -/
def xAux (x : Orphan) : Nat := bits x.q.word 12 7

/-- Operand of a PUTF's flag descriptor, indexed by IdxRemote's register (R443). -/
def State.xFlag (s : State) (x : Orphan) : Operand :=
  operand (s.stepDesc x.die x.base x.descOff (xAux x)) (ireg x.q.regs (bits x.q.word 16 13))

/-- The transfer of a running core. -/
def xferOf (g : Grant) (k : Nat) (q : QInstr) : Orphan :=
  { die := g.die, core := k % 64, stream := g.stream, base := g.base, descOff := g.descOff, q := q }

/-- Does the operation read its remote side (GET)? -/
def xIsGet (x : Orphan) : Bool := decide (iOp x.q.word = 0)

/-- Source operand: the remote side of a GET, the local side of every other transfer (Table 5-11). -/
def State.xSrc (s : State) (x : Orphan) : Operand := if xIsGet x then s.xRemote x else s.xLocal x

/-- Destination operand. -/
def State.xDst (s : State) (x : Orphan) : Operand := if xIsGet x then s.xLocal x else s.xRemote x

/-- The compute dies that an MCAST delivers to: those of the target die's row or column (Table 5-11, R374). -/
def mcastDies (o : Operand) (col : Bool) : List Nat :=
  let t := siteOfDie (bits o.d.target 10 8)
  (List.range 8).filter (fun k => if col then decide (siteCol (siteOfDie k) = siteCol t) else decide (siteRow (siteOfDie k) = siteRow t))

/-- The key of the core that an operand in space 0x1 or 0x2 names, if it is in service. -/
def State.targetCore (s : State) (x : Orphan) (die : Nat) (o : Operand) : Option Nat :=
  let d := if o.d.space = 2 then die else x.die
  match s.physOf d (bits o.d.target 5 0) with
  | some m => if (s.core (coreKey d m)).serves && (s.dieOf d).up && !(s.dieOf d).isolated then some (coreKey d m) else none
  | none => none

/-- The dies that an operand in space 0x2 reaches: one, or the members of an MCAST. -/
def State.targetDies (_s : State) (x : Orphan) (o : Operand) : List Nat :=
  if iOp x.q.word = 3 then mcastDies o (bits (xAux x) 0 0 = 1)
  else if o.d.space = 2 then [bits o.d.target 10 8] else [x.die]

/-! The order within a queue (R180, R446). -/

/-- The flag operand of a PUTF. -/
def State.xFlags (s : State) (x : Orphan) : List Operand := if iOp x.q.word = 2 then [s.xFlag x] else []

/-- Operands whose bytes a transfer reads: its source, and both sides of an ATOMIC. -/
def State.xReads (s : State) (x : Orphan) : List Operand := if iOp x.q.word = 4 then [s.xLocal x, s.xRemote x] else [s.xSrc x]

/-- Operands whose bytes it writes, but for a PUTF's flag word. -/
def State.xWrites (s : State) (x : Orphan) : List Operand := if iOp x.q.word = 4 then [s.xLocal x, s.xRemote x] else [s.xDst x]

/-- The places that hold an operand's bytes: the scratch of a core by its key, a virtual space, a fabric endpoint, a copy of the
stream's state record or a guest's window. -/
def State.xPlaces (s : State) (x : Orphan) (o : Operand) : List Nat :=
  match o.d.space with
  | 0 => [coreKey x.die x.core]
  | 1 | 2 => (s.targetDies x o).filterMap (fun d => s.targetCore x d o)
  | 3 => [1000]
  | 4 => [1001]
  | 5 => [2000 + bits o.d.target 11 0]
  | 6 => [1002 + (if o.d.working then 1 else 0)]
  | _ => [10000 + bits o.d.target 0 0]

/-- Do operands of two transfers of one core share a byte? -/
def State.xMeet (s : State) (x : Orphan) (a : Operand) (y : Orphan) (b : Operand) : Bool :=
  (s.xPlaces x a).any (s.xPlaces y b).contains && a.meets b

/-- Must transfer x wait for transfer y before it in its queue: a byte that one writes the other reads (R180)? Two that write the same
bytes land in either order (R442). Once y's data has landed only its flag is outstanding. -/
def State.xferAfter (s : State) (x y : Orphan) : Bool :=
  let hits (as bs : List Operand) : Bool := as.any (fun a => bs.any (fun b => s.xMeet x a y b))
  let ys := s.xFlags y ++ (if y.q.landed then [] else s.xWrites y)
  hits (s.xReads x) ys || (!y.q.landed && hits (s.xWrites x ++ s.xFlags x) (s.xReads y))

/-- Does a transfer of a queue wait for one of those in flight before it (R180)? -/
def State.queueHolds (s : State) (g : Grant) (k : Nat) (before : List QInstr) (q : QInstr) : Bool :=
  before.any (fun y => s.xferAfter (xferOf g k q) (xferOf g k y))

/-! Paths (R211, R376). -/

/-- The ordered pairs of sites that an operand's packets cross, there and back. -/
def State.operandPaths (s : State) (x : Orphan) (o : Operand) (tr : List (Nat × Nat)) : List (Nat × Nat) :=
  let me := siteOfDie x.die
  let both (a b : Nat) : List (Nat × Nat) := if a = b then [] else [(a, b), (b, a)]
  match o.d.space with
  | 2 => (s.targetDies x o).flatMap (fun d => both me (siteOfDie d))
  | 3 => (s.unitsNow tr x.die).flatMap (fun u => both me (siteOfDie (u / 2)))
  | 4 => both me siteH
  | 5 => both me siteH ++ both siteH siteF
  | 6 => both me (siteOfDie (s.stream x.stream).home)
  | 7 => both me siteH ++ both siteH (siteG (bits o.d.target 0 0))
  | _ => []

/-- The ledger entries of an operand in a virtual space as its die's replica holds them now. -/
def State.peekEntries (s : State) (die : Nat) (o : Operand) : List (Nat × Nat) :=
  if o.d.space = 3 ∨ o.d.space = 4 then
    (granules (decide (o.d.space = 4)) o.runs).map (fun g => (g.1, s.entryAt die g.1))
  else []

/-- All paths of a transfer. -/
def State.xferPaths (s : State) (x : Orphan) : List (Nat × Nat) :=
  s.operandPaths x (s.xSrc x) x.q.src ++ s.operandPaths x (s.xDst x) x.q.dst ++
  (s.xFlags x).flatMap (fun o => s.operandPaths x o (s.peekEntries x.die o))

/-- A dark region that the source's site, or the hub on the second leg, holds a notice for lies on the way (R211). -/
def State.xferDark (s : State) (x : Orphan) : Bool :=
  (s.xferPaths x).any (fun p => s.pathHeld (siteOfDie x.die) p || s.pathHeld siteH p)

/-- Is every region on the paths of a transfer in service (R385)? -/
def State.xferUp (s : State) (x : Orphan) : Bool :=
  (s.xferPaths x).all (fun p => (pathRegions p.1 p.2).all (fun y => (s.region y).up))

/-- Packets of the transfer are lost on the way now. -/
def State.xferLost (s : State) (x : Orphan) : Bool := (s.xferPaths x).any s.pathLost

/-- Is every lane of a bride out of service at once (R412)? -/
def State.brideOut (s : State) (p : Nat × Nat) : Bool := (List.range 96).all (fun n => decide ((s.pathOf p.1 p.2 n).st ≠ 0))

/-- A bride of the transfer has no lane in service, so it waits in its queue until one returns (R412). -/
def State.xferStuck (s : State) (x : Orphan) : Bool := (s.xferPaths x).any s.brideOut

/-- A transfer that has not started, with the entries that its operands would find. -/
def State.peek (s : State) (x : Orphan) : Orphan :=
  { x with q := { x.q with src := s.peekEntries x.die (s.xSrc x), dst := s.peekEntries x.die (s.xDst x) } }

/-! Limits at the source (R381, R462). -/

/-- The DestIds of an operand's atomics or flags: the die port for scratch, the controller that holds the frame, or the endpoint (R460). -/
def State.destIds (s : State) (x : Orphan) (o : Operand) : List Nat :=
  let own (low : Nat) : Nat := idOf s.endpoint low
  match o.d.space with
  | 1 | 2 => (s.targetDies x o).map (fun d => own (siteOfDie d * 256 + 0xF3))
  | 3 => (s.unitsNow (s.peekEntries x.die o) x.die).map (fun u => own (siteOfDie (u / 2) * 256 + 0xF1 + u % 2))
  | 4 => (s.unitsNow (s.peekEntries x.die o) x.die).map (fun u => own (siteH * 256 + (u - 16)))
  | 5 => [fabricDest (bits o.d.target 11 0)]
  | _ => []

/-- Where a transfer sends its atomic or its flag; nowhere for another one. -/
def State.onceDests (s : State) (x : Orphan) : List Nat :=
  if iOp x.q.word = 4 then s.destIds x (s.xRemote x) else (s.xFlags x).flatMap (s.destIds x)

/-- Flags of this queue that are not acknowledged: a fifth toward one DestId waits (R446). -/
def State.flagsWait (s : State) (r : CoreRun) (g : Grant) (k u : Nat) (q : QInstr) : Bool :=
  decide (iOp q.word = 2) && decide (4 ≤ ((r.active u).filter (fun y => decide (iOp y.word = 2) &&
    decide (s.onceDests (xferOf g k y) = s.onceDests (xferOf g k q)))).length)

/-- Does the transfer at the head of a queue wait for those in flight: a fifth flag (R446), or requests to a fabric endpoint, which take
their payload at the start (R180)? -/
def State.sendWaits (s : State) (r : CoreRun) (g : Grant) (k u : Nat) (q : QInstr) : Bool :=
  s.flagsWait r g k u q || (decide ((s.xRemote (xferOf g k q)).d.space = 5) && s.queueHolds g k (r.active u) q)

/-- The source unit of a transfer. -/
def State.xUnit (s : State) (x : Orphan) : Nat := tqUnit x.die (s.numberOf x.die x.core) (bits x.q.word 34 33)

/-- With those that its queue still has to send, would the atomic or flag of a transfer be more than the 4,096th of its source to one
DestId in 64 ms (R462)? -/
def State.onceWaits (s : State) (g : Grant) (k : Nat) (before : List QInstr) (q : QInstr) : Bool :=
  let x := xferOf g k q
  (s.onceDests x).any (fun d => decide (4096 ≤ s.sentTo (s.xUnit x) d +
    (before.filter (fun y => decide (iOp y.word = 2) && !y.landed && (s.onceDests (xferOf g k y)).contains d)).length))

/-- Record that a transfer's atomic or flag leaves (R462). -/
def State.noteOnce (s : State) (x : Orphan) : State := (s.onceDests x).foldl (fun t d => t.noteSend (t.xUnit x) d) s

/-- Bytes of an operand. -/
def Operand.bytes (o : Operand) : Nat := (o.runs.map (·.2)).sum

/-- Does an access to a guest's windows wait in its queue for the rate limit (R381)? -/
def State.dykeWaits (s : State) (x : Orphan) : Bool :=
  let o := s.xRemote x
  let g := bits o.d.target 0 0
  decide (o.d.space = 7) && decide (s.guestShare g ≤ (s.guest g).debt (xIsGet x))

/-- A transfer to a guest's windows takes its bytes from the limit of its direction (R381). -/
def State.dykeTakes (s : State) (x : Orphan) : State :=
  let o := s.xRemote x
  let g := bits o.d.target 0 0
  if o.d.space = 7 then s.setGuest g ((s.guest g).owe (xIsGet x) o.bytes) else s

/-- Does the transfer at the head of a queue wait before its start: for flags or transfers before it (R180, R446), for a bride without
lanes (R412), or for a limit on what its source sends (R381, R462)? -/
def State.startWaits (s : State) (r : CoreRun) (g : Grant) (k u : Nat) (q : QInstr) : Bool :=
  s.sendWaits r g k u q || s.xferStuck (s.peek (xferOf g k q)) || s.dykeWaits (xferOf g k q) || s.onceWaits g k (r.active u) q

/-! Starting an instruction. -/

/-- What a unit's checks say of the instruction at the head of its queue. -/
inductive Chk where
  /-- It waits for the unit (R107, R198, R40, R129). -/
  | wait
  /-- It fails a check at issue (R227). -/
  | fault (b : Bad)
  /-- It has nothing to do and completes at once (R19, R190). -/
  | once
  /-- It starts. -/
  | go
  deriving DecidableEq, Repr

/-- A failed check, or the verdict v. -/
def Chk.of (fails : List (Option Bad)) (v : Chk) : Chk :=
  match firstFail fails with
  | some b => .fault b
  | none => v

/-- The unit queues in which an instruction stands: an MMA4 or DrainAll stands in all four of the engines (R199). -/
def unitsFor (u w : Nat) : List Nat := if allEngines w then [2, 3, 4, 5] else [u]

/-- Take an instruction from the heads of its queues, with its wait subtracted (R177). -/
def CoreRun.pop (r : CoreRun) (us : List Nat) (w : Nat) : CoreRun :=
  us.foldl (fun x u => x.setQueue u ((x.queue u).drop 1)) (r.takeWait w)

/-- Enter it among the started instructions of its units. -/
def CoreRun.enter (r : CoreRun) (us : List Nat) (q : QInstr) : CoreRun :=
  us.foldl (fun x u => x.setActive u (x.active u ++ [q])) r

/-- Is the accumulator set in use by a started instruction of one of the units (R198)? -/
def CoreRun.setBusy (r : CoreRun) (us : List Nat) (w : Nat) : Bool :=
  us.any (fun u => (r.active u).any (fun q => decide (accSet q.word = accSet w)))

/-- The array that an MMA or MMA4 needs serves another one (R198). -/
def CoreRun.arrayBusy (r : CoreRun) (us : List Nat) (w : Nat) : Bool :=
  decide (iOp w < 2) && us.any (fun u => (r.active u).any (fun q => decide (iOp q.word < 2)))

/-- Nothing of unit v holds the instruction at the head of its queue but its wait (R40, R107, R198, R381, R412, R446, R462). -/
def State.unitFree (s : State) (k : Nat) (g : Grant) (r : CoreRun) (v : Nat) (q : QInstr) : Bool :=
  let us := unitsFor v q.word
  if v = 1 then !(s.core k).pause
  else if v < 6 then
    decide (us.headD v = v) && us.all (fun e => ((r.queue e).head?).map (·.idx) == some q.idx) && !r.setBusy us q.word && !r.arrayBusy us q.word
  else if 8 ≤ v then !s.startWaits r g k v q
  else true

/-- The pins after the sequencer's own instruction has taken from them what it takes now: its common wait, and the Count of a WAITPIN
(R178, R215, R220). -/
def State.seqClaim (s : State) (g : Grant) (r : CoreRun) : CoreRun :=
  let w := s.stepCode g r.pc
  if r.pc < g.codeLen ∧ iClass w < 2 ∧ r.seqMet w then
    let x := r.seqTake w
    if iClass w = 1 ∧ iOp w = 0 ∧ bits w 29 14 ≤ x.pin (bits w 34 30) then x.takePin w else x
  else r

/-- The pins after the sequencer and the units before u have taken from them what they take in this cycle: each subtraction takes effect
before the next check (R178). -/
def State.claims (s : State) (k : Nat) (g : Grant) (r : CoreRun) (u : Nat) : CoreRun :=
  ((List.range u).drop 1).foldl (fun x v =>
    match r.queue v with
    | [] => x
    | q :: _ => if s.unitFree k g r v q && x.waitMet q.word then x.takeWait q.word else x) (s.seqClaim g r)

/-- Start the head of unit u's queue, if it is of class c and operation op, with its wait met by what the pin still holds in its turn (R177,
R178): `check` judges it, and `effect` acts on the state in which it has started. -/
def State.startUnit (s : State) (die core u c op : Nat) (check : Nat → Grant → CoreRun → QInstr → Chk)
    (effect : Nat → Grant → QInstr → State → State) : State :=
  match s.running die core with
  | none => s
  | some (k, g, r) =>
    match r.queue u with
    | [] => s
    | q :: _ =>
      let us := unitsFor u q.word
      if decide (iClass q.word = c) && decide (iOp q.word = op) && (s.claims k g r (us.headD u)).waitMet q.word &&
          us.all (fun v => ((r.queue v).head?).map (·.idx) == some q.idx) then
        match check k g r q with
        | .wait => s
        | .fault b => s.coreFault k g (us.headD u) q.idx b.cause b.addr
        | .once => s.completeInstr k g (r.pop us q.word) (us.headD u) q
        | .go => effect k g q (s.setRun k (some ((r.pop us q.word).enter us q)))
      else s

/-- Add arithmetic flags to the running part of a core. -/
def State.flagRun (s : State) (k flags : Nat) : State :=
  match s.run k with
  | some r => s.setRun k (some (r.flag flags))
  | none => s

/-- Report flags to a core, whose step may have ended since: its ArithFlags are those of the step that it runs, or those that its last one
left (R169, R170). -/
def State.coreFlags (s : State) (k flags : Nat) : State :=
  match s.run k with
  | some _ => s.flagRun k flags
  | none => s.setCore k { s.core k with arith := orFlags (s.core k).arith flags }

/-- Write a core's scratch. -/
def State.setScratch (s : State) (k : Nat) (m : Tbl Byte) : State := s.setCore k { s.core k with scratch := m }

/-- The operand of an instruction with descriptor field i and index field x (R182, R188). -/
def State.unitOperand (s : State) (g : Grant) (q : QInstr) (i x : Nat) : Operand :=
  operand (s.stepDesc g.die g.base g.descOff i) (ireg q.regs x)

end Sys2Proof.Machine
end

