-- ==== Sys2Proof/Machine/Vector.lean ====
section
/-! DEFINITION. Vector instructions (sections 4.2, 4.3, 5.6, 6.9): every operation of Table 5-9, computed exactly and rounded
into the destination format. -/

namespace Sys2Proof.Machine

open Sys2Proof

/-! Operands. -/

/-- The three operands of a vector or special function instruction; the index register adds to SrcA and SrcB only
(R201). -/
structure Operands3 where
  dst : Operand
  a : Operand
  b : Operand
  deriving DecidableEq, Repr

/-- The operands of an instruction. -/
def State.operands3 (s : State) (g : Grant) (q : QInstr) : Operands3 :=
  { dst := operand (s.stepDesc g.die g.base g.descOff (fDst q.word)) 0
    a := s.unitOperand g q (fSrcA q.word) (fIdx q.word)
    b := s.unitOperand g q (fSrcB q.word) (fIdx q.word) }

/-- Equal extents. -/
def sameDims (x y : Desc) : Bool := decide (x.dim0 = y.dim0) && decide (x.dim1 = y.dim1) && decide (x.dim2 = y.dim2)

/-- Element formats that the vector unit computes with: FP32, BF16, INT8 and MX as sources (R203; log entry 20). -/
def Fmt.arith (f : Fmt) : Bool := f.isMx || decide (f = .fp32) || decide (f = .bf16) || decide (f = .int8)

/-- Destination formats other than MX (R203). -/
def Fmt.plain (f : Fmt) : Bool := decide (f = .fp32) || decide (f = .bf16) || decide (f = .int8)

/-- INT8 with INT8 only (R203). -/
def noMix (l : List Fmt) : Bool := l.all (fun f => decide (f = .int8)) || l.all (fun f => decide (f ≠ .int8))

/-- The shapes of B that R204 allows. -/
def broadcastOk (a b : Desc) (one : Bool) : Bool :=
  ((decide (b.dim0 = a.dim0) && (decide (b.dim1 = a.dim1) || decide (b.dim1 = 1))) ||
    (one && decide (b.dim0 = 1) && decide (b.dim1 = 1))) &&
  (decide (b.dim2 = a.dim2) || decide (b.dim2 = 1))

/-- An index into an extent, or 0 where the extent is one broadcast value (R204). -/
def bIdx (dim i : Nat) : Nat := if dim = 1 then 0 else i

/-- The element of B that meets element (i0, i1, i2). -/
def Operand.bcast (o : Operand) (m : Tbl Byte) (i1 i2 i0 : Nat) : Flagged Fp :=
  o.value m (bIdx o.d.dim1 i1) (bIdx o.d.dim2 i2) (bIdx o.d.dim0 i0)

/-! The check frame of the vector unit. -/

/-- Checks of a vector instruction: spaces, then zero elements, then extents and formats, alignment, and bounds with
further length checks (R190, R201, Table 5-18). -/
def vecCheck (used : List Operand) (zero : Bool) (types : Bool) (lens : List (Option Bad)) : Chk :=
  if !used.all Operand.own then .of [need false .typeMismatch] .go
  else if zero then .once
  else .of (need types .typeMismatch :: scratchChecks used ++ lens) .go

/-- Is an operation on A and Dst empty? -/
def Operands3.empty (o : Operands3) : Bool := decide (o.a.d.count = 0) && decide (o.dst.d.count = 0)

/-! Results. -/

/-- Write rows of flagged codes into Dst. -/
def putRows (o : Operand) (m : Tbl Byte) (rows : List ((Nat × Nat) × List (Flagged Nat))) : Tbl Byte × Nat :=
  rows.foldl (fun st r =>
    let (cs, g) := unzipFlags r.2
    (o.putRow st.1 r.1.1 r.1.2 cs, orFlags st.2 g)) (m, 0)

/-- Convert a flagged exact value into the destination format (R150, R151, R153). -/
def convert (f : Fmt) (x : Flagged Fp) : Flagged Nat :=
  let (c, g) := roundInto f x.1
  (c, orFlags x.2 g)

/-- The result of an operation in the destination format: a BF16 result is that of the FP32 operation, rounded once more (R154, R732). -/
def finish (f : Fmt) (x : Flagged Fp) : Flagged Nat :=
  if f = .bf16 then
    let (c, g) := toF32 x.1
    convert f (f32 c, orFlags x.2 g)
  else convert f x

/-- Carry out an elementwise operation: `f` gives the exact value of element (i1, i2, i0), and `last` its code in Dst. -/
def State.vecRows (s : State) (k : Nat) (dst : Operand) (f : Tbl Byte → Nat → Nat → Nat → Flagged Fp)
    (last : Fmt → Flagged Fp → Flagged Nat := finish) : State :=
  let m := (s.core k).scratch
  let rows := dst.d.rows.map (fun r => (r, (List.range dst.d.dim0).map (fun i => last dst.f (f m r.1 r.2 i))))
  let (m1, fl) := putRows dst m rows
  (s.setScratch k m1).flagRun k fl

/-! Binary operations and FMA. -/

/-- The maximum of IEEE 754-2019 (R736). -/
def fpMaximum (x y : Fp) : Fp := if x.isNan || y.isNan then .nan else if Fp.lt x y then y else x

/-- The minimum of IEEE 754-2019 (R736). -/
def fpMinimum (x y : Fp) : Fp := if x.isNan || y.isNan then .nan else if Fp.lt y x then y else x

/-- A + B × one, A − B, A × B, A × B + Dst, max and min, exact (Table 5-9). -/
def vecOp (op : Nat) (x y c : Fp) : Flagged Fp :=
  match op with
  | 0 => Fp.add x y
  | 1 => Fp.add x y.neg
  | 2 => Fp.mul x y
  | 3 =>
    let (p, g) := Fp.mul x y
    let (z, h) := Fp.add p c
    (z, orFlags g h)
  | 4 => (fpMaximum x y, 0)
  | _ => (fpMinimum x y, 0)

/-- The checks of ADD, SUB, MUL, FMA, MAX and MIN. -/
def binCheck (o : Operands3) : Chk :=
  vecCheck [o.dst, o.a, o.b] o.empty
    (sameDims o.dst.d o.a.d && o.a.f.arith && o.b.f.arith && o.dst.f.plain && broadcastOk o.a.d o.b.d true &&
      noMix [o.a.f, o.b.f, o.dst.f]) []

/-- The effect of ADD, SUB, MUL, FMA, MAX and MIN. -/
def State.binRun (s : State) (k op : Nat) (o : Operands3) : State :=
  s.vecRows k o.dst (fun m i1 i2 i =>
    let (x, g) := o.a.value m i1 i2 i
    let (y, h) := o.b.bcast m i1 i2 i
    let (c, e) := if op = 3 then o.dst.value m i1 i2 i else (Fp.fin false 0 0, 0)
    let (z, j) := vecOp op x y c
    (z, orAll [g, h, e, j]))

/-- Start a vector instruction of operation op. -/
def State.vecStart (s : State) (die core op : Nat) (check : State → Nat → Operands3 → Chk)
    (run : State → Nat → Operands3 → Nat → State) : State :=
  s.startUnit die core 6 4 op (fun k g _ q => check s k (s.operands3 g q))
    (fun k g q t => run t k (t.operands3 g q) q.word)

/-- A binary operation, or FMA. -/
def State.vecBin (s : State) (die core op : Nat) : State :=
  s.vecStart die core op (fun _ _ o => binCheck o) (fun t k o _ => t.binRun k op o)

/-- ADD: A + B (Table 5-9). -/
def execAdd (die : Fin 8) (core : Fin 48) (s : State) : Out := .next (s.vecBin die.val core.val 0)
/-- SUB: A − B (Table 5-9). -/
def execSub (die : Fin 8) (core : Fin 48) (s : State) : Out := .next (s.vecBin die.val core.val 1)
/-- MUL: A × B (Table 5-9). -/
def execMul (die : Fin 8) (core : Fin 48) (s : State) : Out := .next (s.vecBin die.val core.val 2)
/-- FMA: A × B + Dst, rounded once (Table 5-9, R154). -/
def execFma (die : Fin 8) (core : Fin 48) (s : State) : Out := .next (s.vecBin die.val core.val 3)
/-- MAX: the larger of A and B (R736). -/
def execMax (die : Fin 8) (core : Fin 48) (s : State) : Out := .next (s.vecBin die.val core.val 4)
/-- MIN: the smaller of A and B (R736). -/
def execMin (die : Fin 8) (core : Fin 48) (s : State) : Out := .next (s.vecBin die.val core.val 5)

/-! Unary operations. -/

/-- The checks of ABS and SCALE2. -/
def unaryCheck (o : Operands3) : Chk :=
  vecCheck [o.dst, o.a] o.empty
    (sameDims o.dst.d o.a.d && o.a.f.arith && o.dst.f.plain && noMix [o.a.f, o.dst.f]) []

/-- ABS: the magnitude of A (Table 5-9). -/
def execAbs (die : Fin 8) (core : Fin 48) (s : State) : Out :=
  .next (s.vecStart die.val core.val 6 (fun _ _ o => unaryCheck o) (fun t k o _ =>
    t.vecRows k o.dst (fun m i1 i2 i => let (x, g) := o.a.value m i1 i2 i; (x.abs, g))))

/-- CVT: A converted to the Dst format; MX elements convert straight from their exact values (R150 to R153, R203). -/
def execCvt (die : Fin 8) (core : Fin 48) (s : State) : Out :=
  .next (s.vecStart die.val core.val 7
    (fun _ _ o => vecCheck [o.dst, o.a] o.empty (sameDims o.dst.d o.a.d && o.a.f.arith && o.dst.f.plain) [])
    (fun t k o _ => t.vecRows k o.dst (fun m i1 i2 i => o.a.elem m i1 i2 i) convert))

/-- SCALE2: A × 2^Imm, Imm signed (Table 5-9). DESIGN CHOICE (log entry 69): on INT8 lanes a result that is no integer is rounded to
nearest even, with ConvUnderflow where a nonzero value becomes 0. -/
def execScale2 (die : Fin 8) (core : Fin 48) (s : State) : Out :=
  .next (s.vecStart die.val core.val 9 (fun _ _ o => unaryCheck o) (fun t k o w =>
    t.vecRows k o.dst (fun m i1 i2 i => let (x, g) := o.a.value m i1 i2 i; (x.scale (signed 13 (fImm w)), g))))

/-- Split a list into pieces of n. -/
def chunks {α : Type} (n : Nat) : Nat → List α → List (List α)
  | 0, _ => []
  | fuel + 1, l => if l.isEmpty then [] else l.take n :: chunks n fuel (l.drop n)

/-- Write one row of A as MX blocks: elements and scales (R144, R146 to R149). -/
def putMxRow (o : Operand) (m : Tbl Byte) (i1 i2 : Nat) (xs : List (Flagged Fp)) : Tbl Byte × Nat :=
  match o.f.float? with
  | none => (m, 0)
  | some p =>
    let bs := (chunks 32 (xs.length / 32 + 1) (xs.map (·.1))).map (toMxBlock o.f p)
    let m1 := o.putRow m i1 i2 (bs.flatMap (fun b => b.2.1))
    let m2 := wrBytes m1 (o.scaleRow i1 i2) (bs.map (fun b => BitVec.ofNat 8 b.1))
    (m2, orFlags (orAll (xs.map (·.2))) (orAll (bs.map (fun b => b.2.2))))

/-- TOMX: A converted into MX blocks (R146 to R149, R203). -/
def execTomx (die : Fin 8) (core : Fin 48) (s : State) : Out :=
  .next (s.vecStart die.val core.val 8
    (fun _ _ o => vecCheck [o.dst, o.a] o.empty
      (sameDims o.dst.d o.a.d && (o.a.f.isMx || decide (o.a.f = .fp32) || decide (o.a.f = .bf16)) && o.dst.f.isMx) [])
    (fun t k o _ =>
      let m := (t.core k).scratch
      let (m1, fl) := o.dst.d.rows.foldl (fun (st : Tbl Byte × Nat) r =>
        let (m2, g) := putMxRow o.dst st.1 r.1 r.2 (o.a.rowVals m r.1 r.2)
        (m2, orFlags st.2 g)) (m, 0)
      (t.setScratch k m1).flagRun k fl))

/-! GATHER (R204). -/

/-- The row index of output row (i1, i2). -/
def gatherIndex (o : Operands3) (m : Tbl Byte) (i1 i2 : Nat) : Nat := (o.b.rowCodes m i1 (bIdx o.b.d.dim2 i2)).headD 0

/-- The checks of GATHER, with every index judged before a row is written. -/
def gatherCheck (o : Operands3) (m : Tbl Byte) : Chk :=
  let c := vecCheck [o.dst, o.a, o.b] (decide (o.dst.d.count = 0) && decide (o.b.d.count = 0 ∨ o.a.d.count = 0))
    (o.a.f.arith && o.dst.f.plain && noMix [o.a.f, o.dst.f] && decide (o.b.f = .uint32) && decide (o.b.d.dim0 = 1) &&
      (decide (o.b.d.dim2 = o.a.d.dim2) || decide (o.b.d.dim2 = 1)) &&
      decide (o.dst.d.dim0 = o.a.d.dim0) && decide (o.dst.d.dim1 = o.b.d.dim1) && decide (o.dst.d.dim2 = o.a.d.dim2)) []
  if c = .go ∧ !o.dst.d.rows.all (fun r => decide (gatherIndex o m r.1 r.2 < o.a.d.dim1)) then
    .of [need false .lengthExceeds] .go
  else c

/-- GATHER: row B[i] of A for each i (R204). -/
def execGather (die : Fin 8) (core : Fin 48) (s : State) : Out :=
  .next (s.vecStart die.val core.val 10 (fun t k o => gatherCheck o (t.core k).scratch)
    (fun t k o _ => t.vecRows k o.dst (fun m i1 i2 i => o.a.value m (gatherIndex o m i1 i2) i2 i)))

/-! ROPE (R204). -/

/-- One element of a rotated pair (x, y) with cosine c and sine s: the first, or the second. -/
def ropeElem (second : Bool) (x y c s : Flagged Fp) : Flagged Fp :=
  let (p, g) := Fp.mul x.1 (if second then s.1 else c.1)
  let (q, h) := Fp.mul y.1 (if second then c.1 else s.1)
  let (z, e) := Fp.add p (if second then q else q.neg)
  (z, orAll [x.2, y.2, c.2, s.2, g, h, e])

/-- ROPE: the pairs of A rotated by the angles of B (R204). -/
def execRope (die : Fin 8) (core : Fin 48) (s : State) : Out :=
  .next (s.vecStart die.val core.val 11
    (fun _ _ o => vecCheck [o.dst, o.a, o.b] o.empty
      (sameDims o.dst.d o.a.d && decide (o.a.d.dim0 % 2 = 0) && o.a.f.arith && o.dst.f.plain && decide (o.b.f = .fp32) &&
        decide (o.b.d.dim0 = o.a.d.dim0) && broadcastOk o.a.d o.b.d false && noMix [o.a.f, o.b.f, o.dst.f]) [])
    (fun t k o _ => t.vecRows k o.dst (fun m i1 i2 i =>
      let j := i / 2 * 2
      let cs (x : Nat) : Flagged Fp := o.b.value m (bIdx o.b.d.dim1 i1) (bIdx o.b.d.dim2 i2) x
      ropeElem (decide (i % 2 = 1)) (o.a.value m i1 i2 j) (o.a.value m i1 i2 (j + 1)) (cs j) (cs (j + 1)))))

/-! TREEMASK (R258, R259). -/

/-- The parents of a draft tree table, one per node, where they are integers. -/
def treeParents (o : Operand) (m : Tbl Byte) : List (Option Nat) :=
  (List.range o.d.dim1).map (fun i => f32ToNat? ((o.rowCodes m i 0).getD 1 0))

/-- The tokens of a draft tree table. -/
def treeTokens (o : Operand) (m : Tbl Byte) : List (Option Nat) :=
  (List.range o.d.dim1).map (fun i => f32ToNat? ((o.rowCodes m i 0).getD 0 0))

/-- Node 0's parent is 0, and every later node's parent comes before it (R258). -/
def parentsOk (ps : List (Option Nat)) : Bool :=
  ps.zipIdx.all (fun p => match p.1 with
    | some x => if p.2 = 0 then decide (x = 0) else decide (x < p.2)
    | none => false)

/-- The mask of each node: itself and its ancestors (R259). -/
def treeMasks (ps : List Nat) : List Nat :=
  ps.zipIdx.foldl (fun ms p => ms ++ [(if p.2 = 0 then 0 else ms.getD p.1 0) ||| 2 ^ p.2]) []

/-- Every node but node 0 has a token that is an integer of 0 or more (R258). -/
def tokensOk (ts : List (Option Nat)) : Bool := (ts.drop 1).all Option.isSome

/-- The checks of TREEMASK; no row length bounds its tokens (R259). -/
def treemaskCheck (o : Operands3) (m : Tbl Byte) : Chk :=
  let n := o.a.d.dim1
  let form :=
    if o.dst.f = .uint32 then decide (o.dst.d.dim0 = 2)
    else (decide (o.dst.f = .fp32) || decide (o.dst.f = .bf16)) && decide (o.dst.d.dim0 = n)
  let c := vecCheck [o.dst, o.a] o.empty
    (decide (o.a.f = .fp32) && decide (o.a.d.dim0 = 2) && decide (o.a.d.dim2 = 1) && form && decide (o.dst.d.dim1 = n) &&
      decide (o.dst.d.dim2 = 1)) [need (decide (n ≤ 64)) .lengthExceeds]
  if c = .go ∧ (!parentsOk (treeParents o.a m) || !tokensOk (treeTokens o.a m)) then .of [need false .typeMismatch] .go else c

/-- The code that TREEMASK writes for a mask bit in a format. -/
def maskCode (f : Fmt) (b : Bool) : Nat := if b then 0 else if f = .bf16 then 0xFF80 else 0xFF800000

/-- TREEMASK: the mask of a draft tree, in bit or additive form (R259). -/
def execTreemask (die : Fin 8) (core : Fin 48) (s : State) : Out :=
  .next (s.vecStart die.val core.val 12 (fun t k o => treemaskCheck o (t.core k).scratch) (fun t k o _ =>
    let m := (t.core k).scratch
    let ms := treeMasks ((treeParents o.a m).map (fun p => p.getD 0))
    t.setScratch k (ms.zipIdx.foldl (fun u x =>
      o.dst.putRow u x.2 0
        (if o.dst.f = .uint32 then [x.1 % 2 ^ 32, x.1 / 2 ^ 32]
         else (List.range o.a.d.dim1).map (fun j => maskCode o.dst.f (decide (x.1 / 2 ^ j % 2 = 1))))) m)))

/-- COPY of the vector unit: A unchanged; A and Dst share a format that is not MX (Table 5-9, R203). DESIGN CHOICE (log entry 69): it moves
bytes, reads no operand in the sense of Table 4-7, and sets neither NanInput nor InfInput. -/
def execVectorCopy (die : Fin 8) (core : Fin 48) (s : State) : Out :=
  .next (s.vecStart die.val core.val 13
    (fun _ _ o => vecCheck [o.dst, o.a] o.empty (sameDims o.dst.d o.a.d && decide (o.a.f = o.dst.f) && !o.dst.f.isMx) [])
    (fun t k o _ =>
      let m := (t.core k).scratch
      t.setScratch k (o.dst.d.rows.foldl (fun u r =>
        wrBytes u (o.dst.row r.1 r.2) (rdBytes m (o.a.row r.1 r.2) o.a.rowLen)) m)))

end Sys2Proof.Machine
end

