-- ==== Sys2Proof/Machine/Transfers.lean ====
section
/-! DEFINITION. Transfers (sections 5.8, 6.5, 7.9, 9.8, 11.3 to 11.6): the checks at issue and at the first packet, the
landing of data, flagged stores, atomics, holds by dark regions, and completion. A transfer's data lands whole when
it completes (log entry 25). -/

namespace Sys2Proof.Machine

open Sys2Proof

/-! Checks at issue (R208, Table 5-18). -/

/-- The descriptors' formats go together (R208). -/
def xFormats (l r : Operand) : Bool :=
  let conv (a b : Operand) : Bool := a.f.isKv && (decide (b.f = .bf16) || decide (b.f = .fp32))
  (decide (l.f = r.f) || conv l r || conv r l) && (!l.f.isKv || decide (l.d.space = 3)) && (!r.f.isKv || decide (r.d.space = 3))

/-- The spaces that an operation allows (Table 5-11). -/
def xSpaces (op : Nat) (l r : Operand) : Bool :=
  let cp (n : Nat) : Bool := decide (n = 3) || decide (n = 4) || decide (n = 6)
  match op with
  | 0 | 1 | 2 => decide (l.d.space = 0) && decide (r.d.space ≠ 0)
  | 3 => decide (l.d.space = 0) && decide (r.d.space = 2)
  | 4 => decide (l.d.space = 0) && decide (1 ≤ r.d.space) && decide (r.d.space ≤ 5)
  | _ => cp l.d.space && cp r.d.space

/-- A PUTF's flag descriptor (R443). -/
def flagOk (o : Operand) : Bool :=
  decide (o.f = .uint32) && decide (o.d.dim0 = 1) && decide (o.d.dim1 = 1) && decide (o.d.dim2 = 1) &&
  decide (1 ≤ o.d.space) && decide (o.d.space ≤ 5)

/-- The descriptors and code of an ATOMIC (R458). -/
def atomicOk (aux : Nat) (l r : Operand) : Bool :=
  decide (aux ≤ 0x0D) && decide (l.f = .uint32) && decide (r.f = .uint32) && decide (l.d.dim1 = 1) && decide (l.d.dim2 = 1) &&
  decide (r.d.dim1 = 1) && decide (r.d.dim2 = 1) && decide (l.d.dim0 = atomicWidth aux / 4) && decide (r.d.dim0 = atomicWidth aux / 4)

/-- Size of the space that an operand lies in, where the spec bounds it (R99, R274, R213). -/
def State.spaceEnd (s : State) (x : Orphan) (o : Operand) : Option Nat :=
  match o.d.space with
  | 0 | 1 | 2 => some scratchBytes
  | 3 => some (spaceSize false)
  | 4 => some (spaceSize true)
  | 6 => some ((s.stream x.stream).stateSize * 4096)
  | _ => none

/-- Every element inside the space (Table 5-18): the failing address is the first byte outside. -/
def State.inSpace (s : State) (x : Orphan) (o : Operand) : Option Bad :=
  match s.spaceEnd x o with
  | none => none
  | some n =>
    match o.runs.find? (fun r => decide (n < r.1 + r.2)) with
    | some r => some { cause := Status.lengthExceeds.code, addr := max r.1 n }
    | none => none

/-- The target core of space 0x1 or 0x2 is in service (Table 5-18). -/
def State.targetUp (s : State) (x : Orphan) (o : Operand) : Bool :=
  !(decide (o.d.space = 1) || decide (o.d.space = 2)) || (s.targetDies x o).all (fun d => (s.targetCore x d o).isSome)

/-- A write of bytes 0x000 to 0x07F or 0x0C0 to 0x0FF of the state record (R249, R552). -/
def writesProtected (o : Operand) : Bool :=
  decide (o.d.space = 6) && o.runs.any (fun r => decide (r.2 ≠ 0) &&
    (decide (r.1 < 0x80) || (decide (r.1 < 0x100) && decide (0xC0 < r.1 + r.2))))

/-- The checks of a transfer at issue, in the order of Table 5-18. -/
def State.xferChecks (s : State) (x : Orphan) : Chk :=
  let op := iOp x.q.word
  let l := s.xLocal x
  let r := s.xRemote x
  let fl := s.xFlag x
  let used := [l, r] ++ (if op = 2 then [fl] else [])
  let ends := if op = 4 then [l, r] else used
  if !xSpaces op l r then .of [need false .typeMismatch] .go
  else if l.d.count = 0 ∧ r.d.count = 0 then .once
  else
    .of ([need (sameDims l.d r.d && (if op = 4 then atomicOk (xAux x) l r else xFormats l r)) .typeMismatch,
          need (op ≠ 2 || flagOk fl) .typeMismatch] ++
      used.map (fun o => need o.aligned .badAlign o.eb) ++ ends.map (fun o => s.inSpace x o) ++
      [need ((used.all (s.targetUp x))) .notReady, need (!writesProtected (s.xDst x)) .accessDenied]) .go

/-! Arbitration inside the die (R121 to R125). -/

/-- The source of R121 that a transfer belongs to: a transfer queue of a core. -/
def xSource (x : Orphan) : Nat := coreKey x.die x.core * 4 + bits x.q.word 34 33

/-- The requests of a transfer at the ports of its own die's crossbar and, through its die port, of another die's (R121). An MCAST
writes its own copy through its own die port too (R374; `via`). -/
def State.operandReqs (s : State) (x : Orphan) (o : Operand) (tr : List (Nat × Nat)) (via : Bool) : List PortReq :=
  let own (p : Nat) : PortReq := { die := x.die, target := p, input := x.core, source := xSource x }
  let at_ (d p : Nat) : List PortReq :=
    if d = x.die ∧ !via then [own p] else [own 54, { die := d, target := p, input := 54, source := xSource x }]
  match o.d.space with
  | 1 | 2 => (s.targetDies x o).flatMap (fun d => match s.targetCore x d o with | some k => at_ d (k % 64) | none => [])
  | 3 => (s.unitsNow tr x.die).flatMap (fun u => at_ (u / 2) (52 + u % 2))
  | 6 => at_ (s.stream x.stream).home (52 + (s.stream x.stream).recUnit o.d.working % 2)
  | 0 => []
  | _ => [own 54]

/-- All requests of a transfer. -/
def State.xferReqs (s : State) (x : Orphan) : List PortReq :=
  s.operandReqs x (s.xSrc x) x.q.src false ++ s.operandReqs x (s.xDst x) x.q.dst (iOp x.q.word == 3) ++
  (s.xFlags x).flatMap (fun o => s.operandReqs x o (s.peekEntries x.die o) false)

/-- Every transfer that has started and not completed, those of discarded steps among them. -/
def State.inFlight (s : State) : List Orphan :=
  s.orphans ++ s.runs.flatMap (fun e =>
    match s.grantOf e.1 with
    | some (g, r) => [8, 9, 10, 11].flatMap (fun u => (r.active u).map (xferOf g e.1))
    | none => [])

/-- The weights of a die's arbiters from the requests pending now: for each target port and input, its distinct sources, those of the
die port up to 64 (R122, R123). The staging engine of the hub is one remote source (R429). -/
def State.portWeights (s : State) (die : Nat) : Tbl Nat :=
  let reqs := (s.inFlight.flatMap s.xferReqs ++ s.stageReqs s.staging).filter (fun r => decide (r.die = die))
  (distinct (reqs.map PortReq.key)).foldl (fun t k =>
    let n := (distinct ((reqs.filter (fun r => decide (r.key = k))).map PortReq.source)).length
    Tbl.put 0 t k (if k % 64 = 54 then min 64 n else n)) []

/-- A source whose first request arrives between two updates: its input takes part with weight 1 where it had none (R123; log entry
62). -/
def State.joinArbiters (s : State) (x : Orphan) : State := s.joinAll (s.xferReqs x)

/-- Sources of a die with a transfer pending toward the Ground whose packets leave its site on a path that the predicate takes: transfer
queues with such a transfer, queued or in flight (R121, R125). -/
def State.groundSources (s : State) (die : Nat) (p : Nat × Nat → Bool) : Nat :=
  let queued := s.runs.flatMap (fun e =>
    match s.grantOf e.1 with
    | some (g, r) => [8, 9, 10, 11].flatMap (fun u => (r.queue u).map (fun q => s.peek (xferOf g e.1 q)))
    | none => [])
  (distinct (((s.inFlight ++ queued).filter (fun x => decide (x.die = die) &&
    (s.xferPaths x).any (fun y => decide (y.1 = siteOfDie die) && p y))).map xSource)).length

/-! The first packet (Table 5-18, R284, R379, R472, R483). -/

/-- The Dyke admits a core access: its whole extent lies in one window that grants the direction (R379). -/
def State.dykeAdmits (s : State) (guest : Nat) (write : Bool) (runs : List (Nat × Nat)) : Bool :=
  (List.range 16).any (fun w =>
    let base := s.reg (okey (0x6300 + guest) (2 * w + 1))
    let lim := s.reg (okey (0x6300 + guest) (2 * w + 2))
    let len := bits lim 47 0
    decide (len ≠ 0) && (if write then decide (bits lim 62 62 = 1) else decide (bits lim 63 63 = 1)) &&
      runs.all (fun r => decide (base ≤ r.1) && decide (r.1 + r.2 ≤ base + len)))

/-- Admit one operand of a transfer: translated entries, or the cause and address of the failure. The Dyke and the fabric endpoint
judge the packets that reach them, and so none of a transfer that a dark region holds (R380, R383, R483). -/
def State.access (s : State) (x : Orphan) (o : Operand) (write atomic : Bool) :
    State × Except (Status × Nat) (List (Nat × Nat)) :=
  match o.d.space with
  | 3 =>
    match s.translate x.die false write .core (codecOf o.f) (granules false o.runs) with
    | (t, .ok tr) =>
      if write && !atomic && t.fenced t.stamp o.runs then (t.bump (okey 0x7030 8), .error (.fenced, o.eb)) else (t, .ok tr)
    | e => e
  | 4 => s.translate x.die true write .core (codecOf o.f) (granules true o.runs)
  | 5 => if s.xferDark x || s.reachable (bits o.d.target 11 0) then (s, .ok []) else (s, .error (.notReady, o.eb))
  | 7 =>
    if s.xferDark x || s.dykeAdmits (bits o.d.target 0 0) write o.runs then (s, .ok [])
    else (s.bump (okey 0x6303 3), .error (.accessDenied, o.eb))
  | _ => (s, .ok [])

/-- An admitted write of an operand sets Dirty where it goes to a virtual space (R283). -/
def State.dirtyOperand (s : State) (x : Orphan) (o : Operand) : State :=
  if o.d.space = 3 ∨ o.d.space = 4 then s.dirtyAll x.die (granules (decide (o.d.space = 4)) o.runs) else s

/-- Can the flag of a PUTF not be sent at all, since no port reaches its endpoint (R483)? -/
def State.flagUnreached (s : State) (x : Orphan) : Bool :=
  (s.xFlags x).any (fun o => decide (o.d.space = 5) && !(s.xferDark x || s.reachable (bits o.d.target 11 0)))

/-- Admit both operands of a transfer, and the way of its flag. -/
def State.accessBoth (s : State) (x : Orphan) : State × Except (Status × Nat) (List (Nat × Nat) × List (Nat × Nat)) :=
  let at_ := decide (iOp x.q.word = 4)
  if s.flagUnreached x then (s, .error (.notReady, (s.xFlag x).eb)) else
  match s.access x (s.xSrc x) false at_ with
  | (t, .error e) => (t, .error e)
  | (t, .ok a) =>
    match t.access x (t.xDst x) true at_ with
    | (u, .error e) => (u, .error e)
    | (u, .ok b) => (u.dirtyOperand x (u.xDst x), .ok (a, b))

/-! Data. -/

/-- Split bytes by run lengths. -/
def splitBy : List Nat → List Byte → List (List Byte)
  | [], _ => []
  | n :: r, b => b.take n :: splitBy r (b.drop n)

/-- The data of the answered requests, in the order of their Sequences. -/
def State.answersOf (s : State) (source : Nat) (seqs : List Nat) : List Byte :=
  seqs.flatMap (fun q => match s.request source q with | some r => (match r.answer with | some a => a.2.take r.size | none => []) | none => [])

/-- Bytes of a run of the state record: the protected record bytes read as they stood when the step started (R213,
R249). -/
def streamRead (x : Stream) (o : Operand) (a n : Nat) : List Byte :=
  let m := if o.d.working then x.working else x.committed
  (List.range n).map (fun i => if a + i < 0x40 then x.stepHead.getD (a + i) 0 else rdByte m (a + i))

/-- Read the runs of an operand; `ext` holds what an endpoint or a guest has sent. -/
def State.readRuns (s : State) (x : Orphan) (o : Operand) (tr : List (Nat × Nat)) (ext : List Byte) : List (List Byte) :=
  match o.d.space with
  | 0 => o.runs.map (fun r => rdBytes (s.core (coreKey x.die x.core)).scratch r.1 r.2)
  | 1 | 2 =>
    let k := ((s.targetCore x (bits o.d.target 10 8) o)).getD 0
    o.runs.map (fun r => rdBytes (s.core k).scratch r.1 r.2)
  | 3 => o.runs.map (fun r => s.virtRead tr x.die false r.1 r.2)
  | 4 => o.runs.map (fun r => s.virtRead tr x.die true r.1 r.2)
  | 6 => o.runs.map (fun r => streamRead (s.stream x.stream) o r.1 r.2)
  | _ => splitBy (o.runs.map (·.2)) ext

/-- Write bytes at an address of an operand's space; a write to an endpoint or a guest leaves the module. -/
def State.writeRun (s : State) (x : Orphan) (o : Operand) (tr : List (Nat × Nat)) (a : Nat) (bs : List Byte) : State :=
  match o.d.space with
  | 0 =>
    let k := coreKey x.die x.core
    s.setScratch k (wrBytes (s.core k).scratch a bs)
  | 1 | 2 => (s.targetDies x o).foldl (fun t d =>
      match t.targetCore x d o with
      | some k => t.setScratch k (wrBytes (t.core k).scratch a bs)
      | none => t) s
  | 3 => s.virtWrite tr x.die false a bs
  | 4 => s.virtWrite tr x.die true a bs
  | 6 =>
    let y := s.stream x.stream
    (s.recWrote y o.d.working a bs.length).setStream x.stream
      (if o.d.working then { y with working := wrBytes y.working a bs } else { y with committed := wrBytes y.committed a bs })
  | _ => s

/-- Decode the KV units of a row into FP32 or BF16 codes (R168, Table 4-5). -/
def kvDecode (kv4 : Bool) (n : Nat) (f : Fmt) (row : List Byte) : List (Flagged Nat) :=
  let unit := if kv4 then 36 else 68
  (List.range n).map (fun i =>
    let b := (row.drop (i / 64 * unit)).take unit
    let j := i % 64
    let e := if kv4 then ((b.getD (j / 2) 0).toNat / 16 ^ (j % 2)) % 16 else (b.getD j 0).toNat
    let sc := (b.getD ((if kv4 then 32 else 64) + j / 16) 0).toNat
    let (v, g) := fromKv kv4 sc e
    let (c, h) := if f = .bf16 then roundFp fmtBF16 false v else toF32 v
    (c, orFlags g h))

/-- Encode a row of values into KV units (R165 to R167, Table 4-5). -/
def kvEncode (kv4 : Bool) (xs : List Fp) : List Byte × Nat :=
  let units := chunks 64 (xs.length + 1) xs
  let enc := units.map (fun u =>
    let bs := (chunks 16 5 u).map (toKvBlock kv4)
    let codes := bs.flatMap (fun b => b.2.1)
    (leBytes (if kv4 then 32 else 64) (packCodes (if kv4 then 4 else 8) codes) ++ bs.map (fun b => BitVec.ofNat 8 b.1),
     orAll (bs.map (fun b => b.2.2))))
  (enc.flatMap (·.1), orAll (enc.map (·.2)))

/-- Element codes of a row of bytes. -/
def codesOf (f : Fmt) (n : Nat) (row : List Byte) : List Nat :=
  let w := f.bits / 8
  (List.range n).map (fun i => leNat ((row.drop (i * w)).take w))

/-- The runs to write: the source's bytes as they are, or converted by the KV codec, with the codec's flags (R170, R208,
R298). -/
def moveRuns (src dst : Operand) (data : List (List Byte)) : List ((Nat × Nat) × List Byte) × Nat :=
  if src.f = dst.f then (dst.runs.zip data, 0)
  else if src.f.isKv then
    let rows := data.map (fun r => unzipFlags (kvDecode (decide (src.f = .kv4)) src.d.dim0 dst.f r))
    (dst.runs.zip (rows.map (fun r => leBytes dst.rowLen (packCodes dst.f.bits r.1))), orAll (rows.map (·.2)))
  else
    let rows := data.map (fun r => kvEncode (decide (dst.f = .kv4)) ((codesOf src.f src.d.dim0 r).map src.f.decode))
    (dst.runs.zip (rows.map (·.1)), orAll (rows.map (·.2)))

/-- The poisoned line, or the unit out of service, that stops an operand's access, if any (R267, R270, R312). -/
def State.poisonAt (s : State) (x : Orphan) (o : Operand) (tr : List (Nat × Nat)) (write : Bool) : Option Nat :=
  if o.d.space = 3 ∨ o.d.space = 4 then
    let tier := decide (o.d.space = 4)
    if write then s.writeBad tr x.die tier o.runs else s.readBad tr x.die tier o.runs
  else if o.d.space = 6 then
    (o.runs.find? (fun r => if write then s.recWriteBad (s.stream x.stream) o.d.working r.1 r.2
      else s.recReadBad (s.stream x.stream) o.d.working r.1 r.2)).map (·.1)
  else none

/-- An access to the stream's record ends the self-refresh of its polder (R303). -/
def State.wakeRec (s : State) (x : Orphan) (o : Operand) : State :=
  if o.d.space = 6 then s.touch ((s.stream x.stream).recUnit o.d.working) else s

/-- Do writes of the transfer, its flag among them, wait for a migration's switch (R299, R300)? -/
def State.xferWaits (s : State) (x : Orphan) : Bool :=
  let held (o : Operand) (tr : List (Nat × Nat)) : Bool :=
    (decide (o.d.space = 3) && s.writesHeld tr x.die false o.runs) || (decide (o.d.space = 4) && s.writesHeld tr x.die true o.runs)
  held (s.xDst x) x.q.dst || (s.xFlags x).any (fun o => held o (s.peekEntries x.die o))

/-! Compressed rows (R371 to R373, R435). -/

/-- The level of a bride: the lower of those that its two ends report (R371, R373). -/
def State.levelOf (s : State) (p : Nat × Nat) : Nat := min (s.brideLevel p.1) (s.brideLevel p.2)

/-- The 64 eight-byte words of a block. -/
def blockWords (b : List Byte) : List Nat := (List.range 64).map (fun i => leNat ((b.drop (8 * i)).take 8))

/-- Compressed-row form: the mask, bit i for word i nonzero, and the nonzero words in ascending order (R372). -/
def compressRow (b : List Byte) : Nat × List Nat :=
  (((blockWords b).zipIdx.map (fun w => if w.1 = 0 then 0 else 2 ^ w.2)).sum, (blockWords b).filter (fun w => decide (w ≠ 0)))

/-- Expansion at the destination endpoint: word i is the next nonzero word where bit i is set, else 0 (R372). -/
def expandWords (mask : Nat) : List Nat → List Nat → List Nat
  | [], _ => []
  | i :: r, ws =>
    if mask.testBit i then ws.headD 0 :: expandWords mask r (ws.drop 1) else 0 :: expandWords mask r ws

/-- The block that a compressed row stands for. -/
def expandRow (c : Nat × List Nat) : List Byte := (expandWords c.1 (List.range 64) c.2).flatMap (leBytes 8)

/-- May a packet of source address a and destination address b go in compressed-row form: 8 lines, aligned in the source space and at the
packet's Address, which is the one or the other, with 8 zero words or more (R372, R435, R437)? -/
def mayCompress (level a b : Nat) (bs : List Byte) : Bool :=
  decide (level = 2) && decide (a % 512 = 0) && decide (b % 512 = 0) && decide (bs.length = 512) &&
  decide (8 ≤ ((blockWords bs).filter (fun w => decide (w = 0))).length)

/-- A packet's payload as it arrives over a bride. -/
def carryBlock (level a b : Nat) (bs : List Byte) : List Byte := if mayCompress level a b bs then expandRow (compressRow bs) else bs

/-- The packets of a run from source address a to destination address b, as they arrive. -/
def carryBlocks (level : Nat) : Nat → Nat → Nat → List Byte → List Byte
  | 0, _, _, l => l
  | n + 1, a, b, l =>
    let k := 512 - b % 512
    carryBlock level a b (l.take k) ++ carryBlocks level n (a + k) (b + k) (l.drop k)

/-- The payload of a transfer as its destination receives it over the brides of its paths; packets of the external fabric are never
compressed (R372, R435). -/
def State.carried (s : State) (x : Orphan) (src dst : Operand) (data : List (List Byte)) : List (List Byte) :=
  if (s.xRemote x).d.space = 5 then data
  else
    let ends := if src.f = dst.f then src.runs.zip dst.runs else src.runs.zip src.runs
    (s.xferPaths x).foldl (fun d p =>
      (ends.zip d).map (fun r => carryBlocks (s.levelOf p) (r.2.length / 512 + 2) r.1.1.1 r.1.2.1 r.2)) data

/-! Requests (R430, R437, R443, R451). -/

/-- The pieces of a row: consecutive lines that cross no 512-byte boundary (R437). -/
def packetPieces (runs : List (Nat × Nat)) : List (Nat × Nat) := runs.flatMap (fun r => splitRun 9 (r.2 / 512 + 2) r.1 r.2)

/-- Key of the FlagPhase of a source toward a destination. -/
def phaseKey (source dest : Nat) : Nat := source * 2 ^ 24 + dest

/-- FlagPhase of a source toward a destination (R444). -/
def State.phase (s : State) (source dest : Nat) : Nat := Tbl.get 0 s.phases (phaseKey source dest)

/-- Advance it modulo 4. -/
def State.nextPhase (s : State) (source dest : Nat) : State :=
  { s with phases := Tbl.put 0 s.phases (phaseKey source dest) ((s.phase source dest + 1) % 4) }

/-- A request to another endpoint: its DestId is that endpoint's fabric unit (log entry 23). -/
def Request.outside (r : Request) : Bool := decide (r.dest = fabricDest (endpointOf r.dest))

/-- Does an MCAST travel as multicast packets: along its own row, both laser modules supplying (R374, R488, Table 9-6)? -/
def State.multicasts (s : State) (x : Orphan) : Bool :=
  decide (iOp x.q.word = 3) && decide (xAux x % 2 = 0) && (mcastDies (s.xRemote x) false).contains x.die && s.bothLasers

/-- The DestIds of the packets that carry the bytes at an address of an operand over the Ground or to another endpoint: the die port of the
stack whose scratch it is, of a multicast the first remote member's and of an MCAST without one each remote member's; the controller that
holds the frame; the controller of the state record's polder P2k; the endpoint; the guest. None inside the own stack (Table 11-1, R374,
R488; log entry 23). -/
def State.destsAt (s : State) (x : Orphan) (o : Operand) (tr : List (Nat × Nat)) (a : Nat) : List Nat :=
  let own (low : Nat) : Nat := idOf s.endpoint low
  let polder (u : Nat) : Nat := own (siteOfDie (u / 2) * 256 + 0xF1 + u % 2)
  let remote (d : Nat) : Bool := decide (endpointOf d ≠ s.endpoint) || decide (siteOfId d ≠ siteOfDie x.die)
  match o.d.space with
  | 1 | 2 =>
    let l := ((s.targetDies x o).map (fun d => own (siteOfDie d * 256 + 0xF3))).filter remote
    if s.multicasts x then l.take 1 else l
  | 3 => [polder (s.place tr x.die false a).1].filter remote
  | 4 => [own (siteH * 256 + ((s.place tr x.die true a).1 - 16))]
  | 5 => [fabricDest (bits o.d.target 11 0)]
  | 6 => [polder ((s.stream x.stream).recUnit o.d.working)].filter remote
  | 7 => [own (siteG (bits o.d.target 0 0) * 256)]
  | _ => []

/-- The space that a packet names: the polder at another endpoint, a core's scratch as remote scratch (log entry 23). -/
def spaceCode (n : Nat) : Nat := if n = 5 then 3 else if n = 1 then 2 else n

/-- The pieces of a source run by the rows and 512-byte boundaries of its destination run; of a row that the KV codec converts, by its own
(R437; log entry 23). -/
def readCuts (src dst : Operand) : List (Nat × Nat) :=
  if src.f = dst.f then (src.runs.zip dst.runs).flatMap (fun r => (packetPieces [r.2]).map (fun p => (r.1.1 + (p.1 - r.2.1), p.2)))
  else packetPieces src.runs

/-- Send one READ per piece of the source; a piece whose lines the line cache holds is answered by the hub (R437, R476). -/
def State.sendReads (s : State) (x : Orphan) : State × List Nat :=
  let o := s.xSrc x
  let src := s.xUnit x
  let ep := bits o.d.target 11 0
  (readCuts o (s.xDst x)).foldl (fun (st : State × List Nat) p =>
    match (st.1.destsAt x o x.q.src p.1).head? with
    | none => st
    | some d =>
      let hit := if o.d.space = 5 ∧ st.1.cachedRange ep p.1 then st.1.cacheHit ep p.1 p.2 else none
      (st.1.send { source := src, seq := 0, dest := d, opcode := 1, space := spaceCode o.d.space, address := p.1, size := p.2,
                   fills := decide (o.d.space = 5) && st.1.cachedRange ep p.1, answer := hit.map (fun b => (0, b)) },
        st.2 ++ [st.1.nextSeq src])) (s, [])

/-- Cut a run's bytes into packet pieces. -/
def cutPieces (runs : List ((Nat × Nat) × List Byte)) : List ((Nat × Nat) × List Byte) :=
  runs.flatMap (fun r => (packetPieces [r.1]).map (fun p => (p, (r.2.drop (p.1 - r.1.1)).take p.2)))

/-- The WRITE packets of a transfer: DestId, piece and bytes (R437). -/
def State.writePackets (s : State) (x : Orphan) : List (Nat × (Nat × Nat) × List Byte) :=
  (cutPieces (moveRuns (s.xSrc x) (s.xDst x) (s.readRuns x (s.xSrc x) x.q.src [])).1).flatMap (fun p =>
    (s.destsAt x (s.xDst x) x.q.dst p.1.1).map (fun d => (d, p.1, p.2)))

/-- DestId of a PUTF's flag (R444); 0 of another transfer. -/
def State.flagDest (s : State) (x : Orphan) : Nat := if iOp x.q.word = 2 then ((s.onceDests x).head?).getD 0 else 0

/-- How many packets of a PUTF are counted stores: those to the flag's DestId, at most the last 1,024 of them (R444). -/
def State.countedStores (s : State) (x : Orphan) : Nat :=
  if iOp x.q.word = 2 then min 1024 ((s.writePackets x).filter (fun p => decide (p.1 = s.flagDest x))).length else 0

/-- Send the WRITEs, the last 1,024 to a PUTF's flag's DestId counted, with StoreIndex from 0 upward (R444). -/
def State.sendWrites (s : State) (x : Orphan) : State × List Nat :=
  let src := s.xUnit x
  let fd := s.flagDest x
  let counts (d : Nat) : Bool := decide (iOp x.q.word = 2) && decide (d = fd)
  let ps := s.writePackets x
  let skip := (ps.filter (fun p => counts p.1)).length - 1024
  let step (st : (State × List Nat) × Nat) (p : Nat × (Nat × Nat) × List Byte) : (State × List Nat) × Nat :=
    let t := st.1.1.uncache (endpointOf p.1) p.2.1.1 p.2.1.2
    let c := counts p.1 && decide (skip ≤ st.2)
    ((t.send { source := src, seq := 0, dest := p.1, opcode := 2, multicast := s.multicasts x, space := spaceCode (s.xDst x).d.space,
               address := p.2.1.1, size := p.2.1.2, payload := p.2.2, phase := if c then x.q.phase else 0, counted := c,
               storeIndex := if c then st.2 - skip else 0 }, st.1.2 ++ [t.nextSeq src]),
      if counts p.1 then st.2 + 1 else st.2)
  (ps.foldl step ((s, []), 0)).1

/-- The payload of an atomic request (R459). -/
def atomicPayload (line : List Byte) : List Byte := line.take 16 ++ List.replicate 48 (0 : Byte)

/-- Send an atomic's request, unless its word lies in the own stack. -/
def State.sendAtomic (s : State) (x : Orphan) : State × List Nat :=
  let r := s.xRemote x
  match (s.destsAt x r x.q.dst r.eb).head? with
  | none => (s, [])
  | some d =>
    let t := s.uncache (endpointOf d) r.eb 8
    (t.send { source := s.xUnit x, seq := 0, dest := d, opcode := 4, space := spaceCode r.d.space, address := r.eb, size := 64,
              payload := atomicPayload (rdBytes (s.core (coreKey x.die x.core)).scratch (s.xLocal x).eb 64), aux := xAux x },
      [t.nextSeq (s.xUnit x)])

/-- Is a PUTF's flag an external one? -/
def State.flagOutside (s : State) (x : Orphan) : Bool := decide (iOp x.q.word = 2) && decide ((s.xFlag x).d.space = 5)

/-- Send the FLAG request of a PUTF (R443 to R445). -/
def State.sendFlag (s : State) (x : Orphan) : State × Nat :=
  let o := s.xFlag x
  let src := s.xUnit x
  let d := s.flagDest x
  let t := s.uncache (endpointOf d) o.eb 4
  ((t.send { source := src, seq := 0, dest := d, opcode := 3, space := spaceCode o.d.space, address := o.eb, size := 4,
             phase := x.q.phase, storeCount := s.countedStores x }).noteOnce x, t.nextSeq src)

/-- Does the flag of a PUTF to another endpoint leave now: its data goes out to an endpoint too, and every packet of it that is not a
counted store has been acknowledged (R445)? -/
def State.flagDue (s : State) (x : Orphan) : Bool :=
  s.flagOutside x && !x.q.landed && !x.q.held && decide ((s.xRemote x).d.space = 5) &&
  x.q.awaits.all (fun n => match s.request (s.xUnit x) n with
    | some r => r.counted || (match r.answer with | some a => decide (a.1 = 0) | none => false)
    | none => true)

/-- Send the requests of a transfer that leave its stack; the awaited Sequences, a flag's that travels with its counted stores among them
(R430, R445). -/
def State.sendXfer (s : State) (x : Orphan) : State × List Nat :=
  match iOp x.q.word with
  | 0 => s.sendReads x
  | 4 => s.sendAtomic x
  | 5 =>
    let (t, l) := s.sendReads x
    let (u, m) := t.sendWrites x
    (u, l ++ m)
  | _ => s.sendWrites x

/-! Start. -/

/-- Change the started instruction at a place of a unit of a core. -/
def State.amend (s : State) (k u pos : Nat) (f : QInstr → QInstr) : State :=
  match s.run k with
  | some r => s.setRun k (some (r.setActive u (modifyAt (r.active u) pos f)))
  | none => s

/-- The place of the transfer that a queue has started last. -/
def State.newest (s : State) (k u : Nat) : Nat := match s.run k with | some r => (r.active u).length - 1 | none => 0

/-- Record a hold (R211, Table 5-17, Table 9-12). -/
def State.countHold (s : State) : State := (s.bump (okey 0x4311 2)).bump (okey 0x6030 7)

/-- FlagPhase of a PUTF, taken at its start and advanced (R444); 0 of another transfer. -/
def State.takePhase (s : State) (x : Orphan) : State × Nat :=
  if iOp x.q.word = 2 then (s.nextPhase (s.xUnit x) (s.flagDest x), s.phase (s.xUnit x) (s.flagDest x)) else (s, 0)

/-- Start a transfer: translation and the other checks at the first packet, the hold of R211, and its requests, which a dark path keeps
back until the resumption (R383, R385). Its requests join the arbiters that they pass (R123), and its bytes, atomic and flag count toward
the limits (R381, R462). -/
def State.xferGo (s : State) (k : Nat) (g : Grant) (q : QInstr) (u : Nat) : State :=
  let x := xferOf g k q
  match s.accessBoth x with
  | (t, .error e) => t.coreFault k g u q.idx e.1.code e.2
  | (t, .ok (a, b)) =>
    let x0 : Orphan := { x with q := { q with src := a, dst := b } }
    let (tp, ph) := t.takePhase x0
    let fenced := decide (iOp q.word = 4) && decide ((t.xRemote x).d.space = 3) && t.fenced t.stamp (t.xRemote x).runs
    let q1 : QInstr := { q with
      src := a, dst := b, epoch := t.epoch, phase := ph, claim := t.stamp, fenced := fenced, checked := t.hub.raises }
    let x1 : Orphan := { x with q := q1 }
    let dark := tp.xferDark x1
    let t0 := tp.traceOpen 2 (siteOfDie g.die) 1 (some (4 * t.numberOf g.die (k % 64) + (u - 8))) none none
    let t1 := if dark then t0.countHold.traceOpen 2 (siteOfDie g.die) 3 (some (4 * t.numberOf g.die (k % 64) + (u - 8))) none none else t0
    let (t2, seqs) := if dark then (t1, []) else ((if iOp q.word = 4 then t1.noteOnce x1 else t1).dykeTakes x1).sendXfer x1
    let row := decide (iOp q.word = 3) && decide (xAux x % 2 = 0) && (mcastDies (s.xRemote x) false).contains x.die
    let t3 := if row && !t2.bothLasers then t2.bump (okey 0x6030 8) else t2
    let q2 : QInstr := { q1 with held := dark, awaits := seqs }
    let due := !dark && t3.flagDue { x with q := q2 }
    let (t4, fl) := if due then (let f := t3.sendFlag x1; (f.1, [f.2])) else (t3, [])
    (t4.amend k u (t4.newest k u) (fun _ => { q2 with landed := due, awaits := seqs ++ fl })).joinArbiters x1

/-- Every started transfer: core, queue and place. -/
def State.startedXfers (s : State) : List (Nat × Nat × Nat) :=
  s.runs.flatMap (fun e => match e.2 with
    | some r => [8, 9, 10, 11].flatMap (fun u => (List.range (r.active u).length).map (fun i => (e.1, u, i)))
    | none => [])

/-- A source sends the flags of its PUTFs that are due (R445). -/
def State.flagsDue (s : State) (source : Nat) : State :=
  s.startedXfers.foldl (fun t e =>
    match t.grantOf e.1 with
    | none => t
    | some (g, r) =>
      match (r.active e.2.1)[e.2.2]? with
      | none => t
      | some q =>
        let x := xferOf g e.1 q
        if t.xUnit x = source ∧ t.flagDue x then
          let (u, seq) := t.sendFlag x
          u.amend e.1 e.2.1 e.2.2 (fun y => { y with landed := true, awaits := y.awaits ++ [seq] })
        else t) s

/-- Hold a started transfer whose path is dark for its holders (R211). -/
def State.holdOne (s : State) (k u pos : Nat) : State :=
  match s.grantOf k with
  | none => s
  | some (g, r) =>
    match (r.active u)[pos]? with
    | none => s
    | some q =>
      if q.held || !s.xferDark (xferOf g k q) then s
      else ((s.amend k u pos (fun y => { y with held := true })).countHold).traceOpen 2 (siteOfDie g.die) 3 none none none

/-- Resend a held transfer once every region on its path is up (R211, R385): the Dyke and the fabric endpoint judge its packets as
they come (R380, R483); requests that never left are sent, and unanswered ones sent again. -/
def State.resumeOne (s : State) (k u pos : Nat) : State :=
  match s.grantOf k with
  | none => s
  | some (g, r) =>
    match (r.active u)[pos]? with
    | none => s
    | some q =>
      let x := xferOf g k q
      let far := s.xRemote x
      if !q.held || !s.xferUp x then s
      else
        match (if far.d.space = 5 ∨ far.d.space = 7 then s.access x far (!xIsGet x) (decide (iOp q.word = 4)) else (s, .ok [])) with
        | (t, .error e) => t.coreFault k g u q.idx e.1.code e.2
        | (t, .ok _) =>
          if t.flagUnreached x then t.coreFault k g u q.idx Status.notReady.code (t.xFlag x).eb else
          let t0 := if iOp q.word = 4 then t.noteOnce x else t
          let (t1, seqs) := if q.awaits = [] then (t0.dykeTakes x).sendXfer x else ((t0.dykeTakes x).resendAll (t0.xUnit x) q.awaits, q.awaits)
          ((t1.amend k u pos (fun y => { y with held := false, awaits := seqs })).flagsDue (t1.xUnit x)).traceOpen 2 (siteOfDie g.die) 4 none none none

/-- Hold every started transfer whose path is dark for its holders (R211, R383). -/
def State.holdTransfers (s : State) : State := s.startedXfers.foldl (fun t e => t.holdOne e.1 e.2.1 e.2.2) s

/-- Resend the held transfers whose paths have no dark region any more (R385). -/
def State.resumeTransfers (s : State) : State := s.startedXfers.foldl (fun t e => t.resumeOne e.1 e.2.1 e.2.2) s

/-- A transfer at the head of a queue that the rate limit of a guest makes wait is counted once, by its bytes (R381, `0x6303:04`). -/
def State.countDelay (s : State) (die core u : Nat) : State :=
  match s.running die core with
  | none => s
  | some (k, g, r) =>
    match r.queue u with
    | [] => s
    | q :: rest =>
      if q.held || !s.dykeWaits (xferOf g k q) then s
      else (s.setRun k (some (r.setQueue u ({ q with held := true } :: rest)))).addReg (okey 0x6303 4) (s.xRemote (xferOf g k q)).bytes

/-- Start the transfer at the head of a queue. -/
def State.xferStart (s : State) (die core queue op : Nat) : State :=
  let u := 8 + queue
  let s1 := s.countDelay die core u
  s1.startUnit die core u 6 op
    (fun k g r q => if s1.startWaits r g k u q then .wait else s1.xferChecks (xferOf g k q))
    (fun k g q t => t.xferGo k g q u)

/-- GET: remote to own scratch; `errs` are errors that its lines show (R207, R209, R267, R268). -/
def execGet (die : Fin 8) (core : Fin 48) (queue : Fin 4) (errs : List MemError) (s : State) : Out :=
  .next ((s.xferStart die.val core.val queue.val 0).memErrors errs)
/-- PUT: own scratch to remote; `errs` are errors in lines that it reads to write a part of them (R207, R209, R311). -/
def execPut (die : Fin 8) (core : Fin 48) (queue : Fin 4) (errs : List MemError) (s : State) : Out :=
  .next ((s.xferStart die.val core.val queue.val 1).memErrors errs)
/-- PUTF: PUT followed by a flagged store (R207, R445). -/
def execPutf (die : Fin 8) (core : Fin 48) (queue : Fin 4) (s : State) : Out := .next (s.xferStart die.val core.val queue.val 2)
/-- MCAST: PUT to every compute die of a row or column (R374). -/
def execMcast (die : Fin 8) (core : Fin 48) (queue : Fin 4) (s : State) : Out := .next (s.xferStart die.val core.val queue.val 3)
/-- ATOMIC: one remote atomic (R212, R458). -/
def execAtomic (die : Fin 8) (core : Fin 48) (queue : Fin 4) (s : State) : Out := .next (s.xferStart die.val core.val queue.val 4)
/-- COPY: by the own die's polder controllers (R207, R298). -/
def execCopy (die : Fin 8) (core : Fin 48) (queue : Fin 4) (s : State) : Out := .next (s.xferStart die.val core.val queue.val 5)

/-- What the arrival of a transfer's data does: it fails, with the flags of what its codec has done before, or is done. -/
inductive Landed where
  | fail (s : State) (cause addr : Nat) (flags : Nat := 0)
  | done (s : State) (flags : Nat)

/-- Land the data of a transfer other than an ATOMIC. -/
def State.landData (s : State) (x : Orphan) (ext : List Byte) : Landed :=
  let src := s.xSrc x
  let dst := s.xDst x
  match s.poisonAt x src x.q.src false with
  | some a => .fail s Status.uncorrected.code a
  | none =>
    match s.poisonAt x dst x.q.dst true with
    | some a => .fail s Status.uncorrected.code a
    | none =>
      let (ws, fl) := moveRuns src dst (s.carried x src dst (s.readRuns x src x.q.src ext))
      let s1 := (((((s.countForwarded x.q.src x.die).countForwarded x.q.dst x.die).wake x.q.src x.die).wake x.q.dst x.die).wakeRec x src).wakeRec x dst
      .done (ws.foldl (fun t w => t.writeRun x dst x.q.dst w.1.1 w.2) s1) fl

/-- An atomic or a flag of the module's own that crossed the Ground enters the reply cache of the unit that applied it, under its SourceId
and Sequence (R461). -/
def State.keepOwn (s : State) (x : Orphan) (seqs : List Nat) (st : Nat) (line : List Byte) : State :=
  seqs.foldl (fun t n =>
    match t.request (t.xUnit x) n with
    | some r =>
      if r.opcode = 3 ∨ r.opcode = 4 then
        t.keepReply { site := siteOfId r.dest, source := idOf t.endpoint r.source, seq := n, status := st, line := line, tick := t.tb.count }
      else t
    | none => t) s

/-- The read-modify-write of an atomic on this module's own memory: the old value, or the cause that refuses it (R212,
R458 to R460). -/
def State.landAtomic (s : State) (x : Orphan) : Landed × Nat × Nat :=
  let r := s.xRemote x
  let l := s.xLocal x
  let op := xAux x
  let w := atomicWidth op
  let m := (s.core (coreKey x.die x.core)).scratch
  if x.q.fenced then (.done (s.bump (okey 0x7030 8)) 0, Status.fenced.code, 0)
  else
    match s.poisonAt x r x.q.dst false with
    | some a => (.fail s Status.uncorrected.code a, 0, 0)
    | none =>
      let old := leNat (((s.readRuns x r x.q.dst []).headD []).take w)
      let new := atomicNew op old (rdLe m l.eb 8) (rdLe m (l.eb + 8) 8)
      (.done ((s.writeRun x r x.q.dst r.eb (leBytes w new)).keepOwn x x.q.awaits 0 (leBytes 8 old ++ List.replicate 56 (0 : Byte))) 0, 0, old)

/-- Write the result of an atomic into its local line (Table 11-7). -/
def State.atomicResult (s : State) (x : Orphan) (status old : Nat) : State :=
  let l := s.xLocal x
  s.writeRun x l [] (l.eb + 16) (leBytes 8 (if status = 0 then old else 0) ++ leBytes 1 status ++ List.replicate 7 (0 : Byte))

/-- Apply a PUTF's flag on this module's own memory: translation, fence and poison, then the word plus one (R445, R458,
R472). -/
def State.landFlag (s : State) (x : Orphan) : Landed :=
  let o := s.xFlag x
  match s.access x o true false with
  | (t0, .error e) => .fail t0 e.1.code e.2
  | (t0, .ok tr) =>
    let remote := decide (s.destsAt x o tr o.eb ≠ [])
    let (t, seq) := if remote then (t0.dirtyOperand x o).sendFlag x else ((t0.dirtyOperand x o).noteOnce x, 0)
    let drop (u : State) : State := if remote then u.dropRequests (u.xUnit x) [seq] else u
    if !t.targetUp x o then .fail (drop t) Status.notReady.code o.eb
    else
      match t.poisonAt x o tr false with
      | some a => .fail (drop t) Status.uncorrected.code a
      | none =>
        let old := leNat ((t.readRuns x o tr []).headD [])
        let u := t.writeRun x o tr o.eb (leBytes 4 ((old + 1) % 2 ^ 32))
        .done (drop (u.keepOwn x [seq] 0 [])) 0

/-! Completion (R209 to R211). -/

/-- Have all awaited requests to other endpoints been answered? Those on the Ground are by the completion itself (log entry 25). -/
def State.answered (s : State) (source : Nat) (seqs : List Nat) : Bool :=
  seqs.all (fun q => match s.request source q with | some r => r.answer.isSome || !r.outside | none => true)

/-- The first awaited answer whose status is neither OK nor one that an atomic hands to the pattern (R212). -/
def State.badAnswer (s : State) (source : Nat) (seqs : List Nat) (atomic : Bool) : Option Nat :=
  (seqs.filterMap (fun q => match s.request source q with | some r => r.answer.map (·.1) | none => none)).find? (fun c =>
    decide (c ≠ 0) && !(atomic && (decide (c = Status.unknownOutcome.code) || decide (c = Status.fenced.code) ||
      decide (c = Status.epochMismatch.code))))

/-- Land a transfer: data, then a PUTF's own flag; the arithmetic flags go to the core (R170). -/
def State.landXfer (s : State) (x : Orphan) (ext : List Byte) : Landed :=
  match iOp x.q.word with
  | 4 =>
    if (s.xRemote x).d.space = 5 then
      let src := s.xUnit x
      let a := (x.q.awaits.head?).bind (fun q => (s.request src q).bind (·.answer))
      match a with
      | some (st, bs) => .done (s.atomicResult x st (leNat (bs.take 8))) 0
      | none => .done s 0
    else
      match s.landAtomic x with
      | (.done t fl, st, old) => .done (t.atomicResult x st old) fl
      | (.fail t c a fl, _, _) => .fail t c a fl
  | op =>
    let outside := decide ((s.xDst x).d.space = 5)
    match (if outside then Landed.done s 0 else s.landData x ext) with
    | .fail t c a f => .fail t c a f
    | .done t fl =>
      if op = 2 ∧ !t.flagOutside x then
        match t.landFlag x with
        | .done u _ => .done u fl
        | .fail u c a _ => .fail u c a fl
      else .done t fl

/-- The data that arrives for a transfer: the answers of a fabric endpoint, or what a guest sends. -/
def State.arrived (s : State) (x : Orphan) (data : List Byte) : List Byte :=
  if (s.xSrc x).d.space = 5 then s.answersOf (s.xUnit x) x.q.awaits else data

/-- Complete the transfer at a place among those that a queue has in flight. -/
def State.xferDone (s : State) (k : Nat) (g : Grant) (r : CoreRun) (u pos : Nat) (data : List Byte) : State :=
  match (r.active u)[pos]? with
  | none => s
  | some q =>
    let x := xferOf g k q
    let src := s.xUnit x
    if q.held || s.queueHolds g k ((r.active u).take pos) q || !s.answered src q.awaits then s
    else
      match s.badAnswer src q.awaits (decide (iOp q.word = 4)) with
      | some c => (s.dropRequests src q.awaits).coreFault k g u q.idx c (s.xRemote x).eb
      | none =>
        if s.xferLost x || s.xferStuck x || s.xferWaits x then s
        else if !s.targetUp x (s.xRemote x) then
          if q.awaits = [] then s.coreFault k g u q.idx Status.notReady.code (s.xRemote x).eb else s
        else
        match (if q.landed then Landed.done s 0 else s.landXfer x (s.arrived x data)) with
        | .fail t c a fl => ((t.dropRequests src q.awaits).flagRun k fl).coreFault k g u q.idx c a
        | .done t fl =>
          let t0 := t.traceOpen 2 (siteOfDie g.die) 2 (some (4 * t.numberOf g.die (k % 64) + (u - 8))) none none
          let t1 := (t0.dropRequests src q.awaits).flagRun k fl
          if t1.flagOutside x && !q.landed then
            let (t2, seq) := t1.sendFlag x
            match t2.run k with
            | some r2 => t2.setRun k (some (r2.setActive u (modifyAt (r2.active u) pos (fun y => { y with landed := true, awaits := [seq] }))))
            | none => t2
          else
            match t1.run k with
            | some r2 => t1.completeInstr k g (r2.setActive u (removeAt (r2.active u) pos)) u q
            | none => t1

/-- TRANSFER_COMPLETE: the last data or acknowledgement of a transfer arrives (R209). A transfer that a dark region
or a bride without lanes holds, that a migration holds, that must follow an earlier one of its queue (R180), that awaits answers, or whose
target core has left service stays in flight, the last until its probes find no answer (R455); inside the die such a core faults it. A transfer of a discarded step lands or is
dropped, and completes nothing (R228). -/
def execTransferComplete (die : Fin 8) (core : Fin 48) (queue : Fin 4) (pos : Nat) (which : Landing) (data : List Byte)
    (s : State) : Out :=
  match which with
  | .live =>
    match s.running die.val core.val with
    | none => .next s
    | some (k, g, r) => .next (s.xferDone k g r (8 + queue.val) pos data)
  | _ =>
    match (if s.stopped then none else s.physOf die.val core.val) with
    | none => .next s
    | some m =>
      let mine : Orphan → Bool := fun x => decide (x.die = die.val) && decide (x.core = m) && decide (bits x.q.word 34 33 = queue.val)
      match s.orphans.find? mine with
      | none => .next s
      | some x =>
        let s1 := { s with orphans := removeFirst mine s.orphans }.dropRequests (s.xUnit x) x.q.awaits
        if decide (which = .dropped) || s.xferLost x || s.xferWaits x || !s.targetUp x (s.xRemote x) then .next s1
        else
          let key := coreKey x.die x.core
          match s.landXfer x (s.arrived x data) with
          | .done t fl => .next (({ t with orphans := removeFirst mine t.orphans }.dropRequests (s.xUnit x) x.q.awaits).coreFlags key fl)
          | .fail _ _ _ fl => .next (s1.coreFlags key fl)

/-! Weights (R122 to R125). -/

/-- ARBITER_WEIGHT_UPDATE: every arbiter of a die recomputes its weights from the requests pending at this instant (R122, R123). The
sequencer manager's own requests are carried out at once and never pend. -/
def execArbiterWeightUpdate (die : Fin 8) (s : State) : Out :=
  .next (s.setDie die.val { s.dieOf die.val with weights := s.portWeights die.val })

/-- DIE_PORT_WEIGHT_REPORT: the die port reports its source count to the site endpoint, in all and toward each site (R125, R353). -/
def execDiePortWeightReport (die : Fin 8) (s : State) : Out :=
  let toward := (List.range 12).foldl (fun t b => Tbl.put 0 t b (s.groundSources die.val (fun p => decide (p.2 = b)))) []
  .next (s.setDie die.val { s.dieOf die.val with siteWeight := s.groundSources die.val (fun _ => true), siteWeights := toward })

end Sys2Proof.Machine
end

