-- ==== Sys2Proof/Machine/Lanes.lean ====
section
/-! DEFINITION. Lanes, paths and rings of the Ground (sections 9.1 to 9.6, 10.1 to 10.6): which rings a path uses, when a
path or lane leaves service and returns, parking and relock, and the site states that the hub reports. -/

namespace Sys2Proof.Machine

open Sys2Proof

/-! Brides (R343, R347). -/

/-- Every bride: the 78 ordered pairs (R343). -/
def brides : List (Nat × Nat) :=
  ((List.range 12).flatMap (fun a => (List.range 12).map (fun b => (a, b)))).filter (fun p => brideExists p.1 p.2)

/-- Index of the standing lane of a bride (R347). -/
def standing (a b : Nat) : Nat := 84 + (b + 12 - a) % 12

/-- Peers of a site, ascending. -/
def peersOf (a : Nat) : List Nat := (List.range 12).filter (brideExists a)

/-- Compute sites of a site's row other than itself: the remote members of a row multicast (R374). -/
def rowMates (a : Nat) : List Nat := (List.range 12).filter (fun b => decide (b ≠ a) && decide (siteRow b = siteRow a) && (dieAt b).isSome)

/-- The transmit group on which a path leaves: 0 row, 1 column (R344). -/
def pathGroup (a b : Nat) : Nat :=
  match turnField a b with
  | some _ => if a = siteH then 1 else 0
  | none => if siteRow a = siteRow b then 0 else 1

/-! Sensors of the rings (R395). -/

/-- Ground sensors of a field: 6 of a compute field and 4 of each other (R395); those of site 0 are first. -/
def groundSensors (x : Nat) : List Nat :=
  let n (y : Nat) : Nat := if (dieAt y).isSome then 6 else 4
  let start := ((List.range x).map n).sum
  (List.range (n x)).map (fun i => 408 + start + i)

def State.sensor (s : State) (i : Nat) : Sensor := Tbl.get {} s.sensors i

/-- The value of a sensor at the last round that ended. -/
def State.valueOf (s : State) (i : Nat) : Int := (s.sensor i).values.headD 0

/-- The sensor nearest to a ring, of its field (R395). -/
def nearestSensor (k : Nat) : Nat :=
  let l := groundSensors (k / 1344)
  l.getD (Config.nearestSensor k % l.length) 0

/-! Rings (R392). -/

/-- Kind of a slot: 0 modulator, 1 drop, 2 turn (Table 10-1). -/
def slotKind (slot : Nat) : Nat := if slot < 192 then 0 else if slot < 960 then 1 else 2

/-- Lane of a slot (Table 10-1). -/
def slotLane (slot : Nat) : Nat := if slot < 192 then slot / 2 else if slot < 960 then (slot - 192) / 8 else (slot - 960) / 4

/-- Position of a site in an ascending list. -/
def rankIn (l : List Nat) (x : Nat) : Nat := (l.filter (fun y => decide (y < x))).length

/-- Source buses that pass a site, by their owners in the order of their numbers p: row groups of the other sites of its row, then column
groups of the other sites of its column; G0 and G1 have none (R340, R392). -/
def busesAt (d : Nat) : List Nat :=
  (List.range 12).filter (fun x => decide (x ≠ d) && decide (siteRow x = siteRow d)) ++
  (List.range 12).filter (fun x => decide (x ≠ d) && decide (siteRow x ≠ siteRow d) && decide (siteCol x = siteCol d) && decide (x ≠ 4) && decide (x ≠ 7))

/-- Sources whose light turns in a field, in the order of the numbers q of their feeds: row groups, then H's column group (R344, R392). -/
def feedsAt (x : Nat) : List Nat :=
  let l := (List.range 12).filter (fun a => (List.range 12).any (fun b => brideExists a b && decide (turnField a b = some x)))
  l.filter (fun a => decide (a ≠ siteH)) ++ l.filter (fun a => decide (a = siteH))

/-- The bus that brings a path to its destination: the source's own, or the one that leaves the crossing field
(log entry 32). -/
def lastBus (a b : Nat) : Nat := (turnField a b).getD a

/-- The drop ring of a path. -/
def dropRing (a b n : Nat) : Nat := ringKey b (192 + 8 * n + (busesAt b).idxOf (lastBus a b))

/-- The modulator of a path. -/
def modRing (a b n : Nat) : Nat := ringKey a (2 * n + pathGroup a b)

/-- The turn ring of a path, if it turns. -/
def turnRing (a b n : Nat) : Option Nat := (turnField a b).map (fun x => ringKey x (960 + 4 * n + (feedsAt x).idxOf a))

/-- The rings that a path uses. -/
def pathRings (a b n : Nat) : List Nat := [modRing a b n, dropRing a b n] ++ (turnRing a b n).toList

/-- Is a slot fitted at a site: does its geometry need it (R392)? -/
def slotFitted (site slot : Nat) : Bool :=
  match slotKind slot with
  | 0 => decide (slot % 2 = 0) || (decide (site ≠ 4) && decide (site ≠ 7))
  | 1 => brides.any (fun p => decide (p.2 = site) && decide ((busesAt site).idxOf (lastBus p.1 p.2) = (slot - 192) % 8))
  | _ => (dieAt site).isSome && decide ((slot - 960) % 4 < (feedsAt site).length)

/-- The paths of lane index n whose rings include a ring. -/
def pathsOfRing (k : Nat) : List (Nat × Nat) :=
  brides.filter (fun p => (pathRings p.1 p.2 (slotLane (k % 1344))).contains k)

/-- A number held to 0 … 16,383. -/
def heaterClamp (x : Int) : Nat := min 16383 x.toNat

/-- The cold offset of a ring (R405): H_cal − κ × (T − T_cal) / 0.09 − 100 / 0.09, rounded to nearest even (R141), never below 0. -/
def MicroRing.coldOffset (r : MicroRing) : Nat :=
  heaterClamp ((r.trims.calHeater : Int) + divRneInt (-((240 + r.trims.kappa : Nat) * (r.temp - 4 * (r.trims.calTemp : Nat)) + 16000) * 5) 72)

/-- A ring that the state holds parks at its cold offset (R404). -/
def MicroRing.park (r : MicroRing) : MicroRing :=
  if r.st = .notFitted ∨ r.st = .out then r else { r with st := .parked, heater := r.coldOffset, outside := false }

/-- A ring begins its relock from the cold offset (R406). -/
def MicroRing.relock (r : MicroRing) : MicroRing :=
  if r.st = .notFitted ∨ r.st = .out then r else { r with st := .sweeping, heater := r.coldOffset, outside := false }

/-- Order one ring to relock. -/
def State.relockRing (s : State) (k : Nat) : State :=
  (s.setMring k (s.mring k).relock).bump (okey 0x6240 2)

/-- The rings of a site that it fits. -/
def siteRings (x : Nat) : List Nat := ((List.range 1344).filter (slotFitted x)).map (ringKey x)

/-- Change every fitted ring of a site. -/
def State.siteRingMap (s : State) (x : Nat) (f : MicroRing → MicroRing) : State :=
  (siteRings x).foldl (fun t k => t.setMring k (f (t.mring k))) s

/-! Lanes. -/

/-- Do the regions of a path serve? -/
def State.pathUp (s : State) (a b : Nat) : Bool := (pathRegions a b).all (fun x => (s.region x).up)

/-- Lane n of a site's transmitters as it stands at rest: standing for the bride whose standing lane it is, if that path
serves, and pooled otherwise (R347, R348). -/
def State.restTx (s : State) (a n : Nat) (l : Lane) : Lane :=
  match (peersOf a).find? (fun b => decide (standing a b = n) && s.pathUp a b && decide ((s.pathOf a b n).st = 0)) with
  | some b => { l with tx := .standing, txPeer := b, txGroup := pathGroup a b, ending := none }
  | none => { l with tx := .idle, txPeer := 0xF, txGroup := 3, ending := none }

/-- The receiver of lane n at rest. -/
def State.restRx (s : State) (b n : Nat) (l : Lane) : Lane :=
  match (peersOf b).find? (fun a => decide (standing a b = n) && s.pathUp a b && decide ((s.pathOf a b n).st = 0)) with
  | some a => { l with rx := .standing, rxPeer := a, revoked := false }
  | none => { l with rx := .idle, rxPeer := 0xF, revoked := false }

/-- Destinations that receive a transmit lane now. -/
def State.receiversOf (s : State) (a n : Nat) : List Nat :=
  (List.range 12).filter (fun d => decide ((s.lane d n).rxPeer = a) && decide ((s.lane d n).rx = .leased))

/-- End the lease of a transmit lane at both of its ends (R350). -/
def State.endTx (s : State) (a n : Nat) : State :=
  let ds := s.receiversOf a n
  let s1 := if (s.lane a n).tx = .leased then s.setLane a n (s.restTx a n (s.lane a n)) else s
  ds.foldl (fun t d => t.setLane d n (t.restRx d n (t.lane d n))) s1

/-- Drop what two sites have agreed for lane n of the next period. -/
def State.dropOffer (s : State) (a b n : Nat) : State :=
  let l := s.lane a n
  let s1 := s.setLane a n { l with
    offers := l.offers.filter (fun o => decide (o.1 % 16 ≠ b))
    confirmed := if l.confirmed = some b ∨ l.confirmed = some 14 then none else l.confirmed }
  let r := s1.lane b n
  s1.setLane b n { r with
    granted := if r.granted = some a ∨ r.granted = some (a + 16) then none else r.granted
    rxNext := if r.rxNext = some a then none else r.rxNext }

/-- Leases of lane n between two sites are void: the source's lease to the destination ends, and grants and confirmations
are dropped (Table 9-8). -/
def State.voidLease (s : State) (a b n : Nat) : State :=
  let l := s.lane a n
  let s1 := s.dropOffer a b n
  if l.tx = .leased ∧ (l.txPeer = b ∨ (l.txPeer = 0xE ∧ (rowMates a).contains b)) then s1.endTx a n else s1

/-- Show the standing lane of a bride, if n is it, in a state at both ends. -/
def State.markStanding (s : State) (a b n : Nat) (st : LaneSt) : State :=
  if n = standing a b then
    let s1 := s.setLane a n { s.lane a n with tx := st, txPeer := b }
    s1.setLane b n { s1.lane b n with rx := st, rxPeer := a }
  else s

/-- Count a retraining of a path: the Ground's counter and both of its lane entries (Table 9-11, Table 9-12; log entry
34). -/
def State.countRetrain (s : State) (a b n : Nat) : State :=
  let s1 := s.bump (okey 0x6030 3)
  let s2 := s1.setLane a n { s1.lane a n with retrains := satInc 8 (s1.lane a n).retrains }
  s2.setLane b n { s2.lane b n with retrains := satInc 8 (s2.lane b n).retrains }

/-- PATH_OUT_OF_SERVICE: a path leaves service and retrains (R364). -/
def State.pathOut (s : State) (a b n : Nat) : State :=
  let p := s.pathOf a b n
  if p.st ≠ 0 then s
  else
    let s1 := s.setPath a b n { p with st := 1, words := [], crcs := [] }
    ((s1.voidLease a b n).markStanding a b n .training).countRetrain a b n

/-- Ticks of the last ten minutes (R364). -/
def tenMinutes : Nat := 28800000

/-- Ticks within a span before now, with now. -/
def recent (now span : Nat) (l : List Nat) : List Nat := now :: l.filter (fun t => decide (now < t + span))

/-- A retraining of a path fails: after the third within 10 minutes it stays out until the next bring-up and the field map
records it (R364, R654); otherwise it trains again. -/
def State.trainFail (s : State) (a b n : Nat) : State :=
  let p := s.pathOf a b n
  let fs := recent s.tb.count tenMinutes p.fails
  if 3 ≤ fs.length then
    (((s.setPath a b n { p with st := 2, fails := fs }).bump (okey 0x6030 4)).mapRecord (.laneOut (a * 12 + b) n)).markStanding a b n .out
  else (s.setPath a b n { p with st := 1, fails := fs }).countRetrain a b n

/-- Is none of a lane's paths being retrained, those of dark regions aside? -/
def State.lanePathsDone (s : State) (a n : Nat) : Bool :=
  (peersOf a).all (fun b => decide ((s.pathOf a b n).st ≠ 1) || !s.pathUp a b)

/-- A lane that relocks or trains returns to rest: one that was ordered to relock once none of its paths is being retrained (R369), and
one in calibration once its retrainings are done, which ends the calibration (R415). -/
def State.laneReturn (s : State) (a n : Nat) : State :=
  let l := s.lane a n
  if l.cal = 4 then
    if s.lanePathsDone a n then
      let t := (s.setLane a n { l with cal := 3, calTime := s.pw.time }).bump (okey 0x6240 5)
      if t.trimMode = 1 then t.bump (okey 0x6240 8) else t
    else s
  else if (l.tx = .relocking ∨ l.tx = .training) ∧ l.cal < 2 ∧ (!l.relock ∨ s.lanePathsDone a n) then
    s.setLane a n { s.restTx a n l with relock := false }
  else s

/-- A path passes its training: it returns to service, and so does the lane, unless others of its paths still hold it (R347, R365,
R369, R655). -/
def State.trainPass (s : State) (a b n : Nat) : State :=
  let s0 : State := { s with fieldMap := s.fieldMap.filter (fun e => decide (e ≠ .laneOut (a * 12 + b) n)) }
  let s1 := s0.setPath a b n { s0.pathOf a b n with st := 0, words := [] }
  let s2 := if n = standing a b ∧ s1.pathUp a b ∧ (s1.lane a n).cal < 2 then s1.setLane b n (s1.restRx b n (s1.lane b n)) else s1
  s2.laneReturn a n

/-- A transmitting lane ends every lease, its ring relocks and each of its paths retrains (R369). -/
def State.relockLane (s : State) (a n : Nat) (ring : Nat) : State :=
  let s1 := (s.endTx a n).relockRing ring
  let s2 := (peersOf a).foldl (fun t b => t.pathOut a b n) s1
  s2.setLane a n { s2.lane a n with tx := .relocking, txPeer := 0xF, txGroup := 3, offers := [], confirmed := none, relock := true,
                                    ending := none,
                                    cal := if (s2.lane a n).cal = 2 ∨ (s2.lane a n).cal = 4 then 1 else (s2.lane a n).cal }

/-- A ring parks and relocks: leases of its lane end, and every path that uses it leaves service (R399, R400, R404). -/
def State.ringLost (s : State) (k : Nat) : State :=
  let s1 := s.relockRing k
  (pathsOfRing k).foldl (fun t p => t.pathOut p.1 p.2 (slotLane (k % 1344))) s1

/-! Site states (R53, Table 1-8). -/

def State.thermal (s : State) (u : Nat) : Thermal := Tbl.get {} s.thermals u
def State.setThermal (s : State) (u : Nat) (x : Thermal) : State := { s with thermals := Tbl.put {} s.thermals u x }

/-- Is a compute die out of service by trip (R630)? -/
def State.tripped (s : State) (d : Nat) : Bool := decide ((s.thermal d).trip ≠ .none)

/-- The site that holds an instance of a component (Table 16-4): that of its die, the footside, or the hub. -/
def instanceSite (comp inst : Nat) : Nat :=
  if comp = 4 then siteOfDie inst else if comp = 5 then siteOfDie (inst / 2) else if comp = 6 then inst
  else if comp = 7 then siteF else siteH

/-- Has the die or Ground region of an instance tripped, gone dark or been isolated (R677)? -/
def State.instanceDown (s : State) (comp inst : Nat) : Bool :=
  let x := instanceSite comp inst
  let r := s.region x
  !r.up || r.isolated || (match dieAt x with
    | some d => s.tripped d || (s.dieOf d).isolated
    | none => false)

/-- A slice whose die or region has gone is abandoned: the instance keeps the old image, and the update retries it (R677). -/
def State.dropFresh (s : State) : State :=
  let u := s.sec.update
  match u.fresh with
  | none => s
  | some f =>
    if s.instanceDown u.comp f.1 then
      { s with sec := { s.sec with update := { u with fresh := none, waits := true, frame := s.tb.frame + 1 }, runs := Tbl.put 0 s.sec.runs (u.comp * 16 + f.1) f.2 } }
    else s

/-- Key of a site's entry of SiteInventory. -/
def keySite (x : Nat) : Nat := okey 0x0120 (x + 1)

/-- SiteState of a site (R53): isolated, region dark, degraded or in service; parked for a filler or a parked region. -/
def State.siteState (s : State) (x : Nat) : Nat :=
  let r := s.region x
  if bits (s.reg (keySite x)) 31 24 = 5 ∨ r.st = .parked then 0
  else
    match dieAt x with
    | some d =>
      if (s.dieOf d).isolated ∨ r.isolated ∨ (s.thermal d).hard then 3
      else if !r.up then 2
      else if s.tripped d ∨ s.coresInService d < 48 ∨ (s.servingCores d).any (fun m => decide ((s.core (coreKey d m)).width ≠ 0)) ∨
          (s.store (2 * d)).out ∨ (s.store (2 * d + 1)).out ∨ (s.dieOf d).sideOut ∨ (s.dieOf d).katFailed then 4
      else 1
    | none => if r.isolated then 3 else if !r.up then 2 else 1

/-- The hub rewrites a site's SiteInventory entry, DieKind and BrideLevel as bring-up found them (R53). -/
def State.reportSite (s : State) (x : Nat) : State :=
  let cores := match dieAt x with | some d => if s.tripped d then 0 else s.coresInService d | none => 0
  s.setReg (keySite x) (s.reg (keySite x) / 2 ^ 20 * 2 ^ 20 + cores * 2 ^ 8 + s.siteState x)

end Sys2Proof.Machine
end

