-- ==== Sys2Proof/Machine/Output.lean ====
section
/-! DEFINITION. Output records (section 13.8): forming them from the committed output blocks and posting them. -/

namespace Sys2Proof.Machine

open Sys2Proof

/-- Bytes of the output ring from offset E on, wrapping at its end (R573). -/
def outBytes (m : Tbl Byte) (base size e n : Nat) : List Byte :=
  (List.range n).map (fun i => rdByte m (base + (e + i) % size))

/-- What a stream's committed output block yields at the end of frame N that began at tick `start`: the record, and the
stream with E set to OutputHead, OutputMediaTime 0 and its frame flags cleared (R573, R574, R577). What a late
commit wrote inside the frame of its deadline waits for the next record, with the output that follows it (R83; log entry 14). -/
def Stream.form (x : Stream) (i frame start : Nat) : Stream × OutRec :=
  let (h, time) := x.lateFrom.getD x.outputAt
  let size := x.outSize * 256
  let base := x.stateSize * 4096 - size
  let n := (h + 2 ^ 64 - x.emitted) % 2 ^ 64
  let formed := decide (h ≠ x.emitted)
  let status := if !formed then 0 else if !newer64 h x.emitted then Status.typeMismatch.code
    else if size < n then Status.lengthExceeds.code else 0
  let r : OutRec :=
    { stream := i, frame := frame, formed := formed, status := status, seq := (frame + 2 ^ 32 - x.f0 % 2 ^ 32) % 2 ^ 32,
      time := if time = 0 then start else time, late := x.late && x.lateFrom.isNone,
      payload := if formed ∧ status = 0 then outBytes x.committed base size x.emitted n else [],
      carried := false, ingress := x.inBytes, owner := x.owner, ring := x.ring }
  let y : Stream :=
    if x.lateFrom.isSome then
      { x with emitted := h, lateFrom := none
               committed := if formed ∧ x.outputAt.2 = time then wrLe x.committed 0x88 8 0 else x.committed }
    else if formed then { x with emitted := h, committed := wrLe x.committed 0x88 8 0, late := false }
    else x
  ({ y with stepped := false, inBytes := [] }, r)

/-- Is the hub's read of a committed output block refused, in its two header words or in the bytes of the ring from E to H, by a poisoned
line or an outage (R267, R270)? -/
def State.outBad (s : State) (x : Stream) (h : Nat) : Bool :=
  let size := x.outSize * 256
  let base := x.stateSize * 4096 - size
  let e := x.emitted % size
  let n := min size ((h + 2 ^ 64 - x.emitted) % 2 ^ 64)
  s.recReadBad x false 0x80 16 || (decide (0 < n) && s.recReadBad x false (base + e) (min n (size - e))) ||
  (decide (size < e + n) && s.recReadBad x false base (e + n - size))

/-- What the read of a stream's committed output block yields; one that is refused forms no record, and E stays (R267; log entry 41). -/
def State.readOut (s : State) (x : Stream) (i frame start : Nat) : Stream × OutRec :=
  let (y, r) := x.form i frame start
  if s.outBad x (x.lateFrom.getD x.outputAt).1 then ({ x with stepped := false, inBytes := [] }, { r with formed := false, payload := [] }) else (y, r)

/-- Form the output of a stream; an overrun posts OutputOverrun (R573, Table 13-15). -/
def State.formOut (s : State) (frame start i : Nat) : State × OutRec :=
  let (x, r) := s.readOut (s.stream i) i frame start
  let s1 := (s.touch (x.recUnit false)).setStream i x
  (if r.formed ∧ r.status = Status.lengthExceeds.code then s1.event i 0x07 0 else s1, r)

/-- The content of an output record's slot (Table 13-16). -/
def OutRec.content (r : OutRec) (claim : Nat) (own : Bool) : List Byte :=
  leBytes 8 (r.stream * 2 ^ 50 + (if own then 2 ^ 41 else 0) + (if r.late then 2 ^ 40 else 0) + r.status % 256 * 2 ^ 32 + r.seq % 2 ^ 32) ++
  leBytes 8 r.time ++ leBytes 8 r.frame ++ leBytes 8 (claim % 2 ^ 32 * 2 ^ 32 + r.payload.length % 2 ^ 16 * 2 ^ 16) ++ r.payload

/-- Post an output record to the ring of the stream's owner, or count it while the stream waits (R547, R571, R576); the record of a
stream that has closed goes to the ring that it named (R557). A slot posted has its trace record (Table 17-5). -/
def State.postOut (s : State) (r : OutRec) (claim : Nat) (own : Bool) : State :=
  let x := s.stream r.stream
  if !r.formed then s
  else if x.st = .waiting then s.bump (hostCtr x.owner 6)
  else
    let (p, i) := if x.st = .closed then (r.owner, r.ring) else (x.owner, x.ring)
    let (q, done) := (s.port p).postRing i 0x01 (r.content claim own) s.tb.count
    let t := (s.setPort p q).bump (hostCtr p (if done then 4 else 5))
    if done then t.traceOpen 7 5 2 (some 0x15) none none else t

/-- PartnerClaimNumber, with which a standby stamps its records (R514). -/
def State.partnerClaim (s : State) : Nat := s.reg (okey 0x8011 0)

/-- The standby sends the records that it holds with its own payload (R510, R512); a stream that it leads is sent without
hold, so it is not among them. -/
def State.releaseHeld (s : State) : State :=
  if s.pair.held then
    let s1 : State := { s with pair := { s.pair with held := false } }
    s.pair.heldOut.foldl (fun t r => t.postOut r t.partnerClaim true) s1
  else s

end Sys2Proof.Machine
end

