-- ==== Sys2Proof/Machine/Ground.lean ====
section
/-! DEFINITION. The Ground (chapter 9): leases, identity words and their reports, training, laser modules, and dark
regions. -/

namespace Sys2Proof.Machine

open Sys2Proof

/-! Leases (section 9.3). -/

def State.arbiter (s : State) (d : Nat) : Arbiter := Tbl.get {} s.arbiters d
def State.setArbiter (s : State) (d : Nat) (x : Arbiter) : State := { s with arbiters := Tbl.put {} s.arbiters d x }

/-- Receive lanes of a destination that are free to lease, ascending (R348, R351). -/
def State.freeRx (s : State) (d : Nat) : List Nat :=
  (List.range 96).filter (fun n => let l := s.lane d n
    decide (l.rx = .idle) && l.granted.isNone && l.rxNext.isNone)

/-- Is a transmit lane free at its source (R349)? -/
def State.freeTx (s : State) (a n : Nat) : Bool :=
  let l := s.lane a n
  decide (l.tx = .idle) && decide (l.cal = 0) && l.confirmed.isNone

/-- Engines of H with traffic pending for a site, among the sixteen tier channel controllers, the staging and ledger engines, the fabric and
pair endpoints and the Dyke (R353). -/
def State.hubEngines (s : State) (d : Nat) : Nat :=
  let ofSite (x : Orphan) : Bool := decide (siteOfDie x.die = d)
  let touches (x : Orphan) (u : Nat) : Bool := ofSite x && (s.unitsNow (x.q.src ++ x.q.dst) x.die).contains u
  let channels := ((List.range 16).filter (fun c => s.inFlight.any (fun x => touches x (16 + c)))).length
  let staging := s.staging.any (fun c => c.status.isNone && c.map.any (fun g => g.2.any (fun l => l.any (fun f => decide (unitSite f.1 = d)))))
  let ledger := s.migs.any (fun m => (s.migUnits m).any (fun p => decide (unitSite p.1 = d) || decide (unitSite p.2 = d)))
  let fabric := s.requests.any (fun r => if d = siteF then r.answer.isNone else r.answer.isSome && decide (r.source / 256 = d))
  let pair := decide (d = siteF) && !decide (s.pair.sent = [])
  let dyke := s.inFlight.any (fun x => let o := s.xRemote x
    decide (o.d.space = 7) && (ofSite x || decide (siteG (bits o.d.target 0 0) = d)))
  channels + ([staging, ledger, fabric, pair, dyke].filter id).length

/-- F's external ports with traffic pending, fabric ports and pair link counted separately: packets that wait for the port, or messages on
the link (R353; log entry 36). -/
def State.footPorts (s : State) : Nat :=
  ((List.range 4).filter (fun x => decide ((s.xport x).queue ≠ []))).length + (if s.pair.sent = [] then 0 else 1)

/-- The weight that a source reports toward a destination, 1 to 64: a compute stack its die's source count toward it as last reported, H
its engines, F its external ports, a guest 1 (R353; log entry 36). -/
def State.leaseWeight (s : State) (a d : Nat) : Nat :=
  let w := match dieAt a with
    | some k => Tbl.get 0 (s.dieOf k).siteWeights d
    | none => if a = siteH then s.hubEngines d else if a = siteF then s.footPorts else 1
  max 1 (min 64 w)

/-- Are the pooled lanes that a guest may hold toward H used up: with its standing lane they carry no more than its rate limit, at 25 GB/s
a lane (R381)? -/
def State.guestFull (s : State) (a d : Nat) : Bool :=
  let held := ((List.range 96).filter (fun n => let l := s.lane d n
    (decide (l.rx = .leased) && decide (l.rxPeer = a)) || decide (l.granted = some a) || decide (l.rxNext = some a))).length
  decide (d = siteH) && (decide (a = 4) || decide (a = 7)) && decide (s.reg (okey 0x6302 (if a = 4 then 1 else 2)) < 25 * (held + 2))

/-- A destination grants lane n to a request: it marks its receive lane and the grant reaches the source (R349). -/
def State.grantLane (s : State) (d n : Nat) (r : LeaseReq) : State :=
  let s1 := s.setLane d n { s.lane d n with granted := some (if r.multicast then r.src + 16 else r.src) }
  let l := s1.lane r.src n
  s1.setLane r.src n { l with offers := l.offers ++ [(if r.multicast then d + 16 else d, r.weight)] }

/-- May a request take lane n: the path is in service, and a multicast needs both laser modules (R357, R364, R374)? -/
def State.leasable (s : State) (d : Nat) (r : LeaseReq) (n : Nat) : Bool :=
  decide ((s.pathOf r.src d n).st = 0) && s.pathUp r.src d && (!r.multicast || s.bothLasers)

/-- Grant up to k lanes to a request: unicast from the lowest free lane up, multicast from the highest down (R351); a guest no more than
its rate limit allows (R381). -/
def State.grantMany (s : State) (d k : Nat) (r : LeaseReq) : State :=
  let ls := (s.freeRx d).filter (s.leasable d r)
  ((if r.multicast then ls.reverse else ls).take k).foldl (fun t n => if t.guestFull r.src d then t else t.grantLane d n r) s

/-- Receive lanes of a destination that a source leases, those already revoked and a substitute for the standing lane aside. -/
def State.heldLanes (s : State) (d a : Nat) : List Nat :=
  (List.range 96).filter (fun n => let l := s.lane d n
    decide (l.rx = .leased) && decide (l.rxPeer = a) && !l.revoked && decide (Tbl.get 0 (s.arbiter d).substs a ≠ n + 1))

/-- The whole lanes of a destination's pool that are the share of a source among backlogged requesters, by their weights (R353, R354). -/
def State.leaseShare (s : State) (d : Nat) (reqs : List LeaseReq) (a : Nat) : Nat :=
  let pooled := ((List.range 96).filter (fun n => let l := s.lane d n; decide (l.rx = .idle) || decide (l.rx = .leased))).length
  pooled * ((reqs.filter (fun r => decide (r.src = a))).map (·.weight)).sum / (reqs.map (·.weight)).sum

/-- Receive lanes of a destination that a source leases or has been granted in this period. -/
def State.laneHolding (s : State) (d a : Nat) : Nat :=
  (s.heldLanes d a).length +
    ((List.range 96).filter (fun n => let g := (s.lane d n).granted; decide (g = some a) || decide (g = some (a + 16)))).length

/-- A backlogged requester that holds, with this period's grants, fewer than its share of the pooled lanes makes the destination revoke
as many lanes of the sources that hold more than theirs, from the highest lane down (R350, R354; log entry 36). -/
def State.revokeExcess (s : State) (d : Nat) (reqs : List LeaseReq) : State :=
  let need := ((distinct (reqs.map (·.src))).map (fun a => s.leaseShare d reqs a - s.laneHolding d a)).sum
  let spare := (List.range 12).flatMap (fun a =>
    (s.heldLanes d a).reverse.take ((s.heldLanes d a).length - s.leaseShare d reqs a))
  if reqs = [] then s
  else (spare.take need).foldl (fun t n => t.setLane d n { t.lane d n with revoked := true }) s

/-- A destination divides its free receive lanes among the backlogged requesters in whole lanes, in proportion to their
weights, the remainders carried forward by deficit in units of 2⁻¹⁶ lanes; while some hold less than their share of the pool, among those
alone (R353, R354; log entry 36). -/
def State.arbitrate (s : State) (d : Nat) : State :=
  let ar := s.arbiter d
  let all := (List.range 12).flatMap (fun a => ar.reqs.filter (fun r => decide (r.src = a) && decide (r.backlog ≠ 0)))
  let short := all.filter (fun r => decide (s.laneHolding d r.src < s.leaseShare d all r.src))
  let reqs := if short = [] then all else short
  let free := (s.freeRx d).length
  let total := (reqs.map (·.weight)).sum
  let s1 := s.setArbiter d { ar with reqs := [] }
  if total = 0 ∨ !(s.region d).up then s1
  else
    (reqs.foldl (fun t r =>
      let key := if r.multicast then r.src + 16 else r.src
      let due := free * r.weight * 2 ^ 16 / total + Tbl.get 0 (t.arbiter d).deficit key
      let t1 := t.grantMany d (due / 2 ^ 16) r
      t1.setArbiter d { t1.arbiter d with deficit := Tbl.put 0 (t1.arbiter d).deficit key (due % 2 ^ 16) }) s1).revokeExcess d all

/-- Does the substitute of a bride's standing lane stand? -/
def State.substStands (s : State) (a b : Nat) : Bool :=
  match Tbl.get 0 (s.arbiter b).substs a with
  | 0 => false
  | m + 1 => decide ((s.lane a m).tx = .leased) && decide ((s.lane a m).txPeer = b)

/-- While a bride's standing lane is out, the destination leases it the lowest pooled lane that both ends hold free, ahead of every other
request and beside any lease that the bride has (R370). -/
def State.substitute (s : State) (a b : Nat) : State :=
  let n := standing a b
  let out : Bool := s.pathUp a b && !(decide ((s.lane a n).tx = .standing) && decide ((s.lane a n).txPeer = b))
  let ar := s.arbiter b
  if !out then s.setArbiter b { ar with substs := Tbl.put 0 ar.substs a 0 }
  else if s.substStands a b then s
  else
    match (s.freeRx b).find? (fun m => s.freeTx a m && decide ((s.pathOf a b m).st = 0)) with
    | some m => (s.setArbiter b { ar with substs := Tbl.put 0 ar.substs a (m + 1) }).grantLane b m
        { src := a, backlog := 1, weight := 65, multicast := false }
    | none => s.setArbiter b { ar with substs := Tbl.put 0 ar.substs a 0 }

/-- Members that must confirm together: a multicast's row mates (R375). -/
def leaseEnds (a code : Nat) : List Nat := if code = 14 then rowMates a else [code]

/-! Identity words (R366, R367). -/

/-- The identity word of a transmit lane: kind, and the fields of Table 9-5 with its check. -/
def State.identWord (s : State) (a n kind dest group seq : Nat) : Nat :=
  let path := if dest < 12 ∧ (turnField a dest).isSome then 2 else group
  let w := kind * 2 ^ 60 + a * 2 ^ 56 + (if dest < 12 then dest else 15) * 2 ^ 52 + n * 2 ^ 45 +
    (s.mring (ringKey a (2 * n + group))).line % 16 * 2 ^ 41 + path * 2 ^ 39 + s.brideLevel a * 2 ^ 35 +
    bits (s.reg (okey 0x0110 (a + 1))) 15 0 * 2 ^ 16 + seq % 256 * 2 ^ 8
  w + (crc8Ident (BitVec.ofNat 64 w)).toNat

/-- Send k identity words of a kind on a lane toward a site, 14 for a row multicast; the lane keeps the last one. -/
def State.sendIdent (s : State) (a n kind dest group k : Nat) : State :=
  let l := s.lane a n
  s.setLane a n { l with ident := s.identWord a n kind dest group (l.seq + k - 1), seq := (l.seq + k) % 256, since := 0 }

/-- A leased or standing lane sends an identity word in the sixteenth lease period after its last one (R367). -/
def State.idleIdent (s : State) (a n : Nat) : State :=
  let l := s.lane a n
  if l.tx = .leased ∨ l.tx = .standing then
    if 15 ≤ l.since then s.sendIdent a n 2 l.txPeer l.txGroup 1 else s.setLane a n { l with since := l.since + 1 }
  else s

/-- The identity word that the footside sends on lane j of fabric port x, of the form of Table 9-5: to no site, on lane 8x + j, at wavelength
j (R481; log entry 63). -/
def State.portIdent (s : State) (x j seq : Nat) : Nat :=
  let w := 2 * 2 ^ 60 + siteF * 2 ^ 56 + 15 * 2 ^ 52 + (8 * x + j) * 2 ^ 45 + j * 2 ^ 41 + 3 * 2 ^ 39 + s.brideLevel siteF * 2 ^ 35 +
    bits (s.reg (okey 0x0110 (siteF + 1))) 15 0 * 2 ^ 16 + seq % 256 * 2 ^ 8
  w + (crc8Ident (BitVec.ofNat 64 w)).toNat

/-- With F in service, each lane in service of a fabric port sends an identity word in the sixteenth lease period after its last one
(R481). -/
def State.portIdents (s : State) (x : Nat) : State :=
  if !(s.region siteF).up then s
  else
    (List.range 8).foldl (fun t j =>
      let p := t.xport x
      if bits p.lanes j j = 0 then t
      else if Tbl.get 0 p.since j < 15 then
        { t with xports := Tbl.put {} t.xports x { p with since := Tbl.put 0 p.since j (Tbl.get 0 p.since j + 1) } }
      else
        let n := Tbl.get 0 p.seqs j
        { t with xports := Tbl.put {} t.xports x { p with
            since := Tbl.put 0 p.since j 0, seqs := Tbl.put 0 p.seqs j ((n + 1) % 256), idents := Tbl.put 0 p.idents j (t.portIdent x j n) } }) s

/-- At a period boundary lane n of a source changes lessee: an ending lease ends, and a confirmed one begins where every
receiver holds the confirmation and no region of the path has left service, with an identity word first (R349, R350, R352, R367, R383). -/
def State.turnLane (s : State) (a n : Nat) : State :=
  let s1 := match (s.lane a n).ending with
    | some k =>
      if k ≤ 1 then
        let t := s.endTx a n
        t.setLane a n { t.lane a n with ending := none }
      else s.setLane a n { s.lane a n with ending := some (k - 1) }
    | none => s
  let l := s1.lane a n
  match l.confirmed with
  | some c =>
    let ds := leaseEnds a c
    let s2 := s1.setLane a n { l with confirmed := none }
    if ds.all (fun d => decide ((s1.lane d n).rxNext = some a) && s1.pathUp a d) ∧ (c ≠ 14 ∨ s1.bothLasers) ∧ l.tx = .idle then
      let s3 := s2.setLane a n { s2.lane a n with
        tx := .leased, txPeer := if c = 14 then 0xE else c, txGroup := if c = 14 then 0 else pathGroup a c }
      let s4 := ds.foldl (fun t d => t.setLane d n { t.lane d n with rx := .leased, rxPeer := a, revoked := false }) s3
      (s4.sendIdent a n 2 c (s3.lane a n).txGroup 1).traceOpen 3 a 1 none none none
    else s2
  | none => s1

/-- Grants that no source confirmed return to the destination's pool (R349). -/
def State.clearGrant (s : State) (d n : Nat) : State :=
  let l := s.lane d n
  if l.granted.isSome ∨ l.rxNext.isSome then s.setLane d n { l with granted := none, rxNext := none } else s

/-- Sites and lanes, ascending. -/
def siteLanes : List (Nat × Nat) := (List.range 12).flatMap (fun a => (List.range 96).map (fun n => (a, n)))

/-- A lane whose calibration waits for its leases starts once they have ended (R415). -/
def State.calBegin (s : State) (a n : Nat) : State :=
  let l := s.lane a n
  if l.cal = 1 ∧ (l.tx = .idle ∨ l.tx = .standing) then
    let s1 := if l.tx = .standing then s.markStanding a l.txPeer n .training else s
    s1.setLane a n { s1.lane a n with cal := 2, tx := .training }
  else s

/-- The rings whose trims a lane's calibration sets: its modulators, and the drop and turn rings of its paths (R415). -/
def laneRings (a n : Nat) : List Nat :=
  (([0, 1].filter (fun g => slotFitted a (2 * n + g))).map (fun g => ringKey a (2 * n + g))) ++
  (peersOf a).flatMap (fun b => dropRing a b n :: (turnRing a b n).toList)

/-- TRIM_APPLY: a lane whose calibration has ended takes its pending trims and returns to its pool (R422). -/
def State.applyTrims (s : State) (a n : Nat) : State :=
  if (s.lane a n).cal = 3 then
    let s1 := (laneRings a n).foldl (fun t k =>
      match (t.mring k).pending with
      | some p => t.setMring k { t.mring k with trims := p, pending := none }
      | none => t) s
    let s2 := s1.setLane a n { s1.lane a n with cal := 0 }
    let s3 := s2.setLane a n (s2.restTx a n (s2.lane a n))
    match (peersOf a).find? (fun b => decide (standing a b = n)) with
    | some b => if (s3.lane a n).tx = .standing then s3.markStanding a b n .standing else s3
    | none => s3
  else s

/-- A calibration that a command asked for ends with an outcome, which CalStatus reads once none that was asked for runs (R420). -/
def State.calEnd (s : State) (x code : Nat) : State :=
  if s.calCmd.contains x then
    let s1 : State := { s with calCmd := s.calCmd.filter (fun y => decide (y ≠ x)) }
    if s1.calCmd = [] then s1.setReg (okey 0x6203 3) code else s1
  else s

/-- A calibration of a site that can no longer run to its end is over; what CalStatus shows of one that a command asked for is open (R388,
R420; log entry 37). -/
def State.calDrop (s : State) (x : Nat) : State :=
  let s1 := s.setRegion x { s.region x with calRun := false }
  if s1.calCmd.contains x then (s1.calEnd x s1.freeStatus).tickFree else s1

/-- A calibration of a whole site ends with its last lane; CalStatus shows a commanded one's outcome (R418, R420). -/
def State.calSettled (s : State) (x : Nat) : State :=
  let busy := (List.range 96).any (fun n => let l := s.lane x n; decide (l.cal ≠ 0) || l.calDue)
  if (s.region x).calRun ∧ !busy ∧ (s.region x).up then
    let s1 := s.setRegion x { s.region x with calRun := false }
    s1.calEnd x 0
  else s

/-- Apply every pending trim. -/
def State.applyAllTrims (s : State) : State :=
  (List.range 12).foldl (fun t x => t.calSettled x) (siteLanes.foldl (fun t p => t.applyTrims p.1 p.2) s)

/-- A period boundary on the Ground: leases change lessee, trims take effect under TrimApplyMode 0, identity words go out, and every
destination sends the grants and revocations for the requests of the period before (R346 to R354, R367, R370, R422), but for one whose
endpoint firmware is being replaced (Table 16-4). -/
def State.leasePeriod (s : State) : State :=
  let s1 := siteLanes.foldl (fun t p => (t.idleIdent p.1 p.2).turnLane p.1 p.2) s
  let s2 := siteLanes.foldl (fun t p => t.clearGrant p.1 p.2) s1
  let s3 := if s.trimMode = 0 then s2.applyAllTrims else s2
  let s4 := siteLanes.foldl (fun t p => t.calBegin p.1 p.2) s3
  let s5 := brides.foldl (fun t p => if t.pausedBy 6 p.2 then t else t.substitute p.1 p.2) s4
  (List.range 12).foldl (fun t d => if t.pausedBy 6 d then t else t.arbitrate d) s5

/-- LEASE_REQUEST: a destination collects a source's backlog and the weight that it reports; a backlog of 0 releases the source's leases,
but for the substitute of its standing lane (R349, R350, R353, R370). Only a compute stack asks for multicast leases, of the members of
its row, while both laser modules supply light (R357, R374, R375). -/
def execLeaseRequest (dst src : Fin 12) (backlog : Nat) (multicast : Bool) (s : State) : Out :=
  let a := src.val
  let d := dst.val
  let many := (dieAt a).isSome && (rowMates a).contains d && s.bothLasers
  if !brideExists a d || !s.pathUp a d || (multicast && !many) then .next s
  else
    let ar := s.arbiter d
    let r : LeaseReq := { src := a, backlog := min backlog 65535, weight := s.leaseWeight a d, multicast := multicast }
    let s1 := s.setArbiter d { ar with reqs := ar.reqs.filter (fun x => !(decide (x.src = a) && x.multicast == multicast)) ++ [r] }
    .next (if backlog = 0 then
      (List.range 96).foldl (fun t n =>
        let l := t.lane a n
        if l.tx = .leased ∧ l.txPeer = (if multicast then 0xE else d) ∧ Tbl.get 0 ar.substs a ≠ n + 1 then t.setLane a n { l with ending := some 1 } else t) s1
    else s1)

/-- The grant that a source confirms on a lane: the largest weight, then the lowest destination; a multicast grant counts
only when every member has granted the lane (R351, R375). -/
def chooseOffer (a : Nat) (offers : List (Nat × Nat)) : Option Nat :=
  let whole := (rowMates a).all (fun d => offers.any (fun o => decide (o.1 = d + 16)))
  let ok := offers.filter (fun o => decide (o.1 < 16) || whole)
  let best := ok.foldl (fun (b : Option (Nat × Nat)) o =>
    match b with
    | none => some o
    | some x => if x.2 < o.2 ∨ (x.2 = o.2 ∧ o.1 % 16 < x.1 % 16) then some o else b) none
  best.map (fun o => if o.1 < 16 then o.1 else 14)

/-- LEASE_GRANT: a source takes the revocations, which end a lease at the start of the second period after, and confirms the granted lanes
that are free at it (R349 to R351, R375). Grants over a path with a region that has left service are ignored, and a multicast grant
while only one module supplies light (R357, R383). -/
def execLeaseGrant (src : Fin 12) (s : State) : Out :=
  let a := src.val
  let s1 := (List.range 96).foldl (fun t n =>
    let l := t.lane a n
    if l.tx = .leased ∧ (t.receiversOf a n).any (fun d => (t.lane d n).revoked) then
      t.setLane a n { l with ending := some (min (l.ending.getD 2) 2) }
    else t) s
  .next ((List.range 96).foldl (fun t n =>
    let l := t.lane a n
    let good := l.offers.filter (fun o => t.pathUp a (o.1 % 16) && (decide (o.1 < 16) || t.bothLasers))
    if l.offers = [] then t
    else t.setLane a n { l with offers := [], confirmed := if t.freeTx a n then chooseOffer a good else l.confirmed }) s1)

/-- LEASE_CONFIRM: a destination receives the confirmations of its grants and selects the drop paths for the next period
(R345, R349), but for paths with a region that has left service (R383). -/
def execLeaseConfirm (dst : Fin 12) (s : State) : Out :=
  let d := dst.val
  .next ((List.range 96).foldl (fun t n =>
    let l := t.lane d n
    match l.granted with
    | some g =>
      let want := if g < 16 then d else 14
      if (t.lane (g % 16) n).confirmed = some want ∧ t.pathUp (g % 16) d then t.setLane d n { l with granted := none, rxNext := some (g % 16) } else t
    | none => t) s)

/-- The pair link is lost with F's region, or goes down: holds stop, copies end, and unacknowledged messages count as not sent; where a
YIELD is among them no switchover takes place, and its command ends DISCARDED (R498, R500, R510, R516; log entry 40). -/
def State.pairLost (s : State) : State :=
  let s1 := s.releaseHeld
  let unsent := s1.pair.outbox.any (fun o => match o.msg with | .yield _ => true | _ => false)
  let s2 : State := { s1 with pair := { s1.pair with
    lanes := 0, training := false, words := [], sent := [], outbox := [], copying := []
    yieldAt := if unsent then none else s1.pair.yieldAt } }
  if unsent then s2.setReg (okey 0x8006 0) Status.discarded.code else s2

/-- With F's region up a paired unit's footside trains the pair link, until PAIR_LINK_UP tells its lanes, none where none trains (Tables
12-3 and 12-11; log entry 40). -/
def State.pairTrains (s : State) (foot : Bool) : State :=
  if foot ∧ s.pair.role ≠ .unpaired ∧ s.hasImage 7 0 then { s with pair := { s.pair with training := true } } else s

/-! Identity words (R366 to R369). -/

/-- Outcomes of the last 16 identity words with a new one in front. -/
def lastWords (ok : Bool) (l : List Bool) : List Bool := (ok :: l).take 16

/-- Two failures within 16 words (R364, R481). -/
def twoFail (l : List Bool) : Bool := decide (2 ≤ (l.filter (fun b => !b)).length)

/-- IDENTITY_WORD: the receiver checks the word's Check field, compares the word with its lessee, its site and its lane,
and reports a mismatch to the hub (R364, R368). On a fabric or pair lane a second failure within 16 words takes the lane
out of service (R481, R498). -/
def execIdentityWord (at_ : IdentAt) (word : BitVec 64) (s : State) : Out :=
  let ok := crc8Ident word == word.setWidth 8
  match at_ with
  | .fabric p j =>
    let x := s.xport p.val
    let ws := lastWords ok (Tbl.get [] x.words j.val)
    let out := twoFail ws
    let lanes := if out then setBit x.lanes j.val false else x.lanes
    .next { s with xports := Tbl.put {} s.xports p.val { x with lanes := lanes, words := Tbl.put [] x.words j.val (if out then [] else ws) } }
  | .pair j =>
    let ws := lastWords ok (Tbl.get [] s.pair.words j.val)
    let out := twoFail ws
    let lanes := if out then setBit s.pair.lanes j.val false else s.pair.lanes
    let t : State := { s with pair := { s.pair with lanes := lanes, words := Tbl.put [] s.pair.words j.val (if out then [] else ws) } }
    .next (if lanes = 0 ∧ s.pair.lanes ≠ 0 then t.pairLost else t)
  | .ground site n =>
    let l := s.lane site.val n.val
    let from_ := l.rxPeer
    let lessee := decide (from_ < 12)
    let p := s.pathOf from_ site.val n.val
    let ws := lastWords ok p.words
    let s1 := if lessee then s.setPath from_ site.val n.val { p with words := ws } else s
    if !ok then
      let s2 := s1.bump (okey 0x6030 2)
      .next (if lessee && twoFail ws then s2.pathOut from_ site.val n.val else s2)
    else
      let dest := fieldOf word 55 52
      let multi := lessee && decide ((s.lane from_ n.val).txPeer = 0xE)
      let good := decide (fieldOf word 59 56 = from_) && (decide (dest = site.val) || (multi && decide (dest = 0xF))) &&
        decide (fieldOf word 51 45 = n.val) && decide (fieldOf word 44 41 = n.val % 16)
      let s2 := s1.setLane site.val n.val { s1.lane site.val n.val with discards := !good }
      if good then .next s2
      else .next { (s2.bump (okey 0x6030 1)).traceOpen 3 site.val 2 none none (some word.toNat) with identReports := s2.identReports ++ [(site.val, n.val, word.toNat)] }

/-! Regions (section 9.10). -/

/-- The region of site x leaves service: its own die's work is discarded and the hub sends the dark notice (R230, R384,
R387, Table 9-8). -/
def State.startReset (s : State) (x : Nat) : State :=
  let r := s.region x
  let s1 := (s.setRegion x { r with st := .noticed, heard := [], isolated := false }).bump (okey 0x6030 6)
  let s2 := match dieAt x with
    | some d => s1.discardDie d { cause := Status.regionDark.code }
    | none => s1
  let s2a := s2.dropSlices (fun u => match u with | .lane y _ => decide (y.val = x) | _ => false)
  let s3 := if x = siteF then s2a.pairLost else s2a
  ((s3.setArbiter x { s3.arbiter x with reqs := [] }).reportSite x).dropFresh

/-- The status of a RegionCommand write (R391). -/
def State.resetCheck (s : State) (v : Nat) : Status :=
  let x := s.reg (okey 0x6020 1)
  let r := s.region x
  if 11 < x ∨ v ≠ 1 then .typeMismatch
  else if x = siteH then .accessDenied
  else if r.st = .parked then .notReady
  else if r.st ≠ .up then .busy
  else .ok

/-- Does a commanded reset run, so that RegionStatus reads BUSY (R391)? -/
def State.resetRuns (s : State) : Bool := (List.range 12).any (fun y => (s.region y).asked)

/-- A write of RegionCommand (R391). -/
def State.writeRegionCommand (s : State) (v : Nat) : State :=
  let st := s.resetCheck v
  let x := s.reg (okey 0x6020 1)
  let s1 := (s.answer st).setReg (okey 0x6020 3) (if st = .ok ∨ s.resetRuns then Status.busy.code else st.code)
  if st = .ok then (s1.setRegion x { s1.region x with asked := true }).startReset x else s1

/-- REGION_RESET: a region resets on command under R391, or on a fault of the region (R383). -/
def execRegionReset (cause : ResetCause) (s : State) : Out :=
  match cause with
  | .command v => .next (s.writeRegionCommand v)
  | .fault x => .next (when (decide ((s.region x.val).st = .up) && decide (x.val ≠ siteH)) (s.startReset x.val) s)

/-- Does a BIST slice hold lane n of a site (Table 17-1)? -/
def State.laneSlice (s : State) (a n : Nat) : Bool :=
  s.test.slices.any (fun b => match b.unit with | .lane y m => decide (y.val = a) && decide (m.val = n) | _ => false)

/-- A ring's pending trims are discarded, and the saved ones are those that it keeps (R408, R425). -/
def State.dropTrims (s : State) (k : Nat) : State :=
  let r := s.mring k
  if r.pending.isSome then { s with nvTrims := Tbl.put {} s.nvTrims k r.trims }.setMring k { r with pending := none } else s

/-- Abandon the lane calibrations, BIST slices and pending trims whose path has gone dark: the lane keeps its trims and is calibrated
again (R421, R425). -/
def State.dropCals (s : State) (x : Nat) : State :=
  siteLanes.foldl (fun t p =>
    let l := t.lane p.1 p.2
    if l.cal ≠ 0 ∧ (peersOf p.1).any (fun b => (pathRegions p.1 b).contains x) then
      let bist := t.laneSlice p.1 p.2 || (decide (l.cal = 3) && (laneRings p.1 p.2).all (fun k => decide ((t.mring k).pending = none)))
      let t0 := t.dropSlices (fun u => match u with | .lane y n => decide (y.val = p.1) && decide (n.val = p.2) | _ => false)
      let t1 := t0.setLane p.1 p.2 { l with cal := 0, calDue := l.calDue || !bist, tx := if l.tx = .training then .idle else l.tx }
      (laneRings p.1 p.2).foldl (fun u k => u.dropTrims k) t1
    else t) s

/-- A site holds the dark notice: leases on paths through the region are void, and transfers are held (R301, R383,
R421, R425). -/
def State.hear (s : State) (at_ x : Nat) : State :=
  let r := s.region x
  if r.heard.contains at_ then s
  else
    let s1 := (s.setRegion x { r with heard := r.heard ++ [at_] }).traceOpen 3 at_ 3 none none none
    let mine := brides.filter (fun p => decide (p.1 = at_) && (pathRegions p.1 p.2).contains x)
    let s2 := mine.foldl (fun t p =>
      ((List.range 96).foldl (fun u n => u.voidLease p.1 p.2 n) t).markStanding p.1 p.2 (standing p.1 p.2) .dark) s1
    let s3 := s2.holdTransfers
    if at_ = siteH then
      ((s3.migs.filter (fun m => decide (m.phase < 5) && s3.migDark m)).foldl (fun t m => t.endDark m) s3).dropCals x
    else s3

/-- REGION_DARK_NOTICE: site `at_` receives the notice for region x (R383, Table 9-8). -/
def execRegionDarkNotice (at_ x : Fin 12) (s : State) : Out :=
  let r := s.region x.val
  .next (when (decide (r.st ≠ .up) && decide (r.st ≠ .parked)) (s.hear at_.val x.val) s)

/-- A region's lanes as a dark region shows them. -/
def State.darkLanes (s : State) (x : Nat) : State :=
  (List.range 96).foldl (fun t n =>
    let l := t.lane x n
    t.setLane x n { l with
      tx := if l.tx = .notFitted then .notFitted else .dark, txPeer := 0xF, txGroup := 3
      rx := if l.rx = .notFitted then .notFitted else .dark, rxPeer := 0xF
      offers := [], confirmed := none, granted := none, rxNext := none, ending := none, discards := false, revoked := false, relock := false }) s

/-- Every path through a region waits for its training; those out until bring-up stay out (R364, R383). -/
def State.untrain (s : State) (x : Nat) : State :=
  (brides.filter (fun p => (pathRegions p.1 p.2).contains x)).foldl (fun t p =>
    (List.range 96).foldl (fun u n =>
      let q := u.pathOf p.1 p.2 n
      if q.st = 2 then u else u.setPath p.1 p.2 n { q with st := 1, words := [], crcs := [], tried := false }) t) s

/-- The region parks its rings and its endpoint is in reset (R382, R404). -/
def State.parkRegion (s : State) (x : Nat) : State :=
  ((s.siteRingMap x MicroRing.park).darkLanes x).untrain x

/-- REGION_ENDPOINT_RESET: by now every site holds the notice; the region parks its rings and asserts its endpoint reset,
and packets on its paths are lost (Table 9-8). -/
def execRegionEndpointReset (x : Fin 12) (s : State) : Out :=
  let r := s.region x.val
  if r.st ≠ .noticed then .next s
  else
    let s1 := (List.range 12).foldl (fun t a => t.hear a x.val) s
    let s2 := s1.parkRegion x.val
    .next (s2.setRegion x.val { s2.region x.val with st := .reset })

/-- The rings of a region start their lock (R407); a site without endpoint firmware stays dark (R663). -/
def State.lockRegion (s : State) (x : Nat) : State :=
  if (s.region x).barred then s.setRegion x { s.region x with st := .dark }
  else
  let s1 := s.siteRingMap x MicroRing.relock
  (s1.setRegion x { s1.region x with st := .locking }).addReg (okey 0x6240 2) (siteRings x).length

/-- REGION_RESET_RELEASE: reset is released and the rings start their lock; a tripped region waits for its restart (R383,
R407, R409). -/
def execRegionResetRelease (x : Fin 12) (s : State) : Out :=
  let r := s.region x.val
  .next (when (decide (r.st = .reset) && !r.tripped) (s.lockRegion x.val) s)

/-- Does a ring of the site still sweep? -/
def State.siteSweeps (s : State) (x : Nat) : Bool := (siteRings x).any (fun k => decide ((s.mring k).st = .sweeping))

/-- Lanes return to rest at every site once a region serves again (R347, R385). -/
def State.restLanes (s : State) : State :=
  siteLanes.foldl (fun t p =>
    let l := t.lane p.1 p.2
    if !(t.region p.1).up then t
    else
      let t1 := if l.tx = .dark ∨ (l.tx = .idle ∧ l.cal = 0) then t.setLane p.1 p.2 (t.restTx p.1 p.2 l) else t
      if l.rx = .dark ∨ l.rx = .idle then t1.setLane p.1 p.2 (t1.restRx p.1 p.2 (t1.lane p.1 p.2)) else t1) s

/-- Schedule every lane of a site for calibration (R417, R420). -/
def State.scheduleSite (s : State) (x : Nat) : State :=
  (List.range 96).foldl (fun t n => t.setLane x n { t.lane x n with calDue := true }) s

/-- A region returns to service: held transfers resend, and a full calibration goes on with the lanes (R383, R385, R391,
R418). -/
def State.regionUp (s : State) (x : Nat) : State :=
  let r := s.region x
  let s1 := (s.setRegion x { r with st := .up, heard := [], isolated := false, asked := false, fullCal := false }).pairTrains (decide (x = siteF))
  let s2 := if r.asked && !s1.resetRuns then s1.setReg (okey 0x6020 3) 0 else s1
  let s3 := if r.fullCal then s2.scheduleSite x else s2
  ((s3.restLanes.resumeTransfers).feedDrains).reportSite x

/-- May the paths of a bride train: each region that it crosses serves, or has locked its rings (R383, Table 9-8)? -/
def State.canTrain (s : State) (a b : Nat) : Bool :=
  (pathRegions a b).all (fun x => (s.region x).up || (decide ((s.region x).st = .locking) && !s.siteSweeps x))

/-- Have the brides through a region that can train ended a training of each of their paths? -/
def State.pathsTried (s : State) (x : Nat) : Bool :=
  (brides.filter (fun p => (pathRegions p.1 p.2).contains x && s.canTrain p.1 p.2)).all (fun p =>
    (List.range 96).all (fun n => let q := s.pathOf p.1 p.2 n; decide (q.st ≠ 1) || q.tried))

/-- REGION_UP_NOTICE: once the rings of the region are locked and the paths through it have had their training, the hub announces
region-up (R385, Table 9-8). -/
def execRegionUpNotice (x : Fin 12) (s : State) : Out :=
  .next (when (decide ((s.region x.val).st = .locking) && !s.siteSweeps x.val && s.pathsTried x.val) (s.regionUp x.val) s)

/-- REGION_RETURN_TIMEOUT: a region not back within 50 ms of its reset is left dark and its site isolated; what
RegionStatus and CalStatus then read no rule states (R388; log entry 37). -/
def execRegionReturnTimeout (x : Fin 12) (s : State) : Out :=
  let r := s.region x.val
  if r.st = .up ∨ r.st = .parked ∨ r.st = .dark ∨ r.tripped then .next s
  else
    let s1 := s.setRegion x.val { r with st := .dark, isolated := true, asked := false, fullCal := false, calRun := false }
    let s2 := if r.asked && !s1.resetRuns then (s1.setReg (okey 0x6020 3) s1.freeStatus).tickFree else s1
    .next ((s2.calDrop x.val).reportSite x.val)

/-! Training (R364, R365). -/

/-- PATH_TRAINING_END: the paths of a bride that were training end it, their sources having sent 16 identity words of kind training;
`failed` are those whose training failed. A path trains only while the rings that it uses are locked (R364, R365, R367); retraining pauses
while endpoint firmware of its regions is replaced (Table 16-4). -/
def execPathTrainingEnd (src dst : Fin 12) (failed : List (Fin 96)) (s : State) : Out :=
  let a := src.val
  let b := dst.val
  if !brideExists a b ∨ (pathRegions a b).any (s.pausedBy 6) ∨ !s.canTrain a b then .next s
  else
    .next ((List.range 96).foldl (fun t n =>
      let p := t.pathOf a b n
      let t1 := t.setPath a b n { p with tried := true }
      if p.st ≠ 1 then t
      else if !(pathRings a b n).all (fun k => decide ((t.mring k).st = .locked)) then t1
      else
        let t2 := t1.sendIdent a n 1 b (pathGroup a b) 16
        if failed.any (fun f => decide (f.val = n)) then (t2.trainFail a b n).laneReturn a n
        else t2.trainPass a b n) s)

/-! Identity reports (R369, R410, R411). -/

/-- One hour in ticks. -/
def hourTicks : Nat := 172800000

/-- Start a full calibration of a region: its reset, or lane calibrations for H's rings (R418). -/
def State.startFullCal (s : State) (x : Nat) : State :=
  let s1 := (s.setRegion x { s.region x with calRun := true, fullDue := false }).bump (okey 0x6240 6)
  if x = siteH then s1.scheduleSite x
  else (s1.setRegion x { s1.region x with fullCal := true }).startReset x

/-- A region with eight wrong-line relocks within one hour, or two failed calibrations of a lane, starts a full calibration, once it serves
and no other calibration runs (R411, R418). -/
def State.dueFullCal (s : State) (x : Nat) : State :=
  let r := s.region x
  let wrong := decide (8 ≤ (r.wrongs.filter (fun t => decide (s.tb.count < t + hourTicks))).length)
  if (wrong || r.fullDue) && r.up && !r.calRun then
    (s.setRegion x { r with wrongs := if wrong then [] else r.wrongs }).startFullCal x
  else s

/-- A region records a wrong-line relock (R411). -/
def State.wrongLine (s : State) (ring : Nat) : State :=
  let x := ring / 1344
  let r := s.region x
  let ws := recent s.tb.count hourTicks r.wrongs
  (s.setRegion x { r with wrongs := ws }).dueFullCal x

/-- The calibrations that a relock of a ring interrupts, of every lane that calibrates it, start again (R415, R421). -/
def State.restartCal (s : State) (k : Nat) : State :=
  let n := slotLane (k % 1344)
  (List.range 12).foldl (fun t a =>
    let l := t.lane a n
    if (l.cal = 2 ∨ l.cal = 4) ∧ (laneRings a n).contains k then t.setLane a n { l with cal := 1 } else t) s

/-- IDENTITY_REPORT: the hub attributes the oldest mismatch report by its Lane and Wavelength fields (R369, R410). -/
def execIdentityReport (s : State) : Out :=
  match s.identReports with
  | [] => .next s
  | (d, n, w) :: rest =>
    let s0 : State := { s with identReports := rest }
    let src := bits w 59 56
    let lane := bits w 51 45
    let wave := bits w 44 41
    let lessee := if (s.lane d n).rxPeer < 12 then (s.lane d n).rxPeer else src
    if wave ≠ lane % 16 ∧ src < 12 ∧ lane < 96 then
      let g := if bits w 40 39 = 1 ∨ (bits w 40 39 = 2 ∧ src = siteH) then 1 else 0
      let ring := ringKey src (2 * lane + g)
      .next (((s0.bump (okey 0x6240 3)).relockLane src lane ring).wrongLine ring)
    else if wave = lane % 16 ∧ lane ≠ n ∧ brideExists lessee d then
      let ks := dropRing lessee d n :: (turnRing lessee d n).toList
      .next (ks.foldl (fun t k => (((t.bump (okey 0x6240 4)).ringLost k).restartCal k).wrongLine k) (s0.pathOut lessee d n))
    else if brideExists lessee d then .next (s0.pathOut lessee d n)
    else .next s0

/-! Laser modules (section 9.4). -/

/-- Mirror a module's state in LaserModuleState (Table 9-12). -/
def State.laserPut (s : State) (m : Nat) (l : Laser) : State := (s.setLaser m l).setReg (okey 0x6001 (m + 1)) l.st.code

/-- The outcome of a LaserCommand. -/
def State.laserStatus (s : State) (st : Status) : State := (s.answer st).setReg (okey 0x6004 0) st.code

/-- Does a ramp run? -/
def State.ramping (s : State) : Bool :=
  [0, 1].any (fun m => decide ((s.laser m).st = .rampUp) || decide ((s.laser m).st = .rampDown))

/-- Begin a ramp to off: the enable line falls (R360, R719). -/
def State.rampOff (s : State) (m : Nat) : State := s.laserPut m { s.laser m with st := .rampDown, enable := false }

/-- A write of LaserCommand (R360, R55; log entry 38): while a ramp runs any command is answered BUSY. -/
def State.writeLaserCommand (s : State) (v : Nat) : State :=
  if v ≠ 0x01 ∧ v ≠ 0x02 ∧ v ≠ 0x11 ∧ v ≠ 0x12 then s.answer .typeMismatch
  else
    let m := v % 16 - 1
    let l := s.laser m
    if s.ramping then s.answer .busy
    else if v < 0x10 then
      if (s.laser (1 - m)).st ≠ .supplying then s.laserStatus .busy
      else if !l.st.supplies then s.laserStatus .notReady
      else ((s.rampOff m).answer .ok).setReg (okey 0x6004 0) Status.busy.code
    else if l.st ≠ .seated ∨ !l.seat then s.laserStatus .notReady
    else ((s.laserPut m { l with st := .rampUp, enable := true }).answer .ok).setReg (okey 0x6004 0) Status.busy.code

/-- LASER_RELEASE: LaserCommand 0x01 or 0x02 (R360). -/
def execLaserRelease (m : Fin 2) (s : State) : Out := .next (s.writeLaserCommand (m.val + 1))
/-- LASER_START: LaserCommand 0x11 or 0x12 (R360). -/
def execLaserStart (m : Fin 2) (s : State) : Out := .next (s.writeLaserCommand (m.val + 0x11))

/-- No module supplies light: every region is dark, with every die's work discarded (R86, R230, R362). -/
def State.allDark (s : State) : State :=
  let sites := (List.range 12).filter (fun x => decide ((s.region x).st ≠ .parked))
  let s1 := sites.foldl (fun t x =>
    let r := t.region x
    let t1 := t.setRegion x { r with st := .dark, heard := List.range 12 }
    let t2 := match dieAt x with | some d => t1.discardDie d { cause := Status.regionDark.code } | none => t1
    t2.parkRegion x) s
  let s2 := (s1.migs.filter (fun m => decide (m.phase < 5) && s1.migDark m)).foldl (fun t m => t.endDark m) s1
  let s3 := sites.foldl (fun t x => t.dropCals x) s2.pairLost
  (sites.foldl (fun t x => t.reportSite x) s3.holdTransfers).dropFresh

/-- Light is back: every dark region that is neither isolated nor tripped starts its lock (R362, R651). -/
def State.lightBack (s : State) : State :=
  ((List.range 12).filter (fun x => let r := s.region x
    decide (r.st = .dark) && !r.isolated && !r.tripped)).foldl (fun t x => t.lockRegion x) s

/-- While only one module supplies light, no multicast lease stands (R357). -/
def State.endMulticasts (s : State) : State :=
  siteLanes.foldl (fun t p => if (t.lane p.1 p.2).txPeer = 0xE then t.endTx p.1 p.2 else t) s

/-- LASER_RAMP_END: the module reads supplying or removable (R360). -/
def execLaserRampEnd (m : Fin 2) (s : State) : Out :=
  let l := s.laser m.val
  if l.st = .rampUp then .next (((s.laserPut m.val { l with st := .supplying, silent := 0 }).setReg (okey 0x6004 0) 0).lightBack)
  else if l.st = .rampDown then
    let s1 := (s.laserPut m.val { l with st := .removable }).setReg (okey 0x6004 0) 0
    .next (if (s1.laser (1 - m.val)).st.supplies then s1.endMulticasts else s1.allDark)
  else .next s

/-- The module stops emitting: reported failed, and with no other module supplying every region goes dark (R361, R362). -/
def State.laserFail (s : State) (m : Nat) (st : LaserSt) : State :=
  let s1 := s.laserPut m { s.laser m with st := st, enable := false }
  if (s1.laser (1 - m)).st.supplies then s1.endMulticasts else s1.allDark

/-- LASER_LOSS: a module that supplies light stops without a release; no lane leaves service for this cause (R361). -/
def execLaserLoss (m : Fin 2) (s : State) : Out :=
  .next (when (s.laser m.val).st.supplies (s.laserFail m.val .failed) s)

/-- LASER_LOSS_BOTH: both modules stop supplying (R362). -/
def execLaserLossBoth (s : State) : Out :=
  let off (t : State) (m : Nat) : State :=
    if (t.laser m).st.supplies then t.laserPut m { t.laser m with st := .failed, enable := false } else t
  .next (when ((s.laser 0).st.supplies || (s.laser 1).st.supplies) (off (off s 0) 1).allDark s)

/-- LASER_LIGHT_RETURN: light of a failed module that is seated returns without a start command; the hub retrains every
bride (R362). -/
def execLaserLightReturn (m : Fin 2) (s : State) : Out :=
  let l := s.laser m.val
  .next (when (decide (l.st = .failed) && l.seat)
    ((s.laserPut m.val { l with st := .supplying, enable := true, silent := 0 }).lightBack) s)

/-- LASER_SEAT_REPORT: the module's I3C report of its seat contact (R55, R719, R720). -/
def execLaserSeatReport (m : Fin 2) (seated : Bool) (s : State) : Out :=
  let l := s.laser m.val
  if seated then
    let st := if l.st = .absent ∨ l.st = .removable ∨ l.st = .failed then LaserSt.seated else l.st
    .next (s.laserPut m.val { l with seat := true, st := st })
  else
    let s1 := s.setLaser m.val { l with seat := false }
    .next (if l.st.supplies then s1.laserFail m.val .absent else s1.laserPut m.val { s1.laser m.val with st := .absent, enable := false })

end Sys2Proof.Machine
end

