-- ==== Sys2Proof/Machine/SpecialFn.lean ====
section
/-! DEFINITION. Special function instructions (sections 5.7, 6.1 to 6.10): elementwise functions, softmax, normalisation,
reductions, top-k, SAMPLE and TREEVERIFY with the sampling-state record. -/

namespace Sys2Proof.Machine

open Sys2Proof

/-! Rows and spans. -/

/-- Imm[12] of a special function instruction (Table 6-1). -/
def immSpan (w : Nat) : Bool := decide (bits (fImm w) 12 12 = 1)
/-- Imm[11]: MaskB of SOFTMAX. -/
def immMask (w : Nat) : Bool := decide (bits (fImm w) 11 11 = 1)
/-- Imm[5:0]: EpsExp of the normalisations. -/
def immEps (w : Nat) : Nat := bits (fImm w) 5 0
/-- Imm[8:0]: k of TOPK. -/
def immK (w : Nat) : Nat := bits (fImm w) 8 0

/-- The bits of Imm that Table 6-1 marks 0 hold 0 (R233). -/
def immOk (op : SfuOp) (w : Nat) : Bool :=
  match op with
  | .exp | .recip | .rsqrt | .silu | .gelu => decide (fImm w = 0)
  | .softmax => decide (bits (fImm w) 10 0 = 0)
  | .rmsnorm | .layernorm => decide (bits (fImm w) 12 6 = 0)
  | .redsum | .redmax | .sample | .treeverify => decide (bits (fImm w) 11 0 = 0)
  | .topk => decide (bits (fImm w) 11 9 = 0)

/-- Number of logical rows (R232). -/
def Desc.logRows (d : Desc) (span : Bool) : Nat := if span then d.dim2 else d.dim1 * d.dim2

/-- Length of a logical row (R232). -/
def Desc.logLen (d : Desc) (span : Bool) : Nat := if span then d.dim0 * d.dim1 else d.dim0

/-- FP32 or BF16, the operand formats of the unit (R206). -/
def Fmt.fb (f : Fmt) : Bool := decide (f = .fp32) || decide (f = .bf16)

/-- An element as FP32 code, with the flags of reading it. -/
def Operand.code32 (o : Operand) (m : Tbl Byte) (i1 i2 i : Nat) : Flagged Nat :=
  let (x, g) := o.value m i1 i2 i
  ((toF32 x).1, g)

/-- The logical rows as FP32 codes with read flags (R232). -/
def Operand.logical (o : Operand) (m : Tbl Byte) (span : Bool) : List (List (Flagged Nat)) :=
  let rows := o.d.rows.map (fun r => (List.range o.d.dim0).map (fun i => o.code32 m r.1 r.2 i))
  if span then (List.range o.d.dim2).map (fun i2 => ((rows.drop (i2 * o.d.dim1)).take o.d.dim1).flatMap (fun x => x)) else rows

/-- The codes of a row and the flags of reading it. -/
def rowFlags (r : List (Flagged Nat)) : Nat := orAll (r.map (·.2))

/-- Write a run of FP32 results into Dst in order, rounding each into its format (R237). -/
def putFlat (o : Operand) (m : Tbl Byte) (cs : List Nat) : Tbl Byte × Nat :=
  putRows o m (o.d.rows.zip ((chunks o.d.dim0 (cs.length + 1) cs).map (fun r => r.map (f32Into o.f))))

/-! The order of values (R243, R244). -/

/-- Is x above y, NaN below every number and equal to NaN? -/
def aboveNum (x y : Fp) : Bool := if x.isNan then false else if y.isNan then true else Fp.ltNum y x

/-- Insert a position into a list kept in descending value with lower position first among equals. -/
def insertDesc (val : Nat → Fp) (i : Nat) : List Nat → List Nat
  | [] => [i]
  | j :: r => if aboveNum (val i) (val j) || (!aboveNum (val j) (val i) && decide (i < j)) then i :: j :: r else j :: insertDesc val i r

/-- Positions in descending value, lower position first among equals. -/
def descOrder (val : Nat → Fp) (l : List Nat) : List Nat := l.foldl (fun a i => insertDesc val i a) []

/-! Checks. -/

/-- Does the operation read SrcB (R234)? -/
def usesB (op : SfuOp) (w : Nat) : Bool :=
  match op with
  | .rmsnorm | .layernorm | .treeverify => true
  | .softmax => immMask w
  | _ => false

/-- Extents and formats of Dst and SrcB (R204, R235, Table 6-2). -/
def sfuShape (op : SfuOp) (w : Nat) (o : Operands3) : Bool :=
  let a := o.a.d
  let d := o.dst.d
  let b := o.b.d
  let r := a.logRows (immSpan w)
  let oneOf (x y : Nat) : Bool := decide (x = y) || decide (x = 1)
  o.a.f.fb &&
  match op with
  | .exp | .recip | .rsqrt | .silu | .gelu => o.dst.f.fb && sameDims d a
  | .softmax =>
    o.dst.f.fb && sameDims d a &&
    (!immMask w || (o.b.f.fb && oneOf b.dim2 a.dim2 &&
      (if immSpan w then decide (b.dim0 = a.dim0) && decide (b.dim1 = a.dim1)
       else oneOf b.dim1 a.dim1 && decide (b.dim0 ≤ a.dim0))))
  | .rmsnorm | .layernorm =>
    o.dst.f.fb && sameDims d a && o.b.f.fb && decide (b.dim0 = a.dim0) && decide (b.dim1 = 1) && decide (b.dim2 = 1)
  | .redsum | .redmax => o.dst.f.fb && decide (d.dim0 = 1) && decide (d.dim1 * d.dim2 = r)
  | .topk => decide (o.dst.f = .fp32) && decide (d.dim0 = 2 * immK w) && decide (d.dim1 * d.dim2 = r)
  | .sample => decide (o.dst.f = .fp32) && decide (d.dim0 = 8) && decide (d.dim1 * d.dim2 = r)
  | .treeverify =>
    decide (o.dst.f = .fp32) && decide (d.dim0 = 72) && decide (d.dim1 = 1) && decide (d.dim2 = 1) && decide (o.b.f = .fp32) &&
    decide (b.dim0 = 2) && decide (b.dim2 = 1) && decide (r = b.dim1)

/-- The record that SAMPLE and TREEVERIFY act on: the one held in the unit, or the working copy's at the first use
(R247, R248). -/
def State.heldRecord (s : State) (g : Grant) (r : CoreRun) : List Nat :=
  match r.sfu with
  | some ws => ws
  | none => samplingWords (s.stream g.stream).working

/-- Does the operation use the sampling-state record? -/
def usesRecord (op : SfuOp) : Bool := decide (op = .sample) || decide (op = .treeverify)

/-- The draft tree table breaks a rule of R258 for a logits row of n. -/
def treeTableBad (o : Operand) (m : Tbl Byte) (n : Nat) : Bool :=
  !parentsOk (treeParents o m) ||
  !(treeTokens o m).zipIdx.all (fun t => decide (t.2 = 0) || (match t.1 with | some x => decide (x < n) | none => false))

/-- The checks of a special function instruction, in the order of Table 5-18. DESIGN CHOICE (log entry 69): of a row operation whose SrcA
has no element, SrcA alone decides, and it completes with no effect. -/
def State.sfuCheck (s : State) (op : SfuOp) (k : Nat) (g : Grant) (r : CoreRun) (q : QInstr) : Chk :=
  let o := s.operands3 g q
  let w := q.word
  let used := [o.dst, o.a] ++ (if usesB op w then [o.b] else [])
  let ws := s.heldRecord g r
  let n := o.a.d.logLen (immSpan w)
  let recType := !usesRecord op || decide (recCheck ws ≠ some .typeMismatch)
  let lens : List (Option Bad) :=
    [need (decide (n ≤ 1048576)) .lengthExceeds] ++
    (if op = .topk then [need (decide (immK w ≤ 256) && decide (immK w ≤ n)) .lengthExceeds] else []) ++
    (if usesRecord op then [need (decide (recTopK ws ≤ 1024)) .lengthExceeds] else []) ++
    (if op = .treeverify then [need (decide (o.b.d.dim1 ≤ 64)) .lengthExceeds] else [])
  if usesRecord op && decide (r.pos ≠ 0) then .of [need false .typeMismatch] .go
  else
    let c := vecCheck used (decide (o.a.d.count = 0) || (decide (op = .topk) && decide (immK w = 0)))
      (immOk op w && sfuShape op w o && recType) lens
    if c = .go ∧ op = .treeverify ∧ treeTableBad o.b (s.core k).scratch n then .of [need false .typeMismatch] .go else c

/-- Start a special function instruction. -/
def State.sfuStart (s : State) (die core : Nat) (op : SfuOp) (run : State → Nat → Grant → QInstr → State) : State :=
  s.startUnit die core 7 5 op.code (fun k g r q => s.sfuCheck op k g r q) (fun k g q t => run t k g q)

/-- An operation that works row by row: `f` gives the FP32 results of one logical row, by its number, and their flags. -/
def State.sfuRows (s : State) (k : Nat) (g : Grant) (q : QInstr)
    (f : Operands3 → Tbl Byte → Nat → List (Flagged Nat) → List Nat × Nat) : State :=
  let o := s.operands3 g q
  let m := (s.core k).scratch
  let res := (o.a.logical m (immSpan q.word)).zipIdx.map (fun r => f o m r.2 r.1)
  let (m1, fl) := putFlat o.dst m (res.flatMap (·.1))
  (s.setScratch k m1).flagRun k (orFlags fl (orAll (res.map (·.2))))

/-! Elementwise functions. -/

/-- EXP, RECIP, RSQRT, SILU, GELU of every element (Table 6-3). -/
def State.sfuMap (s : State) (die core : Nat) (op : SfuOp) : State :=
  s.sfuStart die core op (fun t k g q => t.sfuRows k g q (fun _ _ _ row =>
    unzipFlags (row.map (fun x => sfuElem op (f32 x.1) (Config.sfuFree op.code [x.1] 0)))))

/-- EXP: e^A (Table 6-3). -/
def execExp (die : Fin 8) (core : Fin 48) (s : State) : Out := .next (s.sfuMap die.val core.val .exp)
/-- RECIP: 1 / A (Table 6-3). -/
def execRecip (die : Fin 8) (core : Fin 48) (s : State) : Out := .next (s.sfuMap die.val core.val .recip)
/-- RSQRT: 1 / √A (Table 6-3). -/
def execRsqrt (die : Fin 8) (core : Fin 48) (s : State) : Out := .next (s.sfuMap die.val core.val .rsqrt)
/-- SILU: A / (1 + e^−A) (Table 6-3). -/
def execSilu (die : Fin 8) (core : Fin 48) (s : State) : Out := .next (s.sfuMap die.val core.val .silu)
/-- GELU: A × Φ(A) (Table 6-3). -/
def execGelu (die : Fin 8) (core : Fin 48) (s : State) : Out := .next (s.sfuMap die.val core.val .gelu)

/-! SOFTMAX (R236, R239, R240). -/

/-- The mask element that meets position p of logical row ℓ, if any: a tail mask leaves the earlier positions unmasked. -/
def maskAt (o : Operands3) (m : Tbl Byte) (span : Bool) (l p : Nat) : Option Nat :=
  let a := o.a.d
  let b := o.b.d
  if span then some (o.b.code32 m (p / a.dim0) (bIdx b.dim2 l) (p % a.dim0)).1
  else if p + b.dim0 < a.dim0 then none
  else some (o.b.code32 m (bIdx b.dim1 (l % a.dim1)) (bIdx b.dim2 (l / a.dim1)) (p + b.dim0 - a.dim0)).1

/-- The +∞ of an element or of its mask is read, even where the other makes the sum NaN (Table 4-7). -/
def maskFlags (a b : Nat) : Nat := if f32 a == .inf false || f32 b == .inf false then flagInfInput else 0

/-- The row with its mask added in FP32 (R239). -/
def maskedRow (o : Operands3) (m : Tbl Byte) (w l : Nat) (row : List (Flagged Nat)) : List (Flagged Nat) :=
  if immMask w then
    row.zipIdx.map (fun x => match maskAt o m (immSpan w) l x.2 with
      | some b => let (c, g) := f32Add x.1.1 b; (c, orFlags g (maskFlags x.1.1 b))
      | none => (x.1.1, 0))
  else row.map (fun x => (x.1, 0))

/-- SOFTMAX of each logical row (R239, R240). -/
def execSoftmax (die : Fin 8) (core : Fin 48) (s : State) : Out :=
  .next (s.sfuStart die.val core.val .softmax (fun t k g q => t.sfuRows k g q (fun o m l row =>
    let xs := maskedRow o m q.word l row
    let cs := xs.map (·.1)
    let (ys, fl) := softmaxRow cs (fun i => Config.sfuFree SfuOp.softmax.code (fImm q.word :: cs) i)
    (ys, orFlags fl (rowFlags xs)))))

/-! Normalisation (R241, R242). -/

/-- Σ v / n + ε as an exact value, from an FP32 sum. -/
def meanPlus (sum n eps : Nat) : Fp :=
  match f32 sum with
  | .fin s m e =>
    let q := divRef (.fin s m e) (Fp.ofInt n)
    if eps = 0 then q else (Fp.add q (pow2 (-(eps : Int)))).1
  | x => x

/-- RSQRT of the mean square, as an exact value with flags (R242, Table 6-3). -/
def rsqrtOf (t : Fp) : Flagged Fp :=
  match t with
  | .nan => (.nan, 0)
  | .inf _ => (.fin false 0 0, 0)
  | .fin s m e => if m = 0 then (.inf false, flagInfProduced) else if s then (.nan, flagNanProduced) else (rsqrtRef (.fin s m e), 0)

/-- x × gain × the factor: within 4 ulp where everything is finite, the special values of R152 elsewhere. -/
def normElem (x gain factor : Fp) (offered : Nat) : Flagged Nat :=
  let (p, g) := Fp.mul x gain
  let (r, h) := Fp.mul p factor
  match r with
  | .fin .. =>
    if r.isZero then ((toF32 r).1, orFlags g h)
    else
      let (c, e) := finOrInf (pickWithin r (fpTimes 4 (ulp32 r)) offered)
      (c, orAll [g, h, e])
  | _ => ((toF32 r).1, orFlags g h)

/-- One row of RMSNORM or LAYERNORM: FP32 sums in the order of R238; the bound of 4 ulp is against the exact result of
those sums (Table 6-3). DESIGN CHOICE (log entry 69): μ and x − μ are FP32 values, each rounded once, before the bound is measured. -/
def normRow (op : SfuOp) (w : Nat) (xs gains : List Nat) : List Nat × Nat :=
  let n := xs.length
  let (mu, fm) :=
    if op = .layernorm then
      let (s, f) := fixedSum xs
      ((toF32 (meanPlus s n 0)).1, f)
    else (0, 0)
  let devs : List (Flagged Nat) := if op = .layernorm then xs.map (fun x => f32Sub x mu) else xs.map (fun x => (x, 0))
  let sq := devs.map (fun d => f32Mul d.1 d.1)
  let (s, f2) := fixedSum (sq.map (·.1))
  let (factor, f3) := rsqrtOf (meanPlus s n (immEps w))
  let ys := (devs.zip gains).zipIdx.map (fun e =>
    normElem (f32 e.1.1.1) (f32 e.1.2) factor (Config.sfuFree op.code (fImm w :: xs ++ gains) e.2))
  ((ys.map (·.1)), orAll [fm, orAll (devs.map (·.2)), orAll (sq.map (·.2)), f2, f3, orAll (ys.map (·.2))])

/-- RMSNORM and LAYERNORM. -/
def State.sfuNorm (s : State) (die core : Nat) (op : SfuOp) : State :=
  s.sfuStart die core op (fun t k g q => t.sfuRows k g q (fun o m _ row =>
    let gains := (List.range o.b.d.dim0).map (fun i => o.b.code32 m 0 0 i)
    let (ys, fl) := normRow op q.word (row.map (·.1)) (gains.map (·.1))
    (ys, orAll [fl, rowFlags row, rowFlags gains])))

/-- RMSNORM: x × gain × RSQRT(Σ x² / n + ε) (R241). -/
def execRmsnorm (die : Fin 8) (core : Fin 48) (s : State) : Out := .next (s.sfuNorm die.val core.val .rmsnorm)
/-- LAYERNORM: (x − μ) × gain × RSQRT(Σ (x − μ)² / n + ε) (R241). -/
def execLayernorm (die : Fin 8) (core : Fin 48) (s : State) : Out := .next (s.sfuNorm die.val core.val .layernorm)

/-! Reductions and top-k. -/

/-- REDSUM: the sum of each row in the order of R238. -/
def execRedsum (die : Fin 8) (core : Fin 48) (s : State) : Out :=
  .next (s.sfuStart die.val core.val .redsum (fun t k g q => t.sfuRows k g q (fun _ _ _ row =>
    let (c, fl) := fixedSum (row.map (·.1))
    ([c], orFlags fl (rowFlags row)))))

/-- The largest of a row, NaN below every other value (R243). -/
def redmaxRow (cs : List Nat) : Nat :=
  match cs.filter (fun c => !(f32 c).isNan) with
  | [] => nanCode fmtFP32
  | c :: r => r.foldl (fun a x => if Fp.lt (f32 a) (f32 x) then x else a) c

/-- REDMAX: the maximum of each row (R243). -/
def execRedmax (die : Fin 8) (core : Fin 48) (s : State) : Out :=
  .next (s.sfuStart die.val core.val .redmax (fun t k g q => t.sfuRows k g q (fun _ _ _ row =>
    ([redmaxRow (row.map (·.1))], rowFlags row))))

/-- TOPK: the k largest elements of each row and their positions (R244). -/
def execTopk (die : Fin 8) (core : Fin 48) (s : State) : Out :=
  .next (s.sfuStart die.val core.val .topk (fun t k g q => t.sfuRows k g q (fun _ _ _ row =>
    let cs := row.map (·.1)
    let top := (descOrder (fun i => f32 (cs.getD i 0)) (List.range cs.length)).take (immK q.word)
    (top.map (fun i => (toF32 (f32 (cs.getD i 0))).1) ++ top.map f32OfNat, rowFlags row))))

/-! SAMPLE (R251 to R253, R737). -/

/-- What a draw from one row finds. -/
structure Draw where
  token : Nat
  prob : Nat
  logit : Nat
  top1 : Nat
  p1 : Nat
  p2 : Nat
  u : Nat
  count : Nat
  /-- Slack of the draw, an FP32 code (R518). -/
  slack : Nat
  deriving DecidableEq, Repr

/-- A running sum over candidates, from the first one's p, one rounding each (R737): the first candidate at which `stop`
holds, with the candidates up to it. -/
def runSum (p : Nat → Nat) (stop : Nat → Bool) : List Nat → Option Nat → List Nat → Option Nat × List Nat
  | [], _, seen => (none, seen)
  | i :: r, sum, seen =>
    let s := match sum with | none => p i | some a => (f32Add a (p i)).1
    if stop s then (some i, seen ++ [i]) else runSum p stop r (some s) (seen ++ [i])

/-- The candidate set of steps 3 and 4 in its order (R251). -/
def candidates (ws : List Nat) (logit p : Nat → Nat) (n : Nat) : List Nat :=
  let tk := recTopK ws
  let whole := List.range n
  let set3 :=
    if (tk ≠ 0 ∧ n ≤ tk) ∨ (tk = 0 ∧ !recNucleus ws) then whole
    else
      let best := (descOrder (fun i => f32 (logit i)) whole).take (if tk = 0 then 1024 else tk)
      descOrder (fun i => f32 (p i)) best
  if recNucleus ws then
    let target := (f32Mul (recTopP ws) (fixedSum (set3.map p)).1).1
    let order := descOrder (fun i => f32 (p i)) set3
    (runSum p (fun s => !(Fp.ltNum (f32 s) (f32 target)) && !(f32 s).isNan && !(f32 target).isNan) order none []).2
  else set3

/-- The running sums before and at the candidate where `stop` holds, or at the last one. -/
def sumEnds (p : Nat → Nat) (stop : Nat → Bool) : List Nat → Option Nat → Nat × Nat
  | [], prev => (prev.getD 0, prev.getD 0)
  | i :: r, prev =>
    let s := match prev with | none => p i | some a => (f32Add a (p i)).1
    if stop s ∨ r.isEmpty then (prev.getD 0, s) else sumEnds p stop r (some s)

/-- Slack of a sampled draw: the distance from u × S′ to the nearer end of the chosen interval, on either side of it, divided by S′ (R518). -/
def drawSlack (thr total : Nat) (ends : Nat × Nat) : Nat :=
  let lo := (f32 (f32Sub thr ends.1).1).abs
  let hi := (f32 (f32Sub ends.2 thr).1).abs
  let d := if Fp.lt lo hi then lo else hi
  if (f32 total).isZero ∨ !(f32 total).isFin ∨ !d.isFin then 0 else (toF32 (divRef d (f32 total))).1

/-- One draw (R251 steps 1 to 5): the free code at a position stands for the softmax result within its bound. A row of
one element has no second-largest probability; its value is free (log entry 22). DESIGN CHOICE (log entry 69): beside a NaN or +∞ every p is
NaN; NaN logits come lowest, the NaN p are equal, no running sum stops, and the last of the whole set is drawn. -/
def drawRow (ws : List Nat) (stream d : Nat) (xs : List Nat) : Option Draw × Nat :=
  let n := xs.length
  let vs := xs.map f32
  let hasNan := vs.any Fp.isNan
  let hasInf := vs.any (fun x => x == .inf false)
  if !vs.any Fp.isFin then
    (none, orFlags (if hasNan then flagNanInput else 0)
      (if hasInf || vs.all (fun x => x == .inf true) then flagInfInput else 0))
  else
    let t : Fp := if recGreedy ws then .fin false 1 0 else f32 (recTemperature ws)
    let scaled := vs.map (fun x => match x with | .fin .. => toF32 (divRef x t) | _ => ((toF32 x).1, 0))
    let cs := scaled.map (·.1)
    let (ps, fl) := softmaxRow cs (fun i => Config.sfuFree SfuOp.sample.code cs i)
    let flags := orFlags fl (orAll (scaled.map (·.2)))
    let p (i : Nat) : Nat := ps.getD i 0
    let logit (i : Nat) : Nat := xs.getD i 0
    let top1 := (descOrder (fun i => f32 (logit i)) (List.range n)).headD 0
    let byP := descOrder (fun i => f32 (p i)) (List.range n)
    let p1 := p (byP.headD 0)
    let p2 := match byP with | _ :: j :: _ => p j | _ => Config.sfuFree 32 cs 0 % 2 ^ 32
    if recGreedy ws then
      (some { token := top1, prob := p top1, logit := logit top1, top1 := top1, p1 := p1, p2 := p2, u := 0, count := 1,
              slack := (f32Sub p1 p2).1 }, flags)
    else
      let set := candidates ws logit p n
      let u := drawU (wd ws 0) stream d
      let total := (fixedSum (set.map p)).1
      let thr := (f32Mul u total).1
      let c := ((runSum p (fun s => Fp.ltNum (f32 thr) (f32 s)) set none []).1).getD (set.getLastD 0)
      (some { token := c, prob := p c, logit := logit c, top1 := top1, p1 := p1, p2 := p2, u := u, count := set.length,
              slack := drawSlack thr total (sumEnds p (fun s => Fp.ltNum (f32 thr) (f32 s)) set none) }, flags)

/-- Positions 0 to 7 of Table 6-5. -/
def drawOut : Option Draw → List Nat
  | none => [0xBF800000, 0, 0, 0xBF800000, 0, 0, 0, 0]
  | some d => [f32OfNat d.token, d.prob, (toF32 (f32 d.logit)).1, f32OfNat d.top1, d.p1, d.p2, d.u, f32OfNat d.count]

/-- Record a draw: LastToken, LastProbability, LastTop1Token, LastU and LastMargin (R252). -/
def recLast (ws : List Nat) (d : Draw) : List Nat :=
  [wd ws 0, wd ws 1, wd ws 2, setField (wd ws 3) 31 0 d.token, d.prob * 2 ^ 32 + d.top1, wd ws 5,
   d.u * 2 ^ 32 + (f32Sub d.p1 d.p2).1, wd ws 7]

/-- Set DrawIndex. -/
def recDraws (ws : List Nat) (n : Nat) : List Nat :=
  [wd ws 0, n % 2 ^ 64, wd ws 2, wd ws 3, wd ws 4, wd ws 5, wd ws 6, wd ws 7]

/-- Keep the record in the unit (R248). -/
def State.holdRecord (s : State) (k : Nat) (ws : List Nat) : State :=
  match s.run k with
  | some r => s.setRun k (some { r with sfu := some ws })
  | none => s

/-- The record as the running part of a core holds it. -/
def State.recordOf (s : State) (k : Nat) (g : Grant) : List Nat :=
  match s.run k with
  | some r => s.heldRecord g r
  | none => samplingWords (s.stream g.stream).working

/-- Note the draws of an entry: the tokens it emits and its smallest slack (Table 12-5, R518). -/
def State.noteDraws (s : State) (g : Grant) (tokens : List Nat) (ds : List Draw) : State :=
  s.setEntry g.frame g.entry (fun e => { e with
    drew := true
    tokens := e.tokens ++ tokens
    slack := ds.foldl (fun a d => match a with
      | none => some d.slack
      | some b => some (if Fp.lt (f32 d.slack) (f32 b) then d.slack else b)) e.slack })

/-- The effect of SAMPLE (R251 to R253). -/
def State.sampleRun (s : State) (k : Nat) (g : Grant) (q : QInstr) : State :=
  let o := s.operands3 g q
  let m := (s.core k).scratch
  let ws := s.recordOf k g
  let rows := o.a.logical m (immSpan q.word)
  let draws := rows.zipIdx.map (fun r => drawRow ws g.stream ((wd ws 1 + r.2) % 2 ^ 64) (r.1.map (·.1)))
  let (m1, fl) := putFlat o.dst m (draws.flatMap (fun d => drawOut d.1))
  let last := (draws.filterMap (·.1)).getLast?
  let ws1 := recDraws (match last with | some d => recLast ws d | none => ws) (wd ws 1 + rows.length)
  let found := draws.filterMap (·.1)
  (((s.setScratch k m1).flagRun k (orFlags fl (orAll (draws.map (·.2))))).holdRecord k ws1).noteDraws g (found.map (·.token)) found

/-- SAMPLE: one token per row under the stream's sampling state (R251). -/
def execSample (die : Fin 8) (core : Fin 48) (s : State) : Out :=
  .next (s.sfuStart die.val core.val .sample (fun t k g q => t.sampleRun k g q))

/-! TREEVERIFY (R260 to R262). -/

/-- What the walk of R260 yields: the accepted path, the final draw, the last draw that found a finite logit, flags. -/
structure Walk where
  path : List Nat := []
  final : Option Draw := none
  last : Option Draw := none
  draws : List Draw := []
  flags : Nat := 0
  deriving DecidableEq, Repr

/-- The walk down the tree, at most one level per node. -/
def treeWalk (ws : List Nat) (stream : Nat) (rows : List (List Nat)) (parents tokens : List Nat) :
    Nat → Nat → Walk → Walk
  | 0, _, w => w
  | fuel + 1, p, w =>
    let (d, fl) := drawRow ws stream ((wd ws 1 + w.path.length) % 2 ^ 64) (rows.getD p [])
    let latest := match d with | some x => some x | none => w.last
    let w1 : Walk := { w with flags := orFlags w.flags fl, final := d, draws := w.draws ++ d.toList, last := latest }
    match d with
    | none => w1
    | some x =>
      match (List.range parents.length).find? (fun j => decide (1 ≤ j) && decide (parents.getD j 0 = p) && decide (tokens.getD j 0 = x.token)) with
      | some j => treeWalk ws stream rows parents tokens fuel j { w1 with path := w1.path ++ [j] }
      | none => w1

/-- The record after a walk (R261). -/
def recWalk (ws : List Nat) (w : Walk) (tokens : List Nat) (n : Nat) : List Nat :=
  let a := w.path.length
  let w1 := match w.final, w.last with
    | some d, _ => recLast ws d
    | none, some d => recLast ws d
    | none, none => ws
  let tok := match w.final, w.path.getLast? with
    | some d, _ => d.token
    | none, some j => tokens.getD j 0
    | none, none => recLastToken ws
  let w2 := recDraws w1 (wd ws 1 + a + 1)
  [wd w2 0, wd w2 1, wd w2 2, setField (wd w2 3) 31 0 tok, wd w2 4,
   (bits (wd ws 5) 63 32 + a) % 2 ^ 32 * 2 ^ 32 + (bits (wd ws 5) 31 0 + (n - 1)) % 2 ^ 32, wd w2 6, wd w2 7]

/-- The effect of TREEVERIFY (R260, R261, Table 6-6). -/
def State.verifyRun (s : State) (k : Nat) (g : Grant) (q : QInstr) : State :=
  let o := s.operands3 g q
  let m := (s.core k).scratch
  let ws := s.recordOf k g
  let rows := (o.a.logical m (immSpan q.word)).map (fun r => r.map (·.1))
  let parents := (treeParents o.b m).map (fun p => p.getD 0)
  let tokens := (treeTokens o.b m).map (fun p => p.getD 0)
  let w := treeWalk ws g.stream rows parents tokens (parents.length + 1) 0 {}
  let a := w.path.length
  let out := w.path.map f32OfNat ++ List.replicate (64 - a) 0xBF800000 ++ [f32OfNat a] ++ (drawOut w.final).take 7
  let (m1, fl) := putFlat o.dst m out
  let told := w.path.map (fun j => tokens.getD j 0) ++ (w.final.map (·.token)).toList
  (((s.setScratch k m1).flagRun k (orFlags fl w.flags)).holdRecord k (recWalk ws w tokens parents.length)).noteDraws g told w.draws

/-- TREEVERIFY: verification of one draft tree (R260). -/
def execTreeverify (die : Fin 8) (core : Fin 48) (s : State) : Out :=
  .next (s.sfuStart die.val core.val .treeverify (fun t k g q => t.verifyRun k g q))

end Sys2Proof.Machine
end

