-- ==== Sys2Proof/Machine/Pair.lean ====
section
/-! DEFINITION. The redundant pair (chapter 12): roles, joining, commit records, comparison, known-answer checks, takeover
and resync. -/

namespace Sys2Proof.Machine

open Sys2Proof

/-! The link and what the unit reports of itself. -/

/-- A pair record: 1 commit record sent, 2 applied, 3 missed, 4 classification (Table 17-5). -/
def State.tracePair (s : State) (event frame : Nat) : State := s.traceOpen 5 siteH event (some 0x13) (some frame) none

/-- Is the unit paired (R493)? -/
def State.paired (s : State) : Bool := decide (s.pair.role ≠ .unpaired)

/-- Change the pair's state. -/
def State.setPair (s : State) (f : Pair → Pair) : State := { s with pair := f s.pair }

/-- A limit, tolerance or window in force since the last frame boundary (R535). -/
def State.limit (s : State) (idx : Nat) : Nat := Tbl.get (dictDflt (okey idx 0)) s.pair.limits (okey idx 0)

/-- Paired streams that are not Closed, ascending. -/
def State.pairedStreams (s : State) : List Nat :=
  (s.streams.filter (fun e => e.2.paired && decide (e.2.st ≠ .closed))).map (·.1)

/-- Has a die passed the known-answer pattern within 2 × KatInterval (R532)? -/
def State.katFresh (s : State) (d : Nat) : Bool :=
  let f := Tbl.get 0 s.pair.katPass d
  decide (f ≠ 0) && decide ((s.tb.frame - (f - 1)) * s.tb.frameLength ≤ 2 * s.reg (okey 0x8026 0) * 48000)

/-- Is every paired stream that the last HELLO shows open on the active unit Synced here (R532)? -/
def State.allSynced (s : State) : Bool :=
  match s.pair.partner with
  | some h => h.opened.all (fun i => (s.stream i).paired && decide ((s.stream i).st ≠ .closed) && decide ((s.stream i).sync = 1))
  | none => false

/-- TakeoverReady of a standby (R532); an active unit shows its partner's last reported value (Table 12-11). -/
def State.takeoverReady (s : State) : Bool :=
  if s.pair.role = .active then (match s.pair.partner with | some h => h.ready | none => false)
  else
    decide (s.pair.role = .standby) && s.linkUp && s.pair.aligned && s.pair.config &&
    s.allSynced && decide (s.pair.suspect = []) &&
    (List.range 8).all s.katFresh && decide (s.limit 0x8025 ≤ s.pair.applied)

/-- The HELLO that the unit sends (Table 12-2). -/
def State.myHello (s : State) : Hello :=
  { claim := s.claim, priority := s.reg (okey 0x8002 0), serial := s.reg (okey 0x0101 4), role := s.pair.role.code, begun := s.tb.begun,
    frameLength := s.tb.frameLength, anchorFrame := s.tb.frame, anchorTick := s.tb.frameStart, digest := s.reg (okey 0x8013 0),
    ready := s.takeoverReady, opened := s.pairedStreams,
    unsynced := s.pairedStreams.filter (fun i => decide ((s.stream i).sync = 2)),
    led := s.pairedStreams.filter (fun i => decide ((s.stream i).sync = 3)) }

/-- Add messages to those of the same command, if the link is up; the pair endpoint keeps them until they are acknowledged (R500). -/
def State.tellMore (s : State) (ms : List PairMsg) : State :=
  if s.linkUp then ms.foldl State.enqueue (s.setPair (fun p => { p with sent := p.sent ++ ms })) else s

/-- Send messages on the pair link, if it is up (R500). -/
def State.tell (s : State) (ms : List PairMsg) : State := if s.linkUp then (s.setPair (fun p => { p with sent := [] })).tellMore ms else s

/-- Take a role; a change of role sends HELLO (Table 12-2). -/
def State.setRole (s : State) (r : Role) : State :=
  if s.pair.role = r then s
  else
    let s1 := s.setPair (fun p => { p with role := r })
    s1.tellMore [.hello s1.myHello]

/-- Store a new claim in the non-volatile store and use it; a claim is never lowered (R18, R495). Raised past 0xFFFF_FFFF it stays
at 0xFFFF_FFFF (DESIGN CHOICE, log entry 70). -/
def State.setClaim (s : State) (n : Nat) : State :=
  let m := min n 0xFFFFFFFF
  if m ≤ s.claim then s
  else ({ s with nv := Tbl.put 0 s.nv (okey 0x8010 0) m }).setReg (okey 0x8010 0) m

/-- Set a paired stream's Sync field and post the event of the change (Table 13-15, Table 13-19). -/
def State.setSync (s : State) (i v : Nat) : State :=
  let x := s.stream i
  if x.sync = v ∨ !x.paired then s
  else
    let s1 := s.setStream i { x with sync := v }
    if v = 2 then s1.event i 0x05 0 else if v = 1 then s1.event i 0x06 0 else s1

/-- Mark every paired stream Unsynced. -/
def State.unsyncAll (s : State) : State := s.pairedStreams.foldl (fun t i => t.setSync i 2) s

/-- Give every stream that the standby leads another Sync value. -/
def State.syncLed (s : State) (v : Nat) : State :=
  (s.pairedStreams.filter (fun i => decide ((s.stream i).sync = 3))).foldl (fun t i => t.setSync i v) s

/-- A rejoin that has not reached TakeoverReady ends with an outcome of its own (R534; log entry 40). -/
def State.endRejoin (s : State) : State :=
  if s.pair.rejoining then (s.setPair (fun p => { p with rejoining := false })).setReg (okey 0x8006 0) Status.discarded.code else s

/-- The unit becomes Active: what it waited for as a joiner is over, and the streams that it led as a standby go on Synced (R496, R527,
R528). -/
def State.takeActive (s : State) : State :=
  let s1 := s.endRejoin.setPair (fun p => { p with
    takes := false, steps := false, quiet := false, barred := false, standbyAt := none, yieldAt := none, missed := 0, pinging := false,
    pong := none })
  (s1.syncLed 1).setRole .active

/-- The unit becomes Standby, with nothing compared yet (R497, R528, Table 12-3). -/
def State.takeStandby (s : State) : State :=
  let s1 := s.setPair (fun p => { p with
    steps := false, quiet := false, standbyAt := none, yieldAt := none, missed := 0, applied := 0, early := [], owed := [] })
  (s1.syncLed 2).setRole .standby

/-- The unit becomes Detached: it holds nothing, compares nothing, and every paired stream is Unsynced (R504, R526). -/
def State.detach (s : State) : State :=
  (((s.releaseHeld).setPair (fun p => { p with expect := none, late := false, early := [], owed := [] })).setRole .detached).unsyncAll

/-- PAIR_LINK_UP: the training of the link ends with these lanes in service, and both units send HELLO (R498, Table 12-2). -/
def execPairLinkUp (lanes : Nat) (s : State) : Out :=
  if !(s.region siteF).up || !s.hasImage 7 0 || s.pausedBy 7 0 then .next s
  else
    let s1 := s.setPair (fun p => { p with lanes := lanes % 2 ^ 16, training := false, sent := [] })
    .next (if s1.paired then s1.tell [.hello s1.myHello] else s1)

/-- PAIR_LINK_DOWN: the link goes down, and holds stop (R498, R510). -/
def execPairLinkDown (s : State) : Out := .next s.pairLost

/-- HELLO_TIMER: every 100 ms each paired unit sends HELLO (R500). -/
def execHelloTimer (s : State) : Out := .next (when s.paired (s.tell [.hello s.myHello]) s)

/-! Roles and joining (R493 to R504). -/

/-- Does this unit come before its partner by the rules of R496? -/
def State.first (s : State) (h : Hello) : Bool :=
  if s.tb.begun ≠ h.begun then s.tb.begun
  else if s.claim ≠ h.claim then decide (h.claim < s.claim)
  else if s.reg (okey 0x8002 0) ≠ h.priority then decide (h.priority < s.reg (okey 0x8002 0))
  else decide (s.reg (okey 0x0101 4) < h.serial)

/-- The tick at which frame f begins on this unit: as it was for the frames kept, and from the current frame's length for others. -/
def State.anchorOf (s : State) (f : Nat) : Int :=
  match s.tb.past.find? (fun x => decide (x.1 = f)) with
  | some x => (x.2 : Int)
  | none => (s.tb.frameStart : Int) + ((f : Int) - (s.tb.frame : Int)) * (s.tb.frameLength : Int)

/-- Distance in ticks between this unit's anchor of frame f and another one at tick t (R503, R504). -/
def State.anchorGap (s : State) (f t : Nat) : Nat := (s.anchorOf f - (t : Int)).natAbs

/-- What a HELLO shows of the conditions of R503; a unit that is to follow its partner, and whose count differs, has to be brought up again. -/
def State.judgeJoin (s : State) (h : Hello) : State :=
  let both := s.tb.begun && h.begun
  let near := both && decide (s.anchorGap h.anchorFrame h.anchorTick ≤ 2)
  s.setPair (fun p => { p with
    config := decide (h.frameLength = s.tb.frameLength) && decide (h.digest = s.reg (okey 0x8013 0))
    aligned := near
    barred := p.barred || (both && !near && !s.first h) })

/-- The unit that comes first is active from the HELLO on; one that already takes the role over does so at the frame boundary (R496,
R527; log entry 40). -/
def State.leadNow (s : State) : State :=
  if s.pair.role = .active ∨ s.pair.takes then s
  else ((s.releaseHeld).setPair (fun p => { p with expect := none, late := false, early := [], owed := [] })).takeActive

/-- A partner that joins again may be resynced again with the streams that it has refused (R516, R534). -/
def State.unrefuse (s : State) (h : Hello) : State :=
  if h.role = Role.joining.code then s.setPair (fun p => { p with refused := [] }) else s

/-- A unit whose first frame has not begun follows a partner that runs its frames, from its anchor on (R501). -/
def State.followPartner (s : State) (h : Hello) : State :=
  if !s.tb.begun ∧ h.begun then
    let t := s.setPair (fun p => { p with waits := false, follow := some (h.anchorFrame, h.anchorTick, h.frameLength) })
    { t with tb := { t.tb with idle := 0 } }
  else s

/-- The roles that a HELLO decides (R496, R497, R501, R503, R504; Table 12-3). -/
def State.takeHello (s : State) (h : Hello) : State :=
  let s1 := (((s.setPair (fun p => { p with partner := some h })).unrefuse h).setReg (okey 0x8011 0) h.claim).judgeJoin h
  if s1.first h then
    let s2 := if s1.claim ≤ h.claim then s1.setClaim (h.claim + 1) else s1
    let s3 := s2.setPair (fun p => { p with waits := false })
    h.led.foldl (fun t i => t.setSync i 3) s3.leadNow
  else
    let s2 := s1.followPartner h
    match s2.pair.role with
    | .active | .alone =>
      if s2.tb.begun then s2.setPair (fun p => { p with steps := true }) else s2.setRole .joining
    | .standby => if s2.pair.aligned then s2 else s2.detach
    | .joining =>
      if s2.tb.begun && s2.pair.config && s2.pair.aligned && !s2.pair.barred && s2.pair.standbyAt.isNone then
        s2.setPair (fun p => { p with standbyAt := some (s2.tb.frame + 2) })
      else s2
    | _ => s2

/-- HELLO: a paired unit receives its partner's HELLO (R496). -/
def execHello (h : Hello) (s : State) : Out :=
  .next (when (s.paired && s.linkUp) ((s.setPair (fun p => { p with sent := [] })).takeHello h) s)

/-- JOIN_TIMEOUT: no HELLO within 10 s; the unit begins its first frame and is Alone (R501). -/
def execJoinTimeout (s : State) : Out :=
  .next (when (s.pair.waits && s.pair.partner.isNone) ((s.setPair (fun p => { p with waits := false })).setRole .alone) s)

/-- CLAIM: the partner's new claim; an active unit with a lower claim steps down at the next frame boundary (R497). -/
def execClaim (n : Nat) (s : State) : Out :=
  if !s.paired || !s.linkUp then .next s
  else
    let s1 := (s.setPair (fun p => { p with partner := p.partner.map (fun h => { h with claim := n }) })).setReg (okey 0x8011 0) (n % 2 ^ 32)
    .next (if s1.pair.role = .active ∧ s1.claim < n then s1.setPair (fun p => { p with steps := true }) else s1)

/-! Prickings of the standby (R507). -/

/-- PRICKING: the standby, or a unit that joins, keeps the active's copy (R507, Table 12-3). -/
def execPricking (c : PrickCopy) (s : State) : Out :=
  let a : Accepted := { frame := c.frame, slot := c.slot, repeatable := c.repeatable, frameLength := s.tb.frameLength,
                        entries := c.entries.map (fun w => pentryOf w.1 w.2) }
  .next (when (s.linkUp && (decide (s.pair.role = .standby) || decide (s.pair.role = .joining)))
    (s.setPair (fun p => { p with copies := p.copies.filter (fun x => decide (x.frame ≠ c.frame)) ++ [a] })) s)

/-- The length that the next frame will have (R69). -/
def State.nextLength (s : State) : Nat :=
  if (s.tb.frameStart + s.tb.frameLength) % 48000 = 0 then s.reg (okey 0x2002 0) else s.tb.frameLength

/-- Does the multicast of a fixed pricking reach a die: over H's own path, or relayed through the compute stack in the same
column of the other compute row (R386)? -/
def State.reachesDie (s : State) (d : Nat) : Bool :=
  let x := siteOfDie d
  let r := siteOfDie ((d + 4) % 8)
  s.pathUp siteH x || (s.pathUp siteH r && s.pathUp r x)

/-- Do the hub's multicasts reach a site: its own, a compute site directly or by relay, another one directly (R71, R386)? -/
def State.reachesSite (s : State) (x : Nat) : Bool :=
  match dieAt x with
  | some d => s.reachesDie d
  | none => decide (x = siteH) || s.pathUp siteH x

/-- PRICKING_FIX: fix the next frame's pricking and multicast its entries (R77, R78, R386). -/
def State.fixNext (s : State) (p : Prickings) : State :=
  let (q, rep) := fixPricking p s.tb.frame (s.reg (okey 0x2022 0)) s.nextLength
  let s1 : State := { s with prick := { q with unreached := (List.range 8).filter (fun d => !s.reachesDie d) } }
  if rep then s1.bump (okey 0x2021 0) else s1

/-- STANDBY_PRICKING_FIX: at tick FrameLength / 2 the standby fixes the next frame's pricking: the active's copy, its own
hosts' pricking, or a repeat under R77 (R507); so does a joiner for the frame in which it becomes Standby, whose copy the active sends
(Table 12-3). -/
def execStandbyPrickingFix (s : State) : Out :=
  let n := s.tb.frame + 1
  let done : Bool := match s.prick.fixed with
    | some a => decide (n ≤ a.frame)
    | none => false
  if (s.pair.role ≠ .standby ∧ s.pair.standbyAt ≠ some n) ∨ s.tb.count < s.tb.frameStart + s.tb.frameLength / 2 ∨ !s.tb.begun ∨ done then .next s
  else
    let mine : Prickings := match s.pair.copies.find? (fun a => decide (a.frame = n)) with
      | some a => { s.prick with accepted := a :: s.prick.accepted.filter (fun b => decide (b.frame ≠ n)) }
      | none => s.prick
    .next ((s.fixNext mine).setPair (fun p => { p with copies := p.copies.filter (fun a => decide (n < a.frame)) }))

/-! Commit records (R508 to R516, Tables 12-4 to 12-6). -/

/-- CRC-32C of bytes as a number. -/
def crcNat (bs : List Byte) : Nat := (crc32c bs).toNat

/-- A step entry (Table 12-5). -/
def stepEntryBytes (n : StepNote) : List Byte :=
  let ws := n.words
  leBytes 8 (n.stream * 2 ^ 50 + n.die * 2 ^ 47 + n.idx % 2 ^ 15 * 2 ^ 32 + n.pattern % 2 ^ 16 * 2 ^ 16
    + (if n.hasDraw then 2 ^ 9 else 0) + (if n.committed then 2 ^ 8 else 0) + n.status % 256) ++
  leBytes 8 n.frame ++ leBytes 8 n.tick ++ leBytes 8 (wd ws 1) ++
  leBytes 8 (recLastToken ws * 2 ^ 32 + bits (wd ws 4) 31 0) ++
  leBytes 8 (bits (wd ws 4) 63 32 * 2 ^ 32 + bits (wd ws 6) 63 32) ++
  leBytes 8 (bits (wd ws 6) 31 0 * 2 ^ 32 + bits (wd ws 5) 63 32) ++
  leBytes 8 (crcNat (n.tokens.flatMap (leBytes 4)) * 2 ^ 32 + bits (wd ws 5) 31 0)

/-- Pad bytes to a multiple of 8. -/
def pad8 (b : List Byte) : List Byte := b ++ List.replicate ((8 - b.length % 8) % 8) (0 : Byte)

/-- An output entry (Table 12-6). -/
def outEntryBytes (r : OutRec) : List Byte :=
  leBytes 8 (r.stream * 2 ^ 50 + (if r.carried then 2 ^ 32 else 0) + r.seq % 2 ^ 32) ++ leBytes 8 r.time ++
  leBytes 8 (r.payload.length % 2 ^ 16 * 2 ^ 48 + crcNat r.ingress) ++ pad8 r.payload

/-- The commit record of a frame (R508, Table 12-4). -/
def commitBytes (frame start claim digest : Nat) (notes : List StepNote) (outs : List OutRec) : List Byte :=
  let body := notes.flatMap stepEntryBytes ++ outs.flatMap outEntryBytes
  let header (crc : Nat) : List Byte := leBytes 8 frame ++ leBytes 8 start ++ leBytes 8 (claim * 2 ^ 32 + (64 + body.length)) ++
    leBytes 8 (notes.length * 2 ^ 32 + outs.length) ++ leBytes 8 (crc * 2 ^ 32 + 1) ++ leBytes 8 digest ++ List.replicate 16 (0 : Byte)
  header (crcNat (header 0 ++ body)) ++ body

/-- A word of a byte string. -/
def wordAt (b : List Byte) (off : Nat) : Nat := leNat ((b.drop off).take 8)

/-- Read step entry i (Table 12-5). -/
def activeStep (b : List Byte) (i : Nat) : ActiveStep :=
  let w (j : Nat) : Nat := wordAt b (64 + 64 * i + 8 * j)
  { stream := bits (w 0) 63 50, die := bits (w 0) 49 47, idx := bits (w 0) 46 32, frame := w 1, hasDraw := bits (w 0) 9 9 = 1,
    committed := bits (w 0) 8 8 = 1, status := bits (w 0) 7 0, draws := w 3, token := bits (w 4) 63 32, top1 := bits (w 4) 31 0,
    prob := bits (w 5) 63 32, u := bits (w 5) 31 0, margin := bits (w 6) 63 32, accepted := bits (w 6) 31 0,
    digest := bits (w 7) 63 32, drafted := bits (w 7) 31 0 }

/-- An output entry of the active (Table 12-6). -/
structure ActiveOut where
  stream : Nat
  carried : Bool
  seq : Nat
  time : Nat
  ingress : Nat
  payload : List Byte
  deriving DecidableEq, Repr

/-- Read n output entries from an offset on. -/
def activeOuts (b : List Byte) : Nat → Nat → List ActiveOut
  | 0, _ => []
  | n + 1, off =>
    let w0 := wordAt b off
    let w2 := wordAt b (off + 16)
    let len := bits w2 63 48
    { stream := bits w0 63 50, carried := bits w0 32 32 = 1, seq := bits w0 31 0, time := wordAt b (off + 8), ingress := bits w2 31 0,
      payload := (b.drop (off + 24)).take len } :: activeOuts b n (off + 24 + (len + 7) / 8 * 8)

/-- Is a record good: version, CRC, length, frame, claim and digest (R509)? -/
def State.recordGood (s : State) (b : List Byte) (n : Nat) : Bool :=
  let crcOk := decide (crcNat (b.take 36 ++ List.replicate 4 (0 : Byte) ++ b.drop 40) = bits (wordAt b 32) 63 32)
  decide (bits (wordAt b 32) 7 0 = 1) && crcOk && decide (bits (wordAt b 16) 31 0 = b.length) && decide (wordAt b 0 = n) &&
  decide (bits (wordAt b 16) 63 32 = s.partnerClaim) && decide (wordAt b 40 = s.reg (okey 0x8013 0))

/-- Classes of a compared entry (Table 12-8). -/
inductive CompareClass where
  | agree | excused | diverged
  deriving DecidableEq, Repr

/-- An FP32 code at or below another, as numbers. -/
def f32Le (a b : Nat) : Bool := !(f32 a).isNan && !(f32 b).isNan && !Fp.ltNum (f32 b) (f32 a)

/-- |a − b| of two FP32 values is at most a tolerance, compared exactly. -/
def withinTol (a b tol : Nat) : Bool :=
  match (Fp.add (f32 a) (f32 b).neg).1 with
  | .fin s m e => !Fp.ltNum (f32 tol) (.fin (s && false) m e)
  | _ => false

/-- The class of an entry (R519, Table 12-8). -/
def State.classify (s : State) (mine : StepNote) (a : ActiveStep) : CompareClass :=
  if wd mine.words 1 ≠ a.draws then .diverged
  else if crcNat (mine.tokens.flatMap (leBytes 4)) = a.digest ∧ recLastToken mine.words = a.token then
    if withinTol (bits (wd mine.words 4) 63 32) a.prob (s.limit 0x8022) then .agree else .diverged
  else
    match mine.slack with
    | some k => if f32Le k (s.limit 0x8023) then .excused else .diverged
    | none => .diverged

/-- Is a die left out of comparison: its own check failed alone, or it is suspended for an hour (Table 12-9)? -/
def State.uncompared (s : State) (d : Nat) : Bool :=
  s.pair.excluded.contains d || decide (s.tb.count < Tbl.get 0 s.pair.suspended d)

/-- A die becomes suspect: arbitration of frame M begins with a KAT request (R520, R523). -/
def State.beginArbitration (s : State) (d : Nat) : State :=
  let m := s.tb.frame + 2
  (s.setPair (fun p => { p with
    suspect := addOnce p.suspect d
    tested := p.tested.filter (fun x => decide (x ≠ d))
    windows := Tbl.put [] p.windows d []
    kats := p.kats ++ [{ die := d, frame := m, arb := true }] })).tellMore
      [.kat (.request (Fin.ofNat 8 d) m)]

/-- Score a compared entry (R520); while an arbitration of the die runs no further one begins (log entry 40). -/
def State.score (s : State) (d : Nat) (c : CompareClass) : State :=
  let w := ((decide (c = .diverged)) :: Tbl.get [] s.pair.windows d).take (s.limit 0x8020)
  let s1 := (s.setPair (fun p => { p with windows := Tbl.put [] p.windows d w })).bump (okey 0x8060 2)
  let s2 := if c = .diverged then s1.bump (okey 0x8060 3) else if c = .excused then s1.bump (okey 0x8060 4) else s1
  let n := (w.filter id).length
  let s3 := s2.setReg (okey 0x8052 (d + 1)) n
  if s.limit 0x8021 ≤ n ∧ s.pair.kats.all (fun k => !(k.arb && decide (k.die = d))) then (s3.beginArbitration d).setReg (okey 0x8052 (d + 1)) 0 else s3

/-- Does a completion of this unit belong to a step entry of the active? -/
def ActiveStep.names (a : ActiveStep) (n : StepNote) : Bool :=
  decide (n.stream = a.stream) && decide (n.frame = a.frame) && decide (n.idx = a.idx)

/-- Will this unit's own completion of the entry still come to comparison: the entry is not at its end, or it has ended in the current
frame (R508, R517)? -/
def State.awaitsOwn (s : State) (a : ActiveStep) : Bool :=
  s.entries.any (fun e => decide (e.stream = a.stream) && decide (e.frame = a.frame) && decide (e.idx = a.idx) && !e.st.final) ||
    s.pair.notes.any a.names

/-- The standby compares one step entry of a Synced stream with its own completion, whichever frames the two fell in, and moves the stream
under Table 12-7; a late record leaves a stream that disagrees Unsynced (R511, R512, R517). Streams in `skip` have an ingress mismatch and
are not scored. -/
def State.compareStep (s : State) (skip : List Nat) (late : Bool) (a : ActiveStep) : State :=
  if (s.stream a.stream).sync ≠ 1 then s
  else
    match s.pair.early.find? a.names with
    | none =>
      if s.awaitsOwn a then s.setPair (fun p => { p with owed := p.owed ++ [a] })
      else if a.committed then s.setSync a.stream 2 else s
    | some n =>
      let s0 := s.setPair (fun p => { p with early := p.early.filter (fun x => !a.names x) })
      if a.committed && n.committed then
        if a.hasDraw && n.hasDraw && !s.uncompared a.die && !skip.contains a.stream then
          let c := s.classify n a
          let s1 := (s0.score a.die c).tracePair 4 a.frame
          if c = .agree then s1 else s1.setSync a.stream 2
        else s0
      else if a.committed then s0.setSync a.stream 2
      else if n.committed then s0.setSync a.stream (if a.status = Status.discarded.code ∧ !late then 3 else 2)
      else s0

/-- Adopt the sampling-state fields of a step entry of a stream that was Synced and that this unit does not lead now (R256, R511). -/
def State.adopt (s : State) (a : ActiveStep) : State :=
  let x := s.stream a.stream
  if !x.paired ∨ x.sync = 3 then s
  else
    let ws := samplingWords x.committed
    let n := [wd ws 0, a.draws, wd ws 2, setField (wd ws 3) 31 0 a.token, a.prob * 2 ^ 32 + a.top1, a.accepted * 2 ^ 32 + a.drafted,
      a.u * 2 ^ 32 + a.margin, wd ws 7]
    s.setStream a.stream { x with committed := putSampling x.committed n }

/-- The standby sends the frame's record of a stream that was Synced: the active's payload, or its own where the active withheld its record
and this unit committed `pool`'s completion of an entry that the active discarded (R511, R514, Table 12-7). A stream that is Closed here
has a ring only from its own record. -/
def State.sendAdopted (s : State) (n : Nat) (pool : List StepNote) (steps : List ActiveStep) (o : ActiveOut) : State :=
  let mine := s.pair.heldOut.find? (fun r => decide (r.stream = o.stream))
  if o.carried then
    let did := pool.any (fun x => decide (x.stream = o.stream) && x.committed && steps.any (fun a => a.names x && !a.committed))
    match mine with
    | some r => if did then s.postOut r s.partnerClaim true else s
    | none => s
  else if o.payload = [] ∨ (mine.isNone ∧ (s.stream o.stream).st = .closed) then s
  else
    s.postOut { stream := o.stream, frame := n, formed := true, status := 0, seq := o.seq, time := o.time,
                late := match mine with | some r => r.late | none => false,
                payload := o.payload, carried := false, ingress := [], owner := (mine.map (·.owner)).getD 0, ring := (mine.map (·.ring)).getD 0 } s.partnerClaim false

/-- Streams whose IngressDigest disagrees with this unit's (R511). -/
def State.ingressBad (s : State) (outs : List ActiveOut) : List Nat :=
  (outs.filter (fun o =>
    (s.stream o.stream).paired && decide (o.ingress ≠ crcNat (match s.pair.heldOut.find? (fun r => decide (r.stream = o.stream)) with
      | some r => r.ingress | none => [])))).map (·.stream)

/-- The fences of a takeover: one per valid entry of FenceTargets (R527). -/
def State.fenceTargets (s : State) : List (Nat × Nat) :=
  (List.range 16).filterMap (fun i => let v := s.reg (okey 0x8040 (i + 1)); if bits v 31 31 = 1 then some (bits v 11 0, bits v 19 16) else none)

/-- Send a TRIGGER from the hub to an endpoint, none beyond the 4,096 of R462 (section 11.7). -/
def State.sendTrigger (s : State) (endpoint proc : Nat) (payload : List Byte) : State :=
  if s.sendFull hubUnit (idOf endpoint hubUnit) then s
  else (s.noteSend hubUnit (idOf endpoint hubUnit)).send { source := hubUnit, seq := 0, dest := idOf endpoint hubUnit, opcode := 5, address := 0, size := 64, payload := payload, aux := proc }

/-- Raise the claim and announce it with CLAIM and the fences (R527, R528). -/
def State.raiseClaim (s : State) : State :=
  let s0 := s.setClaim (max s.claim s.partnerClaim + 1)
  let n := s0.claim
  let s1 := s0.tellMore [.claim n]
  s1.fenceTargets.foldl (fun t f =>
    (t.sendTrigger f.1 1 (leBytes 4 f.2 ++ leBytes 4 n ++ List.replicate 56 (0 : Byte))).setPair (fun p => { p with sent := p.sent ++ [.fence f.1 f.2 n] })) s1

/-- TAKEOVER: the standby raises its claim, sends CLAIM and the fences, and becomes Active at the next frame boundary
(R527). -/
def State.takeover (s : State) : State :=
  (s.raiseClaim.setPair (fun p => { p with takes := true, pinging := false, pong := none })).bump (okey 0x8060 8)

/-- A commit record is missed: it is counted, held records are sent and grants go on; after MissedCommitLimit frames the
standby asks the partner over the fabric or takes over (R512, R525, R526). -/
def State.missRecord (s : State) : State :=
  let s1 := s.releaseHeld.tracePair 3 (s.pair.expect.getD s.tb.frame)
  let s2 := (s1.setPair (fun p => { p with late := true, missed := p.missed + 1, applied := 0 })).bump (okey 0x8060 1)
  if s2.pair.role ≠ .standby ∨ s2.pair.missed < s2.limit 0x8025 ∨ s2.pair.pinging ∨ s2.pair.takes then s2
  else
    let e := s2.reg (okey 0x8012 0)
    if bits e 15 15 = 1 then
      ((s2.sendTrigger (bits e 11 0) 0 (List.replicate 64 (0 : Byte))).setPair (fun p => { p with pinging := true, pong := none })).tellMore [.ping]
    else s2.takeover

/-- Apply a good commit record of the expected frame: compare, check ingress, adopt and send (R511); a late one is only
compared (R512). The streams that it adopts and sends for are those that were Synced before it. -/
def State.applyRecord (s : State) (b : List Byte) (n : Nat) : State :=
  let fresh := (List.range (bits (wordAt b 24) 63 32)).map (activeStep b)
  let outs := activeOuts b (bits (wordAt b 24) 31 0) (64 + 64 * fresh.length)
  let bad := s.ingressBad outs
  let synced (i : Nat) : Bool := decide ((s.stream i).sync = 1)
  let steps := s.pair.owed ++ fresh
  let pool := s.pair.early ++ s.pair.heldNotes
  let s0 := s.setPair (fun p => { p with early := pool, owed := [] })
  let s1 := steps.foldl (fun t a => t.compareStep bad s.pair.late a) s0
  let s2 := bad.foldl (fun t i => (t.setSync i 2).bump (okey 0x8060 5)) s1
  let s3 := if s.pair.late then s2
    else
      let t := (steps.filter (fun a => synced a.stream && !s2.pair.owed.contains a)).foldl (fun t a => t.adopt a) s2
      let u := (outs.filter (fun o => synced o.stream)).foldl (fun t o => t.sendAdopted n pool steps o) t
      u.setPair (fun p => { p with missed := 0, applied := p.applied + 1 })
  let s4 := s3.setPair (fun p => { p with
    expect := none, held := false, late := false, heldNotes := [], heldOut := []
    early := if p.role = .standby then p.early.filter (fun x => decide ((s3.stream x.stream).sync = 1)) else []
    owed := if p.role = .standby then p.owed else [] })
  if s4.pair.role = .standby ∧ 2 < s4.anchorGap n (wordAt b 8) then (s4.setPair (fun p => { p with aligned := false })).detach
  else s4

/-- Does the unit take commit records: a standby, and one that a YIELD has made active, for the record of frame B − 1 (R509, R528)? -/
def State.awaitsRecord (s : State) : Bool :=
  decide (s.pair.role = .standby) || (decide (s.pair.role = .active) && s.pair.expect.isSome)

/-- COMMIT: the standby checks the active's commit record and applies it; a bad one counts as missed, and so does one while none is
expected, which begins no row of misses (R504, R509, R511; log entry 40). -/
def execCommit (record : List Byte) (s : State) : Out :=
  if !s.awaitsRecord ∨ !s.linkUp then .next s
  else
    let s0 := s.setPair (fun p => { p with sent := [] })
    match s0.pair.expect with
    | none => .next ((s0.tracePair 3 (wordAt record 0)).bump (okey 0x8060 1))
    | some n =>
      if s0.recordGood record n then .next ((s0.applyRecord record n).tracePair 2 n)
      else .next (if s0.pair.late then s0 else s0.missRecord)

/-- COMMIT_HOLD_EXPIRY: the hold limit has passed in the frame after, and the record is missed (R510, R512, R525). -/
def execCommitHoldExpiry (s : State) : Out :=
  .next (when (s.awaitsRecord && s.pair.expect.isSome && !s.pair.late &&
      decide (s.tb.frameStart + min (s.limit 0x8024) (s.tb.frameLength / 2) ≤ s.tb.count))
    (s.setPair (fun p => { p with sent := [] })).missRecord s)

/-- PING_WAIT_EXPIRY: 48 ticks after its PING the standby takes over, or becomes Detached when the answer shows a living
partner (R526). -/
def execPingWaitExpiry (s : State) : Out :=
  if !s.pair.pinging ∨ s.pair.role ≠ .standby then .next s
  else
    let alive := match s.pair.pong with
      | some (c, f) => decide (c = s.partnerClaim) && decide (f ≤ s.tb.frame + 1) && decide (s.tb.frame ≤ f + 1)
      | none => false
    let s1 := s.setPair (fun p => { p with pinging := false, pong := none, sent := [] })
    .next (if alive then s1.detach else s1.takeover)

/-! Switchover (R525, R528, R534). -/

/-- A write of PairCommand (R534). -/
def State.writePairCommand (s : State) (v : Nat) : State :=
  if v ≠ 1 ∧ v ≠ 2 then s.answer .typeMismatch
  else if v = 1 then
    if s.pair.role ≠ .active then s.answer .notReady
    else if !s.takeoverReady then s.answer .busy
    else
      let b := s.tb.frame + 2
      (((s.setPair (fun p => { p with yieldAt := some b, sent := [] })).tell [.yield b]).setReg (okey 0x8006 0) Status.busy.code).answer .ok
  else if s.pair.role = .active ∨ s.pair.role = .alone ∨ s.pair.role = .unpaired then s.answer .notReady
  else
    ((((s.setPair (fun p => { p with standbyAt := none, rejoining := true, refused := [], sent := [] })).unsyncAll).setRole .joining).setReg
      (okey 0x8006 0) Status.busy.code).answer .ok

/-- SWITCHOVER: PairCommand 0x01 (R525, R534). -/
def execSwitchover (s : State) : Out := .next (s.writePairCommand 1)
/-- REJOIN: PairCommand 0x02 (R534). -/
def execRejoin (s : State) : Out := .next (s.writePairCommand 2)

/-- YIELD: the standby becomes Active at the start of frame B (R525, R528). -/
def execYield (frame : Nat) (s : State) : Out :=
  .next (when (decide (s.pair.role = .standby) && s.linkUp) (s.setPair (fun p => { p with yieldAt := some frame })) s)

/-! Known-answer checks (R521 to R524, Table 12-9). -/

/-- Put a known-answer run among the entries of a die as a near-live entry of four cores (R522; log entry 35). -/
def State.katEntry (s : State) (k : Kat) : State :=
  let e : Entry :=
    { frame := k.frame, idx := 2 ^ 16 + k.die, die := k.die, stream := 2 ^ 14, cls := .nearLive, pattern := katPattern, firstStep := 0,
      stepCount := 1, start := s.tb.frameStart, deadline := s.tb.frameStart + 2 * s.tb.frameLength, cores := 4, after := none,
      frameLength := s.tb.frameLength }
  { s with entries := s.entries ++ [e] }.bump (okey 0x8060 7)

/-- The act of Table 12-9 on die k, once both results of an arbitration are known. -/
def State.arbitration (s : State) (k : Kat) : State :=
  match k.mine, k.theirs with
  | some m, some t =>
    let s1 := s.setPair (fun p => { p with kats := p.kats.filter (fun x => decide (x ≠ k)) })
    let act := decide (s.pair.role = .active)
    let a := if act then m else t
    let b := if act then t else m
    match a, b with
    | false, true =>
      if act then
        let s2 := (((s1.setDie k.die { s1.dieOf k.die with isolated := true }).discardDie k.die { cause := Status.coreLost.code })).reportSite (siteOfDie k.die)
        if s2.takeoverReady then
          (s2.setPair (fun p => { p with yieldAt := some (s2.tb.frame + 2) })).tellMore [.yield (s2.tb.frame + 2)]
        else s2
      else s1.setPair (fun p => { p with suspect := p.suspect.filter (fun x => decide (x ≠ k.die)) })
    | true, false =>
      if act then s1
      else
        let mineOn := s1.pairedStreams.filter (fun i => decide ((s1.stream i).home = k.die))
        ((mineOn.foldl (fun t i => t.setSync i 2) s1).setPair (fun p => { p with
          suspect := addOnce p.suspect k.die, excluded := addOnce p.excluded k.die })).startDieTest k.die
    | true, true =>
      if act then s1
      else
        let us := recent s1.tb.count hourTicks (Tbl.get [] s1.pair.unresolved k.die)
        let s2 := s1.setPair (fun p => { p with
          suspect := p.suspect.filter (fun x => decide (x ≠ k.die)), unresolved := Tbl.put [] p.unresolved k.die us })
        if 3 ≤ us.length then s2.stick (okey 0x8050 0) (2 ^ 22) else s2
    | false, false =>
      let s2 := (s1.setDie k.die { s1.dieOf k.die with katFailed := true }).reportSite (siteOfDie k.die)
      if act then s2
      else s2.setPair (fun p => { p with
        suspect := p.suspect.filter (fun x => decide (x ≠ k.die)), suspended := Tbl.put 0 p.suspended k.die (s1.tb.count + hourTicks) })
  | _, _ => s

/-- Record a result of a run. -/
def State.katResult (s : State) (die frame : Nat) (own pass : Bool) : State :=
  let upd (k : Kat) : Kat := if own then { k with mine := some pass } else { k with theirs := some pass }
  let hit (k : Kat) : Bool := decide (k.die = die) && decide (k.frame = frame)
  let s1 := s.setPair (fun p => { p with kats := modifyFirst hit upd p.kats })
  match s1.pair.kats.find? hit with
  | some k =>
    if k.arb then s1.arbitration k
    else if own then s1.setPair (fun p => { p with kats := p.kats.filter (fun x => decide (x ≠ k)) }) else s1
  | none => s1

/-- A die passes the known-answer pattern: KatLastPass takes the frame, and a failure on both units is no longer reported (R524, Table
12-9; log entry 61). -/
def State.katPassed (s : State) (die : Nat) : State :=
  let s1 := (s.setReg (okey 0x8053 (die + 1)) s.tb.frame).setPair (fun p => { p with katPass := Tbl.put 0 p.katPass die (s.tb.frame + 1) })
  if (s.dieOf die).katFailed then (s1.setDie die { s1.dieOf die with katFailed := false }).reportSite (siteOfDie die) else s1

/-- The unit's own run on a die ends with a digest: its cores are free, a pass is recorded and lifts a suspicion once BIST
has run, and the partner receives the result (R521, R524, Table 12-9). -/
def State.katOwn (s : State) (die frame digest : Nat) : State :=
  match s.grants.find? (fun g => decide (g.die = die) && decide (g.pattern = katPattern)) with
  | none => s
  | some g =>
    let pass := decide (digest = Config.katDigest (s.reg (okey 0x0110 (siteOfDie die + 1))))
    let s1 := (s.freeGrant g).setEntry g.frame g.entry (fun e => { e with st := .committed, done := 1 })
    let s2 := if pass then s1.katPassed die else s1
    let s3 := if pass ∧ s2.pair.tested.contains die then
        s2.setPair (fun p => { p with
          suspect := p.suspect.filter (fun x => decide (x ≠ die)), excluded := p.excluded.filter (fun x => decide (x ≠ die))
          tested := p.tested.filter (fun x => decide (x ≠ die)) })
      else s2
    (s3.tellMore [.kat (.result (Fin.ofNat 8 die) frame pass)]).katResult die frame true pass

/-- KAT: a request of the partner, its result, or the result of the unit's own run (R523, R524). -/
def execKat (m : KatMsg) (s : State) : Out :=
  if !s.paired then .next s
  else
    let s0 := s.setPair (fun p => { p with sent := [] })
    match m with
    | .request d f => .next (when s0.linkUp (s0.setPair (fun p => { p with kats := p.kats ++ [{ die := d.val, frame := f, arb := true }] })) s0)
    | .result d f pass => .next (when s0.linkUp (s0.katResult d.val f false pass) s0)
    | .own d f digest => .next (s0.katOwn d.val f digest)

/-- KAT_INTERVAL: every KatInterval / 8 seconds the unit runs the known-answer pattern on its next die, in the next frame
(R524). -/
def execKatInterval (s : State) : Out :=
  .next (when (s.paired && s.tb.begun) (s.setPair (fun p => { p with
    kats := p.kats ++ [{ die := p.katNext, frame := s.tb.frame + 1, arb := false }], katNext := (p.katNext + 1) % 8 })) s)

/-- KAT_RESULT_TIMEOUT: an arbitration result that has not arrived within 4 frames of M is missing, and no role changes
(R523, Table 12-9). -/
def execKatResultTimeout (s : State) : Out :=
  .next (s.setPair (fun p => { p with
    kats := p.kats.filter (fun k => !(k.arb && (k.mine.isNone || k.theirs.isNone) && decide (k.frame + 4 < s.tb.frame))) }))

/-! Resync (R516). -/

/-- A stream's content for a resync: context with the ingress position, committed record and the granules that it owns. -/
def State.streamCopy (s : State) (i : Nat) : StreamCopy :=
  let x := s.stream i
  { stream := i, home := x.home, owner := x.owner, failover := x.failover, reportSteps := x.reportSteps, outSize := x.outSize,
    ringQ0 := x.ringQ0, ringQ1 := x.ringQ1, f0 := x.f0, emitted := x.emitted, inHead := x.inHead, inSeq := x.inSeq, inTick := x.inTick, state := rdBytes x.committed 0 (x.stateSize * 4096),
    granules := (s.ownedBy i).map (fun g =>
      let tier := decide (2 ^ 24 ≤ g)
      let va := (if tier then g - 2 ^ 24 else g) * 2 ^ granShift tier
      (tier, va, s.virtRead [(g, s.entryAt 0 g)] 0 tier va (2 ^ granShift tier))) }

/-- RESYNC: the target writes the stream's context, state record and granules; a granule whose own entry is not Valid with
the same OwnerStream ends the resync with ACCESS_DENIED, which its acknowledgement carries (log entry 40), and the stream stays Unsynced until
a rejoin (R516). -/
def execResync (c : StreamCopy) (s : State) : Out :=
  let x := s.stream c.stream
  if !s.linkUp ∨ !x.paired ∨ x.st = .closed then .next s
  else
    let idx (g : Bool × Nat × List Byte) : Nat := ledgerIndex g.1 g.2.1
    let ok := c.granules.all (fun g => let e := s.entryAt 0 (idx g)
      eValid e && eOwnerValid e && decide (eOwner e = c.stream))
    let s1 := s.bump (okey 0x8060 6)
    if !ok then .next ((s1.setPair (fun p => { p with refused := addOnce p.refused c.stream, sent := [.denied c.stream] })).setSync c.stream 2)
    else
      let s2 := c.granules.foldl (fun t g => t.hubWrite [(idx g, t.entryAt 0 (idx g))] g.1 g.2.1 g.2.2) s1
      let y : Stream := { x with home := c.home, outSize := c.outSize, ringQ0 := c.ringQ0, ringQ1 := c.ringQ1, failover := c.failover,
                                 inHead := c.inHead, inSeq := c.inSeq, inTick := c.inTick, reportSteps := c.reportSteps, f0 := c.f0, emitted := c.emitted, stateSize := c.state.length / 4096,
                                 recBase := if x.home = c.home ∧ x.stateSize * 4096 = c.state.length then x.recBase
                                   else s2.recPlace c.home c.state.length,
                                 committed := wrBytes [] 0 c.state }
      .next ((s2.recWrote y false 0 c.state.length).setStream c.stream y)

/-- RESYNC_END: the copy of a stream ends; it becomes Synced on both units at the next frame boundary (R516). -/
def execResyncEnd (stream : Fin 16384) (s : State) : Out :=
  let i := stream.val
  .next (when ((s.stream i).paired && !s.pair.refused.contains i)
    (s.setPair (fun p => { p with copying := p.copying.filter (fun x => decide (x ≠ i)), landed := addOnce p.landed i })) s)

/-- Streams whose resync this unit leads and has not begun, ascending: on the active those that a standby marks Unsynced, but for those
that are lost or led by the standby here, and on a standby those that it leads (R516, Tables 12-3 and 12-7). -/
def State.resyncTodo (s : State) : List Nat :=
  let all := s.pairedStreams.filter (fun i => !s.pair.copying.contains i && !s.pair.landed.contains i && !s.pair.refused.contains i)
  match s.pair.role with
  | .active => all.filter (fun i => match s.pair.partner with | some h => decide (h.role = Role.standby.code) && h.unsynced.contains i && decide ((s.stream i).sync = 1) | none => false)
  | .standby => all.filter (fun i => decide ((s.stream i).sync = 3))
  | _ => []

/-! Frame boundary (R508, R510, R513 to R516, R527, R528). -/

/-- Has the frame a discarded entry of a paired stream, so that the active withholds its record (R515)? -/
def State.carries (s : State) (i : Nat) : Bool :=
  s.linkUp && s.takeoverReady && s.pair.notes.any (fun n => decide (n.stream = i) && decide (n.status = Status.discarded.code))

/-- Send the output of a frame by the unit's role: an active unit posts, but for records that it withholds and those of streams that its
standby leads or that it took over Unsynced; a standby holds the records of Synced streams while the link is up and sends those that it leads at once (R510, R512,
R514 to R516). -/
def State.sendOut (s : State) (r : OutRec) : State :=
  let x := s.stream r.stream
  if !s.paired then s.postOut r 0 false
  else if !x.paired then s.postOut r (if s.pair.role = .standby then s.partnerClaim else s.claim) false
  else
    match s.pair.role with
    | .active | .alone => if r.carried ∨ x.sync = 2 ∨ x.sync = 3 then s else s.postOut r s.claim false
    | .standby =>
      if x.sync = 3 then s.postOut r s.partnerClaim true
      else if x.sync = 2 then s
      else if s.linkUp then s.setPair (fun p => { p with heldOut := p.heldOut ++ [r] })
      else (s.postOut r s.partnerClaim true).setPair (fun p => { p with heldOut := p.heldOut ++ [r] })
    | _ => s

/-- The roles that change as a frame begins, before the output of the frame that ended is posted: a takeover, whose claim its records
carry, and an active unit that steps down and sends none of them, whose switchover, if one was on its way, ends DISCARDED (R497, R527, R534, Table
12-10; log entry 40). -/
def State.roleFirst (s : State) (n : Nat) : State :=
  if s.pair.takes then s.takeActive
  else if s.pair.steps ∧ s.pair.yieldAt ≠ some n then
    let t := if s.pair.role = .active ∧ s.pair.yieldAt.isSome then s.setReg (okey 0x8006 0) Status.discarded.code else s
    ((t.setPair (fun p => { p with steps := false, standbyAt := none, quiet := true, yieldAt := none })).setRole .joining).unsyncAll
  else s

/-- The roles that change once it is posted: a switchover by YIELD, and a joiner that takes the standby role (R528, Table 12-3). The new
active still takes the record of the frame that ended. -/
def State.roleLast (s : State) (n : Nat) : State :=
  if s.pair.yieldAt = some n then
    let t := s.setPair (fun p => { p with yieldAt := none, steps := false })
    if t.pair.role = .standby then t.raiseClaim.takeActive
    else if t.pair.role = .active then t.takeStandby.setReg (okey 0x8006 0) 0
    else t
  else if s.pair.role = .joining ∧ s.pair.standbyAt = some n then s.takeStandby
  else s

/-- The pair's part of a frame boundary: `frame` and `start` are those of the frame that ended, `outs` its output. -/
def State.pairBoundary (s : State) (frame start : Nat) (outs : List OutRec) : State :=
  if !s.paired then outs.foldl (fun t r => t.sendOut r) s
  else
    let n := frame + 1
    let s0 := (s.releaseHeld.setPair (fun p => { p with
      sent := [], heldOut := [], early := if p.role = .standby then p.early ++ p.heldNotes else p.early, heldNotes := p.notes, late := false
      expect := none })).roleFirst n
    let outs1 := outs.map (fun r => { r with carried := decide (s0.pair.role = .active) && (s0.stream r.stream).paired && s0.carries r.stream })
    let s1 := s0.setPair (fun p => { p with notes := [] })
    let s2 := outs1.foldl (fun t r => t.sendOut r) s1
    let pairedOuts := outs1.filter (fun r => (s.stream r.stream).paired && (r.formed || r.carried || decide (r.ingress ≠ [])))
    let s3 := match s2.pair.role with
      | .active => if s2.frozen then s2 else (s2.tracePair 1 frame).tellMore [.commit (commitBytes frame start s2.claim (s2.reg (okey 0x8013 0)) s2.pair.heldNotes pairedOuts)]
      | .standby => s2.setPair (fun p => { p with expect := some frame, held := s2.linkUp })
      | _ => s2
    -- streams whose copies have landed
    let s4 := (s3.pair.landed.foldl (fun t i => t.setSync i 1) s3).setPair (fun p => { p with landed := [] })
    let s5 := s4.roleLast n
    -- limits take effect; known-answer runs of this frame start; resyncs begin
    let lim := [0x8020, 0x8021, 0x8022, 0x8023, 0x8024, 0x8025, 0x8027].foldl
      (fun t i => Tbl.put (dictDflt (okey i 0)) t (okey i 0) (s5.reg (okey i 0))) s5.pair.limits
    let s6 := s5.setPair (fun p => { p with limits := lim })
    let s7 := (s6.pair.kats.filter (fun k => decide (k.frame = n))).foldl (fun t k => t.katEntry k) s6
    if !s7.linkUp then s7
    else
      (s7.resyncTodo.take (s7.limit 0x8027 - s7.pair.copying.length)).foldl (fun t i =>
        ((t.setPair (fun p => { p with copying := p.copying ++ [i] })).bump (okey 0x8060 6)).tellMore [.resync (t.streamCopy i)]) s7

/-- LinkState of Table 12-11. -/
def State.linkState (s : State) : Nat :=
  if (s.region siteF).st ≠ .up ∧ s.paired then 4
  else if s.pair.lanes = 0 then (if s.pair.training then 1 else 0)
  else if s.pair.lanes = 2 ^ 16 - 1 then 2 else 3

/-- The hub rewrites PairHealth, StreamSyncCounts and the outcome of a rejoin (R533, R534, Tables 12-11 and 12-12). -/
def State.pairReport (s : State) : State :=
  let ready := s.takeoverReady
  let mask (f : Nat → Bool) : Nat := (List.range 8).foldl (fun m k => if f k then m + 2 ^ k else m) 0
  let v := s.pair.role.code * 2 ^ 29 + s.linkState * 2 ^ 26 + (if ready then 2 ^ 25 else 0) + (if s.pair.aligned then 2 ^ 24 else 0) +
    (if s.pair.config then 2 ^ 23 else 0) + bits (s.reg (okey 0x8050 0)) 22 22 * 2 ^ 22 +
    mask (fun k => s.pair.suspect.contains k) * 2 ^ 14 + (if s.paired then mask (fun k => !s.katFresh k) * 2 ^ 6 else 0)
  let count (n : Nat) : Nat := (s.pairedStreams.filter (fun i => decide ((s.stream i).sync = n))).length
  let s1 := (((s.setReg (okey 0x8050 0) v).setReg (okey 0x8051 1) (count 1)).setReg (okey 0x8051 2) (count 2)).setReg (okey 0x8051 3) (count 3)
  if s1.pair.rejoining && ready then (s1.setPair (fun p => { p with rejoining := false })).setReg (okey 0x8006 0) 0 else s1

end Sys2Proof.Machine
end

