-- ==== Sys2Proof/Machine/Patterns.lean ====
section
/-! DEFINITION. Patterns on the die (section 5.12): the checks of an image, loading, unloading and freeing. -/

namespace Sys2Proof.Machine

open Sys2Proof

/-! Pattern memory (R222, Table 5-17). -/

/-- Bytes of pattern memory on a die. -/
def patternMemory : Nat := 268435456

/-- Free bytes of a die's pattern memory: every image that is not freed occupies its length (R225). -/
def State.patternFree (s : State) (die : Nat) : Nat := patternMemory - ((s.dieOf die).patterns.map (·.length)).sum

/-- PatternsLoaded and PatternMemoryFree of a die (Table 5-17). -/
def State.patternReport (s : State) (die : Nat) : State :=
  let ids := ((s.dieOf die).patterns.filter (fun p => !p.old)).foldl (fun l p => addOnce l p.id) []
  (s.setReg (okey 0x4301 (die + 1)) ids.length).setReg (okey 0x4302 (die + 1)) (s.patternFree die)

/-! The checks of an image (Table 5-16). -/

/-- A byte list as a memory from address 0. -/
def memOfBytes (bs : List Byte) : Tbl Byte := (bs.zipIdx.filter (fun e => decide (e.1 ≠ 0))).map (fun e => (e.2, e.1))

/-- A step table entry (Table 5-15). -/
structure StepEntry where
  codeOff : Nat
  codeLen : Nat
  descCount : Nat
  descOff : Nat
  rsvOk : Bool
  deriving DecidableEq, Repr

/-- Step i of an image. -/
def stepEntry (m : Tbl Byte) (i : Nat) : StepEntry :=
  let w0 := rdLe m (64 + 16 * i) 8
  let w1 := rdLe m (72 + 16 * i) 8
  { codeOff := bits w0 63 32, codeLen := bits w0 31 18, descCount := bits w0 17 11, descOff := bits w1 63 32,
    rsvOk := decide (bits w0 10 0 = 0) && decide (bits w1 31 0 = 0) }

/-- The RSV fields, as (msb, lsb), and the descriptor fields, as their lowest bits, of an instruction of a class and
operation; none where the class or operation is reserved (R176, Tables 5-7 to 5-13, R201, R207). DESIGN CHOICE (log entry 69): Aux bits that
Table 5-11 gives as 0 are neither checked nor used. -/
def instrShape (cls op : Nat) : Option (List (Nat × Nat) × List Nat) :=
  match cls, op with
  | 0, 0 | 0, 1 => some ([(34, 0)], [])
  | 0, 2 => some ([(34, 13)], [])
  | 0, 3 => some ([(16, 13)], [])
  | 0, 4 | 0, 5 => some ([], [])
  | 0, 6 => some ([(20, 0)], [25])
  | 0, 7 => some ([(34, 8)], [])
  | 1, 0 => some ([(12, 0)], [])
  | 1, 1 | 1, 2 => some ([(14, 0)], [])
  | 1, 3 => some ([(23, 0)], [])
  | 1, 4 => some ([(8, 0)], [29])
  | 2, 0 | 2, 1 => some ([], [])
  | 2, 2 | 2, 3 => some ([(22, 0)], [])
  | 3, 0 => some ([(10, 0)], [27, 21])
  | 3, 1 => some ([(34, 33), (10, 0)], [27, 21])
  | 3, 2 => some ([(19, 0)], [27])
  | 3, 3 => some ([(21, 0)], [27])
  | 4, n => if n ≤ 0x0D then some ([], [29, 23, 17]) else none
  | 5, n => if n ≤ 0x0C then some ([], [29, 23, 17]) else none
  | 6, 2 => some ([(6, 0)], [27, 21, 7])
  | 6, n => if n ≤ 5 then some ([(6, 0)], [27, 21]) else none
  | _, _ => none

/-- The instruction row of Table 5-16: defined class and Op, RSV fields 0, R220, descriptor indices below DescCount. -/
def instrOk (w descCount : Nat) : Bool :=
  match instrShape (iClass w) (iOp w) with
  | none => false
  | some (rsv, descs) =>
    rsv.all (fun f => decide (bits w f.1 f.2 = 0)) && (decide (2 ≤ iClass w) || !iIncValid w) &&
      descs.all (fun l => decide (bits w (l + 5) l < descCount))

/-- The words of a step. -/
def stepWords (m : Tbl Byte) (e : StepEntry) : List Nat := (List.range e.codeLen).map (fun i => rdLe m (e.codeOff + 8 * i) 8)

/-- The descriptors of a step. -/
def stepDescs (m : Tbl Byte) (e : StepEntry) : List Desc := (List.range e.descCount).map (descAt m e.descOff)

/-- Is an instruction a branch whose Target lies at or beyond the step's end (Table 5-16)? -/
def badTarget (w codeLen : Nat) : Bool :=
  decide (iClass w = 0) && (decide (iOp w = 2) || decide (iOp w = 3)) && decide (codeLen ≤ bits w 12 0)

/-- Is a word END or BR? -/
def endsStep (w : Nat) : Bool := decide (iClass w = 0) && (decide (iOp w = 1) || decide (iOp w = 2))

/-- The first status of a list of rows, each a condition with the status of its failure. -/
def firstRow : List (Bool × Status) → Option Status
  | [] => none
  | (ok, st) :: r => if ok then firstRow r else some st

/-- Every step and descriptor row of Table 5-16, in the order of the table. DESIGN CHOICE (log entry 26): a row is judged over all steps
before the next row, and of the row on CodeLength and DescCount a CodeLength of 0 in any step comes first. -/
def stepRows (m : Tbl Byte) (len : Nat) (es : List StepEntry) : List (Bool × Status) :=
  let words := es.map (fun e => (e, stepWords m e))
  let descs := es.flatMap (stepDescs m)
  [(es.all (·.rsvOk), .typeMismatch),
   (es.all (fun e => decide (e.codeOff % 8 = 0) && decide (e.descOff % 32 = 0)), .badAlign),
   (es.all (fun e => decide (e.codeLen ≠ 0)), .typeMismatch),
   (es.all (fun e => decide (e.codeLen ≤ 8192) && decide (e.descCount ≤ 64)), .lengthExceeds),
   (es.all (fun e => decide (e.codeOff + 8 * e.codeLen ≤ len) && decide (e.descOff + 32 * e.descCount ≤ len)), .lengthExceeds),
   (words.all (fun x => x.2.all (fun w => instrOk w x.1.descCount)), .typeMismatch),
   (words.all (fun x => x.2.all (fun w => !badTarget w x.1.codeLen)), .lengthExceeds),
   (words.all (fun x => match x.2.getLast? with | some w => endsStep w | none => false), .typeMismatch),
   (descs.all (fun d => decide (d.space < 8) && decide (d.fmt < 0x0C) && d.rsvOk), .typeMismatch),
   (descs.all (fun d => decide (d.base % 64 = 0) && decide (d.stride1 % 64 = 0) && decide (d.stride2 % 64 = 0) &&
      decide (d.scaleBase % 64 = 0) && (!(operand d 0).f.isMx || decide (d.dim0 % 32 = 0))), .badAlign),
   (descs.all (fun d => decide (d.space ≠ 0) || (operand d 0).inScratch), .lengthExceeds)]

/-- The dies of a mask. -/
def maskDies (mask : Nat) : List Nat := (List.range 8).filter (fun k => decide (mask / 2 ^ k % 2 = 1))

/-- Table 5-16 for an image read from the tier, ImageLength `n` and the dies of a mask. -/
def State.imageCheck (s : State) (dies : List Nat) (n : Nat) (image : List Byte) : Option Status :=
  let m := memOfBytes image
  let w0 := rdLe m 0 8
  let w1 := rdLe m 8 8
  let zeroed := image.take 8 ++ List.replicate 4 (0 : Byte) ++ image.drop 12
  let steps := bits w0 47 32
  match firstRow [
      (decide (bits w1 63 32 = n) && decide (bits w1 31 0 = (crc32c zeroed).toNat), .typeMismatch),
      (decide (bits w0 31 24 = 1) && decide (bits w0 19 0 = 0) && (List.range 48).all (fun i => rdByte m (16 + i) == 0), .typeMismatch),
      (decide (n ≤ 67108864) && dies.all (fun k => decide (n ≤ s.patternFree k)), .lengthExceeds),
      (decide (steps ≠ 0), .typeMismatch), (decide (steps ≤ 4096), .lengthExceeds),
      (decide (64 + 16 * steps ≤ n), .lengthExceeds)] with
  | some st => some st
  | none =>
    match firstRow (stepRows m n ((List.range steps).map (stepEntry m))) with
    | some st => some st
    | none => if dies.all (fun k => decide (bits w0 23 20 ≤ s.brideLevel (siteOfDie k))) then none else some .typeMismatch

/-- Read a range of the tier for the hub: beyond the space LENGTH_EXCEEDS, a granule not mapped there ACCESS_DENIED, and
UNCORRECTED where an access is answered so (R734; log entry 26). -/
def State.tierFetch (s : State) (va n : Nat) : Except Status (List Byte) :=
  if spaceSize true < va + n then .error .lengthExceeds
  else
    match s.hubRange true va n with
    | none => .error .accessDenied
    | some tr => match s.hubRead tr true va n with | some b => .ok b | none => .error .uncorrected

/-- The self-refresh of the channels that such a read reaches ends (R321). -/
def State.tierTouch (s : State) (va n : Nat) : State :=
  match s.hubRange true va n with | some tr => s.wake tr 0 | none => s

/-! Loading. -/

/-- The command register of PatternLoad (R223): 0x01 load, 0x02 unload. -/
def State.patternBusy (s : State) : Bool := decide (s.reg (okey 0x4300 5) = Status.busy.code)

/-- The write of 0x01: the hub reads and checks the image, and Status reads BUSY until PATTERN_LOAD_END (R223, R224). An
ImageLength of 0 completes at once with OK and loads nothing (R19; log entry 26). -/
def State.patternLoad (s : State) : State :=
  if s.patternBusy then s.answer .busy
  else
    let mask := s.reg (okey 0x4300 1)
    let n := s.reg (okey 0x4300 3)
    if n = 0 then (s.setReg (okey 0x4300 5) 0).answer .ok
    else
    let c : PatCmd :=
        match s.tierFetch (s.reg (okey 0x4300 2)) n with
        | .error st => { mask := mask, status := st.code, image := [] }
        | .ok b =>
          match s.imageCheck (maskDies mask) n b with
          | some st => { mask := mask, status := st.code, image := [] }
          | none => { mask := mask, status := 0, image := b }
    ({ s.tierTouch (s.reg (okey 0x4300 2)) n with patCmd := some c }.setReg (okey 0x4300 5) Status.busy.code).answer .ok

/-- PATTERN_LOAD (R222 to R224). -/
def execPatternLoad (s : State) : Out := .next s.patternLoad

/-- Does a die hold a pattern (R733)? -/
def Die.holds (d : Die) (id : Nat) : Bool := d.patterns.any (fun p => decide (p.id = id) && !p.old)

/-- The write of 0x02: the pattern leaves every die of DieMask that holds it at the next frame boundary (R225, R733). -/
def State.patternUnload (s : State) : State :=
  if s.patternBusy then s.answer .busy
  else
    let id := s.reg (okey 0x4300 6)
    let dies := (maskDies (s.reg (okey 0x4300 1))).filter (fun k => (s.dieOf k).holds id)
    let s1 := dies.foldl (fun t k => t.setDie k { t.dieOf k with patterns := (t.dieOf k).patterns.map (fun p =>
      if p.id = id ∧ !p.old then { p with leaving := true } else p) }) s
    (s1.setReg (okey 0x4300 5) (if dies.isEmpty then Status.notReady.code else 0)).answer .ok

/-- PATTERN_UNLOAD (R223, R225, R733). -/
def execPatternUnload (s : State) : Out := .next s.patternUnload

/-- A write to `0x4300:04` (R223). -/
def writePatternCommand (v : Nat) (s : State) : State :=
  if v = 1 then s.patternLoad else if v = 2 then s.patternUnload else s.answer .typeMismatch

/-- Where the next image of n bytes goes: the lowest place free of images in the pattern memory of P2k, or one past the polder's end where
no place there is long enough (R278; log entry 27). -/
def Die.imageBase (d : Die) (n : Nat) : Nat :=
  let fits (b : Nat) : Bool := decide (b + n ≤ 2 ^ 28) && d.patterns.all (fun p => decide (roundUp (p.base + p.length) 64 ≤ b) || decide (b + n ≤ p.base))
  ((0 :: d.patterns.map (fun p => roundUp (p.base + p.length) 64)).find? fits).getD
    (d.patterns.foldl (fun a p => max a (roundUp (p.base + p.length) 64)) (2 ^ 36))

/-- Place an image on a die: a pattern that is loaded already is replaced at the next frame boundary (R225). An image
that still waited for that boundary never takes effect. The hub writes whole lines (R267). -/
def State.placeImage (s : State) (die : Nat) (image : List Byte) : State :=
  let d := s.dieOf die
  let m := memOfBytes image
  let id := bits (rdLe m 0 8) 63 48
  let base := d.imageBase image.length
  let old := d.patterns.map (fun p => if p.id = id ∧ p.fresh then { p with fresh := false, old := true } else p)
  let p : Pattern := { id := id, base := base, length := image.length, steps := bits (rdLe m 0 8) 47 32,
                       fresh := old.any (fun q => decide (q.id = id) && !q.old) }
  let s1 := s.setDie die { d with patterns := old ++ [p] }
  let u := 2 * die
  let x := (s1.store u).clears base (roundUp image.length 64)
  (s1.setStore u { x with mem := wrBytes x.mem base image }).patternReport die

/-- PATTERN_LOAD_END: the copy into every die of the mask ends and Status reads the outcome (R224). -/
def execPatternLoadEnd (s : State) : Out :=
  match s.patCmd with
  | none => .next s
  | some c =>
    let s1 : State := { s with patCmd := none }
    if c.status ≠ 0 ∨ c.image = [] then .next (s1.setReg (okey 0x4300 5) c.status)
    else
      let s2 := (maskDies c.mask).foldl (fun t k => t.placeImage k c.image) s1
      .next ((s2.setReg (okey 0x4300 6) (bits (leNat (c.image.take 8)) 63 48)).setReg (okey 0x4300 5) 0)

/-- The frame boundary's part: what leaves becomes old, and what is new takes effect in place of the image that it
replaces (R225). -/
def Die.patternBoundary (d : Die) : Die :=
  let ps := d.patterns.map (fun p => if p.leaving then { p with leaving := false, fresh := false, old := true } else p)
  let news := (ps.filter (fun p => p.fresh && !p.old)).map (·.id)
  { d with patterns := ps.map (fun p =>
      if p.fresh && !p.old then { p with fresh := false } else if news.contains p.id then { p with old := true } else p) }

/-- Carry it out on every die. -/
def State.patternBoundary (s : State) : State :=
  loopTo 8 (fun k t => (t.setDie k (t.dieOf k).patternBoundary).patternReport k) s

/-- PATTERN_IMAGE_FREE: old images of a die that no running step uses are freed (R225). -/
def execPatternImageFree (die : Fin 8) (s : State) : Out :=
  let d := s.dieOf die.val
  let used (p : Pattern) : Bool := s.grants.any (fun g => decide (g.die = die.val) && decide (g.pattern = p.id) && decide (g.base = p.base))
  let gone := d.patterns.filter (fun p => p.old && !used p)
  let u := 2 * die.val
  let s1 := s.setDie die.val { d with patterns := d.patterns.filter (fun p => !p.old || used p) }
  let m := gone.foldl (fun m p => wrZeros m p.base p.length) (s1.store u).mem
  .next ((s1.setStore u { s1.store u with mem := m }).patternReport die.val)

end Sys2Proof.Machine
end

