-- ==== Sys2Proof/Machine/Rings.lean ====
section
/-! DEFINITION. Ring control and calibration (chapter 10): the lock-in loop, relock, lane and full calibration. -/

namespace Sys2Proof.Machine

open Sys2Proof

/-! Fast junctions (R392, R393, R404). -/

/-- States of a fast junction (Table 10-1). -/
inductive Junction where
  | modulate | idle | drop | share3 | share2 | bypass | turn
  deriving DecidableEq, Repr

/-- Does a receive lane take light from a source now: leased, standing, or in training on that path? -/
def State.receives (s : State) (a b n : Nat) : Bool :=
  let l := s.lane b n
  (decide (l.rxPeer = a) && (decide (l.rx = .leased) || decide (l.rx = .standing))) ||
  (decide ((s.lane a n).tx = .training) && decide ((s.pathOf a b n).st = 1) && s.pathUp a b)

/-- The share of a row multicast's light that a member's drop ring takes: a third at the first member, half of the rest at the second, the
rest at the last (R375). The members lie along the waveguide in ascending site numbers (log entry 32). -/
def shareOf (a b : Nat) : Junction :=
  match (rowMates a).length - rankIn (rowMates a) b with
  | 3 => .share3
  | 2 => .share2
  | _ => .drop

/-- The state of a ring's fast junction. A ring that is not locked holds its lock state (R404); a locked one follows the lane that it
serves (Table 10-1). -/
def State.junction (s : State) (k : Nat) : Junction :=
  let x := k / 1344
  let slot := k % 1344
  let n := slotLane slot
  let locked := decide ((s.mring k).st = .locked)
  match slotKind slot with
  | 0 =>
    let l := s.lane x n
    let sends := ((decide (l.tx = .leased) || decide (l.tx = .standing)) && decide (l.txGroup = slot % 2)) ||
      (peersOf x).any (fun b => decide (pathGroup x b = slot % 2) && decide (l.tx = .training) && decide ((s.pathOf x b n).st = 1))
    if locked && sends then .modulate else .idle
  | 1 =>
    match (peersOf x).find? (fun a => decide (dropRing a x n = k) && s.receives a x n) with
    | some a => if locked && decide ((s.lane a n).txPeer = 0xE) then shareOf a x else .drop
    | none => if locked then .bypass else .drop
  | _ =>
    if !locked || brides.any (fun p => decide (turnRing p.1 p.2 n = some k) && s.receives p.1 p.2 n) then .turn else .bypass

/-! The loop (R397 to R401). -/

/-- The codes by which the loop moves the heater for an error in units of 0.1 GHz: up, which lowers the resonance, for one that lies above
the set point; no more than the error or 10 GHz, which is 111 codes, and how much of that no rule states (R397; log entry 33). -/
def loopMove (err : Int) (free : Nat) : Int :=
  let m : Int := (free % (min 111 (err.natAbs * 10 / 9) + 1) : Nat)
  if err < 0 then -m else m

/-- The known offset of a ring's fast junction in its state, in units of 0.1 GHz: Bypass lies 80 GHz above the comb line (R393, R397). -/
def Junction.offset : Junction → Int
  | .bypass => 800
  | _ => 0

/-- SetPointOffset of a ring in units of 0.1 GHz: a signed field in GHz, of a modulator only (R397, Table 10-4). -/
def MicroRing.setOffset (r : MicroRing) (kind : Nat) : Int :=
  if kind = 0 then (if r.trims.setPoint < 32 then 10 * (r.trims.setPoint : Int) else 10 * ((r.trims.setPoint : Int) - 64)) else 0

/-- The loop's error of a ring whose monitor shows its resonance at an offset from its comb line, in units of 0.1 GHz: the junction state's
known offset is subtracted, and the set point lies SetPointOffset above the line (R397). -/
def State.loopError (s : State) (k : Nat) (seen : Int) : Int :=
  seen - (s.junction k).offset - (s.mring k).setOffset (slotKind (k % 1344))

/-- The heater code after one update: the loop's move on top of the feedforward term, of which an update sees one fifth of a round (R397,
R401). -/
def MicroRing.step (r : MicroRing) (err : Int) (free : Nat) : Nat :=
  heaterClamp ((r.heater : Int) + loopMove err free + divRneInt (-r.rate) 72)

/-- LOCK_IN_UPDATE: a locked ring's loop updates its heater code from its error against its set point. The operand is the offset of the
resonance from the comb line, in units of 0.1 GHz, as the monitor shows it divided by its mean power; loss of lock after two
updates outside ±40 GHz or at an end of the heater's range (R397 to R400, R402, R404). -/
def execLockInUpdate (site : Fin 12) (slot : Fin 1344) (seen : Int) (s : State) : Out :=
  let k := ringKey site.val slot.val
  let r := s.mring k
  if r.st ≠ .locked then .next s
  else
    let err := s.loopError k seen
    let outside := decide (400 < err.natAbs)
    let h := r.step err s.free
    let s1 := (s.setMring k { r with heater := h, outside := outside }).tickFree
    if (outside && r.outside) || decide (h = 0) || decide (h = 16383) then
      let s2 := ((s1.bump (okey 0x6240 1)).traceOpen 3 site.val 4 none none none).setMring k { s1.mring k with st := .lost }
      .next ((s2.ringLost k).restartCal k)
    else .next s1

/-- RING_LOCK_ACHIEVED: a sweep meets a comb line, the first of those that it passes, and the ring locks on it at a heater code, or it fails
after 300 GHz, which counts as a failed retraining of every path that uses the ring; while one of them still retrains the ring sweeps again
(R400, R406, R407). -/
def execRingLockAchieved (site : Fin 12) (slot : Fin 1344) (heater : Option (Fin 16384)) (line : Fin 16) (s : State) : Out :=
  let k := ringKey site.val slot.val
  let r := s.mring k
  let n := slotLane slot.val
  if r.st ≠ .sweeping then .next s
  else
    match heater with
    | some h =>
      let s1 := s.setMring k { r with st := .locked, heater := h.val, line := line.val, outside := false }
      let l := s1.lane site.val n
      .next (if slotKind slot.val = 0 ∧ l.tx = .relocking then s1.setLane site.val n { l with tx := .training } else s1)
    | none =>
      let s1 := (s.setMring k r.park).bump (okey 0x6240 7)
      let ps := pathsOfRing k
      let s2 := ps.foldl (fun t p => if (t.pathOf p.1 p.2 n).st = 1 then (t.trainFail p.1 p.2 n).laneReturn p.1 n else t) s1
      .next (if ps.any (fun p => decide ((s2.pathOf p.1 p.2 n).st ≠ 2)) then s2.relockRing k
        else s2.setMring k { s2.mring k with st := .out })

/-! Calibration (R415 to R425). -/

/-- Is a lane free of conflicts for calibration: no other lane of the site calibrates, and no receive lane would serve two
calibrating paths (R416)? -/
def State.calFree (s : State) (a n : Nat) : Bool :=
  (List.range 96).all (fun m => decide (m = n) || decide ((s.lane a m).cal = 0)) &&
  (List.range 12).all (fun b => decide (b = a) || decide ((s.lane b n).cal = 0) ||
    !(peersOf a).any (fun d => (peersOf b).contains d))

/-- Does a path of a lane keep its calibration from starting: a region on it is dark for now? One whose region is parked, isolated or
without endpoint firmware has no path to calibrate (R415, R421). -/
def State.calBlocked (s : State) (a b : Nat) : Bool :=
  (pathRegions a b).any (fun x => let r := s.region x
    !r.up && !decide (r.st = .parked) && !r.isolated && !r.barred)

/-- LANE_CALIBRATION_START: the site's lowest scheduled lane, those that its temperature asks for first, leaves its pool and starts once its
leases end; a standing lane's role passes to another lane (R370, R415 to R417). -/
def execLaneCalibrationStart (site : Fin 12) (n : Fin 96) (s : State) : Out :=
  let a := site.val
  let l := s.lane a n.val
  let first := (List.range 96).all (fun m => let x := s.lane a m
    !x.calDue || (if x.calHot = l.calHot then decide (n.val ≤ m) else l.calHot))
  if !l.calDue || !first || !(s.region a).up || !s.calFree a n.val || decide (l.cal ≠ 0) || decide (l.tx = .notFitted) ||
      (peersOf a).any (s.calBlocked a) then .next s
  else
    let s1 := s.setLane a n.val { l with calDue := false, calHot := false, cal := 1, ending := if l.tx = .leased then some 1 else l.ending }
    .next (s1.calBegin a n.val)

/-- The setting with the widest worst-path eye, the first among equal ones: SetPointOffset and DriveSwing (R415). -/
def bestEye (eyes : List (Nat × Nat × Nat)) : Option (Nat × Nat) :=
  (eyes.foldl (fun (b : Option (Nat × Nat × Nat)) e =>
    match b with | none => some e | some x => if x.2.2 < e.2.2 then some e else b) none).map (fun e => (e.1 % 64, e.2.1 % 16))

/-- The trims that a calibration records for a ring: κ from the ratio of heater code change to temperature change where the
temperature has changed by at least 4 °C (R415; log entry 33). -/
def MicroRing.calibrated (r : MicroRing) (setting : Option (Nat × Nat)) : Trims :=
  let dt := r.temp - 4 * (r.trims.calTemp : Nat)
  let dh := (r.heater : Int) - (r.trims.calHeater : Nat)
  let kappa := if 32 ≤ dt.natAbs then
      min 63 (divRneInt (if 0 < dt then -dh * 72 else dh * 72) (5 * dt.natAbs) - 240).toNat
    else r.trims.kappa
  { calHeater := r.heater, calTemp := min 255 (divRneInt r.temp 4).toNat, kappa := kappa,
    setPoint := match setting with | some x => x.1 | none => r.trims.setPoint
    swing := match setting with | some x => x.2 | none => r.trims.swing
    dither := r.trims.dither }

/-- Record a locked ring's new trims, which wait for a boundary, and save them (R408, R415, R422). -/
def State.saveTrims (s : State) (k : Nat) (setting : Option (Nat × Nat)) : State :=
  let r := s.mring k
  if r.st ≠ .locked then s
  else
    let t := r.calibrated (if slotKind (k % 1344) = 0 then setting else none)
    { s with nvTrims := Tbl.put {} s.nvTrims k t }.setMring k { r with pending := some t }

/-- LANE_CALIBRATION_END: `eyes` are the trial settings with their worst-path eyes; each path of the lane then retrains (R415 step 5), and
the calibration ends with the last of them. An empty list is a failed calibration, and a second failure of the lane within 10 minutes starts a full calibration of the region (R415, R418, R422). -/
def execLaneCalibrationEnd (site : Fin 12) (n : Fin 96) (eyes : List (Nat × Nat × Nat)) (s : State) : Out :=
  let a := site.val
  let l := s.lane a n.val
  if l.cal ≠ 2 ∨ s.laneSlice a n.val then .next s
  else
    match bestEye eyes with
    | none =>
      let fs := recent s.tb.count tenMinutes l.calFails
      let s1 := s.setLane a n.val { l with cal := 3, calFails := fs }
      let s2 := s1.applyTrims a n.val
      .next (if fs.length < 2 then s2.calSettled a
        else if (s2.region a).calRun then (s2.setRegion a { s2.region a with fullDue := true }).calSettled a
        else s2.startFullCal a)
    | some x =>
      let s1 := (laneRings a n.val).foldl (fun t k => t.saveTrims k (some x)) s
      let s2 := (peersOf a).foldl (fun t b =>
        let p := t.pathOf a b n.val
        if p.st = 0 ∧ t.pathUp a b then (t.setPath a b n.val { p with st := 1, words := [], crcs := [] }).countRetrain a b n.val else t) s1
      .next ((s2.setLane a n.val { s2.lane a n.val with cal := 4 }).laneReturn a n.val)

/-- The status of a CalCommand write (R420). -/
def State.calCheck (s : State) (v : Nat) : Status :=
  let x := s.reg (okey 0x6203 1)
  if 11 < x ∨ (v ≠ 1 ∧ v ≠ 2) then .typeMismatch
  else if v = 2 ∧ x = siteH then .accessDenied
  else if (s.region x).st = .parked then .notReady
  else if !(s.region x).up ∨ (s.region x).calRun ∨ (List.range 96).any (fun n => decide ((s.lane x n).cal ≠ 0) && !s.laneSlice x n) then .busy
  else .ok

/-- A write of CalCommand (R418, R420). -/
def State.writeCalCommand (s : State) (v : Nat) : State :=
  let st := s.calCheck v
  let x := s.reg (okey 0x6203 1)
  let s1 := (s.answer st).setReg (okey 0x6203 3) (if st = .ok ∨ s.calCmd ≠ [] then Status.busy.code else st.code)
  if st ≠ .ok then s1
  else
    let s2 : State := { s1 with calCmd := addOnce s1.calCmd x }
    if v = 2 then s2.startFullCal x
    else (s2.setRegion x { s2.region x with calRun := true }).scheduleSite x

/-- LANE_CALIBRATION_COMMAND: CalCommand 0x01 (R420). -/
def execLaneCalibrationCommand (s : State) : Out := .next (s.writeCalCommand 1)
/-- FULL_CALIBRATION_COMMAND: CalCommand 0x02 (R418, R420). -/
def execFullCalibrationCommand (s : State) : Out := .next (s.writeCalCommand 2)

/-- The trim word of a ring (Table 10-4). -/
def State.trimWord (s : State) (site slot : Nat) : Nat :=
  let r := s.mring (ringKey site slot)
  let fit := slotFitted site slot
  r.heater * 2 ^ 50 + r.trims.calHeater * 2 ^ 36 + r.trims.calTemp * 2 ^ 28 + r.trims.kappa * 2 ^ 22 +
  r.trims.setPoint * 2 ^ 16 + r.trims.swing * 2 ^ 12 + r.trims.dither * 2 ^ 8 +
  (if fit then r.st.code else RingSt.notFitted.code) * 2 ^ 5 + (if r.pending.isSome && decide (s.trimMode = 1) then 2 ^ 4 else 0) +
  (if fit then slotKind slot else 3) * 2 ^ 2

/-- RING_SELECT: a write of RingSite or RingSlot (R414). The trim word is the one of the last housekeeping round, so it is
read then (Table 10-7). -/
def State.writeRingSelect (s : State) (sub v : Nat) : State :=
  if (sub = 1 ∧ 11 < v) ∨ (sub = 2 ∧ 1343 < v) then s.answer .lengthExceeds
  else (s.setReg (okey 0x6210 sub) v).answer .ok

/-- RING_SELECT (R414). -/
def execRingSelect (sub : Fin 2) (v : Nat) (s : State) : Out := .next (s.writeRingSelect (sub.val + 1) v)

end Sys2Proof.Machine
end

