-- ==== Sys2Proof/Machine/Ports.lean ====
section
/-! DEFINITION. Host ports (sections 13.1 to 13.3, 13.7): port states, queue and ring configuration, doorbells, consumer
indices and MSI-X. -/

namespace Sys2Proof.Machine

open Sys2Proof

/-! Result rings (R566 to R572). -/

/-- Is v a power of two from 2^lo to 2^hi? -/
def isPow (v lo hi : Nat) : Bool := (List.range (hi + 1)).any (fun i => decide (lo ≤ i) && decide (v = 2 ^ i))

/-- The outcome of enabling a ring with a SlotCount and a SlotSize (R566). -/
def ringCheck (count size : Nat) : Status :=
  if !isPow count 2 14 || !isPow size 6 14 then .typeMismatch
  else if 2 ^ 22 < count * size then .lengthExceeds
  else .ok

/-- Clearing Enable: slots reserved and not yet written are discarded and counted (R566, R571). -/
def Ring.disable (r : Ring) (tick : Nat) : Ring :=
  { r with enable := false, reserved := 0, lost := r.lost + r.reserved,
           firstLoss := if r.lost = 0 ∧ r.reserved ≠ 0 then tick else r.firstLoss }

/-- Take the reservations that name a ring from the commands in flight. -/
def State.voidRing (s : State) (p i : Nat) : State :=
  let q := s.port p
  let drop (r : Option Nat) : Option Nat := if r = some i then none else r
  let s1 := s.setPort p { q with taken := q.taken.map (fun t => { t with ring := drop t.ring }) }
  { s1 with ledgerCmd := s1.ledgerCmd.map (fun c => if c.port = p then { c with ring := drop c.ring } else c)
            staging := s1.staging.map (fun c => if c.port = p then { c with ring := drop c.ring } else c) }

/-- Disable ring i of port p, if it is enabled. -/
def State.disableRing (s : State) (p i : Nat) : State :=
  let q := s.port p
  let r := q.ring i
  if r.enable then ((s.setPort p (q.setRing i (r.disable s.tb.count))).voidRing p i).addReg (hostCtr p 5) r.reserved
  else s

/-- Write the loss marker of a ring as soon as it has a free slot on a port that is Up (R571). -/
def State.markRing (s : State) (p i : Nat) : State :=
  let q := s.port p
  let r := q.ring i
  if q.st = .up then s.setPort p ((q.raised i r r.mark).setRing i r.mark) else s

/-- A write of word 0 of a ring's configuration (Table 13-12, R566): on an enabled ring other sizes are ignored and read
BUSY; on a disabled one Enable checks the sizes. -/
def State.writeRing (s : State) (p i : Nat) (enable : Bool) (count size : Nat) : State :=
  let q := s.port p
  let r := q.ring i
  if q.st = .down then s
  else if r.enable then
    let st := if r.slotCount ≠ count ∨ r.slotSize ≠ size then Status.busy.code else 0
    let s1 := if enable then s else s.disableRing p i
    s1.setPort p ((s1.port p).setRing i { (s1.port p).ring i with status := st })
  else
    let r1 : Ring := { r with slotCount := count, slotSize := size }
    if !enable then s.setPort p (q.setRing i { r1 with status := 0 })
    else
      let st := ringCheck count size
      if st = .ok then
        let r2 : Ring := { r1 with enable := true, status := 0, producer := 0, consumer := 0, reserved := 0, slots := [] }
        (s.setPort p (q.setRing i r2)).markRing p i
      else s.setPort p (q.setRing i { r1 with status := st.code })

/-- RING_ENABLE: a write that sets Enable checks SlotCount and SlotSize and initialises every slot (R566). -/
def execRingEnable (port : Fin 2) (ring : Fin 64) (count size : BitVec 16) (s : State) : Out :=
  .next (s.writeRing port.val ring.val true count.toNat size.toNat)

/-- RING_DISABLE: Enable is cleared and the sizes are left (R566). -/
def execRingDisable (port : Fin 2) (ring : Fin 64) (s : State) : Out :=
  let r := (s.port port.val).ring ring.val
  .next (s.writeRing port.val ring.val false r.slotCount r.slotSize)

/-- CONSUMER_INDEX_WRITE: the returned slots read STALE; an index that is not newer than the current one, or newer than
ProducerIndex, is ignored and counted (R570). -/
def execConsumerIndexWrite (port : Fin 2) (ring : Fin 64) (v : BitVec 32) (s : State) : Out :=
  let p := port.val
  let i := ring.val
  let q := s.port p
  let r := q.ring i
  if q.st = .down then .next s
  else if !newer32 v (BitVec.ofNat 32 r.consumer) || newer32 v (BitVec.ofNat 32 r.producer) then .next (s.bump (hostCtr p 7))
  else
    let n := (v.toNat + 2 ^ 32 - r.consumer) % 2 ^ 32
    let slots := (List.range (min n r.slotCount)).foldl (fun t j =>
      Tbl.upd {} t ((r.consumer + j) % 2 ^ 32 % r.slotCount) (fun x => { x with status := Status.stale.code })) r.slots
    .next ((s.setPort p (q.setRing i { r with consumer := v.toNat, slots := slots })).markRing p i)

/-- IRQ_HOLDOFF_END: the holdoff of a ring's vector ends; a raise that waited for it happens now and starts the next
(R572). -/
def execIrqHoldoffEnd (port : Fin 2) (ring : Fin 64) (s : State) : Out :=
  let q := s.port port.val
  let r := q.ring ring.val
  if !r.holding then .next s
  else if r.irqWaits then
    let q1 := q.setRing ring.val { r with irqWaits := false, holding := decide (r.holdoff ≠ 0) }
    .next (s.setPort port.val { q1 with msix := Tbl.upd 0 q1.msix ring.val (· + 1) })
  else .next (s.setPort port.val (q.setRing ring.val { r with holding := false }))

/-- BAR2_WRITE: ignored and counted (R538). -/
def execBar2Write (port : Fin 2) (s : State) : Out :=
  .next (when (decide ((s.port port.val).st ≠ .down)) (s.bump (hostCtr port.val 7)) s)

/-! Submission queues (Table 13-9, R540, R555). -/

/-- A write of a submission queue's configuration: clearing Enable discards the unfetched entries and zeroes head and
tail. -/
def State.writeSq (s : State) (p i v : Nat) : State :=
  let q := s.port p
  let x := q.sq i
  let y : Sq := { x with enable := bits v 63 63 = 1, complValid := bits v 15 15 = 1, complRing := bits v 14 9 }
  if q.st = .down then s
  else s.setPort p (q.setSq i (if x.enable && !y.enable then { y with head := 0, tail := 0 } else y))

/-- SQ_DISABLE: Enable is cleared (Table 13-9). -/
def execSqDisable (port : Fin 2) (sq : Fin 64) (s : State) : Out :=
  let q := s.port port.val
  .next (when (decide (q.st ≠ .down)) (s.setPort port.val (q.setSq sq.val { q.sq sq.val with enable := false, head := 0, tail := 0 })) s)

/-- SQ_DOORBELL: the host writes the new tail (R540). -/
def execSqDoorbell (port : Fin 2) (sq : Fin 64) (v : BitVec 64) (s : State) : Out :=
  let q := s.port port.val
  .next (when (decide (q.st ≠ .down)) ((s.setPort port.val (q.setSq sq.val { q.sq sq.val with tail := v.toNat % 1024 })).traceOpen 7 siteH 1
    (some 0x15) none none) s)

/-! Ports coming and going (R544 to R547). -/

/-- STREAM_HANDOFF: the streams of a port that has left Up pass to the other port, or wait (R546); the event of a stream that begins to wait
finds no slot on its port (Table 13-15, R571; log entry 41). -/
def State.handoff (s : State) (p : Nat) : State :=
  let other := 1 - p
  let mine := s.streams.filter (fun e => decide (e.2.owner = p) && (decide (e.2.st = .opened) || decide (e.2.st = .waiting)))
  mine.foldl (fun t e =>
    let x := t.stream e.1
    if x.failover && decide ((t.port other).st = .up) then
      (t.setStream e.1 { x with owner := other, st := .opened }).event e.1 0x03 0
    else if x.st = .waiting then t
    else (t.setStream e.1 { x with st := .waiting }).event e.1 0x01 0) s

/-- Does a command already wait at its stream: for a running step, or for a frame boundary (R554, R557)? -/
def State.parked (s : State) (p : Nat) (t : Taken) : Bool :=
  let x := s.stream (cStream t.words)
  let isCmd (c : Option Cmd) : Bool := match c with
    | some c => decide (c.port = p) && decide (c.sq = t.sq) && decide (c.entry = t.entry)
    | none => false
  x.deferred.any (fun d => decide (d.port = p) && decide (d.sq = t.sq) && decide (d.entry = t.entry)) ||
  isCmd x.closer || isCmd x.rebind

/-- A port that has left Up hands its streams on once the commands that it had taken have run; those that wait at their streams for a step
or a frame boundary, beyond the 1 ms of R545, do not hold it up (R545; log entry 41). -/
def State.finishLeave (s : State) (p : Nat) : State :=
  let q := s.port p
  if q.leaving && q.taken.all (fun t => t.status.isSome || s.parked p t) then (s.setPort p { q with leaving := false }).handoff p else s

/-- It hands them on at the latest when it returns to Up. -/
def State.endLeave (s : State) (p : Nat) : State :=
  let q := s.port p
  if q.leaving then (s.setPort p { q with leaving := false }).handoff p else s

/-- Contents of a port's pricking slots that were not doorbelled are lost when it leaves Up (R545). -/
def State.loseSlots (s : State) (p : Nat) : State :=
  let gone (i : Nat) : Bool := s.ownsSlot p i && !s.prick.accepted.any (fun a => decide (a.slot = i))
  { s with prick := { s.prick with mem := Tbl.drop (fun k => gone (k / slotWords)) s.prick.mem } }

/-- The commands that a port gave and that still run or wait end with nobody to answer (R545). -/
def State.disown (s : State) (p : Nat) : State :=
  { s with
    ledgerCmd := s.ledgerCmd.map (fun c => if c.port = p then { c with gone := true, ring := none } else c)
    staging := s.staging.map (fun c => if c.port = p then { c with gone := true, ring := none } else c) }

/-- A mailbox request that waits is answered to nobody, and the mailbox is free (R608). -/
def State.dropBox (s : State) (p : Nat) : State :=
  let q := s.port p
  { s.setPort p { q with box := { q.box with busy := false } } with
    hub := { s.hub with fences := s.hub.fences.map (fun f => if f.2.2 = .mailbox p then (f.1, f.2.1, .gone) else f) } }

/-- What the hub does when a port leaves Up (R545): unfetched entries and untaken commands are discarded, those in flight run on and their
completions are discarded, the queues and rings are disabled, and then the streams are handled. The response of a mailbox request that still runs is discarded too
(R608). -/
def State.leaveUp (s : State) (p : Nat) : State :=
  let q := s.port p
  let off : Port := { q with
    sqs := q.sqs.map (fun e => (e.1, { e.2 with enable := false, head := 0, tail := 0 }))
    ledgerQ := { q.ledgerQ with head := q.ledgerQ.tail, take := q.ledgerQ.tail, finished := [] }
    stagingQ := { q.stagingQ with head := q.stagingQ.tail, take := q.stagingQ.tail, finished := [] }
    taken := q.taken.map (fun t => { t with ring := none }), leaving := true }
  let s1 := (s.setPort p { off with sqs := off.sqs.filter (fun e => decide (e.2 ≠ {})) }).disown p
  let s2 := (List.range 64).foldl (fun t i => t.disableRing p i) s1
  (((s2.dropBox p).loseSlots p).finishLeave p).bump (hostCtr p 8)

/-- What a port's arrival in Up does to Waiting streams: its own become Open again, and those with Failover pass to it
(R547). -/
def State.arriveUp (s0 : State) (p : Nat) : State :=
  let s := s0.endLeave p
  let waits := s.streams.filter (fun e => decide (e.2.st = .waiting))
  let s1 := waits.foldl (fun t e =>
    let x := t.stream e.1
    if x.owner = p then (t.setStream e.1 { x with st := .opened }).event e.1 0x02 0
    else if x.failover then (t.setStream e.1 { x with st := .opened, owner := p }).event e.1 0x03 0
    else t) s
  (List.range 64).foldl (fun t i => t.markRing p i) s1

/-- PortControl without its reserved bits (Table 13-4). -/
def controlMask (v : Nat) : Nat := bits v 63 63 * 2 ^ 63 + bits v 31 4 * 2 ^ 4 + v % 2

/-- A write of PortControl (Table 13-4, Table 13-5). Before step 12 of bring-up has ended Enable is kept and the port stays Linked
(R652). -/
def State.writePortControl (s : State) (p v : Nat) : State :=
  let q := s.port p
  let s1 := s.setPort p { q with control := controlMask v }
  match q.st with
  | .down => s
  | .linked =>
    if bits v 63 63 = 1 ∧ (s.reg (okey 0x9200 0) ≠ 0 ∨ 12 ≤ bits (s.reg keyBootState) 27 24) then
      ((s1.setPort p { s1.port p with st := .up }).arriveUp p).signal s
    else s1
  | .up =>
    if bits v 63 63 = 1 then s1
    else ((s1.setPort p { s1.port p with st := .linked }).leaveUp p).signal s

/-- PORT_ENABLE: the host sets Enable, with the other bits of PortControl (R544). -/
def execPortEnable (port : Fin 2) (v : BitVec 63) (s : State) : Out := .next (s.writePortControl port.val (2 ^ 63 + v.toNat))

/-- PORT_DISABLE: the host clears Enable (R544, R545). -/
def execPortDisable (port : Fin 2) (v : BitVec 63) (s : State) : Out := .next (s.writePortControl port.val v.toNat)

/-- A port enters Down: it leaves Up under R545 if it was Up, and its BAR0 and BAR2 take their reset values (R544). -/
def State.portDown (s : State) (p : Nat) : State :=
  let q := s.port p
  if q.st = .down then s
  else
    let s1 := if q.st = .up then (s.setPort p { q with st := .down }).leaveUp p else s
    let q1 := s1.port p
    let s2 := s1.setPort p { taken := q1.taken, msix := q1.msix, box := q1.box, sqTurn := q1.sqTurn, perst := q1.perst, leaving := q1.leaving }
    let s3 : State := { s2 with tb := { s2.tb with ptpRec := Tbl.drop (fun k => decide (k / 4 = p)) s2.tb.ptpRec } }
    s3.signal s

/-- LINK_DOWN: the link goes down, or a hot reset or function level reset occurs (R544). -/
def execLinkDown (port : Fin 2) (s : State) : Out := .next (s.portDown port.val)

/-- PERST: PERST_N falls and resets the port to Down, or rises again (R717). -/
def execPerst (port : Fin 2) (low : Bool) (s : State) : Out :=
  let s1 := if low then s.portDown port.val else s
  .next (s1.setPort port.val { s1.port port.val with perst := low })

/-- HOST_LINK_UP: the link comes up after PERST_N has risen, and the port enters Linked (R544, R717); before bring-up step 7 ends
the port answers every configuration request with Request Retry Status (R652). -/
def execHostLinkUp (port : Fin 2) (s : State) : Out :=
  let q := s.port port.val
  let ready := decide (7 ≤ bits (s.reg keyBootState) 27 24) && decide (s.reg (okey 0x9200 0) ≠ 5)
  .next (when (ready && decide (q.st = .down) && !q.perst) ((s.setPort port.val { q with st := .linked }).signal s) s)

/-- WAIT_LIMIT_EXPIRY: a stream that has stayed Waiting for WaitLimit seconds is closed under R557 (R547). -/
def execWaitLimitExpiry (stream : Fin 16384) (s : State) : Out :=
  let x := s.stream stream.val
  .next (when (decide (x.st = .waiting)) ((s.setStream stream.val { x with st := .closing, limit := true }).signal s) s)

end Sys2Proof.Machine
end

