-- ==== Sys2Proof/Machine/Streams.lean ====
section
/-! DEFINITION. Submission queue commands and stream contexts (sections 13.4 to 13.6). -/

namespace Sys2Proof.Machine

open Sys2Proof

/-- Words of submission queue entry i of queue q (Table 13-2). -/
def Port.sqWords (p : Port) (q i : Nat) : List Nat := (List.range 8).map (fun w => p.word (0x400000 + 65536 * q + 64 * i + 8 * w))

/-- Queue q of a port holds an entry that the hub can fetch, with the port after its completion slot is reserved, where
the queue names a ring (R560, R567). -/
def Port.fetchable (p : Port) (q : Nat) : Option Port :=
  let x := p.sq q
  if p.st = .up ∧ x.enable ∧ x.head ≠ x.tail then p.reserveFor (if x.complValid then some x.complRing else none) else none

/-- The queue of a port that is served next, in turns of one entry (R559); in a freeze only one whose next entry is a MEMREAD or
STATEREAD (R709). -/
def Port.nextSq (p : Port) (frozen : Bool) : Option (Nat × Port) :=
  ((List.range 64).map (fun i => (p.sqTurn + i) % 64)).findSome? (fun q =>
    let op := cOpcode (p.sqWords q (p.sq q).head)
    if frozen && decide (op ≠ 6) && decide (op ≠ 8) then none else (p.fetchable q).map (fun r => (q, r)))

/-! Fields of Table 13-10. -/

def oHome (ws : List Nat) : Nat := bits (wd ws 4) 63 61
def oPaired (ws : List Nat) : Bool := bits (wd ws 4) 60 60 = 1
def oStateSize (ws : List Nat) : Nat := bits (wd ws 4) 57 53
def oOutSize (ws : List Nat) : Nat := bits (wd ws 4) 52 47
def oBase (ws : List Nat) : Nat := bits (wd ws 2) 63 16
def oSize (ws : List Nat) : Nat := bits (wd ws 3) 63 32
def inLength (ws : List Nat) : Nat := bits (wd ws 2) 31 0
def stOffset (ws : List Nat) : Nat := bits (wd ws 2) 63 32
def stLength (ws : List Nat) : Nat := bits (wd ws 2) 31 0
def memTier (ws : List Nat) : Bool := bits (wd ws 2) 63 63 = 1
def memAddr (ws : List Nat) : Nat := bits (wd ws 2) 62 0
def memLength (ws : List Nat) : Nat := bits (wd ws 3) 31 0

/-- The bytes that a command moves; none where its opcode has no Length. -/
def cmdLength (ws : List Nat) : Option Nat :=
  match cOpcode ws with
  | 1 => some (inLength ws)
  | 5 => some (stLength ws)
  | 6 => some (stLength ws)
  | 7 => some (memLength ws)
  | 8 => some (memLength ws)
  | _ => none

/-- The entries of the range of a MEMWRITE or MEMREAD as the ledger stands, if each is Valid with the Placement of its space (R558, Table
13-11). -/
def State.memRange (s : State) (ws : List Nat) : Option (List (Nat × Nat)) :=
  if cOpcode ws = 7 ∨ cOpcode ws = 8 then s.hubRange (memTier ws) (memAddr ws) (memLength ws) else none

/-- Is an opcode defined (Table 13-10)? -/
def sqOpcode (op : Nat) : Bool := decide (1 ≤ op) && decide (op ≤ 9)

/-- Fetch the next entry of a port (R555, R558, R560). A command whose opcode is not defined has its outcome at once
(Table 13-11). -/
def State.fetch (s : State) (p q : Nat) (reserved : Port) : State :=
  let x := reserved.sq q
  let ws := reserved.sqWords q x.head
  let t : Taken := { sq := q, entry := x.head, words := ws, ring := if x.complValid then some x.complRing else none,
                     epoch := s.epoch, range := s.memRange ws, status := if sqOpcode (cOpcode ws) then none else some Status.typeMismatch.code }
  let p1 := reserved.setSq q { x with head := (x.head + 1) % 1024 }
  let s1 : State := { s.setPort p { p1 with taken := p1.taken ++ [t], sqTurn := (q + 1) % 64 } with sqPort := 1 - p }
  s1.bump (hostCtr p 1)

/-- SQ_FETCH: the hub fetches one entry, from the ports and their queues in turns (R559). It fetches none while dispatch has
stopped (R646, R707), and while the module is frozen only MEMREAD and STATEREAD at the head of a queue (R709). -/
def execSqFetch (s : State) : Out :=
  let fz := s.frozen && decide (s.reg (okey 0x9200 0) = 1)
  if !s.takes && !fz then .next s
  else
    match (s.port s.sqPort).nextSq fz with
    | some (q, r) => .next (s.fetch s.sqPort q r)
    | none =>
      match (s.port (1 - s.sqPort)).nextSq fz with
      | some (q, r) => .next (s.fetch (1 - s.sqPort) q r)
      | none => .next s

/-! Carrying commands out. -/

/-- Does a command name a stream (R549, R558)? -/
def namesStream (ws : List Nat) : Bool := decide (cOpcode ws ≠ 7) && decide (cOpcode ws ≠ 8)

/-- The order in which commands are carried out (R559): commands of one stream from one queue one after the other. -/
def blocks (a b : Taken) : Bool :=
  a.status.isNone && decide (a.sq = b.sq) && namesStream a.words && namesStream b.words && decide (cStream a.words = cStream b.words)

/-- Bits of each word that Table 13-10 names, by opcode; a set bit outside them breaks RSV (R555). -/
def sqMasks (op : Nat) : List Nat :=
  let all := 2 ^ 64 - 1
  let w0 := 2 ^ 64 - 2 ^ 55 + (2 ^ 48 - 2 ^ 18)
  match op with
  | 1 => [w0, all, 2 ^ 64 - 2 ^ 56 + (2 ^ 32 - 1), all, 0, 0, 0, 0]
  | 2 => [w0, all, 2 ^ 64 - 2 ^ 16, 2 ^ 64 - 2 ^ 32, 2 ^ 64 - 2 ^ 35, 0, 0, 0]
  | 4 => [w0, all, all, 2 ^ 64 - 2 ^ 48 + (2 ^ 32 - 1), 2 ^ 64 - 2 ^ 58 + 3, 0, 0, 0]
  | 5 => [w0, all, all, 0, 0, 0, 0, 0]
  | 6 => [w0, all, all, 0, 0, 0, 0, 0]
  | 7 => [w0, all, all, 2 ^ 32 - 1, 0, 0, 0, 0]
  | 8 => [w0, all, all, 2 ^ 32 - 1, 0, 0, 0, 0]
  | 9 => [w0, 2 ^ 64 - 2 ^ 50, 0, 0, 0, 0, 0, 0]
  | _ => [w0, 0, 0, 0, 0, 0, 0, 0]

/-- RSV fields are 0 (Table 13-11). -/
def sqClean (ws : List Nat) : Bool :=
  ((sqMasks (cOpcode ws)).zipIdx).all (fun m => decide (wd ws m.2 &&& (2 ^ 64 - 1 - m.1) = 0))

/-- Bytes that the state records of a home die's streams take of its reserved frames (R550): 2S each. -/
def State.recordBytes (s : State) (home : Nat) : Nat :=
  ((s.streams.filter (fun e => decide (e.2.st ≠ .closed) && decide (e.2.home = home))).map (fun e => 2 * 4096 * e.2.stateSize)).sum

/-- Every ingress granule is valid, striped and owned by the stream (Table 13-11). -/
def State.ingressMapped (s : State) (stream base size : Nat) : Bool :=
  (List.range (size / 65536)).all (fun i =>
    let a := base + 65536 * i
    let e := s.entryAt 0 (ledgerIndex false a)
    decide (a < spaceSize false) && eValid e && decide (ePlacement e = 0) && eOwnerValid e && decide (eOwner e = stream))

/-- Is the command a SAMPLING behind others that wait for a step of its stream? The check of R250 then runs in its turn, on the record that
they leave (R554, R559). -/
def State.samplingBehind (s : State) (ws : List Nat) : Bool := decide (cOpcode ws = 4) && decide ((s.stream (cStream ws)).deferred ≠ [])

/-- The rows of Table 13-11 in order: the status of the first that fails. OK as an answer means no effect (R19). -/
def State.sqCheck (s : State) (p : Nat) (t : Taken) : Option Status :=
  let ws := t.words
  let op := cOpcode ws
  let x := s.stream (cStream ws)
  let live := decide (x.st = .opened) || decide (x.st = .waiting)
  let len := cmdLength ws
  let n := len.getD 1
  if !sqOpcode op || !sqClean ws then some .typeMismatch
  else if op = 2 ∧ (oStateSize ws = 0 ∨ 16 < oStateSize ws ∨ oOutSize ws = 0 ∨ (oPaired ws ∧ s.pair.role = .unpaired)) then some .typeMismatch
  else if op = 1 ∧ (bits (wd ws 2) 63 56 = 0 ∨ 3 < bits (wd ws 2) 63 56) then some .typeMismatch
  else if op = 4 ∧ !s.samplingBehind ws ∧ (recCheck (samplingWrite (samplingWords x.committed) ws)).isSome then
    recCheck (samplingWrite (samplingWords x.committed) ws)
  else if (op = 1 ∨ op = 2) ∧ !s.tb.begun then some .notReady
  else if op = 2 ∧ s.coresInService (oHome ws) = 0 then some .notReady
  else if namesStream ws && decide (op ≠ 2) && decide (x.st ≠ .closed) && decide (x.owner ≠ p) &&
      (decide (op ≠ 9) || decide ((s.port x.owner).st = .up)) then some .accessDenied
  else if op = 2 ∧ x.st ≠ .closed then some .busy
  else if namesStream ws && decide (op ≠ 2) && !live then some .notReady
  else if len = some 0 then some .ok
  else if op = 2 ∧ (oBase ws % 65536 ≠ 0 ∨ oSize ws % 65536 ≠ 0) then some .badAlign
  else if (op = 5 ∨ op = 6) ∧ (stOffset ws % 8 ≠ 0 ∨ n % 8 ≠ 0) then some .badAlign
  else if (op = 7 ∨ op = 8) ∧ (memAddr ws % 64 ≠ 0 ∨ n % 64 ≠ 0) then some .badAlign
  else if op = 1 ∧ (65536 < n ∨ x.inSize < n + 32) then some .lengthExceeds
  else if op = 2 ∧ (oSize ws < 65536 ∨ 2 ^ 24 < oSize ws ∨ oStateSize ws * 4096 < 0x100 + oOutSize ws * 256) then some .lengthExceeds
  else if (op = 5 ∨ op = 6) ∧ x.stateSize * 4096 < stOffset ws + n then some .lengthExceeds
  else if (op = 7 ∨ op = 8) ∧ spaceSize (memTier ws) < memAddr ws + n then some .lengthExceeds
  else if op = 5 ∧ stOffset ws < 0x100 then some .accessDenied
  else if op = 2 ∧ !s.ingressMapped (cStream ws) (oBase ws) (oSize ws) then some .accessDenied
  else if (op = 7 ∨ op = 8) ∧ t.range.isNone then some .accessDenied
  else if op = 2 ∧ 4096 * 65536 < s.recordBytes (oHome ws) + 2 * 4096 * oStateSize ws then some .busy
  else none

/-- Exactly n bytes of what the hub has read from host memory; a list that is too short goes on with zeros (log entry
41). -/
def exactly (n : Nat) (bs : List Byte) : List Byte := bs.take n ++ List.replicate (n - bs.length) (0 : Byte)

/-- Is a path between the hub and one of the units dark, so that an access of the hub waits (R565, R211)? -/
def State.hubDark (s : State) (us : List Nat) : Bool :=
  us.any (fun u => (pathRegions siteH (unitSite u)).any (fun x => !(s.region x).up))

/-- Do the frames of a range, all copies included, wait: for a dark path, or for a migration that holds writes (R299,
R565)? -/
def State.hubWaits (s : State) (tr : List (Nat × Nat)) (tier write : Bool) (va n : Nat) : Bool :=
  let fs := tr.flatMap (fun e => framesOf e.2)
  s.hubDark (if write then fs.map (·.1) else unitsOf tr 0) ||
  (write && (pieces tier va n).any (fun p =>
    (framesOf (entryFor tr tier p.1)).any (fun f => s.holdsWrites f.1 (physAddr (entryFor tr tier p.1) (p.1 % 2 ^ granShift tier)))))

/-- Are all units of a range in service, all copies included (R734)? -/
def State.hubServes (s : State) (tr : List (Nat × Nat)) : Bool :=
  (tr.flatMap (fun e => framesOf e.2)).all (fun f => s.unitServes f.1 && !s.unitHard f.1)

/-- The status with which units refuse the hub's accesses: NOT_READY of a die that a trip has stopped altogether, UNCORRECTED of
a unit out of service (R631, R734; log entry 43). -/
def State.hubCause (s : State) (us : List Nat) : Nat := if us.any s.unitHard then Status.notReady.code else Status.uncorrected.code

def State.rangeCause (s : State) (tr : List (Nat × Nat)) : Nat := s.hubCause ((tr.flatMap (fun e => framesOf e.2)).map (·.1))

/-- Where a placement of n payload bytes goes: one run at the ring's head, or a pad to its end and then one from offset 0 (R561). -/
def Stream.placeRuns (x : Stream) (n : Nat) : List (Nat × Nat) :=
  let size := roundUp (32 + n) 64
  let off := x.inHead % x.inSize
  if x.inSize < off + size then [(x.inBase + off, x.inSize - off), (x.inBase, size)] else [(x.inBase + off, size)]

/-- The ranges of a placement as the hub translates them. -/
def State.placeRange (s : State) (runs : List (Nat × Nat)) : List (Nat × Nat) := runs.flatMap (fun r => (s.hubRange false r.1 r.2).getD [])

/-- STATEWRITE and STATEREAD meet a record whose polders are out of service (R734; log entry 41). -/
def State.recordLost (s : State) (t : Taken) : Bool :=
  let h := (s.stream (cStream t.words)).home
  [2 * h, 2 * h + 1].any (fun u => !s.unitServes u || s.unitHard u)

/-- Does a command that has passed its checks wait for what it needs: a dark path, a migration that holds writes, or an earlier REBIND of
its stream (R299, R559, R565)? -/
def State.cmdWaits (s : State) (t : Taken) : Bool :=
  let ws := t.words
  let x := s.stream (cStream ws)
  let tr := t.range.getD []
  match cOpcode ws with
  | 1 =>
    let runs := x.placeRuns (inLength ws)
    runs.all (fun r => (s.hubRange false r.1 r.2).isSome) && runs.any (fun r => s.hubWaits (s.placeRange runs) false true r.1 r.2)
  | 2 => s.hubDark [2 * oHome ws, 2 * oHome ws + 1]
  | 4 => s.hubDark [2 * x.home, 2 * x.home + 1]
  | 5 => !s.recordLost t && s.hubDark [2 * x.home, 2 * x.home + 1]
  | 6 => !s.recordLost t && s.hubDark [2 * x.home, 2 * x.home + 1]
  | 7 => s.hubWaits tr (memTier ws) true (memAddr ws) (memLength ws)
  | 8 => s.hubWaits tr (memTier ws) false (memAddr ws) (memLength ws)
  | 9 => x.rebind.isSome
  | _ => false

/-- The first command with an opcode that can be carried out: not parked, not held, and behind no other command of its stream from its queue
(R559). A command that waits for a running step lets the later ones of its kind queue up behind it (`soft`). -/
def nextTaken (op : Nat) (parked held soft : Taken → Bool) (before : List Taken) : List Taken → Option Taken
  | [] => none
  | t :: r =>
    if t.status.isNone && decide (cOpcode t.words = op) && !parked t && !before.any (fun a => blocks a t) && !held t then some t
    else nextTaken op parked held soft (if soft t then before else before ++ [t]) r

/-- The command of an opcode that a port's next row carries out. -/
def State.nextCmd (s : State) (p op : Nat) : Option Taken :=
  let record := decide (4 ≤ op) && decide (op ≤ 6)
  nextTaken op (s.parked p) (fun t => (s.sqCheck p t).isNone && s.cmdWaits t)
    (fun t => record && s.parked p t && decide (4 ≤ cOpcode t.words) && decide (cOpcode t.words ≤ 6)) [] (s.port p).taken

/-- Put a command on the committed record behind those that wait for the stream's step (R554). -/
def State.defer (s : State) (p : Nat) (data : List Byte) (t : Taken) (fails : Option Nat) : State :=
  let i := cStream t.words
  let x := s.stream i
  s.setStream i { x with deferred := x.deferred ++ [{ port := p, sq := t.sq, entry := t.entry, words := t.words, data := data, fails := fails }] }

/-- Carry out the next command of an opcode on a port: its checks, then its effect, which gives the command's outcome or leaves it waiting
(R556). A SAMPLING behind commands that wait for a step has its outcome in its turn. After a freeze at once the hub serves only MEMREAD and
STATEREAD (R708, R709). A port that has left Up may have waited for the command (R545). -/
def State.runCmd (s : State) (p op : Nat) (effect : State → Taken → State) : State :=
  match (if s.stopped ∧ op ≠ 6 ∧ op ≠ 8 then none else s.nextCmd p op) with
  | none => s
  | some t =>
    (match s.sqCheck p t with
    | some st => if s.samplingBehind t.words then s.defer p [] t (some st.code) else s.finishCmd p t.sq t.entry st.code
    | none => effect s t).finishLeave p

/-- An ingress record: header (Table 13-13), payload and padding (R561). -/
def ingressRecord (stream kind len seq time tick : Nat) (payload : List Byte) : List Byte :=
  leBytes 8 (stream * 2 ^ 50 + kind * 2 ^ 32 + len) ++ leBytes 8 (seq * 2 ^ 32) ++ leBytes 8 time ++ leBytes 8 tick ++
  payload ++ List.replicate (roundUp (32 + payload.length) 64 - (32 + payload.length)) (0 : Byte)

/-- Place one ingress record at the ring's head, after a pad record where it would pass the ring's end (R561 to R564). A
granule that the ledger no longer maps refuses it with ACCESS_DENIED, and an access answered UNCORRECTED ends it so (R734);
then neither IngressHead nor IngressNextSeq moves. -/
def State.place1 (s : State) (p : Nat) (data : List Byte) (t : Taken) : State :=
  let ws := t.words
  let i := cStream ws
  let x := s.stream i
  let payload := exactly (inLength ws) data
  let size := roundUp (32 + payload.length) 64
  let off := x.inHead % x.inSize
  let pad := if x.inSize < off + size then x.inSize - off else 0
  let at_ := if pad = 0 then off else 0
  let now := s.tb.count
  let time := if wd ws 3 = 0 then s.tb.frameStart else wd ws 3
  let rec1 := ingressRecord i (bits (wd ws 2) 63 56) payload.length x.inSeq time now payload
  let fill := if pad = 0 then [] else ingressRecord i 0 (pad - 32) 0 time now (List.replicate (pad - 32) (0 : Byte))
  let runs := x.placeRuns (inLength ws)
  if runs.any (fun r => (s.hubRange false r.1 r.2).isNone) then s.finishCmd p t.sq t.entry Status.accessDenied.code
  else
    let tr := s.placeRange runs
    if !s.hubServes tr then s.finishCmd p t.sq t.entry (s.rangeCause tr)
    else
      let s1 := if pad = 0 then s else s.hubWrite tr false (x.inBase + off) fill
      let s2 := s1.hubWrite tr false (x.inBase + at_) rec1
      let s3 := s2.setStream i { s2.stream i with inHead := (x.inHead + pad + size) % 2 ^ 64, inSeq := (x.inSeq + 1) % 2 ^ 32,
                                                  inTick := now, inBytes := x.inBytes ++ payload }
      (s3.bump (hostCtr p 3)).finishCmd p t.sq t.entry 0

/-- INGRESS (section 13.6): `data` is what the hub reads at HostAddress. -/
def execIngress (port : Fin 2) (data : List Byte) (s : State) : Out :=
  .next (s.runCmd port.val 1 (fun u t => u.place1 port.val data t))

/-- A stream context as OPEN makes it (R550, R553, Table 13-10); a paired stream starts Synced on the unit that leads and
Unsynced on one that follows (log entry 40). -/
def openedStream (p frame : Nat) (ws : List Nat) (leads : Bool) (base : Nat) : Stream :=
  let r := putSampling [] (initialRecord (wd ws 1))
  let r1 := wrLe (wrLe r 0x50 8 (oBase ws)) 0x58 8 (oSize ws * 2 ^ 32)
  { st := .opened, owner := p, home := oHome ws, paired := oPaired ws,
    sync := if oPaired ws then (if leads then 1 else 2) else 0,
    failover := bits (wd ws 4) 59 59 = 1, reportSteps := bits (wd ws 4) 58 58 = 1, stateSize := oStateSize ws,
    outSize := oOutSize ws, ringQ0 := bits (wd ws 4) 46 41, ringQ1 := bits (wd ws 4) 40 35, f0 := frame,
    inBase := oBase ws, inSize := oSize ws, recBase := base, committed := r1, working := r1 }

/-- OPEN: the context and both copies of the state record are written (R553). A home die whose pair of polders is out of
service answers UNCORRECTED (R734; log entry 41). -/
def execOpenStream (port : Fin 2) (s : State) : Out :=
  .next (s.runCmd port.val 2 (fun u t =>
    let ws := t.words
    let us := [2 * oHome ws, 2 * oHome ws + 1]
    if us.any (fun v => !u.unitServes v || u.unitHard v) then u.finishCmd port.val t.sq t.entry (u.hubCause us)
    else
      let leads := decide (u.pair.role ≠ .standby) && decide (u.pair.role ≠ .joining)
      let n := oStateSize ws * 4096
      let x := openedStream port.val u.tb.frame ws leads (u.recPlace (oHome ws) n)
      ((((u.recWrote x false 0 n).recWrote x true 0 n).setStream (cStream ws) x).finishCmd port.val t.sq t.entry 0).signal u))

/-- CLOSE: the stream moves to Closing; it closes, and the command completes, at an idle frame boundary (R557). -/
def execCloseStream (port : Fin 2) (s : State) : Out :=
  .next (s.runCmd port.val 3 (fun u t =>
    let i := cStream t.words
    let c : Cmd := { port := port.val, sq := t.sq, entry := t.entry, words := t.words }
    (u.setStream i { u.stream i with st := .closing, closer := some c }).signal u))

/-- A command on the committed record: at once, or after the running step (R554). -/
def State.onRecord (s : State) (p : Nat) (data : List Byte) (t : Taken) : State :=
  let i := cStream t.words
  let x := s.stream i
  if s.streamRuns i ∨ x.deferred ≠ [] then s.defer p data t none
  else s.applyDeferred { port := p, sq := t.sq, entry := t.entry, words := t.words, data := data }

/-- SAMPLING: the selected fields of the sampling-state record are written (R554, Table 13-10). -/
def execSampling (port : Fin 2) (s : State) : Out := .next (s.runCmd port.val 4 (fun u t => u.onRecord port.val [] t))

/-- The status that it answers with. -/
def State.recordCause (s : State) (t : Taken) : Nat :=
  let h := (s.stream (cStream t.words)).home
  s.hubCause [2 * h, 2 * h + 1]

/-- STATEWRITE: host memory to the committed record (R554). -/
def execStatewrite (port : Fin 2) (data : List Byte) (s : State) : Out :=
  .next (s.runCmd port.val 5 (fun u t =>
    if u.recordLost t then u.finishCmd port.val t.sq t.entry (u.recordCause t)
    else u.onRecord port.val (exactly (stLength t.words) data) t))

/-- STATEREAD: the committed record to host memory (R554). -/
def execStateread (port : Fin 2) (s : State) : Out :=
  .next (s.runCmd port.val 6 (fun u t =>
    if u.recordLost t then u.finishCmd port.val t.sq t.entry (u.recordCause t) else u.onRecord port.val [] t))

/-- MEMWRITE: host memory to polder or tier, all eight copies of a replicated range, under the translation of its acceptance (R558); every line is written whole, so
it meets no poison that stops it (R267). -/
def execMemwrite (port : Fin 2) (data : List Byte) (s : State) : Out :=
  .next (s.runCmd port.val 7 (fun u t =>
    let ws := t.words
    let n := memLength ws
    let tr := t.range.getD []
    if !u.hubServes tr then u.finishCmd port.val t.sq t.entry (u.rangeCause tr)
    else (u.hubWrite tr (memTier ws) (memAddr ws) (exactly n data)).finishCmd port.val t.sq t.entry 0))

/-- MEMREAD: polder or tier to host memory, from die C0's copy of a replicated range, under the translation of its acceptance (R558). At a poisoned line it ends
with UNCORRECTED, having written the lines before it and no byte of that line (R734). -/
def execMemread (port : Fin 2) (s : State) : Out :=
  .next (s.runCmd port.val 8 (fun u t =>
    let ws := t.words
    let n := memLength ws
    let tier := memTier ws
    let tr := t.range.getD []
    let put (v : State) (m : Nat) : State :=
      { v with hostMem := wrBytes v.hostMem (port.val * 2 ^ 64 + wd ws 1) (v.virtRead tr 0 tier (memAddr ws) m) }
    if !u.rangeServes tr 0 || (unitsOf tr 0).any u.unitHard then
      u.finishCmd port.val t.sq t.entry (u.hubCause (unitsOf tr 0))
    else
      let v := u.wake tr 0
      match v.readBad tr 0 tier [(memAddr ws, n)] with
      | some bad => (put v (bad / 64 * 64 - memAddr ws)).finishCmd port.val t.sq t.entry Status.uncorrected.code
      | none => (put v n).finishCmd port.val t.sq t.entry 0))

/-- REBIND: owner, failover and rings change at the next frame boundary, where the command completes (Table 13-10). -/
def execRebind (port : Fin 2) (s : State) : Out :=
  .next (s.runCmd port.val 9 (fun u t =>
    let i := cStream t.words
    let c : Cmd := { port := port.val, sq := t.sq, entry := t.entry, words := t.words }
    u.setStream i { u.stream i with rebind := some c }))

/-! Completions (R560, R567, R580). -/

/-- Does the outcome of a command need a slot (R560)? -/
def needsSlot (ws : List Nat) (status : Nat) : Bool :=
  cNotify ws || decide (status ≠ 0) || decide (cOpcode ws = 2) || decide (cOpcode ws = 3) || decide (cOpcode ws = 9)

/-- COMMAND_COMPLETION: the oldest command of a port that has its outcome completes: its slot is posted, or its reservation
is released (R560, R567); the completions of a port that has left Up since are discarded (R545). -/
def execCommandCompletion (port : Fin 2) (s : State) : Out :=
  let p := port.val
  let q := s.port p
  match q.taken.find? (fun t => t.status.isSome) with
  | none => .next s
  | some t =>
    let st := t.status.getD 0
    let q1 : Port := { q with taken := removeFirst (fun u => u.status.isSome) q.taken }
    let q2 := match t.ring with
      | some r =>
        if needsSlot t.words st then
          q1.postReserved r 0x03 (completionContent 0 t.sq (cTag t.words) (cStream t.words) t.entry st s.tb.count)
        else q1.release r
      | none => q1
    let s0 := s.setPort p q2
    let s1 := if t.ring.isSome && needsSlot t.words st then s0.traceOpen 7 siteH 2 (some 0x15) none none else s0
    .next (if st = 0 then s1 else s1.bump (hostCtr p 2))

/-- A fault of the hub discards every command in flight (R22, R580). -/
def State.discardCommands (s : State) : State :=
  let s1 := [0, 1].foldl (fun t p =>
    let q := t.port p
    t.setPort p { q with taken := q.taken.map (fun c => if c.status.isNone then { c with status := some Status.discarded.code } else c) }) s
  { s1 with streams := s1.streams.map (fun e => (e.1, { e.2 with deferred := [], rebind := none, closer := none })) }

/-- Apply a REBIND at a frame boundary: the new owner's port makes the stream Open or Waiting (Table 13-10, R547). -/
def State.applyRebind (s : State) (i : Nat) : State :=
  let x := s.stream i
  match x.rebind with
  | none => s
  | some c =>
    let w := wd c.words 1
    let owner := bits w 63 63
    let live := decide (x.st = .opened) || decide (x.st = .waiting)
    let st : StreamSt := if live then (if (s.port owner).st = .up then .opened else .waiting) else x.st
    let t := s.setStream i { x with owner := owner, failover := bits w 62 62 = 1, ringQ0 := bits w 61 56, ringQ1 := bits w 55 50,
                                    st := st, rebind := none }
    (if st = .waiting ∧ x.st ≠ .waiting then t.event i 0x01 0 else t).finishCmd c.port c.sq c.entry 0

/-- Close a Closing stream at a frame boundary, if no step of it runs (R557); one closed by its WaitLimit posts
ClosedByLimit (R547). -/
def State.closeIdle (s : State) (i : Nat) : State :=
  let x := s.stream i
  if x.st ≠ .closing ∨ s.streamRuns i then s
  else
    let s1 := if x.limit then s.event i 0x04 0 else s
    let s2 := match x.closer with
      | some c => s1.finishCmd c.port c.sq c.entry 0
      | none => s1
    s2.setStream i {}

end Sys2Proof.Machine
end

