-- ==== Sys2Proof/Machine/Tier.lean ====
section
/-! DEFINITION. The DDR5 tier (chapter 8): channel states, drains and staging. -/

namespace Sys2Proof.Machine

open Sys2Proof

/-! Channel states (Table 8-2). -/

/-- Table 8-1 and the SPD CRC (R309, R314). -/
def spdSupported (d : Spd) : Bool :=
  d.crcOk && d.rdimm && decide (d.modules = 1) && decide (d.subchannels = 2) && decide (d.subchannelBits = 40) && (decide (d.dramWidth = 4) || decide (d.dramWidth = 8)) &&
  (decide (d.ranks = 1) || decide (d.ranks = 2)) && decide (1 ≤ d.stack) && decide (d.stack ≤ 4) &&
  decide (16 ≤ d.capacity) && decide (d.capacity ≤ 256) &&
  (decide (d.rate = 4800) || decide (d.rate = 5600) || decide (d.rate = 6400))

/-- SpeedBin of a rate (R310, Table 8-6). -/
def speedBin (rate : Nat) : Nat := if rate = 4800 then 0 else if rate = 5600 then 1 else 2

/-- PRESENCE_DETECT: DnPRES_N has been low for 1 s; an Empty channel with a discover command waiting enters Discovering
(Table 8-2). -/
def execPresenceDetect (chan : Fin 16) (s : State) : Out :=
  let c := s.chan chan.val
  if c.st = .empty ∧ c.asked then
    .next (s.setChan chan.val { c with present := true, asked := false, st := .discovering, power := true })
  else .next (s.setChan chan.val { c with present := true })

/-- PRESENCE_REMOVED: DnPRES_N goes high: a Drained channel becomes Empty, every other state but Empty becomes Failed
(Table 8-2, R317). -/
def execPresenceRemoved (chan : Fin 16) (s : State) : Out :=
  let i := chan.val
  let s1 := s.setChan i { s.chan i with present := false }
  match (s.chan i).st with
  | .empty => .next s1
  | .drained => .next (s1.setChan i { s1.chan i with st := .empty, power := false, speed := 0, width := 0, capacity := 0, serial := 0 })
  | _ => .next (s1.channelFail i)

/-- What a passed or failed discovery check does (Table 8-2). -/
def Chan.discover (c : Chan) (d : Spd) : Chan :=
  if spdSupported d then
    { c with st := .training, speed := speedBin d.rate, width := if d.dramWidth = 8 then 1 else 0, capacity := d.capacity, serial := d.serial }
  else { c with st := .refused, power := false }

/-- SPD_READ: 200 ms after power enable, the hub checks the SPD and trains or refuses the module (R309, R310, R314); the tier channel firmware does so
(Table 16-4, R663). -/
def execSpdRead (chan : Fin 16) (d : Spd) (s : State) : Out :=
  let c := s.chan chan.val
  .next (when (decide (c.st = .discovering) && !s.pausedBy 8 chan.val && s.hasImage 8 chan.val) (s.setChan chan.val (c.discover d)) s)

/-- Frames of a channel's module that the repair map retires (R655, Table 16-1). -/
def State.mapFrames (s : State) (c serial : Nat) : List Nat :=
  (s.fuseMap ++ s.fieldMap).filterMap (fun e => match e with | .tierFrame d n f => if d = c ∧ n = serial then some f else none | _ => none)

/-- Is an entry a retired frame of channel c in a module of another serial number? -/
def otherModule (c serial : Nat) (e : MapEntry) : Bool :=
  match e with | .tierFrame d n _ => decide (d = c) && decide (n ≠ serial) | _ => false

/-- A trained channel enters In service with the repair map applied; the field map entries of a module that has left are
removed (R655). Its contents are undefined (log entry 8). -/
def State.channelIn (s : State) (c : Nat) : State :=
  let x := s.chan c
  let fs := (s.mapFrames c x.serial).foldl addOnce []
  let s1 : State := { s.setChan c { x with st := .inService } with fieldMap := s.fieldMap.filter (fun e => !otherModule c x.serial e) }
  (s1.setStore (16 + c) { s1.store (16 + c) with mem := [], poison := [], due := [], retired := fs, selfRefresh := false }).setReg
    (okey 0x5103 (c + 1)) fs.length

/-- CHANNEL_TRAINING_END (Table 8-2, R316). -/
def execChannelTrainingEnd (chan : Fin 16) (pass : Bool) (s : State) : Out :=
  if (s.chan chan.val).st = .training ∧ !s.pausedBy 8 chan.val then .next (if pass then s.channelIn chan.val else s.channelFail chan.val) else .next s

/-- I3C_BUS_LOSS: the channel's bus stops answering and it goes to Failed (Table 8-2, R317). -/
def execI3cBusLoss (chan : Fin 16) (s : State) : Out :=
  match (s.chan chan.val).st with
  | .discovering | .training | .inService | .draining => .next (s.channelFail chan.val)
  | _ => .next s

/-- POWER_ENABLE_OFF: 10 ms after Drained (Table 8-2). -/
def execPowerEnableOff (chan : Fin 16) (s : State) : Out :=
  .next (when (decide ((s.chan chan.val).st = .drained)) (s.setChan chan.val { s.chan chan.val with power := false }) s)

/-- CHANNEL_SELF_REFRESH: a channel with no pending access for 50 µs (R321). -/
def execChannelSelfRefresh (chan : Fin 16) (s : State) : Out :=
  let u := 16 + chan.val
  .next (when (s.unitServes u) (s.setStore u { s.store u with selfRefresh := true }) s)

/-! ChannelControl (R333 to R336). -/

/-- The outcome of a channel command in `0x5110:03`, which also answers the write; while a drain runs it reads BUSY (Table 8-7). -/
def State.channelStatus (s : State) (st : Status) : State := (s.drainOutcome 16 st).answer st

/-- Valid granules on a channel. -/
def State.granulesOn (s : State) (c : Nat) : List Nat :=
  (s.ledger.filter (fun e => decide (e.1 < 2 ^ 25) && eValid e.2 && decide (ePlacement e.2 = 2) && decide (eUnit e.2 = c))).map (·.2)

/-- Free frames of a channel. -/
def State.freeFrames (s : State) (c : Nat) : Nat :=
  ((List.range (s.frameCount (16 + c))).filter (fun f => s.frameUsable (16 + c) f && s.frameFree (16 + c) f)).length

/-- The checks of a drain command (R334). -/
def State.drainCheck (s : State) (c : Nat) : Status :=
  if 15 < c then .typeMismatch
  else if (s.chan c).st ≠ .inService then .notReady
  else if (s.granulesOn c).any ePinned then .busy
  else if (((List.range 16).filter (fun d => decide (d ≠ c) && decide ((s.chan d).st = .inService))).map s.freeFrames).sum <
      (s.granulesOn c).length then .busy
  else .ok

/-- The write of 0x01 (R334, R335): Status reads BUSY while the drain runs, and the channel's trace frames are lost (R323). -/
def State.channelDrain (s : State) : State :=
  let c := s.reg (okey 0x5110 1)
  match s.drainCheck c with
  | .ok => ((((s.setChan c { s.chan c with st := .draining, traceFrames := 0 }).addReg (okey 0x5130 3) (s.chan c).traceFrames).setReg (okey 0x5110 3) Status.busy.code).answer .ok).feedDrain c migFlight
  | st => s.channelStatus st

/-- CHANNEL_DRAIN (R333 to R335). -/
def execChannelDrain (s : State) : Out := .next s.channelDrain

/-- The write of 0x02 (R334): discovery of an Empty, Refused or Failed channel. -/
def State.channelDiscover (s : State) : State :=
  let i := s.reg (okey 0x5110 1)
  if 15 < i then s.channelStatus .typeMismatch
  else
    let c := s.chan i
    match c.st with
    | .empty =>
      (if c.present then s.setChan i { c with st := .discovering, power := true } else s.setChan i { c with asked := true }).channelStatus .ok
    | .refused | .failed => (s.setChan i { c with st := .discovering, power := true }).channelStatus .ok
    | _ => s.channelStatus .notReady

/-- DISCOVER (R333, R334). -/
def execDiscover (s : State) : Out := .next s.channelDiscover

/-- A write to `0x5110:02` (R334). -/
def writeChannelCommand (v : Nat) (s : State) : State :=
  if v = 1 then s.channelDrain else if v = 2 then s.channelDiscover else s.channelStatus .typeMismatch

/-- DRAIN_COMPLETE: no granule is left on a Draining channel, which enters Drained and self-refresh (R336). -/
def execDrainComplete (chan : Fin 16) (s : State) : Out :=
  let c := chan.val
  let u := 16 + c
  if (s.chan c).st = .draining ∧ s.granulesOn c = [] ∧ !s.stagingTouches c then
    let s1 := s.setChan c { s.chan c with st := .drained }
    .next ((s1.setStore u { s1.store u with selfRefresh := true }).drainOutcome c .ok)
  else .next s

/-! Staging (R324 to R332). -/

def gCount (ws : List Nat) : Nat := bits (ws.getD 0 0) 23 0
def gTier (ws : List Nat) : Nat := ws.getD 1 0
def gPolder (ws : List Nat) : Nat := ws.getD 2 0

/-- The entries of a command's ranges: tier granules and polder granules. -/
def State.stageEntries (s : State) (ws : List Nat) : List Nat × List Nat :=
  ((List.range (gCount ws)).map (fun i => s.entryAt 0 (2 ^ 24 + gTier ws / 2 ^ 18 + i)),
   (List.range (4 * gCount ws)).map (fun i => s.entryAt 0 (gPolder ws / 2 ^ 16 + i)))

/-- Table 8-5 in its order; OK where a Count of 0 ends the command. A STAGEOUT involves only die C0's copy of a Placement 1 granule
(R327). -/
def State.stageCheck (s : State) (ws : List Nat) : Option Status :=
  let (te, pe) := s.stageEntries ws
  let out := decide (gOpcode ws = 2)
  if (gOpcode ws ≠ 1 ∧ gOpcode ws ≠ 2) ∨ bits (ws.getD 0 0) 31 24 ≠ 0 ∨ ws.getD 5 0 ≠ 0 then some .typeMismatch
  else if gTier ws % 2 ^ 18 ≠ 0 ∨ gPolder ws % 2 ^ 16 ≠ 0 then some .badAlign
  else if gCount ws = 0 then some .ok
  else if spaceSize true < gTier ws + gCount ws * 2 ^ 18 ∨ spaceSize false < gPolder ws + gCount ws * 2 ^ 18 then some .lengthExceeds
  else if te.any (fun e => !eValid e || decide (ePlacement e ≠ 2)) || pe.any (fun e => !eValid e || decide (2 ≤ ePlacement e)) then
    some .accessDenied
  else if (if out then te else pe).any (fun e => !eWrite e) then some .accessDenied
  else if gNeed ws ≠ 0 ∧ gNeed ws < s.tb.frame + 1 then some .stale
  else if te.any (fun e => (framesOf e).any (fun f => !s.unitServes f.1)) ||
      pe.any (fun e => (if out then (framesOf e).take 1 else framesOf e).any (fun f => !s.unitServes f.1)) then some .notReady
  else none

/-- Translate every granule of a command (R326). -/
def State.stageMap (s : State) (ws : List Nat) : List (List (Nat × Nat) × List (List (Nat × Nat))) :=
  (List.range (gCount ws)).map (fun i =>
    (framesOf (s.entryAt 0 (2 ^ 24 + gTier ws / 2 ^ 18 + i)),
     (List.range 4).map (fun j => framesOf (s.entryAt 0 (gPolder ws / 2 ^ 16 + 4 * i + j)))))

/-- The next staging command of a port with its reservation (R324; log entry 29). -/
def State.stagingNextOf (s : State) (port : Nat) : Option (Port × Nat × List Nat) :=
  let p := s.port port
  if p.st = .up ∧ p.stagingQ.take ≠ p.stagingQ.tail then
    (p.reserveFor (p.queueRing true)).map (fun q => (q, p.stagingQ.take, p.stagingWords p.stagingQ.take))
  else none

/-- The next staging command of both ports, in turns. -/
def State.stagingNext (s : State) : Option (Nat × Port × Nat × List Nat) :=
  if s.takes then
    match s.stagingNextOf s.stagingTurn with
    | some x => some (s.stagingTurn, x)
    | none => (s.stagingNextOf (1 - s.stagingTurn)).map (fun x => (1 - s.stagingTurn, x))
  else none

/-- Take the next staging command, if its opcode is one that `mine` names: its checks and its translations (R325, R326). -/
def State.takeStaging (s : State) (mine : Nat → Bool) : State :=
  match s.stagingNext with
  | none => s
  | some (port, p, i, ws) =>
    if mine (gOpcode ws) then
      let st := s.stageCheck ws
      let c : StageCmd :=
        { port := port, entry := i, words := ws, ring := p.queueRing true, epoch := s.epoch, status := st.map Status.code,
          map := if st.isNone then s.stageMap ws else [], todo := if st.isNone then List.range (gCount ws) else [] }
      let t := s.setStaging (startGranules (s.staging ++ [c]))
      { t.setPort port { p with stagingQ := { p.stagingQ with take := (p.stagingQ.take + 1) % 256 } } with stagingTurn := 1 - port }
    else s

/-- STAGING_QUEUE_DOORBELL: the new tail of a port's staging queue (R540). -/
def execStagingQueueDoorbell (port : Fin 2) (v : Nat) (s : State) : Out :=
  let p := s.port port.val
  .next (when (decide (p.st ≠ .down)) ((s.setPort port.val { p with stagingQ := { p.stagingQ with tail := v % 256 } }).traceOpen 7 5 1 (some 0x15) none none) s)

/-- STAGEIN: the hub accepts a copy of tier granules into polder granules (R325 to R328); `errs` are errors that the lines it reads show
(R311, R312). -/
def execStagein (errs : List MemError) (s : State) : Out := .next ((s.takeStaging (· == 1)).memErrors errs)

/-- STAGEOUT: the hub accepts a copy of polder granules into tier granules (R325 to R328). -/
def execStageout (errs : List MemError) (s : State) : Out := .next ((s.takeStaging (· == 2)).memErrors errs)

/-- A byte address in a frame. -/
def frameAddr (f : Nat × Nat) (off : Nat) : Nat × Nat := (f.1, f.2 * 2 ^ (if isTier f.1 then 18 else 16) + off)

/-- The sources and destinations of a command, 64 KiB each. -/
def State.stageMoves (s : State) (c : StageCmd) : List ((Nat × Nat) × List (Nat × Nat)) :=
  c.map.flatMap (fun g => g.2.zipIdx.map (fun p =>
    let tier := g.1.map (fun f => frameAddr (s.frameNow f) (p.2 * 2 ^ 16))
    let pol := p.1.map (fun f => frameAddr (s.frameNow f) 0)
    if gOpcode c.words = 2 then (pol.headD (0, 0), tier) else (tier.headD (0, 0), pol)))

/-- Copy 64 KiB with its poison marks, tracked by a migration of the destination (R299, R331). -/
def State.stageMove (s : State) (a b : Nat × Nat) : State :=
  if !s.unitServes a.1 || !s.unitServes b.1 then s
  else
    let s1 := s.moveBytes a.1 a.2 b.1 b.2 65536
    let s2 := match s1.migAt b.1 b.2 with
      | some m => if m.phase = 2 ∨ m.phase = 3 then s1.setMig m.index (markDirty b.1 b.2 65536) else s1
      | none => s1
    s2.marked b.1 (b.2 / 2 ^ (if isTier b.1 then 18 else 16))

/-- Poisoned source lines of a command. -/
def State.stagePoison (s : State) (c : StageCmd) : Nat :=
  ((s.stageMoves c).map (fun m => ((linesOf m.1.2 65536).filter (fun l => (s.store m.1.1).poison.contains l)).length)).sum

/-- The paths of a command between the hub and its polders (R332). -/
def State.stageDark (s : State) (c : StageCmd) : Bool :=
  (s.stageMoves c).any (fun m => (m.1 :: m.2).any (fun f =>
    (siteH :: unitSite f.1 :: pathRegions siteH (unitSite f.1)).any (fun x => !(s.region x).up)))

/-- Does a destination hold new writes for a migration (R299)? -/
def State.stageWaits (s : State) (c : StageCmd) : Bool := (s.stageMoves c).any (fun m => m.2.any (fun f => s.holdsWrites f.1 f.2))

/-- Post a staging command's completion (R541, R545). -/
def State.finishStaging (s : State) (c : StageCmd) (st : Nat) : State :=
  if c.gone then s
  else
    let p := s.port c.port
    let off := 0x14000 + 64 * c.entry
    let p1 := (p.setWord off (setField (p.word off) 55 48 st)).setWord (off + 32) s.tb.count
    let p2 : Port := { p1 with stagingQ := p1.stagingQ.finish c.entry st }
    let t := s.setPort c.port (match c.ring with
      | some r => p2.postReserved r 0x03 (completionContent 2 0 (bits (c.words.getD 0 0) 47 32) 0 c.entry st s.tb.count)
      | none => p2)
    if c.ring.isSome then t.traceOpen 7 5 2 (some 0x15) none none else t

/-- Is every unit that a command copies from or to still in service? -/
def State.stageServes (s : State) (c : StageCmd) : Bool := (s.stageMoves c).all (fun m => (m.1 :: m.2).all (fun f => s.unitServes f.1))

/-- Let the granules of the command at a place land as they start, until none is left or none may start (R328). -/
def stageRounds (pos : Nat) : Nat → List StageCmd → List StageCmd
  | 0, l => l
  | n + 1, l =>
    match l[pos]? with
    | none => l
    | some c => if c.flight = [] then l else stageRounds pos n (startGranules (l.set pos { c with flight := [] }))

/-- The commands after every granule of one has landed; none while one of its granules may not start (R328). -/
def stageLanded (pos : Nat) (c : StageCmd) (l : List StageCmd) : Option (List StageCmd) :=
  let r := stageRounds pos (c.todo.length + 1) l
  match r[pos]? with
  | some d => if d.todo = [] ∧ d.flight = [] then some r else none
  | none => none

/-- The copy of a command, and its counters (R327, R329, R331, Table 8-7). One whose channel fails as it copies ends DISCARDED (R317), as
one does whose polder has left service (log entry 68). -/
def State.stageCopy (s : State) (c : StageCmd) : State × Nat :=
  let late := decide (gNeed c.words ≠ 0) && decide (gNeed c.words ≤ s.tb.frame)
  let s1 := (s.stageMoves c).foldl (fun t m => m.2.foldl (fun t2 d => t2.stageMove m.1 d) t) s
  if !s.stageServes c || !s1.stageServes c then (s1, Status.discarded.code)
  else
  let s2 := (s1.addReg (okey 0x5130 1) (gCount c.words)).addReg (okey 0x5130 4) (s.stagePoison c)
  if late then (s2.bump (okey 0x5130 2), Status.deadlineMissed.code) else (s2, 0)

/-- STAGING_COMPLETE: the command at a place among those accepted ends (R329, R541). Its granules start in their turn (R328), and its copy
waits for dark paths and for migrations that hold writes (R299, R332). With no such command, the hub takes one whose opcode is not defined (log entry
29). -/
def execStagingComplete (pos : Nat) (s : State) : Out :=
  match (if s.stopped then none else s.staging[pos]?) with
  | none => .next (s.takeStaging (fun op => decide (op ≠ 1) && decide (op ≠ 2)))
  | some c =>
    let rest := s.setStaging (startGranules (removeAt s.staging pos))
    match c.status with
    | some st => .next ((rest.finishStaging c st).feedDrains)
    | none =>
      if s.stageDark c || s.stageWaits c then .next s
      else
        match stageLanded pos c s.staging with
        | none => .next s
        | some l =>
          let (t, st) := (s.setStaging (removeAt l pos)).stageCopy c
          .next ((t.finishStaging c st).feedDrains)

end Sys2Proof.Machine
end

