-- ==== Sys2Proof/Machine/Power.lean ====
section
/-! DEFINITION. Clocks, operating points, trips and power states (chapter 15). -/

namespace Sys2Proof.Machine

open Sys2Proof

/-! Keys. -/

def keyPower : Nat := okey 0x9200 0
def keyPowerStatus : Nat := okey 0x9202 0
def keyOsc : Nat := okey 0x9001 0
def keyFlags : Nat := okey 0x9303 0

/-- PowerState of Table 15-10. -/
def State.powerState (s : State) : Nat := s.reg keyPower

def State.setPw (s : State) (f : Power → Power) : State := { s with pw := f s.pw }

/-! The reference (R610 to R612). -/

/-- Rewrite ReferenceState, its W1C bits as they stand (Table 15-12, R649). -/
def State.reportOsc (s : State) : State :=
  let p := s.pw
  s.setReg keyOsc (p.osc * 2 ^ 30 + (if p.primary then 2 ^ 29 else 0) + (if p.secondary then 2 ^ 28 else 0)
    + bits (s.reg keyOsc) 27 26 * 2 ^ 26 + p.correction % 2 ^ 16)

/-- The presence of an oscillator changes. -/
def Power.setOsc (p : Power) (i : Nat) (b : Bool) : Power := if i = 0 then { p with primary := b } else { p with secondary := b }

def Power.oscGood (p : Power) (i : Nat) : Bool := if i = 0 then p.primary else p.secondary

/-- OSCILLATOR_LOSS: an oscillator is lost; when it is the one in use the synthesisers hold (R611). -/
def execOscillatorLoss (which : Fin 2) (s : State) : Out :=
  let s1 := s.setPw (fun p => p.setOsc which.val false)
  .next (if s.pw.osc = which.val then (s1.setPw (fun p => { p with osc := 2 })).stick keyOsc (2 ^ 27) else s1)

/-- OSCILLATOR_SWITCH: the hub switches to the other oscillator (R611). -/
def execOscillatorSwitch (s : State) : Out :=
  let p := s.pw
  .next (when (decide (p.osc = 2) && (p.primary || p.secondary)) (s.setPw (fun p => { p with osc := if p.primary then 0 else 1 })) s)

/-- OSCILLATOR_RETURN: a lost oscillator is present again (R611). -/
def execOscillatorReturn (which : Fin 2) (s : State) : Out := .next (s.setPw (fun p => p.setOsc which.val true))

/-! Stretching (R613, R615). -/

/-- 1 / f of a region's clock in units of 1 / (175,560 GHz): die regions at their point, or at the hold clock after a trip;
polder controllers and site endpoints at 1.25 GHz; hub core at 2.0 and hub fabric at 1.5 GHz; tier channels at their rate /
4,000 (Table 15-1, Table 15-2, R630). -/
def State.clockInverse (s : State) (i : Nat) : Nat :=
  if i < 8 then
    if s.tripped i then 585200 else match (s.dieOf i).point with | 0 => 92400 | 1 => 117040 | _ => 146300
  else if i < 36 then 140448
  else if i = 36 then (if (s.thermal 8).rate then 175560 else 87780)
  else if i = 37 then 117040
  else
    let rate := match (s.chan (i - 38)).speed with | 0 => 4800 | b => 4800 + 800 * b
    175560 * 4000 / rate * (if (s.thermal 8).rate then 2 else 1)

/-- DROOP_STRETCH: a region lengthens one period by 1/16 to 8/16; the period and the time added are counted (R613, R615). A
sixteenth of a period of f GHz is 1 / f units of 62.5 ps. -/
def execDroopStretch (region : Fin 54) (sixteenths : Fin 8) (s : State) : Out :=
  let i := region.val
  let acc := Tbl.get 0 s.pw.stretch i + (sixteenths.val + 1) * s.clockInverse i
  let s1 := s.setPw (fun p => { p with stretch := Tbl.put 0 p.stretch i acc })
  .next ((s1.bump (okey 0x9010 (2 * i + 1))).setReg (okey 0x9010 (2 * i + 2)) (divRne acc 175560))

/-- SYNC_PULSE: 1 µs later the hub marks the next multiple of 16,000; each region, which has drifted by `drift` since the
last pulse, slews by at most 16 units toward it (R611, R616). -/
def execSyncPulse (drift : List (Fin 73 × Int)) (s : State) : Out :=
  let skew := drift.foldl (fun t d => Tbl.upd 0 t d.1.val (· + d.2)) s.pw.skew
  let slew (e : Int) : Int := max (-16) (min 16 e)
  let big := skew.foldl (fun m e => max m (slew e.2).natAbs) 0
  let rest := skew.filterMap (fun e => if e.2 = slew e.2 then none else some (e.1, e.2 - slew e.2))
  .next (s.setPw (fun p => { p with time := (p.time / 16000 + 1) * 16000 % 2 ^ 64, skew := rest, correction := big }))

/-! Operating points (R117 to R120, R617 to R622). -/

/-- VCORE of a point, mV (Table 15-2). -/
def voltage (point : Nat) : Nat := match point with | 0 => 800 | 1 => 740 | _ => 700

/-- The point that a restarted or relieved die holds after the coming boundary: one up per boundary, or one per second after
a restart (Table 15-5, R635). -/
def State.climbNext (s : State) (d : Nat) : Nat :=
  let t := s.thermal d
  if t.slow && decide (s.tb.count < t.climbTick + 48000) then t.climb else t.climb - 1

/-- The die that the power cap lets rise at the coming boundary: the average has stayed 100 W below the effective cap for
1 s; the lowest of the lowered dies is first (R640; log entry 43). -/
def State.capRaise (s : State) : Option Nat :=
  if 4000 ≤ s.pw.under then (List.range 8).find? (fun d => decide (Tbl.get 0 s.pw.capped d ≠ 0)) else none

def State.cappedNext (s : State) (d : Nat) : Nat :=
  let c := Tbl.get 0 s.pw.capped d
  if s.capRaise = some d then c - 1 else c

/-- The lowest point of those that hold a die: requested, cap, throttles (R620), with the given values of those that lift
step by step. -/
def State.pointWith (s : State) (d climb capped : Nat) : Nat :=
  let t := s.thermal d
  (max (s.reg (okey 0x4001 (d + 1))) (max capped (max climb (max t.lowered (if t.rate ∨ s.pw.flowHold then 2 else 0)))))

/-- The point that the throttles hold a die at, or a slower one: the junction throttle, the rate throttle and a low flow, which act at
once, where a request and the cap act at a frame boundary (R118, R639, Table 15-5). -/
def State.throttlePoint (s : State) (d : Nat) : Nat :=
  max (s.thermal d).lowered (if (s.thermal d).rate ∨ s.pw.flowHold then 2 else 0)

/-- The point of a die as its limits now stand. -/
def State.pointNow (s : State) (d : Nat) : Nat := s.pointWith d (s.thermal d).climb (Tbl.get 0 s.pw.capped d)

/-- The point after the coming boundary. -/
def State.pointNext (s : State) (d : Nat) : Nat := s.pointWith d (s.climbNext d) (s.cappedNext d)

/-- Send a change at time count T, `delay` units of 62.5 ps from now (R617). -/
def State.schedule (s : State) (c : Sync) (delay : Nat) : State :=
  s.setPw (fun p => { p with changes := p.changes ++ [{ time := p.time + delay, what := c }] })

/-- Cancel a raise ramp: VCORE returns to the voltage of the die's point (R622). -/
def State.cancelRamp (s : State) (d : Nat) : State :=
  let x := s.dieOf d
  s.setDie d { x with ramp := none, settled := false, vcore := voltage x.point }

/-- A throttle takes a die to a slower point 2 µs from now, and cancels a raise ramp to a point that it does not allow (Table 15-5,
R617, R622). -/
def State.throttle (s : State) (d : Nat) : State :=
  let p := s.throttlePoint d
  if (s.dieOf d).point < p ∧ (s.dieOf d).up then
    ((s.cancelRamp d).schedule (.point d p) 32000).trace 6 (siteOfDie d) 0xF0 1 ((s.thermal d).last.getD 0).toNat p
  else if (s.dieOf d).ramp.any (fun r => decide (r < p)) then s.cancelRamp d else s

/-- A write of DieOperatingPoint (R117): kept as requested, and applied at the next frame boundary. -/
def State.writePoint (s : State) (d v : Nat) : State :=
  if 2 < v then s.answer .typeMismatch else (s.keep (okey 0x4001 (d + 1)) v).answer .ok

/-- DIE_OPERATING_POINT_WRITE (R117). -/
def execDieOperatingPointWrite (die : Fin 8) (v : Nat) (s : State) : Out := .next (s.writePoint die.val v)

/-- Does a die run at its point: in service and not tripped? -/
def State.clocked (s : State) (d : Nat) : Bool := (s.dieOf d).up && !s.tripped d

/-- VCORE_RAMP_START: 20 µs before a boundary the hub starts the ramp of a die that may rise there (R621). -/
def execVcoreRampStart (die : Fin 8) (s : State) : Out :=
  let d := die.val
  let x := s.dieOf d
  let p := s.pointNext d
  .next (when (s.clocked d && decide (p < x.point)) (s.setDie d { x with ramp := some p, settled := false, vcore := voltage p }) s)

/-- VCORE_SETTLE_CHECK: 2 µs before the boundary; an unsettled VCORE moves the raise to the next boundary (R618, R621). -/
def execVcoreSettleCheck (die : Fin 8) (settled : Bool) (s : State) : Out :=
  let x := s.dieOf die.val
  .next (when x.ramp.isSome (s.setDie die.val { x with settled := settled }) s)

/-- The next synchronised change: the earliest time count, in the order sent. -/
def firstChange : List Change → Option Change
  | [] => none
  | c :: r => match firstChange r with
    | none => some c
    | some d => if d.time < c.time then some d else some c

/-- Let the lifts of a die's limits take effect at a frame boundary. -/
def State.liftLimits (s : State) (d : Nat) : State :=
  let t := s.thermal d
  let c := s.climbNext d
  let cap := s.cappedNext d
  let s1 := s.setThermal d { t with climb := c, climbTick := if c < t.climb then s.tb.count else t.climbTick, slow := t.slow && decide (c ≠ 0) }
  s1.setPw (fun p => { p with capped := Tbl.put 0 p.capped d cap })

/-- The operating point of a die at a frame boundary: a slower one takes effect at once, a faster one once its VCORE has
settled, else at a later boundary (R118, R620 to R622). -/
def State.boundaryPoint (s : State) (d : Nat) : State :=
  let x := s.dieOf d
  let p := s.pointNext d
  if !s.clocked d then s
  else if x.point < p then ((s.liftLimits d).cancelRamp d).schedule (.point d p) 0
  else if p < x.point then
    match x.ramp, x.settled with
    | some r, true =>
      if p ≤ r then
        let s1 := s.liftLimits d
        (s1.setDie d { s1.dieOf d with ramp := none }).schedule (.point d r) 0
      else s.cancelRamp d
    | _, _ => s
  else s.liftLimits d

/-- The effective power cap, W (R638, R640). -/
def State.effectiveCap (s : State) : Nat := min (s.reg (okey 0x9300 0)) (if s.pw.low then 2600 else 3400)

/-- POWER_CAP_ACTION at a frame boundary: while the 8-round average exceeds the effective cap, the die with the highest power
among those above point 2 is lowered by one point; with none left PowerCapUnmet is set (R639). -/
def State.capCheck (s : State) : State :=
  let ws := s.pw.watts
  if ws.length < 8 ∨ (ws.take 8).sum ≤ 8 * s.effectiveCap then s
  else
    let above := (List.range 8).filter (fun d => s.clocked d && decide (s.pointNow d < 2) && decide ((s.dieOf d).point < 2))
    let w (d : Nat) : Nat := s.pw.dieWatts.getD d 0
    let best := above.foldl (fun (b : Option Nat) d => match b with
      | none => some d
      | some e => if w e < w d then some d else b) none
    match best with
    | some d => (s.setPw (fun p => { p with capped := Tbl.put 0 p.capped d ((s.dieOf d).point + 1) })).stick keyFlags 4
    | none => if (List.range 8).any (fun d => s.clocked d && decide ((s.dieOf d).point < 2)) then s else s.stick keyFlags 2

/-! Trips and restarts (R630 to R636). -/

/-- Is a BIST unit part of a die? -/
def onDie (d : Nat) (u : BistUnit) : Bool :=
  match u with
  | .core k _ => decide (k.val = d)
  | .bank k _ _ => decide (k.val = d)
  | _ => false

/-- Scratch, row store and accumulators of a die lose their contents; what they hold afterwards is a free choice, and the
model leaves nothing written (R630, R647; log entry 8). -/
def State.clearCores (s : State) (d : Nat) : State :=
  { s with cores := s.cores.map (fun e => if e.1 / 64 = d then
      (e.1, { e.2 with scratch := [], rows := [], acc := [], poisoned := [], bist := false, bistBank := none }) else e) }

/-- DIE_TRIP: the die's work is discarded, its cores are power-gated and its region holds at 300 MHz; the third trip within
one hour latches it (R630, R636). -/
def State.dieTrip (s : State) (d : Nat) : State :=
  let t := s.thermal d
  if t.trip ≠ .none then s
  else
    let s1 := s.discardDie d { cause := Status.discarded.code }
    let s2 := (s1.clearCores d).dropSlices (onDie d)
    let s3 := s2.setDie d { s2.dieOf d with up := false, point := 2, vcore := 700, ramp := none, settled := false }
    let ts := recent s.tb.count hourTicks t.trips
    let s4 := s3.setThermal d { s3.thermal d with
      trip := if 3 ≤ ts.length then .latched else .tripped, trips := ts, hot := 0, hard := false, rate := false, lowered := 0,
      half := false, climb := 0, hotAt2 := 0 }
    let s5 := { s4 with pw := { s4.pw with changes := s4.pw.changes.filter (fun c => match c.what with
      | .point k _ => decide (k ≠ d)
      | .stop => true) } }
    let s6 := s5.trace 6 (siteOfDie d) 0xF0 2 ((s5.thermal d).last.getD 0).toNat 2
    ((s6.bump (okey 0x9140 4)).reportSite (siteOfDie d)).dropFresh

/-- What a power cycle or a Fault-off leaves: fuses, the non-volatile store, image slots, a boot stage that waits for the next
bring-up, and what is fitted; ClockFault is kept, and the reply cache of an isolated die stays guarded for its return (R464, R605, R612,
R654, R666, R680). -/
def State.cold (s : State) : State :=
  { State.reset with
    dict := Tbl.put 0 [] keyOsc (bits (s.reg keyOsc) 26 26 * 2 ^ 26)
    nv := s.nv
    lastStatus := s.lastStatus
    freeCtr := s.freeCtr
    hostMem := s.hostMem
    fuseMap := s.fuseMap
    fieldMap := s.fieldMap
    nvTrims := s.nvTrims
    guards := ((List.range 8).filter (fun d => (s.dieOf d).isolated)).map siteOfDie
    chans := s.chans.filterMap (fun e => if e.2.present then some (e.1, { present := true }) else none)
    guests := s.guests
    lasers := s.lasers.filterMap (fun e => if e.2.seat then some (e.1, { seat := true }) else none)
    ports := s.ports.filterMap (fun e =>
      let p : Port := { perst := e.2.perst, msix := e.2.msix }
      if p = {} then none else some (e.1, p))
    sensors := s.sensors.filterMap (fun e => if e.2.near = [] then none else some (e.1, { near := e.2.near }))
    pw := { primary := s.pw.primary, secondary := s.pw.secondary }
    dap := { restore := s.dap.restore }
    sec := { fuses := s.sec.fuses, sealBits := s.sec.sealBits, slots := s.sec.slots, active := s.sec.active,
             counters := s.sec.counters, raises := s.sec.raises, blown := s.sec.blown,
             update := if s.sec.update.comp = 1 ∧ s.sec.update.ph = .staged then s.sec.update else {} }
    pending := s.pending }

/-- The module goes to Fault-off: every supply but the supervisor's ends, all work is discarded, and a transition that ran
reads DISCARDED (R22, R580, R612, R632, R638, R643, R648). -/
def State.faultOff (s : State) (c : FaultOff) : State :=
  if s.powerState = 5 then s
  else
    let s1 := s.cold
    let s2 := (s1.setPw (fun p => { p with fault := c })).setReg keyPower 5
    if s.powerState = 4 then s2.setReg keyPowerStatus Status.discarded.code else s2

/-- A ring region trips: its rings park and it goes dark as under Table 9-8, until its restart; H's takes the module to
Fault-off (R409, R632). -/
def State.regionTrip (s : State) (x : Nat) : State :=
  if x = siteH then s.faultOff .hubTrip
  else if (s.thermal (16 + x)).trip ≠ .none ∨ (s.region x).st = .parked then s
  else
    let s1 := s.setThermal (16 + x) { s.thermal (16 + x) with trip := .tripped }
    let s2 := if (s1.region x).up then s1.startReset x else s1
    let s3 := s2.siteRingMap x MicroRing.park
    (s3.setRegion x { s3.region x with tripped := true, st := if (s3.region x).st = .locking then .reset else (s3.region x).st }).bump (okey 0x9140 4)

/-- HOUSEKEEPING_MISSED: a housekeeping sequencer misses two rounds and trips every die that it watches; a trip of the hub
takes the module to Fault-off (R632, R633). -/
def execHousekeepingMissed (dies : List (Fin 8)) (hub : Bool) (s : State) : Out :=
  let s1 := dies.foldl (fun t d => if (t.dieOf d.val).up then t.dieTrip d.val else t) s
  .next (if hub then s1.faultOff .hubTrip else s1)

/-- 5 s in housekeeping rounds (R623, R634). -/
def restartRounds : Nat := 20000

/-- DIE_RESTART: after 5 s in restart pending, at a frame boundary, the die restarts at point 2 with the core numbers it held
and steps up one point per second; its reply caches start empty and guarded (R464, R634, R635). -/
def execDieRestart (die : Fin 8) (s : State) : Out :=
  let d := die.val
  let t := s.thermal d
  if t.trip ≠ .pending ∨ t.rest < restartRounds ∨ (s.tb.begun ∧ s.tb.count ≠ s.tb.frameStart) then .next s
  else
    let x := siteOfDie d
    let s1 := s.setThermal d { t with trip := .none, hard := false, hot := 0, climb := 2, slow := true, climbTick := s.tb.count, rises := [], calm := 0, cool := 0 }
    let s2 := s1.setDie d { s1.dieOf d with up := true, point := 2, vcore := 700 }
    let s3 : State := { s2 with replies := s2.replies.filter (fun r => decide (r.site ≠ x)), guards := addOnce s2.guards x }
    .next (s3.reportSite x)

/-- RING_REGION_RESTART: a tripped ring region that has been 5 s in restart pending restarts, and its rings relock (R407,
R634). -/
def execRingRegionRestart (x : Fin 12) (s : State) : Out :=
  let t := s.thermal (16 + x.val)
  if t.trip ≠ .pending ∨ t.rest < restartRounds then .next s
  else
    let s1 := s.setThermal (16 + x.val) { t with trip := .none }
    let s2 := s1.setRegion x.val { s1.region x.val with tripped := false }
    .next (if (s2.laser 0).st.supplies ∨ (s2.laser 1).st.supplies then s2.lockRegion x.val
      else s2.setRegion x.val { s2.region x.val with st := .dark })

/-- A write of ThermalTripClear (R636): the named die goes on to its restart. -/
def State.writeTripClear (s : State) (v : Nat) : State :=
  if 11 < v then s.answer .typeMismatch
  else
    match dieAt v with
    | some d =>
      let t := s.thermal d
      if t.trip = .latched then (s.setThermal d { t with trip := .tripped }).answer .ok else s.answer .notReady
    | none => s.answer .notReady

/-- THERMAL_TRIP_CLEAR (R636). -/
def execThermalTripClear (v : Nat) (s : State) : Out := .next (s.writeTripClear v)

/-! Input and rails (R612, R638). -/

/-- CLOCK_FAULT: both oscillators have been lost for 10 ms (R612). -/
def execClockFault (s : State) : Out :=
  let p := s.pw
  .next (when (!p.primary && !p.secondary && decide (s.powerState ≠ 5)) ((s.stick keyOsc (2 ^ 26)).faultOff .clock) s)

/-- INPUT_LOW: below 43.0 V for 1 ms: InputLow and a cap of 2,600 W (R638). -/
def execInputLow (s : State) : Out :=
  .next (when (decide (s.powerState ≠ 5)) ((s.setPw (fun p => { p with low := true })).stick keyFlags 1) s)

/-- INPUT_UNDERVOLTAGE: below 40.0 V for 20 µs (R638). -/
def execInputUndervoltage (s : State) : Out := .next (s.faultOff .input)
/-- INPUT_OVERVOLTAGE: above 60.0 V for 10 µs (R638). -/
def execInputOvervoltage (s : State) : Out := .next (s.faultOff .input)
/-- RAIL_FAULT (R643). -/
def execRailFault (s : State) : Out := .next (s.faultOff .rail)

/-- A bring-up starts: step 1 has ended and the standby converter runs (R650, Table 16-1). -/
def State.startBringUp (s : State) : State := s.cold.setReg keyBootState (2 ^ 24)

/-- INPUT_RESTORED: the input has stayed in range for 1 s: the low cap lifts, or after a Fault-off that the input caused a
full bring-up starts (R638). -/
def execInputRestored (s : State) : Out :=
  if s.powerState = 5 then .next (when (decide (s.pw.fault = .input)) s.startBringUp s)
  else .next (s.setPw (fun p => { p with low := false }))

/-- FAULT_OFF_RESTART: after a hub trip the four substrate sensors have read below 80 °C for 5 s (R637). -/
def execFaultOffRestart (s : State) : Out :=
  .next (when (decide (s.powerState = 5) && decide (s.pw.fault = .hubTrip)) s.startBringUp s)

/-- POWER_APPLIED: the 50 V input has reached its range and stayed there for 100 ms, and the supervisor starts bring-up (R650,
Table 16-1, step 1). A module in service has its input already. -/
def execPowerApplied (s : State) : Out :=
  .next (when (decide (s.powerState = 0) || decide (s.powerState = 5)) s.startBringUp s)

/-! Retention (R643 to R648). -/

/-- Work that refuses an entry into retention (R644, check 3). -/
def State.retentionBusy (s : State) : Bool :=
  s.streams.any (fun e => decide (e.2.st ≠ .closed)) || s.ledgerCmd.isSome || decide (s.staging ≠ []) ||
  [0, 1].any (fun p => let q := s.port p
    decide (q.ledgerQ.take ≠ q.ledgerQ.tail) || decide (q.stagingQ.take ≠ q.stagingQ.tail)) ||
  decide (s.migs ≠ []) || s.chans.any (fun e => decide (e.2.st = .draining)) ||
  (List.range 12).any (fun x => let r := s.region x
    r.calRun || decide (r.st = .noticed) || decide (r.st = .reset) || decide (r.st = .locking)) ||
  s.lanes.any (fun e => decide (e.2.cal ≠ 0) && !s.laneSlice (e.1 / 96) (e.1 % 96)) || s.patCmd.isSome ||
  decide (s.pair.role = .active) || decide (s.pair.role = .standby)

/-- The checks of a PowerCommand write (R644). -/
def State.powerCheck (s : State) (v : Nat) : Status :=
  if v ≠ 1 ∧ v ≠ 2 then .typeMismatch
  else if v = 1 ∧ s.powerState ≠ 1 then .notReady
  else if v = 2 ∧ s.powerState ≠ 3 then .notReady
  else if v = 1 ∧ s.retentionBusy then .busy
  else .ok

/-- Save every ring's trims and every poison list (R305, R321, R408). -/
def State.saveForRetention (s : State) : State :=
  let s1 : State := { s with stores := s.stores.map (fun e => (e.1, { e.2 with saved := e.2.poison })) }
  let s2 : State := { s1 with stores := s1.stores.filter (fun e => decide (e.2 ≠ {})) }
  s2.rings.foldl (fun t e => { t with nvTrims := Tbl.put {} t.nvTrims e.1 e.2.trims }) s2

/-- What the entry does once dispatch has stopped at a frame boundary: trims and poison lists are saved and the laser modules
ramp off (R645, steps 1 to 3). -/
def State.retentionStop (s : State) : State :=
  if !s.pw.retains then s
  else
    let s1 := ({ s with halted := true }.setPw (fun p => { p with retains := false })).saveForRetention
    [0, 1].foldl (fun t m => if (t.laser m).st.supplies ∨ (t.laser m).st = .rampUp then t.rampOff m else t) s1

/-- Close every session (R598). -/
def State.dropSessions (s : State) : State := { s with dap := { s.dap with sessions := [] } }.setReg (okey 0x1010 0) 0

/-- An entry into retention stops an update between slices (R678); what its Status then reads no rule states (log entry
43). -/
def State.stopUpdate (s : State) : State :=
  let u := s.sec.update
  if u.ph = .applying ∨ u.ph = .reverting then
    ({ s with sec := { s.sec with update := { u with ph := .stopped, waits := false } } }.setReg (okey 0xA040 5) s.freeStatus).tickFree
  else s

/-- A write of PowerCommand (R644, R645, R647). Before the first frame there is no boundary to wait for. -/
def State.writePowerCommand (s : State) (v : Nat) : State :=
  let st := s.powerCheck v
  if st ≠ .ok then s.answer st
  else if v = 1 then
    let s1 := (((s.answer .ok).setReg keyPower 2).setReg keyPowerStatus Status.busy.code).dropSessions.stopUpdate
    let s2 := s1.setPw (fun p => { p with retains := true })
    if s.tb.begun then s2 else s2.retentionStop
  else
    let s1 := ((s.answer .ok).setReg keyPower 4).setReg keyPowerStatus Status.busy.code
    let s2 := (List.range 8).foldl (fun t d =>
      let x := t.dieOf d
      if x.isolated then t
      else (t.setDie d { x with up := !t.tripped d, point := 2, vcore := 700, ramp := none, settled := false }).clearCores d) s1
    let s3 : State := { s2 with tlb := [], stores := s2.stores.map (fun e => (e.1, { e.2 with selfRefresh := false, poison := e.2.saved })) }
    let s4 : State := { s3 with stores := s3.stores.filter (fun e => decide (e.2 ≠ {})) }
    [0, 1].foldl (fun t m =>
      let l := t.laser m
      if l.seat ∧ (l.st = .removable ∨ l.st = .seated) then t.laserPut m { l with st := .rampUp, enable := true } else t) s4

/-- ENTER_RETENTION: PowerCommand 0x01 (R644, R645). -/
def execEnterRetention (s : State) : Out := .next (s.writePowerCommand 1)

/-- WAKE: PowerCommand 0x02: dies leave power-gating at point 2, lasers ramp up, whose light starts the relock of the regions,
self-refresh ends, and scratch and row store read 0 (R647, Table 15-11). -/
def execWake (s : State) : Out := .next (s.writePowerCommand 2)

/-- RETENTION_ENTRY_END: rings are parked, polders and tier channels are in self-refresh and the dies are power-gated (R645,
steps 4 to 6). -/
def execRetentionEntryEnd (s : State) : Out :=
  if s.powerState ≠ 2 ∨ !s.halted then .next s
  else
    let s1 := [0, 1].foldl (fun t m => if (t.laser m).st = .rampDown then t.laserPut m { t.laser m with st := .removable } else t) s
    let s2 := (s1.allDark.dropSlices (fun _ => true)).saveForRetention
    let s3 : State := { (List.range 32).foldl (fun t u =>
        if u < 16 ∨ t.unitServes u then t.setStore u { t.store u with selfRefresh := true } else t) s2 with migs := [], tlb := [] }
    let s4 := (List.range 8).foldl (fun t d => t.setDie d { t.dieOf d with up := false, vcore := 0, ramp := none, settled := false }) s3
    let s5 : State := { s4 with rings := (s4.rings.map (fun e => (e.1, { e.2 with heater := 0 }))).filter (fun e => decide (e.2 ≠ {})) }
    .next ((s5.setReg keyPower 3).setReg keyPowerStatus 0)

/-- WAKE_END: at the first frame boundary after the last phase of the wake the module is in service (R647). -/
def execWakeEnd (s : State) : Out :=
  let waits := (List.range 12).any (fun x => decide ((s.region x).st = .locking)) ||
    decide ((s.laser 0).st = .rampUp) || decide ((s.laser 1).st = .rampUp)
  .next (when (decide (s.powerState = 4) && !waits && (!s.tb.begun || decide (s.tb.count = s.tb.frameStart)))
    (({ s with halted := decide (s.test.freeze = FreezeSt.draining) || s.frozen }.setReg keyPower 1).setReg keyPowerStatus 0).feedAll s)

end Sys2Proof.Machine
end

