-- ==== Sys2Proof/Machine/RowMoves.lean ====
section
/-! DEFINITION. Row moves (sections 1.4, 3.2, 5.4) and the degradation ladder (section 3.7): corrections, spares, half
widths, bank copies and core map-outs. -/

namespace Sys2Proof.Machine

open Sys2Proof

/-! The repair map (R654, R656). -/

/-! The ladder (Table 3-6). -/

/-- Is a group in the half that a row port has dropped (R38, R41)? -/
def PCore.dropped (c : PCore) (group : Nat) : Bool :=
  (decide (c.width = 1) && decide (32 ≤ group)) || (decide (c.width = 2) && decide (group < 32))

/-- The physical bank of a logical bank (R102). -/
def PCore.physBank (c : PCore) (l : Nat) : Nat := Tbl.get l c.bankMap l

/-- The logical bank that a physical bank serves, if any. -/
def PCore.logicalOf (c : PCore) (b : Nat) : Option Nat := (List.range 32).find? (fun l => decide (c.physBank l = b))

/-- Is a core mapped out, and so no longer watched (R735)? -/
def PCore.unwatched (c : PCore) : Bool := decide (c.mode = .outAtBringUp) || decide (c.mode = .outInService)

/-- Discard the step that runs on a physical core, with a cause (R112). -/
def State.loseCore (s : State) (k cause : Nat) : State :=
  match s.grantOf k with
  | some (g, _) => s.coreFault k g 12 0 cause 0
  | none => s

/-- CORE_MAP_OUT, rung 4: the step on the core is discarded, the core leaves service with its contents lost, and the
last core of a die isolates the die (R132, R134). -/
def State.mapOutCore (s : State) (k : Nat) : State :=
  let mine (u : BistUnit) : Bool := match u with
    | .core d m => decide (coreKey d.val m.val = k)
    | .bank d m _ => decide (coreKey d.val m.val = k)
    | _ => false
  let s1 := ((s.mapRecord (.coreOut k)).bump (okey 0x4200 4)).dropSlices mine
  let s2 := s1.loseCore k Status.coreLost.code
  let s3 := s2.setCore k { s2.core k with mode := .outInService, copy := none, later := [], rows := [], scratch := [], acc := [] }
  let d := k / 64
  if s3.coresInService d = 0 then
    (s3.setDie d { s3.dieOf d with isolated := true }).discardDie d { cause := Status.coreLost.code }
  else s3

/-- A spare bank that fails leaves the spares at once; no rung acts (R128). -/
def State.dropSpare (s : State) (k phys : Nat) : State :=
  let c := s.core k
  (s.mapRecord (.spareBankOut k phys)).setCore k { c with spareBanks := c.spareBanks.filter (fun b => decide (b ≠ phys)) }

/-- BANK_MAP_OUT, rung 3: a copy of the bank to a spare bank begins; rung 4 where no spare remains (R129). A bank that serves no
logical bank has been mapped out already. -/
def State.mapOutBank (s : State) (k phys : Nat) : State :=
  let c := s.core k
  match c.logicalOf phys with
  | none => s
  | some l =>
    match c.spareBanks with
    | [] => s.mapOutCore k
    | b :: r =>
      ((s.mapRecord (.bankOut k phys b)).setCore k { c with copy := some (l, phys, b), spareBanks := r, mode := .copying }).bump
        (okey 0x4200 3)

/-- The one bank that all of a connection's corrected moves touched (R127). -/
def oneBank : List Nat → Option Nat
  | [] => none
  | b :: r => if r.all (fun x => decide (x = b)) then some b else none

/-- Is a failure that of a spare bank not in use (R128)? -/
def PCore.spareFails (c : PCore) (f : RungFailure) : Bool :=
  match f with | .bank b => c.spareBanks.contains b | _ => false

/-- Does one of the failures that wait tell of the same connection, bank or interface? -/
def RungFailure.same (f g : RungFailure) : Bool :=
  match f, g with
  | .connection p _, .connection q _ => decide (p = q)
  | _, _ => decide (f = g)

/-- Judge one failure on a core by the first row of Table 3-6 that matches (R126); one that arrives during a bank copy waits for its
end, once (R131), but for that of a spare bank (R128). -/
def State.ladder (s : State) (k : Nat) (f : RungFailure) : State :=
  let c := s.core k
  if c.unwatched then s
  else if c.spareFails f then (match f with | .bank b => s.dropSpare k b | _ => s)
  else if c.copy.isSome then (if c.later.any f.same then s else s.setCore k { c with later := c.later ++ [f] })
  else
    match f with
    | .connection position banks =>
      let group := position / 72
      if c.dropped group then s
      else if !c.groupsUsed.contains group then
        ((s.mapRecord (.spareGroup k group)).setCore k { c with groupsUsed := c.groupsUsed ++ [group], pause := true }).bump
          (okey 0x4200 1)
      else if c.width = 0 then
        let w := if group < 32 then 2 else 1
        let c1 : PCore := { c with width := w }
        ((s.mapRecord (.portHalved k w)).setCore k
          { c1 with corrections := c.corrections.filter (fun x => !c1.dropped (x.2.1 / 72)) }).bump (okey 0x4200 2)
      else
        match oneBank banks with
        | some b => s.mapOutBank k b
        | none => s.mapOutCore k
    | .bank phys => s.mapOutBank k phys
    | .control => s.mapOutCore k

/-- One row move through the port with its errors: the count of R39, the records of R127 and R128, and the failures that
they complete. The window of R128 is counted in media ticks (log entry 19). -/
def PCore.note (c : PCore) (tick phys row : Nat) (errs : List RowError) : PCore × List RungFailure :=
  let seen := errs.filter (fun e => !c.dropped e.group)
  let pos := distinct (seen.flatMap (fun e => e.bits.map (fun b => e.group * 72 + b)))
  let double := seen.any (fun e => decide (2 ≤ e.bits.length))
  let corr := c.corrections.filter (fun x => decide (c.moves < x.1 + 1024)) ++ pos.map (fun p => (c.moves, p, phys))
  let failed := pos.filter (fun p => decide (8 ≤ (corr.filter (fun x => decide (x.2.1 = p))).length))
  let corrected := seen.any (fun e => decide (e.bits.length = 1))
  let be := c.bankErrors.filter (fun x => decide (tick < x.1 + 48000)) ++ (if corrected then [(tick, phys, row)] else [])
  let bd := if double && !c.bankDoubles.contains (phys, row) then c.bankDoubles ++ [(phys, row)] else c.bankDoubles
  let fails := failed.map (fun p => RungFailure.connection p ((corr.filter (fun x => decide (x.2.1 = p))).map (fun x => x.2.2)))
  let bankBad := (corrected && decide (64 ≤ (distinct ((be.filter (fun x => decide (x.2.1 = phys))).map (fun x => x.2.2))).length)) ||
    (double && decide (2 ≤ (bd.filter (fun x => decide (x.1 = phys))).length))
  ({ c with moves := c.moves + 1, corrections := corr.filter (fun x => !failed.contains x.2.1), bankErrors := be, bankDoubles := bd },
   fails ++ (if bankBad then [RungFailure.bank phys] else []))

/-! Row moves (R191 to R194). -/

/-- Bytes of a row. -/
def rowBytes : Nat := 512

/-- The rows of a row move: row-store address and scratch byte address of each (R192, R193). -/
def rowList (q : QInstr) : List (Nat × Nat) :=
  let w := q.word
  if iOp w < 2 then
    let base := bits w 14 0 + ireg q.regs (bits w 34 31)
    (List.range (bits w 30 27)).map (fun i => ((base + i * 0x400) % 2 ^ 15, (bits w 26 15 + i) * rowBytes))
  else
    let base := ireg q.regs (bits w 34 31)
    let scr := ireg q.regs (bits w 30 27)
    (List.range (bits w 26 23)).map (fun i => ((base + i * 0x400) % 2 ^ 15, scr + i * rowBytes))

/-- The checks of a row move (R103, R193, Table 5-18). -/
def rowChecks (q : QInstr) : List (Option Bad) :=
  let w := q.word
  if iOp w < 2 then
    [need (decide (bits w 14 0 + ireg q.regs (bits w 34 31) < 2 ^ 15)) .lengthExceeds (bits w 14 0 + ireg q.regs (bits w 34 31)),
     need (decide (bits w 26 15 + bits w 30 27 ≤ 4096)) .lengthExceeds (4096 * rowBytes)]
  else
    let scr := ireg q.regs (bits w 30 27)
    [need (decide (scr % rowBytes = 0)) .badAlign scr,
     need (decide (ireg q.regs (bits w 34 31) < 2 ^ 15)) .lengthExceeds (ireg q.regs (bits w 34 31)),
     need (decide (scr + bits w 26 23 * rowBytes ≤ scratchBytes)) .lengthExceeds (max scr scratchBytes)]

/-- Does a row wait: its bank is being copied or under a BIST slice (R129, Table 17-1), or its row or scratch bytes are those of an
earlier row that waits (R104)? -/
def PCore.rowWaits (c : PCore) (ahead : List (Nat × Nat)) (r : Nat × Nat) : Bool :=
  (match c.bistBank with | some b => decide (c.physBank (r.1 / 1024) = b) | none => false) ||
  (match c.copy with | some (l, _, _) => decide (r.1 / 1024 = l) | none => false) ||
  ahead.any (fun x => decide (x.1 = r.1) || (decide (x.2 < r.2 + rowBytes) && decide (r.2 < x.2 + rowBytes)))

/-- The checks of a row move at its start; a port that pauses starts none (R40). -/
def State.rowCheck (s : State) (k : Nat) (q : QInstr) : Chk :=
  if rowList q = [] then .once
  else if (firstFail (rowChecks q)).isNone && (s.core k).pause then .wait
  else .of (rowChecks q) .go

/-- The physical row of a row-store address. -/
def PCore.physRow (c : PCore) (a : Nat) : Nat := c.physBank (a / 1024) * 1024 + a % 1024

/-- Move one row into scratch or out of it. -/
def PCore.moveRow (c : PCore) (out : Bool) (pr scr : Nat) (double : Bool) : PCore :=
  if out then
    { c with
      rows := wrBytes c.rows (pr * rowBytes) (rdBytes c.scratch scr rowBytes)
      poisoned := if double then addOnce c.poisoned pr else c.poisoned.filter (fun x => decide (x ≠ pr)) }
  else if double then { c with poisoned := addOnce c.poisoned pr }
  else { c with scratch := wrBytes c.scratch scr (rdBytes c.rows (pr * rowBytes) rowBytes) }

/-- One row of a row move (R42, R130, R230): its errors are noted and its failures judged; a bank layer in reset, a
poisoned source and a double-bit error fault the step. The second part tells whether the move goes on. -/
def State.moveOne (s : State) (k : Nat) (g : Grant) (q : QInstr) (out : Bool) (a scr : Nat) (errs : List RowError) :
    State × Bool :=
  let c := s.core k
  let pr := c.physRow a
  if (s.dieOf g.die).bankReset then (s.coreFault k g 1 q.idx Status.regionDark.code a, false)
  else if !out && c.poisoned.contains pr then
    ((s.bump (okey 0x4200 5)).coreFault k g 1 q.idx Status.uncorrected.code a, false)
  else
    let double := errs.any (fun e => decide (2 ≤ e.bits.length) && !c.dropped e.group)
    let (c1, fails) := (c.moveRow out pr scr double).note s.tb.count (pr / 1024) (pr % 1024) errs
    let s1 := s.setCore k c1
    let s2 := if double then s1.coreFault k g 1 q.idx Status.uncorrected.code a else s1
    let s3 := fails.foldl (fun t f => t.ladder k f) s2
    (s3, !double && (s3.run k).isSome)

/-- The rows of a row move in order, until one ends the step: those that wait are passed by, and their places are given back
(R129). `ahead` holds the earlier rows of the port that wait. -/
def State.moveRows (s : State) (k : Nat) (g : Grant) (q : QInstr) (out : Bool) (errs : List RowError) :
    List (Nat × Nat) → List ((Nat × Nat) × Nat) → State × List Nat
  | _, [] => (s, [])
  | ahead, ((a, scr), i) :: r =>
    if !(s.dieOf g.die).bankReset && (s.core k).rowWaits ahead (a, scr) then
      let (t, l) := s.moveRows k g q out errs (ahead ++ [(a, scr)]) r
      (t, i :: l)
    else
      let (t, on) := s.moveOne k g q out a scr (errs.filter (fun e => decide (e.row = i)))
      if on then t.moveRows k g q out errs ahead r else (t, [])

/-- The rows of an instruction that wait. -/
def QInstr.leftRows (q : QInstr) : List ((Nat × Nat) × Nat) := (rowList q).zipIdx.filter (fun r => q.left.contains r.2)

/-- Carry out rows of the started row move at a place of the port, and keep those that wait. -/
def State.portRows (s : State) (k : Nat) (g : Grant) (q : QInstr) (pos : Nat) (out : Bool) (errs : List RowError)
    (rows : List ((Nat × Nat) × Nat)) : State :=
  match s.run k with
  | none => s
  | some r =>
    let ahead := ((r.active 1).take pos).flatMap (fun x => x.leftRows.map (·.1))
    let (t, left) := s.moveRows k g q out errs ahead rows
    match t.run k with
    | none => t
    | some r1 => t.setRun k (some (r1.setActive 1 (modifyAt (r1.active 1) pos (fun y => { y with left := left }))))

/-- The first started row move of an operation that has a row which waits no more, with its place (R129). -/
def State.portReady (s : State) (k op : Nat) (r : CoreRun) : Option (QInstr × Nat) :=
  let rows := r.active 1
  rows.zipIdx.find? (fun p =>
    let ahead := (rows.take p.2).flatMap (fun x => x.leftRows.map (·.1))
    decide (iOp p.1.word = op) && !(s.core k).pause && p.1.leftRows.any (fun x => !(s.core k).rowWaits ahead x.1))

/-- Go on with a row move of operation op whose rows waited, or start the next one. -/
def State.rowMove (s : State) (die core op : Nat) (out : Bool) (errs : List RowError) : State :=
  let start := s.startUnit die core 1 2 op (fun k _ _ q => s.rowCheck k q)
    (fun k g q t => t.portRows k g q (match t.run k with | some r => (r.active 1).length - 1 | none => 0) out errs (rowList q).zipIdx)
  match s.running die core with
  | none => s
  | some (k, g, r) =>
    match s.portReady k op r with
    | some (q, pos) => s.portRows k g q pos out errs q.leftRows
    | none => start

/-- ROWIN: Count rows, row store to scratch (R192). -/
def execRowin (die : Fin 8) (core : Fin 48) (errs : List RowError) (s : State) : Out :=
  .next (s.rowMove die.val core.val 0 false errs)

/-- ROWOUT: Count rows, scratch to row store (R192). -/
def execRowout (die : Fin 8) (core : Fin 48) (errs : List RowError) (s : State) : Out :=
  .next (s.rowMove die.val core.val 1 true errs)

/-- ROWIN.X: as ROWIN, with addresses from index registers (R193). -/
def execRowinX (die : Fin 8) (core : Fin 48) (errs : List RowError) (s : State) : Out :=
  .next (s.rowMove die.val core.val 2 false errs)

/-- ROWOUT.X: as ROWOUT, with addresses from index registers (R193). -/
def execRowoutX (die : Fin 8) (core : Fin 48) (errs : List RowError) (s : State) : Out :=
  .next (s.rowMove die.val core.val 3 true errs)

/-- ROW_PORT_PAUSE_END: the 4-cycle pause after a spare switch-in ends (R40). -/
def execRowPortPauseEnd (die : Fin 8) (phys : Fin 52) (s : State) : Out :=
  let k := coreKey die.val phys.val
  .next (s.setCore k { s.core k with pause := false })

/-- The failure of the lowest physical bank goes first among those that waited for a copy's end (R131). -/
def lowestFirst : List RungFailure → List RungFailure
  | [] => []
  | f :: r =>
    let rank : RungFailure → Nat := fun x => match x with | .bank b => b | .connection _ (b :: _) => b | _ => 0
    let rec ins (x : RungFailure) : List RungFailure → List RungFailure
      | [] => [x]
      | y :: t => if rank x < rank y then x :: y :: t else y :: ins x t
    ins f (lowestFirst r)

/-- BANK_COPY_END: the copy of 2,048 cycles ends; rows that were poisoned, or showed a double-bit error (`doubles`, rows
of the bank), are poisoned in the spare; the bank map switches; failures that waited are judged, lowest bank first (R129
to R131). -/
def execBankCopyEnd (die : Fin 8) (phys : Fin 52) (doubles : List Nat) (s : State) : Out :=
  let k := coreKey die.val phys.val
  let c := s.core k
  match c.copy with
  | none => .next s
  | some (l, old, new) =>
    let bankBytes := 1024 * rowBytes
    let moved := copyRange c.rows (old * bankBytes) bankBytes (new * bankBytes)
    let bad := (c.poisoned.filter (fun r => decide (r / 1024 = old))).map (fun r => new * 1024 + r % 1024)
      ++ (doubles.filter (fun r => decide (r < 1024))).map (fun r => new * 1024 + r)
    let c1 : PCore := { c with
      rows := moved
      poisoned := distinct (c.poisoned.filter (fun r => decide (r / 1024 ≠ new)) ++ bad)
      bankMap := Tbl.ins c.bankMap l new
      copy := none, later := [], mode := if c.number.isSome then .inService else .spare }
    .next ((lowestFirst c.later).foldl (fun t f => t.ladder k f) (s.setCore k c1))

end Sys2Proof.Machine
end

