-- ==== Sys2Proof/Machine/Test.lean ====
section
/-! DEFINITION. Self-test, trace, dump triggers and freeze (chapter 17), and the synchronised changes of R617. -/

namespace Sys2Proof.Machine

open Sys2Proof

/-! BIST slices (section 17.1). -/

/-- Kind of a unit: 0 core, 1 bank, 2 lane, 3 polder region (Table 17-1). -/
def bistKind (u : BistUnit) : Nat := match u with | .core _ _ => 0 | .bank _ _ _ => 1 | .lane _ _ => 2 | .region _ _ => 3

/-- Number of a unit. -/
def bistKey (u : BistUnit) : Nat :=
  match u with
  | .core d m => coreKey d.val m.val
  | .bank d m b => 1000 + coreKey d.val m.val * 34 + b.val
  | .lane a n => 20000 + laneKey a.val n.val
  | .region p c => 30000 + p.val * 32 + c.val

/-- The units of a kind (Table 17-1). -/
def bistUnits (kind : Nat) : List BistUnit :=
  match kind with
  | 0 => (List.finRange 8).flatMap (fun d => (List.finRange 52).map (fun m => .core d m))
  | 1 => (List.finRange 8).flatMap (fun d => (List.finRange 52).flatMap (fun m => (List.finRange 34).map (fun b => .bank d m b)))
  | 2 => (List.finRange 12).flatMap (fun a => (List.finRange 96).map (fun n => .lane a n))
  | _ => (List.finRange 16).flatMap (fun p => (List.finRange 32).map (fun c => .region p c))

/-- Is a unit of Table 17-1 not mapped out (R681)? -/
def State.bistMapped (s : State) (u : BistUnit) : Bool :=
  match u with
  | .core d m => let c := s.core (coreKey d.val m.val); decide (c.mode ≠ .outAtBringUp) && decide (c.mode ≠ .outInService)
  | .bank d m b =>
    let c := s.core (coreKey d.val m.val)
    decide (c.mode ≠ .outAtBringUp) && decide (c.mode ≠ .outInService) && ((c.logicalOf b.val).isSome || c.spareBanks.contains b.val || (match c.copy with | some (_, _, t) => decide (t = b.val) | none => false))
  | .lane a n => decide ((s.lane a.val n.val).tx ≠ .notFitted) && (peersOf a.val).any (fun b => decide ((s.pathOf a.val b n.val).st ≠ 2))
  | .region p _ => !(s.store p.val).out

/-- Housekeeping rounds of 250 µs in the BIST cycle (R681). -/
def State.bistCycle (s : State) : Nat := s.reg (okey 0xB001 2) * 14400000

/-- Has a unit not been tested for the length of the cycle (R681, R687)? -/
def State.bistOverdue (s : State) (u : BistUnit) : Bool :=
  decide (s.bistCycle ≤ s.test.clock) && decide (Tbl.get 0 s.test.last (bistKey u) + s.bistCycle ≤ s.test.clock) && s.bistMapped u

/-- Overdue units now (Table 17-11). -/
def State.overdueUnits (s : State) : Nat :=
  if s.test.clock < s.bistCycle then 0
  else (((List.range 4).flatMap bistUnits).filter s.bistOverdue).length

/-- A slice of a kind that the predicate names runs. -/
def State.slicing (s : State) (p : BistUnit → Bool) : Bool := s.test.slices.any (fun b => p b.unit)

/-- May a slice of the unit start now (R684, R685, R687, Table 17-1)? -/
def State.bistReady (s : State) (u : BistUnit) : Bool :=
  s.bistMapped u && decide (s.powerState = 1) && decide (s.test.freeze = .none) && !s.slicing (· == u) &&
  (match u with
   | .core d m =>
     let k := coreKey d.val m.val
     s.clocked d.val && !(s.dieOf d.val).isolated && (s.run k).isNone && decide (s.readyOrder d.val = []) &&
     !s.slicing (fun v => match v with | .core e _ => decide (e = d) | .bank e n _ => decide (e = d) && decide (n = m) | _ => false)
   | .bank d m _ =>
     let c := s.core (coreKey d.val m.val)
     s.clocked d.val && !(s.dieOf d.val).isolated && c.copy.isNone &&
     !s.slicing (fun v => match v with | .bank e _ _ => decide (e = d) | .core e n => decide (e = d) && decide (n = m) | _ => false)
   | .lane a n =>
     let l := s.lane a.val n.val
     (s.region a.val).up && decide (l.cal = 0) && (decide (l.tx = .idle) || decide (l.tx = .leased) || decide (l.tx = .standing)) &&
     s.calFree a.val n.val
   | .region p _ => !s.slicing (fun v => match v with | .region q _ => decide (q = p) | _ => false))

/-- BIST_SLICE_START: the hub starts a slice; an overdue unit goes first (R681, R684, R685). A lane leaves its pool as under
R415 step 1. -/
def execBistSliceStart (u : BistUnit) (s : State) : Out :=
  let first := s.bistOverdue u || decide (s.test.clock < s.bistCycle) ||
    !(bistUnits (bistKind u)).any (fun v => s.bistOverdue v && s.bistReady v)
  if !s.bistReady u || !first then .next s
  else
    let s1 : State := { s with test := { s.test with slices := s.test.slices ++ [{ unit := u }] } }
    match u with
    | .core d m =>
      let k := coreKey d.val m.val
      .next (s1.setCore k { s1.core k with bist := true })
    | .bank d m b =>
      let k := coreKey d.val m.val
      .next (s1.setCore k { s1.core k with bistBank := some b.val })
    | .lane a n =>
      let l := s1.lane a.val n.val
      .next ((s1.setLane a.val n.val { l with cal := 1, ending := if l.tx = .leased then some 1 else l.ending }).calBegin a.val n.val)
    | .region _ _ => .next s1

/-- Every path of a lane goes out until bring-up (Table 17-2, R364, R654). -/
def State.laneOut (s : State) (a n : Nat) : State :=
  (peersOf a).foldl (fun t b =>
    let p := t.pathOf a b n
    if p.st = 2 then t
    else ((((t.setPath a b n { p with st := 2, words := [], crcs := [] }).voidLease a b n).bump (okey 0x6030 4)).mapRecord
      (.laneOut (a * 12 + b) n)).markStanding a b n .out) s

/-- The action on a confirmed failure (R688, Table 17-2); a bank's goes through the ladder, which lets it wait for the end of a copy,
drops a spare bank that is not in use, and does nothing on a core that is no longer watched (R128, R131, R735). A core whose logic or
scratch fails leaves service at once, also during a bank copy, which the rules leave open (DESIGN CHOICE; log entry 19). -/
def State.bistFail (s : State) (u : BistUnit) : State :=
  let s1 := s.bump (okey 0xB002 5)
  match u with
  | .core d m => if (s1.core (coreKey d.val m.val)).unwatched then s1 else s1.mapOutCore (coreKey d.val m.val)
  | .bank d m b => s1.ladder (coreKey d.val m.val) (.bank b.val)
  | .lane a n => s1.laneOut a.val n.val
  | .region p c => s1.setReg (okey 0xB003 (p.val + 1)) (setBit (s1.reg (okey 0xB003 (p.val + 1))) c.val true)

/-- What a unit is left with after a slice (R683, R685): accumulators of a core read 0.0, and a lane returns to its pool. -/
def State.bistLeave (s : State) (u : BistUnit) : State :=
  let s1 := s.freeUnit u
  match u with
  | .core d m => s1.setCore (coreKey d.val m.val) { s1.core (coreKey d.val m.val) with acc := [] }
  | .lane a n => ((s1.setLane a.val n.val { s1.lane a.val n.val with cal := 3 }).applyTrims a.val n.val).calSettled a.val
  | _ => s1

/-- BIST_SLICE_END: a slice ends; one that fails runs again at once, and a second failure acts under Table 17-2 (R682, R683,
R688). -/
def execBistSliceEnd (u : BistUnit) (pass : Bool) (s : State) : Out :=
  let tested := match u with | .lane a n => decide ((s.lane a.val n.val).cal = 2) | _ => true
  match s.test.slices.find? (fun b => b.unit == u) with
  | none => .next s
  | some b =>
    if !tested then .next s
    else
      let s1 := s.bump (okey 0xB002 ((bistKind u) + 1))
      if !pass && !b.again then
        let ss := s1.test.slices.map (fun x => if x.unit == u then { x with again := true } else x)
        .next { s1 with test := { s1.test with slices := ss } }
      else
        let t := { s1.test with slices := s1.test.slices.filter (fun x => !(x.unit == u)), last := Tbl.put 0 s1.test.last (bistKey u) s1.test.clock }
        let s2 := ({ s1 with test := t } : State).bistLeave u
        .next (if pass then s2 else s2.bistFail u)

/-- The checks of a DieBistCommand write (R689). -/
def State.dieBistCheck (s : State) (v : Nat) : Status :=
  match dieAt v with
  | none => .typeMismatch
  | some d => if s.test.dieTests.contains d then .busy else if s.powerState ≠ 1 then .notReady else .ok

/-- A write of DieBistCommand (R689). -/
def State.writeDieBist (s : State) (v : Nat) : State :=
  let st := s.dieBistCheck v
  let s1 := s.answer st
  match dieAt v with
  | some d =>
    if st = .ok then
      let t := { s1.test with dieTests := addOnce s1.test.dieTests d, dieCmd := some d }
      ({ s1 with test := t } : State).setReg (okey 0xB001 4) Status.busy.code
    else s1
  | none => s1

/-- DIE_BIST (R689). -/
def execDieBist (v : Nat) (s : State) : Out := .next (s.writeDieBist v)

/-- Is a unit tested by the full test of a die: its cores, banks and polder regions, and the lanes of its site (R689)? -/
def ofDie (d : Nat) (u : BistUnit) : Bool :=
  match u with
  | .core e _ => decide (e.val = d)
  | .bank e _ _ => decide (e.val = d)
  | .lane a _ => decide (a.val = siteOfDie d)
  | .region p _ => decide (p.val / 2 = d)

/-- Failures in the order in which they are acted on: the banks come after the other units, in ascending numbers (R131; log entry
44). -/
def bankOrder (l : List BistUnit) : List BistUnit :=
  let rec ins (u : BistUnit) : List BistUnit → List BistUnit
    | [] => [u]
    | v :: r => if bistKey u < bistKey v then u :: v :: r else v :: ins u r
  let isBank (u : BistUnit) : Bool := decide (bistKind u = 1)
  l.filter (fun u => !isBank u) ++ (l.filter isBank).foldl (fun acc u => ins u acc) []

/-- DIE_BIST_END: the full test of a die ends with the units that failed and the cores that failed at a margin point alone
(R689, R690). -/
def execDieBistEnd (die : Fin 8) (failures : List BistUnit) (margins : List (Fin 52)) (s : State) : Out :=
  let d := die.val
  if !s.test.dieTests.contains d then .next s
  else
    let fs := bankOrder (failures.filter (fun u => ofDie d u && s.bistMapped u))
    let ms := margins.filter (fun m => s.bistMapped (.core die m) && !fs.contains (.core die m))
    let s1 := fs.foldl (fun t u => t.bistFail u) s
    let s2 := ms.foldl (fun t m => t.setReg (okey 0xB004 (d + 1)) (setBit (t.reg (okey 0xB004 (d + 1))) m.val true)) s1
    let s3 := s2.addReg (okey 0xB002 7) ms.length
    let own := decide (s.test.dieCmd = some d)
    let t := { s3.test with dieTests := s3.test.dieTests.filter (fun e => decide (e ≠ d)), dieCmd := if own then none else s3.test.dieCmd }
    let s4 : State := { s3 with test := t }
    let s5 := if own then s4.setReg (okey 0xB001 4) (if fs.isEmpty then 0 else Status.typeMismatch.code) else s4
    .next (if s5.pair.suspect.contains d then s5.setPair (fun p => { p with tested := addOnce p.tested d }) else s5)

/-! Stack test (section 17.2). -/

/-- Is the module sealed: any of the four bits blown (R602)? -/
def State.isSealed (s : State) : Bool := decide (s.sec.sealBits ≠ 0)

/-- Is an instruction internal scan, which the field seal withdraws (R693)? -/
def tapInternal (i : TapInstr) : Bool := match i with | .scan _ => true | _ => false

/-- The serial test path: the hub's primary port, then the secondary ports of the other fitted dies in ascending site number, and the
three layers of a compute site from the Ground up; fillers and guests without a port are bypassed (R691). -/
def State.tapChain (s : State) : List (Nat × Nat) :=
  (siteH, 2) :: (List.range 12).flatMap (fun x =>
    if (dieAt x).isSome then [(x, 0), (x, 1), (x, 2)]
    else if x = siteF then [(x, 2)]
    else if x = siteH then []
    else if (s.guest (if x = siteG 0 then 0 else 1)).fitted && (s.guest (if x = siteG 0 then 0 else 1)).testPort then [(x, 2)] else [])

/-- TEST_PORT_INSTRUCTION: the test port carries out what it offers, along the chain, and answers with BYPASS otherwise (R691 to R693). -/
def execTestPortInstruction (i : TapInstr) (s : State) : Out :=
  let run := if s.test.testMode && !(s.isSealed && tapInternal i) then i else .bypass
  .next { s with test := { s.test with tap := run, chain := s.tapChain } }

/-! Trace (section 17.3). -/

/-- Bits of TraceControl that are not reserved (Table 17-3). -/
def traceMask : Nat := 2 ^ 63 + 2 ^ 62 + (2 ^ 48 - 2 ^ 32) + (2 ^ 20 - 2 ^ 8)

/-- A write of TraceControl (R696): setting Enable starts the sequence numbers and the ring anew (log entry 44). -/
def State.writeTrace (s : State) (v : Nat) : State :=
  if bits v 63 63 = 1 ∧ s.reg (okey 0xB010 0) = 0 then s.answer .lengthExceeds
  else
    let starts := decide (bits v 63 63 = 1) && decide (bits (s.reg (okey 0xB011 0)) 63 63 = 0)
    let s1 := (s.keep (okey 0xB011 0) (v &&& traceMask)).answer .ok
    if starts then
      let s2 : State := { s1 with test := { s1.test with bufs := [], blocks := 0 } }
      [1, 2, 3, 4].foldl (fun t i => t.setReg (okey 0xB012 i) 0) s2
    else s1

/-- TRACE_CONTROL_WRITE (R696). -/
def execTraceControlWrite (v : Nat) (s : State) : Out := .next (s.writeTrace v)

/-- Channels that hold trace frames, with their blocks of 4 KiB. -/
def State.traceChans (s : State) : List (Nat × Nat) :=
  (List.range 16).filterMap (fun c => let n := (s.chan c).traceFrames; if n = 0 then none else some (c, n * 64))

/-- Blocks of the trace region. -/
def State.traceBlocks (s : State) : Nat := (s.traceChans.map (·.2)).sum

/-- Channel and block in it of the region's block p, dealt round-robin over the channels that still have room (R695). -/
def traceHome : Nat → List (Nat × Nat) → Nat → Nat → Nat × Nat
  | 0, _, _, _ => (0, 0)
  | fuel + 1, cs, done, p =>
    match cs with
    | [] => (0, 0)
    | c :: _ =>
      let least := cs.foldl (fun m x => min m x.2) c.2
      let n := cs.length
      if p < (least - done) * n then ((cs.getD (p % n) (0, 0)).1, done + p / n)
      else traceHome fuel (cs.filter (fun x => decide (least < x.2))) least (p - (least - done) * n)

/-- Memory unit and physical address of byte o of the trace region, whose frames lie at the top of each channel (R322). -/
def State.traceAddr (s : State) (o : Nat) : Nat × Nat :=
  let (c, b) := traceHome 17 s.traceChans 0 (o / 4096)
  (16 + c, ((s.frameCount (16 + c)) - (s.chan c).traceFrames) * 2 ^ 18 + b * 4096 + o % 4096)

/-- The 32 bytes of a record (Table 17-4). -/
def TraceRec.bytes (r : TraceRec) : List Byte :=
  leBytes 8 r.stamp ++ leBytes 8 (r.cls * 2 ^ 60 + r.site * 2 ^ 56 + r.unit * 2 ^ 48 + r.event * 2 ^ 40 + r.seq % 2 ^ 32) ++
  leBytes 8 r.arg0 ++ leBytes 8 r.arg1

/-- TRACE_BLOCK_DRAIN: the hub moves up to 128 records of a site's buffer into the next block of the ring; a part of a block
only once tracing has stopped (R695, R697; log entry 44). -/
def execTraceBlockDrain (site : Fin 12) (s : State) : Out :=
  let b := Tbl.get {} s.test.bufs site.val
  let on := decide (bits (s.reg (okey 0xB011 0)) 63 63 = 1)
  let total := s.traceBlocks
  let full := decide (bits (s.reg (okey 0xB011 0)) 62 62 = 1) && decide (total ≤ s.test.blocks)
  let rs := b.recs.take 128
  if rs.isEmpty || (on && decide (rs.length < 128)) || decide (total = 0) || full then .next s
  else
    let (u, a) := s.traceAddr (s.test.blocks % total * 4096)
    let s1 := s.physWrite u a (rs.flatMap TraceRec.bytes)
    let n := s.test.blocks + 1
    let t := { s1.test with bufs := Tbl.put {} s1.test.bufs site.val { b with recs := b.recs.drop 128 }, blocks := n }
    let s2 : State := { s1 with test := t }
    let s3 := ((s2.setReg (okey 0xB012 1) (n % total * 4096)).addReg (okey 0xB012 2) rs.length).setReg (okey 0xB012 4) (n / total)
    let w := s3.reg (okey 0xB011 0)
    .next (if bits w 62 62 = 1 ∧ total ≤ n then s3.setReg (okey 0xB011 0) (setBit w 63 false) else s3)

/-- The checks of a TraceCopy command (R700). -/
def State.traceCopyCheck (s : State) (v : Nat) : Status :=
  let o := s.reg (okey 0xB013 1)
  let n := s.reg (okey 0xB013 2)
  let a := s.reg (okey 0xB013 3)
  if v ≠ 1 then .typeMismatch
  else if s.test.copy.isSome then .busy
  else if o % 32 ≠ 0 ∨ n % 32 ≠ 0 ∨ a % 64 ≠ 0 then .badAlign
  else if n = 0 then .ok
  else if s.traceBlocks * 4096 < o + n then .lengthExceeds
  else if spaceSize true < a + n then .accessDenied
  else
    match s.hubRange true a n with
    | some tr => if tr.all (fun e => eWrite e.2) then .ok else .accessDenied
    | none => .accessDenied

/-- A write of TraceCopy `:04` (R700). -/
def State.writeTraceCopy (s : State) (v : Nat) : State :=
  let st := s.traceCopyCheck v
  let n := s.reg (okey 0xB013 2)
  if s.test.copy.isSome then s.answer st
  else if st = .ok ∧ n ≠ 0 then
    let t := { s.test with copy := some (s.reg (okey 0xB013 1), n, s.reg (okey 0xB013 3)) }
    ({ s with test := t }.setReg (okey 0xB013 5) Status.busy.code).answer .ok
  else (s.setReg (okey 0xB013 5) st.code).answer st

/-- TRACE_COPY (R700). -/
def execTraceCopy (v : Nat) (s : State) : Out := .next (s.writeTraceCopy v)

/-- TRACE_COPY_END: the records are written, each whole; a poisoned line, a channel out of service or a range that the ledger
no longer maps ends the copy with UNCORRECTED or ACCESS_DENIED (R700, R734). -/
def execTraceCopyEnd (s : State) : Out :=
  match s.test.copy with
  | none => .next s
  | some (o, n, a) =>
    let s1 : State := { s with test := { s.test with copy := none } }
    let done (t : State) (st : Status) : Out := .next (t.setReg (okey 0xB013 5) st.code)
    match s1.hubRange true a n with
    | none => done s1 .accessDenied
    | some tr =>
      let from_ := (List.range ((o + n + 31) / 32 - o / 32)).map (fun i => s1.traceAddr (o + 32 * i))
      if s1.hubWaits tr true true a n then .next s
      else if s1.traceBlocks * 4096 < o + n ∨ !s1.hubServes tr ∨ from_.any (fun x => (s1.store x.1).readPoisoned x.2 32) then
        done s1 .uncorrected
      else done (s1.hubWrite tr true a (from_.flatMap (fun x => s1.physRead x.1 x.2 32))) .ok

/-! Dump triggers (R701). -/

/-- A write to subindex sub of trigger t: Count may always be written, and DestUsed restarts with it. -/
def State.writeDump (s : State) (t sub v : Nat) : State :=
  if sub = 5 then s.answer .accessDenied
  else if sub ≠ 2 ∧ s.reg (dumpKey t 2) ≠ 0 then s.answer .busy
  else if (sub = 3 ∨ sub = 4) ∧ v % 64 ≠ 0 then s.answer .badAlign
  else
    let v1 := if sub = 1 then v / 16 * 16 else v
    let s1 := (s.keep (dumpKey t sub) v1).answer .ok
    if sub = 2 then s1.setReg (dumpKey t 5) 0 else s1

/-- DUMP_TRIGGER_WRITE (R701). -/
def execDumpTriggerWrite (trigger : Fin 4) (sub : Fin 5) (v : Nat) (s : State) : Out :=
  .next (s.writeDump trigger.val (sub.val + 1) v)

/-! Freeze (section 17.5). -/

/-- FREEZE_AT_BOUNDARY (R706, R707). -/
def execFreezeAtBoundary (s : State) : Out := .next (s.writeFreeze 1)
/-- FREEZE_AT_ONCE (R706, R708). -/
def execFreezeAtOnce (s : State) : Out := .next (s.writeFreeze 2)
/-- FREEZE_RELEASE (R706, R710). -/
def execFreezeRelease (s : State) : Out := .next (s.writeFreeze 3)

/-- A buffer that holds data at a freeze at once: BufferKind, Site, Unit, Index, Occupancy and the two header words
(Table 17-9). -/
structure FrozenBuf where
  kind : Nat
  site : Nat
  unit : Nat
  index : Nat
  held : Nat
  word0 : Nat
  word1 : Nat
  deriving DecidableEq, Repr

/-- The transfer queues of a core that hold entries; an entry is one word, and what stands for its second is open (log entry
44). -/
def State.frozenQueues (s : State) (k : Nat) (r : CoreRun) : List FrozenBuf :=
  [8, 9, 10, 11].filterMap (fun u =>
    let l := r.active u ++ r.queue u
    match l with
    | [] => none
    | q :: _ => some { kind := 0, site := siteOfDie (k / 64), unit := 4 * s.numberOf (k / 64) (k % 64) + (u - 8), index := u - 8,
                       held := l.length, word0 := q.word, word1 := Config.freeNat (s.freeCtr + k * 16 + u) % 2 ^ 64 })

/-- The submission queues of a port that hold entries. -/
def Port.frozenSqs (p : Port) : List FrozenBuf :=
  p.sqs.filterMap (fun e =>
    let n := (e.2.tail + 1024 - e.2.head) % 1024
    if n = 0 then none
    else some { kind := 8, site := siteH, unit := 0x15, index := e.1, held := n, word0 := (p.sqWords e.1 e.2.head).getD 0 0,
                word1 := (p.sqWords e.1 e.2.head).getD 1 0 })

/-- Flag trackers that hold a flag (R447). -/
def frozenFlags (ts : List Tracker) : List FrozenBuf :=
  ts.filterMap (fun t => t.flag.map (fun f =>
    { kind := 5, site := siteOfId t.dest, unit := t.source % 256, index := t.phase, held := 1, word0 := f.packet.word 0,
      word1 := f.packet.word 1 }))

/-- Fabric ports that hold packets, at the hub's fabric endpoint (R490). -/
def State.frozenPorts (s : State) : List FrozenBuf :=
  (List.range 4).filterMap (fun x =>
    match (s.xport x).queue with
    | [] => none
    | p :: r => some { kind := 6, site := siteH, unit := 0x12, index := x, held := r.length + 1, word0 := p.packet.word 0, word1 := p.packet.word 1 })

/-- Tier channels with staging granules in flight (R328). -/
def State.frozenChans (s : State) : List FrozenBuf :=
  (List.range 16).filterMap (fun c =>
    let l := s.staging.flatMap (fun x => (x.flight.filter (fun i => decide (x.channel i = 16 + c))).map (fun _ => x.words))
    match l with
    | [] => none
    | w :: _ => some { kind := 9, site := siteH, unit := c, index := c, held := l.length, word0 := w.getD 0 0, word1 := w.getD 1 0 })

/-- Every buffer of this model that holds data (R708; log entry 44). -/
def State.frozenBufs (s : State) : List FrozenBuf :=
  s.runs.flatMap (fun e => match e.2 with | some r => s.frozenQueues e.1 r | none => []) ++ frozenFlags s.trackers ++ s.frozenPorts ++
  (s.port 0).frozenSqs ++ (s.port 1).frozenSqs ++ s.frozenChans

/-- The freeze record: header and entries (Tables 17-8 and 17-9). -/
def freezeRecord (frame time kind room : Nat) (bs : List (FrozenBuf × Nat)) : List Byte :=
  let n := min bs.length ((room - 64) / 32)
  let stamps := bs.map (·.2)
  let smear := stamps.foldl max 0 - stamps.foldl min (stamps.headD 0)
  leBytes 8 frame ++ leBytes 8 time ++ leBytes 8 (n * 2 ^ 32 + kind * 2 ^ 24 + (if n < bs.length then 2 ^ 23 else 0)) ++ leBytes 8 smear ++
  leBytes 32 0 ++
  (bs.take n).flatMap (fun b =>
    leBytes 8 b.2 ++ leBytes 8 (b.1.kind * 2 ^ 60 + b.1.site * 2 ^ 56 + b.1.unit * 2 ^ 48 + b.1.index * 2 ^ 40 + b.1.held % 2 ^ 16 * 2 ^ 24) ++
    leBytes 8 b.1.word0 ++ leBytes 8 b.1.word1)

/-- Write a freeze record at FreezeRecordAddress, if FreezeRecordLength holds its header and the range is still mapped. -/
def State.putFreezeRecord (s : State) (bs : List Byte) : State :=
  let a := s.reg (okey 0xB050 3)
  if s.reg (okey 0xB050 4) < 64 then s
  else
    match s.hubRange true a bs.length with
    | some tr => if s.hubServes tr then s.hubWrite tr true a bs else s
    | none => s

/-- Has everything that ran before the cut ended, with every queue, link buffer and flag tracker empty (R707)? -/
def State.drained (s : State) : Bool :=
  decide (s.grants = []) && decide (s.orphans = []) && decide (s.requests = []) && decide (s.trackers = []) &&
  decide (s.staging = []) && s.ledgerCmd.isNone && s.migs.all (fun m => decide (6 ≤ m.phase)) &&
  [0, 1, 2, 3].all (fun x => decide ((s.xport x).queue = [])) &&
  [0, 1].all (fun p => (s.port p).taken.all (fun t => t.status.isSome || s.parked p t))

/-- FREEZE_DRAIN_END: every buffer is empty; the record is written, the units' slices are abandoned and FreezeState reads 2
(R687, R707). -/
def execFreezeDrainEnd (s : State) : Out :=
  if s.test.freeze ≠ .draining ∨ !s.drained then .next s
  else
    let r := freezeRecord s.test.cutFrame s.test.cutTime 1 (s.reg (okey 0xB050 4)) []
    let s1 := (s.putFreezeRecord r).dropSlices (fun _ => true)
    let s2 : State := { s1 with test := { s1.test with freeze := .frozen } }
    .next (((s2.setReg (okey 0xB050 5) 2).setReg (okey 0xB050 2) 0).bump (okey 0xB060 4))

/-- FREEZE_DRAIN_LIMIT: the drain has lasted FreezeDrainLimit, and the hub freezes at once (R707). -/
def execFreezeDrainLimit (s : State) : Out :=
  if s.test.freeze ≠ .draining then .next s
  else .next (((s.setReg (okey 0xB050 2) Status.deadlineMissed.code).bump (okey 0xB060 6)).stopAtOnce)

/-- Every unit stops at T: buffers keep what they hold, each stamped within 96 cycles of 1.9 GHz of T (R687, R708, Table 17-9;
log entry 44). -/
def State.stopNow (s : State) (time : Nat) : State :=
  let bs := s.frozenBufs.zipIdx.map (fun b => (b.1, time + Config.freeNat (s.freeCtr + 2 ^ 20 + b.2) % 809))
  let r := freezeRecord s.tb.frame time 2 (s.reg (okey 0xB050 4)) bs
  let s1 := ({ s with freeCtr := s.freeCtr + 2 ^ 21 }.putFreezeRecord r).dropSlices (fun _ => true)
  let s2 : State := { s1 with stopped := true, halted := true }
  let s3 : State := { s2 with test := { s2.test with freeze := .atOnce, cutFrame := s.tb.frame, cutTime := time } }
  let late := decide (s3.reg (okey 0xB050 2) = Status.deadlineMissed.code)
  ((if late then s3 else s3.setReg (okey 0xB050 2) 0).setReg (okey 0xB050 5) 3).bump (okey 0xB060 5)

/-- The change of a die's operating point: never to a higher frequency before its VCORE has settled, and the voltage follows a
lower one (R118, R119, R618). -/
def State.applyPoint (s : State) (d p : Nat) : State :=
  let x := s.dieOf d
  if !s.clocked d ∨ (p < x.point ∧ (!x.settled ∨ x.vcore < voltage p)) then s
  else
    (s.setDie d { x with point := p, vcore := if x.ramp.isSome then x.vcore else voltage p }).trace 6 (siteOfDie d) 0xF0 3
      ((s.thermal d).last.getD 0).toNat p

/-- SYNCHRONISED_CHANGE: the regions' counters reach the earliest T and its change takes effect (R617, R708). -/
def execSynchronisedChange (s : State) : Out :=
  match firstChange s.pw.changes with
  | none => .next s
  | some c =>
    let s1 := s.setPw (fun p => { p with changes := removeFirst (· == c) p.changes, time := max p.time c.time })
    match c.what with
    | .point d p => .next (s1.applyPoint d p)
    | .stop => .next (if s1.test.freeze = .stopping then s1.stopNow c.time else s1)

end Sys2Proof.Machine
end

