-- ==== Sys2Proof/Machine/Sec.lean ====
section
/-! DEFINITION. Images, live update, recovery and attestation (sections 16.4 to 16.8). -/

namespace Sys2Proof.Machine

open Sys2Proof

def State.setSec (s : State) (f : Sec → Sec) : State := { s with sec := f s.sec }

/-! Components and images (Tables 16-4, 16-5). -/

/-- Is a component defined (Table 16-4)? -/
def compOk (c : Nat) : Bool := decide (1 ≤ c) && decide (c ≤ 9)

/-- Instances of a component (Table 16-4). -/
def instances (c : Nat) : Nat := match c with | 4 => 8 | 5 => 16 | 6 => 12 | 8 => 16 | _ => 1

/-- Bytes of an image around its payload: header, modulus and signature (R661). -/
def imageFrame : Nat := 1152

/-- Word i of an image's header. -/
def imgWord (b : List Byte) (i : Nat) : Nat := wordAt b (8 * i)

def imgComponent (b : List Byte) : Nat := bits (imgWord b 0) 23 16
def imgVersion (b : List Byte) : Nat := imgWord b 1
def imgSecurity (b : List Byte) : Nat := imgWord b 2
def imgPayload (b : List Byte) : Nat := bits (imgWord b 3) 63 32
/-- StateFormatOut, StateFormatInMin and StateFormatInMax (Table 16-5). -/
def imgFormatOut (b : List Byte) : Nat := bits (imgWord b 4) 63 48
def imgFormatMin (b : List Byte) : Nat := bits (imgWord b 4) 47 32
def imgFormatMax (b : List Byte) : Nat := bits (imgWord b 4) 31 16

/-- The RSV fields of the header are 0 (Table 16-5). -/
def imgRsvOk (b : List Byte) : Bool :=
  decide (bits (imgWord b 0) 15 0 = 0) && decide (bits (imgWord b 3) 31 0 = 0) && decide (bits (imgWord b 4) 15 0 = 0) &&
  decide (bits (imgWord b 5) 39 0 = 0) && (List.range 10).all (fun i => decide (imgWord b (6 + i) = 0))

/-- A fuse value (Table 16-10). -/
def State.fuse (s : State) (k : Nat) : Nat := Tbl.get 0 s.sec.fuses k

/-- The root key hash in fuses, 64 bytes (Table 16-10). -/
def State.rootHash (s : State) : List Byte := (List.range 4).flatMap (fun i => leBytes 16 (s.fuse (okey 0xA020 (i + 1))))

/-- The rollback counter that applies: on a mismatch of raises and blown bits, 2^64 − 1 (R666). -/
def State.rollback (s : State) (c : Nat) : Nat :=
  if Tbl.get 0 s.sec.raises c = Tbl.get 0 s.sec.blown c then Tbl.get 0 s.sec.counters c else 2 ^ 64 - 1

/-- Do the fitted dies of the image's TargetDieKind have steppings that it supports (Table 16-6)? -/
def State.steppingsOk (s : State) (b : List Byte) : Bool :=
  let w := imgWord b 5
  (List.range 12).all (fun x =>
    let r := s.reg (okey 0x0110 (x + 1))
    decide (r = 0) || decide (bits r 31 24 ≠ bits w 63 56) ||
    (decide (bits w 55 48 ≤ bits r 15 8) && decide (bits r 15 8 ≤ bits w 47 40)))

/-- IMAGE_VERIFY: the checks of Table 16-6 in its order, for an image of a component: the first failing one's status
(R662). -/
def State.verifyImage (s : State) (c : Nat) (b : List Byte) : Option Status :=
  let n := b.length
  let key := (b.drop 128).take 512
  firstRow [
    (decide (n = imageFrame + imgPayload b) && decide (imgPayload b % 64 = 0) && decide (64 ≤ imgPayload b) &&
      decide (imgPayload b ≤ 2 ^ 26), .lengthExceeds),
    (decide (bits (imgWord b 0) 63 32 = 0x534C4E46) && decide (bits (imgWord b 0) 31 24 = 1) &&
      decide (imgComponent b = c) && imgRsvOk b, .typeMismatch),
    (decide (Config.sha512 key = s.rootHash), .badSignature),
    (Config.pssVerify (leNat key) (b.take (n - 512)) (b.drop (n - 512)), .badSignature),
    (decide (s.rollback c ≤ imgSecurity b), .rollback),
    (s.steppingsOk b, .typeMismatch)]

/-- The image in a slot. -/
def State.slotImage (s : State) (c slot : Nat) : List Byte := Tbl.get [] s.sec.slots (c * 2 + slot)

def State.activeSlot (s : State) (c : Nat) : Nat := Tbl.get 0 s.sec.active c

/-- The image that an instance runs, as slot + 1; 0 for none. -/
def State.runsSlot (s : State) (c i : Nat) : Nat := Tbl.get 0 s.sec.runs (c * 16 + i)

/-- An instance starts the image of a slot, whose SHA-512 the hub records (R665). -/
def State.startImage (s : State) (c i slot : Nat) : State :=
  s.setSec (fun x => { x with
    runs := Tbl.put 0 x.runs (c * 16 + i) (slot + 1)
    measures := Tbl.put [] x.measures (c * 32 + i * 2 + slot) (Config.sha512 (s.slotImage c slot)) })

/-! Live update (section 16.7). -/

def keyUpdStatus : Nat := okey 0xA040 5
def keyUpdDone : Nat := okey 0xA040 6

def State.setUpdate (s : State) (f : Update → Update) : State := s.setSec (fun x => { x with update := f x.update })

/-- The slot that the switching under way puts on each instance: the new image's, or the old one's in a revert (R679). -/
def Update.target (u : Update) : Nat := if u.reverts then 1 - u.slot else u.slot

/-- Instances still to switch, ascending: in a revert only those that run the new image (R674, R679). -/
def State.toSwitch (s : State) : List Nat :=
  let u := s.sec.update
  (List.range (instances u.comp)).filter (fun i =>
    if u.reverts then decide (s.runsSlot u.comp i = u.slot + 1) else decide (s.runsSlot u.comp i ≠ u.slot + 1))

/-- Instances that run the new image. -/
def State.switched (s : State) : Nat :=
  let u := s.sec.update
  ((List.range (instances u.comp)).filter (fun i => decide (s.runsSlot u.comp i = u.slot + 1))).length

/-- Is an image staged for a component, and not yet done with? -/
def State.stagedFor (s : State) (c : Nat) : Bool :=
  let u := s.sec.update
  decide (u.comp = c) && (decide (u.ph = .staged) || decide (u.ph = .applying) || decide (u.ph = .reverting) || decide (u.ph = .stopped))

/-- Does an update command run (R673)? -/
def UpdatePh.running (p : UpdatePh) : Bool := decide (p = .staging) || decide (p = .applying) || decide (p = .reverting)

/-- Checks 1 to 4 of R673, with R679 and R680 (log entry 53). -/
def State.updateCheck (s : State) (v : Nat) : Status :=
  let c := s.reg (okey 0xA040 1)
  let u := s.sec.update
  if v = 0 ∨ 5 < v ∨ !compOk c then .typeMismatch
  else if s.powerState ≠ 1 then .notReady
  else if v = 1 ∧ u.ph ≠ .none ∧ u.ph ≠ .committed then .busy
  else if (v = 2 ∨ v = 5) ∧ u.ph.running then .busy
  else if v = 1 then .ok
  else if v = 4 ∧ u.comp = c ∧ u.ph = .committed then
    if imgSecurity (s.slotImage c (1 - u.slot)) < s.rollback c then .rollback else .ok
  else if !s.stagedFor c then .notReady
  else if v = 5 ∧ u.ph ≠ .stopped then .notReady
  else if v = 3 ∧ u.ph = .reverting then .busy
  else if v = 3 ∧ s.reg keyUpdDone ≠ instances c then .notReady
  else .ok

/-- Checks 5 and 6 of a stage, on the bytes read from the tier (R673). -/
def State.stageCheckImage (s : State) (c : Nat) (b : List Byte) : Option Status :=
  match s.verifyImage c b with
  | some st => some st
  | none =>
    let old := imgFormatOut (s.slotImage c (s.activeSlot c))
    if c = 1 ∨ c = 9 ∨ (imgFormatMin b ≤ old ∧ old ≤ imgFormatMax b) then none else some .typeMismatch

/-- Stage: the hub reads and checks the image, and writes it until UPDATE_STAGE_END (R672 to R674). A read
answered UNCORRECTED shows in `0xA040:05` too (R734; log entry 53). -/
def State.stageUpdate (s : State) : State :=
  let c := s.reg (okey 0xA040 1)
  match s.tierFetch (s.reg (okey 0xA040 2)) (s.reg (okey 0xA040 3)) with
  | .error st => (if st = .uncorrected then s.setReg keyUpdStatus st.code else s).answer st
  | .ok b =>
    match s.stageCheckImage c b with
    | some st => s.answer st
    | none => (((s.tierTouch (s.reg (okey 0xA040 2)) b.length).setUpdate (fun _ => { ph := .staging, comp := c, slot := 1 - s.activeSlot c, image := b })).setReg keyUpdStatus
        Status.busy.code).answer .ok

/-- The switching of instances begins at the next frame boundary (R674, R679). A boot stage takes effect at the next bring-up
(R680). -/
def State.beginSwitch (s : State) (reverts : Bool) : State :=
  let u := s.sec.update
  let s1 := s.setUpdate (fun x => { x with
    ph := if reverts then .reverting else .applying, frame := s.tb.frame + 1, waits := false, reverts := reverts
    reverted := x.reverted || reverts })
  if u.comp = 1 then
    let s2 := s1.setUpdate (fun x => { x with ph := if reverts ∧ s.switched = 0 then .none else .staged, boot := !(reverts && decide (s.switched = 0)) })
    (s2.setReg keyUpdStatus 0).answer .ok
  else if s1.toSwitch = [] then ((s1.setUpdate (fun x => { x with ph := if reverts then .none else .staged })).setReg keyUpdStatus 0).answer .ok
  else (s1.setReg keyUpdStatus Status.busy.code).answer .ok

/-- Commit: the rollback counter is raised to a higher SecurityVersion with one blown bit, and the new slot is active (R667,
R680). -/
def State.commitUpdate (s : State) : State :=
  let u := s.sec.update
  let c := u.comp
  let v := imgSecurity (s.slotImage c u.slot)
  let raise := decide (s.rollback c < v)
  if raise ∧ 256 ≤ Tbl.get 0 s.sec.blown c then s.answer .lengthExceeds
  else
    let s1 := if raise then s.setSec (fun x => { x with
        counters := Tbl.put 0 x.counters c v
        raises := Tbl.upd 0 x.raises c (· + 1)
        blown := Tbl.upd 0 x.blown c (· + 1) }) else s
    let s2 := s1.setSec (fun x => { x with active := Tbl.put 0 x.active c u.slot })
    (((s2.setUpdate (fun x => { x with ph := .committed }))).setReg keyUpdStatus 0).answer .ok

/-- A write of update Command `0xA040:04` (R672, R673). -/
def State.writeUpdate (s : State) (v : Nat) : State :=
  let st := s.updateCheck v
  if st ≠ .ok then s.answer st
  else
    match v with
    | 1 => s.stageUpdate
    | 3 => s.commitUpdate
    | 4 => s.beginSwitch true
    | 5 => s.beginSwitch s.sec.update.reverts
    | _ => s.beginSwitch false

/-- UPDATE_STAGE: command 0x01 (R673, R674). -/
def execUpdateStage (s : State) : Out := .next (s.writeUpdate 1)
/-- UPDATE_APPLY: command 0x02 (R674). -/
def execUpdateApply (s : State) : Out := .next (s.writeUpdate 2)
/-- UPDATE_COMMIT: command 0x03 (R680). -/
def execUpdateCommit (s : State) : Out := .next (s.writeUpdate 3)
/-- UPDATE_REVERT: command 0x04 (R679). -/
def execUpdateRevert (s : State) : Out := .next (s.writeUpdate 4)
/-- UPDATE_RESUME: command 0x05 (R677). -/
def execUpdateResume (s : State) : Out := .next (s.writeUpdate 5)

/-- UPDATE_STAGE_END: the image stands in the inactive slot and Status reads OK (R672, R674). -/
def execUpdateStageEnd (s : State) : Out :=
  let u := s.sec.update
  if u.ph ≠ .staging then .next s
  else
    let s1 := s.setSec (fun x => { x with slots := Tbl.put [] x.slots (u.comp * 2 + u.slot) u.image })
    .next (((s1.setUpdate (fun x => { x with ph := .staged, image := [] })).setReg keyUpdStatus 0).setReg keyUpdDone 0)

/-- Is it the moment of a slice: the boundary of its frame, or 200 µs after one for the hub firmware (R674, R675)? -/
def State.sliceTime (s : State) : Bool :=
  let tb := s.tb
  tb.begun && decide (s.sec.update.frame ≤ tb.frame) &&
  (if s.sec.update.comp = 2 then decide (tb.frameStart + 9 ≤ tb.count) && decide (tb.count ≤ tb.frameStart + 10)
   else decide (tb.count = tb.frameStart))

/-- UPDATE_SLICE: the lowest instance still to switch starts the other image, or waits where its die or region is down (R674,
R677, R679). -/
def execUpdateSlice (s : State) : Out :=
  let u := s.sec.update
  if !(decide (u.ph = .applying) || decide (u.ph = .reverting)) || u.fresh.isSome || u.back.isSome || !s.sliceTime then .next s
  else
    match s.toSwitch with
    | [] => .next s
    | i :: _ =>
      if s.instanceDown u.comp i then .next (s.setUpdate (fun x => { x with waits := true }))
      else
        let old := s.runsSlot u.comp i
        .next ((s.startImage u.comp i u.target).setUpdate (fun x => { x with
          fresh := some (i, old), waits := false, frame := s.tb.frame + s.reg (okey 0xA040 8)
          holdTo := s.tb.count + s.reg (okey 0xA040 7), last := s.tb.count }))

/-- IMAGE_ALIVE_REPORT: the new image reports itself alive within 2 ms; with the last instance the slot that all run is active
(R676, R679). -/
def execImageAliveReport (s : State) : Out :=
  let u := s.sec.update
  match u.fresh with
  | none => .next s
  | some _ =>
    let s1 := (s.setUpdate (fun x => { x with fresh := none })).setReg keyUpdDone s.switched
    if s1.toSwitch = [] then
      let s2 := s1.setSec (fun x => { x with active := Tbl.put 0 x.active u.comp u.target })
      .next ((s2.setUpdate (fun x => { x with ph := if u.ph = .stopped then .stopped else if u.reverts then .none else .staged })).setReg keyUpdStatus
        (if u.ph = .stopped then s.reg keyUpdStatus else 0))
    else .next s1

/-- IMAGE_ALIVE_TIMEOUT: the instance returns to the old image at the next frame boundary and the update stops with DISCARDED
(R676). -/
def execImageAliveTimeout (s : State) : Out :=
  let u := s.sec.update
  match u.fresh with
  | none => .next s
  | some f => .next ((s.setUpdate (fun x => { x with fresh := none, back := some f, ph := .stopped })).setReg keyUpdStatus Status.discarded.code)

/-- At a frame boundary an instance whose image did not report returns to the old one (R676). -/
def State.sliceBack (s : State) : State :=
  let u := s.sec.update
  match u.back with
  | none => s
  | some f => (s.setSec (fun x => { x with runs := Tbl.put 0 x.runs (u.comp * 16 + f.1) f.2 })).setUpdate (fun x => { x with back := none })

/-- SLICE_RETRY_TIMEOUT: an abandoned instance has not returned for 60 s, and the update stops with NOT_READY (R677). -/
def execSliceRetryTimeout (s : State) : Out :=
  .next (when s.sec.update.waits ((s.setUpdate (fun x => { x with waits := false, ph := .stopped })).setReg keyUpdStatus Status.notReady.code) s)

/-- AUTO_COMMIT: AutoCommitHours after the last slice, with no revert since, the hub commits (R680). The boot stage has no slice
(log entry 53). -/
def execAutoCommit (s : State) : Out :=
  let u := s.sec.update
  let h := s.reg (okey 0xA040 9)
  let due := decide (h ≠ 0) && decide (u.ph = .staged) && decide (u.comp ≠ 1) && !u.reverted &&
    decide (s.reg keyUpdDone = instances u.comp) && decide (u.last + h * hourTicks ≤ s.tb.count)
  .next (when due { s.commitUpdate with lastStatus := s.lastStatus } s)

/-! Recovery (R664). -/

/-- Does the boot ROM serve: BootState is 2? -/
def State.recovering (s : State) : Bool := decide (bits (s.reg keyBootState) 31 28 = 2)

def keyRecPieces : Nat := okey 0xA090 5
def keyRecStatus : Nat := okey 0xA090 6

/-- A write of RecoveryLength: slot 0 of the hub firmware is erased and the record of pieces cleared (R664). -/
def State.writeRecLength (s : State) (v : Nat) : State :=
  if !s.recovering then s.answer .notReady
  else if v < 1216 ∨ imageFrame + 2 ^ 26 < v then s.answer .lengthExceeds
  else ((s.setSec (fun x => { x with slots := Tbl.del x.slots 4, recLength := some v, recPieces := [] })).setReg keyRecPieces 0).answer .ok

/-- RECOVERY_LENGTH (R664). -/
def execRecoveryLength (v : Nat) (s : State) : Out := .next (s.writeRecLength v)

/-- A write of RecoveryOffset (R664). The offset is judged when a piece is written (log entry 49). -/
def State.writeRecOffset (s : State) (v : Nat) : State :=
  if !s.recovering then s.answer .notReady else (s.setSec (fun x => { x with recOffset := v })).answer .ok

/-- RECOVERY_OFFSET (R664). -/
def execRecoveryOffset (v : Nat) (s : State) : Out := .next (s.writeRecOffset v)

/-- Put bytes into a list at an offset, over zeros where nothing stood, up to a length. -/
def spliceAt (l : List Byte) (off len : Nat) (p : List Byte) : List Byte :=
  let base := l ++ List.replicate (off - l.length) (0 : Byte)
  (base.take off ++ p ++ base.drop (off + p.length)).take len

/-- A write of RecoveryPiece: 512 bytes of slot 0 at the offset, counted the first time (R664). -/
def State.writeRecPiece (s : State) (p : List Byte) : State :=
  if !s.recovering then s.answer .notReady
  else if p.length ≠ 512 then s.answer .typeMismatch
  else
    match s.sec.recLength with
    | none => s.answer .notReady
    | some n =>
      let off := s.sec.recOffset
      if off % 512 ≠ 0 then s.answer .badAlign
      else if n ≤ off then s.answer .lengthExceeds
      else
        let s1 := s.setSec (fun x => { x with
          slots := Tbl.put [] x.slots 4 (spliceAt (Tbl.get [] x.slots 4) off n p)
          recPieces := addOnce x.recPieces off })
        (s1.setReg keyRecPieces s1.sec.recPieces.length).answer .ok

/-- RECOVERY_PIECE (R664). -/
def execRecoveryPiece (piece : List Byte) (s : State) : Out := .next (s.writeRecPiece piece)

/-- A write of RecoveryCommand 0x01: the image in slot 0 is verified; on OK bring-up starts again from step 3 (R664). -/
def State.writeRecVerify (s : State) (v : Nat) : State :=
  if !s.recovering then s.answer .notReady
  else if v ≠ 1 then s.answer .typeMismatch
  else
    match s.sec.recLength with
    | none => s.answer .notReady
    | some n =>
      if s.sec.recPieces.length < (n + 511) / 512 then s.answer .notReady
      else
        let st := s.verifyImage 2 (s.slotImage 2 0)
        let s1 := (s.answer .ok).setReg keyRecStatus (match st with | some e => e.code | none => 0)
        if st.isNone then
          s1.setReg keyBootState (bits (s.reg keyBootState) 23 0 + 2 * 2 ^ 24)
        else s1

/-- RECOVERY_VERIFY (R664). -/
def execRecoveryVerify (v : Nat) (s : State) : Out := .next (s.writeRecVerify v)

/-! Attestation (R669 to R671). -/

/-- The component and instance of a measurement block 2 to 58 (Table 16-7). -/
def blockOf (i : Nat) : Nat × Nat :=
  if i = 2 then (1, 0) else if i = 3 then (2, 0) else if i = 4 then (3, 0)
  else if i ≤ 12 then (4, i - 5) else if i ≤ 28 then (5, i - 13) else if i ≤ 40 then (6, i - 29)
  else if i = 41 then (7, 0) else if i ≤ 57 then (8, i - 42) else (9, 0)

/-- A repair map entry as numbers, in a coding of the model's own (log entry 47). -/
def mapCode (e : MapEntry) : List Nat :=
  match e with
  | .spareGroup c g => [0, c, g]
  | .portHalved c w => [1, c, w]
  | .bankOut c b p => [2, c, b, p]
  | .spareBankOut c b => [3, c, b]
  | .coreOut c => [4, c]
  | .polderFrame p f => [5, p, f]
  | .tierFrame c n f => [6, c, n, f]
  | .laneOut p n => [7, p, n]
  | .spareConn d u => [8, d, u]

/-- FieldSealState: 0 open, 1 armed, 2 sealed (R602). -/
def State.sealState (s : State) : Nat := if s.isSealed then 2 else if s.sec.armed then 1 else 0

/-- Fuse state of block 59: root key hash, rollback counters, FieldSealState, fuse repair map, in an order of bytes of the
model's own (log entry 47). -/
def State.fuseState (s : State) : List Byte :=
  s.rootHash ++ (List.range 9).flatMap (fun i => leBytes 8 (Tbl.get 0 s.sec.counters (i + 1))) ++ leBytes 1 s.sealState ++
  s.fuseMap.flatMap (fun e => (mapCode e).flatMap (fun n => leBytes 8 n))

/-- The modulus of a key entry; entry 0 holds the vendor service key of the fuses (R594). -/
def State.keyModulus (s : State) (e : Nat) : Nat := if e = 0 then s.fuse (okey 0x1100 1) else s.reg (okey 0x1100 (2 * e + 1))

/-- The level of a key entry; entry 0 has level 3, and level 0 once the field is sealed, which leaves no entry at level 3 (R594,
R604; log entry 48). -/
def State.keyLevel (s : State) (e : Nat) : Nat :=
  if e = 0 then (if s.isSealed then 0 else 3) else s.reg (okey 0x1100 (2 * e + 2))

/-- The access configuration of block 60: AccessKeys and HostWindowLevel. -/
def State.accessState (s : State) : List Byte :=
  (List.range 8).flatMap (fun e => leBytes 512 (s.keyModulus e) ++ leBytes 1 (s.keyLevel e)) ++
  leBytes 1 (s.reg (okey 0x1210 1)) ++ leBytes 1 (s.reg (okey 0x1210 2))

/-- A measurement block (Table 16-7): 64 zero bytes where the instance runs no image (R671). -/
def State.measure (s : State) (i : Nat) : List Byte :=
  if i = 1 then Config.sha512 Config.bootRom
  else if i = 59 then Config.sha512 s.fuseState
  else if i = 60 then Config.sha512 s.accessState
  else
    let (c, k) := blockOf i
    match s.runsSlot c k with
    | 0 => List.replicate 64 0
    | n + 1 => Tbl.get (List.replicate 64 0) s.sec.measures (c * 32 + k * 2 + n)

/-- The certificate chain of slot 0 (R669, R670). -/
def State.certChain (s : State) : List Byte :=
  ((List.range 16).flatMap (fun i => leBytes 512 (s.fuse (okey 0xA011 (i + 1))))).take (s.fuse (okey 0xA012 0))

/-- Does a port serve DOE: its link is up and bring-up step 7 has ended (R652, R670)? -/
def State.doeServes (s : State) (p : Nat) : Bool :=
  decide ((s.port p).st ≠ .down) && decide (7 ≤ bits (s.reg keyBootState) 27 24) && decide (s.powerState ≠ 5)

/-- How far a connection is negotiated: 1 version, 2 capabilities, 3 algorithms. -/
def State.spdmAt (s : State) (p : Nat) : Nat := Tbl.get 0 s.sec.spdm p

/-- SPDM ERROR with an error code (R670; codes of DSP0274, log entry 47). -/
def State.spdmError (s : State) (p e : Nat) : State :=
  s.setSec (fun x => { x with spdmSent := some { port := p, code := 0x7F, content := leBytes 1 e } })

/-- Answer an SPDM request: Busy while the security engine firmware is replaced (Table 16-4), UnexpectedRequest out of order, else
what `f` answers. -/
def State.spdm (s : State) (p need : Nat) (f : State → State) : State :=
  if !s.doeServes p then s
  else if s.pausedBy 3 0 then s.spdmError p 0x03
  else if s.spdmAt p < need then s.spdmError p 0x04
  else f s

/-- Send a response and append it, with its request, to the connection's transcript. -/
def State.spdmSay (s : State) (p request code : Nat) (content : List Byte) : State :=
  s.setSec (fun x => { x with
    spdmSent := some { port := p, code := code, content := content }
    transcript := Tbl.put [] x.transcript p (Tbl.get [] x.transcript p ++ leBytes 1 request ++ leBytes 1 code ++ content) })

/-- Send a signed response, whose signature covers the transcript, the request and the response; the transcript then starts anew
(R669, R670). -/
def State.spdmSign (s : State) (p request code : Nat) (nonce content : List Byte) : State :=
  let t := Tbl.get [] s.sec.transcript p ++ leBytes 1 request ++ nonce ++ leBytes 1 code ++ content
  s.setSec (fun x => { x with
    spdmSent := some { port := p, code := code, content := content, signature := Config.pssSign t }
    transcript := Tbl.put [] x.transcript p [] })

def State.setSpdm (s : State) (p n : Nat) : State := s.setSec (fun x => { x with spdm := Tbl.put 0 x.spdm p n })

/-- A fresh device nonce of 32 bytes, a free value (log entry 4). -/
def State.nonce (s : State) : List Byte := leBytes 32 s.free

/-- GET_VERSION: SPDM 1.3; the connection starts anew (R670). -/
def execGetVersion (port : Fin 2) (s : State) : Out :=
  let p := port.val
  .next (s.spdm p 0 (fun t =>
    let t1 := t.setSec (fun x => { x with transcript := Tbl.put [] x.transcript p [] })
    (t1.setSpdm p 1).spdmSay p 0x84 0x04 (leBytes 2 0x1300)))

/-- GET_CAPABILITIES: CERT_CAP, CHAL_CAP and MEAS_CAP with signature (R670): bits 1, 2 and 4 of the flags. -/
def execGetCapabilities (port : Fin 2) (s : State) : Out :=
  let p := port.val
  .next (s.spdm p 1 (fun t => (t.setSpdm p 2).spdmSay p 0xE1 0x61 (leBytes 4 (2 + 4 + 16))))

/-- NEGOTIATE_ALGORITHMS: TPM_ALG_RSAPSS_4096, TPM_ALG_SHA_512 twice (R670); a request that offers other algorithms only is
answered InvalidRequest. -/
def execNegotiateAlgorithms (port : Fin 2) (offered : Bool) (s : State) : Out :=
  let p := port.val
  .next (s.spdm p 2 (fun t => if offered then (t.setSpdm p 3).spdmSay p 0xE3 0x63 (leBytes 4 64 ++ leBytes 4 4 ++ leBytes 4 8) else t.spdmError p 0x01))

/-- GET_DIGESTS: slot 0 alone is provisioned (R670). -/
def execGetDigests (port : Fin 2) (s : State) : Out :=
  .next (s.spdm port.val 3 (fun t => t.spdmSay port.val 0x81 0x01 (leBytes 1 1 ++ Config.sha512 t.certChain)))

/-- GET_CERTIFICATE: a portion of the chain of slot 0 (R670). -/
def execGetCertificate (port : Fin 2) (slot : Fin 8) (offset length : BitVec 16) (s : State) : Out :=
  .next (s.spdm port.val 3 (fun t =>
    if slot.val ≠ 0 ∨ t.certChain.length < offset.toNat then t.spdmError port.val 0x01
    else t.spdmSay port.val 0x82 0x02 ((t.certChain.drop offset.toNat).take length.toNat)))

/-- CHALLENGE: signed with the device identity key (R669, R670). -/
def execChallenge (port : Fin 2) (slot : Fin 8) (summary : Bool) (nonce : List Byte) (s : State) : Out :=
  .next (s.spdm port.val 3 (fun t =>
    if slot.val ≠ 0 then t.spdmError port.val 0x01
    else
      let sum := if summary then Config.sha512 ((List.range 60).flatMap (fun i => t.measure (i + 1))) else []
      (t.spdmSign port.val 0x83 0x03 nonce (Config.sha512 t.certChain ++ t.nonce ++ sum)).tickFree))

/-- GET_MEASUREMENTS: index 0 the number of blocks, 0xFF all, else one block of Table 16-7, signed on request (R670, R671). -/
def execGetMeasurements (port : Fin 2) (index : BitVec 8) (signed : Bool) (nonce : List Byte) (s : State) : Out :=
  let i := index.toNat
  .next (s.spdm port.val 3 (fun t =>
    if 60 < i ∧ i ≠ 255 then t.spdmError port.val 0x01
    else
      let ks := if i = 0 then [] else if i = 255 then (List.range 60).map (· + 1) else [i]
      let body := (if i = 0 then leBytes 1 60 else leBytes 1 ks.length) ++ ks.flatMap (fun k => leBytes 1 k ++ t.measure k)
      if signed then (t.spdmSign port.val 0xE0 0x60 nonce (body ++ t.nonce)).tickFree else t.spdmSay port.val 0xE0 0x60 body))

end Sys2Proof.Machine
end

