-- ==== Sys2Proof/Machine/Timebase.lean ====
section
/-! DEFINITION. The media timebase (sections 2.1 to 2.3): reference sources, lock criteria, states, the count and its
steering. An edge, a record or a measurement brings its figures as operands (log entry 9). -/

namespace Sys2Proof.Machine

open Sys2Proof

/-- Sticky bits of MediaReferenceState (Table 2-4). -/
def bitRefLost : Nat := 2 ^ 23
def bitHoldoverExpired : Nat := 2 ^ 22
def bitOutOfRange : Nat := 2 ^ 21
def bitSourceSwitched : Nat := 2 ^ 20

def keyRefState : Nat := okey 0x2011 0
def keyRefSource : Nat := okey 0x2010 0

/-- Progress of a source. -/
def Timebase.source (tb : Timebase) (i : Nat) : SrcState := Tbl.get {} tb.src i

/-- Record a source's progress. -/
def Timebase.setSource (tb : Timebase) (i : Nat) (x : SrcState) : Timebase := { tb with src := Tbl.put {} tb.src i x }

/-- Does the selection allow this source: the fixed source, or any in automatic mode (Table 2-3)? -/
def selectable (sel i : Nat) : Bool := decide (sel = 0) || decide (sel = i)

/-- The qualified source of highest priority that the selection allows (R60, Table 2-1). -/
def Timebase.best (tb : Timebase) (sel : Nat) : Option Nat :=
  [1, 2, 3, 4].find? (fun i => selectable sel i && (tb.source i).good)

/-- Units of the phase in 10 ns: a unit is 10⁻⁵ / 48,000² s, what one step of steering absorbs in a tick. -/
def tenNs : Int := 2304000

/-- Units of the phase in one tick. -/
def tickUnits : Nat := 4800000000

/-- Take a source into use: the phase is the offset measured at its last edge or record, which steering absorbs, and the rate is the
one that it shows (R61); before the first frame there is no count to compare (log entry 10). -/
def Timebase.follow (tb : Timebase) (i : Nat) : Timebase :=
  let x := tb.source i
  { tb with
    active := i
    phase := if tb.begun then x.offset else 0
    period := if x.period = 0 then tb.period else x.period }

/-- Lock to a source (Table 2-3). -/
def Timebase.lock (tb : Timebase) (i : Nat) : Timebase := { tb.follow i with st := .locked, left := true }

/-- A source that meets its criterion locks the timebase, unless it is locked already (Table 2-3). SourceSwitched stays as it is,
since the rows of Table 2-3 that leave holdover and free-run do not name it (DEDUCED, log entry 10). -/
def Timebase.meet (tb : Timebase) (sel i : Nat) : Timebase :=
  if tb.started && (tb.source i).good && selectable sel i && decide (tb.st ≠ .locked) then
    match tb.best sel with
    | some b => tb.lock b
    | none => tb
  else tb

/-- Free-run (Table 2-3): the count may start when acquiring is left (R66). -/
def Timebase.freeRun (tb : Timebase) : Timebase := { tb with st := .freeRun, active := 5, left := true }

/-- The source in use is lost (R60, Table 2-3): the next state of the timebase and the sticky bits. -/
def Timebase.lose (tb : Timebase) (sel i : Nat) : Timebase × Nat :=
  let t := tb.setSource i {}
  if decide (tb.st = .locked) && decide (tb.active = i) then
    match (if sel = 0 then t.best 0 else none) with
    | some b => (t.follow b, bitRefLost + bitSourceSwitched)
    | none => ({ t with st := .holdover }, bitRefLost)
  else (t, 0)

/-- The length of the present tick in region-time units / 65,536: the source's period, steered (R61, R71). -/
def Timebase.tickPeriod (tb : Timebase) : Nat := divRne (tb.period * (tickUnits + tb.steer).toNat) tickUnits

/-- One tick of the count, once the first frame has begun (R15, R67). -/
def Timebase.tick (tb : Timebase) : Timebase :=
  if tb.begun then { tb with count := tb.count + 1, elapsed := tb.elapsed + tb.tickPeriod } else tb

/-- Is the count aligned with a source: locked to it with no phase left to absorb (R61)? -/
def Timebase.aligned (tb : Timebase) (i : Nat) : Bool :=
  decide (tb.st = .locked) && decide (tb.active = i) && decide (tb.phase = 0) && decide (tb.steer = 0)

/-- The steering of the next tick (R61): it moves by at most one unit, which is 10 ppm per second, and lies within 200 ppm. Toward
a phase of magnitude d it takes the largest magnitude v from which a ramp back to 0 absorbs no more than d, so that the phase and
the steering end at 0 together; away from it, it returns to 0 (log entry 10). -/
def steerNext (phase v : Int) : Int :=
  let toward := if phase < 0 then -v else v
  let d : Int := phase.natAbs
  let w := if toward < 0 then toward + 1
    else if toward < 960000 ∧ (toward + 1) * (toward + 2) ≤ 2 * d then toward + 1
    else if toward * (toward + 1) ≤ 2 * d then toward
    else toward - 1
  if phase < 0 then -w else w

/-- Is the next tick one that a PPS edge begins: aligned with 1PPS, with the next count a multiple of 48,000 (R59)? -/
def Timebase.secondDue (tb : Timebase) : Bool := tb.begun && tb.aligned 2 && decide (tb.count % 48000 = 47999)

/-- A tick under steering: it absorbs as many units of phase as its steering has (R61). -/
def Timebase.steerTick (tb : Timebase) : Timebase :=
  let v := steerNext tb.phase tb.steer
  { ({ tb with steer := v } : Timebase).tick with phase := tb.phase - v }

/-- A tick without a reference keeps the last disciplined rate: the steering, which is no part of the source's rate, ramps back to
0 (R61, Table 2-3). The phase, which nothing measures there, stays as it was last measured, and PhaseError shows it (DESIGN CHOICE, log
entry 10). -/
def Timebase.coastTick (tb : Timebase) : Timebase := ({ tb with steer := steerNext 0 tb.steer } : Timebase).tick

/-- Record what an edge or a record of a source shows: while the source is in use, the phase and the rate are those measured there
(R61, R71, Table 2-4). -/
def Timebase.measure (tb : Timebase) (i : Nat) (x : SrcState) : Timebase :=
  let t := tb.setSource i x
  if decide (tb.st = .locked) && decide (tb.active = i) then t.follow i else t

/-- Is a word clock period, in ps, within 48 kHz ± 1,200 ppm (R57)? -/
def inCapture (period : Nat) : Bool := decide (479424 * period ≤ 10 ^ 13) && decide (10 ^ 13 ≤ 480576 * period)

/-- The measured magnitude is below 1 µs, in units of 10 ns (Table 2-1). -/
def underMicro (x : Int) : Bool := decide (x.natAbs < 100)

/-- A period of n / d ps as region-time units / 65,536. -/
def regionPeriod (n d : Nat) : Nat := divRne (n * 131072) (125 * d)

/-- WORD_CLOCK_EDGE: `period` in ps since the previous edge (0 for the first edge), the edge's phase error and the
count-minus-reference offset in units of 10 ns (R57, R58, R61, R64, Table 2-1). While the count is aligned with the clock, the edge is
its next tick. One edge whose period lies outside the capture
range ends a lock at once, since "A reference outside the range is not locked" (R57; DEDUCED, log entry 10). -/
def execWordClockEdge (period : Nat) (err offset : Int) (s : State) : Out :=
  let sel := s.reg keyRefSource
  let tb := s.tb
  if !tb.started then .next s
  else if decide (period ≠ 0) && !inCapture period then
    let (t, bits) := tb.lose sel 1
    .next ({ s with tb := t }.stick keyRefState (bits ||| bitOutOfRange))
  else
    let n := if !underMicro err then 0 else if period = 0 then 1 else (tb.source 1).count + 1
    let t0 := tb.measure 1
      { count := n, good := decide (4800 ≤ n), offset := if tb.aligned 1 then 0 else offset * tenNs
        period := if period = 0 then (tb.source 1).period else regionPeriod period 1 }
    let t1 := if tb.aligned 1 then t0.tick else t0
    .next { s with tb := t1.meet sel 1 }

/-- Count minus reference at a PPS edge, which is an instant whose count should be a multiple of 48,000 (R59): the ticks to the
nearest one, and the part below a tick as measured, in units of 10 ns. -/
def ppsOffset (count : Nat) (part : Int) : Int :=
  let r := count % 48000
  ((if r < 24000 then (r : Int) else (r : Int) - 48000) * tickUnits) + part * tenNs

/-- PPS_EDGE: `interval` in ns since the previous edge (0 for the first), whether the 10 MHz input is present, and the
part of the count's offset below a tick (R59, R61, R64, Table 2-1). While the count is aligned with the edges, an edge is the
boundary of the tick whose count is the next multiple of 48,000; otherwise it measures the phase anew, and the count is never
stepped. An edge at another interval, without a loss, is the first of a new count of three, shows no rate, and ends no lock (DESIGN
CHOICE, log entry 10). -/
def execPpsEdge (interval : Nat) (tenMHz : Bool) (offset : Int) (s : State) : Out :=
  let sel := s.reg keyRefSource
  let tb := s.tb
  if !tb.started then .next s
  else
    let inTol := decide (999999000 ≤ interval) && decide (interval ≤ 1000001000)
    let n := if !tenMHz then 0 else if inTol then (tb.source 2).count + 1 else 1
    let t0 : Timebase := if tb.secondDue then tb.tick else tb
    let o := if t0.begun then ppsOffset t0.count (if tb.secondDue then 0 else offset) else 0
    let t1 := t0.measure 2
      { count := n, good := decide (3 ≤ n), offset := o
        period := if tenMHz && inTol then regionPeriod interval 48 else (tb.source 2).period }
    .next { s with tb := { t1.meet sel 2 with ppsNow := true } }

/-- MEDIA_TICK: the count advances by one tick from the disciplined or free-running rate, steered while a phase is left (R15,
R61). While the count is aligned with the word clock, its edges carry the count; while it is aligned with 1PPS, the tick before a
multiple of 48,000 lasts until the edge (R58, R59). Before the first frame the ticks only tell how long ago the partner's HELLO came
(R501). -/
def execMediaTick (s : State) : Out :=
  let tb : Timebase := { s.tb with ppsNow := false, idle := if s.tb.begun then s.tb.idle else s.tb.idle + 1 }
  if !tb.begun || tb.aligned 1 || tb.secondDue then .next { s with tb := tb }
  else .next { s with tb := if tb.st = .locked then tb.steerTick else tb.coastTick }

/-- The two ports that carry PTP records are sources 0x03 and 0x04 (Table 2-1). -/
def ptpSource (port : Nat) : Nat := 3 + port

/-- Does the hub use the records of this port (R543)? In automatic mode the records of both ports count toward the lock
criterion until one port is the source in use; then the other port's are ignored (log entry 10). -/
def Timebase.ptpUsed (tb : Timebase) (sel port : Nat) : Bool :=
  selectable sel (ptpSource port) &&
    !(decide (sel = 0) && decide (tb.st = .locked) && decide (tb.active = ptpSource (1 - port)))

/-- The tick's length that two records of a port show: the PTM master time between them per PTP time. The hub's requester relates PTM
master time to region time; the model takes the two to run at one rate (R62, R71; DESIGN CHOICE, log entry 10). -/
def Timebase.ptpPeriod (tb : Timebase) (port ptp ptm : Nat) : Nat :=
  let p := Tbl.get 0 tb.ptpNs port
  let m := Tbl.get 0 tb.ptmNs port
  if p = 0 ∨ ptp ≤ p ∨ ptm ≤ m then (tb.source (ptpSource port)).period
  else regionPeriod ((ptm - m) * 10 ^ 9) ((ptp - p) * 48)

/-- PTP_CORRELATION_RECORD: the write of word 2 commits the record whose words 0 and 1 stand in the window; `residual`
in ns (R62, R63, R64, R543). While the port is the source in use, the offset that a record shows is the phase (Table 2-4). -/
def execPtpCorrelationRecord (port : Fin 2) (word2 residual : Nat) (offset : Int) (s : State) : Out :=
  let p := port.val
  let sel := s.reg keyRefSource
  let tb : Timebase := { s.tb with ptpRec := Tbl.put 0 s.tb.ptpRec (p * 4 + 2) word2 }
  let secs := Tbl.get 0 tb.ptpRec (p * 4) % 2 ^ 48
  let ns := Tbl.get 0 tb.ptpRec (p * 4 + 1) % 2 ^ 32
  if 999999999 < ns then .next ({ s with tb := tb }.answer .typeMismatch)
  else if !tb.ptpUsed sel p || !tb.started then .next ({ s with tb := tb }.answer .ok)
  else
    let i := ptpSource p
    let n := if residual < 2000 then (tb.source i).count + 1 else 0
    let t := secs * 10 ^ 9 + ns
    let t1 : Timebase := { tb with ptpNs := Tbl.put 0 tb.ptpNs p t, ptmNs := Tbl.put 0 tb.ptmNs p word2 }
    let t2 := t1.measure i { count := n, good := decide (8 ≤ n), offset := offset * tenNs, period := tb.ptpPeriod p t word2 }
    .next ({ s with tb := t2.meet sel i }.answer .ok)

/-- SOURCE_LOST: a source fails its loss criterion (R60, R64, Table 2-3). -/
def execSourceLost (src : Fin 4) (s : State) : Out :=
  let (t, bits) := s.tb.lose (s.reg keyRefSource) (src.val + 1)
  .next ({ s with tb := t }.stick keyRefState bits)

/-- SOURCE_SWITCH: a source of higher priority has met its criterion for 10 s while the source in use stays locked
(R60). -/
def execSourceSwitch (src : Fin 4) (s : State) : Out :=
  let i := src.val + 1
  let tb := s.tb
  .next (when (decide (s.reg keyRefSource = 0) && decide (tb.st = .locked) && (tb.source i).good && decide (i < tb.active))
    ({ s with tb := tb.follow i }.stick keyRefState bitSourceSwitched) s)

/-- ACQUIRE_TIMEOUT: no lock within 10 s of timebase start (Table 2-3). -/
def execAcquireTimeout (s : State) : Out :=
  .next (when (s.tb.started && decide (s.tb.st = .acquiring)) { s with tb := s.tb.freeRun } s)

/-- HOLDOVER_LIMIT_EXPIRY: HoldoverLimit seconds have elapsed in holdover (Table 2-3). -/
def execHoldoverLimitExpiry (s : State) : Out :=
  .next (when (decide (s.tb.st = .holdover)) ({ s with tb := s.tb.freeRun }.stick keyRefState bitHoldoverExpired) s)

/-- What a new selection does at once (R56, R64): 0x05 enters free-run; another fixed source while locked is locked to
when it is qualified, else the timebase enters holdover; outside Locked a qualified source locks (log entry 10). -/
def Timebase.select (tb : Timebase) (v : Nat) : Timebase :=
  if !tb.started then tb
  else if v = 5 then tb.freeRun
  else if tb.st = .locked then
    if v = 0 ∨ v = tb.active then tb
    else if (tb.source v).good then tb.follow v
    else { tb with st := .holdover }
  else
    match tb.best v with
    | some b => tb.lock b
    | none => tb

/-- A write of MediaReferenceSource (R56). -/
def writeReferenceSource (v : Nat) (s : State) : State :=
  if 5 < v then s.answer .typeMismatch
  else ({ s with tb := s.tb.select v }.keep keyRefSource v).answer .ok

/-- MEDIA_REFERENCE_SOURCE_WRITE (R56). -/
def execMediaReferenceSourceWrite (v : Nat) (s : State) : Out := .next (writeReferenceSource v s)

/-- Is an accepted pricking held for a frame that has not begun (R69)? The one fixed for the next frame counts, a repeat of an
earlier one too (DEDUCED, log entry 11). -/
def State.pricksFuture (s : State) : Bool :=
  s.prick.accepted.any (fun a => decide (s.tb.frame < a.frame)) ||
  (match s.prick.fixed with | some a => decide (s.tb.frame < a.frame) | none => false)

/-- Is v a divisor of 48,000 from 96 to 4,800 (R68)? -/
def frameLengthOk (v : Nat) : Bool := decide (96 ≤ v) && decide (v ≤ 4800) && decide (48000 % v = 0)

/-- A write of FrameLength (R68, R69): it takes effect at the next count that is a multiple of 48,000, which the frame
boundary there applies. Before the first frame the written value is the one in force (log entry 11). -/
def writeFrameLength (v : Nat) (s : State) : State :=
  if !frameLengthOk v then s.answer .typeMismatch
  else if s.pricksFuture then s.answer .busy
  else (s.keep (okey 0x2002 0) v).answer .ok

/-- FRAME_LENGTH_WRITE (R68, R69). -/
def execFrameLengthWrite (v : Nat) (s : State) : Out := .next (writeFrameLength v s)

/-- The count loaded before the first frame (R66): `elapsed` is the time in ns since the last valid PTP record. PTP stays the
active source in holdover (Table 2-4). -/
def startCount (s : State) (elapsed : Nat) : Nat × Bool :=
  if decide (s.tb.active = 3) || decide (s.tb.active = 4) then
    (roundUp ((Tbl.get 0 s.tb.ptpNs (s.tb.active - 3) + elapsed) * 48000 / 10 ^ 9) 48000, true)
  else (roundUp (s.reg (okey 0x2013 0)) 48000, false)

/-- The anchor of the current frame, as the hub multicasts it (R71). -/
def Timebase.anchorNow (tb : Timebase) : Anchor :=
  { frame := tb.frame, tick := tb.frameStart, period := tb.tickPeriod, elapsed := tb.elapsed }

/-- The frame's anchor reaches sites; the others go on with their last one (R71, R386). -/
def Timebase.anchorSites (tb : Timebase) (sites : List Nat) : Timebase :=
  { tb with anchors := sites.foldl (fun a x => Tbl.put {} a x tb.anchorNow) tb.anchors }

/-- May the first frame begin now: with 1PPS and 10 MHz it begins at a PPS edge (R66)? -/
def Timebase.startsNow (tb : Timebase) : Bool := !(decide (tb.st = .locked) && decide (tb.active = 2)) || tb.ppsNow

/-- The first frame begins at a count, with the frame number that goes with it; all sites receive its anchor (R66, R70, R71). -/
def Timebase.begin (tb : Timebase) (frame count length : Nat) : Timebase :=
  ({ tb with begun := true, count := count, frame := frame, frameStart := count, frameLength := length, past := [(frame, count)] } : Timebase).anchorSites (List.range 12)

/-- FIRST_FRAME_BEGIN: the timebase has left acquiring, and a paired unit has its HELLO or has waited 10 s (R501), following a
partner whose frames run, at the next of its boundaries since its HELLO; the count is loaded once and the first frame begins (R66, R67,
R70, R71). A known-answer pass of bring-up counts as one of this frame. -/
def execFirstFrameBegin (elapsed : Nat) (s : State) : Out :=
  if s.tb.left && !s.tb.begun && !s.pair.waits && s.tb.startsNow then
    let fl := s.reg (okey 0x2002 0)
    let tb := match s.pair.follow with
      | some (f, c, n) =>
        let k := max 1 ((s.tb.idle + n - 1) / n)
        s.tb.begin (f + k) (c + k * n) fl
      | none =>
        let (c, abs) := startCount s elapsed
        { s.tb.begin (c / fl) c fl with absolute := abs }
    let pair : Pair := { s.pair with katPass := s.pair.katPass.map (fun e => (e.1, tb.frame + 1)) }
    .next (({ s with tb := tb, pair := pair } : State).signal s)
  else .next s

end Sys2Proof.Machine
end

