-- ==== Sys2Proof/Machine/BringUp.lean ====
section
/-! DEFINITION. Bring-up (sections 16.1 to 16.4, 1.7): the steps of Table 16-1. -/

namespace Sys2Proof.Machine

open Sys2Proof

/-- Last step of Table 16-1 ended (Table 16-9). -/
def State.bringAt (s : State) : Nat := bits (s.reg keyBootState) 27 24

/-- Change a field of SecureBootState. -/
def State.bootField (s : State) (msb lsb v : Nat) : State := s.setReg keyBootState (setField (s.reg keyBootState) msb lsb v)

/-- A step has ended. -/
def State.bringEnd (s : State) (n : Nat) : State := s.bootField 27 24 n

/-! Step 2: fuses. -/

/-- The boot ROM reads the fuses, among them the hub's own revision; a stored counter whose raises do not match the blown bits sets
CounterMismatch (R650, R666). -/
def State.bring2 (env : BringUp) (s : State) : State :=
  if !env.fusesOk then s
  else
    let s1 := s.setReg (okey 0x0110 (siteH + 1)) (env.revisions.getD siteH 0#32).toNat
    let bad := (List.range 9).any (fun i => decide (Tbl.get 0 s.sec.raises (i + 1) ≠ Tbl.get 0 s.sec.blown (i + 1)))
    (s1.bootField 23 23 (if bad then 1 else 0)).bringEnd 2

/-! Images (R663). -/

/-- The slot that a component runs: the first choice if it passes Table 16-6, else the other one if that passes. -/
def State.pickSlot (s : State) (c first : Nat) : Option Nat :=
  if (s.verifyImage c (s.slotImage c first)).isNone then some first
  else if (s.verifyImage c (s.slotImage c (1 - first))).isNone then some (1 - first)
  else none

/-- Verify and start a component on all its instances; the slot becomes active, and a start from the other slot is counted
(R663, R665). -/
def State.loadComp (s : State) (c first : Nat) : State :=
  match s.pickSlot c first with
  | none => s
  | some slot =>
    let s1 := (List.range (instances c)).foldl (fun t i => t.startImage c i slot) s
    let s2 := s1.setSec (fun x => { x with active := Tbl.put 0 x.active c slot })
    if slot = first then s2 else s2.bootField 15 8 (satInc 8 (bits (s.reg keyBootState) 15 8))

/-! Step 3: hub firmware. -/

/-- The boot stage, a new one if its update waits for this bring-up (R680), and the hub firmware are verified and started; with no
hub firmware image the boot ROM stays in recovery (R663, R664). -/
def State.bring3 (s : State) : State :=
  let u := s.sec.update
  let s1 := s.loadComp 1 (if u.boot then u.slot else s.activeSlot 1)
  let s2 := (s1.setUpdate (fun x => { x with boot := false })).loadComp 2 (s1.activeSlot 2)
  if s2.runsSlot 2 0 = 0 then (s2.bootField 31 28 2).setSec (fun x => { x with recLength := none, recPieces := [], recOffset := 0 })
  else s2.bringEnd 3

/-! Step 4: the dictionary. -/

/-- Kept values as bring-up restores them: after RestoreDefaults only those of 0x1000 to 0x1FFF, and the claim, which is never
lowered (R495, R605, R606). -/
def State.kept (s : State) : Tbl Nat :=
  if s.dap.restore then s.nv.filter (fun e => (decide (0x1000 ≤ e.1 / 256) && decide (e.1 / 256 < 0x2000)) || decide (e.1 = okey 0x8010 0))
  else s.nv

/-- Indices of the field network's settings (R589). -/
def isNetKey (k : Nat) : Bool := decide (0x1001 ≤ k / 256) && decide (k / 256 ≤ 0x1007)

/-- Indices of the tolerances, limits and window of the pair (R535). -/
def pairLimits : List Nat := [0x8020, 0x8021, 0x8022, 0x8023, 0x8024, 0x8025, 0x8027]

/-- The dictionary is restored, the field network and the timebase start, and what is read only at bring-up takes effect (R493,
R501, R605, R610, R731). -/
def State.bring4 (s : State) : State :=
  let kept := s.kept
  let base := s.dict.filter (fun e => decide (e.1 = keyBootState) || decide (e.1 = keyOsc) || decide (e.1 = keyPower) ||
    decide (e.1 / 256 = 0x0110))
  let dap : Dap := { restore := false, link := s.dap.link, net := kept.filter (fun e => isNetKey e.1) }
  let s1 : State := { s with nv := kept, dict := base.foldl (fun t e => Tbl.ins t e.1 e.2) kept, dap := dap }
  let s2 := s1.setReg (okey 0x7002 0) (s1.reg (okey 0x7001 0))
  let paired := decide (s2.reg (okey 0x8001 0) = 1)
  let s3 := s2.setPair (fun p => { p with
    role := if paired then .alone else .unpaired
    waits := paired
    limits := pairLimits.foldl (fun t i => Tbl.put (dictDflt (okey i 0)) t (okey i 0) (s2.reg (okey i 0))) [] })
  let tb := { s3.tb with started := true, frameLength := s3.reg (okey 0x2002 0) }
  let s4 : State := { s3 with tb := tb.select (s3.reg keyRefSource), trimMode := s3.reg (okey 0x6201 0) }
  let s5 := (s4.setPw (fun p => { p with osc := if p.primary then 0 else if p.secondary then 1 else 2 })).reportOsc
  let u := s5.sec.update
  (if u.comp = 1 ∧ u.ph = .staged ∧ s5.runsSlot 1 0 = u.slot + 1 then s5.setReg keyUpdDone 1 else s5).bringEnd 4

/-! Step 5: rails. -/

/-- The rails rise in their order with VCORE at point 2; a failure is Fault-off (R643). In test mode bring-up stops here
(R692). -/
def State.bring5 (env : BringUp) (s : State) : State :=
  if !env.railsOk then s.faultOff .rail
  else
    let s1 := (List.range 8).foldl (fun t d => t.setDie d { t.dieOf d with point := 2, vcore := voltage 2 }) s
    let s2 : State := { s1 with test := { s1.test with testMode := decide (s1.reg (okey 0xB040 0) = 1) } }
    s2.bringEnd 5

/-! Step 6: revisions. -/

/-- DieKind that a site's die must report (Table 1-8). -/
def siteKind (x : Nat) : Nat := if (dieAt x).isSome then 1 else if x = siteH then 2 else if x = siteF then 3 else 4

/-- Is a guest site's die a filler (R46)? -/
def State.filler (s : State) (x : Nat) : Bool :=
  (decide (x = siteG 0) && !(s.guest 0).fitted) || (decide (x = siteG 1) && !(s.guest 1).fitted)

/-- Steppings A and B, the ones of Table 16-3. -/
def listedStepping (w : Nat) : Bool := decide (bits w 15 8 = 0x0A) || decide (bits w 15 8 = 0x0B)

/-- REVISION_CHECK of a site's word beside the hub's: a compute or footside die of another kind, or of a stepping that Table 16-3
does not list with the hub's, or that the hub firmware does not list, is isolated; a guest only where the guest table does not list
it (R658 to R660). -/
def revisionBad (x w hub : Nat) (unlisted : Bool) : Bool :=
  if x = siteH then false
  else if siteKind x = 4 then unlisted
  else unlisted || decide (bits w 31 24 ≠ siteKind x) || !listedStepping w || !listedStepping hub

/-- Keep a site's die out of service (R659, R663). -/
def State.isolateSite (s : State) (x : Nat) : State :=
  let s1 := s.setRegion x { s.region x with isolated := true }
  match dieAt x with
  | some d => s1.setDie d { s1.dieOf d with isolated := true }
  | none => s1

/-- A site's die reports its revision word, which DieRevision and SiteInventory publish; DieKind is that of the site's own die (R657, R371,
R52; log entry 49). -/
def State.reportRevision (env : BringUp) (s : State) (x : Nat) : State :=
  if s.filler x then (s.setReg (okey 0x0110 (x + 1)) 0).setReg (keySite x) (5 * 2 ^ 24)
  else
    let w := (env.revisions.getD x 0#32).toNat
    let s1 := (s.setReg (okey 0x0110 (x + 1)) w).setReg (keySite x) (siteKind x * 2 ^ 24 + bits w 23 20 * 2 ^ 20)
    if revisionBad x w (env.revisions.getD siteH 0#32).toNat (env.unlisted.any (fun u => decide (u.val = x))) then
      (s1.isolateSite x).bootField 7 0 (satInc 8 (bits (s1.reg keyBootState) 7 0))
    else s1

/-- Every die reports its revision word and bride level (section 16.3). -/
def State.bring6 (env : BringUp) (s : State) : State := ((List.range 12).foldl (State.reportRevision env) s).bringEnd 6

/-! Step 7: the other components. -/

/-- Every other component is verified and loaded; what the instances of a component that cannot run leave out of service (R663). -/
def State.bring7 (s : State) : State :=
  let s1 := (List.range 7).foldl (fun t i => t.loadComp (i + 3) (t.activeSlot (i + 3))) s
  let s2 := if s1.hasImage 4 0 then s1 else (List.range 8).foldl (fun t d => t.isolateSite (siteOfDie d)) s1
  let s3 := if s2.hasImage 5 0 then s2 else (List.range 16).foldl (fun t u => t.setStore u { t.store u with out := true }) s2
  let s4 := if s3.hasImage 6 0 then s3 else (List.range 12).foldl (fun t x => t.setRegion x { t.region x with barred := true }) s3
  let s5 := if s4.hasImage 8 0 then s4 else (List.range 16).foldl (fun t c => t.setChan c { t.chan c with st := .refused, power := false }) s4
  s5.bringEnd 7

/-! Step 8: the repair map and the cores. -/

/-- REPAIR_MAP_APPLY for a core (R655). -/
def PCore.repair (c : PCore) (k : Nat) (e : MapEntry) : PCore :=
  match e with
  | .spareGroup j g => if j = k then { c with groupsUsed := addOnce c.groupsUsed g } else c
  | .portHalved j w => if j = k then { c with width := w } else c
  | .bankOut j b p =>
    if j = k then
      match c.logicalOf b with
      | some l => { c with bankMap := Tbl.put l c.bankMap l p, spareBanks := c.spareBanks.filter (fun x => decide (x ≠ p)) }
      | none => c
    else c
  | .spareBankOut j b => if j = k then { c with spareBanks := c.spareBanks.filter (fun x => decide (x ≠ b)) } else c
  | .coreOut j => if j = k then { c with mode := .outAtBringUp } else c
  | _ => c

/-- ENABLED_CORE_ASSIGN: the 48 lowest physical cores in service get numbers in ascending order; the rest are spares (R11,
R50). -/
def State.enableCores (s : State) (d : Nat) : State :=
  let good := (List.range 52).filter (fun m => decide ((s.core (coreKey d m)).mode ≠ .outAtBringUp))
  ((good.take 48).zipIdx).foldl (fun t e =>
    t.setCore (coreKey d e.1) { t.core (coreKey d e.1) with number := some e.2, mode := .inService }) s

/-- Spares that the repair map has switched in at a die's repair units other than row ports (R35, R654). -/
def connsUsed (es : List MapEntry) (d : Nat) : Tbl Nat :=
  es.foldl (fun t e => match e with
    | .spareConn k u => if k = d then Tbl.upd 0 t u (· + 1) else t
    | _ => t) []

/-- The repair map applies to the compute stacks, and every die enables its cores (R50, R655). -/
def State.bring8 (s : State) : State :=
  let es := s.fuseMap ++ s.fieldMap
  let s1 := (List.range 8).foldl (fun t d =>
    let t1 := (List.range 52).foldl (fun u m => u.setCore (coreKey d m) (es.foldl (fun c e => c.repair (coreKey d m) e) {})) t
    let t2 := t1.enableCores d
    t2.setDie d { t2.dieOf d with up := !(t2.dieOf d).isolated, connsLost := connsUsed es d }) s
  s1.bringEnd 8

/-! Step 9: polders, tier and Ground. -/

/-- Frames of a polder that the repair map retires (R655). RetiredFrames counts those of the fuse map too, which Table 7-10 does not name
(DESIGN CHOICE, log entry 31). -/
def State.mapPolder (s : State) (u : Nat) : List Nat :=
  (s.fuseMap ++ s.fieldMap).foldl (fun l e => match e with | .polderFrame p f => if p = u then addOnce l f else l | _ => l) []

/-- A polder trains; every ledger replica reads 0, and the frames of R278 are reserved: 2,048 for stream state records in each
polder (R270, R278, R280; log entry 27). -/
def State.bringPolder (env : BringUp) (s : State) (u : Nat) : State :=
  let x := s.store u
  s.setStore u { x with out := x.out || env.polderFail.any (fun p => decide (p.val = u)), retired := s.mapPolder u }

/-- A socketed channel is discovered and trained: a module that does not answer leaves it Failed (Table 8-2). -/
def State.bringChan (env : BringUp) (s : State) (c : Nat) : State :=
  let x := s.chan c
  if !x.present ∨ x.st = .refused then s
  else
    let s1 := s.setChan c { x with st := .discovering, power := true }
    match env.modules.find? (fun m => decide (m.1.val = c)) with
    | none => s1.channelFail c
    | some m =>
      let s2 := s1.setChan c ((s1.chan c).discover m.2)
      if (s2.chan c).st ≠ .training then s2
      else if env.chanFail.any (fun f => decide (f.val = c)) then s2.channelFail c
      else s2.channelIn c

/-- Spread frames equally over channels with room, given as channel, frames taken and frames at most; what a channel cannot take goes
to the others in a further round, and a remainder below their number to the lowest ones (R322; log entry 49). -/
def spreadFrames : Nat → Nat → List (Nat × Nat × Nat) → List (Nat × Nat × Nat)
  | 0, _, l => l
  | fuel + 1, need, l =>
    let open_ := l.filter (fun c => decide (c.2.1 < c.2.2))
    if need = 0 ∨ open_ = [] then l
    else
      let q := need / open_.length
      let give (c : Nat × Nat × Nat) : Nat :=
        if q = 0 then (if rankIn (open_.map (·.1)) c.1 < need then 1 else 0) else q
      let l1 := l.map (fun c => (c.1, c.2.1 + min (give c) (c.2.2 - c.2.1), c.2.2))
      let took := (l1.map (fun c => c.2.1)).sum - (l.map (fun c => c.2.1)).sum
      spreadFrames fuel (need - took) l1

/-- The trace region is reserved; one larger than an eighth of the fitted capacity is refused, and none is reserved (R322). -/
def State.reserveTrace (s : State) : State :=
  let cs := (List.range 16).filter (fun c => decide ((s.chan c).st = .inService))
  let frames := (cs.map (fun c => s.frameCount (16 + c))).sum
  let bytes := s.reg (okey 0xB010 0)
  if frames * 2 ^ 18 < 8 * bytes then s
  else
    (spreadFrames 64 (roundUp bytes (2 ^ 18) / 2 ^ 18) (cs.map (fun c => (c, 0, (s.frameCount (16 + c) + 7) / 8)))).foldl
      (fun t c => t.setChan c.1 { t.chan c.1 with traceFrames := c.2.1 }) s

/-- A ring of a site as step 9 finds it, with its saved trims (R408) and its temperature at the last round (R401, R405): sweeping towards its line where its region locks, else
parked. -/
def State.bringRing (s : State) (locks : Bool) (k : Nat) : MicroRing :=
  let r : MicroRing := { trims := Tbl.get {} s.nvTrims k, temp := s.valueOf (nearestSensor k) }
  if locks then r.relock else r.park

/-- May the region of a site enter service: its die is neither a filler, isolated, nor without endpoint firmware? -/
def State.siteLocks (s : State) (x : Nat) : Bool := !s.filler x && !(s.region x).isolated && !(s.region x).barred

/-- Step 9 begins on the Ground: rings sweep, every path waits for its training, and the lanes of dark sites are dark. -/
def State.groundStart (s : State) : State :=
  let s1 : State := { s with
    rings := (List.range 12).flatMap (fun x => (siteRings x).filterMap (fun k =>
      let r := s.bringRing (s.siteLocks x) k
      if r = {} then none else some (k, r)))
    paths := brides.flatMap (fun p => (List.range 96).map (fun n => (pathKey p.1 p.2 n, ({ st := 1 } : Path))))
    lanes := (List.range 12).flatMap (fun x => if s.filler x then [] else
      (List.range 96).map (fun n => (laneKey x n, ({ tx := .dark, rx := .dark } : Lane)))) }
  (List.range 12).foldl (fun t x =>
    let r := t.region x
    let st : RegionSt := if s.filler x then .parked else if s.siteLocks x then .locking else .dark
    t.setRegion x { r with st := st, heard := if st = .dark then List.range 12 else [] }) s1

/-- The seated modules supply light, with their shares of the taps at bring-up (R358, R360). -/
def State.lightUp (env : BringUp) (s : State) : State :=
  [0, 1].foldl (fun t m =>
    let l := t.laser m
    let ts := env.taps.filter (fun e => decide (e.1.val = m))
    let base := ts.foldl (fun b e => Tbl.put 0 b e.2.1.val e.2.2) []
    if l.seat then t.laserPut m { l with st := .supplying, enable := true, silent := 0, base := some base, share := base } else t) s

/-- A heater code at which a sweep from the cold offset meets its line: within 300 GHz, which is 3,333 codes, and inside the heater's range;
which one is open (R399, R406, R407). -/
def MicroRing.lockCode (r : MicroRing) (free : Nat) : Nat := min 16382 (max 1 (r.coldOffset + free % 3334))

/-- The rings lock and the brides train: a path that fails stays out until the next bring-up, and one that trains leaves the field
map (R364, R365, R407, R655). -/
def State.groundTrain (env : BringUp) (s : State) : State :=
  let failed (a b n : Nat) : Bool := env.pathFail.any (fun f => decide (f.1.val = a) && decide (f.2.1.val = b) && decide (f.2.2.val = n))
  let s1 : State := { s with
    rings := s.rings.map (fun e => if e.2.st = .sweeping then
      (e.1, { e.2 with st := .locked, heater := e.2.lockCode (Config.freeNat (s.freeCtr + e.1)), line := slotLane (e.1 % 1344) % 16 }) else e)
    freeCtr := s.freeCtr + 16128 }
  let s2 := (List.range 12).foldl (fun t x => if (t.region x).st = .locking then (t.setRegion x { t.region x with st := .up }).pairTrains (decide (x = siteF)) else t) s1
  let s3 := brides.foldl (fun t p =>
    if !s2.pathUp p.1 p.2 then t
    else (List.range 96).foldl (fun u n =>
      if failed p.1 p.2 n then
        let u1 := (u.setPath p.1 p.2 n { u.pathOf p.1 p.2 n with st := 2 }).sendIdent p.1 n 1 p.2 (pathGroup p.1 p.2) 16
        let u2 := u1.bump (okey 0x6030 4)
        if u.fieldMap.contains (.laneOut (p.1 * 12 + p.2) n) then u2 else u2.mapRecord (.laneOut (p.1 * 12 + p.2) n)
      else
        let u1 := (u.setPath p.1 p.2 n { u.pathOf p.1 p.2 n with st := 0 }).sendIdent p.1 n 1 p.2 (pathGroup p.1 p.2) 16
        { u1 with fieldMap := u1.fieldMap.filter (fun e => decide (e ≠ .laneOut (p.1 * 12 + p.2) n)) }) t) s2
  s3.restLanes

/-- Step 9: polders and tier, and the Ground as far as there is light; without light the step waits (R55, R651). -/
def State.bring9 (env : BringUp) (s : State) : State :=
  let waits := decide ((s.region siteH).st = .locking)
  let s1 := if waits then s
    else
      let t := (List.range 16).foldl (State.bringPolder env) s
      let t1 := (List.range 16).foldl (State.bringChan env) (t.setReg (okey 0x5003 0) 4096)
      t1.reserveTrace.groundStart
  if env.light ∧ (s1.laser 0).seat ∨ env.light ∧ (s1.laser 1).seat then ((s1.lightUp env).groundTrain env).bringEnd 9 else s1

/-- LASER_WAIT_TIMEOUT: no module has supplied light within 60 s of the start of step 9, which ends with the region of every site
except H dark (R651). -/
def execLaserWaitTimeout (s : State) : Out :=
  let waits := decide (s.powerState = 0) && decide (s.bringAt = 8) && decide ((s.region siteH).st = .locking)
  if !waits || (s.laser 0).st.supplies || (s.laser 1).st.supplies then .next s
  else
    let s1 := (List.range 12).foldl (fun t x =>
      let r := t.region x
      if x ≠ siteH ∧ r.st = .locking then (t.setRegion x { r with st := .dark, heard := List.range 12 }).parkRegion x else t) s
    .next (((s1.setRegion siteH { s1.region siteH with st := .up }).restLanes).bringEnd 9)

/-! Steps 10 to 13. -/

/-- Step 10: every SiteInventory entry is written (R53). -/
def State.bring10 (s : State) : State := ((List.range 12).foldl (fun t x => t.reportSite x) s).bringEnd 10

/-- Step 11: the known-answer pattern runs once on every compute die; a die that fails is isolated and reported (Table 16-1). -/
def State.bring11 (env : BringUp) (s : State) : State :=
  ((List.range 8).foldl (fun t d =>
    if (t.dieOf d).isolated then t
    else if env.katFail.any (fun f => decide (f.val = d)) then
      let t1 := t.setDie d { t.dieOf d with isolated := true, up := false }
      t1.reportSite (siteOfDie d)
    else (t.setReg (okey 0x8053 (d + 1)) t.tb.frame).setPair (fun p => { p with katPass := Tbl.put 0 p.katPass d (t.tb.frame + 1) })) s).bringEnd 11

/-- Step 12: a linked port whose Enable is set enters Up (R652). -/
def State.bring12 (s : State) : State :=
  ([0, 1].foldl (fun t p =>
    let q := t.port p
    if q.st = .linked ∧ bits q.control 63 63 = 1 then ((t.setPort p { q with st := .up }).arriveUp p).signal t else t) s).bringEnd 12

/-- Step 13: in service (R650). -/
def State.bring13 (s : State) : State := ((s.setReg keyPower 1).bootField 31 28 1).bringEnd 13

/-- One step, where the step before it has ended and the module still brings itself up. -/
def State.bringStep (env : BringUp) (s : State) (n : Nat) : State :=
  if s.bringAt + 1 ≠ n ∨ s.powerState ≠ 0 ∨ s.recovering ∨ s.test.testMode then s
  else
    match n with
    | 2 => s.bring2 env
    | 3 => s.bring3
    | 4 => s.bring4
    | 5 => s.bring5 env
    | 6 => s.bring6 env
    | 7 => s.bring7
    | 8 => s.bring8
    | 9 => s.bring9 env
    | 10 => s.bring10
    | 11 => s.bring11 env
    | 12 => s.bring12
    | 13 => s.bring13
    | _ => s

/-- BRING_UP: the steps of Table 16-1 that follow the last one ended, in order, up to the one that the command names; a step that
cannot end stops them (R650; log entry 49). -/
def execBringUp (env : BringUp) (s : State) : Out :=
  .next ((List.range 14).foldl (fun t n => if n ≤ env.upTo then t.bringStep env n else t) s)

end Sys2Proof.Machine
end

