-- ==== Sys2Proof/Machine/Fabric.lean ====
section
/-! DEFINITION. The Pliwyn memory fabric (chapter 11): packets that reach the module as a target, the responses that its
sources receive, atomics, triggers, claim fences, the line cache and routing. -/

namespace Sys2Proof.Machine

open Sys2Proof

/-! Arrival (R431, R434, R436, R457). -/

/-- Opcodes of the request channel (Table 11-3). -/
def knownRequest (op : Nat) : Bool := decide (1 ≤ op) && decide (op ≤ 6)

/-- Opcodes of the response channel, and of the control channel (Table 11-3). -/
def knownAnswer (channel op : Nat) : Bool :=
  if channel = 1 then decide (0x21 ≤ op) && decide (op ≤ 0x26) else decide (channel = 2) && (decide (op = 7) || decide (op = 0x27))

/-- Lines of each opcode (Table 11-3). -/
def linesOk (op n : Nat) : Bool :=
  if op = 1 ∨ op = 2 then decide (1 ≤ n) && decide (n ≤ 8)
  else if op = 4 ∨ op = 5 ∨ op = 6 ∨ op = 0x24 ∨ op = 0x25 then decide (n = 1)
  else if op = 0x21 then decide (n ≤ 8)
  else if op = 0x27 then decide (n ≤ 1)
  else decide (n = 0)

/-- Does a packet come as Table 11-3 has it: reserved fields of 0, Lines in its range, 0 for a READRESP whose Status is not OK, and a payload
of so many lines, but for a READ, whose Lines name what it asks for (R432, R436; log entry 39)? -/
def wellForm (p : Packet) : Bool :=
  p.rsvOk && linesOk p.opcode p.lines && (decide (p.opcode ≠ 0x21) || decide (p.status = 0) || decide (p.lines = 0)) &&
  decide (p.payload.length = if p.opcode = 1 then 0 else 64 * p.lines)

/-- Is a packet's way in there at all: a fabric port, or a lane of a bride from a stack, H or F; what a guest sends comes by the Dyke alone
(R343, R377)? -/
def viaReal (v : Via) : Bool :=
  match v with
  | .port _ | .pair _ => true
  | .lane a b _ => brideExists a.val b.val && decide (a.val ≠ 4) && decide (a.val ≠ 7)

/-- A packet fails its end-to-end check: counted by the port or lane that carried it, but for a lane of the pair link, for which the spec
names no counter (log entry 40); the sixteenth on a lane within 1 ms
takes the path out of service (R364, R457). -/
def State.badCrc (s : State) (v : Via) : State :=
  match v with
  | .port x => s.bump (okey 0x7011 (x.val + 1))
  | .lane a b n =>
    let p := s.pathOf a.val b.val n.val
    let cs := (recent s.tb.count 48 p.crcs).take 16
    let s1 := (s.bump (okey 0x6030 5)).setPath a.val b.val n.val { p with crcs := cs }
    if 16 ≤ cs.length then s1.pathOut a.val b.val n.val else s1
  | .pair _ => s

/-- Can what carries the packet deliver it now: the port has lanes and F's region is up, the lane of the pair link is in service, or the path
is up and its receiver takes packets (R368, R498)? -/
def State.viaUp (s : State) (v : Via) : Bool :=
  viaReal v &&
  match v with
  | .port x => (s.region siteF).up && s.portServes x.val
  | .pair j => s.linkUp && decide (bits s.pair.lanes j.val j.val = 1)
  | .lane a b n => !s.pathLost (a.val, b.val) && !(s.lane b.val n.val).discards

/-- The packet that carries a pair message with this Sequence is acknowledged; one with a stream that the partner refuses ends the resync
(R500, R516). -/
def State.pairAcked (s : State) (seq status : Nat) : State :=
  let o := s.pair.outbox.find? (fun o => decide (o.seq = seq))
  let p : Pair := { s.pair with outbox := s.pair.outbox.filter (fun o => decide (o.seq ≠ seq)), sent := [] }
  match o with
  | some ⟨_, .resync c, _⟩ =>
    if status = Status.accessDenied.code then
      { s with pair := { p with refused := addOnce p.refused c.stream, copying := p.copying.filter (fun x => decide (x ≠ c.stream)) } }
    else { s with pair := p }
  | _ => { s with pair := p }

/-- A pair message is sent again with its Sequence (R454, R500). -/
def State.pairResend (s : State) (seq : Nat) : State :=
  match s.pair.outbox.find? (fun o => decide (o.seq = seq)) with
  | some o =>
    ({ s with pair := { s.pair with
        sent := [o.msg], outbox := s.pair.outbox.map (fun x => if x.seq = seq then { x with probes := 0 } else x) } } : State).bump (okey 0x7030 4)
  | none => { s with pair := { s.pair with sent := [] } }

/-- A packet of the pair link (R500): both endpoint fields are 0 and it concerns the pair endpoints. A WRITE is acknowledged, and the rows
of Table 12-2's messages are its effect; a PROBE of one is answered NOT_SEEN (Table 11-5); WRITEACK and PROBERESP concern the messages of
this unit. No other packet passes on the link (log entry 40). -/
def State.arrivePair (s : State) (p : Packet) (mine : Nat → Bool) : State :=
  if endpointOf p.dest ≠ 0 ∨ endpointOf p.source ≠ 0 then s.bump (okey 0x7030 1)
  else if !mine p.opcode || decide (p.dest % 2 ^ 12 ≠ pairUnit) || decide (p.channel ≠ (if p.opcode = 2 then 0 else if p.opcode = 0x22 then 1 else 2)) ||
    !wellForm p || p.compressed then s
  else if p.opcode = 2 then { s with pair := { s.pair with sent := [.writeAck p.seq] } }
  else if p.opcode = 7 then { s with pair := { s.pair with sent := [.probeResp p.seq 0] } }
  else if p.opcode = 0x22 then s.pairAcked p.seq p.status
  else if p.opcode = 0x27 then
    if p.aux = 0 then s.pairResend p.seq
    else if p.aux = 1 then s.pairAcked p.seq p.status
    else { s with pair := { s.pair with sent := [], outbox := s.pair.outbox.map (fun x => if x.seq = p.seq then { x with probes := 0 } else x) } }
  else s

/-- What an arriving packet meets before its effect: it is lost while F's region is dark or the module is frozen, whose
sender asks by a probe after the release (R710), counted by its port when its CRC
fails, discarded when it names another endpoint, and judged by the opcodes and the form of its channel: a request is answered
TYPE_MISMATCH, a response or a control packet is discarded and counted (R431, R436, R457). One on the reserved channel 3 is discarded
and counted too (log entry 39). `good` is its effect. -/
def State.arrive (s : State) (p : Packet) (mine : Nat → Bool) (good : State → State) : State :=
  if s.frozen || !s.viaUp p.via then s
  else if !p.crcOk then s.badCrc p.via
  else if p.viaPair then s.arrivePair p mine
  else if endpointOf p.dest ≠ s.endpoint then s.bump (okey 0x7030 1)
  else if p.channel = 0 then
    if !knownRequest p.opcode || !wellForm p then s.reply p .typeMismatch (answerLine p.opcode [])
    else if mine p.opcode then good s else s
  else if !knownAnswer p.channel p.opcode || !wellForm p then s.bump (okey 0x7030 2)
  else if mine p.opcode then good s else s

/-! READ and WRITE (R438 to R440, R447, R448). -/

/-- The effect of a READ, which meets `errs` in its lines as it reads them (R266, R267). -/
def State.doRead (s : State) (p : Packet) (guest : Bool) (errs : List MemError) : State :=
  match s.admitPacket p (packetBytes p) false (sender guest) none with
  | (t, .error st) => t.reply p st
  | (t, .ok x) =>
    if t.placeLost p x then t
    else
      let t1 := t.memErrors errs
      match t1.readPlace p (packetBytes p) x with
      | none => t1.reply p .uncorrected
      | some b =>
        let u := match x with | .mem die _ tr => t1.wake tr die | .scratch _ _ => t1
        u.reply p .ok b

/-- READ: the target reads the lines and answers READRESP; `errs` are the errors that its lines show (R267, R438). -/
def execRead (p : Packet) (errs : List MemError) (s : State) : Out :=
  .next (s.arrive p (· == 1) (fun t => t.doRead p false errs))

/-- WRITE (R439, R440, R447). -/
def execWrite (p : Packet) (s : State) : Out := .next (s.arrive p (· == 2) (fun t => t.doWrite p false))

/-- FLAG (R445, R447). -/
def execFlag (p : Packet) (s : State) : Out := .next (s.arrive p (· == 3) (fun t => t.doFlag p false))

/-- FLAG_ENTRY_TIMEOUT: an entry whose flag has been held for 2 s is dropped (R450). -/
def execFlagEntryTimeout (dest : Fin 4096) (source : Nat) (phase : Fin 4) (s : State) : Out :=
  match s.tracker dest.val source phase.val with
  | some t => .next (when t.flag.isSome ((s.dropTracker dest.val source phase.val).bump (okey 0x7030 5)) s)
  | none => .next s

/-- REPLY_CACHE_GUARD_END: 64 ms after its return to service a unit answers Retry requests again (R464). -/
def execReplyCacheGuardEnd (site : Fin 12) (s : State) : Out :=
  let serves := match dieAt site.val with
    | some d => (s.dieOf d).up && !(s.dieOf d).isolated
    | none => true
  .next (when serves { s with guards := s.guards.filter (fun x => decide (x ≠ site.val)) } s)

/-! ATOMIC (R458 to R460, Table 11-6). -/

/-- An ATOMIC packet of operation op; a reserved operation code is answered TYPE_MISMATCH (R436, Table 11-6). -/
def State.atomicPacket (s : State) (p : Packet) (op : Nat) : State :=
  s.arrive p (· == 4) (fun t => if 0x0D < p.aux then t.reply p .typeMismatch (answerLine 4 []) else if p.aux = op then t.doAtomic p else t)

/-- ADD32: word + A modulo 2^32; the old value is returned (Table 11-6). -/
def execAdd32 (p : Packet) (s : State) : Out := .next (s.atomicPacket p 0x00)
/-- ADD64: word + A modulo 2^64; the old value is returned (Table 11-6). -/
def execAdd64 (p : Packet) (s : State) : Out := .next (s.atomicPacket p 0x01)
/-- SWAP32: word becomes A; the old value is returned (Table 11-6). -/
def execSwap32 (p : Packet) (s : State) : Out := .next (s.atomicPacket p 0x02)
/-- SWAP64: word becomes A; the old value is returned (Table 11-6). -/
def execSwap64 (p : Packet) (s : State) : Out := .next (s.atomicPacket p 0x03)
/-- CAS32: word becomes B where it equals A; the old value is returned (Table 11-6). -/
def execCas32 (p : Packet) (s : State) : Out := .next (s.atomicPacket p 0x04)
/-- CAS64: word becomes B where it equals A; the old value is returned (Table 11-6). -/
def execCas64 (p : Packet) (s : State) : Out := .next (s.atomicPacket p 0x05)
/-- UMAX32: unsigned maximum; the old value is returned (Table 11-6). -/
def execUmax32 (p : Packet) (s : State) : Out := .next (s.atomicPacket p 0x06)
/-- UMAX64: unsigned maximum; the old value is returned (Table 11-6). -/
def execUmax64 (p : Packet) (s : State) : Out := .next (s.atomicPacket p 0x07)
/-- UMIN32: unsigned minimum; the old value is returned (Table 11-6). -/
def execUmin32 (p : Packet) (s : State) : Out := .next (s.atomicPacket p 0x08)
/-- UMIN64: unsigned minimum; the old value is returned (Table 11-6). -/
def execUmin64 (p : Packet) (s : State) : Out := .next (s.atomicPacket p 0x09)
/-- OR32: bitwise or; the old value is returned (Table 11-6). -/
def execOr32 (p : Packet) (s : State) : Out := .next (s.atomicPacket p 0x0A)
/-- OR64: bitwise or; the old value is returned (Table 11-6). -/
def execOr64 (p : Packet) (s : State) : Out := .next (s.atomicPacket p 0x0B)
/-- AND32: bitwise and; the old value is returned (Table 11-6). -/
def execAnd32 (p : Packet) (s : State) : Out := .next (s.atomicPacket p 0x0C)
/-- AND64: bitwise and; the old value is returned (Table 11-6). -/
def execAnd64 (p : Packet) (s : State) : Out := .next (s.atomicPacket p 0x0D)

/-! INVALIDATE and the line cache (R476 to R480). -/

/-- The mask of an endpoint in TriggerSenders: every listed entry of it (Table 11-13). -/
def State.senderMask (s : State) (endpoint : Nat) : Nat :=
  (List.range 32).foldl (fun m e =>
    let w := s.reg (okey 0x7210 (2 * e + 1))
    if bits w 15 15 = 1 ∧ bits w 11 0 = endpoint then m ||| s.reg (okey 0x7210 (2 * e + 2)) else m) 0

/-- INVALIDATE: cached lines of the sender's range are dropped (R478, R479). -/
def execInvalidate (p : Packet) (s : State) : Out :=
  .next (s.arrive p (· == 6) (fun t =>
    let ep := endpointOf p.source
    let a := leNat (p.payload.take 8)
    let n := leNat ((p.payload.drop 8).take 8)
    if bits (t.senderMask ep) 63 63 ≠ 1 then t.reply p .accessDenied
    else if n % 64 ≠ 0 ∨ !(((p.payload.drop 16).take 48).all (fun b => b == 0)) then t.reply p .typeMismatch
    else (t.uncache ep a n).reply p .ok))

/-- A write of LineCacheFlush (Table 11-13). -/
def State.writeLineCacheFlush (s : State) (v : Nat) : State := if v = 1 then s.flushCache.answer .ok else s.answer .typeMismatch

/-- LINE_CACHE_FLUSH (R478). -/
def execLineCacheFlush (v : Nat) (s : State) : Out := .next (s.writeLineCacheFlush v)

/-! PROBE (R453, Table 11-5). -/

/-- PROBE: the answer follows from the tracker bit of a counted store, a held flag, or the reply caches. -/
def execProbe (p : Packet) (s : State) : Out :=
  .next (s.arrive p (· == 7) (fun t =>
    let say (aux : Nat) (st : Nat) (line : List Byte) : State :=
      t.respond { opcode := 0x27, source := p.dest, dest := p.source, seq := p.seq, status := st, aux := aux, space := p.space,
                  address := p.address, line := line }
    if p.counted then
      say (if t.trackers.any (fun x => decide (x.source = p.source) && decide (x.phase = p.phase) &&
        decide (bits x.bits (p.storeIndex % 1024) (p.storeIndex % 1024) = 1)) then 1 else 0) 0 []
    else if t.trackers.any (fun x => match x.flag with
        | some f => decide (f.packet.source = p.source) && decide (f.packet.seq = p.seq) | none => false) then say 2 0 []
    else if t.migs.any (fun m => m.writes.any (fun h => decide (h.packet.opcode ≠ 2) && decide (h.packet.source = p.source) &&
        decide (h.packet.seq = p.seq))) || t.hub.fences.any (fun f => match f.2.2 with
        | .trigger q => decide (q.source = p.source) && decide (q.seq = p.seq) | _ => false) then say 2 0 []
    else
      match t.replies.find? (fun r => decide (r.source = p.source) && decide (r.seq = p.seq)) with
      | some r => say 1 r.status r.line
      | none => say 0 0 []))

/-! Responses to the module's own requests (R449, R451 to R455, R465, R466). -/

/-- The request that a response concerns. -/
def State.requestOf (s : State) (p : Packet) : Option Request := s.request (p.dest % 2 ^ 12) p.seq

/-- Is an answer lost on its way from the port that took it to the source at its site: the path from H is dark (Table 9-8)? -/
def State.answerLost (s : State) (p : Packet) : Bool :=
  match p.via with
  | .port _ => s.hubLost (siteOfId p.dest)
  | _ => false

/-- The outcome of a request arrives: the lines of a READ of a cached range fill the line cache (R476), and a PUTF whose data but for its
counted stores is acknowledged sends its flag (R445). A source resends into no path that it holds a dark notice for (R385). An active unit
that learns of a higher claim steps down at the next frame boundary (R497). -/
def State.takeResponse (s : State) (p : Packet) : State :=
  match s.requestOf p with
  | none => s
  | some q =>
    if q.answer.isSome ∨ responseOp q.opcode ≠ p.opcode ∨ s.answerLost p then s
    else if p.status = Status.busy.code then s.updRequest q.source q.seq (fun r => { r with busy := true, probes := 0 })
    else if p.status = Status.epochMismatch.code ∧ q.opcode ≠ 4 then
      if s.reqHeld q then s.updRequest q.source q.seq (fun r => { r with epoch := s.activeEpoch, probes := 0 })
      else s.resend q (fun r => { r with epoch := s.activeEpoch, probes := 0 })
    else
      let ping := decide (q.opcode = 5) && decide (q.aux = 0)
      let claim := leNat ((p.payload.drop 4).take 4)
      let s0 := s.updRequest q.source q.seq (fun r => { r with answer := some (p.status, p.payload), probes := 0 })
      let s1 := s0.traceRequest q 2 p.status
      if q.opcode = 5 then
        let s2 := s1.dropRequests q.source [q.seq]
        if ping && s.pair.pinging then { s2 with pair := { s2.pair with pong := some (claim, leNat ((p.payload.drop 8).take 8)) } }
        else if ping && decide (s.pair.role = .active) && decide (s.claim < claim) then { s2 with pair := { s2.pair with steps := true } }
        else s2
      else if q.opcode = 1 then
        if p.status = 0 ∧ q.fills ∧ endpointOf q.dest ≠ s.endpoint then s1.fillCache (endpointOf q.dest) q.address (p.payload.take q.size) else s1
      else if q.opcode = 2 then s1.flagsDue q.source
      else s1

/-- A response row's meaning: the packet with its opcode is taken. -/
def State.response (s : State) (p : Packet) (op : Nat) : State := s.arrive p (· == op) (fun t => t.takeResponse p)

/-- READRESP: data of a READ (R209). -/
def execReadresp (p : Packet) (s : State) : Out := .next (s.response p 0x21)
/-- WRITEACK: outcome of a WRITE (R439). -/
def execWriteack (p : Packet) (s : State) : Out := .next (s.response p 0x22)
/-- FLAGACK: outcome of a FLAG (R446). -/
def execFlagack (p : Packet) (s : State) : Out := .next (s.response p 0x23)
/-- ATOMICRESP: old value and outcome (R459). -/
def execAtomicresp (p : Packet) (s : State) : Out := .next (s.response p 0x24)
/-- TRIGGERRESP: a procedure's result (R468, R526). -/
def execTriggerresp (p : Packet) (s : State) : Out := .next (s.response p 0x25)
/-- INVALACK: outcome of an INVALIDATE (R480). -/
def execInvalack (p : Packet) (s : State) : Out := .next (s.response p 0x26)

/-- PROBERESP: NOT_SEEN resends the request, with Retry for an atomic, flag or trigger, and a member of a multicast as a unicast (R488),
unless a dark notice holds its path (R385); APPLIED is taken as the response; IN_PROGRESS restarts the timer (R454). -/
def execProberesp (p : Packet) (s : State) : Out :=
  .next (s.arrive p (· == 0x27) (fun t =>
    match t.requestOf p with
    | none => t
    | some q =>
      if q.answer.isSome ∨ t.answerLost p then t
      else if p.aux = 0 then
        let f (r : Request) : Request := { r with
          probes := 0, multicast := false, retry := r.retry || decide (r.opcode = 3) || decide (r.opcode = 4) || decide (r.opcode = 5) }
        if t.reqHeld q then t.updRequest q.source q.seq f else t.resend q f
      else if p.aux = 1 then t.takeResponse { p with opcode := responseOp q.opcode }
      else t.updRequest q.source q.seq (fun r => { r with probes := 0 })))

/-- The fixed timeout of 20 µs of a pair message: a PROBE goes out while the link is up, and after ProbeLimit probes without an answer the
message is given up (R452, R455, R500). -/
def State.pairTimeout (s : State) (seq : Nat) : State :=
  match s.pair.outbox.find? (fun o => decide (o.seq = seq)) with
  | none => s
  | some o =>
    if s.stopped || !s.linkUp then s
    else if s.reg (okey 0x7020 3) ≤ o.probes then
      { s with pair := { s.pair with outbox := s.pair.outbox.filter (fun x => decide (x.seq ≠ seq)), sent := [] } }
    else
      ({ s with pair := { s.pair with
          sent := [.probe seq], outbox := s.pair.outbox.map (fun x => if x.seq = seq then { x with probes := x.probes + 1 } else x) } } : State).bump
        (okey 0x7030 3)

/-- RESPONSE_TIMEOUT: the source probes, or abandons the request with NOT_READY after ProbeLimit probes without an answer;
the timer stands while a dark notice holds the path (R451, R452, R455). The pair endpoint times the messages of the pair link (R500). -/
def execResponseTimeout (source seq : Nat) (s : State) : Out :=
  if source = pairUnit then .next (s.pairTimeout seq)
  else
  match s.request source seq with
  | none => .next s
  | some q =>
    if q.answer.isSome || q.busy || s.stopped || s.reqHeld q then .next s
    else if s.reg (okey 0x7020 3) ≤ q.probes then
      .next (if q.opcode = 5 then s.dropRequests source [seq]
        else s.updRequest source seq (fun r => { r with answer := some (Status.notReady.code, []) }))
    else
      let t := (s.updRequest source seq (fun r => { r with probes := r.probes + 1 })).bump (okey 0x7030 3)
      let w := Request.packet { q with opcode := 7, payload := [], epoch := s.activeEpoch, retry := false, multicast := false } s.endpoint
      .next ((t.toPort w).traceOpen 4 (source / 256 % 16) 1 (some (source % 256)) (some (w.word 0)) (some q.claim))

/-- BUSY_RESEND: 2 µs after a BUSY the source resends the packet with Retry as it was (R449, R465); into no path that it holds a dark
notice for (R385). -/
def execBusyResend (source seq : Nat) (s : State) : Out :=
  match s.request source seq with
  | some q => .next (when (q.busy && !s.stopped && !s.reqHeld q) (s.resend q (fun r => { r with busy := false })) s)
  | none => .next s

/-! Triggers (section 11.7). -/

/-- Does a packet come from the module's own hub (Table 11-1)? -/
def State.ownHub (s : State) (p : Packet) : Bool := decide (p.source = idOf s.endpoint hubUnit)

/-- A TRIGGER of procedure p is accepted from the own hub, PING from any endpoint, others by TriggerSenders (R467). -/
def State.triggerOk (s : State) (p : Packet) : Bool :=
  s.ownHub p || decide (p.aux = 0) || decide (bits (s.senderMask (endpointOf p.source)) p.aux p.aux = 1 ∧ p.aux < 63)

/-- A TRIGGER that the rows with procedure `mine` carry out through the hub's reply cache (R467, R468). -/
def State.trigger (s : State) (p : Packet) (mine : Nat → Bool) (run : State → State) : State :=
  s.arrive p (· == 5) (fun t =>
    if !mine p.aux then t
    else t.again p (
      if !t.triggerOk p then (t.bump (okey 0x7030 6)).reply p .accessDenied (answerLine 5 [])
      else t.once p siteH 0 run))

/-- PING: identity and time of the module (Table 11-8). -/
def execPing (p : Packet) (s : State) : Out :=
  .next (s.trigger p (· == 0) (fun t =>
    t.settle p siteH .ok (leBytes 4 t.endpoint ++ leBytes 4 t.claim ++ leBytes 8 t.tb.frame ++ leBytes 8 t.tb.count ++ List.replicate 40 (0 : Byte))))

/-- The floor of a fence rises: writes that are checked from now on meet it (R473, R474). -/
def State.raiseFloor (s : State) (f floor : Nat) : State :=
  { s with hub := { s.hub with raises := s.hub.raises + 1 } }.keep (okey 0x7300 (3 * f + 3)) floor

/-- Raise a floor; a floor at or below the one in force changes nothing (R473). -/
def State.raiseFence (s : State) (f floor : Nat) : State :=
  if s.reg (okey 0x7300 (3 * f + 3)) < floor then s.raiseFloor f floor else s

/-- Does a write to polder space that was checked before raise n still wait to land: a transfer of this module in flight, or a packet that
a migration or a tracker holds (R474)? -/
def State.fenceWaits (s : State) (n : Nat) : Bool :=
  let ofCore (x : Orphan) : Bool := decide ((s.xDst x).d.space = 3) && decide (x.q.checked < n)
  let ofPacket (h : HeldPacket) : Bool := decide (h.packet.space = 3) && decide (h.checked < n)
  s.inFlight.any ofCore || s.migs.any (fun m => m.writes.any ofPacket) ||
    s.trackers.any (fun t => match t.flag with | some h => ofPacket h | none => false)

/-- The raise whose end an asker of fence f awaits, if it is not complete: the last one, where this command raised the floor, or an earlier
one of the fence that still waits (R474). -/
def State.fenceRaise (s : State) (f : Nat) (raised : Bool) : Option Nat :=
  if raised then (if s.fenceWaits s.hub.raises then some s.hub.raises else none)
  else (s.hub.fences.find? (fun x => decide (x.1 = f))).map (·.2.1)

/-- The asker of fence f waits for raise n. -/
def State.awaitFence (s : State) (f n : Nat) (a : FenceAsker) : State :=
  { s with hub := { s.hub with fences := s.hub.fences ++ [(f, n, a)] } }

/-- The response to a RAISE_FENCE: OK with the floor in force (R473). -/
def State.fenceReply (s : State) (p : Packet) : State :=
  let f := leNat (p.payload.take 1)
  s.settle p siteH .ok (leBytes 4 0 ++ leBytes 4 (s.reg (okey 0x7300 (3 * f + 3))) ++ List.replicate 56 (0 : Byte))

/-- RAISE_FENCE: the floor rises at once, and the response follows when every write checked under the old one has landed (R473, R474,
Table 11-8). -/
def execRaiseFence (p : Packet) (s : State) : Out :=
  .next (s.trigger p (· == 1) (fun t =>
    let f := leNat (p.payload.take 1)
    if 15 < f then t.settle p siteH .typeMismatch []
    else
      let floor := leNat ((p.payload.drop 4).take 4)
      let u := t.raiseFence f floor
      match u.fenceRaise f (decide (t.reg (okey 0x7300 (3 * f + 3)) < floor)) with
      | some n => u.awaitFence f n (.trigger p)
      | none => u.fenceReply p))

/-- FLUSH_LINE_CACHE (R478, Table 11-8). -/
def execFlushLineCache (p : Packet) (s : State) : Out :=
  .next (s.trigger p (· == 2) (fun t => t.flushCache.settle p siteH .ok (List.replicate 64 (0 : Byte))))

/-- HOST_PROCEDURE: reserved procedures, and host procedures onto the trigger ring of the host port that the entry selects
(R469, R571, Table 11-8, Table 13-15). -/
def execHostProcedure (p : Packet) (s : State) : Out :=
  .next (s.trigger p (fun a => decide (3 ≤ a)) (fun t =>
    let sel := t.reg (okey 0x7200 (p.aux + 1))
    if p.aux < 0x10 ∨ 0x3E < p.aux ∨ sel = 0 ∨ 2 < sel then t.settle p siteH .typeMismatch []
    else
      let port := t.port (sel - 1)
      let r := bits port.control 9 4
      if port.st ≠ .up ∨ bits port.control 10 10 = 0 ∨ !(port.ring r).enable then t.settle p siteH .notReady []
      else
        let c := leBytes 8 (p.source % 2 ^ 24 * 2 ^ 40 + p.aux * 2 ^ 32 + p.seq % 2 ^ 32) ++ p.payload.take 64
        match port.postRing r 0x04 c t.tb.count with
        | (q, true) => ((t.setPort (sel - 1) q).traceOpen 7 siteH 2 (some 0x15) none none).settle p siteH .ok []
        | (_, false) => t.reply p .busy (answerLine 5 [])))

/-! Claim fences in the dictionary (R473, R474). -/

/-- A write of ClaimFences: base and length are multiples of 64 KiB, and a floor only rises; while writes checked under the old one still
have to land, the write that raised it is not complete, and reads BUSY until it is (R474; log entry 66). -/
def State.writeFence (s : State) (sub v : Nat) : State :=
  if sub % 3 ≠ 0 then
    if v % 2 ^ 16 ≠ 0 then s.answer .badAlign else (s.keep (okey 0x7300 sub) v).answer .ok
  else if v ≤ s.reg (okey 0x7300 sub) then s.answer .stale
  else
    let f := sub / 3 - 1
    let u := s.raiseFloor f v
    match u.fenceRaise f true with
    | some n => (u.awaitFence f n .writer).answer .busy
    | none => u.answer .ok

/-- CLAIM_FENCE_WRITE (R473). -/
def execClaimFenceWrite (sub : Fin 48) (v : Nat) (s : State) : Out := .next (s.writeFence (sub.val + 1) v)

/-! Routing (R482 to R487). -/

/-- Requests to other endpoints without a response that were sent under an epoch. -/
def State.outstanding (s : State) (e : Nat) : Nat :=
  (s.requests.filter (fun r => r.answer.isNone && decide (r.epoch = e) && decide (endpointOf r.dest ≠ s.endpoint))).length

/-- RouteCommand 0x01: the hub reads the image from the tier and loads the inactive version; RouteStatus reads BUSY until
ROUTE_LOAD_END (R486, R734; log entry 26). -/
def State.routeLoadStart (s : State) : State :=
  let l := match s.tierFetch (s.reg (okey 0x7100 1)) 32768 with
    | .ok b => (0, b)
    | .error st => (st.code, [])
  ({ s.tierTouch (s.reg (okey 0x7100 1)) 32768 with routeLoad := some l }.setReg (okey 0x7100 3) Status.busy.code).answer .ok

/-- The old routing version is held, or free (R487). -/
def State.setOld (s : State) (b : Bool) : State := { s with hub := { s.hub with oldRoute := b } }

/-- RouteCommand 0x02: from now on requests carry the new Epoch, and the old version is held (R486, R487). -/
def State.routeSwitchNow (s : State) : State :=
  ((((s.traceOpen 4 siteH 2 (some 0x12) none (some s.claim)).setOld true).setReg (okey 0x7100 4) (1 - s.activeEpoch)).setReg (okey 0x7100 3) 0).answer .ok

/-- A write of RouteCommand (R486, R487). -/
def State.writeRouteCommand (s : State) (v : Nat) : State :=
  if v ≠ 1 ∧ v ≠ 2 then s.answer .typeMismatch
  else if s.hub.oldRoute ∨ s.routeLoad.isSome then s.answer .busy
  else if v = 1 then s.routeLoadStart else s.routeSwitchNow

/-- ROUTE_LOAD: RouteCommand 0x01 (R486). -/
def execRouteLoad (s : State) : Out := .next (s.writeRouteCommand 1)
/-- ROUTE_SWITCH: RouteCommand 0x02 (R486). -/
def execRouteSwitch (s : State) : Out := .next (s.writeRouteCommand 2)

/-- ROUTE_LOAD_END: the inactive version holds the image, and RouteStatus shows the outcome (R486, Table 11-9). -/
def execRouteLoadEnd (s : State) : Out :=
  match s.routeLoad with
  | none => .next s
  | some (st, b) =>
    let base := (1 - s.activeEpoch) * 2 ^ 14
    let m := wrBytes [] 0 b
    let rs := if st = 0 then
        (List.range (2 ^ 14)).foldl (fun t i => let w := rdLe m (2 * i) 2; Tbl.put 0 t (base + i) (bits w 15 15 * 2 ^ 15 + bits w 7 0)) s.routes
      else s.routes
    .next ({ s with routes := rs, routeLoad := none }.setReg (okey 0x7100 3) st)

/-- EPOCH_FREE: the old version is free once no request sent under it lacks its response, or 2 ms after the switch, which
is counted, with the number of requests left on record (R487). -/
def execEpochFree (late : Bool) (s : State) : Out :=
  let n := s.outstanding (1 - s.activeEpoch)
  if !s.hub.oldRoute then .next s
  else if n = 0 then .next (s.setOld false)
  else if late then .next ({ s with hub := { s.hub with oldRoute := false, stuck := s.hub.stuck ++ [n] } }.bump (okey 0x7100 7))
  else .next s

/-- Does the footside firmware train the lanes of F's ports: its region is up, and it runs and is not being replaced (R481, R663, Table
16-4)? A port without a lane then shows training (Table 11-12; log entry 63). -/
def State.footTrains (s : State) : Bool := (s.region siteF).up && s.hasImage 7 0 && !s.pausedBy 7 0

/-- FABRIC_LANE_TRAINED: a lane of a fabric port enters service (R481); the footside firmware trains it (Table 16-4,
R663). -/
def execFabricLaneTrained (port : Fin 4) (lane : Fin 8) (s : State) : Out :=
  let x := s.xport port.val
  let y : XPort := { x with
    lanes := setBit x.lanes lane.val true, words := Tbl.put [] x.words lane.val [], since := Tbl.put 0 x.since lane.val 15 }
  .next (when s.footTrains { s with xports := Tbl.put {} s.xports port.val y } s)

/-! The Dyke (section 9.9). -/

/-- Does a reply answer a core's request to the guest's windows: a transfer in flight to them from the queue that the reply names, a GET
for READRESP and another one for WRITEACK (R378)? -/
def State.guestReplyOk (s : State) (g : Nat) (p : Packet) : Bool :=
  s.inFlight.any (fun x => let o := s.xRemote x
    decide (o.d.space = 7) && decide (bits o.d.target 0 0 = g) && decide (s.xUnit x = p.dest % 2 ^ 12) &&
    (xIsGet x == decide (p.opcode = 0x21)))

/-- What the Dyke does with a packet from a guest: reads, writes and flagged writes to polder space, and replies that core requests await,
are admitted under the guest's own SourceId; any other packet is dropped and answered ACCESS_DENIED (R377, R378). -/
def State.dykeAdmit (s : State) (g : Nat) (p : Packet) : State :=
  let q : Packet := { p with source := s.guestId g, claim := s.stamp }
  if p.opcode = 0x21 ∨ p.opcode = 0x22 then
    if s.guestReplyOk g p then s.bump (okey 0x6303 1) else (s.bump (okey 0x6303 2)).reply q .accessDenied
  else if (p.opcode = 1 ∨ p.opcode = 2 ∨ p.opcode = 3) ∧ p.space = 3 then
    let s2 := s.bump (okey 0x6303 1)
    if !wellForm p then s2.reply q .typeMismatch
    else if p.opcode = 1 then s2.doRead q true []
    else if p.opcode = 2 then s2.doWrite q true
    else s2.doFlag q true
  else (s.bump (okey 0x6303 2)).reply q .accessDenied

/-- The answer that the Dyke's packet has had at once goes out to the guest, and counts toward the limit of that direction (R381). -/
def State.dykeTake (s : State) (g : Nat) (p : Packet) : State :=
  let t := s.dykeAdmit g p
  match t.lastResponse with
  | some r => if r.dest = s.guestId g ∧ r.seq = p.seq then t.setGuest g ((t.guest g).owe false (wireBytes r.line.length)) else t
  | none => t

/-- Bytes of a packet from a guest that count toward the limit: the data of an awaited READRESP counted as its GET started (R381). -/
def State.guestBytes (s : State) (g : Nat) (p : Packet) : Nat :=
  if p.opcode = 0x21 ∧ s.guestReplyOk g p then 0 else wireBytes p.payload.length

/-- Does a packet from a guest wait for the limit, a READ for that of its data too (R381)? -/
def State.guestWaits (s : State) (g : Nat) (p : Packet) : Bool :=
  decide (s.guestShare g ≤ (s.guest g).inDebt) || (decide (p.opcode = 1) && decide (s.guestShare g ≤ (s.guest g).outDebt))

/-- DYKE_GUEST_PACKET: the packet is lost while a region of its path is dark or its receiver discards, counted when its CRC fails (R364,
R368, R391, R457), and otherwise waits its turn within the guest's rate limit (R381) before the Dyke takes it. -/
def execDykeGuestPacket (g : Fin 2) (p : Packet) (s : State) : Out :=
  let a := siteG g.val
  let x := s.guest g.val
  let n := s.guestBytes g.val p
  let carried := match p.via with
    | .lane v w k => decide (v.val = a) && decide (w.val = siteH) && !(s.lane siteH k.val).discards
    | _ => false
  if !x.fitted || !carried || s.pathLost (a, siteH) || s.frozen then .next s
  else if !p.crcOk then .next (s.badCrc p.via)
  else if s.guestWaits g.val p ∨ x.waiting ≠ [] then
    .next ((s.setGuest g.val { x with waiting := x.waiting ++ [p] }).addReg (okey 0x6303 4) n)
  else .next ((s.setGuest g.val (x.owe true n)).dykeTake g.val p)

/-- Packets of a guest that wait go on while its limit has room: `fuel` bounds their number (R381). Each is translated on the ForeignHomeDie in
force as it goes on, not on that of its arrival at the Dyke (R308 does not say which counts; DESIGN CHOICE, log entry 36). -/
def State.dykeGoOn (s : State) (g : Nat) : Nat → State
  | 0 => s
  | k + 1 =>
    let x := s.guest g
    match x.waiting with
    | [] => s
    | p :: r =>
      if s.guestWaits g p ∨ s.frozen then s
      else ((s.setGuest g ({ x with waiting := r }.owe true (s.guestBytes g p))).dykeTake g p).dykeGoOn g k

/-- A lease period at the Dyke: each direction of a guest works off what its limit allows, and packets that waited go on (R381; log entry
67). -/
def State.dykePeriod (s : State) : State :=
  [0, 1].foldl (fun t g =>
    let x := t.guest g
    let n := t.guestShare g
    (t.setGuest g { x with inDebt := x.inDebt - n, outDebt := x.outDebt - n }).dykeGoOn g (x.waiting.length)) s

/-- A write to a guest window: a base, or a limit word whose RSV bits stay 0 (R380, R24). -/
def State.writeWindow (s : State) (g sub v : Nat) : State :=
  let k := okey (0x6300 + g) sub
  if sub % 2 = 1 then
    if v % 64 ≠ 0 then s.answer .badAlign
    else if 2 ^ 48 ≤ v ∨ 2 ^ 48 < v + bits (s.reg (k + 1)) 47 0 then s.answer .lengthExceeds
    else (s.keep k v).answer .ok
  else
    let n := bits v 47 0
    if n % 64 ≠ 0 then s.answer .badAlign
    else if 2 ^ 48 < s.reg (k - 1) + n then s.answer .lengthExceeds
    else (s.keep k (bits v 63 62 * 2 ^ 62 + n)).answer .ok

/-- DYKE_WINDOW_WRITE (R380). -/
def execDykeWindowWrite (g : Fin 2) (sub : Fin 32) (v : Nat) (s : State) : Out := .next (s.writeWindow g.val (sub.val + 1) v)

end Sys2Proof.Machine
end

