-- ==== Sys2Proof/Machine/Dictionary.lean ====
section
/-! DEFINITION. The dictionary server (chapter 14): what every object reads, what a write does, the dictionary access protocol, the
BAR4 mailbox and the register words that no command of their own writes. -/

namespace Sys2Proof.Machine

open Sys2Proof

/-! Values (the object tables of every chapter). -/

/-- A field network setting in force (R589). -/
def State.netValue (s : State) (k : Nat) : Nat := Tbl.get (dictDflt k) s.dap.net k

/-- LinkState of a field network port (Table 14-11). -/
def State.netLink (s : State) (p : Nat) : Nat :=
  if !Tbl.get false s.dap.link p then 0
  else
    match s.netValue (okey 0x1001 (p + 1)) with
    | 255 => 1
    | 0 => 3
    | _ => 2

/-- StreamContext of a stream (Table 13-19). -/
def Stream.word (x : Stream) : Nat :=
  x.st.code * 2 ^ 62 + x.owner % 2 * 2 ^ 61 + x.home % 8 * 2 ^ 58 + (if x.paired then 2 ^ 57 else 0) + x.sync % 4 * 2 ^ 55 +
  (if x.failover then 2 ^ 54 else 0) + (if x.reportSteps then 2 ^ 53 else 0) + x.stateSize % 32 * 2 ^ 48 + x.outSize / 256 % 64 * 2 ^ 42 +
  x.ringQ0 % 64 * 2 ^ 36 + x.ringQ1 % 64 * 2 ^ 30

/-- CoreState of a physical core (Table 3-7). -/
def PCore.word (c : PCore) : Nat :=
  (match c.number with | some n => 2 ^ 31 + n % 64 * 2 ^ 25 | none => 0) + c.width % 4 * 2 ^ 23 + c.mode.code * 2 ^ 20 +
  min 2 c.spareBanks.length * 2 ^ 18 + min 127 c.groupsUsed.length * 2 ^ 11

/-- PolderState of a polder (Table 7-10). -/
def State.polderWord (s : State) (u : Nat) : Nat :=
  let x := s.store u
  (if x.out then 3 else if s.powerState = 3 then 2 else if x.selfRefresh then 1 else 0) * 2 ^ 28 + (if x.hot then 2 ^ 27 else 0) +
  min 255 x.temp * 2 ^ 16 + min 65535 x.retired.length

/-- TierChannelState of a channel (Table 8-6). -/
def State.chanWord (s : State) (c : Nat) : Nat :=
  let x := s.chan c
  let y := s.store (16 + c)
  x.st.code * 2 ^ 28 + x.speed % 4 * 2 ^ 26 + x.width % 2 * 2 ^ 25 + (if y.hot then 2 ^ 24 else 0) + (if x.throttled then 2 ^ 23 else 0) +
  min 255 y.temp * 2 ^ 15 + min 256 x.capacity * 2 ^ 6

/-- FabricPortState of a port (Table 11-12). -/
def State.xportWord (s : State) (p : Nat) : Nat :=
  let l := (s.xport p).lanes % 256
  let r := s.region siteF
  let st :=
    if r.st = .parked then 0
    else if !r.up then 4
    else if l = 0 then (if s.footTrains then 1 else 0)
    else if l = 255 then 2 else 3
  st * 2 ^ 12 + l * 2 ^ 4

/-- RegionHeaterPower of a site, 1.8 µW per code (Tables 10-2 and 10-7). -/
def State.heaterPower (s : State) (x : Nat) : Nat := min 65535 (divRne (((siteRings x).map (fun k => (s.mring k).heater)).sum * 18) (10 ^ 6))

/-- A signed value as a field of n bits, saturating (Table 2-4). -/
def satField (n : Nat) (x : Int) : Nat :=
  let m : Int := 2 ^ (n - 1) - 1
  ((max (-m) (min m x)) % 2 ^ n).toNat

/-- MediaReferenceState: the timebase as it stands with the sticky bits; PhaseError rounds to the nearest 10 ns (R65, R141,
Table 2-4). -/
def State.refState (s : State) : Nat :=
  let tb := s.tb
  let active := if tb.st = .acquiring then 0 else tb.active
  active * 2 ^ 28 + tb.st.code * 2 ^ 26 + (if tb.absolute then 2 ^ 25 else 0) + bits (s.reg keyRefState) 23 20 * 2 ^ 20
    + satField 16 (divRneInt tb.phase tenNs.toNat)

/-- The value of a subindex other than a record's 0x00. Objects that report a unit's state read it as it stands, which is within one
housekeeping round of any change (R53, R136, R307, R337, R492); the others read what is stored. -/
def State.value (s : State) (idx sub : Nat) : Nat :=
  let k := okey idx sub
  match idx with
  | 0x0101 => if sub = 4 ∨ sub = 5 then s.fuse k else s.reg k
  | 0x1004 => s.fuse k
  | 0x1008 => s.netLink (sub - 1)
  | 0x1010 => s.dap.sessions.length
  | 0x1100 => if sub % 2 = 1 then s.keyModulus (sub / 2) else s.keyLevel (sub / 2 - 1)
  | 0x2001 => s.tb.count
  | 0x2003 => s.tb.frame
  | 0x2011 => s.refState
  | 0x2004 => s.tb.frameStart
  | 0x3002 => (s.port (sub - 1)).st.code
  | 0x3003 => (s.streams.filter (fun e => decide (e.2.st ≠ .closed))).length
  | 0x3030 =>
    let x := s.stream (s.reg (okey 0x3030 1))
    match sub with
    | 2 => x.word
    | 3 => x.f0
    | 4 => x.inSeq % 2 ^ 32
    | _ => s.reg k
  | 0x4002 => (s.dieOf (sub - 1)).point
  | 0x5001 => s.polderWord (sub - 1)
  | 0x5101 => s.chanWord (sub - 1)
  | 0x6210 => if sub = 3 then Tbl.get 0 s.trimWords (ringKey (s.reg (okey 0x6210 1)) (s.reg (okey 0x6210 2))) else s.reg k
  | 0x6220 => s.heaterPower (sub - 1)
  | 0x6221 => ((List.range 96).filter (fun n => (s.lane (sub - 1) n).calDue)).length
  | 0x7010 => s.xportWord (sub - 1)
  | 0x7100 => if sub = 5 ∨ sub = 6 then s.outstanding (sub - 5) else s.reg k
  | 0x7200 => if sub ≤ 3 then 3 else s.reg k
  | 0x9120 => match sub with | 4 => 95 | 5 => 80 | 1 => s.reg k | _ => 112
  | 0xA010 => s.fuse k
  | 0xA011 => s.fuse k
  | 0xA012 => s.fuse k
  | 0xA020 => s.fuse k
  | 0xA030 => s.rollback sub
  | 0xA031 => 256 - Tbl.get 0 s.sec.blown sub
  | 0xA050 => imgVersion (s.slotImage sub (s.activeSlot sub))
  | 0xA051 => imgVersion (s.slotImage sub (1 - s.activeSlot sub))
  | 0xA0F0 => s.sealState
  | 0xB002 => if sub = 8 then s.overdueUnits else s.reg k
  | _ => if 0x4100 ≤ idx ∧ idx ≤ 0x4107 then (s.core (coreKey (idx - 0x4100) (sub - 1))).word else s.reg k

/-- Bytes of a number without its leading zeros, at least one: a string's length (Table 14-1). -/
def strBytes : Nat → Nat → List Byte
  | 0, _ => []
  | n + 1, v => if v = 0 then [] else BitVec.ofNat 8 v :: strBytes n (v / 256)

/-- A value as a frame carries it (R13, Table 14-1). -/
def ObjType.encode (t : ObjType) (v : Nat) : List Byte := if t = .str then strBytes 64 v else leBytes t.size v

/-- What a READ of an existing subindex returns: the highest subindex of a record at 0x00 (R23), 0 of a WO subindex (R586). -/
def State.readObj (s : State) (idx sub : Nat) (r : ObjRow) : List Byte :=
  if r.access = .wo then r.type.encode 0
  else if (objRow idx sub).isNone then r.type.encode r.dflt
  else r.type.encode (s.value idx sub)

/-! Checks of Table 14-7 from the field seal on. -/

/-- Who sends a request: its access level, and whether it comes through BAR4 (R584). -/
structure Who where
  level : Nat
  bar4 : Bool := false
  deriving DecidableEq, Repr

/-- Is the module in the state that a write needs (R652, R607): bring-up step 12 has ended, but a test mode takes the write that ends
it (R692); and in retention no die, laser or ring is commanded, nor a pattern loaded (log entry 50). -/
def State.writeState (s : State) (idx sub : Nat) : Status :=
  if s.powerState = 0 ∧ bits (s.reg keyBootState) 27 24 < 12 ∧ !(s.test.testMode && decide (idx = 0xB040)) then .notReady
  else if s.powerState = 3 ∧ ((idx = 0x4300 ∧ sub = 4) ∨ idx = 0x6003 ∨ (idx = 0x6020 ∧ sub = 2) ∨ (idx = 0x6203 ∧ sub = 2) ∨
    (idx = 0xB001 ∧ sub = 3)) then .notReady
  else .ok

/-- The checks of a read up to its size (Table 14-7): the row of the subindex, or the failing check's status. -/
def State.readCheck (s : State) (who : Who) (idx sub : Nat) : Except Status ObjRow :=
  if 0xE000 ≤ idx ∧ idx ≤ 0xEFFF ∧ s.isSealed then .error .sealed
  else
    match anyRow idx sub with
    | none => .error .noSuchObject
    | some r =>
      if who.level < readLevel idx sub then .error .accessDenied
      else if idx = 0xA090 then .error .notReady
      else .ok r

/-- The checks of a write up to its size (Table 14-7, R582, R585, R586, R594, R603, R609). -/
def State.writeCheck (s : State) (who : Who) (idx sub size : Nat) : Except Status ObjRow :=
  if 0xE000 ≤ idx ∧ idx ≤ 0xEFFF ∧ s.isSealed then .error .sealed
  else
    match anyRow idx sub with
    | none => .error .noSuchObject
    | some r =>
      if who.level < writeLevel idx sub then .error .accessDenied
      else if r.access = .ro then .error .accessDenied
      else if idx = 0x1100 ∧ sub ≤ 2 then .error .accessDenied
      else if who.bar4 ∧ (idx = 0x1210 ∨ idx = 0xA0F1) then .error .accessDenied
      else if size ≠ r.type.size then .error .typeMismatch
      else if s.writeState idx sub ≠ .ok then .error (s.writeState idx sub)
      else if idx = 0xA090 then .error .notReady
      else .ok r

/-! Writes. -/

/-- Close the sessions that a predicate names (R598). -/
def State.closeSessions (s : State) (p : Session → Bool) : State :=
  { s with dap := { s.dap with sessions := s.dap.sessions.filter (fun x => !p x) } }

/-- A write of a key entry: its present and its new level are at most the writer's, and every session opened with it closes
(R595); after the field seal no entry can be given level 3 (R604). -/
def State.writeKey (s : State) (who : Who) (sub v : Nat) : State :=
  let e := (sub - 1) / 2
  let new := if sub % 2 = 0 then v else s.keyLevel e
  if e = 0 ∨ (s.isSealed ∧ new = 3) then s.answer .accessDenied
  else if sub % 2 = 0 ∧ 3 < v then s.answer .typeMismatch
  else if who.level < s.keyLevel e ∨ who.level < new then s.answer .accessDenied
  else ((s.keep (okey 0x1100 sub) v).closeSessions (fun x => decide (x.entry = e))).answer .ok

/-- ACCESS_KEY_WRITE (R595). -/
def execAccessKeyWrite (level : Fin 4) (sub : Fin 16) (v : Nat) (s : State) : Out :=
  .next (s.writeKey { level := level.val } (sub.val + 1) v)

/-- A write of FieldSealCommand: the low 32 bits of the serial number arm, their inverse then seals, anything else disarms; the seal
closes every level-3 session (R603, R604). -/
def State.writeSeal (s : State) (v : Nat) : State :=
  let n := s.fuse (okey 0x0101 4) % 2 ^ 32
  if s.sec.armed then
    if v = 2 ^ 32 - 1 - n then
      ((s.setSec (fun x => { x with armed := false, sealBits := 4 })).closeSessions (fun x => decide (x.level = 3))).answer .ok
    else (s.setSec (fun x => { x with armed := false })).answer .typeMismatch
  else if v = n then (s.setSec (fun x => { x with armed := true })).answer .ok
  else s.answer .typeMismatch

/-- FIELD_SEAL_ARM (R603). -/
def execFieldSealArm (v : BitVec 32) (s : State) : Out := .next (s.writeSeal v.toNat)

/-- FIELD_SEAL_CONFIRM: the write of the inverse while the seal is armed (R603, R604). -/
def execFieldSealConfirm (v : BitVec 32) (s : State) : Out := .next (s.writeSeal v.toNat)

/-- FIELD_SEAL_ARM_EXPIRY: 10 s pass, and the seal disarms (R603). -/
def execFieldSealArmExpiry (s : State) : Out := .next (s.setSec (fun x => { x with armed := false }))

/-- A write of RestoreDefaults (R606). -/
def State.writeRestore (s : State) (v : Nat) : State :=
  if v = 1 then { s with dap := { s.dap with restore := true } }.answer .ok else s.answer .typeMismatch

/-- RESTORE_DEFAULTS (R606). -/
def execRestoreDefaults (v : Nat) (s : State) : Out := .next (s.writeRestore v)

/-- A write to an RO/W1C object clears the sticky bits written as 1 (R24, R586). -/
def State.writeSticky (s : State) (k mask v : Nat) : State :=
  let old := s.reg k
  (s.setReg k (old - (old &&& mask &&& v))).answer .ok

/-- Sticky bits of an RO/W1C object (Tables 2-4, 12-11, 15-12, 15-14). -/
def stickyMask (idx : Nat) : Nat :=
  if idx = 0x2011 then 0xF00000 else if idx = 0x9001 then 0xC000000 else if idx = 0x8050 then 0x400000 else 7

/-- R629: the rate settings in units of 0.1 °C. -/
def State.thermalOk (s : State) (idx sub v : Nat) : Bool :=
  match idx with
  | 0x9110 => decide (5 ≤ v) && decide (v ≤ 50) && decide (v < s.reg (okey 0x9111 1))
  | 0x9111 => if sub = 1 then decide (10 ≤ v) && decide (v ≤ 59) && decide (s.reg (okey 0x9110 0) < v) else decide (1 ≤ v) && decide (v ≤ 4)
  | 0x9112 => if sub = 1 then decide (60 ≤ v) && decide (v ≤ 240) else decide (2 ≤ v) && decide (v ≤ 8)
  | _ => true

/-- Is a value one that the owning chapter takes, beside the plain range of its row? -/
def State.valueOk (s : State) (idx sub v : Nat) : Bool :=
  match idx with
  | 0x8021 => decide (1 ≤ v) && decide (v ≤ s.reg (okey 0x8020 0))
  | 0x8022 => f32Le 0x35800000 v && f32Le v 0x3F000000
  | 0x8023 => f32Le 0x35800000 v && f32Le v 0x3F000000
  | _ => s.thermalOk idx sub v

/-- A value without the bits that its object reserves (R24, Tables 11-13 and 12-12). -/
def keepBits (idx sub v : Nat) : Nat :=
  if idx = 0x8012 ∨ (idx = 0x7210 ∧ sub % 2 = 1) then bits v 15 15 * 2 ^ 15 + bits v 11 0
  else if idx = 0x8040 then bits v 31 31 * 2 ^ 31 + bits v 19 16 * 2 ^ 16 + bits v 11 0
  else v

/-- A write to an RW object that starts nothing: outside its range it is rejected with TYPE_MISMATCH, or with BAD_ALIGN where a range
of the line cache is not a multiple of 64; a field network setting takes effect 1 s later (R589, R605). -/
def State.writePlain (s : State) (r : ObjRow) (idx sub v : Nat) : State :=
  if v < r.lo ∨ r.hi < v ∨ !s.valueOk idx sub v then s.answer .typeMismatch
  else if idx = 0x7400 ∧ sub % 3 ≠ 1 ∧ v % 64 ≠ 0 then s.answer .badAlign
  else
    let k := okey idx sub
    let s1 := (s.keep k (keepBits idx sub v)).answer .ok
    if 0x1001 ≤ idx ∧ idx ≤ 0x1007 then { s1 with dap := { s1.dap with netNext := s1.dap.netNext ++ [(k, v)] } } else s1

/-- A write of SelfRefreshIdle: 0 also takes every stack out of self-refresh while the module is in service (R303). -/
def State.writeIdle (s : State) (r : ObjRow) (idx sub v : Nat) : State :=
  let t := s.writePlain r idx sub v
  if v = 0 ∧ t.reg (okey 0x5030 0) = 0 ∧ t.powerState ≠ 3 then (List.range 16).foldl (fun u p => u.touch p) t else t

/-- What a write that has passed the checks of Table 14-7 does. -/
def State.writeObj (s : State) (who : Who) (r : ObjRow) (idx sub v : Nat) : State :=
  if r.access = .w1c then s.writeSticky (okey idx sub) (stickyMask idx) v
  else
    match idx, sub with
    | 0x1031, _ => s.writeRestore v
    | 0x1100, _ => s.writeKey who sub v
    | 0x2002, _ => writeFrameLength v s
    | 0x2010, _ => writeReferenceSource v s
    | 0x4001, _ => s.writePoint (sub - 1) v
    | 0x4300, 4 => writePatternCommand v s
    | 0x5030, _ => s.writeIdle r idx sub v
    | 0x5110, 2 => writeChannelCommand v s
    | 0x6003, _ => s.writeLaserCommand v
    | 0x6020, 2 => s.writeRegionCommand v
    | 0x6203, 2 => s.writeCalCommand v
    | 0x6210, _ => s.writeRingSelect sub v
    | 0x6300, _ => s.writeWindow 0 sub v
    | 0x6301, _ => s.writeWindow 1 sub v
    | 0x7100, 2 => s.writeRouteCommand v
    | 0x7300, _ => s.writeFence sub v
    | 0x7401, _ => s.writeLineCacheFlush v
    | 0x8005, _ => s.writePairCommand v
    | 0x9150, _ => s.writeTripClear v
    | 0x9201, _ => s.writePowerCommand v
    | 0xA040, 4 => s.writeUpdate v
    | 0xA0F1, _ => s.writeSeal v
    | 0xB001, 3 => s.writeDieBist v
    | 0xB011, _ => s.writeTrace v
    | 0xB013, 4 => s.writeTraceCopy v
    | 0xB020, _ => s.writeDump 0 sub v
    | 0xB021, _ => s.writeDump 1 sub v
    | 0xB022, _ => s.writeDump 2 sub v
    | 0xB023, _ => s.writeDump 3 sub v
    | 0xB050, 1 => s.writeFreeze v
    | 0x7200, _ => if sub ≤ 3 then s.answer .ok else s.writePlain r idx sub v
    | _, _ => s.writePlain r idx sub v

/-- A write with its checks from the field seal on (Table 14-7, R600). -/
def State.writeDict (s : State) (who : Who) (idx sub : Nat) (data : List Byte) : State :=
  match s.writeCheck who idx sub data.length with
  | .error st => s.answer st
  | .ok r => s.writeObj who r idx sub (leNat data)

/-! Frames (section 14.4). -/

/-- Fields of a frame's header (Table 14-5). -/
def fVersion (f : List Byte) : Nat := bits (wordAt f 0) 63 56
def fType (f : List Byte) : Nat := bits (wordAt f 0) 55 48
def fOpcode (f : List Byte) : Nat := bits (wordAt f 0) 47 40
def fSession (f : List Byte) : Nat := bits (wordAt f 0) 31 0
def fRequest (f : List Byte) : Nat := bits (wordAt f 8) 63 32
def fIndex (f : List Byte) : Nat := bits (wordAt f 8) 31 16
def fSub (f : List Byte) : Nat := bits (wordAt f 8) 15 8
def fLength (f : List Byte) : Nat := bits (wordAt f 16) 63 48
def fRsvOk (f : List Byte) : Bool := decide (bits (wordAt f 8) 7 0 = 0) && decide (bits (wordAt f 16) 47 0 = 0)
def fPayload (f : List Byte) : List Byte := (f.drop 24).take (fLength f)

/-- The 16 bytes of a MAC under a session key (R591). -/
def mac16 (key msg : List Byte) : List Byte := (Config.hmac16 key msg ++ List.replicate 16 (0 : Byte)).take 16

/-- The header of a frame that the server sends, as its 24 bytes (Table 14-5). -/
def DapFrame.header (f : DapFrame) : List Byte :=
  leBytes 8 (2 ^ 56 + f.type * 2 ^ 48 + f.opcode * 2 ^ 40 + f.status * 2 ^ 32 + f.session) ++
  leBytes 8 (f.request * 2 ^ 32 + f.index * 2 ^ 16 + f.sub * 2 ^ 8) ++ leBytes 8 (f.payload.length * 2 ^ 48)

/-- A frame with its MAC. -/
def DapFrame.sign (f : DapFrame) (key : List Byte) : DapFrame := { f with mac := mac16 key (f.header ++ f.payload) }

/-- The response to a request frame, which leaves by the port on which the request came (R590). -/
def dapReply (port : Nat) (f : List Byte) (st : Nat) (payload : List Byte) : DapFrame :=
  { port := port, type := 2, opcode := fOpcode f, status := st, session := fSession f, request := fRequest f,
    index := fIndex f, sub := fSub f, payload := payload }

def keyDap (i : Nat) : Nat := okey 0x1020 i

def State.setDap (s : State) (f : Dap → Dap) : State := { s with dap := f s.dap }

/-- Send a frame. -/
def State.sendFrame (s : State) (f : DapFrame) : State := s.setDap (fun d => { d with sent := d.sent ++ [f] })

def State.session (s : State) (id : Nat) : Option Session := s.dap.sessions.find? (fun x => decide (x.id = id))

def State.putSession (s : State) (x : Session) : State :=
  s.setDap (fun d => { d with sessions := d.sessions.map (fun y => if y.id = x.id then x else y) })

/-- Is an opcode defined for a sessionless request, a pending session or an open session (Tables 14-6 and 14-7)? -/
def opcodeOk (op : Nat) (x : Option Session) : Bool :=
  match x with
  | none => decide (op = 1) || decide (op = 3) || decide (op = 4)
  | some y => if y.isOpen then decide (1 ≤ op) && decide (op ≤ 7) && decide (op ≠ 4) && decide (op ≠ 5) else decide (op = 5)

/-! The opcodes of Table 14-6: the new state, the status and the payload of the response. -/

/-- READ (R23, R586). A READ carries no payload. -/
def State.serveRead (s : State) (who : Who) (idx sub n : Nat) : State × Nat × List Byte :=
  match s.readCheck who idx sub with
  | .error st => (s, st.code, [])
  | .ok r => if n ≠ 0 then (s, Status.typeMismatch.code, []) else (s, 0, s.readObj idx sub r)

/-- A value in its slot of a READRECORD: 8 bytes, or a multiple of 8 for octet and string values (Table 14-6). -/
def slotBytes (b : List Byte) : List Byte := b ++ List.replicate ((8 - b.length % 8) % 8 + (if b = [] then 8 else 0)) (0 : Byte)

/-- READRECORD: every subindex at one instant, if the response fits 1,280 bytes (Table 14-6, R600). -/
def State.serveRecord (s : State) (who : Who) (idx sub n : Nat) : State × Nat × List Byte :=
  match s.readCheck who idx sub with
  | .error st => (s, st.code, [])
  | .ok _ =>
    match highSub idx with
    | none => (s, Status.typeMismatch.code, [])
    | some h =>
      if sub ≠ 0 ∨ h = 0 ∨ n ≠ 0 then (s, Status.typeMismatch.code, [])
      else
        let b := (List.range (h + 1)).flatMap (fun i =>
          match anyRow idx i with
          | some r => slotBytes (s.readObj idx i r)
          | none => List.replicate 8 (0 : Byte))
        if 1280 < b.length then (s, Status.lengthExceeds.code, []) else (s, 0, b)

/-- WRITE: the status is what the write was answered with. -/
def State.serveWrite (s : State) (who : Who) (idx sub : Nat) (data : List Byte) : State × Nat × List Byte :=
  let t := s.writeDict who idx sub data
  (t, t.lastStatus, [])

/-- A new SessionId: random, nonzero and not used since bring-up (R596; log entry 4). -/
def State.freshSession (s : State) : Nat :=
  let c := s.free % 2 ^ 32
  let bad (n : Nat) : Bool := decide (n = 0) || s.dap.used.contains n
  if bad c then ((List.range (s.dap.used.length + 2)).find? (fun n => !bad n)).getD 1 else c

/-- The checks of an OPEN (R596, Table 14-8). -/
def State.openCheck (s : State) (p : List Byte) : Status :=
  let b (i : Nat) : Nat := (p.getD i 0).toNat
  if p.length ≠ 40 then .typeMismatch
  else if b 0 = 0 ∨ 3 < b 0 ∨ (List.range 6).any (fun i => decide (b (i + 2) ≠ 0)) then .typeMismatch
  else if 7 < b 1 then .noSuchObject
  else if b 0 = 3 ∧ s.isSealed then .sealed
  else if s.keyLevel (b 1) < b 0 then .accessDenied
  else if 16 ≤ s.dap.sessions.length then .busy
  else .ok

/-- OPEN: a pending session with a fresh id and a device nonce (R596). -/
def State.serveOpen (s : State) (p : List Byte) : State × Nat × List Byte :=
  let st := s.openCheck p
  if st ≠ .ok then (s, st.code, [])
  else
    let id := s.freshSession
    let nonce := leBytes 32 (Config.freeNat (s.freeCtr + 1))
    let x : Session := { id := id, level := (p.getD 0 0).toNat, entry := (p.getD 1 0).toNat, stationNonce := (p.drop 8).take 32, deviceNonce := nonce }
    let t := { s with freeCtr := s.freeCtr + 2 }.setDap (fun d => { d with sessions := d.sessions ++ [x], used := d.used ++ [id] })
    (t, 0, leBytes 4 id ++ List.replicate 4 (0 : Byte) ++ nonce)

/-- The session key that an AUTH establishes, if its secret decrypts and its signature verifies (R596, R597, Table 14-8). -/
def State.authKey (s : State) (x : Session) (p : List Byte) : Option (List Byte) :=
  let c := p.take 512
  match Config.oaepDecrypt c with
  | none => none
  | some secret =>
    if secret.length = 64 ∧ Config.pssVerify (s.keyModulus x.entry)
        (x.stationNonce ++ x.deviceNonce ++ leBytes 4 x.id ++ leBytes 1 x.level ++ c) (p.drop 512) then
      some (Config.sha512 (secret ++ x.stationNonce ++ x.deviceNonce ++ leBytes 4 x.id))
    else none

/-- WATCH: the entries of a list that exist and that the session may read replace its watch list (R601). -/
def State.serveWatch (s : State) (x : Session) (p : List Byte) : State × Nat × List Byte :=
  if p.length % 4 ≠ 0 then (s, Status.typeMismatch.code, [])
  else if 64 < p.length then (s, Status.lengthExceeds.code, [])
  else
    let keys := (List.range (p.length / 4)).map (fun i => bits (leNat ((p.drop (4 * i)).take 4)) 31 8)
    let bad := keys.filterMap (fun k => match s.readCheck { level := x.level } (k / 256) (k % 256) with
      | .error .notReady => none
      | .error st => some st
      | .ok _ => none)
    match bad with
    | st :: _ => (s, st.code, [])
    | [] =>
      let watch := keys.map (fun k => (k, match anyRow (k / 256) (k % 256) with
        | some r => leNat (s.readObj (k / 256) (k % 256) r)
        | none => 0))
      (s.putSession { x with watch := watch }, 0, [])

/-- A request of an open session that is carried out (R592, R598). -/
def State.serveOpenOp (s : State) (x : Session) (f : List Byte) : State × Nat × List Byte :=
  let who : Who := { level := x.level }
  let n := fLength f
  match fOpcode f with
  | 1 => s.serveRead who (fIndex f) (fSub f) n
  | 2 => s.serveWrite who (fIndex f) (fSub f) (fPayload f)
  | 3 => s.serveRecord who (fIndex f) (fSub f) n
  | 6 => if n ≠ 0 then (s, Status.typeMismatch.code, []) else (s.closeSessions (fun y => decide (y.id = x.id)), 0, [])
  | _ => s.serveWatch x (fPayload f)

/-- Has a write raised a floor whose completion waits (R474)? -/
def State.fenceAsked (s t : State) : Bool := decide (s.hub.fences.length < t.hub.fences.length)

/-- The completion that a raised floor awaits goes to the one who asked. -/
def State.fenceFor (s : State) (a : FenceAsker) : State :=
  { s with hub := { s.hub with fences := modifyAt s.hub.fences (s.hub.fences.length - 1) (fun x => (x.1, x.2.1, a)) } }

/-- The response to a frame of a session is kept and sent (R599). -/
def State.sendKept (s : State) (port id : Nat) (key : List Byte) (f : List Byte) (st : Nat) (p : List Byte) : State :=
  let r := (dapReply port f st p).sign key
  let t := match s.session id with
    | some y => s.putSession { y with newest := (if newer32 (BitVec.ofNat 32 (fRequest f)) (BitVec.ofNat 32 y.newest) then fRequest f else y.newest), kept := (r :: y.kept).take 32 }
    | none => s
  (t.bump (keyDap 1)).sendFrame r

/-- A frame of an open session: its MAC, its RequestId, its opcode, and then what it asks (Table 14-7, R599). The response to a write of a
floor follows when the write is complete (R474). -/
def State.serveOpenSession (s : State) (port : Nat) (x : Session) (f : List Byte) : State :=
  let body := f.take (24 + fLength f)
  if (f.drop (24 + fLength f)) ≠ mac16 x.key body then (s.bump (keyDap 2)).bump (keyDap 3)
  else
    match x.kept.find? (fun k => decide (k.request = fRequest f)) with
    | some k => (s.bump (keyDap 1)).sendFrame { k with port := port }
    | none =>
      if !newer32 (BitVec.ofNat 32 (fRequest f)) (BitVec.ofNat 32 x.newest) then
        ((s.bump (keyDap 1)).bump (keyDap 5)).sendFrame ((dapReply port f Status.stale.code []).sign x.key)
      else
        let ok := opcodeOk (fOpcode f) (some x) && fRsvOk f && decide (fLength f ≤ 1280)
        let (t, st, p) := if ok then s.serveOpenOp x f else (s, Status.typeMismatch.code, [])
        if s.fenceAsked t then
          match t.session x.id with
          | some y => (t.fenceFor (.station port x.id f)).putSession { y with newest := fRequest f }
          | none => t
        else t.sendKept port x.id x.key f st p

/-- A frame of a pending session: an AUTH opens it, or removes it with BAD_SIGNATURE; nothing else is defined for it (R596). -/
def State.servePending (s : State) (port : Nat) (x : Session) (f : List Byte) : State :=
  let s1 := s.bump (keyDap 1)
  let p := fPayload f
  if !opcodeOk (fOpcode f) (some x) || !fRsvOk f || decide (p.length ≠ 1024) then s1.sendFrame (dapReply port f Status.typeMismatch.code [])
  else
    match s.authKey x p with
    | none =>
      (((s1.closeSessions (fun y => decide (y.id = x.id))).bump (keyDap 4))).sendFrame (dapReply port f Status.badSignature.code [])
    | some key => (s1.putSession { x with isOpen := true, key := key }).sendFrame ((dapReply port f 0 []).sign key)

/-- What a sessionless READ or WRITE asks of the boot ROM in recovery; anything else it does not serve (R664; log entry 50). -/
def State.serveRecovery (s : State) (f : List Byte) : Option (State × Nat × List Byte) :=
  let idx := fIndex f
  let sub := fSub f
  let mine := (decide (0x0100 ≤ idx) && decide (idx ≤ 0x01FF)) || (decide (idx = 0xA001) && decide (sub = 0)) || decide (idx = 0xA090)
  match fOpcode f with
  | 1 =>
    if !mine then none
    else
      match anyRow idx sub with
      | none => some (s, Status.noSuchObject.code, [])
      | some r =>
        if idx = 0xA090 ∧ sub = 2 then some (s, 0, r.type.encode s.sec.recOffset) else some (s, 0, s.readObj idx sub r)
  | 2 =>
    if idx ≠ 0xA090 ∨ sub = 0 ∨ 4 < sub then none
    else
      match objRow idx sub with
      | none => none
      | some r =>
        if fLength f ≠ r.type.size then some (s, Status.typeMismatch.code, [])
        else
          let v := leNat (fPayload f)
          let t := match sub with
            | 1 => s.writeRecLength v
            | 2 => s.writeRecOffset v
            | 3 => s.writeRecPiece (fPayload f)
            | _ => s.writeRecVerify v
          some (t, t.lastStatus, [])
  | _ => none

/-- Sessionless answers of the last second, units of 62.5 ps (R593). -/
def State.recentAnswers (s : State) : List Nat := s.dap.answers.filter (fun t => decide (s.pw.time < t + 16 * 10 ^ 9))

/-- A sessionless request (R592, R593). -/
def State.serveSessionless (s : State) (port : Nat) (f : List Byte) : State :=
  let recent := s.recentAnswers
  let limit := if s.recovering then 10000 else 100
  let answer (t : State) (st : Nat) (p : List Byte) : State :=
    (((t.setDap (fun d => { d with answers := recent ++ [s.pw.time] })).bump (keyDap 1))).sendFrame (dapReply port f st p)
  if limit ≤ recent.length then s.bump (keyDap 6)
  else if s.recovering then
    match s.serveRecovery f with
    | none => s.bump (keyDap 2)
    | some (t, st, p) => answer t st p
  else if fOpcode f = 5 then answer s Status.notReady.code []
  else if !opcodeOk (fOpcode f) none || !fRsvOk f || decide (1280 < fLength f) then answer s Status.typeMismatch.code []
  else
    let (t, st, p) := match fOpcode f with
      | 1 => s.serveRead { level := 0 } (fIndex f) (fSub f) (fLength f)
      | 3 => s.serveRecord { level := 0 } (fIndex f) (fSub f) (fLength f)
      | _ => s.serveOpen (fPayload f)
    answer t st p

/-- Does the dictionary server, or in recovery the boot ROM, serve the field network (R664, R731, Table 15-10)? -/
def State.serves (s : State) : Bool := decide (s.powerState ≠ 5) && (decide (4 ≤ bits (s.reg keyBootState) 27 24) || s.recovering)

/-- A frame arrives on a field network port (Table 14-7, R592). -/
def State.serve (s : State) (port : Nat) (f : List Byte) : State :=
  let s0 := s.setDap (fun d => { d with sent := [] })
  let mac := if fSession f ≠ 0 ∧ fOpcode f ≠ 5 then 16 else 0
  if !s.serves then s0
  else if f.length ≠ 24 + fLength f + mac ∨ fVersion f ≠ 1 ∨ fType f ≠ 1 then s0.bump (keyDap 2)
  else if fSession f = 0 then s0.serveSessionless port f
  else
    match s.session (fSession f) with
    | none => (s0.bump (keyDap 1)).sendFrame (dapReply port f Status.notReady.code [])
    | some x =>
      if x.isOpen ∧ fOpcode f = 5 then (s0.bump (keyDap 1)).sendFrame (dapReply port f Status.notReady.code [])
      else if x.isOpen then s0.serveOpenSession port x f
      else s0.servePending port x f

/-- A frame of one row: its opcode is that of the row, or is not defined at all. -/
def State.serveAs (s : State) (op port : Nat) (f : List Byte) : State :=
  if fOpcode f = op ∨ fOpcode f = 0 ∨ 7 < fOpcode f then s.serve port f else s

/-- DAP_READ (R592). -/
def execDapRead (port : Fin 2) (frame : List Byte) (s : State) : Out := .next (s.serveAs 1 port.val frame)
/-- DAP_WRITE (R592). -/
def execDapWrite (port : Fin 2) (frame : List Byte) (s : State) : Out := .next (s.serveAs 2 port.val frame)
/-- DAP_READRECORD (R591). -/
def execDapReadrecord (port : Fin 2) (frame : List Byte) (s : State) : Out := .next (s.serveAs 3 port.val frame)
/-- DAP_OPEN (R596). -/
def execDapOpen (port : Fin 2) (frame : List Byte) (s : State) : Out := .next (s.serveAs 4 port.val frame)
/-- DAP_AUTH (R596, R597). -/
def execDapAuth (port : Fin 2) (frame : List Byte) (s : State) : Out := .next (s.serveAs 5 port.val frame)
/-- DAP_CLOSE (R598). -/
def execDapClose (port : Fin 2) (frame : List Byte) (s : State) : Out := .next (s.serveAs 6 port.val frame)
/-- DAP_WATCH (R601). -/
def execDapWatch (port : Fin 2) (frame : List Byte) (s : State) : Out := .next (s.serveAs 7 port.val frame)

/-- SESSION_PENDING_EXPIRY: a pending session without AUTH for 5 s is removed (R596). -/
def execSessionPendingExpiry (session : BitVec 32) (s : State) : Out :=
  .next (s.closeSessions (fun x => decide (x.id = session.toNat) && !x.isOpen))

/-- SESSION_IDLE_EXPIRY: a session without a valid request for SessionIdleLimit seconds closes (R598). -/
def execSessionIdleExpiry (session : BitVec 32) (s : State) : Out :=
  .next (s.closeSessions (fun x => decide (x.id = session.toNat) && x.isOpen))

/-- WATCH_NOTIFY: the hub sends a notify for each watched value that has changed (R601). -/
def State.notifySession (s : State) (x : Session) : State :=
  (x.watch.zipIdx).foldl (fun t e =>
    let k := e.1.1
    match anyRow (k / 256) (k % 256) with
    | none => t
    | some r =>
      let b := t.readObj (k / 256) (k % 256) r
      match t.session x.id with
      | none => t
      | some y =>
        if leNat b = e.1.2 then t
        else
          let f : DapFrame := { port := 0, type := 3, opcode := 1, status := 0, session := x.id, request := (y.notifies + 1) % 2 ^ 32,
                                index := k / 256, sub := k % 256, payload := b }
          (t.putSession { y with notifies := y.notifies + 1, watch := modifyAt y.watch e.2 (fun w => (w.1, leNat b)) }).sendFrame (f.sign y.key)) s

/-- Notifies of every session. -/
def State.notifyAll (s : State) : State := s.dap.sessions.foldl State.notifySession s

/-- NETWORK_CONFIG_APPLY: the oldest setting that waits takes effect, 1 s after its write (R589). -/
def execNetworkConfigApply (s : State) : Out :=
  match s.dap.netNext with
  | [] => .next s
  | (k, v) :: r => .next (s.setDap (fun d => { d with netNext := r, net := Tbl.put (dictDflt k) d.net k v }))

/-- FIELD_NETWORK_LINK: a port gains or loses its link (R587). -/
def execFieldNetworkLink (port : Fin 2) (up : Bool) (s : State) : Out :=
  .next (s.setDap (fun d => { d with link := Tbl.put false d.link port.val up }))

/-! The BAR4 mailbox (section 14.8). -/

/-- Do a port's BARs serve (R652, R731)? -/
def State.barServes (s : State) (p : Nat) : Bool :=
  decide ((s.port p).st ≠ .down) && decide (7 ≤ bits (s.reg keyBootState) 27 24) && decide (s.powerState ≠ 5)

/-- The request of a mailbox at its port's level (R584, R609). -/
def State.boxServe (s : State) (p : Nat) : State × Nat × List Byte :=
  let b := (s.port p).box
  let w := b.request
  let n := bits w 15 0
  let who : Who := { level := s.reg (okey 0x1210 (p + 1)), bar4 := true }
  let op := bits w 63 56
  if (op ≠ 1 ∧ op ≠ 2 ∧ op ≠ 3) ∨ bits w 55 48 ≠ 0 ∨ bits w 23 16 ≠ 0 ∨ 1280 < n then (s, Status.typeMismatch.code, [])
  else
    match op with
    | 1 => s.serveRead who (bits w 47 32) (bits w 31 24) n
    | 2 => s.serveWrite who (bits w 47 32) (bits w 31 24) (rdBytes b.data 0 n)
    | _ => s.serveRecord who (bits w 47 32) (bits w 31 24) n

/-- BAR4_GO: the request runs and Busy clears with the response in place, that of a raised floor once the write is complete (R474); while
Busy is 1 the write is ignored and counted (R608). -/
def execBar4Go (port : Fin 2) (s : State) : Out :=
  let p := port.val
  if !s.barServes p then .next s
  else if (s.port p).box.busy then .next (s.bump (keyDap 8))
  else
    let (t, st, b) := s.boxServe p
    let q := t.port p
    .next (if s.fenceAsked t then (t.fenceFor (.mailbox p)).setPort p { q with box := { q.box with busy := true } }
      else t.setPort p { q with box := { q.box with busy := false, status := st, respLen := b.length, data := wrBytes q.box.data 0 b } })

/-! The lease period. -/

/-- A raised floor is complete: who asked for it gets the answer (R474). -/
def State.fenceDone (s : State) : FenceAsker → State
  | .trigger p => s.fenceReply p
  | .writer => s.answer .ok
  | .gone => s
  | .mailbox p =>
    let q := s.port p
    s.setPort p { q with box := { q.box with busy := false, status := 0, respLen := 0 } }
  | .station port id f =>
    match s.session id with
    | some x => s.sendKept port id x.key f 0 []
    | none => s

/-- The raised floors that no write checked before them holds back any more are answered, in the order in which they were asked for. -/
def State.settleFences (s : State) : State :=
  let ready := s.hub.fences.filter (fun f => !s.fenceWaits f.2.1)
  let s1 : State := { s with hub := { s.hub with fences := s.hub.fences.filter (fun f => s.fenceWaits f.2.1) } }
  ready.foldl (fun t f => t.fenceDone f.2.2) s1

/-- LEASE_PERIOD: a period boundary on the Ground (R346 to R354), and the time-driven work of the hub that the model counts in lease
periods: the Dyke's rate limits (R381; log entry 67), the identity words and packets of the fabric ports (R481, R490; log entry 63) and the
raised floors (R474; log entry 66). -/
def execLeasePeriod (s : State) : Out :=
  let s1 := s.leasePeriod.dykePeriod
  .next (((List.range 4).foldl (fun t x => (t.portIdents x).drainPort x) s1).settleFences)

/-! Register words (R605, R539). -/

/-- A write of a BAR0 word that no command of its own writes (Tables 13-2, 13-4, 13-9, 13-12, 2-2, 7-6, 8-4): port control, queue and
ring configuration, the first two words of a PTP record, and queue memory, whose RO fields stay. -/
def State.writeBar0 (s : State) (p off v : Nat) : State :=
  let q := s.port p
  let o := off / 8 * 8
  if !s.barServes p then s
  else if o = 8 then s.writePortControl p v
  else if 0x100 ≤ o ∧ o < 0x300 then s.writeSq p ((o - 0x100) / 8) v
  else if 0x400 ≤ o ∧ o < 0x800 then
    let i := (o - 0x400) / 16
    if o % 16 = 0 then s.writeRing p i (bits v 63 63 = 1) (bits v 47 32) (bits v 31 16)
    else s.setPort p (q.setRing i { q.ring i with holdoff := bits v 31 16 })
  else if o = 0x2000 then { s with tb := { s.tb with ptpRec := Tbl.put 0 s.tb.ptpRec (p * 4) (v % 2 ^ 48) } }
  else if o = 0x2008 then { s with tb := { s.tb with ptpRec := Tbl.put 0 s.tb.ptpRec (p * 4 + 1) (v % 2 ^ 32) } }
  else if 0x10000 ≤ o ∧ o < 0x12000 then
    match o % 32 with
    | 0 => s.setPort p (q.setWord o (setField v 55 48 (bits (q.word o) 55 48)))
    | 24 => s
    | _ => s.setPort p (q.setWord o v)
  else if 0x14000 ≤ o ∧ o < 0x18000 then
    match o % 64 with
    | 0 => s.setPort p (q.setWord o (setField v 55 48 (bits (q.word o) 55 48)))
    | 32 => s
    | n => if 48 ≤ n then s else s.setPort p (q.setWord o v)
  else if 0x400000 ≤ o ∧ o < 0x800000 then s.setPort p (q.setWord o v)
  else s

/-- What a read of eight bytes of BAR0 answers (R538 to R540, R570, Tables 2-2, 2-5, 13-2 to 13-4, 13-9 and 13-12): the RO copies of
MediaTickCount and FrameNumber, a queue's head and tail at its doorbell, ProducerIndex and the consumer index of a ring, queue memory, and the
shared pricking slots with the words that the hub wrote. The pricking doorbell, for which the spec gives no read, and offsets that are not
assigned read 0 (log entry 42). -/
def State.readBar0 (s : State) (p off : Nat) : Nat :=
  let q := s.port p
  let o := off / 8 * 8
  let bell (x : CmdQueue) : Nat := x.head * 2 ^ 16 + x.tail
  if o = 0 then s.portStatus p
  else if o = 8 then q.control
  else if o = 0x10 then s.tb.count
  else if o = 0x18 then s.tb.frame
  else if 0x100 ≤ o ∧ o < 0x300 then
    let x := q.sq ((o - 0x100) / 8)
    (if x.enable then 2 ^ 63 else 0) + (if x.complValid then 2 ^ 15 else 0) + x.complRing * 2 ^ 9
  else if 0x400 ≤ o ∧ o < 0x800 then
    let r := q.ring ((o - 0x400) / 16)
    if o % 16 = 0 then (if r.enable then 2 ^ 63 else 0) + r.slotCount * 2 ^ 32 + r.slotSize * 2 ^ 16 + r.status
    else r.producer * 2 ^ 32 + r.holdoff * 2 ^ 16
  else if 0x1000 ≤ o ∧ o < 0x1200 then let x := q.sq ((o - 0x1000) / 8); x.head * 2 ^ 16 + x.tail
  else if 0x1200 ≤ o ∧ o < 0x1400 then let r := q.ring ((o - 0x1200) / 8); r.producer * 2 ^ 32 + r.consumer
  else if o = 0x1400 then bell q.ledgerQ
  else if o = 0x1408 then bell q.stagingQ
  else if 0x2000 ≤ o ∧ o < 0x2018 then Tbl.get 0 s.tb.ptpRec (p * 4 + (o - 0x2000) / 8)
  else if (0x10000 ≤ o ∧ o < 0x12000) ∨ (0x14000 ≤ o ∧ o < 0x18000 ∧ o % 64 < 48) ∨ (0x400000 ≤ o ∧ o < 0x800000) then q.word o
  else if 0x800000 ≤ o ∧ o < 0x1000000 then
    let i := (o - 0x800000) / 2 ^ 20
    let w := (o - 0x800000) % 2 ^ 20 / 8
    let r := s.prick.slotRo i
    if w = 2 then r.rejectIndex % 2 ^ 32 * 2 ^ 32 + s.prick.word i 2 + r.status % 256
    else if w = 3 then r.acceptTick
    else s.prick.word i w
  else 0

/-- What a read of n bytes of BAR2 answers: ring r lies at offset r × 4 MiB, and what is not used reads 0 (Table 13-1, R538, R569). -/
def State.readBar2 (s : State) (p off n : Nat) : List Byte := ((s.port p).ring (off / 2 ^ 22)).read (off % 2 ^ 22) n

/-- What a read of eight bytes of BAR4 answers (Table 14-9): the request word, Busy with the outcome, and the data; Go is write-only,
and what is not assigned reads 0 (R608). -/
def State.readBar4 (s : State) (p off : Nat) : Nat :=
  let b := (s.port p).box
  let o := off / 8 * 8
  if o = 0 then b.request
  else if o = 0x10 then (if b.busy then 2 ^ 63 else 0) + b.status % 256 * 2 ^ 16 + b.respLen % 2 ^ 16
  else if 0x1000 ≤ o ∧ o < 0x1500 then rdLe b.data (o - 0x1000) 8
  else 0

/-- A write of a mailbox word: the request word without its reserved fields' meaning, or eight bytes of data (Table 14-9). -/
def State.writeBar4 (s : State) (p off v : Nat) : State :=
  let q := s.port p
  if !s.barServes p then s
  else if off / 8 = 0 then s.setPort p { q with box := { q.box with request := v } }
  else if 0x1000 ≤ off ∧ off / 8 * 8 + 8 ≤ 0x1500 then s.setPort p { q with box := { q.box with data := wrLe q.box.data (off / 8 * 8 - 0x1000) 8 v } }
  else s

/-- REGISTER_WRITE: a write to an object or word with no row of its own is checked, stored and applied (R605). -/
def execRegisterWrite (target : RegTarget) (s : State) : Out :=
  match target with
  | .object idx sub data => .next (if s.serves && !s.recovering then s.writeDict { level := if s.isSealed then 2 else 3 } idx.toNat sub.toNat data else s)
  | .bar0 port offset v => .next (s.writeBar0 port.val offset.toNat v.toNat)
  | .bar4 port offset v => .next (s.writeBar4 port.val offset.toNat v.toNat)

end Sys2Proof.Machine
end

