-- ==== Sys2Proof/Machine/Engine.lean ====
section
/-! DEFINITION. Engine instructions (sections 3.1, 4.4, 5.5): MMA, MMA4, DRAIN and ACCLOAD over the accumulator sets. -/

namespace Sys2Proof.Machine

open Sys2Proof

/-- The key of accumulator (row, column) of a set of an engine. -/
def accKey (engine set row col : Nat) : Nat := (engine * 2 + set) * 2048 + row * 64 + col

/-- Operand pairs of Table 4-4 (R155). -/
def pairOk (a b : Fmt) : Bool :=
  (a.isMx && b.isMx) || (decide (a = .int8) && decide (b = .int8)) || (decide (a = .bf16) && decide (b = .bf16))

/-- The checks of MMA and MMA4 (R93, R155, R189, R196). -/
def mmaChecks (rows : Nat) (a b : Operand) : List (Option Bad) :=
  [need (decide (a.d.dim1 = rows) && decide (b.d.dim1 = 64) && decide (a.d.dim0 = b.d.dim0) && decide (a.d.dim2 = 1)
      && decide (b.d.dim2 = 1)) .typeMismatch,
   need (pairOk a.f b.f) .typeMismatch] ++ scratchChecks [a, b]

/-- The operands A and B of MMA and MMA4. -/
def State.mmaOperands (s : State) (g : Grant) (q : QInstr) : Operand × Operand :=
  (s.unitOperand g q (bits q.word 32 27) (bits q.word 20 17), s.unitOperand g q (bits q.word 26 21) (bits q.word 16 13))

/-- The checks at the start of MMA and MMA4. -/
def State.mmaCheck (s : State) (g : Grant) (r : CoreRun) (q : QInstr) (us : List Nat) (rows : Nat) : Chk :=
  let (a, b) := s.mmaOperands g q
  if r.setBusy us q.word then .wait
  else if !(a.own && b.own) then .of [need false .typeMismatch] .go
  else if a.d.count = 0 ∧ b.d.count = 0 then .once
  else .of (mmaChecks rows a b) .go

/-- One accumulator over the k steps in ascending order (R156 to R161): each exact scaled product is rounded into the
FP32 range and added with one rounding. -/
def accRow (acc : Nat) (xs ys : List Fp) : Flagged Nat :=
  (xs.zip ys).foldl (fun (st : Flagged Nat) (p : Fp × Fp) =>
    let (x, g) := Fp.mul p.1 p.2
    let (c, h) := toF32 x
    let (z, i) := f32Add st.1 c
    (z, orAll [st.2, g, h, i])) (acc, 0)

/-- One accumulator in MXFP4 mode: the two products of a cycle are summed exactly and added with one rounding (R157). -/
def accPairs (acc : Nat) : List (Fp × Fp) → Nat → Flagged Nat
  | p :: q :: r, fl =>
    let (x, g) := Fp.mul p.1 p.2
    let (y, h) := Fp.mul q.1 q.2
    let (z, i) := Fp.add x y
    let (v, j) := Fp.add (f32 acc) z
    let (c, k) := toF32 v
    accPairs c r (orAll [fl, g, h, i, j, k])
  | _, fl => (acc, fl)

/-- The accumulation of one output of an engine operation. -/
def accOne (mxfp4 : Bool) (acc : Nat) (xs ys : List Fp) : Flagged Nat :=
  if mxfp4 then accPairs acc (xs.zip ys) 0 else accRow acc xs ys

/-- The accumulators of one engine after A × Bᵀ, with the flags: A's rows begin at row `first` (R90, R96, R197). -/
def mmaPart (acc : Tbl Nat) (m : Tbl Byte) (a b : Operand) (engine set first : Nat) (zero : Bool) : Tbl Nat × Nat :=
  let mxfp4 := decide (a.f = .e2m1) && decide (b.f = .e2m1)
  let A := (List.range 32).map (fun i => (List.range a.d.dim0).map (fun x => a.elem m (first + i) 0 x))
  let B := (List.range 64).map (fun j => (List.range b.d.dim0).map (fun x => b.elem m j 0 x))
  let inFlags := orAll ((A ++ B).map (fun r => orAll (r.map (·.2))))
  A.zipIdx.foldl (fun st r => B.zipIdx.foldl (fun (st : Tbl Nat × Nat) c =>
    let key := accKey engine set r.2 c.2
    let (v, g) := accOne mxfp4 (if zero then 0 else Tbl.get 0 acc key) (r.1.map (·.1)) (c.1.map (·.1))
    (Tbl.put 0 st.1 key v, orFlags st.2 g)) st) (acc, inFlags)

/-- MMA and MMA4 on a list of engines, engine e of MMA4 taking rows 32e onward (R96, R195). -/
def State.mmaRun (s : State) (k : Nat) (g : Grant) (q : QInstr) (engines : List (Nat × Nat)) : State :=
  let (a, b) := s.mmaOperands g q
  let zero := decide (bits q.word 11 11 = 1)
  engines.foldl (fun t e =>
    let (acc, fl) := mmaPart (t.core k).acc (t.core k).scratch a b e.1 (accSet q.word) e.2 zero
    (t.setCore k { t.core k with acc := acc }).flagRun k fl) s

/-- MMA: A × Bᵀ into one set of one engine (R195 to R198). -/
def execMma (die : Fin 8) (core : Fin 48) (engine : Fin 4) (s : State) : Out :=
  let u := 2 + engine.val
  .next (s.startUnit die.val core.val u 3 0 (fun _ g r q => s.mmaCheck g r q [u] 32)
    (fun k g q t => t.mmaRun k g q [(engine.val, 0)]))

/-- MMA4: all four engines in shared-B operation (R96, R199). -/
def execMma4 (die : Fin 8) (core : Fin 48) (s : State) : Out :=
  .next (s.startUnit die.val core.val 2 3 1 (fun _ g r q => s.mmaCheck g r q [2, 3, 4, 5] 128)
    (fun k g q t => t.mmaRun k g q [(0, 0), (1, 32), (2, 64), (3, 96)]))

/-- The descriptor of DRAIN and ACCLOAD. -/
def State.accOperand (s : State) (g : Grant) (q : QInstr) : Operand := s.unitOperand g q (bits q.word 32 27) (bits q.word 26 23)

/-- DRAIN writes all four engines (R199). -/
def drainAll (w : Nat) : Bool := decide (bits w 20 20 = 1)

/-- DRAIN writes BF16 (Table 5-8). -/
def drainBf16 (w : Nat) : Bool := decide (bits w 21 21 = 1)

/-- The checks at the start of DRAIN and ACCLOAD (R196). DESIGN CHOICE (log entry 69): a Dim2 other than 1 is a TYPE_MISMATCH. -/
def State.accCheck (s : State) (g : Grant) (r : CoreRun) (q : QInstr) (us : List Nat) (rows : Nat) (f : Fmt) : Chk :=
  let o := s.accOperand g q
  if r.setBusy us q.word then .wait
  else if !o.own then .of [need false .typeMismatch] .go
  else if o.d.count = 0 then .once
  else .of ([need (decide (o.d.dim0 = 64) && decide (o.d.dim1 = rows) && decide (o.d.dim2 = 1) && decide (o.f = f)) .typeMismatch]
    ++ scratchChecks [o]) .go

/-- The accumulators of a row of a set. -/
def accCodes (acc : Tbl Nat) (engine set row : Nat) : List Nat := (List.range 64).map (fun c => Tbl.get 0 acc (accKey engine set row c))

/-- Write the sets of a list of engines to scratch, FP32 unchanged or BF16 rounded (R162): engine e from row first of
DescOut. DESIGN CHOICE (log entry 69): a NaN or an infinity among them sets no flag. -/
def State.drainRun (s : State) (k : Nat) (g : Grant) (q : QInstr) (engines : List (Nat × Nat)) : State :=
  let o := s.accOperand g q
  let c := s.core k
  let rows := engines.flatMap (fun e => (List.range 32).map (fun i => (e.2 + i, f32Row o.f (accCodes c.acc e.1 (accSet q.word) i))))
  (s.setScratch k (rows.foldl (fun m r => o.putRow m r.1 0 r.2.1) c.scratch)).flagRun k (orAll (rows.map (fun r => r.2.2)))

/-- DRAIN: one set to scratch, or with DrainAll the set of all four engines (R162, R196, R199). -/
def execDrain (die : Fin 8) (core : Fin 48) (engine : Fin 4) (s : State) : Out :=
  let u := 2 + engine.val
  .next (s.startUnit die.val core.val u 3 2
    (fun _ g r q => s.accCheck g r q (unitsFor u q.word) (if drainAll q.word then 128 else 32)
      (if drainBf16 q.word then .bf16 else .fp32))
    (fun k g q t => t.drainRun k g q (if drainAll q.word then [(0, 0), (1, 32), (2, 64), (3, 96)] else [(engine.val, 0)])))

/-- Load a set from FP32 scratch data (R162, R200). -/
def State.loadRun (s : State) (k : Nat) (g : Grant) (q : QInstr) (engine : Nat) : State :=
  let o := s.accOperand g q
  let c := s.core k
  let codes := (List.range 32).map (fun i => o.rowCodes c.scratch i 0)
  let acc := codes.zipIdx.foldl (fun t r => r.1.zipIdx.foldl (fun t x =>
    Tbl.put 0 t (accKey engine (accSet q.word) r.2 x.2) x.1) t) c.acc
  (s.setCore k { c with acc := acc }).flagRun k (orAll (codes.map (fun r => orAll (r.map (fun x => inputFlags (f32 x))))))

/-- ACCLOAD: one set from FP32 scratch data (R162, R195, R200). -/
def execAccload (die : Fin 8) (core : Fin 48) (engine : Fin 4) (s : State) : Out :=
  let u := 2 + engine.val
  .next (s.startUnit die.val core.val u 3 3 (fun _ g r q => s.accCheck g r q [u] 32 .fp32)
    (fun k g q t => t.loadRun k g q engine.val))

end Sys2Proof.Machine
end

