-- ==== Sys2Proof/Machine/Frame.lean ====
section
/-! DEFINITION. The frame boundary (R70, R71) and everything that the spec lays at it. -/

namespace Sys2Proof.Machine

open Sys2Proof

/-- The next frame begins: FrameNumber, its starting tick and its length, and the anchor that the hub multicasts to the sites that
it reaches (R69 to R71, R386). -/
def State.advanceFrame (s : State) : State :=
  let tb : Timebase := { s.tb with
    frame := s.tb.frame + 1
    frameStart := s.tb.frameStart + s.tb.frameLength
    frameLength := s.nextLength
    past := ((s.tb.frame + 1, s.tb.frameStart + s.tb.frameLength) :: s.tb.past).take 16 }
  { s with tb := tb.anchorSites ((List.range 12).filter s.reachesSite) }

/-- Does a stream's output form at the boundary: Open, Waiting, or Closing with no step left (R557, R573)? -/
def State.formsOut (s : State) (i : Nat) : Bool :=
  let st := (s.stream i).st
  decide (st = .opened) || decide (st = .waiting) || (decide (st = .closing) && !s.streamRuns i)

/-- OUTPUT_RECORD_FORM for the frame that ended, in ascending streams (R573). -/
def State.formAll (s : State) (frame start : Nat) : State × List OutRec :=
  ((s.streams.map (·.1)).filter s.formsOut).foldl (fun acc i =>
    let (t, r) := acc.1.formOut frame start i
    (t, acc.2 ++ [r])) (s, [])

/-- REBIND and CLOSE take effect (R557, Table 13-10), and a port that has left Up hands its streams on if nothing holds it up any more
(R545). -/
def State.streamBoundary (s : State) : State :=
  let ids := s.streams.map (·.1)
  ((ids.foldl (fun t i => (t.applyRebind i).closeIdle i) s).finishLeave 0).finishLeave 1

/-- After a freeze at once every step, transfer, packet and command that was in flight is discarded (R22, R580, R710). -/
def State.discardFlight (s : State) : State :=
  let s1 := s.grants.foldl (fun t g => t.stepFault g { cause := Status.discarded.code }) s
  { s1.discardCommands with
    orphans := []
    requests := []
    trackers := []
    staging := s1.staging.map (fun c => if c.status.isNone then { c with status := some Status.discarded.code, todo := [], flight := [] } else c) }

/-- Entries past their deadline tick are Withdrawn, with their dependants (R84, R710). -/
def State.withdrawPast (s : State) : State :=
  s.sweepEntries (fun e =>
    if (decide (e.st = .pending) || decide (e.st = .ready)) && decide (e.deadline ≤ s.tb.frameStart) then some (.withdrawn, {}) else none)

/-- A release of a freeze takes effect (R710). -/
def State.releaseBoundary (s : State) : State :=
  if !s.test.release then s
  else
    let s1 := (if s.test.freeze = .atOnce then s.discardFlight else s).withdrawPast
    let s2 : State := { s1 with
      test := { s1.test with freeze := .none, release := false }
      halted := decide (s1.powerState ≠ 1)
      stopped := false }
    (s2.setReg (okey 0xB050 5) 0).feedDrains

/-- A freeze at a frame boundary begins: grants and fetches stop, and the cut is this frame's start (R707, Table 17-8). -/
def State.freezeBoundary (s : State) : State :=
  if s.test.freeze = .asked then
    { s with halted := true, test := { s.test with freeze := .draining, cutFrame := s.tb.frame, cutTime := s.pw.time } }
  else s

/-- Why a die dispatches no entry of the frame that begins: it was not reached or its region is dark, or it is out of service or
its bank layer is in reset (R86, R134, R386, R630). -/
def State.dieRefuses (s : State) (d : Nat) : Option Nat :=
  let x := s.dieOf d
  if s.prick.unreached.contains d || !(s.region (siteOfDie d)).up || x.bankReset then some Status.regionDark.code
  else if !x.up || x.isolated then some Status.discarded.code
  else none

/-- The fixed pricking of the frame that begins becomes entries, Pending; those of a die that takes none are Discarded (R79, R86).
Outside In service it dispatches nothing (R646, R653). -/
def State.distribute (s : State) : State :=
  match s.prick.fixed with
  | none => s
  | some a =>
    if a.frame ≠ s.tb.frame ∨ s.powerState ≠ 1 then s
    else
      let new := a.entries.zipIdx.map (fun e => entryOf s.tb.frame s.tb.frameStart s.tb.frameLength e.2 e.1)
      let s1 : State := { s with entries := s.entries ++ new }
      s1.sweepEntries (fun e =>
        if e.frame = s.tb.frame then (s.dieRefuses e.die).map (fun c => (.discarded, ({ cause := c } : FaultInfo))) else none)

/-- Entries of a frame whose entries are all final leave the sequencer managers. -/
def dropSettled (es : List Entry) : List Entry :=
  let live := (es.filter (fun e => !e.st.final)).map (·.frame)
  es.filter (fun e => live.contains e.frame)

/-- PRICKING_FIX at the start of the frame: the next one's pricking, which an active unit copies to its partner; a standby fixes
later, and so does a joiner for the frame in which it becomes one; a unit that has stepped down fixes none (R77, R497, R507, Tables 12-2
and 12-3). -/
def State.fixBoundary (s : State) : State :=
  if s.pair.role = .standby ∨ s.pair.quiet ∨ s.pair.standbyAt = some (s.tb.frame + 1) then s
  else
    let s1 := s.fixNext s.prick
    match s1.pair.role, s1.prick.fixed with
    | .active, some a => s1.tellMore [.pricking { frame := a.frame, slot := a.slot, repeatable := a.repeatable, entries := a.entries.map PEntry.words }]
    | _, _ => s1

/-- Trims and TrimApplyMode (R422, R424). -/
def State.trimBoundary (s : State) : State :=
  let m := s.reg (okey 0x6201 0)
  let s1 := if s.trimMode = 1 ∨ m = 1 then s.applyAllTrims else s
  { s1 with trimMode := m }

/-- The power cap and every die's operating point; the dies go downward so that the cap lifts one die (R118, R620, R639, R640). -/
def State.pointBoundary (s : State) : State :=
  ((List.range 8).reverse).foldl (fun t d => t.boundaryPoint d) s.capCheck

/-- FRAME_BOUNDARY: the count has reached the end of the frame (R70). The hub forms the output of the frame that ended, carries
out the pair's part, and then what each rule lays at the boundary. -/
def execFrameBoundary (s : State) : Out :=
  let tb := s.tb
  if !tb.begun ∨ tb.count < tb.frameStart + tb.frameLength then .next s
  else
    let s0 : State := { s.advanceFrame with entries := dropSettled s.entries }
    let (s1, outs) := s0.formAll tb.frame tb.frameStart
    let s2 := (s1.pairBoundary tb.frame tb.frameStart outs).streamBoundary
    let s3 := s2.releaseBoundary.freezeBoundary.retentionStop
    let s4 := s3.patternBoundary.distribute.fixBoundary
    let s5 := s4.trimBoundary.pointBoundary.sliceBack
    .next (s5.signal s)

end Sys2Proof.Machine
end

