-- ==== Sys2Proof/Machine/Housekeeping.lean ====
section
/-! DEFINITION. The housekeeping round (R623) and everything that it measures, acts on and reports. Temperatures are in units of
0.125 °C. -/

namespace Sys2Proof.Machine

open Sys2Proof

/-! Sensors (R623 to R627, R395). -/

/-- Sensors by number: 48 of each compute die, 24 of the hub, 64 of the Ground, 4 of each HBM4 stack (Table 15-4). -/
def sensorCount : Nat := 536

def dieSensors (d : Nat) : List Nat := (List.range 48).map (fun i => 48 * d + i)
def hubSensors : List Nat := (List.range 24).map (fun i => 384 + i)
def stackSensors (u : Nat) : List Nat := (List.range 4).map (fun i => 472 + 4 * u + i)

/-- Insert into an ascending list. -/
def insInt (x : Int) : List Int → List Int
  | [] => [x]
  | y :: r => if x ≤ y then x :: y :: r else y :: insInt x r

/-- Twice the median of a list; of an even number the two in the middle are averaged (log entry 51). -/
def median2 (l : List Int) : Int :=
  let m := l.foldr insInt []
  let n := m.length
  m.getD ((n - 1) / 2) 0 + m.getD (n / 2) 0

def maxInt : List Int → Option Int
  | [] => none
  | x :: r => some (r.foldl max x)

/-- The readings of a sensor's neighbours that are not suspect. -/
def State.goodNear (s : State) (x : Sensor) : List Int :=
  (x.near.filter (fun j => !(s.sensor j).suspect)).map (fun j => (s.sensor j).reading)

/-- Judge one sensor on this round's readings: suspect after 8 consecutive rounds more than 6 °C from the median of its neighbours
that are not suspect, and no longer after 64 within 3 °C of it; with fewer than three it is not judged (R625, R626). -/
def Sensor.judge (x : Sensor) (near : List Int) : Sensor :=
  if near.length < 3 then { x with off := 0, within := 0 }
  else
    let far := (2 * x.reading - median2 near).natAbs
    if x.suspect then
      let w := if far ≤ 48 then x.within + 1 else 0
      if 64 ≤ w then { x with suspect := false, off := 0, within := 0 } else { x with within := w }
    else
      let o := if 96 < far then x.off + 1 else 0
      if 8 ≤ o then { x with suspect := true, off := 0, within := 0 } else { x with off := o }

/-- The value of a sensor in the rules: its reading, or for a suspect one the highest of its good neighbours plus 2 °C; where it has
none, no rule states the value, and it is free (R626; log entry 51). -/
def State.sensorValue (s : State) (i : Nat) : Int :=
  let x := s.sensor i
  if x.suspect then
    match maxInt (s.goodNear x) with
    | some m => m + 16
    | none => (Config.freeNat (s.freeCtr + i) : Int)
  else x.reading

/-- Read every sensor and judge it on what the round before left suspect (R623, R625, R626); those of a die whose sideband
interface is out keep their last reading (log entry 61). -/
def State.readSensors (s : State) (r : List Int) : State :=
  let put (f : Nat → Sensor → Sensor) (t : State) : State :=
    { t with sensors := (List.range sensorCount).foldl (fun m i => Tbl.put {} m i (f i (Tbl.get {} t.sensors i))) t.sensors }
  let s1 := put (fun i x => if i < 384 ∧ (s.dieOf (i / 48)).sideOut then x else { x with reading := r.getD i x.reading }) s
  let s2 := put (fun _ x => x.judge (s1.goodNear x)) s1
  let s3 := put (fun i x => { x with values := (s2.sensorValue i :: x.values).take 9 }) s2
  let new := ((List.range sensorCount).filter (fun i => (s3.sensor i).suspect && !(s.sensor i).suspect)).length
  ({ s3 with freeCtr := s3.freeCtr + 1024 }).addReg (okey 0x9140 5) new

/-- Is a value at or above a trip threshold confirmed: by a good neighbour that reads within 6 °C of it, or by the sensor itself, not
suspect, in two consecutive rounds (R627)? `before` holds the readings of the round before. -/
def State.confirmed (s before : State) (limit : Int) (i : Nat) : Bool :=
  let x := s.sensor i
  let v := s.valueOf i
  decide (limit ≤ v) &&
  ((s.goodNear x).any (fun m => decide ((m - v).natAbs ≤ 48)) ||
   (!x.suspect && decide (x.values.length ≥ 2) && decide (limit ≤ (before.sensor i).reading)))

/-- Trips that a list of sensors asks for at a threshold: whether one is confirmed, and how many are not. -/
def State.tripReadings (s before : State) (limit : Int) (l : List Nat) : Bool × Nat :=
  let hot := l.filter (fun i => decide (limit ≤ s.valueOf i))
  (hot.any (s.confirmed before limit), (hot.filter (fun i => !s.confirmed before limit i)).length)

/-- The maximum of a list of sensors (R624). -/
def State.maxOf (s : State) (l : List Nat) : Int := (maxInt (l.map s.valueOf)).getD 0

/-! Thermal actions (R628 to R636). -/

/-- Sensors of a monitored unit: compute die 0 to 7, or the hub, 8. -/
def unitSensors (u : Nat) : List Nat := if u < 8 then dieSensors u else hubSensors

/-- Settings in units of 0.1 °C against rises in units of 0.125 °C. -/
def riseAtLeast (rise : Int) (tenths : Nat) : Bool := decide (8 * (tenths : Int) ≤ 10 * rise)

/-- Record the round's maximum and rise of a unit (R624, R628). -/
def Thermal.measure (t : Thermal) (m : Int) : Thermal :=
  { t with last := some m, rises := (match t.last with | some p => (m - p) :: t.rises | none => t.rises).take 8 }

/-- Thresholds of Table 15-5 as the dictionary holds them. -/
structure Limits where
  warn : Nat
  rate : Nat
  rateRounds : Nat
  window : Nat
  windowRounds : Nat
  junction : Int
  deriving DecidableEq, Repr

def State.limits (s : State) : Limits :=
  { warn := s.reg (okey 0x9110 0), rate := s.reg (okey 0x9111 1), rateRounds := s.reg (okey 0x9111 2),
    window := s.reg (okey 0x9112 1), windowRounds := s.reg (okey 0x9112 2), junction := 8 * (s.reg (okey 0x9120 1) : Int) }

/-- Does a rise alone trip the unit: 6 °C in one round, or the window's sum (Table 15-5)? -/
def Thermal.riseTrips (t : Thermal) (l : Limits) (fresh : Bool) : Bool :=
  fresh && (decide (48 ≤ t.rises.headD 0) || riseAtLeast (t.rises.take l.windowRounds).sum l.window)

/-- Warn and the rate throttle (Table 15-5). -/
def Thermal.rateRule (t : Thermal) (l : Limits) : Thermal :=
  let rise := t.rises.headD 0
  let warn := riseAtLeast rise l.warn
  let start := decide (l.rateRounds ≤ t.rises.length) && (t.rises.take l.rateRounds).all (fun x => riseAtLeast x l.rate)
  let calm := if warn then 0 else t.calm + 1
  if start then { t with warn := warn, rate := true, calm := calm }
  else if t.rate ∧ 8 ≤ calm then { t with warn := warn, rate := false, calm := calm, climb := max t.climb 2 }
  else { t with warn := warn, calm := calm }

/-- The junction throttle, for a unit that runs at `point` as its limits stand (Table 15-5). -/
def Thermal.junctionRule (t : Thermal) (l : Limits) (m : Int) (point : Nat) : Thermal :=
  if l.junction ≤ m then
    let low := min 2 (max t.lowered (point + 1))
    let hotAt2 := if t.lowered = 2 then t.hotAt2 + 1 else t.hotAt2
    { t with lowered := low, hotAt2 := hotAt2, half := t.half || decide (4 ≤ hotAt2), cool := 0 }
  else if m < l.junction - 40 then
    let cool := t.cool + 1
    if 8 ≤ cool ∧ t.lowered ≠ 0 then { t with lowered := 0, hotAt2 := 0, half := false, cool := 0, climb := max t.climb t.lowered }
    else { t with cool := cool }
  else { t with cool := 0 }

/-- Does some rule of Table 15-5 act in this round? -/
def Thermal.acts (t : Thermal) : Bool := t.warn || t.rate || decide (t.lowered ≠ 0)

/-- Count the actions that begin (Table 15-14). -/
def State.countActions (s : State) (a b : Thermal) : State :=
  let s1 := if b.warn then s.bump (okey 0x9140 1) else s
  let s2 := if b.rate ∧ !a.rate then s1.bump (okey 0x9140 2) else s1
  if b.lowered ≠ 0 ∧ a.lowered = 0 then s2.bump (okey 0x9140 3) else s2

/-- THERMAL_THROTTLE on a unit that serves; a die that steps up after a restart waits its second anew (R628, R635). -/
def State.throttleUnit (s : State) (u : Nat) : State :=
  let t := s.thermal u
  let l := s.limits
  let point := if u < 8 then max (s.throttlePoint u) (s.dieOf u).point else 0
  let t1 := (t.rateRule l).junctionRule l (t.last.getD 0) point
  let t2 := if t1.slow && t1.acts then { t1 with climbTick := s.tb.count } else t1
  let s1 := (s.setThermal u t2).countActions t t2
  if u < 8 then s1.throttle u else s1

/-- A tripped die: after 4 further rounds still at 112 °C or more all of it stops, and below 80 °C it is restart pending, for as many
rounds without a break (R631, R634). -/
def State.trippedUnit (s : State) (u : Nat) (sensors : List Nat) (compute : Bool) : State :=
  let t := s.thermal u
  let hotNow := sensors.any (fun i => decide (896 ≤ s.valueOf i))
  let coolNow := sensors.all (fun i => decide (s.valueOf i < 640))
  let hot := if hotNow then t.hot + 1 else 0
  let hard := t.hard || (compute && decide (4 ≤ hot))
  let trip := match t.trip with
    | .tripped => if coolNow then TripSt.pending else .tripped
    | .pending => if coolNow then .pending else .tripped
    | x => x
  let s1 := s.setThermal u { t with hot := hot, hard := hard, trip := trip, rest := if trip = .pending then t.rest + 1 else 0 }
  if hard && !t.hard then
    [2 * u, 2 * u + 1].foldl (fun r p => r.setStore p { r.store p with selfRefresh := true }) s1
  else s1

/-- One compute die's part of the round. -/
def State.dieRound (before s : State) (d : Nat) : State :=
  let first := (s.thermal d).last.isNone
  let s1 := s.setThermal d ((s.thermal d).measure (s.maxOf (dieSensors d)))
  if s1.tripped d then s1.trippedUnit d (dieSensors d) true
  else if !(s1.dieOf d).up then s1
  else
    let (hot, unconfirmed) := s1.tripReadings before 896 (dieSensors d)
    let s2 := s1.addReg (okey 0x9140 6) unconfirmed
    if hot || (s2.thermal d).riseTrips s2.limits (!first) then s2.dieTrip d else s2.throttleUnit d

/-- The hub's part: its trip takes the module to Fault-off (R632). -/
def State.hubRound (before s : State) : State × Bool :=
  let first := (s.thermal 8).last.isNone
  let s1 := s.setThermal 8 ((s.thermal 8).measure (s.maxOf hubSensors))
  let (hot, unconfirmed) := s1.tripReadings before 896 hubSensors
  let s2 := s1.addReg (okey 0x9140 6) unconfirmed
  (s2.throttleUnit 8, hot || (s2.thermal 8).riseTrips s2.limits (!first))

/-- One ring region's part (R409, R634): the region of H trips the module (R632). -/
def State.fieldRound (before s : State) (x : Nat) : State × Bool :=
  if (s.thermal (16 + x)).trip ≠ .none then (s.trippedUnit (16 + x) (groundSensors x) false, false)
  else
    let (hot, unconfirmed) := s.tripReadings before 760 (groundSensors x)
    let s1 := s.addReg (okey 0x9140 6) unconfirmed
    (if hot ∧ x ≠ siteH then s1.regionTrip x else s1, hot && decide (x = siteH))

/-! Rings (R395, R401 to R405, R417). -/

/-- Feedforward and the park code of one ring; in retention the heaters are off (R401, R402, R404, R645). -/
def MicroRing.round (r : MicroRing) (v : Int) (first heated : Bool) : MicroRing :=
  if r.st = .notFitted ∨ r.st = .out then r
  else
    let rate := if first then 0 else ((240 + r.trims.kappa : Nat) : Int) * (v - r.temp)
    let r1 := { r with temp := v, rate := rate }
    if !heated then r1
    else match r.st with
      | .parked => { r1 with heater := r1.coldOffset }
      | .sweeping | .lost => { r1 with heater := heaterClamp ((r.heater : Int) + divRneInt (-r.rate * 5) 72) }
      | _ => r1

/-- RING_FEEDFORWARD for every fitted ring (R401). -/
def State.ringRound (s : State) (first : Bool) : State :=
  let heated := decide (s.powerState ≠ 3)
  let rings := (List.range 12).foldl (fun m x => (siteRings x).foldl (fun n k =>
      Tbl.put {} n k ((Tbl.get {} n k).round (s.valueOf (nearestSensor k)) first heated)) m) s.rings
  { s with rings := rings }

/-- Has a ring drifted by more than CalTempDelta from its CalTemp, with its temperature steady over the last 8 rounds (R417)? -/
def State.ringDrifts (s : State) (k : Nat) : Bool :=
  let r := s.mring k
  let h := (s.sensor (nearestSensor k)).values
  !decide (r.st = .notFitted) && !decide (r.st = .out) &&
  decide (4 * s.reg (okey 0x6200 0) < 5 * (r.temp - 4 * (r.trims.calTemp : Int)).natAbs) &&
  decide (h.length = 9) && decide ((h.headD 0 - h.getLastD 0).natAbs < 8)

/-- One hour in region-time units (R616). -/
def hourUnits : Nat := 57600000000000

/-- Schedule the lanes whose calibration is due, by the temperature of a ring or by the interval (R417). -/
def State.scheduleCals (s : State) : State :=
  siteLanes.foldl (fun t p =>
    let l := t.lane p.1 p.2
    if l.calHot ∨ l.cal ≠ 0 ∨ l.tx = .notFitted ∨ !(t.region p.1).up then t
    else if (laneRings p.1 p.2).any t.ringDrifts then t.setLane p.1 p.2 { l with calDue := true, calHot := true }
    else if decide (l.calTime + t.reg (okey 0x6202 0) * hourUnits ≤ t.pw.time) then t.setLane p.1 p.2 { l with calDue := true }
    else t) s

/-! Memory temperatures, interfaces, lasers, coolant and power. -/

/-- A temperature in °C as an unsigned byte, rounded to nearest even (R141). -/
def degrees (v : Int) : Nat := min 255 (divRneInt v 8).toNat

/-- HotRefresh of the polders and of the tier channels, whose command rate halves above 95 °C (R302, R313). -/
def State.memoryRound (s : State) (r : Readings) : State :=
  let s1 := (List.range 16).foldl (fun t u =>
    let m := (maxInt ((stackSensors u).map (fun i => (t.sensor i).reading))).getD 0
    t.setStore u { t.store u with temp := degrees m, hot := decide (680 < m) }) s
  (List.range 16).foldl (fun t c =>
    match r.dimms[c]? with
    | none => t
    | some (a, b) =>
      if !(t.chan c).power then
        (t.setStore (16 + c) { t.store (16 + c) with hot := false }).setChan c { t.chan c with throttled := false }
      else (t.setStore (16 + c) { t.store (16 + c) with temp := max a b, hot := decide (85 < max a b) }).setChan c
        { t.chan c with throttled := decide (95 < max a b) }) s1

/-- A die whose die port is out of service is isolated: its running steps are discarded with the cause of a die isolated while they
run (Table 5-18), and its field takes part in no bride (R43, R134, R659). -/
def State.isolateDie (s : State) (d : Nat) : State :=
  let x := siteOfDie d
  let s1 := (s.setDie d { s.dieOf d with isolated := true, portOut := true }).discardDie d { cause := Status.coreLost.code }
  let s2 := (s1.setRegion x { s1.region x with st := .dark, isolated := true, heard := List.range 12 }).parkRegion x
  let s3 := (s2.migs.filter (fun m => decide (m.phase < 5) && s2.migDark m)).foldl (fun t m => t.endDark m) s2
  ((((s3.dropCals x).calDrop x).holdTransfers).dropSlices (onDie d)).dropFresh

/-- INTERFACE_OUT_OF_SERVICE (R43): a polder whose interface is out keeps its contents for the ledger's migrations and answers no
access (R270); a bank control interface takes its core by rung 4 (R126); a sideband interface takes the readings of its die's
sensors with it, and its site reads degraded (log entry 61). -/
def State.ifaceOut (s : State) (i : Conn) : State :=
  match i with
  | .bankControl d m => s.ladder (coreKey d.val m.val) .control
  | .polder p _ =>
    if (s.store p.val).out then s
    else
      let t := s.dropSlices (fun u => match u with | .region q _ => decide (q.val = p.val) | _ => false)
      t.setStore p.val { t.store p.val with out := true }
  | .diePort d _ _ => if (s.dieOf d.val).portOut then s else s.isolateDie d.val
  | .sideband d _ => (s.setDie d.val { s.dieOf d.val with sideOut := true }).reportSite (siteOfDie d.val)

/-- The die whose stack holds a connection. -/
def connDie : Conn → Nat
  | .bankControl d _ => d.val
  | .polder p _ => p.val / 2
  | .diePort d _ _ => d.val
  | .sideband d _ => d.val

/-- The number under which a die counts the lost connections of a repair unit (Table 1-4). -/
def connKey : Conn → Nat
  | .bankControl _ m => m.val
  | .polder p b => 100 + 85 * (p.val % 2) + b.val
  | .diePort _ r b => 300 + 88 * r.val + b.val
  | .sideband _ b => 500 + b.val

/-- Spares of a repair unit (Tables 1-4 and 1-7): 8 of a bank control interface, and one of each block. -/
def connSpares : Conn → Nat
  | .bankControl _ _ => 8
  | _ => 1

/-- Is a connection still watched: not one of a mapped-out core's bank control interface (R735)? -/
def State.watches (s : State) : Conn → Bool
  | .bankControl d m => !(s.core (coreKey d.val m.val)).unwatched
  | _ => true

/-- A connection is lost: a spare of its repair unit takes its place and the field map records it, and where the unit has lost more
than its spares its whole interface leaves service (R35, R43, R49, R126, R654). -/
def State.loseConn (s : State) (c : Conn) : State :=
  if !s.watches c then s
  else
    let x := s.dieOf (connDie c)
    let n := Tbl.get 0 x.connsLost (connKey c) + 1
    let t := s.setDie (connDie c) { x with connsLost := Tbl.put 0 x.connsLost (connKey c) n }
    if n ≤ connSpares c then t.mapRecord (.spareConn (connDie c) (connKey c)) else t.ifaceOut c

/-- The bank layers in reset this round: a die whose bank layer enters reset has its entries discarded, running, Ready and Pending
(R36, R86, R230). -/
def State.bankLayers (s : State) (l : List (Fin 8)) : State :=
  (List.finRange 8).foldl (fun t d =>
    let x := t.dieOf d.val
    let now := l.contains d
    let u := t.setDie d.val { x with bankReset := now }
    if now && !x.bankReset then u.discardDie d.val { cause := Status.regionDark.code } else u) s

/-- A laser module's shares and tone: flagged 1.5 dB below its bring-up share at a tap; ramped off and failed 2.5 dB above it, or
after 8 rounds without its tone at any tap, where a share more than 6 dB down counts as lost (R358, R724). -/
def State.laserRound (s : State) (m : Nat) (shares : List Int) (tone : Bool) : State :=
  let l := s.laser m
  let share : Tbl Int := shares.zipIdx.foldl (fun t e => Tbl.put 0 t e.2 e.1) l.share
  let drop (i : Nat) : Int := match l.base with | some b => Tbl.get 0 b i - Tbl.get 0 share i | none => 0
  let seen := tone && (List.range 16).any (fun i => decide (drop i ≤ 600))
  let silent := if l.st.supplies && !seen then l.silent + 1 else 0
  let s1 := s.setLaser m { l with share := share, silent := silent }
  if !l.st.supplies then s1
  else
    let taps := List.range (min 16 shares.length)
    if 8 ≤ silent ∨ taps.any (fun i => decide (drop i < -250)) then s1.laserFail m .failed
    else
      let st : LaserSt := if taps.any (fun i => decide (150 < drop i)) then .flagged else .supplying
      s1.laserPut m { s1.laser m with st := st }

/-- Two's complement code of a 16-bit figure. -/
def code16 (x : Int) : Nat := (x % 65536).toNat

/-- The laser modules and the taps as reported (Table 9-12). -/
def State.lightRound (s : State) (r : Readings) : State :=
  let s1 := r.taps.zipIdx.foldl (fun t e => if e.2 < 16 then t.setReg (okey 0x6002 (e.2 + 1)) (code16 e.1) else t) s
  let s2 := r.shares.zipIdx.foldl (fun t e =>
    if e.2 < 16 then (t.setReg (okey 0x6005 (2 * e.2 + 1)) (code16 e.1.1)).setReg (okey 0x6005 (2 * e.2 + 2)) (code16 e.1.2) else t) s1
  (s2.laserRound 0 (r.shares.map (·.1)) r.toneA).laserRound 1 (r.shares.map (·.2)) r.toneB

/-- Coolant: CoolantWarm and CoolantFlowLow, and a low flow holds every die at point 2 after 1 s, until 10 s of 3.0 L/min or more
(R641). -/
def State.coolantRound (s : State) (r : Readings) : State :=
  let low := if r.flow < 200 then s.pw.flowLow + 1 else 0
  let good := if 300 ≤ r.flow then s.pw.flowGood + 1 else 0
  let hold := if s.pw.flowHold then decide (good < 40000) else decide (4000 ≤ low)
  let s1 := s.setPw (fun p => { p with flowLow := low, flowGood := good, flowHold := hold })
  let flags := (if 400 < r.inlet then 1 else 0) + (if r.flow < 300 then 2 else 0)
  let s2 := (((s1.setReg (okey 0x9131 1) r.inlet).setReg (okey 0x9131 2) r.outlet).setReg (okey 0x9131 3) r.flow).setReg (okey 0x9131 4) flags
  if hold && !s.pw.flowHold then (List.range 8).foldl (fun t d => t.throttle d) s2 else s2

/-- Input power and voltage: the 8-round average, rounded to nearest even (R141), and the time that it has stayed 100 W below the effective cap;
PowerCapUnmet where no die is left to lower (R639, R640). -/
def State.powerRound (s : State) (r : Readings) : State :=
  let ws := (r.watts :: s.pw.watts).take 8
  let under := if ws.length = 8 ∧ ws.sum + 800 ≤ 8 * s.effectiveCap then s.pw.under + 1 else 0
  let s1 := s.setPw (fun p => { p with watts := ws, under := under, dieWatts := r.dieWatts })
  let avg := (divRneInt ws.sum ws.length).toNat
  let s2 := (s1.setReg (okey 0x9301 0) (min 65535 avg)).setReg (okey 0x9302 0) r.volts
  let s3 := (List.range 31).foldl (fun t i => t.setReg (okey 0x9310 (i + 1)) (r.rails.getD i 0)) s2
  let above := (List.range 8).any (fun d => s3.clocked d && decide ((s3.dieOf d).point < 2))
  if ws.length = 8 ∧ 8 * s.effectiveCap < ws.sum ∧ !above then s3.stick keyFlags 2 else s3

/-! Reports (R53, R390, R414, R649). -/

/-- The ThermalState code of a unit's control. -/
def Thermal.code (t : Thermal) : Nat :=
  match t.trip with
  | .tripped => 4
  | .pending => 5
  | .latched => 6
  | .none => if t.lowered ≠ 0 then 3 else if t.rate then 2 else if t.warn then 1 else 0

/-- The monitored unit of a site: its die, or the hub. -/
def siteUnit (x : Nat) : Option Nat := match dieAt x with | some d => some d | none => if x = siteH then some 8 else none

/-- Sensors of a site (Table 15-14). -/
def siteSensors (x : Nat) : List Nat :=
  groundSensors x ++ (match dieAt x with
    | some d => dieSensors d ++ stackSensors (2 * d) ++ stackSensors (2 * d + 1)
    | none => if x = siteH then hubSensors else [])

def State.siteSuspects (s : State) (x : Nat) : Nat := ((siteSensors x).filter (fun i => (s.sensor i).suspect)).length

/-- DieThermal of a site (Table 15-13). -/
def State.thermalWord (s : State) (x : Nat) : Nat :=
  let field := (s.thermal (16 + x)).code
  let own : Thermal := match siteUnit x with | some u => s.thermal u | none => {}
  let state := if s.filler x then 7 else max own.code field
  let rise := max (-127) (min 127 (divRneInt (own.rises.headD 0) 2))
  state * 2 ^ 29 + min 31 (s.siteSuspects x) * 2 ^ 24 + (rise % 256).toNat * 2 ^ 16 +
  (match siteUnit x with | some u => degrees (s.maxOf (unitSensors u)) | none => 0) * 2 ^ 8 +
  degrees (s.maxOf (groundSensors x))

/-- LaneState of a lane (Table 9-11). -/
def Lane.word (l : Lane) : Nat :=
  l.tx.code * 2 ^ 29 + l.txPeer % 16 * 2 ^ 25 + l.txGroup % 4 * 2 ^ 23 + l.rx.code * 2 ^ 20 + l.rxPeer % 16 * 2 ^ 16 + min 255 l.retrains * 2 ^ 8

/-- Every trim word, in ascending ring keys. -/
def State.allTrimWords (s : State) : Tbl Nat :=
  ((List.range 16128).map (fun k => (k, s.trimWord (k / 1344) (k % 1344)))).filter (fun e => decide (e.2 ≠ 0))

/-- The hub rewrites what it reports once per round. -/
def State.reports (s : State) (r : Readings) : State :=
  let s1 := (List.range 12).foldl (fun t x =>
    (t.setReg (okey 0x9130 (x + 1)) (s.thermalWord x)).setReg (okey 0x9132 (x + 1)) (s.siteSuspects x)) s
  let s2 : State := { s1 with trimWords := s1.allTrimWords }
  let s3 := (List.range 4).foldl (fun t i => t.setReg (okey 0x9133 (i + 1)) (r.package.getD i 0)) s2
  let s4 := siteLanes.foldl (fun t p => t.setReg (okey (0x6100 + p.1) (p.2 + 1)) (t.lane p.1 p.2).word) s3
  let s5 := s4.reportOsc
  let s6 := if s5.paired then s5.pairReport else s5
  if 10 ≤ bits (s6.reg keyBootState) 27 24 then (List.range 12).foldl (fun t x => t.reportSite x) s6 else s6

/-- ALERT_N is low in Fault-off, while something is tripped, restart pending or latched, and without input (R721). -/
def State.alertLow (s : State) : Bool :=
  decide (s.powerState = 5) || decide (bits (s.reg keyBootState) 27 24 = 0) || s.thermals.any (fun e => decide (e.2.trip ≠ .none))

/-- What a round does once no trip of the hub or of H's rings has stopped the module; moves that a rate limit held back go on (R335,
section 7.10). -/
def State.roundActs (before s : State) (r : Readings) (first : Bool) : State :=
  let s1 := (List.range 8).foldl (fun t d => State.dieRound before t d) s
  let s2 := (List.range 12).foldl (fun t x => t.dueFullCal x) (s1.ringRound first).scheduleCals
  let s3 := r.lost.foldl (fun t c => t.loseConn c) ((s2.memoryRound r).bankLayers r.bankResets)
  let s4 := ((s3.lightRound r).coolantRound r).powerRound r
  let s5 : State := if s4.powerState = 1 then { s4 with test := { s4.test with clock := s4.test.clock + 1 } } else s4
  let s6 := ((s5.feedAll).reports r).setDap (fun d => { d with sent := [] })
  s6.notifyAll

/-- HOUSEKEEPING_ROUND: every 250 µs the sequencer reads every sensor, acts and reports (R623). It runs from the first step of
bring-up on, and not in Fault-off (R637). -/
def execHousekeepingRound (r : Readings) (s : State) : Out :=
  if s.powerState = 5 ∨ bits (s.reg keyBootState) 27 24 = 0 then .next s
  else
    let first := (s.thermal 8).last.isNone
    let s1 := s.readSensors r.sensors
    let (s2, hubTrips) := State.hubRound s s1
    let (s3, fieldTrips) := (List.range 12).foldl (fun acc x =>
      let (t, b) := State.fieldRound s acc.1 x
      (t, acc.2 || b)) (s2, false)
    if hubTrips || fieldTrips then .next (s3.faultOff .hubTrip) else .next (State.roundActs s s3 r first)

end Sys2Proof.Machine
end

