-- ==== Sys2Proof/Machine/Dispatch.lean ====
section
/-! DEFINITION. The dispatch: one arm per constructor of Instr, each one direct call of its meaning. -/

namespace Sys2Proof.Machine

open Sys2Proof

/-- The effect of a command on everything but the queue. -/
def exec (i : Instr) (s : State) : Host.Outcome State Fault Refusal :=
  match i with
  | .powerApplied => Sys2Proof.Machine.execPowerApplied s
  | .bringUp env => Sys2Proof.Machine.execBringUp env s
  | .laserWaitTimeout => Sys2Proof.Machine.execLaserWaitTimeout s
  | .wordClockEdge period err offset => Sys2Proof.Machine.execWordClockEdge period err offset s
  | .ppsEdge interval tenMHz offset => Sys2Proof.Machine.execPpsEdge interval tenMHz offset s
  | .mediaTick => Sys2Proof.Machine.execMediaTick s
  | .ptpCorrelationRecord port word2 residual offset => Sys2Proof.Machine.execPtpCorrelationRecord port word2 residual offset s
  | .sourceLost src => Sys2Proof.Machine.execSourceLost src s
  | .sourceSwitch src => Sys2Proof.Machine.execSourceSwitch src s
  | .acquireTimeout => Sys2Proof.Machine.execAcquireTimeout s
  | .holdoverLimitExpiry => Sys2Proof.Machine.execHoldoverLimitExpiry s
  | .mediaReferenceSourceWrite v => Sys2Proof.Machine.execMediaReferenceSourceWrite v s
  | .firstFrameBegin elapsed => Sys2Proof.Machine.execFirstFrameBegin elapsed s
  | .frameBoundary => Sys2Proof.Machine.execFrameBoundary s
  | .frameLengthWrite v => Sys2Proof.Machine.execFrameLengthWrite v s
  | .prickingDoorbell port slot => Sys2Proof.Machine.execPrickingDoorbell port slot s
  | .entryStartOffset frame idx => Sys2Proof.Machine.execEntryStartOffset frame idx s
  | .coreGrant die => Sys2Proof.Machine.execCoreGrant die s
  | .deadlineTick die => Sys2Proof.Machine.execDeadlineTick die s
  | .stepRunLimit die => Sys2Proof.Machine.execStepRunLimit die s
  | .instructionIssue die core => Sys2Proof.Machine.execInstructionIssue die core s
  | .instructionComplete die core unit pos => Sys2Proof.Machine.execInstructionComplete die core unit pos s
  | .rowPortPauseEnd die phys => Sys2Proof.Machine.execRowPortPauseEnd die phys s
  | .bankCopyEnd die phys doubles => Sys2Proof.Machine.execBankCopyEnd die phys doubles s
  | .arbiterWeightUpdate die => Sys2Proof.Machine.execArbiterWeightUpdate die s
  | .diePortWeightReport die => Sys2Proof.Machine.execDiePortWeightReport die s
  | .dieOperatingPointWrite die v => Sys2Proof.Machine.execDieOperatingPointWrite die v s
  | .synchronisedChange => Sys2Proof.Machine.execSynchronisedChange s
  | .vcoreRampStart die => Sys2Proof.Machine.execVcoreRampStart die s
  | .vcoreSettleCheck die settled => Sys2Proof.Machine.execVcoreSettleCheck die settled s
  | .rowin die core errs => Sys2Proof.Machine.execRowin die core errs s
  | .rowout die core errs => Sys2Proof.Machine.execRowout die core errs s
  | .rowinX die core errs => Sys2Proof.Machine.execRowinX die core errs s
  | .rowoutX die core errs => Sys2Proof.Machine.execRowoutX die core errs s
  | .mma die core engine => Sys2Proof.Machine.execMma die core engine s
  | .mma4 die core => Sys2Proof.Machine.execMma4 die core s
  | .drain die core engine => Sys2Proof.Machine.execDrain die core engine s
  | .accload die core engine => Sys2Proof.Machine.execAccload die core engine s
  | .add die core => Sys2Proof.Machine.execAdd die core s
  | .sub die core => Sys2Proof.Machine.execSub die core s
  | .mul die core => Sys2Proof.Machine.execMul die core s
  | .fma die core => Sys2Proof.Machine.execFma die core s
  | .max die core => Sys2Proof.Machine.execMax die core s
  | .min die core => Sys2Proof.Machine.execMin die core s
  | .abs die core => Sys2Proof.Machine.execAbs die core s
  | .cvt die core => Sys2Proof.Machine.execCvt die core s
  | .tomx die core => Sys2Proof.Machine.execTomx die core s
  | .scale2 die core => Sys2Proof.Machine.execScale2 die core s
  | .gather die core => Sys2Proof.Machine.execGather die core s
  | .rope die core => Sys2Proof.Machine.execRope die core s
  | .treemask die core => Sys2Proof.Machine.execTreemask die core s
  | .vectorCopy die core => Sys2Proof.Machine.execVectorCopy die core s
  | .exp die core => Sys2Proof.Machine.execExp die core s
  | .recip die core => Sys2Proof.Machine.execRecip die core s
  | .rsqrt die core => Sys2Proof.Machine.execRsqrt die core s
  | .silu die core => Sys2Proof.Machine.execSilu die core s
  | .gelu die core => Sys2Proof.Machine.execGelu die core s
  | .softmax die core => Sys2Proof.Machine.execSoftmax die core s
  | .rmsnorm die core => Sys2Proof.Machine.execRmsnorm die core s
  | .layernorm die core => Sys2Proof.Machine.execLayernorm die core s
  | .redsum die core => Sys2Proof.Machine.execRedsum die core s
  | .redmax die core => Sys2Proof.Machine.execRedmax die core s
  | .topk die core => Sys2Proof.Machine.execTopk die core s
  | .sample die core => Sys2Proof.Machine.execSample die core s
  | .treeverify die core => Sys2Proof.Machine.execTreeverify die core s
  | .get die core queue errs => Sys2Proof.Machine.execGet die core queue errs s
  | .put die core queue errs => Sys2Proof.Machine.execPut die core queue errs s
  | .putf die core queue => Sys2Proof.Machine.execPutf die core queue s
  | .mcast die core queue => Sys2Proof.Machine.execMcast die core queue s
  | .atomic die core queue => Sys2Proof.Machine.execAtomic die core queue s
  | .copy die core queue => Sys2Proof.Machine.execCopy die core queue s
  | .transferComplete die core queue pos which data => Sys2Proof.Machine.execTransferComplete die core queue pos which data s
  | .waitpin die core => Sys2Proof.Machine.execWaitpin die core s
  | .semadd die core => Sys2Proof.Machine.execSemadd die core s
  | .semwait die core => Sys2Proof.Machine.execSemwait die core s
  | .fence die core => Sys2Proof.Machine.execFence die core s
  | .waitmem die core => Sys2Proof.Machine.execWaitmem die core s
  | .waitmemPoll die core => Sys2Proof.Machine.execWaitmemPoll die core s
  | .nop die core => Sys2Proof.Machine.execNop die core s
  | .endStep die core => Sys2Proof.Machine.execEndStep die core s
  | .br die core => Sys2Proof.Machine.execBr die core s
  | .brc die core => Sys2Proof.Machine.execBrc die core s
  | .iadd die core => Sys2Proof.Machine.execIadd die core s
  | .iset die core => Sys2Proof.Machine.execIset die core s
  | .iload die core => Sys2Proof.Machine.execIload die core s
  | .trap die core => Sys2Proof.Machine.execTrap die core s
  | .patternLoad => Sys2Proof.Machine.execPatternLoad s
  | .patternUnload => Sys2Proof.Machine.execPatternUnload s
  | .patternImageFree die => Sys2Proof.Machine.execPatternImageFree die s
  | .patrolScrub polder lines errs => Sys2Proof.Machine.execPatrolScrub polder lines errs s
  | .ledgerEpochDrain => Sys2Proof.Machine.execLedgerEpochDrain s
  | .ledgerQueueDoorbell port v => Sys2Proof.Machine.execLedgerQueueDoorbell port v s
  | .map => Sys2Proof.Machine.execMap s
  | .unmap => Sys2Proof.Machine.execUnmap s
  | .protect => Sys2Proof.Machine.execProtect s
  | .migrate => Sys2Proof.Machine.execMigrate s
  | .unmapstream => Sys2Proof.Machine.execUnmapstream s
  | .migrationPhaseEnd index => Sys2Proof.Machine.execMigrationPhaseEnd index s
  | .selfRefreshEntry polder => Sys2Proof.Machine.execSelfRefreshEntry polder s
  | .channelSelfRefresh chan => Sys2Proof.Machine.execChannelSelfRefresh chan s
  | .presenceDetect chan => Sys2Proof.Machine.execPresenceDetect chan s
  | .presenceRemoved chan => Sys2Proof.Machine.execPresenceRemoved chan s
  | .spdRead chan d => Sys2Proof.Machine.execSpdRead chan d s
  | .channelTrainingEnd chan pass => Sys2Proof.Machine.execChannelTrainingEnd chan pass s
  | .i3cBusLoss chan => Sys2Proof.Machine.execI3cBusLoss chan s
  | .channelDrain => Sys2Proof.Machine.execChannelDrain s
  | .discover => Sys2Proof.Machine.execDiscover s
  | .drainComplete chan => Sys2Proof.Machine.execDrainComplete chan s
  | .powerEnableOff chan => Sys2Proof.Machine.execPowerEnableOff chan s
  | .stagingQueueDoorbell port v => Sys2Proof.Machine.execStagingQueueDoorbell port v s
  | .stagein errs => Sys2Proof.Machine.execStagein errs s
  | .stageout errs => Sys2Proof.Machine.execStageout errs s
  | .stagingComplete pos => Sys2Proof.Machine.execStagingComplete pos s
  | .leasePeriod => Sys2Proof.Machine.execLeasePeriod s
  | .leaseRequest dst src backlog multicast => Sys2Proof.Machine.execLeaseRequest dst src backlog multicast s
  | .leaseGrant src => Sys2Proof.Machine.execLeaseGrant src s
  | .leaseConfirm dst => Sys2Proof.Machine.execLeaseConfirm dst s
  | .identityWord at_ word => Sys2Proof.Machine.execIdentityWord at_ word s
  | .identityReport => Sys2Proof.Machine.execIdentityReport s
  | .pathTrainingEnd src dst failed => Sys2Proof.Machine.execPathTrainingEnd src dst failed s
  | .laserRelease m => Sys2Proof.Machine.execLaserRelease m s
  | .laserStart m => Sys2Proof.Machine.execLaserStart m s
  | .laserRampEnd m => Sys2Proof.Machine.execLaserRampEnd m s
  | .laserLoss m => Sys2Proof.Machine.execLaserLoss m s
  | .laserLossBoth => Sys2Proof.Machine.execLaserLossBoth s
  | .laserSeatReport m seated => Sys2Proof.Machine.execLaserSeatReport m seated s
  | .regionReset cause => Sys2Proof.Machine.execRegionReset cause s
  | .regionDarkNotice at_ x => Sys2Proof.Machine.execRegionDarkNotice at_ x s
  | .regionEndpointReset x => Sys2Proof.Machine.execRegionEndpointReset x s
  | .regionResetRelease x => Sys2Proof.Machine.execRegionResetRelease x s
  | .regionUpNotice x => Sys2Proof.Machine.execRegionUpNotice x s
  | .regionReturnTimeout x => Sys2Proof.Machine.execRegionReturnTimeout x s
  | .dykeGuestPacket g p => Sys2Proof.Machine.execDykeGuestPacket g p s
  | .dykeWindowWrite g sub v => Sys2Proof.Machine.execDykeWindowWrite g sub v s
  | .housekeepingRound r => Sys2Proof.Machine.execHousekeepingRound r s
  | .housekeepingMissed dies hub => Sys2Proof.Machine.execHousekeepingMissed dies hub s
  | .lockInUpdate site slot err => Sys2Proof.Machine.execLockInUpdate site slot err s
  | .ringLockAchieved site slot heater line => Sys2Proof.Machine.execRingLockAchieved site slot heater line s
  | .laneCalibrationStart site n => Sys2Proof.Machine.execLaneCalibrationStart site n s
  | .laneCalibrationEnd site n eyes => Sys2Proof.Machine.execLaneCalibrationEnd site n eyes s
  | .laneCalibrationCommand => Sys2Proof.Machine.execLaneCalibrationCommand s
  | .fullCalibrationCommand => Sys2Proof.Machine.execFullCalibrationCommand s
  | .ringSelect sub v => Sys2Proof.Machine.execRingSelect sub v s
  | .read p errs => Sys2Proof.Machine.execRead p errs s
  | .write p => Sys2Proof.Machine.execWrite p s
  | .flag p => Sys2Proof.Machine.execFlag p s
  | .invalidate p => Sys2Proof.Machine.execInvalidate p s
  | .probe p => Sys2Proof.Machine.execProbe p s
  | .readresp p => Sys2Proof.Machine.execReadresp p s
  | .writeack p => Sys2Proof.Machine.execWriteack p s
  | .flagack p => Sys2Proof.Machine.execFlagack p s
  | .atomicresp p => Sys2Proof.Machine.execAtomicresp p s
  | .triggerresp p => Sys2Proof.Machine.execTriggerresp p s
  | .invalack p => Sys2Proof.Machine.execInvalack p s
  | .proberesp p => Sys2Proof.Machine.execProberesp p s
  | .responseTimeout source seq => Sys2Proof.Machine.execResponseTimeout source seq s
  | .busyResend source seq => Sys2Proof.Machine.execBusyResend source seq s
  | .flagEntryTimeout dest source phase => Sys2Proof.Machine.execFlagEntryTimeout dest source phase s
  | .replyCacheGuardEnd site => Sys2Proof.Machine.execReplyCacheGuardEnd site s
  | .add32 p => Sys2Proof.Machine.execAdd32 p s
  | .add64 p => Sys2Proof.Machine.execAdd64 p s
  | .swap32 p => Sys2Proof.Machine.execSwap32 p s
  | .swap64 p => Sys2Proof.Machine.execSwap64 p s
  | .cas32 p => Sys2Proof.Machine.execCas32 p s
  | .cas64 p => Sys2Proof.Machine.execCas64 p s
  | .umax32 p => Sys2Proof.Machine.execUmax32 p s
  | .umax64 p => Sys2Proof.Machine.execUmax64 p s
  | .umin32 p => Sys2Proof.Machine.execUmin32 p s
  | .umin64 p => Sys2Proof.Machine.execUmin64 p s
  | .or32 p => Sys2Proof.Machine.execOr32 p s
  | .or64 p => Sys2Proof.Machine.execOr64 p s
  | .and32 p => Sys2Proof.Machine.execAnd32 p s
  | .and64 p => Sys2Proof.Machine.execAnd64 p s
  | .ping p => Sys2Proof.Machine.execPing p s
  | .raiseFence p => Sys2Proof.Machine.execRaiseFence p s
  | .flushLineCache p => Sys2Proof.Machine.execFlushLineCache p s
  | .hostProcedure p => Sys2Proof.Machine.execHostProcedure p s
  | .claimFenceWrite sub v => Sys2Proof.Machine.execClaimFenceWrite sub v s
  | .lineCacheFlush v => Sys2Proof.Machine.execLineCacheFlush v s
  | .routeLoad => Sys2Proof.Machine.execRouteLoad s
  | .routeSwitch => Sys2Proof.Machine.execRouteSwitch s
  | .epochFree late => Sys2Proof.Machine.execEpochFree late s
  | .pairLinkUp lanes => Sys2Proof.Machine.execPairLinkUp lanes s
  | .pairLinkDown => Sys2Proof.Machine.execPairLinkDown s
  | .helloTimer => Sys2Proof.Machine.execHelloTimer s
  | .hello h => Sys2Proof.Machine.execHello h s
  | .pricking c => Sys2Proof.Machine.execPricking c s
  | .commit record => Sys2Proof.Machine.execCommit record s
  | .resync c => Sys2Proof.Machine.execResync c s
  | .resyncEnd stream => Sys2Proof.Machine.execResyncEnd stream s
  | .claim n => Sys2Proof.Machine.execClaim n s
  | .yield frame => Sys2Proof.Machine.execYield frame s
  | .kat m => Sys2Proof.Machine.execKat m s
  | .joinTimeout => Sys2Proof.Machine.execJoinTimeout s
  | .standbyPrickingFix => Sys2Proof.Machine.execStandbyPrickingFix s
  | .commitHoldExpiry => Sys2Proof.Machine.execCommitHoldExpiry s
  | .pingWaitExpiry => Sys2Proof.Machine.execPingWaitExpiry s
  | .katInterval => Sys2Proof.Machine.execKatInterval s
  | .katResultTimeout => Sys2Proof.Machine.execKatResultTimeout s
  | .switchover => Sys2Proof.Machine.execSwitchover s
  | .rejoin => Sys2Proof.Machine.execRejoin s
  | .sqDoorbell port sq v => Sys2Proof.Machine.execSqDoorbell port sq v s
  | .sqFetch => Sys2Proof.Machine.execSqFetch s
  | .ingress port data => Sys2Proof.Machine.execIngress port data s
  | .openStream port => Sys2Proof.Machine.execOpenStream port s
  | .closeStream port => Sys2Proof.Machine.execCloseStream port s
  | .sampling port => Sys2Proof.Machine.execSampling port s
  | .statewrite port data => Sys2Proof.Machine.execStatewrite port data s
  | .stateread port => Sys2Proof.Machine.execStateread port s
  | .memwrite port data => Sys2Proof.Machine.execMemwrite port data s
  | .memread port => Sys2Proof.Machine.execMemread port s
  | .rebind port => Sys2Proof.Machine.execRebind port s
  | .portEnable port v => Sys2Proof.Machine.execPortEnable port v s
  | .portDisable port v => Sys2Proof.Machine.execPortDisable port v s
  | .linkDown port => Sys2Proof.Machine.execLinkDown port s
  | .perst port low => Sys2Proof.Machine.execPerst port low s
  | .waitLimitExpiry stream => Sys2Proof.Machine.execWaitLimitExpiry stream s
  | .sqDisable port sq => Sys2Proof.Machine.execSqDisable port sq s
  | .ringEnable port ring count size => Sys2Proof.Machine.execRingEnable port ring count size s
  | .ringDisable port ring => Sys2Proof.Machine.execRingDisable port ring s
  | .consumerIndexWrite port ring v => Sys2Proof.Machine.execConsumerIndexWrite port ring v s
  | .irqHoldoffEnd port ring => Sys2Proof.Machine.execIrqHoldoffEnd port ring s
  | .bar2Write port => Sys2Proof.Machine.execBar2Write port s
  | .prickingSlotWrite port slot word v => Sys2Proof.Machine.execPrickingSlotWrite port slot word v s
  | .dapRead port frame => Sys2Proof.Machine.execDapRead port frame s
  | .dapWrite port frame => Sys2Proof.Machine.execDapWrite port frame s
  | .dapReadrecord port frame => Sys2Proof.Machine.execDapReadrecord port frame s
  | .dapOpen port frame => Sys2Proof.Machine.execDapOpen port frame s
  | .dapAuth port frame => Sys2Proof.Machine.execDapAuth port frame s
  | .dapClose port frame => Sys2Proof.Machine.execDapClose port frame s
  | .dapWatch port frame => Sys2Proof.Machine.execDapWatch port frame s
  | .sessionPendingExpiry session => Sys2Proof.Machine.execSessionPendingExpiry session s
  | .sessionIdleExpiry session => Sys2Proof.Machine.execSessionIdleExpiry session s
  | .bar4Go port => Sys2Proof.Machine.execBar4Go port s
  | .accessKeyWrite level sub v => Sys2Proof.Machine.execAccessKeyWrite level sub v s
  | .networkConfigApply => Sys2Proof.Machine.execNetworkConfigApply s
  | .fieldSealArm v => Sys2Proof.Machine.execFieldSealArm v s
  | .fieldSealConfirm v => Sys2Proof.Machine.execFieldSealConfirm v s
  | .fieldSealArmExpiry => Sys2Proof.Machine.execFieldSealArmExpiry s
  | .restoreDefaults v => Sys2Proof.Machine.execRestoreDefaults v s
  | .registerWrite target => Sys2Proof.Machine.execRegisterWrite target s
  | .oscillatorLoss which => Sys2Proof.Machine.execOscillatorLoss which s
  | .oscillatorSwitch => Sys2Proof.Machine.execOscillatorSwitch s
  | .clockFault => Sys2Proof.Machine.execClockFault s
  | .droopStretch region sixteenths => Sys2Proof.Machine.execDroopStretch region sixteenths s
  | .syncPulse drift => Sys2Proof.Machine.execSyncPulse drift s
  | .dieRestart die => Sys2Proof.Machine.execDieRestart die s
  | .thermalTripClear v => Sys2Proof.Machine.execThermalTripClear v s
  | .inputLow => Sys2Proof.Machine.execInputLow s
  | .inputUndervoltage => Sys2Proof.Machine.execInputUndervoltage s
  | .inputOvervoltage => Sys2Proof.Machine.execInputOvervoltage s
  | .inputRestored => Sys2Proof.Machine.execInputRestored s
  | .railFault => Sys2Proof.Machine.execRailFault s
  | .faultOffRestart => Sys2Proof.Machine.execFaultOffRestart s
  | .enterRetention => Sys2Proof.Machine.execEnterRetention s
  | .retentionEntryEnd => Sys2Proof.Machine.execRetentionEntryEnd s
  | .wake => Sys2Proof.Machine.execWake s
  | .wakeEnd => Sys2Proof.Machine.execWakeEnd s
  | .recoveryLength v => Sys2Proof.Machine.execRecoveryLength v s
  | .recoveryOffset v => Sys2Proof.Machine.execRecoveryOffset v s
  | .recoveryPiece piece => Sys2Proof.Machine.execRecoveryPiece piece s
  | .recoveryVerify v => Sys2Proof.Machine.execRecoveryVerify v s
  | .updateStage => Sys2Proof.Machine.execUpdateStage s
  | .updateApply => Sys2Proof.Machine.execUpdateApply s
  | .updateCommit => Sys2Proof.Machine.execUpdateCommit s
  | .updateRevert => Sys2Proof.Machine.execUpdateRevert s
  | .updateResume => Sys2Proof.Machine.execUpdateResume s
  | .updateSlice => Sys2Proof.Machine.execUpdateSlice s
  | .imageAliveTimeout => Sys2Proof.Machine.execImageAliveTimeout s
  | .sliceRetryTimeout => Sys2Proof.Machine.execSliceRetryTimeout s
  | .autoCommit => Sys2Proof.Machine.execAutoCommit s
  | .getVersion port => Sys2Proof.Machine.execGetVersion port s
  | .getCapabilities port => Sys2Proof.Machine.execGetCapabilities port s
  | .negotiateAlgorithms port offered => Sys2Proof.Machine.execNegotiateAlgorithms port offered s
  | .getDigests port => Sys2Proof.Machine.execGetDigests port s
  | .getCertificate port slot offset length => Sys2Proof.Machine.execGetCertificate port slot offset length s
  | .challenge port slot summary nonce => Sys2Proof.Machine.execChallenge port slot summary nonce s
  | .getMeasurements port index signed nonce => Sys2Proof.Machine.execGetMeasurements port index signed nonce s
  | .bistSliceStart u => Sys2Proof.Machine.execBistSliceStart u s
  | .bistSliceEnd u pass => Sys2Proof.Machine.execBistSliceEnd u pass s
  | .dieBist v => Sys2Proof.Machine.execDieBist v s
  | .dieBistEnd die failures margins => Sys2Proof.Machine.execDieBistEnd die failures margins s
  | .testPortInstruction t => Sys2Proof.Machine.execTestPortInstruction t s
  | .traceControlWrite v => Sys2Proof.Machine.execTraceControlWrite v s
  | .traceBlockDrain site => Sys2Proof.Machine.execTraceBlockDrain site s
  | .traceCopy v => Sys2Proof.Machine.execTraceCopy v s
  | .dumpTriggerWrite trigger sub v => Sys2Proof.Machine.execDumpTriggerWrite trigger sub v s
  | .freezeAtBoundary => Sys2Proof.Machine.execFreezeAtBoundary s
  | .freezeAtOnce => Sys2Proof.Machine.execFreezeAtOnce s
  | .freezeRelease => Sys2Proof.Machine.execFreezeRelease s
  | .freezeDrainEnd => Sys2Proof.Machine.execFreezeDrainEnd s
  | .freezeDrainLimit => Sys2Proof.Machine.execFreezeDrainLimit s
  | .hostLinkUp port => Sys2Proof.Machine.execHostLinkUp port s
  | .laserLightReturn m => Sys2Proof.Machine.execLaserLightReturn m s
  | .ringRegionRestart x => Sys2Proof.Machine.execRingRegionRestart x s
  | .fabricLaneTrained port lane => Sys2Proof.Machine.execFabricLaneTrained port lane s
  | .oscillatorReturn which => Sys2Proof.Machine.execOscillatorReturn which s
  | .fieldNetworkLink port up => Sys2Proof.Machine.execFieldNetworkLink port up s
  | .imageAliveReport => Sys2Proof.Machine.execImageAliveReport s
  | .ledgerCommandComplete => Sys2Proof.Machine.execLedgerCommandComplete s
  | .commandCompletion port => Sys2Proof.Machine.execCommandCompletion port s
  | .patternLoadEnd => Sys2Proof.Machine.execPatternLoadEnd s
  | .routeLoadEnd => Sys2Proof.Machine.execRouteLoadEnd s
  | .traceCopyEnd => Sys2Proof.Machine.execTraceCopyEnd s
  | .updateStageEnd => Sys2Proof.Machine.execUpdateStageEnd s

end Sys2Proof.Machine
end

