-- ==== Sys2Proof/Safety.lean ====
section
/-! DEFINITION. The terms in which claims speak of a step: what a safe run of the block is, which parts of the state a
command leaves as they were, and the canonical form of the sparse tables. -/

namespace Sys2Proof

open Sys2Proof.Machine

/-- A step answers a next state. -/
def Safe (s : State) : Prop := ∃ t, step s = .next t

/-- n steps answer next states all along. -/
def SafeFor : Nat → State → Prop
  | 0, _ => True
  | n + 1, s => ∃ t, step s = .next t ∧ SafeFor n t

/-- The parts of the state, one for each field of `State`. -/
inductive Part where
  | dict | nv | lastStatus | freeCtr | hostMem | tb | prick | entries | cores | runs | dies | grants
  | nextGrant | orphans | stopped | fuseMap | fieldMap | patCmd | halted | stores | ledger | tlb | epoch
  | heldFrames | migs | ledgerCmd | ledgerTurn | chans | staging | stagingTurn | nvTrims | trimWords
  | trimMode | calCmd | regions | rings | lanes | paths | arbiters | lasers | identReports | guests
  | requests | seqs | phases | trackers | replies | guards | lastResponse | lineCache | xports | routes
  | hub | routeLoad | pair | ports | streams | sqPort | dap | thermals | sensors | pw | sec | test
  | pending
  deriving DecidableEq, Repr

/-- A part is the same in two states. -/
def Part.same : Part → State → State → Prop
  | .dict, s, t => t.dict = s.dict
  | .nv, s, t => t.nv = s.nv
  | .lastStatus, s, t => t.lastStatus = s.lastStatus
  | .freeCtr, s, t => t.freeCtr = s.freeCtr
  | .hostMem, s, t => t.hostMem = s.hostMem
  | .tb, s, t => t.tb = s.tb
  | .prick, s, t => t.prick = s.prick
  | .entries, s, t => t.entries = s.entries
  | .cores, s, t => t.cores = s.cores
  | .runs, s, t => t.runs = s.runs
  | .dies, s, t => t.dies = s.dies
  | .grants, s, t => t.grants = s.grants
  | .nextGrant, s, t => t.nextGrant = s.nextGrant
  | .orphans, s, t => t.orphans = s.orphans
  | .stopped, s, t => t.stopped = s.stopped
  | .fuseMap, s, t => t.fuseMap = s.fuseMap
  | .fieldMap, s, t => t.fieldMap = s.fieldMap
  | .patCmd, s, t => t.patCmd = s.patCmd
  | .halted, s, t => t.halted = s.halted
  | .stores, s, t => t.stores = s.stores
  | .ledger, s, t => t.ledger = s.ledger
  | .tlb, s, t => t.tlb = s.tlb
  | .epoch, s, t => t.epoch = s.epoch
  | .heldFrames, s, t => t.heldFrames = s.heldFrames
  | .migs, s, t => t.migs = s.migs
  | .ledgerCmd, s, t => t.ledgerCmd = s.ledgerCmd
  | .ledgerTurn, s, t => t.ledgerTurn = s.ledgerTurn
  | .chans, s, t => t.chans = s.chans
  | .staging, s, t => t.staging = s.staging
  | .stagingTurn, s, t => t.stagingTurn = s.stagingTurn
  | .nvTrims, s, t => t.nvTrims = s.nvTrims
  | .trimWords, s, t => t.trimWords = s.trimWords
  | .trimMode, s, t => t.trimMode = s.trimMode
  | .calCmd, s, t => t.calCmd = s.calCmd
  | .regions, s, t => t.regions = s.regions
  | .rings, s, t => t.rings = s.rings
  | .lanes, s, t => t.lanes = s.lanes
  | .paths, s, t => t.paths = s.paths
  | .arbiters, s, t => t.arbiters = s.arbiters
  | .lasers, s, t => t.lasers = s.lasers
  | .identReports, s, t => t.identReports = s.identReports
  | .guests, s, t => t.guests = s.guests
  | .requests, s, t => t.requests = s.requests
  | .seqs, s, t => t.seqs = s.seqs
  | .phases, s, t => t.phases = s.phases
  | .trackers, s, t => t.trackers = s.trackers
  | .replies, s, t => t.replies = s.replies
  | .guards, s, t => t.guards = s.guards
  | .lastResponse, s, t => t.lastResponse = s.lastResponse
  | .lineCache, s, t => t.lineCache = s.lineCache
  | .xports, s, t => t.xports = s.xports
  | .routes, s, t => t.routes = s.routes
  | .hub, s, t => t.hub = s.hub
  | .routeLoad, s, t => t.routeLoad = s.routeLoad
  | .pair, s, t => t.pair = s.pair
  | .ports, s, t => t.ports = s.ports
  | .streams, s, t => t.streams = s.streams
  | .sqPort, s, t => t.sqPort = s.sqPort
  | .dap, s, t => t.dap = s.dap
  | .thermals, s, t => t.thermals = s.thermals
  | .sensors, s, t => t.sensors = s.sensors
  | .pw, s, t => t.pw = s.pw
  | .sec, s, t => t.sec = s.sec
  | .test, s, t => t.test = s.test
  | .pending, s, t => t.pending = s.pending

/-- Every part of the state but the ones listed is left as it was: the frame of a command. -/
def Same (changed : List Part) (s t : State) : Prop := ∀ p, p ∉ changed → p.same s t

/-- A dictionary or store table is in canonical form: keys strictly rising, and no entry equal to its default. -/
def dictWf (t : Tbl Nat) : Prop := Tbl.rising t = true ∧ ∀ e ∈ t, e.2 ≠ dictDflt e.1

/-- The memories are in canonical form: keys strictly rising and no byte equal to what an unlisted one reads as, in every
polder memory and tier channel and in host memory. -/
structure MemOk (s : State) : Prop where
  stores : ∀ e ∈ s.stores, Memory.wf e.2.mem = true
  host : Memory.wf s.hostMem = true

/-- The next instruction of an enabled core is w, of class c and operation o, and its common wait is met, now or in an earlier cycle in
which its count was subtracted (R106, R177, R220): k, g and r are the core's key, its grant and its part. -/
structure AtIssue (s : State) (die : Fin 8) (core : Fin 48) (c o k : Nat) (g : Grant) (r : CoreRun) (w : Nat) : Prop where
  runs : s.running die.val core.val = some (k, g, r)
  inCode : r.pc < g.codeLen
  word : s.stepCode g r.pc = w
  cls : iClass w = c
  op : iOp w = o
  waits : r.waited = true ∨ r.waitMet w = true

/-- What the sequencer's next instruction may still take from pin p: the count of its common wait, once, and of a WAITPIN that subtracts
its own (R177, R215, R220). -/
def seqAsks (s : State) (g : Grant) (r : CoreRun) (p : Nat) : Nat :=
  let w := s.stepCode g r.pc
  if r.pc < g.codeLen ∧ iClass w < 2 then
    (if iWaitValid w ∧ iWaitPin w = p ∧ r.waited = false then iWaitCount w else 0) +
      (if iClass w = 1 ∧ iOp w = 0 ∧ bits w 13 13 = 0 ∧ bits w 34 30 = p then bits w 29 14 else 0)
  else 0

/-- What the instruction at the head of unit v's queue asks from pin p (R177). -/
def unitAsks (r : CoreRun) (v p : Nat) : Nat :=
  match r.queue v with
  | q :: _ => if iWaitValid q.word ∧ iWaitPin q.word = p then iWaitCount q.word else 0
  | [] => 0

/-- The instruction at the head of a unit's queue on an enabled core is q, of class c and operation o; if it waits, its pin holds its
count beside what the sequencer and the units before it ask from that pin, which are served first; and an instruction that takes all
four engines heads the queue of each (R106, R177, R178, R199). The table of pins is in order. -/
structure AtHead (s : State) (die : Fin 8) (core : Fin 48) (u c o k : Nat) (g : Grant) (r : CoreRun) (q : QInstr) : Prop where
  runs : s.running die.val core.val = some (k, g, r)
  head : (r.queue u).head? = some q
  heads : ∀ v ∈ unitsFor u q.word, ((r.queue v).head?).map (·.idx) = some q.idx
  cls : iClass q.word = c
  op : iOp q.word = o
  waits : iWaitValid q.word = true →
    iWaitCount q.word + seqAsks s g r (iWaitPin q.word) + (((List.range u).drop 1).map (fun v => unitAsks r v (iWaitPin q.word))).sum ≤
      r.pin (iWaitPin q.word)
  pins : Tbl.rising r.pins = true

/-- An operand that a unit of a core may take: it lies in the core's own scratch, is aligned as its format asks, and ends inside scratch
(R185 to R187, R190, Table 5-18). -/
structure ScratchOk (o : Operand) : Prop where
  own : o.d.space = 0
  aligned : o.aligned = true
  inside : o.inScratch = true

/-- The operands of an MMA of so many rows of A pass its checks: extents rows × K × 1 and 64 × K × 1 with a K that is not 0, and formats
that pair (R196, R197, Table 5-18). -/
structure MmaOk (rows : Nat) (a b : Operand) : Prop where
  left : ScratchOk a
  right : ScratchOk b
  nonempty : a.d.count ≠ 0
  dims : a.d.dim1 = rows ∧ b.d.dim1 = 64 ∧ a.d.dim0 = b.d.dim0 ∧ a.d.dim2 = 1 ∧ b.d.dim2 = 1
  pair : pairOk a.f b.f = true

/-- The operand of a DRAIN or ACCLOAD passes its checks: 64 × rows × 1 in a format (R198, R200, Table 5-18). -/
structure AccOk (rows : Nat) (f : Fmt) (o : Operand) : Prop where
  scratch : ScratchOk o
  dims : o.d.dim0 = 64 ∧ o.d.dim1 = rows ∧ o.d.dim2 = 1
  fmt : o.f = f

/-- No started instruction of the units works on the accumulator set that a word names (R95, R199). -/
def SetFree (r : CoreRun) (us : List Nat) (w : Nat) : Prop := ∀ u ∈ us, ∀ x ∈ r.active u, accSet x.word ≠ accSet w

/-- The special function instruction q passes its checks: SAMPLE and TREEVERIFY on the grant's first core alone, operands in scratch,
elements to work on, an Imm and extents as Tables 6-1 and 6-2 ask, rows of at most 2^20 values, at most 256 values of TOPK and no more
than a row holds, a record whose fields are in range, and a draft tree of at most 64 nodes in order (R206, R232 to R236, R247, R249,
R258, Table 5-18). -/
structure SfuOk (s : State) (op : SfuOp) (k : Nat) (g : Grant) (r : CoreRun) (q : QInstr) : Prop where
  first : usesRecord op = true → r.pos = 0
  dst : ScratchOk (s.operands3 g q).dst
  srcA : ScratchOk (s.operands3 g q).a
  srcB : usesB op q.word = true → ScratchOk (s.operands3 g q).b
  nonempty : (s.operands3 g q).a.d.count ≠ 0
  imm : immOk op q.word = true
  shape : sfuShape op q.word (s.operands3 g q) = true
  len : (s.operands3 g q).a.d.logLen (immSpan q.word) ≤ 1048576
  topk : op = .topk → 0 < immK q.word ∧ immK q.word ≤ 256 ∧ immK q.word ≤ (s.operands3 g q).a.d.logLen (immSpan q.word)
  record : usesRecord op = true → recCheck (s.heldRecord g r) ≠ some .typeMismatch ∧ recTopK (s.heldRecord g r) ≤ 1024
  tree : op = .treeverify → (s.operands3 g q).b.d.dim1 ≤ 64 ∧
    treeTableBad (s.operands3 g q).b (s.core k).scratch ((s.operands3 g q).a.d.logLen (immSpan q.word)) = false

/-- The transfer x of operation op passes its checks: spaces, extents and formats as Table 5-11 asks, the flag word of a PUTF, alignment
and bounds, target cores in service, and no protected byte of a state record written (R187, R190, R207 to R212, Table 5-18). -/
structure XferOk (s : State) (op : Nat) (x : Orphan) : Prop where
  code : iOp x.q.word = op
  spaces : xSpaces op (s.xLocal x) (s.xRemote x) = true
  nonempty : (s.xLocal x).d.count ≠ 0
  dims : sameDims (s.xLocal x).d (s.xRemote x).d = true
  fmts : (if op = 4 then atomicOk (xAux x) (s.xLocal x) (s.xRemote x) else xFormats (s.xLocal x) (s.xRemote x)) = true
  aligned : (s.xLocal x).aligned = true ∧ (s.xRemote x).aligned = true
  inside : s.inSpace x (s.xLocal x) = none ∧ s.inSpace x (s.xRemote x) = none
  up : s.targetUp x (s.xLocal x) = true ∧ s.targetUp x (s.xRemote x) = true
  flag : op = 2 → flagOk (s.xFlag x) = true ∧ (s.xFlag x).aligned = true ∧ s.inSpace x (s.xFlag x) = none ∧ s.targetUp x (s.xFlag x) = true
  open_ : writesProtected (s.xDst x) = false

/-- Nothing delays the start of the transfer q at the head of queue u: fewer than four PUTFs with flags for its flag's destination are in
flight, no earlier transfer to a fabric endpoint that it must follow, no bride without lanes on its way, no guest's rate limit, and room
among the 4,096 requests that must not be repeated (R180, R381, R412, R446, R462). -/
structure XferFree (s : State) (r : CoreRun) (g : Grant) (k u : Nat) (q : QInstr) : Prop where
  flags : s.flagsWait r g k u q = false
  order : (s.xRemote (xferOf g k q)).d.space = 5 → s.queueHolds g k (r.active u) q = false
  lanes : s.xferStuck (s.peek (xferOf g k q)) = false
  share : s.dykeWaits (xferOf g k q) = false
  once : s.onceWaits g k (r.active u) q = false

/-- The channel of an opcode: requests 0, responses 1, probes and their answers 2 (Table 11-3). -/
def channelOf (op : Nat) : Nat := if op = 7 ∨ op = 0x27 then 2 else if 0x20 < op then 1 else 0

/-- A packet arrives intact and for this module, by a fabric port or a lane of the Ground: nothing freezes or darkens its way, its CRC is
that of its header and payload, it names this endpoint on the channel of its opcode, and its reserved fields, its Lines and its payload are
as Tables 11-2 and 11-3 ask (R431 to R434, R436, R457). -/
structure Arrived (s : State) (p : Packet) : Prop where
  awake : s.frozen = false
  way : s.viaUp p.via = true
  ground : p.viaPair = false
  check : p.crcOk = true
  mine : endpointOf p.dest = s.endpoint
  channel : p.channel = channelOf p.opcode
  form : wellForm p = true

/-- A trigger takes effect now: it is no Retry, not in hand, and the hub's reply cache is not full (R463, R465). -/
structure FreshTrigger (s : State) (p : Packet) : Prop where
  fresh : p.retry = false
  idle : s.inHand p.source p.seq = false
  room : s.cacheFull siteH = false

/-- The module's last response is the one to packet p: its opcode, status, line and aux, from the unit that p names to p's source with
p's Sequence, Space and Address, under the current routing version where that is another endpoint (R429, R430, R484, R485). -/
def Answered (t : State) (p : Packet) (op st : Nat) (line : List Byte := []) (aux : Nat := 0) : Prop :=
  t.lastResponse = some { opcode := op, source := p.dest, dest := p.source, seq := p.seq, status := st, aux := aux, space := p.space
                          address := p.address, line := line, epoch := if endpointOf p.source = t.endpoint then 0 else t.activeEpoch }

/-- The head instruction q of unit u has started on core k: it has left the queues of its units, with its wait subtracted, for
their started instructions (R107, R177, R199). -/
def started (s : State) (k u : Nat) (r : CoreRun) (q : QInstr) : State :=
  s.setRun k (some ((r.pop (unitsFor u q.word) q.word).enter (unitsFor u q.word) q))

/-- The rows of Dst hold the values v, each rounded into its format by `last`, in the scratch of core k, and the flags of reading and
rounding are in the step's ArithFlags: an operation's BF16 result is that of the FP32 operation rounded once more, and a conversion rounds
its exact value (R150 to R154, R169, R732). -/
def written (t : State) (k : Nat) (dst : Operand) (v : Nat → Nat → Nat → Flagged Fp) (last : Fmt → Flagged Fp → Flagged Nat := finish) : State :=
  let w := putRows dst (t.core k).scratch
    (dst.d.rows.map (fun p => (p, (List.range dst.d.dim0).map (fun i => last dst.f (v p.1 p.2 i)))))
  (t.setScratch k w.1).flagRun k w.2

/-- The commands that a port has in flight once command c has its outcome st: the first one of its queue and entry without an
outcome takes it (R556). -/
def settled (s : State) (port : Nat) (c : Taken) (st : Nat) : List Taken :=
  modifyFirst (fun x => decide (x.sq = c.sq) && decide (x.entry = c.entry) && x.status.isNone) (fun x => { x with status := some st }) (s.port port).taken

/-- A request frame of opcode op is as Table 14-5 asks, and the server takes it: its length fits its header, with a MAC where it
names a session and is no AUTH, and version and type are 1 (R591, R592). -/
structure WellFramed (s : State) (op : Nat) (f : List Byte) : Prop where
  serves : s.serves = true
  long : f.length = 24 + fLength f + (if fSession f ≠ 0 ∧ fOpcode f ≠ 5 then 16 else 0)
  version : fVersion f = 1
  type : fType f = 1
  opcode : fOpcode f = op

/-- The tables that the state's units stand in are in order: keys strictly rising, so that a unit, stream, port, lane or slot has
one entry. -/
structure InOrder (s : State) : Prop where
  sources : Tbl.rising s.tb.src = true
  anchors : Tbl.rising s.tb.anchors = true
  cores : Tbl.rising s.cores = true
  runs : Tbl.rising s.runs = true
  pins : ∀ e ∈ s.runs, ∀ r, e.2 = some r → Tbl.rising r.pins = true
  dies : Tbl.rising s.dies = true
  stores : Tbl.rising s.stores = true
  ledger : Tbl.rising s.ledger = true
  chans : Tbl.rising s.chans = true
  regions : Tbl.rising s.regions = true
  rings : Tbl.rising s.rings = true
  lanes : Tbl.rising s.lanes = true
  paths : Tbl.rising s.paths = true
  lasers : Tbl.rising s.lasers = true
  sensors : Tbl.rising s.sensors = true
  streams : Tbl.rising s.streams = true
  routes : Tbl.rising s.routes = true
  slots : Tbl.rising s.prick.ro = true
  ports : Tbl.rising s.ports = true
  queues : ∀ e ∈ s.ports, Tbl.rising e.2.sqs = true ∧ Tbl.rising e.2.rings = true ∧ Tbl.rising e.2.msix = true ∧ Tbl.rising e.2.bar0 = true
  ringSlots : ∀ e ∈ s.ports, ∀ r ∈ e.2.rings, Tbl.rising r.2.slots = true
  settings : Tbl.rising s.dap.net = true ∧ Tbl.rising s.dap.link = true
  images : Tbl.rising s.sec.slots = true ∧ Tbl.rising s.sec.active = true
  counts : Tbl.rising s.sec.counters = true ∧ Tbl.rising s.sec.blown = true
  attested : Tbl.rising s.sec.transcript = true
  tested : Tbl.rising s.test.last = true ∧ Tbl.rising s.test.bufs = true

end Sys2Proof
end

