-- ==== Sys2Proof/Certificates/Slice0/Obligations.lean ====
section
/-! DEFINITION. The statements for the provers. Each is a closed proposition about the block's commands, its step or its
state; the docstring says what it states and which rules of the spec it rests on. -/

open Sys2Proof Sys2Proof.Machine

/-- A word clock edge outside 48 kHz ± 1,200 ppm sets OutOfRange, restarts the source's lock count and leaves the media
count. One inside the capture range counts toward the 4,800 edges of the lock criterion, which a phase error of 1 µs
restarts, and while the clock is the source in use shows the phase and the length of a tick; it advances the count by
exactly one tick when the timebase is locked to the word clock with no phase and no steering left, and locks a
timebase whose selected source it is. A 1PPS edge counts toward the three of its criterion only within ±1 ppm and with
the 10 MHz input; aligned with it, the edge is the tick that takes the count to a multiple of 48,000, and otherwise it
leaves the count and, while it is the source in use, measures the phase anew. A tick of the disciplined rate advances
the count by one, moves the steering by at most one unit (10 ppm per second) within 200 ppm, and absorbs that much of
the phase; it leaves the count to the edges while they carry it, and before the first frame it only counts the ticks
that pass (log entry 40). (Table 2-1, R57, R58, R59, R61, R64, R67) -/
def Obligations.ReferenceEdgesDriveTheCount : Prop :=
  (∀ (s : State) (period : Nat) (err offset : Int), s.tb.started = true → Tbl.rising s.dict = true → period ≠ 0 →
    (10 ^ 13 < 479424 * period ∨ 480576 * period < 10 ^ 13) →
    ∃ t, exec (.wordClockEdge period err offset) s = .next t ∧ Same [.tb, .dict] s t ∧
      (t.reg (okey 0x2011 0)).testBit 21 = true ∧ (∀ k, k ≠ okey 0x2011 0 → t.reg k = s.reg k) ∧
      t.tb.count = s.tb.count ∧ t.tb.src = Tbl.put {} s.tb.src 1 {}) ∧
  (∀ (s : State) (period n : Nat) (err offset : Int), s.tb.started = true → Tbl.rising s.tb.src = true →
    (period = 0 ∨ (479424 * period ≤ 10 ^ 13 ∧ 10 ^ 13 ≤ 480576 * period)) →
    n = (if 100 ≤ err.natAbs then 0 else if period = 0 then 1 else (s.tb.source 1).count + 1) →
    ∃ t, exec (.wordClockEdge period err offset) s = .next t ∧ Same [.tb] s t ∧
      t.tb.src = Tbl.put {} s.tb.src 1 {
        count := n, good := decide (4800 ≤ n)
        offset := if s.tb.st = .locked ∧ s.tb.active = 1 ∧ s.tb.phase = 0 ∧ s.tb.steer = 0 then 0 else offset * 2304000
        period := if period = 0 then (s.tb.source 1).period else divRne (period * 131072) 125 } ∧
      t.tb.count = (if s.tb.st = .locked ∧ s.tb.active = 1 ∧ s.tb.phase = 0 ∧ s.tb.steer = 0 ∧ s.tb.begun = true then s.tb.count + 1 else s.tb.count) ∧
      (4800 ≤ n → s.reg (okey 0x2010 0) = 1 → t.tb.st = .locked) ∧
      (s.tb.st = .locked → t.tb.st = .locked ∧ t.tb.active = s.tb.active) ∧
      (s.tb.st = .locked → s.tb.active = 1 → s.tb.begun = true →
        t.tb.phase = (if s.tb.phase = 0 ∧ s.tb.steer = 0 then 0 else offset * 2304000) ∧
        (period ≠ 0 → t.tb.period = divRne (period * 131072) 125))) ∧
  (∀ (s : State) (interval n : Nat) (tenMHz : Bool) (offset : Int), s.tb.started = true → Tbl.rising s.tb.src = true →
    n = (if tenMHz = false then 0 else if 999999000 ≤ interval ∧ interval ≤ 1000001000 then (s.tb.source 2).count + 1 else 1) →
    ∃ t, exec (.ppsEdge interval tenMHz offset) s = .next t ∧ Same [.tb] s t ∧
      (∃ o, t.tb.src = Tbl.put {} s.tb.src 2 {
        count := n, good := decide (3 ≤ n), offset := o
        period := if tenMHz = true ∧ 999999000 ≤ interval ∧ interval ≤ 1000001000 then divRne (interval * 131072) 6000 else (s.tb.source 2).period }) ∧
      t.tb.count = (if s.tb.st = .locked ∧ s.tb.active = 2 ∧ s.tb.phase = 0 ∧ s.tb.steer = 0 ∧ s.tb.begun = true ∧ s.tb.count % 48000 = 47999
        then s.tb.count + 1 else s.tb.count) ∧
      (s.tb.st = .locked → t.tb.st = .locked ∧ t.tb.active = s.tb.active) ∧
      (s.tb.st = .locked → s.tb.active = 2 → s.tb.begun = true → ¬(s.tb.phase = 0 ∧ s.tb.steer = 0 ∧ s.tb.count % 48000 = 47999) →
        t.tb.phase = (if s.tb.count % 48000 < 24000 then (s.tb.count % 48000 : Int) else (s.tb.count % 48000 : Int) - 48000) * 4800000000 + offset * 2304000) ∧
      (3 ≤ n → s.reg (okey 0x2010 0) = 2 → t.tb.st = .locked)) ∧
  (∀ s : State, s.tb.begun = true → ¬(s.tb.st = .locked ∧ s.tb.active = 1 ∧ s.tb.phase = 0 ∧ s.tb.steer = 0) →
    ¬(s.tb.st = .locked ∧ s.tb.active = 2 ∧ s.tb.phase = 0 ∧ s.tb.steer = 0 ∧ s.tb.count % 48000 = 47999) →
    ∃ t, exec .mediaTick s = .next t ∧ Same [.tb] s t ∧ t.tb.count = s.tb.count + 1 ∧
      t.tb.st = s.tb.st ∧ t.tb.frame = s.tb.frame ∧
      t.tb.phase = (if s.tb.st = .locked then s.tb.phase - t.tb.steer else s.tb.phase) ∧
      (-960000 ≤ s.tb.steer → s.tb.steer ≤ 960000 →
        -960000 ≤ t.tb.steer ∧ t.tb.steer ≤ 960000 ∧ s.tb.steer - 1 ≤ t.tb.steer ∧ t.tb.steer ≤ s.tb.steer + 1)) ∧
  (∀ s : State, (s.tb.begun = false ∨ (s.tb.st = .locked ∧ s.tb.phase = 0 ∧ s.tb.steer = 0 ∧
      (s.tb.active = 1 ∨ s.tb.active = 2 ∧ s.tb.count % 48000 = 47999))) →
    exec .mediaTick s = .next { s with tb := { s.tb with
      ppsNow := false
      idle := if s.tb.begun = true then s.tb.idle else s.tb.idle + 1 } })

/-- A PTP record with more than 999,999,999 ns is answered TYPE_MISMATCH and not used; another is answered OK and, where
the selection uses its port, keeps its time and counts toward the eight records of its criterion, a residual of 2 µs
or more restarting the count; while its port is in use it shows the phase, and the records of the port that is not, in
automatic mode, are ignored. The loss of a source sets its lock count back; the loss of the source in use sets RefLost
and puts the timebase in holdover when a fixed source is selected or no other source is qualified, else it switches to
the qualified source of highest priority and sets SourceSwitched as well. In automatic mode a qualified source of
higher priority takes over from a locked source and sets SourceSwitched; the phase that it measured is what steering
then absorbs, and its rate the length of a tick. No lock within 10 s puts an acquiring timebase in free-run, and the
holdover limit puts one in holdover there and sets HoldoverExpired. None of them steps the count. (R60, R61, R62, R64,
Table 2-1, Table 2-3, Table 2-4) -/
def Obligations.SourceChangesKeepTheCount : Prop :=
  (∀ (s : State) (port : Fin 2) (word2 residual : Nat) (offset : Int),
    999999999 < Tbl.get 0 (Tbl.put 0 s.tb.ptpRec (port.val * 4 + 2) word2) (port.val * 4 + 1) % 2 ^ 32 →
    ∃ t, exec (.ptpCorrelationRecord port word2 residual offset) s = .next t ∧ Same [.tb, .lastStatus] s t ∧
      t.lastStatus = Status.typeMismatch.code ∧ t.tb = { s.tb with ptpRec := Tbl.put 0 s.tb.ptpRec (port.val * 4 + 2) word2 }) ∧
  (∀ (s : State) (port : Fin 2) (word2 residual : Nat) (offset : Int), s.tb.started = true → Tbl.rising s.tb.src = true →
    Tbl.get 0 (Tbl.put 0 s.tb.ptpRec (port.val * 4 + 2) word2) (port.val * 4 + 1) % 2 ^ 32 ≤ 999999999 →
    (s.reg (okey 0x2010 0) = 0 ∧ ¬(s.tb.st = .locked ∧ s.tb.active = 4 - port.val) ∨ s.reg (okey 0x2010 0) = 3 + port.val) →
    ∃ t, exec (.ptpCorrelationRecord port word2 residual offset) s = .next t ∧ Same [.tb, .lastStatus] s t ∧
      t.lastStatus = Status.ok.code ∧ t.tb.count = s.tb.count ∧
      t.tb.src = Tbl.put {} s.tb.src (3 + port.val)
        { count := if residual < 2000 then (s.tb.source (3 + port.val)).count + 1 else 0
          good := decide (residual < 2000 ∧ 7 ≤ (s.tb.source (3 + port.val)).count), offset := offset * 2304000
          period := s.tb.ptpPeriod port.val (Tbl.get 0 (Tbl.put 0 s.tb.ptpRec (port.val * 4 + 2) word2) (port.val * 4) % 2 ^ 48 * 10 ^ 9 +
            Tbl.get 0 (Tbl.put 0 s.tb.ptpRec (port.val * 4 + 2) word2) (port.val * 4 + 1) % 2 ^ 32) word2 } ∧
      (s.tb.st = .locked → s.tb.active = 3 + port.val → s.tb.begun = true → t.tb.phase = offset * 2304000)) ∧
  (∀ (s : State) (port : Fin 2) (word2 residual : Nat) (offset : Int), s.reg (okey 0x2010 0) = 0 → s.tb.st = .locked → s.tb.active = 4 - port.val →
    Tbl.get 0 (Tbl.put 0 s.tb.ptpRec (port.val * 4 + 2) word2) (port.val * 4 + 1) % 2 ^ 32 ≤ 999999999 →
    ∃ t, exec (.ptpCorrelationRecord port word2 residual offset) s = .next t ∧ Same [.tb, .lastStatus] s t ∧
      t.lastStatus = Status.ok.code ∧ t.tb = { s.tb with ptpRec := Tbl.put 0 s.tb.ptpRec (port.val * 4 + 2) word2 }) ∧
  (∀ (s : State) (src : Fin 4), s.tb.st = .locked → s.tb.active = src.val + 1 → Tbl.rising s.dict = true →
    (s.reg (okey 0x2010 0) ≠ 0 ∨ ({ s.tb with src := Tbl.put {} s.tb.src (src.val + 1) {} } : Timebase).best 0 = none) →
    ∃ t, exec (.sourceLost src) s = .next t ∧ Same [.tb, .dict] s t ∧ t.tb.st = .holdover ∧ t.tb.count = s.tb.count ∧
      t.tb.active = s.tb.active ∧ (t.reg (okey 0x2011 0)).testBit 23 = true) ∧
  (∀ (s : State) (src : Fin 4) (b : Nat), s.tb.st = .locked → s.tb.active = src.val + 1 → Tbl.rising s.dict = true →
    s.reg (okey 0x2010 0) = 0 → ({ s.tb with src := Tbl.put {} s.tb.src (src.val + 1) {} } : Timebase).best 0 = some b →
    ∃ t, exec (.sourceLost src) s = .next t ∧ Same [.tb, .dict] s t ∧ t.tb.st = .locked ∧ t.tb.active = b ∧
      t.tb.count = s.tb.count ∧ (t.reg (okey 0x2011 0)).testBit 23 = true ∧ (t.reg (okey 0x2011 0)).testBit 20 = true) ∧
  (∀ (s : State) (src : Fin 4), s.reg (okey 0x2010 0) = 0 → s.tb.st = .locked → (s.tb.source (src.val + 1)).good = true →
    src.val + 1 < s.tb.active → Tbl.rising s.dict = true →
    ∃ t, exec (.sourceSwitch src) s = .next t ∧ Same [.tb, .dict] s t ∧ t.tb = { s.tb with
        active := src.val + 1
        phase := if s.tb.begun then (s.tb.source (src.val + 1)).offset else 0
        period := if (s.tb.source (src.val + 1)).period = 0 then s.tb.period else (s.tb.source (src.val + 1)).period } ∧
      (t.reg (okey 0x2011 0)).testBit 20 = true) ∧
  (∀ s : State, s.tb.started = true → s.tb.st = .acquiring →
    ∃ t, exec .acquireTimeout s = .next t ∧ Same [.tb] s t ∧ t.tb = { s.tb with st := .freeRun, active := 5, left := true }) ∧
  (∀ s : State, s.tb.st = .holdover → Tbl.rising s.dict = true →
    ∃ t, exec .holdoverLimitExpiry s = .next t ∧ Same [.tb, .dict] s t ∧
      t.tb = { s.tb with st := .freeRun, active := 5, left := true } ∧ (t.reg (okey 0x2011 0)).testBit 22 = true)

/-- A write of MediaReferenceSource with a value above 0x05 is answered TYPE_MISMATCH and the previous value stays; any
other is answered OK, is the value that the object then reads, is kept in the non-volatile store, and 0x05 puts a
started timebase in free-run at once. A write of FrameLength that is no divisor of 48,000 from 96 to 4,800 is answered
TYPE_MISMATCH; a good one is answered BUSY while a slot holds an accepted pricking for a frame that has not begun;
otherwise it is answered OK and kept, and the length in force in the current frame does not change. A refused write
changes nothing but the answer. (R56, R64, R68, R69, R605) -/
def Obligations.ReferenceAndFrameLengthWrites : Prop :=
  (∀ (s : State) (v : Nat), 5 < v →
    ∃ t, exec (.mediaReferenceSourceWrite v) s = .next t ∧ Same [.lastStatus] s t ∧ t.lastStatus = Status.typeMismatch.code) ∧
  (∀ (s : State) (v : Nat), v ≤ 5 → Tbl.rising s.dict = true → Tbl.rising s.nv = true →
    ∃ t, exec (.mediaReferenceSourceWrite v) s = .next t ∧ Same [.tb, .dict, .nv, .lastStatus] s t ∧
      t.lastStatus = Status.ok.code ∧ t.reg (okey 0x2010 0) = v ∧ Tbl.get 0 t.nv (okey 0x2010 0) = v ∧
      (∀ k, k ≠ okey 0x2010 0 → t.reg k = s.reg k) ∧ t.tb.count = s.tb.count ∧
      (v = 5 → s.tb.started = true → t.tb.st = .freeRun ∧ t.tb.active = 5)) ∧
  (∀ (s : State) (v : Nat), (v < 96 ∨ 4800 < v ∨ 48000 % v ≠ 0) →
    ∃ t, exec (.frameLengthWrite v) s = .next t ∧ Same [.lastStatus] s t ∧ t.lastStatus = Status.typeMismatch.code) ∧
  (∀ (s : State) (v : Nat) (a : Accepted), 96 ≤ v → v ≤ 4800 → 48000 % v = 0 → a ∈ s.prick.accepted → s.tb.frame < a.frame →
    ∃ t, exec (.frameLengthWrite v) s = .next t ∧ Same [.lastStatus] s t ∧ t.lastStatus = Status.busy.code) ∧
  (∀ (s : State) (v : Nat), 96 ≤ v → v ≤ 4800 → 48000 % v = 0 → Tbl.rising s.dict = true → Tbl.rising s.nv = true →
    (∀ a ∈ s.prick.accepted, a.frame ≤ s.tb.frame) → (∀ a, s.prick.fixed = some a → a.frame ≤ s.tb.frame) →
    ∃ t, exec (.frameLengthWrite v) s = .next t ∧ Same [.dict, .nv, .lastStatus] s t ∧ t.lastStatus = Status.ok.code ∧
      t.reg (okey 0x2002 0) = v ∧ Tbl.get 480 t.nv (okey 0x2002 0) = v ∧ (∀ k, k ≠ okey 0x2002 0 → t.reg k = s.reg k))

/-- Once the timebase has left acquiring, with no partner to follow and no HELLO to wait for, and at a PPS edge where it
is locked to 1PPS and 10 MHz, the first frame begins: the count is loaded once, with the PTP time in ticks where PTP
is the active source and with TickCountPreset otherwise, rounded up to a multiple of 48,000, and FrameNumber becomes
the starting count divided by FrameLength; a unit that follows a partner begins at the next of the partner's
boundaries after the HELLO, or after as many whole frames as have passed since (log entry 40). At the end of a frame
FrameNumber increases by one, the next frame starts where the last one ended, a FrameLength write takes effect only
where that start is a multiple of 48,000, the count itself does not jump, and every site that the multicast reaches
holds an anchor with the frame number, its starting tick and the tick period. Before the end of the frame the boundary
does nothing. (R66, R67, R69, R70, R71, R501) -/
def Obligations.FrameNumberCountsBoundaries : Prop :=
  (∀ (s : State) (elapsed : Nat), s.tb.left = true → s.tb.begun = false → s.pair.waits = false → s.pair.follow = none →
    (s.tb.st = .locked → s.tb.active = 2 → s.tb.ppsNow = true) →
    ∃ t, exec (.firstFrameBegin elapsed) s = .next t ∧ Same [.tb, .pair, .ports] s t ∧ t.tb.begun = true ∧
      t.tb.frame = t.tb.count / s.reg (okey 0x2002 0) ∧ t.tb.frameStart = t.tb.count ∧ t.tb.count % 48000 = 0 ∧
      t.tb.frameLength = s.reg (okey 0x2002 0) ∧
      (s.tb.active ≠ 3 → s.tb.active ≠ 4 → s.reg (okey 0x2013 0) ≤ t.tb.count ∧ t.tb.count < s.reg (okey 0x2013 0) + 48000) ∧
      (∀ p, p < 2 → s.tb.active = 3 + p →
        (Tbl.get 0 s.tb.ptpNs p + elapsed) * 48000 / 10 ^ 9 ≤ t.tb.count ∧ t.tb.count < (Tbl.get 0 s.tb.ptpNs p + elapsed) * 48000 / 10 ^ 9 + 48000)) ∧
  (∀ (s : State) (elapsed f c n k : Nat), s.tb.left = true → s.tb.begun = false → s.pair.waits = false → s.pair.follow = some (f, c, n) →
    k = max 1 ((s.tb.idle + n - 1) / n) →
    (s.tb.st = .locked → s.tb.active = 2 → s.tb.ppsNow = true) →
    ∃ t, exec (.firstFrameBegin elapsed) s = .next t ∧ Same [.tb, .pair, .ports] s t ∧ t.tb.begun = true ∧ t.tb.frame = f + k ∧
      t.tb.count = c + k * n ∧ t.tb.frameStart = c + k * n ∧ t.tb.frameLength = s.reg (okey 0x2002 0) ∧
      t.pair = { s.pair with katPass := s.pair.katPass.map (fun e => (e.1, f + k + 1)) }) ∧
  (∀ s : State, Tbl.rising s.tb.anchors = true → s.tb.begun = true → s.tb.frameStart + s.tb.frameLength ≤ s.tb.count →
    ∃ t, exec .frameBoundary s = .next t ∧
      Same [.dict, .nv, .lastStatus, .freeCtr, .hostMem, .tb, .prick, .entries, .cores, .runs, .dies, .grants, .orphans, .stopped, .halted,
        .stores, .ledger, .tlb, .migs, .staging, .nvTrims, .trimMode, .calCmd, .regions, .rings, .lanes, .lasers, .requests, .seqs, .trackers,
        .xports, .hub, .pair, .ports, .streams, .thermals, .pw, .sec, .test] s t ∧
      t.tb.frame = s.tb.frame + 1 ∧ t.tb.frameStart = s.tb.frameStart + s.tb.frameLength ∧ t.tb.count = s.tb.count ∧
      t.tb.frameLength = (if (s.tb.frameStart + s.tb.frameLength) % 48000 = 0 then s.reg (okey 0x2002 0) else s.tb.frameLength) ∧
      (∀ x, x < 12 → s.reachesSite x = true → Tbl.get {} t.tb.anchors x =
        { frame := s.tb.frame + 1, tick := s.tb.frameStart + s.tb.frameLength, period := s.tb.tickPeriod, elapsed := s.tb.elapsed }) ∧
      (∀ x, s.reachesSite x = false → Tbl.get {} t.tb.anchors x = Tbl.get {} s.tb.anchors x)) ∧
  (∀ s : State, (s.tb.begun = false ∨ s.tb.count < s.tb.frameStart + s.tb.frameLength) → exec .frameBoundary s = .next s)

/-- The fix for frame c + 1 at the start of frame c takes the accepted pricking of that frame and ends a row of repeats.
Without one, the pricking fixed for frame c is run again with its frame moved on and counted when it is Repeatable,
has been repeated in a row fewer times than PrickingRepeatLimit, and was accepted under the FrameLength of the frame
that it would fill; otherwise nothing is fixed, so the frame dispatches no new entry. A pricking accepted under an
earlier FrameLength is not repeated. (R78) -/
def Obligations.PrickingFixRepeatsOnlyWhatItMay : Prop :=
  (∀ (p : Prickings) (c limit fl : Nat) (a : Accepted), p.accepted.find? (fun b => decide (b.frame = c + 1)) = some a →
    fixPricking p c limit fl =
      ({ p with fixed := some a, repeats := 0, accepted := p.accepted.filter (fun b => decide (c + 1 < b.frame)) }, false)) ∧
  (∀ (p : Prickings) (c limit fl : Nat) (a : Accepted), (∀ b ∈ p.accepted, b.frame ≠ c + 1) → p.fixed = some a → a.frame = c →
    a.repeatable = true → p.repeats < limit → a.frameLength = fl →
    fixPricking p c limit fl =
      ({ p with fixed := some { a with frame := c + 1 }, repeats := p.repeats + 1, accepted := p.accepted.filter (fun b => decide (c + 1 < b.frame)) }, true)) ∧
  (∀ (p : Prickings) (c limit fl : Nat), (∀ b ∈ p.accepted, b.frame ≠ c + 1) →
    (∀ a, p.fixed = some a → a.frame ≠ c ∨ a.repeatable = false ∨ limit ≤ p.repeats ∨ a.frameLength ≠ fl) →
    (fixPricking p c limit fl).2 = false ∧ (fixPricking p c limit fl).1.fixed = none ∧ (fixPricking p c limit fl).1.repeats = 0)

/-- The doorbell of a slot that the port does not own leaves the slot's Status reading ACCESS_DENIED; before the first
frame it leaves NOT_READY. Otherwise Status, RejectIndex and AcceptTick receive the outcome of Table 2-7:
TYPE_MISMATCH for another FormatVersion or a reserved field that is not 0, of the header or, with its index, of an
entry; then LENGTH_EXCEEDS beyond 32,768 entries, STALE for a frame before c + 2, BUSY for one after c + 9, and then
the per-entry rows with the first entry that fails the first failing row. One whose entries meet every row is accepted
and holds those entries. An accepted pricking replaces the one held for its frame, whose slot then reads STALE; a
rejected one changes nothing that is accepted or fixed. A host write of a word of a slot is kept, but for the read-
only fields of words 2 and 3. No trace class is selected in these states, so no trace record is written. (R24, R72,
R74, R75, R76, Table 2-5, Table 2-7, R542, R697) -/
def Obligations.DoorbellJudgesAPricking : Prop :=
  (∀ (s : State) (port : Fin 2) (slot : Fin 8), (s.port port.val).st ≠ .down → s.reg (okey 0xB011 0) = 0 →
    s.reg (okey 0x3010 0) / 2 ^ slot.val % 2 ≠ port.val →
    ∃ t, exec (.prickingDoorbell port slot) s = .next t ∧ Same [.prick] s t ∧
      t.prick = { s.prick with ro := Tbl.put {} s.prick.ro slot.val { s.prick.slotRo slot.val with status := Status.accessDenied.code } }) ∧
  (∀ (s : State) (port : Fin 2) (slot : Fin 8), (s.port port.val).st ≠ .down → s.reg (okey 0xB011 0) = 0 →
    s.reg (okey 0x3010 0) / 2 ^ slot.val % 2 = port.val → s.tb.begun = false →
    ∃ t, exec (.prickingDoorbell port slot) s = .next t ∧ Same [.prick] s t ∧
      t.prick = { s.prick with ro := Tbl.put {} s.prick.ro slot.val { status := Status.notReady.code } }) ∧
  (∀ (s : State) (port : Fin 2) (slot : Fin 8) (code : Status) (w0 w1 w2 : Nat), (s.port port.val).st ≠ .down →
    s.reg (okey 0xB011 0) = 0 → s.reg (okey 0x3010 0) / 2 ^ slot.val % 2 = port.val → s.tb.begun = true →
    w0 = s.prick.word slot.val 0 → w1 = s.prick.word slot.val 1 → w2 = s.prick.word slot.val 2 →
    (if bits w1 23 16 ≠ 1 ∨ bits w1 63 32 ≠ 0 ∨ bits w1 31 25 ≠ 0 ∨ bits w2 31 8 ≠ 0 then code = .typeMismatch
     else (∀ i < min (bits w1 15 0) 32768, bits (s.prick.word slot.val (4 + 2 * i)) 44 40 = 0) ∧
       (if 32768 < bits w1 15 0 then code = .lengthExceeds
        else if w0 < s.tb.frame + 2 then code = .stale
        else s.tb.frame + 9 < w0 ∧ code = .busy)) →
    ∃ t, exec (.prickingDoorbell port slot) s = .next t ∧ Same [.prick] s t ∧
      t.prick = { s.prick with ro := Tbl.put {} s.prick.ro slot.val { rejectIndex := 0, status := code.code, acceptTick := s.tb.count } }) ∧
  (∀ (s : State) (port : Fin 2) (slot : Fin 8) (i : Nat), (s.port port.val).st ≠ .down → s.reg (okey 0xB011 0) = 0 →
    s.reg (okey 0x3010 0) / 2 ^ slot.val % 2 = port.val → s.tb.begun = true →
    bits (s.prick.word slot.val 1) 23 16 = 1 → bits (s.prick.word slot.val 1) 63 32 = 0 → bits (s.prick.word slot.val 1) 31 25 = 0 →
    bits (s.prick.word slot.val 2) 31 8 = 0 → i < min (bits (s.prick.word slot.val 1) 15 0) 32768 →
    bits (s.prick.word slot.val (4 + 2 * i)) 44 40 ≠ 0 → (∀ j < i, bits (s.prick.word slot.val (4 + 2 * j)) 44 40 = 0) →
    ∃ t, exec (.prickingDoorbell port slot) s = .next t ∧ Same [.prick] s t ∧
      t.prick = { s.prick with ro := Tbl.put {} s.prick.ro slot.val { rejectIndex := i, status := Status.typeMismatch.code, acceptTick := s.tb.count } }) ∧
  (∀ (s : State) (port : Fin 2) (slot : Fin 8) (es : List PEntry) (code : Status) (i : Nat), (s.port port.val).st ≠ .down →
    s.reg (okey 0xB011 0) = 0 → s.reg (okey 0x3010 0) / 2 ^ slot.val % 2 = port.val → s.tb.begun = true →
    bits (s.prick.word slot.val 1) 23 16 = 1 → bits (s.prick.word slot.val 1) 63 32 = 0 → bits (s.prick.word slot.val 1) 31 25 = 0 →
    bits (s.prick.word slot.val 2) 31 8 = 0 → bits (s.prick.word slot.val 1) 15 0 ≤ 32768 →
    s.tb.frame + 2 ≤ s.prick.word slot.val 0 → s.prick.word slot.val 0 ≤ s.tb.frame + 9 →
    es = s.prick.entriesOf slot.val (bits (s.prick.word slot.val 1) 15 0) → (∀ e ∈ es, e.rsv = 0) →
    badEntry s.tb.frameLength es = some (code, i) → code ≠ .ok →
    ∃ t, exec (.prickingDoorbell port slot) s = .next t ∧ Same [.prick] s t ∧
      t.prick = { s.prick with ro := Tbl.put {} s.prick.ro slot.val { rejectIndex := i, status := code.code, acceptTick := s.tb.count } }) ∧
  (∀ (s : State) (port : Fin 2) (slot : Fin 8) (es : List PEntry), (s.port port.val).st ≠ .down → s.reg (okey 0xB011 0) = 0 →
    s.reg (okey 0x3010 0) / 2 ^ slot.val % 2 = port.val → s.tb.begun = true →
    bits (s.prick.word slot.val 1) 23 16 = 1 → bits (s.prick.word slot.val 1) 63 32 = 0 → bits (s.prick.word slot.val 1) 31 25 = 0 →
    bits (s.prick.word slot.val 2) 31 8 = 0 → bits (s.prick.word slot.val 1) 15 0 ≤ 32768 →
    s.tb.frame + 2 ≤ s.prick.word slot.val 0 → s.prick.word slot.val 0 ≤ s.tb.frame + 9 →
    es = s.prick.entriesOf slot.val (bits (s.prick.word slot.val 1) 15 0) →
    (∀ e ∈ es, e.rsv = 0 ∧ e.cls ≠ 3 ∧ e.start < e.deadline ∧ e.cores ≤ 48 ∧
      e.deadline ≤ (if e.cls = 0 then 1 else if e.cls = 1 then 4 else 64) * s.tb.frameLength) →
    (∀ (k : Nat) (e : PEntry) (a : Nat), es[k]? = some e → e.after = some a → a < k) →
    ∃ t, exec (.prickingDoorbell port slot) s = .next t ∧ Same [.prick] s t ∧ t.prick.fixed = s.prick.fixed ∧
      { frame := s.prick.word slot.val 0, slot := slot.val, repeatable := decide (bits (s.prick.word slot.val 1) 24 24 = 1),
        frameLength := s.tb.frameLength, entries := es } ∈ t.prick.accepted ∧
      (∀ a ∈ t.prick.accepted, a.frame = s.prick.word slot.val 0 → a.slot = slot.val) ∧
      (∀ a, a.frame ≠ s.prick.word slot.val 0 → (a ∈ t.prick.accepted ↔ a ∈ s.prick.accepted))) ∧
  (∀ (p : Prickings) (a b : Accepted), Tbl.rising p.ro = true → b ∈ p.accepted → b.frame = a.frame → b.slot ≠ a.slot →
    ((p.take a).slotRo b.slot).status = Status.stale.code) ∧
  (∀ (s : State) (port : Fin 2) (slot : Fin 8) (word : Nat) (v : BitVec 64), (s.port port.val).st ≠ .down → word < 4 + 2 * 32768 →
    ∃ t, exec (.prickingSlotWrite port slot word v) s = .next t ∧ Same [.prick] s t ∧
      t.prick = { s.prick with mem := Tbl.put 0 s.prick.mem (slot.val * 131072 + word) (if word = 2 then v.toNat / 2 ^ 8 % 2 ^ 24 * 2 ^ 8 else if word = 3 then 0 else v.toNat) })

/-- When the next instruction of a running core is a control instruction and its common wait is met, its count is
subtracted, once, and: NOP goes on; BR goes on at Target; BRC does so when Reg meets Cond against Imm, unsigned, else
at the next instruction; IADD writes Src plus the signed Imm modulo 2^32 and ISET the zero-extended Imm; ILOAD writes
the UINT32 scratch word at its descriptor's effective base, goes on without a word for a descriptor of zero elements
(R190), and faults the step with TYPE_MISMATCH for another space or format; a write of I0 is discarded. Only the
core's own part changes, except that TRAP discards the step on every core of its grant (its code goes into the
completion record) and END, once every queue of the core has drained, ends the step on the core, ORs its ArithFlags
into the grant's, and on the last core of an entry's last step frees the cores and commits the entry with the working
copy of the stream's state. No tensor capture is armed in these states of END. (R219) -/
def Obligations.ControlInstructionsActAsTabled : Prop :=
  (∀ (s : State) (die : Fin 8) (core : Fin 48) (k : Nat) (g : Grant) (r : CoreRun) (w : Nat), AtIssue s die core 0 0 k g r w →
    exec (.nop die core) s = .next (s.setRun k (some { r.seqTake w with pc := r.pc + 1, memWait := false, waited := false }))) ∧
  (∀ (s : State) (die : Fin 8) (core : Fin 48) (k : Nat) (g : Grant) (r : CoreRun) (w : Nat), AtIssue s die core 0 2 k g r w →
    exec (.br die core) s = .next (s.setRun k (some { r.seqTake w with pc := bits w 12 0, memWait := false, waited := false }))) ∧
  (∀ (s : State) (die : Fin 8) (core : Fin 48) (k : Nat) (g : Grant) (r : CoreRun) (w x imm : Nat), AtIssue s die core 0 3 k g r w →
    x = ireg r.idx (bits w 34 31) → imm = bits w 28 17 →
    exec (.brc die core) s = .next (s.setRun k (some
      (if (bits w 30 29 = 0 ∧ x = imm) ∨ (bits w 30 29 = 1 ∧ x ≠ imm) ∨ (bits w 30 29 = 2 ∧ x < imm) ∨ (bits w 30 29 = 3 ∧ imm ≤ x)
       then { r.seqTake w with pc := bits w 12 0, memWait := false, waited := false } else { r.seqTake w with pc := r.pc + 1, memWait := false, waited := false })))) ∧
  (∀ (s : State) (die : Fin 8) (core : Fin 48) (k : Nat) (g : Grant) (r : CoreRun) (w : Nat), AtIssue s die core 0 4 k g r w →
    ∃ v : Nat, v < 2 ^ 32 ∧
      (v : Int) % 2 ^ 32 = ((ireg r.idx (bits w 30 27) : Int) +
        (if bits w 26 0 < 2 ^ 26 then (bits w 26 0 : Int) else (bits w 26 0 : Int) - 2 ^ 27)) % 2 ^ 32 ∧
      exec (.iadd die core) s = .next (s.setRun k (some { r.seqTake w with
        idx := if bits w 34 31 = 0 then r.idx else Tbl.put 0 r.idx (bits w 34 31) v, pc := r.pc + 1, memWait := false, waited := false }))) ∧
  (∀ (s : State) (die : Fin 8) (core : Fin 48) (k : Nat) (g : Grant) (r : CoreRun) (w : Nat), AtIssue s die core 0 5 k g r w →
    exec (.iset die core) s = .next (s.setRun k (some { r.seqTake w with
      idx := if bits w 34 31 = 0 then r.idx else Tbl.put 0 r.idx (bits w 34 31) (bits w 30 0), pc := r.pc + 1, memWait := false, waited := false }))) ∧
  (∀ (s : State) (die : Fin 8) (core : Fin 48) (k : Nat) (g : Grant) (r : CoreRun) (w : Nat) (o : Operand), AtIssue s die core 0 6 k g r w →
    o = operand (s.stepDesc g.die g.base g.descOff (bits w 30 25)) (ireg r.idx (bits w 24 21)) →
    o.d.space = 0 → o.f = .uint32 → o.d.count ≠ 0 → o.aligned = true → o.inScratch = true →
    exec (.iload die core) s = .next (s.setRun k (some { r.seqTake w with
      idx := if bits w 34 31 = 0 then r.idx else Tbl.put 0 r.idx (bits w 34 31) (rdLe (s.core k).scratch o.eb 4)
      pc := r.pc + 1
      memWait := false, waited := false }))) ∧
  (∀ (s : State) (die : Fin 8) (core : Fin 48) (k : Nat) (g : Grant) (r : CoreRun) (w : Nat) (o : Operand), AtIssue s die core 0 6 k g r w →
    o = operand (s.stepDesc g.die g.base g.descOff (bits w 30 25)) (ireg r.idx (bits w 24 21)) →
    (o.d.space = 0 ∧ o.f = .uint32 ∧ o.d.count = 0 →
      exec (.iload die core) s = .next (s.setRun k (some { r.seqTake w with pc := r.pc + 1, memWait := false, waited := false }))) ∧
    (o.d.space ≠ 0 ∨ o.f ≠ .uint32 → exec (.iload die core) s = .next ((s.setRun k (some (r.seqTake w))).stepFault g
      { cause := Status.typeMismatch.code, core := s.numberOf g.die (k % 64), unit := 0, instr := r.pc }))) ∧
  (∀ (s : State) (die : Fin 8) (core : Fin 48) (k : Nat) (g : Grant) (r : CoreRun) (w : Nat), AtIssue s die core 0 7 k g r w →
    ∃ t, exec (.trap die core) s = .next t ∧
      Same [.dict, .lastStatus, .freeCtr, .hostMem, .entries, .cores, .runs, .grants, .orphans, .stores, .pair, .ports, .streams, .pw, .test] s t ∧
      t = (s.setRun k (some (r.seqTake w))).stepFault g { cause := Status.trap.code, trap := bits w 7 0, core := s.numberOf g.die (k % 64), unit := 0, instr := r.pc } ∧
      t.grants = s.grants.filter (fun x => decide (x.id ≠ g.id)) ∧
      (Tbl.rising s.runs = true → ∀ j, t.run j = if g.cores.any (fun c => decide (coreKey g.die c = j)) then none else (s.setRun k (some (r.seqTake w))).run j) ∧
      (∀ e ∈ t.entries, e.frame = g.frame → e.idx = g.entry → e.st ≠ .running)) ∧
  (∀ (s : State) (die : Fin 8) (core : Fin 48) (k : Nat) (g : Grant) (r : CoreRun) (w : Nat), AtIssue s die core 0 1 k g r w →
    (∀ i, i < 11 → r.queue (i + 1) = [] ∧ r.active (i + 1) = []) → (∀ n, n < 4 → s.dumpMatches n g = false) → r.sfu = none →
    (∃ m ∈ g.cores, coreKey g.die m ≠ k ∧ ∃ y, s.run (coreKey g.die m) = some y ∧ y.ended = false) →
    ∃ t, exec (.endStep die core) s = .next t ∧ Same [.grants, .runs] s t ∧
      t.runs = Tbl.put none s.runs k (some { r.seqTake w with ended := true }) ∧
      t.grants = s.grants.map (fun y => if y.id = g.id then { y with arith := g.arith ||| r.arith } else y)) ∧
  (∀ (s : State) (die : Fin 8) (core : Fin 48) (k : Nat) (g : Grant) (r : CoreRun) (w : Nat) (e : Entry), AtIssue s die core 0 1 k g r w →
    (∀ i, i < 11 → r.queue (i + 1) = [] ∧ r.active (i + 1) = []) → (∀ n, n < 4 → s.dumpMatches n g = false) → r.sfu = none →
    g.cores = [k % 64] → coreKey g.die (k % 64) = k →
    s.entries.find? (fun x => decide (x.frame = g.frame) && decide (x.idx = g.entry)) = some e → e.stepCount ≤ e.done + 1 →
    (s.stream g.stream).st ≠ .closed → (s.stream g.stream).deferred = [] →
    ∃ t, exec (.endStep die core) s = .next t ∧
      Same [.lastStatus, .ports, .streams, .grants, .dict, .cores, .runs, .freeCtr, .entries, .test, .pair, .pw] s t ∧
      (t.stream g.stream).committed = (s.stream g.stream).working ∧ (∀ x ∈ t.grants, x.id ≠ g.id) ∧
      t.entries = s.entries.map (fun y => if y.frame = g.frame ∧ y.idx = g.entry then { y with done := y.done + 1, st := .committed } else y))

/-- When the next instruction of a running core is a synchronisation instruction and its common wait is met: WAITPIN goes
on when Pin holds at least Count, which is subtracted unless Keep is set; SEMADD adds Value to its grant semaphore and
goes on, or faults the step with LENGTH_EXCEEDS beyond 2^32 − 1; SEMWAIT goes on when its semaphore is at least Value
and subtracts nothing; FENCE goes on when every instruction issued to a unit that UnitMask selects has completed;
WAITMEM, and each reread of its word, goes on when the word is at least Value, and otherwise keeps waiting; a
descriptor of another space or format faults the step with TYPE_MISMATCH, and one of zero elements waits for nothing.
An instruction that is not met leaves issue where it is: of WAITPIN, SEMWAIT and FENCE then only the count of the
common wait is subtracted, once. (R215) -/
def Obligations.SynchronisationInstructionsStopIssue : Prop :=
  (∀ (s : State) (die : Fin 8) (core : Fin 48) (k : Nat) (g : Grant) (r : CoreRun) (w p n : Nat), AtIssue s die core 1 0 k g r w →
    p = bits w 34 30 → n = bits w 29 14 →
    exec (.waitpin die core) s = .next (if n ≤ Tbl.get 0 (r.seqTake w).pins p then
      s.setRun k (some { r.seqTake w with
        pins := if bits w 13 13 = 1 then (r.seqTake w).pins else Tbl.put 0 (r.seqTake w).pins p (Tbl.get 0 (r.seqTake w).pins p - n)
        pc := r.pc + 1
        memWait := false
        waited := false }) else s.setRun k (some (r.seqTake w)))) ∧
  (∀ (s : State) (die : Fin 8) (core : Fin 48) (k : Nat) (g : Grant) (r : CoreRun) (w i v : Nat), AtIssue s die core 1 1 k g r w →
    i = bits w 34 31 → v = Tbl.get 0 g.sems i + bits w 30 15 →
    (v < 2 ^ 32 → ∃ t, exec (.semadd die core) s = .next t ∧ Same [.runs, .grants] s t ∧
      t.runs = Tbl.put none s.runs k (some { r.seqTake w with pc := r.pc + 1, memWait := false, waited := false }) ∧
      t.grants = s.grants.map (fun x => if x.id = g.id then { x with sems := Tbl.put 0 x.sems i v } else x)) ∧
    (2 ^ 32 ≤ v → exec (.semadd die core) s = .next ((s.setRun k (some (r.seqTake w))).stepFault g
      { cause := Status.lengthExceeds.code, core := s.numberOf g.die (k % 64), unit := 0, instr := r.pc }))) ∧
  (∀ (s : State) (die : Fin 8) (core : Fin 48) (k : Nat) (g : Grant) (r : CoreRun) (w : Nat), AtIssue s die core 1 2 k g r w →
    exec (.semwait die core) s = .next (if bits w 30 15 ≤ Tbl.get 0 g.sems (bits w 34 31) then
      s.setRun k (some { r.seqTake w with pc := r.pc + 1, memWait := false, waited := false }) else s.setRun k (some (r.seqTake w)))) ∧
  (∀ (s : State) (die : Fin 8) (core : Fin 48) (k : Nat) (g : Grant) (r : CoreRun) (w : Nat), AtIssue s die core 1 3 k g r w →
    ((∀ i, i < 11 → bits w (24 + i) (24 + i) = 1 → r.queue (i + 1) = [] ∧ r.active (i + 1) = []) →
      exec (.fence die core) s = .next (s.setRun k (some { r.seqTake w with pc := r.pc + 1, memWait := false, waited := false }))) ∧
    ((∃ i, i < 11 ∧ bits w (24 + i) (24 + i) = 1 ∧ (r.queue (i + 1) ≠ [] ∨ r.active (i + 1) ≠ [])) →
      exec (.fence die core) s = .next (s.setRun k (some (r.seqTake w))))) ∧
  (∀ (s : State) (die : Fin 8) (core : Fin 48) (k : Nat) (g : Grant) (r : CoreRun) (w : Nat) (o : Operand), AtIssue s die core 1 4 k g r w →
    o = operand (s.stepDesc g.die g.base g.descOff (bits w 34 29)) (ireg r.idx (bits w 28 25)) → o.d.space = 0 → o.f = .uint32 →
    (o.d.count = 0 ∨ (o.aligned = true ∧ o.inScratch = true)) → s.run k = some r →
    exec (.waitmem die core) s = .next (if o.d.count = 0 ∨ bits w 24 9 ≤ rdLe (s.core k).scratch o.eb 4 then
      s.setRun k (some { r.seqTake w with pc := r.pc + 1, memWait := false, waited := false }) else s.setRun k (some { r.seqTake w with memWait := true })) ∧
    (r.memWait = true → exec (.waitmemPoll die core) s = .next (if o.d.count = 0 ∨ bits w 24 9 ≤ rdLe (s.core k).scratch o.eb 4 then
      s.setRun k (some { r.seqTake w with pc := r.pc + 1, memWait := false, waited := false }) else s.setRun k (some { r.seqTake w with memWait := true })))) ∧
  (∀ (s : State) (die : Fin 8) (core : Fin 48) (k : Nat) (g : Grant) (r : CoreRun) (w : Nat) (o : Operand), AtIssue s die core 1 4 k g r w →
    o = operand (s.stepDesc g.die g.base g.descOff (bits w 34 29)) (ireg r.idx (bits w 28 25)) → (o.d.space ≠ 0 ∨ o.f ≠ .uint32) →
    exec (.waitmem die core) s = .next ((s.setRun k (some (r.seqTake w))).stepFault g
      { cause := Status.typeMismatch.code, core := s.numberOf g.die (k % 64), unit := 0, instr := r.pc }))

/-- Outside a freeze a Pending entry whose StartOffset has come and whose predecessor, if any, is Committed becomes Ready,
and no other entry changes. A die that serves grants the head of its deadline order: when its checks pass, it is not
bulk and enough cores are free, the entry is Running, a new grant takes the lowest free cores from the current tick
and every core of it starts the step, unless a line that the step start reads is bad, which faults the step; an entry
that fails a check completes at once, Committed for the status OK and else Withdrawn. An entry still Pending or Ready
when its deadline tick begins is Withdrawn, and entries that are final stay. A step that has run StepRunLimit ticks
faults with RUN_LIMIT, naming the sequencer manager, and leaves its cores. (R79, R80, R82, R84, R85, R116, R226, R229) -/
def Obligations.EntriesRunByTheirDies : Prop :=
  (∀ (s : State) (e : Entry), s.halted = false → e ∈ s.entries → e.st = .pending → e.start ≤ s.dieTick e.die →
    (e.after = none ∨ predState s.entries e = some .committed) →
    ∃ t, exec (.entryStartOffset e.frame e.idx) s = .next t ∧ Same [.entries] s t ∧ { e with st := .ready } ∈ t.entries ∧
      ∀ x ∈ s.entries, (x.frame ≠ e.frame ∨ x.idx ≠ e.idx) → x ∈ t.entries) ∧
  (∀ (s : State) (die : Fin 8) (e : Entry) (rest : List Entry), (s.dieOf die.val).up = true → (s.dieOf die.val).isolated = false →
    s.halted = false → (s.pausedBy 4 die.val = false ∨ s.sec.update.holdTo ≤ s.dieTick die.val) → s.readyOrder die.val = e :: rest → s.grantChecks e = none → e.cls ≠ .bulk →
    e.cores ≤ (s.freeCores die.val).length → e.die = die.val → e.pattern ≠ 2 ^ 16 →
    Tbl.rising s.runs = true →
    let base := (((s.dieOf die.val).pattern e.pattern).map (·.base)).getD 0
    let row := fun o => rdLe (s.store (2 * die.val)).mem (base + o + 16 * (e.firstStep + e.done)) 8
    let g : Grant :=
      { id := s.nextGrant, die := die.val, frame := e.frame, entry := e.idx, stream := e.stream, pattern := e.pattern,
        step := e.firstStep + e.done, cls := e.cls, cores := (s.freeCores die.val).take e.cores, tick := s.dieTick die.val, base := base,
        codeOff := bits (row 64) 63 32, codeLen := bits (row 64) 31 18, descOff := bits (row 72) 63 32, descCount := bits (row 64) 17 11,
        sems := [], arith := 0 }
    (s.startBad g = false → ∃ t, exec (.coreGrant die) s = .next t ∧
      Same [.streams, .nextGrant, .grants, .dict, .runs, .entries, .stores, .test] s t ∧ t.nextGrant = s.nextGrant + 1 ∧
      t.entries = s.entries.map (fun x => if x.frame = e.frame ∧ x.idx = e.idx then { x with st := .running } else x) ∧
      g ∈ t.grants ∧ ∀ m ∈ g.cores, ∃ r, t.run (coreKey die.val m) = some r ∧ r.grant = g.id ∧ r.pc = 0 ∧ r.pins = [] ∧ r.arith = 0) ∧
    (s.startBad g = true → ∃ t, exec (.coreGrant die) s = .next t ∧ (∀ x ∈ t.grants, x.id ≠ s.nextGrant) ∧
      (∀ x ∈ t.entries, x.frame = e.frame → x.idx = e.idx → x.st = .discarded) ∧ ∀ m ∈ g.cores, t.run (coreKey die.val m) = none)) ∧
  (∀ (s : State) (die : Fin 8) (e : Entry) (rest : List Entry) (st : Status), (s.dieOf die.val).up = true →
    (s.dieOf die.val).isolated = false → s.halted = false → (s.pausedBy 4 die.val = false ∨ s.sec.update.holdTo ≤ s.dieTick die.val) →
    s.readyOrder die.val = e :: rest → s.grantChecks e = some st →
    ∃ t, exec (.coreGrant die) s = .next t ∧ Same [.lastStatus, .ports, .dict, .freeCtr, .entries, .test, .pair, .pw] s t ∧
      ∀ x ∈ t.entries, x.frame = e.frame → x.idx = e.idx → x.st = (if st = .ok then .committed else .withdrawn)) ∧
  (∀ (s : State) (die : Fin 8) (e : Entry), s.halted = false → e ∈ s.entries → e.die = die.val → (e.st = .pending ∨ e.st = .ready) →
    e.deadline ≤ s.dieTick die.val →
    ∃ t, exec (.deadlineTick die) s = .next t ∧ Same [.lastStatus, .ports, .dict, .freeCtr, .entries, .test, .pair, .pw] s t ∧
      { e with st := .withdrawn } ∈ t.entries ∧ t.entries.length = s.entries.length ∧
      ∀ x ∈ s.entries, x.st.final = true → x ∈ t.entries) ∧
  (∀ (s : State) (die : Fin 8) (g : Grant) (rest : List Grant), s.stopped = false → s.grants = g :: rest → g.die = die.val →
    g.tick + s.reg (okey 0x4310 0) ≤ s.dieTick die.val →
    ∃ t, exec (.stepRunLimit die) s = .next t ∧
      Same [.lastStatus, .hostMem, .ports, .streams, .grants, .dict, .cores, .runs, .freeCtr, .entries, .stores, .test, .pair, .orphans, .pw] s t ∧
      t = s.stepFault g { cause := Status.runLimit.code, unit := 12, core := s.numberOf g.die (g.cores.headD 0) } ∧
      t.grants = rest.filter (fun x => decide (x.id ≠ g.id)) ∧
      (Tbl.rising s.runs = true → ∀ j, t.run j = if g.cores.any (fun c => decide (coreKey g.die c = j)) then none else s.run j))

/-- The next instruction of a running core enters the queue of its unit with the index registers as they stand, when fewer
than 8 wait there, and the sequencer goes on to the next one; an MMA4, or a DRAIN with DrainAll, enters the queue of
each of the four engines. When a started instruction of a unit completes, with none before it that it must follow, it
leaves the unit, and with IncValid it adds 1 to IncPin; a pin carried beyond 65,535 faults the step with
LENGTH_EXCEEDS, naming the unit and the instruction. An instruction for which the queue is full waits. (R106, R108,
R179, R182, R199, R227) -/
def Obligations.IssueAndCompletionMoveInstructions : Prop :=
  (∀ (s : State) (die : Fin 8) (core : Fin 48) (k : Nat) (g : Grant) (r : CoreRun) (w u : Nat),
    s.running die.val core.val = some (k, g, r) → r.pc < g.codeLen → s.stepCode g r.pc = w →
    u = (if iClass w = 2 then 1 else if iClass w = 3 then 2 + bits w 34 33 else if iClass w = 4 then 6 else if iClass w = 5 then 7
      else if iClass w = 6 then 8 + bits w 34 33 else 0) → u ≠ 0 →
    ¬(iClass w = 3 ∧ (iOp w = 1 ∨ (iOp w = 2 ∧ bits w 20 20 = 1))) →
    exec (.instructionIssue die core) s = .next (if (Tbl.get [] r.queues u).length < 8 then
      s.setRun k (some { r with
        queues := Tbl.put [] r.queues u (Tbl.get [] r.queues u ++ [{ idx := r.pc, word := w, regs := r.idx }])
        pc := r.pc + 1
        memWait := false
        waited := false }) else s)) ∧
  (∀ (s : State) (die : Fin 8) (core : Fin 48) (k : Nat) (g : Grant) (r : CoreRun) (w : Nat),
    s.running die.val core.val = some (k, g, r) → r.pc < g.codeLen → s.stepCode g r.pc = w → iClass w = 3 →
    (iOp w = 1 ∨ (iOp w = 2 ∧ bits w 20 20 = 1)) → (∀ u, 2 ≤ u → u ≤ 5 → (r.queue u).length < 8) →
    ∃ t r', exec (.instructionIssue die core) s = .next t ∧ t = s.setRun k (some r') ∧ r'.pc = r.pc + 1 ∧ r'.idx = r.idx ∧ r'.pins = r.pins ∧
      r'.started = r.started ∧
      ∀ u, 2 ≤ u → u ≤ 5 → r'.queue u = r.queue u ++ [{ idx := r.pc, word := w, regs := r.idx }]) ∧
  (∀ (s : State) (die : Fin 8) (core : Fin 48) (unit : Fin 12) (pos k : Nat) (g : Grant) (r : CoreRun) (q : QInstr) (before rest : List QInstr) (p : Nat),
    s.running die.val core.val = some (k, g, r) → unit.val < 8 → r.active unit.val = before ++ q :: rest → pos = before.length →
    (unit.val = 1 → q.left = [] ∧ ∀ x ∈ before, x.left ≠ []) →
    (2 ≤ unit.val → unit.val < 6 → ∀ x ∈ before, (if iOp x.word < 2 then bits x.word 12 12 else bits x.word 22 22) ≠
      (if iOp q.word < 2 then bits q.word 12 12 else bits q.word 22 22) ∧ (2 ≤ iOp x.word ∨ 2 ≤ iOp q.word)) →
    (unit.val = 0 ∨ 6 ≤ unit.val → before = []) →
    ¬(iClass q.word = 3 ∧ (iOp q.word = 1 ∨ (iOp q.word = 2 ∧ bits q.word 20 20 = 1))) → p = iIncPin q.word →
    (iIncValid q.word = false → exec (.instructionComplete die core unit pos) s =
      .next (s.setRun k (some { r with started := Tbl.put [] r.started unit.val (before ++ rest) }))) ∧
    (iIncValid q.word = true → Tbl.get 0 r.pins p < 65535 → exec (.instructionComplete die core unit pos) s =
      .next (s.setRun k (some { r with started := Tbl.put [] r.started unit.val (before ++ rest), pins := Tbl.put 0 r.pins p (Tbl.get 0 r.pins p + 1) }))) ∧
    (iIncValid q.word = true → 65535 ≤ Tbl.get 0 r.pins p → exec (.instructionComplete die core unit pos) s =
      .next ((s.setRun k (some { r with started := Tbl.put [] r.started unit.val (before ++ rest) })).stepFault g
        { cause := Status.lengthExceeds.code, core := s.numberOf g.die (k % 64), unit := unit.val, instr := q.idx })))

/-- A row move whose addresses pass their checks, whose port serves with no earlier row waiting, and that meets no error
moves row i, for i below Count, between row-store address (RowAddr + IdxReg + i × 0x400) mod 2^15, or the value of the
register for the .X forms, and the i-th 512 bytes of scratch: ROWIN writes scratch and leaves the row store, ROWOUT
writes the row store, where a poisoned row that is written whole is no longer poisoned, and leaves scratch. It counts
every row as a move of the port and has started in unit 1; nothing else of the module changes. With Count 0 it moves
no row and completes at once. A ROWIN of one row that meets a double-bit error, or whose row is poisoned, discards the
step; the row with the double-bit error is poisoned. (R42, R102, R104, R130, R192, R193, R39) -/
def Obligations.RowMovesMoveTheirRows : Prop :=
  (∀ (s : State) (die : Fin 8) (core : Fin 48) (k : Nat) (g : Grant) (r : CoreRun) (q : QInstr) (n a : Nat) (scr : Nat → Nat),
    let w := q.word
    let plain := n = bits w 30 27 ∧ a = bits w 14 0 + ireg q.regs (bits w 34 31) ∧ bits w 26 15 + n ≤ 4096 ∧
      scr = fun i => (bits w 26 15 + i) * 512
    let indexed := n = bits w 26 23 ∧ a = ireg q.regs (bits w 34 31) ∧ ireg q.regs (bits w 30 27) % 512 = 0 ∧
      ireg q.regs (bits w 30 27) + n * 512 ≤ 2 ^ 21 ∧ scr = fun i => ireg q.regs (bits w 30 27) + i * 512
    let row := fun i => (s.core k).physRow ((a + i * 0x400) % 2 ^ 15)
    let serves := q.left = [] ∧ (∀ x ∈ r.active 1, x.left = []) ∧ 0 < n ∧ a < 2 ^ 15 ∧ (s.core k).pause = false ∧
      (s.core k).copy = none ∧ (s.core k).bistBank = none ∧ (s.dieOf g.die).bankReset = false
    let clean := ∀ i, i < n → row i ∉ (s.core k).poisoned
    let brought := fun (t : State) => Same [.cores, .runs] s t ∧ t.runs = (started s k 1 r q).runs ∧
      (t.core k).moves = (s.core k).moves + n ∧ (t.core k).rows = (s.core k).rows ∧ (t.core k).poisoned = (s.core k).poisoned ∧
      (t.core k).scratch = (List.range n).foldl (fun m i => wrBytes m (scr i) (rdBytes (s.core k).rows (row i * 512) 512)) (s.core k).scratch
    let taken := fun (t : State) => Same [.cores, .runs] s t ∧ t.runs = (started s k 1 r q).runs ∧
      (t.core k).moves = (s.core k).moves + n ∧ (t.core k).scratch = (s.core k).scratch ∧
      (t.core k).poisoned = (s.core k).poisoned.filter (fun p => (List.range n).all (fun i => decide (p ≠ row i))) ∧
      (t.core k).rows = (List.range n).foldl (fun m i => wrBytes m (row i * 512) (rdBytes (s.core k).scratch (scr i) 512)) (s.core k).rows
    (AtHead s die core 1 2 0 k g r q → plain → serves → clean → ∃ t, exec (.rowin die core []) s = .next t ∧ brought t) ∧
    (AtHead s die core 1 2 1 k g r q → plain → serves → ∃ t, exec (.rowout die core []) s = .next t ∧ taken t) ∧
    (AtHead s die core 1 2 2 k g r q → indexed → serves → clean → ∃ t, exec (.rowinX die core []) s = .next t ∧ brought t) ∧
    (AtHead s die core 1 2 3 k g r q → indexed → serves → ∃ t, exec (.rowoutX die core []) s = .next t ∧ taken t)) ∧
  (∀ (s : State) (die : Fin 8) (core : Fin 48) (k : Nat) (g : Grant) (r : CoreRun) (q : QInstr),
    (∀ x ∈ r.active 1, x.left = []) →
    let gone := s.completeInstr k g (r.pop [1] q.word) 1 q
    (AtHead s die core 1 2 0 k g r q → bits q.word 30 27 = 0 → exec (.rowin die core []) s = .next gone) ∧
    (AtHead s die core 1 2 1 k g r q → bits q.word 30 27 = 0 → exec (.rowout die core []) s = .next gone) ∧
    (AtHead s die core 1 2 2 k g r q → bits q.word 26 23 = 0 → exec (.rowinX die core []) s = .next gone) ∧
    (AtHead s die core 1 2 3 k g r q → bits q.word 26 23 = 0 → exec (.rowoutX die core []) s = .next gone)) ∧
  (∀ (s : State) (die : Fin 8) (core : Fin 48) (k : Nat) (g : Grant) (r : CoreRun) (q : QInstr) (a p group b c : Nat) (bad : Bool),
    AtHead s die core 1 2 0 k g r q → bits q.word 30 27 = 1 → a = bits q.word 14 0 + ireg q.regs (bits q.word 34 31) → a < 2 ^ 15 →
    (∀ x ∈ r.active 1, x.left = []) → bits q.word 26 15 < 4096 → (s.core k).pause = false → (s.core k).copy = none → (s.core k).bistBank = none →
    (s.dieOf g.die).bankReset = false → p = (s.core k).physRow a → (bad = true ↔ p ∈ (s.core k).poisoned) →
    (s.core k).width = 0 → (s.core k).bankDoubles = [] → (s.core k).corrections = [] →
    (bad = true →
      ∃ t, exec (.rowin die core []) s = .next t ∧ t.grants = s.grants.filter (fun y => decide (y.id ≠ g.id)) ∧
        (t.core k).scratch = (s.core k).scratch) ∧
    (bad = false →
      ∃ t, exec (.rowin die core [{ row := 0, group := group, bits := [b, c] }]) s = .next t ∧ p ∈ (t.core k).poisoned ∧
        (t.core k).scratch = (s.core k).scratch ∧ t.grants = s.grants.filter (fun y => decide (y.id ≠ g.id))))

/-- On a core in service with no bank copy in progress: a failed connection of a group whose spare is free switches the
spare in and pauses the port; once it is used, a full-width port drops the group's half; at half width, when one bank
accounts for every corrected move of the connection, that bank is copied to a spare bank. A lost bank control
interface, or a bank failure with no spare bank left, takes the core out of service with the contents lost. The end of
the pause lets the port move rows again. The end of a bank copy switches the bank map to the spare bank, whose rows
are those of the old one and poisoned where those were, and the core serves on, a spare core as a spare. A step on the
core, if any, keeps running unless the core is lost. (R38, R40, R41, R42, R126, R129, R130, R131, R132, Table 3-6) -/
def Obligations.RungsOfTheLadder : Prop :=
  (∀ (s : State) (k group pos : Nat) (banks : List Nat), pos / 72 = group → (s.core k).mode = .inService → (s.core k).copy = none →
    (s.core k).dropped group = false → group ∉ (s.core k).groupsUsed →
    ∃ c, ((s.ladder k (.connection pos banks)).core k) = c ∧ c.groupsUsed = (s.core k).groupsUsed ++ [group] ∧ c.pause = true ∧
      c.mode = .inService ∧ c.rows = (s.core k).rows ∧ Same [.cores, .dict, .fieldMap] s (s.ladder k (.connection pos banks))) ∧
  (∀ (s : State) (k group pos : Nat) (banks : List Nat), pos / 72 = group → (s.core k).mode = .inService → (s.core k).copy = none → (s.core k).width = 0 →
    group ∈ (s.core k).groupsUsed →
    ((s.ladder k (.connection pos banks)).core k).width = (if group < 32 then 2 else 1) ∧
      Same [.cores, .dict, .fieldMap] s (s.ladder k (.connection pos banks))) ∧
  (∀ (s : State) (k group pos b spare l : Nat) (rest : List Nat), pos / 72 = group → (s.core k).mode = .inService → (s.core k).copy = none → (s.core k).width ≠ 0 →
    (s.core k).dropped group = false → group ∈ (s.core k).groupsUsed → (s.core k).logicalOf b = some l →
    (s.core k).spareBanks = spare :: rest →
    ((s.ladder k (.connection pos [b, b])).core k).copy = some (l, b, spare) ∧
      ((s.ladder k (.connection pos [b, b])).core k).spareBanks = rest ∧
      Same [.cores, .dict, .fieldMap] s (s.ladder k (.connection pos [b, b]))) ∧
  (∀ (s : State) (k : Nat) (f : RungFailure), (f = .control ∨ ∃ b l, f = .bank b ∧ (s.core k).logicalOf b = some l ∧ (s.core k).spareBanks = []) →
    (s.core k).mode = .inService → (s.core k).copy = none → 1 < s.coresInService (k / 64) → s.run k = none → s.test.slices = [] →
    ((s.ladder k f).core k).mode = .outInService ∧ ((s.ladder k f).core k).rows = [] ∧ ((s.ladder k f).core k).scratch = [] ∧
      Same [.cores, .dict, .fieldMap, .test] s (s.ladder k f)) ∧
  (∀ (s : State) (die : Fin 8) (phys : Fin 52),
    ∃ t, exec (.rowPortPauseEnd die phys) s = .next t ∧ Same [.cores] s t ∧
      t.cores = Tbl.put {} s.cores (die.val * 64 + phys.val) { s.core (die.val * 64 + phys.val) with pause := false }) ∧
  (∀ (s : State) (die : Fin 8) (phys : Fin 52) (doubles : List Nat) (k l old new : Nat), k = die.val * 64 + phys.val →
    (s.core k).copy = some (l, old, new) → (s.core k).later = [] →
    ∃ t, exec (.bankCopyEnd die phys doubles) s = .next t ∧ Same [.cores] s t ∧ (t.core k).copy = none ∧
      (t.core k).mode = (if (s.core k).number = none then .spare else .inService) ∧
      (t.core k).physBank l = new ∧ (t.core k).rows = copyRange (s.core k).rows (old * 2 ^ 19) (2 ^ 19) (new * 2 ^ 19) ∧
      (∀ p ∈ (s.core k).poisoned, p / 1024 = old → new * 1024 + p % 1024 ∈ (t.core k).poisoned) ∧
      (∀ p ∈ doubles, p < 1024 → new * 1024 + p ∈ (t.core k).poisoned))

/-- When an engine instruction heads its queue, or the queues of all four engines, with its wait met, its set free and its
checks of spaces, extents, formats, alignment and bounds passed: MMA adds A × Bᵀ, 32 rows of A by 64 of B, into set S
of its engine, starting from 0 with Zero; MMA4 does so on all four engines, engine e with rows 32e to 32e + 31 of A;
DRAIN writes a set, or with DrainAll the set of all four engines, to scratch as FP32 unchanged or rounded to BF16;
ACCLOAD loads a set from FP32 scratch data. The products are accumulated in the order and with the rounding of R156 to
R161, and the arithmetic flags are added to the step's. Nothing else changes but the start of the instruction in its
units. An MMA with an operand outside the core's own scratch faults the step with TYPE_MISMATCH, and one of no
elements completes at once. (R90, R95, R96, R156, R157, R162, R195, R196, R197, R198, R199, R200) -/
def Obligations.EnginesAccumulate : Prop :=
  (∀ (s : State) (die : Fin 8) (core : Fin 48) (engine : Fin 4) (k : Nat) (g : Grant) (r : CoreRun) (q : QInstr) (a b : Operand),
    AtHead s die core (2 + engine.val) 3 0 k g r q → SetFree r [2 + engine.val] q.word → s.mmaOperands g q = (a, b) → MmaOk 32 a b →
    exec (.mma die core engine) s = .next
      (let p := mmaPart (s.core k).acc (s.core k).scratch a b engine.val (bits q.word 12 12) 0 (decide (bits q.word 11 11 = 1))
       ((started s k (2 + engine.val) r q).setCore k { s.core k with acc := p.1 }).flagRun k p.2)) ∧
  (∀ (s : State) (die : Fin 8) (core : Fin 48) (k : Nat) (g : Grant) (r : CoreRun) (q : QInstr) (a b : Operand),
    AtHead s die core 2 3 1 k g r q → SetFree r [2, 3, 4, 5] q.word → s.mmaOperands g q = (a, b) → MmaOk 128 a b →
    exec (.mma4 die core) s = .next ([0, 1, 2, 3].foldl (fun t e =>
      let p := mmaPart (t.core k).acc (t.core k).scratch a b e (bits q.word 12 12) (32 * e) (decide (bits q.word 11 11 = 1))
      (t.setCore k { t.core k with acc := p.1 }).flagRun k p.2) (started s k 2 r q))) ∧
  (∀ (s : State) (die : Fin 8) (core : Fin 48) (engine : Fin 4) (k : Nat) (g : Grant) (r : CoreRun) (q : QInstr) (o : Operand)
      (engines : List (Nat × Nat)) (rows : List (Nat × List (Flagged Nat))), AtHead s die core (2 + engine.val) 3 2 k g r q →
    SetFree r (unitsFor (2 + engine.val) q.word) q.word → o = s.accOperand g q →
    AccOk (if bits q.word 20 20 = 1 then 128 else 32) (if bits q.word 21 21 = 1 then .bf16 else .fp32) o →
    engines = (if bits q.word 20 20 = 1 then [(0, 0), (1, 32), (2, 64), (3, 96)] else [(engine.val, 0)]) →
    rows = (engines.flatMap (fun e => (List.range 32).map (fun i => (e.2 + i, (List.range 64).map (fun c =>
        f32Into o.f (Tbl.get 0 (s.core k).acc ((e.1 * 2 + bits q.word 22 22) * 2048 + i * 64 + c))))))) →
    ∃ t, exec (.drain die core engine) s = .next t ∧ Same [.cores, .runs] s t ∧ (t.core k).acc = (s.core k).acc ∧
      (t.core k).scratch = rows.foldl (fun m x => o.putRow m x.1 0 (x.2.map (·.1))) (s.core k).scratch) ∧
  (∀ (s : State) (die : Fin 8) (core : Fin 48) (engine : Fin 4) (k : Nat) (g : Grant) (r : CoreRun) (q : QInstr) (o : Operand),
    AtHead s die core (2 + engine.val) 3 3 k g r q → SetFree r [2 + engine.val] q.word → o = s.accOperand g q → AccOk 32 .fp32 o →
    ∃ t, exec (.accload die core engine) s = .next t ∧ Same [.cores, .runs] s t ∧ (t.core k).scratch = (s.core k).scratch ∧
      (t.core k).acc = (List.range 32).foldl (fun m i => (o.rowCodes (s.core k).scratch i 0).zipIdx.foldl (fun m x =>
        Tbl.put 0 m ((engine.val * 2 + bits q.word 22 22) * 2048 + i * 64 + x.2) x.1) m) (s.core k).acc) ∧
  (∀ (s : State) (die : Fin 8) (core : Fin 48) (engine : Fin 4) (k : Nat) (g : Grant) (r : CoreRun) (q : QInstr) (a b : Operand),
    AtHead s die core (2 + engine.val) 3 0 k g r q → s.mmaOperands g q = (a, b) → SetFree r [2 + engine.val] q.word →
    (a.d.space ≠ 0 ∨ b.d.space ≠ 0 → exec (.mma die core engine) s = .next (s.stepFault g
      { cause := Status.typeMismatch.code, core := s.numberOf g.die (k % 64), unit := 2 + engine.val, instr := q.idx })) ∧
    (a.d.space = 0 → b.d.space = 0 → a.d.count = 0 → b.d.count = 0 → exec (.mma die core engine) s = .next
      (s.completeInstr k g (r.pop [2 + engine.val] q.word) (2 + engine.val) q)))

/-- When ADD, SUB, MUL, FMA, MAX or MIN heads the vector unit's queue with its wait met and its operands in scratch,
aligned and in bounds, with elements and with extents and formats that R202 to R204 allow, it starts and every element
of Dst becomes, rounded once to FP32 or saturated once to INT8, and for a BF16 Dst rounded from FP32 to BF16, A + B, A
− B, A × B, A × B + Dst, or the larger or smaller of A and B in the order of IEEE 754-2019 (NaN where either is NaN),
with A, B (broadcast where R204 allows) and Dst as they stood at the start; the flags of reading, computing and
rounding are added to the step's. Nothing else changes. A Dst or A outside the core's own scratch faults the step with
TYPE_MISMATCH, naming the vector unit, and an instruction of zero elements completes at once. (R150, R154, R190, R201,
R202, R203, R204, R736) -/
def Obligations.VectorArithmeticRoundsOnce : Prop :=
  (∀ (s : State) (die : Fin 8) (core : Fin 48) (k n : Nat) (i : Instr) (g : Grant) (r : CoreRun) (q : QInstr) (o : Operands3) (m : Tbl Byte),
    (n, i) ∈ [(0, Instr.add die core), (1, .sub die core), (2, .mul die core), (3, .fma die core), (4, .max die core), (5, .min die core)] →
    AtHead s die core 6 4 n k g r q → o = s.operands3 g q → ScratchOk o.dst → ScratchOk o.a → ScratchOk o.b → o.dst.d.count ≠ 0 →
    sameDims o.dst.d o.a.d = true → broadcastOk o.a.d o.b.d true = true → o.a.f.arith = true → o.b.f.arith = true → o.dst.f.plain = true →
    noMix [o.a.f, o.b.f, o.dst.f] = true → m = (s.core k).scratch →
    exec i s = .next (written (started s k 6 r q) k o.dst (fun i1 i2 j =>
      let x := o.a.value m i1 i2 j
      let y := o.b.value m (if o.b.d.dim1 = 1 then 0 else i1) (if o.b.d.dim2 = 1 then 0 else i2) (if o.b.d.dim0 = 1 then 0 else j)
      let c := if n = 3 then o.dst.value m i1 i2 j else (Fp.fin false 0 0, 0)
      let z : Flagged Fp :=
        if n = 0 then Fp.add x.1 y.1 else if n = 1 then Fp.add x.1 y.1.neg else if n = 2 then Fp.mul x.1 y.1
        else if n = 3 then ((Fp.add (Fp.mul x.1 y.1).1 c.1).1, orFlags (Fp.mul x.1 y.1).2 (Fp.add (Fp.mul x.1 y.1).1 c.1).2)
        else if n = 4 then (if x.1.isNan || y.1.isNan then .nan else if Fp.lt x.1 y.1 then y.1 else x.1, 0)
        else (if x.1.isNan || y.1.isNan then .nan else if Fp.lt y.1 x.1 then y.1 else x.1, 0)
      (z.1, orAll [x.2, y.2, c.2, z.2])))) ∧
  (∀ (s : State) (die : Fin 8) (core : Fin 48) (k n : Nat) (i : Instr) (g : Grant) (r : CoreRun) (q : QInstr) (o : Operands3),
    (n, i) ∈ [(0, Instr.add die core), (1, .sub die core), (2, .mul die core), (3, .fma die core), (4, .max die core), (5, .min die core)] →
    AtHead s die core 6 4 n k g r q → o = s.operands3 g q →
    (o.dst.d.space ≠ 0 ∨ o.a.d.space ≠ 0 ∨ o.b.d.space ≠ 0 → exec i s = .next (s.stepFault g
      { cause := Status.typeMismatch.code, core := s.numberOf g.die (k % 64), unit := 6, instr := q.idx })) ∧
    (o.dst.d.space = 0 → o.a.d.space = 0 → o.b.d.space = 0 → o.a.d.count = 0 → o.dst.d.count = 0 →
      exec i s = .next (s.completeInstr k g (r.pop [6] q.word) 6 q)))

/-- When one of these heads the vector unit's queue with its wait met, its operands in scratch, aligned and in bounds,
with elements, and with the extents and formats that R203, R204 and R258 ask, it starts and writes Dst: ABS the
magnitude of A; CVT the value of A, an MX element straight from its exact value; SCALE2 A × 2^Imm with Imm signed; ABS
and SCALE2 rounded as R154 says and CVT from its exact value into the format of Dst. GATHER writes row B[i] of A at
row i; ROPE rotates each pair of A by the cosine and sine of B; TOMX writes each row of A as MX blocks of 32 with
their scales; TREEMASK writes for every node the mask of the node and its ancestors, as two UINT32 words or as 0.0 and
−infinity; COPY copies the bytes of each row of A. Everything is computed from scratch as it stood at the start, and
nothing else changes but the flags and the start of the instruction. (R146, R147, R150, R151, R201, R202, R203, R204,
R259) -/
def Obligations.VectorConversionsAndRearrangements : Prop :=
  ∀ (s : State) (die : Fin 8) (core : Fin 48) (k : Nat) (g : Grant) (r : CoreRun) (q : QInstr) (o : Operands3) (m : Tbl Byte),
    o = s.operands3 g q → m = (s.core k).scratch → ScratchOk o.dst → ScratchOk o.a → o.dst.d.count ≠ 0 →
    let two := sameDims o.dst.d o.a.d = true ∧ o.a.f.arith = true ∧ o.dst.f.plain = true
    let mx := o.a.f.isMx = true ∨ o.a.f = .fp32 ∨ o.a.f = .bf16
    (AtHead s die core 6 4 6 k g r q → two → noMix [o.a.f, o.dst.f] = true → exec (.abs die core) s = .next
      (written (started s k 6 r q) k o.dst (fun i1 i2 i => ((o.a.value m i1 i2 i).1.abs, (o.a.value m i1 i2 i).2)))) ∧
    (AtHead s die core 6 4 7 k g r q → two → exec (.cvt die core) s = .next
      (written (started s k 6 r q) k o.dst (fun i1 i2 i => o.a.elem m i1 i2 i) convert)) ∧
    (AtHead s die core 6 4 9 k g r q → two → noMix [o.a.f, o.dst.f] = true → exec (.scale2 die core) s = .next
      (written (started s k 6 r q) k o.dst (fun i1 i2 i =>
        ((o.a.value m i1 i2 i).1.scale (if bits q.word 12 0 < 2 ^ 12 then (bits q.word 12 0 : Int) else (bits q.word 12 0 : Int) - 2 ^ 13),
          (o.a.value m i1 i2 i).2)))) ∧
    (AtHead s die core 6 4 10 k g r q → ScratchOk o.b → o.a.f.arith = true → o.dst.f.plain = true → noMix [o.a.f, o.dst.f] = true →
      o.b.f = .uint32 → o.b.d.dim0 = 1 → (o.b.d.dim2 = o.a.d.dim2 ∨ o.b.d.dim2 = 1) → o.dst.d.dim0 = o.a.d.dim0 →
      o.dst.d.dim1 = o.b.d.dim1 → o.dst.d.dim2 = o.a.d.dim2 → (∀ x ∈ o.dst.d.rows, gatherIndex o m x.1 x.2 < o.a.d.dim1) → exec (.gather die core) s = .next
      (written (started s k 6 r q) k o.dst (fun i1 i2 i => o.a.value m (gatherIndex o m i1 i2) i2 i))) ∧
    (AtHead s die core 6 4 11 k g r q → two → ScratchOk o.b → o.a.d.dim0 % 2 = 0 → o.b.f = .fp32 → o.b.d.dim0 = o.a.d.dim0 →
      broadcastOk o.a.d o.b.d false = true → noMix [o.a.f, o.b.f, o.dst.f] = true →
      exec (.rope die core) s = .next (written (started s k 6 r q) k o.dst (fun i1 i2 i =>
        let x := o.a.value m i1 i2 (i / 2 * 2)
        let y := o.a.value m i1 i2 (i / 2 * 2 + 1)
        let c := o.b.value m (if o.b.d.dim1 = 1 then 0 else i1) (if o.b.d.dim2 = 1 then 0 else i2) (i / 2 * 2)
        let d := o.b.value m (if o.b.d.dim1 = 1 then 0 else i1) (if o.b.d.dim2 = 1 then 0 else i2) (i / 2 * 2 + 1)
        if i % 2 = 1 then
          ((Fp.add (Fp.mul x.1 d.1).1 (Fp.mul y.1 c.1).1).1,
            orAll [x.2, y.2, c.2, d.2, (Fp.mul x.1 d.1).2, (Fp.mul y.1 c.1).2, (Fp.add (Fp.mul x.1 d.1).1 (Fp.mul y.1 c.1).1).2])
        else
          ((Fp.add (Fp.mul x.1 c.1).1 (Fp.mul y.1 d.1).1.neg).1,
            orAll [x.2, y.2, c.2, d.2, (Fp.mul x.1 c.1).2, (Fp.mul y.1 d.1).2, (Fp.add (Fp.mul x.1 c.1).1 (Fp.mul y.1 d.1).1.neg).2])))) ∧
    (AtHead s die core 6 4 8 k g r q → sameDims o.dst.d o.a.d = true → mx → o.dst.f.isMx = true →
      ∃ t, exec (.tomx die core) s = .next t ∧ Same [.cores, .runs] s t ∧
        (t.core k).scratch = o.dst.d.rows.foldl (fun u p => (putMxRow o.dst u p.1 p.2 (o.a.rowVals m p.1 p.2)).1) m) ∧
    (AtHead s die core 6 4 12 k g r q → o.a.f = .fp32 → o.a.d.dim0 = 2 → o.a.d.dim2 = 1 → o.a.d.dim1 ≤ 64 →
      ((o.dst.f = .uint32 ∧ o.dst.d.dim0 = 2) ∨ ((o.dst.f = .fp32 ∨ o.dst.f = .bf16) ∧ o.dst.d.dim0 = o.a.d.dim1)) →
      o.dst.d.dim1 = o.a.d.dim1 → o.dst.d.dim2 = 1 → parentsOk (treeParents o.a m) = true → tokensOk (treeTokens o.a m) = true →
      ∃ t, exec (.treemask die core) s = .next t ∧ Same [.cores, .runs] s t ∧ t.runs = (started s k 6 r q).runs ∧
        (t.core k).scratch = (treeMasks ((treeParents o.a m).map (fun p => p.getD 0))).zipIdx.foldl (fun u x =>
          o.dst.putRow u x.2 0 (if o.dst.f = .uint32 then [x.1 % 2 ^ 32, x.1 / 2 ^ 32]
            else (List.range o.a.d.dim1).map (fun j => if x.1 / 2 ^ j % 2 = 1 then 0 else if o.dst.f = .bf16 then 0xFF80 else 0xFF800000))) m) ∧
    (AtHead s die core 6 4 13 k g r q → sameDims o.dst.d o.a.d = true → o.a.f = o.dst.f → o.dst.f.isMx = false →
      ∃ t, exec (.vectorCopy die core) s = .next t ∧ Same [.cores, .runs] s t ∧ t.runs = (started s k 6 r q).runs ∧
        (t.core k).scratch = o.dst.d.rows.foldl (fun u p => wrBytes u (o.dst.row p.1 p.2) (rdBytes m (o.a.row p.1 p.2) o.a.rowLen)) m)

/-- When EXP, RECIP, RSQRT, SILU, GELU, SOFTMAX, RMSNORM, LAYERNORM, REDSUM, REDMAX or TOPK heads the special function
unit's queue with its wait met, and its operands, extents, formats and Imm are as R206, R232 to R236 and Table 5-18
ask, it starts and writes Dst from the logical rows of A: each element of an elementwise function within its bound of
Table 6-3 (where the bound leaves a choice the value is free, log entry 3), the softmax of each row with its mask
added, the normalised row, the sum in the fixed order of R238, the maximum with NaN below every other value, or the k
largest values in descending order followed by their positions. The flags are added to the step's and nothing else
changes. Special values come out exactly, whatever the free value: e^−∞ is +0, RECIP of ±0 is ±∞ with InfProduced,
RSQRT of +0 is +∞ and of a negative number NaN with NanProduced, SILU and GELU of −∞ are −0 and of +∞ are +∞. (R232,
R237, R238, R239, R241, R243, R244, Table 6-2, Table 6-3) -/
def Obligations.SpecialFunctionsWriteTheirRows : Prop :=
  (∀ (s : State) (die : Fin 8) (core : Fin 48) (k : Nat) (op : SfuOp) (i : Instr) (g : Grant) (r : CoreRun) (q : QInstr),
    (op, i) ∈ [(SfuOp.exp, Instr.exp die core), (.recip, .recip die core), (.rsqrt, .rsqrt die core), (.silu, .silu die core), (.gelu, .gelu die core)] →
    AtHead s die core 7 5 op.code k g r q → SfuOk s op k g r q →
    exec i s = .next ((started s k 7 r q).sfuRows k g q (fun _ _ _ row =>
      unzipFlags (row.map (fun x => sfuElem op (f32 x.1) (Config.sfuFree op.code [x.1] 0)))))) ∧
  (∀ (s : State) (die : Fin 8) (core : Fin 48) (k : Nat) (g : Grant) (r : CoreRun) (q : QInstr),
    (AtHead s die core 7 5 5 k g r q → SfuOk s .softmax k g r q → exec (.softmax die core) s = .next
      ((started s k 7 r q).sfuRows k g q (fun o m l row =>
        ((softmaxRow ((maskedRow o m q.word l row).map (·.1)) (fun i => Config.sfuFree 5 (bits q.word 12 0 :: (maskedRow o m q.word l row).map (·.1)) i)).1,
          orFlags (softmaxRow ((maskedRow o m q.word l row).map (·.1)) (fun i => Config.sfuFree 5 (bits q.word 12 0 :: (maskedRow o m q.word l row).map (·.1)) i)).2
            (rowFlags (maskedRow o m q.word l row)))))) ∧
    (AtHead s die core 7 5 6 k g r q → SfuOk s .rmsnorm k g r q → exec (.rmsnorm die core) s = .next
      ((started s k 7 r q).sfuRows k g q (fun o m _ row =>
        let gains := (List.range o.b.d.dim0).map (fun i => o.b.code32 m 0 0 i)
        let y := normRow .rmsnorm q.word (row.map (·.1)) (gains.map (·.1))
        (y.1, orAll [y.2, rowFlags row, rowFlags gains])))) ∧
    (AtHead s die core 7 5 7 k g r q → SfuOk s .layernorm k g r q → exec (.layernorm die core) s = .next
      ((started s k 7 r q).sfuRows k g q (fun o m _ row =>
        let gains := (List.range o.b.d.dim0).map (fun i => o.b.code32 m 0 0 i)
        let y := normRow .layernorm q.word (row.map (·.1)) (gains.map (·.1))
        (y.1, orAll [y.2, rowFlags row, rowFlags gains])))) ∧
    (AtHead s die core 7 5 8 k g r q → SfuOk s .redsum k g r q → exec (.redsum die core) s = .next
      ((started s k 7 r q).sfuRows k g q (fun _ _ _ row =>
        ([(fixedSum (row.map (·.1))).1], orFlags (fixedSum (row.map (·.1))).2 (rowFlags row))))) ∧
    (AtHead s die core 7 5 9 k g r q → SfuOk s .redmax k g r q → exec (.redmax die core) s = .next
      ((started s k 7 r q).sfuRows k g q (fun _ _ _ row => ([redmaxRow (row.map (·.1))], rowFlags row)))) ∧
    (AtHead s die core 7 5 10 k g r q → SfuOk s .topk k g r q → exec (.topk die core) s = .next
      ((started s k 7 r q).sfuRows k g q (fun _ _ _ row =>
        let top := (descOrder (fun i => f32 ((row.map (·.1)).getD i 0)) (List.range row.length)).take (bits q.word 8 0)
        (top.map (fun i => (toF32 (f32 ((row.map (·.1)).getD i 0))).1) ++ top.map f32OfNat, rowFlags row))))) ∧
  (∀ v : Nat, (sfuElem .exp (.inf true) v).1 = 0 ∧ sfuElem .recip (f32 0) v = (0x7F800000, flagInfProduced) ∧
    sfuElem .recip (f32 0x80000000) v = (0xFF800000, flagInfProduced) ∧ (sfuElem .rsqrt (f32 0) v).1 = 0x7F800000 ∧
    (f32 (sfuElem .rsqrt (f32 0xBF800000) v).1).isNan = true ∧ (sfuElem .rsqrt (f32 0xBF800000) v).2 = flagNanProduced ∧
    (sfuElem .silu (.inf true) v).1 = 0x80000000 ∧ (sfuElem .silu (.inf false) v).1 = 0x7F800000 ∧
    (sfuElem .gelu (.inf true) v).1 = 0x80000000 ∧ (sfuElem .gelu (.inf false) v).1 = 0x7F800000)

/-- When SAMPLE or TREEVERIFY heads the special function unit's queue on the grant's first core with its wait met, and its
operands, record and draft tree are as R206, R249, R258 and Table 5-18 ask, it starts and acts on the record held in
the unit, or on the working copy's at the first use of a step. SAMPLE writes the eight values of Table 6-5 for each
logical row, drawn with draw number DrawIndex + row, and sets DrawIndex to DrawIndex plus the number of rows;
TREEVERIFY writes the 72 values of Table 6-6 for the walk of R260 and sets DrawIndex to DrawIndex + a + 1 for a
accepted nodes. The record stays in the unit, the seed does not change, the stream's own copies do not change before
END, and the entry notes the tokens that it emitted. On another core of the grant the step faults with TYPE_MISMATCH.
(R247, R248, R251, R252, R260, R261, Table 6-5, Table 6-6) -/
def Obligations.SamplingAdvancesTheRecord : Prop :=
  (∀ (s : State) (die : Fin 8) (core : Fin 48) (k : Nat) (g : Grant) (r : CoreRun) (q : QInstr) (o : Operands3) (ws : List Nat)
      (rows : List (List (Flagged Nat))) (draws : List (Option Draw × Nat)), AtHead s die core 7 5 11 k g r q → SfuOk s .sample k g r q →
    o = s.operands3 g q → ws = (match r.sfu with | some x => x | none => samplingWords (s.stream g.stream).working) →
    rows = o.a.logical (s.core k).scratch (decide (bits q.word 12 12 = 1)) →
    draws = rows.zipIdx.map (fun x => drawRow ws g.stream ((wd ws 1 + x.2) % 2 ^ 64) (x.1.map (·.1))) →
    ∃ t x, exec (.sample die core) s = .next t ∧ Same [.cores, .runs, .entries] s t ∧
      (t.core k).scratch = (putFlat o.dst (s.core k).scratch (draws.flatMap (fun d => drawOut d.1))).1 ∧
      t.run k = some x ∧ (∃ v, x.sfu = some v ∧ wd v 1 = (wd ws 1 + rows.length) % 2 ^ 64 ∧ wd v 0 = wd ws 0 ∧ wd v 2 = wd ws 2) ∧
      t.entries.map (fun e => (e.frame, e.idx, e.st)) = s.entries.map (fun e => (e.frame, e.idx, e.st))) ∧
  (∀ (s : State) (die : Fin 8) (core : Fin 48) (k : Nat) (g : Grant) (r : CoreRun) (q : QInstr) (o : Operands3) (ws parents tokens : List Nat)
      (rows : List (List Nat)) (w : Walk), AtHead s die core 7 5 12 k g r q → SfuOk s .treeverify k g r q →
    o = s.operands3 g q → ws = (match r.sfu with | some x => x | none => samplingWords (s.stream g.stream).working) →
    rows = (o.a.logical (s.core k).scratch (decide (bits q.word 12 12 = 1))).map (fun x => x.map (·.1)) →
    parents = (treeParents o.b (s.core k).scratch).map (fun p => p.getD 0) → tokens = (treeTokens o.b (s.core k).scratch).map (fun p => p.getD 0) →
    w = treeWalk ws g.stream rows parents tokens (parents.length + 1) 0 {} →
    ∃ t x, exec (.treeverify die core) s = .next t ∧ Same [.cores, .runs, .entries] s t ∧
      (t.core k).scratch = (putFlat o.dst (s.core k).scratch (w.path.map f32OfNat ++ List.replicate (64 - w.path.length) 0xBF800000 ++
        [f32OfNat w.path.length] ++ (drawOut w.final).take 7)).1 ∧
      t.run k = some x ∧ (∃ v, x.sfu = some v ∧ wd v 1 = (wd ws 1 + w.path.length + 1) % 2 ^ 64 ∧ wd v 0 = wd ws 0 ∧ wd v 2 = wd ws 2)) ∧
  (∀ (s : State) (die : Fin 8) (core : Fin 48) (k : Nat) (g : Grant) (r : CoreRun) (q : QInstr), AtHead s die core 7 5 11 k g r q → r.pos ≠ 0 →
    exec (.sample die core) s = .next (s.stepFault g
      { cause := Status.typeMismatch.code, core := s.numberOf g.die (k % 64), unit := 7, instr := q.idx }))

/-- When a transfer heads its queue with its wait met, nothing that it must follow and no limit or bride without lanes in
its way, its operands as Tables 5-11 and 5-18 ask, and the checks of its first packet admit both of its operands, as
they do where neither needs a translation, a route or the Dyke, it starts: it leaves the queue, stands among the
started transfers of its queue with the translations and the ledger epoch of its admission, and is held exactly when a
region whose dark notice the site or the hub holds lies on its way. Its requests to fabric endpoints go out, and it
joins the arbiters that it passes. No data has moved yet: scratch, the memories of polders and tier and the stream's
state are unchanged. A transfer that the first packet's checks refuse faults the step with their cause and address,
naming the queue's unit. (R106, R180, R207, R209, R211, R284, R285, R412, R446, R462, Table 5-11, Table 5-18) -/
def Obligations.TransfersStartAndAreHeldByDarkRegions : Prop :=
  ∀ (s : State) (die : Fin 8) (core : Fin 48) (queue : Fin 4) (k n : Nat) (i : Instr) (g : Grant) (r : CoreRun) (q : QInstr),
    (n, i) ∈ [(0, Instr.get die core queue []), (1, .put die core queue []), (2, .putf die core queue), (3, .mcast die core queue),
      (4, .atomic die core queue), (5, .copy die core queue)] →
    AtHead s die core (8 + queue.val) 6 n k g r q → XferFree s r g k (8 + queue.val) q → XferOk s n (xferOf g k q) →
    let x := xferOf g k q
    let admitted := started s k (8 + queue.val) r q
    let stands := fun (u t : State) (a b : List (Nat × Nat)) =>
      Same [.ledger, .dict, .tlb, .stores, .runs, .dies, .guests, .lineCache, .requests, .freeCtr, .test, .seqs, .phases, .xports, .hub] s t ∧
      (Tbl.rising s.stores = true → ∀ m, (t.store m).mem = (s.store m).mem) ∧
      ∃ r' y, t.run k = some r' ∧ r'.active (8 + queue.val) = r.active (8 + queue.val) ++ [y] ∧ y.idx = q.idx ∧ y.word = q.word ∧
        y.src = a ∧ y.dst = b ∧ y.epoch = s.epoch ∧ ((s.xRemote x).d.space ≠ 5 → y.landed = false) ∧
        y.held = u.xferDark { x with q := { q with src := a, dst := b } } ∧
        r'.queues = Tbl.put [] r.queues (8 + queue.val) ((r.queue (8 + queue.val)).drop 1) ∧ r'.pins = (r.takeWait q.word).pins
    (((s.xLocal x).d.space = 0 ∨ (s.xLocal x).d.space = 6) →
      ((s.xRemote x).d.space = 1 ∨ (s.xRemote x).d.space = 2 ∨ (s.xRemote x).d.space = 6) → (∀ o ∈ s.xFlags x, o.d.space ≠ 5) →
      ∃ t, exec i s = .next t ∧ stands admitted t [] []) ∧
    (∀ (u : State) (a b : List (Nat × Nat)), admitted.accessBoth x = (u, .ok (a, b)) → ∃ t, exec i s = .next t ∧ stands u t a b) ∧
    (∀ (u : State) (st : Status) (addr : Nat), admitted.accessBoth x = (u, .error (st, addr)) → exec i s = .next (u.stepFault g
      { cause := st.code, core := u.numberOf g.die (k % 64), unit := 8 + queue.val, instr := q.idx, addr := addr }))

/-- When the last data of a started transfer between a core's scratch and another core's scratch of the same die arrives,
with the formats alike, no earlier transfer of the queue to follow and no trace class selected, it lands whole: a PUT
writes every run of the destination with the source's bytes, a GET the other way round; a PUTF then adds 1, modulo
2^32, to its flag word; an ATOMIC writes the new value of Table 11-6 to the remote word and the old value with status
OK to its own result line. The transfer leaves the started ones, and with IncValid its pin counts one. A transfer that
a dark region holds stays in flight. A transfer of a discarded step that is dropped leaves nothing. Each input of a
port of the die takes as its weight the number of sources with a request pending there at that instant, at most 64 for
the die port, and the die port reports the number of queues with a transfer pending toward the Ground, in all and
toward each site. (R122, R123, R125, R179, R209, R211, R212, R228, R445, R458, Table 5-11, Table 11-6) -/
def Obligations.TransfersLandWhole : Prop :=
  (∀ (s : State) (die : Fin 8) (core : Fin 48) (queue : Fin 4) (k m : Nat) (g : Grant) (r : CoreRun) (pos : Nat) (q : QInstr) (x : Orphan) (bs : List Byte),
    s.running die.val core.val = some (k, g, r) → (r.active (8 + queue.val))[pos]? = some q → x = xferOf g k q →
    s.queueHolds g k ((r.active (8 + queue.val)).take pos) q = false → iClass q.word = 6 → iOp q.word ≤ 2 → q.held = false → q.awaits = [] → q.landed = false → q.src = [] → q.dst = [] → s.run k = some r →
    coreKey x.die x.core = k → s.reg (okey 0xB011 0) = 0 →
    (s.xLocal x).d.space = 0 → (s.xRemote x).d.space = 1 → (s.xLocal x).f = (s.xRemote x).f → s.targetCore x x.die (s.xRemote x) = some m → m ≠ k →
    (iOp q.word = 2 → (s.xFlag x).d.space = 1 ∧ s.targetCore x x.die (s.xFlag x) = some m ∧ (s.xFlag x).runs = [((s.xFlag x).eb, 4)]) →
    (iIncValid q.word = true → Tbl.get 0 r.pins (iIncPin q.word) < 65535) →
    ∃ t, exec (.transferComplete die core queue pos .live bs) s = .next t ∧
      (let c := (s.core k).scratch
       let d := (s.core m).scratch
       let put := ((s.xRemote x).runs.zip (s.xLocal x).runs).foldl (fun u p => wrBytes u p.1.1 (rdBytes c p.2.1 p.2.2)) d
       let fl := (s.xFlag x).eb
       (t.core k).scratch = (if iOp q.word = 0 then ((s.xLocal x).runs.zip (s.xRemote x).runs).foldl (fun u p => wrBytes u p.1.1 (rdBytes d p.2.1 p.2.2)) c else c) ∧
       (t.core m).scratch = (if iOp q.word = 0 then d else if iOp q.word = 1 then put else wrBytes put fl (leBytes 4 ((leNat (rdBytes put fl 4) + 1) % 2 ^ 32)))) ∧
      ∃ r', t.run k = some r' ∧ r'.started = Tbl.put [] r.started (8 + queue.val) (removeAt (r.active (8 + queue.val)) pos) ∧
        r'.pins = (if iIncValid q.word then Tbl.put 0 r.pins (iIncPin q.word) (Tbl.get 0 r.pins (iIncPin q.word) + 1) else r.pins)) ∧
  (∀ (s : State) (die : Fin 8) (core : Fin 48) (queue : Fin 4) (k m old : Nat) (g : Grant) (r : CoreRun) (pos : Nat) (q : QInstr) (x : Orphan) (bs : List Byte),
    s.running die.val core.val = some (k, g, r) → (r.active (8 + queue.val))[pos]? = some q → x = xferOf g k q →
    s.queueHolds g k ((r.active (8 + queue.val)).take pos) q = false → iClass q.word = 6 → iOp q.word = 4 → q.held = false → q.awaits = [] → q.landed = false → q.src = [] → q.dst = [] → s.run k = some r →
    coreKey x.die x.core = k → iIncValid q.word = false → s.reg (okey 0xB011 0) = 0 →
    (s.xLocal x).d.space = 0 → (s.xRemote x).d.space = 1 → s.targetCore x x.die (s.xRemote x) = some m → m ≠ k →
    (s.xRemote x).runs = [((s.xRemote x).eb, atomicWidth (bits q.word 12 7))] →
    old = leNat (rdBytes (s.core m).scratch (s.xRemote x).eb (atomicWidth (bits q.word 12 7))) →
    ∃ t, exec (.transferComplete die core queue pos .live bs) s = .next t ∧
      (t.core m).scratch = wrBytes (s.core m).scratch (s.xRemote x).eb (leBytes (atomicWidth (bits q.word 12 7))
        (atomicNew (bits q.word 12 7) old (rdLe (s.core k).scratch (s.xLocal x).eb 8) (rdLe (s.core k).scratch ((s.xLocal x).eb + 8) 8))) ∧
      (t.core k).scratch = wrBytes (s.core k).scratch ((s.xLocal x).eb + 16) (leBytes 8 old ++ leBytes 1 0 ++ List.replicate 7 0)) ∧
  (∀ (s : State) (die : Fin 8) (core : Fin 48) (queue : Fin 4) (k : Nat) (g : Grant) (r : CoreRun) (pos : Nat) (q : QInstr) (bs : List Byte),
    s.running die.val core.val = some (k, g, r) → (r.active (8 + queue.val))[pos]? = some q → q.held = true →
    exec (.transferComplete die core queue pos .live bs) s = .next s) ∧
  (∀ (s : State) (die : Fin 8) (core : Fin 48) (queue : Fin 4) (m : Nat) (x : Orphan) (rest : List Orphan) (bs : List Byte), s.stopped = false →
    s.physOf die.val core.val = some m → s.orphans = x :: rest → x.die = die.val → x.core = m → bits x.q.word 34 33 = queue.val →
    ∃ t, exec (.transferComplete die core queue 0 .dropped bs) s = .next t ∧ Same [.orphans, .requests] s t ∧ t.orphans = rest) ∧
  (∀ (s : State) (die : Fin 8), Tbl.rising s.dies = true → ∃ t, exec (.arbiterWeightUpdate die) s = .next t ∧ Same [.dies] s t ∧
    (∀ d, d ≠ die.val → t.dieOf d = s.dieOf d) ∧
    ∀ port input, input < 64 → Tbl.get 0 (t.dieOf die.val).weights (port * 64 + input) =
      (let n := (distinct (((s.inFlight.flatMap s.xferReqs ++ s.stageReqs s.staging).filter (fun x =>
        decide (x.die = die.val) && decide (x.key = port * 64 + input))).map PortReq.source)).length
       if input = 54 then min 64 n else n)) ∧
  (∀ (s : State) (die : Fin 8), Tbl.rising s.dies = true → ∃ t, exec (.diePortWeightReport die) s = .next t ∧ Same [.dies] s t ∧
    (∀ d, d ≠ die.val → t.dieOf d = s.dieOf d) ∧ (t.dieOf die.val).siteWeight = s.groundSources die.val (fun _ => true) ∧
    ∀ b, b < 12 → Tbl.get 0 (t.dieOf die.val).siteWeights b = s.groundSources die.val (fun p => decide (p.2 = b)))

/-- A write of DieOperatingPoint above 2 is answered TYPE_MISMATCH and changes nothing; 0 to 2 is answered OK, read back
and kept, and the point in force does not change at once. Before a boundary at which a clocked die may rise, its VCORE
starts to ramp to the voltage of the new point, and is not yet settled; the settle check notes whether it has. A
synchronised change takes effect at its time count, the earliest first: a slower point is taken with its voltage; a
faster one is taken only if VCORE has settled at its voltage or above, else the die keeps its point. A "stop" that a
freeze at once waits for stops every unit, and FreezeState reads 3. (R117, R118, R119, R617, R618, R621, R708, Table
15-2) -/
def Obligations.OperatingPointsChangeSafely : Prop :=
  (∀ (s : State) (die : Fin 8) (v : Nat), 2 < v →
    ∃ t, exec (.dieOperatingPointWrite die v) s = .next t ∧ Same [.lastStatus] s t ∧ t.lastStatus = Status.typeMismatch.code) ∧
  (∀ (s : State) (die : Fin 8) (v : Nat), v ≤ 2 → Tbl.rising s.dict = true → Tbl.rising s.nv = true →
    ∃ t, exec (.dieOperatingPointWrite die v) s = .next t ∧ Same [.lastStatus, .dict, .nv] s t ∧ t.lastStatus = Status.ok.code ∧
      t.reg (okey 0x4001 (die.val + 1)) = v ∧ (∀ k, k ≠ okey 0x4001 (die.val + 1) → t.reg k = s.reg k) ∧
      Tbl.get (dictDflt (okey 0x4001 (die.val + 1))) t.nv (okey 0x4001 (die.val + 1)) = v) ∧
  (∀ (s : State) (die : Fin 8), (s.dieOf die.val).up = true → s.tripped die.val = false → s.pointNext die.val < (s.dieOf die.val).point →
    exec (.vcoreRampStart die) s = .next (s.setDie die.val { s.dieOf die.val with
      ramp := some (s.pointNext die.val), settled := false, vcore := voltage (s.pointNext die.val) })) ∧
  (∀ (s : State) (die : Fin 8), (s.dieOf die.val).point ≤ s.pointNext die.val → exec (.vcoreRampStart die) s = .next s) ∧
  (∀ (s : State) (die : Fin 8) (settled : Bool), (s.dieOf die.val).ramp ≠ none →
    exec (.vcoreSettleCheck die settled) s = .next (s.setDie die.val { s.dieOf die.val with settled := settled })) ∧
  (∀ (s : State) (c : Change) (d p : Nat), firstChange s.pw.changes = some c → c.what = .point d p → (s.dieOf d).up = true → s.tripped d = false →
    ∃ t, exec .synchronisedChange s = .next t ∧ Same [.dies, .pw, .test, .dict] s t ∧
      t.pw = { s.pw with changes := removeFirst (· == c) s.pw.changes, time := max s.pw.time c.time } ∧
      t.dies = (if p < (s.dieOf d).point ∧ ((s.dieOf d).settled = false ∨ (s.dieOf d).vcore < voltage p) then s.dies
        else Tbl.put {} s.dies d { s.dieOf d with
          point := p, vcore := if (s.dieOf d).ramp.isSome then (s.dieOf d).vcore else voltage p })) ∧
  (∀ (s : State) (c : Change), firstChange s.pw.changes = some c → c.what = .stop → s.test.freeze = .stopping → Tbl.rising s.dict = true →
    ∃ t, exec .synchronisedChange s = .next t ∧ Same [.pw, .test, .dict, .stores, .migs, .cores, .lanes, .stopped, .halted, .freeCtr] s t ∧
      t.stopped = true ∧ t.halted = true ∧ t.test.freeze = .atOnce ∧ t.test.cutTime = c.time ∧ t.test.cutFrame = s.tb.frame ∧
      t.reg (okey 0xB050 5) = 3) ∧
  (∀ (s : State), s.pw.changes = [] → exec .synchronisedChange s = .next s) ∧
  voltage 0 = 800 ∧ voltage 1 = 740 ∧ voltage 2 = 700

/-- While Status reads BUSY a load or an unload is answered BUSY and changes nothing. A load of an image that the tier
gives and that passes Table 5-16 is accepted, Status reads BUSY, and its end places the image, with its PatternId and
step count, on every die of DieMask and nowhere else, and Status reads OK; a load of ImageLength 0 reads OK at once; a
failed check is its Status at the end, and no die's pattern memory or patterns change. A pattern of the same PatternId
that is already in force stays in force until the next frame boundary. An unload marks the pattern on the dies of
DieMask that hold it, with Status OK, or reads NOT_READY where none does. An old image is freed, its bytes zeroed and
its place given back, once no running step of the die uses it. (R19, R222, R223, R224, R225, R733, Table 5-16, Table
5-17) -/
def Obligations.PatternsLoadWholeAndUnloadAtABoundary : Prop :=
  (∀ (s : State) (i : Instr), i = .patternLoad ∨ i = .patternUnload → s.reg (okey 0x4300 5) = Status.busy.code →
    ∃ t, exec i s = .next t ∧ Same [.lastStatus] s t ∧ t.lastStatus = Status.busy.code) ∧
  (∀ s : State, s.reg (okey 0x4300 5) ≠ Status.busy.code → s.reg (okey 0x4300 3) = 0 → Tbl.rising s.dict = true →
    ∃ t, exec .patternLoad s = .next t ∧ Same [.lastStatus, .dict] s t ∧ t.lastStatus = Status.ok.code ∧
      t.reg (okey 0x4300 5) = Status.ok.code ∧ ∀ k, k ≠ okey 0x4300 5 → t.reg k = s.reg k) ∧
  (∀ (s : State) (b : List Byte), s.reg (okey 0x4300 5) ≠ Status.busy.code → s.reg (okey 0x4300 3) ≠ 0 → Tbl.rising s.dict = true → Tbl.rising s.stores = true →
    s.tierFetch (s.reg (okey 0x4300 2)) (s.reg (okey 0x4300 3)) = .ok b →
    ∃ t, exec .patternLoad s = .next t ∧ Same [.lastStatus, .patCmd, .dict, .stores] s t ∧ t.lastStatus = Status.ok.code ∧
      (∀ u, (t.store u).mem = (s.store u).mem) ∧
      t.reg (okey 0x4300 5) = Status.busy.code ∧ (∀ k, k ≠ okey 0x4300 5 → t.reg k = s.reg k) ∧
      t.patCmd = some (match s.imageCheck (maskDies (s.reg (okey 0x4300 1))) (s.reg (okey 0x4300 3)) b with
        | none => { mask := s.reg (okey 0x4300 1), status := 0, image := b }
        | some e => { mask := s.reg (okey 0x4300 1), status := e.code, image := [] })) ∧
  (∀ (s : State) (c : PatCmd), s.patCmd = some c → c.status ≠ 0 ∨ c.image = [] → Tbl.rising s.dict = true →
    ∃ t, exec .patternLoadEnd s = .next t ∧ Same [.patCmd, .dict] s t ∧ t.patCmd = none ∧ t.reg (okey 0x4300 5) = c.status) ∧
  (∀ (s : State) (c : PatCmd), s.patCmd = some c → c.status = 0 → c.image ≠ [] → Tbl.rising s.dict = true →
    Tbl.rising s.dies = true → Tbl.rising s.stores = true →
    ∃ t, exec .patternLoadEnd s = .next t ∧ Same [.patCmd, .dict, .dies, .stores] s t ∧ t.patCmd = none ∧
      t.reg (okey 0x4300 5) = Status.ok.code ∧ t.reg (okey 0x4300 6) = bits (leNat (c.image.take 8)) 63 48 ∧
      (∀ d, d < 8 → (bits c.mask d d = 0 → t.dieOf d = s.dieOf d ∧ t.store (2 * d) = s.store (2 * d)) ∧
        (bits c.mask d d = 1 → ∃ p : Pattern, (t.dieOf d).patterns.getLast? = some p ∧ p.old = false ∧ p.length = c.image.length ∧
          p.id = bits (leNat (c.image.take 8)) 63 48 ∧
          (∀ q ∈ (s.dieOf d).patterns, q.fresh = false → q ∈ (t.dieOf d).patterns)))) ∧
  (∀ s : State, s.reg (okey 0x4300 5) ≠ Status.busy.code → Tbl.rising s.dict = true → Tbl.rising s.dies = true →
    ∃ t, exec .patternUnload s = .next t ∧ Same [.lastStatus, .dict, .dies] s t ∧ t.lastStatus = Status.ok.code ∧
      (∀ d, d < 8 → bits (s.reg (okey 0x4300 1)) d d = 1 → (s.dieOf d).holds (s.reg (okey 0x4300 6)) = true → t.reg (okey 0x4300 5) = Status.ok.code) ∧
      ((∀ d, d < 8 → bits (s.reg (okey 0x4300 1)) d d = 1 → (s.dieOf d).holds (s.reg (okey 0x4300 6)) = false) → t.reg (okey 0x4300 5) = Status.notReady.code) ∧
      (∀ d, d < 8 → t.dieOf d = (if bits (s.reg (okey 0x4300 1)) d d = 1 then { s.dieOf d with
        patterns := (s.dieOf d).patterns.map (fun p => if p.id = s.reg (okey 0x4300 6) ∧ p.old = false then { p with leaving := true } else p) }
        else s.dieOf d))) ∧
  (∀ (s : State) (die : Fin 8), Tbl.rising s.dies = true → Tbl.rising s.stores = true → MemOk s →
    ∃ t, exec (.patternImageFree die) s = .next t ∧ Same [.dies, .dict, .stores] s t ∧
      (∀ d, t.dieOf d = if d = die.val then { s.dieOf d with patterns := (s.dieOf d).patterns.filter (fun p =>
        !p.old || s.grants.any (fun g => decide (g.die = die.val) && decide (g.pattern = p.id) && decide (g.base = p.base))) } else s.dieOf d) ∧
      (∀ u, u ≠ 2 * die.val → t.store u = s.store u) ∧
      (∀ p ∈ (s.dieOf die.val).patterns, p.old = true → (∀ g ∈ s.grants, g.die = die.val → g.pattern = p.id → g.base ≠ p.base) →
        ∀ a, p.base ≤ a → a < p.base + p.length → rdByte (t.store (2 * die.val)).mem a = 0))

/-- The hub takes the next ledger command of the two ports in turns, one at a time, moving that queue's take pointer. A
command that fails a check of Table 7-8 takes the status of that check, and one whose entries lie in a poisoned line
of a replica DISCARDED; either changes no entry, no held frame and no migration. MAP writes the entry of Table 7-7 for
each of its granules; UNMAP writes 0, flips the ledger epoch, ends migrations of the granules, carrying out what they
held, and holds their frames under the new epoch; PROTECT changes only bits 58 to 55 and flips the epoch; UNMAPSTREAM
does as UNMAP for every granule that the stream owns; each in all eight replicas, with every other entry unchanged,
and each then has the outcome OK. MIGRATE, with no granule moving yet and room for 64 under MigrationRateLimit, marks
the first 64 granules Migrating in every replica, begins a migration of each, and keeps the rest to do. (R267, R279,
R285, R286, R289, R290, R293, R299, R559, Table 7-6, Table 7-7, Table 7-8) -/
def Obligations.LedgerCommandsChangeEveryReplica : Prop :=
  ∀ (s : State) (port : Nat) (p : Port) (e : Nat) (ws : List Nat) (n : Nat) (i : Instr), s.ledgerNext = some (port, p, e, ws) →
    (n, i) ∈ [(1, Instr.map), (2, .unmap), (3, .protect), (4, .migrate), (5, .unmapstream)] → lOpcode ws = n →
    Tbl.rising s.ledger = true →
    (∀ st, s.ledgerCheck ws = some st → ∃ t, exec i s = .next t ∧ Same [.ports, .ledgerTurn, .ledgerCmd] s t ∧ t.ledgerTurn = 1 - port ∧
      t.ports = Tbl.put {} s.ports port { p with ledgerQ := { p.ledgerQ with take := (p.ledgerQ.take + 1) % 256 } } ∧
      t.ledgerCmd = some { port := port, entry := e, words := ws, ring := p.queueRing false, status := some st.code }) ∧
    (s.ledgerCheck ws = none → (∃ k ∈ (if n = 5 then s.ownedBy (bits (ws.getD 1 0) 13 0) else lIndices ws), s.replicaBad k = true) →
      ∃ t, exec i s = .next t ∧ Same [.ports, .ledgerTurn, .ledgerCmd] s t ∧ ∃ c, t.ledgerCmd = some c ∧ c.status = some Status.discarded.code) ∧
    (s.ledgerCheck ws = none → (∀ k ∈ (if n = 5 then s.ownedBy (bits (ws.getD 1 0) 13 0) else lIndices ws), s.replicaBad k = false) →
      ∃ t, exec i s = .next t ∧
      Same [.ports, .ledgerTurn, .ledgerCmd, .ledger, .tlb, .epoch, .heldFrames, .migs, .dict, .hub, .stores, .cores, .freeCtr, .trackers, .replies,
        .lastResponse, .xports, .test] s t ∧
      ((∀ m ∈ s.migs, m.writes = []) →
        Same [.ports, .ledgerTurn, .ledgerCmd, .ledger, .tlb, .epoch, .heldFrames, .migs, .dict, .hub, .stores] s t) ∧ t.ledgerTurn = 1 - port ∧
      t.ports = Tbl.put {} s.ports port { p with ledgerQ := { p.ledgerQ with take := (p.ledgerQ.take + 1) % 256 } } ∧
      (∃ c, t.ledgerCmd = some c ∧ c.port = port ∧ c.entry = e ∧ c.words = ws ∧ c.ring = p.queueRing false ∧ c.gone = false ∧
        c.status = (if n = 4 then none else some 0) ∧ (n ≠ 4 → c.todo = []) ∧
        (n = 4 → s.migs = [] → s.recentMoves.length + 64 ≤ s.reg (okey 0x5041 0) → c.todo = ((List.range (lCount ws)).drop 64).map (fun j =>
          (ledgerIndex (lTier ws) (lAddr ws) + j, eFrame (lTemplate ws) + j)))) ∧
      (n = 1 → Same [.ports, .ledgerTurn, .ledgerCmd, .ledger, .tlb, .stores, .dict] s t ∧
        (∀ j d, j < lCount ws → d < 8 → t.entryAt d (ledgerIndex (lTier ws) (lAddr ws) + j) = mapEntry (lTemplate ws) j) ∧
        (∀ k d, k ∉ lIndices ws → k < 2 ^ 25 → d < 8 → t.entryAt d k = s.entryAt d k)) ∧
      (n = 2 → t.epoch = s.epoch + 1 ∧ (∀ m ∈ t.migs, m.index ∉ lIndices ws) ∧
        ((∀ m ∈ s.migs, m.writes = []) → t.migs = s.migs.filter (fun m => !(lIndices ws).contains m.index)) ∧
        (∀ k d, k < 2 ^ 25 → d < 8 → t.entryAt d k = if k ∈ lIndices ws then 0 else s.entryAt d k) ∧
        (∀ h ∈ s.heldFrames, h ∈ t.heldFrames) ∧
        (∀ k ∈ lIndices ws, ∀ f ∈ framesOf (s.entryAt 0 k), { unit := f.1, frame := f.2, epoch := s.epoch + 1 } ∈ t.heldFrames)) ∧
      (n = 3 → Same [.ports, .ledgerTurn, .ledgerCmd, .ledger, .tlb, .stores, .epoch] s t ∧ t.epoch = s.epoch + 1 ∧
        (∀ k d, k < 2 ^ 25 → d < 8 → t.entryAt d k =
          if k ∈ lIndices ws then setField (s.entryAt d k) 58 55 (bits (lTemplate ws) 58 55) else s.entryAt d k)) ∧
      (n = 4 → s.migs = [] → s.recentMoves.length + 64 ≤ s.reg (okey 0x5041 0) →
        Same [.ports, .ledgerTurn, .ledgerCmd, .ledger, .tlb, .stores, .migs, .hub] s t ∧
        t.migs.map (fun m => (m.index, m.newFrame, m.phase, m.oldFrame)) = ((List.range (lCount ws)).take 64).map (fun j =>
          (ledgerIndex (lTier ws) (lAddr ws) + j, eFrame (lTemplate ws) + j, 1, eFrame (s.entryAt 0 (ledgerIndex (lTier ws) (lAddr ws) + j)))) ∧
        (∀ k d, k < 2 ^ 25 → d < 8 → t.entryAt d k =
          if k ∈ (lIndices ws).take 64 then setBit (s.entryAt d k) 54 true else s.entryAt d k)) ∧
      (n = 5 → t.epoch = s.epoch + 1 ∧
        (∀ k d, k < 2 ^ 25 → d < 8 → t.entryAt d k =
          if k ∈ s.ownedBy (bits (ws.getD 1 0) 13 0) then 0 else s.entryAt d k) ∧
        (∀ k ∈ s.ownedBy (bits (ws.getD 1 0) 13 0), ∀ f ∈ framesOf (s.entryAt 0 k),
          { unit := f.1, frame := f.2, epoch := s.epoch + 1 } ∈ t.heldFrames)))

/-- On a linked port a doorbell sets the tail of its queue, modulo 256; on a port that is Down it does nothing. When a
running ledger command has its outcome and none of its granules moves any more, it ends: its status goes to bits 55 to
48 of word 0 of its entry and the time to word 3, the entry counts as finished so that the head may pass it, and where
the command had a slot reserved in an enabled ring of an Up port the slot is written there. A command whose port has
left Up since ends without any of that. While the unit is frozen at once, or the command still runs, nothing happens.
(R289, R540, R541, R545, R567, Table 13-2) -/
def Obligations.LedgerQueuesCompleteInOrder : Prop :=
  (∀ (s : State) (port : Fin 2) (v : Nat), (s.port port.val).st ≠ .down →
    ∃ t, exec (.ledgerQueueDoorbell port v) s = .next t ∧ Same [.ports, .test, .dict, .freeCtr] s t ∧
      t.ports = Tbl.put {} s.ports port.val { s.port port.val with ledgerQ := { (s.port port.val).ledgerQ with tail := v % 256 } }) ∧
  (∀ (s : State) (port : Fin 2) (v : Nat), (s.port port.val).st ≠ .down →
    ∃ t, exec (.stagingQueueDoorbell port v) s = .next t ∧ Same [.ports, .test, .dict, .freeCtr] s t ∧
      t.ports = Tbl.put {} s.ports port.val { s.port port.val with stagingQ := { (s.port port.val).stagingQ with tail := v % 256 } }) ∧
  (∀ (s : State) (port : Fin 2) (v : Nat), (s.port port.val).st = .down →
    exec (.ledgerQueueDoorbell port v) s = .next s ∧ exec (.stagingQueueDoorbell port v) s = .next s) ∧
  (∀ (s : State) (c : LedgerCmd) (st : Nat), s.stopped = false → s.ledgerCmd = some c → c.status = some st → c.gone = false →
    (∀ m ∈ s.migs, m.owner = .command c.port → 6 ≤ m.phase) →
    ∃ t p, exec .ledgerCommandComplete s = .next t ∧ Same [.ports, .ledgerCmd, .test, .dict, .freeCtr] s t ∧ t.ledgerCmd = none ∧
      t.ports = Tbl.put {} s.ports c.port p ∧ p.ledgerQ = (s.port c.port).ledgerQ.finish c.entry st ∧
      p.bar0 = Tbl.put 0 (Tbl.put 0 (s.port c.port).bar0 ((0x10000 + 32 * c.entry) / 8)
        (setField ((s.port c.port).word (0x10000 + 32 * c.entry)) 55 48 st)) ((0x10000 + 32 * c.entry + 24) / 8) s.tb.count ∧
      (c.ring = none → p.rings = (s.port c.port).rings) ∧
      (∀ r, c.ring = some r → ((s.port c.port).ring r).enable = true → (s.port c.port).st = .up →
        (p.ring r).producer = (((s.port c.port).ring r).producer + 1) % 2 ^ 32 ∧ (p.ring r).reserved = ((s.port c.port).ring r).reserved - 1)) ∧
  (∀ (s : State) (c : LedgerCmd) (st : Nat), s.stopped = false → s.ledgerCmd = some c → c.status = some st → c.gone = true →
    (∀ m ∈ s.migs, m.owner = .command c.port → 6 ≤ m.phase) →
    exec .ledgerCommandComplete s = .next { s with ledgerCmd := none }) ∧
  (∀ (s : State) (c : LedgerCmd), s.ledgerCmd = some c → (s.stopped = true ∨ c.status = none) → exec .ledgerCommandComplete s = .next s)

/-- For a migration whose way is not dark and whose polders no live update pauses, while its copies fill no poison list:
the end of phase 1 leaves every byte of the new frame equal to the old frame's, changes no other byte, and enters
phase 2; the end of phase 2 enters phase 3 with no dirty sub-block noted; phase 3 copies again at most three times
while writes made sub-blocks dirty, and then enters phase 4; the end of phase 4 enters phase 5. The end of phase 5
switches: in all eight replicas the entry names the new unit and frame and is else unchanged, with Migrating 0 unless
the hub begins to move the granule anew, the ledger epoch flips, the old frames are held under the new epoch, the
migration forwards from phase 6 on and MigrationsCompleted counts one. Before phase 5 a migration with a dark way is
abandoned: with no drain running and no frame due for retirement it is gone, its entry keeps the old frame with
Migrating 0, MigrationsAbandoned counts one and a MIGRATE among them has the outcome REGION_DARK; from phase 5 on the
switch waits. An epoch drain frees each held frame that no access in flight predates and ends the migrations that
forwarded to no frame still held. (R285, R286, R299, R300, R301, R303, Table 7-9) -/
def Obligations.MigrationsMoveGranulesWhole : Prop :=
  (∀ (s : State) (index u v : Nat) (m : Migration), s.migs.find? (fun x => decide (x.index = index)) = some m → s.stopped = false →
    (∀ p ∈ s.migUnits m, s.pausedBy 5 p.1 = false ∧ s.pausedBy 5 p.2 = false) → s.migDark m = false → m.phase = 1 →
    s.migUnits m = [(u, v)] → (u ≠ v ∨ m.oldFrame ≠ m.newFrame) → (s.store u).poison.length + (s.store v).poison.length < 4096 → (∀ w, w < 32 → (s.store w).poison.length < 4096) →
    MemOk s → Tbl.rising s.stores = true →
    ∃ t, exec (.migrationPhaseEnd index) s = .next t ∧ Same [.stores, .migs] s t ∧
      t.migs = s.migs.map (fun x => if x.index = index then { x with phase := 2, dirty := [] } else x) ∧
      (∀ a, a < 2 ^ migShift m → rdByte (t.store v).mem (m.newFrame * 2 ^ migShift m + a) = rdByte (s.store u).mem (m.oldFrame * 2 ^ migShift m + a)) ∧
      (∀ a, (a < m.newFrame * 2 ^ migShift m ∨ (m.newFrame + 1) * 2 ^ migShift m ≤ a) → rdByte (t.store v).mem a = rdByte (s.store v).mem a) ∧
      (∀ w, w ≠ v → (t.store w).mem = (s.store w).mem) ∧ (∀ w, w ≠ u → w ≠ v → t.store w = s.store w) ∧
      (t.store u).selfRefresh = false ∧ (t.store v).selfRefresh = false) ∧
  (∀ (s : State) (index : Nat) (m : Migration), s.migs.find? (fun x => decide (x.index = index)) = some m → s.stopped = false →
    (∀ p ∈ s.migUnits m, s.pausedBy 5 p.1 = false ∧ s.pausedBy 5 p.2 = false) → s.migDark m = false → (m.phase = 2 ∨ m.phase = 3) →
    (∀ w, w < 32 → ((s.migRecopy m).store w).poison.length < 4096) →
    ∃ t, exec (.migrationPhaseEnd index) s = .next t ∧ Same [.stores, .migs] s t ∧
      t.migs = s.migs.map (fun x => if x.index = index then { x with
        phase := if m.phase = 2 ∨ (m.dirty ≠ [] ∧ m.passes < 3) then (if m.phase = 2 then 3 else x.phase) else 4
        dirty := []
        passes := if m.phase = 2 then 1 else if m.dirty ≠ [] ∧ m.passes < 3 then x.passes + 1 else x.passes } else x)) ∧
  (∀ (s : State) (index : Nat) (m : Migration), s.migs.find? (fun x => decide (x.index = index)) = some m → s.stopped = false →
    (∀ p ∈ s.migUnits m, s.pausedBy 5 p.1 = false ∧ s.pausedBy 5 p.2 = false) → s.migDark m = false → m.phase = 4 →
    ∃ t, exec (.migrationPhaseEnd index) s = .next t ∧ Same [.migs] s t ∧
      t.migs = s.migs.map (fun x => if x.index = index then { x with phase := 5 } else x)) ∧
  (∀ (s : State) (index : Nat) (m : Migration), s.migs.find? (fun x => decide (x.index = index)) = some m → s.stopped = false →
    (∀ p ∈ s.migUnits m, s.pausedBy 5 p.1 = false ∧ s.pausedBy 5 p.2 = false) → s.migDark m = false → m.phase = 5 →
    Tbl.rising s.ledger = true → Tbl.rising s.dict = true → index < 2 ^ 25 →
    ∃ t, exec (.migrationPhaseEnd index) s = .next t ∧
      Same [.dict, .freeCtr, .cores, .fieldMap, .stores, .ledger, .tlb, .epoch, .heldFrames, .migs, .ledgerCmd, .trackers, .replies, .lastResponse,
        .xports, .hub, .test] s t ∧ t.epoch = s.epoch + 1 ∧
      (∀ d, d < 8 → setBit (t.entryAt d index) 54 true = setBit (setField (setField (s.entryAt d index) 19 0 m.newFrame) 23 20 m.newUnit) 54 true) ∧
      (∀ k d, k < 2 ^ 25 → d < 8 → k ≠ index → setBit (t.entryAt d k) 54 true = setBit (s.entryAt d k) 54 true) ∧
      t.heldFrames = s.heldFrames ++ (m.oldUnits (ePlacement (s.entryAt 0 index))).map (fun u =>
        { unit := u, frame := m.oldFrame, epoch := s.epoch + 1 }) ∧
      t.reg (okey 0x5040 1) = s.reg (okey 0x5040 1) + 1 ∧
      (s.ledgerCmd = none → s.halted = true → (∀ x ∈ t.migs, x.index = index → x.phase = 6) ∧
        (∀ d, d < 8 → t.entryAt d index = setBit (setField (setField (s.entryAt d index) 19 0 m.newFrame) 23 20 m.newUnit) 54 false) ∧
        (∀ k d, k < 2 ^ 25 → d < 8 → k ≠ index → t.entryAt d k = s.entryAt d k))) ∧
  (∀ (s : State) (index : Nat) (m : Migration), s.migs.find? (fun x => decide (x.index = index)) = some m → s.stopped = false →
    (∀ p ∈ s.migUnits m, s.pausedBy 5 p.1 = false ∧ s.pausedBy 5 p.2 = false) → s.migDark m = true → m.phase < 5 →
    (∀ c, c < 16 → (s.chan c).st ≠ .draining) → (∀ w, w < 32 → (s.store w).due = []) → s.ledgerCmd.all (fun c => c.todo.isEmpty) = true →
    Tbl.rising s.ledger = true → Tbl.rising s.dict = true → Tbl.rising s.stores = true → index < 2 ^ 25 →
    ∃ t, exec (.migrationPhaseEnd index) s = .next t ∧
      Same [.dict, .freeCtr, .cores, .stores, .ledger, .tlb, .migs, .ledgerCmd, .trackers, .replies, .lastResponse, .xports, .test] s t ∧
      (∀ d, d < 8 → t.entryAt d index = setBit (s.entryAt d index) 54 false) ∧
      (∀ k d, k < 2 ^ 25 → d < 8 → k ≠ index → t.entryAt d k = s.entryAt d k) ∧
      (∀ x ∈ t.migs, x.index ≠ index) ∧ t.reg (okey 0x5040 2) = s.reg (okey 0x5040 2) + 1 ∧
      (∀ c q, s.ledgerCmd = some c → m.owner = .command q → t.ledgerCmd = some { c with todo := [], status := some Status.regionDark.code })) ∧
  (∀ (s : State) (index : Nat) (m : Migration), s.migs.find? (fun x => decide (x.index = index)) = some m → s.migDark m = true → 5 ≤ m.phase →
    exec (.migrationPhaseEnd index) s = .next s) ∧
  (∀ s : State, Tbl.rising s.dict = true → ∃ t, exec .ledgerEpochDrain s = .next t ∧
    Same [.dict, .fieldMap, .stores, .ledger, .tlb, .heldFrames, .migs, .ledgerCmd, .hub] s t ∧
    (∀ h, h ∈ t.heldFrames ↔ h ∈ s.heldFrames ∧ ∃ e ∈ s.epochsInFlight, e < h.epoch) ∧ t.reg (okey 0x5040 4) = t.heldFrames.length ∧
    (∀ m ∈ s.migs, m.phase < 6 → m ∈ t.migs) ∧
    (∀ m ∈ t.migs, m ∈ s.migs → 6 ≤ m.phase → ∃ p ∈ s.migUnits m, ∃ h ∈ t.heldFrames, h.unit = p.1 ∧ h.frame = m.oldFrame))

/-- Outside retention a scrub of a polder in service moves its next line on, modulo 2^30, counts an error within one
symbol of a line as corrected, and poisons a line with more, once; an error that the controller does not meet changes
nothing. While no memory holds as many as 4,095 poisoned lines no byte changes. In retention the scrub stops where it
stands. An idle polder in service enters self-refresh unless SelfRefreshIdle is 0, and a channel in service or
draining does so; self-refresh changes nothing else. That one symbol is the bound of correction is the model's reading
(log entry 65). (R266, R267, R268, R269, R303, R306, R321) -/
def Obligations.MemoryUpkeepKeepsData : Prop :=
  (∀ (s : State) (polder : Fin 16) (lines : Nat) (es : List MemError), (s.store polder.val).out = false → s.pausedBy 5 polder.val = false →
    s.reg (okey 0x9200 0) < 3 → (∀ e ∈ es, e.unit.val ≠ polder.val ∨ e.parts = 0) → Tbl.rising s.stores = true →
    exec (.patrolScrub polder lines es) s = .next (s.setStore polder.val { s.store polder.val with scrub := ((s.store polder.val).scrub + lines) % 2 ^ 30 })) ∧
  (∀ (s : State) (polder : Fin 16) (lines : Nat) (es : List MemError), 3 ≤ s.reg (okey 0x9200 0) → exec (.patrolScrub polder lines es) s = .next s) ∧
  (∀ (s : State) (polder : Fin 16) (lines : Nat) (e : MemError), (s.store polder.val).out = false → s.pausedBy 5 polder.val = false →
    s.reg (okey 0x9200 0) < 3 → e.unit.val = polder.val → e.parts = 1 → Tbl.rising s.dict = true → Tbl.rising s.stores = true →
    ∃ t, exec (.patrolScrub polder lines [e]) s = .next t ∧ Same [.stores, .dict] s t ∧
      t.stores = Tbl.put {} s.stores polder.val { s.store polder.val with scrub := ((s.store polder.val).scrub + lines) % 2 ^ 30 } ∧
      (∀ k, t.reg k = if k = okey 0x5002 (polder.val + 1) then s.reg k + 1 else s.reg k)) ∧
  (∀ (s : State) (polder : Fin 16) (lines : Nat) (e : MemError), (s.store polder.val).out = false → s.pausedBy 5 polder.val = false →
    s.reg (okey 0x9200 0) < 3 → e.unit.val = polder.val → 1 < e.parts → (∀ w, w < 32 → (s.store w).poison.length < 4095) → Tbl.rising s.stores = true →
    ∃ t, exec (.patrolScrub polder lines [e]) s = .next t ∧ Same [.stores, .dict, .ledger, .tlb, .migs, .fieldMap, .hub] s t ∧
      (t.store polder.val).mem = (s.store polder.val).mem ∧
      (t.store polder.val).poison = addOnce (s.store polder.val).poison e.line ∧
      (∀ u, u ≠ polder.val → (t.store u).mem = (s.store u).mem ∧ (t.store u).poison = (s.store u).poison)) ∧
  (∀ (s : State) (polder : Fin 16), (s.store polder.val).out = false → s.reg (okey 0x5030 0) ≠ 0 →
    exec (.selfRefreshEntry polder) s = .next (s.setStore polder.val { s.store polder.val with selfRefresh := true })) ∧
  (∀ (s : State) (polder : Fin 16), s.reg (okey 0x5030 0) = 0 → exec (.selfRefreshEntry polder) s = .next s) ∧
  (∀ (s : State) (chan : Fin 16), (s.chan chan.val).st = .inService ∨ (s.chan chan.val).st = .draining →
    exec (.channelSelfRefresh chan) s = .next (s.setStore (16 + chan.val) { s.store (16 + chan.val) with selfRefresh := true }))

/-- A module that is fitted is noted, and takes an Empty channel with a waiting discover command to Discovering with its
power on; one that is removed takes Drained to Empty with its module's report cleared, leaves Empty as it is, and
takes every other state to Failed. The check of its SPD takes Discovering to Training with the module's speed, width,
capacity and serial number, or to Refused with the power off. Training that passes enters In service with no poison
and the frames retired that the repair map names for this module; training that fails, and a lost bus, go to Failed.
Discover is answered OK in Empty, Refused and Failed, whose channel it takes to Discovering where a module is present,
NOT_READY in any other state, and TYPE_MISMATCH for a channel above 15. Power goes off in Drained. (R309, R310, R314,
R316, R317, R333, R334, R655, Table 8-1, Table 8-2, Table 8-6) -/
def Obligations.ChannelsMoveThroughTheirStates : Prop :=
  (∀ (s : State) (chan : Fin 16), exec (.presenceDetect chan) s = .next (s.setChan chan.val (
    if (s.chan chan.val).st = .empty ∧ (s.chan chan.val).asked = true
      then { s.chan chan.val with present := true, asked := false, st := .discovering, power := true }
      else { s.chan chan.val with present := true }))) ∧
  (∀ (s : State) (chan : Fin 16), ∃ t, exec (.presenceRemoved chan) s = .next t ∧
    Same [.dict, .freeCtr, .cores, .dies, .stores, .ledger, .tlb, .epoch, .heldFrames, .migs, .ledgerCmd, .chans, .staging, .lanes, .trackers, .replies,
      .lastResponse, .xports, .test] s t ∧ (Tbl.rising s.chans = true →
      (t.chan chan.val).present = false ∧
      (t.chan chan.val).st = (if (s.chan chan.val).st = .empty ∨ (s.chan chan.val).st = .drained then .empty else .failed) ∧
      ((s.chan chan.val).st = .drained → (t.chan chan.val).capacity = 0 ∧ (t.chan chan.val).serial = 0 ∧ (t.chan chan.val).power = false ∧ t.stores = s.stores) ∧
      (s.ledgerCmd = none → (∀ u, u < 32 → (s.store u).poison.length < 4096) → ∀ c, c ≠ chan.val → t.chan c = s.chan c))) ∧
  (∀ (s : State) (chan : Fin 16) (d : Spd), (s.chan chan.val).st = .discovering → s.pausedBy 8 chan.val = false → s.hasImage 8 chan.val = true →
    exec (.spdRead chan d) s = .next (s.setChan chan.val (
      if d.crcOk = true ∧ d.rdimm = true ∧ d.modules = 1 ∧ d.subchannels = 2 ∧ d.subchannelBits = 40 ∧ (d.dramWidth = 4 ∨ d.dramWidth = 8) ∧ (d.ranks = 1 ∨ d.ranks = 2) ∧
          1 ≤ d.stack ∧ d.stack ≤ 4 ∧ 16 ≤ d.capacity ∧ d.capacity ≤ 256 ∧ (d.rate = 4800 ∨ d.rate = 5600 ∨ d.rate = 6400)
      then { s.chan chan.val with
        st := .training
        speed := if d.rate = 4800 then 0 else if d.rate = 5600 then 1 else 2
        width := if d.dramWidth = 8 then 1 else 0
        capacity := d.capacity
        serial := d.serial }
      else { s.chan chan.val with st := .refused, power := false }))) ∧
  (∀ (s : State) (chan : Fin 16), (s.chan chan.val).st = .training → s.pausedBy 8 chan.val = false →
    ∃ t, exec (.channelTrainingEnd chan true) s = .next t ∧ Same [.chans, .dict, .fieldMap, .stores] s t ∧
      t.chans = Tbl.put {} s.chans chan.val { s.chan chan.val with st := .inService } ∧
      t.stores = Tbl.put {} s.stores (16 + chan.val) { s.store (16 + chan.val) with
        mem := [], poison := [], due := [], selfRefresh := false, retired := (s.mapFrames chan.val (s.chan chan.val).serial).foldl addOnce [] } ∧
      (∀ e ∈ t.fieldMap, e ∈ s.fieldMap)) ∧
  (∀ (s : State) (chan : Fin 16), (s.chan chan.val).st = .training → s.pausedBy 8 chan.val = false →
    ∃ t, exec (.channelTrainingEnd chan false) s = .next t ∧ Same [.dict, .freeCtr, .cores, .dies, .stores, .ledger, .tlb, .epoch, .heldFrames, .migs, .ledgerCmd, .chans, .staging, .lanes, .trackers, .replies,
      .lastResponse, .xports, .test] s t ∧
      (Tbl.rising s.chans = true → t.chan chan.val = { s.chan chan.val with st := .failed, power := false, traceFrames := 0, throttled := false }) ∧
      (s.ledgerCmd = none → (∀ u, u < 32 → (s.store u).poison.length < 4096) →
        t.chans = Tbl.put {} s.chans chan.val { s.chan chan.val with st := .failed, power := false, traceFrames := 0, throttled := false } ∧ t.staging = s.staging)) ∧
  (∀ (s : State) (chan : Fin 16), (s.chan chan.val).st = .discovering ∨ (s.chan chan.val).st = .training ∨ (s.chan chan.val).st = .inService ∨
      (s.chan chan.val).st = .draining →
    ∃ t, exec (.i3cBusLoss chan) s = .next t ∧ Same [.dict, .freeCtr, .cores, .dies, .stores, .ledger, .tlb, .epoch, .heldFrames, .migs, .ledgerCmd, .chans, .staging, .lanes, .trackers, .replies,
      .lastResponse, .xports, .test] s t ∧
      (Tbl.rising s.chans = true → t.chan chan.val = { s.chan chan.val with st := .failed, power := false, traceFrames := 0, throttled := false }) ∧
      (s.ledgerCmd = none → (∀ u, u < 32 → (s.store u).poison.length < 4096) → t.chans = Tbl.put {} s.chans chan.val { s.chan chan.val with st := .failed, power := false, traceFrames := 0, throttled := false }) ∧
      ((s.chan chan.val).st = .draining → (∀ d, d < 16 → d ≠ chan.val → (s.chan d).st ≠ .draining) → Tbl.rising s.dict = true → t.reg (okey 0x5110 3) = Status.discarded.code)) ∧
  (∀ (s : State) (chan : Fin 16), (s.chan chan.val).st = .drained →
    exec (.powerEnableOff chan) s = .next (s.setChan chan.val { s.chan chan.val with power := false })) ∧
  (∀ (s : State) (c : Nat), s.reg (okey 0x5110 1) = c → ∃ t, exec .discover s = .next t ∧ Same [.chans, .dict, .lastStatus] s t ∧
    t.lastStatus = (if 15 < c then Status.typeMismatch.code
      else if (s.chan c).st = .empty ∨ (s.chan c).st = .refused ∨ (s.chan c).st = .failed then Status.ok.code else Status.notReady.code) ∧
    t.chans = (if 15 < c then s.chans
      else if (s.chan c).st = .refused ∨ (s.chan c).st = .failed ∨ ((s.chan c).st = .empty ∧ (s.chan c).present = true)
        then Tbl.put {} s.chans c { s.chan c with st := .discovering, power := true }
      else if (s.chan c).st = .empty then Tbl.put {} s.chans c { s.chan c with asked := true } else s.chans))

/-- CHANNEL_DRAIN answers, in this order, TYPE_MISMATCH for a channel above 15, NOT_READY unless the channel is In
service, BUSY where one of its granules is pinned, and BUSY where the free frames of the other channels in service do
not hold its granules; such an answer changes no channel, no entry and no migration, and Status reads it unless a
drain runs. An accepted drain takes the channel to Draining, with Status BUSY and its trace frames gone and counted,
and begins migrations only of valid granules of that channel to other channels in service. When no granule is left on
it and no staging command touches it, the channel is Drained, in self-refresh, and Status reads OK with no other drain
running; until then nothing changes. (R323, R333, R334, R335, R336, Table 8-2, Table 8-6) -/
def Obligations.DrainsEmptyAChannel : Prop :=
  (∀ (s : State) (c : Nat) (st : Status), s.reg (okey 0x5110 1) = c →
    ((15 < c ∧ st = .typeMismatch) ∨ (c ≤ 15 ∧ (s.chan c).st ≠ .inService ∧ st = .notReady) ∨
      (c ≤ 15 ∧ (s.chan c).st = .inService ∧ (∃ e ∈ s.granulesOn c, ePinned e = true) ∧ st = .busy) ∨
      (c ≤ 15 ∧ (s.chan c).st = .inService ∧ (((List.range 16).filter (fun d => decide (d ≠ c) && decide ((s.chan d).st = .inService))).map s.freeFrames).sum <
        (s.granulesOn c).length ∧ st = .busy)) →
    ∃ t, exec .channelDrain s = .next t ∧ Same [.dict, .lastStatus] s t ∧ t.lastStatus = st.code ∧
      (Tbl.rising s.dict = true → ∀ k, t.reg k = if k = okey 0x5110 3 ∧ (List.range 16).all (fun d => decide ((s.chan d).st ≠ .draining)) = true then st.code else s.reg k)) ∧
  (∀ (s : State) (c : Nat), s.reg (okey 0x5110 1) = c → c ≤ 15 → (s.chan c).st = .inService → (∀ e ∈ s.granulesOn c, ePinned e = false) →
    (s.granulesOn c).length ≤ (((List.range 16).filter (fun d => decide (d ≠ c) && decide ((s.chan d).st = .inService))).map s.freeFrames).sum →
    Tbl.rising s.dict = true →
    ∃ t, exec .channelDrain s = .next t ∧ Same [.ledger, .lastStatus, .chans, .dict, .stores, .migs, .tlb, .hub] s t ∧ t.lastStatus = Status.ok.code ∧
      t.reg (okey 0x5130 3) = s.reg (okey 0x5130 3) + (s.chan c).traceFrames ∧
      t.reg (okey 0x5110 3) = Status.busy.code ∧ t.chans = Tbl.put {} s.chans c { s.chan c with st := .draining, traceFrames := 0 } ∧
      ∃ new, t.migs = s.migs ++ new ∧ new.length ≤ 64 ∧
        ∀ m ∈ new, m.owner = .drain c ∧ m.phase = 1 ∧ m.newUnit ≠ c ∧ (s.chan m.newUnit).st = .inService) ∧
  (∀ (s : State) (chan : Fin 16), (s.chan chan.val).st = .draining → s.granulesOn chan.val = [] → s.stagingTouches chan.val = false →
    (∀ d, d < 16 → d ≠ chan.val → (s.chan d).st ≠ .draining) → Tbl.rising s.dict = true →
    ∃ t, exec (.drainComplete chan) s = .next t ∧ Same [.chans, .dict, .stores] s t ∧
      t.chans = Tbl.put {} s.chans chan.val { s.chan chan.val with st := .drained } ∧
      t.stores = Tbl.put {} s.stores (16 + chan.val) { s.store (16 + chan.val) with selfRefresh := true } ∧
      t.reg (okey 0x5110 3) = Status.ok.code ∧ ∀ k, k ≠ okey 0x5110 3 → t.reg k = s.reg k) ∧
  (∀ (s : State) (chan : Fin 16), ((s.chan chan.val).st ≠ .draining ∨ s.granulesOn chan.val ≠ [] ∨ s.stagingTouches chan.val = true) →
    exec (.drainComplete chan) s = .next s)

/-- The hub accepts the next staging command of the two ports in turns; its take pointer moves on, and the accepted
command holds the status of the first failed check of Table 8-5, or the frames of its granules as translated at that
moment, with the ledger epoch. Its granules start: the tier granules in flight never pass 64, nor 8 on one channel,
and one that waits finds one of the two bounds met. No data moves yet. A command that failed a check ends with its
status; one of a port that has left Up ends without a report. A copy waits while its way is dark, a migration holds
writes to its destination, or a granule of it may not start; else, with every unit of it in service and no poisoned
line about, every 64 KiB source reaches its destinations byte for byte, every other byte stays, and the granules are
counted; a frame passed NeedFrame turns OK into DEADLINE_MISSED and counts. The report writes bits 55 to 48 of word 0
and word 4 of the entry. (R324, R325, R326, R327, R328, R329, R331, R332, R541, Table 8-4, Table 8-5, Table 8-7) -/
def Obligations.StagingCopiesAfterItsChecks : Prop :=
  (∀ (s : State) (port : Nat) (p : Port) (e : Nat) (ws : List Nat) (i : Instr) (n : Nat), s.stagingNext = some (port, p, e, ws) →
    (n, i) ∈ [(1, Instr.stagein []), (2, .stageout [])] → gOpcode ws = n →
    ∃ t, exec i s = .next t ∧ Same [.ports, .stagingTurn, .staging] s t ∧ t.stagingTurn = 1 - port ∧
      t.ports = Tbl.put {} s.ports port { p with stagingQ := { p.stagingQ with take := (p.stagingQ.take + 1) % 256 } } ∧
      t.staging.map (fun x => { x with todo := [], flight := [] }) = s.staging.map (fun x => { x with todo := [], flight := [] }) ++
        [{ port := port, entry := e, words := ws, ring := p.queueRing true, epoch := s.epoch, status := (s.stageCheck ws).map Status.code, map := if s.stageCheck ws = none then s.stageMap ws else [] }] ∧
      (let busy (u : State) := u.staging.flatMap (fun x => x.flight.map x.channel)
       ((busy s).length ≤ 64 → (busy t).length ≤ 64) ∧ (∀ u, (busy s).count u ≤ 8 → (busy t).count u ≤ 8) ∧
       ∀ x ∈ t.staging, ∀ j ∈ x.todo, 64 ≤ (busy t).length ∨ 8 ≤ (busy t).count (x.channel j))) ∧
  (∀ (s : State) (pos st : Nat) (c : StageCmd), s.stopped = false → s.staging[pos]? = some c → c.status = some st → c.gone = true →
    (∀ d, d < 16 → (s.chan d).st ≠ .draining) →
    exec (.stagingComplete pos) s = .next { s with staging := startGranules (removeAt s.staging pos) }) ∧
  (∀ (s : State) (pos st : Nat) (c : StageCmd), s.stopped = false → s.staging[pos]? = some c → c.status = some st → c.gone = false →
    ∃ t p, exec (.stagingComplete pos) s = .next t ∧ Same [.ports, .staging, .test, .dict, .freeCtr, .stores, .ledger, .migs, .tlb, .hub] s t ∧
      t.staging = startGranules (removeAt s.staging pos) ∧ t.ports = Tbl.put {} s.ports c.port p ∧ p.stagingQ = (s.port c.port).stagingQ.finish c.entry st ∧
      p.bar0 = Tbl.put 0 (Tbl.put 0 (s.port c.port).bar0 ((0x14000 + 64 * c.entry) / 8)
        (setField ((s.port c.port).word (0x14000 + 64 * c.entry)) 55 48 st)) ((0x14000 + 64 * c.entry + 32) / 8) s.tb.count) ∧
  (∀ (s : State) (pos : Nat) (c : StageCmd), s.stopped = false → s.staging[pos]? = some c → c.status = none →
    (s.stageDark c = true ∨ s.stageWaits c = true ∨ stageLanded pos c s.staging = none) → exec (.stagingComplete pos) s = .next s) ∧
  (∀ (s : State) (pos : Nat) (c : StageCmd) (l : List StageCmd), s.stopped = false → s.staging[pos]? = some c → c.status = none →
    s.stageDark c = false → s.stageWaits c = false → stageLanded pos c s.staging = some l → s.stageServes c = true → (∀ u, (s.store u).poison = [] ∧ (s.store u).due = []) → ((s.stageMoves c).flatMap (fun m => m.2)).Nodup →
    (∀ m ∈ s.stageMoves c, ∀ n ∈ s.stageMoves c, ∀ d ∈ n.2, d.1 ≠ m.1.1 ∧ d.2 % 65536 = 0) →
    Tbl.rising s.stores = true → MemOk s → Tbl.rising s.dict = true →
    ∃ t, exec (.stagingComplete pos) s = .next t ∧ Same [.ports, .stores, .dict, .staging, .migs, .ledger, .tlb, .test, .freeCtr, .hub] s t ∧
      t.staging = removeAt l pos ∧
      (∀ m ∈ s.stageMoves c, ∀ d ∈ m.2, ∀ x, x < 65536 → rdByte (t.store d.1).mem (d.2 + x) = rdByte (s.store m.1.1).mem (m.1.2 + x)) ∧
      (∀ u y, (∀ m ∈ s.stageMoves c, ∀ d ∈ m.2, d.1 = u → y < d.2 ∨ d.2 + 65536 ≤ y) → rdByte (t.store u).mem y = rdByte (s.store u).mem y) ∧
      t.reg (okey 0x5130 1) = s.reg (okey 0x5130 1) + gCount c.words ∧ t.reg (okey 0x5130 4) = s.reg (okey 0x5130 4) ∧
      t.reg (okey 0x5130 2) = s.reg (okey 0x5130 2) + (if gNeed c.words ≠ 0 ∧ gNeed c.words ≤ s.tb.frame then 1 else 0))

/-- A destination of a bride that serves keeps a source's latest request with its backlog, held to 65,535, and its weight
of 1 to 64: for a compute stack the source count that its die reported, for F its external ports with traffic, for a
site that is none of these nor H 1; a multicast request needs a compute source, a row mate and both laser modules. A
backlog of 0 also ends the source's leases to it at the coming boundary, a substitute for a standing lane apart. A
source takes each lane's grants off its list and confirms, where the lane is free, the grant of the largest weight and
then of the lowest destination, leaving out grants over a path with a region out of service; a revocation at a
receiver ends a lease at the second boundary after. A destination turns each grant that its source has confirmed, over
a path in service, into the lane's next lessee. At the period boundary, while no lane of that index calibrates, a
confirmed lane whose receiver holds the confirmation over a path in service is leased at both ends and sends an
identity word; a lease that ends then is over, its lane at rest; and a leased or standing lane that goes on sends an
identity word in the sixteenth period after its last. (R345, R349, R350, R351, R352, R353, R357, R367, R370, R374,
R383) -/
def Obligations.LeasesAreAskedGrantedAndConfirmed : Prop :=
  (∀ (s : State) (dst src : Fin 12) (backlog : Nat) (multicast : Bool), brideExists src.val dst.val = true → s.pathUp src.val dst.val = true →
    (multicast = true → (dieAt src.val).isSome = true ∧ dst.val ∈ rowMates src.val ∧ s.bothLasers = true) → Tbl.rising s.lanes = true →
    ∃ t, exec (.leaseRequest dst src backlog multicast) s = .next t ∧ Same [.arbiters, .lanes] s t ∧
      t.arbiters = Tbl.put {} s.arbiters dst.val { s.arbiter dst.val with
        reqs := (s.arbiter dst.val).reqs.filter (fun x => !(decide (x.src = src.val) && x.multicast == multicast)) ++
          [{ src := src.val, backlog := min backlog 65535, weight := s.leaseWeight src.val dst.val, multicast := multicast }] } ∧
      (∀ a n, a < 12 → n < 96 → t.lane a n =
        if backlog = 0 ∧ a = src.val ∧ (s.lane a n).tx = .leased ∧ (s.lane a n).txPeer = (if multicast then 0xE else dst.val) ∧
            Tbl.get 0 (s.arbiter dst.val).substs a ≠ n + 1
          then { s.lane a n with ending := some 1 } else s.lane a n)) ∧
  (∀ (s : State) (a d : Nat), 1 ≤ s.leaseWeight a d ∧ s.leaseWeight a d ≤ 64 ∧
    (∀ k, dieAt a = some k → 1 ≤ Tbl.get 0 (s.dieOf k).siteWeights d → Tbl.get 0 (s.dieOf k).siteWeights d ≤ 64 →
      s.leaseWeight a d = Tbl.get 0 (s.dieOf k).siteWeights d) ∧
    (1 ≤ s.footPorts → s.footPorts ≤ 64 → s.leaseWeight siteF d = s.footPorts) ∧
    (dieAt a = none → a ≠ siteH → a ≠ siteF → s.leaseWeight a d = 1)) ∧
  (∀ (s : State) (src : Fin 12), Tbl.rising s.lanes = true →
    ∃ t, exec (.leaseGrant src) s = .next t ∧ Same [.lanes] s t ∧ (∀ a n, a < 12 → n < 96 → t.lane a n =
      if a = src.val then { s.lane a n with
        ending := if (s.lane a n).tx = .leased ∧ (∃ d ∈ s.receiversOf a n, (s.lane d n).revoked = true)
          then some (min ((s.lane a n).ending.getD 2) 2) else (s.lane a n).ending
        offers := []
        confirmed := if (s.lane a n).offers ≠ [] ∧ s.freeTx a n = true
          then chooseOffer a ((s.lane a n).offers.filter (fun o => s.pathUp a (o.1 % 16) && (decide (o.1 < 16) || s.bothLasers)))
          else (s.lane a n).confirmed }
      else s.lane a n)) ∧
  (∀ (a d w : Nat) (l : List (Nat × Nat)), (d, w) ∈ l → (∀ o ∈ l, o.1 < 12 ∧ (o.2 < w ∨ (o.2 = w ∧ d ≤ o.1))) → chooseOffer a l = some d) ∧
  (∀ (s : State) (dst : Fin 12), Tbl.rising s.lanes = true →
    ∃ t, exec (.leaseConfirm dst) s = .next t ∧ Same [.lanes] s t ∧ (∀ d n, d < 12 → n < 96 → d ≠ dst.val → t.lane d n = s.lane d n) ∧
      (∀ n g, n < 96 → (s.lane dst.val n).granted = some g → t.lane dst.val n =
        if (s.lane (g % 16) n).confirmed = some (if g < 16 then dst.val else 14) ∧ s.pathUp (g % 16) dst.val = true
          then { s.lane dst.val n with granted := none, rxNext := some (g % 16) } else s.lane dst.val n) ∧
      (∀ n, n < 96 → (s.lane dst.val n).granted = none → t.lane dst.val n = s.lane dst.val n)) ∧
  (∀ (s : State) (a c n : Nat), Tbl.rising s.lanes = true → a < 12 → c < 12 → a ≠ c → n < 96 → (∀ b, (s.lane b n).cal = 0) →
    (s.lane a n).confirmed = some c → (s.lane a n).tx = .idle → (s.lane a n).ending = none → (s.lane c n).rxNext = some a → s.pathUp a c = true →
    ∃ t, exec .leasePeriod s = .next t ∧ Same [.dict, .lastStatus, .freeCtr, .cores, .dies, .fieldMap, .stores, .ledger, .tlb, .epoch, .heldFrames, .migs, .ledgerCmd, .chans, .staging, .calCmd, .regions, .rings, .lanes, .arbiters, .guests, .trackers, .replies, .lastResponse, .xports, .hub, .ports, .dap, .test] s t ∧
      (t.lane a n).tx = .leased ∧ (t.lane a n).txPeer = c ∧ (t.lane a n).txGroup = pathGroup a c ∧ (t.lane c n).rx = .leased ∧ (t.lane c n).rxPeer = a ∧
      (t.lane a n).since = 0 ∧ (t.lane a n).seq = ((s.lane a n).seq + 1) % 256) ∧
  (∀ (s : State) (a n k : Nat), Tbl.rising s.lanes = true → a < 12 → n < 96 → (∀ b, (s.lane b n).cal = 0) →
    (s.lane a n).confirmed = none → (s.lane a n).tx = .leased → (s.lane a n).ending = some k →
    ∃ t, exec .leasePeriod s = .next t ∧ Same [.dict, .lastStatus, .freeCtr, .cores, .dies, .fieldMap, .stores, .ledger, .tlb, .epoch, .heldFrames, .migs, .ledgerCmd, .chans, .staging, .calCmd, .regions, .rings, .lanes, .arbiters, .guests, .trackers, .replies, .lastResponse, .xports, .hub, .ports, .dap, .test] s t ∧
      (1 < k → (t.lane a n).tx = .leased ∧ (t.lane a n).ending = some (k - 1)) ∧
      (k ≤ 1 → ((t.lane a n).tx = .idle ∨ (t.lane a n).tx = .standing) ∧ (t.lane a n).ending = none)) ∧
  (∀ (s : State) (a n : Nat), Tbl.rising s.lanes = true → a < 12 → n < 96 → (∀ b, (s.lane b n).cal = 0) →
    (s.lane a n).confirmed = none → (s.lane a n).tx = .leased ∨ (s.lane a n).tx = .standing → (s.lane a n).ending = none →
    ∃ t, exec .leasePeriod s = .next t ∧
      (t.lane a n).since = (if 15 ≤ (s.lane a n).since then 0 else (s.lane a n).since + 1) ∧
      (t.lane a n).seq = (if 15 ≤ (s.lane a n).since then ((s.lane a n).seq + 1) % 256 else (s.lane a n).seq))

/-- An identity word at a fabric or pair lane with a wrong Check field counts among the last sixteen; the second failure
takes the lane out, and the pair link's last lane ends the link. At a Ground lane a wrong Check field counts in the
Ground's counters, and the second within sixteen words of a path in service takes it out to retrain; a word that names
its lessee, its site, or 0xF on a multicast lease, and its lane lets the receiver take packets; any other makes it
discard them, counts, and adds a report for the hub. The hub takes the oldest report: one with a wrong wavelength
relocks the source lane's ring, leaves that lane relocking and retrains each of its paths in service; one with another
lane relocks the drop ring; any other takes the path out to retrain. Without a report it does nothing. Training of a
bride whose regions serve or have locked their rings sends sixteen identity words on each lane that trains; a path
that was training with all its rings locked returns to service, its field map entry removed; a failed one counts, and
the third failure within ten minutes puts the path out until bring-up. (R364, R365, R366, R367, R368, R369, R410,
R481, R498, R654, R655) -/
def Obligations.IdentityWordsFindBadPaths : Prop :=
  (∀ (s : State) (p : Fin 4) (j : Fin 8) (word : BitVec 64) (ws : List Bool),
    ws = ((crc8Ident word == word.setWidth 8) :: Tbl.get [] (s.xport p.val).words j.val).take 16 →
    ∃ t, exec (.identityWord (.fabric p j) word) s = .next t ∧ Same [.xports] s t ∧ t.xports = Tbl.put {} s.xports p.val { s.xport p.val with
      lanes := if 2 ≤ (ws.filter (fun b => !b)).length then setBit (s.xport p.val).lanes j.val false else (s.xport p.val).lanes
      words := Tbl.put [] (s.xport p.val).words j.val (if 2 ≤ (ws.filter (fun b => !b)).length then [] else ws) }) ∧
  (∀ (s : State) (j : Fin 16) (word : BitVec 64) (ws : List Bool),
    ws = ((crc8Ident word == word.setWidth 8) :: Tbl.get [] s.pair.words j.val).take 16 →
    let lanes := if 2 ≤ (ws.filter (fun b => !b)).length then setBit s.pair.lanes j.val false else s.pair.lanes
    let told : State := { s with pair := { s.pair with
      lanes := lanes, words := Tbl.put [] s.pair.words j.val (if 2 ≤ (ws.filter (fun b => !b)).length then [] else ws) } }
    (lanes ≠ 0 ∨ s.pair.lanes = 0 → exec (.identityWord (.pair j) word) s = .next told) ∧
    (lanes = 0 → s.pair.lanes ≠ 0 → exec (.identityWord (.pair j) word) s = .next told.pairLost)) ∧
  (∀ (s : State) (d : Fin 12) (n : Fin 96) (word : BitVec 64), (crc8Ident word == word.setWidth 8) = false → (s.lane d.val n.val).rxPeer = 0xF →
    Tbl.rising s.dict = true →
    ∃ t, exec (.identityWord (.ground d n) word) s = .next t ∧ Same [.dict] s t ∧
      (∀ k, t.reg k = if k = okey 0x6030 2 then s.reg k + 1 else s.reg k)) ∧
  (∀ (s : State) (a d : Fin 12) (n : Fin 96) (word : BitVec 64), (crc8Ident word == word.setWidth 8) = false → (s.lane d.val n.val).rxPeer = a.val →
    Tbl.rising s.dict = true →
    ∃ t, exec (.identityWord (.ground d n) word) s = .next t ∧ Same [.paths, .lanes, .dict] s t ∧ t.reg (okey 0x6030 2) = s.reg (okey 0x6030 2) + 1 ∧
      ((s.pathOf a.val d.val n.val).st = 0 → 2 ≤ ((lastWords false (s.pathOf a.val d.val n.val).words).filter (fun b => !b)).length →
        (t.pathOf a.val d.val n.val).st = 1)) ∧
  (∀ (s : State) (a d : Fin 12) (n : Fin 96) (word : BitVec 64), (crc8Ident word == word.setWidth 8) = true → (s.lane d.val n.val).rxPeer = a.val →
    Tbl.rising s.lanes = true → Tbl.rising s.dict = true →
    ∃ t good, exec (.identityWord (.ground d n) word) s = .next t ∧ Same [.paths, .lanes, .dict, .identReports, .freeCtr, .test] s t ∧
      (good = true ↔ fieldOf word 59 56 = a.val ∧ (fieldOf word 55 52 = d.val ∨ ((s.lane a.val n.val).txPeer = 0xE ∧ fieldOf word 55 52 = 0xF)) ∧ fieldOf word 51 45 = n.val ∧ fieldOf word 44 41 = n.val % 16) ∧
      t.lane d.val n.val = { s.lane d.val n.val with discards := !good } ∧
      t.identReports = (if good = true then s.identReports else s.identReports ++ [(d.val, n.val, word.toNat)]) ∧
      t.reg (okey 0x6030 1) = s.reg (okey 0x6030 1) + (if good = true then 0 else 1)) ∧
  (∀ (s : State) (d n w : Nat) (rest : List (Nat × Nat × Nat)), s.identReports = (d, n, w) :: rest →
    ∃ t, exec .identityReport s = .next t ∧ Same [.dict, .lastStatus, .freeCtr, .hostMem, .entries, .cores, .runs, .grants, .orphans, .stores, .regions, .rings, .lanes, .paths, .arbiters, .identReports, .pair, .ports, .streams, .pw, .sec, .test] s t ∧ t.identReports = rest ∧
      (∀ b, bits w 44 41 ≠ bits w 51 45 % 16 → bits w 59 56 < 12 → bits w 51 45 < 96 → brideExists (bits w 59 56) b = true →
        (s.pathOf (bits w 59 56) b (bits w 51 45)).st = 0 → (t.pathOf (bits w 59 56) b (bits w 51 45)).st = 1) ∧
      (∀ k, bits w 44 41 ≠ bits w 51 45 % 16 → bits w 59 56 < 12 → bits w 51 45 < 96 →
        k = ringKey (bits w 59 56) (2 * bits w 51 45 + (if bits w 40 39 = 1 ∨ (bits w 40 39 = 2 ∧ bits w 59 56 = siteH) then 1 else 0)) →
        (s.mring k).st ≠ .notFitted → (s.mring k).st ≠ .out →
        (t.mring k).st = .sweeping ∧ (t.lane (bits w 59 56) (bits w 51 45)).tx = .relocking) ∧
      (bits w 44 41 = bits w 51 45 % 16 → bits w 51 45 ≠ n → (s.lane d n).rxPeer < 12 → brideExists (s.lane d n).rxPeer d = true →
        (s.mring (dropRing (s.lane d n).rxPeer d n)).st ≠ .notFitted → (s.mring (dropRing (s.lane d n).rxPeer d n)).st ≠ .out →
        (t.mring (dropRing (s.lane d n).rxPeer d n)).st = .sweeping) ∧
      ((bits w 44 41 = bits w 51 45 % 16 → bits w 51 45 = n) → (bits w 44 41 ≠ bits w 51 45 % 16 → 12 ≤ bits w 59 56 ∨ 96 ≤ bits w 51 45) → (s.lane d n).rxPeer < 12 → brideExists (s.lane d n).rxPeer d = true →
        (s.pathOf (s.lane d n).rxPeer d n).st = 0 → (t.pathOf (s.lane d n).rxPeer d n).st = 1)) ∧
  (∀ s : State, s.identReports = [] → exec .identityReport s = .next s) ∧
  (∀ (s : State) (a b : Fin 12), brideExists a.val b.val = true → (∀ x ∈ pathRegions a.val b.val, s.pausedBy 6 x = false) → s.canTrain a.val b.val = true →
    Tbl.rising s.paths = true → Tbl.rising s.lanes = true →
    ∃ t, exec (.pathTrainingEnd a b []) s = .next t ∧ Same [.paths, .dict, .fieldMap, .lanes] s t ∧ (∀ e ∈ t.fieldMap, e ∈ s.fieldMap) ∧
      (∀ n, n < 96 → t.pathOf a.val b.val n = if (s.pathOf a.val b.val n).st = 1 then
        (if ∀ k ∈ pathRings a.val b.val n, (s.mring k).st = .locked
          then { s.pathOf a.val b.val n with st := 0, words := [], tried := true } else { s.pathOf a.val b.val n with tried := true })
        else s.pathOf a.val b.val n) ∧
      (∀ n, n < 96 → (s.pathOf a.val b.val n).st = 1 → (∀ k ∈ pathRings a.val b.val n, (s.mring k).st = .locked) →
        MapEntry.laneOut (a.val * 12 + b.val) n ∉ t.fieldMap ∧ (t.lane a.val n).seq = ((s.lane a.val n).seq + 16) % 256)) ∧
  (∀ (s : State) (a b : Fin 12) (n : Fin 96), brideExists a.val b.val = true → (∀ x ∈ pathRegions a.val b.val, s.pausedBy 6 x = false) → s.canTrain a.val b.val = true →
    Tbl.rising s.paths = true → (s.pathOf a.val b.val n.val).st = 1 → (∀ k ∈ pathRings a.val b.val n.val, (s.mring k).st = .locked) →
    ∃ t fs, exec (.pathTrainingEnd a b [n]) s = .next t ∧ Same [.paths, .dict, .fieldMap, .lanes] s t ∧
      fs = s.tb.count :: (s.pathOf a.val b.val n.val).fails.filter (fun x => decide (s.tb.count < x + 28800000)) ∧
      t.pathOf a.val b.val n.val = { s.pathOf a.val b.val n.val with st := if 3 ≤ fs.length then 2 else 1, fails := fs, tried := true })

/-- While a ramp runs a release or a start is answered BUSY and changes nothing. A release of a module whose partner does
not read Supplying is BUSY, and otherwise of one that does not supply itself NOT_READY; else its ramp to off begins
with its enable line low. A start of a module that is not seated is NOT_READY; else its ramp up begins. Each other
answer is also the command's status, which the end of the ramp turns to OK: the module then supplies, and the dark
regions that are neither isolated nor tripped start their locks; or it is removable, with multicasts ended, or with
every region dark where no other module supplies. A module that stops without a release is failed, with no path out of
service where the other one supplies, and every region that is not parked dark where none does. The light of a failed
module that is seated returns by itself. A seat report seats a module or takes it away. (R55, R357, R360, R361, R362,
R719, R720, Table 9-12) -/
def Obligations.LaserModulesRampAndFail : Prop :=
  (∀ (s : State) (m : Fin 2) (i : Instr), i = .laserRelease m ∨ i = .laserStart m → s.ramping = true →
    ∃ t, exec i s = .next t ∧ Same [.lastStatus] s t ∧ t.lastStatus = Status.busy.code) ∧
  (∀ (s : State) (m : Fin 2) (i : Instr) (st : Status), s.ramping = false →
    ((i = .laserRelease m ∧ (s.laser (1 - m.val)).st ≠ .supplying ∧ st = .busy) ∨
      (i = .laserRelease m ∧ (s.laser (1 - m.val)).st = .supplying ∧ (s.laser m.val).st ≠ .supplying ∧ (s.laser m.val).st ≠ .flagged ∧ st = .notReady) ∨
      (i = .laserStart m ∧ ((s.laser m.val).st ≠ .seated ∨ (s.laser m.val).seat = false) ∧ st = .notReady)) →
    ∃ t, exec i s = .next t ∧ Same [.lastStatus, .dict] s t ∧ t.lastStatus = st.code ∧
      (Tbl.rising s.dict = true → ∀ k, t.reg k = if k = okey 0x6004 0 then st.code else s.reg k)) ∧
  (∀ (s : State) (m : Fin 2), s.ramping = false → ((s.laser m.val).st = .supplying ∨ (s.laser m.val).st = .flagged) →
    (s.laser (1 - m.val)).st = .supplying → Tbl.rising s.dict = true →
    ∃ t, exec (.laserRelease m) s = .next t ∧ Same [.lastStatus, .dict, .lasers] s t ∧ t.lastStatus = Status.ok.code ∧
      t.lasers = Tbl.put {} s.lasers m.val { s.laser m.val with st := .rampDown, enable := false } ∧
      t.reg (okey 0x6001 (m.val + 1)) = 5 ∧ t.reg (okey 0x6004 0) = Status.busy.code) ∧
  (∀ (s : State) (m : Fin 2), s.ramping = false → (s.laser m.val).st = .seated → (s.laser m.val).seat = true → Tbl.rising s.dict = true →
    ∃ t, exec (.laserStart m) s = .next t ∧ Same [.lastStatus, .dict, .lasers] s t ∧ t.lastStatus = Status.ok.code ∧
      t.lasers = Tbl.put {} s.lasers m.val { s.laser m.val with st := .rampUp, enable := true } ∧
      t.reg (okey 0x6001 (m.val + 1)) = 2 ∧ t.reg (okey 0x6004 0) = Status.busy.code) ∧
  (∀ (s : State) (m : Fin 2) (i : Instr), (i = .laserRampEnd m ∧ (s.laser m.val).st = .rampUp) ∨
      (i = .laserLightReturn m ∧ (s.laser m.val).st = .failed ∧ (s.laser m.val).seat = true) → Tbl.rising s.dict = true →
    ∃ t, exec i s = .next t ∧ Same [.dict, .lasers, .regions, .rings, .freeCtr] s t ∧
      t.lasers = Tbl.put {} s.lasers m.val { s.laser m.val with
        st := .supplying, silent := 0, enable := if i = .laserLightReturn m then true else (s.laser m.val).enable } ∧
      t.reg (okey 0x6001 (m.val + 1)) = 3 ∧ (i = .laserRampEnd m → t.reg (okey 0x6004 0) = Status.ok.code) ∧
      (∀ x, x < 12 → t.region x = if (s.region x).st = .dark ∧ (s.region x).isolated = false ∧ (s.region x).tripped = false ∧ (s.region x).barred = false
        then { s.region x with st := .locking } else s.region x)) ∧
  (∀ (s : State) (m : Fin 2) (i : Instr) (st : LaserSt), (i = .laserRampEnd m ∧ (s.laser m.val).st = .rampDown ∧ st = .removable) ∨
      (i = .laserLoss m ∧ ((s.laser m.val).st = .supplying ∨ (s.laser m.val).st = .flagged) ∧ st = .failed) →
    ((s.laser (1 - m.val)).st = .supplying ∨ (s.laser (1 - m.val)).st = .flagged) → Tbl.rising s.lanes = true →
    ∃ t, exec i s = .next t ∧ Same [.dict, .lasers, .lanes] s t ∧
      t.lasers = Tbl.put {} s.lasers m.val { s.laser m.val with st := st, enable := if st = .failed then false else (s.laser m.val).enable } ∧
      (∀ a n, a < 12 → n < 96 → (s.lane a n).tx = .leased → (s.lane a n).txPeer = 0xE → (t.lane a n).tx = .idle ∨ (t.lane a n).tx = .standing) ∧
      (∀ a n, a < 12 → n < 96 → (s.lane a n).txPeer ≠ 0xE → (t.lane a n).tx = (s.lane a n).tx ∧ (t.lane a n).txPeer = (s.lane a n).txPeer)) ∧
  (∀ (s : State) (m : Fin 2) (i : Instr), (i = .laserRampEnd m ∧ (s.laser m.val).st = .rampDown ∧ (s.laser (1 - m.val)).st ≠ .supplying ∧
        (s.laser (1 - m.val)).st ≠ .flagged) ∨
      (i = .laserLoss m ∧ ((s.laser m.val).st = .supplying ∨ (s.laser m.val).st = .flagged) ∧ (s.laser (1 - m.val)).st ≠ .supplying ∧
        (s.laser (1 - m.val)).st ≠ .flagged) ∨
      (i = .laserLossBoth ∧ ((s.laser m.val).st = .supplying ∨ (s.laser m.val).st = .flagged)) →
    ∃ t, exec i s = .next t ∧ (t.laser m.val).st = (if i = .laserRampEnd m then .removable else .failed) ∧
      (t.laser 0).st ≠ .supplying ∧ (t.laser 1).st ≠ .supplying ∧ t.pair.lanes = 0 ∧
      (∀ x, x < 12 → (s.region x).st ≠ .parked → (t.region x).st = .dark) ∧ (∀ x, x < 12 → (s.region x).st = .parked → t.region x = s.region x)) ∧
  (∀ (s : State) (m : Fin 2), ∃ t, exec (.laserSeatReport m true) s = .next t ∧ Same [.dict, .lasers] s t ∧
    t.lasers = Tbl.put {} s.lasers m.val { s.laser m.val with
      seat := true
      st := if (s.laser m.val).st = .absent ∨ (s.laser m.val).st = .removable ∨ (s.laser m.val).st = .failed then .seated else (s.laser m.val).st }) ∧
  (∀ (s : State) (m : Fin 2), (s.laser m.val).st ≠ .supplying → (s.laser m.val).st ≠ .flagged → Tbl.rising s.lasers = true →
    ∃ t, exec (.laserSeatReport m false) s = .next t ∧ Same [.dict, .lasers] s t ∧
      t.laser m.val = { s.laser m.val with seat := false, st := .absent, enable := false })

/-- A RegionCommand answers, in this order, TYPE_MISMATCH, ACCESS_DENIED for H, NOT_READY for a parked region and BUSY for
one not in service; that answer is also its status, unless a commanded reset runs, when the status reads BUSY, and
nothing else changes. An accepted command, or a fault of a region in service other than H's, sends the dark notice and
counts a reset; no step of the region's die keeps its cores. A site that receives the notice is listed once. At the
endpoint reset every site holds the notice and the region is in reset; released, its rings start their lock, unless it
has tripped. With no ring sweeping, and every path through it that can train having ended a training, it is in service
again with the notice gone, and a commanded reset reads OK where no other one runs. A region that has left service and
is not back at its return timeout is left dark and isolated, unless it has tripped. A tripped ring region that has
been in restart pending for the restart's rounds restarts: locking where a laser module supplies, dark where none
does. (R230, R382, R383, R384, R385, R388, R391, R407, R409, R634, Table 9-8) -/
def Obligations.RegionsGoDarkAndReturn : Prop :=
  (∀ (s : State) (v x : Nat) (st : Status), s.reg (okey 0x6020 1) = x →
    (((11 < x ∨ v ≠ 1) ∧ st = .typeMismatch) ∨ (x = siteH ∧ v = 1 ∧ st = .accessDenied) ∨
      (x ≤ 11 ∧ x ≠ siteH ∧ v = 1 ∧ (s.region x).st = .parked ∧ st = .notReady) ∨
      (x ≤ 11 ∧ x ≠ siteH ∧ v = 1 ∧ (s.region x).st ≠ .parked ∧ (s.region x).st ≠ .up ∧ st = .busy)) →
    ∃ t, exec (.regionReset (.command v)) s = .next t ∧ Same [.lastStatus, .dict] s t ∧ t.lastStatus = st.code ∧
      (Tbl.rising s.dict = true → ∀ k, t.reg k = if k = okey 0x6020 3 then (if s.resetRuns then Status.busy.code else st.code) else s.reg k)) ∧
  (∀ (s : State) (x : Fin 12) (i : Instr), i = .regionReset (.fault x) ∨ (i = .regionReset (.command 1) ∧ s.reg (okey 0x6020 1) = x.val) →
    x.val ≠ siteH → (s.region x.val).st = .up → Tbl.rising s.dict = true →
    ∃ t, exec i s = .next t ∧ Same [.dict, .lastStatus, .freeCtr, .hostMem, .entries, .cores, .lanes, .runs, .grants, .orphans, .stores, .regions, .arbiters, .pair, .ports, .streams, .pw, .sec, .test] s t ∧
      (t.region x.val).st = .noticed ∧ (t.region x.val).heard = [] ∧ (t.region x.val).isolated = false ∧
      (∀ y, y ≠ x.val → t.region y = s.region y) ∧ t.reg (okey 0x6030 6) = s.reg (okey 0x6030 6) + 1 ∧
      (∀ d, dieAt x.val = some d → ∀ g ∈ t.grants, g.die ≠ d) ∧
      (i = .regionReset (.command 1) → (t.region x.val).asked = true ∧ t.lastStatus = Status.ok.code ∧ t.reg (okey 0x6020 3) = Status.busy.code)) ∧
  (∀ (s : State) (site x : Fin 12), (s.region x.val).st ≠ .up → (s.region x.val).st ≠ .parked →
    ∃ t, exec (.regionDarkNotice site x) s = .next t ∧
      Same [.dict, .freeCtr, .cores, .runs, .stores, .ledger, .tlb, .migs, .ledgerCmd, .nvTrims, .regions, .rings, .lanes, .trackers, .replies, .lastResponse, .xports, .test] s t ∧
      t.region x.val = { s.region x.val with heard := addOnce (s.region x.val).heard site.val } ∧ (∀ y, y ≠ x.val → t.region y = s.region y)) ∧
  (∀ (s : State) (x : Fin 12), (s.region x.val).st = .noticed →
    ∃ t, exec (.regionEndpointReset x) s = .next t ∧
      Same [.dict, .freeCtr, .cores, .runs, .stores, .ledger, .tlb, .migs, .ledgerCmd, .nvTrims, .regions, .rings, .lanes, .paths, .trackers, .replies, .lastResponse, .xports, .test] s t ∧
      (t.region x.val).st = .reset ∧ (∀ a, a < 12 → a ∈ (t.region x.val).heard) ∧ (∀ y, y ≠ x.val → t.region y = s.region y)) ∧
  (∀ (s : State) (x : Fin 12), (s.region x.val).st = .reset → (s.region x.val).tripped = false → (s.region x.val).barred = false →
    ∃ t, exec (.regionResetRelease x) s = .next t ∧ Same [.dict, .regions, .rings] s t ∧
      t.regions = Tbl.put {} s.regions x.val { s.region x.val with st := .locking } ∧
      (∀ k ∈ siteRings x.val, (s.mring k).st ≠ .notFitted → (s.mring k).st ≠ .out → (t.mring k).st = .sweeping)) ∧
  (∀ (s : State) (x : Fin 12), (s.region x.val).tripped = true → exec (.regionResetRelease x) s = .next s) ∧
  (∀ (s : State) (x : Fin 12), (s.region x.val).st = .locking → (∀ k ∈ siteRings x.val, (s.mring k).st ≠ .sweeping) → s.pathsTried x.val = true →
    Tbl.rising s.dict = true → Tbl.rising s.regions = true →
    ∃ t, exec (.regionUpNotice x) s = .next t ∧ Same [.dict, .lastStatus, .freeCtr, .hostMem, .entries, .cores, .runs, .grants, .orphans, .stores, .ledger, .tlb, .migs, .regions, .lanes, .guests, .requests, .seqs, .lineCache, .xports, .hub, .pair, .ports, .streams, .pw, .test] s t ∧
      t.regions = Tbl.put {} s.regions x.val { s.region x.val with st := .up, heard := [], isolated := false, asked := false, fullCal := false } ∧
      ((s.region x.val).asked = true → (∀ y, y < 12 → y ≠ x.val → (s.region y).asked = false) → t.reg (okey 0x6020 3) = Status.ok.code)) ∧
  (∀ (s : State) (x : Fin 12), (s.region x.val).st = .noticed ∨ (s.region x.val).st = .reset ∨ (s.region x.val).st = .locking →
    (s.region x.val).tripped = false →
    ∃ t, exec (.regionReturnTimeout x) s = .next t ∧ Same [.dict, .calCmd, .freeCtr, .regions] s t ∧ t.regions = Tbl.put {} s.regions x.val
      { s.region x.val with st := .dark, isolated := true, asked := false, fullCal := false, calRun := false }) ∧
  (∀ (s : State) (x : Fin 12), (s.thermal (16 + x.val)).trip = .pending → restartRounds ≤ (s.thermal (16 + x.val)).rest →
    (s.region x.val).barred = false →
    ∃ t, exec (.ringRegionRestart x) s = .next t ∧ Same [.dict, .regions, .rings, .thermals] s t ∧
      t.region x.val = { s.region x.val with
        tripped := false
        st := if (s.laser 0).st = .supplying ∨ (s.laser 0).st = .flagged ∨ (s.laser 1).st = .supplying ∨ (s.laser 1).st = .flagged then .locking else .dark } ∧
      t.thermals = Tbl.put {} s.thermals (16 + x.val) { s.thermal (16 + x.val) with trip := .none })

/-- An update of a locked ring moves its heater code, within 0 to 16,383, up for an error above the set point and down for
one below, by no more than the error or 10 GHz, beside its feedforward term, where the error is what the ring sees
less its junction's known offset and less a modulator's SetPointOffset (which code in that range no rule states; log
entry 33), and notes whether its error is outside ±40 GHz. With the error inside, or outside for the first time, and
the code not at an end of its range, the ring stays locked. At the second update outside, or at an end of its range,
it loses lock: it counts, sweeps again, and every path in service that uses the ring is out of service. A sweep that
meets a line locks the ring at that heater code; a modulator's relocking lane goes on to train. One that meets none
counts and is a failed training of each path of the ring that was training; the ring sweeps again while one of its
paths is not out until bring-up, and is out when all are. The fast junction of a ring that is not locked is at Idle,
Drop or Turn; a locked modulator's is at Modulate in the group that its leased or standing lane sends on, and at Idle
in the other. A parked ring takes neither event. (R397, R398, R399, R400, R401, R404, R406, R407, Table 10-1) -/
def Obligations.RingsLockAndAreFoundLost : Prop :=
  (∀ (s : State) (site : Fin 12) (slot : Fin 1344) (seen err : Int) (k : Nat), k = ringKey site.val slot.val → err = s.loopError k seen →
    (s.mring k).st = .locked → ((s.mring k).outside = false ∨ err.natAbs ≤ 400) → 0 < (s.mring k).step err s.free → (s.mring k).step err s.free < 16383 →
    ∃ t, exec (.lockInUpdate site slot seen) s = .next t ∧ Same [.rings, .freeCtr] s t ∧
      t.rings = Tbl.put {} s.rings k { s.mring k with heater := (s.mring k).step err s.free, outside := decide (400 < err.natAbs) }) ∧
  (∀ (r : MicroRing) (err : Int) (free : Nat), r.step err free ≤ 16383) ∧
  (∀ (r : MicroRing) (err : Int) (free : Nat), r.rate = 0 → r.heater ≤ 16383 →
    (0 ≤ err → r.heater ≤ r.step err free ∧ r.step err free ≤ r.heater + min 111 (err.natAbs * 10 / 9)) ∧
    (err ≤ 0 → r.step err free ≤ r.heater ∧ r.heater ≤ r.step err free + min 111 (err.natAbs * 10 / 9))) ∧
  (∀ (s : State) (k : Nat) (seen : Int), s.loopError k seen = seen - (if s.junction k = .bypass then 800 else 0) -
    (if slotKind (k % 1344) = 0 then 10 * signed 6 (s.mring k).trims.setPoint else 0)) ∧
  (∀ (s : State) (site : Fin 12) (slot : Fin 1344) (seen err : Int) (k : Nat), k = ringKey site.val slot.val → err = s.loopError k seen →
    (s.mring k).st = .locked → ((s.mring k).outside = true ∧ 400 < err.natAbs) ∨ (s.mring k).step err s.free = 0 ∨ (s.mring k).step err s.free = 16383 → Tbl.rising s.dict = true →
    ∃ t, exec (.lockInUpdate site slot seen) s = .next t ∧ Same [.rings, .freeCtr, .dict, .test, .paths, .lanes] s t ∧
      (t.mring k).st = .sweeping ∧ t.reg (okey 0x6240 1) = s.reg (okey 0x6240 1) + 1 ∧
      (∀ p ∈ pathsOfRing k, (s.pathOf p.1 p.2 (slotLane slot.val)).st = 0 → (t.pathOf p.1 p.2 (slotLane slot.val)).st = 1)) ∧
  (∀ (s : State) (site : Fin 12) (slot : Fin 1344) (h : Fin 16384) (line : Fin 16) (k : Nat), k = ringKey site.val slot.val → (s.mring k).st = .sweeping →
    ∃ t, exec (.ringLockAchieved site slot (some h) line) s = .next t ∧ Same [.rings, .lanes] s t ∧
      t.rings = Tbl.put {} s.rings k { s.mring k with st := .locked, heater := h.val, line := line.val, outside := false } ∧
      (slotKind slot.val = 0 → (s.lane site.val (slotLane slot.val)).tx = .relocking → (t.lane site.val (slotLane slot.val)).tx = .training)) ∧
  (∀ (s : State) (site : Fin 12) (slot : Fin 1344) (line : Fin 16) (k n : Nat), k = ringKey site.val slot.val → n = slotLane slot.val →
    (s.mring k).st = .sweeping → Tbl.rising s.dict = true → Tbl.rising s.paths = true →
    ∃ t, exec (.ringLockAchieved site slot none line) s = .next t ∧ Same [.dict, .fieldMap, .rings, .lanes, .paths] s t ∧
      t.reg (okey 0x6240 7) = s.reg (okey 0x6240 7) + 1 ∧
      (∀ p ∈ pathsOfRing k, (s.pathOf p.1 p.2 n).st = 1 → (t.pathOf p.1 p.2 n).fails =
        s.tb.count :: (s.pathOf p.1 p.2 n).fails.filter (fun x => decide (s.tb.count < x + 28800000))) ∧
      (∀ p ∈ pathsOfRing k, (s.pathOf p.1 p.2 n).st ≠ 1 → t.pathOf p.1 p.2 n = s.pathOf p.1 p.2 n) ∧
      ((∃ p ∈ pathsOfRing k, (t.pathOf p.1 p.2 n).st ≠ 2) → (t.mring k).st = .sweeping) ∧
      ((∀ p ∈ pathsOfRing k, (t.pathOf p.1 p.2 n).st = 2) → (t.mring k).st = .out)) ∧
  (∀ (s : State) (k : Nat), (s.mring k).st ≠ .locked →
    s.junction k = if slotKind (k % 1344) = 0 then .idle else if slotKind (k % 1344) = 1 then .drop else .turn) ∧
  (∀ (s : State) (site : Fin 12) (slot : Fin 192), (s.mring (ringKey site.val slot.val)).st = .locked →
    (s.lane site.val (slot.val / 2)).tx = .leased ∨ (s.lane site.val (slot.val / 2)).tx = .standing →
    s.junction (ringKey site.val slot.val) = if (s.lane site.val (slot.val / 2)).txGroup = slot.val % 2 then .modulate else .idle) ∧
  (∀ (s : State) (site : Fin 12) (slot : Fin 1344) (err : Int) (h : Option (Fin 16384)) (line : Fin 16), (s.mring (ringKey site.val slot.val)).st = .parked →
    exec (.lockInUpdate site slot err) s = .next s ∧ exec (.ringLockAchieved site slot h line) s = .next s)

/-- The first scheduled lane of a site in service, the ones that its temperature asks for before the others and each in
ascending order, leaves its pool where no other calibration holds it up: an idle or standing lane starts at once, a
leased one when its lease ends at the coming boundary. A lane calibration that ends well gives each locked ring of the
lane new trims, which wait for a boundary, and puts each of the lane's paths in service to training; while one trains
the calibration goes on, and without one it has ended and counts. One that fails records no trims and, as the second
within ten minutes, starts a full calibration of the region. A CalCommand is answered TYPE_MISMATCH for a bad site,
ACCESS_DENIED for a full calibration of H, NOT_READY for a parked region and BUSY for a dark or calibrating one, which
is also its status unless a commanded calibration runs; accepted, 0x01 schedules every lane of the site, 0x02 starts
the region's reset. RingSite and RingSlot take 0 to 11 and 0 to 1,343, else LENGTH_EXCEEDS. (R408, R414, R415, R416,
R417, R418, R420, R422) -/
def Obligations.CalibrationSetsTrimsLaneByLane : Prop :=
  (∀ (s : State) (site : Fin 12) (n : Fin 96), (s.lane site.val n.val).calDue = true →
    (∀ m, m < 96 → (s.lane site.val m).calDue = true →
      ((s.lane site.val n.val).calHot = true ∧ (s.lane site.val m).calHot = false) ∨ ((s.lane site.val m).calHot = (s.lane site.val n.val).calHot ∧ n.val ≤ m)) →
    (s.region site.val).st = .up → s.calFree site.val n.val = true → (s.lane site.val n.val).cal = 0 → (s.lane site.val n.val).tx ≠ .notFitted →
    (∀ b ∈ peersOf site.val, s.calBlocked site.val b = false) →
    ∃ t, exec (.laneCalibrationStart site n) s = .next t ∧ Same [.lanes] s t ∧ (t.lane site.val n.val).calDue = false ∧
      ((s.lane site.val n.val).tx = .idle ∨ (s.lane site.val n.val).tx = .standing →
        (t.lane site.val n.val).tx = .training ∧ (t.lane site.val n.val).cal = 2) ∧
      ((s.lane site.val n.val).tx = .leased →
        t.lane site.val n.val = { s.lane site.val n.val with calDue := false, calHot := false, cal := 1, ending := some 1 })) ∧
  (∀ (s : State) (site : Fin 12) (n : Fin 96) (eyes : List (Nat × Nat × Nat)) (x : Nat × Nat), (s.lane site.val n.val).cal = 2 →
    s.laneSlice site.val n.val = false → bestEye eyes = some x → Tbl.rising s.dict = true → Tbl.rising s.rings = true → Tbl.rising s.paths = true →
    ∃ t, exec (.laneCalibrationEnd site n eyes) s = .next t ∧ Same [.rings, .nvTrims, .lanes, .dict, .paths] s t ∧
      (∀ b ∈ peersOf site.val, (t.pathOf site.val b n.val).st =
        if (s.pathOf site.val b n.val).st = 0 ∧ s.pathUp site.val b = true then 1 else (s.pathOf site.val b n.val).st) ∧
      ((∃ b ∈ peersOf site.val, s.pathUp site.val b = true ∧ (t.pathOf site.val b n.val).st = 1) →
        (t.lane site.val n.val).cal = 4 ∧ t.reg (okey 0x6240 5) = s.reg (okey 0x6240 5)) ∧
      ((∀ b ∈ peersOf site.val, s.pathUp site.val b = true → (t.pathOf site.val b n.val).st ≠ 1) →
        (t.lane site.val n.val).cal = 3 ∧ (t.lane site.val n.val).calTime = s.pw.time ∧ t.reg (okey 0x6240 5) = s.reg (okey 0x6240 5) + 1) ∧
      (∀ k ∈ laneRings site.val n.val, (s.mring k).st ≠ .locked → t.mring k = s.mring k) ∧
      (∀ k ∈ laneRings site.val n.val, (s.mring k).st = .locked → (t.mring k).pending ≠ none ∧ (t.mring k).trims = (s.mring k).trims ∧
        ∀ c, (t.mring k).pending = some c → c.calHeater = (s.mring k).heater ∧ (slotKind (k % 1344) = 0 → c.setPoint = x.1 ∧ c.swing = x.2))) ∧
  (∀ (s : State) (site : Fin 12) (n : Fin 96), (s.lane site.val n.val).cal = 2 → s.laneSlice site.val n.val = false → site.val ≠ siteH →
    (∃ c ∈ (s.lane site.val n.val).calFails, s.tb.count < c + 28800000) → (s.region site.val).calRun = false →
    ∃ t, exec (.laneCalibrationEnd site n []) s = .next t ∧ (t.region site.val).calRun = true ∧ (t.region site.val).fullCal = true ∧
      (t.region site.val).st = .noticed ∧ t.nvTrims = s.nvTrims) ∧
  (∀ (s : State) (i : Instr) (v x : Nat) (st : Status), (i = .laneCalibrationCommand ∧ v = 1) ∨ (i = .fullCalibrationCommand ∧ v = 2) →
    s.reg (okey 0x6203 1) = x →
    ((11 < x ∧ st = .typeMismatch) ∨ (v = 2 ∧ x = siteH ∧ st = .accessDenied) ∨
      (x ≤ 11 ∧ (v = 1 ∨ x ≠ siteH) ∧ (s.region x).st = .parked ∧ st = .notReady) ∨
      (x ≤ 11 ∧ (v = 1 ∨ x ≠ siteH) ∧ (s.region x).st ≠ .parked ∧ ((s.region x).st ≠ .up ∨ (s.region x).calRun = true) ∧ st = .busy)) →
    ∃ t, exec i s = .next t ∧ Same [.lastStatus, .dict] s t ∧ t.lastStatus = st.code ∧
      (Tbl.rising s.dict = true → ∀ k, t.reg k = if k = okey 0x6203 3 then (if s.calCmd = [] then st.code else Status.busy.code) else s.reg k)) ∧
  (∀ (s : State) (x : Nat), s.reg (okey 0x6203 1) = x → x ≤ 11 → (s.region x).st = .up → (s.region x).calRun = false →
    (∀ n, n < 96 → (s.lane x n).cal = 0) → Tbl.rising s.dict = true → Tbl.rising s.lanes = true →
    ∃ t, exec .laneCalibrationCommand s = .next t ∧ Same [.lastStatus, .dict, .calCmd, .regions, .lanes] s t ∧ t.lastStatus = Status.ok.code ∧
      t.reg (okey 0x6203 3) = Status.busy.code ∧ t.calCmd = addOnce s.calCmd x ∧ (t.region x).calRun = true ∧
      (∀ a n, a < 12 → n < 96 → t.lane a n = if a = x then { s.lane a n with calDue := true } else s.lane a n)) ∧
  (∀ (s : State) (x : Nat), s.reg (okey 0x6203 1) = x → x ≤ 11 → x ≠ siteH → (s.region x).st = .up → (s.region x).calRun = false →
    (∀ n, n < 96 → (s.lane x n).cal = 0) → Tbl.rising s.dict = true →
    ∃ t, exec .fullCalibrationCommand s = .next t ∧ t.lastStatus = Status.ok.code ∧ t.reg (okey 0x6203 3) = Status.busy.code ∧
      t.calCmd = addOnce s.calCmd x ∧ (t.region x).calRun = true ∧ (t.region x).fullCal = true ∧ (t.region x).st = .noticed ∧ (s.test.slices = [] → t.lanes = s.lanes)) ∧
  (∀ (s : State) (sub : Fin 2) (v : Nat), Tbl.rising s.dict = true →
    ∃ t, exec (.ringSelect sub v) s = .next t ∧ Same [.lastStatus, .dict] s t ∧
      (((sub = 0 ∧ 11 < v) ∨ (sub = 1 ∧ 1343 < v)) → t.lastStatus = Status.lengthExceeds.code ∧ t.dict = s.dict) ∧
      (((sub = 0 ∧ v ≤ 11) ∨ (sub = 1 ∧ v ≤ 1343)) → t.lastStatus = Status.ok.code ∧
        ∀ k, t.reg k = if k = okey 0x6210 (sub.val + 1) then v else s.reg k))

/-- In Fault-off, and before the first step of bring-up has ended, a round does nothing. Otherwise each of the 536 sensors
has its reading, those of a die whose sideband interface is out their last one (the model's choice, log entry 61), the
round reports coolant, voltage, rail and package figures as read unless the module has gone to Fault-off, and the
count of media time stands. A die in service whose sensor, not suspect and not off its neighbours, reads 112 °C or
more in two consecutive rounds is tripped and off; a hub sensor so takes the module to Fault-off. A sensor is suspect
at its eighth consecutive round more than 6 °C from its neighbours' median and no longer at the 64th within 3 °C of
it. Two missed rounds trip every die in service that the sequencer watches, the third trip within an hour latches, and
the hub's take the module to Fault-off. ThermalTripClear takes site 0 to 11: it releases a latched die, else
NOT_READY. A die that has been in restart pending for the restart's rounds restarts at point 2 at a frame boundary,
its replies forgotten under a guard. (R623, R625, R626, R627, R630, R632, R633, R634, R635, R636, R641, Table 15-5) -/
def Obligations.HousekeepingTripsAndReports : Prop :=
  (∀ (s : State) (r : Readings), s.powerState = 5 ∨ bits (s.reg keyBootState) 27 24 = 0 → exec (.housekeepingRound r) s = .next s) ∧
  (∀ (s : State) (r : Readings), s.powerState ≠ 5 → bits (s.reg keyBootState) 27 24 ≠ 0 → Tbl.rising s.dict = true → Tbl.rising s.sensors = true →
    ∃ t, exec (.housekeepingRound r) s = .next t ∧ (t.powerState = 5 ∨ (t.tb = s.tb ∧ t.nv = s.nv ∧
      t.reg (okey 0x9131 1) = r.inlet ∧ t.reg (okey 0x9131 2) = r.outlet ∧ t.reg (okey 0x9131 3) = r.flow ∧ t.reg (okey 0x9302 0) = r.volts ∧
      (∀ i, i < 31 → t.reg (okey 0x9310 (i + 1)) = r.rails.getD i 0) ∧ (∀ i, i < 4 → t.reg (okey 0x9133 (i + 1)) = r.package.getD i 0) ∧
      (∀ i, i < 536 → (t.sensor i).reading =
        if i < 384 ∧ (s.dieOf (i / 48)).sideOut = true then (s.sensor i).reading else r.sensors.getD i (s.sensor i).reading)))) ∧
  (∀ (s : State) (r : Readings) (d i : Nat), s.powerState ≠ 5 → bits (s.reg keyBootState) 27 24 ≠ 0 → d < 8 → i ∈ dieSensors d →
    Tbl.rising s.sensors = true → Tbl.rising s.dies = true → (s.dieOf d).up = true → (s.thermal d).trip = .none → (s.dieOf d).sideOut = false →
    (s.sensor i).suspect = false → (s.sensor i).off = 0 → (s.sensor i).values ≠ [] → 896 ≤ (s.sensor i).reading →
    896 ≤ r.sensors.getD i (s.sensor i).reading →
    ∃ t, exec (.housekeepingRound r) s = .next t ∧ (t.powerState = 5 ∨ ((t.dieOf d).up = false ∧ ((t.thermal d).trip = .tripped ∨ (t.thermal d).trip = .latched)))) ∧
  (∀ (s : State) (r : Readings) (i : Nat), s.powerState ≠ 5 → bits (s.reg keyBootState) 27 24 ≠ 0 → i ∈ hubSensors → Tbl.rising s.sensors = true →
    (s.sensor i).suspect = false → (s.sensor i).off = 0 → (s.sensor i).values ≠ [] → 896 ≤ (s.sensor i).reading →
    896 ≤ r.sensors.getD i (s.sensor i).reading →
    ∃ t, exec (.housekeepingRound r) s = .next t ∧ t.powerState = 5) ∧
  (∀ (x : Sensor) (near : List Int), 3 ≤ near.length → x.suspect = false →
    x.judge near = if 96 < (2 * x.reading - median2 near).natAbs then (if 7 ≤ x.off then { x with suspect := true, off := 0, within := 0 } else { x with off := x.off + 1 })
      else { x with off := 0 }) ∧
  (∀ (x : Sensor) (near : List Int), 3 ≤ near.length → x.suspect = true →
    (x.judge near).suspect = decide (¬ ((2 * x.reading - median2 near).natAbs ≤ 48 ∧ 63 ≤ x.within))) ∧
  (∀ (s : State) (d : Fin 8), (s.dieOf d.val).up = true → (s.thermal d.val).trip = .none → Tbl.rising s.dies = true →
    ∃ t, exec (.housekeepingMissed [d] false) s = .next t ∧
      Same [.cores, .thermals, .lastStatus, .dies, .hostMem, .ports, .streams, .grants, .dict, .runs, .freeCtr, .entries, .stores, .lanes, .test, .pair, .sec, .orphans, .pw] s t ∧
      (t.dieOf d.val).up = false ∧ (t.dieOf d.val).point = 2 ∧ (∀ g ∈ t.grants, g.die ≠ d.val) ∧
      (t.thermal d.val).trip = (if 2 ≤ ((s.thermal d.val).trips.filter (fun x => decide (s.tb.count < x + 172800000))).length then .latched else .tripped)) ∧
  (∀ (s : State) (dies : List (Fin 8)), s.powerState ≠ 5 → ∃ t, exec (.housekeepingMissed dies true) s = .next t ∧ t.powerState = 5) ∧
  (∀ (s : State) (v : Nat), ∃ t, exec (.thermalTripClear v) s = .next t ∧ Same [.lastStatus, .thermals] s t ∧
    (11 < v → t.lastStatus = Status.typeMismatch.code ∧ t.thermals = s.thermals) ∧
    (v ≤ 11 → (dieAt v = none ∨ ∃ d, dieAt v = some d ∧ (s.thermal d).trip ≠ .latched) → t.lastStatus = Status.notReady.code ∧ t.thermals = s.thermals) ∧
    (∀ d, v ≤ 11 → dieAt v = some d → (s.thermal d).trip = .latched → t.lastStatus = Status.ok.code ∧
      t.thermals = Tbl.put {} s.thermals d { s.thermal d with trip := .tripped })) ∧
  (∀ (s : State) (die : Fin 8), (s.thermal die.val).trip = .pending → restartRounds ≤ (s.thermal die.val).rest →
    (s.tb.begun = false ∨ s.tb.count = s.tb.frameStart) → Tbl.rising s.dies = true →
    ∃ t, exec (.dieRestart die) s = .next t ∧ Same [.thermals, .dies, .guards, .replies, .dict] s t ∧
      t.dieOf die.val = { s.dieOf die.val with up := true, point := 2, vcore := 700 } ∧ (t.thermal die.val).trip = .none ∧ (t.thermal die.val).climb = 2 ∧
      siteOfDie die.val ∈ t.guards ∧ (∀ x ∈ t.replies, x.site ≠ siteOfDie die.val)) ∧
  (∀ (s : State) (die : Fin 8), (s.thermal die.val).trip ≠ .pending ∨ (s.thermal die.val).rest < restartRounds ∨ (s.tb.begun = true ∧ s.tb.count ≠ s.tb.frameStart) →
    exec (.dieRestart die) s = .next s)

/-- A lost oscillator is noted; when it was the one in use the synthesisers hold (2) with a sticky bit in ReferenceState,
else they go on with the other. While they hold, the hub switches to an oscillator that is present, the primary one
first; a return only makes one present. With both lost for 10 ms the module goes to Fault-off for its clock, and
ClockFault is set. A stretch adds 1/16 to 8/16 of a period of its region, never subtracts, and is counted. A sync
pulse moves the hub's time to the next multiple of 1 µs and each region's deviation by at most 1 ns towards it. (R611,
R612, R613, R615, R616, Table 15-12) -/
def Obligations.ReferenceClockHoldsAndReturns : Prop :=
  (∀ (s : State) (which : Fin 2), Tbl.rising s.dict = true →
    ∃ t, exec (.oscillatorLoss which) s = .next t ∧ Same [.pw, .dict] s t ∧
      t.pw = { s.pw with
        primary := if which = 0 then false else s.pw.primary
        secondary := if which = 0 then s.pw.secondary else false
        osc := if s.pw.osc = which.val then 2 else s.pw.osc } ∧
      (s.pw.osc = which.val → (t.reg keyOsc).testBit 27 = true) ∧ (s.pw.osc ≠ which.val → t.dict = s.dict)) ∧
  (∀ s : State, ∃ t, exec .oscillatorSwitch s = .next t ∧ Same [.pw] s t ∧ t.pw = { s.pw with
    osc := if s.pw.osc = 2 ∧ s.pw.primary = true then 0 else if s.pw.osc = 2 ∧ s.pw.secondary = true then 1 else s.pw.osc }) ∧
  (∀ (s : State) (which : Fin 2), ∃ t, exec (.oscillatorReturn which) s = .next t ∧ Same [.pw] s t ∧ t.pw = { s.pw with
    primary := if which = 0 then true else s.pw.primary
    secondary := if which = 0 then s.pw.secondary else true }) ∧
  (∀ s : State, s.pw.primary = false → s.pw.secondary = false → s.powerState ≠ 5 → Tbl.rising s.dict = true →
    ∃ t, exec .clockFault s = .next t ∧ t.powerState = 5 ∧ t.pw.fault = .clock ∧ (t.reg keyOsc).testBit 26 = true ∧ t.grants = [] ∧ t.nv = s.nv) ∧
  (∀ s : State, s.pw.primary = true ∨ s.pw.secondary = true → exec .clockFault s = .next s) ∧
  (∀ (s : State) (region : Fin 54) (n : Fin 8), Tbl.rising s.dict = true →
    ∃ t a, exec (.droopStretch region n) s = .next t ∧ Same [.pw, .dict] s t ∧
      a = Tbl.get 0 s.pw.stretch region.val + (n.val + 1) * s.clockInverse region.val ∧
      (region.val < 38 ∨ (s.chan (region.val - 38)).speed ≤ 2 → 0 < s.clockInverse region.val) ∧
      t.pw = { s.pw with stretch := Tbl.put 0 s.pw.stretch region.val a } ∧
      t.reg (okey 0x9010 (2 * region.val + 1)) = s.reg (okey 0x9010 (2 * region.val + 1)) + 1 ∧ t.reg (okey 0x9010 (2 * region.val + 2)) = divRne a 175560) ∧
  (∀ (s : State) (r : Fin 73) (d : Int), s.pw.skew = [] →
    ∃ t, exec (.syncPulse [(r, d)]) s = .next t ∧ Same [.pw] s t ∧ t.pw.time = (s.pw.time / 16000 + 1) * 16000 % 2 ^ 64 ∧
      t.pw.correction = min 16 d.natAbs ∧ Tbl.get 0 t.pw.skew r.val = (if 16 < d then d - 16 else if d < -16 then d + 16 else 0))

/-- An input below 43.0 V sets InputLow and its lower cap, and one that is restored lifts the cap. An input below 40.0 V
or above 60.0 V, or a rail fault, takes the module to Fault-off with its cause: all work, streams and lanes are gone,
and the non-volatile store, the repair map, the fuses and the image slots stay. An input restored after its own Fault-
off, a cool hub after its trip, and power applied to a module that is off or bringing itself up begin a bring-up with
step 1 ended. A bring-up command runs no step after the one that it names, none out of turn, and none of a module that
does not bring itself up. Step 2 ends when the fuses read well. A failed rail in step 5 is Fault-off; else every die
stands at point 2. Steps 6 and 10 end with the registers that report the dies, and step 11 isolates each die that
fails the known-answer pattern. Step 8 gives the 48 lowest cores of a die that the repair map does not take out the
numbers 0 to 47, in order. Step 9 ends with the hub's region in service where a seated module supplies light, and else
waits; after 60 s every region but H's is dark, H's serves, and step 9 has ended. Step 13 is in service. (R11, R50,
R605, R637, R638, R643, R648, R650, R651, R655, Table 15-10, Table 16-1) -/
def Obligations.FaultsAndBringUpFollowTheirOrder : Prop :=
  (∀ s : State, s.powerState ≠ 5 → Tbl.rising s.dict = true →
    ∃ t, exec .inputLow s = .next t ∧ Same [.pw, .dict] s t ∧ t.pw = { s.pw with low := true } ∧ (t.reg keyFlags).testBit 0 = true) ∧
  (∀ s : State, s.powerState ≠ 5 → exec .inputRestored s = .next { s with pw := { s.pw with low := false } }) ∧
  (let off := fun (c : FaultOff) (s t : State) => t.powerState = 5 ∧ t.pw.fault = c ∧ t.grants = [] ∧ t.streams = [] ∧ t.lanes = [] ∧
      t.stores = [] ∧ t.nv = s.nv ∧ t.fuseMap = s.fuseMap ∧ t.fieldMap = s.fieldMap ∧ t.nvTrims = s.nvTrims ∧ t.sec.fuses = s.sec.fuses ∧
      t.sec.slots = s.sec.slots ∧ t.sec.counters = s.sec.counters ∧ t.sec.blown = s.sec.blown ∧ t.sec.sealBits = s.sec.sealBits ∧
      t.hostMem = s.hostMem ∧ t.pending = s.pending
   (∀ s : State, s.powerState ≠ 5 → ∃ t, exec .inputUndervoltage s = .next t ∧ off .input s t) ∧
   (∀ s : State, s.powerState ≠ 5 → ∃ t, exec .inputOvervoltage s = .next t ∧ off .input s t) ∧
   (∀ s : State, s.powerState ≠ 5 → ∃ t, exec .railFault s = .next t ∧ off .rail s t)) ∧
  (let starts := fun (s t : State) => t.powerState = 0 ∧ t.bringAt = 1 ∧ t.pw.fault = .none ∧ t.grants = [] ∧ t.nv = s.nv ∧
      t.fieldMap = s.fieldMap ∧ t.sec.slots = s.sec.slots
   (∀ s : State, s.powerState = 0 ∨ s.powerState = 5 → ∃ t, exec .powerApplied s = .next t ∧ starts s t) ∧
   (∀ s : State, s.powerState = 5 → s.pw.fault = .input → ∃ t, exec .inputRestored s = .next t ∧ starts s t) ∧
   (∀ s : State, s.powerState = 5 → s.pw.fault = .hubTrip → ∃ t, exec .faultOffRestart s = .next t ∧ starts s t)) ∧
  (∀ s : State, s.powerState ≠ 0 → s.powerState ≠ 5 → exec .powerApplied s = .next s) ∧
  (∀ s : State, (s.powerState ≠ 5 ∨ s.pw.fault ≠ .hubTrip) → exec .faultOffRestart s = .next s) ∧
  (∀ (s : State) (env : BringUp), (env.upTo ≤ s.bringAt ∨ s.powerState ≠ 0 ∨ s.test.testMode = true) → exec (.bringUp env) s = .next s) ∧
  (∀ (s : State) (env : BringUp), s.powerState = 0 → s.recovering = false → s.test.testMode = false → Tbl.rising s.dict = true → env.upTo = s.bringAt + 1 →
    (s.bringAt = 1 → env.fusesOk = true → ∃ t, exec (.bringUp env) s = .next t ∧ Same [.dict] s t ∧ t.bringAt = 2) ∧
    (s.bringAt = 4 → env.railsOk = false → ∃ t, exec (.bringUp env) s = .next t ∧ t.powerState = 5 ∧ t.pw.fault = .rail) ∧
    (s.bringAt = 4 → env.railsOk = true → Tbl.rising s.dies = true → ∃ t, exec (.bringUp env) s = .next t ∧ Same [.dict, .dies, .test] s t ∧ t.bringAt = 5 ∧
      t.test.testMode = decide (s.reg (okey 0xB040 0) = 1) ∧ ∀ d, d < 8 → (t.dieOf d).point = 2 ∧ (t.dieOf d).vcore = voltage 2) ∧
    (s.bringAt = 5 → ∃ t, exec (.bringUp env) s = .next t ∧ Same [.dict, .dies, .regions] s t ∧ t.bringAt = 6) ∧
    (s.bringAt = 7 → Tbl.rising s.cores = true → Tbl.rising s.dies = true →
      ∃ t, exec (.bringUp env) s = .next t ∧ Same [.cores, .dies, .dict] s t ∧ t.bringAt = 8 ∧
      (∀ d, d < 8 → (t.dieOf d).up = !(s.dieOf d).isolated) ∧
      (∀ d m, d < 8 → m < 52 → (t.core (coreKey d m)).number =
        if MapEntry.coreOut (coreKey d m) ∈ s.fuseMap ++ s.fieldMap ∨
            48 ≤ ((List.range m).filter (fun k => decide (MapEntry.coreOut (coreKey d k) ∉ s.fuseMap ++ s.fieldMap))).length then none
        else some ((List.range m).filter (fun k => decide (MapEntry.coreOut (coreKey d k) ∉ s.fuseMap ++ s.fieldMap))).length)) ∧
    (s.bringAt = 8 → (s.region siteH).st = .locking → env.light = false → exec (.bringUp env) s = .next s) ∧
    (s.bringAt = 8 → (s.region siteH).st = .locking → env.light = true → (s.laser 0).seat = true ∨ (s.laser 1).seat = true →
      ∃ t, exec (.bringUp env) s = .next t ∧ t.bringAt = 9 ∧ (t.region siteH).st = .up ∧ t.dies = s.dies ∧ t.cores = s.cores ∧ t.stores = s.stores) ∧
    (s.bringAt = 9 → ∃ t, exec (.bringUp env) s = .next t ∧ Same [.dict] s t ∧ t.bringAt = 10) ∧
    (s.bringAt = 10 → Tbl.rising s.dies = true → ∃ t, exec (.bringUp env) s = .next t ∧ Same [.dict, .dies, .pair] s t ∧ t.bringAt = 11 ∧
      ∀ d : Fin 8, (t.dieOf d.val).isolated = ((s.dieOf d.val).isolated || decide (d ∈ env.katFail))) ∧
    (s.bringAt = 12 → ∃ t, exec (.bringUp env) s = .next t ∧ Same [.dict] s t ∧ t.powerState = 1 ∧ t.bringAt = 13)) ∧
  (∀ s : State, s.powerState = 0 → s.bringAt = 8 → (s.region siteH).st = .locking → (∀ m, m < 2 → (s.laser m).st ≠ .supplying ∧ (s.laser m).st ≠ .flagged) →
    Tbl.rising s.dict = true →
    ∃ t, exec .laserWaitTimeout s = .next t ∧ Same [.paths, .rings, .dict, .regions, .lanes] s t ∧ (t.region siteH).st = .up ∧ t.bringAt = 9 ∧
      (∀ x, x < 12 → x ≠ siteH → (t.region x).st = if (s.region x).st = .locking then .dark else (s.region x).st)) ∧
  (∀ s : State, (s.laser 0).st = .supplying → exec .laserWaitTimeout s = .next s)

/-- A PowerCommand is answered NOT_READY for an entry outside service or a wake outside retention, and BUSY for an entry
while work would be lost; nothing else changes. An accepted entry closes every session, reads BUSY, and enters
retention (2); with its frame not begun it stops dispatch at once. When dispatch has stopped, the end of the entry
puts every polder, and with no migration left every channel that serves, into self-refresh with its bytes kept,
forgets migrations and cached translations, switches every die off, leaves no laser module ramping down, and is
retention (3) with Status OK. An accepted wake (4) empties the translation caches, takes the memories out of self-
refresh with their bytes kept, clears scratch and row stores, lights the seated laser modules and puts each die that
is not isolated and has not tripped in service at point 2. It ends at a frame boundary once no region locks and no
module ramps, in service (1) with Status OK. (R644, R645, R646, R647, Table 15-10, Table 15-11) -/
def Obligations.RetentionKeepsTheMemories : Prop :=
  (∀ (s : State) (i : Instr) (st : Status), (i = .enterRetention ∧ s.powerState ≠ 1 ∧ st = .notReady) ∨ (i = .wake ∧ s.powerState ≠ 3 ∧ st = .notReady) ∨
      (i = .enterRetention ∧ s.powerState = 1 ∧ s.retentionBusy = true ∧ st = .busy) →
    ∃ t, exec i s = .next t ∧ Same [.lastStatus] s t ∧ t.lastStatus = st.code) ∧
  (∀ s : State, ((∃ e ∈ s.streams, e.2.st ≠ .closed) ∨ s.ledgerCmd ≠ none ∨ s.staging ≠ [] ∨ s.migs ≠ [] ∨ s.patCmd ≠ none ∨ s.pair.role = .active ∨
    s.pair.role = .standby) → s.retentionBusy = true) ∧
  (∀ s : State, s.powerState = 1 → s.retentionBusy = false → Tbl.rising s.dict = true →
    ∃ t, exec .enterRetention s = .next t ∧ Same [.lastStatus, .halted, .dict, .dap, .lasers, .freeCtr, .sec, .stores, .pw, .nvTrims] s t ∧
      t.lastStatus = Status.ok.code ∧ t.powerState = 2 ∧ t.reg keyPowerStatus = Status.busy.code ∧ t.dap.sessions = [] ∧
      (s.tb.begun = true → t.pw.retains = true ∧ t.halted = s.halted ∧ t.stores = s.stores) ∧ (s.tb.begun = false → t.halted = true)) ∧
  (∀ s : State, s.powerState = 2 → s.halted = true → Tbl.rising s.dict = true → Tbl.rising s.stores = true → Tbl.rising s.dies = true →
    ∃ t, exec .retentionEntryEnd s = .next t ∧ t.powerState = 3 ∧ t.reg keyPowerStatus = Status.ok.code ∧
      (∀ d, d < 8 → (t.dieOf d).up = false ∧ (t.dieOf d).vcore = 0) ∧
      (∀ u, u < 16 ∨ (u < 32 ∧ s.migs = [] ∧ s.unitServes u = true) → (t.store u).selfRefresh = true) ∧ t.migs = [] ∧ t.tlb = [] ∧
      (∀ u, u < 32 → s.migs = [] → (t.store u).mem = (s.store u).mem ∧ (t.store u).saved = (t.store u).poison) ∧
      (∀ m, m < 2 → (t.laser m).st ≠ .rampDown)) ∧
  (∀ s : State, (s.powerState ≠ 2 ∨ s.halted = false) → exec .retentionEntryEnd s = .next s) ∧
  (∀ s : State, s.powerState = 3 → Tbl.rising s.dict = true → Tbl.rising s.stores = true → Tbl.rising s.dies = true → Tbl.rising s.cores = true →
    ∃ t, exec .wake s = .next t ∧ Same [.lastStatus, .dict, .dies, .cores, .tlb, .stores, .lasers] s t ∧ t.lastStatus = Status.ok.code ∧ t.powerState = 4 ∧
      t.reg keyPowerStatus = Status.busy.code ∧ t.tlb = [] ∧
      (∀ u, (t.store u).selfRefresh = false ∧ (t.store u).mem = (s.store u).mem ∧ (t.store u).poison = (s.store u).saved) ∧
      (∀ d, d < 8 → (s.dieOf d).isolated = false → (t.dieOf d).up = !s.tripped d ∧ (t.dieOf d).point = 2) ∧
      (∀ d m, d < 8 → m < 52 → (s.dieOf d).isolated = false → (t.core (coreKey d m)).scratch = [] ∧ (t.core (coreKey d m)).rows = [] ∧ (t.core (coreKey d m)).acc = []) ∧
      (∀ m, m < 2 → (s.laser m).seat = true → ((s.laser m).st = .removable ∨ (s.laser m).st = .seated) → (t.laser m).st = .rampUp ∧ (t.laser m).enable = true)) ∧
  (∀ s : State, s.powerState = 4 → (∀ x, x < 12 → (s.region x).st ≠ .locking) → (s.laser 0).st ≠ .rampUp → (s.laser 1).st ≠ .rampUp →
    (s.tb.begun = false ∨ s.tb.count = s.tb.frameStart) → Tbl.rising s.dict = true →
    ∃ t, exec .wakeEnd s = .next t ∧ Same [.dict, .fieldMap, .halted, .stores, .ledger, .tlb, .migs, .ledgerCmd, .hub] s t ∧ t.powerState = 1 ∧ t.reg keyPowerStatus = Status.ok.code ∧ (s.test.freeze = .none → t.halted = false)) ∧
  (∀ s : State, (s.powerState ≠ 4 ∨ (s.laser 0).st = .rampUp ∨ ∃ x, x < 12 ∧ (s.region x).st = .locking) → exec .wakeEnd s = .next s)

/-- While the module is frozen, or the way of a packet is dark, its receiver discards or its bride does not exist, it is
lost and nothing changes. One that a fabric port carries and that fails its check counts at that port and does nothing
else; one on a lane counts for the Ground, and the sixteenth within 1 ms takes its path out of service. One for
another endpoint counts as misdelivered and does nothing else. A request with an opcode that Table 11-3 does not
define, with reserved bits set or with a number of lines that the table does not allow, is answered TYPE_MISMATCH
under its response opcode; on the response and the control channel, an opcode that does not belong there and a
malformed packet count as discarded. One on the pair link that fails its check or is no pair message does nothing. A
packet of another opcode than the command's does nothing. (R364, R368, R431, R434, R436, R457, R710, Table 11-3) -/
def Obligations.PacketsAreJudgedBeforeTheirEffect : Prop :=
  ∀ (s : State) (p : Packet) (op : Nat) (i : Instr),
    (op, i) ∈ [(1, Instr.read p []), (2, .write p), (3, .flag p), (4, .add32 p), (4, .and64 p), (5, .ping p), (5, .hostProcedure p), (6, .invalidate p), (7, .probe p),
      (0x21, .readresp p), (0x22, .writeack p), (0x23, .flagack p), (0x24, .atomicresp p), (0x25, .triggerresp p), (0x26, .invalack p), (0x27, .proberesp p)] →
    (s.frozen = true ∨ s.viaUp p.via = false → exec i s = .next s) ∧
    (∀ x : Fin 4, s.frozen = false → p.via = .port x → s.viaUp p.via = true → p.crcOk = false →
      ∃ t, exec i s = .next t ∧ Same [.dict] s t ∧ (Tbl.rising s.dict = true → ∀ k, t.reg k = if k = okey 0x7011 (x.val + 1) then s.reg k + 1 else s.reg k)) ∧
    (∀ (a b : Fin 12) (n : Fin 96), s.frozen = false → p.via = .lane a b n → s.viaUp p.via = true → p.crcOk = false →
      ∃ t, exec i s = .next t ∧ Same [.dict, .paths, .lanes] s t ∧ (Tbl.rising s.dict = true → t.reg (okey 0x6030 5) = s.reg (okey 0x6030 5) + 1) ∧
        ((s.pathOf a.val b.val n.val).st = 0 → (t.pathOf a.val b.val n.val).st =
          if 15 ≤ ((s.pathOf a.val b.val n.val).crcs.filter (fun x => decide (s.tb.count < x + 48))).length then 1 else 0)) ∧
    (p.viaPair = true → p.crcOk = false ∨ ¬(p.opcode = 2 ∨ p.opcode = 0x22 ∨ p.opcode = 7 ∨ p.opcode = 0x27) →
      endpointOf p.dest = 0 → endpointOf p.source = 0 → exec i s = .next s) ∧
    (s.frozen = false → s.viaUp p.via = true → p.viaPair = false → p.crcOk = true → endpointOf p.dest ≠ s.endpoint →
      ∃ t, exec i s = .next t ∧ Same [.dict] s t ∧ (Tbl.rising s.dict = true → ∀ k, t.reg k = if k = okey 0x7030 1 then s.reg k + 1 else s.reg k)) ∧
    (s.frozen = false → s.viaUp p.via = true → p.viaPair = false → p.crcOk = true → endpointOf p.dest = s.endpoint →
      (p.channel = 0 → ¬(1 ≤ p.opcode ∧ p.opcode ≤ 6) ∨ p.rsvOk = false ∨ linesOk p.opcode p.lines = false →
        ∃ t, exec i s = .next t ∧ Same [.lastResponse, .xports] s t ∧
          Answered t p (responseOp p.opcode) Status.typeMismatch.code (answerLine p.opcode [])) ∧
      (p.channel ≠ 0 → knownAnswer p.channel p.opcode = false ∨ p.rsvOk = false ∨ linesOk p.opcode p.lines = false →
        ∃ t, exec i s = .next t ∧ Same [.dict] s t ∧ (Tbl.rising s.dict = true → ∀ k, t.reg k = if k = okey 0x7030 2 then s.reg k + 1 else s.reg k))) ∧
    (Arrived s p → ((1 ≤ p.opcode ∧ p.opcode ≤ 7) ∨ (0x21 ≤ p.opcode ∧ p.opcode ≤ 0x27)) → p.opcode ≠ op → exec i s = .next s)

/-- An admitted READ answers READRESP with the bytes at its place, which stay, or UNCORRECTED where none can be read there
once the errors that it meets have taken effect. An admitted WRITE that no migration holds lands all of its bytes and
answers WRITEACK, or UNCORRECTED where they cannot land; a counted one, the first of its destination, source and
phase, also sets its StoreIndex in a new tracker entry, with BUSY where none is free. One that a migration holds joins
that migration's packets, unanswered, a counted one with its tracker entry. A FLAG with StoreCount 0 that is no Retry
and that no migration holds adds 1 to its word modulo 2^32, keeps its reply and answers FLAGACK; one that asks for
counted stores, with no entry yet, is held in a new one and answers nothing, or BUSY where none is free. A packet
whose admission fails is answered with the status of that failure, and no byte moves: ACCESS_DENIED where its unit
does not serve its space. In a core's scratch the bytes are the core's from the address that packet and unit give on.
A flag held for 2 s is dropped with its entry and counted; the guard of a restarted reply cache ends while its die is
in service. (R267, R284, R299, R438, R439, R445, R447, R449, R450, R458, R461, R464) -/
def Obligations.RemoteAccessesLandOrAreRefused : Prop :=
  (∀ (s t : State) (p : Packet) (x : Place) (errs : List MemError), Arrived s p → p.opcode = 1 →
    s.admitPacket p (packetBytes p) false .fabric none = (t, .ok x) → t.placeLost p x = false →
    (∀ b, (t.memErrors errs).readPlace p (packetBytes p) x = some b → ∃ u, exec (.read p errs) s = .next u ∧ Answered u p 0x21 0 b) ∧
    ((t.memErrors errs).readPlace p (packetBytes p) x = none → ∃ u, exec (.read p errs) s = .next u ∧ Answered u p 0x21 Status.uncorrected.code)) ∧
  (∀ (s t : State) (p : Packet) (x : Place) (b : List Byte), Arrived s p → p.opcode = 1 → s.admitPacket p (packetBytes p) false .fabric none = (t, .ok x) →
    t.placeLost p x = false → t.readPlace p (packetBytes p) x = some b →
    ∃ u, exec (.read p []) s = .next u ∧ Same [.lastResponse, .xports, .ledger, .tlb, .dict, .stores] s u ∧ Answered u p 0x21 0 b ∧ u.ledger = t.ledger ∧
      (∀ k a, x = .scratch k a → u.stores = s.stores ∧ b = rdBytes (s.core k).scratch a (packetBytes p))) ∧
  (∀ (s t : State) (p : Packet) (st : Status) (op n : Nat) (w : Bool) (c : Option Nat) (i : Instr),
    (op, n, w, c, i) ∈ [(1, packetBytes p, false, none, Instr.read p []), (2, packetBytes p, true, none, .write p), (3, 4, true, some 0, .flag p)] →
    Arrived s p → p.opcode = op → (op = 3 → p.retry = false ∧ s.inHand p.source p.seq = false) → s.admitPacket p n w .fabric c = (t, .error st) →
    ∃ u, exec i s = .next u ∧ Same [.lastResponse, .xports, .dict, .freeCtr, .test] t u ∧ u.cores = s.cores ∧
      Answered u p (op + 0x20) st.code) ∧
  (∀ (s : State) (p : Packet) (n : Nat) (w : Bool) (c : Option Nat), unitServesSpace p = false →
    s.admitPacket p n w .fabric c = (s, .error .accessDenied)) ∧
  (∀ (s t : State) (p : Packet) (x : Place), Arrived s p → p.opcode = 2 → s.admitPacket p (packetBytes p) true .fabric none = (t, .ok x) →
    t.placeLost p x = false → t.holder p x = none → p.counted = false →
    (∀ u, t.writePlace p (p.payload.take (packetBytes p)) x = some u →
      ∃ v, exec (.write p) s = .next v ∧ Same [.lastResponse, .xports] u v ∧ Answered v p 0x22 0) ∧
    (t.writePlace p (p.payload.take (packetBytes p)) x = none →
      ∃ v, exec (.write p) s = .next v ∧ Same [.lastResponse, .xports] t v ∧ Answered v p 0x22 Status.uncorrected.code)) ∧
  (∀ (s : State) (p : Packet) (k a : Nat), p.space = 1 ∨ p.space = 2 → unitServesSpace p = true → s.packetCore p = some (k, a) →
    a + packetBytes p ≤ scratchBytes → (s.core k).serves = true → (s.dieOf (k / 64)).up = true →
    s.admitPacket p (packetBytes p) true .fabric none = (s, .ok (.scratch k a)) ∧
    s.writePlace p (p.payload.take (packetBytes p)) (.scratch k a) =
      some (s.setCore k { s.core k with scratch := wrBytes (s.core k).scratch a (p.payload.take (packetBytes p)) })) ∧
  (∀ (s t : State) (p : Packet) (x : Place), Arrived s p → p.opcode = 2 → s.admitPacket p (packetBytes p) true .fabric none = (t, .ok x) →
    t.placeLost p x = false → p.counted = true → t.tracker (trackerOf p) p.source p.phase = none →
    (∀ u, t.holder p x = none → t.trackerFull (trackerOf p) = false → t.writePlace p (p.payload.take (packetBytes p)) x = some u →
      ∃ v, exec (.write p) s = .next v ∧ Same [.lastResponse, .xports, .trackers] u v ∧ Answered v p 0x22 0 ∧
        v.trackers = s.trackers ++ [{ dest := trackerOf p, source := p.source, phase := p.phase, bits := 2 ^ (p.storeIndex % 1024) }]) ∧
    (t.trackerFull (trackerOf p) = true →
      ∃ v, exec (.write p) s = .next v ∧ Same [.lastResponse, .xports] t v ∧ Answered v p 0x22 Status.busy.code)) ∧
  (∀ (s t : State) (p : Packet) (x : Place) (m : Migration), Arrived s p → p.opcode = 2 → s.admitPacket p (packetBytes p) true .fabric none = (t, .ok x) →
    t.placeLost p x = false → t.holder p x = some m →
    (p.counted = true → t.tracker (trackerOf p) p.source p.phase = none ∧ t.trackerFull (trackerOf p) = false) →
    exec (.write p) s = .next { t with
      trackers := if p.counted then s.trackers ++ [{ dest := trackerOf p, source := p.source, phase := p.phase }] else s.trackers
      migs := s.migs.map (fun y => if y.index = m.index then
        { y with writes := y.writes ++ [{ packet := p, guest := false, place := x, epoch := s.epoch, checked := s.hub.raises }] } else y) }) ∧
  (∀ (s t u : State) (p : Packet) (x : Place) (b : List Byte), Arrived s p → p.opcode = 3 → p.storeCount = 0 → p.retry = false →
    s.admitPacket p 4 true .fabric (some 0) = (t, .ok x) → t.placeLost p x = false → s.inHand p.source p.seq = false → t.holder p x = none →
    t.cacheFull (t.placeSite p x) = false →
    t.readPlace p 4 x = some b → t.writePlace p (leBytes 4 (leNat b + 1)) x = some u →
    ∃ v, exec (.flag p) s = .next v ∧ Same [.replies, .lastResponse, .xports] u v ∧ v.trackers = s.trackers ∧ Answered v p 0x23 0 ∧
      (∃ r ∈ v.replies, r.site = t.placeSite p x ∧ r.source = p.source ∧ r.seq = p.seq ∧ r.status = 0)) ∧
  (∀ (s t : State) (p : Packet) (x : Place), Arrived s p → p.opcode = 3 → p.storeCount ≠ 0 → p.retry = false →
    s.admitPacket p 4 true .fabric (some 0) = (t, .ok x) → t.placeLost p x = false → s.inHand p.source p.seq = false →
    t.cacheFull (t.placeSite p x) = false → t.tracker (trackerOf p) p.source p.phase = none →
    (t.trackerFull (trackerOf p) = false →
      exec (.flag p) s = .next { t with trackers := s.trackers ++ [{
        dest := trackerOf p, source := p.source, phase := p.phase
        flag := some { packet := p, guest := false, place := x, epoch := s.epoch, checked := s.hub.raises } }] }) ∧
    (t.trackerFull (trackerOf p) = true →
      ∃ v, exec (.flag p) s = .next v ∧ Same [.lastResponse, .xports] t v ∧ Answered v p 0x23 Status.busy.code)) ∧
  (∀ (s : State) (dest : Fin 4096) (source : Nat) (phase : Fin 4) (y : Tracker), s.tracker dest.val source phase.val = some y → y.flag ≠ none →
    ∃ t, exec (.flagEntryTimeout dest source phase) s = .next t ∧ Same [.trackers, .dict] s t ∧
      t.trackers = s.trackers.filter (fun z => !(decide (z.dest = dest.val) && decide (z.source = source) && decide (z.phase = phase.val))) ∧
      (Tbl.rising s.dict = true → t.reg (okey 0x7030 5) = s.reg (okey 0x7030 5) + 1)) ∧
  (∀ (s : State) (site : Fin 12), (∀ d, dieAt site.val = some d → (s.dieOf d).up = true ∧ (s.dieOf d).isolated = false) →
    exec (.replyCacheGuardEnd site) s = .next { s with guards := s.guards.filter (fun x => decide (x ≠ site.val)) })

/-- An admitted ATOMIC that no migration holds changes its word of 4 or 8 bytes to the value of Table 11-6, answers
ATOMICRESP with the old value in the first 8 bytes of its line, and keeps that reply. It does so as a first sending
where its cache is not full, else it answers BUSY; and as a Retry whose reply no cache keeps, unless it is older than
63.8 ms or the cache guards a restart: then it is answered UNKNOWN_OUTCOME, and counted. A Retry whose reply is kept
is answered with it and changes nothing, but UNKNOWN_OUTCOME where that cache guards a restart, and unanswered where
the way to it is lost. One still in hand does nothing. A reserved operation code is answered TYPE_MISMATCH. The row of
another operation does nothing. The new values: sum and operand A, A, B where the word equals A, unsigned maximum and
minimum, bitwise or and and, with the operands reduced to the word's width. (R436, R458, R459, R460, R461, R463, R464,
R465, Table 11-6) -/
def Obligations.AtomicsReturnTheOldValueOnce : Prop :=
  (∀ (s : State) (p : Packet) (op : Nat) (i : Instr),
    (op, i) ∈ [(0, Instr.add32 p), (1, .add64 p), (2, .swap32 p), (3, .swap64 p), (4, .cas32 p), (5, .cas64 p), (6, .umax32 p), (7, .umax64 p), (8, .umin32 p),
      (9, .umin64 p), (10, .or32 p), (11, .or64 p), (12, .and32 p), (13, .and64 p)] → Arrived s p → p.opcode = 4 →
    (p.aux ≤ 13 → p.aux ≠ op → exec i s = .next s) ∧
    (13 < p.aux → ∃ v, exec i s = .next v ∧ Same [.lastResponse, .xports] s v ∧ Answered v p 0x24 Status.typeMismatch.code (List.replicate 64 0)) ∧
    (p.aux = op → s.inHand p.source p.seq = true → exec i s = .next s) ∧
    (∀ r, p.aux = op → s.inHand p.source p.seq = false → p.retry = true →
      s.replies.find? (fun x => decide (x.source = p.source) && decide (x.seq = p.seq)) = some r →
      (s.hubLost r.site = true → exec i s = .next s) ∧
      (s.hubLost r.site = false → r.site ∉ s.guards → ∃ v, exec i s = .next v ∧ Same [.lastResponse, .xports] s v ∧ Answered v p 0x24 r.status r.line) ∧
      (s.hubLost r.site = false → r.site ∈ s.guards → ∃ v, exec i s = .next v ∧ Same [.lastResponse, .xports, .dict] s v ∧
        v.reg (okey 0x7030 7) = s.reg (okey 0x7030 7) + 1 ∧ Answered v p 0x24 Status.unknownOutcome.code (List.replicate 64 0))) ∧
    (∀ (t : State) (x : Place), p.aux = op → s.inHand p.source p.seq = false →
      (p.retry = true → ∀ r ∈ s.replies, r.source = p.source → r.seq ≠ p.seq) →
      s.admitPacket p (atomicWidth op) true .fabric (some 0) = (t, .ok x) → t.placeLost p x = false →
      (∀ (u : State) (b : List Byte), (p.retry = false → t.cacheFull (t.placeSite p x) = false) →
        (p.retry = true → leNat ((p.payload.drop 16).take 2) ≤ 63800 ∧ t.placeSite p x ∉ t.guards) →
        t.holder p x = none → t.readPlace p (atomicWidth op) x = some b →
        t.writePlace p (leBytes (atomicWidth op) (atomicNew op (leNat b) (leNat (p.payload.take 8)) (leNat ((p.payload.drop 8).take 8)))) x = some u →
        ∃ v, exec i s = .next v ∧ Same [.lastResponse, .xports, .replies] u v ∧ Answered v p 0x24 0 (leBytes 8 (leNat b) ++ List.replicate 56 0) ∧
          { site := t.placeSite p x, source := p.source, seq := p.seq, status := 0, line := leBytes 8 (leNat b) ++ List.replicate 56 0, tick := s.tb.count } ∈ v.replies) ∧
      (p.retry = true → (63800 < leNat ((p.payload.drop 16).take 2) ∨ t.placeSite p x ∈ t.guards) →
        ∃ v, exec i s = .next v ∧ Same [.lastResponse, .xports, .dict] t v ∧
          v.reg (okey 0x7030 7) = t.reg (okey 0x7030 7) + 1 ∧ Answered v p 0x24 Status.unknownOutcome.code (List.replicate 64 0)) ∧
      (p.retry = false → t.cacheFull (t.placeSite p x) = true →
        ∃ v, exec i s = .next v ∧ Same [.lastResponse, .xports] t v ∧ Answered v p 0x24 Status.busy.code (List.replicate 64 0)))) ∧
  (∀ old a b : Nat, old < 2 ^ 32 →
    atomicNew 0 old a b = (old + a) % 2 ^ 32 ∧ atomicNew 2 old a b = a % 2 ^ 32 ∧ atomicNew 4 old a b = (if old = a % 2 ^ 32 then b % 2 ^ 32 else old) ∧
    atomicNew 6 old a b = max old (a % 2 ^ 32) ∧ atomicNew 8 old a b = min old (a % 2 ^ 32) ∧ atomicNew 10 old a b = old ||| (a % 2 ^ 32) ∧
    atomicNew 12 old a b = old &&& (a % 2 ^ 32)) ∧
  (∀ old a b : Nat, old < 2 ^ 64 → a < 2 ^ 64 → b < 2 ^ 64 →
    atomicNew 1 old a b = (old + a) % 2 ^ 64 ∧ atomicNew 3 old a b = a ∧ atomicNew 5 old a b = (if old = a then b else old) ∧ atomicNew 7 old a b = max old a ∧
    atomicNew 9 old a b = min old a ∧ atomicNew 11 old a b = old ||| a ∧ atomicNew 13 old a b = old &&& a) ∧
  (∀ op, atomicWidth op = if op % 2 = 0 then 4 else 8)

/-- A PROBE of a counted store answers 1 where some entry holds its StoreIndex, of a flag or atomic that a tracker or a
migration holds 2, of a kept reply 1 with its status and line, else 0; nothing else changes. An INVALIDATE from a
sender without its right is ACCESS_DENIED, and from another drops the cached lines of its range. A TRIGGER other than
PING from a sender without its right is ACCESS_DENIED and counted. One that is no Retry, is not in hand and has no
kept reply takes effect: PING returns endpoint, claim, frame and tick. RAISE_FENCE raises a floor or leaves a higher
one, and returns the floor in force, at once unless writes checked before that raise, or before an earlier one of this
fence that still waits, have to land: then it waits for them. FLUSH_LINE_CACHE empties the line cache, and no GET
under way fills it. A host procedure is TYPE_MISMATCH where the table selects no port, NOT_READY on a port that takes
none, BUSY without a slot, else a trigger slot and OK; only BUSY leaves no kept reply. LineCacheFlush takes 1 alone. A
claim fence's base and length are multiples of 64 KiB, and its floor only rises; the write that raises it reads BUSY
while such writes have to land (the model's choice, log entry 66). (R453, R467, R468, R469, R473, R474, R476, R478,
R479, Table 11-5, Table 11-8, Table 11-13) -/
def Obligations.TriggersProbesAndInvalidationsAreAnswered : Prop :=
  (∀ (s : State) (p : Packet) (a st : Nat) (l : List Byte), Arrived s p → p.opcode = 7 →
    ((p.counted = true ∧ st = 0 ∧ l = [] ∧ a = (if ∃ y ∈ s.trackers, y.source = p.source ∧ y.phase = p.phase ∧
        bits y.bits (p.storeIndex % 1024) (p.storeIndex % 1024) = 1 then 1 else 0)) ∨
      (p.counted = false ∧ a = 2 ∧ st = 0 ∧ l = [] ∧ ∃ y ∈ s.trackers, ∃ f, y.flag = some f ∧ f.packet.source = p.source ∧ f.packet.seq = p.seq) ∨
      (p.counted = false ∧ a = 2 ∧ st = 0 ∧ l = [] ∧
        ∃ m ∈ s.migs, ∃ h ∈ m.writes, h.packet.opcode ≠ 2 ∧ h.packet.source = p.source ∧ h.packet.seq = p.seq) ∨
      (p.counted = false ∧ (∀ y ∈ s.trackers, y.flag = none) ∧ (∀ m ∈ s.migs, m.writes = []) ∧ s.hub.fences = [] ∧ a = 1 ∧
        ∃ r, s.replies.find? (fun r => decide (r.source = p.source) && decide (r.seq = p.seq)) = some r ∧ st = r.status ∧ l = r.line) ∨
      (p.counted = false ∧ (∀ y ∈ s.trackers, y.flag = none) ∧ (∀ m ∈ s.migs, m.writes = []) ∧ s.hub.fences = [] ∧ a = 0 ∧ st = 0 ∧ l = [] ∧
        ∀ r ∈ s.replies, r.source = p.source → r.seq ≠ p.seq)) →
    ∃ t, exec (.probe p) s = .next t ∧ Same [.lastResponse, .xports] s t ∧ Answered t p 0x27 st l a) ∧
  (∀ (s : State) (p : Packet), Arrived s p → p.opcode = 6 → bits (s.senderMask (endpointOf p.source)) 63 63 ≠ 1 →
    ∃ t, exec (.invalidate p) s = .next t ∧ Same [.lastResponse, .xports] s t ∧ Answered t p 0x26 Status.accessDenied.code) ∧
  (∀ (s : State) (p : Packet) (a n : Nat), Arrived s p → p.opcode = 6 → bits (s.senderMask (endpointOf p.source)) 63 63 = 1 →
    a = leNat (p.payload.take 8) → n = leNat ((p.payload.drop 8).take 8) → n % 64 = 0 → (∀ b ∈ (p.payload.drop 16).take 48, b = 0) →
    ∃ t, exec (.invalidate p) s = .next t ∧ Same [.lineCache, .requests, .lastResponse, .xports] s t ∧ Answered t p 0x26 0 ∧
      t.requests = s.requests.map (fun r => if endpointOf r.dest = endpointOf p.source ∧ r.address / 64 * 64 < a + n ∧ a / 64 * 64 < r.address + r.size then
        { r with fills := false } else r) ∧
      (∀ c, c ∈ t.lineCache ↔ c ∈ s.lineCache ∧ ∀ l ∈ linesOf a n, c.1 ≠ endpointOf p.source * 2 ^ 42 + l)) ∧
  (∀ (s : State) (p : Packet) (i : Instr), (p.aux, i) ∈ [(1, Instr.raiseFence p), (2, .flushLineCache p)] ∨ (3 ≤ p.aux ∧ i = .hostProcedure p) →
    Arrived s p → p.opcode = 5 → s.triggerOk p = false → s.inHand p.source p.seq = false → p.retry = false →
    ∃ t, exec i s = .next t ∧ Same [.dict, .lastResponse, .xports] s t ∧ Answered t p 0x25 Status.accessDenied.code (List.replicate 64 0) ∧
      (Tbl.rising s.dict = true → t.reg (okey 0x7030 6) = s.reg (okey 0x7030 6) + 1)) ∧
  (∀ (s : State) (p : Packet), Arrived s p → p.opcode = 5 → p.aux = 0 → FreshTrigger s p →
    ∃ t, exec (.ping p) s = .next t ∧ Same [.replies, .lastResponse, .xports] s t ∧
      Answered t p 0x25 0 (leBytes 4 s.endpoint ++ leBytes 4 s.claim ++ leBytes 8 s.tb.frame ++ leBytes 8 s.tb.count ++ List.replicate 40 0)) ∧
  (∀ (s : State) (p : Packet) (f floor : Nat), Arrived s p → p.opcode = 5 → p.aux = 1 → s.triggerOk p = true → FreshTrigger s p →
    f = leNat (p.payload.take 1) → f ≤ 15 → floor = leNat ((p.payload.drop 4).take 4) → Tbl.rising s.dict = true →
    ∃ t, exec (.raiseFence p) s = .next t ∧ Same [.replies, .lastResponse, .xports, .dict, .nv, .hub] s t ∧
      t.reg (okey 0x7300 (3 * f + 3)) = max (s.reg (okey 0x7300 (3 * f + 3))) floor ∧ (∀ k, k ≠ okey 0x7300 (3 * f + 3) → t.reg k = s.reg k) ∧
      t.hub.raises = s.hub.raises + (if s.reg (okey 0x7300 (3 * f + 3)) < floor then 1 else 0) ∧
      ((if s.reg (okey 0x7300 (3 * f + 3)) < floor then s.fenceWaits (s.hub.raises + 1) = false else ∀ x ∈ s.hub.fences, x.1 ≠ f) →
        t.hub.fences = s.hub.fences ∧ Answered t p 0x25 0 (leBytes 4 0 ++ leBytes 4 (max (s.reg (okey 0x7300 (3 * f + 3))) floor) ++ List.replicate 56 0)) ∧
      (s.reg (okey 0x7300 (3 * f + 3)) < floor → s.fenceWaits (s.hub.raises + 1) = true →
        t.lastResponse = s.lastResponse ∧ t.hub.fences = s.hub.fences ++ [(f, s.hub.raises + 1, .trigger p)]) ∧
      (¬ s.reg (okey 0x7300 (3 * f + 3)) < floor → ∀ x, s.hub.fences.find? (fun y => decide (y.1 = f)) = some x →
        t.lastResponse = s.lastResponse ∧ t.hub.fences = s.hub.fences ++ [(f, x.2.1, .trigger p)])) ∧
  (∀ (s : State) (p : Packet), Arrived s p → p.opcode = 5 → p.aux = 2 → s.triggerOk p = true → FreshTrigger s p →
    ∃ t, exec (.flushLineCache p) s = .next t ∧ Same [.replies, .lastResponse, .xports, .lineCache, .requests] s t ∧ t.lineCache = [] ∧ (∀ r ∈ t.requests, r.fills = false) ∧
      Answered t p 0x25 0 (List.replicate 64 0)) ∧
  (∀ (s : State) (p : Packet) (sel r : Nat) (st : Status), Arrived s p → p.opcode = 5 → 3 ≤ p.aux → s.triggerOk p = true → FreshTrigger s p →
    sel = s.reg (okey 0x7200 (p.aux + 1)) → r = bits (s.port (sel - 1)).control 9 4 →
    (((p.aux < 16 ∨ 62 < p.aux ∨ sel = 0 ∨ 2 < sel) ∧ st = .typeMismatch) ∨
      (16 ≤ p.aux ∧ p.aux ≤ 62 ∧ (sel = 1 ∨ sel = 2) ∧ ((s.port (sel - 1)).st ≠ .up ∨ bits (s.port (sel - 1)).control 10 10 = 0 ∨
        ((s.port (sel - 1)).ring r).enable = false) ∧ st = .notReady) ∨
      (16 ≤ p.aux ∧ p.aux ≤ 62 ∧ (sel = 1 ∨ sel = 2) ∧ (s.port (sel - 1)).st = .up ∧ bits (s.port (sel - 1)).control 10 10 = 1 ∧
        ((s.port (sel - 1)).ring r).enable = true ∧ ((s.port (sel - 1)).ring r).lost = 0 ∧ 80 ≤ ((s.port (sel - 1)).ring r).slotSize ∧
        st = (if ((s.port (sel - 1)).ring r).free = 0 then .busy else .ok))) →
    ∃ t, exec (.hostProcedure p) s = .next t ∧ Same [.replies, .lastResponse, .xports, .ports, .freeCtr, .test] s t ∧ Answered t p 0x25 st.code (List.replicate 64 0) ∧
      (st ≠ .ok → t.ports = s.ports) ∧
      (st = .ok → ((t.port (sel - 1)).ring r).producer = (((s.port (sel - 1)).ring r).producer + 1) % 2 ^ 32) ∧ (st = .busy → t.replies = s.replies)) ∧
  (∀ (s : State) (v : Nat), exec (.lineCacheFlush v) s = .next (if v = 1 then
      { s with lineCache := [], requests := s.requests.map (fun r => { r with fills := false }), lastStatus := Status.ok.code }
    else { s with lastStatus := Status.typeMismatch.code })) ∧
  (∀ (s : State) (sub : Fin 48) (v f : Nat), f = (sub.val + 1) / 3 - 1 → Tbl.rising s.dict = true →
    ∃ t, exec (.claimFenceWrite sub v) s = .next t ∧ Same [.dict, .nv, .lastStatus, .hub] s t ∧
    t.lastStatus = (if (sub.val + 1) % 3 ≠ 0 then (if v % 2 ^ 16 = 0 then Status.ok.code else Status.badAlign.code)
      else if v ≤ s.reg (okey 0x7300 (sub.val + 1)) then Status.stale.code
      else if s.fenceWaits (s.hub.raises + 1) then Status.busy.code else Status.ok.code) ∧
    t.hub.fences = s.hub.fences ++ (if t.lastStatus = Status.busy.code then [(f, s.hub.raises + 1, .writer)] else []) ∧
    (∀ k, t.reg k = if k = okey 0x7300 (sub.val + 1) ∧ (t.lastStatus = Status.ok.code ∨ t.lastStatus = Status.busy.code) then v else s.reg k))

/-- A response that concerns no open request of its opcode, or comes over a way that the hub has lost, does nothing. BUSY
marks the request for its resend after 2 us; EPOCH_MISMATCH on another request than an atomic puts it under the active
Epoch and resends it, or leaves it to the region-up where a dark notice holds its path; any other outcome is the
request's answer: a good READ's lines may enter the line cache, a WRITE's may make flags due, and a trigger's request
then ends: a PING's answer goes to the takeover that asked, or makes an active unit with a lower claim step down. A
PROBERESP of NOT_SEEN marks a flag, an atomic and a trigger as Retry and resends the request, unless its path is held;
APPLIED is taken as the response; IN_PROGRESS restarts its timer. A timeout sends and counts a probe, or with
ProbeLimit probes unanswered abandons the request with NOT_READY; it does nothing while the request is answered or
waits for a resend, the module is stopped or a dark notice holds its path. A resend is counted and keeps the Sequence,
and an atomic's carries its Age. (R209, R385, R439, R446, R449, R451, R452, R454, R455, R459, R466, R497) -/
def Obligations.ResponsesSettleTheirRequests : Prop :=
  (∀ (s : State) (p : Packet) (op : Nat) (i : Instr),
    (op, i) ∈ [(0x21, Instr.readresp p), (0x22, .writeack p), (0x23, .flagack p), (0x24, .atomicresp p), (0x25, .triggerresp p), (0x26, .invalack p), (0x27, .proberesp p)] →
    Arrived s p → p.opcode = op →
    ((∀ q, s.request (p.dest % 2 ^ 12) p.seq = some q → q.answer ≠ none ∨ (op ≠ 0x27 ∧ responseOp q.opcode ≠ op) ∨ s.answerLost p = true) → exec i s = .next s) ∧
    (∀ q, s.request (p.dest % 2 ^ 12) p.seq = some q → q.answer = none → responseOp q.opcode = op ∨ (op = 0x27 ∧ p.aux = 1) → s.answerLost p = false →
      (p.status = Status.busy.code → ∃ t, exec i s = .next t ∧ Same [.requests] s t ∧ t.request q.source q.seq = some { q with busy := true, probes := 0 }) ∧
      (p.status = Status.epochMismatch.code → q.opcode ≠ 4 →
        ∃ t, exec i s = .next t ∧ Same [.requests, .xports, .dict, .freeCtr, .test] s t ∧
          t.request q.source q.seq = some { q with epoch := s.activeEpoch, probes := 0 } ∧
          (Tbl.rising s.dict = true → t.reg (okey 0x7030 4) = s.reg (okey 0x7030 4) + (if s.reqHeld q = true then 0 else 1)) ∧
          (s.reqHeld q = true → t.xports = s.xports)) ∧
      (p.status ≠ Status.busy.code → (p.status ≠ Status.epochMismatch.code ∨ q.opcode = 4) → q.opcode ≠ 2 → q.opcode ≠ 5 →
        ∃ t, exec i s = .next t ∧ Same [.requests, .freeCtr, .test, .lineCache] s t ∧
          t.request q.source q.seq = some { q with answer := some (p.status, p.payload), probes := 0 } ∧
          t.lineCache = if q.opcode = 1 ∧ p.status = 0 ∧ q.fills = true ∧ endpointOf q.dest ≠ s.endpoint then
            (s.fillCache (endpointOf q.dest) q.address (p.payload.take q.size)).lineCache else s.lineCache) ∧
      (p.status ≠ Status.busy.code → p.status ≠ Status.epochMismatch.code → q.opcode = 2 →
        ∃ t, exec i s = .next (t.flagsDue q.source) ∧ Same [.requests, .freeCtr, .test] s t ∧
          t.request q.source q.seq = some { q with answer := some (p.status, p.payload), probes := 0 }) ∧
      (p.status ≠ Status.busy.code → p.status ≠ Status.epochMismatch.code → q.opcode = 5 →
        ∃ t, exec i s = .next t ∧ Same [.requests, .freeCtr, .test, .pair] s t ∧ t.request q.source q.seq = none ∧
          t.pair = if q.aux = 0 ∧ s.pair.pinging = true then
            { s.pair with pong := some (leNat ((p.payload.drop 4).take 4), leNat ((p.payload.drop 8).take 8)) }
            else if q.aux = 0 ∧ s.pair.role = .active ∧ s.claim < leNat ((p.payload.drop 4).take 4) then { s.pair with steps := true } else s.pair))) ∧
  (∀ (s : State) (p : Packet) (q : Request), Arrived s p → p.opcode = 0x27 →
    s.request (p.dest % 2 ^ 12) p.seq = some q → q.answer = none → s.answerLost p = false →
      (p.aux = 0 → s.reqHeld q = false → ∃ t, exec (.proberesp p) s = .next t ∧ Same [.requests, .xports, .dict, .freeCtr, .test] s t ∧
        t.request q.source q.seq = some { q with
          probes := 0, multicast := false, retry := q.retry || decide (q.opcode = 3) || decide (q.opcode = 4) || decide (q.opcode = 5)
          payload := if q.opcode = 4 then q.payload.take 16 ++ leBytes 2 (s.age q) ++ q.payload.drop 18 else q.payload } ∧
        (Tbl.rising s.dict = true → t.reg (okey 0x7030 4) = s.reg (okey 0x7030 4) + 1)) ∧
      (p.aux = 0 → s.reqHeld q = true → ∃ t, exec (.proberesp p) s = .next t ∧ Same [.requests] s t ∧
        t.request q.source q.seq = some { q with
          probes := 0, multicast := false, retry := q.retry || decide (q.opcode = 3) || decide (q.opcode = 4) || decide (q.opcode = 5) }) ∧
      (2 ≤ p.aux → ∃ t, exec (.proberesp p) s = .next t ∧ Same [.requests] s t ∧ t.request q.source q.seq = some { q with probes := 0 })) ∧
  (∀ (s : State) (source seq : Nat), source ≠ pairUnit →
    (s.request source seq = none → exec (.responseTimeout source seq) s = .next s ∧ exec (.busyResend source seq) s = .next s) ∧
    (∀ q, s.request source seq = some q →
      (q.answer ≠ none ∨ q.busy = true ∨ s.stopped = true ∨ s.reqHeld q = true → exec (.responseTimeout source seq) s = .next s) ∧
      (q.answer = none → q.busy = false → s.stopped = false → s.reqHeld q = false →
        (s.reg (okey 0x7020 3) ≤ q.probes → ∃ t, exec (.responseTimeout source seq) s = .next t ∧ Same [.requests] s t ∧
          t.request source seq = if q.opcode = 5 then none else some { q with answer := some (Status.notReady.code, []) }) ∧
        (q.probes < s.reg (okey 0x7020 3) → ∃ t, exec (.responseTimeout source seq) s = .next t ∧ Same [.requests, .xports, .dict, .freeCtr, .test] s t ∧
          t.request source seq = some { q with probes := q.probes + 1 } ∧
          (Tbl.rising s.dict = true → t.reg (okey 0x7030 3) = s.reg (okey 0x7030 3) + 1))) ∧
      (q.busy = false ∨ s.stopped = true ∨ s.reqHeld q = true → exec (.busyResend source seq) s = .next s) ∧
      (q.busy = true → s.stopped = false → s.reqHeld q = false →
        ∃ t, exec (.busyResend source seq) s = .next t ∧ Same [.requests, .xports, .dict, .freeCtr, .test] s t ∧
        t.request source seq = some { q with
          busy := false, payload := if q.opcode = 4 then q.payload.take 16 ++ leBytes 2 (s.age q) ++ q.payload.drop 18 else q.payload } ∧ (Tbl.rising s.dict = true → t.reg (okey 0x7030 4) = s.reg (okey 0x7030 4) + 1))))

/-- While a load runs or an old version is held, both route commands are answered BUSY. A load answers OK, RouteStatus
reads BUSY, and at its end shows the outcome; a good image of 32 KiB then stands in the inactive version, the other
one stays. A switch changes ActiveEpoch and holds the old version, which is free once none of its requests is open, or
at the late timer, counted with the requests left. A packet's port serves, is Valid, and has the lowest Cost, then the
fewest bytes queued, then the lowest number; a port serves an input to the end of its turn and then another with a
packet for its weight. A port lane trains while region F and its firmware run. A guest's packet over its lane to H is
lost when the guest is absent, its path dark, its lane discarding or the module frozen; one that fails its check
counts; one beyond the guest's rate, a READ also where what goes out to the guest is beyond it, waits and counts its
bytes; of the others, reads, writes and flags for polder space act under the guest's own SourceId and the module's
claim, a reply counts where a core's request awaits it, a malformed one of those is TYPE_MISMATCH, and any other
packet is counted and answered ACCESS_DENIED; what is answered at once is charged to the way out. Window bases and
limits are multiples of 64 that stay in the space. (R368, R377, R378, R380, R381, R457, R481, R483, R486, R487, R490,
Table 11-9) -/
def Obligations.RoutesAndGuestWindowsAreKept : Prop :=
  (∀ (s : State), s.hub.oldRoute = true ∨ s.routeLoad ≠ none →
    exec .routeLoad s = .next { s with lastStatus := Status.busy.code } ∧ exec .routeSwitch s = .next { s with lastStatus := Status.busy.code }) ∧
  (∀ (s : State), s.hub.oldRoute = false → s.routeLoad = none →
    (∃ t, exec .routeLoad s = .next t ∧ Same [.routeLoad, .dict, .lastStatus, .stores] s t ∧ t.lastStatus = 0 ∧
      (∀ b, s.tierFetch (s.reg (okey 0x7100 1)) 32768 = .ok b → t.routeLoad = some (0, b)) ∧
      (∀ st, s.tierFetch (s.reg (okey 0x7100 1)) 32768 = .error st → t.routeLoad = some (st.code, [])) ∧
      (Tbl.rising s.dict = true → ∀ k, t.reg k = if k = okey 0x7100 3 then Status.busy.code else s.reg k)) ∧
    (∃ t, exec .routeSwitch s = .next t ∧ Same [.hub, .dict, .lastStatus, .test, .freeCtr] s t ∧ t.lastStatus = 0 ∧ t.hub = { s.hub with oldRoute := true } ∧
      (Tbl.rising s.dict = true → t.reg (okey 0x7100 4) = 1 - s.reg (okey 0x7100 4) ∧ t.reg (okey 0x7100 3) = 0))) ∧
  (∀ (s : State), s.routeLoad = none → exec .routeLoadEnd s = .next s) ∧
  (∀ (s : State) (st : Nat) (b : List Byte), s.routeLoad = some (st, b) →
    ∃ t, exec .routeLoadEnd s = .next t ∧ Same [.routeLoad, .dict, .routes] s t ∧ t.routeLoad = none ∧ (st ≠ 0 → t.routes = s.routes) ∧
      (Tbl.rising s.dict = true → ∀ k, t.reg k = if k = okey 0x7100 3 then st else s.reg k) ∧
      (st = 0 → b.length = 32768 → Tbl.rising s.routes = true →
        (∀ n, n < 2 ^ 14 → Tbl.get 0 t.routes ((1 - s.activeEpoch) * 2 ^ 14 + n) =
          bits (leNat ((b.drop (2 * n)).take 2)) 15 15 * 2 ^ 15 + bits (leNat ((b.drop (2 * n)).take 2)) 7 0) ∧
        (∀ k, (k < (1 - s.activeEpoch) * 2 ^ 14 ∨ (1 - s.activeEpoch) * 2 ^ 14 + 2 ^ 14 ≤ k) → Tbl.get 0 t.routes k = Tbl.get 0 s.routes k))) ∧
  (∀ (s : State) (late : Bool),
    (s.hub.oldRoute = false → exec (.epochFree late) s = .next s) ∧
    (s.hub.oldRoute = true → (∀ r ∈ s.requests, r.answer ≠ none ∨ r.epoch ≠ 1 - s.activeEpoch ∨ endpointOf r.dest = s.endpoint) →
      exec (.epochFree late) s = .next { s with hub := { s.hub with oldRoute := false } }) ∧
    (s.hub.oldRoute = true → (∃ r ∈ s.requests, r.answer = none ∧ r.epoch = 1 - s.activeEpoch ∧ endpointOf r.dest ≠ s.endpoint) →
      if late then ∃ t, exec (.epochFree late) s = .next t ∧ Same [.hub, .dict] s t ∧
          t.hub = { s.hub with oldRoute := false, stuck := s.hub.stuck ++ [s.outstanding (1 - s.activeEpoch)] } ∧
          (Tbl.rising s.dict = true → t.reg (okey 0x7100 7) = s.reg (okey 0x7100 7) + 1)
      else exec (.epochFree late) s = .next s)) ∧
  (∀ (s : State) (endpoint epoch x y : Nat), s.exitPort endpoint epoch = some x → y < 4 → s.portServes y = true →
    bits (Tbl.get 0 s.routes (epoch * 2 ^ 14 + y * 4096 + endpoint)) 15 15 = 1 → (∀ z, z < 4 → (s.xport z).queued < 2 ^ 64) →
    s.portServes x = true ∧ bits (Tbl.get 0 s.routes (epoch * 2 ^ 14 + x * 4096 + endpoint)) 15 15 = 1 ∧
    (bits (Tbl.get 0 s.routes (epoch * 2 ^ 14 + x * 4096 + endpoint)) 7 0 < bits (Tbl.get 0 s.routes (epoch * 2 ^ 14 + y * 4096 + endpoint)) 7 0 ∨
      (bits (Tbl.get 0 s.routes (epoch * 2 ^ 14 + x * 4096 + endpoint)) 7 0 = bits (Tbl.get 0 s.routes (epoch * 2 ^ 14 + y * 4096 + endpoint)) 7 0 ∧
        ((s.xport x).queued < (s.xport y).queued ∨ ((s.xport x).queued = (s.xport y).queued ∧ x ≤ y))))) ∧
  (∀ x y : XPort, x.arbitrated = some y → y.has y.turn = true ∧ y.queue = x.queue ∧
    (0 < x.left → x.has x.turn = true → y = x) ∧ ((x.left = 0 ∨ x.has x.turn = false) → y.left = x.weight y.turn)) ∧
  (∀ (s : State) (port : Fin 4) (lane : Fin 8),
    ((s.region siteF).up = true → s.hasImage 7 0 = true → s.pausedBy 7 0 = false → ∃ t, exec (.fabricLaneTrained port lane) s = .next t ∧ Same [.xports] s t ∧
      (t.xport port.val).lanes = (s.xport port.val).lanes ||| 2 ^ lane.val ∧ t.portServes port.val = true) ∧
    ((s.region siteF).up = false ∨ s.hasImage 7 0 = false ∨ s.pausedBy 7 0 = true → exec (.fabricLaneTrained port lane) s = .next s)) ∧
  (∀ (s : State) (g : Fin 2) (p : Packet) (v w : Fin 12) (k : Fin 96), p.via = .lane v w k → v.val = siteG g.val → w.val = siteH →
    ((s.guest g.val).fitted = false ∨ s.pathLost (siteG g.val, siteH) = true ∨ (s.lane siteH k.val).discards = true ∨ s.frozen = true →
      exec (.dykeGuestPacket g p) s = .next s) ∧
    ((s.guest g.val).fitted = true → s.pathLost (siteG g.val, siteH) = false → (s.lane siteH k.val).discards = false → s.frozen = false →
      (p.crcOk = false → ∃ t, exec (.dykeGuestPacket g p) s = .next t ∧ Same [.dict, .paths, .lanes] s t ∧
        (Tbl.rising s.dict = true → t.reg (okey 0x6030 5) = s.reg (okey 0x6030 5) + 1)) ∧
      (p.crcOk = true → (s.guestShare g.val ≤ (s.guest g.val).inDebt ∨ (p.opcode = 1 ∧ s.guestShare g.val ≤ (s.guest g.val).outDebt) ∨ (s.guest g.val).waiting ≠ []) →
        ∃ t, exec (.dykeGuestPacket g p) s = .next t ∧ Same [.dict, .guests] s t ∧
          t.guest g.val = { s.guest g.val with waiting := (s.guest g.val).waiting ++ [p] } ∧
          (Tbl.rising s.dict = true → t.reg (okey 0x6303 4) = s.reg (okey 0x6303 4) + s.guestBytes g.val p)) ∧
      (p.crcOk = true → (s.guest g.val).inDebt < s.guestShare g.val → (p.opcode = 1 → (s.guest g.val).outDebt < s.guestShare g.val) →
        (s.guest g.val).waiting = [] → ∀ (b c d : State) (q : Packet) (owing : State → State),
        b = s.setGuest g.val ((s.guest g.val).owe true (s.guestBytes g.val p)) → c = b.bump (okey 0x6303 1) → d = b.bump (okey 0x6303 2) →
        q = { p with source := idOf s.endpoint (siteG g.val * 256), claim := s.stamp } →
        (∀ u, owing u = match u.lastResponse with
          | some r => if r.dest = q.source ∧ r.seq = p.seq then u.setGuest g.val ((u.guest g.val).owe false (wireBytes r.line.length)) else u
          | none => u) →
        (p.opcode = 0x21 ∨ p.opcode = 0x22 → b.guestReplyOk g.val p = true → exec (.dykeGuestPacket g p) s = .next (owing c)) ∧
        (p.opcode = 1 ∨ p.opcode = 2 ∨ p.opcode = 3 → p.space = 3 → wellForm p = true →
          exec (.dykeGuestPacket g p) s =
            .next (owing (if p.opcode = 1 then c.doRead q true [] else if p.opcode = 2 then c.doWrite q true else c.doFlag q true))) ∧
        (p.opcode = 1 ∨ p.opcode = 2 ∨ p.opcode = 3 → p.space = 3 → wellForm p = false →
          ∃ t, exec (.dykeGuestPacket g p) s = .next (owing t) ∧ Same [.lastResponse, .xports] c t ∧ Answered t q (p.opcode + 0x20) Status.typeMismatch.code) ∧
        (((p.opcode = 0x21 ∨ p.opcode = 0x22) ∧ b.guestReplyOk g.val p = false) ∨
            (p.opcode ≠ 0x21 ∧ p.opcode ≠ 0x22 ∧ (p.opcode ∉ [1, 2, 3] ∨ p.space ≠ 3)) →
          ∃ t, exec (.dykeGuestPacket g p) s = .next (owing t) ∧ Same [.lastResponse, .xports] d t ∧
            Answered t q (responseOp p.opcode) Status.accessDenied.code)))) ∧
  (∀ (s : State) (g : Fin 2) (sub : Fin 32) (v n : Nat), n = bits v 47 0 → ∃ t, exec (.dykeWindowWrite g sub v) s = .next t ∧ Same [.dict, .nv, .lastStatus] s t ∧
    (t.lastStatus ≠ 0 → t.dict = s.dict ∧ t.nv = s.nv) ∧
    (sub.val % 2 = 0 → t.lastStatus = (if v % 64 ≠ 0 then Status.badAlign.code
      else if 2 ^ 48 ≤ v ∨ 2 ^ 48 < v + bits (s.reg (okey (0x6300 + g.val) (sub.val + 2))) 47 0 then Status.lengthExceeds.code else 0) ∧
      (t.lastStatus = 0 → Tbl.rising s.dict = true → ∀ k, t.reg k = if k = okey (0x6300 + g.val) (sub.val + 1) then v else s.reg k)) ∧
    (sub.val % 2 = 1 → t.lastStatus = (if n % 64 ≠ 0 then Status.badAlign.code
      else if 2 ^ 48 < s.reg (okey (0x6300 + g.val) sub.val) + n then Status.lengthExceeds.code else 0) ∧
      (t.lastStatus = 0 → Tbl.rising s.dict = true → ∀ k, t.reg k = if k = okey (0x6300 + g.val) (sub.val + 1) then bits v 63 62 * 2 ^ 62 + n else s.reg k)))

/-- The link comes up and goes down with its lanes; a paired unit then sends HELLO, and every 100 ms. Every message is
kept until it is acknowledged: it is probed at each timeout, dropped after ProbeLimit probes, sent again where it was
not seen, and counts as not sent when the link goes down. A HELLO stores its sender's claim, sets TimeAligned and
ConfigMatch, and orders the units: the first of them raises its claim above the other's and becomes Active, at the
boundary where it takes over already; the other follows, its first frame from the partner's anchor on: an active or
alone unit becomes Joining at once, or steps down when it has begun its frames; a standby no longer aligned is
Detached; a joiner that meets the conditions becomes Standby two frames on. Without any HELLO in time the unit is
Alone. A higher CLAIM makes an active unit step down. Switchover answers NOT_READY on a unit that is not active, BUSY
without takeover readiness, else names frame + 2 in a YIELD; a rejoin makes a paired unit that is neither active nor
alone Joining with every paired stream Unsynced. A standby or joiner keeps the active's prickings, and a standby, or a
joiner for its first frame as one, fixes the one of the next frame. (R493, R496, R497, R498, R500, R501, R503, R504,
R507, R528, R534, Table 12-3) -/
def Obligations.PairRolesFollowTheHellos : Prop :=
  (∀ (s : State) (lanes : Nat),
    ((s.region siteF).up = false ∨ s.hasImage 7 0 = false ∨ s.pausedBy 7 0 = true → exec (.pairLinkUp lanes) s = .next s) ∧
    ((s.region siteF).up = true → s.hasImage 7 0 = true → s.pausedBy 7 0 = false → ∃ t, exec (.pairLinkUp lanes) s = .next t ∧ Same [.pair, .seqs] s t ∧
      t.pair.lanes = lanes % 2 ^ 16 ∧ t.pair.training = false ∧ t.pair.role = s.pair.role ∧
      t.pair.sent = if s.paired = true ∧ t.linkUp = true then [.hello t.myHello] else [])) ∧
  (∀ (s : State), ∃ t, exec .pairLinkDown s = .next t ∧ Same [.pair, .ports, .dict, .freeCtr, .test] s t ∧ t.pair.lanes = 0 ∧ t.pair.training = false ∧ t.pair.sent = [] ∧
    t.pair.held = false ∧ t.pair.role = s.pair.role ∧ t.pair.outbox = [] ∧ t.pair.copying = [] ∧ (s.pair.held = false → t.ports = s.ports) ∧
    ((∃ o ∈ s.pair.outbox, ∃ b, o.msg = .yield b) → t.pair.yieldAt = none ∧ t.reg (okey 0x8006 0) = Status.discarded.code) ∧
    ((∀ o ∈ s.pair.outbox, ∀ b, o.msg ≠ .yield b) → t.pair.yieldAt = s.pair.yieldAt ∧ (s.pair.held = false → t.dict = s.dict))) ∧
  (∀ (s : State), (s.paired = true → s.linkUp = true → ∃ t, exec .helloTimer s = .next t ∧ Same [.pair, .seqs] s t ∧ t.pair.sent = [.hello s.myHello] ∧
      t.pair.outbox = s.pair.outbox ++ [{ seq := s.nextSeq pairUnit, msg := .hello s.myHello }] ∧
      (Tbl.rising s.seqs = true → t.nextSeq pairUnit = (s.nextSeq pairUnit + 1) % 2 ^ 32) ∧ t.pair.role = s.pair.role) ∧
    (s.paired = false ∨ s.linkUp = false → exec .helloTimer s = .next s)) ∧
  (∀ (s : State) (h : Hello), (s.paired = false ∨ s.linkUp = false → exec (.hello h) s = .next s) ∧
    (s.paired = true → s.linkUp = true → Tbl.rising s.dict = true → h.claim < 2 ^ 32 - 1 → ∃ t, exec (.hello h) s = .next t ∧
      Same [.ports, .streams, .dict, .freeCtr, .nv, .test, .pair, .seqs, .tb] s t ∧ t.pair.partner = some h ∧ t.reg (okey 0x8011 0) = h.claim ∧
      t.pair.aligned = (s.tb.begun && h.begun && decide (s.anchorGap h.anchorFrame h.anchorTick ≤ 2)) ∧
      t.pair.config = (decide (h.frameLength = s.tb.frameLength) && decide (h.digest = s.reg (okey 0x8013 0))) ∧
      t.tb = (if s.first h = false ∧ s.tb.begun = false ∧ h.begun = true then { s.tb with idle := 0 } else s.tb) ∧
      (s.first h = true → t.claim = (if s.claim ≤ h.claim then h.claim + 1 else s.claim) ∧ t.pair.waits = false ∧
        t.pair.role = (if s.pair.takes then s.pair.role else .active) ∧ (s.pair.takes = false → s.pair.role ≠ .active → t.pair.held = false ∧ t.pair.barred = false)) ∧
      (s.first h = false → t.claim = s.claim ∧
        (s.tb.begun = false → h.begun = true → t.pair.waits = false ∧ t.pair.follow = some (h.anchorFrame, h.anchorTick, h.frameLength)) ∧
        (s.pair.role = .active ∨ s.pair.role = .alone →
          if s.tb.begun then t.pair.role = s.pair.role ∧ t.pair.steps = true else t.pair.role = .joining) ∧
        (s.pair.role = .standby → t.pair.role = if t.pair.aligned then .standby else .detached) ∧
        (s.pair.role = .detached → t.pair.role = .detached) ∧
        (s.pair.role = .joining → t.pair.role = .joining ∧ (s.tb.begun = true → t.pair.config = true → t.pair.aligned = true → s.pair.barred = false →
          s.pair.standbyAt = none → t.pair.standbyAt = some (s.tb.frame + 2)))))) ∧
  (∀ (s : State), (s.pair.waits = false ∨ s.pair.partner ≠ none → exec .joinTimeout s = .next s) ∧
    (s.pair.waits = true → s.pair.partner = none → ∃ t, exec .joinTimeout s = .next t ∧ Same [.pair, .seqs] s t ∧ t.pair.waits = false ∧ t.pair.role = .alone)) ∧
  (∀ (s : State) (n : Nat), (s.paired = false ∨ s.linkUp = false → exec (.claim n) s = .next s) ∧
    (s.paired = true → s.linkUp = true → Tbl.rising s.dict = true → ∃ t, exec (.claim n) s = .next t ∧ Same [.dict, .pair] s t ∧
      (∀ k, t.reg k = if k = okey 0x8011 0 then n % 2 ^ 32 else s.reg k) ∧ t.pair.role = s.pair.role ∧
      t.pair.steps = (s.pair.steps || (decide (s.pair.role = .active) && decide (s.claim < n))))) ∧
  (∀ (s : State) (b : Nat), exec (.yield b) s =
    .next (if s.pair.role = .standby ∧ s.linkUp = true then { s with pair := { s.pair with yieldAt := some b } } else s)) ∧
  (∀ (s : State), (s.pair.role ≠ .active → exec .switchover s = .next { s with lastStatus := Status.notReady.code }) ∧
    (s.pair.role = .active → s.takeoverReady = false → exec .switchover s = .next { s with lastStatus := Status.busy.code }) ∧
    (s.pair.role = .active → s.takeoverReady = true → ∃ t, exec .switchover s = .next t ∧ Same [.pair, .dict, .lastStatus, .seqs] s t ∧ t.lastStatus = 0 ∧
      t.pair.yieldAt = some (s.tb.frame + 2) ∧ t.pair.role = .active ∧ t.reg (okey 0x8006 0) = Status.busy.code ∧
      t.pair.sent = if s.linkUp then [.yield (s.tb.frame + 2)] else [])) ∧
  (∀ (s : State), (s.pair.role = .active ∨ s.pair.role = .alone ∨ s.pair.role = .unpaired → exec .rejoin s = .next { s with lastStatus := Status.notReady.code }) ∧
    (s.pair.role ≠ .active → s.pair.role ≠ .alone → s.pair.role ≠ .unpaired →
      ∃ t, exec .rejoin s = .next t ∧ Same [.ports, .streams, .dict, .freeCtr, .test, .pair, .lastStatus, .seqs] s t ∧
      t.lastStatus = 0 ∧ t.pair.role = .joining ∧ t.pair.standbyAt = none ∧ t.pair.rejoining = true ∧ t.pair.refused = [] ∧
      t.reg (okey 0x8006 0) = Status.busy.code ∧ (Tbl.rising s.streams = true → ∀ i ∈ s.pairedStreams, (t.stream i).sync = 2))) ∧
  (∀ (s : State) (c : PrickCopy), (s.linkUp = false ∨ (s.pair.role ≠ .standby ∧ s.pair.role ≠ .joining) → exec (.pricking c) s = .next s) ∧
    (s.linkUp = true → s.pair.role = .standby ∨ s.pair.role = .joining → ∃ t, exec (.pricking c) s = .next t ∧ Same [.pair] s t ∧ t.pair.role = s.pair.role ∧
      ∀ a, a ∈ t.pair.copies ↔ (a ∈ s.pair.copies ∧ a.frame ≠ c.frame) ∨ a = { frame := c.frame, slot := c.slot, repeatable := c.repeatable, frameLength := s.tb.frameLength, entries := c.entries.map (fun w => pentryOf w.1 w.2) })) ∧
  (∀ (s : State), ((s.pair.role ≠ .standby ∧ s.pair.standbyAt ≠ some (s.tb.frame + 1)) ∨ s.tb.count < s.tb.frameStart + s.tb.frameLength / 2 ∨ s.tb.begun = false ∨
      (∃ a, s.prick.fixed = some a ∧ s.tb.frame + 1 ≤ a.frame) → exec .standbyPrickingFix s = .next s) ∧
    (s.pair.role = .standby ∨ s.pair.standbyAt = some (s.tb.frame + 1) → s.tb.frameStart + s.tb.frameLength / 2 ≤ s.tb.count → s.tb.begun = true →
      (∀ a, s.prick.fixed = some a → a.frame < s.tb.frame + 1) → ∃ t, exec .standbyPrickingFix s = .next t ∧ Same [.prick, .dict, .pair] s t ∧
      (∀ a, a ∈ t.pair.copies ↔ a ∈ s.pair.copies ∧ s.tb.frame + 1 < a.frame) ∧
      (∀ a, s.pair.copies.find? (fun a => decide (a.frame = s.tb.frame + 1)) = some a → t.prick.fixed = some a ∧ t.prick.repeats = 0 ∧ t.dict = s.dict) ∧
      ((∀ a ∈ s.pair.copies, a.frame ≠ s.tb.frame + 1) →
        t.prick.fixed = (fixPricking s.prick s.tb.frame (s.reg (okey 0x2022 0)) s.nextLength).1.fixed))) ∧
  (∀ (s : State) (p : Packet), s.frozen = false → s.viaUp p.via = true → p.viaPair = true → p.crcOk = true → endpointOf p.dest = 0 → endpointOf p.source = 0 →
    p.dest % 2 ^ 12 = pairUnit → wellForm p = true → p.compressed = false →
    (p.opcode = 2 → p.channel = 0 → exec (.write p) s = .next { s with pair := { s.pair with sent := [.writeAck p.seq] } }) ∧
    (p.opcode = 7 → p.channel = 2 → exec (.probe p) s = .next { s with pair := { s.pair with sent := [.probeResp p.seq 0] } }) ∧
    (p.opcode = 0x22 → p.channel = 1 → ∃ t, exec (.writeack p) s = .next t ∧ Same [.pair] s t ∧ t.pair.sent = [] ∧
      (∀ o, o ∈ t.pair.outbox ↔ o ∈ s.pair.outbox ∧ o.seq ≠ p.seq) ∧
      (∀ o c, s.pair.outbox.find? (fun o => decide (o.seq = p.seq)) = some o → o.msg = .resync c →
        (p.status = Status.accessDenied.code → c.stream ∈ t.pair.refused ∧ c.stream ∉ t.pair.copying) ∧
        (p.status ≠ Status.accessDenied.code → t.pair.refused = s.pair.refused ∧ t.pair.copying = s.pair.copying))) ∧
    (p.opcode = 0x27 → p.channel = 2 → p.aux = 0 → ∀ o, s.pair.outbox.find? (fun o => decide (o.seq = p.seq)) = some o →
      ∃ t, exec (.proberesp p) s = .next t ∧ Same [.pair, .dict] s t ∧ t.pair.sent = [o.msg] ∧
        (Tbl.rising s.dict = true → t.reg (okey 0x7030 4) = s.reg (okey 0x7030 4) + 1))) ∧
  (∀ (s : State) (seq : Nat),
    ((∀ o ∈ s.pair.outbox, o.seq ≠ seq) ∨ s.stopped = true ∨ s.linkUp = false → exec (.responseTimeout pairUnit seq) s = .next s) ∧
    (∀ o, s.pair.outbox.find? (fun o => decide (o.seq = seq)) = some o → s.stopped = false → s.linkUp = true →
      (s.reg (okey 0x7020 3) ≤ o.probes → ∃ t, exec (.responseTimeout pairUnit seq) s = .next t ∧ Same [.pair] s t ∧ t.pair.sent = [] ∧
        ∀ o, o ∈ t.pair.outbox ↔ o ∈ s.pair.outbox ∧ o.seq ≠ seq) ∧
      (o.probes < s.reg (okey 0x7020 3) → ∃ t, exec (.responseTimeout pairUnit seq) s = .next t ∧ Same [.pair, .dict] s t ∧ t.pair.sent = [.probe seq] ∧
        t.pair.outbox.find? (fun o => decide (o.seq = seq)) = some { o with probes := o.probes + 1 } ∧
        (Tbl.rising s.dict = true → t.reg (okey 0x7030 3) = s.reg (okey 0x7030 3) + 1))))

/-- A standby, and an active unit that still awaits one, takes commit records while the link is up: one while none is
expected counts as missed; a good one of the expected frame ends its hold, resets the count of missed records unless
it is late, and detaches a standby whose anchor differs by more than 2 ticks. At a standby a bad one, or the hold's
end, counts a miss and releases what is held; at MissedCommitLimit it asks over the fabric or takes over with a claim
above both. When the wait of a PING ends, a living partner makes it Detached, and otherwise it takes over. Requests,
results and own runs of known answers are recorded; at a standby an arbitration clears a die that passes, suspends one
that both fail, and leaves out and tests one that fails alone; an active unit whose own die fails alone isolates it,
and both units report a die that fails on both. A resync copies context, ingress position, record and granules, or is
refused, and says so, where the stream does not own one of them; its end makes the stream wait for the boundary.
(R509, R510, R511, R512, R516, R521, R523, R524, R525, R526, R527, Table 12-9) -/
def Obligations.CommitsChecksAndResyncsKeepThePair : Prop :=
  (∀ (s : State) (b : List Byte),
    ((s.pair.role ≠ .standby ∧ (s.pair.role ≠ .active ∨ s.pair.expect = none)) ∨ s.linkUp = false → exec (.commit b) s = .next s) ∧
    (s.pair.role = .standby ∨ (s.pair.role = .active ∧ s.pair.expect ≠ none) → s.linkUp = true →
      (s.pair.expect = none → ∃ t, exec (.commit b) s = .next t ∧ Same [.pair, .dict, .freeCtr, .test] s t ∧ t.pair = { s.pair with sent := [] } ∧
        t.reg (okey 0x8060 1) = s.reg (okey 0x8060 1) + 1) ∧
      (∀ n, s.pair.expect = some n → s.recordGood b n = true → ∃ t, exec (.commit b) s = .next t ∧
        Same [.ports, .streams, .dict, .freeCtr, .test, .pair, .seqs] s t ∧ t.pair.expect = none ∧ t.pair.held = false ∧ t.pair.late = false ∧
        t.pair.heldNotes = [] ∧ t.pair.heldOut = [] ∧ (t.pair.missed, t.pair.applied) = (if s.pair.late then (s.pair.missed, s.pair.applied) else (0, s.pair.applied + 1)) ∧
        t.pair.role = (if s.pair.role = .standby ∧ 2 < s.anchorGap n (leNat ((b.drop 8).take 8)) then .detached else s.pair.role)) ∧
      (∀ n, s.pair.expect = some n → s.recordGood b n = false → s.pair.late = true → exec (.commit b) s = .next { s with pair := { s.pair with sent := [] } }))) ∧
  (∀ (s : State) (i : Instr), s.pair.role = .standby → s.pair.expect ≠ none → s.pair.late = false →
    (∃ b n, i = .commit b ∧ s.linkUp = true ∧ s.pair.expect = some n ∧ s.recordGood b n = false) ∨
      (i = .commitHoldExpiry ∧ s.tb.frameStart + min (s.limit 0x8024) (s.tb.frameLength / 2) ≤ s.tb.count) →
    Tbl.rising s.dict = true → max s.claim s.partnerClaim < 2 ^ 32 - 1 →
    ∃ t, exec i s = .next t ∧ Same [.ports, .dict, .requests, .freeCtr, .nv, .test, .pair, .seqs, .xports, .hub] s t ∧ t.pair.late = true ∧ t.pair.missed = s.pair.missed + 1 ∧
      t.pair.applied = 0 ∧ t.pair.held = false ∧ t.pair.role = .standby ∧ t.reg (okey 0x8060 1) = s.reg (okey 0x8060 1) + 1 ∧
      (s.pair.missed + 1 < s.limit 0x8025 ∨ s.pair.pinging = true ∨ s.pair.takes = true →
        t.pair.takes = s.pair.takes ∧ t.pair.pinging = s.pair.pinging ∧ t.claim = s.claim ∧ t.requests = s.requests) ∧
      (s.limit 0x8025 ≤ s.pair.missed + 1 → s.pair.pinging = false → s.pair.takes = false →
        if bits (s.reg (okey 0x8012 0)) 15 15 = 1 then t.pair.pinging = true ∧ t.pair.pong = none ∧ t.pair.takes = false ∧ t.claim = s.claim
        else t.pair.takes = true ∧ t.claim = max s.claim s.partnerClaim + 1 ∧ t.reg (okey 0x8060 8) = s.reg (okey 0x8060 8) + 1)) ∧
  (∀ (s : State), (s.pair.role ≠ .standby ∧ s.pair.role ≠ .active) ∨ s.pair.expect = none ∨ s.pair.late = true ∨
    s.tb.count < s.tb.frameStart + min (s.limit 0x8024) (s.tb.frameLength / 2) → exec .commitHoldExpiry s = .next s) ∧
  (∀ (s : State), (s.pair.pinging = false ∨ s.pair.role ≠ .standby → exec .pingWaitExpiry s = .next s) ∧
    (s.pair.pinging = true → s.pair.role = .standby → Tbl.rising s.dict = true → max s.claim s.partnerClaim < 2 ^ 32 - 1 →
      ∃ t, exec .pingWaitExpiry s = .next t ∧ Same [.ports, .streams, .dict, .requests, .freeCtr, .nv, .test, .pair, .seqs, .xports, .hub] s t ∧
        t.pair.pinging = false ∧ t.pair.pong = none ∧
        ((∃ c f, s.pair.pong = some (c, f) ∧ c = s.partnerClaim ∧ f ≤ s.tb.frame + 1 ∧ s.tb.frame ≤ f + 1) → t.pair.role = .detached ∧ t.claim = s.claim) ∧
        ((∀ c f, s.pair.pong = some (c, f) → c ≠ s.partnerClaim ∨ s.tb.frame + 1 < f ∨ f + 1 < s.tb.frame) →
          t.pair.role = .standby ∧ t.pair.takes = true ∧ t.claim = max s.claim s.partnerClaim + 1))) ∧
  (∀ (s : State) (m : KatMsg), s.paired = false → exec (.kat m) s = .next s) ∧
  (∀ (s : State) (d : Fin 8) (f : Nat) (pass : Bool), s.paired = true →
    (s.linkUp = false → exec (.kat (.request d f)) s = .next { s with pair := { s.pair with sent := [] } } ∧
      exec (.kat (.result d f pass)) s = .next { s with pair := { s.pair with sent := [] } }) ∧
    (s.linkUp = true → exec (.kat (.request d f)) s =
      .next { s with pair := { s.pair with sent := [], kats := s.pair.kats ++ [{ die := d.val, frame := f, arb := true }] } }) ∧
    (s.linkUp = true → (∀ k ∈ s.pair.kats, k.die ≠ d.val ∨ k.frame ≠ f) → exec (.kat (.result d f pass)) s = .next { s with pair := { s.pair with sent := [] } }) ∧
    (∀ k mine, s.linkUp = true → s.pair.role = .standby → s.pair.kats.find? (fun k => decide (k.die = d.val) && decide (k.frame = f)) = some k → k.arb = true →
      k.mine = some mine → ∃ t, exec (.kat (.result d f pass)) s = .next t ∧ Same [.ports, .streams, .dict, .dies, .freeCtr, .test, .pair] s t ∧ t.pair.role = .standby ∧
        (pass = true → mine = false → d.val ∈ t.pair.suspect ∧ d.val ∈ t.pair.excluded ∧ d.val ∈ t.test.dieTests ∧
          (Tbl.rising s.streams = true → ∀ i ∈ s.pairedStreams, (s.stream i).home = d.val → (t.stream i).sync = 2)) ∧
        (¬(pass = true ∧ mine = false) → (∀ x, x ∈ t.pair.suspect ↔ x ∈ s.pair.suspect ∧ x ≠ d.val) ∧ t.streams = s.streams ∧ t.ports = s.ports) ∧
        (pass = false → mine = false → Tbl.get 0 t.pair.suspended d.val = s.tb.count + hourTicks ∧ (t.dieOf d.val).katFailed = true)) ∧
    (∀ k, s.linkUp = true → s.pair.role = .active → s.pair.kats.find? (fun k => decide (k.die = d.val) && decide (k.frame = f)) = some k → k.arb = true →
      k.mine = some false → pass = false → ∃ t, exec (.kat (.result d f pass)) s = .next t ∧ Same [.dict, .dies, .pair] s t ∧ (t.dieOf d.val).katFailed = true ∧
        t.pair.role = .active) ∧
    (∀ k, s.linkUp = true → s.pair.role = .active → s.pair.kats.find? (fun k => decide (k.die = d.val) && decide (k.frame = f)) = some k → k.arb = true →
      k.mine = some false → pass = true → ∃ t, exec (.kat (.result d f pass)) s = .next t ∧ (t.dieOf d.val).isolated = true ∧
        (∀ g ∈ t.grants, g.die ≠ d.val) ∧ t.pair.role = .active)) ∧
  (∀ (s : State) (d : Fin 8) (f digest : Nat) (pass : Bool), s.paired = true → pass = decide (digest = Config.katDigest (s.reg (okey 0x0110 (siteOfDie d.val + 1)))) →
    ((∀ g ∈ s.grants, g.die ≠ d.val ∨ g.pattern ≠ katPattern) → exec (.kat (.own d f digest)) s = .next { s with pair := { s.pair with sent := [] } }) ∧
    (∀ g, s.grants.find? (fun g => decide (g.die = d.val) && decide (g.pattern = katPattern)) = some g → ∃ t l, exec (.kat (.own d f digest)) s = .next t ∧
      t.pair.sent = (if s.linkUp then [PairMsg.kat (.result d f pass)] else []) ++ l ∧
      (pass = true → Tbl.rising s.dict = true → t.reg (okey 0x8053 (d.val + 1)) = s.tb.frame))) ∧
  (∀ (s : State), exec .katInterval s = .next (if s.paired = true ∧ s.tb.begun = true then { s with pair := { s.pair with kats := s.pair.kats ++ [{ die := s.pair.katNext, frame := s.tb.frame + 1, arb := false }], katNext := (s.pair.katNext + 1) % 8 } } else s)) ∧
  (∀ (s : State), ∃ t, exec .katResultTimeout s = .next t ∧ Same [.pair] s t ∧ t.pair.role = s.pair.role ∧
    ∀ k, k ∈ t.pair.kats ↔ k ∈ s.pair.kats ∧ ¬(k.arb = true ∧ (k.mine = none ∨ k.theirs = none) ∧ k.frame + 4 < s.tb.frame)) ∧
  (∀ (s : State) (c : StreamCopy),
    (s.linkUp = false ∨ (s.stream c.stream).paired = false ∨ (s.stream c.stream).st = .closed → exec (.resync c) s = .next s) ∧
    (s.linkUp = true → (s.stream c.stream).paired = true → (s.stream c.stream).st ≠ .closed →
      ((∃ g ∈ c.granules, ¬(eValid (s.entryAt 0 (ledgerIndex g.1 g.2.1)) = true ∧ eOwnerValid (s.entryAt 0 (ledgerIndex g.1 g.2.1)) = true ∧
          eOwner (s.entryAt 0 (ledgerIndex g.1 g.2.1)) = c.stream)) →
        ∃ t, exec (.resync c) s = .next t ∧ Same [.ports, .streams, .dict, .freeCtr, .test, .pair] s t ∧ c.stream ∈ t.pair.refused ∧
          t.pair.sent = [.denied c.stream] ∧ (t.stream c.stream).sync = 2) ∧
      ((∀ g ∈ c.granules, eValid (s.entryAt 0 (ledgerIndex g.1 g.2.1)) = true ∧ eOwnerValid (s.entryAt 0 (ledgerIndex g.1 g.2.1)) = true ∧
          eOwner (s.entryAt 0 (ledgerIndex g.1 g.2.1)) = c.stream) →
        ∃ t, exec (.resync c) s = .next t ∧ Same [.streams, .dict, .migs, .stores] s t ∧
          t.stream c.stream = { s.stream c.stream with
            home := c.home, outSize := c.outSize, ringQ0 := c.ringQ0, ringQ1 := c.ringQ1, failover := c.failover, reportSteps := c.reportSteps
            f0 := c.f0, emitted := c.emitted, inHead := c.inHead, inSeq := c.inSeq, inTick := c.inTick
            stateSize := c.state.length / 4096, committed := wrBytes [] 0 c.state, recBase := (t.stream c.stream).recBase } ∧
          ((s.stream c.stream).home = c.home → (s.stream c.stream).stateSize * 4096 = c.state.length → (t.stream c.stream).recBase = (s.stream c.stream).recBase) ∧
          (c.granules = [] → t.migs = s.migs) ∧ (Tbl.rising s.dict = true → t.reg (okey 0x8060 6) = s.reg (okey 0x8060 6) + 1)))) ∧
  (∀ (s : State) (i : Fin 16384), ((s.stream i.val).paired = false ∨ i.val ∈ s.pair.refused → exec (.resyncEnd i) s = .next s) ∧
    ((s.stream i.val).paired = true → i.val ∉ s.pair.refused → ∃ t, exec (.resyncEnd i) s = .next t ∧ Same [.pair] s t ∧ i.val ∈ t.pair.landed ∧
      ∀ x, x ∈ t.pair.copying ↔ x ∈ s.pair.copying ∧ x ≠ i.val))

/-- A doorbell on a port that is not Down sets the queue's tail. The hub fetches one entry in turns of ports and queues:
its head advances, the command is in flight with its words and reserved ring, an undefined opcode already with
TYPE_MISMATCH, and the fetch is counted; no entry is fetched while the module takes none. Each of the nine commands
acts on the next command of its opcode only: with none, or while the hub is stopped (reads aside), nothing happens;
where a check of Table 13-11 fails, the command has that status as its outcome and no other effect. A completion takes
the oldest command with an outcome out of flight, posts its slot where it needs one and its ring is enabled on an Up
port, and counts a failure. WaitLimit closes a Waiting stream. (R540, R547, R555, R556, R558, R559, R560, R567, R709,
R734, Table 13-11) -/
def Obligations.StreamCommandsAreFetchedCheckedAndCompleted : Prop :=
  (∀ (s : State) (p : Fin 2) (q : Fin 64) (v : BitVec 64), ((s.port p.val).st = .down → exec (.sqDoorbell p q v) s = .next s) ∧
    ((s.port p.val).st ≠ .down → ∃ t, exec (.sqDoorbell p q v) s = .next t ∧ Same [.ports, .dict, .freeCtr, .test] s t ∧
      (Tbl.rising (s.port p.val).sqs = true → (t.port p.val).sq q.val = { (s.port p.val).sq q.val with tail := v.toNat % 1024 }) ∧
      (t.port p.val).st = (s.port p.val).st ∧ (t.port p.val).taken = (s.port p.val).taken ∧ (t.port p.val).rings = (s.port p.val).rings)) ∧
  (∀ (s : State) (fz : Bool), fz = (s.frozen && decide (s.reg (okey 0x9200 0) = 1)) →
    (s.takes = false → fz = false → exec .sqFetch s = .next s) ∧
    ((∀ p, p < 2 → (s.port p).nextSq fz = none) → s.sqPort < 2 → exec .sqFetch s = .next s) ∧
    (∀ p q r, s.takes = true ∨ fz = true → p = s.sqPort ∨ (p = 1 - s.sqPort ∧ (s.port s.sqPort).nextSq fz = none) → (s.port p).nextSq fz = some (q, r) →
      ∃ t, exec .sqFetch s = .next t ∧ Same [.ports, .dict, .sqPort] s t ∧ t.sqPort = 1 - p ∧ (s.port p).st = .up ∧ ((s.port p).sq q).enable = true ∧
        (t.port p).taken = (s.port p).taken ++ [{
          sq := q
          entry := ((s.port p).sq q).head
          words := (s.port p).sqWords q ((s.port p).sq q).head
          ring := if ((s.port p).sq q).complValid then some ((s.port p).sq q).complRing else none
          epoch := s.epoch
          range := s.memRange (((s.port p).sqWords q ((s.port p).sq q).head))
          status := if sqOpcode (cOpcode ((s.port p).sqWords q ((s.port p).sq q).head)) then none else some Status.typeMismatch.code }] ∧
        (t.port p).sq q = { (s.port p).sq q with head := (((s.port p).sq q).head + 1) % 1024 } ∧ (t.port p).sqTurn = (q + 1) % 64 ∧
        (Tbl.rising s.dict = true → ∀ k, t.reg k = if k = hostCtr p 1 then s.reg k + 1 else s.reg k))) ∧
  (∀ (s : State) (p : Fin 2) (data : List Byte) (op : Nat) (i : Instr),
    (op, i) ∈ [(1, Instr.ingress p data), (2, .openStream p), (3, .closeStream p), (4, .sampling p), (5, .statewrite p data), (6, .stateread p),
      (7, .memwrite p data), (8, .memread p), (9, .rebind p)] →
    (s.nextCmd p.val op = none ∨ (s.stopped = true ∧ op ≠ 6 ∧ op ≠ 8) → exec i s = .next s) ∧
    (∀ c st, s.nextCmd p.val op = some c → s.stopped = false ∨ op = 6 ∨ op = 8 → s.sqCheck p.val c = some st →
      (op = 4 → (s.stream (cStream c.words)).deferred = []) →
      ∃ t, exec i s = .next (t.finishLeave p.val) ∧ Same [.ports] s t ∧ (t.port p.val).taken = settled s p.val c st.code ∧
        (t.port p.val).rings = (s.port p.val).rings) ∧
    (∀ c st, s.nextCmd p.val op = some c → s.stopped = false → s.sqCheck p.val c = some st → op = 4 → (s.stream (cStream c.words)).deferred ≠ [] →
      ∃ t d, exec i s = .next (t.finishLeave p.val) ∧ Same [.streams] s t ∧ d.fails = some st.code ∧ d.port = p.val ∧ d.sq = c.sq ∧ d.entry = c.entry ∧ d.words = c.words ∧
        t.stream (cStream c.words) = { s.stream (cStream c.words) with deferred := (s.stream (cStream c.words)).deferred ++ [d] })) ∧
  (∀ (s : State) (p op : Nat) (c : Taken), s.nextCmd p op = some c →
    c ∈ (s.port p).taken ∧ c.status = none ∧ cOpcode c.words = op ∧ s.parked p c = false ∧ (s.sqCheck p c = none → s.cmdWaits c = false)) ∧
  (∀ (s : State) (c : Taken) (x : Stream), x = s.stream (cStream c.words) →
    (cOpcode c.words = 2 → s.cmdWaits c = s.hubDark [2 * oHome c.words, 2 * oHome c.words + 1]) ∧
    (cOpcode c.words = 4 → s.cmdWaits c = s.hubDark [2 * x.home, 2 * x.home + 1]) ∧
    (cOpcode c.words = 5 ∨ cOpcode c.words = 6 → s.cmdWaits c = (!s.recordLost c && s.hubDark [2 * x.home, 2 * x.home + 1])) ∧
    (cOpcode c.words = 7 ∨ cOpcode c.words = 8 → s.cmdWaits c =
      s.hubWaits (c.range.getD []) (memTier c.words) (decide (cOpcode c.words = 7)) (memAddr c.words) (memLength c.words)) ∧
    (cOpcode c.words = 9 → s.cmdWaits c = x.rebind.isSome) ∧ (cOpcode c.words = 3 → s.cmdWaits c = false)) ∧
  (∀ (s : State) (p : Nat),
    ((s.port p).leaving = false ∨ (∃ c ∈ (s.port p).taken, c.status = none ∧ s.parked p c = false) → s.finishLeave p = s) ∧
    ((s.port p).leaving = true → (∀ c ∈ (s.port p).taken, c.status ≠ none ∨ s.parked p c = true) →
      s.finishLeave p = (s.setPort p { s.port p with leaving := false }).handoff p)) ∧
  (∀ (s : State) (p : Nat) (c : Taken) (ws : List Nat), ws = c.words →
    (sqOpcode (cOpcode ws) = false ∨ sqClean ws = false → s.sqCheck p c = some .typeMismatch) ∧
    (sqOpcode (cOpcode ws) = true → sqClean ws = true → cOpcode ws = 1 → 1 ≤ bits (wd ws 2) 63 56 → bits (wd ws 2) 63 56 ≤ 3 → s.tb.begun = false →
      s.sqCheck p c = some .notReady) ∧
    (sqOpcode (cOpcode ws) = true → sqClean ws = true → cOpcode ws ∈ [3, 5, 6] → (s.stream (cStream ws)).st ≠ .closed → (s.stream (cStream ws)).owner ≠ p →
      s.sqCheck p c = some .accessDenied) ∧
    (sqOpcode (cOpcode ws) = true → sqClean ws = true → cOpcode ws ∈ [7, 8] → memLength ws = 0 → s.sqCheck p c = some .ok) ∧
    (sqOpcode (cOpcode ws) = true → sqClean ws = true → cOpcode ws ∈ [7, 8] → memLength ws ≠ 0 → memAddr ws % 64 = 0 → memLength ws % 64 = 0 →
      (spaceSize (memTier ws) < memAddr ws + memLength ws → s.sqCheck p c = some .lengthExceeds) ∧
      (memAddr ws + memLength ws ≤ spaceSize (memTier ws) → c.range = none → s.sqCheck p c = some .accessDenied) ∧
      (memAddr ws + memLength ws ≤ spaceSize (memTier ws) → c.range ≠ none → s.sqCheck p c = none))) ∧
  (∀ (s : State) (p : Fin 2), ((∀ t ∈ (s.port p.val).taken, t.status = none) → exec (.commandCompletion p) s = .next s) ∧
    (∀ c st, (s.port p.val).taken.find? (fun t => t.status.isSome) = some c → c.status = some st → Tbl.rising s.ports = true →
      ∃ t, exec (.commandCompletion p) s = .next t ∧ Same [.ports, .dict, .freeCtr, .test] s t ∧
        (t.port p.val).taken = removeFirst (fun u => u.status.isSome) (s.port p.val).taken ∧
        (Tbl.rising s.dict = true → t.reg (hostCtr p.val 2) = if st = 0 then s.reg (hostCtr p.val 2) else s.reg (hostCtr p.val 2) + 1) ∧
        (c.ring = none → (t.port p.val).rings = (s.port p.val).rings) ∧
        (∀ r, c.ring = some r → (cNotify c.words = true ∨ st ≠ 0 ∨ cOpcode c.words = 2 ∨ cOpcode c.words = 3 ∨ cOpcode c.words = 9) →
          ((s.port p.val).ring r).enable = true → (s.port p.val).st = .up →
          ((t.port p.val).ring r).producer = (((s.port p.val).ring r).producer + 1) % 2 ^ 32 ∧
          ((t.port p.val).ring r).reserved = ((s.port p.val).ring r).reserved - 1))) ∧
  (∀ (s : State) (i : Fin 16384), ((s.stream i.val).st ≠ .waiting → exec (.waitLimitExpiry i) s = .next s) ∧
    ((s.stream i.val).st = .waiting → ∃ t, exec (.waitLimitExpiry i) s = .next t ∧ Same [.streams, .ports] s t ∧
      t.stream i.val = { s.stream i.val with st := .closing, limit := true } ∧ (Tbl.rising s.streams = true → ∀ j, j ≠ i.val → t.stream j = s.stream j)))

/-- OPEN makes the stream Open with the fields of the command, its owner port, home die, frame origin and both record
copies, and completes OK; while the path to its home is dark it waits, and a home out of service gives it the cause.
CLOSE moves the stream to Closing and completes later. SAMPLING, STATEWRITE and STATEREAD act on the committed record
at once, or wait for the stream's running step in order; a home out of service is answered for the last two. MEMWRITE
and MEMREAD move the bytes between host memory and the space, wait for dark paths and held writes, and end at a
poisoned line with the lines before it. REBIND waits for the boundary. INGRESS places its record at the ring's head,
counts it and advances head and sequence. Other streams stay. (R550, R553, R554, R556, R557, R558, R561, R562, R563,
R564, R565, Table 13-10) -/
def Obligations.StreamCommandsHaveTheirEffects : Prop :=
  (∀ (s : State) (p : Fin 2) (c : Taken) (us : List Nat), s.nextCmd p.val 2 = some c → s.stopped = false → s.sqCheck p.val c = none →
    us = [2 * oHome c.words, 2 * oHome c.words + 1] →
    (us.any (fun v => !s.unitServes v || s.unitHard v) = true → ∃ t, exec (.openStream p) s = .next (t.finishLeave p.val) ∧
      Same [.ports] s t ∧ (t.port p.val).taken = settled s p.val c (s.hubCause us)) ∧
    (us.any (fun v => !s.unitServes v || s.unitHard v) = false → ∃ t, exec (.openStream p) s = .next (t.finishLeave p.val) ∧
      Same [.ports, .streams, .stores] s t ∧ (t.port p.val).taken = settled s p.val c 0 ∧
      t.stream (cStream c.words) = openedStream p.val s.tb.frame c.words (decide (s.pair.role ≠ .standby) && decide (s.pair.role ≠ .joining))
        (s.recPlace (oHome c.words) (oStateSize c.words * 4096)) ∧
      (Tbl.rising s.streams = true → ∀ j, j ≠ cStream c.words → t.stream j = s.stream j))) ∧
  (∀ (p frame base : Nat) (ws : List Nat) (leads : Bool) (x : Stream), x = openedStream p frame ws leads base → x.st = .opened ∧ x.owner = p ∧ x.home = oHome ws ∧
    x.paired = oPaired ws ∧ x.sync = (if oPaired ws then (if leads then 1 else 2) else 0) ∧ x.stateSize = oStateSize ws ∧ x.outSize = oOutSize ws ∧ x.f0 = frame ∧
    x.inBase = oBase ws ∧ x.inSize = oSize ws ∧ x.emitted = 0 ∧ x.inHead = 0 ∧ x.inSeq = 0 ∧ x.recBase = base ∧ x.working = x.committed ∧
    samplingWords x.committed = [wd ws 1 % 2 ^ 64, 0, 0x3F800000 * 2 ^ 32, 0x3F800000 * 2 ^ 32, 0, 0, 0, 0]) ∧
  (∀ (s : State) (p : Fin 2) (c : Taken) (x : Stream) (d : Cmd), x = s.stream (cStream c.words) → d = { port := p.val, sq := c.sq, entry := c.entry, words := c.words } →
    s.stopped = false → s.sqCheck p.val c = none →
    (s.nextCmd p.val 3 = some c → ∃ t, exec (.closeStream p) s = .next (t.finishLeave p.val) ∧ Same [.ports, .streams] s t ∧
      (t.port p.val).taken = (s.port p.val).taken ∧ t.stream (cStream c.words) = { x with st := .closing, closer := some d }) ∧
    (s.nextCmd p.val 9 = some c → ∃ t, exec (.rebind p) s = .next (t.finishLeave p.val) ∧ Same [.streams] s t ∧
      t.stream (cStream c.words) = { x with rebind := some d })) ∧
  (∀ (s : State) (p : Fin 2) (c : Taken) (x : Stream) (data : List Byte) (op : Nat) (i : Instr),
    (op, i) ∈ [(4, Instr.sampling p), (5, .statewrite p data), (6, .stateread p)] → x = s.stream (cStream c.words) →
    s.nextCmd p.val op = some c → s.stopped = false ∨ op = 6 → s.sqCheck p.val c = none →
    (op ≠ 4 → s.recordLost c = true → ∃ t, exec i s = .next (t.finishLeave p.val) ∧ Same [.ports] s t ∧
      (t.port p.val).taken = settled s p.val c (s.hubCause [2 * x.home, 2 * x.home + 1])) ∧
    (op = 4 ∨ s.recordLost c = false →
      (s.streamRuns (cStream c.words) = true ∨ x.deferred ≠ [] → ∃ t d, exec i s = .next (t.finishLeave p.val) ∧ Same [.streams] s t ∧
        t.stream (cStream c.words) = { x with deferred := x.deferred ++ [d] } ∧ d.port = p.val ∧ d.sq = c.sq ∧ d.entry = c.entry ∧ d.words = c.words ∧
        d.fails = none ∧ d.data = if op = 5 then exactly (stLength c.words) data else []) ∧
      (∀ (v : State) (off n : Nat), s.streamRuns (cStream c.words) = false → x.deferred = [] → v = s.touch (x.recUnit false) →
        (off, n) = (if op = 4 then (0, 64) else (stOffset c.words, stLength c.words)) →
        ((if op = 5 then v.recWriteBad x false off n else v.recReadBad x false off n) = true → ∃ t, exec i s = .next (t.finishLeave p.val) ∧
          Same [.ports, .stores] s t ∧ t.stores = v.stores ∧ (t.port p.val).taken = settled s p.val c Status.uncorrected.code) ∧
        ((if op = 5 then v.recWriteBad x false off n else v.recReadBad x false off n) = false →
          (op = 4 → recCheck (samplingWrite (samplingWords x.committed) c.words) = none) → ∃ t, exec i s = .next (t.finishLeave p.val) ∧
          Same [.ports, .streams, .hostMem, .stores] s t ∧ (t.port p.val).taken = settled s p.val c 0 ∧
          (op = 4 → t.hostMem = s.hostMem ∧ t.stores = v.stores ∧ t.stream (cStream c.words) =
            { x with committed := putSampling x.committed (samplingWrite (samplingWords x.committed) c.words) }) ∧
          (op = 5 → t.hostMem = s.hostMem ∧ t.stream (cStream c.words) = { x with committed := wrBytes x.committed off (exactly n data) }) ∧
          (op = 6 → t.streams = s.streams ∧ t.stores = v.stores ∧
            t.hostMem = wrBytes s.hostMem (p.val * 2 ^ 64 + wd c.words 1) (rdBytes x.committed off n)))))) ∧
  (∀ (s : State) (p : Fin 2) (c : Taken) (data : List Byte) (tier : Bool) (a n : Nat) (tr : List (Nat × Nat)), tier = memTier c.words → a = memAddr c.words →
    n = memLength c.words → c.range = some tr → s.sqCheck p.val c = none →
    (s.nextCmd p.val 7 = some c → s.stopped = false →
      (s.hubServes tr = false → ∃ t, exec (.memwrite p data) s = .next (t.finishLeave p.val) ∧ Same [.ports] s t ∧
        (t.port p.val).taken = settled s p.val c (s.rangeCause tr)) ∧
      (s.hubServes tr = true → ∃ t, exec (.memwrite p data) s = .next (t.finishLeave p.val) ∧ Same [.ports, .migs, .stores] s t ∧
        (t.port p.val).taken = settled s p.val c 0 ∧ t.stores = (s.hubWrite tr tier a (exactly n data)).stores ∧ t.migs = (s.hubWrite tr tier a (exactly n data)).migs)) ∧
    (s.nextCmd p.val 8 = some c →
      (s.rangeServes tr 0 = false ∨ (unitsOf tr 0).any s.unitHard = true → ∃ t, exec (.memread p) s = .next (t.finishLeave p.val) ∧
        Same [.ports] s t ∧ (t.port p.val).taken = settled s p.val c (s.hubCause (unitsOf tr 0))) ∧
      (∀ v m st, v = s.wake tr 0 → s.rangeServes tr 0 = true → (unitsOf tr 0).any s.unitHard = false →
        (v.readBad tr 0 tier [(a, n)] = none ∧ m = n ∧ st = 0 ∨ ∃ bad, v.readBad tr 0 tier [(a, n)] = some bad ∧ m = bad / 64 * 64 - a ∧ st = Status.uncorrected.code) →
        ∃ t, exec (.memread p) s = .next (t.finishLeave p.val) ∧ Same [.ports, .hostMem, .stores] s t ∧ t.stores = v.stores ∧
          (t.port p.val).taken = settled s p.val c st ∧
          t.hostMem = wrBytes s.hostMem (p.val * 2 ^ 64 + wd c.words 1) (v.virtRead tr 0 tier a m)))) ∧
  (∀ (s : State) (p : Fin 2) (c : Taken) (x : Stream) (data : List Byte) (n size off : Nat), x = s.stream (cStream c.words) →
    n = inLength c.words → size = roundUp (32 + n) 64 → off = x.inHead % x.inSize → off + size ≤ x.inSize →
    s.nextCmd p.val 1 = some c → s.stopped = false → s.sqCheck p.val c = none →
    (s.hubRange false (x.inBase + off) size = none → ∃ t, exec (.ingress p data) s = .next (t.finishLeave p.val) ∧ Same [.ports] s t ∧
      (t.port p.val).taken = settled s p.val c Status.accessDenied.code) ∧
    (∀ tr, s.hubRange false (x.inBase + off) size = some tr →
      (s.hubServes tr = false → ∃ t, exec (.ingress p data) s = .next (t.finishLeave p.val) ∧ Same [.ports] s t ∧
        (t.port p.val).taken = settled s p.val c (s.rangeCause tr)) ∧
      (s.hubServes tr = true → ∃ t, exec (.ingress p data) s = .next (t.finishLeave p.val) ∧
        Same [.ports, .streams, .dict, .migs, .stores] s t ∧ (t.port p.val).taken = settled s p.val c 0 ∧
        t.stream (cStream c.words) = { x with inHead := (x.inHead + size) % 2 ^ 64, inSeq := (x.inSeq + 1) % 2 ^ 32, inTick := s.tb.count, inBytes := x.inBytes ++ exactly n data } ∧
        t.stores = (s.hubWrite tr false (x.inBase + off) (ingressRecord (cStream c.words) (bits (wd c.words 2) 63 56) n x.inSeq
          (if wd c.words 3 = 0 then s.tb.frameStart else wd c.words 3) s.tb.count (exactly n data))).stores ∧
        (Tbl.rising s.dict = true → ∀ k, t.reg k = if k = hostCtr p.val 3 then s.reg k + 1 else s.reg k)))) ∧
  (∀ (s : State) (p : Fin 2) (c : Taken) (x : Stream) (data : List Byte) (n size off : Nat) (tr ur : List (Nat × Nat)), x = s.stream (cStream c.words) →
    n = inLength c.words → size = roundUp (32 + n) 64 → off = x.inHead % x.inSize → x.inSize < off + size →
    s.nextCmd p.val 1 = some c → s.stopped = false → s.sqCheck p.val c = none →
    s.hubRange false (x.inBase + off) (x.inSize - off) = some tr → s.hubRange false x.inBase size = some ur → s.hubServes (tr ++ ur) = true →
    ∃ t, exec (.ingress p data) s = .next (t.finishLeave p.val) ∧ Same [.ports, .streams, .dict, .migs, .stores] s t ∧
      (t.port p.val).taken = settled s p.val c 0 ∧ t.stream (cStream c.words) = { x with inHead := (x.inHead + (x.inSize - off) + size) % 2 ^ 64, inSeq := (x.inSeq + 1) % 2 ^ 32, inTick := s.tb.count, inBytes := x.inBytes ++ exactly n data })

/-- A linked port that Enable is set on becomes Up once bring-up has reached step 12, and Waiting streams of it, or with
Failover, open on it; clearing Enable makes it Linked, switches its queues and rings off, discards its completions,
frees its mailbox and hands its streams to the other Up port or parks them, once the commands that it had taken have
run; a lost link or PERST makes it Down with its registers at reset. The link comes up from bring-up step 7 with PERST
high. A ring is enabled with good sizes only, keeps the sizes it has while enabled, and voids its reservations when
disabled. A consumer index inside its window returns its slots as STALE; another is counted. A holdoff's end raises a
waiting vector. A queue's disable zeroes it. A write to BAR2 is counted. BAR0 reads give the port's status, control,
tick, frame and queue indices, and 0 where nothing is assigned, BAR4 reads the mailbox; the unused part of a ring
reads 0. A Down port takes none of these. (R537, R538, R544, R545, R546, R547, R566, R570, R571, R572, R608, R652) -/
def Obligations.HostPortsAndRingsFollowTheirStates : Prop :=
  (∀ (s : State) (p : Fin 2) (v : BitVec 63) (c : Nat),
    ((s.port p.val).st = .down → exec (.portEnable p v) s = .next s ∧ exec (.portDisable p v) s = .next s ∧ exec (.linkDown p) s = .next s) ∧
    (c = 2 ^ 63 + bits v.toNat 31 4 * 2 ^ 4 + v.toNat % 2 →
      ((s.port p.val).st = .up ∨ ((s.port p.val).st = .linked ∧ s.reg (okey 0x9200 0) = 0 ∧ bits (s.reg keyBootState) 27 24 < 12) →
        exec (.portEnable p v) s = .next (s.setPort p.val { s.port p.val with control := c })) ∧
      ((s.port p.val).st = .linked → (s.reg (okey 0x9200 0) ≠ 0 ∨ 12 ≤ bits (s.reg keyBootState) 27 24) → ∃ t, exec (.portEnable p v) s = .next t ∧ Same [.ports, .streams, .dict, .freeCtr, .test] s t ∧
        (t.port p.val).st = .up ∧ (t.port p.val).control = c ∧ (Tbl.rising s.streams = true → ∀ i,
          t.stream i = if (s.stream i).st = .waiting ∧ ((s.stream i).owner = p.val ∨ (s.stream i).failover = true)
            then { s.stream i with st := .opened, owner := p.val } else s.stream i))) ∧
    (c = bits v.toNat 31 4 * 2 ^ 4 + v.toNat % 2 →
      ((s.port p.val).st = .linked → exec (.portDisable p v) s = .next (s.setPort p.val { s.port p.val with control := c })) ∧
      ((s.port p.val).st = .up → ∃ t, exec (.portDisable p v) s = .next t ∧
        Same [.ports, .streams, .prick, .dict, .ledgerCmd, .freeCtr, .test, .staging, .hub] s t ∧ (t.port p.val).st = .linked ∧ (t.port p.val).control = c))) ∧
  (∀ (s : State) (p : Fin 2) (v : BitVec 63) (i : Instr), i = .portDisable p v ∨ i = .linkDown p ∨ i = .perst p true → (s.port p.val).st = .up →
    Tbl.rising s.ports = true → Tbl.rising (s.port p.val).rings = true → Tbl.rising s.streams = true → Tbl.rising s.dict = true →
    ∃ t, exec i s = .next t ∧ Same [.ports, .streams, .prick, .dict, .ledgerCmd, .tb, .freeCtr, .test, .staging, .hub] s t ∧
      (t.port p.val).st ≠ .up ∧ (t.port p.val).box.busy = false ∧ (∀ q, ((t.port p.val).sq q).enable = false) ∧ (∀ r, r < 64 → ((t.port p.val).ring r).enable = false) ∧
      (t.port p.val).taken = (s.port p.val).taken.map (fun c => { c with ring := none }) ∧
      (i ≠ .portDisable p v → (t.port p.val).st = .down ∧ (t.port p.val).control = 0 ∧ (t.port p.val).bar0 = [] ∧ (t.port p.val).rings = []) ∧
      ((∀ c ∈ (s.port p.val).taken, c.status ≠ none ∨ s.parked p.val c = true) → (t.port p.val).leaving = false ∧
        ∀ j, t.stream j = if (s.stream j).owner = p.val ∧ ((s.stream j).st = .opened ∨ (s.stream j).st = .waiting) then
          (if (s.stream j).failover = true ∧ (s.port (1 - p.val)).st = .up then { s.stream j with owner := 1 - p.val, st := .opened }
            else { s.stream j with st := .waiting }) else s.stream j) ∧
      ((∃ c ∈ (s.port p.val).taken, c.status = none ∧ s.parked p.val c = false) → (t.port p.val).leaving = true ∧ t.streams = s.streams) ∧
      t.reg (hostCtr p.val 8) = s.reg (hostCtr p.val 8) + 1) ∧
  (∀ (s : State) (p : Fin 2) (i : Instr), i = .linkDown p ∨ i = .perst p true → (s.port p.val).st = .linked → Tbl.rising s.ports = true →
    ∃ t, exec i s = .next t ∧ Same [.ports, .tb] s t ∧ (t.port p.val).st = .down ∧ (t.port p.val).control = 0 ∧ (t.port p.val).rings = [] ∧
      (t.port p.val).perst = (decide (i = .perst p true) || (s.port p.val).perst) ∧ t.tb.count = s.tb.count) ∧
  (∀ (s : State) (p : Fin 2), exec (.perst p false) s = .next (s.setPort p.val { s.port p.val with perst := false }) ∧
    ((s.port p.val).st = .down → exec (.perst p true) s = .next (s.setPort p.val { s.port p.val with perst := true })) ∧
    (7 ≤ bits (s.reg keyBootState) 27 24 → s.reg (okey 0x9200 0) ≠ 5 → (s.port p.val).st = .down → (s.port p.val).perst = false →
      ∃ t, exec (.hostLinkUp p) s = .next t ∧ Same [.ports] s t ∧ (t.port p.val).st = .linked ∧ (t.port p.val).taken = (s.port p.val).taken) ∧
    (bits (s.reg keyBootState) 27 24 < 7 ∨ s.reg (okey 0x9200 0) = 5 ∨ (s.port p.val).st ≠ .down ∨ (s.port p.val).perst = true →
      exec (.hostLinkUp p) s = .next s) ∧
    exec (.bar2Write p) s = .next (if (s.port p.val).st ≠ .down then s.bump (hostCtr p.val 7) else s)) ∧
  (∀ (s : State) (p : Fin 2) (q : Fin 64), ((s.port p.val).st = .down → exec (.sqDisable p q) s = .next s) ∧
    ((s.port p.val).st ≠ .down → Tbl.rising (s.port p.val).sqs = true → ∃ t, exec (.sqDisable p q) s = .next t ∧ Same [.ports] s t ∧
      (∀ j, (t.port p.val).sq j = if j = q.val then { (s.port p.val).sq j with enable := false, head := 0, tail := 0 } else (s.port p.val).sq j) ∧
      (t.port p.val).taken = (s.port p.val).taken ∧ (t.port p.val).rings = (s.port p.val).rings)) ∧
  (∀ count size : Nat, ringCheck count size = if (∀ i, i ≤ 14 → 2 ≤ i → count ≠ 2 ^ i) ∨ (∀ i, i ≤ 14 → 6 ≤ i → size ≠ 2 ^ i) then .typeMismatch
    else if 2 ^ 22 < count * size then .lengthExceeds else .ok) ∧
  (∀ (s : State) (p : Fin 2) (i : Fin 64) (count size : BitVec 16) (v : BitVec 32) (r : Ring), r = (s.port p.val).ring i.val →
    ((s.port p.val).st = .down → exec (.ringEnable p i count size) s = .next s ∧ exec (.ringDisable p i) s = .next s ∧ exec (.consumerIndexWrite p i v) s = .next s) ∧
    ((s.port p.val).st ≠ .down → Tbl.rising (s.port p.val).rings = true →
      (r.enable = true → ∃ t, exec (.ringEnable p i count size) s = .next t ∧ Same [.ports] s t ∧ (t.port p.val).ring i.val =
        { r with status := if r.slotCount ≠ count.toNat ∨ r.slotSize ≠ size.toNat then Status.busy.code else 0 }) ∧
      (r.enable = false → ringCheck count.toNat size.toNat ≠ .ok → ∃ t, exec (.ringEnable p i count size) s = .next t ∧ Same [.ports] s t ∧
        (t.port p.val).ring i.val = { r with slotCount := count.toNat, slotSize := size.toNat, status := (ringCheck count.toNat size.toNat).code }) ∧
      (r.enable = false → r.lost = 0 → ringCheck count.toNat size.toNat = .ok → ∃ t, exec (.ringEnable p i count size) s = .next t ∧ Same [.ports] s t ∧
        (t.port p.val).ring i.val = { r with enable := true, slotCount := count.toNat, slotSize := size.toNat, status := 0, producer := 0, consumer := 0, reserved := 0, slots := [] }) ∧
      (r.enable = false → ∃ t, exec (.ringDisable p i) s = .next t ∧ Same [.ports] s t ∧ (t.port p.val).ring i.val = { r with status := 0 }) ∧
      (r.enable = true → ∃ t, exec (.ringDisable p i) s = .next t ∧ Same [.ports, .dict, .ledgerCmd, .staging] s t ∧
        ((t.port p.val).ring i.val).enable = false ∧ ((t.port p.val).ring i.val).reserved = 0 ∧ ((t.port p.val).ring i.val).lost = r.lost + r.reserved ∧
        ((t.port p.val).ring i.val).slotCount = r.slotCount ∧ (∀ c ∈ (t.port p.val).taken, c.ring ≠ some i.val) ∧
        (Tbl.rising s.dict = true → t.reg (hostCtr p.val 5) = s.reg (hostCtr p.val 5) + r.reserved)) ∧
      (newer32 v (BitVec.ofNat 32 r.consumer) = false ∨ newer32 v (BitVec.ofNat 32 r.producer) = true →
        exec (.consumerIndexWrite p i v) s = .next (s.bump (hostCtr p.val 7))) ∧
      (newer32 v (BitVec.ofNat 32 r.consumer) = true → newer32 v (BitVec.ofNat 32 r.producer) = false → ∃ t, exec (.consumerIndexWrite p i v) s = .next t ∧
        Same [.ports] s t ∧ ((t.port p.val).ring i.val).consumer = v.toNat ∧ ((t.port p.val).ring i.val).enable = r.enable ∧
        (r.lost = 0 → Tbl.rising r.slots = true → ((t.port p.val).ring i.val).producer = r.producer ∧
          ∀ j, j < min ((v.toNat + 2 ^ 32 - r.consumer) % 2 ^ 32) r.slotCount →
            (Tbl.get {} ((t.port p.val).ring i.val).slots ((r.consumer + j) % 2 ^ 32 % r.slotCount)).status = Status.stale.code)))) ∧
  (∀ (s : State) (p : Fin 2) (i : Fin 64) (r : Ring), r = (s.port p.val).ring i.val → (r.holding = false → exec (.irqHoldoffEnd p i) s = .next s) ∧
    (r.holding = true → Tbl.rising s.ports = true → Tbl.rising (s.port p.val).rings = true → ∃ t, exec (.irqHoldoffEnd p i) s = .next t ∧ Same [.ports] s t ∧
      (t.port p.val).ring i.val = { r with irqWaits := false, holding := r.irqWaits && decide (r.holdoff ≠ 0) } ∧
      (Tbl.rising (s.port p.val).msix = true → Tbl.get 0 (t.port p.val).msix i.val = Tbl.get 0 (s.port p.val).msix i.val + (if r.irqWaits then 1 else 0)))) ∧
  (∀ (s : State) (p k : Nat), s.readBar0 p 0 = s.portStatus p ∧ s.readBar0 p 8 = (s.port p).control ∧ s.readBar0 p 0x10 = s.tb.count ∧ s.readBar0 p 0x18 = s.tb.frame ∧
    (k < 64 → s.readBar0 p (0x1000 + 8 * k) = ((s.port p).sq k).head * 2 ^ 16 + ((s.port p).sq k).tail ∧
      s.readBar0 p (0x1200 + 8 * k) = ((s.port p).ring k).producer * 2 ^ 32 + ((s.port p).ring k).consumer) ∧
    s.readBar0 p 0x1400 = (s.port p).ledgerQ.head * 2 ^ 16 + (s.port p).ledgerQ.tail ∧
    s.readBar0 p 0x1408 = (s.port p).stagingQ.head * 2 ^ 16 + (s.port p).stagingQ.tail ∧
    ((0x20 ≤ k ∧ k < 0x100) ∨ (0x300 ≤ k ∧ k < 0x400) ∨ 0x1000000 ≤ k → s.readBar0 p k = 0)) ∧
  (∀ (s : State) (p k : Nat) (b : Mailbox), b = (s.port p).box → b.status < 256 → b.respLen ≤ 1280 → s.readBar4 p 0 = b.request ∧ s.readBar4 p 8 = 0 ∧
    s.readBar4 p 0x10 = (if b.busy then 2 ^ 63 else 0) + b.status * 2 ^ 16 + b.respLen ∧
    (k < 160 → s.readBar4 p (0x1000 + 8 * k) = rdLe b.data (8 * k) 8) ∧ (0x1500 ≤ k → s.readBar4 p k = 0)) ∧
  (∀ (s : State) (p i off n : Nat), off + n ≤ 2 ^ 22 → (s.readBar2 p (i * 2 ^ 22 + off) n).length = n ∧
    (((s.port p).ring i).slotCount * ((s.port p).ring i).slotSize ≤ off → 0 < n → s.readBar2 p (i * 2 ^ 22 + off) n = List.replicate n 0))

/-- A frame of another defined opcode than its row's does nothing. A frame that is malformed is counted and not answered;
an unknown session is NOT_READY. A sessionless request past the rate limit is only counted; else a READ answers the
value or the failing check, and an OPEN answers its check, or makes a pending session with a fresh nonzero id. AUTH
opens its pending session, or removes it with BAD_SIGNATURE. On an open session a wrong MAC is counted and not
answered, a kept RequestId is answered again and not carried out again, an older one is STALE; else READ answers the
value, WRITE the status of its write (for a floor that waits, later), READRECORD its record, CLOSE ends the session,
and WATCH sets its list. Reads of an object that is sealed, absent or above the level are refused so. A pending
session expires, and an idle one. (R586, R592, R593, R594, R596, R598, R599, R600, R601, Table 14-6, Table 14-7, Table
14-8) -/
def Obligations.DictionaryFramesAreJudgedAndAnswered : Prop :=
  (∀ (s : State) (p : Fin 2) (f : List Byte) (op : Nat) (i : Instr) (s0 : State),
    (op, i) ∈ [(1, Instr.dapRead p f), (2, .dapWrite p f), (3, .dapReadrecord p f), (4, .dapOpen p f), (5, .dapAuth p f), (6, .dapClose p f), (7, .dapWatch p f)] →
    s0 = { s with dap := { s.dap with sent := [] } } →
    (fOpcode f ≠ op → 1 ≤ fOpcode f → fOpcode f ≤ 7 → exec i s = .next s) ∧
    (fOpcode f = op → s.serves = false → exec i s = .next s0) ∧
    (fOpcode f = op → s.serves = true → (f.length ≠ 24 + fLength f + (if fSession f ≠ 0 ∧ fOpcode f ≠ 5 then 16 else 0) ∨ fVersion f ≠ 1 ∨ fType f ≠ 1) →
      exec i s = .next (s0.bump (keyDap 2))) ∧
    (WellFramed s op f → fSession f ≠ 0 → (∀ x ∈ s.dap.sessions, x.id ≠ fSession f) → ∃ t, exec i s = .next t ∧ Same [.dap, .dict] s t ∧
      t.dap.sent = [dapReply p.val f Status.notReady.code []] ∧ t.dap.sessions = s.dap.sessions) ∧
    (WellFramed s op f → fSession f = 0 → (if s.recovering then 10000 else 100) ≤ s.recentAnswers.length → exec i s = .next (s0.bump (keyDap 6)))) ∧
  (∀ (s : State) (p : Fin 2) (f : List Byte), fSession f = 0 → s.recovering = false → s.recentAnswers.length < 100 → fRsvOk f = true → fLength f ≤ 1280 →
    (WellFramed s 1 f → ∀ r, s.readCheck { level := 0 } (fIndex f) (fSub f) = .ok r → ∃ t, exec (.dapRead p f) s = .next t ∧ Same [.dap, .dict] s t ∧
      t.dap.sent = [dapReply p.val f (if fLength f = 0 then 0 else Status.typeMismatch.code) (if fLength f = 0 then s.readObj (fIndex f) (fSub f) r else [])]) ∧
    (WellFramed s 1 f → ∀ st, s.readCheck { level := 0 } (fIndex f) (fSub f) = .error st → ∃ t, exec (.dapRead p f) s = .next t ∧ Same [.dap, .dict] s t ∧
      t.dap.sent = [dapReply p.val f st.code []]) ∧
    (WellFramed s 4 f → s.openCheck (fPayload f) ≠ .ok → ∃ t, exec (.dapOpen p f) s = .next t ∧ Same [.dap, .dict] s t ∧ t.dap.sessions = s.dap.sessions ∧
      t.dap.sent = [dapReply p.val f (s.openCheck (fPayload f)).code []]) ∧
    (WellFramed s 4 f → s.openCheck (fPayload f) = .ok → ∃ t x, exec (.dapOpen p f) s = .next t ∧ Same [.dap, .dict, .freeCtr] s t ∧
      t.dap.sessions = s.dap.sessions ++ [x] ∧ x.isOpen = false ∧ x.id ≠ 0 ∧ x.id ∉ s.dap.used ∧ x.id ∈ t.dap.used ∧
      x.level = ((fPayload f).getD 0 0).toNat ∧ x.entry = ((fPayload f).getD 1 0).toNat ∧ x.stationNonce = ((fPayload f).drop 8).take 32 ∧
      t.dap.sent = [dapReply p.val f 0 (leBytes 4 x.id ++ List.replicate 4 0 ++ x.deviceNonce)])) ∧
  (∀ (s : State) (p : Fin 2) (f : List Byte) (x : Session), WellFramed s 5 f → fSession f ≠ 0 → s.session (fSession f) = some x → fRsvOk f = true →
    (x.isOpen = true → ∃ t, exec (.dapAuth p f) s = .next t ∧ Same [.dap, .dict] s t ∧ t.dap.sent = [dapReply p.val f Status.notReady.code []]) ∧
    (x.isOpen = false → (fPayload f).length ≠ 1024 → ∃ t, exec (.dapAuth p f) s = .next t ∧ Same [.dap, .dict] s t ∧ t.dap.sessions = s.dap.sessions ∧
      t.dap.sent = [dapReply p.val f Status.typeMismatch.code []]) ∧
    (x.isOpen = false → (fPayload f).length = 1024 → ∃ t, exec (.dapAuth p f) s = .next t ∧ Same [.dap, .dict] s t ∧
      match s.authKey x (fPayload f) with
      | none => t.session (fSession f) = none ∧ t.dap.sent = [dapReply p.val f Status.badSignature.code []]
      | some key => t.session (fSession f) = some { x with isOpen := true, key := key } ∧ t.dap.sent = [(dapReply p.val f 0 []).sign key])) ∧
  (∀ (s : State) (p : Fin 2) (f : List Byte) (x : Session) (op : Nat) (i : Instr) (s0 : State),
    (op, i) ∈ [(1, Instr.dapRead p f), (2, .dapWrite p f), (3, .dapReadrecord p f), (6, .dapClose p f), (7, .dapWatch p f)] → WellFramed s op f → fSession f ≠ 0 →
    s.session (fSession f) = some x → x.isOpen = true → s0 = { s with dap := { s.dap with sent := [] } } →
    (f.drop (24 + fLength f) ≠ mac16 x.key (f.take (24 + fLength f)) → exec i s = .next ((s0.bump (keyDap 2)).bump (keyDap 3))) ∧
    (f.drop (24 + fLength f) = mac16 x.key (f.take (24 + fLength f)) →
      (∀ k, x.kept.find? (fun k => decide (k.request = fRequest f)) = some k → ∃ t, exec i s = .next t ∧ Same [.dap, .dict] s t ∧
        t.dap.sent = [{ k with port := p.val }] ∧ t.dap.sessions = s.dap.sessions) ∧
      ((∀ k ∈ x.kept, k.request ≠ fRequest f) → newer32 (BitVec.ofNat 32 (fRequest f)) (BitVec.ofNat 32 x.newest) = false → ∃ t, exec i s = .next t ∧
        Same [.dap, .dict] s t ∧ t.dap.sent = [(dapReply p.val f Status.stale.code []).sign x.key] ∧ t.dap.sessions = s.dap.sessions) ∧
      ((∀ k ∈ x.kept, k.request ≠ fRequest f) → newer32 (BitVec.ofNat 32 (fRequest f)) (BitVec.ofNat 32 x.newest) = true →
        (fRsvOk f = false ∨ 1280 < fLength f → ∃ t, exec i s = .next t ∧ Same [.dap, .dict] s t ∧
          t.dap.sent = [(dapReply p.val f Status.typeMismatch.code []).sign x.key]) ∧
        (fRsvOk f = true → fLength f ≤ 1280 →
          (op = 1 → fLength f = 0 → ∀ r, s.readCheck { level := x.level } (fIndex f) (fSub f) = .ok r → ∃ t, exec i s = .next t ∧ Same [.dap, .dict] s t ∧
            t.dap.sent = [(dapReply p.val f 0 (s.readObj (fIndex f) (fSub f) r)).sign x.key] ∧
            t.session x.id = some { x with newest := fRequest f, kept := (((dapReply p.val f 0 (s.readObj (fIndex f) (fSub f) r)).sign x.key) :: x.kept).take 32 }) ∧
          (op = 2 → ∀ w, w = s0.writeDict { level := x.level } (fIndex f) (fSub f) (fPayload f) →
            (s0.fenceAsked w = false → ∃ t, exec i s = .next t ∧ Same [.dap, .dict] w t ∧
              t.dap.sent = w.dap.sent ++ [(dapReply p.val f w.lastStatus []).sign x.key]) ∧
            (s0.fenceAsked w = true → ∃ t, exec i s = .next t ∧ Same [.dap, .hub] w t ∧ t.dap.sent = w.dap.sent)) ∧
          (op = 3 → ∀ st b, (s0.serveRecord { level := x.level } (fIndex f) (fSub f) (fLength f)).2 = (st, b) → b.length ≤ 1280 ∧ ∃ t, exec i s = .next t ∧
            Same [.dap, .dict] s t ∧ t.dap.sent = [(dapReply p.val f st b).sign x.key]) ∧
          (op = 6 → ∃ t, exec i s = .next t ∧ Same [.dap, .dict] s t ∧
            (fLength f = 0 → t.session x.id = none ∧ t.dap.sent = [(dapReply p.val f 0 []).sign x.key]) ∧
            (fLength f ≠ 0 → (t.session x.id).isSome = true ∧ t.dap.sent = [(dapReply p.val f Status.typeMismatch.code []).sign x.key])) ∧
          (op = 7 → (fPayload f).length % 4 = 0 → (fPayload f).length ≤ 64 →
            (∀ n, n < (fPayload f).length / 4 → ∃ r, s.readCheck { level := x.level } (bits (leNat (((fPayload f).drop (4 * n)).take 4)) 31 16)
              (bits (leNat (((fPayload f).drop (4 * n)).take 4)) 15 8) = .ok r) → ∃ t y, exec i s = .next t ∧ Same [.dap, .dict] s t ∧ t.session x.id = some y ∧
              y.watch.map (·.1) = (List.range ((fPayload f).length / 4)).map (fun n => bits (leNat (((fPayload f).drop (4 * n)).take 4)) 31 8) ∧
              t.dap.sent = [(dapReply p.val f 0 []).sign x.key]))))) ∧
  (∀ (s : State) (who : Who) (idx sub : Nat),
    (0xE000 ≤ idx → idx ≤ 0xEFFF → s.isSealed = true → s.readCheck who idx sub = .error .sealed) ∧
    (idx < 0xE000 → anyRow idx sub = none → s.readCheck who idx sub = .error .noSuchObject) ∧
    (∀ r, idx < 0xE000 → anyRow idx sub = some r → who.level < readLevel idx sub → s.readCheck who idx sub = .error .accessDenied) ∧
    (∀ r, idx < 0xE000 → anyRow idx sub = some r → readLevel idx sub ≤ who.level → idx ≠ 0xA090 → s.readCheck who idx sub = .ok r)) ∧
  (∀ (s : State) (id : BitVec 32), ∃ t u, exec (.sessionPendingExpiry id) s = .next t ∧ exec (.sessionIdleExpiry id) s = .next u ∧ Same [.dap] s t ∧ Same [.dap] s u ∧
    (∀ x, x ∈ t.dap.sessions ↔ x ∈ s.dap.sessions ∧ ¬(x.id = id.toNat ∧ x.isOpen = false)) ∧
    (∀ x, x ∈ u.dap.sessions ↔ x ∈ s.dap.sessions ∧ ¬(x.id = id.toNat ∧ x.isOpen = true)))

/-- A write that a check of Table 14-7 refuses is answered with it and does nothing else. A plain RW value inside its
range is kept, also in the non-volatile store, and answered OK; outside, TYPE_MISMATCH. A write to sticky bits clears
those written as 1. A key entry takes a level no higher than the writer's, never entry 0 nor level 3 once sealed, and
closes its sessions. The seal arms with the serial's low word, seals with its inverse, which closes every level-3
session, and disarms with anything else or after 10 s. A restore is noted. A field network setting takes effect in
turn, and a link is as the event says. BAR0 queue memory, ring holdoff and mailbox words are stored on a port whose
BARs serve, and otherwise nothing. The mailbox runs its request at the port's level, or counts a write while busy.
(R24, R380, R586, R587, R589, R595, R603, R604, R605, R606, R608, R609) -/
def Obligations.DictionaryWritesTakeEffectByTheirObjects : Prop :=
  (∀ (s : State) (idx : BitVec 16) (sub : BitVec 8) (d : List Byte) (v : Nat), v = leNat d →
    (s.serves = false ∨ s.recovering = true → exec (.registerWrite (.object idx sub d)) s = .next s) ∧
    (s.serves = true → s.recovering = false →
      (∀ st, s.writeCheck { level := if s.isSealed then 2 else 3 } idx.toNat sub.toNat d.length = .error st →
        exec (.registerWrite (.object idx sub d)) s = .next { s with lastStatus := st.code }) ∧
      (∀ r, s.writeCheck { level := if s.isSealed then 2 else 3 } idx.toNat sub.toNat d.length = .ok r →
        (idx.toNat ∈ [0x2022, 0x8002, 0x8024, 0x8025, 0x7020] → (v < r.lo ∨ r.hi < v) →
          exec (.registerWrite (.object idx sub d)) s = .next { s with lastStatus := Status.typeMismatch.code }) ∧
        (idx.toNat ∈ [0x2022, 0x8002, 0x8024, 0x8025, 0x7020] → r.lo ≤ v → v ≤ r.hi → ∃ t, exec (.registerWrite (.object idx sub d)) s = .next t ∧
          Same [.dict, .nv, .lastStatus] s t ∧ t.lastStatus = 0 ∧ (Tbl.rising s.dict = true → ∀ k, t.reg k = if k = okey idx.toNat sub.toNat then v else s.reg k) ∧
          (Tbl.rising s.nv = true → Tbl.get (dictDflt (okey idx.toNat sub.toNat)) t.nv (okey idx.toNat sub.toNat) = v)) ∧
        (r.access = .w1c → ∃ t, exec (.registerWrite (.object idx sub d)) s = .next t ∧ Same [.dict, .lastStatus] s t ∧ t.lastStatus = 0 ∧
          (Tbl.rising s.dict = true → ∀ k, t.reg k = if k = okey idx.toNat sub.toNat then s.reg k - (s.reg k &&& stickyMask idx.toNat &&& v) else s.reg k))))) ∧
  (∀ (s : State) (who : Who) (idx sub size : Nat),
    (∀ r, idx < 0xE000 → anyRow idx sub = some r → writeLevel idx sub ≤ who.level → r.access = .ro → s.writeCheck who idx sub size = .error .accessDenied) ∧
    (∀ r, idx < 0xE000 → anyRow idx sub = some r → who.level < writeLevel idx sub → s.writeCheck who idx sub size = .error .accessDenied) ∧
    (∀ r, idx < 0xE000 → anyRow idx sub = some r → writeLevel idx sub ≤ who.level → r.access ≠ .ro → idx ≠ 0x1100 → who.bar4 = false → size ≠ r.type.size →
      s.writeCheck who idx sub size = .error .typeMismatch)) ∧
  (∀ (s : State) (level : Fin 4) (sub : Fin 16) (v e new : Nat), e = sub.val / 2 → new = (if sub.val % 2 = 1 then v else s.keyLevel e) →
    (e = 0 → exec (.accessKeyWrite level sub v) s = .next { s with lastStatus := Status.accessDenied.code }) ∧
    (e ≠ 0 → sub.val % 2 = 1 → 3 < v → exec (.accessKeyWrite level sub v) s = .next { s with lastStatus := Status.typeMismatch.code }) ∧
    (e ≠ 0 → (sub.val % 2 = 1 → v ≤ 3) → (level.val < s.keyLevel e ∨ level.val < new) →
      exec (.accessKeyWrite level sub v) s = .next { s with lastStatus := Status.accessDenied.code }) ∧
    (s.isSealed = true → new = 3 → exec (.accessKeyWrite level sub v) s = .next { s with lastStatus := Status.accessDenied.code }) ∧
    (e ≠ 0 → (sub.val % 2 = 1 → v ≤ 3) → (s.isSealed = false ∨ new ≠ 3) → s.keyLevel e ≤ level.val → new ≤ level.val → ∃ t, exec (.accessKeyWrite level sub v) s = .next t ∧
      Same [.dict, .nv, .dap, .lastStatus] s t ∧ t.lastStatus = 0 ∧ (∀ x, x ∈ t.dap.sessions ↔ x ∈ s.dap.sessions ∧ x.entry ≠ e) ∧
      (Tbl.rising s.dict = true → ∀ k, t.reg k = if k = okey 0x1100 (sub.val + 1) then v else s.reg k))) ∧
  (∀ (s : State) (v : BitVec 32) (n : Nat) (i : Instr), i = .fieldSealArm v ∨ i = .fieldSealConfirm v → n = s.fuse (okey 0x0101 4) % 2 ^ 32 →
    (s.sec.armed = false → v.toNat = n → exec i s = .next { s with sec := { s.sec with armed := true }, lastStatus := 0 }) ∧
    (s.sec.armed = false → v.toNat ≠ n → exec i s = .next { s with lastStatus := Status.typeMismatch.code }) ∧
    (s.sec.armed = true → v.toNat ≠ 2 ^ 32 - 1 - n → exec i s = .next { s with sec := { s.sec with armed := false }, lastStatus := Status.typeMismatch.code }) ∧
    (s.sec.armed = true → v.toNat = 2 ^ 32 - 1 - n → ∃ t, exec i s = .next t ∧ Same [.sec, .dap, .lastStatus] s t ∧ t.lastStatus = 0 ∧
      t.sec = { s.sec with armed := false, sealBits := 4 } ∧ t.isSealed = true ∧ (∀ x, x ∈ t.dap.sessions ↔ x ∈ s.dap.sessions ∧ x.level ≠ 3))) ∧
  (∀ (s : State) (v : Nat) (p : Fin 2) (up : Bool), exec .fieldSealArmExpiry s = .next { s with sec := { s.sec with armed := false } } ∧
    exec (.restoreDefaults v) s = .next (if v = 1 then { s with dap := { s.dap with restore := true }, lastStatus := 0 }
      else { s with lastStatus := Status.typeMismatch.code }) ∧
    (s.dap.netNext = [] → exec .networkConfigApply s = .next s) ∧
    (∀ k x r, s.dap.netNext = (k, x) :: r → ∃ t, exec .networkConfigApply s = .next t ∧ Same [.dap] s t ∧ t.dap.netNext = r ∧
      t.dap.sessions = s.dap.sessions ∧ (Tbl.rising s.dap.net = true → t.netValue k = x ∧ ∀ j, j ≠ k → t.netValue j = s.netValue j)) ∧
    (∃ t, exec (.fieldNetworkLink p up) s = .next t ∧ Same [.dap] s t ∧ t.dap.sessions = s.dap.sessions ∧
      (Tbl.rising s.dap.link = true → ∀ q, Tbl.get false t.dap.link q = if q = p.val then up else Tbl.get false s.dap.link q))) ∧
  (∀ (s : State) (p : Fin 2) (off : BitVec 32) (o4 : BitVec 16) (v : BitVec 64) (o : Nat), o = off.toNat / 8 * 8 →
    (s.barServes p.val = false → exec (.registerWrite (.bar0 p off v)) s = .next s ∧ exec (.registerWrite (.bar4 p o4 v)) s = .next s) ∧
    (s.barServes p.val = true →
      (0x400000 ≤ o → o < 0x800000 → Tbl.rising (s.port p.val).bar0 = true → ∃ t, exec (.registerWrite (.bar0 p off v)) s = .next t ∧ Same [.ports] s t ∧
        (∀ a, (t.port p.val).word a = if a / 8 = o / 8 then v.toNat else (s.port p.val).word a) ∧ (t.port p.val).st = (s.port p.val).st) ∧
      (0x400 ≤ o → o < 0x800 → o % 16 ≠ 0 → Tbl.rising (s.port p.val).rings = true → ∃ t, exec (.registerWrite (.bar0 p off v)) s = .next t ∧ Same [.ports] s t ∧
        (t.port p.val).ring ((o - 0x400) / 16) = { (s.port p.val).ring ((o - 0x400) / 16) with holdoff := bits v.toNat 31 16 }) ∧
      (o4.toNat / 8 = 0 → ∃ t, exec (.registerWrite (.bar4 p o4 v)) s = .next t ∧ Same [.ports] s t ∧
        (t.port p.val).box = { (s.port p.val).box with request := v.toNat }))) ∧
  (∀ (s : State) (p : Fin 2) (w n idx sub : Nat), w = (s.port p.val).box.request → n = bits w 15 0 → idx = bits w 47 32 → sub = bits w 31 24 →
    (s.barServes p.val = false → exec (.bar4Go p) s = .next s) ∧
    (s.barServes p.val = true → (s.port p.val).box.busy = true → exec (.bar4Go p) s = .next (s.bump (keyDap 8))) ∧
    (s.barServes p.val = true → (s.port p.val).box.busy = false →
      ((bits w 63 56 ∉ [1, 2, 3] ∨ bits w 55 48 ≠ 0 ∨ bits w 23 16 ≠ 0 ∨ 1280 < n) → ∃ t, exec (.bar4Go p) s = .next t ∧ Same [.ports] s t ∧
        (t.port p.val).box.status = Status.typeMismatch.code ∧ (t.port p.val).box.respLen = 0 ∧ (t.port p.val).box.busy = false) ∧
      (∀ r, bits w 63 56 = 1 → bits w 55 48 = 0 → bits w 23 16 = 0 → n = 0 → s.readCheck { level := s.reg (okey 0x1210 (p.val + 1)), bar4 := true } idx sub = .ok r →
        ∃ t, exec (.bar4Go p) s = .next t ∧ Same [.ports] s t ∧ (t.port p.val).box.status = 0 ∧ (t.port p.val).box.respLen = (s.readObj idx sub r).length ∧
          (t.port p.val).box.data = wrBytes (s.port p.val).box.data 0 (s.readObj idx sub r)) ∧
      (∀ st, bits w 63 56 = 2 → bits w 55 48 = 0 → bits w 23 16 = 0 → n ≤ 1280 →
        s.writeCheck { level := s.reg (okey 0x1210 (p.val + 1)), bar4 := true } idx sub n = .error st → ∃ t, exec (.bar4Go p) s = .next t ∧
          Same [.ports, .lastStatus] s t ∧ (t.port p.val).box.status = st.code)))

/-- The five update commands answer the first check that fails and do nothing else. Staging reads the image, which ends
its channels' self-refresh and changes no byte, verifies it and writes it to the inactive slot, which holds it when
staging ends. Apply, revert and resume begin switching at the next frame boundary, at once done where no instance is
left; the hub boot stage waits for the next bring-up. A slice starts the target slot's image on the lowest instance
still to switch, or waits where its die or region is down. An alive report counts the instance, and with the last one
the slot is active; a missing report stops the update with DISCARDED, a missing unit with NOT_READY. A commit makes
the slot active and raises the rollback counter to a higher SecurityVersion with one more blown bit, or is
LENGTH_EXCEEDS with none left; AutoCommitHours commits alone. (R666, R667, R672, R673, R674, R675, R676, R677, R679,
R680, Table 16-4) -/
def Obligations.UpdatesStageSwitchAndCommit : Prop :=
  (∀ (s : State) (v : Nat) (i : Instr), (v, i) ∈ [(1, Instr.updateStage), (2, .updateApply), (3, .updateCommit), (4, .updateRevert), (5, .updateResume)] →
    (s.updateCheck v ≠ .ok → exec i s = .next { s with lastStatus := (s.updateCheck v).code }) ∧
    (compOk (s.reg (okey 0xA040 1)) = false → s.updateCheck v = .typeMismatch) ∧
    (compOk (s.reg (okey 0xA040 1)) = true → s.powerState ≠ 1 → s.updateCheck v = .notReady) ∧
    (compOk (s.reg (okey 0xA040 1)) = true → s.powerState = 1 → s.sec.update.ph.running = true → v = 1 ∨ v = 2 ∨ v = 5 → s.updateCheck v = .busy)) ∧
  (∀ (s : State) (c : Nat), c = s.reg (okey 0xA040 1) → s.updateCheck 1 = .ok → ∃ t, exec .updateStage s = .next t ∧ Same [.sec, .dict, .stores, .lastStatus] s t ∧
    (Tbl.rising s.stores = true → ∀ u, (t.store u).mem = (s.store u).mem ∧ (t.store u).poison = (s.store u).poison) ∧
    (match s.tierFetch (s.reg (okey 0xA040 2)) (s.reg (okey 0xA040 3)) with
      | .error st => t.lastStatus = st.code ∧ t.sec = s.sec ∧ (st ≠ .uncorrected → t.dict = s.dict) ∧
          (st = .uncorrected → Tbl.rising s.dict = true → t.reg keyUpdStatus = st.code)
      | .ok b => match s.stageCheckImage c b with
        | some st => t.lastStatus = st.code ∧ t.sec = s.sec ∧ t.dict = s.dict
        | none => t.lastStatus = 0 ∧ t.sec.update.ph = .staging ∧ t.sec.update.comp = c ∧ t.sec.update.slot = 1 - s.activeSlot c ∧ t.sec.update.image = b ∧
            t.sec.slots = s.sec.slots ∧ t.reg keyUpdStatus = Status.busy.code)) ∧
  (∀ (s : State), (s.sec.update.ph ≠ .staging → exec .updateStageEnd s = .next s) ∧
    (s.sec.update.ph = .staging → ∃ t, exec .updateStageEnd s = .next t ∧ Same [.sec, .dict] s t ∧ t.sec.update.ph = .staged ∧ t.sec.update.image = [] ∧
      (Tbl.rising s.sec.slots = true → t.slotImage s.sec.update.comp s.sec.update.slot = s.sec.update.image) ∧ t.sec.runs = s.sec.runs ∧ t.sec.active = s.sec.active ∧
      (Tbl.rising s.dict = true → t.reg keyUpdStatus = 0 ∧ t.reg keyUpdDone = 0))) ∧
  (∀ (s : State) (v : Nat) (rev : Bool) (i : Instr) (u : Update), u = s.sec.update →
    (v, rev, i) ∈ [(2, false, Instr.updateApply), (4, true, .updateRevert), (5, u.reverts, .updateResume)] → s.updateCheck v = .ok →
    ∃ t, exec i s = .next t ∧ Same [.sec, .dict, .lastStatus] s t ∧ t.lastStatus = 0 ∧ t.sec.update.reverts = rev ∧ t.sec.update.frame = s.tb.frame + 1 ∧
      t.sec.runs = s.sec.runs ∧ t.sec.active = s.sec.active ∧ t.sec.update.reverted = (u.reverted || rev) ∧
      (u.comp ≠ 1 → (∃ k ∈ List.range (instances u.comp), if rev then s.runsSlot u.comp k = u.slot + 1 else s.runsSlot u.comp k ≠ u.slot + 1) →
        t.sec.update.ph = (if rev then .reverting else .applying) ∧ t.reg keyUpdStatus = Status.busy.code) ∧
      (u.comp ≠ 1 → (∀ k ∈ List.range (instances u.comp), if rev then s.runsSlot u.comp k ≠ u.slot + 1 else s.runsSlot u.comp k = u.slot + 1) →
        t.sec.update.ph = (if rev then .none else .staged) ∧ (Tbl.rising s.dict = true → t.reg keyUpdStatus = 0)) ∧
      (u.comp = 1 → t.sec.update.boot = !(rev && decide (s.switched = 0)) ∧ t.sec.update.ph = (if rev = true ∧ s.switched = 0 then .none else .staged))) ∧
  (∀ (s : State) (i : Instr) (c v h : Nat), c = s.sec.update.comp → v = imgSecurity (s.slotImage c s.sec.update.slot) → h = s.reg (okey 0xA040 9) →
    (i = .updateCommit ∧ s.updateCheck 3 = .ok) ∨ (i = .autoCommit ∧ h ≠ 0 ∧ s.sec.update.ph = .staged ∧ c ≠ 1 ∧ s.sec.update.reverted = false ∧
      s.reg keyUpdDone = instances c ∧ s.sec.update.last + h * hourTicks ≤ s.tb.count) →
    (s.rollback c < v → 256 ≤ Tbl.get 0 s.sec.blown c → exec i s = .next { s with lastStatus := if i = .updateCommit then Status.lengthExceeds.code else s.lastStatus }) ∧
    (v ≤ s.rollback c ∨ Tbl.get 0 s.sec.blown c < 256 → ∃ t, exec i s = .next t ∧ Same [.sec, .dict, .lastStatus] s t ∧
      t.lastStatus = (if i = .updateCommit then 0 else s.lastStatus) ∧ t.sec.update.ph = .committed ∧ t.rollback c = max (s.rollback c) v ∧
      (v ≤ s.rollback c → t.sec.blown = s.sec.blown ∧ t.sec.counters = s.sec.counters) ∧
      (s.rollback c < v → Tbl.get 0 t.sec.blown c = Tbl.get 0 s.sec.blown c + 1) ∧ (Tbl.rising s.sec.active = true → t.activeSlot c = s.sec.update.slot) ∧
      t.sec.slots = s.sec.slots ∧ t.sec.runs = s.sec.runs)) ∧
  (∀ (s : State), s.reg (okey 0xA040 9) = 0 ∨ s.sec.update.ph ≠ .staged ∨ s.sec.update.comp = 1 ∨ s.sec.update.reverted = true ∨
    s.reg keyUpdDone ≠ instances s.sec.update.comp ∨ s.tb.count < s.sec.update.last + s.reg (okey 0xA040 9) * hourTicks → exec .autoCommit s = .next s) ∧
  (∀ (s : State) (u : Update), u = s.sec.update →
    ((u.ph ≠ .applying ∧ u.ph ≠ .reverting) ∨ u.fresh ≠ none ∨ u.back ≠ none ∨ s.sliceTime = false ∨ s.toSwitch = [] → exec .updateSlice s = .next s) ∧
    (∀ k l, u.ph = .applying ∨ u.ph = .reverting → u.fresh = none → u.back = none → s.sliceTime = true → s.toSwitch = k :: l →
      (s.instanceDown u.comp k = true → exec .updateSlice s = .next { s with sec := { s.sec with update := { u with waits := true } } }) ∧
      (s.instanceDown u.comp k = false → ∃ t, exec .updateSlice s = .next t ∧ Same [.sec] s t ∧ t.runsSlot u.comp k = (if u.reverts then 1 - u.slot else u.slot) + 1 ∧
        t.sec.update = { u with
          fresh := some (k, s.runsSlot u.comp k)
          waits := false
          frame := s.tb.frame + s.reg (okey 0xA040 8)
          holdTo := s.tb.count + s.reg (okey 0xA040 7)
          last := s.tb.count } ∧ t.sec.slots = s.sec.slots ∧ t.sec.active = s.sec.active))) ∧
  (∀ (s : State) (u : Update), u = s.sec.update →
    (u.fresh = none → exec .imageAliveReport s = .next s ∧ exec .imageAliveTimeout s = .next s) ∧
    (∀ f, u.fresh = some f →
      (∃ t, exec .imageAliveReport s = .next t ∧ Same [.sec, .dict] s t ∧ t.sec.update.fresh = none ∧ t.sec.runs = s.sec.runs ∧
        (Tbl.rising s.dict = true → t.reg keyUpdDone = s.switched) ∧
        (s.toSwitch ≠ [] → t.sec.update.ph = u.ph ∧ t.sec.active = s.sec.active) ∧
        (s.toSwitch = [] → t.sec.update.ph = (if u.ph = .stopped then .stopped else if u.reverts then .none else .staged) ∧
          (Tbl.rising s.sec.active = true → t.activeSlot u.comp = if u.reverts then 1 - u.slot else u.slot))) ∧
      (∃ t, exec .imageAliveTimeout s = .next t ∧ Same [.sec, .dict] s t ∧ t.sec.update = { u with fresh := none, back := some f, ph := .stopped } ∧
        t.sec.runs = s.sec.runs ∧ t.reg keyUpdStatus = Status.discarded.code)) ∧
    (u.waits = false → exec .sliceRetryTimeout s = .next s) ∧
    (u.waits = true → ∃ t, exec .sliceRetryTimeout s = .next t ∧ Same [.sec, .dict] s t ∧ t.sec.update = { u with waits := false, ph := .stopped } ∧
      t.sec.runs = s.sec.runs ∧ t.reg keyUpdStatus = Status.notReady.code))

/-- Out of recovery its four writes are NOT_READY. A length in range clears slot 0 and its record of pieces, another is
LENGTH_EXCEEDS; an offset is kept; a piece of 512 bytes inside the length lands at its offset and is counted once,
with TYPE_MISMATCH, NOT_READY, BAD_ALIGN or LENGTH_EXCEEDS for what does not fit. Verification waits for every piece;
then RecoveryStatus shows its outcome, and a good image ends recovery at step 2 of bring-up. A port that does not
serve answers no SPDM request; while the security engine firmware is replaced the answer is Busy, and out of order
UnexpectedRequest. Version, capabilities and algorithms move the connection on. Digests, certificate portions,
challenges and measurements answer, slot 0 and the 60 blocks alone, and signed answers start the transcript anew.
(R652, R664, R669, R670, R671, Table 16-4, Table 16-7) -/
def Obligations.RecoveryAndAttestationAnswer : Prop :=
  (∀ (s : State) (v : Nat) (b : List Byte) (i : Instr), i = .recoveryLength v ∨ i = .recoveryOffset v ∨ i = .recoveryPiece b ∨ i = .recoveryVerify v →
    s.recovering = false → exec i s = .next { s with lastStatus := Status.notReady.code }) ∧
  (∀ (s : State) (v : Nat), s.recovering = true →
    (v < 1216 ∨ 1152 + 2 ^ 26 < v → exec (.recoveryLength v) s = .next { s with lastStatus := Status.lengthExceeds.code }) ∧
    (1216 ≤ v → v ≤ 1152 + 2 ^ 26 → ∃ t, exec (.recoveryLength v) s = .next t ∧ Same [.sec, .dict, .lastStatus] s t ∧ t.lastStatus = 0 ∧
      t.sec.recLength = some v ∧ t.sec.recPieces = [] ∧ (Tbl.rising s.sec.slots = true → t.slotImage 2 0 = [] ∧ t.slotImage 2 1 = s.slotImage 2 1)) ∧
    exec (.recoveryOffset v) s = .next { s with sec := { s.sec with recOffset := v }, lastStatus := 0 }) ∧
  (∀ (s : State) (p : List Byte) (o : Nat), s.recovering = true → o = s.sec.recOffset →
    (p.length ≠ 512 → exec (.recoveryPiece p) s = .next { s with lastStatus := Status.typeMismatch.code }) ∧
    (p.length = 512 → s.sec.recLength = none → exec (.recoveryPiece p) s = .next { s with lastStatus := Status.notReady.code }) ∧
    (∀ n, p.length = 512 → s.sec.recLength = some n →
      (o % 512 ≠ 0 → exec (.recoveryPiece p) s = .next { s with lastStatus := Status.badAlign.code }) ∧
      (o % 512 = 0 → n ≤ o → exec (.recoveryPiece p) s = .next { s with lastStatus := Status.lengthExceeds.code }) ∧
      (o % 512 = 0 → o < n → ∃ t, exec (.recoveryPiece p) s = .next t ∧ Same [.sec, .dict, .lastStatus] s t ∧ t.lastStatus = 0 ∧
        ((t.slotImage 2 0).drop o).take (min 512 (n - o)) = p.take (min 512 (n - o)) ∧ (∀ x, x ∈ t.sec.recPieces ↔ x ∈ s.sec.recPieces ∨ x = o) ∧
        (∀ j, j < o → j < (s.slotImage 2 0).length → (t.slotImage 2 0)[j]? = (s.slotImage 2 0)[j]?)))) ∧
  (∀ (s : State) (v : Nat), s.recovering = true →
    (v ≠ 1 → exec (.recoveryVerify v) s = .next { s with lastStatus := Status.typeMismatch.code }) ∧
    (s.sec.recLength = none → exec (.recoveryVerify 1) s = .next { s with lastStatus := Status.notReady.code }) ∧
    (∀ n, s.sec.recLength = some n → s.sec.recPieces.length < (n + 511) / 512 → exec (.recoveryVerify 1) s = .next { s with lastStatus := Status.notReady.code }) ∧
    (∀ n, s.sec.recLength = some n → (n + 511) / 512 ≤ s.sec.recPieces.length → ∃ t, exec (.recoveryVerify 1) s = .next t ∧ Same [.dict, .lastStatus] s t ∧
      t.lastStatus = 0 ∧ (Tbl.rising s.dict = true → match s.verifyImage 2 (s.slotImage 2 0) with
        | some e => t.reg keyRecStatus = e.code ∧ t.recovering = true
        | none => t.reg keyRecStatus = 0 ∧ t.recovering = false ∧ bits (t.reg keyBootState) 27 24 = 2))) ∧
  (∀ (s : State) (p : Fin 2) (need : Nat) (i : Instr) (offered : Bool) (slot : Fin 8) (off len : BitVec 16) (sum signed : Bool) (nonce : List Byte) (index : BitVec 8),
    (need, i) ∈ [(0, Instr.getVersion p), (1, .getCapabilities p), (2, .negotiateAlgorithms p offered), (3, .getDigests p), (3, .getCertificate p slot off len),
      (3, .challenge p slot sum nonce), (3, .getMeasurements p index signed nonce)] →
    (s.doeServes p.val = false → exec i s = .next s) ∧
    (s.doeServes p.val = true → s.pausedBy 3 0 = true →
      exec i s = .next { s with sec := { s.sec with spdmSent := some { port := p.val, code := 0x7F, content := leBytes 1 3 } } }) ∧
    (s.doeServes p.val = true → s.pausedBy 3 0 = false → s.spdmAt p.val < need →
      exec i s = .next { s with sec := { s.sec with spdmSent := some { port := p.val, code := 0x7F, content := leBytes 1 4 } } })) ∧
  (∀ (s : State) (p : Fin 2), s.doeServes p.val = true → s.pausedBy 3 0 = false →
    (∃ t, exec (.getVersion p) s = .next t ∧ Same [.sec] s t ∧ t.spdmAt p.val = 1 ∧
      t.sec.spdmSent = some { port := p.val, code := 4, content := leBytes 2 0x1300 } ∧
      (Tbl.rising s.sec.transcript = true → Tbl.get [] t.sec.transcript p.val = leBytes 1 0x84 ++ leBytes 1 4 ++ leBytes 2 0x1300)) ∧
    (1 ≤ s.spdmAt p.val → ∃ t, exec (.getCapabilities p) s = .next t ∧ Same [.sec] s t ∧ t.spdmAt p.val = 2 ∧
      t.sec.spdmSent = some { port := p.val, code := 0x61, content := leBytes 4 22 }) ∧
    (2 ≤ s.spdmAt p.val → (∃ t, exec (.negotiateAlgorithms p true) s = .next t ∧ Same [.sec] s t ∧ t.spdmAt p.val = 3 ∧
        t.sec.spdmSent = some { port := p.val, code := 0x63, content := leBytes 4 64 ++ leBytes 4 4 ++ leBytes 4 8 }) ∧
      exec (.negotiateAlgorithms p false) s = .next { s with sec := { s.sec with spdmSent := some { port := p.val, code := 0x7F, content := leBytes 1 1 } } })) ∧
  (∀ (s : State) (p : Fin 2) (slot : Fin 8) (off len : BitVec 16) (sum signed : Bool) (nonce : List Byte) (index : BitVec 8), s.doeServes p.val = true →
    s.pausedBy 3 0 = false → 3 ≤ s.spdmAt p.val →
    (∃ t, exec (.getDigests p) s = .next t ∧ Same [.sec] s t ∧ t.sec.spdmSent = some { port := p.val, code := 1, content := leBytes 1 1 ++ Config.sha512 s.certChain } ∧
      t.spdmAt p.val = s.spdmAt p.val) ∧
    (∃ t, exec (.getCertificate p slot off len) s = .next t ∧ Same [.sec] s t ∧ t.sec.spdmSent = (if slot.val ≠ 0 ∨ s.certChain.length < off.toNat
      then some { port := p.val, code := 0x7F, content := leBytes 1 1 } else some { port := p.val, code := 2, content := (s.certChain.drop off.toNat).take len.toNat })) ∧
    (slot.val ≠ 0 → exec (.challenge p slot sum nonce) s = .next { s with sec := { s.sec with spdmSent := some { port := p.val, code := 0x7F, content := leBytes 1 1 } } }) ∧
    (slot.val = 0 → ∃ t r, exec (.challenge p slot sum nonce) s = .next t ∧ Same [.sec, .freeCtr] s t ∧ t.sec.spdmSent = some r ∧ r.port = p.val ∧ r.code = 3 ∧
      r.content = Config.sha512 s.certChain ++ leBytes 32 (Config.freeNat s.freeCtr) ++
        (if sum then Config.sha512 ((List.range 60).flatMap (fun i => s.measure (i + 1))) else []) ∧
      r.signature = Config.pssSign (Tbl.get [] s.sec.transcript p.val ++ leBytes 1 0x83 ++ nonce ++ leBytes 1 3 ++ r.content) ∧ t.freeCtr = s.freeCtr + 1 ∧
      (Tbl.rising s.sec.transcript = true → Tbl.get [] t.sec.transcript p.val = [])) ∧
    (60 < index.toNat → index.toNat ≠ 255 → exec (.getMeasurements p index signed nonce) s =
      .next { s with sec := { s.sec with spdmSent := some { port := p.val, code := 0x7F, content := leBytes 1 1 } } }) ∧
    (1 ≤ index.toNat → index.toNat ≤ 60 → ∃ t, exec (.getMeasurements p index false nonce) s = .next t ∧ Same [.sec] s t ∧
      t.sec.spdmSent = some { port := p.val, code := 0x60, content := leBytes 1 1 ++ (leBytes 1 index.toNat ++ s.measure index.toNat) }) ∧
    (1 ≤ index.toNat → index.toNat ≤ 60 → ∃ t r, exec (.getMeasurements p index true nonce) s = .next t ∧ Same [.sec, .freeCtr] s t ∧ t.sec.spdmSent = some r ∧ r.code = 0x60 ∧
      r.content = leBytes 1 1 ++ (leBytes 1 index.toNat ++ s.measure index.toNat) ++ leBytes 32 (Config.freeNat s.freeCtr) ∧
      r.signature = Config.pssSign (Tbl.get [] s.sec.transcript p.val ++ leBytes 1 0xE0 ++ nonce ++ leBytes 1 0x60 ++ r.content)) ∧
    (index.toNat = 0 → ∃ t, exec (.getMeasurements p index false nonce) s = .next t ∧ Same [.sec] s t ∧
      t.sec.spdmSent = some { port := p.val, code := 0x60, content := leBytes 1 60 }) ∧
    (index.toNat = 255 → ∃ t, exec (.getMeasurements p index false nonce) s = .next t ∧ Same [.sec] s t ∧ t.sec.spdmSent = some { port := p.val, code := 0x60, content := leBytes 1 60 ++ ((List.range 60).map (· + 1)).flatMap (fun k => leBytes 1 k ++ s.measure k) }))

/-- A slice starts on a unit that may be tested now, an overdue one first, and holds its core or bank, or takes its lane
from the pool. At its end it is counted by its kind; a first failure runs it again; a pass or a second failure ends it
at the cycle's clock, a core's accumulators read 0.0, and the failure is counted and acts: the core leaves service,
the region's bit is set. DieBistCommand answers TYPE_MISMATCH for no compute site, BUSY under a test, NOT_READY out of
service, and else starts the test, which BUSY shows. The test's end acts on the units that failed, marks the cores of
a margin failure, shows the outcome of a commanded test and ends the state of test. The test port's chain runs from
the hub through the fitted dies in ascending sites, a stack's layers upwards; it carries out an instruction in test
mode only, and no internal scan once sealed. (R681, R682, R683, R684, R685, R688, R689, R690, R691, R692, R693, Table
17-2) -/
def Obligations.SelfTestsRunAndActOnFailures : Prop :=
  (∀ (s : State) (u : BistUnit),
    (s.bistReady u = false ∨ (s.bistOverdue u = false ∧ s.bistCycle ≤ s.test.clock ∧ ∃ v ∈ bistUnits (bistKind u), s.bistOverdue v = true ∧ s.bistReady v = true) →
      exec (.bistSliceStart u) s = .next s) ∧
    (s.bistReady u = true → (s.bistOverdue u = true ∨ s.test.clock < s.bistCycle ∨ ∀ v ∈ bistUnits (bistKind u), s.bistOverdue v = true → s.bistReady v = false) →
      ∃ t, exec (.bistSliceStart u) s = .next t ∧ Same [.test, .cores, .lanes] s t ∧ t.test.slices = s.test.slices ++ [{ unit := u }] ∧
        (match u with
          | .core d m => t.lanes = s.lanes ∧ t.core (coreKey d.val m.val) = { s.core (coreKey d.val m.val) with bist := true }
          | .bank d m b => t.lanes = s.lanes ∧ t.core (coreKey d.val m.val) = { s.core (coreKey d.val m.val) with bistBank := some b.val }
          | .lane a n => t.cores = s.cores ∧ (t.lane a.val n.val).cal = (if (s.lane a.val n.val).tx = .leased then 1 else 2)
          | .region _ _ => t.cores = s.cores ∧ t.lanes = s.lanes))) ∧
  (∀ (s : State) (u : BistUnit) (pass : Bool), ((∀ b ∈ s.test.slices, b.unit ≠ u) → exec (.bistSliceEnd u pass) s = .next s) ∧
    (∀ a n, u = .lane a n → (s.lane a.val n.val).cal ≠ 2 → exec (.bistSliceEnd u pass) s = .next s) ∧
    (∀ b, s.test.slices.find? (fun b => b.unit == u) = some b → (∀ a n, u = .lane a n → (s.lane a.val n.val).cal = 2) → Tbl.rising s.dict = true →
      (pass = false → b.again = false → ∃ t, exec (.bistSliceEnd u pass) s = .next t ∧ Same [.test, .dict] s t ∧
        (∀ k, t.reg k = if k = okey 0xB002 (bistKind u + 1) then s.reg k + 1 else s.reg k) ∧
        t.test.slices = s.test.slices.map (fun x => if x.unit = u then { x with again := true } else x)) ∧
      (pass = true → ∃ t, exec (.bistSliceEnd u pass) s = .next t ∧ Same [.test, .dict, .cores, .lanes, .rings, .paths, .regions, .calCmd] s t ∧
        t.test.slices = s.test.slices.filter (fun x => decide (x.unit ≠ u)) ∧ t.reg (okey 0xB002 (bistKind u + 1)) = s.reg (okey 0xB002 (bistKind u + 1)) + 1 ∧
        (Tbl.rising s.test.last = true → Tbl.get 0 t.test.last (bistKey u) = s.test.clock) ∧
        (∀ d m, u = .core d m → Tbl.rising s.cores = true → (t.core (coreKey d.val m.val)).acc = [] ∧ (t.core (coreKey d.val m.val)).bist = false)) ∧
      (pass = false → b.again = true → ∃ t, exec (.bistSliceEnd u pass) s = .next t ∧ t.reg (okey 0xB002 5) = s.reg (okey 0xB002 5) + 1 ∧
        (∀ x ∈ t.test.slices, x.unit ≠ u) ∧ (∀ d m, u = .core d m → (s.core (coreKey d.val m.val)).unwatched = false → (t.core (coreKey d.val m.val)).mode = .outInService) ∧
        (∀ p c, u = .region p c → bits (t.reg (okey 0xB003 (p.val + 1))) c.val c.val = 1)))) ∧
  (∀ (s : State) (v : Nat),
    (dieAt v = none → exec (.dieBist v) s = .next { s with lastStatus := Status.typeMismatch.code }) ∧
    (∀ d, dieAt v = some d →
      (d ∈ s.test.dieTests → exec (.dieBist v) s = .next { s with lastStatus := Status.busy.code }) ∧
      (d ∉ s.test.dieTests → s.powerState ≠ 1 → exec (.dieBist v) s = .next { s with lastStatus := Status.notReady.code }) ∧
      (d ∉ s.test.dieTests → s.powerState = 1 → ∃ t, exec (.dieBist v) s = .next t ∧ Same [.test, .dict, .lastStatus] s t ∧ t.lastStatus = 0 ∧
        (∀ e, e ∈ t.test.dieTests ↔ e ∈ s.test.dieTests ∨ e = d) ∧ t.test.dieCmd = some d ∧ t.reg (okey 0xB001 4) = Status.busy.code))) ∧
  (∀ (s : State) (d : Fin 8) (fs : List BistUnit) (ms : List (Fin 52)),
    (d.val ∉ s.test.dieTests → exec (.dieBistEnd d fs ms) s = .next s) ∧
    (d.val ∈ s.test.dieTests → ∃ t, exec (.dieBistEnd d fs ms) s = .next t ∧ (∀ e, e ∈ t.test.dieTests ↔ e ∈ s.test.dieTests ∧ e ≠ d.val) ∧
      t.test.dieCmd = (if s.test.dieCmd = some d.val then none else s.test.dieCmd) ∧
      (fs = [] → Same [.test, .dict, .pair] s t ∧ (d.val ∈ s.pair.suspect → d.val ∈ t.pair.tested) ∧ (d.val ∉ s.pair.suspect → t.pair = s.pair) ∧
        (Tbl.rising s.dict = true → (s.test.dieCmd = some d.val → t.reg (okey 0xB001 4) = 0) ∧
          (∀ m ∈ ms, s.bistMapped (.core d m) = true → bits (t.reg (okey 0xB004 (d.val + 1))) m.val m.val = 1)))) ∧
    (d.val ∈ s.test.dieTests → s.test.dieCmd = some d.val → (∃ u ∈ fs, ofDie d.val u = true ∧ s.bistMapped u = true) →
      ∃ t, exec (.dieBistEnd d fs ms) s = .next t ∧ t.reg (okey 0xB001 4) = Status.typeMismatch.code)) ∧
  (∀ (s : State) (i : TapInstr), exec (.testPortInstruction i) s = .next { s with test := { s.test with
    tap := (if s.test.testMode = true ∧ ¬(s.sec.sealBits ≠ 0 ∧ tapInternal i = true) then i else .bypass), chain := s.tapChain } }) ∧
  (∀ (s : State), s.tapChain.head? = some (siteH, 2) ∧ ((s.tapChain.drop 1).map (fun p => p.1 * 3 + p.2)).Pairwise (· < ·) ∧
    (∀ x n, (x, n) ∈ s.tapChain.drop 1 ↔ ((dieAt x).isSome = true ∧ n ≤ 2) ∨ (x = siteF ∧ n = 2) ∨
      (∃ g, g < 2 ∧ x = siteG g ∧ n = 2 ∧ (s.guest g).fitted = true ∧ (s.guest g).testPort = true)))

/-- TraceControl without a trace region is LENGTH_EXCEEDS; else it is kept without reserved bits, and setting Enable
starts buffers, blocks and counts anew. A drain moves up to 128 records of a site to the next block, a full one while
tracing runs, until a ring that stops is full. A copy is refused by its checks, a running one's status stays, runs as
BUSY, and ends with the records in the tier, or ACCESS_DENIED or UNCORRECTED. A dump trigger takes its words while
Count is 0, Count always. FreezeCommand answers its first failing check; at a boundary it waits for it, at once it
sets the stop 2 us ahead, and a release waits for the boundary. A drained freeze writes its record and is in force,
counted; past its limit the module stops at once with DEADLINE_MISSED. (R687, R695, R696, R697, R700, R701, R706,
R707, R708, R710, Table 17-3) -/
def Obligations.TraceAndFreezeKeepTheirRecords : Prop :=
  (∀ (s : State) (v : Nat),
    (bits v 63 63 = 1 → s.reg (okey 0xB010 0) = 0 → exec (.traceControlWrite v) s = .next { s with lastStatus := Status.lengthExceeds.code }) ∧
    (bits v 63 63 = 0 ∨ s.reg (okey 0xB010 0) ≠ 0 → ∃ t, exec (.traceControlWrite v) s = .next t ∧ Same [.dict, .nv, .test, .lastStatus] s t ∧ t.lastStatus = 0 ∧
      (Tbl.rising s.dict = true → t.reg (okey 0xB011 0) = v &&& (2 ^ 63 + 2 ^ 62 + (2 ^ 48 - 2 ^ 32) + (2 ^ 20 - 2 ^ 8))) ∧
      (bits v 63 63 = 1 → bits (s.reg (okey 0xB011 0)) 63 63 = 0 → t.test = { s.test with bufs := [], blocks := 0 } ∧
        (Tbl.rising s.dict = true → ∀ i, 1 ≤ i → i ≤ 4 → t.reg (okey 0xB012 i) = 0)) ∧
      (bits v 63 63 = 0 ∨ bits (s.reg (okey 0xB011 0)) 63 63 = 1 → t.test = s.test))) ∧
  (∀ (s : State) (x : Fin 12) (b : TraceBuf) (total : Nat), b = Tbl.get {} s.test.bufs x.val → total = s.traceBlocks →
    (b.recs = [] ∨ (bits (s.reg (okey 0xB011 0)) 63 63 = 1 ∧ b.recs.length < 128) ∨ total = 0 ∨
      (bits (s.reg (okey 0xB011 0)) 62 62 = 1 ∧ total ≤ s.test.blocks) → exec (.traceBlockDrain x) s = .next s) ∧
    (b.recs ≠ [] → (bits (s.reg (okey 0xB011 0)) 63 63 = 1 → 128 ≤ b.recs.length) → total ≠ 0 →
      (bits (s.reg (okey 0xB011 0)) 62 62 = 1 → s.test.blocks < total) → ∃ t, exec (.traceBlockDrain x) s = .next t ∧ Same [.dict, .test, .migs, .stores] s t ∧
        t.test.blocks = s.test.blocks + 1 ∧ (Tbl.rising s.test.bufs = true → (Tbl.get {} t.test.bufs x.val).recs = b.recs.drop 128) ∧
        t.stores = (s.physWrite (s.traceAddr (s.test.blocks % total * 4096)).1 (s.traceAddr (s.test.blocks % total * 4096)).2 ((b.recs.take 128).flatMap TraceRec.bytes)).stores ∧
        (Tbl.rising s.dict = true → t.reg (okey 0xB012 2) = s.reg (okey 0xB012 2) + min 128 b.recs.length ∧
          t.reg (okey 0xB012 1) = (s.test.blocks + 1) % total * 4096))) ∧
  (∀ (s : State) (v : Nat),
    (s.test.copy ≠ none → exec (.traceCopy v) s = .next { s with lastStatus := (s.traceCopyCheck v).code }) ∧
    (s.test.copy = none → (s.traceCopyCheck v ≠ .ok ∨ s.reg (okey 0xB013 2) = 0) → ∃ t, exec (.traceCopy v) s = .next t ∧ Same [.dict, .lastStatus] s t ∧
      t.lastStatus = (s.traceCopyCheck v).code ∧ (Tbl.rising s.dict = true → t.reg (okey 0xB013 5) = (s.traceCopyCheck v).code)) ∧
    (s.traceCopyCheck v = .ok → s.reg (okey 0xB013 2) ≠ 0 → ∃ t, exec (.traceCopy v) s = .next t ∧ Same [.dict, .lastStatus, .test] s t ∧ t.lastStatus = 0 ∧
      t.test.copy = some (s.reg (okey 0xB013 1), s.reg (okey 0xB013 2), s.reg (okey 0xB013 3)) ∧ t.reg (okey 0xB013 5) = Status.busy.code) ∧
    (v ≠ 1 → s.traceCopyCheck v = .typeMismatch) ∧ (s.test.copy ≠ none → s.traceCopyCheck 1 = .busy)) ∧
  (∀ (s : State), (s.test.copy = none → exec .traceCopyEnd s = .next s) ∧
    (∀ o n a, s.test.copy = some (o, n, a) →
      (s.hubRange true a n = none → ∃ t, exec .traceCopyEnd s = .next t ∧ Same [.dict, .test] s t ∧ t.test.copy = none ∧ t.reg (okey 0xB013 5) = Status.accessDenied.code) ∧
      (∀ tr src, s.hubRange true a n = some tr → src = (List.range ((o + n + 31) / 32 - o / 32)).map (fun i => s.traceAddr (o + 32 * i)) →
        (s.hubWaits tr true true a n = true → exec .traceCopyEnd s = .next s) ∧
        (s.hubWaits tr true true a n = false → (s.traceBlocks * 4096 < o + n ∨ s.hubServes tr = false ∨ ∃ x ∈ src, (s.store x.1).readPoisoned x.2 32 = true) →
          ∃ t, exec .traceCopyEnd s = .next t ∧ Same [.dict, .test] s t ∧ t.test.copy = none ∧ t.reg (okey 0xB013 5) = Status.uncorrected.code) ∧
        (s.hubWaits tr true true a n = false → o + n ≤ s.traceBlocks * 4096 → s.hubServes tr = true → (∀ x ∈ src, (s.store x.1).readPoisoned x.2 32 = false) →
          ∃ t, exec .traceCopyEnd s = .next t ∧ Same [.dict, .test, .migs, .stores] s t ∧ t.test.copy = none ∧
            t.stores = (s.hubWrite tr true a (src.flatMap (fun x => s.physRead x.1 x.2 32))).stores ∧ (Tbl.rising s.dict = true → t.reg (okey 0xB013 5) = 0))))) ∧
  (∀ (s : State) (g : Fin 4) (sub : Fin 5) (v c : Nat), c = s.reg (okey (0xB020 + g.val) 2) →
    (sub.val = 4 → exec (.dumpTriggerWrite g sub v) s = .next { s with lastStatus := Status.accessDenied.code }) ∧
    (sub.val ≠ 4 → sub.val ≠ 1 → c ≠ 0 → exec (.dumpTriggerWrite g sub v) s = .next { s with lastStatus := Status.busy.code }) ∧
    (sub.val = 2 ∨ sub.val = 3 → c = 0 → v % 64 ≠ 0 → exec (.dumpTriggerWrite g sub v) s = .next { s with lastStatus := Status.badAlign.code }) ∧
    (sub.val = 1 ∨ (c = 0 ∧ (sub.val = 0 ∨ ((sub.val = 2 ∨ sub.val = 3) ∧ v % 64 = 0))) → ∃ t, exec (.dumpTriggerWrite g sub v) s = .next t ∧
      Same [.dict, .nv, .lastStatus] s t ∧ t.lastStatus = 0 ∧ (Tbl.rising s.dict = true → ∀ k, t.reg k =
        if sub.val = 1 ∧ k = okey (0xB020 + g.val) 5 then 0 else if k = okey (0xB020 + g.val) (sub.val + 1) then (if sub.val = 0 then v / 16 * 16 else v) else s.reg k))) ∧
  (∀ (s : State) (v : Nat) (i : Instr), (v, i) ∈ [(1, Instr.freezeAtBoundary), (2, .freezeAtOnce), (3, .freezeRelease)] →
    (s.freezeCheck v ≠ .ok → exec i s = .next { s with lastStatus := (s.freezeCheck v).code }) ∧
    (v = 3 → s.freezeCheck v = .ok → exec i s = .next { s with lastStatus := 0, test := { s.test with release := true } }) ∧
    (v ≠ 3 → s.freezeCheck v = .ok → ∃ t, exec i s = .next t ∧ Same [.dict, .lastStatus, .test, .pw] s t ∧ t.lastStatus = 0 ∧
      t.test = { s.test with freeze := if v = 1 then .asked else .stopping } ∧ t.pw.time = s.pw.time ∧
      t.pw.changes = s.pw.changes ++ (if v = 1 then [] else [{ time := s.pw.time + 32000, what := .stop }]) ∧ t.reg (okey 0xB050 2) = Status.busy.code ∧
      (Tbl.rising s.dict = true → t.reg (okey 0xB050 5) = 1))) ∧
  (∀ (s : State), s.freezeCheck 3 = (if s.test.freeze = .frozen ∨ s.test.freeze = .atOnce then .ok else .notReady) ∧
    (∀ v, v = 1 ∨ v = 2 → (s.reg (okey 0x9200 0) ≠ 1 → s.freezeCheck v = .notReady) ∧ (s.reg (okey 0x9200 0) = 1 → s.test.freeze ≠ .none → s.freezeCheck v = .busy))) ∧
  (∀ (s : State), (s.test.freeze ≠ .draining ∨ s.drained = false → exec .freezeDrainEnd s = .next s) ∧
    (s.test.freeze = .draining → s.drained = true → ∃ t, exec .freezeDrainEnd s = .next t ∧ Same [.cores, .lanes, .dict, .migs, .test, .stores] s t ∧
      t.test.freeze = .frozen ∧ t.test.slices = [] ∧ (Tbl.rising s.dict = true → t.reg (okey 0xB050 5) = 2 ∧ t.reg (okey 0xB050 2) = 0 ∧
        t.reg (okey 0xB060 4) = s.reg (okey 0xB060 4) + 1) ∧
      t.stores = (s.putFreezeRecord (freezeRecord s.test.cutFrame s.test.cutTime 1 (s.reg (okey 0xB050 4)) [])).stores ∧ (s.reg (okey 0xB050 4) < 64 → t.stores = s.stores))) ∧
  (∀ (s : State), (s.test.freeze ≠ .draining → exec .freezeDrainLimit s = .next s) ∧
    (s.test.freeze = .draining → ∃ t, exec .freezeDrainLimit s = .next t ∧ Same [.dict, .test, .pw] s t ∧ t.test = { s.test with freeze := .stopping } ∧
      t.pw.changes = s.pw.changes ++ [{ time := s.pw.time + 32000, what := .stop }] ∧
      (Tbl.rising s.dict = true → t.reg (okey 0xB050 2) = Status.deadlineMissed.code ∧ t.reg (okey 0xB060 6) = s.reg (okey 0xB060 6) + 1)))

/-- For every command and state, the step of the state whose queue begins with that command is that command carried out on
the state with the rest of the queue, and leaves the rest as it was. On an empty queue the state stays. Every command
answers a next state. The table gives no row any bits, so no word spells a command, and placing one changes nothing.
The queue, the idling and the events without effect are the model's choice (log entries 2 and 7). (R19, R26) -/
def Obligations.CommandsRunFromTheQueue : Prop :=
  (∀ (s : State) (c : Instr) (q : List Instr), step { s with pending := c :: q } = exec c { s with pending := q }) ∧
  (∀ (s : State), s.pending = [] → step s = .next s) ∧
  (∀ (s : State) (c : Instr), ∃ t, exec c s = .next t ∧ t.pending = s.pending) ∧
  (∀ (n w : Nat), decodeTableWord n w = none) ∧ (∀ (s : State) (n w : Nat), s.withFetchWord n w = s)

/-- State.reset satisfies the invariants that every step keeps. Its memories list nothing, no command waits, ports are
Down, streams Closed, the unit is unpaired, no freeze holds, the reference is not begun, FrameLength is 480,
RepeatLimit 8 and the port of a host stands without control bits; the field is not sealed. Values that the spec does
not give are the model's choice (log entry 1). (R69, R77, R493, R544, R548, R602, Table 13-5) -/
def Obligations.ResetIsInOrderAndAtItsValues : Prop :=
  InOrder State.reset ∧ dictWf State.reset.dict ∧ dictWf State.reset.nv ∧ MemOk State.reset ∧ State.reset.fieldMap.length ≤ 65536 ∧
  State.reset.hostMem = [] ∧ State.reset.stores = [] ∧ State.reset.pending = [] ∧ (∀ p, (State.reset.port p).st = .down ∧ (State.reset.port p).control = 0) ∧
  (∀ i, (State.reset.stream i).st = .closed) ∧ State.reset.pair.role = .unpaired ∧ State.reset.test.freeze = .none ∧ State.reset.tb.begun = false ∧
  State.reset.reg (okey 0x2002 0) = 480 ∧ State.reset.reg (okey 0x2022 0) = 8 ∧ State.reset.isSealed = false ∧ State.reset.powerState = 0

/-- If the dictionary and the non-volatile store list keys in order and no default value, and every polder, tier channel
and host memory lists addresses in order and no byte equal to what an unlisted one reads as, the same holds after any
step, whatever command is at the front of the queue: equal contents are equal data all along. The form is the model's
own (log entry 60). (R13, R581, R605) -/
def Obligations.StepsKeepTheStoredFormsCanonical : Prop :=
  ∀ (s t : State), dictWf s.dict → dictWf s.nv → MemOk s → step s = .next t → dictWf t.dict ∧ dictWf t.nv ∧ MemOk t

/-- If the tables of the dies' anchors, cores, running steps, dies, memories, ledger replicas, channels, regions, micro-
rings, lanes, paths, laser modules, sensors, streams, routes, pricking slots, ports with their queues, rings and
slots, field network settings and links, image slots, rollback counters, transcripts, test times and trace buffers
list their keys in order, they do so after any step, whatever command is at the front of the queue. This is the
premise under which the other statements read a unit back. The form is the model's own (log entry 60). (R13, R581,
R605) -/
def Obligations.StepsKeepTheTablesInOrder : Prop :=
  ∀ (s t : State), InOrder s → Tbl.rising s.nv = true → step s = .next t → InOrder t

/-- Whatever command is at the front of the queue: fuse values and the fuse repair map stay; a blown field seal stays
blown; no rollback counter falls and no blown bit is unblown; and the field map never holds more than 65,536 entries
once it holds no more. These are prose rules of the whole module, over every command. (R602, R604, R654, R656, R666,
R667) -/
def Obligations.NoStepUndoesFusesSealOrCounters : Prop :=
  ∀ (s t : State), step s = .next t →
    t.sec.fuses = s.sec.fuses ∧ t.fuseMap = s.fuseMap ∧ (s.isSealed = true → t.isSealed = true) ∧ (s.fieldMap.length ≤ 65536 → t.fieldMap.length ≤ 65536) ∧
    (Tbl.rising s.sec.counters = true → ∀ c, Tbl.get 0 s.sec.counters c ≤ Tbl.get 0 t.sec.counters c) ∧
    (Tbl.rising s.sec.blown = true → ∀ c, Tbl.get 0 s.sec.blown c ≤ Tbl.get 0 t.sec.blown c)
end

