-- ==== Sys2Proof/Laws/Table.lean ====
section
/-! SUPPORT. The laws of the sparse tables: reading after a write, and the canonical form that every write keeps. -/

namespace Sys2Proof.Machine

open Sys2Proof

/-- Every key of a table is above a bound. -/
def Tbl.above {α : Type} (b : Nat) : Tbl α → Prop
  | [] => True
  | (i, _) :: r => b < i ∧ Tbl.above b r

theorem Tbl.above_mono {α : Type} {a b : Nat} (h : a ≤ b) {t : Tbl α} (g : Tbl.above b t) : Tbl.above a t := by
  induction t with
  | nil => trivial
  | cons e r ih => exact ⟨Nat.lt_of_le_of_lt h g.1, ih g.2⟩

theorem Tbl.above_mem {α : Type} {b : Nat} {t : Tbl α} (g : Tbl.above b t) {e : Nat × α} (h : e ∈ t) : b < e.1 := by
  induction t with
  | nil => simp at h
  | cons x r ih =>
    rcases List.mem_cons.mp h with h | h
    · subst h; exact g.1
    · exact ih g.2 h

/-- A table is rising exactly when its tail is and lies above its head. -/
theorem Tbl.rising_cons {α : Type} (i : Nat) (v : α) (r : Tbl α) :
    Tbl.rising ((i, v) :: r) = true ↔ Tbl.above i r ∧ Tbl.rising r = true := by
  induction r generalizing i v with
  | nil => simp [Tbl.rising, Tbl.above]
  | cons e r ih =>
    obtain ⟨j, w⟩ := e
    simp only [Tbl.rising, Bool.and_eq_true, decide_eq_true_eq, Tbl.above]
    constructor
    · rintro ⟨h, g⟩
      exact ⟨⟨h, Tbl.above_mono (Nat.le_of_lt h) ((ih j w).mp g).1⟩, g⟩
    · rintro ⟨h, g⟩
      exact ⟨h.1, g⟩

theorem Tbl.get_above {α : Type} (d : α) {b k : Nat} (hk : k ≤ b) {t : Tbl α} (h : Tbl.above b t) :
    Tbl.get d t k = d := by
  cases t with
  | nil => rfl
  | cons e r =>
    obtain ⟨i, v⟩ := e
    have : k < i := Nat.lt_of_le_of_lt hk h.1
    simp [Tbl.get, Nat.ne_of_lt this, this]

theorem Tbl.above_ins {α : Type} {b k : Nat} (v : α) (hk : b < k) {t : Tbl α} (h : Tbl.above b t) :
    Tbl.above b (Tbl.ins t k v) := by
  induction t with
  | nil => exact ⟨hk, trivial⟩
  | cons e r ih =>
    obtain ⟨i, w⟩ := e
    simp only [Tbl.ins]
    split
    · exact ⟨hk, h⟩
    · split
      · exact ⟨hk, h.2⟩
      · exact ⟨h.1, ih h.2⟩

theorem Tbl.above_del {α : Type} {b : Nat} (k : Nat) {t : Tbl α} (h : Tbl.above b t) : Tbl.above b (Tbl.del t k) := by
  induction t with
  | nil => trivial
  | cons e r ih =>
    obtain ⟨i, w⟩ := e
    simp only [Tbl.del]
    split
    · exact h
    · split
      · exact h.2
      · exact ⟨h.1, ih h.2⟩

theorem Tbl.rising_ins {α : Type} (k : Nat) (v : α) {t : Tbl α} (h : Tbl.rising t = true) :
    Tbl.rising (Tbl.ins t k v) = true := by
  induction t with
  | nil => rfl
  | cons e r ih =>
    obtain ⟨i, w⟩ := e
    have g := (Tbl.rising_cons i w r).mp h
    simp only [Tbl.ins]
    split
    · rename_i hk
      exact (Tbl.rising_cons k v _).mpr ⟨⟨hk, Tbl.above_mono (Nat.le_of_lt hk) g.1⟩, h⟩
    · split
      · rename_i hk
        subst hk
        exact (Tbl.rising_cons k v _).mpr g
      · exact (Tbl.rising_cons i w _).mpr ⟨Tbl.above_ins v (by omega) g.1, ih g.2⟩

theorem Tbl.rising_del {α : Type} (k : Nat) {t : Tbl α} (h : Tbl.rising t = true) :
    Tbl.rising (Tbl.del t k) = true := by
  induction t with
  | nil => rfl
  | cons e r ih =>
    obtain ⟨i, w⟩ := e
    have g := (Tbl.rising_cons i w r).mp h
    simp only [Tbl.del]
    split
    · exact h
    · split
      · exact g.2
      · exact (Tbl.rising_cons i w _).mpr ⟨Tbl.above_del k g.1, ih g.2⟩

/-- A write keeps the keys strictly rising. -/
theorem Tbl.rising_put {α : Type} [DecidableEq α] (d : α) (k : Nat) (v : α) {t : Tbl α} (h : Tbl.rising t = true) :
    Tbl.rising (Tbl.put d t k v) = true := by
  unfold Tbl.put
  split
  · exact Tbl.rising_del k h
  · exact Tbl.rising_ins k v h

theorem Tbl.get_ins {α : Type} (d : α) (t : Tbl α) (k j : Nat) (v : α) :
    Tbl.get d (Tbl.ins t k v) j = if j = k then v else Tbl.get d t j := by
  induction t with
  | nil =>
    simp only [Tbl.ins, Tbl.get]
    split <;> simp
  | cons e r ih =>
    obtain ⟨i, w⟩ := e
    simp only [Tbl.ins]
    split
    · rename_i h
      simp only [Tbl.get]
      by_cases hj : j = k
      · simp [hj]
      · by_cases hl : j < k
        · simp [hj, hl, Nat.ne_of_lt (Nat.lt_trans hl h), Nat.lt_trans hl h]
        · simp [hj, hl]
    · split
      · rename_i h h2
        subst h2
        simp only [Tbl.get]
        by_cases hj : j = k <;> simp [hj]
      · rename_i h h2
        simp only [Tbl.get, ih]
        by_cases hj : j = i
        · subst hj
          simp [Ne.symm h2]
        · by_cases hl : j < i
          · have : j ≠ k := by omega
            simp [hj, hl, this]
          · simp [hj, hl]

theorem Tbl.get_del {α : Type} (d : α) {t : Tbl α} (h : Tbl.rising t = true) (k j : Nat) :
    Tbl.get d (Tbl.del t k) j = if j = k then d else Tbl.get d t j := by
  induction t with
  | nil => simp [Tbl.del, Tbl.get]
  | cons e r ih =>
    obtain ⟨i, w⟩ := e
    have g := (Tbl.rising_cons i w r).mp h
    simp only [Tbl.del]
    split
    · rename_i hk
      by_cases hj : j = k
      · subst hj
        simp [Tbl.get, Nat.ne_of_lt hk, hk]
      · simp [hj]
    · split
      · rename_i hk hi
        subst hi
        by_cases hj : j = k
        · subst hj
          simp [Tbl.get_above d (Nat.le_refl j) g.1]
        · simp only [Tbl.get, hj, if_false]
          by_cases hl : j < k
          · simp [hl, Tbl.get_above d (Nat.le_of_lt hl) g.1]
          · simp [hl]
      · rename_i hk hi
        simp only [Tbl.get, ih g.2]
        by_cases hj : j = i
        · subst hj
          simp [Ne.symm hi]
        · by_cases hl : j < i
          · have : j ≠ k := by omega
            simp [hj, hl, this]
          · simp [hj, hl]

/-- Reading after a write: the value at the key written, and what was there before at every other key. -/
theorem Tbl.get_put {α : Type} [DecidableEq α] (d : α) {t : Tbl α} (h : Tbl.rising t = true) (k j : Nat) (v : α) :
    Tbl.get d (Tbl.put d t k v) j = if j = k then v else Tbl.get d t j := by
  unfold Tbl.put
  split
  · rename_i hv
    subst hv
    exact Tbl.get_del _ h k j
  · exact Tbl.get_ins d t k j v

@[simp] theorem Tbl.get_put_same {α : Type} [DecidableEq α] (d : α) {t : Tbl α} (h : Tbl.rising t = true) (k : Nat)
    (v : α) : Tbl.get d (Tbl.put d t k v) k = v := by simp [Tbl.get_put d h]

theorem Tbl.get_put_ne {α : Type} [DecidableEq α] (d : α) {t : Tbl α} (h : Tbl.rising t = true) {k j : Nat} (v : α)
    (hj : j ≠ k) : Tbl.get d (Tbl.put d t k v) j = Tbl.get d t j := by simp [Tbl.get_put d h, hj]

theorem Tbl.mem_ins {α : Type} {t : Tbl α} {k : Nat} {v : α} {e : Nat × α} (h : e ∈ Tbl.ins t k v) :
    e = (k, v) ∨ e ∈ t := by
  induction t with
  | nil => simpa [Tbl.ins] using h
  | cons x r ih =>
    obtain ⟨i, w⟩ := x
    simp only [Tbl.ins] at h
    split at h
    · rcases List.mem_cons.mp h with h | h
      · exact Or.inl h
      · exact Or.inr h
    · split at h
      · rcases List.mem_cons.mp h with h | h
        · exact Or.inl h
        · exact Or.inr (List.mem_cons_of_mem _ h)
      · rcases List.mem_cons.mp h with h | h
        · exact Or.inr (h ▸ List.mem_cons_self)
        · rcases ih h with h | h
          · exact Or.inl h
          · exact Or.inr (List.mem_cons_of_mem _ h)

theorem Tbl.mem_del {α : Type} {t : Tbl α} {k : Nat} {e : Nat × α} (h : e ∈ Tbl.del t k) : e ∈ t := by
  induction t with
  | nil => simp [Tbl.del] at h
  | cons x r ih =>
    obtain ⟨i, w⟩ := x
    simp only [Tbl.del] at h
    split at h
    · exact h
    · split at h
      · exact List.mem_cons_of_mem _ h
      · rcases List.mem_cons.mp h with h | h
        · exact h ▸ List.mem_cons_self
        · exact List.mem_cons_of_mem _ (ih h)

/-- A write keeps a table of one default canonical. -/
theorem Tbl.wf_put {α : Type} [DecidableEq α] (d : α) (k : Nat) (v : α) {t : Tbl α} (h : Tbl.wf d t = true) :
    Tbl.wf d (Tbl.put d t k v) = true := by
  simp only [Tbl.wf, Bool.and_eq_true, List.all_eq_true, decide_eq_true_eq] at h ⊢
  refine ⟨Tbl.rising_put d k v h.1, fun e he => ?_⟩
  unfold Tbl.put at he
  split at he
  · exact h.2 e (Tbl.mem_del he)
  · rename_i hv
    rcases Tbl.mem_ins he with he | he
    · subst he; exact hv
    · exact h.2 e he

theorem Tbl.above_filter {α : Type} {b : Nat} (p : Nat × α → Bool) {t : Tbl α} (h : Tbl.above b t) :
    Tbl.above b (t.filter p) := by
  induction t with
  | nil => trivial
  | cons e r ih =>
    simp only [List.filter]
    split
    · exact ⟨h.1, ih h.2⟩
    · exact ih h.2

theorem Tbl.rising_filter {α : Type} (p : Nat × α → Bool) {t : Tbl α} (h : Tbl.rising t = true) :
    Tbl.rising (t.filter p) = true := by
  induction t with
  | nil => rfl
  | cons e r ih =>
    obtain ⟨i, w⟩ := e
    have g := (Tbl.rising_cons i w r).mp h
    simp only [List.filter]
    split
    · exact (Tbl.rising_cons i w _).mpr ⟨Tbl.above_filter p g.1, ih g.2⟩
    · exact ih g.2

/-- Dropping entries keeps a table canonical. -/
theorem Tbl.wf_filter {α : Type} [DecidableEq α] (d : α) (p : Nat × α → Bool) {t : Tbl α} (h : Tbl.wf d t = true) :
    Tbl.wf d (t.filter p) = true := by
  simp only [Tbl.wf, Bool.and_eq_true, List.all_eq_true, decide_eq_true_eq] at h ⊢
  exact ⟨Tbl.rising_filter p h.1, fun e he => h.2 e (List.mem_filter.mp he).1⟩

/-! Byte memories. -/

theorem wrByte_wf {m : Tbl Byte} (h : Memory.wf m = true) (a : Nat) (b : Byte) : Memory.wf (wrByte m a b) = true :=
  Tbl.wf_put 0 a b h

theorem wrBytes_wf (bs : List Byte) {m : Tbl Byte} (h : Memory.wf m = true) (a : Nat) :
    Memory.wf (wrBytes m a bs) = true := by
  induction bs generalizing m a with
  | nil => exact h
  | cons b r ih => exact ih (wrByte_wf h a b) (a + 1)

theorem wrLe_wf {m : Tbl Byte} (h : Memory.wf m = true) (a n v : Nat) : Memory.wf (wrLe m a n v) = true :=
  wrBytes_wf _ h a

theorem wrZeros_wf {m : Tbl Byte} (h : Memory.wf m = true) (a n : Nat) : Memory.wf (wrZeros m a n) = true :=
  Tbl.wf_filter 0 _ h

theorem copyRange_wf {m : Tbl Byte} (h : Memory.wf m = true) (a n b : Nat) : Memory.wf (copyRange m a n b) = true := by
  unfold copyRange
  have : ∀ (l : List (Nat × Byte)) (t : Tbl Byte), Memory.wf t = true →
      Memory.wf (l.foldl (fun t e => wrByte t (e.1 - a + b) e.2) t) = true := by
    intro l
    induction l with
    | nil => intro t ht; exact ht
    | cons e r ih => intro t ht; exact ih _ (wrByte_wf ht _ _)
  exact this _ _ (wrZeros_wf h b n)

theorem Memory.wf_rising {m : Tbl Byte} (h : Memory.wf m = true) : Tbl.rising m = true := by
  simp only [Memory.wf, Tbl.wf, Bool.and_eq_true] at h
  exact h.1

/-- Reading one byte after writing one. -/
theorem rdByte_wrByte {m : Tbl Byte} (h : Memory.wf m = true) (a j : Nat) (b : Byte) :
    rdByte (wrByte m a b) j = if j = a then b else rdByte m j :=
  Tbl.get_put 0 (Memory.wf_rising h) a j b

/-- A write of bytes leaves every byte outside them alone. -/
theorem rdByte_wrBytes_outside (bs : List Byte) {m : Tbl Byte} (h : Memory.wf m = true) (a j : Nat)
    (hj : j < a ∨ a + bs.length ≤ j) : rdByte (wrBytes m a bs) j = rdByte m j := by
  induction bs generalizing m a with
  | nil => rfl
  | cons b r ih =>
    simp only [wrBytes]
    simp only [List.length_cons] at hj
    rw [ih (wrByte_wf h a b) (a + 1) (by omega), rdByte_wrByte h, if_neg (by omega)]

/-- A write of bytes reads back. -/
theorem rdBytes_wrBytes (bs : List Byte) {m : Tbl Byte} (h : Memory.wf m = true) (a : Nat) :
    rdBytes (wrBytes m a bs) a bs.length = bs := by
  induction bs generalizing m a with
  | nil => rfl
  | cons b r ih =>
    simp only [List.length_cons, rdBytes, wrBytes]
    rw [ih (wrByte_wf h a b) (a + 1), rdByte_wrBytes_outside r (wrByte_wf h a b) (a + 1) a (Or.inl (by omega)),
      rdByte_wrByte h]
    simp

/-- Zeroing reads as 0 inside and as before outside. -/
theorem Tbl.get_filter {α : Type} (d : α) (p : Nat → Bool) {t : Tbl α} (h : Tbl.rising t = true) (j : Nat) :
    Tbl.get d (t.filter (fun e => p e.1)) j = if p j then Tbl.get d t j else d := by
  induction t with
  | nil => simp [Tbl.get]
  | cons e r ih =>
    obtain ⟨i, w⟩ := e
    have g := (Tbl.rising_cons i w r).mp h
    simp only [List.filter]
    by_cases hp : p i
    · simp only [hp, Tbl.get, ih g.2]
      by_cases hj : j = i
      · subst hj; simp [hp]
      · by_cases hl : j < i
        · simp [hj, hl]
        · simp [hj, hl]
    · simp only [hp, ih g.2, Tbl.get]
      by_cases hj : j = i
      · subst hj; simp [hp]
      · by_cases hl : j < i
        · rw [Tbl.get_above d (Nat.le_of_lt hl) g.1]; simp [hj, hl]
        · simp [hj, hl]

theorem rdByte_wrZeros {m : Tbl Byte} (h : Memory.wf m = true) (a n j : Nat) :
    rdByte (wrZeros m a n) j = if a ≤ j ∧ j < a + n then 0 else rdByte m j := by
  unfold wrZeros Tbl.drop rdByte
  rw [Tbl.get_filter 0 (fun k => !(decide (a ≤ k) && decide (k < a + n))) (Memory.wf_rising h)]
  by_cases hj : a ≤ j ∧ j < a + n
  · simp [hj]
  · simp only [hj, if_false]
    rw [if_pos]
    simp only [Bool.not_eq_true', Bool.and_eq_false_iff, decide_eq_false_iff_not]
    omega

/-! The dictionary. -/

theorem dictWf_nil : dictWf [] := ⟨rfl, by simp⟩

theorem dictWf_put (k v : Nat) {t : Tbl Nat} (h : dictWf t) : dictWf (Tbl.put (dictDflt k) t k v) := by
  refine ⟨Tbl.rising_put _ k v h.1, fun e he => ?_⟩
  unfold Tbl.put at he
  split at he
  · exact h.2 e (Tbl.mem_del he)
  · rename_i hv
    rcases Tbl.mem_ins he with he | he
    · subst he; exact hv
    · exact h.2 e he

theorem dictWf_ins {k v : Nat} (hv : v ≠ dictDflt k) {t : Tbl Nat} (h : dictWf t) : dictWf (Tbl.ins t k v) := by
  refine ⟨Tbl.rising_ins k v h.1, fun e he => ?_⟩
  rcases Tbl.mem_ins he with he | he
  · subst he; exact hv
  · exact h.2 e he

theorem dictWf_filter (p : Nat × Nat → Bool) {t : Tbl Nat} (h : dictWf t) : dictWf (t.filter p) :=
  ⟨Tbl.rising_filter p h.1, fun e he => h.2 e (List.mem_filter.mp he).1⟩

/-- A dictionary value reads back, and every other object reads as before. -/
theorem State.reg_setReg {s : State} (h : Tbl.rising s.dict = true) (k j v : Nat) :
    (s.setReg k v).reg j = if j = k then v else s.reg j := by
  unfold State.reg State.setReg
  by_cases hj : j = k
  · subst hj; simp [Tbl.get_put _ h]
  · unfold Tbl.put
    split
    · rw [Tbl.get_del _ h]; simp [hj]
    · rw [Tbl.get_ins]; simp [hj]

end Sys2Proof.Machine
end

