-- ==== Sys2Proof/Laws/Start.lean ====
section
/-! SUPPORT. How an instruction at the head of a unit's queue starts: its pin holds its count when its turn comes, and what the unit's checks
then decide. -/

namespace Sys2Proof

open Sys2Proof.Machine

/-- The pins of one state hold, with what was asked of pin p, what those of another hold, and stay in order. -/
def Leaves (p asked : Nat) (r x : CoreRun) : Prop := Tbl.rising x.pins = true ∧ r.pin p ≤ x.pin p + asked

theorem Leaves.refl {r : CoreRun} (h : Tbl.rising r.pins = true) (p : Nat) : Leaves p 0 r r := ⟨h, by omega⟩

theorem Leaves.trans {p a b : Nat} {r x y : CoreRun} (h : Leaves p a r x) (g : Leaves p b x y) : Leaves p (a + b) r y :=
  ⟨g.1, by have := h.2; have := g.2; omega⟩

theorem Leaves.mono {p a b : Nat} {r x : CoreRun} (h : Leaves p a r x) (g : a ≤ b) : Leaves p b r x := ⟨h.1, by have := h.2; omega⟩

theorem Leaves.ite {c : Prop} [Decidable c] {p a : Nat} {r x y : CoreRun} (hx : c → Leaves p a r x) (hy : ¬c → Leaves p a r y) :
    Leaves p a r (if c then x else y) := by
  by_cases h : c
  · rw [if_pos h]; exact hx h
  · rw [if_neg h]; exact hy h

theorem put_leaves {r x : CoreRun} (h : Tbl.rising r.pins = true) {i n : Nat} (p : Nat)
    (hx : x.pins = Tbl.put 0 r.pins i (r.pin i - n)) : Leaves p (if i = p then n else 0) r x := by
  refine ⟨by rw [hx]; exact Tbl.rising_put _ _ _ h, ?_⟩
  simp only [CoreRun.pin, hx, Tbl.get_put 0 h]
  by_cases e : p = i
  · subst e; simp; omega
  · simp [e]

theorem takeWait_leaves {r : CoreRun} (h : Tbl.rising r.pins = true) (w p : Nat) :
    Leaves p (if iWaitValid w ∧ iWaitPin w = p then iWaitCount w else 0) r (r.takeWait w) := by
  unfold CoreRun.takeWait
  by_cases hv : iWaitValid w = true
  · simpa [hv] using put_leaves (x := { r with pins := Tbl.put 0 r.pins (iWaitPin w) (r.pin (iWaitPin w) - iWaitCount w) }) h p rfl
  · simpa [hv] using Leaves.refl h p

theorem takePin_leaves {r : CoreRun} (h : Tbl.rising r.pins = true) (w p : Nat) :
    Leaves p (if bits w 13 13 = 0 ∧ bits w 34 30 = p then bits w 29 14 else 0) r (r.takePin w) := by
  unfold CoreRun.takePin
  by_cases hk : bits w 13 13 = 1
  · simpa [hk] using Leaves.refl h p
  · have h0 : bits w 13 13 = 0 := by have : bits w 13 13 < 2 := Nat.mod_lt _ (by decide); omega
    simpa [h0] using put_leaves (x := { r with pins := Tbl.put 0 r.pins (bits w 34 30) (r.pin (bits w 34 30) - bits w 29 14) }) h p rfl

theorem seqTake_leaves {r : CoreRun} (h : Tbl.rising r.pins = true) (w p : Nat) :
    Leaves p (if iWaitValid w ∧ iWaitPin w = p ∧ r.waited = false then iWaitCount w else 0) r (r.seqTake w) := by
  unfold CoreRun.seqTake
  refine Leaves.ite (fun _ => (Leaves.refl h p).mono (by omega)) (fun hw => ?_)
  simp only [Bool.or_eq_true, Bool.not_eq_true', not_or, Bool.not_eq_true] at hw
  have := takeWait_leaves h w p
  refine ⟨this.1, ?_⟩
  simpa [hw.1, CoreRun.pin] using this.2

theorem seqClaim_leaves {r : CoreRun} (h : Tbl.rising r.pins = true) (s : State) (g : Grant) (p : Nat) :
    Leaves p (seqAsks s g r p) r (s.seqClaim g r) := by
  unfold State.seqClaim seqAsks
  dsimp only
  refine Leaves.ite (fun hc => ?_) (fun _ => (Leaves.refl h p).mono (by omega))
  rw [if_pos ⟨hc.1, hc.2.1⟩]
  have hx := seqTake_leaves h (s.stepCode g r.pc) p
  refine Leaves.ite (fun h3 => ?_) (fun _ => hx.mono (by omega))
  refine (hx.trans (takePin_leaves hx.1 (s.stepCode g r.pc) p)).mono ?_
  simp [h3]

/-- The pins that a unit's turn finds hold what they held, but for what the sequencer and the units before it ask (R178). -/
theorem claims_leaves {r : CoreRun} (h : Tbl.rising r.pins = true) (s : State) (k : Nat) (g : Grant) (u p : Nat) :
    Leaves p (seqAsks s g r p + (((List.range u).drop 1).map (fun v => unitAsks r v p)).sum) r (s.claims k g r u) := by
  unfold State.claims
  refine (seqClaim_leaves h s g p).trans ?_
  have hx := (seqClaim_leaves h s g p).1
  generalize (List.range u).drop 1 = l
  generalize s.seqClaim g r = x at hx ⊢
  induction l generalizing x with
  | nil => exact Leaves.refl hx p
  | cons v l ih =>
    have hs : Leaves p (unitAsks r v p) x (match r.queue v with
        | [] => x
        | q :: _ => if s.unitFree k g r v q && x.waitMet q.word then x.takeWait q.word else x) := by
      unfold unitAsks
      cases r.queue v with
      | nil => exact Leaves.refl hx p
      | cons q _ => exact Leaves.ite (fun _ => takeWait_leaves hx _ p) (fun _ => (Leaves.refl hx p).mono (by omega))
    simp only [List.foldl_cons, List.map_cons, List.sum_cons]
    exact hs.trans (ih _ hs.1)

theorem sum_sublist {a b : List Nat} (h : a.Sublist b) : a.sum ≤ b.sum := by
  induction h with
  | slnil => exact Nat.le_refl _
  | cons _ _ ih => simp only [List.sum_cons]; omega
  | cons_cons _ _ ih => simp only [List.sum_cons]; omega

/-- The common wait of an instruction at its head is met in its turn. -/
theorem AtHead.met {s : State} {die : Fin 8} {core : Fin 48} {u c o k : Nat} {g : Grant} {r : CoreRun} {q : QInstr}
    (h : AtHead s die core u c o k g r q) (hu : (unitsFor u q.word).headD u ≤ u) :
    (s.claims k g r ((unitsFor u q.word).headD u)).waitMet q.word = true := by
  unfold CoreRun.waitMet
  by_cases hv : iWaitValid q.word = true
  · have h1 := (claims_leaves h.pins s k g ((unitsFor u q.word).headD u) (iWaitPin q.word)).2
    have h2 := h.waits hv
    have h3 : (((List.range ((unitsFor u q.word).headD u)).drop 1).map (fun v => unitAsks r v (iWaitPin q.word))).sum ≤
        (((List.range u).drop 1).map (fun v => unitAsks r v (iWaitPin q.word))).sum := by
      exact sum_sublist (List.Sublist.map _ ((List.range_sublist.mpr hu).drop 1))
    simp only [hv, Bool.not_true, Bool.false_or, decide_eq_true_eq]; omega
  · simp [hv]

/-- An instruction at its head does what the checks of its unit say. -/
theorem startUnit_atHead {s : State} {die : Fin 8} {core : Fin 48} {u c o k : Nat} {g : Grant} {r : CoreRun} {q : QInstr}
    (h : AtHead s die core u c o k g r q) (hu : (unitsFor u q.word).headD u ≤ u)
    (check : Nat → Grant → CoreRun → QInstr → Chk) (effect : Nat → Grant → QInstr → State → State) :
    s.startUnit die.val core.val u c o check effect = match check k g r q with
      | .wait => s
      | .fault b => s.coreFault k g ((unitsFor u q.word).headD u) q.idx b.cause b.addr
      | .once => s.completeInstr k g (r.pop (unitsFor u q.word) q.word) ((unitsFor u q.word).headD u) q
      | .go => effect k g q (started s k u r q) := by
  have hh := h.head
  unfold State.startUnit
  rw [h.runs]; simp only []
  cases hq : r.queue u with
  | nil => rw [hq] at hh; cases hh
  | cons x rest =>
    rw [hq] at hh; simp at hh; subst hh
    simp only []
    rw [if_pos]
    · rfl
    · simp [h.cls, h.op]
      exact ⟨by simpa using h.met hu, fun v hv => by have := h.heads v hv; simpa using this⟩

theorem Tbl.ins_ins {α : Type} (t : Tbl α) (k : Nat) (v w : α) : Tbl.ins (Tbl.ins t k v) k w = Tbl.ins t k w := by
  induction t with
  | nil => simp [Tbl.ins]
  | cons e r ih =>
    obtain ⟨i, x⟩ := e
    by_cases h : k < i
    · simp [Tbl.ins, h]
    · by_cases g : k = i
      · simp [Tbl.ins, g]
      · simp [Tbl.ins, h, g, ih]

/-- The last of two writes of a core's part counts. -/
@[simp] theorem State.setRun_setRun (s : State) (k : Nat) (r x : CoreRun) : (s.setRun k (some r)).setRun k (some x) = s.setRun k (some x) := by
  simp [State.setRun, Tbl.put, Tbl.ins_ins]

@[simp] theorem CoreRun.seqTake_pc (r : CoreRun) (w : Nat) : (r.seqTake w).pc = r.pc := by
  unfold CoreRun.seqTake CoreRun.takeWait; repeat' split <;> try rfl
@[simp] theorem CoreRun.seqTake_idx (r : CoreRun) (w : Nat) : (r.seqTake w).idx = r.idx := by
  unfold CoreRun.seqTake CoreRun.takeWait; repeat' split <;> try rfl
@[simp] theorem CoreRun.seqTake_queue (r : CoreRun) (w u : Nat) : (r.seqTake w).queue u = r.queue u := by
  unfold CoreRun.seqTake CoreRun.takeWait; repeat' split <;> try rfl
@[simp] theorem CoreRun.seqTake_active (r : CoreRun) (w u : Nat) : (r.seqTake w).active u = r.active u := by
  unfold CoreRun.seqTake CoreRun.takeWait; repeat' split <;> try rfl
@[simp] theorem CoreRun.seqTake_memWait (r : CoreRun) (w : Nat) : (r.seqTake w).memWait = r.memWait := by
  unfold CoreRun.seqTake CoreRun.takeWait; repeat' split <;> try rfl

/-- A sequencer instruction whose common wait is met acts, with its count subtracted once. -/
theorem sequence_atIssue {s : State} {die : Fin 8} {core : Fin 48} {c o k : Nat} {g : Grant} {r : CoreRun} {w : Nat}
    (h : AtIssue s die core c o k g r w) (f : Nat → Grant → CoreRun → Nat → State → State) :
    s.sequence die.val core.val c o f = f k g (r.seqTake w) w (s.setRun k (some (r.seqTake w))) := by
  unfold State.sequence
  rw [h.runs]
  have : r.seqMet w = true := by unfold CoreRun.seqMet; simpa using h.waits
  simp [h.inCode, h.word, h.cls, h.op, this]

end Sys2Proof
end

