-- ==== Sys2Proof/Laws/Checks.lean ====
section
/-! SUPPORT. The checks at the start of a unit's instruction pass when the conditions of the spec on its operands hold. -/

namespace Sys2Proof

open Sys2Proof.Machine

theorem need_true {b : Bool} (h : b = true) (st : Status) (a : Nat) : need b st a = none := by simp [need, h]

/-- A list of checks of which none fails lets the instruction go on. -/
theorem Chk.of_none {l : List (Option Bad)} (h : ∀ x ∈ l, x = none) (v : Chk) : Chk.of l v = v := by
  have : firstFail l = none := by
    induction l with
    | nil => rfl
    | cons x r ih => rw [h x (by simp)]; exact ih (fun y hy => h y (by simp [hy]))
  simp [Chk.of, this]

/-- Operands that a unit may take pass the checks of alignment and bounds. -/
theorem scratchChecks_none {os : List Operand} (h : ∀ o ∈ os, ScratchOk o) : ∀ x ∈ scratchChecks os, x = none := by
  intro x hx
  simp only [scratchChecks, List.mem_append, List.mem_map] at hx
  rcases hx with ⟨o, ho, rfl⟩ | ⟨o, ho, rfl⟩
  · exact need_true (h o ho).aligned _ _
  · exact need_true (h o ho).inside _ _

theorem all_own {os : List Operand} (h : ∀ o ∈ os, ScratchOk o) : os.all Operand.own = true := by
  simp only [List.all_eq_true]; intro o ho; simp [Operand.own, (h o ho).own]

/-- A vector or special function instruction whose operands may be taken, with elements, and whose extents, formats and lengths are right,
goes on. -/
theorem vecCheck_go {used : List Operand} {zero types : Bool} {lens : List (Option Bad)} (h : ∀ o ∈ used, ScratchOk o) (hz : zero = false)
    (ht : types = true) (hl : ∀ x ∈ lens, x = none) : vecCheck used zero types lens = .go := by
  unfold vecCheck
  rw [all_own h, hz]
  simp only [Bool.not_true, Bool.false_eq_true, if_false]
  refine Chk.of_none ?_ _
  intro x hx
  simp only [List.mem_cons, List.mem_append, List.cons_append] at hx
  rcases hx with rfl | hx | hx
  · exact need_true ht _ _
  · exact scratchChecks_none h x hx
  · exact hl x hx

/-- An instruction without elements whose operands lie in scratch completes at once. -/
theorem vecCheck_once {used : List Operand} {types : Bool} {lens : List (Option Bad)} (h : ∀ o ∈ used, o.d.space = 0) :
    vecCheck used true types lens = .once := by
  have : used.all Operand.own = true := by simp only [List.all_eq_true]; intro o ho; simp [Operand.own, h o ho]
  simp [vecCheck, this]

/-- An operand in another space ends a vector or special function instruction. -/
theorem vecCheck_space {used : List Operand} {zero types : Bool} {lens : List (Option Bad)} {o : Operand} (ho : o ∈ used)
    (h : o.d.space ≠ 0) : vecCheck used zero types lens = .fault { cause := Status.typeMismatch.code } := by
  have : used.all Operand.own = false := by
    simp only [List.all_eq_false]; exact ⟨o, ho, by simp [Operand.own, h]⟩
  simp [vecCheck, this, Chk.of, need, firstFail]

theorem setBusy_false {r : CoreRun} {us : List Nat} {w : Nat} (h : SetFree r us w) : r.setBusy us w = false := by
  simp only [CoreRun.setBusy, List.any_eq_false, List.any_eq_true, not_exists, not_and]
  intro u hu x hx; simpa using h u hu x hx

theorem mmaCheck_go {s : State} {g : Grant} {r : CoreRun} {q : QInstr} {us : List Nat} {rows : Nat} {a b : Operand} (hf : SetFree r us q.word)
    (ho : s.mmaOperands g q = (a, b)) (h : MmaOk rows a b) : s.mmaCheck g r q us rows = .go := by
  obtain ⟨ha, hb, hs, ⟨d1, d2, d3, d4, d5⟩, hp⟩ := h
  simp only [State.mmaCheck, ho, setBusy_false hf, Operand.own, ha.own, hb.own, hs]
  simp only [Bool.false_eq_true, if_false, decide_true, Bool.and_self, Bool.not_true, false_and]
  refine Chk.of_none ?_ _
  intro x hx
  simp only [mmaChecks, List.mem_append, List.mem_cons, List.not_mem_nil, or_false] at hx
  rcases hx with (rfl | rfl) | hx
  · exact need_true (by simp [d1, d2, d3, d4, d5]) _ _
  · exact need_true hp _ _
  · exact scratchChecks_none (by intro o ho; simp at ho; rcases ho with rfl | rfl <;> assumption) x hx

theorem accCheck_go {s : State} {g : Grant} {r : CoreRun} {q : QInstr} {us : List Nat} {rows : Nat} {f : Fmt} {o : Operand}
    (hf : SetFree r us q.word) (ho : s.accOperand g q = o) (h : AccOk rows f o) (hr : rows ≠ 0) : s.accCheck g r q us rows f = .go := by
  obtain ⟨hs, ⟨d0, d1, d2⟩, hm⟩ := h
  have hc : o.d.count ≠ 0 := by simp [Desc.count, d0, d1, d2]; omega
  simp only [State.accCheck, ho, setBusy_false hf, Operand.own, hs.own, hc]
  simp only [Bool.false_eq_true, if_false, decide_true, Bool.not_true]
  refine Chk.of_none ?_ _
  intro x hx
  simp only [List.mem_append, List.mem_cons, List.not_mem_nil, or_false] at hx
  rcases hx with rfl | hx
  · exact need_true (by simp [d0, d1, d2, hm]) _ _
  · exact scratchChecks_none (by intro o ho; simp at ho; subst ho; exact hs) x hx

theorem sfuCheck_go {s : State} {op : SfuOp} {k : Nat} {g : Grant} {r : CoreRun} {q : QInstr} (h : SfuOk s op k g r q) :
    s.sfuCheck op k g r q = .go := by
  obtain ⟨h1, hd, ha, hb, hs, hi, hsh, hn, ht, hr, htr⟩ := h
  unfold State.sfuCheck
  have hp : (usesRecord op && decide (r.pos ≠ 0)) = false := by
    cases hu : usesRecord op
    · rfl
    · simp [h1 hu]
  simp only [hp, Bool.false_eq_true, if_false]
  have hg : vecCheck ([(s.operands3 g q).dst, (s.operands3 g q).a] ++ (if usesB op q.word then [(s.operands3 g q).b] else []))
      (decide ((s.operands3 g q).a.d.count = 0) || (decide (op = .topk) && decide (immK q.word = 0)))
      (immOk op q.word && sfuShape op q.word (s.operands3 g q) && (!usesRecord op || decide (recCheck (s.heldRecord g r) ≠ some .typeMismatch)))
      ([need (decide ((s.operands3 g q).a.d.logLen (immSpan q.word) ≤ 1048576)) .lengthExceeds] ++
        (if op = .topk then [need (decide (immK q.word ≤ 256) && decide (immK q.word ≤ (s.operands3 g q).a.d.logLen (immSpan q.word))) .lengthExceeds] else []) ++
        (if usesRecord op then [need (decide (recTopK (s.heldRecord g r) ≤ 1024)) .lengthExceeds] else []) ++
        (if op = .treeverify then [need (decide ((s.operands3 g q).b.d.dim1 ≤ 64)) .lengthExceeds] else [])) = .go := by
    apply vecCheck_go
    · intro o ho
      simp only [List.mem_append, List.mem_cons, List.not_mem_nil, or_false] at ho
      rcases ho with (rfl | rfl) | ho
      · exact hd
      · exact ha
      · split at ho
        · simp at ho; subst ho; exact hb (by assumption)
        · simp at ho
    · simp only [hs, decide_false, Bool.false_or, Bool.and_eq_false_iff, decide_eq_false_iff_not]
      by_cases e : op = .topk
      · have := (ht e).1; omega
      · exact Or.inl e
    · rw [hi, hsh]
      cases hu : usesRecord op
      · rfl
      · simp [(hr hu).1]
    · intro x hx
      simp only [List.mem_append, List.mem_cons, List.not_mem_nil, or_false] at hx
      rcases hx with ((rfl | hx) | hx) | hx
      · exact need_true (by simpa using hn) _ _
      · split at hx
        · simp at hx; subst hx; rename_i e; exact need_true (by simpa using (ht e).2) _ _
        · simp at hx
      · split at hx
        · simp at hx; subst hx; rename_i e; exact need_true (by simpa using (hr e).2) _ _
        · simp at hx
      · split at hx
        · simp at hx; subst hx; rename_i e; exact need_true (by simpa using (htr e).1) _ _
        · simp at hx
  rw [hg]
  rw [if_neg]
  rintro ⟨-, e, b⟩
  rw [(htr e).2] at b; simp at b

theorem xferChecks_go {s : State} {op : Nat} {x : Orphan} (h : XferOk s op x) : s.xferChecks x = .go := by
  obtain ⟨ho, hsp, hs, hd, hf, ha, hin, hup, hfl, hop⟩ := h
  unfold State.xferChecks
  subst ho
  simp only [hsp, hs]
  simp only [Bool.not_true, Bool.false_eq_true, if_false, false_and]
  refine Chk.of_none ?_ _
  intro y hy
  simp only [List.mem_append, List.mem_cons, List.not_mem_nil, or_false, List.mem_map] at hy
  rcases hy with (((rfl | rfl) | ⟨o, hm, rfl⟩) | ⟨o, hm, rfl⟩) | rfl | rfl
  · exact need_true (by rw [hd, Bool.true_and]; exact hf) _ _
  · refine need_true ?_ _ _
    by_cases e : iOp x.q.word = 2
    · simp [(hfl e).1]
    · simp [e]
  · refine need_true ?_ _ _
    rcases hm with (rfl | rfl) | hm
    · exact ha.1
    · exact ha.2
    · split at hm
      · simp at hm; subst hm; rename_i e; exact (hfl e).2.1
      · simp at hm
  · split at hm
    · simp at hm; rcases hm with rfl | rfl
      · exact hin.1
      · exact hin.2
    · simp only [List.mem_append, List.mem_cons, List.not_mem_nil, or_false] at hm
      rcases hm with (rfl | rfl) | hm
      · exact hin.1
      · exact hin.2
      · split at hm
        · simp at hm; subst hm; rename_i e; exact (hfl e).2.2.1
        · simp at hm
  · refine need_true ?_ _ _
    simp only [List.all_eq_true, List.mem_append, List.mem_cons, List.not_mem_nil, or_false]
    rintro o ((rfl | rfl) | hm)
    · exact hup.1
    · exact hup.2
    · split at hm
      · simp at hm; subst hm; rename_i e; exact (hfl e).2.2.2
      · simp at hm
  · exact need_true (by simp [hop]) _ _

theorem startWaits_free {s : State} {r : CoreRun} {g : Grant} {k u : Nat} {q : QInstr} (h : XferFree s r g k u q) :
    s.startWaits r g k u q = false := by
  obtain ⟨h1, h2, h3, h4, h5⟩ := h
  simp only [State.startWaits, State.sendWaits, h1, h3, h4, h5, Bool.or_false, Bool.false_or, Bool.and_eq_false_iff, decide_eq_false_iff_not]
  by_cases e : (s.xRemote (xferOf g k q)).d.space = 5
  · exact Or.inr (h2 e)
  · exact Or.inl e

/-- A transfer whose operands need no translation, no route and no Dyke is admitted with none. -/
theorem accessBoth_local {s : State} {x : Orphan} (ha : (s.xSrc x).d.space = 0 ∨ (s.xSrc x).d.space = 1 ∨ (s.xSrc x).d.space = 2 ∨ (s.xSrc x).d.space = 6)
    (hb : (s.xDst x).d.space = 0 ∨ (s.xDst x).d.space = 1 ∨ (s.xDst x).d.space = 2 ∨ (s.xDst x).d.space = 6)
    (hf : ∀ o ∈ s.xFlags x, o.d.space ≠ 5) : s.accessBoth x = (s, .ok ([], [])) := by
  have hu : s.flagUnreached x = false := by
    simp only [State.flagUnreached, List.any_eq_false]; intro o ho; simp [hf o ho]
  unfold State.accessBoth
  rw [hu]
  rcases ha with ha | ha | ha | ha <;> rcases hb with hb | hb | hb | hb <;> simp [State.access, ha, hb, State.dirtyOperand]

end Sys2Proof
end

