-- ==== Sys2Proof/Laws/Frame.lean ====
section
/-! SUPPORT. Composition of frames: how a claim that a function of the state leaves parts of it alone follows from the
claims about the functions that it calls. -/

namespace Sys2Proof

open Sys2Proof.Machine

theorem Same.refl (W : List Part) (s : State) : Same W s s := by
  intro p _; cases p <;> rfl

theorem Part.same_trans {p : Part} {s t u : State} (h : p.same s t) (g : p.same t u) : p.same s u := by
  cases p <;> exact Eq.trans g h

theorem Same.trans {W : List Part} {s t u : State} (h : Same W s t) (g : Same W t u) : Same W s u :=
  fun p hp => Part.same_trans (h p hp) (g p hp)

theorem Same.mono {V W : List Part} {s t : State} (g : Same V s t) (hv : (V.all fun p => W.contains p) = true) :
    Same W s t := by
  intro p hp
  apply g p
  intro hm
  have := List.all_eq_true.mp hv p hm
  simp at this
  exact hp this

/-- Extend a frame by a function whose own frame is smaller. -/
theorem Same.step {V W : List Part} {s t u : State} (g : Same V t u) (hv : (V.all fun p => W.contains p) = true)
    (h : Same W s t) : Same W s u := h.trans (g.mono hv)

/-- Extend a frame by a record update: the queue, which no update touches, tells what the update is of. -/
theorem Same.record {W : List Part} {s t : State} {a1 a2 a3 a4 a5 a6 a7 a8 a9 a10 a11 a12 a13 a14 a15 a16 a17 a18 a19
    a20 a21 a22 a23 a24 a25 a26 a27 a28 a29 a30 a31 a32 a33 a34 a35 a36 a37 a38 a39 a40 a41 a42 a43 a44 a45 a46 a47
    a48 a49 a50 a51 a52 a53 a54 a55 a56 a57 a58 a59 a60 a61 a62 a63 a64 a65}
    (_ : a65 = t.pending) (g : Same W t (State.mk a1 a2 a3 a4 a5 a6 a7 a8 a9 a10 a11 a12 a13 a14 a15 a16 a17 a18 a19
    a20 a21 a22 a23 a24 a25 a26 a27 a28 a29 a30 a31 a32 a33 a34 a35 a36 a37 a38 a39 a40 a41 a42 a43 a44 a45 a46 a47
    a48 a49 a50 a51 a52 a53 a54 a55 a56 a57 a58 a59 a60 a61 a62 a63 a64 a65))
    (h : Same W s t) : Same W s (State.mk a1 a2 a3 a4 a5 a6 a7 a8 a9 a10 a11 a12 a13 a14 a15 a16 a17 a18 a19 a20 a21
    a22 a23 a24 a25 a26 a27 a28 a29 a30 a31 a32 a33 a34 a35 a36 a37 a38 a39 a40 a41 a42 a43 a44 a45 a46 a47 a48 a49
    a50 a51 a52 a53 a54 a55 a56 a57 a58 a59 a60 a61 a62 a63 a64 a65) := h.trans g

theorem Same.ite {W : List Part} {s a b : State} {c : Prop} [Decidable c] (h : Same W s a) (g : Same W s b) :
    Same W s (if c then a else b) := by split <;> assumption

theorem Same.foldl {α : Type} {W : List Part} {s0 s : State} {f : State → α → State} {l : List α}
    (h : Same W s0 s) (hf : ∀ t x, Same W s0 t → Same W s0 (f t x)) : Same W s0 (l.foldl f s) := by
  induction l generalizing s with
  | nil => exact h
  | cons x r ih => exact ih (hf s x h)

theorem Same.foldlFst {α β : Type} {W : List Part} {s0 : State} {p : State × β} {f : State × β → α → State × β}
    {l : List α} (h : Same W s0 p.1) (hf : ∀ q x, Same W s0 q.1 → Same W s0 (f q x).1) :
    Same W s0 (l.foldl f p).1 := by
  induction l generalizing p with
  | nil => exact h
  | cons x r ih => exact ih (hf p x h)

theorem Same.iteFst {β : Type} {W : List Part} {s : State} {a b : State × β} {c : Prop} [Decidable c]
    (h : Same W s a.1) (g : Same W s b.1) : Same W s (if c then a else b).1 := by split <;> assumption

theorem Same.loopTo {W : List Part} {s0 s : State} {n : Nat} {f : Nat → State → State}
    (h : Same W s0 s) (hf : ∀ t i, Same W s0 t → Same W s0 (f i t)) : Same W s0 (loopTo n f s) :=
  Same.foldl h hf

/-- Prove a frame once for a state that the rest names several times. -/
theorem Same.have {W : List Part} {s u : State} (t : State) (h : Same W s t) (k : Same W s t → Same W s u) :
    Same W s u := k h

theorem Same.fstOf {β : Type} {W : List Part} {s t : State} {p : State × β} {b : β} (e : p = (t, b))
    (h : Same W s p.1) : Same W s t := by subst e; exact h

theorem Same.someOf {W : List Part} {s t : State} {o : Option State} (e : o = some t)
    (h : ∀ u, o = some u → Same W s u) : Same W s t := h t e

/-- The state that a landing leaves. -/
def Machine.Landed.after : Landed → State
  | .fail s _ _ _ => s
  | .done s _ => s

theorem Same.failOf {W : List Part} {s t : State} {l : Landed} {c a f : Nat} (e : l = .fail t c a f)
    (h : Same W s l.after) : Same W s t := by subst e; exact h

theorem Same.doneOf {W : List Part} {s t : State} {l : Landed} {f : Nat} (e : l = .done t f)
    (h : Same W s l.after) : Same W s t := by subst e; exact h

theorem Same.failFstOf {β : Type} {W : List Part} {s t : State} {p : Landed × β} {c a f : Nat} {b : β}
    (e : p = (.fail t c a f, b)) (h : Same W s p.1.after) : Same W s t := by subst e; exact h

theorem Same.doneFstOf {β : Type} {W : List Part} {s t : State} {p : Landed × β} {f : Nat} {b : β}
    (e : p = (.done t f, b)) (h : Same W s p.1.after) : Same W s t := by subst e; exact h

/-- A frame of a command: what it leaves alone when it answers a next state. -/
structure OutSame (W : List Part) (s : State) (o : Out) : Prop where
  ofNext : ∀ t, o = .next t → Same W s t

theorem OutSame.have {W : List Part} {s : State} {o : Out} (t : State) (h : Same W s t) (k : Same W s t → OutSame W s o) :
    OutSame W s o := k h

theorem OutSame.next {W : List Part} {s t : State} (h : Same W s t) : OutSame W s (.next t) :=
  ⟨by intro u hu; cases hu; exact h⟩

theorem OutSame.mono {V W : List Part} {s : State} {o : Out} (h : OutSame V s o)
    (hv : (V.all fun p => W.contains p) = true) : OutSame W s o := ⟨fun t ht => (h.ofNext t ht).mono hv⟩

theorem OutSame.ite {W : List Part} {s : State} {a b : Out} {c : Prop} [Decidable c] (h : OutSame W s a)
    (g : OutSame W s b) : OutSame W s (if c then a else b) := by split <;> assumption

end Sys2Proof
end

