-- ==== Sys2Proof/Laws/FrameOps.lean ====
section
/-! SUPPORT. Frames of the functions of Machine/Ops.lean: one lemma a function, which says what parts of the state it
can change. -/

namespace Sys2Proof.Machine

open Sys2Proof

theorem State.setReg_same (x1 : State) (x2 x3 : Nat) :
    Same [.dict] x1 (State.setReg x1 x2 x3) := by
  unfold State.setReg
  with_reducible refine Same.record rfl ?_ ?_
  · intro p hp; cases p <;> first | exact absurd (by decide) hp | exact rfl
  exact Same.refl _ _

theorem State.keep_same (x1 : State) (x2 x3 : Nat) :
    Same [.dict, .nv] x1 (State.keep x1 x2 x3) := by
  unfold State.keep
  extract_lets v0
  refine Same.have v0 ?_ fun h1 => ?_
  · with_reducible refine Same.step (State.setReg_same _ _ _) (by decide) ?_
    exact Same.refl _ _
  clear_value v0
  refine Same.ite ?_ ?_
  · exact h1
  · with_reducible refine Same.record rfl ?_ ?_
    · intro p hp; cases p <;> first | exact absurd (by decide) hp | exact rfl
    exact h1

theorem State.addReg_same (x1 : State) (x2 x3 : Nat) :
    Same [.dict] x1 (State.addReg x1 x2 x3) := by
  unfold State.addReg
  with_reducible refine Same.step (State.setReg_same _ _ _) (by decide) ?_
  exact Same.refl _ _

theorem State.bump_same (x1 : State) (x2 : Nat) :
    Same [.dict] x1 (State.bump x1 x2) := by
  unfold State.bump
  with_reducible refine Same.step (State.addReg_same _ _ _) (by decide) ?_
  exact Same.refl _ _

theorem State.stick_same (x1 : State) (x2 x3 : Nat) :
    Same [.dict] x1 (State.stick x1 x2 x3) := by
  unfold State.stick
  with_reducible refine Same.step (State.setReg_same _ _ _) (by decide) ?_
  exact Same.refl _ _

theorem State.answer_same (x1 : State) (x2 : Status) :
    Same [.lastStatus] x1 (State.answer x1 x2) := by
  unfold State.answer
  with_reducible refine Same.record rfl ?_ ?_
  · intro p hp; cases p <;> first | exact absurd (by decide) hp | exact rfl
  exact Same.refl _ _

theorem State.answerCode_same (x1 : State) (x2 : Nat) :
    Same [.lastStatus] x1 (State.answerCode x1 x2) := by
  unfold State.answerCode
  with_reducible refine Same.record rfl ?_ ?_
  · intro p hp; cases p <;> first | exact absurd (by decide) hp | exact rfl
  exact Same.refl _ _

theorem State.tickFree_same (x1 : State) :
    Same [.freeCtr] x1 (State.tickFree x1) := by
  unfold State.tickFree
  with_reducible refine Same.record rfl ?_ ?_
  · intro p hp; cases p <;> first | exact absurd (by decide) hp | exact rfl
  exact Same.refl _ _

theorem when_same {W : List Part} {s0 : State} {b : Bool} {t s : State} (h : Same W s0 t)
    (g : Same W s0 s) : Same W s0 (when b t s) := by
  unfold when; split <;> assumption

theorem State.mapRecord_same (x1 : State) (x2 : MapEntry) :
    Same [.dict, .fieldMap] x1 (State.mapRecord x1 x2) := by
  unfold State.mapRecord
  refine Same.ite ?_ ?_
  · with_reducible refine Same.record rfl ?_ ?_
    · intro p hp; cases p <;> first | exact absurd (by decide) hp | exact rfl
    exact Same.refl _ _
  · with_reducible refine Same.step (State.stick_same _ _ _) (by decide) ?_
    exact Same.refl _ _

theorem State.setCore_same (x1 : State) (x2 : Nat) (x3 : PCore) :
    Same [.cores] x1 (State.setCore x1 x2 x3) := by
  unfold State.setCore
  with_reducible refine Same.record rfl ?_ ?_
  · intro p hp; cases p <;> first | exact absurd (by decide) hp | exact rfl
  exact Same.refl _ _

theorem State.setRun_same (x1 : State) (x2 : Nat) (x3 : Option CoreRun) :
    Same [.runs] x1 (State.setRun x1 x2 x3) := by
  unfold State.setRun
  with_reducible refine Same.record rfl ?_ ?_
  · intro p hp; cases p <;> first | exact absurd (by decide) hp | exact rfl
  exact Same.refl _ _

theorem State.setLane_same (x1 : State) (x2 x3 : Nat) (x4 : Lane) :
    Same [.lanes] x1 (State.setLane x1 x2 x3 x4) := by
  unfold State.setLane
  with_reducible refine Same.record rfl ?_ ?_
  · intro p hp; cases p <;> first | exact absurd (by decide) hp | exact rfl
  exact Same.refl _ _

theorem State.setDie_same (x1 : State) (x2 : Nat) (x3 : Die) :
    Same [.dies] x1 (State.setDie x1 x2 x3) := by
  unfold State.setDie
  with_reducible refine Same.record rfl ?_ ?_
  · intro p hp; cases p <;> first | exact absurd (by decide) hp | exact rfl
  exact Same.refl _ _

theorem State.setStore_same (x1 : State) (x2 : Nat) (x3 : Store) :
    Same [.stores] x1 (State.setStore x1 x2 x3) := by
  unfold State.setStore
  with_reducible refine Same.record rfl ?_ ?_
  · intro p hp; cases p <;> first | exact absurd (by decide) hp | exact rfl
  exact Same.refl _ _

theorem State.setChan_same (x1 : State) (x2 : Nat) (x3 : Chan) :
    Same [.chans] x1 (State.setChan x1 x2 x3) := by
  unfold State.setChan
  with_reducible refine Same.record rfl ?_ ?_
  · intro p hp; cases p <;> first | exact absurd (by decide) hp | exact rfl
  exact Same.refl _ _

theorem State.setPort_same (x1 : State) (x2 : Nat) (x3 : Port) :
    Same [.ports] x1 (State.setPort x1 x2 x3) := by
  unfold State.setPort
  with_reducible refine Same.record rfl ?_ ?_
  · intro p hp; cases p <;> first | exact absurd (by decide) hp | exact rfl
  exact Same.refl _ _

theorem State.setStream_same (x1 : State) (x2 : Nat) (x3 : Stream) :
    Same [.streams] x1 (State.setStream x1 x2 x3) := by
  unfold State.setStream
  with_reducible refine Same.record rfl ?_ ?_
  · intro p hp; cases p <;> first | exact absurd (by decide) hp | exact rfl
  exact Same.refl _ _

theorem State.postSlot_same (x1 : State) (x2 x3 x4 : Nat) (x5 : List Byte) :
    Same [.dict, .ports] x1 (State.postSlot x1 x2 x3 x4 x5) := by
  unfold State.postSlot
  split
  rename_i e0 e1 e2 e3
  extract_lets v4
  refine Same.have v4 ?_ fun h5 => ?_
  · with_reducible refine Same.step (State.setPort_same _ _ _) (by decide) ?_
    exact Same.refl _ _
  clear_value v4
  refine Same.ite ?_ ?_
  · exact h5
  · with_reducible refine Same.step (State.bump_same _ _) (by decide) ?_
    exact h5

theorem State.signal_same (x1 x2 : State) :
    Same [.ports] x1 (State.signal x1 x2) := by
  unfold State.signal
  refine Same.foldl ?_ fun q0 y1 h2 => ?_
  · exact Same.refl _ _
  · extract_lets v3
    refine Same.ite ?_ ?_
    · with_reducible refine Same.step (State.setPort_same _ _ _) (by decide) ?_
      exact h2
    · exact h2

theorem State.trace_same (x1 : State) (x2 x3 x4 x5 x6 x7 : Nat) :
    Same [.dict, .test] x1 (State.trace x1 x2 x3 x4 x5 x6 x7) := by
  unfold State.trace
  extract_lets v0 v1 v2 v3 v4 v5
  refine Same.have v5 ?_ fun h6 => ?_
  · dsimp only [v5]
    with_reducible refine Same.record rfl ?_ ?_
    · intro p hp; cases p <;> first | exact absurd (by decide) hp | exact rfl
    exact Same.refl _ _
  clear_value v5
  refine Same.ite ?_ ?_
  · refine Same.ite ?_ ?_
    · with_reducible refine Same.step (State.bump_same _ _) (by decide) ?_
      exact h6
    · exact h6
  · exact Same.refl _ _

theorem State.traceOpen_same (x1 : State) (x2 x3 x4 : Nat) (x5 x6 x7 : Option Nat) :
    Same [.dict, .freeCtr, .test] x1 (State.traceOpen x1 x2 x3 x4 x5 x6 x7) := by
  unfold State.traceOpen
  extract_lets v0 v1
  refine Same.have v1 ?_ fun h2 => ?_
  · with_reducible refine Same.step (State.trace_same _ _ _ _ _ _ _) (by decide) ?_
    exact Same.refl _ _
  clear_value v1
  refine Same.ite ?_ ?_
  · with_reducible refine Same.record rfl ?_ ?_
    · intro p hp; cases p <;> first | exact absurd (by decide) hp | exact rfl
    exact h2
  · exact Same.refl _ _

theorem State.post_same (x1 : State) (x2 x3 x4 : Nat) (x5 : List Byte) :
    Same [.dict, .freeCtr, .ports, .test] x1 (State.post x1 x2 x3 x4 x5) := by
  unfold State.post
  extract_lets v0
  refine Same.have v0 ?_ fun h1 => ?_
  · with_reducible refine Same.step (State.postSlot_same _ _ _ _ _) (by decide) ?_
    exact Same.refl _ _
  clear_value v0
  refine Same.ite ?_ ?_
  · exact h1
  · with_reducible refine Same.step (State.traceOpen_same _ _ _ _ _ _ _) (by decide) ?_
    exact h1

theorem State.event_same (x1 : State) (x2 x3 x4 : Nat) :
    Same [.dict, .freeCtr, .ports, .test] x1 (State.event x1 x2 x3 x4) := by
  unfold State.event
  extract_lets v0 v1
  refine Same.ite ?_ ?_
  · with_reducible refine Same.step (State.post_same _ _ _ _ _) (by decide) ?_
    exact Same.refl _ _
  · exact Same.refl _ _

theorem State.freeUnit_same (x1 : State) (x2 : BistUnit) :
    Same [.cores, .lanes] x1 (State.freeUnit x1 x2) := by
  unfold State.freeUnit
  split
  · rename_i e0 e1 e2
    with_reducible refine Same.step (State.setCore_same _ _ _) (by decide) ?_
    exact Same.refl _ _
  · rename_i e3 e4 e5 e6
    with_reducible refine Same.step (State.setCore_same _ _ _) (by decide) ?_
    exact Same.refl _ _
  · rename_i e7 e8 e9
    extract_lets v10
    with_reducible refine Same.step (State.setLane_same _ _ _ _) (by decide) ?_
    exact Same.refl _ _
  · rename_i e11 e12 e13
    exact Same.refl _ _

theorem State.dropSlices_same (x1 : State) (x2 : BistUnit → Bool) :
    Same [.dict, .cores, .lanes, .test] x1 (State.dropSlices x1 x2) := by
  unfold State.dropSlices
  extract_lets v0 v1 v2
  refine Same.have v1 ?_ fun h3 => ?_
  · refine Same.foldl ?_ fun q4 y5 h6 => ?_
    · exact Same.refl _ _
    · with_reducible refine Same.step (State.freeUnit_same _ _) (by decide) ?_
      exact h6
  clear_value v1
  with_reducible refine Same.step (State.addReg_same _ _ _) (by decide) ?_
  with_reducible refine Same.record rfl ?_ ?_
  · intro p hp; cases p <;> first | exact absurd (by decide) hp | exact rfl
  exact h3

theorem State.startDieTest_same (x1 : State) (x2 : Nat) :
    Same [.test] x1 (State.startDieTest x1 x2) := by
  unfold State.startDieTest
  with_reducible refine Same.record rfl ?_ ?_
  · intro p hp; cases p <;> first | exact absurd (by decide) hp | exact rfl
  exact Same.refl _ _

theorem State.stopAtOnce_same (x1 : State) :
    Same [.pw, .test] x1 (State.stopAtOnce x1) := by
  unfold State.stopAtOnce
  extract_lets v0 v1 v2
  with_reducible refine Same.record rfl ?_ ?_
  · intro p hp; cases p <;> first | exact absurd (by decide) hp | exact rfl
  exact Same.refl _ _

theorem State.writeFreeze_same (x1 : State) (x2 : Nat) :
    Same [.dict, .lastStatus, .pw, .test] x1 (State.writeFreeze x1 x2) := by
  unfold State.writeFreeze
  extract_lets v0 v1 v2 v3 v4
  refine Same.have v1 ?_ fun h5 => ?_
  · with_reducible refine Same.step (State.answer_same _ _) (by decide) ?_
    exact Same.refl _ _
  clear_value v1
  refine Same.have v3 ?_ fun h6 => ?_
  · with_reducible refine Same.step (State.setReg_same _ _ _) (by decide) ?_
    with_reducible refine Same.step (State.setReg_same _ _ _) (by decide) ?_
    exact h5
  clear_value v3
  refine Same.ite ?_ ?_
  · with_reducible refine Same.step (State.answer_same _ _) (by decide) ?_
    exact Same.refl _ _
  · refine Same.ite ?_ ?_
    · with_reducible refine Same.record rfl ?_ ?_
      · intro p hp; cases p <;> first | exact absurd (by decide) hp | exact rfl
      exact h5
    · refine Same.ite ?_ ?_
      · with_reducible refine Same.record rfl ?_ ?_
        · intro p hp; cases p <;> first | exact absurd (by decide) hp | exact rfl
        exact h6
      · with_reducible refine Same.step (State.stopAtOnce_same _) (by decide) ?_
        exact h6

theorem State.traceStep_same (x1 : State) (x2 x3 x4 x5 x6 x7 x8 : Nat) :
    Same [.dict, .test] x1 (State.traceStep x1 x2 x3 x4 x5 x6 x7 x8) := by
  unfold State.traceStep
  with_reducible refine Same.step (State.trace_same _ _ _ _ _ _ _) (by decide) ?_
  exact Same.refl _ _

theorem State.postStep_same (x1 : State) (x2 x3 x4 x5 x6 x7 : Nat) (x8 : FaultInfo) :
    Same [.dict, .lastStatus, .freeCtr, .ports, .pw, .test] x1 (State.postStep x1 x2 x3 x4 x5 x6 x7 x8) := by
  unfold State.postStep
  extract_lets v0 v1 v2 v3
  refine Same.have v1 ?_ fun h4 => ?_
  · with_reducible refine Same.step (State.writeFreeze_same _ _) (by decide) ?_
    exact Same.refl _ _
  clear_value v1
  refine Same.have v2 ?_ fun h5 => ?_
  · refine Same.ite ?_ ?_
    · with_reducible refine Same.record rfl ?_ ?_
      · intro p hp; cases p <;> first | exact absurd (by decide) hp | exact rfl
      exact h4
    · exact Same.refl _ _
  clear_value v2
  refine Same.ite ?_ ?_
  · with_reducible refine Same.step (State.post_same _ _ _ _ _) (by decide) ?_
    exact h5
  · exact h5

end Sys2Proof.Machine
end

