-- ==== Sys2Proof/Laws/FrameMemory.lean ====
section
/-! SUPPORT. Frames of the functions of Machine/Memory.lean: one lemma a function, which says what parts of the state it
can change. -/

namespace Sys2Proof.Machine

open Sys2Proof

theorem State.putEntryAt_same (x1 : State) (x2 x3 x4 : Nat) :
    Same [.ledger] x1 (State.putEntryAt x1 x2 x3 x4) := by
  unfold State.putEntryAt
  with_reducible refine Same.record rfl ?_ ?_
  · intro p hp; cases p <;> first | exact absurd (by decide) hp | exact rfl
  exact Same.refl _ _

theorem State.cacheLine_same (x1 : State) (x2 x3 x4 : Nat) :
    Same [.tlb] x1 (State.cacheLine x1 x2 x3 x4) := by
  unfold State.cacheLine
  with_reducible refine Same.record rfl ?_ ?_
  · intro p hp; cases p <;> first | exact absurd (by decide) hp | exact rfl
  exact Same.refl _ _

theorem State.touch_same (x1 : State) (x2 : Nat) :
    Same [.stores] x1 (State.touch x1 x2) := by
  unfold State.touch
  refine Same.ite ?_ ?_
  · with_reducible refine Same.step (State.setStore_same _ _ _) (by decide) ?_
    exact Same.refl _ _
  · exact Same.refl _ _

theorem State.touchReplicas_same (x1 : State) :
    Same [.stores] x1 (State.touchReplicas x1) := by
  unfold State.touchReplicas
  refine Same.loopTo ?_ fun q0 y1 h2 => ?_
  · exact Same.refl _ _
  · refine Same.ite ?_ ?_
    · exact h2
    · with_reducible refine Same.step (State.touch_same _ _) (by decide) ?_
      exact h2

theorem State.prefetch_same (x1 : State) (x2 x3 x4 : Nat) :
    Same [.dict, .stores, .tlb] x1 (State.prefetch x1 x2 x3 x4) := by
  unfold State.prefetch
  extract_lets v0 v1
  refine Same.have v1 ?_ fun h2 => ?_
  · with_reducible refine Same.step (State.bump_same _ _) (by decide) ?_
    with_reducible refine Same.step (State.touch_same _ _) (by decide) ?_
    exact Same.refl _ _
  clear_value v1
  refine Same.ite ?_ ?_
  · refine Same.ite ?_ ?_
    · with_reducible refine Same.step (State.cacheLine_same _ _ _ _) (by decide) ?_
      exact h2
    · exact h2
  · exact Same.refl _ _

theorem State.walk_same (x1 : State) (x2 x3 x4 : Nat) :
    Same [.dict, .stores, .ledger, .tlb] x1 (State.walk x1 x2 x3 x4).1 := by
  unfold State.walk
  extract_lets v0 v1 v2 v3 v4 v5
  refine Same.have v1 ?_ fun h6 => ?_
  · with_reducible refine Same.step (State.bump_same _ _) (by decide) ?_
    with_reducible refine Same.step (State.setStore_same _ _ _) (by decide) ?_
    exact Same.refl _ _
  clear_value v1
  refine Same.have v2 ?_ fun h7 => ?_
  · with_reducible refine Same.step (State.cacheLine_same _ _ _ _) (by decide) ?_
    exact h6
  clear_value v2
  refine Same.have v5 ?_ fun h8 => ?_
  · with_reducible refine Same.step (State.putEntryAt_same _ _ _ _) (by decide) ?_
    exact h7
  clear_value v5
  refine Same.iteFst ?_ ?_
  · dsimp only
    exact h6
  · refine Same.iteFst ?_ ?_
    · dsimp only
      exact h7
    · dsimp only
      with_reducible refine Same.record rfl ?_ ?_
      · intro p hp; cases p <;> first | exact absurd (by decide) hp | exact rfl
      exact h8

theorem State.lookup_same (x1 : State) (x2 x3 x4 : Nat) (x5 : Bool) :
    Same [.dict, .stores, .ledger, .tlb] x1 (State.lookup x1 x2 x3 x4 x5).1 := by
  unfold State.lookup
  split
  · rename_i e0 e1 e2
    refine Same.iteFst ?_ ?_
    · with_reducible refine Same.step (State.walk_same _ _ _ _) (by decide) ?_
      exact Same.refl _ _
    · extract_lets v3
      refine Same.have v3 ?_ fun h4 => ?_
      · with_reducible refine Same.step (State.bump_same _ _) (by decide) ?_
        with_reducible refine Same.record rfl ?_ ?_
        · intro p hp; cases p <;> first | exact absurd (by decide) hp | exact rfl
        exact Same.refl _ _
      clear_value v3
      dsimp only
      with_reducible refine Same.step (State.prefetch_same _ _ _ _) (by decide) ?_
      exact h4
  · rename_i e5 e6
    with_reducible refine Same.step (State.walk_same _ _ _ _) (by decide) ?_
    exact Same.refl _ _

theorem State.setDirty_same (x1 : State) (x2 x3 : Nat) :
    Same [.stores, .ledger, .tlb] x1 (State.setDirty x1 x2 x3) := by
  unfold State.setDirty
  refine Same.ite ?_ ?_
  · exact Same.refl _ _
  · extract_lets v0 v1
    refine Same.have v0 ?_ fun h2 => ?_
    · with_reducible refine Same.step (State.touchReplicas_same _) (by decide) ?_
      exact Same.refl _ _
    clear_value v0
    with_reducible refine Same.record rfl ?_ ?_
    · intro p hp; cases p <;> first | exact absurd (by decide) hp | exact rfl
    exact h2

theorem State.dirtyAll_same (x1 : State) (x2 : Nat) (x3 : List (Nat × Nat)) :
    Same [.stores, .ledger, .tlb] x1 (State.dirtyAll x1 x2 x3) := by
  unfold State.dirtyAll
  refine Same.foldl ?_ fun q0 y1 h2 => ?_
  · exact Same.refl _ _
  · with_reducible refine Same.step (State.setDirty_same _ _ _) (by decide) ?_
    exact h2

theorem State.translate_same (x1 : State) (x2 : Nat) (x3 x4 : Bool) (x5 : Accessor) (x6 : Option Nat) (x7 : List (Nat × Nat)) :
    Same [.dict, .stores, .ledger, .tlb] x1 (State.translate x1 x2 x3 x4 x5 x6 x7).1 := by
  induction x7 generalizing x1
  · unfold State.translate
    dsimp only
    exact Same.refl _ _
  · rename_i i0 i1 i2
    unfold State.translate
    split
    · rename_i e3 e4 e5
      dsimp only
      refine Same.fstOf e5 ?_
      with_reducible refine Same.step (State.lookup_same _ _ _ _ _) (by decide) ?_
      exact Same.refl _ _
    · rename_i e6 e7 e8 e9
      split
      · rename_i e10 e11 e12
        extract_lets v13
        refine Same.have v13 ?_ fun h14 => ?_
        · refine Same.ite ?_ ?_
          · with_reducible refine Same.step (State.bump_same _ _) (by decide) ?_
            refine Same.fstOf e9 ?_
            with_reducible refine Same.step (State.lookup_same _ _ _ _ _) (by decide) ?_
            exact Same.refl _ _
          · refine Same.ite ?_ ?_
            · with_reducible refine Same.step (State.bump_same _ _) (by decide) ?_
              refine Same.fstOf e9 ?_
              with_reducible refine Same.step (State.lookup_same _ _ _ _ _) (by decide) ?_
              exact Same.refl _ _
            · refine Same.fstOf e9 ?_
              with_reducible refine Same.step (State.lookup_same _ _ _ _ _) (by decide) ?_
              exact Same.refl _ _
        clear_value v13
        dsimp only
        exact h14
      · rename_i e15 e16
        refine Same.iteFst ?_ ?_
        · dsimp only
          refine Same.fstOf e9 ?_
          with_reducible refine Same.step (State.lookup_same _ _ _ _ _) (by decide) ?_
          exact Same.refl _ _
        · split
          · rename_i e17 e18 e19 e20
            dsimp only
            refine Same.fstOf e20 ?_
            with_reducible refine Same.step (i2 _) (by decide) ?_
            refine Same.fstOf e9 ?_
            with_reducible refine Same.step (State.lookup_same _ _ _ _ _) (by decide) ?_
            exact Same.refl _ _
          · rename_i e21 e22 e23 e24
            dsimp only
            refine Same.fstOf e24 ?_
            with_reducible refine Same.step (i2 _) (by decide) ?_
            refine Same.fstOf e9 ?_
            with_reducible refine Same.step (State.lookup_same _ _ _ _ _) (by decide) ?_
            exact Same.refl _ _

theorem State.physWrite_same (x1 : State) (x2 x3 : Nat) (x4 : List Byte) :
    Same [.stores, .migs] x1 (State.physWrite x1 x2 x3 x4) := by
  unfold State.physWrite
  extract_lets v0 v1
  refine Same.have v1 ?_ fun h2 => ?_
  · with_reducible refine Same.step (State.setStore_same _ _ _) (by decide) ?_
    exact Same.refl _ _
  clear_value v1
  split
  · rename_i e3 e4 e5
    refine Same.ite ?_ ?_
    · with_reducible refine Same.record rfl ?_ ?_
      · intro p hp; cases p <;> first | exact absurd (by decide) hp | exact rfl
      exact h2
    · refine Same.ite ?_ ?_
      · extract_lets v6 v7 v8
        with_reducible refine Same.step (State.setStore_same _ _ _) (by decide) ?_
        exact h2
      · exact h2
  · rename_i e9 e10
    exact h2

theorem State.recWrote_same (x1 : State) (x2 : Stream) (x3 : Bool) (x4 x5 : Nat) :
    Same [.stores] x1 (State.recWrote x1 x2 x3 x4 x5) := by
  unfold State.recWrote
  with_reducible refine Same.step (State.setStore_same _ _ _) (by decide) ?_
  exact Same.refl _ _

theorem State.countForwarded_same (x1 : State) (x2 : List (Nat × Nat)) (x3 : Nat) :
    Same [.dict] x1 (State.countForwarded x1 x2 x3) := by
  unfold State.countForwarded
  extract_lets v0
  refine Same.ite ?_ ?_
  · exact Same.refl _ _
  · with_reducible refine Same.step (State.addReg_same _ _ _) (by decide) ?_
    exact Same.refl _ _

theorem State.virtWrite_same (x1 : State) (x2 : List (Nat × Nat)) (x3 : Nat) (x4 : Bool) (x5 : Nat) (x6 : List Byte) :
    Same [.stores, .migs] x1 (State.virtWrite x1 x2 x3 x4 x5 x6) := by
  unfold State.virtWrite
  refine Same.foldl ?_ fun q0 y1 h2 => ?_
  · exact Same.refl _ _
  · split
    rename_i e3 e4 e5 e6
    with_reducible refine Same.step (State.physWrite_same _ _ _ _) (by decide) ?_
    exact h2

theorem State.wake_same (x1 : State) (x2 : List (Nat × Nat)) (x3 : Nat) :
    Same [.stores] x1 (State.wake x1 x2 x3) := by
  unfold State.wake
  refine Same.foldl ?_ fun q0 y1 h2 => ?_
  · exact Same.refl _ _
  · with_reducible refine Same.step (State.touch_same _ _) (by decide) ?_
    exact h2

theorem State.changeEntry_same (x1 : State) (x2 x3 : Nat) :
    Same [.ledger, .tlb, .epoch] x1 (State.changeEntry x1 x2 x3) := by
  unfold State.changeEntry
  with_reducible refine Same.record rfl ?_ ?_
  · intro p hp; cases p <;> first | exact absurd (by decide) hp | exact rfl
  exact Same.refl _ _

theorem State.holdFrames_same (x1 : State) (x2 : List (Nat × Nat)) :
    Same [.heldFrames] x1 (State.holdFrames x1 x2) := by
  unfold State.holdFrames
  with_reducible refine Same.record rfl ?_ ?_
  · intro p hp; cases p <;> first | exact absurd (by decide) hp | exact rfl
  exact Same.refl _ _

end Sys2Proof.Machine
end

