-- ==== Sys2Proof/Laws/FrameHubMemory.lean ====
section
/-! SUPPORT. Frames of the functions of Machine/HubMemory.lean: one lemma a function, which says what parts of the state it
can change. -/

namespace Sys2Proof.Machine

open Sys2Proof

theorem State.hubWrite_same (x1 : State) (x2 : List (Nat × Nat)) (x3 : Bool) (x4 : Nat) (x5 : List Byte) :
    Same [.stores, .migs] x1 (State.hubWrite x1 x2 x3 x4 x5) := by
  unfold State.hubWrite
  refine Same.foldl ?_ fun q0 y1 h2 => ?_
  · exact Same.refl _ _
  · extract_lets v3 v4
    refine Same.foldl ?_ fun q5 y6 h7 => ?_
    · exact h2
    · with_reducible refine Same.step (State.physWrite_same _ _ _ _) (by decide) ?_
      exact h7

end Sys2Proof.Machine
end

