-- ==== Sys2Proof/Laws/FramePricking.lean ====
section
/-! SUPPORT. Frames of the functions of Machine/Pricking.lean: one lemma a function, which says what parts of the state it
can change. -/

namespace Sys2Proof.Machine

open Sys2Proof

theorem execPrickingDoorbell_same (x1 : Fin 2) (x2 : Fin 8) (x3 : State) :
    OutSame [.dict, .freeCtr, .prick, .test] x3 (execPrickingDoorbell x1 x2 x3) := by
  unfold execPrickingDoorbell
  extract_lets v0 v1 v2 v3
  refine OutSame.have v2 ?_ fun h4 => ?_
  · with_reducible refine Same.step (State.traceOpen_same _ _ _ _ _ _ _) (by decide) ?_
    exact Same.refl _ _
  clear_value v2
  refine OutSame.ite ?_ ?_
  · refine OutSame.next ?_
    exact Same.refl _ _
  · refine OutSame.ite ?_ ?_
    · refine OutSame.next ?_
      with_reducible refine Same.record rfl ?_ ?_
      · intro p hp; cases p <;> first | exact absurd (by decide) hp | exact rfl
      exact h4
    · refine OutSame.ite ?_ ?_
      · refine OutSame.next ?_
        with_reducible refine Same.record rfl ?_ ?_
        · intro p hp; cases p <;> first | exact absurd (by decide) hp | exact rfl
        exact h4
      · split
        rename_i e5 e6 e7 e8 e9
        extract_lets v10 v11
        refine OutSame.ite ?_ ?_
        · refine OutSame.next ?_
          with_reducible refine Same.record rfl ?_ ?_
          · intro p hp; cases p <;> first | exact absurd (by decide) hp | exact rfl
          exact h4
        · refine OutSame.next ?_
          with_reducible refine Same.record rfl ?_ ?_
          · intro p hp; cases p <;> first | exact absurd (by decide) hp | exact rfl
          exact h4

theorem execPrickingSlotWrite_same (x1 : Fin 2) (x2 : Fin 8) (x3 : Nat) (x4 : BitVec 64) (x5 : State) :
    OutSame [.prick] x5 (execPrickingSlotWrite x1 x2 x3 x4 x5) := by
  unfold execPrickingSlotWrite
  refine OutSame.next ?_
  with_reducible refine when_same ?_ ?_
  · with_reducible refine Same.record rfl ?_ ?_
    · intro p hp; cases p <;> first | exact absurd (by decide) hp | exact rfl
    exact Same.refl _ _
  · exact Same.refl _ _

end Sys2Proof.Machine
end

