-- ==== Sys2Proof/Laws/FrameStreamRecord.lean ====
section
/-! SUPPORT. Frames of the functions of Machine/StreamRecord.lean: one lemma a function, which says what parts of the state it
can change. -/

namespace Sys2Proof.Machine

open Sys2Proof

theorem State.finishCmd_same (x1 : State) (x2 x3 x4 x5 : Nat) :
    Same [.ports] x1 (State.finishCmd x1 x2 x3 x4 x5) := by
  unfold State.finishCmd
  extract_lets v0 v1
  with_reducible refine Same.step (State.setPort_same _ _ _) (by decide) ?_
  exact Same.refl _ _

theorem State.applyDeferred_same (x1 : State) (x2 : Deferred) :
    Same [.hostMem, .stores, .ports, .streams] x1 (State.applyDeferred x1 x2) := by
  unfold State.applyDeferred
  extract_lets v0 v1 v2 v3 v4 v5 v6
  refine Same.have v2 ?_ fun h7 => ?_
  · with_reducible refine Same.step (State.touch_same _ _) (by decide) ?_
    exact Same.refl _ _
  clear_value v2
  refine Same.have v6 ?_ fun h8 => ?_
  · dsimp only [v6]
    with_reducible refine Same.record rfl ?_ ?_
    · intro p hp; cases p <;> first | exact absurd (by decide) hp | exact rfl
    exact h7
  clear_value v6
  refine Same.ite ?_ ?_
  · with_reducible refine Same.step (State.finishCmd_same _ _ _ _ _) (by decide) ?_
    exact h7
  · split
    · rename_i e9 e10
      split
      · rename_i e11 e12 e13
        with_reducible refine Same.step (State.finishCmd_same _ _ _ _ _) (by decide) ?_
        exact h7
      · rename_i e14 e15
        split
        · rename_i e16 e17 e18
          with_reducible refine Same.step (State.finishCmd_same _ _ _ _ _) (by decide) ?_
          exact h7
        · rename_i e19 e20
          with_reducible refine Same.step (State.finishCmd_same _ _ _ _ _) (by decide) ?_
          with_reducible refine Same.step (State.setStream_same _ _ _) (by decide) ?_
          exact h7
    · rename_i e21 e22
      with_reducible refine Same.step (State.finishCmd_same _ _ _ _ _) (by decide) ?_
      with_reducible refine Same.step (State.setStream_same _ _ _) (by decide) ?_
      with_reducible refine Same.step (State.recWrote_same _ _ _ _ _) (by decide) ?_
      exact h7
    · rename_i e23 e24 e25
      with_reducible refine Same.step (State.finishCmd_same _ _ _ _ _) (by decide) ?_
      exact h8

theorem State.applyWaiting_same (x1 : State) (x2 : Nat) :
    Same [.hostMem, .stores, .ports, .streams] x1 (State.applyWaiting x1 x2) := by
  unfold State.applyWaiting
  extract_lets v0
  refine Same.ite ?_ ?_
  · exact Same.refl _ _
  · refine Same.foldl ?_ fun q1 y2 h3 => ?_
    · with_reducible refine Same.step (State.setStream_same _ _ _) (by decide) ?_
      exact Same.refl _ _
    · with_reducible refine Same.step (State.applyDeferred_same _ _) (by decide) ?_
      exact h3

end Sys2Proof.Machine
end

