-- ==== Sys2Proof/Laws/FrameSteps.lean ====
section
/-! SUPPORT. Frames of the functions of Machine/Steps.lean: one lemma a function, which says what parts of the state it
can change. -/

namespace Sys2Proof.Machine

open Sys2Proof

theorem State.note_same (x1 : State) (x2 : Entry) (x3 : Bool) (x4 : Nat) :
    Same [.pair] x1 (State.note x1 x2 x3 x4) := by
  unfold State.note
  extract_lets v0 v1
  refine Same.ite ?_ ?_
  · with_reducible refine Same.record rfl ?_ ?_
    · intro p hp; cases p <;> first | exact absurd (by decide) hp | exact rfl
    exact Same.refl _ _
  · exact Same.refl _ _

theorem State.reportEnded_same (x1 : State) (x2 : Entry × FaultInfo) :
    Same [.dict, .lastStatus, .freeCtr, .pair, .ports, .pw, .test] x1 (State.reportEnded x1 x2) := by
  unfold State.reportEnded
  extract_lets v0 v1 v2 v3 v4
  refine Same.have v2 ?_ fun h5 => ?_
  · with_reducible refine Same.step (State.postStep_same _ _ _ _ _ _ _ _) (by decide) ?_
    exact Same.refl _ _
  clear_value v2
  refine Same.have v3 ?_ fun h6 => ?_
  · with_reducible refine Same.step (State.traceStep_same _ _ _ _ _ _ _ _) (by decide) ?_
    exact h5
  clear_value v3
  refine Same.have v4 ?_ fun h7 => ?_
  · with_reducible refine Same.step (State.note_same _ _ _ _) (by decide) ?_
    exact h6
  clear_value v4
  refine Same.ite ?_ ?_
  · with_reducible refine Same.step (State.bump_same _ _) (by decide) ?_
    exact h7
  · exact h7

theorem State.sweepEntries_same (x1 : State) (x2 : Entry → Option (EntrySt × FaultInfo)) :
    Same [.dict, .lastStatus, .freeCtr, .entries, .pair, .ports, .pw, .test] x1 (State.sweepEntries x1 x2) := by
  unfold State.sweepEntries
  split
  rename_i e0 e1 e2 e3
  refine Same.foldl ?_ fun q4 y5 h6 => ?_
  · with_reducible refine Same.record rfl ?_ ?_
    · intro p hp; cases p <;> first | exact absurd (by decide) hp | exact rfl
    exact Same.refl _ _
  · with_reducible refine Same.step (State.reportEnded_same _ _) (by decide) ?_
    exact h6

theorem State.freeGrant_same (x1 : State) (x2 : Grant) :
    Same [.cores, .runs, .grants] x1 (State.freeGrant x1 x2) := by
  unfold State.freeGrant
  extract_lets v0
  refine Same.have v0 ?_ fun h1 => ?_
  · refine Same.foldl ?_ fun q2 y3 h4 => ?_
    · exact Same.refl _ _
    · split
      · rename_i e5 e6 e7
        with_reducible refine Same.step (State.setRun_same _ _ _) (by decide) ?_
        with_reducible refine Same.step (State.setCore_same _ _ _) (by decide) ?_
        exact h4
      · rename_i e8 e9
        exact h4
  clear_value v0
  with_reducible refine Same.record rfl ?_ ?_
  · intro p hp; cases p <;> first | exact absurd (by decide) hp | exact rfl
  exact h1

theorem State.stopCores_same (x1 : State) (x2 : Grant) :
    Same [.cores, .runs, .grants, .orphans] x1 (State.stopCores x1 x2) := by
  unfold State.stopCores
  extract_lets v0 v1
  refine Same.have v1 ?_ fun h2 => ?_
  · with_reducible refine Same.step (State.freeGrant_same _ _) (by decide) ?_
    exact Same.refl _ _
  clear_value v1
  with_reducible refine Same.record rfl ?_ ?_
  · intro p hp; cases p <;> first | exact absurd (by decide) hp | exact rfl
  exact h2

theorem State.countFault_same (x1 : State) (x2 : Nat) :
    Same [.dict] x1 (State.countFault x1 x2) := by
  unfold State.countFault
  extract_lets v0
  refine Same.have v0 ?_ fun h1 => ?_
  · with_reducible refine Same.step (State.bump_same _ _) (by decide) ?_
    exact Same.refl _ _
  clear_value v0
  refine Same.ite ?_ ?_
  · with_reducible refine Same.step (State.bump_same _ _) (by decide) ?_
    exact h1
  · refine Same.ite ?_ ?_
    · with_reducible refine Same.step (State.bump_same _ _) (by decide) ?_
      exact h1
    · refine Same.ite ?_ ?_
      · with_reducible refine Same.step (State.bump_same _ _) (by decide) ?_
        exact h1
      · exact h1

theorem State.stepFault_same (x1 : State) (x2 : Grant) (x3 : FaultInfo) :
    Same [.dict, .lastStatus, .freeCtr, .hostMem, .entries, .cores, .runs, .grants, .orphans, .stores, .pair, .ports, .streams, .pw, .test] x1 (State.stepFault x1 x2 x3) := by
  unfold State.stepFault
  extract_lets v0 v1 v2 v3 v4 v5
  refine Same.have v1 ?_ fun h6 => ?_
  · with_reducible refine Same.step (State.countFault_same _ _) (by decide) ?_
    with_reducible refine Same.step (State.stopCores_same _ _) (by decide) ?_
    exact Same.refl _ _
  clear_value v1
  refine Same.have v2 ?_ fun h7 => ?_
  · with_reducible refine Same.step (State.traceStep_same _ _ _ _ _ _ _ _) (by decide) ?_
    with_reducible refine Same.step (State.postStep_same _ _ _ _ _ _ _ _) (by decide) ?_
    exact h6
  clear_value v2
  refine Same.have v4 ?_ fun h8 => ?_
  · dsimp only [v4]
    with_reducible refine Same.record rfl ?_ ?_
    · intro p hp; cases p <;> first | exact absurd (by decide) hp | exact rfl
    exact h7
  clear_value v4
  refine Same.have v5 ?_ fun h9 => ?_
  · refine Same.foldl ?_ fun q10 y11 h12 => ?_
    · exact h8
    · with_reducible refine Same.step (State.note_same _ _ _ _) (by decide) ?_
      exact h12
  clear_value v5
  with_reducible refine Same.step (State.applyWaiting_same _ _) (by decide) ?_
  with_reducible refine Same.step (State.sweepEntries_same _ _) (by decide) ?_
  exact h9

theorem State.discardDie_same (x1 : State) (x2 : Nat) (x3 : FaultInfo) :
    Same [.dict, .lastStatus, .freeCtr, .hostMem, .entries, .cores, .runs, .grants, .orphans, .stores, .pair, .ports, .streams, .pw, .test] x1 (State.discardDie x1 x2 x3) := by
  unfold State.discardDie
  extract_lets v0
  refine Same.have v0 ?_ fun h1 => ?_
  · refine Same.foldl ?_ fun q2 y3 h4 => ?_
    · exact Same.refl _ _
    · with_reducible refine Same.step (State.stepFault_same _ _ _) (by decide) ?_
      exact h4
  clear_value v0
  with_reducible refine Same.step (State.sweepEntries_same _ _) (by decide) ?_
  exact h1

theorem execEntryStartOffset_same (x1 x2 : Nat) (x3 : State) :
    OutSame [.entries] x3 (execEntryStartOffset x1 x2 x3) := by
  unfold execEntryStartOffset
  refine OutSame.ite ?_ ?_
  · refine OutSame.next ?_
    exact Same.refl _ _
  · refine OutSame.next ?_
    with_reducible refine Same.record rfl ?_ ?_
    · intro p hp; cases p <;> first | exact absurd (by decide) hp | exact rfl
    exact Same.refl _ _

theorem execDeadlineTick_same (x1 : Fin 8) (x2 : State) :
    OutSame [.dict, .lastStatus, .freeCtr, .entries, .pair, .ports, .pw, .test] x2 (execDeadlineTick x1 x2) := by
  unfold execDeadlineTick
  refine OutSame.ite ?_ ?_
  · refine OutSame.next ?_
    exact Same.refl _ _
  · refine OutSame.next ?_
    with_reducible refine Same.step (State.sweepEntries_same _ _) (by decide) ?_
    exact Same.refl _ _

theorem execStepRunLimit_same (x1 : Fin 8) (x2 : State) :
    OutSame [.dict, .lastStatus, .freeCtr, .hostMem, .entries, .cores, .runs, .grants, .orphans, .stores, .pair, .ports, .streams, .pw, .test] x2 (execStepRunLimit x1 x2) := by
  unfold execStepRunLimit
  split
  · rename_i e0 e1 e2
    refine OutSame.next ?_
    with_reducible refine Same.step (State.stepFault_same _ _ _) (by decide) ?_
    exact Same.refl _ _
  · rename_i e3 e4
    refine OutSame.next ?_
    exact Same.refl _ _

theorem State.setEntry_same (x1 : State) (x2 x3 : Nat) (x4 : Entry → Entry) :
    Same [.entries] x1 (State.setEntry x1 x2 x3 x4) := by
  unfold State.setEntry
  with_reducible refine Same.record rfl ?_ ?_
  · intro p hp; cases p <;> first | exact absurd (by decide) hp | exact rfl
  exact Same.refl _ _

theorem State.refuseEntry_same (x1 : State) (x2 : Entry) (x3 : Status) :
    Same [.dict, .lastStatus, .freeCtr, .entries, .pair, .ports, .pw, .test] x1 (State.refuseEntry x1 x2 x3) := by
  unfold State.refuseEntry
  extract_lets v0 v1
  refine Same.have v0 ?_ fun h2 => ?_
  · with_reducible refine Same.step (State.note_same _ _ _ _) (by decide) ?_
    with_reducible refine Same.step (State.postStep_same _ _ _ _ _ _ _ _) (by decide) ?_
    exact Same.refl _ _
  clear_value v0
  refine Same.have v1 ?_ fun h3 => ?_
  · with_reducible refine Same.step (State.traceStep_same _ _ _ _ _ _ _ _) (by decide) ?_
    exact h2
  clear_value v1
  refine Same.ite ?_ ?_
  · with_reducible refine Same.step (State.setEntry_same _ _ _ _) (by decide) ?_
    exact h3
  · with_reducible refine Same.step (State.sweepEntries_same _ _) (by decide) ?_
    with_reducible refine Same.step (State.setEntry_same _ _ _ _) (by decide) ?_
    exact h3

theorem State.stepStart_same (x1 : State) (x2 : Grant) :
    Same [.dict, .lastStatus, .freeCtr, .hostMem, .entries, .cores, .runs, .grants, .orphans, .stores, .pair, .ports, .streams, .pw, .test] x1 (State.stepStart x1 x2) := by
  unfold State.stepStart
  extract_lets v0 v1 v2 v3 v4 v5 v6 v7
  refine Same.have v4 ?_ fun h8 => ?_
  · with_reducible refine Same.step (State.traceStep_same _ _ _ _ _ _ _ _) (by decide) ?_
    exact Same.refl _ _
  clear_value v4
  refine Same.have v6 ?_ fun h9 => ?_
  · with_reducible refine Same.step (State.setStream_same _ _ _) (by decide) ?_
    with_reducible refine Same.step (State.recWrote_same _ _ _ _ _) (by decide) ?_
    with_reducible refine Same.step (State.touch_same _ _) (by decide) ?_
    with_reducible refine Same.step (State.touch_same _ _) (by decide) ?_
    exact h8
  clear_value v6
  refine Same.have v7 ?_ fun h10 => ?_
  · dsimp only [v7]
    with_reducible refine Same.record rfl ?_ ?_
    · intro p hp; cases p <;> first | exact absurd (by decide) hp | exact rfl
    exact h9
  clear_value v7
  refine Same.ite ?_ ?_
  · with_reducible refine Same.step (State.stepFault_same _ _ _) (by decide) ?_
    exact h10
  · exact h10

theorem State.grantEntry_same (x1 : State) (x2 : Entry) :
    Same [.dict, .lastStatus, .freeCtr, .hostMem, .entries, .cores, .runs, .grants, .nextGrant, .orphans, .stores, .pair, .ports, .streams, .pw, .test] x1 (State.grantEntry x1 x2) := by
  unfold State.grantEntry
  extract_lets v0 v1 v2
  refine Same.have v2 ?_ fun h3 => ?_
  · with_reducible refine Same.step (State.setEntry_same _ _ _ _) (by decide) ?_
    with_reducible refine Same.record rfl ?_ ?_
    · intro p hp; cases p <;> first | exact absurd (by decide) hp | exact rfl
    exact Same.refl _ _
  clear_value v2
  refine Same.ite ?_ ?_
  · with_reducible refine Same.record rfl ?_ ?_
    · intro p hp; cases p <;> first | exact absurd (by decide) hp | exact rfl
    exact h3
  · with_reducible refine Same.step (State.stepStart_same _ _) (by decide) ?_
    exact h3

theorem execCoreGrant_same (x1 : Fin 8) (x2 : State) :
    OutSame [.dict, .lastStatus, .freeCtr, .hostMem, .entries, .cores, .runs, .grants, .nextGrant, .orphans, .stores, .pair, .ports, .streams, .pw, .test] x2 (execCoreGrant x1 x2) := by
  unfold execCoreGrant
  extract_lets v0 v1
  refine OutSame.ite ?_ ?_
  · refine OutSame.next ?_
    exact Same.refl _ _
  · split
    · rename_i e2 e3 e4 e5
      refine OutSame.next ?_
      with_reducible refine Same.step (State.refuseEntry_same _ _ _) (by decide) ?_
      exact Same.refl _ _
    · rename_i e6 e7 e8
      refine OutSame.next ?_
      with_reducible refine Same.step (State.grantEntry_same _ _) (by decide) ?_
      exact Same.refl _ _
    · rename_i e9 e10
      refine OutSame.next ?_
      exact Same.refl _ _

end Sys2Proof.Machine
end

