-- ==== Sys2Proof/Laws/FrameCapture.lean ====
section
/-! SUPPORT. Frames of the functions of Machine/Capture.lean: one lemma a function, which says what parts of the state it
can change. -/

namespace Sys2Proof.Machine

open Sys2Proof

theorem State.captureBy_same (x1 : State) (x2 : Nat) (x3 : Grant) (x4 : Nat) (x5 : CoreRun) :
    Same [.dict, .stores, .migs] x1 (State.captureBy x1 x2 x3 x4 x5) := by
  unfold State.captureBy
  extract_lets v0 v1 v2 v3 v4 v5 v6 v7 v8 v9 v10 v11 v12 v13 v14
  refine Same.have v14 ?_ fun h15 => ?_
  · with_reducible refine Same.step (State.setReg_same _ _ _) (by decide) ?_
    exact Same.refl _ _
  clear_value v14
  refine Same.ite ?_ ?_
  · exact Same.refl _ _
  · refine Same.ite ?_ ?_
    · with_reducible refine Same.step (State.bump_same _ _) (by decide) ?_
      exact h15
    · split
      · rename_i e16 e17
        with_reducible refine Same.step (State.bump_same _ _) (by decide) ?_
        exact h15
      · rename_i e18 e19 e20
        refine Same.ite ?_ ?_
        · with_reducible refine Same.step (State.bump_same _ _) (by decide) ?_
          exact h15
        · with_reducible refine Same.step (State.bump_same _ _) (by decide) ?_
          with_reducible refine Same.step (State.setReg_same _ _ _) (by decide) ?_
          with_reducible refine Same.step (State.hubWrite_same _ _ _ _ _) (by decide) ?_
          exact h15

theorem State.capture_same (x1 : State) (x2 : Grant) (x3 : Nat) (x4 : CoreRun) :
    Same [.dict, .stores, .migs] x1 (State.capture x1 x2 x3 x4) := by
  unfold State.capture
  refine Same.loopTo ?_ fun q0 y1 h2 => ?_
  · exact Same.refl _ _
  · refine Same.ite ?_ ?_
    · with_reducible refine Same.step (State.captureBy_same _ _ _ _ _) (by decide) ?_
      exact h2
    · exact h2

end Sys2Proof.Machine
end

