-- ==== Sys2Proof/Laws/FramePaths.lean ====
section
/-! SUPPORT. Frames of the functions of Machine/Paths.lean: one lemma a function, which says what parts of the state it
can change. -/

namespace Sys2Proof.Machine

open Sys2Proof

theorem State.setRegion_same (x1 : State) (x2 : Nat) (x3 : Region) :
    Same [.regions] x1 (State.setRegion x1 x2 x3) := by
  unfold State.setRegion
  with_reducible refine Same.record rfl ?_ ?_
  · intro p hp; cases p <;> first | exact absurd (by decide) hp | exact rfl
  exact Same.refl _ _

theorem State.setGuest_same (x1 : State) (x2 : Nat) (x3 : Guest) :
    Same [.guests] x1 (State.setGuest x1 x2 x3) := by
  unfold State.setGuest
  with_reducible refine Same.record rfl ?_ ?_
  · intro p hp; cases p <;> first | exact absurd (by decide) hp | exact rfl
  exact Same.refl _ _

theorem State.setLaser_same (x1 : State) (x2 : Nat) (x3 : Laser) :
    Same [.lasers] x1 (State.setLaser x1 x2 x3) := by
  unfold State.setLaser
  with_reducible refine Same.record rfl ?_ ?_
  · intro p hp; cases p <;> first | exact absurd (by decide) hp | exact rfl
  exact Same.refl _ _

theorem State.setMring_same (x1 : State) (x2 : Nat) (x3 : MicroRing) :
    Same [.rings] x1 (State.setMring x1 x2 x3) := by
  unfold State.setMring
  with_reducible refine Same.record rfl ?_ ?_
  · intro p hp; cases p <;> first | exact absurd (by decide) hp | exact rfl
  exact Same.refl _ _

theorem State.setPath_same (x1 : State) (x2 x3 x4 : Nat) (x5 : Path) :
    Same [.paths] x1 (State.setPath x1 x2 x3 x4 x5) := by
  unfold State.setPath
  with_reducible refine Same.record rfl ?_ ?_
  · intro p hp; cases p <;> first | exact absurd (by decide) hp | exact rfl
  exact Same.refl _ _

end Sys2Proof.Machine
end

