-- ==== Sys2Proof/Laws/FramePackets.lean ====
section
/-! SUPPORT. Frames of the functions of Machine/Packets.lean: one lemma a function, which says what parts of the state it
can change. -/

namespace Sys2Proof.Machine

open Sys2Proof

theorem State.toPort_same (x1 : State) (x2 : Packet) :
    Same [.xports] x1 (State.toPort x1 x2) := by
  unfold State.toPort
  refine Same.ite ?_ ?_
  · exact Same.refl _ _
  · split
    · rename_i e0 e1
      exact Same.refl _ _
    · rename_i e2 e3 e4
      extract_lets v5
      with_reducible refine Same.record rfl ?_ ?_
      · intro p hp; cases p <;> first | exact absurd (by decide) hp | exact rfl
      exact Same.refl _ _

theorem State.drainPort_same (x1 : State) (x2 : Nat) :
    Same [.xports] x1 (State.drainPort x1 x2) := by
  unfold State.drainPort
  extract_lets v0 v1
  refine Same.ite ?_ ?_
  · with_reducible refine Same.record rfl ?_ ?_
    · intro p hp; cases p <;> first | exact absurd (by decide) hp | exact rfl
    exact Same.refl _ _
  · with_reducible refine Same.record rfl ?_ ?_
    · intro p hp; cases p <;> first | exact absurd (by decide) hp | exact rfl
    exact Same.refl _ _

theorem State.depart_same (x1 : State) (x2 : Request) :
    Same [.xports] x1 (State.depart x1 x2) := by
  unfold State.depart
  with_reducible refine Same.step (State.toPort_same _ _) (by decide) ?_
  exact Same.refl _ _

theorem State.traceRequest_same (x1 : State) (x2 : Request) (x3 x4 : Nat) :
    Same [.dict, .freeCtr, .test] x1 (State.traceRequest x1 x2 x3 x4) := by
  unfold State.traceRequest
  with_reducible refine Same.step (State.traceOpen_same _ _ _ _ _ _ _) (by decide) ?_
  exact Same.refl _ _

theorem State.send_same (x1 : State) (x2 : Request) :
    Same [.dict, .freeCtr, .requests, .seqs, .xports, .test] x1 (State.send x1 x2) := by
  unfold State.send
  extract_lets v0 v1 v2
  refine Same.have v1 ?_ fun h3 => ?_
  · dsimp only [v1]
    with_reducible refine Same.record rfl ?_ ?_
    · intro p hp; cases p <;> first | exact absurd (by decide) hp | exact rfl
    exact Same.refl _ _
  clear_value v1
  refine Same.have v2 ?_ fun h4 => ?_
  · refine Same.ite ?_ ?_
    · exact h3
    · with_reducible refine Same.step (State.depart_same _ _) (by decide) ?_
      exact h3
  clear_value v2
  with_reducible refine Same.step (State.traceRequest_same _ _ _ _) (by decide) ?_
  exact h4

theorem State.updRequest_same (x1 : State) (x2 x3 : Nat) (x4 : Request → Request) :
    Same [.requests] x1 (State.updRequest x1 x2 x3 x4) := by
  unfold State.updRequest
  with_reducible refine Same.record rfl ?_ ?_
  · intro p hp; cases p <;> first | exact absurd (by decide) hp | exact rfl
  exact Same.refl _ _

theorem State.enqueue_same (x1 : State) (x2 : PairMsg) :
    Same [.seqs, .pair] x1 (State.enqueue x1 x2) := by
  unfold State.enqueue
  refine Same.ite ?_ ?_
  · with_reducible refine Same.record rfl ?_ ?_
    · intro p hp; cases p <;> first | exact absurd (by decide) hp | exact rfl
    exact Same.refl _ _
  · exact Same.refl _ _

theorem State.resend_same (x1 : State) (x2 : Request) (x3 : Request → Request) :
    Same [.dict, .freeCtr, .requests, .xports, .test] x1 (State.resend x1 x2 x3) := by
  unfold State.resend
  extract_lets v0 v1
  refine Same.have v1 ?_ fun h2 => ?_
  · with_reducible refine Same.step (State.depart_same _ _) (by decide) ?_
    with_reducible refine Same.step (State.updRequest_same _ _ _ _) (by decide) ?_
    exact Same.refl _ _
  clear_value v1
  with_reducible refine Same.step (State.traceRequest_same _ _ _ _) (by decide) ?_
  with_reducible refine Same.step (State.bump_same _ _) (by decide) ?_
  exact h2

theorem State.resendAll_same (x1 : State) (x2 : Nat) (x3 : List Nat) :
    Same [.dict, .freeCtr, .requests, .xports, .test] x1 (State.resendAll x1 x2 x3) := by
  unfold State.resendAll
  refine Same.foldl ?_ fun q0 y1 h2 => ?_
  · exact Same.refl _ _
  · split
    · rename_i e3 e4 e5
      with_reducible refine Same.step (State.resend_same _ _ _) (by decide) ?_
      exact h2
    · rename_i e6 e7
      exact h2

theorem State.noteSend_same (x1 : State) (x2 x3 : Nat) :
    Same [.hub] x1 (State.noteSend x1 x2 x3) := by
  unfold State.noteSend
  extract_lets v0 v1
  with_reducible refine Same.record rfl ?_ ?_
  · intro p hp; cases p <;> first | exact absurd (by decide) hp | exact rfl
  exact Same.refl _ _

theorem State.dropRequests_same (x1 : State) (x2 : Nat) (x3 : List Nat) :
    Same [.requests] x1 (State.dropRequests x1 x2 x3) := by
  unfold State.dropRequests
  with_reducible refine Same.record rfl ?_ ?_
  · intro p hp; cases p <;> first | exact absurd (by decide) hp | exact rfl
  exact Same.refl _ _

theorem State.fillCache_same (x1 : State) (x2 x3 : Nat) (x4 : List Byte) :
    Same [.lineCache] x1 (State.fillCache x1 x2 x3 x4) := by
  unfold State.fillCache
  with_reducible refine Same.record rfl ?_ ?_
  · intro p hp; cases p <;> first | exact absurd (by decide) hp | exact rfl
  exact Same.refl _ _

theorem State.uncache_same (x1 : State) (x2 x3 x4 : Nat) :
    Same [.requests, .lineCache] x1 (State.uncache x1 x2 x3 x4) := by
  unfold State.uncache
  with_reducible refine Same.record rfl ?_ ?_
  · intro p hp; cases p <;> first | exact absurd (by decide) hp | exact rfl
  exact Same.refl _ _

theorem State.flushCache_same (x1 : State) :
    Same [.requests, .lineCache] x1 (State.flushCache x1) := by
  unfold State.flushCache
  with_reducible refine Same.record rfl ?_ ?_
  · intro p hp; cases p <;> first | exact absurd (by decide) hp | exact rfl
  exact Same.refl _ _

theorem State.keepReply_same (x1 : State) (x2 : Reply) :
    Same [.replies] x1 (State.keepReply x1 x2) := by
  unfold State.keepReply
  extract_lets v0 v1
  with_reducible refine Same.record rfl ?_ ?_
  · intro p hp; cases p <;> first | exact absurd (by decide) hp | exact rfl
  exact Same.refl _ _

theorem State.respond_same (x1 : State) (x2 : Response) :
    Same [.lastResponse, .xports] x1 (State.respond x1 x2) := by
  unfold State.respond
  extract_lets v0 v1
  with_reducible refine Same.step (State.toPort_same _ _) (by decide) ?_
  with_reducible refine Same.record rfl ?_ ?_
  · intro p hp; cases p <;> first | exact absurd (by decide) hp | exact rfl
  exact Same.refl _ _

end Sys2Proof.Machine
end

