-- ==== Sys2Proof/Laws/FrameForeign.lean ====
section
/-! SUPPORT. Frames of the functions of Machine/Foreign.lean: one lemma a function, which says what parts of the state it
can change. -/

namespace Sys2Proof.Machine

open Sys2Proof

theorem State.reply_same (x1 : State) (x2 : Packet) (x3 : Status) (x4 : optParam (List Byte) []) :
    Same [.dict, .freeCtr, .lastResponse, .xports, .test] x1 (State.reply x1 x2 x3 x4) := by
  unfold State.reply
  extract_lets v0
  refine Same.have v0 ?_ fun h1 => ?_
  · refine Same.ite ?_ ?_
    · with_reducible refine Same.step (State.traceOpen_same _ _ _ _ _ _ _) (by decide) ?_
      exact Same.refl _ _
    · exact Same.refl _ _
  clear_value v0
  with_reducible refine Same.step (State.respond_same _ _) (by decide) ?_
  exact h1

theorem State.admitPacket_same (x1 : State) (x2 : Packet) (x3 : Nat) (x4 : Bool) (x5 : Accessor) (x6 : Option Nat) :
    Same [.dict, .stores, .ledger, .tlb] x1 (State.admitPacket x1 x2 x3 x4 x5 x6).1 := by
  unfold State.admitPacket
  refine Same.iteFst ?_ ?_
  · dsimp only
    exact Same.refl _ _
  · refine Same.iteFst ?_ ?_
    · extract_lets v0 v1
      refine Same.iteFst ?_ ?_
      · dsimp only
        exact Same.refl _ _
      · split
        · rename_i e2 e3 e4 e5
          dsimp only
          refine Same.fstOf e5 ?_
          with_reducible refine Same.step (State.translate_same _ _ _ _ _ _ _) (by decide) ?_
          exact Same.refl _ _
        · rename_i e6 e7 e8 e9
          refine Same.iteFst ?_ ?_
          · dsimp only
            with_reducible refine Same.step (State.bump_same _ _) (by decide) ?_
            refine Same.fstOf e9 ?_
            with_reducible refine Same.step (State.translate_same _ _ _ _ _ _ _) (by decide) ?_
            exact Same.refl _ _
          · dsimp only
            refine Same.ite ?_ ?_
            · with_reducible refine Same.step (State.dirtyAll_same _ _ _) (by decide) ?_
              refine Same.fstOf e9 ?_
              with_reducible refine Same.step (State.translate_same _ _ _ _ _ _ _) (by decide) ?_
              exact Same.refl _ _
            · refine Same.fstOf e9 ?_
              with_reducible refine Same.step (State.translate_same _ _ _ _ _ _ _) (by decide) ?_
              exact Same.refl _ _
    · refine Same.iteFst ?_ ?_
      · split
        · rename_i e10 e11
          dsimp only
          exact Same.refl _ _
        · rename_i e12 e13 e14 e15
          refine Same.iteFst ?_ ?_
          · dsimp only
            exact Same.refl _ _
          · refine Same.iteFst ?_ ?_
            · dsimp only
              exact Same.refl _ _
            · dsimp only
              exact Same.refl _ _
      · dsimp only
        exact Same.refl _ _

theorem State.writePlace_same (s : State) (p : Packet) (bs : List Byte) (x : Place) :
    ∀ t, s.writePlace p bs x = some t → Same [.cores, .stores, .migs] s t := by
  intro t ht
  cases x with
  | mem tier tr =>
    simp only [State.writePlace] at ht
    split at ht
    · exact absurd ht (by simp)
    · cases ht
      exact Same.step (State.wake_same _ _ _) (by decide) ((State.virtWrite_same _ _ _ _ _ _).mono (by decide))
  | scratch k =>
    simp only [State.writePlace, Option.some.injEq] at ht
    subst ht
    exact (State.setCore_same _ _ _).mono (by decide)

theorem State.setMig_same (x1 : State) (x2 : Nat) (x3 : Migration → Migration) :
    Same [.migs] x1 (State.setMig x1 x2 x3) := by
  unfold State.setMig
  with_reducible refine Same.record rfl ?_ ?_
  · intro p hp; cases p <;> first | exact absurd (by decide) hp | exact rfl
  exact Same.refl _ _

theorem State.holdIn_same (x1 : State) (x2 : Migration) (x3 : HeldPacket) :
    Same [.migs] x1 (State.holdIn x1 x2 x3) := by
  unfold State.holdIn
  with_reducible refine Same.step (State.setMig_same _ _ _) (by decide) ?_
  exact Same.refl _ _

theorem State.putTracker_same (x1 : State) (x2 : Tracker) :
    Same [.trackers] x1 (State.putTracker x1 x2) := by
  unfold State.putTracker
  with_reducible refine Same.record rfl ?_ ?_
  · intro p hp; cases p <;> first | exact absurd (by decide) hp | exact rfl
  exact Same.refl _ _

theorem State.dropTracker_same (x1 : State) (x2 x3 x4 : Nat) :
    Same [.trackers] x1 (State.dropTracker x1 x2 x3 x4) := by
  unfold State.dropTracker
  with_reducible refine Same.record rfl ?_ ?_
  · intro p hp; cases p <;> first | exact absurd (by decide) hp | exact rfl
  exact Same.refl _ _

theorem State.unknown_same (x1 : State) (x2 : Packet) :
    Same [.dict, .freeCtr, .lastResponse, .xports, .test] x1 (State.unknown x1 x2) := by
  unfold State.unknown
  with_reducible refine Same.step (State.reply_same _ _ _ _) (by decide) ?_
  with_reducible refine Same.step (State.bump_same _ _) (by decide) ?_
  exact Same.refl _ _

theorem State.again_same {W : List Part} {s0 s : State} {p : Packet} {go : State}
    (hw : ([.dict, .freeCtr, .lastResponse, .xports, .test].all fun p => W.contains p) = true)
    (h : Same W s0 s) (hg : Same W s0 go) : Same W s0 (s.again p go) := by
  unfold State.again
  repeat' split
  · exact h
  · exact h
  · exact Same.step (State.unknown_same _ _) hw h
  · exact Same.step ((State.respond_same _ _).mono (by decide)) hw h
  · exact hg

theorem State.once_same {W : List Part} {s0 s : State} {p : Packet} {site age : Nat} {apply : State → State}
    (hw : ([.dict, .freeCtr, .lastResponse, .xports, .test].all fun p => W.contains p) = true)
    (h : Same W s0 s) (ha : ∀ t, Same W s0 t → Same W s0 (apply t)) : Same W s0 (s.once p site age apply) := by
  unfold State.once
  repeat' split
  · exact Same.step (State.unknown_same _ _) hw h
  · exact Same.step (State.reply_same _ _ _ _) hw h
  · exact ha _ h

theorem State.settle_same (x1 : State) (x2 : Packet) (x3 : Nat) (x4 : Status) (x5 : List Byte) :
    Same [.dict, .freeCtr, .replies, .lastResponse, .xports, .test] x1 (State.settle x1 x2 x3 x4 x5) := by
  unfold State.settle
  with_reducible refine Same.step (State.reply_same _ _ _ _) (by decide) ?_
  with_reducible refine Same.step (State.keepReply_same _ _) (by decide) ?_
  exact Same.refl _ _

theorem State.landFlagPacket_same (x1 : State) (x2 : HeldPacket) :
    Same [.dict, .freeCtr, .cores, .stores, .migs, .replies, .lastResponse, .xports, .test] x1 (State.landFlagPacket x1 x2) := by
  unfold State.landFlagPacket
  extract_lets v0
  split
  · rename_i e1 e2
    with_reducible refine Same.step (State.reply_same _ _ _ _) (by decide) ?_
    exact Same.refl _ _
  · rename_i e3 e4 e5
    split
    · rename_i e6 e7
      with_reducible refine Same.step (State.reply_same _ _ _ _) (by decide) ?_
      exact Same.refl _ _
    · rename_i e8 e9 e10
      with_reducible refine Same.step (State.settle_same _ _ _ _ _) (by decide) ?_
      refine Same.step (State.writePlace_same _ _ _ _ _ e10) (by decide) ?_
      exact Same.refl _ _

theorem State.applyFlag_same (x1 : State) (x2 : HeldPacket) :
    Same [.dict, .freeCtr, .cores, .stores, .migs, .replies, .lastResponse, .xports, .test] x1 (State.applyFlag x1 x2) := by
  unfold State.applyFlag
  split
  · rename_i e0 e1 e2
    with_reducible refine Same.step (State.holdIn_same _ _ _) (by decide) ?_
    exact Same.refl _ _
  · rename_i e3 e4
    with_reducible refine Same.step (State.landFlagPacket_same _ _) (by decide) ?_
    exact Same.refl _ _

theorem State.trackerCheck_same (x1 : State) (x2 x3 x4 : Nat) :
    Same [.dict, .freeCtr, .cores, .stores, .migs, .trackers, .replies, .lastResponse, .xports, .test] x1 (State.trackerCheck x1 x2 x3 x4) := by
  unfold State.trackerCheck
  split
  · rename_i e0 e1 e2
    split
    · rename_i e3 e4 e5
      refine Same.ite ?_ ?_
      · with_reducible refine Same.step (State.applyFlag_same _ _) (by decide) ?_
        with_reducible refine Same.step (State.dropTracker_same _ _ _ _) (by decide) ?_
        exact Same.refl _ _
      · exact Same.refl _ _
    · rename_i e6 e7
      exact Same.refl _ _
  · rename_i e8 e9
    exact Same.refl _ _

theorem State.landWrite_same (x1 : State) (x2 : HeldPacket) :
    Same [.dict, .freeCtr, .cores, .stores, .migs, .trackers, .replies, .lastResponse, .xports, .test] x1 (State.landWrite x1 x2) := by
  unfold State.landWrite
  extract_lets v0 v1
  split
  · rename_i e2 e3
    with_reducible refine Same.step (State.reply_same _ _ _ _) (by decide) ?_
    exact Same.refl _ _
  · rename_i e4 e5 e6
    extract_lets v7 v8
    refine Same.have v8 ?_ fun h9 => ?_
    · refine Same.ite ?_ ?_
      · with_reducible refine Same.step (State.trackerCheck_same _ _ _ _) (by decide) ?_
        with_reducible refine Same.step (State.putTracker_same _ _) (by decide) ?_
        refine Same.step (State.writePlace_same _ _ _ _ _ e6) (by decide) ?_
        exact Same.refl _ _
      · refine Same.step (State.writePlace_same _ _ _ _ _ e6) (by decide) ?_
        exact Same.refl _ _
    clear_value v8
    with_reducible refine Same.step (State.reply_same _ _ _ _) (by decide) ?_
    exact h9

theorem State.landAtomicPacket_same (x1 : State) (x2 : HeldPacket) :
    Same [.dict, .freeCtr, .cores, .stores, .migs, .replies, .lastResponse, .xports, .test] x1 (State.landAtomicPacket x1 x2) := by
  unfold State.landAtomicPacket
  extract_lets v0 v1
  split
  · rename_i e2 e3
    with_reducible refine Same.step (State.reply_same _ _ _ _) (by decide) ?_
    exact Same.refl _ _
  · rename_i e4 e5 e6
    extract_lets v7 v8
    split
    · rename_i e9 e10
      with_reducible refine Same.step (State.reply_same _ _ _ _) (by decide) ?_
      exact Same.refl _ _
    · rename_i e11 e12 e13
      with_reducible refine Same.step (State.settle_same _ _ _ _ _) (by decide) ?_
      refine Same.step (State.writePlace_same _ _ _ _ _ e13) (by decide) ?_
      exact Same.refl _ _

theorem State.landHeld_same (x1 : State) (x2 : HeldPacket) :
    Same [.dict, .freeCtr, .cores, .stores, .migs, .trackers, .replies, .lastResponse, .xports, .test] x1 (State.landHeld x1 x2) := by
  unfold State.landHeld
  split
  · rename_i e0 e1
    with_reducible refine Same.step (State.landWrite_same _ _) (by decide) ?_
    exact Same.refl _ _
  · rename_i e2 e3
    with_reducible refine Same.step (State.landFlagPacket_same _ _) (by decide) ?_
    exact Same.refl _ _
  · rename_i e4 e5 e6
    with_reducible refine Same.step (State.landAtomicPacket_same _ _) (by decide) ?_
    exact Same.refl _ _

theorem State.doWrite_same (x1 : State) (x2 : Packet) (x3 : Bool) :
    Same [.dict, .freeCtr, .cores, .stores, .ledger, .tlb, .migs, .trackers, .replies, .lastResponse, .xports, .test] x1 (State.doWrite x1 x2 x3) := by
  unfold State.doWrite
  split
  · rename_i e0 e1 e2 e3
    with_reducible refine Same.step (State.reply_same _ _ _ _) (by decide) ?_
    refine Same.fstOf e3 ?_
    with_reducible refine Same.step (State.admitPacket_same _ _ _ _ _ _) (by decide) ?_
    exact Same.refl _ _
  · rename_i e4 e5 e6 e7
    extract_lets v8 v9 v10
    refine Same.ite ?_ ?_
    · refine Same.fstOf e7 ?_
      with_reducible refine Same.step (State.admitPacket_same _ _ _ _ _ _) (by decide) ?_
      exact Same.refl _ _
    · refine Same.ite ?_ ?_
      · with_reducible refine Same.step (State.reply_same _ _ _ _) (by decide) ?_
        refine Same.fstOf e7 ?_
        with_reducible refine Same.step (State.admitPacket_same _ _ _ _ _ _) (by decide) ?_
        exact Same.refl _ _
      · split
        · rename_i e11 e12 e13
          with_reducible refine Same.step (State.holdIn_same _ _ _) (by decide) ?_
          refine Same.ite ?_ ?_
          · with_reducible refine Same.step (State.putTracker_same _ _) (by decide) ?_
            refine Same.fstOf e7 ?_
            with_reducible refine Same.step (State.admitPacket_same _ _ _ _ _ _) (by decide) ?_
            exact Same.refl _ _
          · refine Same.fstOf e7 ?_
            with_reducible refine Same.step (State.admitPacket_same _ _ _ _ _ _) (by decide) ?_
            exact Same.refl _ _
        · rename_i e14 e15
          with_reducible refine Same.step (State.landWrite_same _ _) (by decide) ?_
          refine Same.fstOf e7 ?_
          with_reducible refine Same.step (State.admitPacket_same _ _ _ _ _ _) (by decide) ?_
          exact Same.refl _ _

theorem State.doFlag_same (x1 : State) (x2 : Packet) (x3 : Bool) :
    Same [.dict, .freeCtr, .cores, .stores, .ledger, .tlb, .migs, .trackers, .replies, .lastResponse, .xports, .test] x1 (State.doFlag x1 x2 x3) := by
  unfold State.doFlag
  with_reducible refine State.again_same (by decide) ?_ ?_
  · exact Same.refl _ _
  · split
    · rename_i e0 e1 e2 e3
      with_reducible refine Same.step (State.reply_same _ _ _ _) (by decide) ?_
      refine Same.fstOf e3 ?_
      with_reducible refine Same.step (State.admitPacket_same _ _ _ _ _ _) (by decide) ?_
      exact Same.refl _ _
    · rename_i e4 e5 e6 e7
      extract_lets v8 v9
      refine Same.ite ?_ ?_
      · refine Same.fstOf e7 ?_
        with_reducible refine Same.step (State.admitPacket_same _ _ _ _ _ _) (by decide) ?_
        exact Same.refl _ _
      · with_reducible refine State.once_same (by decide) ?_ ?_
        · refine Same.fstOf e7 ?_
          with_reducible refine Same.step (State.admitPacket_same _ _ _ _ _ _) (by decide) ?_
          exact Same.refl _ _
        · intro y10 h11
          refine Same.ite ?_ ?_
          · with_reducible refine Same.step (State.applyFlag_same _ _) (by decide) ?_
            exact h11
          · split
            · rename_i e12 e13
              refine Same.ite ?_ ?_
              · with_reducible refine Same.step (State.reply_same _ _ _ _) (by decide) ?_
                exact h11
              · with_reducible refine Same.step (State.putTracker_same _ _) (by decide) ?_
                exact h11
            · rename_i e14 e15 e16
              with_reducible refine Same.step (State.trackerCheck_same _ _ _ _) (by decide) ?_
              with_reducible refine Same.step (State.putTracker_same _ _) (by decide) ?_
              exact h11

theorem State.doAtomic_same (x1 : State) (x2 : Packet) :
    Same [.dict, .freeCtr, .cores, .stores, .ledger, .tlb, .migs, .replies, .lastResponse, .xports, .test] x1 (State.doAtomic x1 x2) := by
  unfold State.doAtomic
  with_reducible refine State.again_same (by decide) ?_ ?_
  · exact Same.refl _ _
  · split
    · rename_i e0 e1 e2 e3
      with_reducible refine Same.step (State.reply_same _ _ _ _) (by decide) ?_
      refine Same.fstOf e3 ?_
      with_reducible refine Same.step (State.admitPacket_same _ _ _ _ _ _) (by decide) ?_
      exact Same.refl _ _
    · rename_i e4 e5 e6 e7
      extract_lets v8
      refine Same.ite ?_ ?_
      · refine Same.fstOf e7 ?_
        with_reducible refine Same.step (State.admitPacket_same _ _ _ _ _ _) (by decide) ?_
        exact Same.refl _ _
      · with_reducible refine State.once_same (by decide) ?_ ?_
        · refine Same.fstOf e7 ?_
          with_reducible refine Same.step (State.admitPacket_same _ _ _ _ _ _) (by decide) ?_
          exact Same.refl _ _
        · intro y9 h10
          split
          · rename_i e11 e12 e13
            with_reducible refine Same.step (State.holdIn_same _ _ _) (by decide) ?_
            exact h10
          · rename_i e14 e15
            with_reducible refine Same.step (State.landAtomicPacket_same _ _) (by decide) ?_
            exact h10

end Sys2Proof.Machine
end

