-- ==== Sys2Proof/Laws/FrameLedger.lean ====
section
/-! SUPPORT. Frames of the functions of Machine/Ledger.lean: one lemma a function, which says what parts of the state it
can change. -/

namespace Sys2Proof.Machine

open Sys2Proof

theorem State.reEntry_same (x1 : State) (x2 : Nat) (x3 : Nat → Nat) :
    Same [.stores, .ledger, .tlb] x1 (State.reEntry x1 x2 x3) := by
  unfold State.reEntry
  extract_lets v0
  refine Same.have v0 ?_ fun h1 => ?_
  · with_reducible refine Same.step (State.touchReplicas_same _) (by decide) ?_
    exact Same.refl _ _
  clear_value v0
  with_reducible refine Same.record rfl ?_ ?_
  · intro p hp; cases p <;> first | exact absurd (by decide) hp | exact rfl
  exact h1

theorem State.flip_same (x1 : State) :
    Same [.epoch] x1 (State.flip x1) := by
  unfold State.flip
  with_reducible refine Same.record rfl ?_ ?_
  · intro p hp; cases p <;> first | exact absurd (by decide) hp | exact rfl
  exact Same.refl _ _

theorem State.ledgerReport_same (x1 : State) :
    Same [.dict] x1 (State.ledgerReport x1) := by
  unfold State.ledgerReport
  extract_lets v0
  with_reducible refine Same.step (State.setReg_same _ _ _) (by decide) ?_
  with_reducible refine Same.step (State.setReg_same _ _ _) (by decide) ?_
  with_reducible refine Same.step (State.setReg_same _ _ _) (by decide) ?_
  with_reducible refine Same.step (State.setReg_same _ _ _) (by decide) ?_
  exact Same.refl _ _

theorem State.releaseWrites_same (x1 : State) (x2 : Migration) :
    Same [.dict, .freeCtr, .cores, .stores, .migs, .trackers, .replies, .lastResponse, .xports, .test] x1 (State.releaseWrites x1 x2) := by
  unfold State.releaseWrites
  refine Same.foldl ?_ fun q0 y1 h2 => ?_
  · exact Same.refl _ _
  · with_reducible refine Same.step (State.landHeld_same _ _) (by decide) ?_
    exact h2

theorem State.unmap_same (x1 : State) (x2 : List Nat) :
    Same [.dict, .freeCtr, .cores, .stores, .ledger, .tlb, .epoch, .heldFrames, .migs, .trackers, .replies, .lastResponse, .xports, .test] x1 (State.unmap x1 x2) := by
  unfold State.unmap
  extract_lets v0 v1 v2 v3 v4
  refine Same.have v3 ?_ fun h5 => ?_
  · refine Same.foldl ?_ fun q6 y7 h8 => ?_
    · with_reducible refine Same.record rfl ?_ ?_
      · intro p hp; cases p <;> first | exact absurd (by decide) hp | exact rfl
      exact Same.refl _ _
    · with_reducible refine Same.step (State.releaseWrites_same _ _) (by decide) ?_
      exact h8
  clear_value v3
  refine Same.have v4 ?_ fun h9 => ?_
  · with_reducible refine Same.step (State.flip_same _) (by decide) ?_
    refine Same.foldl ?_ fun q10 y11 h12 => ?_
    · exact h5
    · with_reducible refine Same.step (State.reEntry_same _ _ _) (by decide) ?_
      exact h12
  clear_value v4
  with_reducible refine Same.step (State.holdFrames_same _ _) (by decide) ?_
  exact h9

theorem State.moveBytes_same (x1 : State) (x2 x3 x4 x5 x6 : Nat) :
    Same [.stores] x1 (State.moveBytes x1 x2 x3 x4 x5 x6) := by
  unfold State.moveBytes
  extract_lets v0 v1 v2 v3 v4
  refine Same.have v0 ?_ fun h5 => ?_
  · with_reducible refine Same.step (State.touch_same _ _) (by decide) ?_
    exact Same.refl _ _
  clear_value v0
  with_reducible refine Same.step (State.setStore_same _ _ _) (by decide) ?_
  exact h5

theorem State.migCopy_same (x1 : State) (x2 : Migration) :
    Same [.stores] x1 (State.migCopy x1 x2) := by
  unfold State.migCopy
  refine Same.foldl ?_ fun q0 y1 h2 => ?_
  · exact Same.refl _ _
  · with_reducible refine Same.step (State.moveBytes_same _ _ _ _ _ _) (by decide) ?_
    exact h2

theorem State.migRecopy_same (x1 : State) (x2 : Migration) :
    Same [.stores] x1 (State.migRecopy x1 x2) := by
  unfold State.migRecopy
  refine Same.foldl ?_ fun q0 y1 h2 => ?_
  · exact Same.refl _ _
  · refine Same.foldl ?_ fun q3 y4 h5 => ?_
    · exact h2
    · extract_lets v6
      with_reducible refine Same.step (State.moveBytes_same _ _ _ _ _ _) (by decide) ?_
      exact h5

theorem State.startMig_same (x1 : State) (x2 : Nat) (x3 : MigOwner) (x4 x5 : Nat) :
    Same [.stores, .ledger, .tlb, .migs, .hub] x1 (State.startMig x1 x2 x3 x4 x5) := by
  unfold State.startMig
  extract_lets v0 v1 v2 v3 v4
  refine Same.have v4 ?_ fun h5 => ?_
  · with_reducible refine Same.step (State.reEntry_same _ _ _) (by decide) ?_
    exact Same.refl _ _
  clear_value v4
  with_reducible refine Same.record rfl ?_ ?_
  · intro p hp; cases p <;> first | exact absurd (by decide) hp | exact rfl
  exact h5

theorem State.abandonMig_same (x1 : State) (x2 : Migration) :
    Same [.dict, .freeCtr, .cores, .stores, .ledger, .tlb, .migs, .trackers, .replies, .lastResponse, .xports, .test] x1 (State.abandonMig x1 x2) := by
  unfold State.abandonMig
  extract_lets v0 v1
  refine Same.have v0 ?_ fun h2 => ?_
  · with_reducible refine Same.step (State.reEntry_same _ _ _) (by decide) ?_
    exact Same.refl _ _
  clear_value v0
  refine Same.have v1 ?_ fun h3 => ?_
  · dsimp only [v1]
    with_reducible refine Same.record rfl ?_ ?_
    · intro p hp; cases p <;> first | exact absurd (by decide) hp | exact rfl
    exact h2
  clear_value v1
  with_reducible refine Same.step (State.bump_same _ _) (by decide) ?_
  with_reducible refine Same.step (State.releaseWrites_same _ _) (by decide) ?_
  exact h3

theorem State.feedMigrate_same (x1 : State) (x2 : Nat) :
    Same [.stores, .ledger, .tlb, .migs, .ledgerCmd, .hub] x1 (State.feedMigrate x1 x2) := by
  induction x2 generalizing x1
  · unfold State.feedMigrate
    exact Same.refl _ _
  · rename_i i0 i1
    unfold State.feedMigrate
    split
    · rename_i e2 e3
      exact Same.refl _ _
    · rename_i e4 e5 e6
      split
      · rename_i e7 e8
        exact Same.refl _ _
      · rename_i e9 e10 e11 e12 e13
        refine Same.ite ?_ ?_
        · exact Same.refl _ _
        · extract_lets v14 v15
          with_reducible refine Same.step (i1 _) (by decide) ?_
          with_reducible refine Same.step (State.startMig_same _ _ _ _ _) (by decide) ?_
          with_reducible refine Same.record rfl ?_ ?_
          · intro p hp; cases p <;> first | exact absurd (by decide) hp | exact rfl
          exact Same.refl _ _

theorem State.migrateSettled_same (x1 : State) :
    Same [.ledgerCmd] x1 (State.migrateSettled x1) := by
  unfold State.migrateSettled
  split
  · rename_i e0 e1 e2
    refine Same.ite ?_ ?_
    · with_reducible refine Same.record rfl ?_ ?_
      · intro p hp; cases p <;> first | exact absurd (by decide) hp | exact rfl
      exact Same.refl _ _
    · exact Same.refl _ _
  · rename_i e3 e4
    exact Same.refl _ _

theorem State.retireFrame_same (x1 : State) (x2 x3 : Nat) :
    Same [.dict, .fieldMap, .stores] x1 (State.retireFrame x1 x2 x3) := by
  unfold State.retireFrame
  refine Same.ite ?_ ?_
  · exact Same.refl _ _
  · extract_lets v0 v1 v2
    refine Same.have v1 ?_ fun h3 => ?_
    · with_reducible refine Same.step (State.setStore_same _ _ _) (by decide) ?_
      exact Same.refl _ _
    clear_value v1
    refine Same.have v2 ?_ fun h4 => ?_
    · with_reducible refine Same.step (State.mapRecord_same _ _) (by decide) ?_
      exact h3
    clear_value v2
    refine Same.ite ?_ ?_
    · with_reducible refine Same.step (State.bump_same _ _) (by decide) ?_
      exact h4
    · exact h4

theorem State.noteMoved_same (x1 : State) (x2 : Migration) :
    Same [.ledgerCmd] x1 (State.noteMoved x1 x2) := by
  unfold State.noteMoved
  split
  · rename_i e0 e1 e2 e3 e4 e5
    with_reducible refine Same.record rfl ?_ ?_
    · intro p hp; cases p <;> first | exact absurd (by decide) hp | exact rfl
    exact Same.refl _ _
  · rename_i e6 e7 e8
    exact Same.refl _ _

theorem State.switchMig_same (x1 : State) (x2 : Migration) :
    Same [.dict, .freeCtr, .cores, .fieldMap, .stores, .ledger, .tlb, .epoch, .heldFrames, .migs, .ledgerCmd, .trackers, .replies, .lastResponse, .xports, .test] x1 (State.switchMig x1 x2) := by
  unfold State.switchMig
  extract_lets v0 v1 v2 v3 v4
  refine Same.have v3 ?_ fun h5 => ?_
  · with_reducible refine Same.step (State.holdFrames_same _ _) (by decide) ?_
    with_reducible refine Same.step (State.flip_same _) (by decide) ?_
    with_reducible refine Same.step (State.reEntry_same _ _ _) (by decide) ?_
    exact Same.refl _ _
  clear_value v3
  refine Same.have v4 ?_ fun h6 => ?_
  · with_reducible refine Same.step (State.bump_same _ _) (by decide) ?_
    with_reducible refine Same.step (State.releaseWrites_same _ _) (by decide) ?_
    with_reducible refine Same.step (State.setMig_same _ _ _) (by decide) ?_
    exact h5
  clear_value v4
  with_reducible refine Same.step (State.ledgerReport_same _) (by decide) ?_
  refine Same.foldl ?_ fun q7 y8 h9 => ?_
  · with_reducible refine Same.step (State.noteMoved_same _ _) (by decide) ?_
    exact h6
  · refine Same.ite ?_ ?_
    · with_reducible refine Same.step (State.retireFrame_same _ _ _) (by decide) ?_
      exact h9
    · exact h9

theorem State.feedDrain_same (x1 : State) (x2 x3 : Nat) :
    Same [.stores, .ledger, .tlb, .migs, .hub] x1 (State.feedDrain x1 x2 x3) := by
  induction x3 generalizing x1
  · unfold State.feedDrain
    exact Same.refl _ _
  · rename_i i0 i1
    unfold State.feedDrain
    refine Same.ite ?_ ?_
    · exact Same.refl _ _
    · split
      · rename_i e2 e3 e4 e5 e6 e7 e8 e9
        with_reducible refine Same.step (i1 _) (by decide) ?_
        with_reducible refine Same.step (State.startMig_same _ _ _ _ _) (by decide) ?_
        exact Same.refl _ _
      · rename_i e10 e11 e12
        exact Same.refl _ _

theorem State.feedDrains_same (x1 : State) :
    Same [.stores, .ledger, .tlb, .migs, .hub] x1 (State.feedDrains x1) := by
  unfold State.feedDrains
  refine Same.loopTo ?_ fun q0 y1 h2 => ?_
  · exact Same.refl _ _
  · with_reducible refine Same.step (State.feedDrain_same _ _ _) (by decide) ?_
    exact h2

theorem State.endMig_same (x1 : State) (x2 : Migration) (x3 : Status) :
    Same [.dict, .freeCtr, .cores, .stores, .ledger, .tlb, .migs, .ledgerCmd, .trackers, .replies, .lastResponse, .xports, .test] x1 (State.endMig x1 x2 x3) := by
  unfold State.endMig
  extract_lets v0
  refine Same.have v0 ?_ fun h1 => ?_
  · with_reducible refine Same.step (State.abandonMig_same _ _) (by decide) ?_
    exact Same.refl _ _
  clear_value v0
  split
  · rename_i e2 e3 e4 e5 e6 e7
    with_reducible refine Same.record rfl ?_ ?_
    · intro p hp; cases p <;> first | exact absurd (by decide) hp | exact rfl
    exact h1
  · rename_i e8 e9 e10
    exact h1

theorem State.endDark_same (x1 : State) (x2 : Migration) :
    Same [.dict, .freeCtr, .cores, .stores, .ledger, .tlb, .migs, .ledgerCmd, .trackers, .replies, .lastResponse, .xports, .test] x1 (State.endDark x1 x2) := by
  unfold State.endDark
  with_reducible refine Same.step (State.endMig_same _ _ _) (by decide) ?_
  exact Same.refl _ _

theorem State.markDue_same (x1 : State) (x2 x3 : Nat) :
    Same [.stores] x1 (State.markDue x1 x2 x3) := by
  unfold State.markDue
  refine Same.ite ?_ ?_
  · exact Same.refl _ _
  · with_reducible refine Same.step (State.setStore_same _ _ _) (by decide) ?_
    exact Same.refl _ _

theorem State.moveBack_same (x1 : State) (x2 : Nat × Nat × Nat) :
    Same [.stores, .ledger, .tlb, .epoch, .heldFrames, .migs] x1 (State.moveBack x1 x2) := by
  unfold State.moveBack
  extract_lets v0 v1 v2 v3 v4 v5 v6 v7 v8 v9
  refine Same.have v6 ?_ fun h10 => ?_
  · dsimp only [v6]
    with_reducible refine Same.record rfl ?_ ?_
    · intro p hp; cases p <;> first | exact absurd (by decide) hp | exact rfl
    exact Same.refl _ _
  clear_value v6
  refine Same.have v7 ?_ fun h11 => ?_
  · refine Same.foldl ?_ fun q12 y13 h14 => ?_
    · exact h10
    · with_reducible refine Same.step (State.moveBytes_same _ _ _ _ _ _) (by decide) ?_
      exact h14
  clear_value v7
  refine Same.have v8 ?_ fun h15 => ?_
  · with_reducible refine Same.step (State.flip_same _) (by decide) ?_
    with_reducible refine Same.step (State.reEntry_same _ _ _) (by decide) ?_
    exact h11
  clear_value v8
  refine Same.have v9 ?_ fun h16 => ?_
  · dsimp only [v9]
    with_reducible refine Same.record rfl ?_ ?_
    · intro p hp; cases p <;> first | exact absurd (by decide) hp | exact rfl
    exact h15
  clear_value v9
  refine Same.ite ?_ ?_
  · exact Same.refl _ _
  · refine Same.foldl ?_ fun q17 y18 h19 => ?_
    · with_reducible refine Same.step (State.holdFrames_same _ _) (by decide) ?_
      exact h16
    · with_reducible refine Same.step (State.markDue_same _ _ _) (by decide) ?_
      exact h19

theorem State.restoreMoved_same (x1 : State) :
    Same [.dict, .stores, .ledger, .tlb, .epoch, .heldFrames, .migs, .ledgerCmd] x1 (State.restoreMoved x1) := by
  unfold State.restoreMoved
  split
  · rename_i e0 e1 e2
    refine Same.ite ?_ ?_
    · with_reducible refine Same.step (State.ledgerReport_same _) (by decide) ?_
      refine Same.foldl ?_ fun q3 y4 h5 => ?_
      · with_reducible refine Same.record rfl ?_ ?_
        · intro p hp; cases p <;> first | exact absurd (by decide) hp | exact rfl
        exact Same.refl _ _
      · with_reducible refine Same.step (State.moveBack_same _ _) (by decide) ?_
        exact h5
    · exact Same.refl _ _
  · rename_i e6 e7
    exact Same.refl _ _

theorem State.drainOutcome_same (x1 : State) (x2 : Nat) (x3 : Status) :
    Same [.dict] x1 (State.drainOutcome x1 x2 x3) := by
  unfold State.drainOutcome
  refine Same.ite ?_ ?_
  · exact Same.refl _ _
  · with_reducible refine Same.step (State.setReg_same _ _ _) (by decide) ?_
    exact Same.refl _ _

theorem State.dropMigs_same (x1 : State) (x2 : Nat) :
    Same [.dict, .freeCtr, .cores, .stores, .ledger, .tlb, .epoch, .heldFrames, .migs, .ledgerCmd, .trackers, .replies, .lastResponse, .xports, .test] x1 (State.dropMigs x1 x2) := by
  unfold State.dropMigs
  with_reducible refine Same.step (State.restoreMoved_same _) (by decide) ?_
  refine Same.foldl ?_ fun q0 y1 h2 => ?_
  · exact Same.refl _ _
  · with_reducible refine Same.step (State.endMig_same _ _ _) (by decide) ?_
    exact h2

theorem State.polderDrop_same (x1 : State) (x2 : Nat) :
    Same [.dict, .freeCtr, .cores, .stores, .ledger, .tlb, .epoch, .heldFrames, .migs, .ledgerCmd, .lanes, .trackers, .replies, .lastResponse, .xports, .test] x1 (State.polderDrop x1 x2) := by
  unfold State.polderDrop
  extract_lets v0 v1
  refine Same.have v0 ?_ fun h2 => ?_
  · with_reducible refine Same.step (State.dropSlices_same _ _) (by decide) ?_
    with_reducible refine Same.step (State.dropMigs_same _ _) (by decide) ?_
    exact Same.refl _ _
  clear_value v0
  with_reducible refine Same.step (State.setStore_same _ _ _) (by decide) ?_
  exact h2

theorem State.joinAll_same (x1 : State) (x2 : List PortReq) :
    Same [.dies] x1 (State.joinAll x1 x2) := by
  unfold State.joinAll
  refine Same.foldl ?_ fun q0 y1 h2 => ?_
  · exact Same.refl _ _
  · extract_lets v3
    refine Same.ite ?_ ?_
    · with_reducible refine Same.step (State.setDie_same _ _ _) (by decide) ?_
      exact h2
    · exact h2

theorem State.setStaging_same (x1 : State) (x2 : List StageCmd) :
    Same [.dies, .staging] x1 (State.setStaging x1 x2) := by
  unfold State.setStaging
  extract_lets v0
  refine Same.have v0 ?_ fun h1 => ?_
  · with_reducible refine Same.step (State.joinAll_same _ _) (by decide) ?_
    exact Same.refl _ _
  clear_value v0
  with_reducible refine Same.record rfl ?_ ?_
  · intro p hp; cases p <;> first | exact absurd (by decide) hp | exact rfl
  exact h1

theorem State.channelDrop_same (x1 : State) (x2 : Nat) :
    Same [.dict, .freeCtr, .cores, .dies, .stores, .ledger, .tlb, .epoch, .heldFrames, .migs, .ledgerCmd, .chans, .staging, .trackers, .replies, .lastResponse, .xports, .test] x1 (State.channelDrop x1 x2) := by
  unfold State.channelDrop
  extract_lets v0 v1 v2 v3 v4 v5 v6 v7 v8
  refine Same.have v0 ?_ fun h9 => ?_
  · with_reducible refine Same.step (State.dropMigs_same _ _) (by decide) ?_
    exact Same.refl _ _
  clear_value v0
  refine Same.have v3 ?_ fun h10 => ?_
  · with_reducible refine Same.step (State.setChan_same _ _ _) (by decide) ?_
    exact h9
  clear_value v3
  refine Same.have v5 ?_ fun h11 => ?_
  · refine Same.ite ?_ ?_
    · with_reducible refine Same.step (State.setStore_same _ _ _) (by decide) ?_
      exact h10
    · with_reducible refine Same.step (State.setStore_same _ _ _) (by decide) ?_
      exact h10
  clear_value v5
  refine Same.have v6 ?_ fun h12 => ?_
  · with_reducible refine Same.step (State.addReg_same _ _ _) (by decide) ?_
    exact h11
  clear_value v6
  refine Same.have v7 ?_ fun h13 => ?_
  · refine Same.ite ?_ ?_
    · with_reducible refine Same.step (State.drainOutcome_same _ _ _) (by decide) ?_
      exact h12
    · exact h12
  clear_value v7
  refine Same.ite ?_ ?_
  · with_reducible refine Same.step (State.setStaging_same _ _) (by decide) ?_
    exact h13
  · exact h13

theorem State.fullCheck_same (x1 : Nat) (x2 : State) :
    Same [.dict, .freeCtr, .cores, .dies, .stores, .ledger, .tlb, .epoch, .heldFrames, .migs, .ledgerCmd, .chans, .staging, .lanes, .trackers, .replies, .lastResponse, .xports, .test] x2 (State.fullCheck x1 x2) := by
  induction x1 generalizing x2 with
  | zero => exact Same.refl _ _
  | succ n ih =>
    unfold State.fullCheck
    split
    · exact Same.refl _ _
    · refine Same.trans ?_ (ih _)
      split
      · exact (State.channelDrop_same _ _).mono (by decide)
      · exact (State.polderDrop_same _ _).mono (by decide)

theorem State.polderOut_same (x1 : State) (x2 : Nat) :
    Same [.dict, .freeCtr, .cores, .dies, .stores, .ledger, .tlb, .epoch, .heldFrames, .migs, .ledgerCmd, .chans, .staging, .lanes, .trackers, .replies, .lastResponse, .xports, .test] x1 (State.polderOut x1 x2) := by
  unfold State.polderOut
  with_reducible refine Same.step (State.fullCheck_same _ _) (by decide) ?_
  with_reducible refine Same.step (State.polderDrop_same _ _) (by decide) ?_
  exact Same.refl _ _

theorem State.channelFail_same (x1 : State) (x2 : Nat) :
    Same [.dict, .freeCtr, .cores, .dies, .stores, .ledger, .tlb, .epoch, .heldFrames, .migs, .ledgerCmd, .chans, .staging, .lanes, .trackers, .replies, .lastResponse, .xports, .test] x1 (State.channelFail x1 x2) := by
  unfold State.channelFail
  with_reducible refine Same.step (State.fullCheck_same _ _) (by decide) ?_
  with_reducible refine Same.step (State.channelDrop_same _ _) (by decide) ?_
  exact Same.refl _ _

theorem State.retireCheck_same (x1 : State) (x2 x3 : Nat) :
    Same [.dict, .fieldMap, .stores, .ledger, .tlb, .migs, .hub] x1 (State.retireCheck x1 x2 x3) := by
  unfold State.retireCheck
  refine Same.ite ?_ ?_
  · exact Same.refl _ _
  · split
    · rename_i e0 e1
      with_reducible refine Same.step (State.retireFrame_same _ _ _) (by decide) ?_
      exact Same.refl _ _
    · rename_i e2 e3 e4 e5
      refine Same.ite ?_ ?_
      · exact Same.refl _ _
      · extract_lets v6 v7
        refine Same.ite ?_ ?_
        · exact Same.refl _ _
        · split
          · rename_i e8 e9 e10
            with_reducible refine Same.step (State.startMig_same _ _ _ _ _) (by decide) ?_
            exact Same.refl _ _
          · rename_i e11 e12
            exact Same.refl _ _

theorem State.marked_same (x1 : State) (x2 x3 : Nat) :
    Same [.dict, .freeCtr, .cores, .dies, .fieldMap, .stores, .ledger, .tlb, .epoch, .heldFrames, .migs, .ledgerCmd, .chans, .staging, .lanes, .trackers, .replies, .lastResponse, .xports, .hub, .test] x1 (State.marked x1 x2 x3) := by
  unfold State.marked
  with_reducible refine Same.step (State.retireCheck_same _ _ _) (by decide) ?_
  with_reducible refine Same.step (State.fullCheck_same _ _) (by decide) ?_
  with_reducible refine Same.step (State.markDue_same _ _ _) (by decide) ?_
  exact Same.refl _ _

theorem State.retireDue_same (x1 : State) :
    Same [.dict, .fieldMap, .stores, .ledger, .tlb, .migs, .hub] x1 (State.retireDue x1) := by
  unfold State.retireDue
  refine Same.loopTo ?_ fun q0 y1 h2 => ?_
  · exact Same.refl _ _
  · refine Same.foldl ?_ fun q3 y4 h5 => ?_
    · exact h2
    · with_reducible refine Same.step (State.retireCheck_same _ _ _) (by decide) ?_
      exact h5

theorem State.feedAll_same (x1 : State) :
    Same [.dict, .fieldMap, .stores, .ledger, .tlb, .migs, .ledgerCmd, .hub] x1 (State.feedAll x1) := by
  unfold State.feedAll
  with_reducible refine Same.step (State.retireDue_same _) (by decide) ?_
  with_reducible refine Same.step (State.feedDrains_same _) (by decide) ?_
  with_reducible refine Same.step (State.migrateSettled_same _) (by decide) ?_
  with_reducible refine Same.step (State.feedMigrate_same _ _) (by decide) ?_
  exact Same.refl _ _

theorem execMigrationPhaseEnd_same (x1 : Nat) (x2 : State) :
    OutSame [.dict, .freeCtr, .cores, .dies, .fieldMap, .stores, .ledger, .tlb, .epoch, .heldFrames, .migs, .ledgerCmd, .chans, .staging, .lanes, .trackers, .replies, .lastResponse, .xports, .hub, .test] x2 (execMigrationPhaseEnd x1 x2) := by
  unfold execMigrationPhaseEnd
  split
  · rename_i e0 e1
    refine OutSame.next ?_
    exact Same.refl _ _
  · rename_i e2 e3 e4
    extract_lets v5 v6
    refine OutSame.have v6 ?_ fun h7 => ?_
    · with_reducible refine Same.step (State.fullCheck_same _ _) (by decide) ?_
      with_reducible refine Same.step (State.migRecopy_same _ _) (by decide) ?_
      exact Same.refl _ _
    clear_value v6
    refine OutSame.ite ?_ ?_
    · refine OutSame.next ?_
      exact Same.refl _ _
    · refine OutSame.ite ?_ ?_
      · refine OutSame.ite ?_ ?_
        · refine OutSame.next ?_
          dsimp only [v5]
          with_reducible refine Same.step (State.feedAll_same _) (by decide) ?_
          with_reducible refine Same.step (State.endDark_same _ _) (by decide) ?_
          exact Same.refl _ _
        · refine OutSame.next ?_
          exact Same.refl _ _
      · split
        · rename_i e8 e9
          refine OutSame.next ?_
          with_reducible refine Same.step (State.setMig_same _ _ _) (by decide) ?_
          with_reducible refine Same.step (State.fullCheck_same _ _) (by decide) ?_
          with_reducible refine Same.step (State.migCopy_same _ _) (by decide) ?_
          exact Same.refl _ _
        · rename_i e10 e11
          refine OutSame.next ?_
          with_reducible refine Same.step (State.setMig_same _ _ _) (by decide) ?_
          with_reducible refine Same.step (State.fullCheck_same _ _) (by decide) ?_
          with_reducible refine Same.step (State.migRecopy_same _ _) (by decide) ?_
          exact Same.refl _ _
        · rename_i e12 e13
          refine OutSame.ite ?_ ?_
          · refine OutSame.next ?_
            with_reducible refine Same.step (State.setMig_same _ _ _) (by decide) ?_
            exact h7
          · refine OutSame.next ?_
            with_reducible refine Same.step (State.setMig_same _ _ _) (by decide) ?_
            exact h7
        · rename_i e14 e15
          refine OutSame.next ?_
          with_reducible refine Same.step (State.setMig_same _ _ _) (by decide) ?_
          exact Same.refl _ _
        · rename_i e16 e17
          refine OutSame.next ?_
          dsimp only [v5]
          with_reducible refine Same.step (State.feedAll_same _) (by decide) ?_
          with_reducible refine Same.step (State.switchMig_same _ _) (by decide) ?_
          exact Same.refl _ _
        · rename_i e18 e19 e20 e21 e22 e23
          refine OutSame.next ?_
          exact Same.refl _ _

theorem State.takeLedger_same {W : List Part} {s0 s : State} {mine : Nat → Bool}
    {body : List Nat → State → State} (hw : ([.ledgerTurn, .ledgerCmd, .ports].all fun p => W.contains p) = true)
    (h : Same W s0 s) (hb : ∀ ws t, Same W s0 t → Same W s0 (body ws t)) :
    Same W s0 (s.takeLedger mine body) := by
  have step : ∀ (p : Nat) (x : Port) (n : Nat) (c : Option LedgerCmd),
      Same W s0 { s.setPort p x with ledgerTurn := n, ledgerCmd := c } := by
    intro p x n c
    exact Same.step (V := [.ledgerTurn, .ledgerCmd, .ports])
      (by intro p hp; cases p <;> first | exact absurd (by decide) hp | exact rfl) hw h
  unfold State.takeLedger
  split
  · exact h
  · split
    · extract_lets c t
      split
      · exact step _ _ _ _
      · split
        · exact step _ _ _ _
        · exact hb _ _ (step _ _ _ _)
    · exact h

theorem State.ledgerOk_same (x1 : State) :
    Same [.ledgerCmd] x1 (State.ledgerOk x1) := by
  unfold State.ledgerOk
  with_reducible refine Same.record rfl ?_ ?_
  · intro p hp; cases p <;> first | exact absurd (by decide) hp | exact rfl
  exact Same.refl _ _

theorem execLedgerQueueDoorbell_same (x1 : Fin 2) (x2 : Nat) (x3 : State) :
    OutSame [.dict, .freeCtr, .ports, .test] x3 (execLedgerQueueDoorbell x1 x2 x3) := by
  unfold execLedgerQueueDoorbell
  extract_lets v0 v1
  refine OutSame.next ?_
  with_reducible refine when_same ?_ ?_
  · with_reducible refine Same.step (State.traceOpen_same _ _ _ _ _ _ _) (by decide) ?_
    with_reducible refine Same.step (State.setPort_same _ _ _) (by decide) ?_
    exact Same.refl _ _
  · exact Same.refl _ _

theorem execMap_same (x1 : State) :
    OutSame [.dict, .stores, .ledger, .tlb, .ledgerCmd, .ledgerTurn, .ports] x1 (execMap x1) := by
  unfold execMap
  refine OutSame.next ?_
  with_reducible refine State.takeLedger_same (by decide) ?_ ?_
  · exact Same.refl _ _
  · intro y0 y1 h2
    with_reducible refine Same.step (State.ledgerOk_same _) (by decide) ?_
    with_reducible refine Same.step (State.ledgerReport_same _) (by decide) ?_
    refine Same.foldl ?_ fun q3 y4 h5 => ?_
    · exact h2
    · with_reducible refine Same.step (State.reEntry_same _ _ _) (by decide) ?_
      exact h5

theorem execUnmap_same (x1 : State) :
    OutSame [.dict, .freeCtr, .cores, .stores, .ledger, .tlb, .epoch, .heldFrames, .migs, .ledgerCmd, .ledgerTurn, .trackers, .replies, .lastResponse, .xports, .ports, .test] x1 (execUnmap x1) := by
  unfold execUnmap
  refine OutSame.next ?_
  with_reducible refine State.takeLedger_same (by decide) ?_ ?_
  · exact Same.refl _ _
  · intro y0 y1 h2
    with_reducible refine Same.step (State.ledgerOk_same _) (by decide) ?_
    with_reducible refine Same.step (State.ledgerReport_same _) (by decide) ?_
    with_reducible refine Same.step (State.unmap_same _ _) (by decide) ?_
    exact h2

theorem execProtect_same (x1 : State) :
    OutSame [.stores, .ledger, .tlb, .epoch, .ledgerCmd, .ledgerTurn, .ports] x1 (execProtect x1) := by
  unfold execProtect
  refine OutSame.next ?_
  with_reducible refine State.takeLedger_same (by decide) ?_ ?_
  · exact Same.refl _ _
  · intro y0 y1 h2
    with_reducible refine Same.step (State.ledgerOk_same _) (by decide) ?_
    with_reducible refine Same.step (State.flip_same _) (by decide) ?_
    refine Same.foldl ?_ fun q3 y4 h5 => ?_
    · exact h2
    · with_reducible refine Same.step (State.reEntry_same _ _ _) (by decide) ?_
      exact h5

theorem execMigrate_same (x1 : State) :
    OutSame [.stores, .ledger, .tlb, .migs, .ledgerCmd, .ledgerTurn, .hub, .ports] x1 (execMigrate x1) := by
  unfold execMigrate
  refine OutSame.next ?_
  with_reducible refine State.takeLedger_same (by decide) ?_ ?_
  · exact Same.refl _ _
  · intro y0 y1 h2
    extract_lets v3 v4
    refine Same.have v4 ?_ fun h5 => ?_
    · dsimp only [v4]
      with_reducible refine Same.record rfl ?_ ?_
      · intro p hp; cases p <;> first | exact absurd (by decide) hp | exact rfl
      exact h2
    clear_value v4
    with_reducible refine Same.step (State.feedMigrate_same _ _) (by decide) ?_
    exact h5

theorem execUnmapstream_same (x1 : State) :
    OutSame [.dict, .freeCtr, .cores, .stores, .ledger, .tlb, .epoch, .heldFrames, .migs, .ledgerCmd, .ledgerTurn, .trackers, .replies, .lastResponse, .xports, .ports, .test] x1 (execUnmapstream x1) := by
  unfold execUnmapstream
  refine OutSame.next ?_
  with_reducible refine State.takeLedger_same (by decide) ?_ ?_
  · exact Same.refl _ _
  · intro y0 y1 h2
    with_reducible refine Same.step (State.ledgerOk_same _) (by decide) ?_
    with_reducible refine Same.step (State.ledgerReport_same _) (by decide) ?_
    with_reducible refine Same.step (State.unmap_same _ _) (by decide) ?_
    exact h2

theorem State.finishLedger_same (x1 : State) (x2 : LedgerCmd) (x3 : Nat) :
    Same [.dict, .freeCtr, .ledgerCmd, .ports, .test] x1 (State.finishLedger x1 x2 x3) := by
  unfold State.finishLedger
  extract_lets v0 v1 v2 v3 v4 v5 v6
  refine Same.have v0 ?_ fun h7 => ?_
  · dsimp only [v0]
    with_reducible refine Same.record rfl ?_ ?_
    · intro p hp; cases p <;> first | exact absurd (by decide) hp | exact rfl
    exact Same.refl _ _
  clear_value v0
  refine Same.have v6 ?_ fun h8 => ?_
  · with_reducible refine Same.step (State.setPort_same _ _ _) (by decide) ?_
    exact h7
  clear_value v6
  refine Same.ite ?_ ?_
  · exact h7
  · refine Same.ite ?_ ?_
    · with_reducible refine Same.step (State.traceOpen_same _ _ _ _ _ _ _) (by decide) ?_
      exact h8
    · exact h8

theorem execLedgerCommandComplete_same (x1 : State) :
    OutSame [.dict, .freeCtr, .ledgerCmd, .ledgerTurn, .ports, .test] x1 (execLedgerCommandComplete x1) := by
  unfold execLedgerCommandComplete
  extract_lets v0
  refine OutSame.have v0 ?_ fun h1 => ?_
  · with_reducible refine State.takeLedger_same (by decide) ?_ ?_
    · exact Same.refl _ _
    · intro y2 y3 h4
      exact h4
  clear_value v0
  split
  · rename_i e5 e6
    refine OutSame.next ?_
    exact h1
  · rename_i e7 e8 e9
    split
    · rename_i e10 e11
      refine OutSame.next ?_
      exact h1
    · rename_i e12 e13 e14
      refine OutSame.ite ?_ ?_
      · refine OutSame.next ?_
        with_reducible refine Same.step (State.finishLedger_same _ _ _) (by decide) ?_
        exact h1
      · refine OutSame.next ?_
        exact h1

theorem execLedgerEpochDrain_same (x1 : State) :
    OutSame [.dict, .fieldMap, .stores, .ledger, .tlb, .heldFrames, .migs, .ledgerCmd, .hub] x1 (execLedgerEpochDrain x1) := by
  unfold execLedgerEpochDrain
  extract_lets v0 v1 v2
  refine OutSame.next ?_
  with_reducible refine Same.step (State.feedAll_same _) (by decide) ?_
  with_reducible refine Same.step (State.setReg_same _ _ _) (by decide) ?_
  with_reducible refine Same.record rfl ?_ ?_
  · intro p hp; cases p <;> first | exact absurd (by decide) hp | exact rfl
  exact Same.refl _ _

theorem State.memError_same (x1 : State) (x2 : MemError) :
    Same [.dict, .freeCtr, .cores, .dies, .fieldMap, .stores, .ledger, .tlb, .epoch, .heldFrames, .migs, .ledgerCmd, .chans, .staging, .lanes, .trackers, .replies, .lastResponse, .xports, .hub, .test] x1 (State.memError x1 x2) := by
  unfold State.memError
  extract_lets v0 v1 v2 v3
  refine Same.have v3 ?_ fun h4 => ?_
  · with_reducible refine Same.step (State.setStore_same _ _ _) (by decide) ?_
    exact Same.refl _ _
  clear_value v3
  refine Same.ite ?_ ?_
  · exact Same.refl _ _
  · refine Same.ite ?_ ?_
    · with_reducible refine Same.step (State.bump_same _ _) (by decide) ?_
      exact Same.refl _ _
    · refine Same.ite ?_ ?_
      · exact Same.refl _ _
      · with_reducible refine Same.step (State.marked_same _ _ _) (by decide) ?_
        exact h4

theorem State.memErrors_same (x1 : State) (x2 : List MemError) :
    Same [.dict, .freeCtr, .cores, .dies, .fieldMap, .stores, .ledger, .tlb, .epoch, .heldFrames, .migs, .ledgerCmd, .chans, .staging, .lanes, .trackers, .replies, .lastResponse, .xports, .hub, .test] x1 (State.memErrors x1 x2) := by
  unfold State.memErrors
  refine Same.foldl ?_ fun q0 y1 h2 => ?_
  · exact Same.refl _ _
  · with_reducible refine Same.step (State.memError_same _ _) (by decide) ?_
    exact h2

theorem execPatrolScrub_same (x1 : Fin 16) (x2 : Nat) (x3 : List MemError) (x4 : State) :
    OutSame [.dict, .freeCtr, .cores, .dies, .fieldMap, .stores, .ledger, .tlb, .epoch, .heldFrames, .migs, .ledgerCmd, .chans, .staging, .lanes, .trackers, .replies, .lastResponse, .xports, .hub, .test] x4 (execPatrolScrub x1 x2 x3 x4) := by
  unfold execPatrolScrub
  extract_lets v0 v1 v2
  refine OutSame.have v2 ?_ fun h3 => ?_
  · with_reducible refine Same.step (State.setStore_same _ _ _) (by decide) ?_
    exact Same.refl _ _
  clear_value v2
  refine OutSame.ite ?_ ?_
  · refine OutSame.next ?_
    exact Same.refl _ _
  · refine OutSame.next ?_
    with_reducible refine Same.step (State.memErrors_same _ _) (by decide) ?_
    exact h3

theorem execSelfRefreshEntry_same (x1 : Fin 16) (x2 : State) :
    OutSame [.stores] x2 (execSelfRefreshEntry x1 x2) := by
  unfold execSelfRefreshEntry
  extract_lets v0
  refine OutSame.next ?_
  with_reducible refine when_same ?_ ?_
  · with_reducible refine Same.step (State.setStore_same _ _ _) (by decide) ?_
    exact Same.refl _ _
  · exact Same.refl _ _

end Sys2Proof.Machine
end

