-- ==== Sys2Proof/Laws/FrameSequencer.lean ====
section
/-! SUPPORT. Frames of the functions of Machine/Sequencer.lean: one lemma a function, which says what parts of the state it
can change. -/

namespace Sys2Proof.Machine

open Sys2Proof

theorem State.coreFault_same (x1 : State) (x2 : Nat) (x3 : Grant) (x4 x5 x6 x7 : Nat) (x8 : optParam Nat 0) :
    Same [.dict, .lastStatus, .freeCtr, .hostMem, .entries, .cores, .runs, .grants, .orphans, .stores, .pair, .ports, .streams, .pw, .test] x1 (State.coreFault x1 x2 x3 x4 x5 x6 x7 x8) := by
  unfold State.coreFault
  with_reducible refine Same.step (State.stepFault_same _ _ _) (by decide) ?_
  exact Same.refl _ _

theorem execInstructionIssue_same (x1 : Fin 8) (x2 : Fin 48) (x3 : State) :
    OutSame [.runs] x3 (execInstructionIssue x1 x2 x3) := by
  unfold execInstructionIssue
  split
  · rename_i e0 e1
    refine OutSame.next ?_
    exact Same.refl _ _
  · rename_i e2 e3 e4 e5 e6
    extract_lets v7 v8 v9
    refine OutSame.ite ?_ ?_
    · refine OutSame.next ?_
      exact Same.refl _ _
    · refine OutSame.ite ?_ ?_
      · refine OutSame.ite ?_ ?_
        · refine OutSame.next ?_
          with_reducible refine Same.step (State.setRun_same _ _ _) (by decide) ?_
          exact Same.refl _ _
        · refine OutSame.next ?_
          exact Same.refl _ _
      · refine OutSame.ite ?_ ?_
        · refine OutSame.next ?_
          with_reducible refine Same.step (State.setRun_same _ _ _) (by decide) ?_
          exact Same.refl _ _
        · refine OutSame.next ?_
          exact Same.refl _ _

theorem State.completeInstr_same (x1 : State) (x2 : Nat) (x3 : Grant) (x4 : CoreRun) (x5 : Nat) (x6 : QInstr) :
    Same [.dict, .lastStatus, .freeCtr, .hostMem, .entries, .cores, .runs, .grants, .orphans, .stores, .pair, .ports, .streams, .pw, .test] x1 (State.completeInstr x1 x2 x3 x4 x5 x6) := by
  unfold State.completeInstr
  refine Same.ite ?_ ?_
  · extract_lets v0
    refine Same.ite ?_ ?_
    · with_reducible refine Same.step (State.coreFault_same _ _ _ _ _ _ _ _) (by decide) ?_
      with_reducible refine Same.step (State.setRun_same _ _ _) (by decide) ?_
      exact Same.refl _ _
    · with_reducible refine Same.step (State.setRun_same _ _ _) (by decide) ?_
      exact Same.refl _ _
  · with_reducible refine Same.step (State.setRun_same _ _ _) (by decide) ?_
    exact Same.refl _ _

theorem execInstructionComplete_same (x1 : Fin 8) (x2 : Fin 48) (x3 : Fin 12) (x4 : Nat) (x5 : State) :
    OutSame [.dict, .lastStatus, .freeCtr, .hostMem, .entries, .cores, .runs, .grants, .orphans, .stores, .pair, .ports, .streams, .pw, .test] x5 (execInstructionComplete x1 x2 x3 x4 x5) := by
  unfold execInstructionComplete
  split
  · rename_i e0 e1
    refine OutSame.next ?_
    exact Same.refl _ _
  · rename_i e2 e3 e4 e5 e6
    extract_lets v7
    refine OutSame.ite ?_ ?_
    · refine OutSame.next ?_
      exact Same.refl _ _
    · split
      · rename_i e8 e9
        refine OutSame.next ?_
        exact Same.refl _ _
      · rename_i e10 e11 e12
        refine OutSame.ite ?_ ?_
        · refine OutSame.next ?_
          exact Same.refl _ _
        · refine OutSame.ite ?_ ?_
          · extract_lets v13
            refine OutSame.ite ?_ ?_
            · refine OutSame.next ?_
              with_reducible refine Same.step (State.completeInstr_same _ _ _ _ _ _) (by decide) ?_
              exact Same.refl _ _
            · refine OutSame.next ?_
              exact Same.refl _ _
          · refine OutSame.next ?_
            with_reducible refine Same.step (State.completeInstr_same _ _ _ _ _ _) (by decide) ?_
            exact Same.refl _ _

theorem State.sequence_same {W : List Part} {s0 s : State} {die core c op : Nat}
    {f : Nat → Grant → CoreRun → Nat → State → State} (hw : ([.runs].all fun p => W.contains p) = true)
    (h : Same W s0 s) (hf : ∀ k g r w t, Same W s0 t → Same W s0 (f k g r w t)) :
    Same W s0 (s.sequence die core c op f) := by
  unfold State.sequence
  split
  · exact h
  · extract_lets w
    split
    · exact hf _ _ _ _ _ (Same.step (State.setRun_same _ _ _) hw h)
    · exact h

theorem execWaitpin_same (x1 : Fin 8) (x2 : Fin 48) (x3 : State) :
    OutSame [.runs] x3 (execWaitpin x1 x2 x3) := by
  unfold execWaitpin
  refine OutSame.next ?_
  with_reducible refine State.sequence_same (by decide) ?_ ?_
  · exact Same.refl _ _
  · intro y0 y1 y2 y3 y4 h5
    refine Same.ite ?_ ?_
    · with_reducible refine Same.step (State.setRun_same _ _ _) (by decide) ?_
      exact h5
    · exact h5

theorem State.setSem_same (x1 : State) (x2 : Grant) (x3 x4 : Nat) :
    Same [.grants] x1 (State.setSem x1 x2 x3 x4) := by
  unfold State.setSem
  with_reducible refine Same.record rfl ?_ ?_
  · intro p hp; cases p <;> first | exact absurd (by decide) hp | exact rfl
  exact Same.refl _ _

theorem execSemadd_same (x1 : Fin 8) (x2 : Fin 48) (x3 : State) :
    OutSame [.dict, .lastStatus, .freeCtr, .hostMem, .entries, .cores, .runs, .grants, .orphans, .stores, .pair, .ports, .streams, .pw, .test] x3 (execSemadd x1 x2 x3) := by
  unfold execSemadd
  refine OutSame.next ?_
  with_reducible refine State.sequence_same (by decide) ?_ ?_
  · exact Same.refl _ _
  · intro y0 y1 y2 y3 y4 h5
    extract_lets v6 v7
    refine Same.ite ?_ ?_
    · with_reducible refine Same.step (State.setSem_same _ _ _ _) (by decide) ?_
      with_reducible refine Same.step (State.setRun_same _ _ _) (by decide) ?_
      exact h5
    · with_reducible refine Same.step (State.coreFault_same _ _ _ _ _ _ _ _) (by decide) ?_
      exact h5

theorem execSemwait_same (x1 : Fin 8) (x2 : Fin 48) (x3 : State) :
    OutSame [.runs] x3 (execSemwait x1 x2 x3) := by
  unfold execSemwait
  refine OutSame.next ?_
  with_reducible refine State.sequence_same (by decide) ?_ ?_
  · exact Same.refl _ _
  · intro y0 y1 y2 y3 y4 h5
    refine Same.ite ?_ ?_
    · with_reducible refine Same.step (State.setRun_same _ _ _) (by decide) ?_
      exact h5
    · exact h5

theorem execFence_same (x1 : Fin 8) (x2 : Fin 48) (x3 : State) :
    OutSame [.runs] x3 (execFence x1 x2 x3) := by
  unfold execFence
  refine OutSame.next ?_
  with_reducible refine State.sequence_same (by decide) ?_ ?_
  · exact Same.refl _ _
  · intro y0 y1 y2 y3 y4 h5
    extract_lets v6
    refine Same.ite ?_ ?_
    · with_reducible refine Same.step (State.setRun_same _ _ _) (by decide) ?_
      exact h5
    · exact h5

theorem State.waitmem_same (x1 : State) (x2 : Nat) (x3 : Grant) (x4 : CoreRun) (x5 : Nat) (x6 : Bool) :
    Same [.dict, .lastStatus, .freeCtr, .hostMem, .entries, .cores, .runs, .grants, .orphans, .stores, .pair, .ports, .streams, .pw, .test] x1 (State.waitmem x1 x2 x3 x4 x5 x6) := by
  unfold State.waitmem
  extract_lets v0
  split
  · rename_i e1 e2 e3
    refine Same.ite ?_ ?_
    · exact Same.refl _ _
    · with_reducible refine Same.step (State.coreFault_same _ _ _ _ _ _ _ _) (by decide) ?_
      exact Same.refl _ _
  · rename_i e4 e5
    refine Same.ite ?_ ?_
    · with_reducible refine Same.step (State.setRun_same _ _ _) (by decide) ?_
      exact Same.refl _ _
    · with_reducible refine Same.step (State.setRun_same _ _ _) (by decide) ?_
      exact Same.refl _ _

theorem execWaitmem_same (x1 : Fin 8) (x2 : Fin 48) (x3 : State) :
    OutSame [.dict, .lastStatus, .freeCtr, .hostMem, .entries, .cores, .runs, .grants, .orphans, .stores, .pair, .ports, .streams, .pw, .test] x3 (execWaitmem x1 x2 x3) := by
  unfold execWaitmem
  refine OutSame.next ?_
  with_reducible refine State.sequence_same (by decide) ?_ ?_
  · exact Same.refl _ _
  · intro y0 y1 y2 y3 y4 h5
    with_reducible refine Same.step (State.waitmem_same _ _ _ _ _ _) (by decide) ?_
    exact h5

theorem execWaitmemPoll_same (x1 : Fin 8) (x2 : Fin 48) (x3 : State) :
    OutSame [.dict, .lastStatus, .freeCtr, .hostMem, .entries, .cores, .runs, .grants, .orphans, .stores, .pair, .ports, .streams, .pw, .test] x3 (execWaitmemPoll x1 x2 x3) := by
  unfold execWaitmemPoll
  refine OutSame.next ?_
  with_reducible refine State.sequence_same (by decide) ?_ ?_
  · exact Same.refl _ _
  · intro y0 y1 y2 y3 y4 h5
    refine Same.ite ?_ ?_
    · with_reducible refine Same.step (State.waitmem_same _ _ _ _ _ _) (by decide) ?_
      exact h5
    · exact h5

theorem execNop_same (x1 : Fin 8) (x2 : Fin 48) (x3 : State) :
    OutSame [.runs] x3 (execNop x1 x2 x3) := by
  unfold execNop
  refine OutSame.next ?_
  with_reducible refine State.sequence_same (by decide) ?_ ?_
  · exact Same.refl _ _
  · intro y0 y1 y2 y3 y4 h5
    with_reducible refine Same.step (State.setRun_same _ _ _) (by decide) ?_
    exact h5

theorem execBr_same (x1 : Fin 8) (x2 : Fin 48) (x3 : State) :
    OutSame [.runs] x3 (execBr x1 x2 x3) := by
  unfold execBr
  refine OutSame.next ?_
  with_reducible refine State.sequence_same (by decide) ?_ ?_
  · exact Same.refl _ _
  · intro y0 y1 y2 y3 y4 h5
    with_reducible refine Same.step (State.setRun_same _ _ _) (by decide) ?_
    exact h5

theorem execBrc_same (x1 : Fin 8) (x2 : Fin 48) (x3 : State) :
    OutSame [.runs] x3 (execBrc x1 x2 x3) := by
  unfold execBrc
  refine OutSame.next ?_
  with_reducible refine State.sequence_same (by decide) ?_ ?_
  · exact Same.refl _ _
  · intro y0 y1 y2 y3 y4 h5
    refine Same.ite ?_ ?_
    · with_reducible refine Same.step (State.setRun_same _ _ _) (by decide) ?_
      exact h5
    · with_reducible refine Same.step (State.setRun_same _ _ _) (by decide) ?_
      exact h5

theorem execIadd_same (x1 : Fin 8) (x2 : Fin 48) (x3 : State) :
    OutSame [.runs] x3 (execIadd x1 x2 x3) := by
  unfold execIadd
  refine OutSame.next ?_
  with_reducible refine State.sequence_same (by decide) ?_ ?_
  · exact Same.refl _ _
  · intro y0 y1 y2 y3 y4 h5
    extract_lets v6
    with_reducible refine Same.step (State.setRun_same _ _ _) (by decide) ?_
    exact h5

theorem execIset_same (x1 : Fin 8) (x2 : Fin 48) (x3 : State) :
    OutSame [.runs] x3 (execIset x1 x2 x3) := by
  unfold execIset
  refine OutSame.next ?_
  with_reducible refine State.sequence_same (by decide) ?_ ?_
  · exact Same.refl _ _
  · intro y0 y1 y2 y3 y4 h5
    with_reducible refine Same.step (State.setRun_same _ _ _) (by decide) ?_
    exact h5

theorem execIload_same (x1 : Fin 8) (x2 : Fin 48) (x3 : State) :
    OutSame [.dict, .lastStatus, .freeCtr, .hostMem, .entries, .cores, .runs, .grants, .orphans, .stores, .pair, .ports, .streams, .pw, .test] x3 (execIload x1 x2 x3) := by
  unfold execIload
  refine OutSame.next ?_
  with_reducible refine State.sequence_same (by decide) ?_ ?_
  · exact Same.refl _ _
  · intro y0 y1 y2 y3 y4 h5
    extract_lets v6
    split
    · rename_i e7 e8 e9
      with_reducible refine Same.step (State.coreFault_same _ _ _ _ _ _ _ _) (by decide) ?_
      exact h5
    · rename_i e10 e11
      refine Same.ite ?_ ?_
      · with_reducible refine Same.step (State.setRun_same _ _ _) (by decide) ?_
        exact h5
      · with_reducible refine Same.step (State.setRun_same _ _ _) (by decide) ?_
        exact h5

theorem execTrap_same (x1 : Fin 8) (x2 : Fin 48) (x3 : State) :
    OutSame [.dict, .lastStatus, .freeCtr, .hostMem, .entries, .cores, .runs, .grants, .orphans, .stores, .pair, .ports, .streams, .pw, .test] x3 (execTrap x1 x2 x3) := by
  unfold execTrap
  refine OutSame.next ?_
  with_reducible refine State.sequence_same (by decide) ?_ ?_
  · exact Same.refl _ _
  · intro y0 y1 y2 y3 y4 h5
    with_reducible refine Same.step (State.coreFault_same _ _ _ _ _ _ _ _) (by decide) ?_
    exact h5

theorem State.judge_same (x1 : State) (x2 : Entry) :
    Same [.dict] x1 (State.judge x1 x2).1 := by
  unfold State.judge
  refine Same.iteFst ?_ ?_
  · dsimp only
    with_reducible refine Same.step (State.bump_same _ _) (by decide) ?_
    exact Same.refl _ _
  · extract_lets v0 v1
    refine Same.have v0 ?_ fun h2 => ?_
    · refine Same.ite ?_ ?_
      · with_reducible refine Same.step (State.bump_same _ _) (by decide) ?_
        exact Same.refl _ _
      · exact Same.refl _ _
    clear_value v0
    refine Same.have v1 ?_ fun h3 => ?_
    · refine Same.ite ?_ ?_
      · with_reducible refine Same.step (State.bump_same _ _) (by decide) ?_
        exact h2
      · exact h2
    clear_value v1
    dsimp only
    exact h3

theorem State.dropNext_same (x1 : State) (x2 : Grant) (x3 : Nat) :
    Same [.dict, .lastStatus, .freeCtr, .entries, .pair, .ports, .pw, .test] x1 (State.dropNext x1 x2 x3) := by
  unfold State.dropNext
  extract_lets v0 v1 v2
  refine Same.have v1 ?_ fun h3 => ?_
  · with_reducible refine Same.step (State.traceStep_same _ _ _ _ _ _ _ _) (by decide) ?_
    with_reducible refine Same.step (State.postStep_same _ _ _ _ _ _ _ _) (by decide) ?_
    exact Same.refl _ _
  clear_value v1
  refine Same.have v2 ?_ fun h4 => ?_
  · refine Same.foldl ?_ fun q5 y6 h7 => ?_
    · exact h3
    · with_reducible refine Same.step (State.note_same _ _ _ _) (by decide) ?_
      exact h7
  clear_value v2
  with_reducible refine Same.step (State.sweepEntries_same _ _) (by decide) ?_
  with_reducible refine Same.step (State.setEntry_same _ _ _ _) (by decide) ?_
  exact h4

theorem State.commit_same (x1 : State) (x2 : Grant) :
    Same [.dict, .lastStatus, .freeCtr, .hostMem, .entries, .cores, .runs, .grants, .orphans, .stores, .pair, .ports, .streams, .pw, .test] x1 (State.commit x1 x2) := by
  unfold State.commit
  extract_lets v0
  split
  · rename_i e1 e2
    with_reducible refine Same.step (State.freeGrant_same _ _) (by decide) ?_
    exact Same.refl _ _
  · rename_i e3 e4 e5
    extract_lets v6
    split
    rename_i e7 e8 e9 e10
    extract_lets v11 v12 v13 v14
    refine Same.have v11 ?_ fun h15 => ?_
    · with_reducible refine Same.step (State.setStream_same _ _ _) (by decide) ?_
      refine Same.fstOf e10 ?_
      refine Same.iteFst ?_ ?_
      · with_reducible refine Same.step (State.judge_same _ _) (by decide) ?_
        exact Same.refl _ _
      · dsimp only
        exact Same.refl _ _
    clear_value v11
    refine Same.have v12 ?_ fun h16 => ?_
    · with_reducible refine Same.step (State.setEntry_same _ _ _ _) (by decide) ?_
      with_reducible refine Same.step (State.traceStep_same _ _ _ _ _ _ _ _) (by decide) ?_
      with_reducible refine Same.step (State.postStep_same _ _ _ _ _ _ _ _) (by decide) ?_
      exact h15
    clear_value v12
    refine Same.have v13 ?_ fun h17 => ?_
    · refine Same.ite ?_ ?_
      · with_reducible refine Same.step (State.note_same _ _ _ _) (by decide) ?_
        exact h16
      · exact h16
    clear_value v13
    refine Same.have v14 ?_ fun h18 => ?_
    · with_reducible refine Same.step (State.applyWaiting_same _ _) (by decide) ?_
      with_reducible refine Same.step (State.freeGrant_same _ _) (by decide) ?_
      exact h17
    clear_value v14
    refine Same.ite ?_ ?_
    · exact h18
    · refine Same.ite ?_ ?_
      · with_reducible refine Same.step (State.setEntry_same _ _ _ _) (by decide) ?_
        exact h18
      · split
        · rename_i e19 e20
          with_reducible refine Same.step (State.dropNext_same _ _ _) (by decide) ?_
          exact h18
        · rename_i e21 e22 e23
          refine Same.ite ?_ ?_
          · with_reducible refine Same.step (State.dropNext_same _ _ _) (by decide) ?_
            exact h18
          · with_reducible refine Same.step (State.stepStart_same _ _) (by decide) ?_
            exact h18

theorem execEndStep_same (x1 : Fin 8) (x2 : Fin 48) (x3 : State) :
    OutSame [.dict, .lastStatus, .freeCtr, .hostMem, .entries, .cores, .runs, .grants, .orphans, .stores, .migs, .pair, .ports, .streams, .pw, .test] x3 (execEndStep x1 x2 x3) := by
  unfold execEndStep
  refine OutSame.next ?_
  with_reducible refine State.sequence_same (by decide) ?_ ?_
  · exact Same.refl _ _
  · intro y0 y1 y2 y3 y4 h5
    refine Same.ite ?_ ?_
    · extract_lets v6 v7 v8 v9 v10
      refine Same.have v6 ?_ fun h11 => ?_
      · with_reducible refine Same.step (State.capture_same _ _ _ _) (by decide) ?_
        exact h5
      clear_value v6
      refine Same.have v8 ?_ fun h12 => ?_
      · dsimp only [v8]
        split
        · rename_i e13 e14 e15
          with_reducible refine Same.step (State.setStream_same _ _ _) (by decide) ?_
          exact h11
        · rename_i e16 e17
          exact h11
      clear_value v8
      refine Same.have v10 ?_ fun h18 => ?_
      · dsimp only [v10]
        with_reducible refine Same.record rfl ?_ ?_
        · intro p hp; cases p <;> first | exact absurd (by decide) hp | exact rfl
        exact h12
      clear_value v10
      refine Same.ite ?_ ?_
      · with_reducible refine Same.step (State.commit_same _ _) (by decide) ?_
        exact h18
      · exact h18
    · exact h5

end Sys2Proof.Machine
end

