-- ==== Sys2Proof/Laws/FrameUnits.lean ====
section
/-! SUPPORT. Frames of the functions of Machine/Units.lean: one lemma a function, which says what parts of the state it
can change. -/

namespace Sys2Proof.Machine

open Sys2Proof

theorem State.noteOnce_same (x1 : State) (x2 : Orphan) :
    Same [.hub] x1 (State.noteOnce x1 x2) := by
  unfold State.noteOnce
  refine Same.foldl ?_ fun q0 y1 h2 => ?_
  · exact Same.refl _ _
  · with_reducible refine Same.step (State.noteSend_same _ _ _) (by decide) ?_
    exact h2

theorem State.dykeTakes_same (x1 : State) (x2 : Orphan) :
    Same [.guests] x1 (State.dykeTakes x1 x2) := by
  unfold State.dykeTakes
  extract_lets v0 v1
  refine Same.ite ?_ ?_
  · with_reducible refine Same.step (State.setGuest_same _ _ _) (by decide) ?_
    exact Same.refl _ _
  · exact Same.refl _ _

theorem State.startUnit_same {W : List Part} {s0 s : State} {die core u c op : Nat}
    {check : Nat → Grant → CoreRun → QInstr → Chk} {effect : Nat → Grant → QInstr → State → State}
    (hw : ([.dict, .lastStatus, .freeCtr, .hostMem, .entries, .cores, .runs, .grants, .orphans, .stores, .pair, .ports, .streams, .pw, .test].all fun p => W.contains p) = true)
    (h : Same W s0 s) (he : ∀ k g q t, Same W s0 t → Same W s0 (effect k g q t)) :
    Same W s0 (s.startUnit die core u c op check effect) := by
  unfold State.startUnit
  split
  · exact h
  · split
    · exact h
    · extract_lets us
      split
      · split
        · exact h
        · exact Same.step (State.coreFault_same _ _ _ _ _ _ _) hw h
        · exact Same.step (State.completeInstr_same _ _ _ _ _ _) hw h
        · exact he _ _ _ _ (Same.step ((State.setRun_same _ _ _).mono (by decide)) hw h)
      · exact h

theorem State.flagRun_same (x1 : State) (x2 x3 : Nat) :
    Same [.runs] x1 (State.flagRun x1 x2 x3) := by
  unfold State.flagRun
  split
  · rename_i e0 e1 e2
    with_reducible refine Same.step (State.setRun_same _ _ _) (by decide) ?_
    exact Same.refl _ _
  · rename_i e3 e4
    exact Same.refl _ _

theorem State.coreFlags_same (x1 : State) (x2 x3 : Nat) :
    Same [.cores, .runs] x1 (State.coreFlags x1 x2 x3) := by
  unfold State.coreFlags
  split
  · rename_i e0 e1 e2
    with_reducible refine Same.step (State.flagRun_same _ _ _) (by decide) ?_
    exact Same.refl _ _
  · rename_i e3 e4
    with_reducible refine Same.step (State.setCore_same _ _ _) (by decide) ?_
    exact Same.refl _ _

theorem State.setScratch_same (x1 : State) (x2 : Nat) (x3 : Tbl Byte) :
    Same [.cores] x1 (State.setScratch x1 x2 x3) := by
  unfold State.setScratch
  with_reducible refine Same.step (State.setCore_same _ _ _) (by decide) ?_
  exact Same.refl _ _

end Sys2Proof.Machine
end

