-- ==== Sys2Proof/Laws/FrameVector.lean ====
section
/-! SUPPORT. Frames of the functions of Machine/Vector.lean: one lemma a function, which says what parts of the state it
can change. -/

namespace Sys2Proof.Machine

open Sys2Proof

theorem State.vecRows_same (x1 : State) (x2 : Nat) (x3 : Operand) (x4 : Tbl Byte → Nat → Nat → Nat → Flagged Fp) (x5 : optParam (Fmt → Flagged Fp → Flagged Nat)
  finish) :
    Same [.cores, .runs] x1 (State.vecRows x1 x2 x3 x4 x5) := by
  unfold State.vecRows
  extract_lets v0 v1
  split
  rename_i e2 e3 e4 e5
  with_reducible refine Same.step (State.flagRun_same _ _ _) (by decide) ?_
  with_reducible refine Same.step (State.setScratch_same _ _ _) (by decide) ?_
  exact Same.refl _ _

theorem State.binRun_same (x1 : State) (x2 x3 : Nat) (x4 : Operands3) :
    Same [.cores, .runs] x1 (State.binRun x1 x2 x3 x4) := by
  unfold State.binRun
  with_reducible refine Same.step (State.vecRows_same _ _ _ _) (by decide) ?_
  exact Same.refl _ _

theorem State.vecStart_same {W : List Part} {s0 s : State} {die core op : Nat}
    {check : State → Nat → Operands3 → Chk} {run : State → Nat → Operands3 → Nat → State}
    (hw : ([.dict, .lastStatus, .freeCtr, .hostMem, .entries, .cores, .runs, .grants, .orphans, .stores, .pair, .ports, .streams, .pw, .test].all fun p => W.contains p) = true)
    (h : Same W s0 s) (hr : ∀ t k o w, Same W s0 t → Same W s0 (run t k o w)) :
    Same W s0 (s.vecStart die core op check run) :=
  State.startUnit_same hw h fun k _ _ t ht => hr t k _ _ ht

theorem State.vecBin_same (x1 : State) (x2 x3 x4 : Nat) :
    Same [.dict, .lastStatus, .freeCtr, .hostMem, .entries, .cores, .runs, .grants, .orphans, .stores, .pair, .ports, .streams, .pw, .test] x1 (State.vecBin x1 x2 x3 x4) := by
  unfold State.vecBin
  with_reducible refine State.vecStart_same (by decide) ?_ ?_
  · exact Same.refl _ _
  · intro y0 y1 y2 y3 h4
    with_reducible refine Same.step (State.binRun_same _ _ _ _) (by decide) ?_
    exact h4

theorem execAdd_same (x1 : Fin 8) (x2 : Fin 48) (x3 : State) :
    OutSame [.dict, .lastStatus, .freeCtr, .hostMem, .entries, .cores, .runs, .grants, .orphans, .stores, .pair, .ports, .streams, .pw, .test] x3 (execAdd x1 x2 x3) := by
  unfold execAdd
  refine OutSame.next ?_
  with_reducible refine Same.step (State.vecBin_same _ _ _ _) (by decide) ?_
  exact Same.refl _ _

theorem execSub_same (x1 : Fin 8) (x2 : Fin 48) (x3 : State) :
    OutSame [.dict, .lastStatus, .freeCtr, .hostMem, .entries, .cores, .runs, .grants, .orphans, .stores, .pair, .ports, .streams, .pw, .test] x3 (execSub x1 x2 x3) := by
  unfold execSub
  refine OutSame.next ?_
  with_reducible refine Same.step (State.vecBin_same _ _ _ _) (by decide) ?_
  exact Same.refl _ _

theorem execMul_same (x1 : Fin 8) (x2 : Fin 48) (x3 : State) :
    OutSame [.dict, .lastStatus, .freeCtr, .hostMem, .entries, .cores, .runs, .grants, .orphans, .stores, .pair, .ports, .streams, .pw, .test] x3 (execMul x1 x2 x3) := by
  unfold execMul
  refine OutSame.next ?_
  with_reducible refine Same.step (State.vecBin_same _ _ _ _) (by decide) ?_
  exact Same.refl _ _

theorem execFma_same (x1 : Fin 8) (x2 : Fin 48) (x3 : State) :
    OutSame [.dict, .lastStatus, .freeCtr, .hostMem, .entries, .cores, .runs, .grants, .orphans, .stores, .pair, .ports, .streams, .pw, .test] x3 (execFma x1 x2 x3) := by
  unfold execFma
  refine OutSame.next ?_
  with_reducible refine Same.step (State.vecBin_same _ _ _ _) (by decide) ?_
  exact Same.refl _ _

theorem execMax_same (x1 : Fin 8) (x2 : Fin 48) (x3 : State) :
    OutSame [.dict, .lastStatus, .freeCtr, .hostMem, .entries, .cores, .runs, .grants, .orphans, .stores, .pair, .ports, .streams, .pw, .test] x3 (execMax x1 x2 x3) := by
  unfold execMax
  refine OutSame.next ?_
  with_reducible refine Same.step (State.vecBin_same _ _ _ _) (by decide) ?_
  exact Same.refl _ _

theorem execMin_same (x1 : Fin 8) (x2 : Fin 48) (x3 : State) :
    OutSame [.dict, .lastStatus, .freeCtr, .hostMem, .entries, .cores, .runs, .grants, .orphans, .stores, .pair, .ports, .streams, .pw, .test] x3 (execMin x1 x2 x3) := by
  unfold execMin
  refine OutSame.next ?_
  with_reducible refine Same.step (State.vecBin_same _ _ _ _) (by decide) ?_
  exact Same.refl _ _

theorem execAbs_same (x1 : Fin 8) (x2 : Fin 48) (x3 : State) :
    OutSame [.dict, .lastStatus, .freeCtr, .hostMem, .entries, .cores, .runs, .grants, .orphans, .stores, .pair, .ports, .streams, .pw, .test] x3 (execAbs x1 x2 x3) := by
  unfold execAbs
  refine OutSame.next ?_
  with_reducible refine State.vecStart_same (by decide) ?_ ?_
  · exact Same.refl _ _
  · intro y0 y1 y2 y3 h4
    with_reducible refine Same.step (State.vecRows_same _ _ _ _ _) (by decide) ?_
    exact h4

theorem execCvt_same (x1 : Fin 8) (x2 : Fin 48) (x3 : State) :
    OutSame [.dict, .lastStatus, .freeCtr, .hostMem, .entries, .cores, .runs, .grants, .orphans, .stores, .pair, .ports, .streams, .pw, .test] x3 (execCvt x1 x2 x3) := by
  unfold execCvt
  refine OutSame.next ?_
  with_reducible refine State.vecStart_same (by decide) ?_ ?_
  · exact Same.refl _ _
  · intro y0 y1 y2 y3 h4
    with_reducible refine Same.step (State.vecRows_same _ _ _ _ _) (by decide) ?_
    exact h4

theorem execScale2_same (x1 : Fin 8) (x2 : Fin 48) (x3 : State) :
    OutSame [.dict, .lastStatus, .freeCtr, .hostMem, .entries, .cores, .runs, .grants, .orphans, .stores, .pair, .ports, .streams, .pw, .test] x3 (execScale2 x1 x2 x3) := by
  unfold execScale2
  refine OutSame.next ?_
  with_reducible refine State.vecStart_same (by decide) ?_ ?_
  · exact Same.refl _ _
  · intro y0 y1 y2 y3 h4
    with_reducible refine Same.step (State.vecRows_same _ _ _ _ _) (by decide) ?_
    exact h4

theorem execTomx_same (x1 : Fin 8) (x2 : Fin 48) (x3 : State) :
    OutSame [.dict, .lastStatus, .freeCtr, .hostMem, .entries, .cores, .runs, .grants, .orphans, .stores, .pair, .ports, .streams, .pw, .test] x3 (execTomx x1 x2 x3) := by
  unfold execTomx
  refine OutSame.next ?_
  with_reducible refine State.vecStart_same (by decide) ?_ ?_
  · exact Same.refl _ _
  · intro y0 y1 y2 y3 h4
    extract_lets v5
    split
    rename_i e6 e7 e8 e9
    with_reducible refine Same.step (State.flagRun_same _ _ _) (by decide) ?_
    with_reducible refine Same.step (State.setScratch_same _ _ _) (by decide) ?_
    exact h4

theorem execGather_same (x1 : Fin 8) (x2 : Fin 48) (x3 : State) :
    OutSame [.dict, .lastStatus, .freeCtr, .hostMem, .entries, .cores, .runs, .grants, .orphans, .stores, .pair, .ports, .streams, .pw, .test] x3 (execGather x1 x2 x3) := by
  unfold execGather
  refine OutSame.next ?_
  with_reducible refine State.vecStart_same (by decide) ?_ ?_
  · exact Same.refl _ _
  · intro y0 y1 y2 y3 h4
    with_reducible refine Same.step (State.vecRows_same _ _ _ _ _) (by decide) ?_
    exact h4

theorem execRope_same (x1 : Fin 8) (x2 : Fin 48) (x3 : State) :
    OutSame [.dict, .lastStatus, .freeCtr, .hostMem, .entries, .cores, .runs, .grants, .orphans, .stores, .pair, .ports, .streams, .pw, .test] x3 (execRope x1 x2 x3) := by
  unfold execRope
  refine OutSame.next ?_
  with_reducible refine State.vecStart_same (by decide) ?_ ?_
  · exact Same.refl _ _
  · intro y0 y1 y2 y3 h4
    with_reducible refine Same.step (State.vecRows_same _ _ _ _ _) (by decide) ?_
    exact h4

theorem execTreemask_same (x1 : Fin 8) (x2 : Fin 48) (x3 : State) :
    OutSame [.dict, .lastStatus, .freeCtr, .hostMem, .entries, .cores, .runs, .grants, .orphans, .stores, .pair, .ports, .streams, .pw, .test] x3 (execTreemask x1 x2 x3) := by
  unfold execTreemask
  refine OutSame.next ?_
  with_reducible refine State.vecStart_same (by decide) ?_ ?_
  · exact Same.refl _ _
  · intro y0 y1 y2 y3 h4
    extract_lets v5 v6
    with_reducible refine Same.step (State.setScratch_same _ _ _) (by decide) ?_
    exact h4

theorem execVectorCopy_same (x1 : Fin 8) (x2 : Fin 48) (x3 : State) :
    OutSame [.dict, .lastStatus, .freeCtr, .hostMem, .entries, .cores, .runs, .grants, .orphans, .stores, .pair, .ports, .streams, .pw, .test] x3 (execVectorCopy x1 x2 x3) := by
  unfold execVectorCopy
  refine OutSame.next ?_
  with_reducible refine State.vecStart_same (by decide) ?_ ?_
  · exact Same.refl _ _
  · intro y0 y1 y2 y3 h4
    extract_lets v5
    with_reducible refine Same.step (State.setScratch_same _ _ _) (by decide) ?_
    exact h4

end Sys2Proof.Machine
end

