-- ==== Sys2Proof/Laws/FrameTransfers.lean ====
section
/-! SUPPORT. Frames of the functions of Machine/Transfers.lean: one lemma a function, which says what parts of the state it
can change. -/

namespace Sys2Proof.Machine

open Sys2Proof

theorem State.joinArbiters_same (x1 : State) (x2 : Orphan) :
    Same [.dies] x1 (State.joinArbiters x1 x2) := by
  unfold State.joinArbiters
  refine Same.foldl ?_ fun q0 y1 h2 => ?_
  · exact Same.refl _ _
  · extract_lets v3
    refine Same.ite ?_ ?_
    · with_reducible refine Same.step (State.setDie_same _ _ _) (by decide) ?_
      exact h2
    · exact h2

theorem State.access_same (x1 : State) (x2 : Orphan) (x3 : Operand) (x4 x5 : Bool) :
    Same [.dict, .stores, .ledger, .tlb] x1 (State.access x1 x2 x3 x4 x5).1 := by
  unfold State.access
  split
  · rename_i e0 e1
    split
    · rename_i e2 e3 e4 e5
      refine Same.iteFst ?_ ?_
      · dsimp only
        with_reducible refine Same.step (State.bump_same _ _) (by decide) ?_
        refine Same.fstOf e5 ?_
        with_reducible refine Same.step (State.translate_same _ _ _ _ _ _ _) (by decide) ?_
        exact Same.refl _ _
      · dsimp only
        refine Same.fstOf e5 ?_
        with_reducible refine Same.step (State.translate_same _ _ _ _ _ _ _) (by decide) ?_
        exact Same.refl _ _
    · rename_i e6 e7
      with_reducible refine Same.step (State.translate_same _ _ _ _ _ _ _) (by decide) ?_
      exact Same.refl _ _
  · rename_i e8 e9
    with_reducible refine Same.step (State.translate_same _ _ _ _ _ _ _) (by decide) ?_
    exact Same.refl _ _
  · rename_i e10 e11
    refine Same.iteFst ?_ ?_
    · dsimp only
      exact Same.refl _ _
    · dsimp only
      exact Same.refl _ _
  · rename_i e12 e13
    refine Same.iteFst ?_ ?_
    · dsimp only
      exact Same.refl _ _
    · dsimp only
      with_reducible refine Same.step (State.bump_same _ _) (by decide) ?_
      exact Same.refl _ _
  · rename_i e14 e15 e16 e17 e18
    dsimp only
    exact Same.refl _ _

theorem State.dirtyOperand_same (x1 : State) (x2 : Orphan) (x3 : Operand) :
    Same [.stores, .ledger, .tlb] x1 (State.dirtyOperand x1 x2 x3) := by
  unfold State.dirtyOperand
  refine Same.ite ?_ ?_
  · with_reducible refine Same.step (State.dirtyAll_same _ _ _) (by decide) ?_
    exact Same.refl _ _
  · exact Same.refl _ _

theorem State.accessBoth_same (x1 : State) (x2 : Orphan) :
    Same [.dict, .stores, .ledger, .tlb] x1 (State.accessBoth x1 x2).1 := by
  unfold State.accessBoth
  extract_lets v0
  refine Same.iteFst ?_ ?_
  · dsimp only
    exact Same.refl _ _
  · split
    · rename_i e1 e2 e3 e4
      dsimp only
      refine Same.fstOf e4 ?_
      with_reducible refine Same.step (State.access_same _ _ _ _ _) (by decide) ?_
      exact Same.refl _ _
    · rename_i e5 e6 e7 e8
      split
      · rename_i e9 e10 e11 e12
        dsimp only
        refine Same.fstOf e12 ?_
        with_reducible refine Same.step (State.access_same _ _ _ _ _) (by decide) ?_
        refine Same.fstOf e8 ?_
        with_reducible refine Same.step (State.access_same _ _ _ _ _) (by decide) ?_
        exact Same.refl _ _
      · rename_i e13 e14 e15 e16
        dsimp only
        with_reducible refine Same.step (State.dirtyOperand_same _ _ _) (by decide) ?_
        refine Same.fstOf e16 ?_
        with_reducible refine Same.step (State.access_same _ _ _ _ _) (by decide) ?_
        refine Same.fstOf e8 ?_
        with_reducible refine Same.step (State.access_same _ _ _ _ _) (by decide) ?_
        exact Same.refl _ _

theorem State.writeRun_same (x1 : State) (x2 : Orphan) (x3 : Operand) (x4 : List (Nat × Nat)) (x5 : Nat) (x6 : List Byte) :
    Same [.cores, .stores, .migs, .streams] x1 (State.writeRun x1 x2 x3 x4 x5 x6) := by
  unfold State.writeRun
  split
  · rename_i e0 e1
    extract_lets v2
    with_reducible refine Same.step (State.setScratch_same _ _ _) (by decide) ?_
    exact Same.refl _ _
  · rename_i e3 e4
    refine Same.foldl ?_ fun q5 y6 h7 => ?_
    · exact Same.refl _ _
    · split
      · rename_i e8 e9 e10
        with_reducible refine Same.step (State.setScratch_same _ _ _) (by decide) ?_
        exact h7
      · rename_i e11 e12
        exact h7
  · rename_i e13 e14
    refine Same.foldl ?_ fun q15 y16 h17 => ?_
    · exact Same.refl _ _
    · split
      · rename_i e18 e19 e20
        with_reducible refine Same.step (State.setScratch_same _ _ _) (by decide) ?_
        exact h17
      · rename_i e21 e22
        exact h17
  · rename_i e23 e24
    with_reducible refine Same.step (State.virtWrite_same _ _ _ _ _ _) (by decide) ?_
    exact Same.refl _ _
  · rename_i e25 e26
    with_reducible refine Same.step (State.virtWrite_same _ _ _ _ _ _) (by decide) ?_
    exact Same.refl _ _
  · rename_i e27 e28
    extract_lets v29
    with_reducible refine Same.step (State.setStream_same _ _ _) (by decide) ?_
    with_reducible refine Same.step (State.recWrote_same _ _ _ _ _) (by decide) ?_
    exact Same.refl _ _
  · rename_i e30 e31 e32 e33 e34 e35 e36
    exact Same.refl _ _

theorem State.wakeRec_same (x1 : State) (x2 : Orphan) (x3 : Operand) :
    Same [.stores] x1 (State.wakeRec x1 x2 x3) := by
  unfold State.wakeRec
  refine Same.ite ?_ ?_
  · with_reducible refine Same.step (State.touch_same _ _) (by decide) ?_
    exact Same.refl _ _
  · exact Same.refl _ _

theorem State.nextPhase_same (x1 : State) (x2 x3 : Nat) :
    Same [.phases] x1 (State.nextPhase x1 x2 x3) := by
  unfold State.nextPhase
  with_reducible refine Same.record rfl ?_ ?_
  · intro p hp; cases p <;> first | exact absurd (by decide) hp | exact rfl
  exact Same.refl _ _

theorem State.sendReads_same (x1 : State) (x2 : Orphan) :
    Same [.dict, .freeCtr, .requests, .seqs, .xports, .test] x1 (State.sendReads x1 x2).1 := by
  unfold State.sendReads
  extract_lets v0 v1 v2
  refine Same.foldlFst ?_ fun q3 y4 h5 => ?_
  · dsimp only
    exact Same.refl _ _
  · split
    · rename_i e6 e7
      exact h5
    · rename_i e8 e9 e10
      extract_lets v11
      dsimp only
      with_reducible refine Same.step (State.send_same _ _) (by decide) ?_
      exact h5

theorem State.sendWrites_same (x1 : State) (x2 : Orphan) :
    Same [.dict, .freeCtr, .requests, .seqs, .lineCache, .xports, .test] x1 (State.sendWrites x1 x2).1 := by
  unfold State.sendWrites
  extract_lets src fd counts ps skip step
  have h : ∀ (l : List (Nat × (Nat × Nat) × List Byte)) (q : (State × List Nat) × Nat),
      Same [.dict, .freeCtr, .requests, .seqs, .lineCache, .xports, .test] x1 q.1.1 →
      Same [.dict, .freeCtr, .requests, .seqs, .lineCache, .xports, .test] x1 (l.foldl step q).1.1 := by
    intro l
    induction l with
    | nil => exact fun _ h => h
    | cons p r ih =>
      exact fun q h => ih _ (Same.step (State.send_same _ _) (by decide) (Same.step (State.uncache_same _ _ _ _) (by decide) h))
  exact h ps _ (Same.refl _ _)

theorem State.sendAtomic_same (x1 : State) (x2 : Orphan) :
    Same [.dict, .freeCtr, .requests, .seqs, .lineCache, .xports, .test] x1 (State.sendAtomic x1 x2).1 := by
  unfold State.sendAtomic
  extract_lets v0
  split
  · rename_i e1 e2
    dsimp only
    exact Same.refl _ _
  · rename_i e3 e4 e5
    extract_lets v6
    refine Same.have v6 ?_ fun h7 => ?_
    · with_reducible refine Same.step (State.uncache_same _ _ _ _) (by decide) ?_
      exact Same.refl _ _
    clear_value v6
    dsimp only
    with_reducible refine Same.step (State.send_same _ _) (by decide) ?_
    exact h7

theorem State.sendFlag_same (x1 : State) (x2 : Orphan) :
    Same [.dict, .freeCtr, .requests, .seqs, .lineCache, .xports, .hub, .test] x1 (State.sendFlag x1 x2).1 := by
  unfold State.sendFlag
  extract_lets v0 v1 v2 v3
  refine Same.have v3 ?_ fun h4 => ?_
  · with_reducible refine Same.step (State.uncache_same _ _ _ _) (by decide) ?_
    exact Same.refl _ _
  clear_value v3
  dsimp only
  with_reducible refine Same.step (State.noteOnce_same _ _) (by decide) ?_
  with_reducible refine Same.step (State.send_same _ _) (by decide) ?_
  exact h4

theorem State.sendXfer_same (x1 : State) (x2 : Orphan) :
    Same [.dict, .freeCtr, .requests, .seqs, .lineCache, .xports, .test] x1 (State.sendXfer x1 x2).1 := by
  unfold State.sendXfer
  split
  · rename_i e0 e1
    with_reducible refine Same.step (State.sendReads_same _ _) (by decide) ?_
    exact Same.refl _ _
  · rename_i e2 e3
    with_reducible refine Same.step (State.sendAtomic_same _ _) (by decide) ?_
    exact Same.refl _ _
  · rename_i e4 e5
    split
    rename_i e6 e7 e8 e9
    split
    rename_i e10 e11 e12 e13
    dsimp only
    refine Same.fstOf e13 ?_
    with_reducible refine Same.step (State.sendWrites_same _ _) (by decide) ?_
    refine Same.fstOf e9 ?_
    with_reducible refine Same.step (State.sendReads_same _ _) (by decide) ?_
    exact Same.refl _ _
  · rename_i e14 e15 e16 e17
    with_reducible refine Same.step (State.sendWrites_same _ _) (by decide) ?_
    exact Same.refl _ _

theorem State.amend_same (x1 : State) (x2 x3 x4 : Nat) (x5 : QInstr → QInstr) :
    Same [.runs] x1 (State.amend x1 x2 x3 x4 x5) := by
  unfold State.amend
  split
  · rename_i e0 e1 e2
    with_reducible refine Same.step (State.setRun_same _ _ _) (by decide) ?_
    exact Same.refl _ _
  · rename_i e3 e4
    exact Same.refl _ _

theorem State.countHold_same (x1 : State) :
    Same [.dict] x1 (State.countHold x1) := by
  unfold State.countHold
  with_reducible refine Same.step (State.bump_same _ _) (by decide) ?_
  with_reducible refine Same.step (State.bump_same _ _) (by decide) ?_
  exact Same.refl _ _

theorem State.takePhase_same (x1 : State) (x2 : Orphan) :
    Same [.phases] x1 (State.takePhase x1 x2).1 := by
  unfold State.takePhase
  refine Same.iteFst ?_ ?_
  · dsimp only
    with_reducible refine Same.step (State.nextPhase_same _ _ _) (by decide) ?_
    exact Same.refl _ _
  · dsimp only
    exact Same.refl _ _

theorem State.xferGo_same (x1 : State) (x2 : Nat) (x3 : Grant) (x4 : QInstr) (x5 : Nat) :
    Same [.dict, .lastStatus, .freeCtr, .hostMem, .entries, .cores, .runs, .dies, .grants, .orphans, .stores, .ledger, .tlb, .guests, .requests, .seqs, .phases, .lineCache, .xports, .hub, .pair, .ports, .streams, .pw, .test] x1 (State.xferGo x1 x2 x3 x4 x5) := by
  unfold State.xferGo
  extract_lets v0 v1
  split
  · rename_i e2 e3 e4 e5
    with_reducible refine Same.step (State.coreFault_same _ _ _ _ _ _ _ _) (by decide) ?_
    refine Same.fstOf e5 ?_
    with_reducible refine Same.step (State.accessBoth_same _ _) (by decide) ?_
    exact Same.refl _ _
  · rename_i e6 e7 e8 e9 e10
    extract_lets v11 v12
    split
    rename_i e13 e14 e15 e16
    extract_lets v17 v18 v19 v20 v21
    refine Same.have v20 ?_ fun h22 => ?_
    · with_reducible refine Same.step (State.traceOpen_same _ _ _ _ _ _ _) (by decide) ?_
      refine Same.fstOf e16 ?_
      with_reducible refine Same.step (State.takePhase_same _ _) (by decide) ?_
      refine Same.fstOf e10 ?_
      with_reducible refine Same.step (State.accessBoth_same _ _) (by decide) ?_
      exact Same.refl _ _
    clear_value v20
    refine Same.have v21 ?_ fun h23 => ?_
    · refine Same.ite ?_ ?_
      · with_reducible refine Same.step (State.traceOpen_same _ _ _ _ _ _ _) (by decide) ?_
        with_reducible refine Same.step (State.countHold_same _) (by decide) ?_
        exact h22
      · exact h22
    clear_value v21
    split
    rename_i e24 e25 e26 e27
    extract_lets v28 v29 v30 v31
    refine Same.have v28 ?_ fun h32 => ?_
    · refine Same.ite ?_ ?_
      · with_reducible refine Same.step (State.bump_same _ _) (by decide) ?_
        refine Same.fstOf e27 ?_
        refine Same.iteFst ?_ ?_
        · dsimp only
          exact h23
        · with_reducible refine Same.step (State.sendXfer_same _ _) (by decide) ?_
          with_reducible refine Same.step (State.dykeTakes_same _ _) (by decide) ?_
          refine Same.ite ?_ ?_
          · with_reducible refine Same.step (State.noteOnce_same _ _) (by decide) ?_
            exact h23
          · exact h23
      · refine Same.fstOf e27 ?_
        refine Same.iteFst ?_ ?_
        · dsimp only
          exact h23
        · with_reducible refine Same.step (State.sendXfer_same _ _) (by decide) ?_
          with_reducible refine Same.step (State.dykeTakes_same _ _) (by decide) ?_
          refine Same.ite ?_ ?_
          · with_reducible refine Same.step (State.noteOnce_same _ _) (by decide) ?_
            exact h23
          · exact h23
    clear_value v28
    refine Same.have v31.1 ?_ fun h33 => ?_
    · with_reducible refine Same.step (State.sendFlag_same _ _) (by decide) ?_
      exact h32
    clear_value v31
    split
    rename_i e34 e35 e36 e37
    with_reducible refine Same.step (State.joinArbiters_same _ _) (by decide) ?_
    with_reducible refine Same.step (State.amend_same _ _ _ _ _) (by decide) ?_
    refine Same.fstOf e37 ?_
    refine Same.iteFst ?_ ?_
    · dsimp only
      exact h33
    · dsimp only
      exact h32

theorem State.flagsDue_same (x1 : State) (x2 : Nat) :
    Same [.dict, .freeCtr, .runs, .requests, .seqs, .lineCache, .xports, .hub, .test] x1 (State.flagsDue x1 x2) := by
  unfold State.flagsDue
  refine Same.foldl ?_ fun q0 y1 h2 => ?_
  · exact Same.refl _ _
  · split
    · rename_i e3 e4
      exact h2
    · rename_i e5 e6 e7 e8
      split
      · rename_i e9 e10
        exact h2
      · rename_i e11 e12 e13
        extract_lets v14
        refine Same.ite ?_ ?_
        · split
          rename_i e15 e16 e17 e18
          with_reducible refine Same.step (State.amend_same _ _ _ _ _) (by decide) ?_
          refine Same.fstOf e18 ?_
          with_reducible refine Same.step (State.sendFlag_same _ _) (by decide) ?_
          exact h2
        · exact h2

theorem State.holdOne_same (x1 : State) (x2 x3 x4 : Nat) :
    Same [.dict, .freeCtr, .runs, .test] x1 (State.holdOne x1 x2 x3 x4) := by
  unfold State.holdOne
  split
  · rename_i e0 e1
    exact Same.refl _ _
  · rename_i e2 e3 e4 e5
    split
    · rename_i e6 e7
      exact Same.refl _ _
    · rename_i e8 e9 e10
      refine Same.ite ?_ ?_
      · exact Same.refl _ _
      · with_reducible refine Same.step (State.traceOpen_same _ _ _ _ _ _ _) (by decide) ?_
        with_reducible refine Same.step (State.countHold_same _) (by decide) ?_
        with_reducible refine Same.step (State.amend_same _ _ _ _ _) (by decide) ?_
        exact Same.refl _ _

theorem State.resumeOne_same (x1 : State) (x2 x3 x4 : Nat) :
    Same [.dict, .lastStatus, .freeCtr, .hostMem, .entries, .cores, .runs, .grants, .orphans, .stores, .ledger, .tlb, .guests, .requests, .seqs, .lineCache, .xports, .hub, .pair, .ports, .streams, .pw, .test] x1 (State.resumeOne x1 x2 x3 x4) := by
  unfold State.resumeOne
  split
  · rename_i e0 e1
    exact Same.refl _ _
  · rename_i e2 e3 e4 e5
    split
    · rename_i e6 e7
      exact Same.refl _ _
    · rename_i e8 e9 e10
      extract_lets v11 v12
      refine Same.ite ?_ ?_
      · exact Same.refl _ _
      · split
        · rename_i e13 e14 e15 e16
          with_reducible refine Same.step (State.coreFault_same _ _ _ _ _ _ _ _) (by decide) ?_
          refine Same.fstOf e16 ?_
          refine Same.iteFst ?_ ?_
          · with_reducible refine Same.step (State.access_same _ _ _ _ _) (by decide) ?_
            exact Same.refl _ _
          · dsimp only
            exact Same.refl _ _
        · rename_i e17 e18 e19 e20
          refine Same.ite ?_ ?_
          · with_reducible refine Same.step (State.coreFault_same _ _ _ _ _ _ _ _) (by decide) ?_
            refine Same.fstOf e20 ?_
            refine Same.iteFst ?_ ?_
            · with_reducible refine Same.step (State.access_same _ _ _ _ _) (by decide) ?_
              exact Same.refl _ _
            · dsimp only
              exact Same.refl _ _
          · extract_lets v21
            refine Same.have v21 ?_ fun h22 => ?_
            · refine Same.ite ?_ ?_
              · with_reducible refine Same.step (State.noteOnce_same _ _) (by decide) ?_
                refine Same.fstOf e20 ?_
                refine Same.iteFst ?_ ?_
                · with_reducible refine Same.step (State.access_same _ _ _ _ _) (by decide) ?_
                  exact Same.refl _ _
                · dsimp only
                  exact Same.refl _ _
              · refine Same.fstOf e20 ?_
                refine Same.iteFst ?_ ?_
                · with_reducible refine Same.step (State.access_same _ _ _ _ _) (by decide) ?_
                  exact Same.refl _ _
                · dsimp only
                  exact Same.refl _ _
            clear_value v21
            split
            rename_i e23 e24 e25 e26
            with_reducible refine Same.step (State.traceOpen_same _ _ _ _ _ _ _) (by decide) ?_
            with_reducible refine Same.step (State.flagsDue_same _ _) (by decide) ?_
            with_reducible refine Same.step (State.amend_same _ _ _ _ _) (by decide) ?_
            refine Same.fstOf e26 ?_
            refine Same.iteFst ?_ ?_
            · with_reducible refine Same.step (State.sendXfer_same _ _) (by decide) ?_
              with_reducible refine Same.step (State.dykeTakes_same _ _) (by decide) ?_
              exact h22
            · dsimp only
              with_reducible refine Same.step (State.resendAll_same _ _ _) (by decide) ?_
              with_reducible refine Same.step (State.dykeTakes_same _ _) (by decide) ?_
              exact h22

theorem State.holdTransfers_same (x1 : State) :
    Same [.dict, .freeCtr, .runs, .test] x1 (State.holdTransfers x1) := by
  unfold State.holdTransfers
  refine Same.foldl ?_ fun q0 y1 h2 => ?_
  · exact Same.refl _ _
  · with_reducible refine Same.step (State.holdOne_same _ _ _ _) (by decide) ?_
    exact h2

theorem State.resumeTransfers_same (x1 : State) :
    Same [.dict, .lastStatus, .freeCtr, .hostMem, .entries, .cores, .runs, .grants, .orphans, .stores, .ledger, .tlb, .guests, .requests, .seqs, .lineCache, .xports, .hub, .pair, .ports, .streams, .pw, .test] x1 (State.resumeTransfers x1) := by
  unfold State.resumeTransfers
  refine Same.foldl ?_ fun q0 y1 h2 => ?_
  · exact Same.refl _ _
  · with_reducible refine Same.step (State.resumeOne_same _ _ _ _) (by decide) ?_
    exact h2

theorem State.countDelay_same (x1 : State) (x2 x3 x4 : Nat) :
    Same [.dict, .runs] x1 (State.countDelay x1 x2 x3 x4) := by
  unfold State.countDelay
  split
  · rename_i e0 e1
    exact Same.refl _ _
  · rename_i e2 e3 e4 e5 e6
    split
    · rename_i e7 e8
      exact Same.refl _ _
    · rename_i e9 e10 e11 e12
      refine Same.ite ?_ ?_
      · exact Same.refl _ _
      · with_reducible refine Same.step (State.addReg_same _ _ _) (by decide) ?_
        with_reducible refine Same.step (State.setRun_same _ _ _) (by decide) ?_
        exact Same.refl _ _

theorem State.xferStart_same (x1 : State) (x2 x3 x4 x5 : Nat) :
    Same [.dict, .lastStatus, .freeCtr, .hostMem, .entries, .cores, .runs, .dies, .grants, .orphans, .stores, .ledger, .tlb, .guests, .requests, .seqs, .phases, .lineCache, .xports, .hub, .pair, .ports, .streams, .pw, .test] x1 (State.xferStart x1 x2 x3 x4 x5) := by
  unfold State.xferStart
  extract_lets v0 v1
  refine Same.have v1 ?_ fun h2 => ?_
  · with_reducible refine Same.step (State.countDelay_same _ _ _ _) (by decide) ?_
    exact Same.refl _ _
  clear_value v1
  with_reducible refine State.startUnit_same (by decide) ?_ ?_
  · exact h2
  · intro y3 y4 y5 y6 h7
    with_reducible refine Same.step (State.xferGo_same _ _ _ _ _) (by decide) ?_
    exact h7

theorem execGet_same (x1 : Fin 8) (x2 : Fin 48) (x3 : Fin 4) (x4 : List MemError) (x5 : State) :
    OutSame [.dict, .lastStatus, .freeCtr, .hostMem, .entries, .cores, .runs, .dies, .grants, .orphans, .fieldMap, .stores, .ledger, .tlb, .epoch, .heldFrames, .migs, .ledgerCmd, .chans, .staging, .lanes, .guests, .requests, .seqs, .phases, .trackers, .replies, .lastResponse, .lineCache, .xports, .hub, .pair, .ports, .streams, .pw, .test] x5 (execGet x1 x2 x3 x4 x5) := by
  unfold execGet
  refine OutSame.next ?_
  with_reducible refine Same.step (State.memErrors_same _ _) (by decide) ?_
  with_reducible refine Same.step (State.xferStart_same _ _ _ _ _) (by decide) ?_
  exact Same.refl _ _

theorem execPut_same (x1 : Fin 8) (x2 : Fin 48) (x3 : Fin 4) (x4 : List MemError) (x5 : State) :
    OutSame [.dict, .lastStatus, .freeCtr, .hostMem, .entries, .cores, .runs, .dies, .grants, .orphans, .fieldMap, .stores, .ledger, .tlb, .epoch, .heldFrames, .migs, .ledgerCmd, .chans, .staging, .lanes, .guests, .requests, .seqs, .phases, .trackers, .replies, .lastResponse, .lineCache, .xports, .hub, .pair, .ports, .streams, .pw, .test] x5 (execPut x1 x2 x3 x4 x5) := by
  unfold execPut
  refine OutSame.next ?_
  with_reducible refine Same.step (State.memErrors_same _ _) (by decide) ?_
  with_reducible refine Same.step (State.xferStart_same _ _ _ _ _) (by decide) ?_
  exact Same.refl _ _

theorem execPutf_same (x1 : Fin 8) (x2 : Fin 48) (x3 : Fin 4) (x4 : State) :
    OutSame [.dict, .lastStatus, .freeCtr, .hostMem, .entries, .cores, .runs, .dies, .grants, .orphans, .stores, .ledger, .tlb, .guests, .requests, .seqs, .phases, .lineCache, .xports, .hub, .pair, .ports, .streams, .pw, .test] x4 (execPutf x1 x2 x3 x4) := by
  unfold execPutf
  refine OutSame.next ?_
  with_reducible refine Same.step (State.xferStart_same _ _ _ _ _) (by decide) ?_
  exact Same.refl _ _

theorem execMcast_same (x1 : Fin 8) (x2 : Fin 48) (x3 : Fin 4) (x4 : State) :
    OutSame [.dict, .lastStatus, .freeCtr, .hostMem, .entries, .cores, .runs, .dies, .grants, .orphans, .stores, .ledger, .tlb, .guests, .requests, .seqs, .phases, .lineCache, .xports, .hub, .pair, .ports, .streams, .pw, .test] x4 (execMcast x1 x2 x3 x4) := by
  unfold execMcast
  refine OutSame.next ?_
  with_reducible refine Same.step (State.xferStart_same _ _ _ _ _) (by decide) ?_
  exact Same.refl _ _

theorem execAtomic_same (x1 : Fin 8) (x2 : Fin 48) (x3 : Fin 4) (x4 : State) :
    OutSame [.dict, .lastStatus, .freeCtr, .hostMem, .entries, .cores, .runs, .dies, .grants, .orphans, .stores, .ledger, .tlb, .guests, .requests, .seqs, .phases, .lineCache, .xports, .hub, .pair, .ports, .streams, .pw, .test] x4 (execAtomic x1 x2 x3 x4) := by
  unfold execAtomic
  refine OutSame.next ?_
  with_reducible refine Same.step (State.xferStart_same _ _ _ _ _) (by decide) ?_
  exact Same.refl _ _

theorem execCopy_same (x1 : Fin 8) (x2 : Fin 48) (x3 : Fin 4) (x4 : State) :
    OutSame [.dict, .lastStatus, .freeCtr, .hostMem, .entries, .cores, .runs, .dies, .grants, .orphans, .stores, .ledger, .tlb, .guests, .requests, .seqs, .phases, .lineCache, .xports, .hub, .pair, .ports, .streams, .pw, .test] x4 (execCopy x1 x2 x3 x4) := by
  unfold execCopy
  refine OutSame.next ?_
  with_reducible refine Same.step (State.xferStart_same _ _ _ _ _) (by decide) ?_
  exact Same.refl _ _

theorem State.landData_same (x1 : State) (x2 : Orphan) (x3 : List Byte) :
    Same [.dict, .cores, .stores, .migs, .streams] x1 (State.landData x1 x2 x3).after := by
  unfold State.landData
  extract_lets v0 v1 v2
  refine Same.have v2 ?_ fun h3 => ?_
  · with_reducible refine Same.step (State.wakeRec_same _ _ _) (by decide) ?_
    with_reducible refine Same.step (State.wakeRec_same _ _ _) (by decide) ?_
    with_reducible refine Same.step (State.wake_same _ _ _) (by decide) ?_
    with_reducible refine Same.step (State.wake_same _ _ _) (by decide) ?_
    with_reducible refine Same.step (State.countForwarded_same _ _ _) (by decide) ?_
    with_reducible refine Same.step (State.countForwarded_same _ _ _) (by decide) ?_
    exact Same.refl _ _
  clear_value v2
  split
  · rename_i e4 e5 e6
    dsimp only [Landed.after]
    exact Same.refl _ _
  · rename_i e7 e8
    split
    · rename_i e9 e10 e11
      dsimp only [Landed.after]
      exact Same.refl _ _
    · rename_i e12 e13
      split
      rename_i e14 e15 e16 e17
      dsimp only [Landed.after]
      refine Same.foldl ?_ fun q18 y19 h20 => ?_
      · exact h3
      · with_reducible refine Same.step (State.writeRun_same _ _ _ _ _ _) (by decide) ?_
        exact h20

theorem State.keepOwn_same (x1 : State) (x2 : Orphan) (x3 : List Nat) (x4 : Nat) (x5 : List Byte) :
    Same [.replies] x1 (State.keepOwn x1 x2 x3 x4 x5) := by
  unfold State.keepOwn
  refine Same.foldl ?_ fun q0 y1 h2 => ?_
  · exact Same.refl _ _
  · split
    · rename_i e3 e4 e5
      refine Same.ite ?_ ?_
      · with_reducible refine Same.step (State.keepReply_same _ _) (by decide) ?_
        exact h2
      · exact h2
    · rename_i e6 e7
      exact h2

theorem State.landAtomic_same (x1 : State) (x2 : Orphan) :
    Same [.dict, .cores, .stores, .migs, .replies, .streams] x1 (State.landAtomic x1 x2).1.after := by
  unfold State.landAtomic
  extract_lets v0 v1 v2 v3 v4 v5 v6
  split
  · rename_i e7
    dsimp only
    dsimp only [Landed.after]
    with_reducible refine Same.step (State.bump_same _ _) (by decide) ?_
    exact Same.refl _ _
  · rename_i e8
    split
    · rename_i e9 e10 e11
      dsimp only
      dsimp only [Landed.after]
      exact Same.refl _ _
    · rename_i e12 e13
      dsimp only
      dsimp only [Landed.after]
      with_reducible refine Same.step (State.keepOwn_same _ _ _ _ _) (by decide) ?_
      with_reducible refine Same.step (State.writeRun_same _ _ _ _ _ _) (by decide) ?_
      exact Same.refl _ _

theorem State.atomicResult_same (x1 : State) (x2 : Orphan) (x3 x4 : Nat) :
    Same [.cores, .stores, .migs, .streams] x1 (State.atomicResult x1 x2 x3 x4) := by
  unfold State.atomicResult
  extract_lets v0
  with_reducible refine Same.step (State.writeRun_same _ _ _ _ _ _) (by decide) ?_
  exact Same.refl _ _

theorem State.landFlag_same (x1 : State) (x2 : Orphan) :
    Same [.dict, .freeCtr, .cores, .stores, .ledger, .tlb, .migs, .requests, .seqs, .replies, .lineCache, .xports, .hub, .streams, .test] x1 (State.landFlag x1 x2).after := by
  unfold State.landFlag
  extract_lets v0
  split
  · rename_i e1 e2 e3 e4
    dsimp only [Landed.after]
    refine Same.fstOf e4 ?_
    with_reducible refine Same.step (State.access_same _ _ _ _ _) (by decide) ?_
    exact Same.refl _ _
  · rename_i e5 e6 e7 e8
    extract_lets v9
    split
    rename_i e10 e11 e12 e13
    extract_lets v14 v15 v16
    refine Same.have v16 ?_ fun h17 => ?_
    · with_reducible refine Same.step (State.writeRun_same _ _ _ _ _ _) (by decide) ?_
      refine Same.fstOf e13 ?_
      refine Same.iteFst ?_ ?_
      · with_reducible refine Same.step (State.sendFlag_same _ _) (by decide) ?_
        with_reducible refine Same.step (State.dirtyOperand_same _ _ _) (by decide) ?_
        refine Same.fstOf e8 ?_
        with_reducible refine Same.step (State.access_same _ _ _ _ _) (by decide) ?_
        exact Same.refl _ _
      · dsimp only
        with_reducible refine Same.step (State.noteOnce_same _ _) (by decide) ?_
        with_reducible refine Same.step (State.dirtyOperand_same _ _ _) (by decide) ?_
        refine Same.fstOf e8 ?_
        with_reducible refine Same.step (State.access_same _ _ _ _ _) (by decide) ?_
        exact Same.refl _ _
    clear_value v16
    split
    · rename_i e18
      dsimp only [Landed.after]
      dsimp only [v14]
      refine Same.ite ?_ ?_
      · with_reducible refine Same.step (State.dropRequests_same _ _ _) (by decide) ?_
        refine Same.fstOf e13 ?_
        refine Same.iteFst ?_ ?_
        · with_reducible refine Same.step (State.sendFlag_same _ _) (by decide) ?_
          with_reducible refine Same.step (State.dirtyOperand_same _ _ _) (by decide) ?_
          refine Same.fstOf e8 ?_
          with_reducible refine Same.step (State.access_same _ _ _ _ _) (by decide) ?_
          exact Same.refl _ _
        · dsimp only
          with_reducible refine Same.step (State.noteOnce_same _ _) (by decide) ?_
          with_reducible refine Same.step (State.dirtyOperand_same _ _ _) (by decide) ?_
          refine Same.fstOf e8 ?_
          with_reducible refine Same.step (State.access_same _ _ _ _ _) (by decide) ?_
          exact Same.refl _ _
      · refine Same.fstOf e13 ?_
        refine Same.iteFst ?_ ?_
        · with_reducible refine Same.step (State.sendFlag_same _ _) (by decide) ?_
          with_reducible refine Same.step (State.dirtyOperand_same _ _ _) (by decide) ?_
          refine Same.fstOf e8 ?_
          with_reducible refine Same.step (State.access_same _ _ _ _ _) (by decide) ?_
          exact Same.refl _ _
        · dsimp only
          with_reducible refine Same.step (State.noteOnce_same _ _) (by decide) ?_
          with_reducible refine Same.step (State.dirtyOperand_same _ _ _) (by decide) ?_
          refine Same.fstOf e8 ?_
          with_reducible refine Same.step (State.access_same _ _ _ _ _) (by decide) ?_
          exact Same.refl _ _
    · rename_i e19
      split
      · rename_i e20 e21 e22
        dsimp only [Landed.after]
        dsimp only [v14]
        refine Same.ite ?_ ?_
        · with_reducible refine Same.step (State.dropRequests_same _ _ _) (by decide) ?_
          refine Same.fstOf e13 ?_
          refine Same.iteFst ?_ ?_
          · with_reducible refine Same.step (State.sendFlag_same _ _) (by decide) ?_
            with_reducible refine Same.step (State.dirtyOperand_same _ _ _) (by decide) ?_
            refine Same.fstOf e8 ?_
            with_reducible refine Same.step (State.access_same _ _ _ _ _) (by decide) ?_
            exact Same.refl _ _
          · dsimp only
            with_reducible refine Same.step (State.noteOnce_same _ _) (by decide) ?_
            with_reducible refine Same.step (State.dirtyOperand_same _ _ _) (by decide) ?_
            refine Same.fstOf e8 ?_
            with_reducible refine Same.step (State.access_same _ _ _ _ _) (by decide) ?_
            exact Same.refl _ _
        · refine Same.fstOf e13 ?_
          refine Same.iteFst ?_ ?_
          · with_reducible refine Same.step (State.sendFlag_same _ _) (by decide) ?_
            with_reducible refine Same.step (State.dirtyOperand_same _ _ _) (by decide) ?_
            refine Same.fstOf e8 ?_
            with_reducible refine Same.step (State.access_same _ _ _ _ _) (by decide) ?_
            exact Same.refl _ _
          · dsimp only
            with_reducible refine Same.step (State.noteOnce_same _ _) (by decide) ?_
            with_reducible refine Same.step (State.dirtyOperand_same _ _ _) (by decide) ?_
            refine Same.fstOf e8 ?_
            with_reducible refine Same.step (State.access_same _ _ _ _ _) (by decide) ?_
            exact Same.refl _ _
      · rename_i e23 e24
        dsimp only [Landed.after]
        dsimp only [v14]
        refine Same.ite ?_ ?_
        · with_reducible refine Same.step (State.dropRequests_same _ _ _) (by decide) ?_
          with_reducible refine Same.step (State.keepOwn_same _ _ _ _ _) (by decide) ?_
          exact h17
        · with_reducible refine Same.step (State.keepOwn_same _ _ _ _ _) (by decide) ?_
          exact h17

theorem State.landXfer_same (x1 : State) (x2 : Orphan) (x3 : List Byte) :
    Same [.dict, .freeCtr, .cores, .stores, .ledger, .tlb, .migs, .requests, .seqs, .replies, .lineCache, .xports, .hub, .streams, .test] x1 (State.landXfer x1 x2 x3).after := by
  unfold State.landXfer
  split
  · rename_i e0 e1
    split
    · rename_i e2
      extract_lets v3 v4
      clear_value v4
      split
      · rename_i e5 e6 e7
        dsimp only [Landed.after]
        with_reducible refine Same.step (State.atomicResult_same _ _ _ _) (by decide) ?_
        exact Same.refl _ _
      · rename_i e8
        dsimp only [Landed.after]
        exact Same.refl _ _
    · rename_i e9
      split
      · rename_i e10 e11 e12 e13 e14 e15
        dsimp only [Landed.after]
        with_reducible refine Same.step (State.atomicResult_same _ _ _ _) (by decide) ?_
        refine Same.doneFstOf e15 ?_
        with_reducible refine Same.step (State.landAtomic_same _ _) (by decide) ?_
        exact Same.refl _ _
      · rename_i e16 e17 e18 e19 e20 e21 e22 e23
        dsimp only [Landed.after]
        refine Same.failFstOf e23 ?_
        with_reducible refine Same.step (State.landAtomic_same _ _) (by decide) ?_
        exact Same.refl _ _
  · rename_i e24 e25
    extract_lets v26
    split
    · rename_i e27 e28 e29 e30 e31 e32
      dsimp only [Landed.after]
      refine Same.failOf e32 ?_
      split
      · rename_i e33
        dsimp only [Landed.after]
        exact Same.refl _ _
      · rename_i e34
        with_reducible refine Same.step (State.landData_same _ _ _) (by decide) ?_
        exact Same.refl _ _
    · rename_i e35 e36 e37 e38
      split
      · rename_i e39
        split
        · rename_i e40 e41 e42 e43
          dsimp only [Landed.after]
          refine Same.doneOf e43 ?_
          with_reducible refine Same.step (State.landFlag_same _ _) (by decide) ?_
          refine Same.doneOf e38 ?_
          split
          · rename_i e44
            dsimp only [Landed.after]
            exact Same.refl _ _
          · rename_i e45
            with_reducible refine Same.step (State.landData_same _ _ _) (by decide) ?_
            exact Same.refl _ _
        · rename_i e46 e47 e48 e49 e50 e51
          dsimp only [Landed.after]
          refine Same.failOf e51 ?_
          with_reducible refine Same.step (State.landFlag_same _ _) (by decide) ?_
          refine Same.doneOf e38 ?_
          split
          · rename_i e52
            dsimp only [Landed.after]
            exact Same.refl _ _
          · rename_i e53
            with_reducible refine Same.step (State.landData_same _ _ _) (by decide) ?_
            exact Same.refl _ _
      · rename_i e54
        dsimp only [Landed.after]
        refine Same.doneOf e38 ?_
        split
        · rename_i e55
          dsimp only [Landed.after]
          exact Same.refl _ _
        · rename_i e56
          with_reducible refine Same.step (State.landData_same _ _ _) (by decide) ?_
          exact Same.refl _ _

theorem State.xferDone_same (x1 : State) (x2 : Nat) (x3 : Grant) (x4 : CoreRun) (x5 x6 : Nat) (x7 : List Byte) :
    Same [.dict, .lastStatus, .freeCtr, .hostMem, .entries, .cores, .runs, .grants, .orphans, .stores, .ledger, .tlb, .migs, .requests, .seqs, .replies, .lineCache, .xports, .hub, .pair, .ports, .streams, .pw, .test] x1 (State.xferDone x1 x2 x3 x4 x5 x6 x7) := by
  unfold State.xferDone
  split
  · rename_i e0 e1
    exact Same.refl _ _
  · rename_i e2 e3 e4
    extract_lets v5 v6
    refine Same.ite ?_ ?_
    · exact Same.refl _ _
    · split
      · rename_i e7 e8 e9
        with_reducible refine Same.step (State.coreFault_same _ _ _ _ _ _ _ _) (by decide) ?_
        with_reducible refine Same.step (State.dropRequests_same _ _ _) (by decide) ?_
        exact Same.refl _ _
      · rename_i e10 e11
        refine Same.ite ?_ ?_
        · exact Same.refl _ _
        · refine Same.ite ?_ ?_
          · refine Same.ite ?_ ?_
            · with_reducible refine Same.step (State.coreFault_same _ _ _ _ _ _ _ _) (by decide) ?_
              exact Same.refl _ _
            · exact Same.refl _ _
          · split
            · rename_i e12 e13 e14 e15 e16 e17
              with_reducible refine Same.step (State.coreFault_same _ _ _ _ _ _ _ _) (by decide) ?_
              with_reducible refine Same.step (State.flagRun_same _ _ _) (by decide) ?_
              with_reducible refine Same.step (State.dropRequests_same _ _ _) (by decide) ?_
              refine Same.failOf e17 ?_
              split
              · rename_i e18
                dsimp only [Landed.after]
                exact Same.refl _ _
              · rename_i e19
                with_reducible refine Same.step (State.landXfer_same _ _ _) (by decide) ?_
                exact Same.refl _ _
            · rename_i e20 e21 e22 e23
              extract_lets v24 v25
              refine Same.have v24 ?_ fun h26 => ?_
              · with_reducible refine Same.step (State.traceOpen_same _ _ _ _ _ _ _) (by decide) ?_
                refine Same.doneOf e23 ?_
                split
                · rename_i e27
                  dsimp only [Landed.after]
                  exact Same.refl _ _
                · rename_i e28
                  with_reducible refine Same.step (State.landXfer_same _ _ _) (by decide) ?_
                  exact Same.refl _ _
              clear_value v24
              refine Same.have v25 ?_ fun h29 => ?_
              · with_reducible refine Same.step (State.flagRun_same _ _ _) (by decide) ?_
                with_reducible refine Same.step (State.dropRequests_same _ _ _) (by decide) ?_
                exact h26
              clear_value v25
              refine Same.ite ?_ ?_
              · split
                rename_i e30 e31 e32 e33
                split
                · rename_i e34 e35 e36
                  with_reducible refine Same.step (State.setRun_same _ _ _) (by decide) ?_
                  refine Same.fstOf e33 ?_
                  with_reducible refine Same.step (State.sendFlag_same _ _) (by decide) ?_
                  exact h29
                · rename_i e37 e38
                  refine Same.fstOf e33 ?_
                  with_reducible refine Same.step (State.sendFlag_same _ _) (by decide) ?_
                  exact h29
              · split
                · rename_i e39 e40 e41
                  with_reducible refine Same.step (State.completeInstr_same _ _ _ _ _ _) (by decide) ?_
                  exact h29
                · rename_i e42 e43
                  exact h29

theorem execTransferComplete_same (x1 : Fin 8) (x2 : Fin 48) (x3 : Fin 4) (x4 : Nat) (x5 : Landing) (x6 : List Byte) (x7 : State) :
    OutSame [.dict, .lastStatus, .freeCtr, .hostMem, .entries, .cores, .runs, .grants, .orphans, .stores, .ledger, .tlb, .migs, .requests, .seqs, .replies, .lineCache, .xports, .hub, .pair, .ports, .streams, .pw, .test] x7 (execTransferComplete x1 x2 x3 x4 x5 x6 x7) := by
  unfold execTransferComplete
  split
  · rename_i e0
    split
    · rename_i e1 e2
      refine OutSame.next ?_
      exact Same.refl _ _
    · rename_i e3 e4 e5 e6 e7
      refine OutSame.next ?_
      with_reducible refine Same.step (State.xferDone_same _ _ _ _ _ _ _) (by decide) ?_
      exact Same.refl _ _
  · rename_i e8 e9
    split
    · rename_i e10 e11
      refine OutSame.next ?_
      exact Same.refl _ _
    · rename_i e12 e13 e14
      extract_lets v15
      split
      · rename_i e16 e17
        refine OutSame.next ?_
        exact Same.refl _ _
      · rename_i e18 e19 e20
        extract_lets v21 v22
        refine OutSame.have v21 ?_ fun h23 => ?_
        · with_reducible refine Same.step (State.dropRequests_same _ _ _) (by decide) ?_
          with_reducible refine Same.record rfl ?_ ?_
          · intro p hp; cases p <;> first | exact absurd (by decide) hp | exact rfl
          exact Same.refl _ _
        clear_value v21
        refine OutSame.ite ?_ ?_
        · refine OutSame.next ?_
          exact h23
        · split
          · rename_i e24 e25 e26 e27
            refine OutSame.next ?_
            with_reducible refine Same.step (State.coreFlags_same _ _ _) (by decide) ?_
            with_reducible refine Same.step (State.dropRequests_same _ _ _) (by decide) ?_
            with_reducible refine Same.record rfl ?_ ?_
            · intro p hp; cases p <;> first | exact absurd (by decide) hp | exact rfl
            refine Same.doneOf e27 ?_
            with_reducible refine Same.step (State.landXfer_same _ _ _) (by decide) ?_
            exact Same.refl _ _
          · rename_i e28 e29 e30 e31 e32 e33
            refine OutSame.next ?_
            with_reducible refine Same.step (State.coreFlags_same _ _ _) (by decide) ?_
            exact h23

theorem execArbiterWeightUpdate_same (x1 : Fin 8) (x2 : State) :
    OutSame [.dies] x2 (execArbiterWeightUpdate x1 x2) := by
  unfold execArbiterWeightUpdate
  refine OutSame.next ?_
  with_reducible refine Same.step (State.setDie_same _ _ _) (by decide) ?_
  exact Same.refl _ _

theorem execDiePortWeightReport_same (x1 : Fin 8) (x2 : State) :
    OutSame [.dies] x2 (execDiePortWeightReport x1 x2) := by
  unfold execDiePortWeightReport
  refine OutSame.next ?_
  with_reducible refine Same.step (State.setDie_same _ _ _) (by decide) ?_
  exact Same.refl _ _

end Sys2Proof.Machine
end

