-- ==== Sys2Proof/Laws/FrameLanes.lean ====
section
/-! SUPPORT. Frames of the functions of Machine/Lanes.lean: one lemma a function, which says what parts of the state it
can change. -/

namespace Sys2Proof.Machine

open Sys2Proof

theorem State.relockRing_same (x1 : State) (x2 : Nat) :
    Same [.dict, .rings] x1 (State.relockRing x1 x2) := by
  unfold State.relockRing
  with_reducible refine Same.step (State.bump_same _ _) (by decide) ?_
  with_reducible refine Same.step (State.setMring_same _ _ _) (by decide) ?_
  exact Same.refl _ _

theorem State.siteRingMap_same (x1 : State) (x2 : Nat) (x3 : MicroRing → MicroRing) :
    Same [.rings] x1 (State.siteRingMap x1 x2 x3) := by
  unfold State.siteRingMap
  refine Same.foldl ?_ fun q0 y1 h2 => ?_
  · exact Same.refl _ _
  · with_reducible refine Same.step (State.setMring_same _ _ _) (by decide) ?_
    exact h2

theorem State.endTx_same (x1 : State) (x2 x3 : Nat) :
    Same [.lanes] x1 (State.endTx x1 x2 x3) := by
  unfold State.endTx
  extract_lets v0 v1
  refine Same.have v1 ?_ fun h2 => ?_
  · refine Same.ite ?_ ?_
    · with_reducible refine Same.step (State.setLane_same _ _ _ _) (by decide) ?_
      exact Same.refl _ _
    · exact Same.refl _ _
  clear_value v1
  refine Same.foldl ?_ fun q3 y4 h5 => ?_
  · exact h2
  · with_reducible refine Same.step (State.setLane_same _ _ _ _) (by decide) ?_
    exact h5

theorem State.dropOffer_same (x1 : State) (x2 x3 x4 : Nat) :
    Same [.lanes] x1 (State.dropOffer x1 x2 x3 x4) := by
  unfold State.dropOffer
  extract_lets v0 v1 v2
  refine Same.have v1 ?_ fun h3 => ?_
  · with_reducible refine Same.step (State.setLane_same _ _ _ _) (by decide) ?_
    exact Same.refl _ _
  clear_value v1
  with_reducible refine Same.step (State.setLane_same _ _ _ _) (by decide) ?_
  exact h3

theorem State.voidLease_same (x1 : State) (x2 x3 x4 : Nat) :
    Same [.lanes] x1 (State.voidLease x1 x2 x3 x4) := by
  unfold State.voidLease
  extract_lets v0 v1
  refine Same.have v1 ?_ fun h2 => ?_
  · with_reducible refine Same.step (State.dropOffer_same _ _ _ _) (by decide) ?_
    exact Same.refl _ _
  clear_value v1
  refine Same.ite ?_ ?_
  · with_reducible refine Same.step (State.endTx_same _ _ _) (by decide) ?_
    exact h2
  · exact h2

theorem State.markStanding_same (x1 : State) (x2 x3 x4 : Nat) (x5 : LaneSt) :
    Same [.lanes] x1 (State.markStanding x1 x2 x3 x4 x5) := by
  unfold State.markStanding
  refine Same.ite ?_ ?_
  · extract_lets v0 v1 v2
    refine Same.have v1 ?_ fun h3 => ?_
    · with_reducible refine Same.step (State.setLane_same _ _ _ _) (by decide) ?_
      exact Same.refl _ _
    clear_value v1
    with_reducible refine Same.step (State.setLane_same _ _ _ _) (by decide) ?_
    exact h3
  · exact Same.refl _ _

theorem State.countRetrain_same (x1 : State) (x2 x3 x4 : Nat) :
    Same [.dict, .lanes] x1 (State.countRetrain x1 x2 x3 x4) := by
  unfold State.countRetrain
  extract_lets v0 v1 v2 v3
  refine Same.have v0 ?_ fun h4 => ?_
  · with_reducible refine Same.step (State.bump_same _ _) (by decide) ?_
    exact Same.refl _ _
  clear_value v0
  refine Same.have v2 ?_ fun h5 => ?_
  · with_reducible refine Same.step (State.setLane_same _ _ _ _) (by decide) ?_
    exact h4
  clear_value v2
  with_reducible refine Same.step (State.setLane_same _ _ _ _) (by decide) ?_
  exact h5

theorem State.pathOut_same (x1 : State) (x2 x3 x4 : Nat) :
    Same [.dict, .lanes, .paths] x1 (State.pathOut x1 x2 x3 x4) := by
  unfold State.pathOut
  extract_lets v0 v1
  refine Same.have v1 ?_ fun h2 => ?_
  · with_reducible refine Same.step (State.setPath_same _ _ _ _ _) (by decide) ?_
    exact Same.refl _ _
  clear_value v1
  refine Same.ite ?_ ?_
  · exact Same.refl _ _
  · with_reducible refine Same.step (State.countRetrain_same _ _ _ _) (by decide) ?_
    with_reducible refine Same.step (State.markStanding_same _ _ _ _ _) (by decide) ?_
    with_reducible refine Same.step (State.voidLease_same _ _ _ _) (by decide) ?_
    exact h2

theorem State.trainFail_same (x1 : State) (x2 x3 x4 : Nat) :
    Same [.dict, .fieldMap, .lanes, .paths] x1 (State.trainFail x1 x2 x3 x4) := by
  unfold State.trainFail
  extract_lets v0 v1
  refine Same.ite ?_ ?_
  · with_reducible refine Same.step (State.markStanding_same _ _ _ _ _) (by decide) ?_
    with_reducible refine Same.step (State.mapRecord_same _ _) (by decide) ?_
    with_reducible refine Same.step (State.bump_same _ _) (by decide) ?_
    with_reducible refine Same.step (State.setPath_same _ _ _ _ _) (by decide) ?_
    exact Same.refl _ _
  · with_reducible refine Same.step (State.countRetrain_same _ _ _ _) (by decide) ?_
    with_reducible refine Same.step (State.setPath_same _ _ _ _ _) (by decide) ?_
    exact Same.refl _ _

theorem State.laneReturn_same (x1 : State) (x2 x3 : Nat) :
    Same [.dict, .lanes] x1 (State.laneReturn x1 x2 x3) := by
  unfold State.laneReturn
  extract_lets v0 v1 v2
  refine Same.have v1 ?_ fun h3 => ?_
  · with_reducible refine Same.step (State.bump_same _ _) (by decide) ?_
    with_reducible refine Same.step (State.setLane_same _ _ _ _) (by decide) ?_
    exact Same.refl _ _
  clear_value v1
  refine Same.ite ?_ ?_
  · refine Same.ite ?_ ?_
    · refine Same.ite ?_ ?_
      · with_reducible refine Same.step (State.bump_same _ _) (by decide) ?_
        exact h3
      · exact h3
    · exact Same.refl _ _
  · refine Same.ite ?_ ?_
    · with_reducible refine Same.step (State.setLane_same _ _ _ _) (by decide) ?_
      exact Same.refl _ _
    · exact Same.refl _ _

theorem State.trainPass_same (x1 : State) (x2 x3 x4 : Nat) :
    Same [.dict, .fieldMap, .lanes, .paths] x1 (State.trainPass x1 x2 x3 x4) := by
  unfold State.trainPass
  extract_lets v0 v1 v2 v3
  refine Same.have v0 ?_ fun h4 => ?_
  · dsimp only [v0]
    with_reducible refine Same.record rfl ?_ ?_
    · intro p hp; cases p <;> first | exact absurd (by decide) hp | exact rfl
    exact Same.refl _ _
  clear_value v0
  refine Same.have v2 ?_ fun h5 => ?_
  · with_reducible refine Same.step (State.setPath_same _ _ _ _ _) (by decide) ?_
    exact h4
  clear_value v2
  refine Same.have v3 ?_ fun h6 => ?_
  · refine Same.ite ?_ ?_
    · with_reducible refine Same.step (State.setLane_same _ _ _ _) (by decide) ?_
      exact h5
    · exact h5
  clear_value v3
  with_reducible refine Same.step (State.laneReturn_same _ _ _) (by decide) ?_
  exact h6

theorem State.relockLane_same (x1 : State) (x2 x3 x4 : Nat) :
    Same [.dict, .rings, .lanes, .paths] x1 (State.relockLane x1 x2 x3 x4) := by
  unfold State.relockLane
  extract_lets v0 v1 v2
  refine Same.have v0 ?_ fun h3 => ?_
  · with_reducible refine Same.step (State.relockRing_same _ _) (by decide) ?_
    with_reducible refine Same.step (State.endTx_same _ _ _) (by decide) ?_
    exact Same.refl _ _
  clear_value v0
  refine Same.have v1 ?_ fun h4 => ?_
  · refine Same.foldl ?_ fun q5 y6 h7 => ?_
    · exact h3
    · with_reducible refine Same.step (State.pathOut_same _ _ _ _) (by decide) ?_
      exact h7
  clear_value v1
  with_reducible refine Same.step (State.setLane_same _ _ _ _) (by decide) ?_
  exact h4

theorem State.ringLost_same (x1 : State) (x2 : Nat) :
    Same [.dict, .rings, .lanes, .paths] x1 (State.ringLost x1 x2) := by
  unfold State.ringLost
  extract_lets v0
  refine Same.have v0 ?_ fun h1 => ?_
  · with_reducible refine Same.step (State.relockRing_same _ _) (by decide) ?_
    exact Same.refl _ _
  clear_value v0
  refine Same.foldl ?_ fun q2 y3 h4 => ?_
  · exact h1
  · with_reducible refine Same.step (State.pathOut_same _ _ _ _) (by decide) ?_
    exact h4

theorem State.setThermal_same (x1 : State) (x2 : Nat) (x3 : Thermal) :
    Same [.thermals] x1 (State.setThermal x1 x2 x3) := by
  unfold State.setThermal
  with_reducible refine Same.record rfl ?_ ?_
  · intro p hp; cases p <;> first | exact absurd (by decide) hp | exact rfl
  exact Same.refl _ _

theorem State.dropFresh_same (x1 : State) :
    Same [.sec] x1 (State.dropFresh x1) := by
  unfold State.dropFresh
  extract_lets v0 v1
  split
  · rename_i e2 e3
    exact Same.refl _ _
  · rename_i e4 e5 e6
    refine Same.ite ?_ ?_
    · with_reducible refine Same.record rfl ?_ ?_
      · intro p hp; cases p <;> first | exact absurd (by decide) hp | exact rfl
      exact Same.refl _ _
    · exact Same.refl _ _

theorem State.reportSite_same (x1 : State) (x2 : Nat) :
    Same [.dict] x1 (State.reportSite x1 x2) := by
  unfold State.reportSite
  extract_lets v0
  with_reducible refine Same.step (State.setReg_same _ _ _) (by decide) ?_
  exact Same.refl _ _

end Sys2Proof.Machine
end

