-- ==== Sys2Proof/Laws/FrameOutput.lean ====
section
/-! SUPPORT. Frames of the functions of Machine/Output.lean: one lemma a function, which says what parts of the state it
can change. -/

namespace Sys2Proof.Machine

open Sys2Proof

theorem State.formOut_same (x1 : State) (x2 x3 x4 : Nat) :
    Same [.dict, .freeCtr, .stores, .ports, .streams, .test] x1 (State.formOut x1 x2 x3 x4).1 := by
  unfold State.formOut
  split
  rename_i e0 e1 e2 e3
  extract_lets v4
  refine Same.have v4 ?_ fun h5 => ?_
  · with_reducible refine Same.step (State.setStream_same _ _ _) (by decide) ?_
    with_reducible refine Same.step (State.touch_same _ _) (by decide) ?_
    exact Same.refl _ _
  clear_value v4
  dsimp only
  refine Same.ite ?_ ?_
  · with_reducible refine Same.step (State.event_same _ _ _ _) (by decide) ?_
    exact h5
  · exact h5

theorem State.postOut_same (x1 : State) (x2 : OutRec) (x3 : Nat) (x4 : Bool) :
    Same [.dict, .freeCtr, .ports, .test] x1 (State.postOut x1 x2 x3 x4) := by
  unfold State.postOut
  extract_lets v0
  refine Same.ite ?_ ?_
  · exact Same.refl _ _
  · refine Same.ite ?_ ?_
    · with_reducible refine Same.step (State.bump_same _ _) (by decide) ?_
      exact Same.refl _ _
    · split
      rename_i e1 e2 e3 e4
      split
      rename_i e5 e6 e7 e8
      extract_lets w9
      refine Same.have w9 ?_ fun h9 => ?_
      · with_reducible refine Same.step (State.bump_same _ _) (by decide) ?_
        with_reducible refine Same.step (State.setPort_same _ _ _) (by decide) ?_
        exact Same.refl _ _
      clear_value w9
      refine Same.ite ?_ ?_
      · with_reducible refine Same.step (State.traceOpen_same _ _ _ _ _ _ _) (by decide) ?_
        exact h9
      · exact h9

theorem State.releaseHeld_same (x1 : State) :
    Same [.dict, .freeCtr, .pair, .ports, .test] x1 (State.releaseHeld x1) := by
  unfold State.releaseHeld
  refine Same.ite ?_ ?_
  · extract_lets v0 v1
    refine Same.have v1 ?_ fun h2 => ?_
    · dsimp only [v1]
      with_reducible refine Same.record rfl ?_ ?_
      · intro p hp; cases p <;> first | exact absurd (by decide) hp | exact rfl
      exact Same.refl _ _
    clear_value v1
    refine Same.foldl ?_ fun q3 y4 h5 => ?_
    · exact h2
    · with_reducible refine Same.step (State.postOut_same _ _ _ _) (by decide) ?_
      exact h5
  · exact Same.refl _ _

end Sys2Proof.Machine
end

