-- ==== Sys2Proof/Laws/FrameGround.lean ====
section
/-! SUPPORT. Frames of the functions of Machine/Ground.lean: one lemma a function, which says what parts of the state it
can change. -/

namespace Sys2Proof.Machine

open Sys2Proof

theorem State.setArbiter_same (x1 : State) (x2 : Nat) (x3 : Arbiter) :
    Same [.arbiters] x1 (State.setArbiter x1 x2 x3) := by
  unfold State.setArbiter
  with_reducible refine Same.record rfl ?_ ?_
  · intro p hp; cases p <;> first | exact absurd (by decide) hp | exact rfl
  exact Same.refl _ _

theorem State.grantLane_same (x1 : State) (x2 x3 : Nat) (x4 : LeaseReq) :
    Same [.lanes] x1 (State.grantLane x1 x2 x3 x4) := by
  unfold State.grantLane
  extract_lets v0 v1 v2
  refine Same.have v1 ?_ fun h3 => ?_
  · with_reducible refine Same.step (State.setLane_same _ _ _ _) (by decide) ?_
    exact Same.refl _ _
  clear_value v1
  with_reducible refine Same.step (State.setLane_same _ _ _ _) (by decide) ?_
  exact h3

theorem State.grantMany_same (x1 : State) (x2 x3 : Nat) (x4 : LeaseReq) :
    Same [.lanes] x1 (State.grantMany x1 x2 x3 x4) := by
  unfold State.grantMany
  extract_lets v0
  refine Same.foldl ?_ fun q1 y2 h3 => ?_
  · exact Same.refl _ _
  · refine Same.ite ?_ ?_
    · exact h3
    · with_reducible refine Same.step (State.grantLane_same _ _ _ _) (by decide) ?_
      exact h3

theorem State.revokeExcess_same (x1 : State) (x2 : Nat) (x3 : List LeaseReq) :
    Same [.lanes] x1 (State.revokeExcess x1 x2 x3) := by
  unfold State.revokeExcess
  extract_lets v0 v1 v2 v3 v4 v5
  refine Same.ite ?_ ?_
  · exact Same.refl _ _
  · refine Same.foldl ?_ fun q6 y7 h8 => ?_
    · exact Same.refl _ _
    · with_reducible refine Same.step (State.setLane_same _ _ _ _) (by decide) ?_
      exact h8

theorem State.arbitrate_same (x1 : State) (x2 : Nat) :
    Same [.lanes, .arbiters] x1 (State.arbitrate x1 x2) := by
  unfold State.arbitrate
  extract_lets v0 v1 v2 v3 v4 v5 v6
  refine Same.have v6 ?_ fun h7 => ?_
  · with_reducible refine Same.step (State.setArbiter_same _ _ _) (by decide) ?_
    exact Same.refl _ _
  clear_value v6
  refine Same.ite ?_ ?_
  · exact h7
  · with_reducible refine Same.step (State.revokeExcess_same _ _ _) (by decide) ?_
    refine Same.foldl ?_ fun q8 y9 h10 => ?_
    · exact h7
    · extract_lets v11 v12 v13 v14
      refine Same.have v13 ?_ fun h15 => ?_
      · with_reducible refine Same.step (State.grantMany_same _ _ _ _) (by decide) ?_
        exact h10
      clear_value v13
      with_reducible refine Same.step (State.setArbiter_same _ _ _) (by decide) ?_
      exact h15

theorem State.substitute_same (x1 : State) (x2 x3 : Nat) :
    Same [.lanes, .arbiters] x1 (State.substitute x1 x2 x3) := by
  unfold State.substitute
  extract_lets v0 v1 v2
  refine Same.ite ?_ ?_
  · with_reducible refine Same.step (State.setArbiter_same _ _ _) (by decide) ?_
    exact Same.refl _ _
  · refine Same.ite ?_ ?_
    · exact Same.refl _ _
    · split
      · rename_i e3 e4 e5
        with_reducible refine Same.step (State.grantLane_same _ _ _ _) (by decide) ?_
        with_reducible refine Same.step (State.setArbiter_same _ _ _) (by decide) ?_
        exact Same.refl _ _
      · rename_i e6 e7
        with_reducible refine Same.step (State.setArbiter_same _ _ _) (by decide) ?_
        exact Same.refl _ _

theorem State.sendIdent_same (x1 : State) (x2 x3 x4 x5 x6 x7 : Nat) :
    Same [.lanes] x1 (State.sendIdent x1 x2 x3 x4 x5 x6 x7) := by
  unfold State.sendIdent
  extract_lets v0
  with_reducible refine Same.step (State.setLane_same _ _ _ _) (by decide) ?_
  exact Same.refl _ _

theorem State.idleIdent_same (x1 : State) (x2 x3 : Nat) :
    Same [.lanes] x1 (State.idleIdent x1 x2 x3) := by
  unfold State.idleIdent
  extract_lets v0
  refine Same.ite ?_ ?_
  · refine Same.ite ?_ ?_
    · with_reducible refine Same.step (State.sendIdent_same _ _ _ _ _ _ _) (by decide) ?_
      exact Same.refl _ _
    · with_reducible refine Same.step (State.setLane_same _ _ _ _) (by decide) ?_
      exact Same.refl _ _
  · exact Same.refl _ _

theorem State.portIdents_same (x1 : State) (x2 : Nat) :
    Same [.xports] x1 (State.portIdents x1 x2) := by
  unfold State.portIdents
  refine Same.ite ?_ ?_
  · exact Same.refl _ _
  · refine Same.foldl ?_ fun q0 y1 h2 => ?_
    · exact Same.refl _ _
    · extract_lets v3 v4
      refine Same.ite ?_ ?_
      · exact h2
      · refine Same.ite ?_ ?_
        · with_reducible refine Same.record rfl ?_ ?_
          · intro p hp; cases p <;> first | exact absurd (by decide) hp | exact rfl
          exact h2
        · with_reducible refine Same.record rfl ?_ ?_
          · intro p hp; cases p <;> first | exact absurd (by decide) hp | exact rfl
          exact h2

theorem State.turnLane_same (x1 : State) (x2 x3 : Nat) :
    Same [.dict, .freeCtr, .lanes, .test] x1 (State.turnLane x1 x2 x3) := by
  unfold State.turnLane
  extract_lets v0 v1 v2 v3 v4 v5 v6
  refine Same.have v0 ?_ fun h7 => ?_
  · with_reducible refine Same.step (State.endTx_same _ _ _) (by decide) ?_
    exact Same.refl _ _
  clear_value v0
  refine Same.have v3 ?_ fun h8 => ?_
  · dsimp only [v3]
    split
    · rename_i e9 e10 e11
      refine Same.ite ?_ ?_
      · with_reducible refine Same.step (State.setLane_same _ _ _ _) (by decide) ?_
        exact h7
      · with_reducible refine Same.step (State.setLane_same _ _ _ _) (by decide) ?_
        exact Same.refl _ _
    · rename_i e12 e13
      exact Same.refl _ _
  clear_value v3
  refine Same.have v5 ?_ fun h14 => ?_
  · with_reducible refine Same.step (State.setLane_same _ _ _ _) (by decide) ?_
    exact h8
  clear_value v5
  split
  · rename_i e15 e16 e17
    extract_lets v18 v19 v20
    refine Same.have v19 ?_ fun h21 => ?_
    · with_reducible refine Same.step (State.setLane_same _ _ _ _) (by decide) ?_
      exact h14
    clear_value v19
    refine Same.have v20 ?_ fun h22 => ?_
    · refine Same.foldl ?_ fun q23 y24 h25 => ?_
      · exact h21
      · with_reducible refine Same.step (State.setLane_same _ _ _ _) (by decide) ?_
        exact h25
    clear_value v20
    refine Same.ite ?_ ?_
    · with_reducible refine Same.step (State.traceOpen_same _ _ _ _ _ _ _) (by decide) ?_
      with_reducible refine Same.step (State.sendIdent_same _ _ _ _ _ _ _) (by decide) ?_
      exact h22
    · exact h14
  · rename_i e26 e27
    exact h8

theorem State.clearGrant_same (x1 : State) (x2 x3 : Nat) :
    Same [.lanes] x1 (State.clearGrant x1 x2 x3) := by
  unfold State.clearGrant
  extract_lets v0
  refine Same.ite ?_ ?_
  · with_reducible refine Same.step (State.setLane_same _ _ _ _) (by decide) ?_
    exact Same.refl _ _
  · exact Same.refl _ _

theorem State.calBegin_same (x1 : State) (x2 x3 : Nat) :
    Same [.lanes] x1 (State.calBegin x1 x2 x3) := by
  unfold State.calBegin
  extract_lets v0 v1 v2
  refine Same.have v1 ?_ fun h3 => ?_
  · refine Same.ite ?_ ?_
    · with_reducible refine Same.step (State.markStanding_same _ _ _ _ _) (by decide) ?_
      exact Same.refl _ _
    · exact Same.refl _ _
  clear_value v1
  refine Same.ite ?_ ?_
  · with_reducible refine Same.step (State.setLane_same _ _ _ _) (by decide) ?_
    exact h3
  · exact Same.refl _ _

theorem State.applyTrims_same (x1 : State) (x2 x3 : Nat) :
    Same [.rings, .lanes] x1 (State.applyTrims x1 x2 x3) := by
  unfold State.applyTrims
  refine Same.ite ?_ ?_
  · extract_lets v0 v1 v2 v3
    refine Same.have v0 ?_ fun h4 => ?_
    · refine Same.foldl ?_ fun q5 y6 h7 => ?_
      · exact Same.refl _ _
      · split
        · rename_i e8 e9 e10
          with_reducible refine Same.step (State.setMring_same _ _ _) (by decide) ?_
          exact h7
        · rename_i e11 e12
          exact h7
    clear_value v0
    refine Same.have v2 ?_ fun h13 => ?_
    · with_reducible refine Same.step (State.setLane_same _ _ _ _) (by decide) ?_
      exact h4
    clear_value v2
    refine Same.have v3 ?_ fun h14 => ?_
    · with_reducible refine Same.step (State.setLane_same _ _ _ _) (by decide) ?_
      exact h13
    clear_value v3
    split
    · rename_i e15 e16 e17
      refine Same.ite ?_ ?_
      · with_reducible refine Same.step (State.markStanding_same _ _ _ _ _) (by decide) ?_
        exact h14
      · exact h14
    · rename_i e18 e19
      exact h14
  · exact Same.refl _ _

theorem State.calEnd_same (x1 : State) (x2 x3 : Nat) :
    Same [.dict, .calCmd] x1 (State.calEnd x1 x2 x3) := by
  unfold State.calEnd
  refine Same.ite ?_ ?_
  · extract_lets v0
    refine Same.have v0 ?_ fun h1 => ?_
    · dsimp only [v0]
      with_reducible refine Same.record rfl ?_ ?_
      · intro p hp; cases p <;> first | exact absurd (by decide) hp | exact rfl
      exact Same.refl _ _
    clear_value v0
    refine Same.ite ?_ ?_
    · with_reducible refine Same.step (State.setReg_same _ _ _) (by decide) ?_
      exact h1
    · exact h1
  · exact Same.refl _ _

theorem State.calDrop_same (x1 : State) (x2 : Nat) :
    Same [.dict, .freeCtr, .calCmd, .regions] x1 (State.calDrop x1 x2) := by
  unfold State.calDrop
  extract_lets v0 v1
  refine Same.have v1 ?_ fun h2 => ?_
  · with_reducible refine Same.step (State.setRegion_same _ _ _) (by decide) ?_
    exact Same.refl _ _
  clear_value v1
  refine Same.ite ?_ ?_
  · with_reducible refine Same.step (State.tickFree_same _) (by decide) ?_
    with_reducible refine Same.step (State.calEnd_same _ _ _) (by decide) ?_
    exact h2
  · exact h2

theorem State.calSettled_same (x1 : State) (x2 : Nat) :
    Same [.dict, .calCmd, .regions] x1 (State.calSettled x1 x2) := by
  unfold State.calSettled
  extract_lets v0 v1 v2
  refine Same.have v2 ?_ fun h3 => ?_
  · with_reducible refine Same.step (State.setRegion_same _ _ _) (by decide) ?_
    exact Same.refl _ _
  clear_value v2
  refine Same.ite ?_ ?_
  · with_reducible refine Same.step (State.calEnd_same _ _ _) (by decide) ?_
    exact h3
  · exact Same.refl _ _

theorem State.applyAllTrims_same (x1 : State) :
    Same [.dict, .calCmd, .regions, .rings, .lanes] x1 (State.applyAllTrims x1) := by
  unfold State.applyAllTrims
  refine Same.foldl ?_ fun q0 y1 h2 => ?_
  · refine Same.foldl ?_ fun q3 y4 h5 => ?_
    · exact Same.refl _ _
    · with_reducible refine Same.step (State.applyTrims_same _ _ _) (by decide) ?_
      exact h5
  · with_reducible refine Same.step (State.calSettled_same _ _) (by decide) ?_
    exact h2

theorem State.leasePeriod_same (x1 : State) :
    Same [.dict, .freeCtr, .calCmd, .regions, .rings, .lanes, .arbiters, .test] x1 (State.leasePeriod x1) := by
  unfold State.leasePeriod
  extract_lets v0 v1 v2 v3 v4
  refine Same.have v0 ?_ fun h5 => ?_
  · refine Same.foldl ?_ fun q6 y7 h8 => ?_
    · exact Same.refl _ _
    · with_reducible refine Same.step (State.turnLane_same _ _ _) (by decide) ?_
      with_reducible refine Same.step (State.idleIdent_same _ _ _) (by decide) ?_
      exact h8
  clear_value v0
  refine Same.have v1 ?_ fun h9 => ?_
  · refine Same.foldl ?_ fun q10 y11 h12 => ?_
    · exact h5
    · with_reducible refine Same.step (State.clearGrant_same _ _ _) (by decide) ?_
      exact h12
  clear_value v1
  refine Same.have v2 ?_ fun h13 => ?_
  · refine Same.ite ?_ ?_
    · with_reducible refine Same.step (State.applyAllTrims_same _) (by decide) ?_
      exact h9
    · exact h9
  clear_value v2
  refine Same.have v3 ?_ fun h14 => ?_
  · refine Same.foldl ?_ fun q15 y16 h17 => ?_
    · exact h13
    · with_reducible refine Same.step (State.calBegin_same _ _ _) (by decide) ?_
      exact h17
  clear_value v3
  refine Same.have v4 ?_ fun h18 => ?_
  · refine Same.foldl ?_ fun q19 y20 h21 => ?_
    · exact h14
    · refine Same.ite ?_ ?_
      · exact h21
      · with_reducible refine Same.step (State.substitute_same _ _ _) (by decide) ?_
        exact h21
  clear_value v4
  refine Same.foldl ?_ fun q22 y23 h24 => ?_
  · exact h18
  · refine Same.ite ?_ ?_
    · exact h24
    · with_reducible refine Same.step (State.arbitrate_same _ _) (by decide) ?_
      exact h24

theorem execLeaseRequest_same (x1 x2 : Fin 12) (x3 : Nat) (x4 : Bool) (x5 : State) :
    OutSame [.lanes, .arbiters] x5 (execLeaseRequest x1 x2 x3 x4 x5) := by
  unfold execLeaseRequest
  extract_lets v0 v1 v2 v3 v4 v5
  refine OutSame.have v5 ?_ fun h6 => ?_
  · with_reducible refine Same.step (State.setArbiter_same _ _ _) (by decide) ?_
    exact Same.refl _ _
  clear_value v5
  refine OutSame.ite ?_ ?_
  · refine OutSame.next ?_
    exact Same.refl _ _
  · refine OutSame.next ?_
    refine Same.ite ?_ ?_
    · refine Same.foldl ?_ fun q7 y8 h9 => ?_
      · exact h6
      · extract_lets v10
        refine Same.ite ?_ ?_
        · with_reducible refine Same.step (State.setLane_same _ _ _ _) (by decide) ?_
          exact h9
        · exact h9
    · exact h6

theorem execLeaseGrant_same (x1 : Fin 12) (x2 : State) :
    OutSame [.lanes] x2 (execLeaseGrant x1 x2) := by
  unfold execLeaseGrant
  extract_lets v0 v1
  refine OutSame.have v1 ?_ fun h2 => ?_
  · refine Same.foldl ?_ fun q3 y4 h5 => ?_
    · exact Same.refl _ _
    · extract_lets v6
      refine Same.ite ?_ ?_
      · with_reducible refine Same.step (State.setLane_same _ _ _ _) (by decide) ?_
        exact h5
      · exact h5
  clear_value v1
  refine OutSame.next ?_
  refine Same.foldl ?_ fun q7 y8 h9 => ?_
  · exact h2
  · extract_lets v10 v11
    refine Same.ite ?_ ?_
    · exact h9
    · with_reducible refine Same.step (State.setLane_same _ _ _ _) (by decide) ?_
      exact h9

theorem execLeaseConfirm_same (x1 : Fin 12) (x2 : State) :
    OutSame [.lanes] x2 (execLeaseConfirm x1 x2) := by
  unfold execLeaseConfirm
  extract_lets v0
  refine OutSame.next ?_
  refine Same.foldl ?_ fun q1 y2 h3 => ?_
  · exact Same.refl _ _
  · extract_lets v4
    split
    · rename_i e5 e6 e7
      extract_lets v8
      refine Same.ite ?_ ?_
      · with_reducible refine Same.step (State.setLane_same _ _ _ _) (by decide) ?_
        exact h3
      · exact h3
    · rename_i e9 e10
      exact h3

theorem State.pairLost_same (x1 : State) :
    Same [.dict, .pair, .ports, .freeCtr, .test] x1 (State.pairLost x1) := by
  unfold State.pairLost
  extract_lets v0 v1 v2 v3
  refine Same.have v0 ?_ fun h4 => ?_
  · with_reducible refine Same.step (State.releaseHeld_same _) (by decide) ?_
    exact Same.refl _ _
  clear_value v0
  refine Same.have v3 ?_ fun h5 => ?_
  · dsimp only [v3]
    with_reducible refine Same.record rfl ?_ ?_
    · intro p hp; cases p <;> first | exact absurd (by decide) hp | exact rfl
    exact h4
  clear_value v3
  refine Same.ite ?_ ?_
  · with_reducible refine Same.step (State.setReg_same _ _ _) (by decide) ?_
    exact h5
  · exact h5

theorem State.pairTrains_same (x1 : State) (x2 : Bool) :
    Same [.pair] x1 (State.pairTrains x1 x2) := by
  unfold State.pairTrains
  refine Same.ite ?_ ?_
  · with_reducible refine Same.record rfl ?_ ?_
    · intro p hp; cases p <;> first | exact absurd (by decide) hp | exact rfl
    exact Same.refl _ _
  · exact Same.refl _ _

theorem execIdentityWord_same (x1 : IdentAt) (x2 : BitVec 64) (x3 : State) :
    OutSame [.dict, .freeCtr, .lanes, .paths, .identReports, .xports, .pair, .ports, .test] x3 (execIdentityWord x1 x2 x3) := by
  unfold execIdentityWord
  extract_lets v0 v1 v2
  split
  · rename_i e3 e4 e5
    extract_lets v6 v7 v8 v9
    refine OutSame.next ?_
    with_reducible refine Same.record rfl ?_ ?_
    · intro p hp; cases p <;> first | exact absurd (by decide) hp | exact rfl
    exact Same.refl _ _
  · rename_i e10 e11
    extract_lets v12 v13 v14 v15
    refine OutSame.have v15 ?_ fun h16 => ?_
    · dsimp only [v15]
      with_reducible refine Same.record rfl ?_ ?_
      · intro p hp; cases p <;> first | exact absurd (by decide) hp | exact rfl
      exact Same.refl _ _
    clear_value v15
    refine OutSame.next ?_
    refine Same.ite ?_ ?_
    · with_reducible refine Same.step (State.pairLost_same _) (by decide) ?_
      exact h16
    · exact h16
  · rename_i e17 e18 e19
    extract_lets v20 v21 v22 v23 v24 v25 v26 v27 v28 v29 v30 v31
    refine OutSame.have v25 ?_ fun h32 => ?_
    · refine Same.ite ?_ ?_
      · with_reducible refine Same.step (State.setPath_same _ _ _ _ _) (by decide) ?_
        exact Same.refl _ _
      · exact Same.refl _ _
    clear_value v25
    refine OutSame.have v26 ?_ fun h33 => ?_
    · with_reducible refine Same.step (State.bump_same _ _) (by decide) ?_
      exact h32
    clear_value v26
    refine OutSame.have v30 ?_ fun h34 => ?_
    · with_reducible refine Same.step (State.setLane_same _ _ _ _) (by decide) ?_
      exact h32
    clear_value v30
    refine OutSame.have v31 ?_ fun h35 => ?_
    · with_reducible refine Same.step (State.traceOpen_same _ _ _ _ _ _ _) (by decide) ?_
      with_reducible refine Same.step (State.bump_same _ _) (by decide) ?_
      exact h34
    clear_value v31
    refine OutSame.ite ?_ ?_
    · refine OutSame.next ?_
      refine Same.ite ?_ ?_
      · with_reducible refine Same.step (State.pathOut_same _ _ _ _) (by decide) ?_
        exact h33
      · exact h33
    · refine OutSame.ite ?_ ?_
      · refine OutSame.next ?_
        exact h34
      · refine OutSame.next ?_
        with_reducible refine Same.record rfl ?_ ?_
        · intro p hp; cases p <;> first | exact absurd (by decide) hp | exact rfl
        exact h35

theorem State.startReset_same (x1 : State) (x2 : Nat) :
    Same [.dict, .lastStatus, .freeCtr, .hostMem, .entries, .cores, .runs, .grants, .orphans, .stores, .regions, .lanes, .arbiters, .pair, .ports, .streams, .pw, .sec, .test] x1 (State.startReset x1 x2) := by
  unfold State.startReset
  extract_lets v0 v1 v2 v3 v4 v5
  refine Same.have v1 ?_ fun h6 => ?_
  · with_reducible refine Same.step (State.bump_same _ _) (by decide) ?_
    with_reducible refine Same.step (State.setRegion_same _ _ _) (by decide) ?_
    exact Same.refl _ _
  clear_value v1
  refine Same.have v2 ?_ fun h7 => ?_
  · dsimp only [v2]
    split
    · rename_i e8 e9 e10
      with_reducible refine Same.step (State.discardDie_same _ _ _) (by decide) ?_
      exact h6
    · rename_i e11 e12
      exact h6
  clear_value v2
  refine Same.have v3 ?_ fun h13 => ?_
  · with_reducible refine Same.step (State.dropSlices_same _ _) (by decide) ?_
    exact h7
  clear_value v3
  refine Same.have v4 ?_ fun h14 => ?_
  · refine Same.ite ?_ ?_
    · with_reducible refine Same.step (State.pairLost_same _) (by decide) ?_
      exact h13
    · exact h13
  clear_value v4
  with_reducible refine Same.step (State.dropFresh_same _) (by decide) ?_
  with_reducible refine Same.step (State.reportSite_same _ _) (by decide) ?_
  with_reducible refine Same.step (State.setArbiter_same _ _ _) (by decide) ?_
  exact h14

theorem State.writeRegionCommand_same (x1 : State) (x2 : Nat) :
    Same [.dict, .lastStatus, .freeCtr, .hostMem, .entries, .cores, .runs, .grants, .orphans, .stores, .regions, .lanes, .arbiters, .pair, .ports, .streams, .pw, .sec, .test] x1 (State.writeRegionCommand x1 x2) := by
  unfold State.writeRegionCommand
  extract_lets v0 v1 v2 v3
  refine Same.have v2 ?_ fun h4 => ?_
  · with_reducible refine Same.step (State.setReg_same _ _ _) (by decide) ?_
    with_reducible refine Same.step (State.answer_same _ _) (by decide) ?_
    exact Same.refl _ _
  clear_value v2
  refine Same.ite ?_ ?_
  · with_reducible refine Same.step (State.startReset_same _ _) (by decide) ?_
    with_reducible refine Same.step (State.setRegion_same _ _ _) (by decide) ?_
    exact h4
  · exact h4

theorem execRegionReset_same (x1 : ResetCause) (x2 : State) :
    OutSame [.dict, .lastStatus, .freeCtr, .hostMem, .entries, .cores, .runs, .grants, .orphans, .stores, .regions, .lanes, .arbiters, .pair, .ports, .streams, .pw, .sec, .test] x2 (execRegionReset x1 x2) := by
  unfold execRegionReset
  split
  · rename_i e0 e1
    refine OutSame.next ?_
    with_reducible refine Same.step (State.writeRegionCommand_same _ _) (by decide) ?_
    exact Same.refl _ _
  · rename_i e2 e3
    refine OutSame.next ?_
    with_reducible refine when_same ?_ ?_
    · with_reducible refine Same.step (State.startReset_same _ _) (by decide) ?_
      exact Same.refl _ _
    · exact Same.refl _ _

theorem State.dropTrims_same (x1 : State) (x2 : Nat) :
    Same [.nvTrims, .rings] x1 (State.dropTrims x1 x2) := by
  unfold State.dropTrims
  extract_lets v0
  refine Same.ite ?_ ?_
  · with_reducible refine Same.step (State.setMring_same _ _ _) (by decide) ?_
    with_reducible refine Same.record rfl ?_ ?_
    · intro p hp; cases p <;> first | exact absurd (by decide) hp | exact rfl
    exact Same.refl _ _
  · exact Same.refl _ _

theorem State.dropCals_same (x1 : State) (x2 : Nat) :
    Same [.dict, .cores, .nvTrims, .rings, .lanes, .test] x1 (State.dropCals x1 x2) := by
  unfold State.dropCals
  refine Same.foldl ?_ fun q0 y1 h2 => ?_
  · exact Same.refl _ _
  · extract_lets v3 v4 v5 v6
    refine Same.have v5 ?_ fun h7 => ?_
    · with_reducible refine Same.step (State.dropSlices_same _ _) (by decide) ?_
      exact h2
    clear_value v5
    refine Same.have v6 ?_ fun h8 => ?_
    · with_reducible refine Same.step (State.setLane_same _ _ _ _) (by decide) ?_
      exact h7
    clear_value v6
    refine Same.ite ?_ ?_
    · refine Same.foldl ?_ fun q9 y10 h11 => ?_
      · exact h8
      · with_reducible refine Same.step (State.dropTrims_same _ _) (by decide) ?_
        exact h11
    · exact h2

theorem State.hear_same (x1 : State) (x2 x3 : Nat) :
    Same [.dict, .freeCtr, .cores, .runs, .stores, .ledger, .tlb, .migs, .ledgerCmd, .nvTrims, .regions, .rings, .lanes, .trackers, .replies, .lastResponse, .xports, .test] x1 (State.hear x1 x2 x3) := by
  unfold State.hear
  extract_lets v0 v1 v2 v3 v4
  refine Same.have v1 ?_ fun h5 => ?_
  · with_reducible refine Same.step (State.traceOpen_same _ _ _ _ _ _ _) (by decide) ?_
    with_reducible refine Same.step (State.setRegion_same _ _ _) (by decide) ?_
    exact Same.refl _ _
  clear_value v1
  refine Same.have v3 ?_ fun h6 => ?_
  · refine Same.foldl ?_ fun q7 y8 h9 => ?_
    · exact h5
    · with_reducible refine Same.step (State.markStanding_same _ _ _ _ _) (by decide) ?_
      refine Same.foldl ?_ fun q10 y11 h12 => ?_
      · exact h9
      · with_reducible refine Same.step (State.voidLease_same _ _ _ _) (by decide) ?_
        exact h12
  clear_value v3
  refine Same.have v4 ?_ fun h13 => ?_
  · with_reducible refine Same.step (State.holdTransfers_same _) (by decide) ?_
    exact h6
  clear_value v4
  refine Same.ite ?_ ?_
  · exact Same.refl _ _
  · refine Same.ite ?_ ?_
    · with_reducible refine Same.step (State.dropCals_same _ _) (by decide) ?_
      refine Same.foldl ?_ fun q14 y15 h16 => ?_
      · exact h13
      · with_reducible refine Same.step (State.endDark_same _ _) (by decide) ?_
        exact h16
    · exact h13

theorem execRegionDarkNotice_same (x1 x2 : Fin 12) (x3 : State) :
    OutSame [.dict, .freeCtr, .cores, .runs, .stores, .ledger, .tlb, .migs, .ledgerCmd, .nvTrims, .regions, .rings, .lanes, .trackers, .replies, .lastResponse, .xports, .test] x3 (execRegionDarkNotice x1 x2 x3) := by
  unfold execRegionDarkNotice
  extract_lets v0
  refine OutSame.next ?_
  with_reducible refine when_same ?_ ?_
  · with_reducible refine Same.step (State.hear_same _ _ _) (by decide) ?_
    exact Same.refl _ _
  · exact Same.refl _ _

theorem State.darkLanes_same (x1 : State) (x2 : Nat) :
    Same [.lanes] x1 (State.darkLanes x1 x2) := by
  unfold State.darkLanes
  refine Same.foldl ?_ fun q0 y1 h2 => ?_
  · exact Same.refl _ _
  · extract_lets v3
    with_reducible refine Same.step (State.setLane_same _ _ _ _) (by decide) ?_
    exact h2

theorem State.untrain_same (x1 : State) (x2 : Nat) :
    Same [.paths] x1 (State.untrain x1 x2) := by
  unfold State.untrain
  refine Same.foldl ?_ fun q0 y1 h2 => ?_
  · exact Same.refl _ _
  · refine Same.foldl ?_ fun q3 y4 h5 => ?_
    · exact h2
    · extract_lets v6
      refine Same.ite ?_ ?_
      · exact h5
      · with_reducible refine Same.step (State.setPath_same _ _ _ _ _) (by decide) ?_
        exact h5

theorem State.parkRegion_same (x1 : State) (x2 : Nat) :
    Same [.rings, .lanes, .paths] x1 (State.parkRegion x1 x2) := by
  unfold State.parkRegion
  with_reducible refine Same.step (State.untrain_same _ _) (by decide) ?_
  with_reducible refine Same.step (State.darkLanes_same _ _) (by decide) ?_
  with_reducible refine Same.step (State.siteRingMap_same _ _ _) (by decide) ?_
  exact Same.refl _ _

theorem execRegionEndpointReset_same (x1 : Fin 12) (x2 : State) :
    OutSame [.dict, .freeCtr, .cores, .runs, .stores, .ledger, .tlb, .migs, .ledgerCmd, .nvTrims, .regions, .rings, .lanes, .paths, .trackers, .replies, .lastResponse, .xports, .test] x2 (execRegionEndpointReset x1 x2) := by
  unfold execRegionEndpointReset
  extract_lets v0 v1 v2 v3
  refine OutSame.have v1 ?_ fun h4 => ?_
  · refine Same.foldl ?_ fun q5 y6 h7 => ?_
    · exact Same.refl _ _
    · with_reducible refine Same.step (State.hear_same _ _ _) (by decide) ?_
      exact h7
  clear_value v1
  refine OutSame.have v2 ?_ fun h8 => ?_
  · with_reducible refine Same.step (State.parkRegion_same _ _) (by decide) ?_
    exact h4
  clear_value v2
  refine OutSame.ite ?_ ?_
  · refine OutSame.next ?_
    exact Same.refl _ _
  · refine OutSame.next ?_
    with_reducible refine Same.step (State.setRegion_same _ _ _) (by decide) ?_
    exact h8

theorem State.lockRegion_same (x1 : State) (x2 : Nat) :
    Same [.dict, .regions, .rings] x1 (State.lockRegion x1 x2) := by
  unfold State.lockRegion
  refine Same.ite ?_ ?_
  · with_reducible refine Same.step (State.setRegion_same _ _ _) (by decide) ?_
    exact Same.refl _ _
  · extract_lets v0 v1
    refine Same.have v0 ?_ fun h2 => ?_
    · with_reducible refine Same.step (State.siteRingMap_same _ _ _) (by decide) ?_
      exact Same.refl _ _
    clear_value v0
    with_reducible refine Same.step (State.addReg_same _ _ _) (by decide) ?_
    with_reducible refine Same.step (State.setRegion_same _ _ _) (by decide) ?_
    exact h2

theorem execRegionResetRelease_same (x1 : Fin 12) (x2 : State) :
    OutSame [.dict, .regions, .rings] x2 (execRegionResetRelease x1 x2) := by
  unfold execRegionResetRelease
  extract_lets v0
  refine OutSame.next ?_
  with_reducible refine when_same ?_ ?_
  · with_reducible refine Same.step (State.lockRegion_same _ _) (by decide) ?_
    exact Same.refl _ _
  · exact Same.refl _ _

theorem State.restLanes_same (x1 : State) :
    Same [.lanes] x1 (State.restLanes x1) := by
  unfold State.restLanes
  refine Same.foldl ?_ fun q0 y1 h2 => ?_
  · exact Same.refl _ _
  · extract_lets v3 v4
    refine Same.have v4 ?_ fun h5 => ?_
    · refine Same.ite ?_ ?_
      · with_reducible refine Same.step (State.setLane_same _ _ _ _) (by decide) ?_
        exact h2
      · exact h2
    clear_value v4
    refine Same.ite ?_ ?_
    · exact h2
    · refine Same.ite ?_ ?_
      · with_reducible refine Same.step (State.setLane_same _ _ _ _) (by decide) ?_
        exact h5
      · exact h5

theorem State.scheduleSite_same (x1 : State) (x2 : Nat) :
    Same [.lanes] x1 (State.scheduleSite x1 x2) := by
  unfold State.scheduleSite
  refine Same.foldl ?_ fun q0 y1 h2 => ?_
  · exact Same.refl _ _
  · with_reducible refine Same.step (State.setLane_same _ _ _ _) (by decide) ?_
    exact h2

theorem State.regionUp_same (x1 : State) (x2 : Nat) :
    Same [.dict, .lastStatus, .freeCtr, .hostMem, .entries, .cores, .runs, .grants, .orphans, .stores, .ledger, .tlb, .migs, .regions, .lanes, .guests, .requests, .seqs, .lineCache, .xports, .hub, .pair, .ports, .streams, .pw, .test] x1 (State.regionUp x1 x2) := by
  unfold State.regionUp
  extract_lets v0 v1 v2 v3
  refine Same.have v1 ?_ fun h4 => ?_
  · with_reducible refine Same.step (State.pairTrains_same _ _) (by decide) ?_
    with_reducible refine Same.step (State.setRegion_same _ _ _) (by decide) ?_
    exact Same.refl _ _
  clear_value v1
  refine Same.have v2 ?_ fun h5 => ?_
  · refine Same.ite ?_ ?_
    · with_reducible refine Same.step (State.setReg_same _ _ _) (by decide) ?_
      exact h4
    · exact h4
  clear_value v2
  refine Same.have v3 ?_ fun h6 => ?_
  · refine Same.ite ?_ ?_
    · with_reducible refine Same.step (State.scheduleSite_same _ _) (by decide) ?_
      exact h5
    · exact h5
  clear_value v3
  with_reducible refine Same.step (State.reportSite_same _ _) (by decide) ?_
  with_reducible refine Same.step (State.feedDrains_same _) (by decide) ?_
  with_reducible refine Same.step (State.resumeTransfers_same _) (by decide) ?_
  with_reducible refine Same.step (State.restLanes_same _) (by decide) ?_
  exact h6

theorem execRegionUpNotice_same (x1 : Fin 12) (x2 : State) :
    OutSame [.dict, .lastStatus, .freeCtr, .hostMem, .entries, .cores, .runs, .grants, .orphans, .stores, .ledger, .tlb, .migs, .regions, .lanes, .guests, .requests, .seqs, .lineCache, .xports, .hub, .pair, .ports, .streams, .pw, .test] x2 (execRegionUpNotice x1 x2) := by
  unfold execRegionUpNotice
  refine OutSame.next ?_
  with_reducible refine when_same ?_ ?_
  · with_reducible refine Same.step (State.regionUp_same _ _) (by decide) ?_
    exact Same.refl _ _
  · exact Same.refl _ _

theorem execRegionReturnTimeout_same (x1 : Fin 12) (x2 : State) :
    OutSame [.dict, .freeCtr, .calCmd, .regions] x2 (execRegionReturnTimeout x1 x2) := by
  unfold execRegionReturnTimeout
  extract_lets v0 v1 v2
  refine OutSame.have v1 ?_ fun h3 => ?_
  · with_reducible refine Same.step (State.setRegion_same _ _ _) (by decide) ?_
    exact Same.refl _ _
  clear_value v1
  refine OutSame.have v2 ?_ fun h4 => ?_
  · refine Same.ite ?_ ?_
    · with_reducible refine Same.step (State.tickFree_same _) (by decide) ?_
      with_reducible refine Same.step (State.setReg_same _ _ _) (by decide) ?_
      exact h3
    · exact h3
  clear_value v2
  refine OutSame.ite ?_ ?_
  · refine OutSame.next ?_
    exact Same.refl _ _
  · refine OutSame.next ?_
    with_reducible refine Same.step (State.reportSite_same _ _) (by decide) ?_
    with_reducible refine Same.step (State.calDrop_same _ _) (by decide) ?_
    exact h4

theorem execPathTrainingEnd_same (x1 x2 : Fin 12) (x3 : List (Fin 96)) (x4 : State) :
    OutSame [.dict, .fieldMap, .lanes, .paths] x4 (execPathTrainingEnd x1 x2 x3 x4) := by
  unfold execPathTrainingEnd
  extract_lets v0 v1
  refine OutSame.ite ?_ ?_
  · refine OutSame.next ?_
    exact Same.refl _ _
  · refine OutSame.next ?_
    refine Same.foldl ?_ fun q2 y3 h4 => ?_
    · exact Same.refl _ _
    · extract_lets v5 v6 v7
      refine Same.have v6 ?_ fun h8 => ?_
      · with_reducible refine Same.step (State.setPath_same _ _ _ _ _) (by decide) ?_
        exact h4
      clear_value v6
      refine Same.have v7 ?_ fun h9 => ?_
      · with_reducible refine Same.step (State.sendIdent_same _ _ _ _ _ _ _) (by decide) ?_
        exact h8
      clear_value v7
      refine Same.ite ?_ ?_
      · exact h4
      · refine Same.ite ?_ ?_
        · exact h8
        · refine Same.ite ?_ ?_
          · with_reducible refine Same.step (State.laneReturn_same _ _ _) (by decide) ?_
            with_reducible refine Same.step (State.trainFail_same _ _ _ _) (by decide) ?_
            exact h9
          · with_reducible refine Same.step (State.trainPass_same _ _ _ _) (by decide) ?_
            exact h9

theorem State.startFullCal_same (x1 : State) (x2 : Nat) :
    Same [.dict, .lastStatus, .freeCtr, .hostMem, .entries, .cores, .runs, .grants, .orphans, .stores, .regions, .lanes, .arbiters, .pair, .ports, .streams, .pw, .sec, .test] x1 (State.startFullCal x1 x2) := by
  unfold State.startFullCal
  extract_lets v0 v1 v2
  refine Same.have v1 ?_ fun h3 => ?_
  · with_reducible refine Same.step (State.bump_same _ _) (by decide) ?_
    with_reducible refine Same.step (State.setRegion_same _ _ _) (by decide) ?_
    exact Same.refl _ _
  clear_value v1
  refine Same.ite ?_ ?_
  · with_reducible refine Same.step (State.scheduleSite_same _ _) (by decide) ?_
    exact h3
  · with_reducible refine Same.step (State.startReset_same _ _) (by decide) ?_
    with_reducible refine Same.step (State.setRegion_same _ _ _) (by decide) ?_
    exact h3

theorem State.dueFullCal_same (x1 : State) (x2 : Nat) :
    Same [.dict, .lastStatus, .freeCtr, .hostMem, .entries, .cores, .runs, .grants, .orphans, .stores, .regions, .lanes, .arbiters, .pair, .ports, .streams, .pw, .sec, .test] x1 (State.dueFullCal x1 x2) := by
  unfold State.dueFullCal
  extract_lets v0 v1
  refine Same.ite ?_ ?_
  · with_reducible refine Same.step (State.startFullCal_same _ _) (by decide) ?_
    with_reducible refine Same.step (State.setRegion_same _ _ _) (by decide) ?_
    exact Same.refl _ _
  · exact Same.refl _ _

theorem State.wrongLine_same (x1 : State) (x2 : Nat) :
    Same [.dict, .lastStatus, .freeCtr, .hostMem, .entries, .cores, .runs, .grants, .orphans, .stores, .regions, .lanes, .arbiters, .pair, .ports, .streams, .pw, .sec, .test] x1 (State.wrongLine x1 x2) := by
  unfold State.wrongLine
  extract_lets v0 v1 v2
  with_reducible refine Same.step (State.dueFullCal_same _ _) (by decide) ?_
  with_reducible refine Same.step (State.setRegion_same _ _ _) (by decide) ?_
  exact Same.refl _ _

theorem State.restartCal_same (x1 : State) (x2 : Nat) :
    Same [.lanes] x1 (State.restartCal x1 x2) := by
  unfold State.restartCal
  extract_lets v0
  refine Same.foldl ?_ fun q1 y2 h3 => ?_
  · exact Same.refl _ _
  · extract_lets v4
    refine Same.ite ?_ ?_
    · with_reducible refine Same.step (State.setLane_same _ _ _ _) (by decide) ?_
      exact h3
    · exact h3

theorem execIdentityReport_same (x1 : State) :
    OutSame [.dict, .lastStatus, .freeCtr, .hostMem, .entries, .cores, .runs, .grants, .orphans, .stores, .regions, .rings, .lanes, .paths, .arbiters, .identReports, .pair, .ports, .streams, .pw, .sec, .test] x1 (execIdentityReport x1) := by
  unfold execIdentityReport
  split
  · rename_i e0 e1
    refine OutSame.next ?_
    exact Same.refl _ _
  · rename_i e2 e3 e4 e5 e6 e7
    extract_lets v8 v9 v10 v11 v12 v13 v14 v15
    refine OutSame.have v8 ?_ fun h16 => ?_
    · dsimp only [v8]
      with_reducible refine Same.record rfl ?_ ?_
      · intro p hp; cases p <;> first | exact absurd (by decide) hp | exact rfl
      exact Same.refl _ _
    clear_value v8
    refine OutSame.ite ?_ ?_
    · refine OutSame.next ?_
      with_reducible refine Same.step (State.wrongLine_same _ _) (by decide) ?_
      with_reducible refine Same.step (State.relockLane_same _ _ _ _) (by decide) ?_
      with_reducible refine Same.step (State.bump_same _ _) (by decide) ?_
      exact h16
    · refine OutSame.ite ?_ ?_
      · refine OutSame.next ?_
        refine Same.foldl ?_ fun q17 y18 h19 => ?_
        · with_reducible refine Same.step (State.pathOut_same _ _ _ _) (by decide) ?_
          exact h16
        · with_reducible refine Same.step (State.wrongLine_same _ _) (by decide) ?_
          with_reducible refine Same.step (State.restartCal_same _ _) (by decide) ?_
          with_reducible refine Same.step (State.ringLost_same _ _) (by decide) ?_
          with_reducible refine Same.step (State.bump_same _ _) (by decide) ?_
          exact h19
      · refine OutSame.ite ?_ ?_
        · refine OutSame.next ?_
          with_reducible refine Same.step (State.pathOut_same _ _ _ _) (by decide) ?_
          exact h16
        · refine OutSame.next ?_
          exact h16

theorem State.laserPut_same (x1 : State) (x2 : Nat) (x3 : Laser) :
    Same [.dict, .lasers] x1 (State.laserPut x1 x2 x3) := by
  unfold State.laserPut
  with_reducible refine Same.step (State.setReg_same _ _ _) (by decide) ?_
  with_reducible refine Same.step (State.setLaser_same _ _ _) (by decide) ?_
  exact Same.refl _ _

theorem State.laserStatus_same (x1 : State) (x2 : Status) :
    Same [.dict, .lastStatus] x1 (State.laserStatus x1 x2) := by
  unfold State.laserStatus
  with_reducible refine Same.step (State.setReg_same _ _ _) (by decide) ?_
  with_reducible refine Same.step (State.answer_same _ _) (by decide) ?_
  exact Same.refl _ _

theorem State.rampOff_same (x1 : State) (x2 : Nat) :
    Same [.dict, .lasers] x1 (State.rampOff x1 x2) := by
  unfold State.rampOff
  with_reducible refine Same.step (State.laserPut_same _ _ _) (by decide) ?_
  exact Same.refl _ _

theorem State.writeLaserCommand_same (x1 : State) (x2 : Nat) :
    Same [.dict, .lastStatus, .lasers] x1 (State.writeLaserCommand x1 x2) := by
  unfold State.writeLaserCommand
  refine Same.ite ?_ ?_
  · with_reducible refine Same.step (State.answer_same _ _) (by decide) ?_
    exact Same.refl _ _
  · extract_lets v0 v1
    refine Same.ite ?_ ?_
    · with_reducible refine Same.step (State.answer_same _ _) (by decide) ?_
      exact Same.refl _ _
    · refine Same.ite ?_ ?_
      · refine Same.ite ?_ ?_
        · with_reducible refine Same.step (State.laserStatus_same _ _) (by decide) ?_
          exact Same.refl _ _
        · refine Same.ite ?_ ?_
          · with_reducible refine Same.step (State.laserStatus_same _ _) (by decide) ?_
            exact Same.refl _ _
          · with_reducible refine Same.step (State.setReg_same _ _ _) (by decide) ?_
            with_reducible refine Same.step (State.answer_same _ _) (by decide) ?_
            with_reducible refine Same.step (State.rampOff_same _ _) (by decide) ?_
            exact Same.refl _ _
      · refine Same.ite ?_ ?_
        · with_reducible refine Same.step (State.laserStatus_same _ _) (by decide) ?_
          exact Same.refl _ _
        · with_reducible refine Same.step (State.setReg_same _ _ _) (by decide) ?_
          with_reducible refine Same.step (State.answer_same _ _) (by decide) ?_
          with_reducible refine Same.step (State.laserPut_same _ _ _) (by decide) ?_
          exact Same.refl _ _

theorem execLaserRelease_same (x1 : Fin 2) (x2 : State) :
    OutSame [.dict, .lastStatus, .lasers] x2 (execLaserRelease x1 x2) := by
  unfold execLaserRelease
  refine OutSame.next ?_
  with_reducible refine Same.step (State.writeLaserCommand_same _ _) (by decide) ?_
  exact Same.refl _ _

theorem execLaserStart_same (x1 : Fin 2) (x2 : State) :
    OutSame [.dict, .lastStatus, .lasers] x2 (execLaserStart x1 x2) := by
  unfold execLaserStart
  refine OutSame.next ?_
  with_reducible refine Same.step (State.writeLaserCommand_same _ _) (by decide) ?_
  exact Same.refl _ _

theorem State.allDark_same (x1 : State) :
    Same [.dict, .lastStatus, .freeCtr, .hostMem, .entries, .cores, .runs, .grants, .orphans, .stores, .ledger, .tlb, .migs, .ledgerCmd, .nvTrims, .regions, .rings, .lanes, .paths, .trackers, .replies, .lastResponse, .xports, .pair, .ports, .streams, .pw, .sec, .test] x1 (State.allDark x1) := by
  unfold State.allDark
  extract_lets v0 v1 v2 v3
  refine Same.have v1 ?_ fun h4 => ?_
  · refine Same.foldl ?_ fun q5 y6 h7 => ?_
    · exact Same.refl _ _
    · extract_lets v8 v9 v10
      refine Same.have v9 ?_ fun h11 => ?_
      · with_reducible refine Same.step (State.setRegion_same _ _ _) (by decide) ?_
        exact h7
      clear_value v9
      refine Same.have v10 ?_ fun h12 => ?_
      · dsimp only [v10]
        split
        · rename_i e13 e14 e15
          with_reducible refine Same.step (State.discardDie_same _ _ _) (by decide) ?_
          exact h11
        · rename_i e16 e17
          exact h11
      clear_value v10
      with_reducible refine Same.step (State.parkRegion_same _ _) (by decide) ?_
      exact h12
  clear_value v1
  refine Same.have v2 ?_ fun h18 => ?_
  · refine Same.foldl ?_ fun q19 y20 h21 => ?_
    · exact h4
    · with_reducible refine Same.step (State.endDark_same _ _) (by decide) ?_
      exact h21
  clear_value v2
  refine Same.have v3 ?_ fun h22 => ?_
  · refine Same.foldl ?_ fun q23 y24 h25 => ?_
    · with_reducible refine Same.step (State.pairLost_same _) (by decide) ?_
      exact h18
    · with_reducible refine Same.step (State.dropCals_same _ _) (by decide) ?_
      exact h25
  clear_value v3
  with_reducible refine Same.step (State.dropFresh_same _) (by decide) ?_
  refine Same.foldl ?_ fun q26 y27 h28 => ?_
  · with_reducible refine Same.step (State.holdTransfers_same _) (by decide) ?_
    exact h22
  · with_reducible refine Same.step (State.reportSite_same _ _) (by decide) ?_
    exact h28

theorem State.lightBack_same (x1 : State) :
    Same [.dict, .regions, .rings] x1 (State.lightBack x1) := by
  unfold State.lightBack
  refine Same.foldl ?_ fun q0 y1 h2 => ?_
  · exact Same.refl _ _
  · with_reducible refine Same.step (State.lockRegion_same _ _) (by decide) ?_
    exact h2

theorem State.endMulticasts_same (x1 : State) :
    Same [.lanes] x1 (State.endMulticasts x1) := by
  unfold State.endMulticasts
  refine Same.foldl ?_ fun q0 y1 h2 => ?_
  · exact Same.refl _ _
  · refine Same.ite ?_ ?_
    · with_reducible refine Same.step (State.endTx_same _ _ _) (by decide) ?_
      exact h2
    · exact h2

theorem execLaserRampEnd_same (x1 : Fin 2) (x2 : State) :
    OutSame [.dict, .lastStatus, .freeCtr, .hostMem, .entries, .cores, .runs, .grants, .orphans, .stores, .ledger, .tlb, .migs, .ledgerCmd, .nvTrims, .regions, .rings, .lanes, .paths, .lasers, .trackers, .replies, .lastResponse, .xports, .pair, .ports, .streams, .pw, .sec, .test] x2 (execLaserRampEnd x1 x2) := by
  unfold execLaserRampEnd
  extract_lets v0 v1
  refine OutSame.have v1 ?_ fun h2 => ?_
  · with_reducible refine Same.step (State.setReg_same _ _ _) (by decide) ?_
    with_reducible refine Same.step (State.laserPut_same _ _ _) (by decide) ?_
    exact Same.refl _ _
  clear_value v1
  refine OutSame.ite ?_ ?_
  · refine OutSame.next ?_
    with_reducible refine Same.step (State.lightBack_same _) (by decide) ?_
    with_reducible refine Same.step (State.setReg_same _ _ _) (by decide) ?_
    with_reducible refine Same.step (State.laserPut_same _ _ _) (by decide) ?_
    exact Same.refl _ _
  · refine OutSame.ite ?_ ?_
    · refine OutSame.next ?_
      refine Same.ite ?_ ?_
      · with_reducible refine Same.step (State.endMulticasts_same _) (by decide) ?_
        exact h2
      · with_reducible refine Same.step (State.allDark_same _) (by decide) ?_
        exact h2
    · refine OutSame.next ?_
      exact Same.refl _ _

theorem State.laserFail_same (x1 : State) (x2 : Nat) (x3 : LaserSt) :
    Same [.dict, .lastStatus, .freeCtr, .hostMem, .entries, .cores, .runs, .grants, .orphans, .stores, .ledger, .tlb, .migs, .ledgerCmd, .nvTrims, .regions, .rings, .lanes, .paths, .lasers, .trackers, .replies, .lastResponse, .xports, .pair, .ports, .streams, .pw, .sec, .test] x1 (State.laserFail x1 x2 x3) := by
  unfold State.laserFail
  extract_lets v0 v1
  refine Same.have v1 ?_ fun h2 => ?_
  · with_reducible refine Same.step (State.laserPut_same _ _ _) (by decide) ?_
    exact Same.refl _ _
  clear_value v1
  refine Same.ite ?_ ?_
  · with_reducible refine Same.step (State.endMulticasts_same _) (by decide) ?_
    exact h2
  · with_reducible refine Same.step (State.allDark_same _) (by decide) ?_
    exact h2

theorem execLaserLoss_same (x1 : Fin 2) (x2 : State) :
    OutSame [.dict, .lastStatus, .freeCtr, .hostMem, .entries, .cores, .runs, .grants, .orphans, .stores, .ledger, .tlb, .migs, .ledgerCmd, .nvTrims, .regions, .rings, .lanes, .paths, .lasers, .trackers, .replies, .lastResponse, .xports, .pair, .ports, .streams, .pw, .sec, .test] x2 (execLaserLoss x1 x2) := by
  unfold execLaserLoss
  refine OutSame.next ?_
  with_reducible refine when_same ?_ ?_
  · with_reducible refine Same.step (State.laserFail_same _ _ _) (by decide) ?_
    exact Same.refl _ _
  · exact Same.refl _ _

theorem execLaserLossBoth_same (x1 : State) :
    OutSame [.dict, .lastStatus, .freeCtr, .hostMem, .entries, .cores, .runs, .grants, .orphans, .stores, .ledger, .tlb, .migs, .ledgerCmd, .nvTrims, .regions, .rings, .lanes, .paths, .lasers, .trackers, .replies, .lastResponse, .xports, .pair, .ports, .streams, .pw, .sec, .test] x1 (execLaserLossBoth x1) := by
  unfold execLaserLossBoth
  extract_lets v0
  refine OutSame.next ?_
  with_reducible refine when_same ?_ ?_
  · with_reducible refine Same.step (State.allDark_same _) (by decide) ?_
    dsimp only [v0]
    refine Same.ite ?_ ?_
    · with_reducible refine Same.step (State.laserPut_same _ _ _) (by decide) ?_
      refine Same.ite ?_ ?_
      · with_reducible refine Same.step (State.laserPut_same _ _ _) (by decide) ?_
        exact Same.refl _ _
      · exact Same.refl _ _
    · refine Same.ite ?_ ?_
      · with_reducible refine Same.step (State.laserPut_same _ _ _) (by decide) ?_
        exact Same.refl _ _
      · exact Same.refl _ _
  · exact Same.refl _ _

theorem execLaserLightReturn_same (x1 : Fin 2) (x2 : State) :
    OutSame [.dict, .regions, .rings, .lasers] x2 (execLaserLightReturn x1 x2) := by
  unfold execLaserLightReturn
  extract_lets v0
  refine OutSame.next ?_
  with_reducible refine when_same ?_ ?_
  · with_reducible refine Same.step (State.lightBack_same _) (by decide) ?_
    with_reducible refine Same.step (State.laserPut_same _ _ _) (by decide) ?_
    exact Same.refl _ _
  · exact Same.refl _ _

theorem execLaserSeatReport_same (x1 : Fin 2) (x2 : Bool) (x3 : State) :
    OutSame [.dict, .lastStatus, .freeCtr, .hostMem, .entries, .cores, .runs, .grants, .orphans, .stores, .ledger, .tlb, .migs, .ledgerCmd, .nvTrims, .regions, .rings, .lanes, .paths, .lasers, .trackers, .replies, .lastResponse, .xports, .pair, .ports, .streams, .pw, .sec, .test] x3 (execLaserSeatReport x1 x2 x3) := by
  unfold execLaserSeatReport
  extract_lets v0 v1 v2 v3
  refine OutSame.have v2 ?_ fun h4 => ?_
  · with_reducible refine Same.step (State.setLaser_same _ _ _) (by decide) ?_
    exact Same.refl _ _
  clear_value v2
  refine OutSame.ite ?_ ?_
  · refine OutSame.next ?_
    with_reducible refine Same.step (State.laserPut_same _ _ _) (by decide) ?_
    exact Same.refl _ _
  · refine OutSame.next ?_
    refine Same.ite ?_ ?_
    · with_reducible refine Same.step (State.laserFail_same _ _ _) (by decide) ?_
      exact h4
    · with_reducible refine Same.step (State.laserPut_same _ _ _) (by decide) ?_
      exact h4

end Sys2Proof.Machine
end

