-- ==== Sys2Proof/Laws/FrameSpecialFn.lean ====
section
/-! SUPPORT. Frames of the functions of Machine/SpecialFn.lean: one lemma a function, which says what parts of the state it
can change. -/

namespace Sys2Proof.Machine

open Sys2Proof

theorem State.sfuStart_same {W : List Part} {s0 s : State} {die core : Nat} {op : SfuOp}
    {run : State → Nat → Grant → QInstr → State}
    (hw : ([.dict, .lastStatus, .freeCtr, .hostMem, .entries, .cores, .runs, .grants, .orphans, .stores, .pair, .ports, .streams, .pw, .test].all fun p => W.contains p) = true)
    (h : Same W s0 s) (hr : ∀ t k g q, Same W s0 t → Same W s0 (run t k g q)) :
    Same W s0 (s.sfuStart die core op run) :=
  State.startUnit_same hw h fun k g q t ht => hr t k g q ht

theorem State.sfuRows_same (x1 : State) (x2 : Nat) (x3 : Grant) (x4 : QInstr) (x5 : Operands3 →
  Tbl Byte → Nat → List (Flagged Nat) → List Nat × Nat) :
    Same [.cores, .runs] x1 (State.sfuRows x1 x2 x3 x4 x5) := by
  unfold State.sfuRows
  extract_lets v0 v1 v2
  split
  rename_i e3 e4 e5 e6
  with_reducible refine Same.step (State.flagRun_same _ _ _) (by decide) ?_
  with_reducible refine Same.step (State.setScratch_same _ _ _) (by decide) ?_
  exact Same.refl _ _

theorem State.sfuMap_same (x1 : State) (x2 x3 : Nat) (x4 : SfuOp) :
    Same [.dict, .lastStatus, .freeCtr, .hostMem, .entries, .cores, .runs, .grants, .orphans, .stores, .pair, .ports, .streams, .pw, .test] x1 (State.sfuMap x1 x2 x3 x4) := by
  unfold State.sfuMap
  with_reducible refine State.sfuStart_same (by decide) ?_ ?_
  · exact Same.refl _ _
  · intro y0 y1 y2 y3 h4
    with_reducible refine Same.step (State.sfuRows_same _ _ _ _ _) (by decide) ?_
    exact h4

theorem execExp_same (x1 : Fin 8) (x2 : Fin 48) (x3 : State) :
    OutSame [.dict, .lastStatus, .freeCtr, .hostMem, .entries, .cores, .runs, .grants, .orphans, .stores, .pair, .ports, .streams, .pw, .test] x3 (execExp x1 x2 x3) := by
  unfold execExp
  refine OutSame.next ?_
  with_reducible refine Same.step (State.sfuMap_same _ _ _ _) (by decide) ?_
  exact Same.refl _ _

theorem execRecip_same (x1 : Fin 8) (x2 : Fin 48) (x3 : State) :
    OutSame [.dict, .lastStatus, .freeCtr, .hostMem, .entries, .cores, .runs, .grants, .orphans, .stores, .pair, .ports, .streams, .pw, .test] x3 (execRecip x1 x2 x3) := by
  unfold execRecip
  refine OutSame.next ?_
  with_reducible refine Same.step (State.sfuMap_same _ _ _ _) (by decide) ?_
  exact Same.refl _ _

theorem execRsqrt_same (x1 : Fin 8) (x2 : Fin 48) (x3 : State) :
    OutSame [.dict, .lastStatus, .freeCtr, .hostMem, .entries, .cores, .runs, .grants, .orphans, .stores, .pair, .ports, .streams, .pw, .test] x3 (execRsqrt x1 x2 x3) := by
  unfold execRsqrt
  refine OutSame.next ?_
  with_reducible refine Same.step (State.sfuMap_same _ _ _ _) (by decide) ?_
  exact Same.refl _ _

theorem execSilu_same (x1 : Fin 8) (x2 : Fin 48) (x3 : State) :
    OutSame [.dict, .lastStatus, .freeCtr, .hostMem, .entries, .cores, .runs, .grants, .orphans, .stores, .pair, .ports, .streams, .pw, .test] x3 (execSilu x1 x2 x3) := by
  unfold execSilu
  refine OutSame.next ?_
  with_reducible refine Same.step (State.sfuMap_same _ _ _ _) (by decide) ?_
  exact Same.refl _ _

theorem execGelu_same (x1 : Fin 8) (x2 : Fin 48) (x3 : State) :
    OutSame [.dict, .lastStatus, .freeCtr, .hostMem, .entries, .cores, .runs, .grants, .orphans, .stores, .pair, .ports, .streams, .pw, .test] x3 (execGelu x1 x2 x3) := by
  unfold execGelu
  refine OutSame.next ?_
  with_reducible refine Same.step (State.sfuMap_same _ _ _ _) (by decide) ?_
  exact Same.refl _ _

theorem execSoftmax_same (x1 : Fin 8) (x2 : Fin 48) (x3 : State) :
    OutSame [.dict, .lastStatus, .freeCtr, .hostMem, .entries, .cores, .runs, .grants, .orphans, .stores, .pair, .ports, .streams, .pw, .test] x3 (execSoftmax x1 x2 x3) := by
  unfold execSoftmax
  refine OutSame.next ?_
  with_reducible refine State.sfuStart_same (by decide) ?_ ?_
  · exact Same.refl _ _
  · intro y0 y1 y2 y3 h4
    with_reducible refine Same.step (State.sfuRows_same _ _ _ _ _) (by decide) ?_
    exact h4

theorem State.sfuNorm_same (x1 : State) (x2 x3 : Nat) (x4 : SfuOp) :
    Same [.dict, .lastStatus, .freeCtr, .hostMem, .entries, .cores, .runs, .grants, .orphans, .stores, .pair, .ports, .streams, .pw, .test] x1 (State.sfuNorm x1 x2 x3 x4) := by
  unfold State.sfuNorm
  with_reducible refine State.sfuStart_same (by decide) ?_ ?_
  · exact Same.refl _ _
  · intro y0 y1 y2 y3 h4
    with_reducible refine Same.step (State.sfuRows_same _ _ _ _ _) (by decide) ?_
    exact h4

theorem execRmsnorm_same (x1 : Fin 8) (x2 : Fin 48) (x3 : State) :
    OutSame [.dict, .lastStatus, .freeCtr, .hostMem, .entries, .cores, .runs, .grants, .orphans, .stores, .pair, .ports, .streams, .pw, .test] x3 (execRmsnorm x1 x2 x3) := by
  unfold execRmsnorm
  refine OutSame.next ?_
  with_reducible refine Same.step (State.sfuNorm_same _ _ _ _) (by decide) ?_
  exact Same.refl _ _

theorem execLayernorm_same (x1 : Fin 8) (x2 : Fin 48) (x3 : State) :
    OutSame [.dict, .lastStatus, .freeCtr, .hostMem, .entries, .cores, .runs, .grants, .orphans, .stores, .pair, .ports, .streams, .pw, .test] x3 (execLayernorm x1 x2 x3) := by
  unfold execLayernorm
  refine OutSame.next ?_
  with_reducible refine Same.step (State.sfuNorm_same _ _ _ _) (by decide) ?_
  exact Same.refl _ _

theorem execRedsum_same (x1 : Fin 8) (x2 : Fin 48) (x3 : State) :
    OutSame [.dict, .lastStatus, .freeCtr, .hostMem, .entries, .cores, .runs, .grants, .orphans, .stores, .pair, .ports, .streams, .pw, .test] x3 (execRedsum x1 x2 x3) := by
  unfold execRedsum
  refine OutSame.next ?_
  with_reducible refine State.sfuStart_same (by decide) ?_ ?_
  · exact Same.refl _ _
  · intro y0 y1 y2 y3 h4
    with_reducible refine Same.step (State.sfuRows_same _ _ _ _ _) (by decide) ?_
    exact h4

theorem execRedmax_same (x1 : Fin 8) (x2 : Fin 48) (x3 : State) :
    OutSame [.dict, .lastStatus, .freeCtr, .hostMem, .entries, .cores, .runs, .grants, .orphans, .stores, .pair, .ports, .streams, .pw, .test] x3 (execRedmax x1 x2 x3) := by
  unfold execRedmax
  refine OutSame.next ?_
  with_reducible refine State.sfuStart_same (by decide) ?_ ?_
  · exact Same.refl _ _
  · intro y0 y1 y2 y3 h4
    with_reducible refine Same.step (State.sfuRows_same _ _ _ _ _) (by decide) ?_
    exact h4

theorem execTopk_same (x1 : Fin 8) (x2 : Fin 48) (x3 : State) :
    OutSame [.dict, .lastStatus, .freeCtr, .hostMem, .entries, .cores, .runs, .grants, .orphans, .stores, .pair, .ports, .streams, .pw, .test] x3 (execTopk x1 x2 x3) := by
  unfold execTopk
  refine OutSame.next ?_
  with_reducible refine State.sfuStart_same (by decide) ?_ ?_
  · exact Same.refl _ _
  · intro y0 y1 y2 y3 h4
    with_reducible refine Same.step (State.sfuRows_same _ _ _ _ _) (by decide) ?_
    exact h4

theorem State.holdRecord_same (x1 : State) (x2 : Nat) (x3 : List Nat) :
    Same [.runs] x1 (State.holdRecord x1 x2 x3) := by
  unfold State.holdRecord
  split
  · rename_i e0 e1 e2
    with_reducible refine Same.step (State.setRun_same _ _ _) (by decide) ?_
    exact Same.refl _ _
  · rename_i e3 e4
    exact Same.refl _ _

theorem State.noteDraws_same (x1 : State) (x2 : Grant) (x3 : List Nat) (x4 : List Draw) :
    Same [.entries] x1 (State.noteDraws x1 x2 x3 x4) := by
  unfold State.noteDraws
  with_reducible refine Same.step (State.setEntry_same _ _ _ _) (by decide) ?_
  exact Same.refl _ _

theorem State.sampleRun_same (x1 : State) (x2 : Nat) (x3 : Grant) (x4 : QInstr) :
    Same [.entries, .cores, .runs] x1 (State.sampleRun x1 x2 x3 x4) := by
  unfold State.sampleRun
  extract_lets v0 v1 v2 v3 v4 v5 v6 v7
  split
  rename_i e8 e9 e10 e11
  with_reducible refine Same.step (State.noteDraws_same _ _ _ _) (by decide) ?_
  with_reducible refine Same.step (State.holdRecord_same _ _ _) (by decide) ?_
  with_reducible refine Same.step (State.flagRun_same _ _ _) (by decide) ?_
  with_reducible refine Same.step (State.setScratch_same _ _ _) (by decide) ?_
  exact Same.refl _ _

theorem execSample_same (x1 : Fin 8) (x2 : Fin 48) (x3 : State) :
    OutSame [.dict, .lastStatus, .freeCtr, .hostMem, .entries, .cores, .runs, .grants, .orphans, .stores, .pair, .ports, .streams, .pw, .test] x3 (execSample x1 x2 x3) := by
  unfold execSample
  refine OutSame.next ?_
  with_reducible refine State.sfuStart_same (by decide) ?_ ?_
  · exact Same.refl _ _
  · intro y0 y1 y2 y3 h4
    with_reducible refine Same.step (State.sampleRun_same _ _ _ _) (by decide) ?_
    exact h4

theorem State.verifyRun_same (x1 : State) (x2 : Nat) (x3 : Grant) (x4 : QInstr) :
    Same [.entries, .cores, .runs] x1 (State.verifyRun x1 x2 x3 x4) := by
  unfold State.verifyRun
  extract_lets v0 v1 v2 v3 v4 v5 v6 v7 v8 v9
  split
  rename_i e10 e11 e12 e13
  with_reducible refine Same.step (State.noteDraws_same _ _ _ _) (by decide) ?_
  with_reducible refine Same.step (State.holdRecord_same _ _ _) (by decide) ?_
  with_reducible refine Same.step (State.flagRun_same _ _ _) (by decide) ?_
  with_reducible refine Same.step (State.setScratch_same _ _ _) (by decide) ?_
  exact Same.refl _ _

theorem execTreeverify_same (x1 : Fin 8) (x2 : Fin 48) (x3 : State) :
    OutSame [.dict, .lastStatus, .freeCtr, .hostMem, .entries, .cores, .runs, .grants, .orphans, .stores, .pair, .ports, .streams, .pw, .test] x3 (execTreeverify x1 x2 x3) := by
  unfold execTreeverify
  refine OutSame.next ?_
  with_reducible refine State.sfuStart_same (by decide) ?_ ?_
  · exact Same.refl _ _
  · intro y0 y1 y2 y3 h4
    with_reducible refine Same.step (State.verifyRun_same _ _ _ _) (by decide) ?_
    exact h4

end Sys2Proof.Machine
end

