-- ==== Sys2Proof/Laws/FramePair.lean ====
section
/-! SUPPORT. Frames of the functions of Machine/Pair.lean: one lemma a function, which says what parts of the state it
can change. -/

namespace Sys2Proof.Machine

open Sys2Proof

theorem State.tracePair_same (x1 : State) (x2 x3 : Nat) :
    Same [.dict, .freeCtr, .test] x1 (State.tracePair x1 x2 x3) := by
  unfold State.tracePair
  with_reducible refine Same.step (State.traceOpen_same _ _ _ _ _ _ _) (by decide) ?_
  exact Same.refl _ _

theorem State.setPair_same (x1 : State) (x2 : Pair → Pair) :
    Same [.pair] x1 (State.setPair x1 x2) := by
  unfold State.setPair
  with_reducible refine Same.record rfl ?_ ?_
  · intro p hp; cases p <;> first | exact absurd (by decide) hp | exact rfl
  exact Same.refl _ _

theorem State.tellMore_same (x1 : State) (x2 : List PairMsg) :
    Same [.seqs, .pair] x1 (State.tellMore x1 x2) := by
  unfold State.tellMore
  refine Same.ite ?_ ?_
  · refine Same.foldl ?_ fun q0 y1 h2 => ?_
    · with_reducible refine Same.step (State.setPair_same _ _) (by decide) ?_
      exact Same.refl _ _
    · with_reducible refine Same.step (State.enqueue_same _ _) (by decide) ?_
      exact h2
  · exact Same.refl _ _

theorem State.tell_same (x1 : State) (x2 : List PairMsg) :
    Same [.seqs, .pair] x1 (State.tell x1 x2) := by
  unfold State.tell
  refine Same.ite ?_ ?_
  · with_reducible refine Same.step (State.tellMore_same _ _) (by decide) ?_
    with_reducible refine Same.step (State.setPair_same _ _) (by decide) ?_
    exact Same.refl _ _
  · exact Same.refl _ _

theorem State.setRole_same (x1 : State) (x2 : Role) :
    Same [.seqs, .pair] x1 (State.setRole x1 x2) := by
  unfold State.setRole
  refine Same.ite ?_ ?_
  · exact Same.refl _ _
  · extract_lets v0
    refine Same.have v0 ?_ fun h1 => ?_
    · with_reducible refine Same.step (State.setPair_same _ _) (by decide) ?_
      exact Same.refl _ _
    clear_value v0
    with_reducible refine Same.step (State.tellMore_same _ _) (by decide) ?_
    exact h1

theorem State.setClaim_same (x1 : State) (x2 : Nat) :
    Same [.dict, .nv] x1 (State.setClaim x1 x2) := by
  unfold State.setClaim
  extract_lets v0
  refine Same.ite ?_ ?_
  · exact Same.refl _ _
  · with_reducible refine Same.step (State.setReg_same _ _ _) (by decide) ?_
    with_reducible refine Same.record rfl ?_ ?_
    · intro p hp; cases p <;> first | exact absurd (by decide) hp | exact rfl
    exact Same.refl _ _

theorem State.setSync_same (x1 : State) (x2 x3 : Nat) :
    Same [.dict, .freeCtr, .ports, .streams, .test] x1 (State.setSync x1 x2 x3) := by
  unfold State.setSync
  extract_lets v0 v1
  refine Same.have v1 ?_ fun h2 => ?_
  · with_reducible refine Same.step (State.setStream_same _ _ _) (by decide) ?_
    exact Same.refl _ _
  clear_value v1
  refine Same.ite ?_ ?_
  · exact Same.refl _ _
  · refine Same.ite ?_ ?_
    · with_reducible refine Same.step (State.event_same _ _ _ _) (by decide) ?_
      exact h2
    · refine Same.ite ?_ ?_
      · with_reducible refine Same.step (State.event_same _ _ _ _) (by decide) ?_
        exact h2
      · exact h2

theorem State.unsyncAll_same (x1 : State) :
    Same [.dict, .freeCtr, .ports, .streams, .test] x1 (State.unsyncAll x1) := by
  unfold State.unsyncAll
  refine Same.foldl ?_ fun q0 y1 h2 => ?_
  · exact Same.refl _ _
  · with_reducible refine Same.step (State.setSync_same _ _ _) (by decide) ?_
    exact h2

theorem State.syncLed_same (x1 : State) (x2 : Nat) :
    Same [.dict, .freeCtr, .ports, .streams, .test] x1 (State.syncLed x1 x2) := by
  unfold State.syncLed
  refine Same.foldl ?_ fun q0 y1 h2 => ?_
  · exact Same.refl _ _
  · with_reducible refine Same.step (State.setSync_same _ _ _) (by decide) ?_
    exact h2

theorem State.endRejoin_same (x1 : State) :
    Same [.dict, .pair] x1 (State.endRejoin x1) := by
  unfold State.endRejoin
  refine Same.ite ?_ ?_
  · with_reducible refine Same.step (State.setReg_same _ _ _) (by decide) ?_
    with_reducible refine Same.step (State.setPair_same _ _) (by decide) ?_
    exact Same.refl _ _
  · exact Same.refl _ _

theorem State.takeActive_same (x1 : State) :
    Same [.dict, .freeCtr, .seqs, .pair, .ports, .streams, .test] x1 (State.takeActive x1) := by
  unfold State.takeActive
  extract_lets v0
  refine Same.have v0 ?_ fun h1 => ?_
  · with_reducible refine Same.step (State.setPair_same _ _) (by decide) ?_
    with_reducible refine Same.step (State.endRejoin_same _) (by decide) ?_
    exact Same.refl _ _
  clear_value v0
  with_reducible refine Same.step (State.setRole_same _ _) (by decide) ?_
  with_reducible refine Same.step (State.syncLed_same _ _) (by decide) ?_
  exact h1

theorem State.takeStandby_same (x1 : State) :
    Same [.dict, .freeCtr, .seqs, .pair, .ports, .streams, .test] x1 (State.takeStandby x1) := by
  unfold State.takeStandby
  extract_lets v0
  refine Same.have v0 ?_ fun h1 => ?_
  · with_reducible refine Same.step (State.setPair_same _ _) (by decide) ?_
    exact Same.refl _ _
  clear_value v0
  with_reducible refine Same.step (State.setRole_same _ _) (by decide) ?_
  with_reducible refine Same.step (State.syncLed_same _ _) (by decide) ?_
  exact h1

theorem State.detach_same (x1 : State) :
    Same [.dict, .freeCtr, .seqs, .pair, .ports, .streams, .test] x1 (State.detach x1) := by
  unfold State.detach
  with_reducible refine Same.step (State.unsyncAll_same _) (by decide) ?_
  with_reducible refine Same.step (State.setRole_same _ _) (by decide) ?_
  with_reducible refine Same.step (State.setPair_same _ _) (by decide) ?_
  with_reducible refine Same.step (State.releaseHeld_same _) (by decide) ?_
  exact Same.refl _ _

theorem execPairLinkUp_same (x1 : Nat) (x2 : State) :
    OutSame [.seqs, .pair] x2 (execPairLinkUp x1 x2) := by
  unfold execPairLinkUp
  refine OutSame.ite ?_ ?_
  · refine OutSame.next ?_
    exact Same.refl _ _
  · extract_lets v0
    refine OutSame.have v0 ?_ fun h1 => ?_
    · with_reducible refine Same.step (State.setPair_same _ _) (by decide) ?_
      exact Same.refl _ _
    clear_value v0
    refine OutSame.next ?_
    refine Same.ite ?_ ?_
    · with_reducible refine Same.step (State.tell_same _ _) (by decide) ?_
      exact h1
    · exact h1

theorem execPairLinkDown_same (x1 : State) :
    OutSame [.dict, .pair, .ports, .freeCtr, .test] x1 (execPairLinkDown x1) := by
  unfold execPairLinkDown
  refine OutSame.next ?_
  with_reducible refine Same.step (State.pairLost_same _) (by decide) ?_
  exact Same.refl _ _

theorem execHelloTimer_same (x1 : State) :
    OutSame [.seqs, .pair] x1 (execHelloTimer x1) := by
  unfold execHelloTimer
  refine OutSame.next ?_
  with_reducible refine when_same ?_ ?_
  · with_reducible refine Same.step (State.tell_same _ _) (by decide) ?_
    exact Same.refl _ _
  · exact Same.refl _ _

theorem State.judgeJoin_same (x1 : State) (x2 : Hello) :
    Same [.pair] x1 (State.judgeJoin x1 x2) := by
  unfold State.judgeJoin
  extract_lets v0 v1
  with_reducible refine Same.step (State.setPair_same _ _) (by decide) ?_
  exact Same.refl _ _

theorem State.leadNow_same (x1 : State) :
    Same [.dict, .freeCtr, .seqs, .pair, .ports, .streams, .test] x1 (State.leadNow x1) := by
  unfold State.leadNow
  refine Same.ite ?_ ?_
  · exact Same.refl _ _
  · with_reducible refine Same.step (State.takeActive_same _) (by decide) ?_
    with_reducible refine Same.step (State.setPair_same _ _) (by decide) ?_
    with_reducible refine Same.step (State.releaseHeld_same _) (by decide) ?_
    exact Same.refl _ _

theorem State.unrefuse_same (x1 : State) (x2 : Hello) :
    Same [.pair] x1 (State.unrefuse x1 x2) := by
  unfold State.unrefuse
  refine Same.ite ?_ ?_
  · with_reducible refine Same.step (State.setPair_same _ _) (by decide) ?_
    exact Same.refl _ _
  · exact Same.refl _ _

theorem State.followPartner_same (x1 : State) (x2 : Hello) :
    Same [.tb, .pair] x1 (State.followPartner x1 x2) := by
  unfold State.followPartner
  refine Same.ite ?_ ?_
  · extract_lets v0 v1
    refine Same.have v0 ?_ fun h2 => ?_
    · with_reducible refine Same.step (State.setPair_same _ _) (by decide) ?_
      exact Same.refl _ _
    clear_value v0
    with_reducible refine Same.record rfl ?_ ?_
    · intro p hp; cases p <;> first | exact absurd (by decide) hp | exact rfl
    exact h2
  · exact Same.refl _ _

theorem State.takeHello_same (x1 : State) (x2 : Hello) :
    Same [.dict, .nv, .freeCtr, .tb, .seqs, .pair, .ports, .streams, .test] x1 (State.takeHello x1 x2) := by
  unfold State.takeHello
  extract_lets v0 v1 v2 v3
  refine Same.have v0 ?_ fun h4 => ?_
  · with_reducible refine Same.step (State.judgeJoin_same _ _) (by decide) ?_
    with_reducible refine Same.step (State.setReg_same _ _ _) (by decide) ?_
    with_reducible refine Same.step (State.unrefuse_same _ _) (by decide) ?_
    with_reducible refine Same.step (State.setPair_same _ _) (by decide) ?_
    exact Same.refl _ _
  clear_value v0
  refine Same.have v1 ?_ fun h5 => ?_
  · refine Same.ite ?_ ?_
    · with_reducible refine Same.step (State.setClaim_same _ _) (by decide) ?_
      exact h4
    · exact h4
  clear_value v1
  refine Same.have v2 ?_ fun h6 => ?_
  · with_reducible refine Same.step (State.setPair_same _ _) (by decide) ?_
    exact h5
  clear_value v2
  refine Same.have v3 ?_ fun h7 => ?_
  · with_reducible refine Same.step (State.followPartner_same _ _) (by decide) ?_
    exact h4
  clear_value v3
  refine Same.ite ?_ ?_
  · refine Same.foldl ?_ fun q8 y9 h10 => ?_
    · with_reducible refine Same.step (State.leadNow_same _) (by decide) ?_
      exact h6
    · with_reducible refine Same.step (State.setSync_same _ _ _) (by decide) ?_
      exact h10
  · split
    · rename_i e11 e12
      refine Same.ite ?_ ?_
      · with_reducible refine Same.step (State.setPair_same _ _) (by decide) ?_
        exact h7
      · with_reducible refine Same.step (State.setRole_same _ _) (by decide) ?_
        exact h7
    · rename_i e13 e14
      refine Same.ite ?_ ?_
      · with_reducible refine Same.step (State.setPair_same _ _) (by decide) ?_
        exact h7
      · with_reducible refine Same.step (State.setRole_same _ _) (by decide) ?_
        exact h7
    · rename_i e15 e16
      refine Same.ite ?_ ?_
      · exact h7
      · with_reducible refine Same.step (State.detach_same _) (by decide) ?_
        exact h7
    · rename_i e17 e18
      refine Same.ite ?_ ?_
      · with_reducible refine Same.step (State.setPair_same _ _) (by decide) ?_
        exact h7
      · exact h7
    · rename_i e19 e20 e21 e22 e23
      exact h7

theorem execHello_same (x1 : Hello) (x2 : State) :
    OutSame [.dict, .nv, .freeCtr, .tb, .seqs, .pair, .ports, .streams, .test] x2 (execHello x1 x2) := by
  unfold execHello
  refine OutSame.next ?_
  with_reducible refine when_same ?_ ?_
  · with_reducible refine Same.step (State.takeHello_same _ _) (by decide) ?_
    with_reducible refine Same.step (State.setPair_same _ _) (by decide) ?_
    exact Same.refl _ _
  · exact Same.refl _ _

theorem execJoinTimeout_same (x1 : State) :
    OutSame [.seqs, .pair] x1 (execJoinTimeout x1) := by
  unfold execJoinTimeout
  refine OutSame.next ?_
  with_reducible refine when_same ?_ ?_
  · with_reducible refine Same.step (State.setRole_same _ _) (by decide) ?_
    with_reducible refine Same.step (State.setPair_same _ _) (by decide) ?_
    exact Same.refl _ _
  · exact Same.refl _ _

theorem execClaim_same (x1 : Nat) (x2 : State) :
    OutSame [.dict, .pair] x2 (execClaim x1 x2) := by
  unfold execClaim
  refine OutSame.ite ?_ ?_
  · refine OutSame.next ?_
    exact Same.refl _ _
  · extract_lets v0
    refine OutSame.have v0 ?_ fun h1 => ?_
    · with_reducible refine Same.step (State.setReg_same _ _ _) (by decide) ?_
      with_reducible refine Same.step (State.setPair_same _ _) (by decide) ?_
      exact Same.refl _ _
    clear_value v0
    refine OutSame.next ?_
    refine Same.ite ?_ ?_
    · with_reducible refine Same.step (State.setPair_same _ _) (by decide) ?_
      exact h1
    · exact h1

theorem execPricking_same (x1 : PrickCopy) (x2 : State) :
    OutSame [.pair] x2 (execPricking x1 x2) := by
  unfold execPricking
  extract_lets v0
  refine OutSame.next ?_
  with_reducible refine when_same ?_ ?_
  · with_reducible refine Same.step (State.setPair_same _ _) (by decide) ?_
    exact Same.refl _ _
  · exact Same.refl _ _

theorem State.fixNext_same (x1 : State) (x2 : Prickings) :
    Same [.dict, .prick] x1 (State.fixNext x1 x2) := by
  unfold State.fixNext
  split
  rename_i e0 e1 e2 e3
  extract_lets v4
  refine Same.have v4 ?_ fun h5 => ?_
  · dsimp only [v4]
    with_reducible refine Same.record rfl ?_ ?_
    · intro p hp; cases p <;> first | exact absurd (by decide) hp | exact rfl
    exact Same.refl _ _
  clear_value v4
  refine Same.ite ?_ ?_
  · with_reducible refine Same.step (State.bump_same _ _) (by decide) ?_
    exact h5
  · exact h5

theorem execStandbyPrickingFix_same (x1 : State) :
    OutSame [.dict, .prick, .pair] x1 (execStandbyPrickingFix x1) := by
  unfold execStandbyPrickingFix
  extract_lets v0 v1 v2 v3
  refine OutSame.ite ?_ ?_
  · refine OutSame.next ?_
    exact Same.refl _ _
  · refine OutSame.next ?_
    with_reducible refine Same.step (State.setPair_same _ _) (by decide) ?_
    with_reducible refine Same.step (State.fixNext_same _ _) (by decide) ?_
    exact Same.refl _ _

theorem State.beginArbitration_same (x1 : State) (x2 : Nat) :
    Same [.seqs, .pair] x1 (State.beginArbitration x1 x2) := by
  unfold State.beginArbitration
  extract_lets v0
  with_reducible refine Same.step (State.tellMore_same _ _) (by decide) ?_
  with_reducible refine Same.step (State.setPair_same _ _) (by decide) ?_
  exact Same.refl _ _

theorem State.score_same (x1 : State) (x2 : Nat) (x3 : CompareClass) :
    Same [.dict, .seqs, .pair] x1 (State.score x1 x2 x3) := by
  unfold State.score
  extract_lets v0 v1 v2 v3 v4
  refine Same.have v1 ?_ fun h5 => ?_
  · with_reducible refine Same.step (State.bump_same _ _) (by decide) ?_
    with_reducible refine Same.step (State.setPair_same _ _) (by decide) ?_
    exact Same.refl _ _
  clear_value v1
  refine Same.have v2 ?_ fun h6 => ?_
  · refine Same.ite ?_ ?_
    · with_reducible refine Same.step (State.bump_same _ _) (by decide) ?_
      exact h5
    · refine Same.ite ?_ ?_
      · with_reducible refine Same.step (State.bump_same _ _) (by decide) ?_
        exact h5
      · exact h5
  clear_value v2
  refine Same.have v4 ?_ fun h7 => ?_
  · with_reducible refine Same.step (State.setReg_same _ _ _) (by decide) ?_
    exact h6
  clear_value v4
  refine Same.ite ?_ ?_
  · with_reducible refine Same.step (State.setReg_same _ _ _) (by decide) ?_
    with_reducible refine Same.step (State.beginArbitration_same _ _) (by decide) ?_
    exact h7
  · exact h7

theorem State.compareStep_same (x1 : State) (x2 : List Nat) (x3 : Bool) (x4 : ActiveStep) :
    Same [.dict, .freeCtr, .seqs, .pair, .ports, .streams, .test] x1 (State.compareStep x1 x2 x3 x4) := by
  unfold State.compareStep
  refine Same.ite ?_ ?_
  · exact Same.refl _ _
  · split
    · rename_i e0 e1
      refine Same.ite ?_ ?_
      · with_reducible refine Same.step (State.setPair_same _ _) (by decide) ?_
        exact Same.refl _ _
      · refine Same.ite ?_ ?_
        · with_reducible refine Same.step (State.setSync_same _ _ _) (by decide) ?_
          exact Same.refl _ _
        · exact Same.refl _ _
    · rename_i e2 e3 e4
      extract_lets v5 v6 v7
      refine Same.have v5 ?_ fun h8 => ?_
      · with_reducible refine Same.step (State.setPair_same _ _) (by decide) ?_
        exact Same.refl _ _
      clear_value v5
      refine Same.have v7 ?_ fun h9 => ?_
      · with_reducible refine Same.step (State.tracePair_same _ _ _) (by decide) ?_
        with_reducible refine Same.step (State.score_same _ _ _) (by decide) ?_
        exact h8
      clear_value v7
      refine Same.ite ?_ ?_
      · refine Same.ite ?_ ?_
        · refine Same.ite ?_ ?_
          · exact h9
          · with_reducible refine Same.step (State.setSync_same _ _ _) (by decide) ?_
            exact h9
        · exact h8
      · refine Same.ite ?_ ?_
        · with_reducible refine Same.step (State.setSync_same _ _ _) (by decide) ?_
          exact h8
        · refine Same.ite ?_ ?_
          · with_reducible refine Same.step (State.setSync_same _ _ _) (by decide) ?_
            exact h8
          · exact h8

theorem State.adopt_same (x1 : State) (x2 : ActiveStep) :
    Same [.streams] x1 (State.adopt x1 x2) := by
  unfold State.adopt
  extract_lets v0 v1 v2
  refine Same.ite ?_ ?_
  · exact Same.refl _ _
  · with_reducible refine Same.step (State.setStream_same _ _ _) (by decide) ?_
    exact Same.refl _ _

theorem State.sendAdopted_same (x1 : State) (x2 : Nat) (x3 : List StepNote) (x4 : List ActiveStep) (x5 : ActiveOut) :
    Same [.dict, .ports, .freeCtr, .test] x1 (State.sendAdopted x1 x2 x3 x4 x5) := by
  unfold State.sendAdopted
  extract_lets v0 v1
  refine Same.ite ?_ ?_
  · clear_value v0
    split
    · rename_i e2 e3
      refine Same.ite ?_ ?_
      · with_reducible refine Same.step (State.postOut_same _ _ _ _) (by decide) ?_
        exact Same.refl _ _
      · exact Same.refl _ _
    · rename_i e4
      exact Same.refl _ _
  · refine Same.ite ?_ ?_
    · exact Same.refl _ _
    · with_reducible refine Same.step (State.postOut_same _ _ _ _) (by decide) ?_
      exact Same.refl _ _

theorem State.sendTrigger_same (x1 : State) (x2 x3 : Nat) (x4 : List Byte) :
    Same [.dict, .freeCtr, .requests, .seqs, .xports, .hub, .test] x1 (State.sendTrigger x1 x2 x3 x4) := by
  unfold State.sendTrigger
  refine Same.ite ?_ ?_
  · exact Same.refl _ _
  · with_reducible refine Same.step (State.send_same _ _) (by decide) ?_
    with_reducible refine Same.step (State.noteSend_same _ _ _) (by decide) ?_
    exact Same.refl _ _

theorem State.raiseClaim_same (x1 : State) :
    Same [.dict, .nv, .freeCtr, .requests, .seqs, .xports, .hub, .pair, .test] x1 (State.raiseClaim x1) := by
  unfold State.raiseClaim
  extract_lets v0 v1 v2
  refine Same.have v0 ?_ fun h3 => ?_
  · with_reducible refine Same.step (State.setClaim_same _ _) (by decide) ?_
    exact Same.refl _ _
  clear_value v0
  refine Same.have v2 ?_ fun h4 => ?_
  · with_reducible refine Same.step (State.tellMore_same _ _) (by decide) ?_
    exact h3
  clear_value v2
  refine Same.foldl ?_ fun q5 y6 h7 => ?_
  · exact h4
  · with_reducible refine Same.step (State.setPair_same _ _) (by decide) ?_
    with_reducible refine Same.step (State.sendTrigger_same _ _ _ _) (by decide) ?_
    exact h7

theorem State.takeover_same (x1 : State) :
    Same [.dict, .nv, .freeCtr, .requests, .seqs, .xports, .hub, .pair, .test] x1 (State.takeover x1) := by
  unfold State.takeover
  with_reducible refine Same.step (State.bump_same _ _) (by decide) ?_
  with_reducible refine Same.step (State.setPair_same _ _) (by decide) ?_
  with_reducible refine Same.step (State.raiseClaim_same _) (by decide) ?_
  exact Same.refl _ _

theorem State.missRecord_same (x1 : State) :
    Same [.dict, .nv, .freeCtr, .requests, .seqs, .xports, .hub, .pair, .ports, .test] x1 (State.missRecord x1) := by
  unfold State.missRecord
  extract_lets v0 v1 v2
  refine Same.have v0 ?_ fun h3 => ?_
  · with_reducible refine Same.step (State.tracePair_same _ _ _) (by decide) ?_
    with_reducible refine Same.step (State.releaseHeld_same _) (by decide) ?_
    exact Same.refl _ _
  clear_value v0
  refine Same.have v1 ?_ fun h4 => ?_
  · with_reducible refine Same.step (State.bump_same _ _) (by decide) ?_
    with_reducible refine Same.step (State.setPair_same _ _) (by decide) ?_
    exact h3
  clear_value v1
  refine Same.ite ?_ ?_
  · exact h4
  · refine Same.ite ?_ ?_
    · with_reducible refine Same.step (State.tellMore_same _ _) (by decide) ?_
      with_reducible refine Same.step (State.setPair_same _ _) (by decide) ?_
      with_reducible refine Same.step (State.sendTrigger_same _ _ _ _) (by decide) ?_
      exact h4
    · with_reducible refine Same.step (State.takeover_same _) (by decide) ?_
      exact h4

theorem State.applyRecord_same (x1 : State) (x2 : List Byte) (x3 : Nat) :
    Same [.dict, .freeCtr, .seqs, .pair, .ports, .streams, .test] x1 (State.applyRecord x1 x2 x3) := by
  unfold State.applyRecord
  extract_lets v0 v1 v2 v3 v4 v5 v6 v7 v8 v9 v10 v11 v12
  refine Same.have v6 ?_ fun h13 => ?_
  · with_reducible refine Same.step (State.setPair_same _ _) (by decide) ?_
    exact Same.refl _ _
  clear_value v6
  refine Same.have v7 ?_ fun h14 => ?_
  · refine Same.foldl ?_ fun q15 y16 h17 => ?_
    · exact h13
    · with_reducible refine Same.step (State.compareStep_same _ _ _ _) (by decide) ?_
      exact h17
  clear_value v7
  refine Same.have v8 ?_ fun h18 => ?_
  · refine Same.foldl ?_ fun q19 y20 h21 => ?_
    · exact h14
    · with_reducible refine Same.step (State.bump_same _ _) (by decide) ?_
      with_reducible refine Same.step (State.setSync_same _ _ _) (by decide) ?_
      exact h21
  clear_value v8
  refine Same.have v9 ?_ fun h22 => ?_
  · refine Same.foldl ?_ fun q23 y24 h25 => ?_
    · exact h18
    · with_reducible refine Same.step (State.adopt_same _ _) (by decide) ?_
      exact h25
  clear_value v9
  refine Same.have v10 ?_ fun h26 => ?_
  · refine Same.foldl ?_ fun q27 y28 h29 => ?_
    · exact h22
    · with_reducible refine Same.step (State.sendAdopted_same _ _ _ _ _) (by decide) ?_
      exact h29
  clear_value v10
  refine Same.have v11 ?_ fun h30 => ?_
  · refine Same.ite ?_ ?_
    · exact h18
    · with_reducible refine Same.step (State.setPair_same _ _) (by decide) ?_
      exact h26
  clear_value v11
  refine Same.have v12 ?_ fun h31 => ?_
  · with_reducible refine Same.step (State.setPair_same _ _) (by decide) ?_
    exact h30
  clear_value v12
  refine Same.ite ?_ ?_
  · with_reducible refine Same.step (State.detach_same _) (by decide) ?_
    with_reducible refine Same.step (State.setPair_same _ _) (by decide) ?_
    exact h31
  · exact h31

theorem execCommit_same (x1 : List Byte) (x2 : State) :
    OutSame [.dict, .nv, .freeCtr, .requests, .seqs, .xports, .hub, .pair, .ports, .streams, .test] x2 (execCommit x1 x2) := by
  unfold execCommit
  refine OutSame.ite ?_ ?_
  · refine OutSame.next ?_
    exact Same.refl _ _
  · extract_lets v0
    refine OutSame.have v0 ?_ fun h1 => ?_
    · with_reducible refine Same.step (State.setPair_same _ _) (by decide) ?_
      exact Same.refl _ _
    clear_value v0
    split
    · rename_i e2 e3
      refine OutSame.next ?_
      with_reducible refine Same.step (State.bump_same _ _) (by decide) ?_
      with_reducible refine Same.step (State.tracePair_same _ _ _) (by decide) ?_
      exact h1
    · rename_i e4 e5 e6
      refine OutSame.ite ?_ ?_
      · refine OutSame.next ?_
        with_reducible refine Same.step (State.tracePair_same _ _ _) (by decide) ?_
        with_reducible refine Same.step (State.applyRecord_same _ _ _) (by decide) ?_
        exact h1
      · refine OutSame.next ?_
        refine Same.ite ?_ ?_
        · exact h1
        · with_reducible refine Same.step (State.missRecord_same _) (by decide) ?_
          exact h1

theorem execCommitHoldExpiry_same (x1 : State) :
    OutSame [.dict, .nv, .freeCtr, .requests, .seqs, .xports, .hub, .pair, .ports, .test] x1 (execCommitHoldExpiry x1) := by
  unfold execCommitHoldExpiry
  refine OutSame.next ?_
  with_reducible refine when_same ?_ ?_
  · with_reducible refine Same.step (State.missRecord_same _) (by decide) ?_
    with_reducible refine Same.step (State.setPair_same _ _) (by decide) ?_
    exact Same.refl _ _
  · exact Same.refl _ _

theorem execPingWaitExpiry_same (x1 : State) :
    OutSame [.dict, .nv, .freeCtr, .requests, .seqs, .xports, .hub, .pair, .ports, .streams, .test] x1 (execPingWaitExpiry x1) := by
  unfold execPingWaitExpiry
  refine OutSame.ite ?_ ?_
  · refine OutSame.next ?_
    exact Same.refl _ _
  · extract_lets v0 v1
    refine OutSame.have v1 ?_ fun h2 => ?_
    · with_reducible refine Same.step (State.setPair_same _ _) (by decide) ?_
      exact Same.refl _ _
    clear_value v1
    refine OutSame.next ?_
    refine Same.ite ?_ ?_
    · with_reducible refine Same.step (State.detach_same _) (by decide) ?_
      exact h2
    · with_reducible refine Same.step (State.takeover_same _) (by decide) ?_
      exact h2

theorem State.writePairCommand_same (x1 : State) (x2 : Nat) :
    Same [.dict, .lastStatus, .freeCtr, .seqs, .pair, .ports, .streams, .test] x1 (State.writePairCommand x1 x2) := by
  unfold State.writePairCommand
  refine Same.ite ?_ ?_
  · with_reducible refine Same.step (State.answer_same _ _) (by decide) ?_
    exact Same.refl _ _
  · refine Same.ite ?_ ?_
    · refine Same.ite ?_ ?_
      · with_reducible refine Same.step (State.answer_same _ _) (by decide) ?_
        exact Same.refl _ _
      · refine Same.ite ?_ ?_
        · with_reducible refine Same.step (State.answer_same _ _) (by decide) ?_
          exact Same.refl _ _
        · extract_lets v0
          with_reducible refine Same.step (State.answer_same _ _) (by decide) ?_
          with_reducible refine Same.step (State.setReg_same _ _ _) (by decide) ?_
          with_reducible refine Same.step (State.tell_same _ _) (by decide) ?_
          with_reducible refine Same.step (State.setPair_same _ _) (by decide) ?_
          exact Same.refl _ _
    · refine Same.ite ?_ ?_
      · with_reducible refine Same.step (State.answer_same _ _) (by decide) ?_
        exact Same.refl _ _
      · with_reducible refine Same.step (State.answer_same _ _) (by decide) ?_
        with_reducible refine Same.step (State.setReg_same _ _ _) (by decide) ?_
        with_reducible refine Same.step (State.setRole_same _ _) (by decide) ?_
        with_reducible refine Same.step (State.unsyncAll_same _) (by decide) ?_
        with_reducible refine Same.step (State.setPair_same _ _) (by decide) ?_
        exact Same.refl _ _

theorem execSwitchover_same (x1 : State) :
    OutSame [.dict, .lastStatus, .freeCtr, .seqs, .pair, .ports, .streams, .test] x1 (execSwitchover x1) := by
  unfold execSwitchover
  refine OutSame.next ?_
  with_reducible refine Same.step (State.writePairCommand_same _ _) (by decide) ?_
  exact Same.refl _ _

theorem execRejoin_same (x1 : State) :
    OutSame [.dict, .lastStatus, .freeCtr, .seqs, .pair, .ports, .streams, .test] x1 (execRejoin x1) := by
  unfold execRejoin
  refine OutSame.next ?_
  with_reducible refine Same.step (State.writePairCommand_same _ _) (by decide) ?_
  exact Same.refl _ _

theorem execYield_same (x1 : Nat) (x2 : State) :
    OutSame [.pair] x2 (execYield x1 x2) := by
  unfold execYield
  refine OutSame.next ?_
  with_reducible refine when_same ?_ ?_
  · with_reducible refine Same.step (State.setPair_same _ _) (by decide) ?_
    exact Same.refl _ _
  · exact Same.refl _ _

theorem State.katEntry_same (x1 : State) (x2 : Kat) :
    Same [.dict, .entries] x1 (State.katEntry x1 x2) := by
  unfold State.katEntry
  extract_lets v0
  with_reducible refine Same.step (State.bump_same _ _) (by decide) ?_
  with_reducible refine Same.record rfl ?_ ?_
  · intro p hp; cases p <;> first | exact absurd (by decide) hp | exact rfl
  exact Same.refl _ _

theorem State.arbitration_same (x1 : State) (x2 : Kat) :
    Same [.dict, .lastStatus, .freeCtr, .hostMem, .entries, .cores, .runs, .dies, .grants, .orphans, .stores, .seqs, .pair, .ports, .streams, .pw, .test] x1 (State.arbitration x1 x2) := by
  unfold State.arbitration
  split
  · rename_i e0 e1 e2 e3 e4 e5
    extract_lets v6 v7 v8 v9 v10 v11 v12 v13 v14 v15
    refine Same.have v6 ?_ fun h16 => ?_
    · with_reducible refine Same.step (State.setPair_same _ _) (by decide) ?_
      exact Same.refl _ _
    clear_value v6
    refine Same.have v11 ?_ fun h17 => ?_
    · with_reducible refine Same.step (State.reportSite_same _ _) (by decide) ?_
      with_reducible refine Same.step (State.discardDie_same _ _ _) (by decide) ?_
      with_reducible refine Same.step (State.setDie_same _ _ _) (by decide) ?_
      exact h16
    clear_value v11
    refine Same.have v14 ?_ fun h18 => ?_
    · with_reducible refine Same.step (State.setPair_same _ _) (by decide) ?_
      exact h16
    clear_value v14
    refine Same.have v15 ?_ fun h19 => ?_
    · with_reducible refine Same.step (State.reportSite_same _ _) (by decide) ?_
      with_reducible refine Same.step (State.setDie_same _ _ _) (by decide) ?_
      exact h16
    clear_value v15
    clear_value v8
    clear_value v9
    split
    · rename_i e20 e21
      refine Same.ite ?_ ?_
      · refine Same.ite ?_ ?_
        · with_reducible refine Same.step (State.tellMore_same _ _) (by decide) ?_
          with_reducible refine Same.step (State.setPair_same _ _) (by decide) ?_
          exact h17
        · exact h17
      · with_reducible refine Same.step (State.setPair_same _ _) (by decide) ?_
        exact h16
    · rename_i e22 e23
      refine Same.ite ?_ ?_
      · exact h16
      · with_reducible refine Same.step (State.startDieTest_same _ _) (by decide) ?_
        with_reducible refine Same.step (State.setPair_same _ _) (by decide) ?_
        refine Same.foldl ?_ fun q24 y25 h26 => ?_
        · exact h16
        · with_reducible refine Same.step (State.setSync_same _ _ _) (by decide) ?_
          exact h26
    · rename_i e27 e28
      refine Same.ite ?_ ?_
      · exact h16
      · refine Same.ite ?_ ?_
        · with_reducible refine Same.step (State.stick_same _ _ _) (by decide) ?_
          exact h18
        · exact h18
    · rename_i e29 e30
      refine Same.ite ?_ ?_
      · exact h19
      · with_reducible refine Same.step (State.setPair_same _ _) (by decide) ?_
        exact h19
  · rename_i e31 e32 e33
    exact Same.refl _ _

theorem State.katResult_same (x1 : State) (x2 x3 : Nat) (x4 x5 : Bool) :
    Same [.dict, .lastStatus, .freeCtr, .hostMem, .entries, .cores, .runs, .dies, .grants, .orphans, .stores, .seqs, .pair, .ports, .streams, .pw, .test] x1 (State.katResult x1 x2 x3 x4 x5) := by
  unfold State.katResult
  extract_lets v0 v1 v2
  refine Same.have v2 ?_ fun h3 => ?_
  · with_reducible refine Same.step (State.setPair_same _ _) (by decide) ?_
    exact Same.refl _ _
  clear_value v2
  split
  · rename_i e4 e5 e6
    refine Same.ite ?_ ?_
    · with_reducible refine Same.step (State.arbitration_same _ _) (by decide) ?_
      exact h3
    · refine Same.ite ?_ ?_
      · with_reducible refine Same.step (State.setPair_same _ _) (by decide) ?_
        exact h3
      · exact h3
  · rename_i e7 e8
    exact h3

theorem State.katPassed_same (x1 : State) (x2 : Nat) :
    Same [.dict, .dies, .pair] x1 (State.katPassed x1 x2) := by
  unfold State.katPassed
  extract_lets v0 v1
  refine Same.have v0 ?_ fun h2 => ?_
  · with_reducible refine Same.step (State.setPair_same _ _) (by decide) ?_
    with_reducible refine Same.step (State.setReg_same _ _ _) (by decide) ?_
    exact Same.refl _ _
  clear_value v0
  refine Same.ite ?_ ?_
  · with_reducible refine Same.step (State.reportSite_same _ _) (by decide) ?_
    with_reducible refine Same.step (State.setDie_same _ _ _) (by decide) ?_
    exact h2
  · exact h2

theorem State.katOwn_same (x1 : State) (x2 x3 x4 : Nat) :
    Same [.dict, .lastStatus, .freeCtr, .hostMem, .entries, .cores, .runs, .dies, .grants, .orphans, .stores, .seqs, .pair, .ports, .streams, .pw, .test] x1 (State.katOwn x1 x2 x3 x4) := by
  unfold State.katOwn
  split
  · rename_i e0 e1
    exact Same.refl _ _
  · rename_i e2 e3 e4
    extract_lets v5 v6 v7 v8
    refine Same.have v6 ?_ fun h9 => ?_
    · with_reducible refine Same.step (State.setEntry_same _ _ _ _) (by decide) ?_
      with_reducible refine Same.step (State.freeGrant_same _ _) (by decide) ?_
      exact Same.refl _ _
    clear_value v6
    refine Same.have v7 ?_ fun h10 => ?_
    · refine Same.ite ?_ ?_
      · with_reducible refine Same.step (State.katPassed_same _ _) (by decide) ?_
        exact h9
      · exact h9
    clear_value v7
    refine Same.have v8 ?_ fun h11 => ?_
    · refine Same.ite ?_ ?_
      · with_reducible refine Same.step (State.setPair_same _ _) (by decide) ?_
        exact h10
      · exact h10
    clear_value v8
    with_reducible refine Same.step (State.katResult_same _ _ _ _ _) (by decide) ?_
    with_reducible refine Same.step (State.tellMore_same _ _) (by decide) ?_
    exact h11

theorem execKat_same (x1 : KatMsg) (x2 : State) :
    OutSame [.dict, .lastStatus, .freeCtr, .hostMem, .entries, .cores, .runs, .dies, .grants, .orphans, .stores, .seqs, .pair, .ports, .streams, .pw, .test] x2 (execKat x1 x2) := by
  unfold execKat
  refine OutSame.ite ?_ ?_
  · refine OutSame.next ?_
    exact Same.refl _ _
  · extract_lets v0
    refine OutSame.have v0 ?_ fun h1 => ?_
    · with_reducible refine Same.step (State.setPair_same _ _) (by decide) ?_
      exact Same.refl _ _
    clear_value v0
    split
    · rename_i e2 e3 e4
      refine OutSame.next ?_
      with_reducible refine when_same ?_ ?_
      · with_reducible refine Same.step (State.setPair_same _ _) (by decide) ?_
        exact h1
      · exact h1
    · rename_i e5 e6 e7 e8
      refine OutSame.next ?_
      with_reducible refine when_same ?_ ?_
      · with_reducible refine Same.step (State.katResult_same _ _ _ _ _) (by decide) ?_
        exact h1
      · exact h1
    · rename_i e9 e10 e11 e12
      refine OutSame.next ?_
      with_reducible refine Same.step (State.katOwn_same _ _ _ _) (by decide) ?_
      exact h1

theorem execKatInterval_same (x1 : State) :
    OutSame [.pair] x1 (execKatInterval x1) := by
  unfold execKatInterval
  refine OutSame.next ?_
  with_reducible refine when_same ?_ ?_
  · with_reducible refine Same.step (State.setPair_same _ _) (by decide) ?_
    exact Same.refl _ _
  · exact Same.refl _ _

theorem execKatResultTimeout_same (x1 : State) :
    OutSame [.pair] x1 (execKatResultTimeout x1) := by
  unfold execKatResultTimeout
  refine OutSame.next ?_
  with_reducible refine Same.step (State.setPair_same _ _) (by decide) ?_
  exact Same.refl _ _

theorem execResync_same (x1 : StreamCopy) (x2 : State) :
    OutSame [.dict, .freeCtr, .stores, .migs, .pair, .ports, .streams, .test] x2 (execResync x1 x2) := by
  unfold execResync
  extract_lets v0 v1 v2 v3 v4 v5
  refine OutSame.have v3 ?_ fun h6 => ?_
  · with_reducible refine Same.step (State.bump_same _ _) (by decide) ?_
    exact Same.refl _ _
  clear_value v3
  refine OutSame.have v4 ?_ fun h7 => ?_
  · refine Same.foldl ?_ fun q8 y9 h10 => ?_
    · exact h6
    · with_reducible refine Same.step (State.hubWrite_same _ _ _ _ _) (by decide) ?_
      exact h10
  clear_value v4
  refine OutSame.ite ?_ ?_
  · refine OutSame.next ?_
    exact Same.refl _ _
  · refine OutSame.ite ?_ ?_
    · refine OutSame.next ?_
      with_reducible refine Same.step (State.setSync_same _ _ _) (by decide) ?_
      with_reducible refine Same.step (State.setPair_same _ _) (by decide) ?_
      exact h6
    · refine OutSame.next ?_
      with_reducible refine Same.step (State.setStream_same _ _ _) (by decide) ?_
      with_reducible refine Same.step (State.recWrote_same _ _ _ _ _) (by decide) ?_
      exact h7

theorem execResyncEnd_same (x1 : Fin 16384) (x2 : State) :
    OutSame [.pair] x2 (execResyncEnd x1 x2) := by
  unfold execResyncEnd
  extract_lets v0
  refine OutSame.next ?_
  with_reducible refine when_same ?_ ?_
  · with_reducible refine Same.step (State.setPair_same _ _) (by decide) ?_
    exact Same.refl _ _
  · exact Same.refl _ _

theorem State.sendOut_same (x1 : State) (x2 : OutRec) :
    Same [.dict, .pair, .ports, .freeCtr, .test] x1 (State.sendOut x1 x2) := by
  unfold State.sendOut
  extract_lets v0
  refine Same.ite ?_ ?_
  · with_reducible refine Same.step (State.postOut_same _ _ _ _) (by decide) ?_
    exact Same.refl _ _
  · refine Same.ite ?_ ?_
    · with_reducible refine Same.step (State.postOut_same _ _ _ _) (by decide) ?_
      exact Same.refl _ _
    · split
      · rename_i e1 e2
        refine Same.ite ?_ ?_
        · exact Same.refl _ _
        · with_reducible refine Same.step (State.postOut_same _ _ _ _) (by decide) ?_
          exact Same.refl _ _
      · rename_i e3 e4
        refine Same.ite ?_ ?_
        · exact Same.refl _ _
        · with_reducible refine Same.step (State.postOut_same _ _ _ _) (by decide) ?_
          exact Same.refl _ _
      · rename_i e5 e6
        refine Same.ite ?_ ?_
        · with_reducible refine Same.step (State.postOut_same _ _ _ _) (by decide) ?_
          exact Same.refl _ _
        · refine Same.ite ?_ ?_
          · exact Same.refl _ _
          · refine Same.ite ?_ ?_
            · with_reducible refine Same.step (State.setPair_same _ _) (by decide) ?_
              exact Same.refl _ _
            · with_reducible refine Same.step (State.setPair_same _ _) (by decide) ?_
              with_reducible refine Same.step (State.postOut_same _ _ _ _) (by decide) ?_
              exact Same.refl _ _
      · rename_i e7 e8 e9 e10
        exact Same.refl _ _

theorem State.roleFirst_same (x1 : State) (x2 : Nat) :
    Same [.dict, .freeCtr, .seqs, .pair, .ports, .streams, .test] x1 (State.roleFirst x1 x2) := by
  unfold State.roleFirst
  refine Same.ite ?_ ?_
  · with_reducible refine Same.step (State.takeActive_same _) (by decide) ?_
    exact Same.refl _ _
  · refine Same.ite ?_ ?_
    · extract_lets v0
      refine Same.have v0 ?_ fun h1 => ?_
      · refine Same.ite ?_ ?_
        · with_reducible refine Same.step (State.setReg_same _ _ _) (by decide) ?_
          exact Same.refl _ _
        · exact Same.refl _ _
      clear_value v0
      with_reducible refine Same.step (State.unsyncAll_same _) (by decide) ?_
      with_reducible refine Same.step (State.setRole_same _ _) (by decide) ?_
      with_reducible refine Same.step (State.setPair_same _ _) (by decide) ?_
      exact h1
    · exact Same.refl _ _

theorem State.roleLast_same (x1 : State) (x2 : Nat) :
    Same [.dict, .nv, .freeCtr, .requests, .seqs, .xports, .hub, .pair, .ports, .streams, .test] x1 (State.roleLast x1 x2) := by
  unfold State.roleLast
  refine Same.ite ?_ ?_
  · extract_lets v0
    refine Same.have v0 ?_ fun h1 => ?_
    · with_reducible refine Same.step (State.setPair_same _ _) (by decide) ?_
      exact Same.refl _ _
    clear_value v0
    refine Same.ite ?_ ?_
    · with_reducible refine Same.step (State.takeActive_same _) (by decide) ?_
      with_reducible refine Same.step (State.raiseClaim_same _) (by decide) ?_
      exact h1
    · refine Same.ite ?_ ?_
      · with_reducible refine Same.step (State.setReg_same _ _ _) (by decide) ?_
        with_reducible refine Same.step (State.takeStandby_same _) (by decide) ?_
        exact h1
      · exact h1
  · refine Same.ite ?_ ?_
    · with_reducible refine Same.step (State.takeStandby_same _) (by decide) ?_
      exact Same.refl _ _
    · exact Same.refl _ _

theorem State.pairBoundary_same (x1 : State) (x2 x3 : Nat) (x4 : List OutRec) :
    Same [.dict, .nv, .freeCtr, .entries, .requests, .seqs, .xports, .hub, .pair, .ports, .streams, .test] x1 (State.pairBoundary x1 x2 x3 x4) := by
  unfold State.pairBoundary
  refine Same.ite ?_ ?_
  · refine Same.foldl ?_ fun q0 y1 h2 => ?_
    · exact Same.refl _ _
    · with_reducible refine Same.step (State.sendOut_same _ _) (by decide) ?_
      exact h2
  · extract_lets v3 v4 v5 v6 v7 v8 v9 v10 v11 v12 v13 v14
    refine Same.have v4 ?_ fun h15 => ?_
    · with_reducible refine Same.step (State.roleFirst_same _ _) (by decide) ?_
      with_reducible refine Same.step (State.setPair_same _ _) (by decide) ?_
      with_reducible refine Same.step (State.releaseHeld_same _) (by decide) ?_
      exact Same.refl _ _
    clear_value v4
    refine Same.have v6 ?_ fun h16 => ?_
    · with_reducible refine Same.step (State.setPair_same _ _) (by decide) ?_
      exact h15
    clear_value v6
    refine Same.have v7 ?_ fun h17 => ?_
    · refine Same.foldl ?_ fun q18 y19 h20 => ?_
      · exact h16
      · with_reducible refine Same.step (State.sendOut_same _ _) (by decide) ?_
        exact h20
    clear_value v7
    refine Same.have v9 ?_ fun h21 => ?_
    · dsimp only [v9]
      split
      · rename_i e22 e23
        refine Same.ite ?_ ?_
        · exact h17
        · with_reducible refine Same.step (State.tellMore_same _ _) (by decide) ?_
          with_reducible refine Same.step (State.tracePair_same _ _ _) (by decide) ?_
          exact h17
      · rename_i e24 e25
        with_reducible refine Same.step (State.setPair_same _ _) (by decide) ?_
        exact h17
      · rename_i e26 e27 e28
        exact h17
    clear_value v9
    refine Same.have v10 ?_ fun h29 => ?_
    · with_reducible refine Same.step (State.setPair_same _ _) (by decide) ?_
      refine Same.foldl ?_ fun q30 y31 h32 => ?_
      · exact h21
      · with_reducible refine Same.step (State.setSync_same _ _ _) (by decide) ?_
        exact h32
    clear_value v10
    refine Same.have v11 ?_ fun h33 => ?_
    · with_reducible refine Same.step (State.roleLast_same _ _) (by decide) ?_
      exact h29
    clear_value v11
    refine Same.have v13 ?_ fun h34 => ?_
    · with_reducible refine Same.step (State.setPair_same _ _) (by decide) ?_
      exact h33
    clear_value v13
    refine Same.have v14 ?_ fun h35 => ?_
    · refine Same.foldl ?_ fun q36 y37 h38 => ?_
      · exact h34
      · with_reducible refine Same.step (State.katEntry_same _ _) (by decide) ?_
        exact h38
    clear_value v14
    refine Same.ite ?_ ?_
    · exact h35
    · refine Same.foldl ?_ fun q39 y40 h41 => ?_
      · exact h35
      · with_reducible refine Same.step (State.tellMore_same _ _) (by decide) ?_
        with_reducible refine Same.step (State.bump_same _ _) (by decide) ?_
        with_reducible refine Same.step (State.setPair_same _ _) (by decide) ?_
        exact h41

theorem State.pairReport_same (x1 : State) :
    Same [.dict, .pair] x1 (State.pairReport x1) := by
  unfold State.pairReport
  extract_lets v0 v1 v2 v3 v4
  refine Same.have v4 ?_ fun h5 => ?_
  · with_reducible refine Same.step (State.setReg_same _ _ _) (by decide) ?_
    with_reducible refine Same.step (State.setReg_same _ _ _) (by decide) ?_
    with_reducible refine Same.step (State.setReg_same _ _ _) (by decide) ?_
    with_reducible refine Same.step (State.setReg_same _ _ _) (by decide) ?_
    exact Same.refl _ _
  clear_value v4
  refine Same.ite ?_ ?_
  · with_reducible refine Same.step (State.setReg_same _ _ _) (by decide) ?_
    with_reducible refine Same.step (State.setPair_same _ _) (by decide) ?_
    exact h5
  · exact h5

end Sys2Proof.Machine
end

