-- ==== Sys2Proof/Laws/FramePatterns.lean ====
section
/-! SUPPORT. Frames of the functions of Machine/Patterns.lean: one lemma a function, which says what parts of the state it
can change. -/

namespace Sys2Proof.Machine

open Sys2Proof

theorem State.patternReport_same (x1 : State) (x2 : Nat) :
    Same [.dict] x1 (State.patternReport x1 x2) := by
  unfold State.patternReport
  extract_lets v0
  with_reducible refine Same.step (State.setReg_same _ _ _) (by decide) ?_
  with_reducible refine Same.step (State.setReg_same _ _ _) (by decide) ?_
  exact Same.refl _ _

theorem State.tierTouch_same (x1 : State) (x2 x3 : Nat) :
    Same [.stores] x1 (State.tierTouch x1 x2 x3) := by
  unfold State.tierTouch
  split
  · rename_i e0 e1 e2
    with_reducible refine Same.step (State.wake_same _ _ _) (by decide) ?_
    exact Same.refl _ _
  · rename_i e3 e4
    exact Same.refl _ _

theorem State.patternLoad_same (x1 : State) :
    Same [.dict, .lastStatus, .patCmd, .stores] x1 (State.patternLoad x1) := by
  unfold State.patternLoad
  refine Same.ite ?_ ?_
  · with_reducible refine Same.step (State.answer_same _ _) (by decide) ?_
    exact Same.refl _ _
  · extract_lets v0 v1 v2 v3
    refine Same.have v3 ?_ fun h4 => ?_
    · with_reducible refine Same.step (State.tierTouch_same _ _ _) (by decide) ?_
      exact Same.refl _ _
    clear_value v3
    refine Same.ite ?_ ?_
    · with_reducible refine Same.step (State.answer_same _ _) (by decide) ?_
      with_reducible refine Same.step (State.setReg_same _ _ _) (by decide) ?_
      exact Same.refl _ _
    · with_reducible refine Same.step (State.answer_same _ _) (by decide) ?_
      with_reducible refine Same.step (State.setReg_same _ _ _) (by decide) ?_
      with_reducible refine Same.record rfl ?_ ?_
      · intro p hp; cases p <;> first | exact absurd (by decide) hp | exact rfl
      exact h4

theorem execPatternLoad_same (x1 : State) :
    OutSame [.dict, .lastStatus, .patCmd, .stores] x1 (execPatternLoad x1) := by
  unfold execPatternLoad
  refine OutSame.next ?_
  with_reducible refine Same.step (State.patternLoad_same _) (by decide) ?_
  exact Same.refl _ _

theorem State.patternUnload_same (x1 : State) :
    Same [.dict, .lastStatus, .dies] x1 (State.patternUnload x1) := by
  unfold State.patternUnload
  refine Same.ite ?_ ?_
  · with_reducible refine Same.step (State.answer_same _ _) (by decide) ?_
    exact Same.refl _ _
  · extract_lets v0 v1 v2
    refine Same.have v2 ?_ fun h3 => ?_
    · refine Same.foldl ?_ fun q4 y5 h6 => ?_
      · exact Same.refl _ _
      · with_reducible refine Same.step (State.setDie_same _ _ _) (by decide) ?_
        exact h6
    clear_value v2
    with_reducible refine Same.step (State.answer_same _ _) (by decide) ?_
    with_reducible refine Same.step (State.setReg_same _ _ _) (by decide) ?_
    exact h3

theorem execPatternUnload_same (x1 : State) :
    OutSame [.dict, .lastStatus, .dies] x1 (execPatternUnload x1) := by
  unfold execPatternUnload
  refine OutSame.next ?_
  with_reducible refine Same.step (State.patternUnload_same _) (by decide) ?_
  exact Same.refl _ _

theorem writePatternCommand_same (x1 : Nat) (x2 : State) :
    Same [.dict, .lastStatus, .dies, .patCmd, .stores] x2 (writePatternCommand x1 x2) := by
  unfold writePatternCommand
  refine Same.ite ?_ ?_
  · with_reducible refine Same.step (State.patternLoad_same _) (by decide) ?_
    exact Same.refl _ _
  · refine Same.ite ?_ ?_
    · with_reducible refine Same.step (State.patternUnload_same _) (by decide) ?_
      exact Same.refl _ _
    · with_reducible refine Same.step (State.answer_same _ _) (by decide) ?_
      exact Same.refl _ _

theorem State.placeImage_same (x1 : State) (x2 : Nat) (x3 : List Byte) :
    Same [.dict, .dies, .stores] x1 (State.placeImage x1 x2 x3) := by
  unfold State.placeImage
  extract_lets v0 v1 v2 v3 v4 v5 v6 v7 v8
  refine Same.have v6 ?_ fun h9 => ?_
  · with_reducible refine Same.step (State.setDie_same _ _ _) (by decide) ?_
    exact Same.refl _ _
  clear_value v6
  with_reducible refine Same.step (State.patternReport_same _ _) (by decide) ?_
  with_reducible refine Same.step (State.setStore_same _ _ _) (by decide) ?_
  exact h9

theorem execPatternLoadEnd_same (x1 : State) :
    OutSame [.dict, .dies, .patCmd, .stores] x1 (execPatternLoadEnd x1) := by
  unfold execPatternLoadEnd
  split
  · rename_i e0 e1
    refine OutSame.next ?_
    exact Same.refl _ _
  · rename_i e2 e3 e4
    extract_lets v5 v6
    refine OutSame.have v5 ?_ fun h7 => ?_
    · dsimp only [v5]
      with_reducible refine Same.record rfl ?_ ?_
      · intro p hp; cases p <;> first | exact absurd (by decide) hp | exact rfl
      exact Same.refl _ _
    clear_value v5
    refine OutSame.have v6 ?_ fun h8 => ?_
    · refine Same.foldl ?_ fun q9 y10 h11 => ?_
      · exact h7
      · with_reducible refine Same.step (State.placeImage_same _ _ _) (by decide) ?_
        exact h11
    clear_value v6
    refine OutSame.ite ?_ ?_
    · refine OutSame.next ?_
      with_reducible refine Same.step (State.setReg_same _ _ _) (by decide) ?_
      exact h7
    · refine OutSame.next ?_
      with_reducible refine Same.step (State.setReg_same _ _ _) (by decide) ?_
      with_reducible refine Same.step (State.setReg_same _ _ _) (by decide) ?_
      exact h8

theorem State.patternBoundary_same (x1 : State) :
    Same [.dict, .dies] x1 (State.patternBoundary x1) := by
  unfold State.patternBoundary
  refine Same.loopTo ?_ fun q0 y1 h2 => ?_
  · exact Same.refl _ _
  · with_reducible refine Same.step (State.patternReport_same _ _) (by decide) ?_
    with_reducible refine Same.step (State.setDie_same _ _ _) (by decide) ?_
    exact h2

theorem execPatternImageFree_same (x1 : Fin 8) (x2 : State) :
    OutSame [.dict, .dies, .stores] x2 (execPatternImageFree x1 x2) := by
  unfold execPatternImageFree
  extract_lets v0 v1 v2 v3 v4 v5 v6
  refine OutSame.have v4 ?_ fun h7 => ?_
  · with_reducible refine Same.step (State.setDie_same _ _ _) (by decide) ?_
    exact Same.refl _ _
  clear_value v4
  refine OutSame.next ?_
  with_reducible refine Same.step (State.patternReport_same _ _) (by decide) ?_
  with_reducible refine Same.step (State.setStore_same _ _ _) (by decide) ?_
  exact h7

end Sys2Proof.Machine
end

