-- ==== Sys2Proof/Laws/FrameRings.lean ====
section
/-! SUPPORT. Frames of the functions of Machine/Rings.lean: one lemma a function, which says what parts of the state it
can change. -/

namespace Sys2Proof.Machine

open Sys2Proof

theorem execLockInUpdate_same (x1 : Fin 12) (x2 : Fin 1344) (x3 : Int) (x4 : State) :
    OutSame [.dict, .freeCtr, .rings, .lanes, .paths, .test] x4 (execLockInUpdate x1 x2 x3 x4) := by
  unfold execLockInUpdate
  extract_lets v0 v1 v2 v3 v4 v5 v6 v7
  refine OutSame.have v5 ?_ fun h8 => ?_
  · with_reducible refine Same.step (State.tickFree_same _) (by decide) ?_
    with_reducible refine Same.step (State.setMring_same _ _ _) (by decide) ?_
    exact Same.refl _ _
  clear_value v5
  refine OutSame.have v7 ?_ fun h9 => ?_
  · with_reducible refine Same.step (State.setMring_same _ _ _) (by decide) ?_
    with_reducible refine Same.step (State.traceOpen_same _ _ _ _ _ _ _) (by decide) ?_
    with_reducible refine Same.step (State.bump_same _ _) (by decide) ?_
    exact h8
  clear_value v7
  refine OutSame.ite ?_ ?_
  · refine OutSame.next ?_
    exact Same.refl _ _
  · refine OutSame.ite ?_ ?_
    · refine OutSame.next ?_
      with_reducible refine Same.step (State.restartCal_same _ _) (by decide) ?_
      with_reducible refine Same.step (State.ringLost_same _ _) (by decide) ?_
      exact h9
    · refine OutSame.next ?_
      exact h8

theorem execRingLockAchieved_same (x1 : Fin 12) (x2 : Fin 1344) (x3 : Option (Fin 16384)) (x4 : Fin 16) (x5 : State) :
    OutSame [.dict, .fieldMap, .rings, .lanes, .paths] x5 (execRingLockAchieved x1 x2 x3 x4 x5) := by
  unfold execRingLockAchieved
  extract_lets v0 v1 v2 v3 v4 v5 v6
  refine OutSame.have v3 ?_ fun h7 => ?_
  · with_reducible refine Same.step (State.bump_same _ _) (by decide) ?_
    with_reducible refine Same.step (State.setMring_same _ _ _) (by decide) ?_
    exact Same.refl _ _
  clear_value v3
  refine OutSame.have v5 ?_ fun h8 => ?_
  · refine Same.foldl ?_ fun q9 y10 h11 => ?_
    · exact h7
    · refine Same.ite ?_ ?_
      · with_reducible refine Same.step (State.laneReturn_same _ _ _) (by decide) ?_
        with_reducible refine Same.step (State.trainFail_same _ _ _ _) (by decide) ?_
        exact h11
      · exact h11
  clear_value v5
  refine OutSame.ite ?_ ?_
  · refine OutSame.next ?_
    exact Same.refl _ _
  · split
    · rename_i e12 e13
      extract_lets v14 v15
      refine OutSame.have v14 ?_ fun h16 => ?_
      · with_reducible refine Same.step (State.setMring_same _ _ _) (by decide) ?_
        exact Same.refl _ _
      clear_value v14
      refine OutSame.next ?_
      refine Same.ite ?_ ?_
      · with_reducible refine Same.step (State.setLane_same _ _ _ _) (by decide) ?_
        exact h16
      · exact h16
    · rename_i e17
      refine OutSame.next ?_
      refine Same.ite ?_ ?_
      · with_reducible refine Same.step (State.relockRing_same _ _) (by decide) ?_
        exact h8
      · with_reducible refine Same.step (State.setMring_same _ _ _) (by decide) ?_
        exact h8

theorem execLaneCalibrationStart_same (x1 : Fin 12) (x2 : Fin 96) (x3 : State) :
    OutSame [.lanes] x3 (execLaneCalibrationStart x1 x2 x3) := by
  unfold execLaneCalibrationStart
  extract_lets v0 v1 v2 v3
  refine OutSame.have v3 ?_ fun h4 => ?_
  · with_reducible refine Same.step (State.setLane_same _ _ _ _) (by decide) ?_
    exact Same.refl _ _
  clear_value v3
  refine OutSame.ite ?_ ?_
  · refine OutSame.next ?_
    exact Same.refl _ _
  · refine OutSame.next ?_
    with_reducible refine Same.step (State.calBegin_same _ _ _) (by decide) ?_
    exact h4

theorem State.saveTrims_same (x1 : State) (x2 : Nat) (x3 : Option (Nat × Nat)) :
    Same [.nvTrims, .rings] x1 (State.saveTrims x1 x2 x3) := by
  unfold State.saveTrims
  extract_lets v0 v1
  refine Same.ite ?_ ?_
  · exact Same.refl _ _
  · with_reducible refine Same.step (State.setMring_same _ _ _) (by decide) ?_
    with_reducible refine Same.record rfl ?_ ?_
    · intro p hp; cases p <;> first | exact absurd (by decide) hp | exact rfl
    exact Same.refl _ _

theorem execLaneCalibrationEnd_same (x1 : Fin 12) (x2 : Fin 96) (x3 : List (Nat × Nat × Nat)) (x4 : State) :
    OutSame [.dict, .lastStatus, .freeCtr, .hostMem, .entries, .cores, .runs, .grants, .orphans, .stores, .nvTrims, .calCmd, .regions, .rings, .lanes, .paths, .arbiters, .pair, .ports, .streams, .pw, .sec, .test] x4 (execLaneCalibrationEnd x1 x2 x3 x4) := by
  unfold execLaneCalibrationEnd
  extract_lets v0 v1 v2 v3 v4 v5
  refine OutSame.have v3 ?_ fun h6 => ?_
  · with_reducible refine Same.step (State.setLane_same _ _ _ _) (by decide) ?_
    exact Same.refl _ _
  clear_value v3
  refine OutSame.have v4 ?_ fun h7 => ?_
  · with_reducible refine Same.step (State.applyTrims_same _ _ _) (by decide) ?_
    exact h6
  clear_value v4
  refine OutSame.ite ?_ ?_
  · refine OutSame.next ?_
    exact Same.refl _ _
  · split
    · rename_i e8 e9
      refine OutSame.next ?_
      refine Same.ite ?_ ?_
      · with_reducible refine Same.step (State.calSettled_same _ _) (by decide) ?_
        exact h7
      · refine Same.ite ?_ ?_
        · with_reducible refine Same.step (State.calSettled_same _ _) (by decide) ?_
          with_reducible refine Same.step (State.setRegion_same _ _ _) (by decide) ?_
          exact h7
        · with_reducible refine Same.step (State.startFullCal_same _ _) (by decide) ?_
          exact h7
    · rename_i e10 e11 e12
      extract_lets v13 v14 v15
      refine OutSame.have v13 ?_ fun h16 => ?_
      · refine Same.foldl ?_ fun q17 y18 h19 => ?_
        · exact Same.refl _ _
        · with_reducible refine Same.step (State.saveTrims_same _ _ _) (by decide) ?_
          exact h19
      clear_value v13
      refine OutSame.have v14 ?_ fun h20 => ?_
      · refine Same.foldl ?_ fun q21 y22 h23 => ?_
        · exact h16
        · extract_lets v24
          refine Same.ite ?_ ?_
          · with_reducible refine Same.step (State.countRetrain_same _ _ _ _) (by decide) ?_
            with_reducible refine Same.step (State.setPath_same _ _ _ _ _) (by decide) ?_
            exact h23
          · exact h23
      clear_value v14
      refine OutSame.next ?_
      with_reducible refine Same.step (State.laneReturn_same _ _ _) (by decide) ?_
      with_reducible refine Same.step (State.setLane_same _ _ _ _) (by decide) ?_
      exact h20

theorem State.writeCalCommand_same (x1 : State) (x2 : Nat) :
    Same [.dict, .lastStatus, .freeCtr, .hostMem, .entries, .cores, .runs, .grants, .orphans, .stores, .calCmd, .regions, .lanes, .arbiters, .pair, .ports, .streams, .pw, .sec, .test] x1 (State.writeCalCommand x1 x2) := by
  unfold State.writeCalCommand
  extract_lets v0 v1 v2 v3 v4
  refine Same.have v2 ?_ fun h5 => ?_
  · with_reducible refine Same.step (State.setReg_same _ _ _) (by decide) ?_
    with_reducible refine Same.step (State.answer_same _ _) (by decide) ?_
    exact Same.refl _ _
  clear_value v2
  refine Same.have v3 ?_ fun h6 => ?_
  · dsimp only [v3]
    with_reducible refine Same.record rfl ?_ ?_
    · intro p hp; cases p <;> first | exact absurd (by decide) hp | exact rfl
    exact h5
  clear_value v3
  refine Same.ite ?_ ?_
  · exact h5
  · refine Same.ite ?_ ?_
    · with_reducible refine Same.step (State.startFullCal_same _ _) (by decide) ?_
      exact h6
    · with_reducible refine Same.step (State.scheduleSite_same _ _) (by decide) ?_
      with_reducible refine Same.step (State.setRegion_same _ _ _) (by decide) ?_
      exact h6

theorem execLaneCalibrationCommand_same (x1 : State) :
    OutSame [.dict, .lastStatus, .freeCtr, .hostMem, .entries, .cores, .runs, .grants, .orphans, .stores, .calCmd, .regions, .lanes, .arbiters, .pair, .ports, .streams, .pw, .sec, .test] x1 (execLaneCalibrationCommand x1) := by
  unfold execLaneCalibrationCommand
  refine OutSame.next ?_
  with_reducible refine Same.step (State.writeCalCommand_same _ _) (by decide) ?_
  exact Same.refl _ _

theorem execFullCalibrationCommand_same (x1 : State) :
    OutSame [.dict, .lastStatus, .freeCtr, .hostMem, .entries, .cores, .runs, .grants, .orphans, .stores, .calCmd, .regions, .lanes, .arbiters, .pair, .ports, .streams, .pw, .sec, .test] x1 (execFullCalibrationCommand x1) := by
  unfold execFullCalibrationCommand
  refine OutSame.next ?_
  with_reducible refine Same.step (State.writeCalCommand_same _ _) (by decide) ?_
  exact Same.refl _ _

theorem State.writeRingSelect_same (x1 : State) (x2 x3 : Nat) :
    Same [.dict, .lastStatus] x1 (State.writeRingSelect x1 x2 x3) := by
  unfold State.writeRingSelect
  refine Same.ite ?_ ?_
  · with_reducible refine Same.step (State.answer_same _ _) (by decide) ?_
    exact Same.refl _ _
  · with_reducible refine Same.step (State.answer_same _ _) (by decide) ?_
    with_reducible refine Same.step (State.setReg_same _ _ _) (by decide) ?_
    exact Same.refl _ _

theorem execRingSelect_same (x1 : Fin 2) (x2 : Nat) (x3 : State) :
    OutSame [.dict, .lastStatus] x3 (execRingSelect x1 x2 x3) := by
  unfold execRingSelect
  refine OutSame.next ?_
  with_reducible refine Same.step (State.writeRingSelect_same _ _ _) (by decide) ?_
  exact Same.refl _ _

end Sys2Proof.Machine
end

