-- ==== Sys2Proof/Laws/FramePorts.lean ====
section
/-! SUPPORT. Frames of the functions of Machine/Ports.lean: one lemma a function, which says what parts of the state it
can change. -/

namespace Sys2Proof.Machine

open Sys2Proof

theorem State.voidRing_same (x1 : State) (x2 x3 : Nat) :
    Same [.ledgerCmd, .staging, .ports] x1 (State.voidRing x1 x2 x3) := by
  unfold State.voidRing
  extract_lets v0 v1 v2
  refine Same.have v2 ?_ fun h3 => ?_
  · with_reducible refine Same.step (State.setPort_same _ _ _) (by decide) ?_
    exact Same.refl _ _
  clear_value v2
  with_reducible refine Same.record rfl ?_ ?_
  · intro p hp; cases p <;> first | exact absurd (by decide) hp | exact rfl
  exact h3

theorem State.disableRing_same (x1 : State) (x2 x3 : Nat) :
    Same [.dict, .ledgerCmd, .staging, .ports] x1 (State.disableRing x1 x2 x3) := by
  unfold State.disableRing
  extract_lets v0 v1
  refine Same.ite ?_ ?_
  · with_reducible refine Same.step (State.addReg_same _ _ _) (by decide) ?_
    with_reducible refine Same.step (State.voidRing_same _ _ _) (by decide) ?_
    with_reducible refine Same.step (State.setPort_same _ _ _) (by decide) ?_
    exact Same.refl _ _
  · exact Same.refl _ _

theorem State.markRing_same (x1 : State) (x2 x3 : Nat) :
    Same [.ports] x1 (State.markRing x1 x2 x3) := by
  unfold State.markRing
  extract_lets v0 v1
  refine Same.ite ?_ ?_
  · with_reducible refine Same.step (State.setPort_same _ _ _) (by decide) ?_
    exact Same.refl _ _
  · exact Same.refl _ _

theorem State.writeRing_same (x1 : State) (x2 x3 : Nat) (x4 : Bool) (x5 x6 : Nat) :
    Same [.dict, .ledgerCmd, .staging, .ports] x1 (State.writeRing x1 x2 x3 x4 x5 x6) := by
  unfold State.writeRing
  extract_lets v0 v1 v2 v3 v4 v5 v6 v7
  refine Same.have v3 ?_ fun h8 => ?_
  · refine Same.ite ?_ ?_
    · exact Same.refl _ _
    · with_reducible refine Same.step (State.disableRing_same _ _ _) (by decide) ?_
      exact Same.refl _ _
  clear_value v3
  refine Same.ite ?_ ?_
  · exact Same.refl _ _
  · refine Same.ite ?_ ?_
    · with_reducible refine Same.step (State.setPort_same _ _ _) (by decide) ?_
      exact h8
    · refine Same.ite ?_ ?_
      · with_reducible refine Same.step (State.setPort_same _ _ _) (by decide) ?_
        exact Same.refl _ _
      · refine Same.ite ?_ ?_
        · with_reducible refine Same.step (State.markRing_same _ _ _) (by decide) ?_
          with_reducible refine Same.step (State.setPort_same _ _ _) (by decide) ?_
          exact Same.refl _ _
        · with_reducible refine Same.step (State.setPort_same _ _ _) (by decide) ?_
          exact Same.refl _ _

theorem execRingEnable_same (x1 : Fin 2) (x2 : Fin 64) (x3 x4 : BitVec 16) (x5 : State) :
    OutSame [.dict, .ledgerCmd, .staging, .ports] x5 (execRingEnable x1 x2 x3 x4 x5) := by
  unfold execRingEnable
  refine OutSame.next ?_
  with_reducible refine Same.step (State.writeRing_same _ _ _ _ _ _) (by decide) ?_
  exact Same.refl _ _

theorem execRingDisable_same (x1 : Fin 2) (x2 : Fin 64) (x3 : State) :
    OutSame [.dict, .ledgerCmd, .staging, .ports] x3 (execRingDisable x1 x2 x3) := by
  unfold execRingDisable
  extract_lets v0
  refine OutSame.next ?_
  with_reducible refine Same.step (State.writeRing_same _ _ _ _ _ _) (by decide) ?_
  exact Same.refl _ _

theorem execConsumerIndexWrite_same (x1 : Fin 2) (x2 : Fin 64) (x3 : BitVec 32) (x4 : State) :
    OutSame [.dict, .ports] x4 (execConsumerIndexWrite x1 x2 x3 x4) := by
  unfold execConsumerIndexWrite
  extract_lets v0 v1 v2 v3 v4 v5
  refine OutSame.ite ?_ ?_
  · refine OutSame.next ?_
    exact Same.refl _ _
  · refine OutSame.ite ?_ ?_
    · refine OutSame.next ?_
      with_reducible refine Same.step (State.bump_same _ _) (by decide) ?_
      exact Same.refl _ _
    · refine OutSame.next ?_
      with_reducible refine Same.step (State.markRing_same _ _ _) (by decide) ?_
      with_reducible refine Same.step (State.setPort_same _ _ _) (by decide) ?_
      exact Same.refl _ _

theorem execIrqHoldoffEnd_same (x1 : Fin 2) (x2 : Fin 64) (x3 : State) :
    OutSame [.ports] x3 (execIrqHoldoffEnd x1 x2 x3) := by
  unfold execIrqHoldoffEnd
  extract_lets v0 v1 v2
  refine OutSame.ite ?_ ?_
  · refine OutSame.next ?_
    exact Same.refl _ _
  · refine OutSame.ite ?_ ?_
    · refine OutSame.next ?_
      with_reducible refine Same.step (State.setPort_same _ _ _) (by decide) ?_
      exact Same.refl _ _
    · refine OutSame.next ?_
      with_reducible refine Same.step (State.setPort_same _ _ _) (by decide) ?_
      exact Same.refl _ _

theorem execBar2Write_same (x1 : Fin 2) (x2 : State) :
    OutSame [.dict] x2 (execBar2Write x1 x2) := by
  unfold execBar2Write
  refine OutSame.next ?_
  with_reducible refine when_same ?_ ?_
  · with_reducible refine Same.step (State.bump_same _ _) (by decide) ?_
    exact Same.refl _ _
  · exact Same.refl _ _

theorem State.writeSq_same (x1 : State) (x2 x3 x4 : Nat) :
    Same [.ports] x1 (State.writeSq x1 x2 x3 x4) := by
  unfold State.writeSq
  extract_lets v0 v1 v2
  refine Same.ite ?_ ?_
  · exact Same.refl _ _
  · with_reducible refine Same.step (State.setPort_same _ _ _) (by decide) ?_
    exact Same.refl _ _

theorem execSqDisable_same (x1 : Fin 2) (x2 : Fin 64) (x3 : State) :
    OutSame [.ports] x3 (execSqDisable x1 x2 x3) := by
  unfold execSqDisable
  extract_lets v0 v1
  refine OutSame.next ?_
  with_reducible refine when_same ?_ ?_
  · with_reducible refine Same.step (State.setPort_same _ _ _) (by decide) ?_
    exact Same.refl _ _
  · exact Same.refl _ _

theorem execSqDoorbell_same (x1 : Fin 2) (x2 : Fin 64) (x3 : BitVec 64) (x4 : State) :
    OutSame [.dict, .freeCtr, .ports, .test] x4 (execSqDoorbell x1 x2 x3 x4) := by
  unfold execSqDoorbell
  extract_lets v0 v1
  refine OutSame.next ?_
  with_reducible refine when_same ?_ ?_
  · with_reducible refine Same.step (State.traceOpen_same _ _ _ _ _ _ _) (by decide) ?_
    with_reducible refine Same.step (State.setPort_same _ _ _) (by decide) ?_
    exact Same.refl _ _
  · exact Same.refl _ _

theorem State.handoff_same (x1 : State) (x2 : Nat) :
    Same [.dict, .freeCtr, .ports, .streams, .test] x1 (State.handoff x1 x2) := by
  unfold State.handoff
  extract_lets v0 v1
  refine Same.foldl ?_ fun q2 y3 h4 => ?_
  · exact Same.refl _ _
  · extract_lets v5
    refine Same.ite ?_ ?_
    · with_reducible refine Same.step (State.event_same _ _ _ _) (by decide) ?_
      with_reducible refine Same.step (State.setStream_same _ _ _) (by decide) ?_
      exact h4
    · refine Same.ite ?_ ?_
      · exact h4
      · with_reducible refine Same.step (State.event_same _ _ _ _) (by decide) ?_
        with_reducible refine Same.step (State.setStream_same _ _ _) (by decide) ?_
        exact h4

theorem State.finishLeave_same (x1 : State) (x2 : Nat) :
    Same [.dict, .freeCtr, .ports, .streams, .test] x1 (State.finishLeave x1 x2) := by
  unfold State.finishLeave
  extract_lets v0
  refine Same.ite ?_ ?_
  · with_reducible refine Same.step (State.handoff_same _ _) (by decide) ?_
    with_reducible refine Same.step (State.setPort_same _ _ _) (by decide) ?_
    exact Same.refl _ _
  · exact Same.refl _ _

theorem State.endLeave_same (x1 : State) (x2 : Nat) :
    Same [.dict, .freeCtr, .ports, .streams, .test] x1 (State.endLeave x1 x2) := by
  unfold State.endLeave
  extract_lets v0
  refine Same.ite ?_ ?_
  · with_reducible refine Same.step (State.handoff_same _ _) (by decide) ?_
    with_reducible refine Same.step (State.setPort_same _ _ _) (by decide) ?_
    exact Same.refl _ _
  · exact Same.refl _ _

theorem State.loseSlots_same (x1 : State) (x2 : Nat) :
    Same [.prick] x1 (State.loseSlots x1 x2) := by
  unfold State.loseSlots
  extract_lets v0 v1
  with_reducible refine Same.record rfl ?_ ?_
  · intro p hp; cases p <;> first | exact absurd (by decide) hp | exact rfl
  exact Same.refl _ _

theorem State.disown_same (x1 : State) (x2 : Nat) :
    Same [.ledgerCmd, .staging] x1 (State.disown x1 x2) := by
  unfold State.disown
  with_reducible refine Same.record rfl ?_ ?_
  · intro p hp; cases p <;> first | exact absurd (by decide) hp | exact rfl
  exact Same.refl _ _

theorem State.dropBox_same (x1 : State) (x2 : Nat) :
    Same [.hub, .ports] x1 (State.dropBox x1 x2) := by
  unfold State.dropBox
  extract_lets v0 v1 v2 v3
  refine Same.have v2 ?_ fun h4 => ?_
  · with_reducible refine Same.step (State.setPort_same _ _ _) (by decide) ?_
    exact Same.refl _ _
  clear_value v2
  with_reducible refine Same.record rfl ?_ ?_
  · intro p hp; cases p <;> first | exact absurd (by decide) hp | exact rfl
  exact h4

theorem State.leaveUp_same (x1 : State) (x2 : Nat) :
    Same [.dict, .freeCtr, .prick, .ledgerCmd, .staging, .hub, .ports, .streams, .test] x1 (State.leaveUp x1 x2) := by
  unfold State.leaveUp
  extract_lets v0 v1 v2 v3 v4 v5
  refine Same.have v4 ?_ fun h6 => ?_
  · with_reducible refine Same.step (State.disown_same _ _) (by decide) ?_
    with_reducible refine Same.step (State.setPort_same _ _ _) (by decide) ?_
    exact Same.refl _ _
  clear_value v4
  refine Same.have v5 ?_ fun h7 => ?_
  · refine Same.foldl ?_ fun q8 y9 h10 => ?_
    · exact h6
    · with_reducible refine Same.step (State.disableRing_same _ _ _) (by decide) ?_
      exact h10
  clear_value v5
  with_reducible refine Same.step (State.bump_same _ _) (by decide) ?_
  with_reducible refine Same.step (State.finishLeave_same _ _) (by decide) ?_
  with_reducible refine Same.step (State.loseSlots_same _ _) (by decide) ?_
  with_reducible refine Same.step (State.dropBox_same _ _) (by decide) ?_
  exact h7

theorem State.arriveUp_same (x1 : State) (x2 : Nat) :
    Same [.dict, .freeCtr, .ports, .streams, .test] x1 (State.arriveUp x1 x2) := by
  unfold State.arriveUp
  extract_lets v0 v1 v2
  refine Same.have v0 ?_ fun h3 => ?_
  · with_reducible refine Same.step (State.endLeave_same _ _) (by decide) ?_
    exact Same.refl _ _
  clear_value v0
  refine Same.have v2 ?_ fun h4 => ?_
  · refine Same.foldl ?_ fun q5 y6 h7 => ?_
    · exact h3
    · extract_lets v8
      refine Same.ite ?_ ?_
      · with_reducible refine Same.step (State.event_same _ _ _ _) (by decide) ?_
        with_reducible refine Same.step (State.setStream_same _ _ _) (by decide) ?_
        exact h7
      · refine Same.ite ?_ ?_
        · with_reducible refine Same.step (State.event_same _ _ _ _) (by decide) ?_
          with_reducible refine Same.step (State.setStream_same _ _ _) (by decide) ?_
          exact h7
        · exact h7
  clear_value v2
  refine Same.foldl ?_ fun q9 y10 h11 => ?_
  · exact h4
  · with_reducible refine Same.step (State.markRing_same _ _ _) (by decide) ?_
    exact h11

theorem State.writePortControl_same (x1 : State) (x2 x3 : Nat) :
    Same [.dict, .freeCtr, .prick, .ledgerCmd, .staging, .hub, .ports, .streams, .test] x1 (State.writePortControl x1 x2 x3) := by
  unfold State.writePortControl
  extract_lets v0 v1 v2
  refine Same.have v1 ?_ fun h3 => ?_
  · with_reducible refine Same.step (State.setPort_same _ _ _) (by decide) ?_
    exact Same.refl _ _
  clear_value v1
  split
  · rename_i e4 e5
    exact Same.refl _ _
  · rename_i e6 e7
    refine Same.ite ?_ ?_
    · with_reducible refine Same.step (State.signal_same _ _) (by decide) ?_
      with_reducible refine Same.step (State.arriveUp_same _ _) (by decide) ?_
      with_reducible refine Same.step (State.setPort_same _ _ _) (by decide) ?_
      exact h3
    · exact h3
  · rename_i e8 e9
    refine Same.ite ?_ ?_
    · exact h3
    · with_reducible refine Same.step (State.signal_same _ _) (by decide) ?_
      with_reducible refine Same.step (State.leaveUp_same _ _) (by decide) ?_
      with_reducible refine Same.step (State.setPort_same _ _ _) (by decide) ?_
      exact h3

theorem execPortEnable_same (x1 : Fin 2) (x2 : BitVec 63) (x3 : State) :
    OutSame [.dict, .freeCtr, .prick, .ledgerCmd, .staging, .hub, .ports, .streams, .test] x3 (execPortEnable x1 x2 x3) := by
  unfold execPortEnable
  refine OutSame.next ?_
  with_reducible refine Same.step (State.writePortControl_same _ _ _) (by decide) ?_
  exact Same.refl _ _

theorem execPortDisable_same (x1 : Fin 2) (x2 : BitVec 63) (x3 : State) :
    OutSame [.dict, .freeCtr, .prick, .ledgerCmd, .staging, .hub, .ports, .streams, .test] x3 (execPortDisable x1 x2 x3) := by
  unfold execPortDisable
  refine OutSame.next ?_
  with_reducible refine Same.step (State.writePortControl_same _ _ _) (by decide) ?_
  exact Same.refl _ _

theorem State.portDown_same (x1 : State) (x2 : Nat) :
    Same [.dict, .freeCtr, .tb, .prick, .ledgerCmd, .staging, .hub, .ports, .streams, .test] x1 (State.portDown x1 x2) := by
  unfold State.portDown
  extract_lets v0 v1 v2 v3 v4 v5
  refine Same.have v1 ?_ fun h6 => ?_
  · refine Same.ite ?_ ?_
    · with_reducible refine Same.step (State.leaveUp_same _ _) (by decide) ?_
      with_reducible refine Same.step (State.setPort_same _ _ _) (by decide) ?_
      exact Same.refl _ _
    · exact Same.refl _ _
  clear_value v1
  refine Same.have v3 ?_ fun h7 => ?_
  · with_reducible refine Same.step (State.setPort_same _ _ _) (by decide) ?_
    exact h6
  clear_value v3
  refine Same.have v5 ?_ fun h8 => ?_
  · dsimp only [v5]
    with_reducible refine Same.record rfl ?_ ?_
    · intro p hp; cases p <;> first | exact absurd (by decide) hp | exact rfl
    exact h7
  clear_value v5
  refine Same.ite ?_ ?_
  · exact Same.refl _ _
  · with_reducible refine Same.step (State.signal_same _ _) (by decide) ?_
    exact h8

theorem execLinkDown_same (x1 : Fin 2) (x2 : State) :
    OutSame [.dict, .freeCtr, .tb, .prick, .ledgerCmd, .staging, .hub, .ports, .streams, .test] x2 (execLinkDown x1 x2) := by
  unfold execLinkDown
  refine OutSame.next ?_
  with_reducible refine Same.step (State.portDown_same _ _) (by decide) ?_
  exact Same.refl _ _

theorem execPerst_same (x1 : Fin 2) (x2 : Bool) (x3 : State) :
    OutSame [.dict, .freeCtr, .tb, .prick, .ledgerCmd, .staging, .hub, .ports, .streams, .test] x3 (execPerst x1 x2 x3) := by
  unfold execPerst
  extract_lets v0 v1
  refine OutSame.have v0 ?_ fun h2 => ?_
  · refine Same.ite ?_ ?_
    · with_reducible refine Same.step (State.portDown_same _ _) (by decide) ?_
      exact Same.refl _ _
    · exact Same.refl _ _
  clear_value v0
  refine OutSame.next ?_
  with_reducible refine Same.step (State.setPort_same _ _ _) (by decide) ?_
  exact h2

theorem execHostLinkUp_same (x1 : Fin 2) (x2 : State) :
    OutSame [.ports] x2 (execHostLinkUp x1 x2) := by
  unfold execHostLinkUp
  extract_lets v0 v1
  refine OutSame.next ?_
  with_reducible refine when_same ?_ ?_
  · with_reducible refine Same.step (State.signal_same _ _) (by decide) ?_
    with_reducible refine Same.step (State.setPort_same _ _ _) (by decide) ?_
    exact Same.refl _ _
  · exact Same.refl _ _

theorem execWaitLimitExpiry_same (x1 : Fin 16384) (x2 : State) :
    OutSame [.ports, .streams] x2 (execWaitLimitExpiry x1 x2) := by
  unfold execWaitLimitExpiry
  extract_lets v0
  refine OutSame.next ?_
  with_reducible refine when_same ?_ ?_
  · with_reducible refine Same.step (State.signal_same _ _) (by decide) ?_
    with_reducible refine Same.step (State.setStream_same _ _ _) (by decide) ?_
    exact Same.refl _ _
  · exact Same.refl _ _

end Sys2Proof.Machine
end

