-- ==== Sys2Proof/Laws/FrameStreams.lean ====
section
/-! SUPPORT. Frames of the functions of Machine/Streams.lean: one lemma a function, which says what parts of the state it
can change. -/

namespace Sys2Proof.Machine

open Sys2Proof

theorem State.fetch_same (x1 : State) (x2 x3 : Nat) (x4 : Port) :
    Same [.dict, .ports, .sqPort] x1 (State.fetch x1 x2 x3 x4) := by
  unfold State.fetch
  extract_lets v0 v1 v2 v3 v4 v5
  refine Same.have v4 ?_ fun h6 => ?_
  · with_reducible refine Same.step (State.setPort_same _ _ _) (by decide) ?_
    exact Same.refl _ _
  clear_value v4
  refine Same.have v5 ?_ fun h7 => ?_
  · dsimp only [v5]
    with_reducible refine Same.record rfl ?_ ?_
    · intro p hp; cases p <;> first | exact absurd (by decide) hp | exact rfl
    exact h6
  clear_value v5
  with_reducible refine Same.step (State.bump_same _ _) (by decide) ?_
  exact h7

theorem execSqFetch_same (x1 : State) :
    OutSame [.dict, .ports, .sqPort] x1 (execSqFetch x1) := by
  unfold execSqFetch
  extract_lets v0
  refine OutSame.ite ?_ ?_
  · refine OutSame.next ?_
    exact Same.refl _ _
  · split
    · rename_i e1 e2 e3 e4
      refine OutSame.next ?_
      with_reducible refine Same.step (State.fetch_same _ _ _ _) (by decide) ?_
      exact Same.refl _ _
    · rename_i e5 e6
      split
      · rename_i e7 e8 e9 e10
        refine OutSame.next ?_
        with_reducible refine Same.step (State.fetch_same _ _ _ _) (by decide) ?_
        exact Same.refl _ _
      · rename_i e11 e12
        refine OutSame.next ?_
        exact Same.refl _ _

theorem State.defer_same (x1 : State) (x2 : Nat) (x3 : List Byte) (x4 : Taken) (x5 : Option Nat) :
    Same [.streams] x1 (State.defer x1 x2 x3 x4 x5) := by
  unfold State.defer
  extract_lets v0 v1
  with_reducible refine Same.step (State.setStream_same _ _ _) (by decide) ?_
  exact Same.refl _ _

theorem State.runCmd_same {W : List Part} {s0 s : State} {p op : Nat} {effect : State → Taken → State}
    (hw : ([.dict, .freeCtr, .ports, .streams, .test].all fun p => W.contains p) = true) (h : Same W s0 s)
    (he : ∀ t, Same W s0 (effect s t)) : Same W s0 (s.runCmd p op effect) := by
  unfold State.runCmd
  split
  · exact h
  · refine Same.step (State.finishLeave_same _ _) hw ?_
    split
    · split
      · exact Same.step ((State.defer_same _ _ _ _ _).mono (by decide)) hw h
      · exact Same.step ((State.finishCmd_same _ _ _ _ _).mono (by decide)) hw h
    · exact he _

theorem State.place1_same (x1 : State) (x2 : Nat) (x3 : List Byte) (x4 : Taken) :
    Same [.dict, .stores, .migs, .ports, .streams] x1 (State.place1 x1 x2 x3 x4) := by
  unfold State.place1
  extract_lets v0 v1 v2 v3 v4 v5 v6 v7 v8 v9 v10 v11 v12 v13 v14 v15 v16 v17
  refine Same.have v14 ?_ fun h18 => ?_
  · refine Same.ite ?_ ?_
    · exact Same.refl _ _
    · with_reducible refine Same.step (State.hubWrite_same _ _ _ _ _) (by decide) ?_
      exact Same.refl _ _
  clear_value v14
  refine Same.have v15 ?_ fun h19 => ?_
  · with_reducible refine Same.step (State.hubWrite_same _ _ _ _ _) (by decide) ?_
    exact h18
  clear_value v15
  refine Same.have v17 ?_ fun h20 => ?_
  · with_reducible refine Same.step (State.setStream_same _ _ _) (by decide) ?_
    exact h19
  clear_value v17
  refine Same.ite ?_ ?_
  · with_reducible refine Same.step (State.finishCmd_same _ _ _ _ _) (by decide) ?_
    exact Same.refl _ _
  · refine Same.ite ?_ ?_
    · with_reducible refine Same.step (State.finishCmd_same _ _ _ _ _) (by decide) ?_
      exact Same.refl _ _
    · with_reducible refine Same.step (State.finishCmd_same _ _ _ _ _) (by decide) ?_
      with_reducible refine Same.step (State.bump_same _ _) (by decide) ?_
      exact h20

theorem execIngress_same (x1 : Fin 2) (x2 : List Byte) (x3 : State) :
    OutSame [.dict, .freeCtr, .stores, .migs, .ports, .streams, .test] x3 (execIngress x1 x2 x3) := by
  unfold execIngress
  refine OutSame.next ?_
  with_reducible refine State.runCmd_same (by decide) ?_ ?_
  · exact Same.refl _ _
  · intro y0
    with_reducible refine Same.step (State.place1_same _ _ _ _) (by decide) ?_
    exact Same.refl _ _

theorem execOpenStream_same (x1 : Fin 2) (x2 : State) :
    OutSame [.dict, .freeCtr, .stores, .ports, .streams, .test] x2 (execOpenStream x1 x2) := by
  unfold execOpenStream
  refine OutSame.next ?_
  with_reducible refine State.runCmd_same (by decide) ?_ ?_
  · exact Same.refl _ _
  · intro y0
    extract_lets v1 v2 v3 v4 v5
    refine Same.ite ?_ ?_
    · with_reducible refine Same.step (State.finishCmd_same _ _ _ _ _) (by decide) ?_
      exact Same.refl _ _
    · with_reducible refine Same.step (State.signal_same _ _) (by decide) ?_
      with_reducible refine Same.step (State.finishCmd_same _ _ _ _ _) (by decide) ?_
      with_reducible refine Same.step (State.setStream_same _ _ _) (by decide) ?_
      with_reducible refine Same.step (State.recWrote_same _ _ _ _ _) (by decide) ?_
      with_reducible refine Same.step (State.recWrote_same _ _ _ _ _) (by decide) ?_
      exact Same.refl _ _

theorem execCloseStream_same (x1 : Fin 2) (x2 : State) :
    OutSame [.dict, .freeCtr, .ports, .streams, .test] x2 (execCloseStream x1 x2) := by
  unfold execCloseStream
  refine OutSame.next ?_
  with_reducible refine State.runCmd_same (by decide) ?_ ?_
  · exact Same.refl _ _
  · intro y0
    extract_lets v1 v2 v3
    with_reducible refine Same.step (State.signal_same _ _) (by decide) ?_
    with_reducible refine Same.step (State.setStream_same _ _ _) (by decide) ?_
    exact Same.refl _ _

theorem State.onRecord_same (x1 : State) (x2 : Nat) (x3 : List Byte) (x4 : Taken) :
    Same [.hostMem, .stores, .ports, .streams] x1 (State.onRecord x1 x2 x3 x4) := by
  unfold State.onRecord
  extract_lets v0 v1
  refine Same.ite ?_ ?_
  · with_reducible refine Same.step (State.defer_same _ _ _ _ _) (by decide) ?_
    exact Same.refl _ _
  · with_reducible refine Same.step (State.applyDeferred_same _ _) (by decide) ?_
    exact Same.refl _ _

theorem execSampling_same (x1 : Fin 2) (x2 : State) :
    OutSame [.dict, .freeCtr, .hostMem, .stores, .ports, .streams, .test] x2 (execSampling x1 x2) := by
  unfold execSampling
  refine OutSame.next ?_
  with_reducible refine State.runCmd_same (by decide) ?_ ?_
  · exact Same.refl _ _
  · intro y0
    with_reducible refine Same.step (State.onRecord_same _ _ _ _) (by decide) ?_
    exact Same.refl _ _

theorem execStatewrite_same (x1 : Fin 2) (x2 : List Byte) (x3 : State) :
    OutSame [.dict, .freeCtr, .hostMem, .stores, .ports, .streams, .test] x3 (execStatewrite x1 x2 x3) := by
  unfold execStatewrite
  refine OutSame.next ?_
  with_reducible refine State.runCmd_same (by decide) ?_ ?_
  · exact Same.refl _ _
  · intro y0
    refine Same.ite ?_ ?_
    · with_reducible refine Same.step (State.finishCmd_same _ _ _ _ _) (by decide) ?_
      exact Same.refl _ _
    · with_reducible refine Same.step (State.onRecord_same _ _ _ _) (by decide) ?_
      exact Same.refl _ _

theorem execStateread_same (x1 : Fin 2) (x2 : State) :
    OutSame [.dict, .freeCtr, .hostMem, .stores, .ports, .streams, .test] x2 (execStateread x1 x2) := by
  unfold execStateread
  refine OutSame.next ?_
  with_reducible refine State.runCmd_same (by decide) ?_ ?_
  · exact Same.refl _ _
  · intro y0
    refine Same.ite ?_ ?_
    · with_reducible refine Same.step (State.finishCmd_same _ _ _ _ _) (by decide) ?_
      exact Same.refl _ _
    · with_reducible refine Same.step (State.onRecord_same _ _ _ _) (by decide) ?_
      exact Same.refl _ _

theorem execMemwrite_same (x1 : Fin 2) (x2 : List Byte) (x3 : State) :
    OutSame [.dict, .freeCtr, .stores, .migs, .ports, .streams, .test] x3 (execMemwrite x1 x2 x3) := by
  unfold execMemwrite
  refine OutSame.next ?_
  with_reducible refine State.runCmd_same (by decide) ?_ ?_
  · exact Same.refl _ _
  · intro y0
    extract_lets v1 v2 v3
    refine Same.ite ?_ ?_
    · with_reducible refine Same.step (State.finishCmd_same _ _ _ _ _) (by decide) ?_
      exact Same.refl _ _
    · with_reducible refine Same.step (State.finishCmd_same _ _ _ _ _) (by decide) ?_
      with_reducible refine Same.step (State.hubWrite_same _ _ _ _ _) (by decide) ?_
      exact Same.refl _ _

theorem execMemread_same (x1 : Fin 2) (x2 : State) :
    OutSame [.dict, .freeCtr, .hostMem, .stores, .ports, .streams, .test] x2 (execMemread x1 x2) := by
  unfold execMemread
  refine OutSame.next ?_
  with_reducible refine State.runCmd_same (by decide) ?_ ?_
  · exact Same.refl _ _
  · intro y0
    extract_lets v1 v2 v3 v4 v5 v6
    refine Same.have v6 ?_ fun h7 => ?_
    · with_reducible refine Same.step (State.wake_same _ _ _) (by decide) ?_
      exact Same.refl _ _
    clear_value v6
    refine Same.ite ?_ ?_
    · with_reducible refine Same.step (State.finishCmd_same _ _ _ _ _) (by decide) ?_
      exact Same.refl _ _
    · split
      · rename_i e8 e9 e10
        with_reducible refine Same.step (State.finishCmd_same _ _ _ _ _) (by decide) ?_
        dsimp only [v5]
        with_reducible refine Same.record rfl ?_ ?_
        · intro p hp; cases p <;> first | exact absurd (by decide) hp | exact rfl
        exact h7
      · rename_i e11 e12
        with_reducible refine Same.step (State.finishCmd_same _ _ _ _ _) (by decide) ?_
        dsimp only [v5]
        with_reducible refine Same.record rfl ?_ ?_
        · intro p hp; cases p <;> first | exact absurd (by decide) hp | exact rfl
        exact h7

theorem execRebind_same (x1 : Fin 2) (x2 : State) :
    OutSame [.dict, .freeCtr, .ports, .streams, .test] x2 (execRebind x1 x2) := by
  unfold execRebind
  refine OutSame.next ?_
  with_reducible refine State.runCmd_same (by decide) ?_ ?_
  · exact Same.refl _ _
  · intro y0
    extract_lets v1 v2 v3
    with_reducible refine Same.step (State.setStream_same _ _ _) (by decide) ?_
    exact Same.refl _ _

theorem execCommandCompletion_same (x1 : Fin 2) (x2 : State) :
    OutSame [.dict, .freeCtr, .ports, .test] x2 (execCommandCompletion x1 x2) := by
  unfold execCommandCompletion
  extract_lets v0 v1 v2
  split
  · rename_i e3 e4
    refine OutSame.next ?_
    exact Same.refl _ _
  · rename_i e5 e6 e7
    extract_lets v8 v9 v10 v11
    refine OutSame.have v10 ?_ fun h12 => ?_
    · with_reducible refine Same.step (State.setPort_same _ _ _) (by decide) ?_
      exact Same.refl _ _
    clear_value v10
    refine OutSame.have v11 ?_ fun h13 => ?_
    · refine Same.ite ?_ ?_
      · with_reducible refine Same.step (State.traceOpen_same _ _ _ _ _ _ _) (by decide) ?_
        exact h12
      · exact h12
    clear_value v11
    refine OutSame.next ?_
    refine Same.ite ?_ ?_
    · exact h13
    · with_reducible refine Same.step (State.bump_same _ _) (by decide) ?_
      exact h13

theorem State.discardCommands_same (x1 : State) :
    Same [.ports, .streams] x1 (State.discardCommands x1) := by
  unfold State.discardCommands
  extract_lets v0
  refine Same.have v0 ?_ fun h1 => ?_
  · refine Same.foldl ?_ fun q2 y3 h4 => ?_
    · exact Same.refl _ _
    · extract_lets v5
      with_reducible refine Same.step (State.setPort_same _ _ _) (by decide) ?_
      exact h4
  clear_value v0
  with_reducible refine Same.record rfl ?_ ?_
  · intro p hp; cases p <;> first | exact absurd (by decide) hp | exact rfl
  exact h1

theorem State.applyRebind_same (x1 : State) (x2 : Nat) :
    Same [.dict, .freeCtr, .ports, .streams, .test] x1 (State.applyRebind x1 x2) := by
  unfold State.applyRebind
  extract_lets v0 v1
  split
  · rename_i e2 e3
    exact Same.refl _ _
  · rename_i e4 e5 e6
    extract_lets v7 v8 v9 v10
    refine Same.have v10 ?_ fun h11 => ?_
    · with_reducible refine Same.step (State.setStream_same _ _ _) (by decide) ?_
      exact Same.refl _ _
    clear_value v10
    with_reducible refine Same.step (State.finishCmd_same _ _ _ _ _) (by decide) ?_
    refine Same.ite ?_ ?_
    · with_reducible refine Same.step (State.event_same _ _ _ _) (by decide) ?_
      exact h11
    · exact h11

theorem State.closeIdle_same (x1 : State) (x2 : Nat) :
    Same [.dict, .freeCtr, .ports, .streams, .test] x1 (State.closeIdle x1 x2) := by
  unfold State.closeIdle
  extract_lets v0 v1 v2
  refine Same.have v1 ?_ fun h3 => ?_
  · refine Same.ite ?_ ?_
    · with_reducible refine Same.step (State.event_same _ _ _ _) (by decide) ?_
      exact Same.refl _ _
    · exact Same.refl _ _
  clear_value v1
  refine Same.have v2 ?_ fun h4 => ?_
  · dsimp only [v2]
    split
    · rename_i e5 e6 e7
      with_reducible refine Same.step (State.finishCmd_same _ _ _ _ _) (by decide) ?_
      exact h3
    · rename_i e8 e9
      exact h3
  clear_value v2
  refine Same.ite ?_ ?_
  · exact Same.refl _ _
  · with_reducible refine Same.step (State.setStream_same _ _ _) (by decide) ?_
    exact h4

end Sys2Proof.Machine
end

