-- ==== Sys2Proof/Laws/FrameTier.lean ====
section
/-! SUPPORT. Frames of the functions of Machine/Tier.lean: one lemma a function, which says what parts of the state it
can change. -/

namespace Sys2Proof.Machine

open Sys2Proof

theorem execPresenceDetect_same (x1 : Fin 16) (x2 : State) :
    OutSame [.chans] x2 (execPresenceDetect x1 x2) := by
  unfold execPresenceDetect
  extract_lets v0
  refine OutSame.ite ?_ ?_
  · refine OutSame.next ?_
    with_reducible refine Same.step (State.setChan_same _ _ _) (by decide) ?_
    exact Same.refl _ _
  · refine OutSame.next ?_
    with_reducible refine Same.step (State.setChan_same _ _ _) (by decide) ?_
    exact Same.refl _ _

theorem execPresenceRemoved_same (x1 : Fin 16) (x2 : State) :
    OutSame [.dict, .freeCtr, .cores, .dies, .stores, .ledger, .tlb, .epoch, .heldFrames, .migs, .ledgerCmd, .chans, .staging, .lanes, .trackers, .replies, .lastResponse, .xports, .test] x2 (execPresenceRemoved x1 x2) := by
  unfold execPresenceRemoved
  extract_lets v0 v1 v2 v3
  refine OutSame.have v2 ?_ fun h4 => ?_
  · with_reducible refine Same.step (State.setChan_same _ _ _) (by decide) ?_
    exact Same.refl _ _
  clear_value v2
  split
  · rename_i e5 e6
    refine OutSame.next ?_
    exact h4
  · rename_i e7 e8
    refine OutSame.next ?_
    with_reducible refine Same.step (State.setChan_same _ _ _) (by decide) ?_
    exact h4
  · rename_i e9 e10 e11
    refine OutSame.next ?_
    with_reducible refine Same.step (State.channelFail_same _ _) (by decide) ?_
    exact h4

theorem execSpdRead_same (x1 : Fin 16) (x2 : Spd) (x3 : State) :
    OutSame [.chans] x3 (execSpdRead x1 x2 x3) := by
  unfold execSpdRead
  extract_lets v0
  refine OutSame.next ?_
  with_reducible refine when_same ?_ ?_
  · with_reducible refine Same.step (State.setChan_same _ _ _) (by decide) ?_
    exact Same.refl _ _
  · exact Same.refl _ _

theorem State.channelIn_same (x1 : State) (x2 : Nat) :
    Same [.dict, .fieldMap, .stores, .chans] x1 (State.channelIn x1 x2) := by
  unfold State.channelIn
  extract_lets v0 v1 v2 v3 v4
  refine Same.have v2 ?_ fun h5 => ?_
  · with_reducible refine Same.step (State.setChan_same _ _ _) (by decide) ?_
    exact Same.refl _ _
  clear_value v2
  refine Same.have v3 ?_ fun h6 => ?_
  · dsimp only [v3]
    with_reducible refine Same.record rfl ?_ ?_
    · intro p hp; cases p <;> first | exact absurd (by decide) hp | exact rfl
    exact h5
  clear_value v3
  with_reducible refine Same.step (State.setReg_same _ _ _) (by decide) ?_
  with_reducible refine Same.step (State.setStore_same _ _ _) (by decide) ?_
  exact h6

theorem execChannelTrainingEnd_same (x1 : Fin 16) (x2 : Bool) (x3 : State) :
    OutSame [.dict, .freeCtr, .cores, .dies, .fieldMap, .stores, .ledger, .tlb, .epoch, .heldFrames, .migs, .ledgerCmd, .chans, .staging, .lanes, .trackers, .replies, .lastResponse, .xports, .test] x3 (execChannelTrainingEnd x1 x2 x3) := by
  unfold execChannelTrainingEnd
  refine OutSame.ite ?_ ?_
  · refine OutSame.next ?_
    refine Same.ite ?_ ?_
    · with_reducible refine Same.step (State.channelIn_same _ _) (by decide) ?_
      exact Same.refl _ _
    · with_reducible refine Same.step (State.channelFail_same _ _) (by decide) ?_
      exact Same.refl _ _
  · refine OutSame.next ?_
    exact Same.refl _ _

theorem execI3cBusLoss_same (x1 : Fin 16) (x2 : State) :
    OutSame [.dict, .freeCtr, .cores, .dies, .stores, .ledger, .tlb, .epoch, .heldFrames, .migs, .ledgerCmd, .chans, .staging, .lanes, .trackers, .replies, .lastResponse, .xports, .test] x2 (execI3cBusLoss x1 x2) := by
  unfold execI3cBusLoss
  split
  · rename_i e0 e1
    refine OutSame.next ?_
    with_reducible refine Same.step (State.channelFail_same _ _) (by decide) ?_
    exact Same.refl _ _
  · rename_i e2 e3
    refine OutSame.next ?_
    with_reducible refine Same.step (State.channelFail_same _ _) (by decide) ?_
    exact Same.refl _ _
  · rename_i e4 e5
    refine OutSame.next ?_
    with_reducible refine Same.step (State.channelFail_same _ _) (by decide) ?_
    exact Same.refl _ _
  · rename_i e6 e7
    refine OutSame.next ?_
    with_reducible refine Same.step (State.channelFail_same _ _) (by decide) ?_
    exact Same.refl _ _
  · rename_i e8 e9 e10 e11 e12
    refine OutSame.next ?_
    exact Same.refl _ _

theorem execPowerEnableOff_same (x1 : Fin 16) (x2 : State) :
    OutSame [.chans] x2 (execPowerEnableOff x1 x2) := by
  unfold execPowerEnableOff
  refine OutSame.next ?_
  with_reducible refine when_same ?_ ?_
  · with_reducible refine Same.step (State.setChan_same _ _ _) (by decide) ?_
    exact Same.refl _ _
  · exact Same.refl _ _

theorem execChannelSelfRefresh_same (x1 : Fin 16) (x2 : State) :
    OutSame [.stores] x2 (execChannelSelfRefresh x1 x2) := by
  unfold execChannelSelfRefresh
  extract_lets v0 v1
  refine OutSame.next ?_
  with_reducible refine when_same ?_ ?_
  · with_reducible refine Same.step (State.setStore_same _ _ _) (by decide) ?_
    exact Same.refl _ _
  · exact Same.refl _ _

theorem State.channelStatus_same (x1 : State) (x2 : Status) :
    Same [.dict, .lastStatus] x1 (State.channelStatus x1 x2) := by
  unfold State.channelStatus
  with_reducible refine Same.step (State.answer_same _ _) (by decide) ?_
  with_reducible refine Same.step (State.drainOutcome_same _ _ _) (by decide) ?_
  exact Same.refl _ _

theorem State.channelDrain_same (x1 : State) :
    Same [.dict, .lastStatus, .stores, .ledger, .tlb, .migs, .chans, .hub] x1 (State.channelDrain x1) := by
  unfold State.channelDrain
  extract_lets v0 v1
  split
  · rename_i e2 e3
    with_reducible refine Same.step (State.feedDrain_same _ _ _) (by decide) ?_
    with_reducible refine Same.step (State.answer_same _ _) (by decide) ?_
    with_reducible refine Same.step (State.setReg_same _ _ _) (by decide) ?_
    with_reducible refine Same.step (State.addReg_same _ _ _) (by decide) ?_
    with_reducible refine Same.step (State.setChan_same _ _ _) (by decide) ?_
    exact Same.refl _ _
  · rename_i e4 e5
    with_reducible refine Same.step (State.channelStatus_same _ _) (by decide) ?_
    exact Same.refl _ _

theorem execChannelDrain_same (x1 : State) :
    OutSame [.dict, .lastStatus, .stores, .ledger, .tlb, .migs, .chans, .hub] x1 (execChannelDrain x1) := by
  unfold execChannelDrain
  refine OutSame.next ?_
  with_reducible refine Same.step (State.channelDrain_same _) (by decide) ?_
  exact Same.refl _ _

theorem State.channelDiscover_same (x1 : State) :
    Same [.dict, .lastStatus, .chans] x1 (State.channelDiscover x1) := by
  unfold State.channelDiscover
  extract_lets v0 v1
  refine Same.ite ?_ ?_
  · with_reducible refine Same.step (State.channelStatus_same _ _) (by decide) ?_
    exact Same.refl _ _
  · split
    · rename_i e2 e3
      with_reducible refine Same.step (State.channelStatus_same _ _) (by decide) ?_
      refine Same.ite ?_ ?_
      · with_reducible refine Same.step (State.setChan_same _ _ _) (by decide) ?_
        exact Same.refl _ _
      · with_reducible refine Same.step (State.setChan_same _ _ _) (by decide) ?_
        exact Same.refl _ _
    · rename_i e4 e5
      with_reducible refine Same.step (State.channelStatus_same _ _) (by decide) ?_
      with_reducible refine Same.step (State.setChan_same _ _ _) (by decide) ?_
      exact Same.refl _ _
    · rename_i e6 e7
      with_reducible refine Same.step (State.channelStatus_same _ _) (by decide) ?_
      with_reducible refine Same.step (State.setChan_same _ _ _) (by decide) ?_
      exact Same.refl _ _
    · rename_i e8 e9 e10 e11
      with_reducible refine Same.step (State.channelStatus_same _ _) (by decide) ?_
      exact Same.refl _ _

theorem execDiscover_same (x1 : State) :
    OutSame [.dict, .lastStatus, .chans] x1 (execDiscover x1) := by
  unfold execDiscover
  refine OutSame.next ?_
  with_reducible refine Same.step (State.channelDiscover_same _) (by decide) ?_
  exact Same.refl _ _

theorem writeChannelCommand_same (x1 : Nat) (x2 : State) :
    Same [.dict, .lastStatus, .stores, .ledger, .tlb, .migs, .chans, .hub] x2 (writeChannelCommand x1 x2) := by
  unfold writeChannelCommand
  refine Same.ite ?_ ?_
  · with_reducible refine Same.step (State.channelDrain_same _) (by decide) ?_
    exact Same.refl _ _
  · refine Same.ite ?_ ?_
    · with_reducible refine Same.step (State.channelDiscover_same _) (by decide) ?_
      exact Same.refl _ _
    · with_reducible refine Same.step (State.channelStatus_same _ _) (by decide) ?_
      exact Same.refl _ _

theorem execDrainComplete_same (x1 : Fin 16) (x2 : State) :
    OutSame [.dict, .stores, .chans] x2 (execDrainComplete x1 x2) := by
  unfold execDrainComplete
  extract_lets v0 v1 v2 v3 v4
  refine OutSame.have v3 ?_ fun h5 => ?_
  · with_reducible refine Same.step (State.setChan_same _ _ _) (by decide) ?_
    exact Same.refl _ _
  clear_value v3
  refine OutSame.ite ?_ ?_
  · refine OutSame.next ?_
    with_reducible refine Same.step (State.drainOutcome_same _ _ _) (by decide) ?_
    with_reducible refine Same.step (State.setStore_same _ _ _) (by decide) ?_
    exact h5
  · refine OutSame.next ?_
    exact Same.refl _ _

theorem State.takeStaging_same (x1 : State) (x2 : Nat → Bool) :
    Same [.dies, .staging, .stagingTurn, .ports] x1 (State.takeStaging x1 x2) := by
  unfold State.takeStaging
  split
  · rename_i e0 e1
    exact Same.refl _ _
  · rename_i e2 e3 e4 e5 e6 e7
    refine Same.ite ?_ ?_
    · extract_lets v8 v9 v10 v11 v12
      refine Same.have v10 ?_ fun h13 => ?_
      · with_reducible refine Same.step (State.setStaging_same _ _) (by decide) ?_
        exact Same.refl _ _
      clear_value v10
      refine Same.have v12 ?_ fun h14 => ?_
      · with_reducible refine Same.step (State.setPort_same _ _ _) (by decide) ?_
        exact h13
      clear_value v12
      with_reducible refine Same.record rfl ?_ ?_
      · intro p hp; cases p <;> first | exact absurd (by decide) hp | exact rfl
      exact h14
    · exact Same.refl _ _

theorem execStagingQueueDoorbell_same (x1 : Fin 2) (x2 : Nat) (x3 : State) :
    OutSame [.dict, .freeCtr, .ports, .test] x3 (execStagingQueueDoorbell x1 x2 x3) := by
  unfold execStagingQueueDoorbell
  extract_lets v0 v1
  refine OutSame.next ?_
  with_reducible refine when_same ?_ ?_
  · with_reducible refine Same.step (State.traceOpen_same _ _ _ _ _ _ _) (by decide) ?_
    with_reducible refine Same.step (State.setPort_same _ _ _) (by decide) ?_
    exact Same.refl _ _
  · exact Same.refl _ _

theorem execStagein_same (x1 : List MemError) (x2 : State) :
    OutSame [.dict, .freeCtr, .cores, .dies, .fieldMap, .stores, .ledger, .tlb, .epoch, .heldFrames, .migs, .ledgerCmd, .chans, .staging, .stagingTurn, .lanes, .trackers, .replies, .lastResponse, .xports, .hub, .ports, .test] x2 (execStagein x1 x2) := by
  unfold execStagein
  refine OutSame.next ?_
  with_reducible refine Same.step (State.memErrors_same _ _) (by decide) ?_
  with_reducible refine Same.step (State.takeStaging_same _ _) (by decide) ?_
  exact Same.refl _ _

theorem execStageout_same (x1 : List MemError) (x2 : State) :
    OutSame [.dict, .freeCtr, .cores, .dies, .fieldMap, .stores, .ledger, .tlb, .epoch, .heldFrames, .migs, .ledgerCmd, .chans, .staging, .stagingTurn, .lanes, .trackers, .replies, .lastResponse, .xports, .hub, .ports, .test] x2 (execStageout x1 x2) := by
  unfold execStageout
  refine OutSame.next ?_
  with_reducible refine Same.step (State.memErrors_same _ _) (by decide) ?_
  with_reducible refine Same.step (State.takeStaging_same _ _) (by decide) ?_
  exact Same.refl _ _

theorem State.stageMove_same (x1 : State) (x2 x3 : Nat × Nat) :
    Same [.dict, .freeCtr, .cores, .dies, .fieldMap, .stores, .ledger, .tlb, .epoch, .heldFrames, .migs, .ledgerCmd, .chans, .staging, .lanes, .trackers, .replies, .lastResponse, .xports, .hub, .test] x1 (State.stageMove x1 x2 x3) := by
  unfold State.stageMove
  refine Same.ite ?_ ?_
  · exact Same.refl _ _
  · extract_lets v0 v1
    refine Same.have v0 ?_ fun h2 => ?_
    · with_reducible refine Same.step (State.moveBytes_same _ _ _ _ _ _) (by decide) ?_
      exact Same.refl _ _
    clear_value v0
    refine Same.have v1 ?_ fun h3 => ?_
    · dsimp only [v1]
      split
      · rename_i e4 e5 e6
        refine Same.ite ?_ ?_
        · with_reducible refine Same.step (State.setMig_same _ _ _) (by decide) ?_
          exact h2
        · exact h2
      · rename_i e7 e8
        exact h2
    clear_value v1
    with_reducible refine Same.step (State.marked_same _ _ _) (by decide) ?_
    exact h3

theorem State.finishStaging_same (x1 : State) (x2 : StageCmd) (x3 : Nat) :
    Same [.dict, .freeCtr, .ports, .test] x1 (State.finishStaging x1 x2 x3) := by
  unfold State.finishStaging
  refine Same.ite ?_ ?_
  · exact Same.refl _ _
  · extract_lets v0 v1 v2 v3 v4
    refine Same.have v4 ?_ fun h5 => ?_
    · with_reducible refine Same.step (State.setPort_same _ _ _) (by decide) ?_
      exact Same.refl _ _
    clear_value v4
    refine Same.ite ?_ ?_
    · with_reducible refine Same.step (State.traceOpen_same _ _ _ _ _ _ _) (by decide) ?_
      exact h5
    · exact h5

theorem State.stageCopy_same (x1 : State) (x2 : StageCmd) :
    Same [.dict, .freeCtr, .cores, .dies, .fieldMap, .stores, .ledger, .tlb, .epoch, .heldFrames, .migs, .ledgerCmd, .chans, .staging, .lanes, .trackers, .replies, .lastResponse, .xports, .hub, .test] x1 (State.stageCopy x1 x2).1 := by
  unfold State.stageCopy
  extract_lets v0 v1 v2
  refine Same.have v1 ?_ fun h3 => ?_
  · refine Same.foldl ?_ fun q4 y5 h6 => ?_
    · exact Same.refl _ _
    · refine Same.foldl ?_ fun q7 y8 h9 => ?_
      · exact h6
      · with_reducible refine Same.step (State.stageMove_same _ _ _) (by decide) ?_
        exact h9
  clear_value v1
  refine Same.have v2 ?_ fun h10 => ?_
  · with_reducible refine Same.step (State.addReg_same _ _ _) (by decide) ?_
    with_reducible refine Same.step (State.addReg_same _ _ _) (by decide) ?_
    exact h3
  clear_value v2
  refine Same.iteFst ?_ ?_
  · dsimp only
    exact h3
  · refine Same.iteFst ?_ ?_
    · dsimp only
      with_reducible refine Same.step (State.bump_same _ _) (by decide) ?_
      exact h10
    · dsimp only
      exact h10

theorem execStagingComplete_same (x1 : Nat) (x2 : State) :
    OutSame [.dict, .freeCtr, .cores, .dies, .fieldMap, .stores, .ledger, .tlb, .epoch, .heldFrames, .migs, .ledgerCmd, .chans, .staging, .stagingTurn, .lanes, .trackers, .replies, .lastResponse, .xports, .hub, .ports, .test] x2 (execStagingComplete x1 x2) := by
  unfold execStagingComplete
  split
  · rename_i e0 e1
    refine OutSame.next ?_
    with_reducible refine Same.step (State.takeStaging_same _ _) (by decide) ?_
    exact Same.refl _ _
  · rename_i e2 e3 e4
    extract_lets v5
    refine OutSame.have v5 ?_ fun h6 => ?_
    · with_reducible refine Same.step (State.setStaging_same _ _) (by decide) ?_
      exact Same.refl _ _
    clear_value v5
    split
    · rename_i e7 e8 e9
      refine OutSame.next ?_
      with_reducible refine Same.step (State.feedDrains_same _) (by decide) ?_
      with_reducible refine Same.step (State.finishStaging_same _ _ _) (by decide) ?_
      exact h6
    · rename_i e10 e11
      refine OutSame.ite ?_ ?_
      · refine OutSame.next ?_
        exact Same.refl _ _
      · split
        · rename_i e12 e13
          refine OutSame.next ?_
          exact Same.refl _ _
        · rename_i e14 e15 e16
          split
          rename_i e17 e18 e19 e20
          refine OutSame.next ?_
          with_reducible refine Same.step (State.feedDrains_same _) (by decide) ?_
          with_reducible refine Same.step (State.finishStaging_same _ _ _) (by decide) ?_
          refine Same.fstOf e20 ?_
          with_reducible refine Same.step (State.stageCopy_same _ _) (by decide) ?_
          with_reducible refine Same.step (State.setStaging_same _ _) (by decide) ?_
          exact Same.refl _ _

end Sys2Proof.Machine
end

