-- ==== Sys2Proof/Laws/FramePower.lean ====
section
/-! SUPPORT. Frames of the functions of Machine/Power.lean: one lemma a function, which says what parts of the state it
can change. -/

namespace Sys2Proof.Machine

open Sys2Proof

theorem State.setPw_same (x1 : State) (x2 : Power → Power) :
    Same [.pw] x1 (State.setPw x1 x2) := by
  unfold State.setPw
  with_reducible refine Same.record rfl ?_ ?_
  · intro p hp; cases p <;> first | exact absurd (by decide) hp | exact rfl
  exact Same.refl _ _

theorem State.reportOsc_same (x1 : State) :
    Same [.dict] x1 (State.reportOsc x1) := by
  unfold State.reportOsc
  extract_lets v0
  with_reducible refine Same.step (State.setReg_same _ _ _) (by decide) ?_
  exact Same.refl _ _

theorem execOscillatorLoss_same (x1 : Fin 2) (x2 : State) :
    OutSame [.dict, .pw] x2 (execOscillatorLoss x1 x2) := by
  unfold execOscillatorLoss
  extract_lets v0
  refine OutSame.have v0 ?_ fun h1 => ?_
  · with_reducible refine Same.step (State.setPw_same _ _) (by decide) ?_
    exact Same.refl _ _
  clear_value v0
  refine OutSame.next ?_
  refine Same.ite ?_ ?_
  · with_reducible refine Same.step (State.stick_same _ _ _) (by decide) ?_
    with_reducible refine Same.step (State.setPw_same _ _) (by decide) ?_
    exact h1
  · exact h1

theorem execOscillatorSwitch_same (x1 : State) :
    OutSame [.pw] x1 (execOscillatorSwitch x1) := by
  unfold execOscillatorSwitch
  extract_lets v0
  refine OutSame.next ?_
  with_reducible refine when_same ?_ ?_
  · with_reducible refine Same.step (State.setPw_same _ _) (by decide) ?_
    exact Same.refl _ _
  · exact Same.refl _ _

theorem execOscillatorReturn_same (x1 : Fin 2) (x2 : State) :
    OutSame [.pw] x2 (execOscillatorReturn x1 x2) := by
  unfold execOscillatorReturn
  refine OutSame.next ?_
  with_reducible refine Same.step (State.setPw_same _ _) (by decide) ?_
  exact Same.refl _ _

theorem execDroopStretch_same (x1 : Fin 54) (x2 : Fin 8) (x3 : State) :
    OutSame [.dict, .pw] x3 (execDroopStretch x1 x2 x3) := by
  unfold execDroopStretch
  extract_lets v0 v1 v2
  refine OutSame.have v2 ?_ fun h3 => ?_
  · with_reducible refine Same.step (State.setPw_same _ _) (by decide) ?_
    exact Same.refl _ _
  clear_value v2
  refine OutSame.next ?_
  with_reducible refine Same.step (State.setReg_same _ _ _) (by decide) ?_
  with_reducible refine Same.step (State.bump_same _ _) (by decide) ?_
  exact h3

theorem execSyncPulse_same (x1 : List (Fin 73 × Int)) (x2 : State) :
    OutSame [.pw] x2 (execSyncPulse x1 x2) := by
  unfold execSyncPulse
  extract_lets v0 v1 v2 v3
  refine OutSame.next ?_
  with_reducible refine Same.step (State.setPw_same _ _) (by decide) ?_
  exact Same.refl _ _

theorem State.schedule_same (x1 : State) (x2 : Sync) (x3 : Nat) :
    Same [.pw] x1 (State.schedule x1 x2 x3) := by
  unfold State.schedule
  with_reducible refine Same.step (State.setPw_same _ _) (by decide) ?_
  exact Same.refl _ _

theorem State.cancelRamp_same (x1 : State) (x2 : Nat) :
    Same [.dies] x1 (State.cancelRamp x1 x2) := by
  unfold State.cancelRamp
  extract_lets v0
  with_reducible refine Same.step (State.setDie_same _ _ _) (by decide) ?_
  exact Same.refl _ _

theorem State.throttle_same (x1 : State) (x2 : Nat) :
    Same [.dict, .dies, .pw, .test] x1 (State.throttle x1 x2) := by
  unfold State.throttle
  extract_lets v0
  refine Same.ite ?_ ?_
  · with_reducible refine Same.step (State.trace_same _ _ _ _ _ _ _) (by decide) ?_
    with_reducible refine Same.step (State.schedule_same _ _ _) (by decide) ?_
    with_reducible refine Same.step (State.cancelRamp_same _ _) (by decide) ?_
    exact Same.refl _ _
  · refine Same.ite ?_ ?_
    · with_reducible refine Same.step (State.cancelRamp_same _ _) (by decide) ?_
      exact Same.refl _ _
    · exact Same.refl _ _

theorem State.writePoint_same (x1 : State) (x2 x3 : Nat) :
    Same [.dict, .nv, .lastStatus] x1 (State.writePoint x1 x2 x3) := by
  unfold State.writePoint
  refine Same.ite ?_ ?_
  · with_reducible refine Same.step (State.answer_same _ _) (by decide) ?_
    exact Same.refl _ _
  · with_reducible refine Same.step (State.answer_same _ _) (by decide) ?_
    with_reducible refine Same.step (State.keep_same _ _ _) (by decide) ?_
    exact Same.refl _ _

theorem execDieOperatingPointWrite_same (x1 : Fin 8) (x2 : Nat) (x3 : State) :
    OutSame [.dict, .nv, .lastStatus] x3 (execDieOperatingPointWrite x1 x2 x3) := by
  unfold execDieOperatingPointWrite
  refine OutSame.next ?_
  with_reducible refine Same.step (State.writePoint_same _ _ _) (by decide) ?_
  exact Same.refl _ _

theorem execVcoreRampStart_same (x1 : Fin 8) (x2 : State) :
    OutSame [.dies] x2 (execVcoreRampStart x1 x2) := by
  unfold execVcoreRampStart
  extract_lets v0 v1 v2
  refine OutSame.next ?_
  with_reducible refine when_same ?_ ?_
  · with_reducible refine Same.step (State.setDie_same _ _ _) (by decide) ?_
    exact Same.refl _ _
  · exact Same.refl _ _

theorem execVcoreSettleCheck_same (x1 : Fin 8) (x2 : Bool) (x3 : State) :
    OutSame [.dies] x3 (execVcoreSettleCheck x1 x2 x3) := by
  unfold execVcoreSettleCheck
  extract_lets v0
  refine OutSame.next ?_
  with_reducible refine when_same ?_ ?_
  · with_reducible refine Same.step (State.setDie_same _ _ _) (by decide) ?_
    exact Same.refl _ _
  · exact Same.refl _ _

theorem State.liftLimits_same (x1 : State) (x2 : Nat) :
    Same [.thermals, .pw] x1 (State.liftLimits x1 x2) := by
  unfold State.liftLimits
  extract_lets v0 v1 v2 v3
  refine Same.have v3 ?_ fun h4 => ?_
  · with_reducible refine Same.step (State.setThermal_same _ _ _) (by decide) ?_
    exact Same.refl _ _
  clear_value v3
  with_reducible refine Same.step (State.setPw_same _ _) (by decide) ?_
  exact h4

theorem State.boundaryPoint_same (x1 : State) (x2 : Nat) :
    Same [.dies, .thermals, .pw] x1 (State.boundaryPoint x1 x2) := by
  unfold State.boundaryPoint
  extract_lets v0 v1 v2 v3
  refine Same.have v2 ?_ fun h4 => ?_
  · with_reducible refine Same.step (State.liftLimits_same _ _) (by decide) ?_
    exact Same.refl _ _
  clear_value v2
  refine Same.ite ?_ ?_
  · exact Same.refl _ _
  · refine Same.ite ?_ ?_
    · with_reducible refine Same.step (State.schedule_same _ _ _) (by decide) ?_
      with_reducible refine Same.step (State.cancelRamp_same _ _) (by decide) ?_
      with_reducible refine Same.step (State.liftLimits_same _ _) (by decide) ?_
      exact Same.refl _ _
    · refine Same.ite ?_ ?_
      · split
        · rename_i e5 e6 e7 e8 e9
          refine Same.ite ?_ ?_
          · with_reducible refine Same.step (State.schedule_same _ _ _) (by decide) ?_
            with_reducible refine Same.step (State.setDie_same _ _ _) (by decide) ?_
            exact h4
          · with_reducible refine Same.step (State.cancelRamp_same _ _) (by decide) ?_
            exact Same.refl _ _
        · rename_i e10 e11 e12
          exact Same.refl _ _
      · with_reducible refine Same.step (State.liftLimits_same _ _) (by decide) ?_
        exact Same.refl _ _

theorem State.capCheck_same (x1 : State) :
    Same [.dict, .pw] x1 (State.capCheck x1) := by
  unfold State.capCheck
  extract_lets v0 v1 v2 v3
  refine Same.ite ?_ ?_
  · exact Same.refl _ _
  · clear_value v3
    split
    · rename_i e4 e5
      with_reducible refine Same.step (State.stick_same _ _ _) (by decide) ?_
      with_reducible refine Same.step (State.setPw_same _ _) (by decide) ?_
      exact Same.refl _ _
    · rename_i e6
      refine Same.ite ?_ ?_
      · exact Same.refl _ _
      · with_reducible refine Same.step (State.stick_same _ _ _) (by decide) ?_
        exact Same.refl _ _

theorem State.clearCores_same (x1 : State) (x2 : Nat) :
    Same [.cores] x1 (State.clearCores x1 x2) := by
  unfold State.clearCores
  with_reducible refine Same.record rfl ?_ ?_
  · intro p hp; cases p <;> first | exact absurd (by decide) hp | exact rfl
  exact Same.refl _ _

theorem State.dieTrip_same (x1 : State) (x2 : Nat) :
    Same [.dict, .lastStatus, .freeCtr, .hostMem, .entries, .cores, .runs, .dies, .grants, .orphans, .stores, .lanes, .pair, .ports, .streams, .thermals, .pw, .sec, .test] x1 (State.dieTrip x1 x2) := by
  unfold State.dieTrip
  extract_lets v0 v1 v2 v3 v4 v5 v6 v7 v8 v9 v10
  refine Same.have v1 ?_ fun h11 => ?_
  · with_reducible refine Same.step (State.discardDie_same _ _ _) (by decide) ?_
    exact Same.refl _ _
  clear_value v1
  refine Same.have v2 ?_ fun h12 => ?_
  · with_reducible refine Same.step (State.dropSlices_same _ _) (by decide) ?_
    with_reducible refine Same.step (State.clearCores_same _ _) (by decide) ?_
    exact h11
  clear_value v2
  refine Same.have v4 ?_ fun h13 => ?_
  · with_reducible refine Same.step (State.setDie_same _ _ _) (by decide) ?_
    exact h12
  clear_value v4
  refine Same.have v7 ?_ fun h14 => ?_
  · with_reducible refine Same.step (State.setThermal_same _ _ _) (by decide) ?_
    exact h13
  clear_value v7
  refine Same.have v9 ?_ fun h15 => ?_
  · dsimp only [v9]
    with_reducible refine Same.record rfl ?_ ?_
    · intro p hp; cases p <;> first | exact absurd (by decide) hp | exact rfl
    exact h14
  clear_value v9
  refine Same.have v10 ?_ fun h16 => ?_
  · with_reducible refine Same.step (State.trace_same _ _ _ _ _ _ _) (by decide) ?_
    exact h15
  clear_value v10
  refine Same.ite ?_ ?_
  · exact Same.refl _ _
  · with_reducible refine Same.step (State.dropFresh_same _) (by decide) ?_
    with_reducible refine Same.step (State.reportSite_same _ _) (by decide) ?_
    with_reducible refine Same.step (State.bump_same _ _) (by decide) ?_
    exact h16

theorem State.cold_same (x1 : State) :
    Same [.dict, .tb, .prick, .entries, .cores, .runs, .dies, .grants, .nextGrant, .orphans, .stopped, .patCmd, .halted, .stores, .ledger, .tlb, .epoch, .heldFrames, .migs, .ledgerCmd, .ledgerTurn, .chans, .staging, .stagingTurn, .trimWords, .trimMode, .calCmd, .regions, .rings, .lanes, .paths, .arbiters, .lasers, .identReports, .requests, .seqs, .phases, .trackers, .replies, .guards, .lastResponse, .lineCache, .xports, .routes, .hub, .routeLoad, .pair, .ports, .streams, .sqPort, .dap, .thermals, .sensors, .pw, .sec, .test] x1 (State.cold x1) := by
  unfold State.cold
  intro p hp
  cases p
  · exact absurd (by simp) hp
  · exact rfl
  · exact rfl
  · exact rfl
  · exact rfl
  · exact absurd (by simp) hp
  · exact absurd (by simp) hp
  · exact absurd (by simp) hp
  · exact absurd (by simp) hp
  · exact absurd (by simp) hp
  · exact absurd (by simp) hp
  · exact absurd (by simp) hp
  · exact absurd (by simp) hp
  · exact absurd (by simp) hp
  · exact absurd (by simp) hp
  · exact rfl
  · exact rfl
  · exact absurd (by simp) hp
  · exact absurd (by simp) hp
  · exact absurd (by simp) hp
  · exact absurd (by simp) hp
  · exact absurd (by simp) hp
  · exact absurd (by simp) hp
  · exact absurd (by simp) hp
  · exact absurd (by simp) hp
  · exact absurd (by simp) hp
  · exact absurd (by simp) hp
  · exact absurd (by simp) hp
  · exact absurd (by simp) hp
  · exact absurd (by simp) hp
  · exact rfl
  · exact absurd (by simp) hp
  · exact absurd (by simp) hp
  · exact absurd (by simp) hp
  · exact absurd (by simp) hp
  · exact absurd (by simp) hp
  · exact absurd (by simp) hp
  · exact absurd (by simp) hp
  · exact absurd (by simp) hp
  · exact absurd (by simp) hp
  · exact absurd (by simp) hp
  · exact rfl
  · exact absurd (by simp) hp
  · exact absurd (by simp) hp
  · exact absurd (by simp) hp
  · exact absurd (by simp) hp
  · exact absurd (by simp) hp
  · exact absurd (by simp) hp
  · exact absurd (by simp) hp
  · exact absurd (by simp) hp
  · exact absurd (by simp) hp
  · exact absurd (by simp) hp
  · exact absurd (by simp) hp
  · exact absurd (by simp) hp
  · exact absurd (by simp) hp
  · exact absurd (by simp) hp
  · exact absurd (by simp) hp
  · exact absurd (by simp) hp
  · exact absurd (by simp) hp
  · exact absurd (by simp) hp
  · exact absurd (by simp) hp
  · exact absurd (by simp) hp
  · exact absurd (by simp) hp
  · exact absurd (by simp) hp
  · exact rfl

theorem State.faultOff_same (x1 : State) (x2 : FaultOff) :
    Same [.dict, .tb, .prick, .entries, .cores, .runs, .dies, .grants, .nextGrant, .orphans, .stopped, .patCmd, .halted, .stores, .ledger, .tlb, .epoch, .heldFrames, .migs, .ledgerCmd, .ledgerTurn, .chans, .staging, .stagingTurn, .trimWords, .trimMode, .calCmd, .regions, .rings, .lanes, .paths, .arbiters, .lasers, .identReports, .requests, .seqs, .phases, .trackers, .replies, .guards, .lastResponse, .lineCache, .xports, .routes, .hub, .routeLoad, .pair, .ports, .streams, .sqPort, .dap, .thermals, .sensors, .pw, .sec, .test] x1 (State.faultOff x1 x2) := by
  unfold State.faultOff
  refine Same.ite ?_ ?_
  · exact Same.refl _ _
  · extract_lets v0 v1 v2 v3 v4 v5 v6 v7 v8
    refine Same.have v7 ?_ fun h9 => ?_
    · with_reducible refine Same.step (State.cold_same _) (by decide) ?_
      exact Same.refl _ _
    clear_value v7
    refine Same.have v8 ?_ fun h10 => ?_
    · with_reducible refine Same.step (State.setReg_same _ _ _) (by decide) ?_
      with_reducible refine Same.step (State.setPw_same _ _) (by decide) ?_
      exact h9
    clear_value v8
    refine Same.ite ?_ ?_
    · with_reducible refine Same.step (State.setReg_same _ _ _) (by decide) ?_
      exact h10
    · exact h10

theorem State.regionTrip_same (x1 : State) (x2 : Nat) :
    Same [.dict, .lastStatus, .freeCtr, .hostMem, .tb, .prick, .entries, .cores, .runs, .dies, .grants, .nextGrant, .orphans, .stopped, .patCmd, .halted, .stores, .ledger, .tlb, .epoch, .heldFrames, .migs, .ledgerCmd, .ledgerTurn, .chans, .staging, .stagingTurn, .trimWords, .trimMode, .calCmd, .regions, .rings, .lanes, .paths, .arbiters, .lasers, .identReports, .requests, .seqs, .phases, .trackers, .replies, .guards, .lastResponse, .lineCache, .xports, .routes, .hub, .routeLoad, .pair, .ports, .streams, .sqPort, .dap, .thermals, .sensors, .pw, .sec, .test] x1 (State.regionTrip x1 x2) := by
  unfold State.regionTrip
  refine Same.ite ?_ ?_
  · with_reducible refine Same.step (State.faultOff_same _ _) (by decide) ?_
    exact Same.refl _ _
  · refine Same.ite ?_ ?_
    · exact Same.refl _ _
    · extract_lets v0 v1 v2 v3 v4 v5 v6 v7 v8 v9 v10 v11 v12 v13 v14
      refine Same.have v11 ?_ fun h15 => ?_
      · with_reducible refine Same.step (State.setThermal_same _ _ _) (by decide) ?_
        exact Same.refl _ _
      clear_value v11
      refine Same.have v12 ?_ fun h16 => ?_
      · refine Same.ite ?_ ?_
        · with_reducible refine Same.step (State.startReset_same _ _) (by decide) ?_
          exact h15
        · exact h15
      clear_value v12
      refine Same.have v13 ?_ fun h17 => ?_
      · with_reducible refine Same.step (State.siteRingMap_same _ _ _) (by decide) ?_
        exact h16
      clear_value v13
      with_reducible refine Same.step (State.bump_same _ _) (by decide) ?_
      with_reducible refine Same.step (State.setRegion_same _ _ _) (by decide) ?_
      exact h17

theorem execHousekeepingMissed_same (x1 : List (Fin 8)) (x2 : Bool) (x3 : State) :
    OutSame [.dict, .lastStatus, .freeCtr, .hostMem, .tb, .prick, .entries, .cores, .runs, .dies, .grants, .nextGrant, .orphans, .stopped, .patCmd, .halted, .stores, .ledger, .tlb, .epoch, .heldFrames, .migs, .ledgerCmd, .ledgerTurn, .chans, .staging, .stagingTurn, .trimWords, .trimMode, .calCmd, .regions, .rings, .lanes, .paths, .arbiters, .lasers, .identReports, .requests, .seqs, .phases, .trackers, .replies, .guards, .lastResponse, .lineCache, .xports, .routes, .hub, .routeLoad, .pair, .ports, .streams, .sqPort, .dap, .thermals, .sensors, .pw, .sec, .test] x3 (execHousekeepingMissed x1 x2 x3) := by
  unfold execHousekeepingMissed
  extract_lets v0 v1 v2 v3 v4 v5 v6 v7 v8 v9 v10
  refine OutSame.have v10 ?_ fun h11 => ?_
  · refine Same.foldl ?_ fun q12 y13 h14 => ?_
    · exact Same.refl _ _
    · refine Same.ite ?_ ?_
      · with_reducible refine Same.step (State.dieTrip_same _ _) (by decide) ?_
        exact h14
      · exact h14
  clear_value v10
  refine OutSame.next ?_
  refine Same.ite ?_ ?_
  · with_reducible refine Same.step (State.faultOff_same _ _) (by decide) ?_
    exact h11
  · exact h11

theorem execDieRestart_same (x1 : Fin 8) (x2 : State) :
    OutSame [.dict, .dies, .replies, .guards, .thermals] x2 (execDieRestart x1 x2) := by
  unfold execDieRestart
  extract_lets v0 v1 v2 v3 v4 v5 v6
  refine OutSame.have v3 ?_ fun h7 => ?_
  · with_reducible refine Same.step (State.setThermal_same _ _ _) (by decide) ?_
    exact Same.refl _ _
  clear_value v3
  refine OutSame.have v5 ?_ fun h8 => ?_
  · with_reducible refine Same.step (State.setDie_same _ _ _) (by decide) ?_
    exact h7
  clear_value v5
  refine OutSame.have v6 ?_ fun h9 => ?_
  · dsimp only [v6]
    with_reducible refine Same.record rfl ?_ ?_
    · intro p hp; cases p <;> first | exact absurd (by decide) hp | exact rfl
    exact h8
  clear_value v6
  refine OutSame.ite ?_ ?_
  · refine OutSame.next ?_
    exact Same.refl _ _
  · refine OutSame.next ?_
    with_reducible refine Same.step (State.reportSite_same _ _) (by decide) ?_
    exact h9

theorem execRingRegionRestart_same (x1 : Fin 12) (x2 : State) :
    OutSame [.dict, .regions, .rings, .thermals] x2 (execRingRegionRestart x1 x2) := by
  unfold execRingRegionRestart
  extract_lets v0 v1 v2 v3 v4
  refine OutSame.have v1 ?_ fun h5 => ?_
  · with_reducible refine Same.step (State.setThermal_same _ _ _) (by decide) ?_
    exact Same.refl _ _
  clear_value v1
  refine OutSame.have v3 ?_ fun h6 => ?_
  · with_reducible refine Same.step (State.setRegion_same _ _ _) (by decide) ?_
    exact h5
  clear_value v3
  refine OutSame.ite ?_ ?_
  · refine OutSame.next ?_
    exact Same.refl _ _
  · refine OutSame.next ?_
    refine Same.ite ?_ ?_
    · with_reducible refine Same.step (State.lockRegion_same _ _) (by decide) ?_
      exact h6
    · with_reducible refine Same.step (State.setRegion_same _ _ _) (by decide) ?_
      exact h6

theorem State.writeTripClear_same (x1 : State) (x2 : Nat) :
    Same [.lastStatus, .thermals] x1 (State.writeTripClear x1 x2) := by
  unfold State.writeTripClear
  refine Same.ite ?_ ?_
  · with_reducible refine Same.step (State.answer_same _ _) (by decide) ?_
    exact Same.refl _ _
  · split
    · rename_i e0 e1 e2
      extract_lets v3
      refine Same.ite ?_ ?_
      · with_reducible refine Same.step (State.answer_same _ _) (by decide) ?_
        with_reducible refine Same.step (State.setThermal_same _ _ _) (by decide) ?_
        exact Same.refl _ _
      · with_reducible refine Same.step (State.answer_same _ _) (by decide) ?_
        exact Same.refl _ _
    · rename_i e4 e5
      with_reducible refine Same.step (State.answer_same _ _) (by decide) ?_
      exact Same.refl _ _

theorem execThermalTripClear_same (x1 : Nat) (x2 : State) :
    OutSame [.lastStatus, .thermals] x2 (execThermalTripClear x1 x2) := by
  unfold execThermalTripClear
  refine OutSame.next ?_
  with_reducible refine Same.step (State.writeTripClear_same _ _) (by decide) ?_
  exact Same.refl _ _

theorem execClockFault_same (x1 : State) :
    OutSame [.dict, .tb, .prick, .entries, .cores, .runs, .dies, .grants, .nextGrant, .orphans, .stopped, .patCmd, .halted, .stores, .ledger, .tlb, .epoch, .heldFrames, .migs, .ledgerCmd, .ledgerTurn, .chans, .staging, .stagingTurn, .trimWords, .trimMode, .calCmd, .regions, .rings, .lanes, .paths, .arbiters, .lasers, .identReports, .requests, .seqs, .phases, .trackers, .replies, .guards, .lastResponse, .lineCache, .xports, .routes, .hub, .routeLoad, .pair, .ports, .streams, .sqPort, .dap, .thermals, .sensors, .pw, .sec, .test] x1 (execClockFault x1) := by
  unfold execClockFault
  extract_lets v0 v1 v2 v3 v4 v5 v6 v7
  refine OutSame.next ?_
  with_reducible refine when_same ?_ ?_
  · with_reducible refine Same.step (State.faultOff_same _ _) (by decide) ?_
    with_reducible refine Same.step (State.stick_same _ _ _) (by decide) ?_
    exact Same.refl _ _
  · exact Same.refl _ _

theorem execInputLow_same (x1 : State) :
    OutSame [.dict, .pw] x1 (execInputLow x1) := by
  unfold execInputLow
  refine OutSame.next ?_
  with_reducible refine when_same ?_ ?_
  · with_reducible refine Same.step (State.stick_same _ _ _) (by decide) ?_
    with_reducible refine Same.step (State.setPw_same _ _) (by decide) ?_
    exact Same.refl _ _
  · exact Same.refl _ _

theorem execInputUndervoltage_same (x1 : State) :
    OutSame [.dict, .tb, .prick, .entries, .cores, .runs, .dies, .grants, .nextGrant, .orphans, .stopped, .patCmd, .halted, .stores, .ledger, .tlb, .epoch, .heldFrames, .migs, .ledgerCmd, .ledgerTurn, .chans, .staging, .stagingTurn, .trimWords, .trimMode, .calCmd, .regions, .rings, .lanes, .paths, .arbiters, .lasers, .identReports, .requests, .seqs, .phases, .trackers, .replies, .guards, .lastResponse, .lineCache, .xports, .routes, .hub, .routeLoad, .pair, .ports, .streams, .sqPort, .dap, .thermals, .sensors, .pw, .sec, .test] x1 (execInputUndervoltage x1) := by
  unfold execInputUndervoltage
  refine OutSame.next ?_
  with_reducible refine Same.step (State.faultOff_same _ _) (by decide) ?_
  exact Same.refl _ _

theorem execInputOvervoltage_same (x1 : State) :
    OutSame [.dict, .tb, .prick, .entries, .cores, .runs, .dies, .grants, .nextGrant, .orphans, .stopped, .patCmd, .halted, .stores, .ledger, .tlb, .epoch, .heldFrames, .migs, .ledgerCmd, .ledgerTurn, .chans, .staging, .stagingTurn, .trimWords, .trimMode, .calCmd, .regions, .rings, .lanes, .paths, .arbiters, .lasers, .identReports, .requests, .seqs, .phases, .trackers, .replies, .guards, .lastResponse, .lineCache, .xports, .routes, .hub, .routeLoad, .pair, .ports, .streams, .sqPort, .dap, .thermals, .sensors, .pw, .sec, .test] x1 (execInputOvervoltage x1) := by
  unfold execInputOvervoltage
  refine OutSame.next ?_
  with_reducible refine Same.step (State.faultOff_same _ _) (by decide) ?_
  exact Same.refl _ _

theorem execRailFault_same (x1 : State) :
    OutSame [.dict, .tb, .prick, .entries, .cores, .runs, .dies, .grants, .nextGrant, .orphans, .stopped, .patCmd, .halted, .stores, .ledger, .tlb, .epoch, .heldFrames, .migs, .ledgerCmd, .ledgerTurn, .chans, .staging, .stagingTurn, .trimWords, .trimMode, .calCmd, .regions, .rings, .lanes, .paths, .arbiters, .lasers, .identReports, .requests, .seqs, .phases, .trackers, .replies, .guards, .lastResponse, .lineCache, .xports, .routes, .hub, .routeLoad, .pair, .ports, .streams, .sqPort, .dap, .thermals, .sensors, .pw, .sec, .test] x1 (execRailFault x1) := by
  unfold execRailFault
  refine OutSame.next ?_
  with_reducible refine Same.step (State.faultOff_same _ _) (by decide) ?_
  exact Same.refl _ _

theorem State.startBringUp_same (x1 : State) :
    Same [.dict, .tb, .prick, .entries, .cores, .runs, .dies, .grants, .nextGrant, .orphans, .stopped, .patCmd, .halted, .stores, .ledger, .tlb, .epoch, .heldFrames, .migs, .ledgerCmd, .ledgerTurn, .chans, .staging, .stagingTurn, .trimWords, .trimMode, .calCmd, .regions, .rings, .lanes, .paths, .arbiters, .lasers, .identReports, .requests, .seqs, .phases, .trackers, .replies, .guards, .lastResponse, .lineCache, .xports, .routes, .hub, .routeLoad, .pair, .ports, .streams, .sqPort, .dap, .thermals, .sensors, .pw, .sec, .test] x1 (State.startBringUp x1) := by
  unfold State.startBringUp
  with_reducible refine Same.step (State.setReg_same _ _ _) (by decide) ?_
  with_reducible refine Same.step (State.cold_same _) (by decide) ?_
  exact Same.refl _ _

theorem execInputRestored_same (x1 : State) :
    OutSame [.dict, .tb, .prick, .entries, .cores, .runs, .dies, .grants, .nextGrant, .orphans, .stopped, .patCmd, .halted, .stores, .ledger, .tlb, .epoch, .heldFrames, .migs, .ledgerCmd, .ledgerTurn, .chans, .staging, .stagingTurn, .trimWords, .trimMode, .calCmd, .regions, .rings, .lanes, .paths, .arbiters, .lasers, .identReports, .requests, .seqs, .phases, .trackers, .replies, .guards, .lastResponse, .lineCache, .xports, .routes, .hub, .routeLoad, .pair, .ports, .streams, .sqPort, .dap, .thermals, .sensors, .pw, .sec, .test] x1 (execInputRestored x1) := by
  unfold execInputRestored
  refine OutSame.ite ?_ ?_
  · refine OutSame.next ?_
    with_reducible refine when_same ?_ ?_
    · with_reducible refine Same.step (State.startBringUp_same _) (by decide) ?_
      exact Same.refl _ _
    · exact Same.refl _ _
  · refine OutSame.next ?_
    with_reducible refine Same.step (State.setPw_same _ _) (by decide) ?_
    exact Same.refl _ _

theorem execFaultOffRestart_same (x1 : State) :
    OutSame [.dict, .tb, .prick, .entries, .cores, .runs, .dies, .grants, .nextGrant, .orphans, .stopped, .patCmd, .halted, .stores, .ledger, .tlb, .epoch, .heldFrames, .migs, .ledgerCmd, .ledgerTurn, .chans, .staging, .stagingTurn, .trimWords, .trimMode, .calCmd, .regions, .rings, .lanes, .paths, .arbiters, .lasers, .identReports, .requests, .seqs, .phases, .trackers, .replies, .guards, .lastResponse, .lineCache, .xports, .routes, .hub, .routeLoad, .pair, .ports, .streams, .sqPort, .dap, .thermals, .sensors, .pw, .sec, .test] x1 (execFaultOffRestart x1) := by
  unfold execFaultOffRestart
  refine OutSame.next ?_
  with_reducible refine when_same ?_ ?_
  · with_reducible refine Same.step (State.startBringUp_same _) (by decide) ?_
    exact Same.refl _ _
  · exact Same.refl _ _

theorem execPowerApplied_same (x1 : State) :
    OutSame [.dict, .tb, .prick, .entries, .cores, .runs, .dies, .grants, .nextGrant, .orphans, .stopped, .patCmd, .halted, .stores, .ledger, .tlb, .epoch, .heldFrames, .migs, .ledgerCmd, .ledgerTurn, .chans, .staging, .stagingTurn, .trimWords, .trimMode, .calCmd, .regions, .rings, .lanes, .paths, .arbiters, .lasers, .identReports, .requests, .seqs, .phases, .trackers, .replies, .guards, .lastResponse, .lineCache, .xports, .routes, .hub, .routeLoad, .pair, .ports, .streams, .sqPort, .dap, .thermals, .sensors, .pw, .sec, .test] x1 (execPowerApplied x1) := by
  unfold execPowerApplied
  refine OutSame.next ?_
  with_reducible refine when_same ?_ ?_
  · with_reducible refine Same.step (State.startBringUp_same _) (by decide) ?_
    exact Same.refl _ _
  · exact Same.refl _ _

theorem State.saveForRetention_same (x1 : State) :
    Same [.stores, .nvTrims] x1 (State.saveForRetention x1) := by
  unfold State.saveForRetention
  extract_lets v0 v1
  refine Same.have v0 ?_ fun h2 => ?_
  · dsimp only [v0]
    with_reducible refine Same.record rfl ?_ ?_
    · intro p hp; cases p <;> first | exact absurd (by decide) hp | exact rfl
    exact Same.refl _ _
  clear_value v0
  refine Same.have v1 ?_ fun h3 => ?_
  · dsimp only [v1]
    with_reducible refine Same.record rfl ?_ ?_
    · intro p hp; cases p <;> first | exact absurd (by decide) hp | exact rfl
    exact h2
  clear_value v1
  refine Same.foldl ?_ fun q4 y5 h6 => ?_
  · exact h3
  · with_reducible refine Same.record rfl ?_ ?_
    · intro p hp; cases p <;> first | exact absurd (by decide) hp | exact rfl
    exact h6

theorem State.retentionStop_same (x1 : State) :
    Same [.dict, .halted, .stores, .nvTrims, .lasers, .pw] x1 (State.retentionStop x1) := by
  unfold State.retentionStop
  refine Same.ite ?_ ?_
  · exact Same.refl _ _
  · extract_lets v0
    refine Same.have v0 ?_ fun h1 => ?_
    · with_reducible refine Same.step (State.saveForRetention_same _) (by decide) ?_
      with_reducible refine Same.step (State.setPw_same _ _) (by decide) ?_
      with_reducible refine Same.record rfl ?_ ?_
      · intro p hp; cases p <;> first | exact absurd (by decide) hp | exact rfl
      exact Same.refl _ _
    clear_value v0
    refine Same.foldl ?_ fun q2 y3 h4 => ?_
    · exact h1
    · refine Same.ite ?_ ?_
      · with_reducible refine Same.step (State.rampOff_same _ _) (by decide) ?_
        exact h4
      · exact h4

theorem State.dropSessions_same (x1 : State) :
    Same [.dict, .dap] x1 (State.dropSessions x1) := by
  unfold State.dropSessions
  with_reducible refine Same.step (State.setReg_same _ _ _) (by decide) ?_
  with_reducible refine Same.record rfl ?_ ?_
  · intro p hp; cases p <;> first | exact absurd (by decide) hp | exact rfl
  exact Same.refl _ _

theorem State.stopUpdate_same (x1 : State) :
    Same [.dict, .freeCtr, .sec] x1 (State.stopUpdate x1) := by
  unfold State.stopUpdate
  extract_lets v0 v1
  refine Same.ite ?_ ?_
  · with_reducible refine Same.step (State.tickFree_same _) (by decide) ?_
    with_reducible refine Same.step (State.setReg_same _ _ _) (by decide) ?_
    with_reducible refine Same.record rfl ?_ ?_
    · intro p hp; cases p <;> first | exact absurd (by decide) hp | exact rfl
    exact Same.refl _ _
  · exact Same.refl _ _

theorem State.writePowerCommand_same (x1 : State) (x2 : Nat) :
    Same [.dict, .lastStatus, .freeCtr, .cores, .dies, .halted, .stores, .tlb, .nvTrims, .lasers, .dap, .pw, .sec] x1 (State.writePowerCommand x1 x2) := by
  unfold State.writePowerCommand
  extract_lets v0 v1 v2 v3 v4 v5 v6
  refine Same.have v1 ?_ fun h7 => ?_
  · with_reducible refine Same.step (State.stopUpdate_same _) (by decide) ?_
    with_reducible refine Same.step (State.dropSessions_same _) (by decide) ?_
    with_reducible refine Same.step (State.setReg_same _ _ _) (by decide) ?_
    with_reducible refine Same.step (State.setReg_same _ _ _) (by decide) ?_
    with_reducible refine Same.step (State.answer_same _ _) (by decide) ?_
    exact Same.refl _ _
  clear_value v1
  refine Same.have v2 ?_ fun h8 => ?_
  · with_reducible refine Same.step (State.setPw_same _ _) (by decide) ?_
    exact h7
  clear_value v2
  refine Same.have v3 ?_ fun h9 => ?_
  · with_reducible refine Same.step (State.setReg_same _ _ _) (by decide) ?_
    with_reducible refine Same.step (State.setReg_same _ _ _) (by decide) ?_
    with_reducible refine Same.step (State.answer_same _ _) (by decide) ?_
    exact Same.refl _ _
  clear_value v3
  refine Same.have v4 ?_ fun h10 => ?_
  · refine Same.foldl ?_ fun q11 y12 h13 => ?_
    · exact h9
    · extract_lets v14
      refine Same.ite ?_ ?_
      · exact h13
      · with_reducible refine Same.step (State.clearCores_same _ _) (by decide) ?_
        with_reducible refine Same.step (State.setDie_same _ _ _) (by decide) ?_
        exact h13
  clear_value v4
  refine Same.have v5 ?_ fun h15 => ?_
  · dsimp only [v5]
    with_reducible refine Same.record rfl ?_ ?_
    · intro p hp; cases p <;> first | exact absurd (by decide) hp | exact rfl
    exact h10
  clear_value v5
  refine Same.have v6 ?_ fun h16 => ?_
  · dsimp only [v6]
    with_reducible refine Same.record rfl ?_ ?_
    · intro p hp; cases p <;> first | exact absurd (by decide) hp | exact rfl
    exact h15
  clear_value v6
  refine Same.ite ?_ ?_
  · with_reducible refine Same.step (State.answer_same _ _) (by decide) ?_
    exact Same.refl _ _
  · refine Same.ite ?_ ?_
    · refine Same.ite ?_ ?_
      · exact h8
      · with_reducible refine Same.step (State.retentionStop_same _) (by decide) ?_
        exact h8
    · refine Same.foldl ?_ fun q17 y18 h19 => ?_
      · exact h16
      · extract_lets v20
        refine Same.ite ?_ ?_
        · with_reducible refine Same.step (State.laserPut_same _ _ _) (by decide) ?_
          exact h19
        · exact h19

theorem execEnterRetention_same (x1 : State) :
    OutSame [.dict, .lastStatus, .freeCtr, .cores, .dies, .halted, .stores, .tlb, .nvTrims, .lasers, .dap, .pw, .sec] x1 (execEnterRetention x1) := by
  unfold execEnterRetention
  refine OutSame.next ?_
  with_reducible refine Same.step (State.writePowerCommand_same _ _) (by decide) ?_
  exact Same.refl _ _

theorem execWake_same (x1 : State) :
    OutSame [.dict, .lastStatus, .freeCtr, .cores, .dies, .halted, .stores, .tlb, .nvTrims, .lasers, .dap, .pw, .sec] x1 (execWake x1) := by
  unfold execWake
  refine OutSame.next ?_
  with_reducible refine Same.step (State.writePowerCommand_same _ _) (by decide) ?_
  exact Same.refl _ _

theorem execRetentionEntryEnd_same (x1 : State) :
    OutSame [.dict, .lastStatus, .freeCtr, .hostMem, .entries, .cores, .runs, .dies, .grants, .orphans, .stores, .ledger, .tlb, .migs, .ledgerCmd, .nvTrims, .regions, .rings, .lanes, .paths, .lasers, .trackers, .replies, .lastResponse, .xports, .pair, .ports, .streams, .pw, .sec, .test] x1 (execRetentionEntryEnd x1) := by
  unfold execRetentionEntryEnd
  refine OutSame.ite ?_ ?_
  · refine OutSame.next ?_
    exact Same.refl _ _
  · extract_lets v0 v1 v2 v3 v4 v5
    refine OutSame.have v0 ?_ fun h6 => ?_
    · refine Same.foldl ?_ fun q7 y8 h9 => ?_
      · exact Same.refl _ _
      · refine Same.ite ?_ ?_
        · with_reducible refine Same.step (State.laserPut_same _ _ _) (by decide) ?_
          exact h9
        · exact h9
    clear_value v0
    refine OutSame.have v1 ?_ fun h10 => ?_
    · with_reducible refine Same.step (State.saveForRetention_same _) (by decide) ?_
      with_reducible refine Same.step (State.dropSlices_same _ _) (by decide) ?_
      with_reducible refine Same.step (State.allDark_same _) (by decide) ?_
      exact h6
    clear_value v1
    refine OutSame.have v2 ?_ fun h11 => ?_
    · refine Same.foldl ?_ fun q12 y13 h14 => ?_
      · exact h10
      · refine Same.ite ?_ ?_
        · with_reducible refine Same.step (State.setStore_same _ _ _) (by decide) ?_
          exact h14
        · exact h14
    clear_value v2
    refine OutSame.have v3 ?_ fun h15 => ?_
    · dsimp only [v3]
      with_reducible refine Same.record rfl ?_ ?_
      · intro p hp; cases p <;> first | exact absurd (by decide) hp | exact rfl
      exact h11
    clear_value v3
    refine OutSame.have v4 ?_ fun h16 => ?_
    · refine Same.foldl ?_ fun q17 y18 h19 => ?_
      · exact h15
      · with_reducible refine Same.step (State.setDie_same _ _ _) (by decide) ?_
        exact h19
    clear_value v4
    refine OutSame.have v5 ?_ fun h20 => ?_
    · dsimp only [v5]
      with_reducible refine Same.record rfl ?_ ?_
      · intro p hp; cases p <;> first | exact absurd (by decide) hp | exact rfl
      exact h16
    clear_value v5
    refine OutSame.next ?_
    with_reducible refine Same.step (State.setReg_same _ _ _) (by decide) ?_
    with_reducible refine Same.step (State.setReg_same _ _ _) (by decide) ?_
    exact h20

theorem execWakeEnd_same (x1 : State) :
    OutSame [.dict, .fieldMap, .halted, .stores, .ledger, .tlb, .migs, .ledgerCmd, .hub] x1 (execWakeEnd x1) := by
  unfold execWakeEnd
  extract_lets v0
  refine OutSame.next ?_
  with_reducible refine when_same ?_ ?_
  · with_reducible refine Same.step (State.feedAll_same _) (by decide) ?_
    with_reducible refine Same.step (State.setReg_same _ _ _) (by decide) ?_
    with_reducible refine Same.step (State.setReg_same _ _ _) (by decide) ?_
    with_reducible refine Same.record rfl ?_ ?_
    · intro p hp; cases p <;> first | exact absurd (by decide) hp | exact rfl
    exact Same.refl _ _
  · exact Same.refl _ _

end Sys2Proof.Machine
end

