-- ==== Sys2Proof/Laws/FrameRowMoves.lean ====
section
/-! SUPPORT. Frames of the functions of Machine/RowMoves.lean: one lemma a function, which says what parts of the state it
can change. -/

namespace Sys2Proof.Machine

open Sys2Proof

theorem State.loseCore_same (x1 : State) (x2 x3 : Nat) :
    Same [.dict, .lastStatus, .freeCtr, .hostMem, .entries, .cores, .runs, .grants, .orphans, .stores, .pair, .ports, .streams, .pw, .test] x1 (State.loseCore x1 x2 x3) := by
  unfold State.loseCore
  split
  · rename_i e0 e1 e2 e3
    with_reducible refine Same.step (State.coreFault_same _ _ _ _ _ _ _ _) (by decide) ?_
    exact Same.refl _ _
  · rename_i e4 e5
    exact Same.refl _ _

theorem State.mapOutCore_same (x1 : State) (x2 : Nat) :
    Same [.dict, .lastStatus, .freeCtr, .hostMem, .entries, .cores, .runs, .dies, .grants, .orphans, .fieldMap, .stores, .lanes, .pair, .ports, .streams, .pw, .test] x1 (State.mapOutCore x1 x2) := by
  unfold State.mapOutCore
  extract_lets v0 v1 v2 v3 v4 v5 v6
  refine Same.have v1 ?_ fun h7 => ?_
  · with_reducible refine Same.step (State.dropSlices_same _ _) (by decide) ?_
    with_reducible refine Same.step (State.bump_same _ _) (by decide) ?_
    with_reducible refine Same.step (State.mapRecord_same _ _) (by decide) ?_
    exact Same.refl _ _
  clear_value v1
  refine Same.have v2 ?_ fun h8 => ?_
  · with_reducible refine Same.step (State.loseCore_same _ _ _) (by decide) ?_
    exact h7
  clear_value v2
  refine Same.have v4 ?_ fun h9 => ?_
  · with_reducible refine Same.step (State.setCore_same _ _ _) (by decide) ?_
    exact h8
  clear_value v4
  refine Same.ite ?_ ?_
  · with_reducible refine Same.step (State.discardDie_same _ _ _) (by decide) ?_
    with_reducible refine Same.step (State.setDie_same _ _ _) (by decide) ?_
    exact h9
  · exact h9

theorem State.dropSpare_same (x1 : State) (x2 x3 : Nat) :
    Same [.dict, .cores, .fieldMap] x1 (State.dropSpare x1 x2 x3) := by
  unfold State.dropSpare
  extract_lets v0
  with_reducible refine Same.step (State.setCore_same _ _ _) (by decide) ?_
  with_reducible refine Same.step (State.mapRecord_same _ _) (by decide) ?_
  exact Same.refl _ _

theorem State.mapOutBank_same (x1 : State) (x2 x3 : Nat) :
    Same [.dict, .lastStatus, .freeCtr, .hostMem, .entries, .cores, .runs, .dies, .grants, .orphans, .fieldMap, .stores, .lanes, .pair, .ports, .streams, .pw, .test] x1 (State.mapOutBank x1 x2 x3) := by
  unfold State.mapOutBank
  extract_lets v0
  split
  · rename_i e1 e2
    exact Same.refl _ _
  · rename_i e3 e4 e5
    split
    · rename_i e6 e7
      with_reducible refine Same.step (State.mapOutCore_same _ _) (by decide) ?_
      exact Same.refl _ _
    · rename_i e8 e9 e10 e11
      with_reducible refine Same.step (State.bump_same _ _) (by decide) ?_
      with_reducible refine Same.step (State.setCore_same _ _ _) (by decide) ?_
      with_reducible refine Same.step (State.mapRecord_same _ _) (by decide) ?_
      exact Same.refl _ _

theorem State.ladder_same (x1 : State) (x2 : Nat) (x3 : RungFailure) :
    Same [.dict, .lastStatus, .freeCtr, .hostMem, .entries, .cores, .runs, .dies, .grants, .orphans, .fieldMap, .stores, .lanes, .pair, .ports, .streams, .pw, .test] x1 (State.ladder x1 x2 x3) := by
  unfold State.ladder
  extract_lets v0
  refine Same.ite ?_ ?_
  · exact Same.refl _ _
  · refine Same.ite ?_ ?_
    · split
      · rename_i e1 e2
        with_reducible refine Same.step (State.dropSpare_same _ _ _) (by decide) ?_
        exact Same.refl _ _
      · rename_i e3 e4
        exact Same.refl _ _
    · refine Same.ite ?_ ?_
      · refine Same.ite ?_ ?_
        · exact Same.refl _ _
        · with_reducible refine Same.step (State.setCore_same _ _ _) (by decide) ?_
          exact Same.refl _ _
      · split
        · rename_i e5 e6 e7
          extract_lets v8 v9 v10
          refine Same.ite ?_ ?_
          · exact Same.refl _ _
          · refine Same.ite ?_ ?_
            · with_reducible refine Same.step (State.bump_same _ _) (by decide) ?_
              with_reducible refine Same.step (State.setCore_same _ _ _) (by decide) ?_
              with_reducible refine Same.step (State.mapRecord_same _ _) (by decide) ?_
              exact Same.refl _ _
            · refine Same.ite ?_ ?_
              · with_reducible refine Same.step (State.bump_same _ _) (by decide) ?_
                with_reducible refine Same.step (State.setCore_same _ _ _) (by decide) ?_
                with_reducible refine Same.step (State.mapRecord_same _ _) (by decide) ?_
                exact Same.refl _ _
              · split
                · rename_i e11 e12 e13
                  with_reducible refine Same.step (State.mapOutBank_same _ _ _) (by decide) ?_
                  exact Same.refl _ _
                · rename_i e14 e15
                  with_reducible refine Same.step (State.mapOutCore_same _ _) (by decide) ?_
                  exact Same.refl _ _
        · rename_i e16 e17
          with_reducible refine Same.step (State.mapOutBank_same _ _ _) (by decide) ?_
          exact Same.refl _ _
        · rename_i e18
          with_reducible refine Same.step (State.mapOutCore_same _ _) (by decide) ?_
          exact Same.refl _ _

theorem State.moveOne_same (x1 : State) (x2 : Nat) (x3 : Grant) (x4 : QInstr) (x5 : Bool) (x6 x7 : Nat) (x8 : List RowError) :
    Same [.dict, .lastStatus, .freeCtr, .hostMem, .entries, .cores, .runs, .dies, .grants, .orphans, .fieldMap, .stores, .lanes, .pair, .ports, .streams, .pw, .test] x1 (State.moveOne x1 x2 x3 x4 x5 x6 x7 x8).1 := by
  unfold State.moveOne
  extract_lets v0 v1 v2
  refine Same.iteFst ?_ ?_
  · dsimp only
    with_reducible refine Same.step (State.coreFault_same _ _ _ _ _ _ _ _) (by decide) ?_
    exact Same.refl _ _
  · refine Same.iteFst ?_ ?_
    · dsimp only
      with_reducible refine Same.step (State.coreFault_same _ _ _ _ _ _ _ _) (by decide) ?_
      with_reducible refine Same.step (State.bump_same _ _) (by decide) ?_
      exact Same.refl _ _
    · split
      rename_i e3 e4 e5 e6
      extract_lets v7 v8 v9
      refine Same.have v7 ?_ fun h10 => ?_
      · with_reducible refine Same.step (State.setCore_same _ _ _) (by decide) ?_
        exact Same.refl _ _
      clear_value v7
      refine Same.have v8 ?_ fun h11 => ?_
      · refine Same.ite ?_ ?_
        · with_reducible refine Same.step (State.coreFault_same _ _ _ _ _ _ _ _) (by decide) ?_
          exact h10
        · exact h10
      clear_value v8
      refine Same.have v9 ?_ fun h12 => ?_
      · refine Same.foldl ?_ fun q13 y14 h15 => ?_
        · exact h11
        · with_reducible refine Same.step (State.ladder_same _ _ _) (by decide) ?_
          exact h15
      clear_value v9
      dsimp only
      exact h12

theorem State.moveRows_same (x1 : State) (x2 : Nat) (x3 : Grant) (x4 : QInstr) (x5 : Bool) (x6 : List RowError) (x7 : List (Nat × Nat)) (x8 : List ((Nat × Nat) × Nat)) :
    Same [.dict, .lastStatus, .freeCtr, .hostMem, .entries, .cores, .runs, .dies, .grants, .orphans, .fieldMap, .stores, .lanes, .pair, .ports, .streams, .pw, .test] x1 (State.moveRows x1 x2 x3 x4 x5 x6 x7 x8).1 := by
  induction x8 generalizing x1 x7 with
  | nil => exact Same.refl _ _
  | cons e r ih =>
    obtain ⟨⟨a, scr⟩, i⟩ := e
    unfold State.moveRows
    split
    · exact ih _ _
    · dsimp only
      split
      · exact Same.trans ((State.moveOne_same _ _ _ _ _ _ _ _).mono (by decide)) (ih _ _)
      · exact (State.moveOne_same _ _ _ _ _ _ _ _).mono (by decide)

theorem State.portRows_same (x1 : State) (x2 : Nat) (x3 : Grant) (x4 : QInstr) (x5 : Nat) (x6 : Bool) (x7 : List RowError) (x8 : List ((Nat × Nat) × Nat)) :
    Same [.dict, .lastStatus, .freeCtr, .hostMem, .entries, .cores, .runs, .dies, .grants, .orphans, .fieldMap, .stores, .lanes, .pair, .ports, .streams, .pw, .test] x1 (State.portRows x1 x2 x3 x4 x5 x6 x7 x8) := by
  unfold State.portRows
  split
  · rename_i e0 e1
    exact Same.refl _ _
  · rename_i e2 e3 e4
    extract_lets v5
    split
    rename_i e6 e7 e8 e9
    split
    · rename_i e10 e11
      refine Same.fstOf e9 ?_
      with_reducible refine Same.step (State.moveRows_same _ _ _ _ _ _ _ _) (by decide) ?_
      exact Same.refl _ _
    · rename_i e12 e13 e14
      with_reducible refine Same.step (State.setRun_same _ _ _) (by decide) ?_
      refine Same.fstOf e9 ?_
      with_reducible refine Same.step (State.moveRows_same _ _ _ _ _ _ _ _) (by decide) ?_
      exact Same.refl _ _

theorem State.rowMove_same (x1 : State) (x2 x3 x4 : Nat) (x5 : Bool) (x6 : List RowError) :
    Same [.dict, .lastStatus, .freeCtr, .hostMem, .entries, .cores, .runs, .dies, .grants, .orphans, .fieldMap, .stores, .lanes, .pair, .ports, .streams, .pw, .test] x1 (State.rowMove x1 x2 x3 x4 x5 x6) := by
  unfold State.rowMove
  extract_lets v0
  refine Same.have v0 ?_ fun h1 => ?_
  · with_reducible refine State.startUnit_same (by decide) ?_ ?_
    · exact Same.refl _ _
    · intro y2 y3 y4 y5 h6
      with_reducible refine Same.step (State.portRows_same _ _ _ _ _ _ _ _) (by decide) ?_
      exact h6
  clear_value v0
  split
  · rename_i e7 e8
    exact Same.refl _ _
  · rename_i e9 e10 e11 e12 e13
    split
    · rename_i e14 e15 e16 e17
      with_reducible refine Same.step (State.portRows_same _ _ _ _ _ _ _ _) (by decide) ?_
      exact Same.refl _ _
    · rename_i e18 e19
      exact h1

theorem execRowin_same (x1 : Fin 8) (x2 : Fin 48) (x3 : List RowError) (x4 : State) :
    OutSame [.dict, .lastStatus, .freeCtr, .hostMem, .entries, .cores, .runs, .dies, .grants, .orphans, .fieldMap, .stores, .lanes, .pair, .ports, .streams, .pw, .test] x4 (execRowin x1 x2 x3 x4) := by
  unfold execRowin
  refine OutSame.next ?_
  with_reducible refine Same.step (State.rowMove_same _ _ _ _ _ _) (by decide) ?_
  exact Same.refl _ _

theorem execRowout_same (x1 : Fin 8) (x2 : Fin 48) (x3 : List RowError) (x4 : State) :
    OutSame [.dict, .lastStatus, .freeCtr, .hostMem, .entries, .cores, .runs, .dies, .grants, .orphans, .fieldMap, .stores, .lanes, .pair, .ports, .streams, .pw, .test] x4 (execRowout x1 x2 x3 x4) := by
  unfold execRowout
  refine OutSame.next ?_
  with_reducible refine Same.step (State.rowMove_same _ _ _ _ _ _) (by decide) ?_
  exact Same.refl _ _

theorem execRowinX_same (x1 : Fin 8) (x2 : Fin 48) (x3 : List RowError) (x4 : State) :
    OutSame [.dict, .lastStatus, .freeCtr, .hostMem, .entries, .cores, .runs, .dies, .grants, .orphans, .fieldMap, .stores, .lanes, .pair, .ports, .streams, .pw, .test] x4 (execRowinX x1 x2 x3 x4) := by
  unfold execRowinX
  refine OutSame.next ?_
  with_reducible refine Same.step (State.rowMove_same _ _ _ _ _ _) (by decide) ?_
  exact Same.refl _ _

theorem execRowoutX_same (x1 : Fin 8) (x2 : Fin 48) (x3 : List RowError) (x4 : State) :
    OutSame [.dict, .lastStatus, .freeCtr, .hostMem, .entries, .cores, .runs, .dies, .grants, .orphans, .fieldMap, .stores, .lanes, .pair, .ports, .streams, .pw, .test] x4 (execRowoutX x1 x2 x3 x4) := by
  unfold execRowoutX
  refine OutSame.next ?_
  with_reducible refine Same.step (State.rowMove_same _ _ _ _ _ _) (by decide) ?_
  exact Same.refl _ _

theorem execRowPortPauseEnd_same (x1 : Fin 8) (x2 : Fin 52) (x3 : State) :
    OutSame [.cores] x3 (execRowPortPauseEnd x1 x2 x3) := by
  unfold execRowPortPauseEnd
  extract_lets v0 v1
  refine OutSame.next ?_
  with_reducible refine Same.step (State.setCore_same _ _ _) (by decide) ?_
  exact Same.refl _ _

theorem execBankCopyEnd_same (x1 : Fin 8) (x2 : Fin 52) (x3 : List Nat) (x4 : State) :
    OutSame [.dict, .lastStatus, .freeCtr, .hostMem, .entries, .cores, .runs, .dies, .grants, .orphans, .fieldMap, .stores, .lanes, .pair, .ports, .streams, .pw, .test] x4 (execBankCopyEnd x1 x2 x3 x4) := by
  unfold execBankCopyEnd
  extract_lets v0 v1 v2
  split
  · rename_i e3 e4
    refine OutSame.next ?_
    exact Same.refl _ _
  · rename_i e5 e6 e7 e8 e9
    extract_lets v10 v11 v12
    refine OutSame.next ?_
    refine Same.foldl ?_ fun q13 y14 h15 => ?_
    · with_reducible refine Same.step (State.setCore_same _ _ _) (by decide) ?_
      exact Same.refl _ _
    · with_reducible refine Same.step (State.ladder_same _ _ _) (by decide) ?_
      exact h15

end Sys2Proof.Machine
end

