-- ==== Sys2Proof/Laws/FrameTest.lean ====
section
/-! SUPPORT. Frames of the functions of Machine/Test.lean: one lemma a function, which says what parts of the state it
can change. -/

namespace Sys2Proof.Machine

open Sys2Proof

theorem execBistSliceStart_same (x1 : BistUnit) (x2 : State) :
    OutSame [.cores, .lanes, .test] x2 (execBistSliceStart x1 x2) := by
  unfold execBistSliceStart
  extract_lets v0 v1 v2
  refine OutSame.have v2 ?_ fun h3 => ?_
  · dsimp only [v2]
    with_reducible refine Same.record rfl ?_ ?_
    · intro p hp; cases p <;> first | exact absurd (by decide) hp | exact rfl
    exact Same.refl _ _
  clear_value v2
  refine OutSame.ite ?_ ?_
  · refine OutSame.next ?_
    exact Same.refl _ _
  · split
    · rename_i e4 e5 e6
      extract_lets v7 v8
      refine OutSame.next ?_
      with_reducible refine Same.step (State.setCore_same _ _ _) (by decide) ?_
      exact h3
    · rename_i e9 e10 e11 e12
      extract_lets v13 v14
      refine OutSame.next ?_
      with_reducible refine Same.step (State.setCore_same _ _ _) (by decide) ?_
      exact h3
    · rename_i e15 e16 e17
      extract_lets v18
      refine OutSame.next ?_
      with_reducible refine Same.step (State.calBegin_same _ _ _) (by decide) ?_
      with_reducible refine Same.step (State.setLane_same _ _ _ _) (by decide) ?_
      exact h3
    · rename_i e19 e20 e21
      refine OutSame.next ?_
      exact h3

theorem State.laneOut_same (x1 : State) (x2 x3 : Nat) :
    Same [.dict, .fieldMap, .lanes, .paths] x1 (State.laneOut x1 x2 x3) := by
  unfold State.laneOut
  refine Same.foldl ?_ fun q0 y1 h2 => ?_
  · exact Same.refl _ _
  · extract_lets v3
    refine Same.ite ?_ ?_
    · exact h2
    · with_reducible refine Same.step (State.markStanding_same _ _ _ _ _) (by decide) ?_
      with_reducible refine Same.step (State.mapRecord_same _ _) (by decide) ?_
      with_reducible refine Same.step (State.bump_same _ _) (by decide) ?_
      with_reducible refine Same.step (State.voidLease_same _ _ _ _) (by decide) ?_
      with_reducible refine Same.step (State.setPath_same _ _ _ _ _) (by decide) ?_
      exact h2

theorem State.bistFail_same (x1 : State) (x2 : BistUnit) :
    Same [.dict, .lastStatus, .freeCtr, .hostMem, .entries, .cores, .runs, .dies, .grants, .orphans, .fieldMap, .stores, .lanes, .paths, .pair, .ports, .streams, .pw, .test] x1 (State.bistFail x1 x2) := by
  unfold State.bistFail
  extract_lets v0
  refine Same.have v0 ?_ fun h1 => ?_
  · with_reducible refine Same.step (State.bump_same _ _) (by decide) ?_
    exact Same.refl _ _
  clear_value v0
  split
  · rename_i e2 e3 e4
    refine Same.ite ?_ ?_
    · exact h1
    · with_reducible refine Same.step (State.mapOutCore_same _ _) (by decide) ?_
      exact h1
  · rename_i e5 e6 e7 e8
    with_reducible refine Same.step (State.ladder_same _ _ _) (by decide) ?_
    exact h1
  · rename_i e9 e10 e11
    with_reducible refine Same.step (State.laneOut_same _ _ _) (by decide) ?_
    exact h1
  · rename_i e12 e13 e14
    with_reducible refine Same.step (State.setReg_same _ _ _) (by decide) ?_
    exact h1

theorem State.bistLeave_same (x1 : State) (x2 : BistUnit) :
    Same [.dict, .cores, .calCmd, .regions, .rings, .lanes] x1 (State.bistLeave x1 x2) := by
  unfold State.bistLeave
  extract_lets v0
  refine Same.have v0 ?_ fun h1 => ?_
  · with_reducible refine Same.step (State.freeUnit_same _ _) (by decide) ?_
    exact Same.refl _ _
  clear_value v0
  split
  · rename_i e2 e3 e4
    with_reducible refine Same.step (State.setCore_same _ _ _) (by decide) ?_
    exact h1
  · rename_i e5 e6 e7
    with_reducible refine Same.step (State.calSettled_same _ _) (by decide) ?_
    with_reducible refine Same.step (State.applyTrims_same _ _ _) (by decide) ?_
    with_reducible refine Same.step (State.setLane_same _ _ _ _) (by decide) ?_
    exact h1
  · rename_i e8 e9 e10
    exact h1

theorem execBistSliceEnd_same (x1 : BistUnit) (x2 : Bool) (x3 : State) :
    OutSame [.dict, .lastStatus, .freeCtr, .hostMem, .entries, .cores, .runs, .dies, .grants, .orphans, .fieldMap, .stores, .calCmd, .regions, .rings, .lanes, .paths, .pair, .ports, .streams, .pw, .test] x3 (execBistSliceEnd x1 x2 x3) := by
  unfold execBistSliceEnd
  extract_lets v0 v1 v2 v3 v4 v5
  refine OutSame.have v1 ?_ fun h6 => ?_
  · with_reducible refine Same.step (State.bump_same _ _) (by decide) ?_
    exact Same.refl _ _
  clear_value v1
  refine OutSame.have v5 ?_ fun h7 => ?_
  · with_reducible refine Same.step (State.bistLeave_same _ _) (by decide) ?_
    with_reducible refine Same.record rfl ?_ ?_
    · intro p hp; cases p <;> first | exact absurd (by decide) hp | exact rfl
    exact h6
  clear_value v5
  split
  · rename_i e8 e9
    refine OutSame.next ?_
    exact Same.refl _ _
  · rename_i e10 e11 e12
    refine OutSame.ite ?_ ?_
    · refine OutSame.next ?_
      exact Same.refl _ _
    · refine OutSame.ite ?_ ?_
      · refine OutSame.next ?_
        with_reducible refine Same.record rfl ?_ ?_
        · intro p hp; cases p <;> first | exact absurd (by decide) hp | exact rfl
        exact h6
      · refine OutSame.next ?_
        refine Same.ite ?_ ?_
        · exact h7
        · with_reducible refine Same.step (State.bistFail_same _ _) (by decide) ?_
          exact h7

theorem State.writeDieBist_same (x1 : State) (x2 : Nat) :
    Same [.dict, .lastStatus, .test] x1 (State.writeDieBist x1 x2) := by
  unfold State.writeDieBist
  extract_lets v0 v1 v2
  refine Same.have v1 ?_ fun h3 => ?_
  · with_reducible refine Same.step (State.answer_same _ _) (by decide) ?_
    exact Same.refl _ _
  clear_value v1
  split
  · rename_i e4 e5 e6
    refine Same.ite ?_ ?_
    · extract_lets v7
      with_reducible refine Same.step (State.setReg_same _ _ _) (by decide) ?_
      with_reducible refine Same.record rfl ?_ ?_
      · intro p hp; cases p <;> first | exact absurd (by decide) hp | exact rfl
      exact h3
    · exact h3
  · rename_i e8 e9
    exact h3

theorem execDieBist_same (x1 : Nat) (x2 : State) :
    OutSame [.dict, .lastStatus, .test] x2 (execDieBist x1 x2) := by
  unfold execDieBist
  refine OutSame.next ?_
  with_reducible refine Same.step (State.writeDieBist_same _ _) (by decide) ?_
  exact Same.refl _ _

theorem execDieBistEnd_same (x1 : Fin 8) (x2 : List BistUnit) (x3 : List (Fin 52)) (x4 : State) :
    OutSame [.dict, .lastStatus, .freeCtr, .hostMem, .entries, .cores, .runs, .dies, .grants, .orphans, .fieldMap, .stores, .lanes, .paths, .pair, .ports, .streams, .pw, .test] x4 (execDieBistEnd x1 x2 x3 x4) := by
  unfold execDieBistEnd
  extract_lets v0 v1 v2 v3 v4 v5 v6 v7 v8 v9 v10
  refine OutSame.have v3 ?_ fun h11 => ?_
  · refine Same.foldl ?_ fun q12 y13 h14 => ?_
    · exact Same.refl _ _
    · with_reducible refine Same.step (State.bistFail_same _ _) (by decide) ?_
      exact h14
  clear_value v3
  refine OutSame.have v4 ?_ fun h15 => ?_
  · refine Same.foldl ?_ fun q16 y17 h18 => ?_
    · exact h11
    · with_reducible refine Same.step (State.setReg_same _ _ _) (by decide) ?_
      exact h18
  clear_value v4
  refine OutSame.have v5 ?_ fun h19 => ?_
  · with_reducible refine Same.step (State.addReg_same _ _ _) (by decide) ?_
    exact h15
  clear_value v5
  refine OutSame.have v9 ?_ fun h20 => ?_
  · dsimp only [v9]
    with_reducible refine Same.record rfl ?_ ?_
    · intro p hp; cases p <;> first | exact absurd (by decide) hp | exact rfl
    exact h19
  clear_value v9
  refine OutSame.have v10 ?_ fun h21 => ?_
  · refine Same.ite ?_ ?_
    · with_reducible refine Same.step (State.setReg_same _ _ _) (by decide) ?_
      exact h20
    · exact h20
  clear_value v10
  refine OutSame.ite ?_ ?_
  · refine OutSame.next ?_
    exact Same.refl _ _
  · refine OutSame.next ?_
    refine Same.ite ?_ ?_
    · with_reducible refine Same.step (State.setPair_same _ _) (by decide) ?_
      exact h21
    · exact h21

theorem execTestPortInstruction_same (x1 : TapInstr) (x2 : State) :
    OutSame [.test] x2 (execTestPortInstruction x1 x2) := by
  unfold execTestPortInstruction
  extract_lets v0 v1
  refine OutSame.next ?_
  with_reducible refine Same.record rfl ?_ ?_
  · intro p hp; cases p <;> first | exact absurd (by decide) hp | exact rfl
  exact Same.refl _ _

theorem State.writeTrace_same (x1 : State) (x2 : Nat) :
    Same [.dict, .nv, .lastStatus, .test] x1 (State.writeTrace x1 x2) := by
  unfold State.writeTrace
  refine Same.ite ?_ ?_
  · with_reducible refine Same.step (State.answer_same _ _) (by decide) ?_
    exact Same.refl _ _
  · extract_lets v0 v1 v2 v3
    refine Same.have v1 ?_ fun h4 => ?_
    · with_reducible refine Same.step (State.answer_same _ _) (by decide) ?_
      with_reducible refine Same.step (State.keep_same _ _ _) (by decide) ?_
      exact Same.refl _ _
    clear_value v1
    refine Same.have v3 ?_ fun h5 => ?_
    · dsimp only [v3]
      with_reducible refine Same.record rfl ?_ ?_
      · intro p hp; cases p <;> first | exact absurd (by decide) hp | exact rfl
      exact h4
    clear_value v3
    refine Same.ite ?_ ?_
    · refine Same.foldl ?_ fun q6 y7 h8 => ?_
      · exact h5
      · with_reducible refine Same.step (State.setReg_same _ _ _) (by decide) ?_
        exact h8
    · exact h4

theorem execTraceControlWrite_same (x1 : Nat) (x2 : State) :
    OutSame [.dict, .nv, .lastStatus, .test] x2 (execTraceControlWrite x1 x2) := by
  unfold execTraceControlWrite
  refine OutSame.next ?_
  with_reducible refine Same.step (State.writeTrace_same _ _) (by decide) ?_
  exact Same.refl _ _

theorem execTraceBlockDrain_same (x1 : Fin 12) (x2 : State) :
    OutSame [.dict, .stores, .migs, .test] x2 (execTraceBlockDrain x1 x2) := by
  unfold execTraceBlockDrain
  extract_lets v0 v1 v2 v3 v4 v5
  refine OutSame.ite ?_ ?_
  · refine OutSame.next ?_
    exact Same.refl _ _
  · split
    rename_i e6 e7 e8 e9
    extract_lets v10 v11 v12 v13 v14 v15
    refine OutSame.have v10 ?_ fun h16 => ?_
    · with_reducible refine Same.step (State.physWrite_same _ _ _ _) (by decide) ?_
      exact Same.refl _ _
    clear_value v10
    refine OutSame.have v13 ?_ fun h17 => ?_
    · dsimp only [v13]
      with_reducible refine Same.record rfl ?_ ?_
      · intro p hp; cases p <;> first | exact absurd (by decide) hp | exact rfl
      exact h16
    clear_value v13
    refine OutSame.have v14 ?_ fun h18 => ?_
    · with_reducible refine Same.step (State.setReg_same _ _ _) (by decide) ?_
      with_reducible refine Same.step (State.addReg_same _ _ _) (by decide) ?_
      with_reducible refine Same.step (State.setReg_same _ _ _) (by decide) ?_
      exact h17
    clear_value v14
    refine OutSame.next ?_
    refine Same.ite ?_ ?_
    · with_reducible refine Same.step (State.setReg_same _ _ _) (by decide) ?_
      exact h18
    · exact h18

theorem State.writeTraceCopy_same (x1 : State) (x2 : Nat) :
    Same [.dict, .lastStatus, .test] x1 (State.writeTraceCopy x1 x2) := by
  unfold State.writeTraceCopy
  extract_lets v0 v1 v2 v3
  refine Same.ite ?_ ?_
  · with_reducible refine Same.step (State.answer_same _ _) (by decide) ?_
    exact Same.refl _ _
  · refine Same.ite ?_ ?_
    · with_reducible refine Same.step (State.answer_same _ _) (by decide) ?_
      with_reducible refine Same.step (State.setReg_same _ _ _) (by decide) ?_
      with_reducible refine Same.record rfl ?_ ?_
      · intro p hp; cases p <;> first | exact absurd (by decide) hp | exact rfl
      exact Same.refl _ _
    · with_reducible refine Same.step (State.answer_same _ _) (by decide) ?_
      with_reducible refine Same.step (State.setReg_same _ _ _) (by decide) ?_
      exact Same.refl _ _

theorem execTraceCopy_same (x1 : Nat) (x2 : State) :
    OutSame [.dict, .lastStatus, .test] x2 (execTraceCopy x1 x2) := by
  unfold execTraceCopy
  refine OutSame.next ?_
  with_reducible refine Same.step (State.writeTraceCopy_same _ _) (by decide) ?_
  exact Same.refl _ _

theorem execTraceCopyEnd_same (x1 : State) :
    OutSame [.dict, .stores, .migs, .test] x1 (execTraceCopyEnd x1) := by
  unfold execTraceCopyEnd
  split
  · rename_i e0 e1
    refine OutSame.next ?_
    exact Same.refl _ _
  · rename_i e2 e3 e4 e5 e6
    extract_lets v7 v8 v9 v10
    refine OutSame.have v8 ?_ fun h11 => ?_
    · dsimp only [v8]
      with_reducible refine Same.record rfl ?_ ?_
      · intro p hp; cases p <;> first | exact absurd (by decide) hp | exact rfl
      exact Same.refl _ _
    clear_value v8
    split
    · rename_i e12 e13
      dsimp only [v9]
      refine OutSame.next ?_
      with_reducible refine Same.step (State.setReg_same _ _ _) (by decide) ?_
      exact h11
    · rename_i e14 e15 e16
      refine OutSame.ite ?_ ?_
      · refine OutSame.next ?_
        exact Same.refl _ _
      · refine OutSame.ite ?_ ?_
        · dsimp only [v9]
          refine OutSame.next ?_
          with_reducible refine Same.step (State.setReg_same _ _ _) (by decide) ?_
          exact h11
        · dsimp only [v9]
          refine OutSame.next ?_
          with_reducible refine Same.step (State.setReg_same _ _ _) (by decide) ?_
          with_reducible refine Same.step (State.hubWrite_same _ _ _ _ _) (by decide) ?_
          exact h11

theorem State.writeDump_same (x1 : State) (x2 x3 x4 : Nat) :
    Same [.dict, .nv, .lastStatus] x1 (State.writeDump x1 x2 x3 x4) := by
  unfold State.writeDump
  refine Same.ite ?_ ?_
  · with_reducible refine Same.step (State.answer_same _ _) (by decide) ?_
    exact Same.refl _ _
  · refine Same.ite ?_ ?_
    · with_reducible refine Same.step (State.answer_same _ _) (by decide) ?_
      exact Same.refl _ _
    · refine Same.ite ?_ ?_
      · with_reducible refine Same.step (State.answer_same _ _) (by decide) ?_
        exact Same.refl _ _
      · extract_lets v0 v1
        refine Same.have v1 ?_ fun h2 => ?_
        · with_reducible refine Same.step (State.answer_same _ _) (by decide) ?_
          with_reducible refine Same.step (State.keep_same _ _ _) (by decide) ?_
          exact Same.refl _ _
        clear_value v1
        refine Same.ite ?_ ?_
        · with_reducible refine Same.step (State.setReg_same _ _ _) (by decide) ?_
          exact h2
        · exact h2

theorem execDumpTriggerWrite_same (x1 : Fin 4) (x2 : Fin 5) (x3 : Nat) (x4 : State) :
    OutSame [.dict, .nv, .lastStatus] x4 (execDumpTriggerWrite x1 x2 x3 x4) := by
  unfold execDumpTriggerWrite
  refine OutSame.next ?_
  with_reducible refine Same.step (State.writeDump_same _ _ _ _) (by decide) ?_
  exact Same.refl _ _

theorem execFreezeAtBoundary_same (x1 : State) :
    OutSame [.dict, .lastStatus, .pw, .test] x1 (execFreezeAtBoundary x1) := by
  unfold execFreezeAtBoundary
  refine OutSame.next ?_
  with_reducible refine Same.step (State.writeFreeze_same _ _) (by decide) ?_
  exact Same.refl _ _

theorem execFreezeAtOnce_same (x1 : State) :
    OutSame [.dict, .lastStatus, .pw, .test] x1 (execFreezeAtOnce x1) := by
  unfold execFreezeAtOnce
  refine OutSame.next ?_
  with_reducible refine Same.step (State.writeFreeze_same _ _) (by decide) ?_
  exact Same.refl _ _

theorem execFreezeRelease_same (x1 : State) :
    OutSame [.dict, .lastStatus, .pw, .test] x1 (execFreezeRelease x1) := by
  unfold execFreezeRelease
  refine OutSame.next ?_
  with_reducible refine Same.step (State.writeFreeze_same _ _) (by decide) ?_
  exact Same.refl _ _

theorem State.putFreezeRecord_same (x1 : State) (x2 : List Byte) :
    Same [.stores, .migs] x1 (State.putFreezeRecord x1 x2) := by
  unfold State.putFreezeRecord
  extract_lets v0
  refine Same.ite ?_ ?_
  · exact Same.refl _ _
  · split
    · rename_i e1 e2 e3
      refine Same.ite ?_ ?_
      · with_reducible refine Same.step (State.hubWrite_same _ _ _ _ _) (by decide) ?_
        exact Same.refl _ _
      · exact Same.refl _ _
    · rename_i e4 e5
      exact Same.refl _ _

theorem execFreezeDrainEnd_same (x1 : State) :
    OutSame [.dict, .cores, .stores, .migs, .lanes, .test] x1 (execFreezeDrainEnd x1) := by
  unfold execFreezeDrainEnd
  refine OutSame.ite ?_ ?_
  · refine OutSame.next ?_
    exact Same.refl _ _
  · extract_lets v0 v1 v2 v3
    refine OutSame.have v1 ?_ fun h4 => ?_
    · with_reducible refine Same.step (State.dropSlices_same _ _) (by decide) ?_
      with_reducible refine Same.step (State.putFreezeRecord_same _ _) (by decide) ?_
      exact Same.refl _ _
    clear_value v1
    refine OutSame.have v3 ?_ fun h5 => ?_
    · dsimp only [v3]
      with_reducible refine Same.record rfl ?_ ?_
      · intro p hp; cases p <;> first | exact absurd (by decide) hp | exact rfl
      exact h4
    clear_value v3
    refine OutSame.next ?_
    with_reducible refine Same.step (State.bump_same _ _) (by decide) ?_
    with_reducible refine Same.step (State.setReg_same _ _ _) (by decide) ?_
    with_reducible refine Same.step (State.setReg_same _ _ _) (by decide) ?_
    exact h5

theorem execFreezeDrainLimit_same (x1 : State) :
    OutSame [.dict, .pw, .test] x1 (execFreezeDrainLimit x1) := by
  unfold execFreezeDrainLimit
  refine OutSame.ite ?_ ?_
  · refine OutSame.next ?_
    exact Same.refl _ _
  · refine OutSame.next ?_
    with_reducible refine Same.step (State.stopAtOnce_same _) (by decide) ?_
    with_reducible refine Same.step (State.bump_same _ _) (by decide) ?_
    with_reducible refine Same.step (State.setReg_same _ _ _) (by decide) ?_
    exact Same.refl _ _

theorem State.stopNow_same (x1 : State) (x2 : Nat) :
    Same [.dict, .freeCtr, .cores, .stopped, .halted, .stores, .migs, .lanes, .test] x1 (State.stopNow x1 x2) := by
  unfold State.stopNow
  extract_lets v0 v1 v2 v3 v4 v5 v6
  refine Same.have v2 ?_ fun h7 => ?_
  · with_reducible refine Same.step (State.dropSlices_same _ _) (by decide) ?_
    with_reducible refine Same.step (State.putFreezeRecord_same _ _) (by decide) ?_
    with_reducible refine Same.record rfl ?_ ?_
    · intro p hp; cases p <;> first | exact absurd (by decide) hp | exact rfl
    exact Same.refl _ _
  clear_value v2
  refine Same.have v3 ?_ fun h8 => ?_
  · dsimp only [v3]
    with_reducible refine Same.record rfl ?_ ?_
    · intro p hp; cases p <;> first | exact absurd (by decide) hp | exact rfl
    exact h7
  clear_value v3
  refine Same.have v5 ?_ fun h9 => ?_
  · dsimp only [v5]
    with_reducible refine Same.record rfl ?_ ?_
    · intro p hp; cases p <;> first | exact absurd (by decide) hp | exact rfl
    exact h8
  clear_value v5
  with_reducible refine Same.step (State.bump_same _ _) (by decide) ?_
  with_reducible refine Same.step (State.setReg_same _ _ _) (by decide) ?_
  refine Same.ite ?_ ?_
  · exact h9
  · with_reducible refine Same.step (State.setReg_same _ _ _) (by decide) ?_
    exact h9

theorem State.applyPoint_same (x1 : State) (x2 x3 : Nat) :
    Same [.dict, .dies, .test] x1 (State.applyPoint x1 x2 x3) := by
  unfold State.applyPoint
  extract_lets v0
  refine Same.ite ?_ ?_
  · exact Same.refl _ _
  · with_reducible refine Same.step (State.trace_same _ _ _ _ _ _ _) (by decide) ?_
    with_reducible refine Same.step (State.setDie_same _ _ _) (by decide) ?_
    exact Same.refl _ _

theorem execSynchronisedChange_same (x1 : State) :
    OutSame [.dict, .freeCtr, .cores, .dies, .stopped, .halted, .stores, .migs, .lanes, .pw, .test] x1 (execSynchronisedChange x1) := by
  unfold execSynchronisedChange
  split
  · rename_i e0 e1
    refine OutSame.next ?_
    exact Same.refl _ _
  · rename_i e2 e3 e4
    extract_lets v5
    refine OutSame.have v5 ?_ fun h6 => ?_
    · with_reducible refine Same.step (State.setPw_same _ _) (by decide) ?_
      exact Same.refl _ _
    clear_value v5
    split
    · rename_i e7 e8 e9 e10
      refine OutSame.next ?_
      with_reducible refine Same.step (State.applyPoint_same _ _ _) (by decide) ?_
      exact h6
    · rename_i e11 e12
      refine OutSame.next ?_
      refine Same.ite ?_ ?_
      · with_reducible refine Same.step (State.stopNow_same _ _) (by decide) ?_
        exact h6
      · exact h6

end Sys2Proof.Machine
end

