-- ==== Sys2Proof/Laws/FrameSec.lean ====
section
/-! SUPPORT. Frames of the functions of Machine/Sec.lean: one lemma a function, which says what parts of the state it
can change. -/

namespace Sys2Proof.Machine

open Sys2Proof

theorem State.setSec_same (x1 : State) (x2 : Sec → Sec) :
    Same [.sec] x1 (State.setSec x1 x2) := by
  unfold State.setSec
  with_reducible refine Same.record rfl ?_ ?_
  · intro p hp; cases p <;> first | exact absurd (by decide) hp | exact rfl
  exact Same.refl _ _

theorem State.startImage_same (x1 : State) (x2 x3 x4 : Nat) :
    Same [.sec] x1 (State.startImage x1 x2 x3 x4) := by
  unfold State.startImage
  with_reducible refine Same.step (State.setSec_same _ _) (by decide) ?_
  exact Same.refl _ _

theorem State.setUpdate_same (x1 : State) (x2 : Update → Update) :
    Same [.sec] x1 (State.setUpdate x1 x2) := by
  unfold State.setUpdate
  with_reducible refine Same.step (State.setSec_same _ _) (by decide) ?_
  exact Same.refl _ _

theorem State.stageUpdate_same (x1 : State) :
    Same [.dict, .lastStatus, .stores, .sec] x1 (State.stageUpdate x1) := by
  unfold State.stageUpdate
  extract_lets v0
  split
  · rename_i e1 e2 e3
    with_reducible refine Same.step (State.answer_same _ _) (by decide) ?_
    refine Same.ite ?_ ?_
    · with_reducible refine Same.step (State.setReg_same _ _ _) (by decide) ?_
      exact Same.refl _ _
    · exact Same.refl _ _
  · rename_i e4 e5 e6
    split
    · rename_i e7 e8 e9
      with_reducible refine Same.step (State.answer_same _ _) (by decide) ?_
      exact Same.refl _ _
    · rename_i e10 e11
      with_reducible refine Same.step (State.answer_same _ _) (by decide) ?_
      with_reducible refine Same.step (State.setReg_same _ _ _) (by decide) ?_
      with_reducible refine Same.step (State.setUpdate_same _ _) (by decide) ?_
      with_reducible refine Same.step (State.tierTouch_same _ _ _) (by decide) ?_
      exact Same.refl _ _

theorem State.beginSwitch_same (x1 : State) (x2 : Bool) :
    Same [.dict, .lastStatus, .sec] x1 (State.beginSwitch x1 x2) := by
  unfold State.beginSwitch
  extract_lets v0 v1 v2
  refine Same.have v1 ?_ fun h3 => ?_
  · with_reducible refine Same.step (State.setUpdate_same _ _) (by decide) ?_
    exact Same.refl _ _
  clear_value v1
  refine Same.have v2 ?_ fun h4 => ?_
  · with_reducible refine Same.step (State.setUpdate_same _ _) (by decide) ?_
    exact h3
  clear_value v2
  refine Same.ite ?_ ?_
  · with_reducible refine Same.step (State.answer_same _ _) (by decide) ?_
    with_reducible refine Same.step (State.setReg_same _ _ _) (by decide) ?_
    exact h4
  · refine Same.ite ?_ ?_
    · with_reducible refine Same.step (State.answer_same _ _) (by decide) ?_
      with_reducible refine Same.step (State.setReg_same _ _ _) (by decide) ?_
      with_reducible refine Same.step (State.setUpdate_same _ _) (by decide) ?_
      exact h3
    · with_reducible refine Same.step (State.answer_same _ _) (by decide) ?_
      with_reducible refine Same.step (State.setReg_same _ _ _) (by decide) ?_
      exact h3

theorem State.commitUpdate_same (x1 : State) :
    Same [.dict, .lastStatus, .sec] x1 (State.commitUpdate x1) := by
  unfold State.commitUpdate
  extract_lets v0 v1 v2 v3 v4 v5
  refine Same.have v4 ?_ fun h6 => ?_
  · refine Same.ite ?_ ?_
    · with_reducible refine Same.step (State.setSec_same _ _) (by decide) ?_
      exact Same.refl _ _
    · exact Same.refl _ _
  clear_value v4
  refine Same.have v5 ?_ fun h7 => ?_
  · with_reducible refine Same.step (State.setSec_same _ _) (by decide) ?_
    exact h6
  clear_value v5
  refine Same.ite ?_ ?_
  · with_reducible refine Same.step (State.answer_same _ _) (by decide) ?_
    exact Same.refl _ _
  · with_reducible refine Same.step (State.answer_same _ _) (by decide) ?_
    with_reducible refine Same.step (State.setReg_same _ _ _) (by decide) ?_
    with_reducible refine Same.step (State.setUpdate_same _ _) (by decide) ?_
    exact h7

theorem State.writeUpdate_same (x1 : State) (x2 : Nat) :
    Same [.dict, .lastStatus, .stores, .sec] x1 (State.writeUpdate x1 x2) := by
  unfold State.writeUpdate
  extract_lets v0
  refine Same.ite ?_ ?_
  · with_reducible refine Same.step (State.answer_same _ _) (by decide) ?_
    exact Same.refl _ _
  · split
    · rename_i e1
      with_reducible refine Same.step (State.stageUpdate_same _) (by decide) ?_
      exact Same.refl _ _
    · rename_i e2
      with_reducible refine Same.step (State.commitUpdate_same _) (by decide) ?_
      exact Same.refl _ _
    · rename_i e3
      with_reducible refine Same.step (State.beginSwitch_same _ _) (by decide) ?_
      exact Same.refl _ _
    · rename_i e4
      with_reducible refine Same.step (State.beginSwitch_same _ _) (by decide) ?_
      exact Same.refl _ _
    · rename_i e5 e6 e7 e8 e9
      with_reducible refine Same.step (State.beginSwitch_same _ _) (by decide) ?_
      exact Same.refl _ _

theorem execUpdateStage_same (x1 : State) :
    OutSame [.dict, .lastStatus, .stores, .sec] x1 (execUpdateStage x1) := by
  unfold execUpdateStage
  refine OutSame.next ?_
  with_reducible refine Same.step (State.writeUpdate_same _ _) (by decide) ?_
  exact Same.refl _ _

theorem execUpdateApply_same (x1 : State) :
    OutSame [.dict, .lastStatus, .stores, .sec] x1 (execUpdateApply x1) := by
  unfold execUpdateApply
  refine OutSame.next ?_
  with_reducible refine Same.step (State.writeUpdate_same _ _) (by decide) ?_
  exact Same.refl _ _

theorem execUpdateCommit_same (x1 : State) :
    OutSame [.dict, .lastStatus, .stores, .sec] x1 (execUpdateCommit x1) := by
  unfold execUpdateCommit
  refine OutSame.next ?_
  with_reducible refine Same.step (State.writeUpdate_same _ _) (by decide) ?_
  exact Same.refl _ _

theorem execUpdateRevert_same (x1 : State) :
    OutSame [.dict, .lastStatus, .stores, .sec] x1 (execUpdateRevert x1) := by
  unfold execUpdateRevert
  refine OutSame.next ?_
  with_reducible refine Same.step (State.writeUpdate_same _ _) (by decide) ?_
  exact Same.refl _ _

theorem execUpdateResume_same (x1 : State) :
    OutSame [.dict, .lastStatus, .stores, .sec] x1 (execUpdateResume x1) := by
  unfold execUpdateResume
  refine OutSame.next ?_
  with_reducible refine Same.step (State.writeUpdate_same _ _) (by decide) ?_
  exact Same.refl _ _

theorem execUpdateStageEnd_same (x1 : State) :
    OutSame [.dict, .sec] x1 (execUpdateStageEnd x1) := by
  unfold execUpdateStageEnd
  extract_lets v0 v1
  refine OutSame.have v1 ?_ fun h2 => ?_
  · with_reducible refine Same.step (State.setSec_same _ _) (by decide) ?_
    exact Same.refl _ _
  clear_value v1
  refine OutSame.ite ?_ ?_
  · refine OutSame.next ?_
    exact Same.refl _ _
  · refine OutSame.next ?_
    with_reducible refine Same.step (State.setReg_same _ _ _) (by decide) ?_
    with_reducible refine Same.step (State.setReg_same _ _ _) (by decide) ?_
    with_reducible refine Same.step (State.setUpdate_same _ _) (by decide) ?_
    exact h2

theorem execUpdateSlice_same (x1 : State) :
    OutSame [.sec] x1 (execUpdateSlice x1) := by
  unfold execUpdateSlice
  extract_lets v0
  refine OutSame.ite ?_ ?_
  · refine OutSame.next ?_
    exact Same.refl _ _
  · split
    · rename_i e1 e2
      refine OutSame.next ?_
      exact Same.refl _ _
    · rename_i e3 e4 e5 e6
      refine OutSame.ite ?_ ?_
      · refine OutSame.next ?_
        with_reducible refine Same.step (State.setUpdate_same _ _) (by decide) ?_
        exact Same.refl _ _
      · extract_lets v7
        refine OutSame.next ?_
        with_reducible refine Same.step (State.setUpdate_same _ _) (by decide) ?_
        with_reducible refine Same.step (State.startImage_same _ _ _ _) (by decide) ?_
        exact Same.refl _ _

theorem execImageAliveReport_same (x1 : State) :
    OutSame [.dict, .sec] x1 (execImageAliveReport x1) := by
  unfold execImageAliveReport
  extract_lets v0 v1 v2
  refine OutSame.have v1 ?_ fun h3 => ?_
  · with_reducible refine Same.step (State.setReg_same _ _ _) (by decide) ?_
    with_reducible refine Same.step (State.setUpdate_same _ _) (by decide) ?_
    exact Same.refl _ _
  clear_value v1
  refine OutSame.have v2 ?_ fun h4 => ?_
  · with_reducible refine Same.step (State.setSec_same _ _) (by decide) ?_
    exact h3
  clear_value v2
  split
  · rename_i e5 e6
    refine OutSame.next ?_
    exact Same.refl _ _
  · rename_i e7 e8 e9
    refine OutSame.ite ?_ ?_
    · refine OutSame.next ?_
      with_reducible refine Same.step (State.setReg_same _ _ _) (by decide) ?_
      with_reducible refine Same.step (State.setUpdate_same _ _) (by decide) ?_
      exact h4
    · refine OutSame.next ?_
      exact h3

theorem execImageAliveTimeout_same (x1 : State) :
    OutSame [.dict, .sec] x1 (execImageAliveTimeout x1) := by
  unfold execImageAliveTimeout
  extract_lets v0
  split
  · rename_i e1 e2
    refine OutSame.next ?_
    exact Same.refl _ _
  · rename_i e3 e4 e5
    refine OutSame.next ?_
    with_reducible refine Same.step (State.setReg_same _ _ _) (by decide) ?_
    with_reducible refine Same.step (State.setUpdate_same _ _) (by decide) ?_
    exact Same.refl _ _

theorem State.sliceBack_same (x1 : State) :
    Same [.sec] x1 (State.sliceBack x1) := by
  unfold State.sliceBack
  extract_lets v0
  split
  · rename_i e1 e2
    exact Same.refl _ _
  · rename_i e3 e4 e5
    with_reducible refine Same.step (State.setUpdate_same _ _) (by decide) ?_
    with_reducible refine Same.step (State.setSec_same _ _) (by decide) ?_
    exact Same.refl _ _

theorem execSliceRetryTimeout_same (x1 : State) :
    OutSame [.dict, .sec] x1 (execSliceRetryTimeout x1) := by
  unfold execSliceRetryTimeout
  refine OutSame.next ?_
  with_reducible refine when_same ?_ ?_
  · with_reducible refine Same.step (State.setReg_same _ _ _) (by decide) ?_
    with_reducible refine Same.step (State.setUpdate_same _ _) (by decide) ?_
    exact Same.refl _ _
  · exact Same.refl _ _

theorem execAutoCommit_same (x1 : State) :
    OutSame [.dict, .lastStatus, .sec] x1 (execAutoCommit x1) := by
  unfold execAutoCommit
  extract_lets v0 v1 v2 v3
  refine OutSame.have v3 ?_ fun h4 => ?_
  · with_reducible refine Same.step (State.commitUpdate_same _) (by decide) ?_
    exact Same.refl _ _
  clear_value v3
  refine OutSame.next ?_
  with_reducible refine when_same ?_ ?_
  · with_reducible refine Same.record rfl ?_ ?_
    · intro p hp; cases p <;> first | exact absurd (by decide) hp | exact rfl
    exact h4
  · exact Same.refl _ _

theorem State.writeRecLength_same (x1 : State) (x2 : Nat) :
    Same [.dict, .lastStatus, .sec] x1 (State.writeRecLength x1 x2) := by
  unfold State.writeRecLength
  refine Same.ite ?_ ?_
  · with_reducible refine Same.step (State.answer_same _ _) (by decide) ?_
    exact Same.refl _ _
  · refine Same.ite ?_ ?_
    · with_reducible refine Same.step (State.answer_same _ _) (by decide) ?_
      exact Same.refl _ _
    · with_reducible refine Same.step (State.answer_same _ _) (by decide) ?_
      with_reducible refine Same.step (State.setReg_same _ _ _) (by decide) ?_
      with_reducible refine Same.step (State.setSec_same _ _) (by decide) ?_
      exact Same.refl _ _

theorem execRecoveryLength_same (x1 : Nat) (x2 : State) :
    OutSame [.dict, .lastStatus, .sec] x2 (execRecoveryLength x1 x2) := by
  unfold execRecoveryLength
  refine OutSame.next ?_
  with_reducible refine Same.step (State.writeRecLength_same _ _) (by decide) ?_
  exact Same.refl _ _

theorem State.writeRecOffset_same (x1 : State) (x2 : Nat) :
    Same [.lastStatus, .sec] x1 (State.writeRecOffset x1 x2) := by
  unfold State.writeRecOffset
  refine Same.ite ?_ ?_
  · with_reducible refine Same.step (State.answer_same _ _) (by decide) ?_
    exact Same.refl _ _
  · with_reducible refine Same.step (State.answer_same _ _) (by decide) ?_
    with_reducible refine Same.step (State.setSec_same _ _) (by decide) ?_
    exact Same.refl _ _

theorem execRecoveryOffset_same (x1 : Nat) (x2 : State) :
    OutSame [.lastStatus, .sec] x2 (execRecoveryOffset x1 x2) := by
  unfold execRecoveryOffset
  refine OutSame.next ?_
  with_reducible refine Same.step (State.writeRecOffset_same _ _) (by decide) ?_
  exact Same.refl _ _

theorem State.writeRecPiece_same (x1 : State) (x2 : List Byte) :
    Same [.dict, .lastStatus, .sec] x1 (State.writeRecPiece x1 x2) := by
  unfold State.writeRecPiece
  refine Same.ite ?_ ?_
  · with_reducible refine Same.step (State.answer_same _ _) (by decide) ?_
    exact Same.refl _ _
  · refine Same.ite ?_ ?_
    · with_reducible refine Same.step (State.answer_same _ _) (by decide) ?_
      exact Same.refl _ _
    · split
      · rename_i e0 e1
        with_reducible refine Same.step (State.answer_same _ _) (by decide) ?_
        exact Same.refl _ _
      · rename_i e2 e3 e4
        extract_lets v5 v6
        refine Same.have v6 ?_ fun h7 => ?_
        · with_reducible refine Same.step (State.setSec_same _ _) (by decide) ?_
          exact Same.refl _ _
        clear_value v6
        refine Same.ite ?_ ?_
        · with_reducible refine Same.step (State.answer_same _ _) (by decide) ?_
          exact Same.refl _ _
        · refine Same.ite ?_ ?_
          · with_reducible refine Same.step (State.answer_same _ _) (by decide) ?_
            exact Same.refl _ _
          · with_reducible refine Same.step (State.answer_same _ _) (by decide) ?_
            with_reducible refine Same.step (State.setReg_same _ _ _) (by decide) ?_
            exact h7

theorem execRecoveryPiece_same (x1 : List Byte) (x2 : State) :
    OutSame [.dict, .lastStatus, .sec] x2 (execRecoveryPiece x1 x2) := by
  unfold execRecoveryPiece
  refine OutSame.next ?_
  with_reducible refine Same.step (State.writeRecPiece_same _ _) (by decide) ?_
  exact Same.refl _ _

theorem State.writeRecVerify_same (x1 : State) (x2 : Nat) :
    Same [.dict, .lastStatus] x1 (State.writeRecVerify x1 x2) := by
  unfold State.writeRecVerify
  refine Same.ite ?_ ?_
  · with_reducible refine Same.step (State.answer_same _ _) (by decide) ?_
    exact Same.refl _ _
  · refine Same.ite ?_ ?_
    · with_reducible refine Same.step (State.answer_same _ _) (by decide) ?_
      exact Same.refl _ _
    · split
      · rename_i e0 e1
        with_reducible refine Same.step (State.answer_same _ _) (by decide) ?_
        exact Same.refl _ _
      · rename_i e2 e3 e4
        refine Same.ite ?_ ?_
        · with_reducible refine Same.step (State.answer_same _ _) (by decide) ?_
          exact Same.refl _ _
        · extract_lets v5 v6
          refine Same.have v6 ?_ fun h7 => ?_
          · with_reducible refine Same.step (State.setReg_same _ _ _) (by decide) ?_
            with_reducible refine Same.step (State.answer_same _ _) (by decide) ?_
            exact Same.refl _ _
          clear_value v6
          refine Same.ite ?_ ?_
          · with_reducible refine Same.step (State.setReg_same _ _ _) (by decide) ?_
            exact h7
          · exact h7

theorem execRecoveryVerify_same (x1 : Nat) (x2 : State) :
    OutSame [.dict, .lastStatus] x2 (execRecoveryVerify x1 x2) := by
  unfold execRecoveryVerify
  refine OutSame.next ?_
  with_reducible refine Same.step (State.writeRecVerify_same _ _) (by decide) ?_
  exact Same.refl _ _

theorem State.spdmError_same (x1 : State) (x2 x3 : Nat) :
    Same [.sec] x1 (State.spdmError x1 x2 x3) := by
  unfold State.spdmError
  with_reducible refine Same.step (State.setSec_same _ _) (by decide) ?_
  exact Same.refl _ _

theorem State.spdm_same {W : List Part} {s0 s : State} {p need : Nat} {f : State → State}
    (hw : ([.sec].all fun p => W.contains p) = true) (h : Same W s0 s) (hf : ∀ t, Same W s0 t → Same W s0 (f t)) :
    Same W s0 (s.spdm p need f) := by
  unfold State.spdm
  repeat' split
  · exact h
  · exact Same.step (State.spdmError_same _ _ _) hw h
  · exact Same.step (State.spdmError_same _ _ _) hw h
  · exact hf _ h

theorem State.spdmSay_same (x1 : State) (x2 x3 x4 : Nat) (x5 : List Byte) :
    Same [.sec] x1 (State.spdmSay x1 x2 x3 x4 x5) := by
  unfold State.spdmSay
  with_reducible refine Same.step (State.setSec_same _ _) (by decide) ?_
  exact Same.refl _ _

theorem State.spdmSign_same (x1 : State) (x2 x3 x4 : Nat) (x5 x6 : List Byte) :
    Same [.sec] x1 (State.spdmSign x1 x2 x3 x4 x5 x6) := by
  unfold State.spdmSign
  extract_lets v0
  with_reducible refine Same.step (State.setSec_same _ _) (by decide) ?_
  exact Same.refl _ _

theorem State.setSpdm_same (x1 : State) (x2 x3 : Nat) :
    Same [.sec] x1 (State.setSpdm x1 x2 x3) := by
  unfold State.setSpdm
  with_reducible refine Same.step (State.setSec_same _ _) (by decide) ?_
  exact Same.refl _ _

theorem execGetVersion_same (x1 : Fin 2) (x2 : State) :
    OutSame [.sec] x2 (execGetVersion x1 x2) := by
  unfold execGetVersion
  extract_lets v0
  refine OutSame.next ?_
  with_reducible refine State.spdm_same (by decide) ?_ ?_
  · exact Same.refl _ _
  · intro y1 h2
    extract_lets v3
    refine Same.have v3 ?_ fun h4 => ?_
    · with_reducible refine Same.step (State.setSec_same _ _) (by decide) ?_
      exact h2
    clear_value v3
    with_reducible refine Same.step (State.spdmSay_same _ _ _ _ _) (by decide) ?_
    with_reducible refine Same.step (State.setSpdm_same _ _ _) (by decide) ?_
    exact h4

theorem execGetCapabilities_same (x1 : Fin 2) (x2 : State) :
    OutSame [.sec] x2 (execGetCapabilities x1 x2) := by
  unfold execGetCapabilities
  extract_lets v0
  refine OutSame.next ?_
  with_reducible refine State.spdm_same (by decide) ?_ ?_
  · exact Same.refl _ _
  · intro y1 h2
    with_reducible refine Same.step (State.spdmSay_same _ _ _ _ _) (by decide) ?_
    with_reducible refine Same.step (State.setSpdm_same _ _ _) (by decide) ?_
    exact h2

theorem execNegotiateAlgorithms_same (x1 : Fin 2) (x2 : Bool) (x3 : State) :
    OutSame [.sec] x3 (execNegotiateAlgorithms x1 x2 x3) := by
  unfold execNegotiateAlgorithms
  extract_lets v0
  refine OutSame.next ?_
  with_reducible refine State.spdm_same (by decide) ?_ ?_
  · exact Same.refl _ _
  · intro y1 h2
    refine Same.ite ?_ ?_
    · with_reducible refine Same.step (State.spdmSay_same _ _ _ _ _) (by decide) ?_
      with_reducible refine Same.step (State.setSpdm_same _ _ _) (by decide) ?_
      exact h2
    · with_reducible refine Same.step (State.spdmError_same _ _ _) (by decide) ?_
      exact h2

theorem execGetDigests_same (x1 : Fin 2) (x2 : State) :
    OutSame [.sec] x2 (execGetDigests x1 x2) := by
  unfold execGetDigests
  refine OutSame.next ?_
  with_reducible refine State.spdm_same (by decide) ?_ ?_
  · exact Same.refl _ _
  · intro y0 h1
    with_reducible refine Same.step (State.spdmSay_same _ _ _ _ _) (by decide) ?_
    exact h1

theorem execGetCertificate_same (x1 : Fin 2) (x2 : Fin 8) (x3 x4 : BitVec 16) (x5 : State) :
    OutSame [.sec] x5 (execGetCertificate x1 x2 x3 x4 x5) := by
  unfold execGetCertificate
  refine OutSame.next ?_
  with_reducible refine State.spdm_same (by decide) ?_ ?_
  · exact Same.refl _ _
  · intro y0 h1
    refine Same.ite ?_ ?_
    · with_reducible refine Same.step (State.spdmError_same _ _ _) (by decide) ?_
      exact h1
    · with_reducible refine Same.step (State.spdmSay_same _ _ _ _ _) (by decide) ?_
      exact h1

theorem execChallenge_same (x1 : Fin 2) (x2 : Fin 8) (x3 : Bool) (x4 : List Byte) (x5 : State) :
    OutSame [.freeCtr, .sec] x5 (execChallenge x1 x2 x3 x4 x5) := by
  unfold execChallenge
  refine OutSame.next ?_
  with_reducible refine State.spdm_same (by decide) ?_ ?_
  · exact Same.refl _ _
  · intro y0 h1
    refine Same.ite ?_ ?_
    · with_reducible refine Same.step (State.spdmError_same _ _ _) (by decide) ?_
      exact h1
    · extract_lets v2
      with_reducible refine Same.step (State.tickFree_same _) (by decide) ?_
      with_reducible refine Same.step (State.spdmSign_same _ _ _ _ _ _) (by decide) ?_
      exact h1

theorem execGetMeasurements_same (x1 : Fin 2) (x2 : BitVec 8) (x3 : Bool) (x4 : List Byte) (x5 : State) :
    OutSame [.freeCtr, .sec] x5 (execGetMeasurements x1 x2 x3 x4 x5) := by
  unfold execGetMeasurements
  extract_lets v0 v1
  refine OutSame.next ?_
  with_reducible refine State.spdm_same (by decide) ?_ ?_
  · exact Same.refl _ _
  · intro y2 h3
    refine Same.ite ?_ ?_
    · with_reducible refine Same.step (State.spdmError_same _ _ _) (by decide) ?_
      exact h3
    · extract_lets v4
      refine Same.ite ?_ ?_
      · with_reducible refine Same.step (State.tickFree_same _) (by decide) ?_
        with_reducible refine Same.step (State.spdmSign_same _ _ _ _ _ _) (by decide) ?_
        exact h3
      · with_reducible refine Same.step (State.spdmSay_same _ _ _ _ _) (by decide) ?_
        exact h3

end Sys2Proof.Machine
end

