-- ==== Sys2Proof/Laws/FrameTimebase.lean ====
section
/-! SUPPORT. Frames of the functions of Machine/Timebase.lean: one lemma a function, which says what parts of the state it
can change. -/

namespace Sys2Proof.Machine

open Sys2Proof

theorem execWordClockEdge_same (x1 : Nat) (x2 x3 : Int) (x4 : State) :
    OutSame [.dict, .tb] x4 (execWordClockEdge x1 x2 x3 x4) := by
  unfold execWordClockEdge
  extract_lets v0 v1 v2 v3 v4
  refine OutSame.ite ?_ ?_
  · refine OutSame.next ?_
    exact Same.refl _ _
  · refine OutSame.ite ?_ ?_
    · split
      rename_i e5 e6 e7 e8
      refine OutSame.next ?_
      with_reducible refine Same.step (State.stick_same _ _ _) (by decide) ?_
      with_reducible refine Same.record rfl ?_ ?_
      · intro p hp; cases p <;> first | exact absurd (by decide) hp | exact rfl
      exact Same.refl _ _
    · refine OutSame.next ?_
      with_reducible refine Same.record rfl ?_ ?_
      · intro p hp; cases p <;> first | exact absurd (by decide) hp | exact rfl
      exact Same.refl _ _

theorem execPpsEdge_same (x1 : Nat) (x2 : Bool) (x3 : Int) (x4 : State) :
    OutSame [.tb] x4 (execPpsEdge x1 x2 x3 x4) := by
  unfold execPpsEdge
  extract_lets v0 v1 v2 v3 v4 v5 v6 v7 v8
  refine OutSame.ite ?_ ?_
  · refine OutSame.next ?_
    exact Same.refl _ _
  · refine OutSame.next ?_
    with_reducible refine Same.record rfl ?_ ?_
    · intro p hp; cases p <;> first | exact absurd (by decide) hp | exact rfl
    exact Same.refl _ _

theorem execMediaTick_same (x1 : State) :
    OutSame [.tb] x1 (execMediaTick x1) := by
  unfold execMediaTick
  extract_lets v0 v1
  refine OutSame.ite ?_ ?_
  · refine OutSame.next ?_
    with_reducible refine Same.record rfl ?_ ?_
    · intro p hp; cases p <;> first | exact absurd (by decide) hp | exact rfl
    exact Same.refl _ _
  · refine OutSame.next ?_
    with_reducible refine Same.record rfl ?_ ?_
    · intro p hp; cases p <;> first | exact absurd (by decide) hp | exact rfl
    exact Same.refl _ _

theorem execPtpCorrelationRecord_same (x1 : Fin 2) (x2 x3 : Nat) (x4 : Int) (x5 : State) :
    OutSame [.lastStatus, .tb] x5 (execPtpCorrelationRecord x1 x2 x3 x4 x5) := by
  unfold execPtpCorrelationRecord
  extract_lets v0 v1 v2 v3 v4 v5 v6 v7 v8 v9
  refine OutSame.ite ?_ ?_
  · refine OutSame.next ?_
    with_reducible refine Same.step (State.answer_same _ _) (by decide) ?_
    with_reducible refine Same.record rfl ?_ ?_
    · intro p hp; cases p <;> first | exact absurd (by decide) hp | exact rfl
    exact Same.refl _ _
  · refine OutSame.ite ?_ ?_
    · refine OutSame.next ?_
      with_reducible refine Same.step (State.answer_same _ _) (by decide) ?_
      with_reducible refine Same.record rfl ?_ ?_
      · intro p hp; cases p <;> first | exact absurd (by decide) hp | exact rfl
      exact Same.refl _ _
    · refine OutSame.next ?_
      with_reducible refine Same.step (State.answer_same _ _) (by decide) ?_
      with_reducible refine Same.record rfl ?_ ?_
      · intro p hp; cases p <;> first | exact absurd (by decide) hp | exact rfl
      exact Same.refl _ _

theorem execSourceLost_same (x1 : Fin 4) (x2 : State) :
    OutSame [.dict, .tb] x2 (execSourceLost x1 x2) := by
  unfold execSourceLost
  split
  rename_i e0 e1 e2 e3
  refine OutSame.next ?_
  with_reducible refine Same.step (State.stick_same _ _ _) (by decide) ?_
  with_reducible refine Same.record rfl ?_ ?_
  · intro p hp; cases p <;> first | exact absurd (by decide) hp | exact rfl
  exact Same.refl _ _

theorem execSourceSwitch_same (x1 : Fin 4) (x2 : State) :
    OutSame [.dict, .tb] x2 (execSourceSwitch x1 x2) := by
  unfold execSourceSwitch
  extract_lets v0 v1
  refine OutSame.next ?_
  with_reducible refine when_same ?_ ?_
  · with_reducible refine Same.step (State.stick_same _ _ _) (by decide) ?_
    with_reducible refine Same.record rfl ?_ ?_
    · intro p hp; cases p <;> first | exact absurd (by decide) hp | exact rfl
    exact Same.refl _ _
  · exact Same.refl _ _

theorem execAcquireTimeout_same (x1 : State) :
    OutSame [.tb] x1 (execAcquireTimeout x1) := by
  unfold execAcquireTimeout
  refine OutSame.next ?_
  with_reducible refine when_same ?_ ?_
  · with_reducible refine Same.record rfl ?_ ?_
    · intro p hp; cases p <;> first | exact absurd (by decide) hp | exact rfl
    exact Same.refl _ _
  · exact Same.refl _ _

theorem execHoldoverLimitExpiry_same (x1 : State) :
    OutSame [.dict, .tb] x1 (execHoldoverLimitExpiry x1) := by
  unfold execHoldoverLimitExpiry
  refine OutSame.next ?_
  with_reducible refine when_same ?_ ?_
  · with_reducible refine Same.step (State.stick_same _ _ _) (by decide) ?_
    with_reducible refine Same.record rfl ?_ ?_
    · intro p hp; cases p <;> first | exact absurd (by decide) hp | exact rfl
    exact Same.refl _ _
  · exact Same.refl _ _

theorem writeReferenceSource_same (x1 : Nat) (x2 : State) :
    Same [.dict, .nv, .lastStatus, .tb] x2 (writeReferenceSource x1 x2) := by
  unfold writeReferenceSource
  refine Same.ite ?_ ?_
  · with_reducible refine Same.step (State.answer_same _ _) (by decide) ?_
    exact Same.refl _ _
  · with_reducible refine Same.step (State.answer_same _ _) (by decide) ?_
    with_reducible refine Same.step (State.keep_same _ _ _) (by decide) ?_
    with_reducible refine Same.record rfl ?_ ?_
    · intro p hp; cases p <;> first | exact absurd (by decide) hp | exact rfl
    exact Same.refl _ _

theorem execMediaReferenceSourceWrite_same (x1 : Nat) (x2 : State) :
    OutSame [.dict, .nv, .lastStatus, .tb] x2 (execMediaReferenceSourceWrite x1 x2) := by
  unfold execMediaReferenceSourceWrite
  refine OutSame.next ?_
  with_reducible refine Same.step (writeReferenceSource_same _ _) (by decide) ?_
  exact Same.refl _ _

theorem writeFrameLength_same (x1 : Nat) (x2 : State) :
    Same [.dict, .nv, .lastStatus] x2 (writeFrameLength x1 x2) := by
  unfold writeFrameLength
  refine Same.ite ?_ ?_
  · with_reducible refine Same.step (State.answer_same _ _) (by decide) ?_
    exact Same.refl _ _
  · refine Same.ite ?_ ?_
    · with_reducible refine Same.step (State.answer_same _ _) (by decide) ?_
      exact Same.refl _ _
    · with_reducible refine Same.step (State.answer_same _ _) (by decide) ?_
      with_reducible refine Same.step (State.keep_same _ _ _) (by decide) ?_
      exact Same.refl _ _

theorem execFrameLengthWrite_same (x1 : Nat) (x2 : State) :
    OutSame [.dict, .nv, .lastStatus] x2 (execFrameLengthWrite x1 x2) := by
  unfold execFrameLengthWrite
  refine OutSame.next ?_
  with_reducible refine Same.step (writeFrameLength_same _ _) (by decide) ?_
  exact Same.refl _ _

theorem execFirstFrameBegin_same (x1 : Nat) (x2 : State) :
    OutSame [.tb, .pair, .ports] x2 (execFirstFrameBegin x1 x2) := by
  unfold execFirstFrameBegin
  refine OutSame.ite ?_ ?_
  · extract_lets v0 v1 v2 v3
    refine OutSame.next ?_
    with_reducible refine Same.step (State.signal_same _ _) (by decide) ?_
    with_reducible refine Same.record rfl ?_ ?_
    · intro p hp; cases p <;> first | exact absurd (by decide) hp | exact rfl
    exact Same.refl _ _
  · refine OutSame.next ?_
    exact Same.refl _ _

end Sys2Proof.Machine
end

