-- ==== Sys2Proof/Laws/FrameBringUp.lean ====
section
/-! SUPPORT. Frames of the functions of Machine/BringUp.lean: one lemma a function, which says what parts of the state it
can change. -/

namespace Sys2Proof.Machine

open Sys2Proof

theorem State.bootField_same (x1 : State) (x2 x3 x4 : Nat) :
    Same [.dict] x1 (State.bootField x1 x2 x3 x4) := by
  unfold State.bootField
  with_reducible refine Same.step (State.setReg_same _ _ _) (by decide) ?_
  exact Same.refl _ _

theorem State.bringEnd_same (x1 : State) (x2 : Nat) :
    Same [.dict] x1 (State.bringEnd x1 x2) := by
  unfold State.bringEnd
  with_reducible refine Same.step (State.bootField_same _ _ _ _) (by decide) ?_
  exact Same.refl _ _

theorem State.bring2_same (x1 : BringUp) (x2 : State) :
    Same [.dict] x2 (State.bring2 x1 x2) := by
  unfold State.bring2
  refine Same.ite ?_ ?_
  · exact Same.refl _ _
  · extract_lets v0 v1
    refine Same.have v0 ?_ fun h2 => ?_
    · with_reducible refine Same.step (State.setReg_same _ _ _) (by decide) ?_
      exact Same.refl _ _
    clear_value v0
    with_reducible refine Same.step (State.bringEnd_same _ _) (by decide) ?_
    with_reducible refine Same.step (State.bootField_same _ _ _ _) (by decide) ?_
    exact h2

theorem State.loadComp_same (x1 : State) (x2 x3 : Nat) :
    Same [.dict, .sec] x1 (State.loadComp x1 x2 x3) := by
  unfold State.loadComp
  split
  · rename_i e0 e1
    exact Same.refl _ _
  · rename_i e2 e3 e4
    extract_lets v5 v6
    refine Same.have v5 ?_ fun h7 => ?_
    · refine Same.foldl ?_ fun q8 y9 h10 => ?_
      · exact Same.refl _ _
      · with_reducible refine Same.step (State.startImage_same _ _ _ _) (by decide) ?_
        exact h10
    clear_value v5
    refine Same.have v6 ?_ fun h11 => ?_
    · with_reducible refine Same.step (State.setSec_same _ _) (by decide) ?_
      exact h7
    clear_value v6
    refine Same.ite ?_ ?_
    · exact h11
    · with_reducible refine Same.step (State.bootField_same _ _ _ _) (by decide) ?_
      exact h11

theorem State.bring3_same (x1 : State) :
    Same [.dict, .sec] x1 (State.bring3 x1) := by
  unfold State.bring3
  extract_lets v0 v1 v2
  refine Same.have v1 ?_ fun h3 => ?_
  · with_reducible refine Same.step (State.loadComp_same _ _ _) (by decide) ?_
    exact Same.refl _ _
  clear_value v1
  refine Same.have v2 ?_ fun h4 => ?_
  · with_reducible refine Same.step (State.loadComp_same _ _ _) (by decide) ?_
    with_reducible refine Same.step (State.setUpdate_same _ _) (by decide) ?_
    exact h3
  clear_value v2
  refine Same.ite ?_ ?_
  · with_reducible refine Same.step (State.setSec_same _ _) (by decide) ?_
    with_reducible refine Same.step (State.bootField_same _ _ _ _) (by decide) ?_
    exact h4
  · with_reducible refine Same.step (State.bringEnd_same _ _) (by decide) ?_
    exact h4

theorem State.bring4_same (x1 : State) :
    Same [.dict, .nv, .tb, .trimMode, .pair, .dap, .pw] x1 (State.bring4 x1) := by
  unfold State.bring4
  extract_lets v0 v1 v2 v3 v4 v5 v6 v7 v8 v9 v10 v11
  refine Same.have v3 ?_ fun h12 => ?_
  · dsimp only [v3]
    with_reducible refine Same.record rfl ?_ ?_
    · intro p hp; cases p <;> first | exact absurd (by decide) hp | exact rfl
    exact Same.refl _ _
  clear_value v3
  refine Same.have v4 ?_ fun h13 => ?_
  · with_reducible refine Same.step (State.setReg_same _ _ _) (by decide) ?_
    exact h12
  clear_value v4
  refine Same.have v6 ?_ fun h14 => ?_
  · with_reducible refine Same.step (State.setPair_same _ _) (by decide) ?_
    exact h13
  clear_value v6
  refine Same.have v9 ?_ fun h15 => ?_
  · dsimp only [v9]
    with_reducible refine Same.record rfl ?_ ?_
    · intro p hp; cases p <;> first | exact absurd (by decide) hp | exact rfl
    exact h14
  clear_value v9
  refine Same.have v10 ?_ fun h16 => ?_
  · with_reducible refine Same.step (State.reportOsc_same _) (by decide) ?_
    with_reducible refine Same.step (State.setPw_same _ _) (by decide) ?_
    exact h15
  clear_value v10
  with_reducible refine Same.step (State.bringEnd_same _ _) (by decide) ?_
  refine Same.ite ?_ ?_
  · with_reducible refine Same.step (State.setReg_same _ _ _) (by decide) ?_
    exact h16
  · exact h16

theorem State.bring5_same (x1 : BringUp) (x2 : State) :
    Same [.dict, .tb, .prick, .entries, .cores, .runs, .dies, .grants, .nextGrant, .orphans, .stopped, .patCmd, .halted, .stores, .ledger, .tlb, .epoch, .heldFrames, .migs, .ledgerCmd, .ledgerTurn, .chans, .staging, .stagingTurn, .trimWords, .trimMode, .calCmd, .regions, .rings, .lanes, .paths, .arbiters, .lasers, .identReports, .requests, .seqs, .phases, .trackers, .replies, .guards, .lastResponse, .lineCache, .xports, .routes, .hub, .routeLoad, .pair, .ports, .streams, .sqPort, .dap, .thermals, .sensors, .pw, .sec, .test] x2 (State.bring5 x1 x2) := by
  unfold State.bring5
  refine Same.ite ?_ ?_
  · with_reducible refine Same.step (State.faultOff_same _ _) (by decide) ?_
    exact Same.refl _ _
  · extract_lets v0 v1 v2 v3 v4 v5 v6 v7 v8 v9
    refine Same.have v7 ?_ fun h10 => ?_
    · refine Same.foldl ?_ fun q11 y12 h13 => ?_
      · exact Same.refl _ _
      · with_reducible refine Same.step (State.setDie_same _ _ _) (by decide) ?_
        exact h13
    clear_value v7
    refine Same.have v9 ?_ fun h14 => ?_
    · dsimp only [v9]
      with_reducible refine Same.record rfl ?_ ?_
      · intro p hp; cases p <;> first | exact absurd (by decide) hp | exact rfl
      exact h10
    clear_value v9
    with_reducible refine Same.step (State.bringEnd_same _ _) (by decide) ?_
    exact h14

theorem State.isolateSite_same (x1 : State) (x2 : Nat) :
    Same [.dies, .regions] x1 (State.isolateSite x1 x2) := by
  unfold State.isolateSite
  extract_lets v0 v1
  refine Same.have v1 ?_ fun h2 => ?_
  · with_reducible refine Same.step (State.setRegion_same _ _ _) (by decide) ?_
    exact Same.refl _ _
  clear_value v1
  split
  · rename_i e3 e4 e5
    with_reducible refine Same.step (State.setDie_same _ _ _) (by decide) ?_
    exact h2
  · rename_i e6 e7
    exact h2

theorem State.reportRevision_same (x1 : BringUp) (x2 : State) (x3 : Nat) :
    Same [.dict, .dies, .regions] x2 (State.reportRevision x1 x2 x3) := by
  unfold State.reportRevision
  refine Same.ite ?_ ?_
  · with_reducible refine Same.step (State.setReg_same _ _ _) (by decide) ?_
    with_reducible refine Same.step (State.setReg_same _ _ _) (by decide) ?_
    exact Same.refl _ _
  · extract_lets v0 v1
    refine Same.have v1 ?_ fun h2 => ?_
    · with_reducible refine Same.step (State.setReg_same _ _ _) (by decide) ?_
      with_reducible refine Same.step (State.setReg_same _ _ _) (by decide) ?_
      exact Same.refl _ _
    clear_value v1
    refine Same.ite ?_ ?_
    · with_reducible refine Same.step (State.bootField_same _ _ _ _) (by decide) ?_
      with_reducible refine Same.step (State.isolateSite_same _ _) (by decide) ?_
      exact h2
    · exact h2

theorem State.bring6_same (x1 : BringUp) (x2 : State) :
    Same [.dict, .dies, .regions] x2 (State.bring6 x1 x2) := by
  unfold State.bring6
  with_reducible refine Same.step (State.bringEnd_same _ _) (by decide) ?_
  refine Same.foldl ?_ fun q0 y1 h2 => ?_
  · exact Same.refl _ _
  · with_reducible refine Same.step (State.reportRevision_same _ _ _) (by decide) ?_
    exact h2

theorem State.bring7_same (x1 : State) :
    Same [.dict, .dies, .stores, .chans, .regions, .sec] x1 (State.bring7 x1) := by
  unfold State.bring7
  extract_lets v0 v1 v2 v3 v4
  refine Same.have v0 ?_ fun h5 => ?_
  · refine Same.foldl ?_ fun q6 y7 h8 => ?_
    · exact Same.refl _ _
    · with_reducible refine Same.step (State.loadComp_same _ _ _) (by decide) ?_
      exact h8
  clear_value v0
  refine Same.have v1 ?_ fun h9 => ?_
  · refine Same.ite ?_ ?_
    · exact h5
    · refine Same.foldl ?_ fun q10 y11 h12 => ?_
      · exact h5
      · with_reducible refine Same.step (State.isolateSite_same _ _) (by decide) ?_
        exact h12
  clear_value v1
  refine Same.have v2 ?_ fun h13 => ?_
  · refine Same.ite ?_ ?_
    · exact h9
    · refine Same.foldl ?_ fun q14 y15 h16 => ?_
      · exact h9
      · with_reducible refine Same.step (State.setStore_same _ _ _) (by decide) ?_
        exact h16
  clear_value v2
  refine Same.have v3 ?_ fun h17 => ?_
  · refine Same.ite ?_ ?_
    · exact h13
    · refine Same.foldl ?_ fun q18 y19 h20 => ?_
      · exact h13
      · with_reducible refine Same.step (State.setRegion_same _ _ _) (by decide) ?_
        exact h20
  clear_value v3
  refine Same.have v4 ?_ fun h21 => ?_
  · refine Same.ite ?_ ?_
    · exact h17
    · refine Same.foldl ?_ fun q22 y23 h24 => ?_
      · exact h17
      · with_reducible refine Same.step (State.setChan_same _ _ _) (by decide) ?_
        exact h24
  clear_value v4
  with_reducible refine Same.step (State.bringEnd_same _ _) (by decide) ?_
  exact h21

theorem State.enableCores_same (x1 : State) (x2 : Nat) :
    Same [.cores] x1 (State.enableCores x1 x2) := by
  unfold State.enableCores
  extract_lets v0
  refine Same.foldl ?_ fun q1 y2 h3 => ?_
  · exact Same.refl _ _
  · with_reducible refine Same.step (State.setCore_same _ _ _) (by decide) ?_
    exact h3

theorem State.bring8_same (x1 : State) :
    Same [.dict, .cores, .dies] x1 (State.bring8 x1) := by
  unfold State.bring8
  extract_lets v0 v1
  refine Same.have v1 ?_ fun h2 => ?_
  · refine Same.foldl ?_ fun q3 y4 h5 => ?_
    · exact Same.refl _ _
    · extract_lets v6 v7 v8
      refine Same.have v6 ?_ fun h9 => ?_
      · refine Same.foldl ?_ fun q10 y11 h12 => ?_
        · exact h5
        · with_reducible refine Same.step (State.setCore_same _ _ _) (by decide) ?_
          exact h12
      clear_value v6
      refine Same.have v7 ?_ fun h13 => ?_
      · with_reducible refine Same.step (State.enableCores_same _ _) (by decide) ?_
        exact h9
      clear_value v7
      with_reducible refine Same.step (State.setDie_same _ _ _) (by decide) ?_
      exact h13
  clear_value v1
  with_reducible refine Same.step (State.bringEnd_same _ _) (by decide) ?_
  exact h2

theorem State.bringPolder_same (x1 : BringUp) (x2 : State) (x3 : Nat) :
    Same [.stores] x2 (State.bringPolder x1 x2 x3) := by
  unfold State.bringPolder
  extract_lets v0
  with_reducible refine Same.step (State.setStore_same _ _ _) (by decide) ?_
  exact Same.refl _ _

theorem State.bringChan_same (x1 : BringUp) (x2 : State) (x3 : Nat) :
    Same [.dict, .freeCtr, .cores, .dies, .fieldMap, .stores, .ledger, .tlb, .epoch, .heldFrames, .migs, .ledgerCmd, .chans, .staging, .lanes, .trackers, .replies, .lastResponse, .xports, .test] x2 (State.bringChan x1 x2 x3) := by
  unfold State.bringChan
  extract_lets v0 v1
  refine Same.have v1 ?_ fun h2 => ?_
  · with_reducible refine Same.step (State.setChan_same _ _ _) (by decide) ?_
    exact Same.refl _ _
  clear_value v1
  refine Same.ite ?_ ?_
  · exact Same.refl _ _
  · split
    · rename_i e3 e4
      with_reducible refine Same.step (State.channelFail_same _ _) (by decide) ?_
      exact h2
    · rename_i e5 e6 e7
      extract_lets v8
      refine Same.have v8 ?_ fun h9 => ?_
      · with_reducible refine Same.step (State.setChan_same _ _ _) (by decide) ?_
        exact h2
      clear_value v8
      refine Same.ite ?_ ?_
      · exact h9
      · refine Same.ite ?_ ?_
        · with_reducible refine Same.step (State.channelFail_same _ _) (by decide) ?_
          exact h9
        · with_reducible refine Same.step (State.channelIn_same _ _) (by decide) ?_
          exact h9

theorem State.reserveTrace_same (x1 : State) :
    Same [.chans] x1 (State.reserveTrace x1) := by
  unfold State.reserveTrace
  extract_lets v0 v1 v2
  refine Same.ite ?_ ?_
  · exact Same.refl _ _
  · refine Same.foldl ?_ fun q3 y4 h5 => ?_
    · exact Same.refl _ _
    · with_reducible refine Same.step (State.setChan_same _ _ _) (by decide) ?_
      exact h5

theorem State.groundStart_same (x1 : State) :
    Same [.regions, .rings, .lanes, .paths] x1 (State.groundStart x1) := by
  unfold State.groundStart
  extract_lets v0
  refine Same.have v0 ?_ fun h1 => ?_
  · dsimp only [v0]
    with_reducible refine Same.record rfl ?_ ?_
    · intro p hp; cases p <;> first | exact absurd (by decide) hp | exact rfl
    exact Same.refl _ _
  clear_value v0
  refine Same.foldl ?_ fun q2 y3 h4 => ?_
  · exact h1
  · extract_lets v5 v6
    with_reducible refine Same.step (State.setRegion_same _ _ _) (by decide) ?_
    exact h4

theorem State.lightUp_same (x1 : BringUp) (x2 : State) :
    Same [.dict, .lasers] x2 (State.lightUp x1 x2) := by
  unfold State.lightUp
  refine Same.foldl ?_ fun q0 y1 h2 => ?_
  · exact Same.refl _ _
  · extract_lets v3 v4 v5
    refine Same.ite ?_ ?_
    · with_reducible refine Same.step (State.laserPut_same _ _ _) (by decide) ?_
      exact h2
    · exact h2

theorem State.groundTrain_same (x1 : BringUp) (x2 : State) :
    Same [.dict, .freeCtr, .fieldMap, .regions, .rings, .lanes, .paths, .pair] x2 (State.groundTrain x1 x2) := by
  unfold State.groundTrain
  extract_lets v0 v1 v2 v3
  refine Same.have v1 ?_ fun h4 => ?_
  · dsimp only [v1]
    with_reducible refine Same.record rfl ?_ ?_
    · intro p hp; cases p <;> first | exact absurd (by decide) hp | exact rfl
    exact Same.refl _ _
  clear_value v1
  refine Same.have v2 ?_ fun h5 => ?_
  · refine Same.foldl ?_ fun q6 y7 h8 => ?_
    · exact h4
    · refine Same.ite ?_ ?_
      · with_reducible refine Same.step (State.pairTrains_same _ _) (by decide) ?_
        with_reducible refine Same.step (State.setRegion_same _ _ _) (by decide) ?_
        exact h8
      · exact h8
  clear_value v2
  refine Same.have v3 ?_ fun h9 => ?_
  · refine Same.foldl ?_ fun q10 y11 h12 => ?_
    · exact h5
    · refine Same.ite ?_ ?_
      · exact h12
      · refine Same.foldl ?_ fun q13 y14 h15 => ?_
        · exact h12
        · refine Same.ite ?_ ?_
          · extract_lets v16 v17 v18
            refine Same.have v17 ?_ fun h19 => ?_
            · with_reducible refine Same.step (State.sendIdent_same _ _ _ _ _ _ _) (by decide) ?_
              with_reducible refine Same.step (State.setPath_same _ _ _ _ _) (by decide) ?_
              exact h15
            clear_value v17
            refine Same.have v18 ?_ fun h20 => ?_
            · with_reducible refine Same.step (State.bump_same _ _) (by decide) ?_
              exact h19
            clear_value v18
            refine Same.ite ?_ ?_
            · exact h20
            · with_reducible refine Same.step (State.mapRecord_same _ _) (by decide) ?_
              exact h20
          · extract_lets v21 v22
            refine Same.have v22 ?_ fun h23 => ?_
            · with_reducible refine Same.step (State.sendIdent_same _ _ _ _ _ _ _) (by decide) ?_
              with_reducible refine Same.step (State.setPath_same _ _ _ _ _) (by decide) ?_
              exact h15
            clear_value v22
            with_reducible refine Same.record rfl ?_ ?_
            · intro p hp; cases p <;> first | exact absurd (by decide) hp | exact rfl
            exact h23
  clear_value v3
  with_reducible refine Same.step (State.restLanes_same _) (by decide) ?_
  exact h9

theorem State.bring9_same (x1 : BringUp) (x2 : State) :
    Same [.dict, .freeCtr, .cores, .dies, .fieldMap, .stores, .ledger, .tlb, .epoch, .heldFrames, .migs, .ledgerCmd, .chans, .staging, .regions, .rings, .lanes, .paths, .lasers, .trackers, .replies, .lastResponse, .xports, .pair, .test] x2 (State.bring9 x1 x2) := by
  unfold State.bring9
  extract_lets v0 v1 v2 v3
  refine Same.have v1 ?_ fun h4 => ?_
  · refine Same.foldl ?_ fun q5 y6 h7 => ?_
    · exact Same.refl _ _
    · with_reducible refine Same.step (State.bringPolder_same _ _ _) (by decide) ?_
      exact h7
  clear_value v1
  refine Same.have v2 ?_ fun h8 => ?_
  · refine Same.foldl ?_ fun q9 y10 h11 => ?_
    · with_reducible refine Same.step (State.setReg_same _ _ _) (by decide) ?_
      exact h4
    · with_reducible refine Same.step (State.bringChan_same _ _ _) (by decide) ?_
      exact h11
  clear_value v2
  refine Same.have v3 ?_ fun h12 => ?_
  · refine Same.ite ?_ ?_
    · exact Same.refl _ _
    · with_reducible refine Same.step (State.groundStart_same _) (by decide) ?_
      with_reducible refine Same.step (State.reserveTrace_same _) (by decide) ?_
      exact h8
  clear_value v3
  refine Same.ite ?_ ?_
  · with_reducible refine Same.step (State.bringEnd_same _ _) (by decide) ?_
    with_reducible refine Same.step (State.groundTrain_same _ _) (by decide) ?_
    with_reducible refine Same.step (State.lightUp_same _ _) (by decide) ?_
    exact h12
  · exact h12

theorem execLaserWaitTimeout_same (x1 : State) :
    OutSame [.dict, .regions, .rings, .lanes, .paths] x1 (execLaserWaitTimeout x1) := by
  unfold execLaserWaitTimeout
  extract_lets v0 v1 v2
  refine OutSame.have v1 ?_ fun h3 => ?_
  · refine Same.foldl ?_ fun q4 y5 h6 => ?_
    · exact Same.refl _ _
    · extract_lets v7
      refine Same.ite ?_ ?_
      · with_reducible refine Same.step (State.parkRegion_same _ _) (by decide) ?_
        with_reducible refine Same.step (State.setRegion_same _ _ _) (by decide) ?_
        exact h6
      · exact h6
  clear_value v1
  refine OutSame.ite ?_ ?_
  · refine OutSame.next ?_
    exact Same.refl _ _
  · refine OutSame.next ?_
    with_reducible refine Same.step (State.bringEnd_same _ _) (by decide) ?_
    with_reducible refine Same.step (State.restLanes_same _) (by decide) ?_
    with_reducible refine Same.step (State.setRegion_same _ _ _) (by decide) ?_
    exact h3

theorem State.bring10_same (x1 : State) :
    Same [.dict] x1 (State.bring10 x1) := by
  unfold State.bring10
  with_reducible refine Same.step (State.bringEnd_same _ _) (by decide) ?_
  refine Same.foldl ?_ fun q0 y1 h2 => ?_
  · exact Same.refl _ _
  · with_reducible refine Same.step (State.reportSite_same _ _) (by decide) ?_
    exact h2

theorem State.bring11_same (x1 : BringUp) (x2 : State) :
    Same [.dict, .dies, .pair] x2 (State.bring11 x1 x2) := by
  unfold State.bring11
  with_reducible refine Same.step (State.bringEnd_same _ _) (by decide) ?_
  refine Same.foldl ?_ fun q0 y1 h2 => ?_
  · exact Same.refl _ _
  · refine Same.ite ?_ ?_
    · exact h2
    · refine Same.ite ?_ ?_
      · extract_lets v3 v4
        refine Same.have v4 ?_ fun h5 => ?_
        · with_reducible refine Same.step (State.setDie_same _ _ _) (by decide) ?_
          exact h2
        clear_value v4
        with_reducible refine Same.step (State.reportSite_same _ _) (by decide) ?_
        exact h5
      · with_reducible refine Same.step (State.setPair_same _ _) (by decide) ?_
        with_reducible refine Same.step (State.setReg_same _ _ _) (by decide) ?_
        exact h2

theorem State.bring12_same (x1 : State) :
    Same [.dict, .freeCtr, .ports, .streams, .test] x1 (State.bring12 x1) := by
  unfold State.bring12
  with_reducible refine Same.step (State.bringEnd_same _ _) (by decide) ?_
  refine Same.foldl ?_ fun q0 y1 h2 => ?_
  · exact Same.refl _ _
  · extract_lets v3
    refine Same.ite ?_ ?_
    · with_reducible refine Same.step (State.signal_same _ _) (by decide) ?_
      with_reducible refine Same.step (State.arriveUp_same _ _) (by decide) ?_
      with_reducible refine Same.step (State.setPort_same _ _ _) (by decide) ?_
      exact h2
    · exact h2

theorem State.bring13_same (x1 : State) :
    Same [.dict] x1 (State.bring13 x1) := by
  unfold State.bring13
  with_reducible refine Same.step (State.bringEnd_same _ _) (by decide) ?_
  with_reducible refine Same.step (State.bootField_same _ _ _ _) (by decide) ?_
  with_reducible refine Same.step (State.setReg_same _ _ _) (by decide) ?_
  exact Same.refl _ _

theorem State.bringStep_same (x1 : BringUp) (x2 : State) (x3 : Nat) :
    Same [.dict, .nv, .freeCtr, .tb, .prick, .entries, .cores, .runs, .dies, .grants, .nextGrant, .orphans, .stopped, .fieldMap, .patCmd, .halted, .stores, .ledger, .tlb, .epoch, .heldFrames, .migs, .ledgerCmd, .ledgerTurn, .chans, .staging, .stagingTurn, .trimWords, .trimMode, .calCmd, .regions, .rings, .lanes, .paths, .arbiters, .lasers, .identReports, .requests, .seqs, .phases, .trackers, .replies, .guards, .lastResponse, .lineCache, .xports, .routes, .hub, .routeLoad, .pair, .ports, .streams, .sqPort, .dap, .thermals, .sensors, .pw, .sec, .test] x2 (State.bringStep x1 x2 x3) := by
  unfold State.bringStep
  refine Same.ite ?_ ?_
  · exact Same.refl _ _
  · split
    · rename_i e0
      with_reducible refine Same.step (State.bring2_same _ _) (by decide) ?_
      exact Same.refl _ _
    · rename_i e1
      with_reducible refine Same.step (State.bring3_same _) (by decide) ?_
      exact Same.refl _ _
    · rename_i e2
      with_reducible refine Same.step (State.bring4_same _) (by decide) ?_
      exact Same.refl _ _
    · rename_i e3
      with_reducible refine Same.step (State.bring5_same _ _) (by decide) ?_
      exact Same.refl _ _
    · rename_i e4
      with_reducible refine Same.step (State.bring6_same _ _) (by decide) ?_
      exact Same.refl _ _
    · rename_i e5
      with_reducible refine Same.step (State.bring7_same _) (by decide) ?_
      exact Same.refl _ _
    · rename_i e6
      with_reducible refine Same.step (State.bring8_same _) (by decide) ?_
      exact Same.refl _ _
    · rename_i e7
      with_reducible refine Same.step (State.bring9_same _ _) (by decide) ?_
      exact Same.refl _ _
    · rename_i e8
      with_reducible refine Same.step (State.bring10_same _) (by decide) ?_
      exact Same.refl _ _
    · rename_i e9
      with_reducible refine Same.step (State.bring11_same _ _) (by decide) ?_
      exact Same.refl _ _
    · rename_i e10
      with_reducible refine Same.step (State.bring12_same _) (by decide) ?_
      exact Same.refl _ _
    · rename_i e11
      with_reducible refine Same.step (State.bring13_same _) (by decide) ?_
      exact Same.refl _ _
    · rename_i e12 e13 e14 e15 e16 e17 e18 e19 e20 e21 e22 e23 e24
      exact Same.refl _ _

theorem execBringUp_same (x1 : BringUp) (x2 : State) :
    OutSame [.dict, .nv, .freeCtr, .tb, .prick, .entries, .cores, .runs, .dies, .grants, .nextGrant, .orphans, .stopped, .fieldMap, .patCmd, .halted, .stores, .ledger, .tlb, .epoch, .heldFrames, .migs, .ledgerCmd, .ledgerTurn, .chans, .staging, .stagingTurn, .trimWords, .trimMode, .calCmd, .regions, .rings, .lanes, .paths, .arbiters, .lasers, .identReports, .requests, .seqs, .phases, .trackers, .replies, .guards, .lastResponse, .lineCache, .xports, .routes, .hub, .routeLoad, .pair, .ports, .streams, .sqPort, .dap, .thermals, .sensors, .pw, .sec, .test] x2 (execBringUp x1 x2) := by
  unfold execBringUp
  refine OutSame.next ?_
  refine Same.foldl ?_ fun q0 y1 h2 => ?_
  · exact Same.refl _ _
  · refine Same.ite ?_ ?_
    · with_reducible refine Same.step (State.bringStep_same _ _ _) (by decide) ?_
      exact h2
    · exact h2

end Sys2Proof.Machine
end

