-- ==== Sys2Proof/Laws/FrameFabric.lean ====
section
/-! SUPPORT. Frames of the functions of Machine/Fabric.lean: one lemma a function, which says what parts of the state it
can change. -/

namespace Sys2Proof.Machine

open Sys2Proof

theorem State.badCrc_same (x1 : State) (x2 : Via) :
    Same [.dict, .lanes, .paths] x1 (State.badCrc x1 x2) := by
  unfold State.badCrc
  split
  · rename_i e0 e1
    with_reducible refine Same.step (State.bump_same _ _) (by decide) ?_
    exact Same.refl _ _
  · rename_i e2 e3 e4 e5
    extract_lets v6 v7 v8
    refine Same.have v8 ?_ fun h9 => ?_
    · with_reducible refine Same.step (State.setPath_same _ _ _ _ _) (by decide) ?_
      with_reducible refine Same.step (State.bump_same _ _) (by decide) ?_
      exact Same.refl _ _
    clear_value v8
    refine Same.ite ?_ ?_
    · with_reducible refine Same.step (State.pathOut_same _ _ _ _) (by decide) ?_
      exact h9
    · exact h9
  · rename_i e10 e11
    exact Same.refl _ _

theorem State.pairAcked_same (x1 : State) (x2 x3 : Nat) :
    Same [.pair] x1 (State.pairAcked x1 x2 x3) := by
  unfold State.pairAcked
  extract_lets v0 v1 v2
  clear_value v0
  split
  · rename_i e3 e4 e5 e6
    refine Same.ite ?_ ?_
    · with_reducible refine Same.record rfl ?_ ?_
      · intro p hp; cases p <;> first | exact absurd (by decide) hp | exact rfl
      exact Same.refl _ _
    · with_reducible refine Same.record rfl ?_ ?_
      · intro p hp; cases p <;> first | exact absurd (by decide) hp | exact rfl
      exact Same.refl _ _
  · rename_i e7 e8
    with_reducible refine Same.record rfl ?_ ?_
    · intro p hp; cases p <;> first | exact absurd (by decide) hp | exact rfl
    exact Same.refl _ _

theorem State.pairResend_same (x1 : State) (x2 : Nat) :
    Same [.dict, .pair] x1 (State.pairResend x1 x2) := by
  unfold State.pairResend
  split
  · rename_i e0 e1 e2
    with_reducible refine Same.step (State.bump_same _ _) (by decide) ?_
    with_reducible refine Same.record rfl ?_ ?_
    · intro p hp; cases p <;> first | exact absurd (by decide) hp | exact rfl
    exact Same.refl _ _
  · rename_i e3 e4
    with_reducible refine Same.record rfl ?_ ?_
    · intro p hp; cases p <;> first | exact absurd (by decide) hp | exact rfl
    exact Same.refl _ _

theorem State.arrivePair_same (x1 : State) (x2 : Packet) (x3 : Nat → Bool) :
    Same [.dict, .pair] x1 (State.arrivePair x1 x2 x3) := by
  unfold State.arrivePair
  refine Same.ite ?_ ?_
  · with_reducible refine Same.step (State.bump_same _ _) (by decide) ?_
    exact Same.refl _ _
  · refine Same.ite ?_ ?_
    · exact Same.refl _ _
    · refine Same.ite ?_ ?_
      · with_reducible refine Same.record rfl ?_ ?_
        · intro p hp; cases p <;> first | exact absurd (by decide) hp | exact rfl
        exact Same.refl _ _
      · refine Same.ite ?_ ?_
        · with_reducible refine Same.record rfl ?_ ?_
          · intro p hp; cases p <;> first | exact absurd (by decide) hp | exact rfl
          exact Same.refl _ _
        · refine Same.ite ?_ ?_
          · with_reducible refine Same.step (State.pairAcked_same _ _ _) (by decide) ?_
            exact Same.refl _ _
          · refine Same.ite ?_ ?_
            · refine Same.ite ?_ ?_
              · with_reducible refine Same.step (State.pairResend_same _ _) (by decide) ?_
                exact Same.refl _ _
              · refine Same.ite ?_ ?_
                · with_reducible refine Same.step (State.pairAcked_same _ _ _) (by decide) ?_
                  exact Same.refl _ _
                · with_reducible refine Same.record rfl ?_ ?_
                  · intro p hp; cases p <;> first | exact absurd (by decide) hp | exact rfl
                  exact Same.refl _ _
            · exact Same.refl _ _

theorem State.arrive_same {W : List Part} {s0 s : State} {p : Packet} {mine : Nat → Bool} {good : State → State}
    (hw : ([.dict, .freeCtr, .lanes, .paths, .lastResponse, .xports, .pair, .test].all fun p => W.contains p) = true)
    (h : Same W s0 s) (hg : ∀ t, Same W s0 t → Same W s0 (good t)) : Same W s0 (s.arrive p mine good) := by
  unfold State.arrive
  repeat' split
  · exact h
  · exact Same.step ((State.badCrc_same _ _).mono (by decide)) hw h
  · exact Same.step ((State.arrivePair_same _ _ _).mono (by decide)) hw h
  · exact Same.step ((State.bump_same _ _).mono (by decide)) hw h
  · exact Same.step ((State.reply_same _ _ _ _).mono (by decide)) hw h
  · exact hg _ h
  · exact h
  · exact Same.step ((State.bump_same _ _).mono (by decide)) hw h
  · exact hg _ h
  · exact h

theorem State.doRead_same (x1 : State) (x2 : Packet) (x3 : Bool) (x4 : List MemError) :
    Same [.dict, .freeCtr, .cores, .dies, .fieldMap, .stores, .ledger, .tlb, .epoch, .heldFrames, .migs, .ledgerCmd, .chans, .staging, .lanes, .trackers, .replies, .lastResponse, .xports, .hub, .test] x1 (State.doRead x1 x2 x3 x4) := by
  unfold State.doRead
  split
  · rename_i e0 e1 e2 e3
    with_reducible refine Same.step (State.reply_same _ _ _ _) (by decide) ?_
    refine Same.fstOf e3 ?_
    with_reducible refine Same.step (State.admitPacket_same _ _ _ _ _ _) (by decide) ?_
    exact Same.refl _ _
  · rename_i e4 e5 e6 e7
    refine Same.ite ?_ ?_
    · refine Same.fstOf e7 ?_
      with_reducible refine Same.step (State.admitPacket_same _ _ _ _ _ _) (by decide) ?_
      exact Same.refl _ _
    · extract_lets v8 v9
      refine Same.have v8 ?_ fun h10 => ?_
      · with_reducible refine Same.step (State.memErrors_same _ _) (by decide) ?_
        refine Same.fstOf e7 ?_
        with_reducible refine Same.step (State.admitPacket_same _ _ _ _ _ _) (by decide) ?_
        exact Same.refl _ _
      clear_value v8
      refine Same.have v9 ?_ fun h11 => ?_
      · dsimp only [v9]
        split
        · rename_i e12 e13 e14 e15
          with_reducible refine Same.step (State.wake_same _ _ _) (by decide) ?_
          exact h10
        · rename_i e16 e17 e18
          exact h10
      clear_value v9
      split
      · rename_i e19 e20
        with_reducible refine Same.step (State.reply_same _ _ _ _) (by decide) ?_
        exact h10
      · rename_i e21 e22 e23
        with_reducible refine Same.step (State.reply_same _ _ _ _) (by decide) ?_
        exact h11

theorem execRead_same (x1 : Packet) (x2 : List MemError) (x3 : State) :
    OutSame [.dict, .freeCtr, .cores, .dies, .fieldMap, .stores, .ledger, .tlb, .epoch, .heldFrames, .migs, .ledgerCmd, .chans, .staging, .lanes, .paths, .trackers, .replies, .lastResponse, .xports, .hub, .pair, .test] x3 (execRead x1 x2 x3) := by
  unfold execRead
  refine OutSame.next ?_
  with_reducible refine State.arrive_same (by decide) ?_ ?_
  · exact Same.refl _ _
  · intro y0 h1
    with_reducible refine Same.step (State.doRead_same _ _ _ _) (by decide) ?_
    exact h1

theorem execWrite_same (x1 : Packet) (x2 : State) :
    OutSame [.dict, .freeCtr, .cores, .stores, .ledger, .tlb, .migs, .lanes, .paths, .trackers, .replies, .lastResponse, .xports, .pair, .test] x2 (execWrite x1 x2) := by
  unfold execWrite
  refine OutSame.next ?_
  with_reducible refine State.arrive_same (by decide) ?_ ?_
  · exact Same.refl _ _
  · intro y0 h1
    with_reducible refine Same.step (State.doWrite_same _ _ _) (by decide) ?_
    exact h1

theorem execFlag_same (x1 : Packet) (x2 : State) :
    OutSame [.dict, .freeCtr, .cores, .stores, .ledger, .tlb, .migs, .lanes, .paths, .trackers, .replies, .lastResponse, .xports, .pair, .test] x2 (execFlag x1 x2) := by
  unfold execFlag
  refine OutSame.next ?_
  with_reducible refine State.arrive_same (by decide) ?_ ?_
  · exact Same.refl _ _
  · intro y0 h1
    with_reducible refine Same.step (State.doFlag_same _ _ _) (by decide) ?_
    exact h1

theorem execFlagEntryTimeout_same (x1 : Fin 4096) (x2 : Nat) (x3 : Fin 4) (x4 : State) :
    OutSame [.dict, .trackers] x4 (execFlagEntryTimeout x1 x2 x3 x4) := by
  unfold execFlagEntryTimeout
  split
  · rename_i e0 e1 e2
    refine OutSame.next ?_
    with_reducible refine when_same ?_ ?_
    · with_reducible refine Same.step (State.bump_same _ _) (by decide) ?_
      with_reducible refine Same.step (State.dropTracker_same _ _ _ _) (by decide) ?_
      exact Same.refl _ _
    · exact Same.refl _ _
  · rename_i e3 e4
    refine OutSame.next ?_
    exact Same.refl _ _

theorem execReplyCacheGuardEnd_same (x1 : Fin 12) (x2 : State) :
    OutSame [.guards] x2 (execReplyCacheGuardEnd x1 x2) := by
  unfold execReplyCacheGuardEnd
  extract_lets v0
  refine OutSame.next ?_
  with_reducible refine when_same ?_ ?_
  · with_reducible refine Same.record rfl ?_ ?_
    · intro p hp; cases p <;> first | exact absurd (by decide) hp | exact rfl
    exact Same.refl _ _
  · exact Same.refl _ _

theorem State.atomicPacket_same (x1 : State) (x2 : Packet) (x3 : Nat) :
    Same [.dict, .freeCtr, .cores, .stores, .ledger, .tlb, .migs, .lanes, .paths, .replies, .lastResponse, .xports, .pair, .test] x1 (State.atomicPacket x1 x2 x3) := by
  unfold State.atomicPacket
  with_reducible refine State.arrive_same (by decide) ?_ ?_
  · exact Same.refl _ _
  · intro y0 h1
    refine Same.ite ?_ ?_
    · with_reducible refine Same.step (State.reply_same _ _ _ _) (by decide) ?_
      exact h1
    · refine Same.ite ?_ ?_
      · with_reducible refine Same.step (State.doAtomic_same _ _) (by decide) ?_
        exact h1
      · exact h1

theorem execAdd32_same (x1 : Packet) (x2 : State) :
    OutSame [.dict, .freeCtr, .cores, .stores, .ledger, .tlb, .migs, .lanes, .paths, .replies, .lastResponse, .xports, .pair, .test] x2 (execAdd32 x1 x2) := by
  unfold execAdd32
  refine OutSame.next ?_
  with_reducible refine Same.step (State.atomicPacket_same _ _ _) (by decide) ?_
  exact Same.refl _ _

theorem execAdd64_same (x1 : Packet) (x2 : State) :
    OutSame [.dict, .freeCtr, .cores, .stores, .ledger, .tlb, .migs, .lanes, .paths, .replies, .lastResponse, .xports, .pair, .test] x2 (execAdd64 x1 x2) := by
  unfold execAdd64
  refine OutSame.next ?_
  with_reducible refine Same.step (State.atomicPacket_same _ _ _) (by decide) ?_
  exact Same.refl _ _

theorem execSwap32_same (x1 : Packet) (x2 : State) :
    OutSame [.dict, .freeCtr, .cores, .stores, .ledger, .tlb, .migs, .lanes, .paths, .replies, .lastResponse, .xports, .pair, .test] x2 (execSwap32 x1 x2) := by
  unfold execSwap32
  refine OutSame.next ?_
  with_reducible refine Same.step (State.atomicPacket_same _ _ _) (by decide) ?_
  exact Same.refl _ _

theorem execSwap64_same (x1 : Packet) (x2 : State) :
    OutSame [.dict, .freeCtr, .cores, .stores, .ledger, .tlb, .migs, .lanes, .paths, .replies, .lastResponse, .xports, .pair, .test] x2 (execSwap64 x1 x2) := by
  unfold execSwap64
  refine OutSame.next ?_
  with_reducible refine Same.step (State.atomicPacket_same _ _ _) (by decide) ?_
  exact Same.refl _ _

theorem execCas32_same (x1 : Packet) (x2 : State) :
    OutSame [.dict, .freeCtr, .cores, .stores, .ledger, .tlb, .migs, .lanes, .paths, .replies, .lastResponse, .xports, .pair, .test] x2 (execCas32 x1 x2) := by
  unfold execCas32
  refine OutSame.next ?_
  with_reducible refine Same.step (State.atomicPacket_same _ _ _) (by decide) ?_
  exact Same.refl _ _

theorem execCas64_same (x1 : Packet) (x2 : State) :
    OutSame [.dict, .freeCtr, .cores, .stores, .ledger, .tlb, .migs, .lanes, .paths, .replies, .lastResponse, .xports, .pair, .test] x2 (execCas64 x1 x2) := by
  unfold execCas64
  refine OutSame.next ?_
  with_reducible refine Same.step (State.atomicPacket_same _ _ _) (by decide) ?_
  exact Same.refl _ _

theorem execUmax32_same (x1 : Packet) (x2 : State) :
    OutSame [.dict, .freeCtr, .cores, .stores, .ledger, .tlb, .migs, .lanes, .paths, .replies, .lastResponse, .xports, .pair, .test] x2 (execUmax32 x1 x2) := by
  unfold execUmax32
  refine OutSame.next ?_
  with_reducible refine Same.step (State.atomicPacket_same _ _ _) (by decide) ?_
  exact Same.refl _ _

theorem execUmax64_same (x1 : Packet) (x2 : State) :
    OutSame [.dict, .freeCtr, .cores, .stores, .ledger, .tlb, .migs, .lanes, .paths, .replies, .lastResponse, .xports, .pair, .test] x2 (execUmax64 x1 x2) := by
  unfold execUmax64
  refine OutSame.next ?_
  with_reducible refine Same.step (State.atomicPacket_same _ _ _) (by decide) ?_
  exact Same.refl _ _

theorem execUmin32_same (x1 : Packet) (x2 : State) :
    OutSame [.dict, .freeCtr, .cores, .stores, .ledger, .tlb, .migs, .lanes, .paths, .replies, .lastResponse, .xports, .pair, .test] x2 (execUmin32 x1 x2) := by
  unfold execUmin32
  refine OutSame.next ?_
  with_reducible refine Same.step (State.atomicPacket_same _ _ _) (by decide) ?_
  exact Same.refl _ _

theorem execUmin64_same (x1 : Packet) (x2 : State) :
    OutSame [.dict, .freeCtr, .cores, .stores, .ledger, .tlb, .migs, .lanes, .paths, .replies, .lastResponse, .xports, .pair, .test] x2 (execUmin64 x1 x2) := by
  unfold execUmin64
  refine OutSame.next ?_
  with_reducible refine Same.step (State.atomicPacket_same _ _ _) (by decide) ?_
  exact Same.refl _ _

theorem execOr32_same (x1 : Packet) (x2 : State) :
    OutSame [.dict, .freeCtr, .cores, .stores, .ledger, .tlb, .migs, .lanes, .paths, .replies, .lastResponse, .xports, .pair, .test] x2 (execOr32 x1 x2) := by
  unfold execOr32
  refine OutSame.next ?_
  with_reducible refine Same.step (State.atomicPacket_same _ _ _) (by decide) ?_
  exact Same.refl _ _

theorem execOr64_same (x1 : Packet) (x2 : State) :
    OutSame [.dict, .freeCtr, .cores, .stores, .ledger, .tlb, .migs, .lanes, .paths, .replies, .lastResponse, .xports, .pair, .test] x2 (execOr64 x1 x2) := by
  unfold execOr64
  refine OutSame.next ?_
  with_reducible refine Same.step (State.atomicPacket_same _ _ _) (by decide) ?_
  exact Same.refl _ _

theorem execAnd32_same (x1 : Packet) (x2 : State) :
    OutSame [.dict, .freeCtr, .cores, .stores, .ledger, .tlb, .migs, .lanes, .paths, .replies, .lastResponse, .xports, .pair, .test] x2 (execAnd32 x1 x2) := by
  unfold execAnd32
  refine OutSame.next ?_
  with_reducible refine Same.step (State.atomicPacket_same _ _ _) (by decide) ?_
  exact Same.refl _ _

theorem execAnd64_same (x1 : Packet) (x2 : State) :
    OutSame [.dict, .freeCtr, .cores, .stores, .ledger, .tlb, .migs, .lanes, .paths, .replies, .lastResponse, .xports, .pair, .test] x2 (execAnd64 x1 x2) := by
  unfold execAnd64
  refine OutSame.next ?_
  with_reducible refine Same.step (State.atomicPacket_same _ _ _) (by decide) ?_
  exact Same.refl _ _

theorem execInvalidate_same (x1 : Packet) (x2 : State) :
    OutSame [.dict, .freeCtr, .lanes, .paths, .requests, .lastResponse, .lineCache, .xports, .pair, .test] x2 (execInvalidate x1 x2) := by
  unfold execInvalidate
  refine OutSame.next ?_
  with_reducible refine State.arrive_same (by decide) ?_ ?_
  · exact Same.refl _ _
  · intro y0 h1
    extract_lets v2 v3 v4
    refine Same.ite ?_ ?_
    · with_reducible refine Same.step (State.reply_same _ _ _ _) (by decide) ?_
      exact h1
    · refine Same.ite ?_ ?_
      · with_reducible refine Same.step (State.reply_same _ _ _ _) (by decide) ?_
        exact h1
      · with_reducible refine Same.step (State.reply_same _ _ _ _) (by decide) ?_
        with_reducible refine Same.step (State.uncache_same _ _ _ _) (by decide) ?_
        exact h1

theorem State.writeLineCacheFlush_same (x1 : State) (x2 : Nat) :
    Same [.lastStatus, .requests, .lineCache] x1 (State.writeLineCacheFlush x1 x2) := by
  unfold State.writeLineCacheFlush
  refine Same.ite ?_ ?_
  · with_reducible refine Same.step (State.answer_same _ _) (by decide) ?_
    with_reducible refine Same.step (State.flushCache_same _) (by decide) ?_
    exact Same.refl _ _
  · with_reducible refine Same.step (State.answer_same _ _) (by decide) ?_
    exact Same.refl _ _

theorem execLineCacheFlush_same (x1 : Nat) (x2 : State) :
    OutSame [.lastStatus, .requests, .lineCache] x2 (execLineCacheFlush x1 x2) := by
  unfold execLineCacheFlush
  refine OutSame.next ?_
  with_reducible refine Same.step (State.writeLineCacheFlush_same _ _) (by decide) ?_
  exact Same.refl _ _

theorem execProbe_same (x1 : Packet) (x2 : State) :
    OutSame [.dict, .freeCtr, .lanes, .paths, .lastResponse, .xports, .pair, .test] x2 (execProbe x1 x2) := by
  unfold execProbe
  refine OutSame.next ?_
  with_reducible refine State.arrive_same (by decide) ?_ ?_
  · exact Same.refl _ _
  · intro y0 h1
    extract_lets v2
    refine Same.ite ?_ ?_
    · dsimp only [v2]
      with_reducible refine Same.step (State.respond_same _ _) (by decide) ?_
      exact h1
    · refine Same.ite ?_ ?_
      · dsimp only [v2]
        with_reducible refine Same.step (State.respond_same _ _) (by decide) ?_
        exact h1
      · refine Same.ite ?_ ?_
        · dsimp only [v2]
          with_reducible refine Same.step (State.respond_same _ _) (by decide) ?_
          exact h1
        · split
          · rename_i e3 e4 e5
            dsimp only [v2]
            with_reducible refine Same.step (State.respond_same _ _) (by decide) ?_
            exact h1
          · rename_i e6 e7
            dsimp only [v2]
            with_reducible refine Same.step (State.respond_same _ _) (by decide) ?_
            exact h1

theorem State.takeResponse_same (x1 : State) (x2 : Packet) :
    Same [.dict, .freeCtr, .runs, .requests, .seqs, .lineCache, .xports, .hub, .pair, .test] x1 (State.takeResponse x1 x2) := by
  unfold State.takeResponse
  split
  · rename_i e0 e1
    exact Same.refl _ _
  · rename_i e2 e3 e4
    refine Same.ite ?_ ?_
    · exact Same.refl _ _
    · refine Same.ite ?_ ?_
      · with_reducible refine Same.step (State.updRequest_same _ _ _ _) (by decide) ?_
        exact Same.refl _ _
      · refine Same.ite ?_ ?_
        · refine Same.ite ?_ ?_
          · with_reducible refine Same.step (State.updRequest_same _ _ _ _) (by decide) ?_
            exact Same.refl _ _
          · with_reducible refine Same.step (State.resend_same _ _ _) (by decide) ?_
            exact Same.refl _ _
        · extract_lets v5 v6 v7 v8 v9 v10
          refine Same.have v7 ?_ fun h11 => ?_
          · with_reducible refine Same.step (State.updRequest_same _ _ _ _) (by decide) ?_
            exact Same.refl _ _
          clear_value v7
          refine Same.have v8 ?_ fun h12 => ?_
          · with_reducible refine Same.step (State.traceRequest_same _ _ _ _) (by decide) ?_
            exact h11
          clear_value v8
          refine Same.have v9 ?_ fun h13 => ?_
          · with_reducible refine Same.step (State.dropRequests_same _ _ _) (by decide) ?_
            exact h12
          clear_value v9
          refine Same.ite ?_ ?_
          · refine Same.ite ?_ ?_
            · with_reducible refine Same.record rfl ?_ ?_
              · intro p hp; cases p <;> first | exact absurd (by decide) hp | exact rfl
              exact h13
            · refine Same.ite ?_ ?_
              · with_reducible refine Same.record rfl ?_ ?_
                · intro p hp; cases p <;> first | exact absurd (by decide) hp | exact rfl
                exact h13
              · exact h13
          · refine Same.ite ?_ ?_
            · refine Same.ite ?_ ?_
              · with_reducible refine Same.step (State.fillCache_same _ _ _ _) (by decide) ?_
                exact h12
              · exact h12
            · refine Same.ite ?_ ?_
              · with_reducible refine Same.step (State.flagsDue_same _ _) (by decide) ?_
                exact h12
              · exact h12

theorem State.response_same (x1 : State) (x2 : Packet) (x3 : Nat) :
    Same [.dict, .freeCtr, .runs, .lanes, .paths, .requests, .seqs, .lastResponse, .lineCache, .xports, .hub, .pair, .test] x1 (State.response x1 x2 x3) := by
  unfold State.response
  with_reducible refine State.arrive_same (by decide) ?_ ?_
  · exact Same.refl _ _
  · intro y0 h1
    with_reducible refine Same.step (State.takeResponse_same _ _) (by decide) ?_
    exact h1

theorem execReadresp_same (x1 : Packet) (x2 : State) :
    OutSame [.dict, .freeCtr, .runs, .lanes, .paths, .requests, .seqs, .lastResponse, .lineCache, .xports, .hub, .pair, .test] x2 (execReadresp x1 x2) := by
  unfold execReadresp
  refine OutSame.next ?_
  with_reducible refine Same.step (State.response_same _ _ _) (by decide) ?_
  exact Same.refl _ _

theorem execWriteack_same (x1 : Packet) (x2 : State) :
    OutSame [.dict, .freeCtr, .runs, .lanes, .paths, .requests, .seqs, .lastResponse, .lineCache, .xports, .hub, .pair, .test] x2 (execWriteack x1 x2) := by
  unfold execWriteack
  refine OutSame.next ?_
  with_reducible refine Same.step (State.response_same _ _ _) (by decide) ?_
  exact Same.refl _ _

theorem execFlagack_same (x1 : Packet) (x2 : State) :
    OutSame [.dict, .freeCtr, .runs, .lanes, .paths, .requests, .seqs, .lastResponse, .lineCache, .xports, .hub, .pair, .test] x2 (execFlagack x1 x2) := by
  unfold execFlagack
  refine OutSame.next ?_
  with_reducible refine Same.step (State.response_same _ _ _) (by decide) ?_
  exact Same.refl _ _

theorem execAtomicresp_same (x1 : Packet) (x2 : State) :
    OutSame [.dict, .freeCtr, .runs, .lanes, .paths, .requests, .seqs, .lastResponse, .lineCache, .xports, .hub, .pair, .test] x2 (execAtomicresp x1 x2) := by
  unfold execAtomicresp
  refine OutSame.next ?_
  with_reducible refine Same.step (State.response_same _ _ _) (by decide) ?_
  exact Same.refl _ _

theorem execTriggerresp_same (x1 : Packet) (x2 : State) :
    OutSame [.dict, .freeCtr, .runs, .lanes, .paths, .requests, .seqs, .lastResponse, .lineCache, .xports, .hub, .pair, .test] x2 (execTriggerresp x1 x2) := by
  unfold execTriggerresp
  refine OutSame.next ?_
  with_reducible refine Same.step (State.response_same _ _ _) (by decide) ?_
  exact Same.refl _ _

theorem execInvalack_same (x1 : Packet) (x2 : State) :
    OutSame [.dict, .freeCtr, .runs, .lanes, .paths, .requests, .seqs, .lastResponse, .lineCache, .xports, .hub, .pair, .test] x2 (execInvalack x1 x2) := by
  unfold execInvalack
  refine OutSame.next ?_
  with_reducible refine Same.step (State.response_same _ _ _) (by decide) ?_
  exact Same.refl _ _

theorem execProberesp_same (x1 : Packet) (x2 : State) :
    OutSame [.dict, .freeCtr, .runs, .lanes, .paths, .requests, .seqs, .lastResponse, .lineCache, .xports, .hub, .pair, .test] x2 (execProberesp x1 x2) := by
  unfold execProberesp
  refine OutSame.next ?_
  with_reducible refine State.arrive_same (by decide) ?_ ?_
  · exact Same.refl _ _
  · intro y0 h1
    split
    · rename_i e2 e3
      exact h1
    · rename_i e4 e5 e6
      refine Same.ite ?_ ?_
      · exact h1
      · refine Same.ite ?_ ?_
        · extract_lets v7
          refine Same.ite ?_ ?_
          · with_reducible refine Same.step (State.updRequest_same _ _ _ _) (by decide) ?_
            exact h1
          · with_reducible refine Same.step (State.resend_same _ _ _) (by decide) ?_
            exact h1
        · refine Same.ite ?_ ?_
          · with_reducible refine Same.step (State.takeResponse_same _ _) (by decide) ?_
            exact h1
          · with_reducible refine Same.step (State.updRequest_same _ _ _ _) (by decide) ?_
            exact h1

theorem State.pairTimeout_same (x1 : State) (x2 : Nat) :
    Same [.dict, .pair] x1 (State.pairTimeout x1 x2) := by
  unfold State.pairTimeout
  split
  · rename_i e0 e1
    exact Same.refl _ _
  · rename_i e2 e3 e4
    refine Same.ite ?_ ?_
    · exact Same.refl _ _
    · refine Same.ite ?_ ?_
      · with_reducible refine Same.record rfl ?_ ?_
        · intro p hp; cases p <;> first | exact absurd (by decide) hp | exact rfl
        exact Same.refl _ _
      · with_reducible refine Same.step (State.bump_same _ _) (by decide) ?_
        with_reducible refine Same.record rfl ?_ ?_
        · intro p hp; cases p <;> first | exact absurd (by decide) hp | exact rfl
        exact Same.refl _ _

theorem execResponseTimeout_same (x1 x2 : Nat) (x3 : State) :
    OutSame [.dict, .freeCtr, .requests, .xports, .pair, .test] x3 (execResponseTimeout x1 x2 x3) := by
  unfold execResponseTimeout
  refine OutSame.ite ?_ ?_
  · refine OutSame.next ?_
    with_reducible refine Same.step (State.pairTimeout_same _ _) (by decide) ?_
    exact Same.refl _ _
  · split
    · rename_i e0 e1
      refine OutSame.next ?_
      exact Same.refl _ _
    · rename_i e2 e3 e4
      refine OutSame.ite ?_ ?_
      · refine OutSame.next ?_
        exact Same.refl _ _
      · refine OutSame.ite ?_ ?_
        · refine OutSame.next ?_
          refine Same.ite ?_ ?_
          · with_reducible refine Same.step (State.dropRequests_same _ _ _) (by decide) ?_
            exact Same.refl _ _
          · with_reducible refine Same.step (State.updRequest_same _ _ _ _) (by decide) ?_
            exact Same.refl _ _
        · extract_lets v5 v6
          refine OutSame.have v5 ?_ fun h7 => ?_
          · with_reducible refine Same.step (State.bump_same _ _) (by decide) ?_
            with_reducible refine Same.step (State.updRequest_same _ _ _ _) (by decide) ?_
            exact Same.refl _ _
          clear_value v5
          refine OutSame.next ?_
          with_reducible refine Same.step (State.traceOpen_same _ _ _ _ _ _ _) (by decide) ?_
          with_reducible refine Same.step (State.toPort_same _ _) (by decide) ?_
          exact h7

theorem execBusyResend_same (x1 x2 : Nat) (x3 : State) :
    OutSame [.dict, .freeCtr, .requests, .xports, .test] x3 (execBusyResend x1 x2 x3) := by
  unfold execBusyResend
  split
  · rename_i e0 e1 e2
    refine OutSame.next ?_
    with_reducible refine when_same ?_ ?_
    · with_reducible refine Same.step (State.resend_same _ _ _) (by decide) ?_
      exact Same.refl _ _
    · exact Same.refl _ _
  · rename_i e3 e4
    refine OutSame.next ?_
    exact Same.refl _ _

theorem State.trigger_same {W : List Part} {s0 s : State} {p : Packet} {mine : Nat → Bool} {run : State → State}
    (hw : ([.dict, .freeCtr, .lanes, .paths, .lastResponse, .xports, .pair, .test].all fun p => W.contains p) = true)
    (h : Same W s0 s) (hr : ∀ t, Same W s0 t → Same W s0 (run t)) : Same W s0 (s.trigger p mine run) := by
  have sub : ([.dict, .freeCtr, .lastResponse, .xports, .test].all fun p => W.contains p) = true := by
    simp only [List.all_cons, List.all_nil, Bool.and_eq_true] at hw ⊢
    simp only [hw, and_self]
  refine State.arrive_same hw h fun t ht => ?_
  split
  · exact ht
  · refine State.again_same sub ht ?_
    split
    · exact Same.step (State.reply_same _ _ _ _) sub (Same.step ((State.bump_same _ _).mono (by decide)) sub ht)
    · exact State.once_same sub ht hr

theorem execPing_same (x1 : Packet) (x2 : State) :
    OutSame [.dict, .freeCtr, .lanes, .paths, .replies, .lastResponse, .xports, .pair, .test] x2 (execPing x1 x2) := by
  unfold execPing
  refine OutSame.next ?_
  with_reducible refine State.trigger_same (by decide) ?_ ?_
  · exact Same.refl _ _
  · intro y0 h1
    with_reducible refine Same.step (State.settle_same _ _ _ _ _) (by decide) ?_
    exact h1

theorem State.raiseFloor_same (x1 : State) (x2 x3 : Nat) :
    Same [.dict, .nv, .hub] x1 (State.raiseFloor x1 x2 x3) := by
  unfold State.raiseFloor
  with_reducible refine Same.step (State.keep_same _ _ _) (by decide) ?_
  with_reducible refine Same.record rfl ?_ ?_
  · intro p hp; cases p <;> first | exact absurd (by decide) hp | exact rfl
  exact Same.refl _ _

theorem State.raiseFence_same (x1 : State) (x2 x3 : Nat) :
    Same [.dict, .nv, .hub] x1 (State.raiseFence x1 x2 x3) := by
  unfold State.raiseFence
  refine Same.ite ?_ ?_
  · with_reducible refine Same.step (State.raiseFloor_same _ _ _) (by decide) ?_
    exact Same.refl _ _
  · exact Same.refl _ _

theorem State.awaitFence_same (x1 : State) (x2 x3 : Nat) (x4 : FenceAsker) :
    Same [.hub] x1 (State.awaitFence x1 x2 x3 x4) := by
  unfold State.awaitFence
  with_reducible refine Same.record rfl ?_ ?_
  · intro p hp; cases p <;> first | exact absurd (by decide) hp | exact rfl
  exact Same.refl _ _

theorem State.fenceReply_same (x1 : State) (x2 : Packet) :
    Same [.dict, .freeCtr, .replies, .lastResponse, .xports, .test] x1 (State.fenceReply x1 x2) := by
  unfold State.fenceReply
  extract_lets v0
  with_reducible refine Same.step (State.settle_same _ _ _ _ _) (by decide) ?_
  exact Same.refl _ _

theorem execRaiseFence_same (x1 : Packet) (x2 : State) :
    OutSame [.dict, .nv, .freeCtr, .lanes, .paths, .replies, .lastResponse, .xports, .hub, .pair, .test] x2 (execRaiseFence x1 x2) := by
  unfold execRaiseFence
  refine OutSame.next ?_
  with_reducible refine State.trigger_same (by decide) ?_ ?_
  · exact Same.refl _ _
  · intro y0 h1
    extract_lets v2 v3 v4
    refine Same.have v4 ?_ fun h5 => ?_
    · with_reducible refine Same.step (State.raiseFence_same _ _ _) (by decide) ?_
      exact h1
    clear_value v4
    refine Same.ite ?_ ?_
    · with_reducible refine Same.step (State.settle_same _ _ _ _ _) (by decide) ?_
      exact h1
    · split
      · rename_i e6 e7 e8
        with_reducible refine Same.step (State.awaitFence_same _ _ _ _) (by decide) ?_
        exact h5
      · rename_i e9 e10
        with_reducible refine Same.step (State.fenceReply_same _ _) (by decide) ?_
        exact h5

theorem execFlushLineCache_same (x1 : Packet) (x2 : State) :
    OutSame [.dict, .freeCtr, .lanes, .paths, .requests, .replies, .lastResponse, .lineCache, .xports, .pair, .test] x2 (execFlushLineCache x1 x2) := by
  unfold execFlushLineCache
  refine OutSame.next ?_
  with_reducible refine State.trigger_same (by decide) ?_ ?_
  · exact Same.refl _ _
  · intro y0 h1
    with_reducible refine Same.step (State.settle_same _ _ _ _ _) (by decide) ?_
    with_reducible refine Same.step (State.flushCache_same _) (by decide) ?_
    exact h1

theorem execHostProcedure_same (x1 : Packet) (x2 : State) :
    OutSame [.dict, .freeCtr, .lanes, .paths, .replies, .lastResponse, .xports, .pair, .ports, .test] x2 (execHostProcedure x1 x2) := by
  unfold execHostProcedure
  refine OutSame.next ?_
  with_reducible refine State.trigger_same (by decide) ?_ ?_
  · exact Same.refl _ _
  · intro y0 h1
    extract_lets v2 v3 v4 v5
    refine Same.ite ?_ ?_
    · with_reducible refine Same.step (State.settle_same _ _ _ _ _) (by decide) ?_
      exact h1
    · refine Same.ite ?_ ?_
      · with_reducible refine Same.step (State.settle_same _ _ _ _ _) (by decide) ?_
        exact h1
      · split
        · rename_i e6 e7 e8
          with_reducible refine Same.step (State.settle_same _ _ _ _ _) (by decide) ?_
          with_reducible refine Same.step (State.traceOpen_same _ _ _ _ _ _ _) (by decide) ?_
          with_reducible refine Same.step (State.setPort_same _ _ _) (by decide) ?_
          exact h1
        · rename_i e9 e10 e11
          with_reducible refine Same.step (State.reply_same _ _ _ _) (by decide) ?_
          exact h1

theorem State.writeFence_same (x1 : State) (x2 x3 : Nat) :
    Same [.dict, .nv, .lastStatus, .hub] x1 (State.writeFence x1 x2 x3) := by
  unfold State.writeFence
  refine Same.ite ?_ ?_
  · refine Same.ite ?_ ?_
    · with_reducible refine Same.step (State.answer_same _ _) (by decide) ?_
      exact Same.refl _ _
    · with_reducible refine Same.step (State.answer_same _ _) (by decide) ?_
      with_reducible refine Same.step (State.keep_same _ _ _) (by decide) ?_
      exact Same.refl _ _
  · refine Same.ite ?_ ?_
    · with_reducible refine Same.step (State.answer_same _ _) (by decide) ?_
      exact Same.refl _ _
    · extract_lets v0 v1
      refine Same.have v1 ?_ fun h2 => ?_
      · with_reducible refine Same.step (State.raiseFloor_same _ _ _) (by decide) ?_
        exact Same.refl _ _
      clear_value v1
      split
      · rename_i e3 e4 e5
        with_reducible refine Same.step (State.answer_same _ _) (by decide) ?_
        with_reducible refine Same.step (State.awaitFence_same _ _ _ _) (by decide) ?_
        exact h2
      · rename_i e6 e7
        with_reducible refine Same.step (State.answer_same _ _) (by decide) ?_
        exact h2

theorem execClaimFenceWrite_same (x1 : Fin 48) (x2 : Nat) (x3 : State) :
    OutSame [.dict, .nv, .lastStatus, .hub] x3 (execClaimFenceWrite x1 x2 x3) := by
  unfold execClaimFenceWrite
  refine OutSame.next ?_
  with_reducible refine Same.step (State.writeFence_same _ _ _) (by decide) ?_
  exact Same.refl _ _

theorem State.routeLoadStart_same (x1 : State) :
    Same [.dict, .lastStatus, .stores, .routeLoad] x1 (State.routeLoadStart x1) := by
  unfold State.routeLoadStart
  extract_lets v0 v1
  refine Same.have v1 ?_ fun h2 => ?_
  · with_reducible refine Same.step (State.tierTouch_same _ _ _) (by decide) ?_
    exact Same.refl _ _
  clear_value v1
  with_reducible refine Same.step (State.answer_same _ _) (by decide) ?_
  with_reducible refine Same.step (State.setReg_same _ _ _) (by decide) ?_
  with_reducible refine Same.record rfl ?_ ?_
  · intro p hp; cases p <;> first | exact absurd (by decide) hp | exact rfl
  exact h2

theorem State.setOld_same (x1 : State) (x2 : Bool) :
    Same [.hub] x1 (State.setOld x1 x2) := by
  unfold State.setOld
  with_reducible refine Same.record rfl ?_ ?_
  · intro p hp; cases p <;> first | exact absurd (by decide) hp | exact rfl
  exact Same.refl _ _

theorem State.routeSwitchNow_same (x1 : State) :
    Same [.dict, .lastStatus, .freeCtr, .hub, .test] x1 (State.routeSwitchNow x1) := by
  unfold State.routeSwitchNow
  with_reducible refine Same.step (State.answer_same _ _) (by decide) ?_
  with_reducible refine Same.step (State.setReg_same _ _ _) (by decide) ?_
  with_reducible refine Same.step (State.setReg_same _ _ _) (by decide) ?_
  with_reducible refine Same.step (State.setOld_same _ _) (by decide) ?_
  with_reducible refine Same.step (State.traceOpen_same _ _ _ _ _ _ _) (by decide) ?_
  exact Same.refl _ _

theorem State.writeRouteCommand_same (x1 : State) (x2 : Nat) :
    Same [.dict, .lastStatus, .freeCtr, .stores, .hub, .routeLoad, .test] x1 (State.writeRouteCommand x1 x2) := by
  unfold State.writeRouteCommand
  refine Same.ite ?_ ?_
  · with_reducible refine Same.step (State.answer_same _ _) (by decide) ?_
    exact Same.refl _ _
  · refine Same.ite ?_ ?_
    · with_reducible refine Same.step (State.answer_same _ _) (by decide) ?_
      exact Same.refl _ _
    · refine Same.ite ?_ ?_
      · with_reducible refine Same.step (State.routeLoadStart_same _) (by decide) ?_
        exact Same.refl _ _
      · with_reducible refine Same.step (State.routeSwitchNow_same _) (by decide) ?_
        exact Same.refl _ _

theorem execRouteLoad_same (x1 : State) :
    OutSame [.dict, .lastStatus, .freeCtr, .stores, .hub, .routeLoad, .test] x1 (execRouteLoad x1) := by
  unfold execRouteLoad
  refine OutSame.next ?_
  with_reducible refine Same.step (State.writeRouteCommand_same _ _) (by decide) ?_
  exact Same.refl _ _

theorem execRouteSwitch_same (x1 : State) :
    OutSame [.dict, .lastStatus, .freeCtr, .stores, .hub, .routeLoad, .test] x1 (execRouteSwitch x1) := by
  unfold execRouteSwitch
  refine OutSame.next ?_
  with_reducible refine Same.step (State.writeRouteCommand_same _ _) (by decide) ?_
  exact Same.refl _ _

theorem execRouteLoadEnd_same (x1 : State) :
    OutSame [.dict, .routes, .routeLoad] x1 (execRouteLoadEnd x1) := by
  unfold execRouteLoadEnd
  split
  · rename_i e0 e1
    refine OutSame.next ?_
    exact Same.refl _ _
  · rename_i e2 e3 e4 e5
    extract_lets v6 v7 v8
    refine OutSame.next ?_
    with_reducible refine Same.step (State.setReg_same _ _ _) (by decide) ?_
    with_reducible refine Same.record rfl ?_ ?_
    · intro p hp; cases p <;> first | exact absurd (by decide) hp | exact rfl
    exact Same.refl _ _

theorem execEpochFree_same (x1 : Bool) (x2 : State) :
    OutSame [.dict, .hub] x2 (execEpochFree x1 x2) := by
  unfold execEpochFree
  extract_lets v0 v1
  refine OutSame.ite ?_ ?_
  · refine OutSame.next ?_
    exact Same.refl _ _
  · refine OutSame.ite ?_ ?_
    · refine OutSame.next ?_
      with_reducible refine Same.step (State.setOld_same _ _) (by decide) ?_
      exact Same.refl _ _
    · refine OutSame.ite ?_ ?_
      · refine OutSame.next ?_
        with_reducible refine Same.step (State.bump_same _ _) (by decide) ?_
        with_reducible refine Same.record rfl ?_ ?_
        · intro p hp; cases p <;> first | exact absurd (by decide) hp | exact rfl
        exact Same.refl _ _
      · refine OutSame.next ?_
        exact Same.refl _ _

theorem execFabricLaneTrained_same (x1 : Fin 4) (x2 : Fin 8) (x3 : State) :
    OutSame [.xports] x3 (execFabricLaneTrained x1 x2 x3) := by
  unfold execFabricLaneTrained
  extract_lets v0 v1
  refine OutSame.next ?_
  with_reducible refine when_same ?_ ?_
  · with_reducible refine Same.record rfl ?_ ?_
    · intro p hp; cases p <;> first | exact absurd (by decide) hp | exact rfl
    exact Same.refl _ _
  · exact Same.refl _ _

theorem State.dykeAdmit_same (x1 : State) (x2 : Nat) (x3 : Packet) :
    Same [.dict, .freeCtr, .cores, .dies, .fieldMap, .stores, .ledger, .tlb, .epoch, .heldFrames, .migs, .ledgerCmd, .chans, .staging, .lanes, .trackers, .replies, .lastResponse, .xports, .hub, .test] x1 (State.dykeAdmit x1 x2 x3) := by
  unfold State.dykeAdmit
  extract_lets v0 v1
  refine Same.have v1 ?_ fun h2 => ?_
  · with_reducible refine Same.step (State.bump_same _ _) (by decide) ?_
    exact Same.refl _ _
  clear_value v1
  refine Same.ite ?_ ?_
  · refine Same.ite ?_ ?_
    · with_reducible refine Same.step (State.bump_same _ _) (by decide) ?_
      exact Same.refl _ _
    · with_reducible refine Same.step (State.reply_same _ _ _ _) (by decide) ?_
      with_reducible refine Same.step (State.bump_same _ _) (by decide) ?_
      exact Same.refl _ _
  · refine Same.ite ?_ ?_
    · refine Same.ite ?_ ?_
      · with_reducible refine Same.step (State.reply_same _ _ _ _) (by decide) ?_
        exact h2
      · refine Same.ite ?_ ?_
        · with_reducible refine Same.step (State.doRead_same _ _ _ _) (by decide) ?_
          exact h2
        · refine Same.ite ?_ ?_
          · with_reducible refine Same.step (State.doWrite_same _ _ _) (by decide) ?_
            exact h2
          · with_reducible refine Same.step (State.doFlag_same _ _ _) (by decide) ?_
            exact h2
    · with_reducible refine Same.step (State.reply_same _ _ _ _) (by decide) ?_
      with_reducible refine Same.step (State.bump_same _ _) (by decide) ?_
      exact Same.refl _ _

theorem State.dykeTake_same (x1 : State) (x2 : Nat) (x3 : Packet) :
    Same [.dict, .freeCtr, .cores, .dies, .fieldMap, .stores, .ledger, .tlb, .epoch, .heldFrames, .migs, .ledgerCmd, .chans, .staging, .lanes, .guests, .trackers, .replies, .lastResponse, .xports, .hub, .test] x1 (State.dykeTake x1 x2 x3) := by
  unfold State.dykeTake
  extract_lets v0
  refine Same.have v0 ?_ fun h1 => ?_
  · with_reducible refine Same.step (State.dykeAdmit_same _ _ _) (by decide) ?_
    exact Same.refl _ _
  clear_value v0
  split
  · rename_i e2 e3 e4
    refine Same.ite ?_ ?_
    · with_reducible refine Same.step (State.setGuest_same _ _ _) (by decide) ?_
      exact h1
    · exact h1
  · rename_i e5 e6
    exact h1

theorem execDykeGuestPacket_same (x1 : Fin 2) (x2 : Packet) (x3 : State) :
    OutSame [.dict, .freeCtr, .cores, .dies, .fieldMap, .stores, .ledger, .tlb, .epoch, .heldFrames, .migs, .ledgerCmd, .chans, .staging, .lanes, .paths, .guests, .trackers, .replies, .lastResponse, .xports, .hub, .test] x3 (execDykeGuestPacket x1 x2 x3) := by
  unfold execDykeGuestPacket
  extract_lets v0 v1 v2 v3
  refine OutSame.ite ?_ ?_
  · refine OutSame.next ?_
    exact Same.refl _ _
  · refine OutSame.ite ?_ ?_
    · refine OutSame.next ?_
      with_reducible refine Same.step (State.badCrc_same _ _) (by decide) ?_
      exact Same.refl _ _
    · refine OutSame.ite ?_ ?_
      · refine OutSame.next ?_
        with_reducible refine Same.step (State.addReg_same _ _ _) (by decide) ?_
        with_reducible refine Same.step (State.setGuest_same _ _ _) (by decide) ?_
        exact Same.refl _ _
      · refine OutSame.next ?_
        with_reducible refine Same.step (State.dykeTake_same _ _ _) (by decide) ?_
        with_reducible refine Same.step (State.setGuest_same _ _ _) (by decide) ?_
        exact Same.refl _ _

theorem State.dykeGoOn_same (x1 : State) (x2 x3 : Nat) :
    Same [.dict, .freeCtr, .cores, .dies, .fieldMap, .stores, .ledger, .tlb, .epoch, .heldFrames, .migs, .ledgerCmd, .chans, .staging, .lanes, .guests, .trackers, .replies, .lastResponse, .xports, .hub, .test] x1 (State.dykeGoOn x1 x2 x3) := by
  induction x3 generalizing x1 with
  | zero => exact Same.refl _ _
  | succ k ih =>
    unfold State.dykeGoOn
    extract_lets x
    split
    · exact Same.refl _ _
    · split
      · exact Same.refl _ _
      · exact Same.trans (Same.step (State.dykeTake_same _ _ _) (by decide) ((State.setGuest_same _ _ _).mono (by decide))) (ih _)

theorem State.dykePeriod_same (x1 : State) :
    Same [.dict, .freeCtr, .cores, .dies, .fieldMap, .stores, .ledger, .tlb, .epoch, .heldFrames, .migs, .ledgerCmd, .chans, .staging, .lanes, .guests, .trackers, .replies, .lastResponse, .xports, .hub, .test] x1 (State.dykePeriod x1) := by
  unfold State.dykePeriod
  refine Same.foldl ?_ fun q0 y1 h2 => ?_
  · exact Same.refl _ _
  · extract_lets v3 v4
    with_reducible refine Same.step (State.dykeGoOn_same _ _ _) (by decide) ?_
    with_reducible refine Same.step (State.setGuest_same _ _ _) (by decide) ?_
    exact h2

theorem State.writeWindow_same (x1 : State) (x2 x3 x4 : Nat) :
    Same [.dict, .nv, .lastStatus] x1 (State.writeWindow x1 x2 x3 x4) := by
  unfold State.writeWindow
  extract_lets v0 v1
  refine Same.ite ?_ ?_
  · refine Same.ite ?_ ?_
    · with_reducible refine Same.step (State.answer_same _ _) (by decide) ?_
      exact Same.refl _ _
    · refine Same.ite ?_ ?_
      · with_reducible refine Same.step (State.answer_same _ _) (by decide) ?_
        exact Same.refl _ _
      · with_reducible refine Same.step (State.answer_same _ _) (by decide) ?_
        with_reducible refine Same.step (State.keep_same _ _ _) (by decide) ?_
        exact Same.refl _ _
  · refine Same.ite ?_ ?_
    · with_reducible refine Same.step (State.answer_same _ _) (by decide) ?_
      exact Same.refl _ _
    · refine Same.ite ?_ ?_
      · with_reducible refine Same.step (State.answer_same _ _) (by decide) ?_
        exact Same.refl _ _
      · with_reducible refine Same.step (State.answer_same _ _) (by decide) ?_
        with_reducible refine Same.step (State.keep_same _ _ _) (by decide) ?_
        exact Same.refl _ _

theorem execDykeWindowWrite_same (x1 : Fin 2) (x2 : Fin 32) (x3 : Nat) (x4 : State) :
    OutSame [.dict, .nv, .lastStatus] x4 (execDykeWindowWrite x1 x2 x3 x4) := by
  unfold execDykeWindowWrite
  refine OutSame.next ?_
  with_reducible refine Same.step (State.writeWindow_same _ _ _ _) (by decide) ?_
  exact Same.refl _ _

end Sys2Proof.Machine
end

