-- ==== Sys2Proof/Laws/FrameDictionary.lean ====
section
/-! SUPPORT. Frames of the functions of Machine/Dictionary.lean: one lemma a function, which says what parts of the state it
can change. -/

namespace Sys2Proof.Machine

open Sys2Proof

theorem State.closeSessions_same (x1 : State) (x2 : Session → Bool) :
    Same [.dap] x1 (State.closeSessions x1 x2) := by
  unfold State.closeSessions
  with_reducible refine Same.record rfl ?_ ?_
  · intro p hp; cases p <;> first | exact absurd (by decide) hp | exact rfl
  exact Same.refl _ _

theorem State.writeKey_same (x1 : State) (x2 : Who) (x3 x4 : Nat) :
    Same [.dict, .nv, .lastStatus, .dap] x1 (State.writeKey x1 x2 x3 x4) := by
  unfold State.writeKey
  extract_lets v0 v1
  refine Same.ite ?_ ?_
  · with_reducible refine Same.step (State.answer_same _ _) (by decide) ?_
    exact Same.refl _ _
  · refine Same.ite ?_ ?_
    · with_reducible refine Same.step (State.answer_same _ _) (by decide) ?_
      exact Same.refl _ _
    · refine Same.ite ?_ ?_
      · with_reducible refine Same.step (State.answer_same _ _) (by decide) ?_
        exact Same.refl _ _
      · with_reducible refine Same.step (State.answer_same _ _) (by decide) ?_
        with_reducible refine Same.step (State.closeSessions_same _ _) (by decide) ?_
        with_reducible refine Same.step (State.keep_same _ _ _) (by decide) ?_
        exact Same.refl _ _

theorem execAccessKeyWrite_same (x1 : Fin 4) (x2 : Fin 16) (x3 : Nat) (x4 : State) :
    OutSame [.dict, .nv, .lastStatus, .dap] x4 (execAccessKeyWrite x1 x2 x3 x4) := by
  unfold execAccessKeyWrite
  refine OutSame.next ?_
  with_reducible refine Same.step (State.writeKey_same _ _ _ _) (by decide) ?_
  exact Same.refl _ _

theorem State.writeSeal_same (x1 : State) (x2 : Nat) :
    Same [.lastStatus, .dap, .sec] x1 (State.writeSeal x1 x2) := by
  unfold State.writeSeal
  extract_lets v0
  refine Same.ite ?_ ?_
  · refine Same.ite ?_ ?_
    · with_reducible refine Same.step (State.answer_same _ _) (by decide) ?_
      with_reducible refine Same.step (State.closeSessions_same _ _) (by decide) ?_
      with_reducible refine Same.step (State.setSec_same _ _) (by decide) ?_
      exact Same.refl _ _
    · with_reducible refine Same.step (State.answer_same _ _) (by decide) ?_
      with_reducible refine Same.step (State.setSec_same _ _) (by decide) ?_
      exact Same.refl _ _
  · refine Same.ite ?_ ?_
    · with_reducible refine Same.step (State.answer_same _ _) (by decide) ?_
      with_reducible refine Same.step (State.setSec_same _ _) (by decide) ?_
      exact Same.refl _ _
    · with_reducible refine Same.step (State.answer_same _ _) (by decide) ?_
      exact Same.refl _ _

theorem execFieldSealArm_same (x1 : BitVec 32) (x2 : State) :
    OutSame [.lastStatus, .dap, .sec] x2 (execFieldSealArm x1 x2) := by
  unfold execFieldSealArm
  refine OutSame.next ?_
  with_reducible refine Same.step (State.writeSeal_same _ _) (by decide) ?_
  exact Same.refl _ _

theorem execFieldSealConfirm_same (x1 : BitVec 32) (x2 : State) :
    OutSame [.lastStatus, .dap, .sec] x2 (execFieldSealConfirm x1 x2) := by
  unfold execFieldSealConfirm
  refine OutSame.next ?_
  with_reducible refine Same.step (State.writeSeal_same _ _) (by decide) ?_
  exact Same.refl _ _

theorem execFieldSealArmExpiry_same (x1 : State) :
    OutSame [.sec] x1 (execFieldSealArmExpiry x1) := by
  unfold execFieldSealArmExpiry
  refine OutSame.next ?_
  with_reducible refine Same.step (State.setSec_same _ _) (by decide) ?_
  exact Same.refl _ _

theorem State.writeRestore_same (x1 : State) (x2 : Nat) :
    Same [.lastStatus, .dap] x1 (State.writeRestore x1 x2) := by
  unfold State.writeRestore
  refine Same.ite ?_ ?_
  · with_reducible refine Same.step (State.answer_same _ _) (by decide) ?_
    with_reducible refine Same.record rfl ?_ ?_
    · intro p hp; cases p <;> first | exact absurd (by decide) hp | exact rfl
    exact Same.refl _ _
  · with_reducible refine Same.step (State.answer_same _ _) (by decide) ?_
    exact Same.refl _ _

theorem execRestoreDefaults_same (x1 : Nat) (x2 : State) :
    OutSame [.lastStatus, .dap] x2 (execRestoreDefaults x1 x2) := by
  unfold execRestoreDefaults
  refine OutSame.next ?_
  with_reducible refine Same.step (State.writeRestore_same _ _) (by decide) ?_
  exact Same.refl _ _

theorem State.writeSticky_same (x1 : State) (x2 x3 x4 : Nat) :
    Same [.dict, .lastStatus] x1 (State.writeSticky x1 x2 x3 x4) := by
  unfold State.writeSticky
  extract_lets v0
  with_reducible refine Same.step (State.answer_same _ _) (by decide) ?_
  with_reducible refine Same.step (State.setReg_same _ _ _) (by decide) ?_
  exact Same.refl _ _

theorem State.writePlain_same (x1 : State) (x2 : ObjRow) (x3 x4 x5 : Nat) :
    Same [.dict, .nv, .lastStatus, .dap] x1 (State.writePlain x1 x2 x3 x4 x5) := by
  unfold State.writePlain
  refine Same.ite ?_ ?_
  · with_reducible refine Same.step (State.answer_same _ _) (by decide) ?_
    exact Same.refl _ _
  · refine Same.ite ?_ ?_
    · with_reducible refine Same.step (State.answer_same _ _) (by decide) ?_
      exact Same.refl _ _
    · extract_lets v0 v1 v2
      refine Same.have v1 ?_ fun h3 => ?_
      · with_reducible refine Same.step (State.answer_same _ _) (by decide) ?_
        with_reducible refine Same.step (State.keep_same _ _ _) (by decide) ?_
        exact Same.refl _ _
      clear_value v1
      refine Same.ite ?_ ?_
      · with_reducible refine Same.record rfl ?_ ?_
        · intro p hp; cases p <;> first | exact absurd (by decide) hp | exact rfl
        exact h3
      · exact h3

theorem State.writeIdle_same (x1 : State) (x2 : ObjRow) (x3 x4 x5 : Nat) :
    Same [.dict, .nv, .lastStatus, .stores, .dap] x1 (State.writeIdle x1 x2 x3 x4 x5) := by
  unfold State.writeIdle
  extract_lets v0
  refine Same.have v0 ?_ fun h1 => ?_
  · with_reducible refine Same.step (State.writePlain_same _ _ _ _ _) (by decide) ?_
    exact Same.refl _ _
  clear_value v0
  refine Same.ite ?_ ?_
  · refine Same.foldl ?_ fun q2 y3 h4 => ?_
    · exact h1
    · with_reducible refine Same.step (State.touch_same _ _) (by decide) ?_
      exact h4
  · exact h1

theorem State.writeObj_same (x1 : State) (x2 : Who) (x3 : ObjRow) (x4 x5 x6 : Nat) :
    Same [.dict, .nv, .lastStatus, .freeCtr, .hostMem, .tb, .entries, .cores, .runs, .dies, .grants, .orphans, .patCmd, .halted, .stores, .ledger, .tlb, .migs, .chans, .nvTrims, .calCmd, .regions, .lanes, .arbiters, .lasers, .requests, .seqs, .lineCache, .hub, .routeLoad, .pair, .ports, .streams, .dap, .thermals, .pw, .sec, .test] x1 (State.writeObj x1 x2 x3 x4 x5 x6) := by
  unfold State.writeObj
  refine Same.ite ?_ ?_
  · with_reducible refine Same.step (State.writeSticky_same _ _ _ _) (by decide) ?_
    exact Same.refl _ _
  · split
    · rename_i e0 e1
      with_reducible refine Same.step (State.writeRestore_same _ _) (by decide) ?_
      exact Same.refl _ _
    · rename_i e2 e3
      with_reducible refine Same.step (State.writeKey_same _ _ _ _) (by decide) ?_
      exact Same.refl _ _
    · rename_i e4 e5
      with_reducible refine Same.step (writeFrameLength_same _ _) (by decide) ?_
      exact Same.refl _ _
    · rename_i e6 e7
      with_reducible refine Same.step (writeReferenceSource_same _ _) (by decide) ?_
      exact Same.refl _ _
    · rename_i e8 e9
      with_reducible refine Same.step (State.writePoint_same _ _ _) (by decide) ?_
      exact Same.refl _ _
    · rename_i e10 e11
      with_reducible refine Same.step (writePatternCommand_same _ _) (by decide) ?_
      exact Same.refl _ _
    · rename_i e12 e13
      with_reducible refine Same.step (State.writeIdle_same _ _ _ _ _) (by decide) ?_
      exact Same.refl _ _
    · rename_i e14 e15
      with_reducible refine Same.step (writeChannelCommand_same _ _) (by decide) ?_
      exact Same.refl _ _
    · rename_i e16 e17
      with_reducible refine Same.step (State.writeLaserCommand_same _ _) (by decide) ?_
      exact Same.refl _ _
    · rename_i e18 e19
      with_reducible refine Same.step (State.writeRegionCommand_same _ _) (by decide) ?_
      exact Same.refl _ _
    · rename_i e20 e21
      with_reducible refine Same.step (State.writeCalCommand_same _ _) (by decide) ?_
      exact Same.refl _ _
    · rename_i e22 e23
      with_reducible refine Same.step (State.writeRingSelect_same _ _ _) (by decide) ?_
      exact Same.refl _ _
    · rename_i e24 e25
      with_reducible refine Same.step (State.writeWindow_same _ _ _ _) (by decide) ?_
      exact Same.refl _ _
    · rename_i e26 e27
      with_reducible refine Same.step (State.writeWindow_same _ _ _ _) (by decide) ?_
      exact Same.refl _ _
    · rename_i e28 e29
      with_reducible refine Same.step (State.writeRouteCommand_same _ _) (by decide) ?_
      exact Same.refl _ _
    · rename_i e30 e31
      with_reducible refine Same.step (State.writeFence_same _ _ _) (by decide) ?_
      exact Same.refl _ _
    · rename_i e32 e33
      with_reducible refine Same.step (State.writeLineCacheFlush_same _ _) (by decide) ?_
      exact Same.refl _ _
    · rename_i e34 e35
      with_reducible refine Same.step (State.writePairCommand_same _ _) (by decide) ?_
      exact Same.refl _ _
    · rename_i e36 e37
      with_reducible refine Same.step (State.writeTripClear_same _ _) (by decide) ?_
      exact Same.refl _ _
    · rename_i e38 e39
      with_reducible refine Same.step (State.writePowerCommand_same _ _) (by decide) ?_
      exact Same.refl _ _
    · rename_i e40 e41
      with_reducible refine Same.step (State.writeUpdate_same _ _) (by decide) ?_
      exact Same.refl _ _
    · rename_i e42 e43
      with_reducible refine Same.step (State.writeSeal_same _ _) (by decide) ?_
      exact Same.refl _ _
    · rename_i e44 e45
      with_reducible refine Same.step (State.writeDieBist_same _ _) (by decide) ?_
      exact Same.refl _ _
    · rename_i e46 e47
      with_reducible refine Same.step (State.writeTrace_same _ _) (by decide) ?_
      exact Same.refl _ _
    · rename_i e48 e49
      with_reducible refine Same.step (State.writeTraceCopy_same _ _) (by decide) ?_
      exact Same.refl _ _
    · rename_i e50 e51
      with_reducible refine Same.step (State.writeDump_same _ _ _ _) (by decide) ?_
      exact Same.refl _ _
    · rename_i e52 e53
      with_reducible refine Same.step (State.writeDump_same _ _ _ _) (by decide) ?_
      exact Same.refl _ _
    · rename_i e54 e55
      with_reducible refine Same.step (State.writeDump_same _ _ _ _) (by decide) ?_
      exact Same.refl _ _
    · rename_i e56 e57
      with_reducible refine Same.step (State.writeDump_same _ _ _ _) (by decide) ?_
      exact Same.refl _ _
    · rename_i e58 e59
      with_reducible refine Same.step (State.writeFreeze_same _ _) (by decide) ?_
      exact Same.refl _ _
    · rename_i e60 e61
      refine Same.ite ?_ ?_
      · with_reducible refine Same.step (State.answer_same _ _) (by decide) ?_
        exact Same.refl _ _
      · with_reducible refine Same.step (State.writePlain_same _ _ _ _ _) (by decide) ?_
        exact Same.refl _ _
    · rename_i e62 e63 e64 e65 e66 e67 e68 e69 e70 e71 e72 e73 e74 e75 e76 e77 e78 e79 e80 e81 e82 e83 e84 e85 e86 e87 e88 e89 e90 e91 e92 e93 e94
      with_reducible refine Same.step (State.writePlain_same _ _ _ _ _) (by decide) ?_
      exact Same.refl _ _

theorem State.writeDict_same (x1 : State) (x2 : Who) (x3 x4 : Nat) (x5 : List Byte) :
    Same [.dict, .nv, .lastStatus, .freeCtr, .hostMem, .tb, .entries, .cores, .runs, .dies, .grants, .orphans, .patCmd, .halted, .stores, .ledger, .tlb, .migs, .chans, .nvTrims, .calCmd, .regions, .lanes, .arbiters, .lasers, .requests, .seqs, .lineCache, .hub, .routeLoad, .pair, .ports, .streams, .dap, .thermals, .pw, .sec, .test] x1 (State.writeDict x1 x2 x3 x4 x5) := by
  unfold State.writeDict
  split
  · rename_i e0 e1 e2
    with_reducible refine Same.step (State.answer_same _ _) (by decide) ?_
    exact Same.refl _ _
  · rename_i e3 e4 e5
    with_reducible refine Same.step (State.writeObj_same _ _ _ _ _ _) (by decide) ?_
    exact Same.refl _ _

theorem State.setDap_same (x1 : State) (x2 : Dap → Dap) :
    Same [.dap] x1 (State.setDap x1 x2) := by
  unfold State.setDap
  with_reducible refine Same.record rfl ?_ ?_
  · intro p hp; cases p <;> first | exact absurd (by decide) hp | exact rfl
  exact Same.refl _ _

theorem State.sendFrame_same (x1 : State) (x2 : DapFrame) :
    Same [.dap] x1 (State.sendFrame x1 x2) := by
  unfold State.sendFrame
  with_reducible refine Same.step (State.setDap_same _ _) (by decide) ?_
  exact Same.refl _ _

theorem State.putSession_same (x1 : State) (x2 : Session) :
    Same [.dap] x1 (State.putSession x1 x2) := by
  unfold State.putSession
  with_reducible refine Same.step (State.setDap_same _ _) (by decide) ?_
  exact Same.refl _ _

theorem State.serveRead_same (x1 : State) (x2 : Who) (x3 x4 x5 : Nat) :
    Same [] x1 (State.serveRead x1 x2 x3 x4 x5).1 := by
  unfold State.serveRead
  split
  · rename_i e0 e1 e2
    dsimp only
    exact Same.refl _ _
  · rename_i e3 e4 e5
    refine Same.iteFst ?_ ?_
    · dsimp only
      exact Same.refl _ _
    · dsimp only
      exact Same.refl _ _

theorem State.serveRecord_same (x1 : State) (x2 : Who) (x3 x4 x5 : Nat) :
    Same [] x1 (State.serveRecord x1 x2 x3 x4 x5).1 := by
  unfold State.serveRecord
  split
  · rename_i e0 e1 e2
    dsimp only
    exact Same.refl _ _
  · rename_i e3 e4 e5
    split
    · rename_i e6 e7
      dsimp only
      exact Same.refl _ _
    · rename_i e8 e9 e10
      refine Same.iteFst ?_ ?_
      · dsimp only
        exact Same.refl _ _
      · extract_lets v11
        refine Same.iteFst ?_ ?_
        · dsimp only
          exact Same.refl _ _
        · dsimp only
          exact Same.refl _ _

theorem State.serveWrite_same (x1 : State) (x2 : Who) (x3 x4 : Nat) (x5 : List Byte) :
    Same [.dict, .nv, .lastStatus, .freeCtr, .hostMem, .tb, .entries, .cores, .runs, .dies, .grants, .orphans, .patCmd, .halted, .stores, .ledger, .tlb, .migs, .chans, .nvTrims, .calCmd, .regions, .lanes, .arbiters, .lasers, .requests, .seqs, .lineCache, .hub, .routeLoad, .pair, .ports, .streams, .dap, .thermals, .pw, .sec, .test] x1 (State.serveWrite x1 x2 x3 x4 x5).1 := by
  unfold State.serveWrite
  extract_lets v0 v1 v2 v3 v4 v5 v6 v7
  refine Same.have v7 ?_ fun h8 => ?_
  · with_reducible refine Same.step (State.writeDict_same _ _ _ _ _) (by decide) ?_
    exact Same.refl _ _
  clear_value v7
  dsimp only
  exact h8

theorem State.serveOpen_same (x1 : State) (x2 : List Byte) :
    Same [.freeCtr, .dap] x1 (State.serveOpen x1 x2).1 := by
  unfold State.serveOpen
  extract_lets v0 v1 v2 v3 v4
  refine Same.have v4 ?_ fun h5 => ?_
  · with_reducible refine Same.step (State.setDap_same _ _) (by decide) ?_
    with_reducible refine Same.record rfl ?_ ?_
    · intro p hp; cases p <;> first | exact absurd (by decide) hp | exact rfl
    exact Same.refl _ _
  clear_value v4
  refine Same.iteFst ?_ ?_
  · dsimp only
    exact Same.refl _ _
  · dsimp only
    exact h5

theorem State.serveWatch_same (x1 : State) (x2 : Session) (x3 : List Byte) :
    Same [.dap] x1 (State.serveWatch x1 x2 x3).1 := by
  unfold State.serveWatch
  refine Same.iteFst ?_ ?_
  · dsimp only
    exact Same.refl _ _
  · refine Same.iteFst ?_ ?_
    · dsimp only
      exact Same.refl _ _
    · extract_lets v0 v1 v2
      clear_value v1
      split
      · rename_i e3 e4 e5
        dsimp only
        exact Same.refl _ _
      · rename_i e6
        dsimp only
        with_reducible refine Same.step (State.putSession_same _ _) (by decide) ?_
        exact Same.refl _ _

theorem State.serveOpenOp_same (x1 : State) (x2 : Session) (x3 : List Byte) :
    Same [.dict, .nv, .lastStatus, .freeCtr, .hostMem, .tb, .entries, .cores, .runs, .dies, .grants, .orphans, .patCmd, .halted, .stores, .ledger, .tlb, .migs, .chans, .nvTrims, .calCmd, .regions, .lanes, .arbiters, .lasers, .requests, .seqs, .lineCache, .hub, .routeLoad, .pair, .ports, .streams, .dap, .thermals, .pw, .sec, .test] x1 (State.serveOpenOp x1 x2 x3).1 := by
  unfold State.serveOpenOp
  extract_lets v0 v1 v2 v3 v4 v5 v6 v7 v8
  split
  · rename_i e9 e10
    with_reducible refine Same.step (State.serveRead_same _ _ _ _ _) (by decide) ?_
    exact Same.refl _ _
  · rename_i e11 e12
    with_reducible refine Same.step (State.serveWrite_same _ _ _ _ _) (by decide) ?_
    exact Same.refl _ _
  · rename_i e13 e14
    with_reducible refine Same.step (State.serveRecord_same _ _ _ _ _) (by decide) ?_
    exact Same.refl _ _
  · rename_i e15 e16
    refine Same.iteFst ?_ ?_
    · dsimp only
      exact Same.refl _ _
    · dsimp only
      with_reducible refine Same.step (State.closeSessions_same _ _) (by decide) ?_
      exact Same.refl _ _
  · rename_i e17 e18 e19 e20 e21
    with_reducible refine Same.step (State.serveWatch_same _ _ _) (by decide) ?_
    exact Same.refl _ _

theorem State.fenceFor_same (x1 : State) (x2 : FenceAsker) :
    Same [.hub] x1 (State.fenceFor x1 x2) := by
  unfold State.fenceFor
  with_reducible refine Same.record rfl ?_ ?_
  · intro p hp; cases p <;> first | exact absurd (by decide) hp | exact rfl
  exact Same.refl _ _

theorem State.sendKept_same (x1 : State) (x2 x3 : Nat) (x4 x5 : List Byte) (x6 : Nat) (x7 : List Byte) :
    Same [.dict, .dap] x1 (State.sendKept x1 x2 x3 x4 x5 x6 x7) := by
  unfold State.sendKept
  extract_lets v0 v1
  refine Same.have v1 ?_ fun h2 => ?_
  · dsimp only [v1]
    split
    · rename_i e3 e4 e5
      with_reducible refine Same.step (State.putSession_same _ _) (by decide) ?_
      exact Same.refl _ _
    · rename_i e6 e7
      exact Same.refl _ _
  clear_value v1
  with_reducible refine Same.step (State.sendFrame_same _ _) (by decide) ?_
  with_reducible refine Same.step (State.bump_same _ _) (by decide) ?_
  exact h2

theorem State.serveOpenSession_same (x1 : State) (x2 : Nat) (x3 : Session) (x4 : List Byte) :
    Same [.dict, .nv, .lastStatus, .freeCtr, .hostMem, .tb, .entries, .cores, .runs, .dies, .grants, .orphans, .patCmd, .halted, .stores, .ledger, .tlb, .migs, .chans, .nvTrims, .calCmd, .regions, .lanes, .arbiters, .lasers, .requests, .seqs, .lineCache, .hub, .routeLoad, .pair, .ports, .streams, .dap, .thermals, .pw, .sec, .test] x1 (State.serveOpenSession x1 x2 x3 x4) := by
  unfold State.serveOpenSession
  extract_lets v0 v1 v2 v3 v4 v5 v6 v7 v8
  refine Same.ite ?_ ?_
  · with_reducible refine Same.step (State.bump_same _ _) (by decide) ?_
    with_reducible refine Same.step (State.bump_same _ _) (by decide) ?_
    exact Same.refl _ _
  · split
    · rename_i e9 e10 e11
      with_reducible refine Same.step (State.sendFrame_same _ _) (by decide) ?_
      with_reducible refine Same.step (State.bump_same _ _) (by decide) ?_
      exact Same.refl _ _
    · rename_i e12 e13
      refine Same.ite ?_ ?_
      · with_reducible refine Same.step (State.sendFrame_same _ _) (by decide) ?_
        with_reducible refine Same.step (State.bump_same _ _) (by decide) ?_
        with_reducible refine Same.step (State.bump_same _ _) (by decide) ?_
        exact Same.refl _ _
      · split
        rename_i e14 e15 e16 e17 e18
        refine Same.ite ?_ ?_
        · split
          · rename_i e19 e20 e21
            with_reducible refine Same.step (State.putSession_same _ _) (by decide) ?_
            with_reducible refine Same.step (State.fenceFor_same _ _) (by decide) ?_
            refine Same.fstOf e18 ?_
            refine Same.iteFst ?_ ?_
            · with_reducible refine Same.step (State.serveOpenOp_same _ _ _) (by decide) ?_
              exact Same.refl _ _
            · dsimp only
              exact Same.refl _ _
          · rename_i e22 e23
            refine Same.fstOf e18 ?_
            refine Same.iteFst ?_ ?_
            · with_reducible refine Same.step (State.serveOpenOp_same _ _ _) (by decide) ?_
              exact Same.refl _ _
            · dsimp only
              exact Same.refl _ _
        · with_reducible refine Same.step (State.sendKept_same _ _ _ _ _ _ _) (by decide) ?_
          refine Same.fstOf e18 ?_
          refine Same.iteFst ?_ ?_
          · with_reducible refine Same.step (State.serveOpenOp_same _ _ _) (by decide) ?_
            exact Same.refl _ _
          · dsimp only
            exact Same.refl _ _

theorem State.servePending_same (x1 : State) (x2 : Nat) (x3 : Session) (x4 : List Byte) :
    Same [.dict, .dap] x1 (State.servePending x1 x2 x3 x4) := by
  unfold State.servePending
  extract_lets v0 v1
  refine Same.have v0 ?_ fun h2 => ?_
  · with_reducible refine Same.step (State.bump_same _ _) (by decide) ?_
    exact Same.refl _ _
  clear_value v0
  refine Same.ite ?_ ?_
  · with_reducible refine Same.step (State.sendFrame_same _ _) (by decide) ?_
    exact h2
  · split
    · rename_i e3 e4
      with_reducible refine Same.step (State.sendFrame_same _ _) (by decide) ?_
      with_reducible refine Same.step (State.bump_same _ _) (by decide) ?_
      with_reducible refine Same.step (State.closeSessions_same _ _) (by decide) ?_
      exact h2
    · rename_i e5 e6 e7
      with_reducible refine Same.step (State.sendFrame_same _ _) (by decide) ?_
      with_reducible refine Same.step (State.putSession_same _ _) (by decide) ?_
      exact h2

theorem State.recWrite_same (s : State) (n v : Nat) (b : List Byte) :
    Same [.dict, .lastStatus, .sec] s (match n with
      | 1 => s.writeRecLength v
      | 2 => s.writeRecOffset v
      | 3 => s.writeRecPiece b
      | _ => s.writeRecVerify v) := by
  split
  · exact (State.writeRecLength_same _ _).mono (by decide)
  · exact (State.writeRecOffset_same _ _).mono (by decide)
  · exact (State.writeRecPiece_same _ _).mono (by decide)
  · exact (State.writeRecVerify_same _ _).mono (by decide)

theorem State.serveRecovery_same (s : State) (f : List Byte) :
    ∀ t, s.serveRecovery f = some t → Same [.dict, .lastStatus, .sec] s t.1 := by
  intro t ht
  unfold State.serveRecovery at ht
  extract_lets idx sub mine v u at ht
  split at ht
  · split at ht
    · exact absurd ht (by simp)
    · split at ht
      · cases ht; exact Same.refl _ _
      · split at ht <;> (cases ht; exact Same.refl _ _)
  · split at ht
    · exact absurd ht (by simp)
    · split at ht
      · exact absurd ht (by simp)
      · split at ht
        · cases ht; exact Same.refl _ _
        · cases ht
          exact State.recWrite_same s sub v (fPayload f)
  · exact absurd ht (by simp)

theorem State.serveSessionless_same (x1 : State) (x2 : Nat) (x3 : List Byte) :
    Same [.dict, .lastStatus, .freeCtr, .dap, .sec] x1 (State.serveSessionless x1 x2 x3) := by
  unfold State.serveSessionless
  extract_lets v0 v1 v2
  refine Same.ite ?_ ?_
  · with_reducible refine Same.step (State.bump_same _ _) (by decide) ?_
    exact Same.refl _ _
  · refine Same.ite ?_ ?_
    · split
      · rename_i e3 e4
        with_reducible refine Same.step (State.bump_same _ _) (by decide) ?_
        exact Same.refl _ _
      · rename_i e5 e6 e7 e8 e9
        dsimp only [v2]
        with_reducible refine Same.step (State.sendFrame_same _ _) (by decide) ?_
        with_reducible refine Same.step (State.bump_same _ _) (by decide) ?_
        with_reducible refine Same.step (State.setDap_same _ _) (by decide) ?_
        refine Same.step (State.serveRecovery_same _ _ _ e9) (by decide) ?_
        exact Same.refl _ _
    · refine Same.ite ?_ ?_
      · dsimp only [v2]
        with_reducible refine Same.step (State.sendFrame_same _ _) (by decide) ?_
        with_reducible refine Same.step (State.bump_same _ _) (by decide) ?_
        with_reducible refine Same.step (State.setDap_same _ _) (by decide) ?_
        exact Same.refl _ _
      · refine Same.ite ?_ ?_
        · dsimp only [v2]
          with_reducible refine Same.step (State.sendFrame_same _ _) (by decide) ?_
          with_reducible refine Same.step (State.bump_same _ _) (by decide) ?_
          with_reducible refine Same.step (State.setDap_same _ _) (by decide) ?_
          exact Same.refl _ _
        · split
          rename_i e10 e11 e12 e13 e14
          dsimp only [v2]
          with_reducible refine Same.step (State.sendFrame_same _ _) (by decide) ?_
          with_reducible refine Same.step (State.bump_same _ _) (by decide) ?_
          with_reducible refine Same.step (State.setDap_same _ _) (by decide) ?_
          refine Same.fstOf e14 ?_
          split
          · rename_i e15 e16
            with_reducible refine Same.step (State.serveRead_same _ _ _ _ _) (by decide) ?_
            exact Same.refl _ _
          · rename_i e17 e18
            with_reducible refine Same.step (State.serveRecord_same _ _ _ _ _) (by decide) ?_
            exact Same.refl _ _
          · rename_i e19 e20 e21
            with_reducible refine Same.step (State.serveOpen_same _ _) (by decide) ?_
            exact Same.refl _ _

theorem State.serve_same (x1 : State) (x2 : Nat) (x3 : List Byte) :
    Same [.dict, .nv, .lastStatus, .freeCtr, .hostMem, .tb, .entries, .cores, .runs, .dies, .grants, .orphans, .patCmd, .halted, .stores, .ledger, .tlb, .migs, .chans, .nvTrims, .calCmd, .regions, .lanes, .arbiters, .lasers, .requests, .seqs, .lineCache, .hub, .routeLoad, .pair, .ports, .streams, .dap, .thermals, .pw, .sec, .test] x1 (State.serve x1 x2 x3) := by
  unfold State.serve
  extract_lets v0 v1 v2 v3 v4 v5 v6 v7 v8
  refine Same.have v7 ?_ fun h9 => ?_
  · with_reducible refine Same.step (State.setDap_same _ _) (by decide) ?_
    exact Same.refl _ _
  clear_value v7
  refine Same.ite ?_ ?_
  · exact h9
  · refine Same.ite ?_ ?_
    · with_reducible refine Same.step (State.bump_same _ _) (by decide) ?_
      exact h9
    · refine Same.ite ?_ ?_
      · with_reducible refine Same.step (State.serveSessionless_same _ _ _) (by decide) ?_
        exact h9
      · split
        · rename_i e10 e11
          with_reducible refine Same.step (State.sendFrame_same _ _) (by decide) ?_
          with_reducible refine Same.step (State.bump_same _ _) (by decide) ?_
          exact h9
        · rename_i e12 e13 e14
          refine Same.ite ?_ ?_
          · with_reducible refine Same.step (State.sendFrame_same _ _) (by decide) ?_
            with_reducible refine Same.step (State.bump_same _ _) (by decide) ?_
            exact h9
          · refine Same.ite ?_ ?_
            · with_reducible refine Same.step (State.serveOpenSession_same _ _ _ _) (by decide) ?_
              exact h9
            · with_reducible refine Same.step (State.servePending_same _ _ _ _) (by decide) ?_
              exact h9

theorem State.serveAs_same (x1 : State) (x2 x3 : Nat) (x4 : List Byte) :
    Same [.dict, .nv, .lastStatus, .freeCtr, .hostMem, .tb, .entries, .cores, .runs, .dies, .grants, .orphans, .patCmd, .halted, .stores, .ledger, .tlb, .migs, .chans, .nvTrims, .calCmd, .regions, .lanes, .arbiters, .lasers, .requests, .seqs, .lineCache, .hub, .routeLoad, .pair, .ports, .streams, .dap, .thermals, .pw, .sec, .test] x1 (State.serveAs x1 x2 x3 x4) := by
  unfold State.serveAs
  refine Same.ite ?_ ?_
  · with_reducible refine Same.step (State.serve_same _ _ _) (by decide) ?_
    exact Same.refl _ _
  · exact Same.refl _ _

theorem execDapRead_same (x1 : Fin 2) (x2 : List Byte) (x3 : State) :
    OutSame [.dict, .nv, .lastStatus, .freeCtr, .hostMem, .tb, .entries, .cores, .runs, .dies, .grants, .orphans, .patCmd, .halted, .stores, .ledger, .tlb, .migs, .chans, .nvTrims, .calCmd, .regions, .lanes, .arbiters, .lasers, .requests, .seqs, .lineCache, .hub, .routeLoad, .pair, .ports, .streams, .dap, .thermals, .pw, .sec, .test] x3 (execDapRead x1 x2 x3) := by
  unfold execDapRead
  refine OutSame.next ?_
  with_reducible refine Same.step (State.serveAs_same _ _ _ _) (by decide) ?_
  exact Same.refl _ _

theorem execDapWrite_same (x1 : Fin 2) (x2 : List Byte) (x3 : State) :
    OutSame [.dict, .nv, .lastStatus, .freeCtr, .hostMem, .tb, .entries, .cores, .runs, .dies, .grants, .orphans, .patCmd, .halted, .stores, .ledger, .tlb, .migs, .chans, .nvTrims, .calCmd, .regions, .lanes, .arbiters, .lasers, .requests, .seqs, .lineCache, .hub, .routeLoad, .pair, .ports, .streams, .dap, .thermals, .pw, .sec, .test] x3 (execDapWrite x1 x2 x3) := by
  unfold execDapWrite
  refine OutSame.next ?_
  with_reducible refine Same.step (State.serveAs_same _ _ _ _) (by decide) ?_
  exact Same.refl _ _

theorem execDapReadrecord_same (x1 : Fin 2) (x2 : List Byte) (x3 : State) :
    OutSame [.dict, .nv, .lastStatus, .freeCtr, .hostMem, .tb, .entries, .cores, .runs, .dies, .grants, .orphans, .patCmd, .halted, .stores, .ledger, .tlb, .migs, .chans, .nvTrims, .calCmd, .regions, .lanes, .arbiters, .lasers, .requests, .seqs, .lineCache, .hub, .routeLoad, .pair, .ports, .streams, .dap, .thermals, .pw, .sec, .test] x3 (execDapReadrecord x1 x2 x3) := by
  unfold execDapReadrecord
  refine OutSame.next ?_
  with_reducible refine Same.step (State.serveAs_same _ _ _ _) (by decide) ?_
  exact Same.refl _ _

theorem execDapOpen_same (x1 : Fin 2) (x2 : List Byte) (x3 : State) :
    OutSame [.dict, .nv, .lastStatus, .freeCtr, .hostMem, .tb, .entries, .cores, .runs, .dies, .grants, .orphans, .patCmd, .halted, .stores, .ledger, .tlb, .migs, .chans, .nvTrims, .calCmd, .regions, .lanes, .arbiters, .lasers, .requests, .seqs, .lineCache, .hub, .routeLoad, .pair, .ports, .streams, .dap, .thermals, .pw, .sec, .test] x3 (execDapOpen x1 x2 x3) := by
  unfold execDapOpen
  refine OutSame.next ?_
  with_reducible refine Same.step (State.serveAs_same _ _ _ _) (by decide) ?_
  exact Same.refl _ _

theorem execDapAuth_same (x1 : Fin 2) (x2 : List Byte) (x3 : State) :
    OutSame [.dict, .nv, .lastStatus, .freeCtr, .hostMem, .tb, .entries, .cores, .runs, .dies, .grants, .orphans, .patCmd, .halted, .stores, .ledger, .tlb, .migs, .chans, .nvTrims, .calCmd, .regions, .lanes, .arbiters, .lasers, .requests, .seqs, .lineCache, .hub, .routeLoad, .pair, .ports, .streams, .dap, .thermals, .pw, .sec, .test] x3 (execDapAuth x1 x2 x3) := by
  unfold execDapAuth
  refine OutSame.next ?_
  with_reducible refine Same.step (State.serveAs_same _ _ _ _) (by decide) ?_
  exact Same.refl _ _

theorem execDapClose_same (x1 : Fin 2) (x2 : List Byte) (x3 : State) :
    OutSame [.dict, .nv, .lastStatus, .freeCtr, .hostMem, .tb, .entries, .cores, .runs, .dies, .grants, .orphans, .patCmd, .halted, .stores, .ledger, .tlb, .migs, .chans, .nvTrims, .calCmd, .regions, .lanes, .arbiters, .lasers, .requests, .seqs, .lineCache, .hub, .routeLoad, .pair, .ports, .streams, .dap, .thermals, .pw, .sec, .test] x3 (execDapClose x1 x2 x3) := by
  unfold execDapClose
  refine OutSame.next ?_
  with_reducible refine Same.step (State.serveAs_same _ _ _ _) (by decide) ?_
  exact Same.refl _ _

theorem execDapWatch_same (x1 : Fin 2) (x2 : List Byte) (x3 : State) :
    OutSame [.dict, .nv, .lastStatus, .freeCtr, .hostMem, .tb, .entries, .cores, .runs, .dies, .grants, .orphans, .patCmd, .halted, .stores, .ledger, .tlb, .migs, .chans, .nvTrims, .calCmd, .regions, .lanes, .arbiters, .lasers, .requests, .seqs, .lineCache, .hub, .routeLoad, .pair, .ports, .streams, .dap, .thermals, .pw, .sec, .test] x3 (execDapWatch x1 x2 x3) := by
  unfold execDapWatch
  refine OutSame.next ?_
  with_reducible refine Same.step (State.serveAs_same _ _ _ _) (by decide) ?_
  exact Same.refl _ _

theorem execSessionPendingExpiry_same (x1 : BitVec 32) (x2 : State) :
    OutSame [.dap] x2 (execSessionPendingExpiry x1 x2) := by
  unfold execSessionPendingExpiry
  refine OutSame.next ?_
  with_reducible refine Same.step (State.closeSessions_same _ _) (by decide) ?_
  exact Same.refl _ _

theorem execSessionIdleExpiry_same (x1 : BitVec 32) (x2 : State) :
    OutSame [.dap] x2 (execSessionIdleExpiry x1 x2) := by
  unfold execSessionIdleExpiry
  refine OutSame.next ?_
  with_reducible refine Same.step (State.closeSessions_same _ _) (by decide) ?_
  exact Same.refl _ _

theorem State.notifySession_same (x1 : State) (x2 : Session) :
    Same [.dap] x1 (State.notifySession x1 x2) := by
  unfold State.notifySession
  refine Same.foldl ?_ fun q0 y1 h2 => ?_
  · exact Same.refl _ _
  · extract_lets v3
    split
    · rename_i e4 e5
      exact h2
    · rename_i e6 e7 e8
      extract_lets v9
      split
      · rename_i e10 e11
        exact h2
      · rename_i e12 e13 e14
        refine Same.ite ?_ ?_
        · exact h2
        · extract_lets v15
          with_reducible refine Same.step (State.sendFrame_same _ _) (by decide) ?_
          with_reducible refine Same.step (State.putSession_same _ _) (by decide) ?_
          exact h2

theorem State.notifyAll_same (x1 : State) :
    Same [.dap] x1 (State.notifyAll x1) := by
  unfold State.notifyAll
  refine Same.foldl ?_ fun q0 y1 h2 => ?_
  · exact Same.refl _ _
  · with_reducible refine Same.step (State.notifySession_same _ _) (by decide) ?_
    exact h2

theorem execNetworkConfigApply_same (x1 : State) :
    OutSame [.dap] x1 (execNetworkConfigApply x1) := by
  unfold execNetworkConfigApply
  split
  · rename_i e0 e1
    refine OutSame.next ?_
    exact Same.refl _ _
  · rename_i e2 e3 e4 e5 e6
    refine OutSame.next ?_
    with_reducible refine Same.step (State.setDap_same _ _) (by decide) ?_
    exact Same.refl _ _

theorem execFieldNetworkLink_same (x1 : Fin 2) (x2 : Bool) (x3 : State) :
    OutSame [.dap] x3 (execFieldNetworkLink x1 x2 x3) := by
  unfold execFieldNetworkLink
  refine OutSame.next ?_
  with_reducible refine Same.step (State.setDap_same _ _) (by decide) ?_
  exact Same.refl _ _

theorem State.boxServe_same (x1 : State) (x2 : Nat) :
    Same [.dict, .nv, .lastStatus, .freeCtr, .hostMem, .tb, .entries, .cores, .runs, .dies, .grants, .orphans, .patCmd, .halted, .stores, .ledger, .tlb, .migs, .chans, .nvTrims, .calCmd, .regions, .lanes, .arbiters, .lasers, .requests, .seqs, .lineCache, .hub, .routeLoad, .pair, .ports, .streams, .dap, .thermals, .pw, .sec, .test] x1 (State.boxServe x1 x2).1 := by
  unfold State.boxServe
  extract_lets v0 v1 v2 v3 v4 v5 v6 v7 v8 v9 v10 v11
  refine Same.iteFst ?_ ?_
  · dsimp only
    exact Same.refl _ _
  · clear_value v11
    split
    · rename_i e12
      with_reducible refine Same.step (State.serveRead_same _ _ _ _ _) (by decide) ?_
      exact Same.refl _ _
    · rename_i e13
      with_reducible refine Same.step (State.serveWrite_same _ _ _ _ _) (by decide) ?_
      exact Same.refl _ _
    · rename_i e14 e15 e16
      with_reducible refine Same.step (State.serveRecord_same _ _ _ _ _) (by decide) ?_
      exact Same.refl _ _

theorem execBar4Go_same (x1 : Fin 2) (x2 : State) :
    OutSame [.dict, .nv, .lastStatus, .freeCtr, .hostMem, .tb, .entries, .cores, .runs, .dies, .grants, .orphans, .patCmd, .halted, .stores, .ledger, .tlb, .migs, .chans, .nvTrims, .calCmd, .regions, .lanes, .arbiters, .lasers, .requests, .seqs, .lineCache, .hub, .routeLoad, .pair, .ports, .streams, .dap, .thermals, .pw, .sec, .test] x2 (execBar4Go x1 x2) := by
  unfold execBar4Go
  extract_lets v0 v1 v2 v3 v4 v5 v6 v7
  refine OutSame.ite ?_ ?_
  · refine OutSame.next ?_
    exact Same.refl _ _
  · refine OutSame.ite ?_ ?_
    · refine OutSame.next ?_
      with_reducible refine Same.step (State.bump_same _ _) (by decide) ?_
      exact Same.refl _ _
    · split
      rename_i e8 e9 e10 e11 e12
      extract_lets v13 v14
      refine OutSame.next ?_
      refine Same.ite ?_ ?_
      · with_reducible refine Same.step (State.setPort_same _ _ _) (by decide) ?_
        with_reducible refine Same.step (State.fenceFor_same _ _) (by decide) ?_
        refine Same.fstOf e12 ?_
        with_reducible refine Same.step (State.boxServe_same _ _) (by decide) ?_
        exact Same.refl _ _
      · with_reducible refine Same.step (State.setPort_same _ _ _) (by decide) ?_
        refine Same.fstOf e12 ?_
        with_reducible refine Same.step (State.boxServe_same _ _) (by decide) ?_
        exact Same.refl _ _

theorem State.fenceDone_same (x1 : State) (x2 : FenceAsker) :
    Same [.dict, .lastStatus, .freeCtr, .replies, .lastResponse, .xports, .ports, .dap, .test] x1 (State.fenceDone x1 x2) := by
  unfold State.fenceDone
  split
  · rename_i e0 e1
    with_reducible refine Same.step (State.fenceReply_same _ _) (by decide) ?_
    exact Same.refl _ _
  · rename_i e2
    with_reducible refine Same.step (State.answer_same _ _) (by decide) ?_
    exact Same.refl _ _
  · rename_i e3
    exact Same.refl _ _
  · rename_i e4 e5
    extract_lets v6 v7
    with_reducible refine Same.step (State.setPort_same _ _ _) (by decide) ?_
    exact Same.refl _ _
  · rename_i e8 e9 e10 e11
    split
    · rename_i e12 e13 e14
      with_reducible refine Same.step (State.sendKept_same _ _ _ _ _ _ _) (by decide) ?_
      exact Same.refl _ _
    · rename_i e15 e16
      exact Same.refl _ _

theorem State.settleFences_same (x1 : State) :
    Same [.dict, .lastStatus, .freeCtr, .replies, .lastResponse, .xports, .hub, .ports, .dap, .test] x1 (State.settleFences x1) := by
  unfold State.settleFences
  extract_lets v0 v1 v2
  refine Same.have v2 ?_ fun h3 => ?_
  · dsimp only [v2]
    with_reducible refine Same.record rfl ?_ ?_
    · intro p hp; cases p <;> first | exact absurd (by decide) hp | exact rfl
    exact Same.refl _ _
  clear_value v2
  refine Same.foldl ?_ fun q4 y5 h6 => ?_
  · exact h3
  · with_reducible refine Same.step (State.fenceDone_same _ _) (by decide) ?_
    exact h6

theorem execLeasePeriod_same (x1 : State) :
    OutSame [.dict, .lastStatus, .freeCtr, .cores, .dies, .fieldMap, .stores, .ledger, .tlb, .epoch, .heldFrames, .migs, .ledgerCmd, .chans, .staging, .calCmd, .regions, .rings, .lanes, .arbiters, .guests, .trackers, .replies, .lastResponse, .xports, .hub, .ports, .dap, .test] x1 (execLeasePeriod x1) := by
  unfold execLeasePeriod
  extract_lets v0
  refine OutSame.have v0 ?_ fun h1 => ?_
  · with_reducible refine Same.step (State.dykePeriod_same _) (by decide) ?_
    with_reducible refine Same.step (State.leasePeriod_same _) (by decide) ?_
    exact Same.refl _ _
  clear_value v0
  refine OutSame.next ?_
  with_reducible refine Same.step (State.settleFences_same _) (by decide) ?_
  refine Same.foldl ?_ fun q2 y3 h4 => ?_
  · exact h1
  · with_reducible refine Same.step (State.drainPort_same _ _) (by decide) ?_
    with_reducible refine Same.step (State.portIdents_same _ _) (by decide) ?_
    exact h4

theorem State.writeBar0_same (x1 : State) (x2 x3 x4 : Nat) :
    Same [.dict, .freeCtr, .tb, .prick, .ledgerCmd, .staging, .hub, .ports, .streams, .test] x1 (State.writeBar0 x1 x2 x3 x4) := by
  unfold State.writeBar0
  extract_lets v0 v1 v2 v3 v4
  refine Same.ite ?_ ?_
  · exact Same.refl _ _
  · refine Same.ite ?_ ?_
    · with_reducible refine Same.step (State.writePortControl_same _ _ _) (by decide) ?_
      exact Same.refl _ _
    · refine Same.ite ?_ ?_
      · with_reducible refine Same.step (State.writeSq_same _ _ _ _) (by decide) ?_
        exact Same.refl _ _
      · refine Same.ite ?_ ?_
        · refine Same.ite ?_ ?_
          · with_reducible refine Same.step (State.writeRing_same _ _ _ _ _ _) (by decide) ?_
            exact Same.refl _ _
          · with_reducible refine Same.step (State.setPort_same _ _ _) (by decide) ?_
            exact Same.refl _ _
        · refine Same.ite ?_ ?_
          · with_reducible refine Same.record rfl ?_ ?_
            · intro p hp; cases p <;> first | exact absurd (by decide) hp | exact rfl
            exact Same.refl _ _
          · refine Same.ite ?_ ?_
            · with_reducible refine Same.record rfl ?_ ?_
              · intro p hp; cases p <;> first | exact absurd (by decide) hp | exact rfl
              exact Same.refl _ _
            · refine Same.ite ?_ ?_
              · split
                · rename_i e5 e6
                  with_reducible refine Same.step (State.setPort_same _ _ _) (by decide) ?_
                  exact Same.refl _ _
                · rename_i e7 e8
                  exact Same.refl _ _
                · rename_i e9 e10 e11
                  with_reducible refine Same.step (State.setPort_same _ _ _) (by decide) ?_
                  exact Same.refl _ _
              · refine Same.ite ?_ ?_
                · split
                  · rename_i e12 e13
                    with_reducible refine Same.step (State.setPort_same _ _ _) (by decide) ?_
                    exact Same.refl _ _
                  · rename_i e14 e15
                    exact Same.refl _ _
                  · rename_i e16 e17 e18
                    refine Same.ite ?_ ?_
                    · exact Same.refl _ _
                    · with_reducible refine Same.step (State.setPort_same _ _ _) (by decide) ?_
                      exact Same.refl _ _
                · refine Same.ite ?_ ?_
                  · with_reducible refine Same.step (State.setPort_same _ _ _) (by decide) ?_
                    exact Same.refl _ _
                  · exact Same.refl _ _

theorem State.writeBar4_same (x1 : State) (x2 x3 x4 : Nat) :
    Same [.ports] x1 (State.writeBar4 x1 x2 x3 x4) := by
  unfold State.writeBar4
  extract_lets v0 v1
  refine Same.ite ?_ ?_
  · exact Same.refl _ _
  · refine Same.ite ?_ ?_
    · with_reducible refine Same.step (State.setPort_same _ _ _) (by decide) ?_
      exact Same.refl _ _
    · refine Same.ite ?_ ?_
      · with_reducible refine Same.step (State.setPort_same _ _ _) (by decide) ?_
        exact Same.refl _ _
      · exact Same.refl _ _

theorem execRegisterWrite_same (x1 : RegTarget) (x2 : State) :
    OutSame [.dict, .nv, .lastStatus, .freeCtr, .hostMem, .tb, .prick, .entries, .cores, .runs, .dies, .grants, .orphans, .patCmd, .halted, .stores, .ledger, .tlb, .migs, .ledgerCmd, .chans, .staging, .nvTrims, .calCmd, .regions, .lanes, .arbiters, .lasers, .requests, .seqs, .lineCache, .hub, .routeLoad, .pair, .ports, .streams, .dap, .thermals, .pw, .sec, .test] x2 (execRegisterWrite x1 x2) := by
  unfold execRegisterWrite
  split
  · rename_i e0 e1 e2 e3
    refine OutSame.next ?_
    refine Same.ite ?_ ?_
    · with_reducible refine Same.step (State.writeDict_same _ _ _ _ _) (by decide) ?_
      exact Same.refl _ _
    · exact Same.refl _ _
  · rename_i e4 e5 e6 e7
    refine OutSame.next ?_
    with_reducible refine Same.step (State.writeBar0_same _ _ _ _) (by decide) ?_
    exact Same.refl _ _
  · rename_i e8 e9 e10 e11
    refine OutSame.next ?_
    with_reducible refine Same.step (State.writeBar4_same _ _ _ _) (by decide) ?_
    exact Same.refl _ _

end Sys2Proof.Machine
end

