-- ==== Sys2Proof/Laws/FrameEngine.lean ====
section
/-! SUPPORT. Frames of the functions of Machine/Engine.lean: one lemma a function, which says what parts of the state it
can change. -/

namespace Sys2Proof.Machine

open Sys2Proof

theorem State.mmaRun_same (x1 : State) (x2 : Nat) (x3 : Grant) (x4 : QInstr) (x5 : List (Nat × Nat)) :
    Same [.cores, .runs] x1 (State.mmaRun x1 x2 x3 x4 x5) := by
  unfold State.mmaRun
  split
  rename_i e0 e1 e2 e3
  extract_lets v4
  refine Same.foldl ?_ fun q5 y6 h7 => ?_
  · exact Same.refl _ _
  · split
    rename_i e8 e9 e10 e11
    with_reducible refine Same.step (State.flagRun_same _ _ _) (by decide) ?_
    with_reducible refine Same.step (State.setCore_same _ _ _) (by decide) ?_
    exact h7

theorem execMma_same (x1 : Fin 8) (x2 : Fin 48) (x3 : Fin 4) (x4 : State) :
    OutSame [.dict, .lastStatus, .freeCtr, .hostMem, .entries, .cores, .runs, .grants, .orphans, .stores, .pair, .ports, .streams, .pw, .test] x4 (execMma x1 x2 x3 x4) := by
  unfold execMma
  extract_lets v0
  refine OutSame.next ?_
  with_reducible refine State.startUnit_same (by decide) ?_ ?_
  · exact Same.refl _ _
  · intro y1 y2 y3 y4 h5
    with_reducible refine Same.step (State.mmaRun_same _ _ _ _ _) (by decide) ?_
    exact h5

theorem execMma4_same (x1 : Fin 8) (x2 : Fin 48) (x3 : State) :
    OutSame [.dict, .lastStatus, .freeCtr, .hostMem, .entries, .cores, .runs, .grants, .orphans, .stores, .pair, .ports, .streams, .pw, .test] x3 (execMma4 x1 x2 x3) := by
  unfold execMma4
  refine OutSame.next ?_
  with_reducible refine State.startUnit_same (by decide) ?_ ?_
  · exact Same.refl _ _
  · intro y0 y1 y2 y3 h4
    with_reducible refine Same.step (State.mmaRun_same _ _ _ _ _) (by decide) ?_
    exact h4

theorem State.drainRun_same (x1 : State) (x2 : Nat) (x3 : Grant) (x4 : QInstr) (x5 : List (Nat × Nat)) :
    Same [.cores, .runs] x1 (State.drainRun x1 x2 x3 x4 x5) := by
  unfold State.drainRun
  extract_lets v0 v1 v2
  with_reducible refine Same.step (State.flagRun_same _ _ _) (by decide) ?_
  with_reducible refine Same.step (State.setScratch_same _ _ _) (by decide) ?_
  exact Same.refl _ _

theorem execDrain_same (x1 : Fin 8) (x2 : Fin 48) (x3 : Fin 4) (x4 : State) :
    OutSame [.dict, .lastStatus, .freeCtr, .hostMem, .entries, .cores, .runs, .grants, .orphans, .stores, .pair, .ports, .streams, .pw, .test] x4 (execDrain x1 x2 x3 x4) := by
  unfold execDrain
  extract_lets v0
  refine OutSame.next ?_
  with_reducible refine State.startUnit_same (by decide) ?_ ?_
  · exact Same.refl _ _
  · intro y1 y2 y3 y4 h5
    with_reducible refine Same.step (State.drainRun_same _ _ _ _ _) (by decide) ?_
    exact h5

theorem State.loadRun_same (x1 : State) (x2 : Nat) (x3 : Grant) (x4 : QInstr) (x5 : Nat) :
    Same [.cores, .runs] x1 (State.loadRun x1 x2 x3 x4 x5) := by
  unfold State.loadRun
  extract_lets v0 v1 v2 v3
  with_reducible refine Same.step (State.flagRun_same _ _ _) (by decide) ?_
  with_reducible refine Same.step (State.setCore_same _ _ _) (by decide) ?_
  exact Same.refl _ _

theorem execAccload_same (x1 : Fin 8) (x2 : Fin 48) (x3 : Fin 4) (x4 : State) :
    OutSame [.dict, .lastStatus, .freeCtr, .hostMem, .entries, .cores, .runs, .grants, .orphans, .stores, .pair, .ports, .streams, .pw, .test] x4 (execAccload x1 x2 x3 x4) := by
  unfold execAccload
  extract_lets v0
  refine OutSame.next ?_
  with_reducible refine State.startUnit_same (by decide) ?_ ?_
  · exact Same.refl _ _
  · intro y1 y2 y3 y4 h5
    with_reducible refine Same.step (State.loadRun_same _ _ _ _ _) (by decide) ?_
    exact h5

end Sys2Proof.Machine
end

