-- ==== Sys2Proof/Laws/FrameFrame.lean ====
section
/-! SUPPORT. Frames of the functions of Machine/Frame.lean: one lemma a function, which says what parts of the state it
can change. -/

namespace Sys2Proof.Machine

open Sys2Proof

theorem State.advanceFrame_same (x1 : State) :
    Same [.tb] x1 (State.advanceFrame x1) := by
  unfold State.advanceFrame
  extract_lets v0 v1
  with_reducible refine Same.record rfl ?_ ?_
  · intro p hp; cases p <;> first | exact absurd (by decide) hp | exact rfl
  exact Same.refl _ _

theorem State.formAll_same (x1 : State) (x2 x3 : Nat) :
    Same [.dict, .freeCtr, .stores, .ports, .streams, .test] x1 (State.formAll x1 x2 x3).1 := by
  unfold State.formAll
  refine Same.foldlFst ?_ fun q0 y1 h2 => ?_
  · dsimp only
    exact Same.refl _ _
  · split
    rename_i e3 e4 e5 e6
    dsimp only
    refine Same.fstOf e6 ?_
    with_reducible refine Same.step (State.formOut_same _ _ _ _) (by decide) ?_
    exact h2

theorem State.streamBoundary_same (x1 : State) :
    Same [.dict, .freeCtr, .ports, .streams, .test] x1 (State.streamBoundary x1) := by
  unfold State.streamBoundary
  extract_lets v0
  with_reducible refine Same.step (State.finishLeave_same _ _) (by decide) ?_
  with_reducible refine Same.step (State.finishLeave_same _ _) (by decide) ?_
  refine Same.foldl ?_ fun q1 y2 h3 => ?_
  · exact Same.refl _ _
  · with_reducible refine Same.step (State.closeIdle_same _ _) (by decide) ?_
    with_reducible refine Same.step (State.applyRebind_same _ _) (by decide) ?_
    exact h3

theorem State.discardFlight_same (x1 : State) :
    Same [.dict, .lastStatus, .freeCtr, .hostMem, .entries, .cores, .runs, .grants, .orphans, .stores, .staging, .requests, .trackers, .pair, .ports, .streams, .pw, .test] x1 (State.discardFlight x1) := by
  unfold State.discardFlight
  extract_lets v0 v1
  refine Same.have v0 ?_ fun h2 => ?_
  · refine Same.foldl ?_ fun q3 y4 h5 => ?_
    · exact Same.refl _ _
    · with_reducible refine Same.step (State.stepFault_same _ _ _) (by decide) ?_
      exact h5
  clear_value v0
  refine Same.have v1 ?_ fun h6 => ?_
  · with_reducible refine Same.step (State.discardCommands_same _) (by decide) ?_
    exact h2
  clear_value v1
  with_reducible refine Same.record rfl ?_ ?_
  · intro p hp; cases p <;> first | exact absurd (by decide) hp | exact rfl
  exact h6

theorem State.withdrawPast_same (x1 : State) :
    Same [.dict, .lastStatus, .freeCtr, .entries, .pair, .ports, .pw, .test] x1 (State.withdrawPast x1) := by
  unfold State.withdrawPast
  with_reducible refine Same.step (State.sweepEntries_same _ _) (by decide) ?_
  exact Same.refl _ _

theorem State.releaseBoundary_same (x1 : State) :
    Same [.dict, .lastStatus, .freeCtr, .hostMem, .entries, .cores, .runs, .grants, .orphans, .stopped, .halted, .stores, .ledger, .tlb, .migs, .staging, .requests, .trackers, .hub, .pair, .ports, .streams, .pw, .test] x1 (State.releaseBoundary x1) := by
  unfold State.releaseBoundary
  refine Same.ite ?_ ?_
  · exact Same.refl _ _
  · extract_lets v0 v1 v2
    refine Same.have v0 ?_ fun h3 => ?_
    · with_reducible refine Same.step (State.withdrawPast_same _) (by decide) ?_
      refine Same.ite ?_ ?_
      · with_reducible refine Same.step (State.discardFlight_same _) (by decide) ?_
        exact Same.refl _ _
      · exact Same.refl _ _
    clear_value v0
    refine Same.have v2 ?_ fun h4 => ?_
    · dsimp only [v2]
      with_reducible refine Same.record rfl ?_ ?_
      · intro p hp; cases p <;> first | exact absurd (by decide) hp | exact rfl
      exact h3
    clear_value v2
    with_reducible refine Same.step (State.feedDrains_same _) (by decide) ?_
    with_reducible refine Same.step (State.setReg_same _ _ _) (by decide) ?_
    exact h4

theorem State.freezeBoundary_same (x1 : State) :
    Same [.halted, .test] x1 (State.freezeBoundary x1) := by
  unfold State.freezeBoundary
  refine Same.ite ?_ ?_
  · with_reducible refine Same.record rfl ?_ ?_
    · intro p hp; cases p <;> first | exact absurd (by decide) hp | exact rfl
    exact Same.refl _ _
  · exact Same.refl _ _

theorem State.distribute_same (x1 : State) :
    Same [.dict, .lastStatus, .freeCtr, .entries, .pair, .ports, .pw, .test] x1 (State.distribute x1) := by
  unfold State.distribute
  split
  · rename_i e0 e1
    exact Same.refl _ _
  · rename_i e2 e3 e4
    refine Same.ite ?_ ?_
    · exact Same.refl _ _
    · extract_lets v5 v6
      refine Same.have v6 ?_ fun h7 => ?_
      · dsimp only [v6]
        with_reducible refine Same.record rfl ?_ ?_
        · intro p hp; cases p <;> first | exact absurd (by decide) hp | exact rfl
        exact Same.refl _ _
      clear_value v6
      with_reducible refine Same.step (State.sweepEntries_same _ _) (by decide) ?_
      exact h7

theorem State.fixBoundary_same (x1 : State) :
    Same [.dict, .prick, .seqs, .pair] x1 (State.fixBoundary x1) := by
  unfold State.fixBoundary
  refine Same.ite ?_ ?_
  · exact Same.refl _ _
  · extract_lets v0
    refine Same.have v0 ?_ fun h1 => ?_
    · with_reducible refine Same.step (State.fixNext_same _ _) (by decide) ?_
      exact Same.refl _ _
    clear_value v0
    split
    · rename_i e2 e3 e4 e5 e6
      with_reducible refine Same.step (State.tellMore_same _ _) (by decide) ?_
      exact h1
    · rename_i e7 e8 e9
      exact h1

theorem State.trimBoundary_same (x1 : State) :
    Same [.dict, .trimMode, .calCmd, .regions, .rings, .lanes] x1 (State.trimBoundary x1) := by
  unfold State.trimBoundary
  extract_lets v0 v1
  refine Same.have v1 ?_ fun h2 => ?_
  · refine Same.ite ?_ ?_
    · with_reducible refine Same.step (State.applyAllTrims_same _) (by decide) ?_
      exact Same.refl _ _
    · exact Same.refl _ _
  clear_value v1
  with_reducible refine Same.record rfl ?_ ?_
  · intro p hp; cases p <;> first | exact absurd (by decide) hp | exact rfl
  exact h2

theorem State.pointBoundary_same (x1 : State) :
    Same [.dict, .dies, .thermals, .pw] x1 (State.pointBoundary x1) := by
  unfold State.pointBoundary
  refine Same.foldl ?_ fun q0 y1 h2 => ?_
  · with_reducible refine Same.step (State.capCheck_same _) (by decide) ?_
    exact Same.refl _ _
  · with_reducible refine Same.step (State.boundaryPoint_same _ _) (by decide) ?_
    exact h2

theorem execFrameBoundary_same (x1 : State) :
    OutSame [.dict, .nv, .lastStatus, .freeCtr, .hostMem, .tb, .prick, .entries, .cores, .runs, .dies, .grants, .orphans, .stopped, .halted, .stores, .ledger, .tlb, .migs, .staging, .nvTrims, .trimMode, .calCmd, .regions, .rings, .lanes, .lasers, .requests, .seqs, .trackers, .xports, .hub, .pair, .ports, .streams, .thermals, .pw, .sec, .test] x1 (execFrameBoundary x1) := by
  unfold execFrameBoundary
  extract_lets v0 v1 v2 v3 v4 v5 v6 v7 v8 v9
  refine OutSame.have v8 ?_ fun h10 => ?_
  · with_reducible refine Same.step (State.advanceFrame_same _) (by decide) ?_
    exact Same.refl _ _
  clear_value v8
  refine OutSame.have v9 ?_ fun h11 => ?_
  · dsimp only [v9]
    with_reducible refine Same.record rfl ?_ ?_
    · intro p hp; cases p <;> first | exact absurd (by decide) hp | exact rfl
    exact h10
  clear_value v9
  refine OutSame.ite ?_ ?_
  · refine OutSame.next ?_
    exact Same.refl _ _
  · split
    rename_i e12 e13 e14 e15
    extract_lets v16 v17 v18 v19
    refine OutSame.have v16 ?_ fun h20 => ?_
    · with_reducible refine Same.step (State.streamBoundary_same _) (by decide) ?_
      with_reducible refine Same.step (State.pairBoundary_same _ _ _ _) (by decide) ?_
      refine Same.fstOf e15 ?_
      with_reducible refine Same.step (State.formAll_same _ _ _) (by decide) ?_
      exact h11
    clear_value v16
    refine OutSame.have v17 ?_ fun h21 => ?_
    · with_reducible refine Same.step (State.retentionStop_same _) (by decide) ?_
      with_reducible refine Same.step (State.freezeBoundary_same _) (by decide) ?_
      with_reducible refine Same.step (State.releaseBoundary_same _) (by decide) ?_
      exact h20
    clear_value v17
    refine OutSame.have v18 ?_ fun h22 => ?_
    · with_reducible refine Same.step (State.fixBoundary_same _) (by decide) ?_
      with_reducible refine Same.step (State.distribute_same _) (by decide) ?_
      with_reducible refine Same.step (State.patternBoundary_same _) (by decide) ?_
      exact h21
    clear_value v18
    refine OutSame.have v19 ?_ fun h23 => ?_
    · with_reducible refine Same.step (State.sliceBack_same _) (by decide) ?_
      with_reducible refine Same.step (State.pointBoundary_same _) (by decide) ?_
      with_reducible refine Same.step (State.trimBoundary_same _) (by decide) ?_
      exact h22
    clear_value v19
    refine OutSame.next ?_
    with_reducible refine Same.step (State.signal_same _ _) (by decide) ?_
    exact h23

end Sys2Proof.Machine
end

