-- ==== Sys2Proof/Laws/FrameHousekeeping.lean ====
section
/-! SUPPORT. Frames of the functions of Machine/Housekeeping.lean: one lemma a function, which says what parts of the state it
can change. -/

namespace Sys2Proof.Machine

open Sys2Proof

theorem State.readSensors_same (x1 : State) (x2 : List Int) :
    Same [.dict, .freeCtr, .sensors] x1 (State.readSensors x1 x2) := by
  unfold State.readSensors
  extract_lets v0 v1 v2 v3 v4
  refine Same.have v1 ?_ fun h5 => ?_
  · dsimp only [v1]
    dsimp only [v0]
    with_reducible refine Same.record rfl ?_ ?_
    · intro p hp; cases p <;> first | exact absurd (by decide) hp | exact rfl
    exact Same.refl _ _
  clear_value v1
  refine Same.have v2 ?_ fun h6 => ?_
  · dsimp only [v2]
    dsimp only [v0]
    with_reducible refine Same.record rfl ?_ ?_
    · intro p hp; cases p <;> first | exact absurd (by decide) hp | exact rfl
    exact h5
  clear_value v2
  refine Same.have v3 ?_ fun h7 => ?_
  · dsimp only [v3]
    dsimp only [v0]
    with_reducible refine Same.record rfl ?_ ?_
    · intro p hp; cases p <;> first | exact absurd (by decide) hp | exact rfl
    exact h6
  clear_value v3
  with_reducible refine Same.step (State.addReg_same _ _ _) (by decide) ?_
  with_reducible refine Same.record rfl ?_ ?_
  · intro p hp; cases p <;> first | exact absurd (by decide) hp | exact rfl
  exact h7

theorem State.countActions_same (x1 : State) (x2 x3 : Thermal) :
    Same [.dict] x1 (State.countActions x1 x2 x3) := by
  unfold State.countActions
  extract_lets v0 v1
  refine Same.have v0 ?_ fun h2 => ?_
  · refine Same.ite ?_ ?_
    · with_reducible refine Same.step (State.bump_same _ _) (by decide) ?_
      exact Same.refl _ _
    · exact Same.refl _ _
  clear_value v0
  refine Same.have v1 ?_ fun h3 => ?_
  · refine Same.ite ?_ ?_
    · with_reducible refine Same.step (State.bump_same _ _) (by decide) ?_
      exact h2
    · exact h2
  clear_value v1
  refine Same.ite ?_ ?_
  · with_reducible refine Same.step (State.bump_same _ _) (by decide) ?_
    exact h3
  · exact h3

theorem State.throttleUnit_same (x1 : State) (x2 : Nat) :
    Same [.dict, .dies, .thermals, .pw, .test] x1 (State.throttleUnit x1 x2) := by
  unfold State.throttleUnit
  extract_lets v0 v1 v2 v3 v4 v5
  refine Same.have v5 ?_ fun h6 => ?_
  · with_reducible refine Same.step (State.countActions_same _ _ _) (by decide) ?_
    with_reducible refine Same.step (State.setThermal_same _ _ _) (by decide) ?_
    exact Same.refl _ _
  clear_value v5
  refine Same.ite ?_ ?_
  · with_reducible refine Same.step (State.throttle_same _ _) (by decide) ?_
    exact h6
  · exact h6

theorem State.trippedUnit_same (x1 : State) (x2 : Nat) (x3 : List Nat) (x4 : Bool) :
    Same [.stores, .thermals] x1 (State.trippedUnit x1 x2 x3 x4) := by
  unfold State.trippedUnit
  extract_lets v0 v1 v2 v3 v4 v5 v6
  refine Same.have v6 ?_ fun h7 => ?_
  · with_reducible refine Same.step (State.setThermal_same _ _ _) (by decide) ?_
    exact Same.refl _ _
  clear_value v6
  refine Same.ite ?_ ?_
  · refine Same.foldl ?_ fun q8 y9 h10 => ?_
    · exact h7
    · with_reducible refine Same.step (State.setStore_same _ _ _) (by decide) ?_
      exact h10
  · exact h7

theorem State.dieRound_same (x1 x2 : State) (x3 : Nat) :
    Same [.dict, .lastStatus, .freeCtr, .hostMem, .entries, .cores, .runs, .dies, .grants, .orphans, .stores, .lanes, .pair, .ports, .streams, .thermals, .pw, .sec, .test] x2 (State.dieRound x1 x2 x3) := by
  unfold State.dieRound
  extract_lets v0 v1
  refine Same.have v1 ?_ fun h2 => ?_
  · with_reducible refine Same.step (State.setThermal_same _ _ _) (by decide) ?_
    exact Same.refl _ _
  clear_value v1
  refine Same.ite ?_ ?_
  · with_reducible refine Same.step (State.trippedUnit_same _ _ _ _) (by decide) ?_
    exact h2
  · refine Same.ite ?_ ?_
    · exact h2
    · split
      rename_i e3 e4 e5 e6
      extract_lets v7
      refine Same.have v7 ?_ fun h8 => ?_
      · with_reducible refine Same.step (State.addReg_same _ _ _) (by decide) ?_
        exact h2
      clear_value v7
      refine Same.ite ?_ ?_
      · with_reducible refine Same.step (State.dieTrip_same _ _) (by decide) ?_
        exact h8
      · with_reducible refine Same.step (State.throttleUnit_same _ _) (by decide) ?_
        exact h8

theorem State.hubRound_same (x1 x2 : State) :
    Same [.dict, .dies, .thermals, .pw, .test] x2 (State.hubRound x1 x2).1 := by
  unfold State.hubRound
  extract_lets v0 v1
  refine Same.have v1 ?_ fun h2 => ?_
  · with_reducible refine Same.step (State.setThermal_same _ _ _) (by decide) ?_
    exact Same.refl _ _
  clear_value v1
  split
  rename_i e3 e4 e5 e6
  extract_lets v7
  refine Same.have v7 ?_ fun h8 => ?_
  · with_reducible refine Same.step (State.addReg_same _ _ _) (by decide) ?_
    exact h2
  clear_value v7
  dsimp only
  with_reducible refine Same.step (State.throttleUnit_same _ _) (by decide) ?_
  exact h8

theorem State.fieldRound_same (x1 x2 : State) (x3 : Nat) :
    Same [.dict, .lastStatus, .freeCtr, .hostMem, .tb, .prick, .entries, .cores, .runs, .dies, .grants, .nextGrant, .orphans, .stopped, .patCmd, .halted, .stores, .ledger, .tlb, .epoch, .heldFrames, .migs, .ledgerCmd, .ledgerTurn, .chans, .staging, .stagingTurn, .trimWords, .trimMode, .calCmd, .regions, .rings, .lanes, .paths, .arbiters, .lasers, .identReports, .requests, .seqs, .phases, .trackers, .replies, .guards, .lastResponse, .lineCache, .xports, .routes, .hub, .routeLoad, .pair, .ports, .streams, .sqPort, .dap, .thermals, .sensors, .pw, .sec, .test] x2 (State.fieldRound x1 x2 x3).1 := by
  unfold State.fieldRound
  refine Same.iteFst ?_ ?_
  · dsimp only
    with_reducible refine Same.step (State.trippedUnit_same _ _ _ _) (by decide) ?_
    exact Same.refl _ _
  · split
    rename_i e0 e1 e2 e3
    extract_lets v4 v5 v6 v7 v8 v9 v10 v11 v12 v13 v14
    refine Same.have v14 ?_ fun h15 => ?_
    · with_reducible refine Same.step (State.addReg_same _ _ _) (by decide) ?_
      exact Same.refl _ _
    clear_value v14
    dsimp only
    refine Same.ite ?_ ?_
    · with_reducible refine Same.step (State.regionTrip_same _ _) (by decide) ?_
      exact h15
    · exact h15

theorem State.ringRound_same (x1 : State) (x2 : Bool) :
    Same [.rings] x1 (State.ringRound x1 x2) := by
  unfold State.ringRound
  extract_lets v0 v1
  with_reducible refine Same.record rfl ?_ ?_
  · intro p hp; cases p <;> first | exact absurd (by decide) hp | exact rfl
  exact Same.refl _ _

theorem State.scheduleCals_same (x1 : State) :
    Same [.lanes] x1 (State.scheduleCals x1) := by
  unfold State.scheduleCals
  refine Same.foldl ?_ fun q0 y1 h2 => ?_
  · exact Same.refl _ _
  · extract_lets v3
    refine Same.ite ?_ ?_
    · exact h2
    · refine Same.ite ?_ ?_
      · with_reducible refine Same.step (State.setLane_same _ _ _ _) (by decide) ?_
        exact h2
      · refine Same.ite ?_ ?_
        · with_reducible refine Same.step (State.setLane_same _ _ _ _) (by decide) ?_
          exact h2
        · exact h2

theorem State.memoryRound_same (x1 : State) (x2 : Readings) :
    Same [.stores, .chans] x1 (State.memoryRound x1 x2) := by
  unfold State.memoryRound
  extract_lets v0
  refine Same.have v0 ?_ fun h1 => ?_
  · refine Same.foldl ?_ fun q2 y3 h4 => ?_
    · exact Same.refl _ _
    · extract_lets v5 v6
      with_reducible refine Same.step (State.setStore_same _ _ _) (by decide) ?_
      exact h4
  clear_value v0
  refine Same.foldl ?_ fun q7 y8 h9 => ?_
  · exact h1
  · split
    · rename_i e10 e11
      exact h9
    · rename_i e12 e13 e14 e15
      refine Same.ite ?_ ?_
      · with_reducible refine Same.step (State.setChan_same _ _ _) (by decide) ?_
        with_reducible refine Same.step (State.setStore_same _ _ _) (by decide) ?_
        exact h9
      · with_reducible refine Same.step (State.setChan_same _ _ _) (by decide) ?_
        with_reducible refine Same.step (State.setStore_same _ _ _) (by decide) ?_
        exact h9

theorem State.isolateDie_same (x1 : State) (x2 : Nat) :
    Same [.dict, .lastStatus, .freeCtr, .hostMem, .entries, .cores, .runs, .dies, .grants, .orphans, .stores, .ledger, .tlb, .migs, .ledgerCmd, .nvTrims, .calCmd, .regions, .rings, .lanes, .paths, .trackers, .replies, .lastResponse, .xports, .pair, .ports, .streams, .pw, .sec, .test] x1 (State.isolateDie x1 x2) := by
  unfold State.isolateDie
  extract_lets v0 v1 v2 v3 v4 v5
  refine Same.have v2 ?_ fun h6 => ?_
  · with_reducible refine Same.step (State.discardDie_same _ _ _) (by decide) ?_
    with_reducible refine Same.step (State.setDie_same _ _ _) (by decide) ?_
    exact Same.refl _ _
  clear_value v2
  refine Same.have v4 ?_ fun h7 => ?_
  · with_reducible refine Same.step (State.parkRegion_same _ _) (by decide) ?_
    with_reducible refine Same.step (State.setRegion_same _ _ _) (by decide) ?_
    exact h6
  clear_value v4
  refine Same.have v5 ?_ fun h8 => ?_
  · refine Same.foldl ?_ fun q9 y10 h11 => ?_
    · exact h7
    · with_reducible refine Same.step (State.endDark_same _ _) (by decide) ?_
      exact h11
  clear_value v5
  with_reducible refine Same.step (State.dropFresh_same _) (by decide) ?_
  with_reducible refine Same.step (State.dropSlices_same _ _) (by decide) ?_
  with_reducible refine Same.step (State.holdTransfers_same _) (by decide) ?_
  with_reducible refine Same.step (State.calDrop_same _ _) (by decide) ?_
  with_reducible refine Same.step (State.dropCals_same _ _) (by decide) ?_
  exact h8

theorem State.ifaceOut_same (x1 : State) (x2 : Conn) :
    Same [.dict, .lastStatus, .freeCtr, .hostMem, .entries, .cores, .runs, .dies, .grants, .orphans, .fieldMap, .stores, .ledger, .tlb, .migs, .ledgerCmd, .nvTrims, .calCmd, .regions, .rings, .lanes, .paths, .trackers, .replies, .lastResponse, .xports, .pair, .ports, .streams, .pw, .sec, .test] x1 (State.ifaceOut x1 x2) := by
  unfold State.ifaceOut
  split
  · rename_i e0 e1 e2
    with_reducible refine Same.step (State.ladder_same _ _ _) (by decide) ?_
    exact Same.refl _ _
  · rename_i e3 e4 e5
    refine Same.ite ?_ ?_
    · exact Same.refl _ _
    · extract_lets v6 v7
      refine Same.have v6 ?_ fun h8 => ?_
      · with_reducible refine Same.step (State.dropSlices_same _ _) (by decide) ?_
        exact Same.refl _ _
      clear_value v6
      with_reducible refine Same.step (State.setStore_same _ _ _) (by decide) ?_
      exact h8
  · rename_i e9 e10 e11 e12
    refine Same.ite ?_ ?_
    · exact Same.refl _ _
    · with_reducible refine Same.step (State.isolateDie_same _ _) (by decide) ?_
      exact Same.refl _ _
  · rename_i e13 e14 e15
    with_reducible refine Same.step (State.reportSite_same _ _) (by decide) ?_
    with_reducible refine Same.step (State.setDie_same _ _ _) (by decide) ?_
    exact Same.refl _ _

theorem State.loseConn_same (x1 : State) (x2 : Conn) :
    Same [.dict, .lastStatus, .freeCtr, .hostMem, .entries, .cores, .runs, .dies, .grants, .orphans, .fieldMap, .stores, .ledger, .tlb, .migs, .ledgerCmd, .nvTrims, .calCmd, .regions, .rings, .lanes, .paths, .trackers, .replies, .lastResponse, .xports, .pair, .ports, .streams, .pw, .sec, .test] x1 (State.loseConn x1 x2) := by
  unfold State.loseConn
  refine Same.ite ?_ ?_
  · exact Same.refl _ _
  · extract_lets v0 v1 v2
    refine Same.have v2 ?_ fun h3 => ?_
    · with_reducible refine Same.step (State.setDie_same _ _ _) (by decide) ?_
      exact Same.refl _ _
    clear_value v2
    refine Same.ite ?_ ?_
    · with_reducible refine Same.step (State.mapRecord_same _ _) (by decide) ?_
      exact h3
    · with_reducible refine Same.step (State.ifaceOut_same _ _) (by decide) ?_
      exact h3

theorem State.bankLayers_same (x1 : State) (x2 : List (Fin 8)) :
    Same [.dict, .lastStatus, .freeCtr, .hostMem, .entries, .cores, .runs, .dies, .grants, .orphans, .stores, .pair, .ports, .streams, .pw, .test] x1 (State.bankLayers x1 x2) := by
  unfold State.bankLayers
  refine Same.foldl ?_ fun q0 y1 h2 => ?_
  · exact Same.refl _ _
  · extract_lets v3 v4 v5
    refine Same.have v5 ?_ fun h6 => ?_
    · with_reducible refine Same.step (State.setDie_same _ _ _) (by decide) ?_
      exact h2
    clear_value v5
    refine Same.ite ?_ ?_
    · with_reducible refine Same.step (State.discardDie_same _ _ _) (by decide) ?_
      exact h6
    · exact h6

theorem State.laserRound_same (x1 : State) (x2 : Nat) (x3 : List Int) (x4 : Bool) :
    Same [.dict, .lastStatus, .freeCtr, .hostMem, .entries, .cores, .runs, .grants, .orphans, .stores, .ledger, .tlb, .migs, .ledgerCmd, .nvTrims, .regions, .rings, .lanes, .paths, .lasers, .trackers, .replies, .lastResponse, .xports, .pair, .ports, .streams, .pw, .sec, .test] x1 (State.laserRound x1 x2 x3 x4) := by
  unfold State.laserRound
  extract_lets v0 v1 v2 v3 v4 v5 v6 v7 v8
  refine Same.have v5 ?_ fun h9 => ?_
  · with_reducible refine Same.step (State.setLaser_same _ _ _) (by decide) ?_
    exact Same.refl _ _
  clear_value v5
  refine Same.ite ?_ ?_
  · exact h9
  · refine Same.ite ?_ ?_
    · with_reducible refine Same.step (State.laserFail_same _ _ _) (by decide) ?_
      exact h9
    · with_reducible refine Same.step (State.laserPut_same _ _ _) (by decide) ?_
      exact h9

theorem State.lightRound_same (x1 : State) (x2 : Readings) :
    Same [.dict, .lastStatus, .freeCtr, .hostMem, .entries, .cores, .runs, .grants, .orphans, .stores, .ledger, .tlb, .migs, .ledgerCmd, .nvTrims, .regions, .rings, .lanes, .paths, .lasers, .trackers, .replies, .lastResponse, .xports, .pair, .ports, .streams, .pw, .sec, .test] x1 (State.lightRound x1 x2) := by
  unfold State.lightRound
  extract_lets v0 v1
  refine Same.have v0 ?_ fun h2 => ?_
  · refine Same.foldl ?_ fun q3 y4 h5 => ?_
    · exact Same.refl _ _
    · refine Same.ite ?_ ?_
      · with_reducible refine Same.step (State.setReg_same _ _ _) (by decide) ?_
        exact h5
      · exact h5
  clear_value v0
  refine Same.have v1 ?_ fun h6 => ?_
  · refine Same.foldl ?_ fun q7 y8 h9 => ?_
    · exact h2
    · refine Same.ite ?_ ?_
      · with_reducible refine Same.step (State.setReg_same _ _ _) (by decide) ?_
        with_reducible refine Same.step (State.setReg_same _ _ _) (by decide) ?_
        exact h9
      · exact h9
  clear_value v1
  with_reducible refine Same.step (State.laserRound_same _ _ _ _) (by decide) ?_
  with_reducible refine Same.step (State.laserRound_same _ _ _ _) (by decide) ?_
  exact h6

theorem State.coolantRound_same (x1 : State) (x2 : Readings) :
    Same [.dict, .dies, .pw, .test] x1 (State.coolantRound x1 x2) := by
  unfold State.coolantRound
  extract_lets v0 v1 v2 v3 v4 v5
  refine Same.have v3 ?_ fun h6 => ?_
  · with_reducible refine Same.step (State.setPw_same _ _) (by decide) ?_
    exact Same.refl _ _
  clear_value v3
  refine Same.have v5 ?_ fun h7 => ?_
  · with_reducible refine Same.step (State.setReg_same _ _ _) (by decide) ?_
    with_reducible refine Same.step (State.setReg_same _ _ _) (by decide) ?_
    with_reducible refine Same.step (State.setReg_same _ _ _) (by decide) ?_
    with_reducible refine Same.step (State.setReg_same _ _ _) (by decide) ?_
    exact h6
  clear_value v5
  refine Same.ite ?_ ?_
  · refine Same.foldl ?_ fun q8 y9 h10 => ?_
    · exact h7
    · with_reducible refine Same.step (State.throttle_same _ _) (by decide) ?_
      exact h10
  · exact h7

theorem State.powerRound_same (x1 : State) (x2 : Readings) :
    Same [.dict, .pw] x1 (State.powerRound x1 x2) := by
  unfold State.powerRound
  extract_lets v0 v1 v2 v3 v4 v5 v6
  refine Same.have v2 ?_ fun h7 => ?_
  · with_reducible refine Same.step (State.setPw_same _ _) (by decide) ?_
    exact Same.refl _ _
  clear_value v2
  refine Same.have v4 ?_ fun h8 => ?_
  · with_reducible refine Same.step (State.setReg_same _ _ _) (by decide) ?_
    with_reducible refine Same.step (State.setReg_same _ _ _) (by decide) ?_
    exact h7
  clear_value v4
  refine Same.have v5 ?_ fun h9 => ?_
  · refine Same.foldl ?_ fun q10 y11 h12 => ?_
    · exact h8
    · with_reducible refine Same.step (State.setReg_same _ _ _) (by decide) ?_
      exact h12
  clear_value v5
  refine Same.ite ?_ ?_
  · with_reducible refine Same.step (State.stick_same _ _ _) (by decide) ?_
    exact h9
  · exact h9

theorem State.reports_same (x1 : State) (x2 : Readings) :
    Same [.dict, .trimWords, .pair] x1 (State.reports x1 x2) := by
  unfold State.reports
  extract_lets v0 v1 v2 v3 v4 v5
  refine Same.have v0 ?_ fun h6 => ?_
  · refine Same.foldl ?_ fun q7 y8 h9 => ?_
    · exact Same.refl _ _
    · with_reducible refine Same.step (State.setReg_same _ _ _) (by decide) ?_
      with_reducible refine Same.step (State.setReg_same _ _ _) (by decide) ?_
      exact h9
  clear_value v0
  refine Same.have v1 ?_ fun h10 => ?_
  · dsimp only [v1]
    with_reducible refine Same.record rfl ?_ ?_
    · intro p hp; cases p <;> first | exact absurd (by decide) hp | exact rfl
    exact h6
  clear_value v1
  refine Same.have v2 ?_ fun h11 => ?_
  · refine Same.foldl ?_ fun q12 y13 h14 => ?_
    · exact h10
    · with_reducible refine Same.step (State.setReg_same _ _ _) (by decide) ?_
      exact h14
  clear_value v2
  refine Same.have v3 ?_ fun h15 => ?_
  · refine Same.foldl ?_ fun q16 y17 h18 => ?_
    · exact h11
    · with_reducible refine Same.step (State.setReg_same _ _ _) (by decide) ?_
      exact h18
  clear_value v3
  refine Same.have v4 ?_ fun h19 => ?_
  · with_reducible refine Same.step (State.reportOsc_same _) (by decide) ?_
    exact h15
  clear_value v4
  refine Same.have v5 ?_ fun h20 => ?_
  · refine Same.ite ?_ ?_
    · with_reducible refine Same.step (State.pairReport_same _) (by decide) ?_
      exact h19
    · exact h19
  clear_value v5
  refine Same.ite ?_ ?_
  · refine Same.foldl ?_ fun q21 y22 h23 => ?_
    · exact h20
    · with_reducible refine Same.step (State.reportSite_same _ _) (by decide) ?_
      exact h23
  · exact h20

theorem State.roundActs_same (x1 x2 : State) (x3 : Readings) (x4 : Bool) :
    Same [.dict, .lastStatus, .freeCtr, .hostMem, .entries, .cores, .runs, .dies, .grants, .orphans, .fieldMap, .stores, .ledger, .tlb, .migs, .ledgerCmd, .chans, .nvTrims, .trimWords, .calCmd, .regions, .rings, .lanes, .paths, .arbiters, .lasers, .trackers, .replies, .lastResponse, .xports, .hub, .pair, .ports, .streams, .dap, .thermals, .pw, .sec, .test] x2 (State.roundActs x1 x2 x3 x4) := by
  unfold State.roundActs
  extract_lets v0 v1 v2 v3 v4 v5 v6 v7 v8 v9 v10 v11 v12 v13
  refine Same.have v7 ?_ fun h14 => ?_
  · refine Same.foldl ?_ fun q15 y16 h17 => ?_
    · exact Same.refl _ _
    · with_reducible refine Same.step (State.dieRound_same _ _ _) (by decide) ?_
      exact h17
  clear_value v7
  refine Same.have v8 ?_ fun h18 => ?_
  · refine Same.foldl ?_ fun q19 y20 h21 => ?_
    · with_reducible refine Same.step (State.scheduleCals_same _) (by decide) ?_
      with_reducible refine Same.step (State.ringRound_same _ _) (by decide) ?_
      exact h14
    · with_reducible refine Same.step (State.dueFullCal_same _ _) (by decide) ?_
      exact h21
  clear_value v8
  refine Same.have v9 ?_ fun h22 => ?_
  · refine Same.foldl ?_ fun q23 y24 h25 => ?_
    · with_reducible refine Same.step (State.bankLayers_same _ _) (by decide) ?_
      with_reducible refine Same.step (State.memoryRound_same _ _) (by decide) ?_
      exact h18
    · with_reducible refine Same.step (State.loseConn_same _ _) (by decide) ?_
      exact h25
  clear_value v9
  refine Same.have v10 ?_ fun h26 => ?_
  · with_reducible refine Same.step (State.powerRound_same _ _) (by decide) ?_
    with_reducible refine Same.step (State.coolantRound_same _ _) (by decide) ?_
    with_reducible refine Same.step (State.lightRound_same _ _) (by decide) ?_
    exact h22
  clear_value v10
  refine Same.have v12 ?_ fun h27 => ?_
  · refine Same.ite ?_ ?_
    · with_reducible refine Same.record rfl ?_ ?_
      · intro p hp; cases p <;> first | exact absurd (by decide) hp | exact rfl
      exact h26
    · exact h26
  clear_value v12
  refine Same.have v13 ?_ fun h28 => ?_
  · with_reducible refine Same.step (State.setDap_same _ _) (by decide) ?_
    with_reducible refine Same.step (State.reports_same _ _) (by decide) ?_
    with_reducible refine Same.step (State.feedAll_same _) (by decide) ?_
    exact h27
  clear_value v13
  with_reducible refine Same.step (State.notifyAll_same _) (by decide) ?_
  exact h28

theorem execHousekeepingRound_same (x1 : Readings) (x2 : State) :
    OutSame [.dict, .lastStatus, .freeCtr, .hostMem, .tb, .prick, .entries, .cores, .runs, .dies, .grants, .nextGrant, .orphans, .stopped, .fieldMap, .patCmd, .halted, .stores, .ledger, .tlb, .epoch, .heldFrames, .migs, .ledgerCmd, .ledgerTurn, .chans, .staging, .stagingTurn, .nvTrims, .trimWords, .trimMode, .calCmd, .regions, .rings, .lanes, .paths, .arbiters, .lasers, .identReports, .requests, .seqs, .phases, .trackers, .replies, .guards, .lastResponse, .lineCache, .xports, .routes, .hub, .routeLoad, .pair, .ports, .streams, .sqPort, .dap, .thermals, .sensors, .pw, .sec, .test] x2 (execHousekeepingRound x1 x2) := by
  unfold execHousekeepingRound
  refine OutSame.ite ?_ ?_
  · refine OutSame.next ?_
    exact Same.refl _ _
  · extract_lets v0 v1 v2 v3 v4 v5 v6 v7 v8 v9 v10 v11 v12 v13
    refine OutSame.have v13 ?_ fun h14 => ?_
    · with_reducible refine Same.step (State.readSensors_same _ _) (by decide) ?_
      exact Same.refl _ _
    clear_value v13
    split
    rename_i e15 e16 e17 e18
    split
    rename_i e19 e20 e21 e22
    refine OutSame.ite ?_ ?_
    · refine OutSame.next ?_
      with_reducible refine Same.step (State.faultOff_same _ _) (by decide) ?_
      refine Same.fstOf e22 ?_
      refine Same.foldlFst ?_ fun q23 y24 h25 => ?_
      · dsimp only
        refine Same.fstOf e18 ?_
        with_reducible refine Same.step (State.hubRound_same _ _) (by decide) ?_
        exact h14
      · split
        rename_i e26 e27 e28 e29
        dsimp only
        refine Same.fstOf e29 ?_
        with_reducible refine Same.step (State.fieldRound_same _ _ _) (by decide) ?_
        exact h25
    · refine OutSame.next ?_
      with_reducible refine Same.step (State.roundActs_same _ _ _ _) (by decide) ?_
      refine Same.fstOf e22 ?_
      refine Same.foldlFst ?_ fun q30 y31 h32 => ?_
      · dsimp only
        refine Same.fstOf e18 ?_
        with_reducible refine Same.step (State.hubRound_same _ _) (by decide) ?_
        exact h14
      · split
        rename_i e33 e34 e35 e36
        dsimp only
        refine Same.fstOf e36 ?_
        with_reducible refine Same.step (State.fieldRound_same _ _ _) (by decide) ?_
        exact h32

end Sys2Proof.Machine
end

