-- ==== Sys2Proof/Laws/Keep.lean ====
section
/-! SUPPORT. What no command takes away: the canonical form of the dictionary and of the non-volatile store, the bound of
the field map, the values that fuses hold, the field seal, and the height of the rollback counters. The lemmas compose
over the functions of the model as those of `Same` do. -/

namespace Sys2Proof

open Sys2Proof.Machine

/-- A table of counters keeps its order, and no counter falls. -/
def CountsUp (a b : Tbl Nat) : Prop :=
  Tbl.rising a = true → Tbl.rising b = true ∧ ∀ c, Tbl.get 0 a c ≤ Tbl.get 0 b c

/-- What the security part keeps. -/
structure SecKeeps (x y : Sec) : Prop where
  fuses : y.fuses = x.fuses
  sealed : x.sealBits ≠ 0 → y.sealBits ≠ 0
  counters : CountsUp x.counters y.counters
  blown : CountsUp x.blown y.blown

/-- What every function of the state keeps. -/
structure Keeps (s t : State) : Prop where
  dict : dictWf s.dict ∧ dictWf s.nv → dictWf t.dict ∧ dictWf t.nv
  map : s.fieldMap.length ≤ 65536 → t.fieldMap.length ≤ 65536
  sec : SecKeeps s.sec t.sec

theorem CountsUp.refl (a : Tbl Nat) : CountsUp a a := fun h => ⟨h, fun _ => Nat.le_refl _⟩

theorem CountsUp.trans {a b c : Tbl Nat} (h : CountsUp a b) (g : CountsUp b c) : CountsUp a c :=
  fun r => ⟨(g (h r).1).1, fun i => Nat.le_trans ((h r).2 i) ((g (h r).1).2 i)⟩

theorem CountsUp.put {a : Tbl Nat} {c v : Nat} (h : Tbl.rising a = true → Tbl.get 0 a c ≤ v) :
    CountsUp a (Tbl.put 0 a c v) := by
  intro r
  refine ⟨Tbl.rising_put 0 c v r, fun i => ?_⟩
  rw [Tbl.get_put 0 r]
  split
  · rename_i hi; subst hi; exact h r
  · exact Nat.le_refl _

theorem SecKeeps.refl (x : Sec) : SecKeeps x x := ⟨rfl, id, CountsUp.refl _, CountsUp.refl _⟩

theorem SecKeeps.trans {x y z : Sec} (h : SecKeeps x y) (g : SecKeeps y z) : SecKeeps x z :=
  ⟨g.fuses.trans h.fuses, fun k => g.sealed (h.sealed k), h.counters.trans g.counters, h.blown.trans g.blown⟩

/-- An update that leaves the kept fields of the security part alone. -/
theorem SecKeeps.of_eq {x y : Sec} (a : y.fuses = x.fuses) (b : y.sealBits = x.sealBits) (c : y.counters = x.counters)
    (d : y.blown = x.blown) : SecKeeps x y :=
  ⟨a, by rw [b]; exact id, by rw [c]; exact CountsUp.refl _, by rw [d]; exact CountsUp.refl _⟩

theorem Keeps.refl (s : State) : Keeps s s := ⟨id, id, SecKeeps.refl _⟩

theorem Keeps.trans {s t u : State} (h : Keeps s t) (g : Keeps t u) : Keeps s u :=
  ⟨fun k => g.dict (h.dict k), fun k => g.map (h.map k), h.sec.trans g.sec⟩

theorem Keeps.of_eq {s t : State} (a : t.dict = s.dict) (b : t.nv = s.nv) (c : t.fieldMap = s.fieldMap)
    (d : t.sec = s.sec) : Keeps s t :=
  ⟨by rw [a, b]; exact id, by rw [c]; exact id, by rw [d]; exact SecKeeps.refl _⟩

/-- A function that leaves these four parts alone keeps what they must keep. -/
theorem Keeps.ofSame {W : List Part} {s t : State} (h : Same W s t)
    (hw : (!W.contains .dict && !W.contains .nv && !W.contains .fieldMap && !W.contains .sec) = true) : Keeps s t := by
  simp only [Bool.and_eq_true, Bool.not_eq_true', List.contains_eq_mem, decide_eq_false_iff_not] at hw
  exact Keeps.of_eq (h .dict hw.1.1.1) (h .nv hw.1.1.2) (h .fieldMap hw.1.2) (h .sec hw.2)

/-- An update of the security part. -/
theorem Keeps.secUpd {s t : State} (a : t.dict = s.dict) (b : t.nv = s.nv) (c : t.fieldMap = s.fieldMap)
    (d : SecKeeps s.sec t.sec) : Keeps s t := ⟨by rw [a, b]; exact id, by rw [c]; exact id, d⟩

/-- An update that takes entries out of the field map. -/
theorem Keeps.mapLe {s t : State} (a : t.dict = s.dict) (b : t.nv = s.nv)
    (c : t.fieldMap.length ≤ s.fieldMap.length) (d : t.sec = s.sec) : Keeps s t :=
  ⟨by rw [a, b]; exact id, fun h => Nat.le_trans c h, by rw [d]; exact SecKeeps.refl _⟩

theorem Keeps.step {s t u : State} (g : Keeps t u) (h : Keeps s t) : Keeps s u := h.trans g

theorem Keeps.record {s t : State} {a1 a2 a3 a4 a5 a6 a7 a8 a9 a10 a11 a12 a13 a14 a15 a16 a17 a18 a19 a20 a21 a22 a23
    a24 a25 a26 a27 a28 a29 a30 a31 a32 a33 a34 a35 a36 a37 a38 a39 a40 a41 a42 a43 a44 a45 a46 a47 a48 a49 a50 a51
    a52 a53 a54 a55 a56 a57 a58 a59 a60 a61 a62 a63 a64 a65}
    (_ : a65 = t.pending) (g : Keeps t (State.mk a1 a2 a3 a4 a5 a6 a7 a8 a9 a10 a11 a12 a13 a14 a15 a16 a17 a18 a19
    a20 a21 a22 a23 a24 a25 a26 a27 a28 a29 a30 a31 a32 a33 a34 a35 a36 a37 a38 a39 a40 a41 a42 a43 a44 a45 a46 a47
    a48 a49 a50 a51 a52 a53 a54 a55 a56 a57 a58 a59 a60 a61 a62 a63 a64 a65))
    (h : Keeps s t) : Keeps s (State.mk a1 a2 a3 a4 a5 a6 a7 a8 a9 a10 a11 a12 a13 a14 a15 a16 a17 a18 a19 a20 a21 a22
    a23 a24 a25 a26 a27 a28 a29 a30 a31 a32 a33 a34 a35 a36 a37 a38 a39 a40 a41 a42 a43 a44 a45 a46 a47 a48 a49 a50
    a51 a52 a53 a54 a55 a56 a57 a58 a59 a60 a61 a62 a63 a64 a65) := h.trans g

theorem Keeps.ite {s a b : State} {c : Prop} [Decidable c] (h : Keeps s a) (g : Keeps s b) :
    Keeps s (if c then a else b) := by split <;> assumption

theorem Keeps.foldl {α : Type} {s0 s : State} {f : State → α → State} {l : List α}
    (h : Keeps s0 s) (hf : ∀ t x, Keeps s0 t → Keeps s0 (f t x)) : Keeps s0 (l.foldl f s) := by
  induction l generalizing s with
  | nil => exact h
  | cons x r ih => exact ih (hf s x h)

theorem Keeps.foldlFst {α β : Type} {s0 : State} {p : State × β} {f : State × β → α → State × β}
    {l : List α} (h : Keeps s0 p.1) (hf : ∀ q x, Keeps s0 q.1 → Keeps s0 (f q x).1) :
    Keeps s0 (l.foldl f p).1 := by
  induction l generalizing p with
  | nil => exact h
  | cons x r ih => exact ih (hf p x h)

theorem Keeps.iteFst {β : Type} {s : State} {a b : State × β} {c : Prop} [Decidable c]
    (h : Keeps s a.1) (g : Keeps s b.1) : Keeps s (if c then a else b).1 := by split <;> assumption

theorem Keeps.loopTo {s0 s : State} {n : Nat} {f : Nat → State → State}
    (h : Keeps s0 s) (hf : ∀ t i, Keeps s0 t → Keeps s0 (f i t)) : Keeps s0 (loopTo n f s) :=
  Keeps.foldl h hf

theorem Keeps.have {s u : State} (t : State) (h : Keeps s t) (k : Keeps s t → Keeps s u) : Keeps s u := k h

theorem Keeps.fstOf {β : Type} {s t : State} {p : State × β} {b : β} (e : p = (t, b)) (h : Keeps s p.1) :
    Keeps s t := by subst e; exact h

theorem Keeps.failOf {s t : State} {l : Landed} {c a f : Nat} (e : l = .fail t c a f) (h : Keeps s l.after) :
    Keeps s t := by subst e; exact h

theorem Keeps.doneOf {s t : State} {l : Landed} {f : Nat} (e : l = .done t f) (h : Keeps s l.after) :
    Keeps s t := by subst e; exact h

theorem Keeps.failFstOf {β : Type} {s t : State} {p : Landed × β} {c a f : Nat} {b : β}
    (e : p = (.fail t c a f, b)) (h : Keeps s p.1.after) : Keeps s t := by subst e; exact h

theorem Keeps.doneFstOf {β : Type} {s t : State} {p : Landed × β} {f : Nat} {b : β}
    (e : p = (.done t f, b)) (h : Keeps s p.1.after) : Keeps s t := by subst e; exact h

/-- What a command keeps when it answers a next state. -/
structure OutKeeps (s : State) (o : Out) : Prop where
  ofNext : ∀ t, o = .next t → Keeps s t

theorem OutKeeps.have {s : State} {o : Out} (t : State) (h : Keeps s t) (k : Keeps s t → OutKeeps s o) :
    OutKeeps s o := k h

theorem OutKeeps.next {s t : State} (h : Keeps s t) : OutKeeps s (.next t) :=
  ⟨by intro u hu; cases hu; exact h⟩

theorem OutKeeps.ofSame {W : List Part} {s : State} {o : Out} (h : OutSame W s o)
    (hw : (!W.contains .dict && !W.contains .nv && !W.contains .fieldMap && !W.contains .sec) = true) : OutKeeps s o :=
  ⟨fun t e => Keeps.ofSame (h.ofNext t e) hw⟩

theorem OutKeeps.ite {s : State} {a b : Out} {c : Prop} [Decidable c] (h : OutKeeps s a)
    (g : OutKeeps s b) : OutKeeps s (if c then a else b) := by split <;> assumption

end Sys2Proof
end

