-- ==== Sys2Proof/Laws/KeepOps.lean ====
section
/-! SUPPORT. What the functions of Machine/Ops.lean keep: the dictionary and the store in canonical form, the field map
bounded, the fuses, the seal and the rollback counters. -/

namespace Sys2Proof.Machine

open Sys2Proof

theorem State.setReg_keeps (s : State) (k v : Nat) : Keeps s (s.setReg k v) :=
  ⟨fun h => ⟨dictWf_put k v h.1, h.2⟩, id, SecKeeps.refl _⟩

theorem State.keep_keeps (s : State) (k v : Nat) : Keeps s (s.keep k v) := by
  unfold State.keep
  extract_lets s1
  have h1 : Keeps s s1 := State.setReg_keeps s k v
  refine Keeps.ite h1 (h1.trans ⟨fun h => ⟨h.1, ?_⟩, id, SecKeeps.refl _⟩)
  exact dictWf_put k v h.2

theorem State.addReg_keeps (x1 : State) (x2 x3 : Nat) :
    Keeps x1 (State.addReg x1 x2 x3) := by
  unfold State.addReg
  with_reducible refine Keeps.step (State.setReg_keeps _ _ _) ?_
  exact Keeps.refl _

theorem State.bump_keeps (x1 : State) (x2 : Nat) :
    Keeps x1 (State.bump x1 x2) := by
  unfold State.bump
  with_reducible refine Keeps.step (State.addReg_keeps _ _ _) ?_
  exact Keeps.refl _

theorem State.stick_keeps (x1 : State) (x2 x3 : Nat) :
    Keeps x1 (State.stick x1 x2 x3) := by
  unfold State.stick
  with_reducible refine Keeps.step (State.setReg_keeps _ _ _) ?_
  exact Keeps.refl _

theorem when_keeps {s0 : State} {b : Bool} {t s : State} (h : Keeps s0 t) (g : Keeps s0 s) :
    Keeps s0 (when b t s) := by
  unfold when; split <;> assumption

theorem State.mapRecord_keeps (s : State) (e : MapEntry) : Keeps s (s.mapRecord e) := by
  unfold State.mapRecord
  split
  · rename_i h
    refine ⟨id, fun _ => ?_, SecKeeps.refl _⟩
    simp only [List.length_append, List.length_cons, List.length_nil]
    omega
  · exact State.stick_keeps _ _ _

theorem State.postSlot_keeps (x1 : State) (x2 x3 x4 : Nat) (x5 : List Byte) :
    Keeps x1 (State.postSlot x1 x2 x3 x4 x5) := by
  unfold State.postSlot
  split
  rename_i e0 e1 e2 e3
  extract_lets v4
  refine Keeps.have v4 ?_ fun h5 => ?_
  · with_reducible refine Keeps.step (Keeps.ofSame (State.setPort_same _ _ _) (by decide)) ?_
    exact Keeps.refl _
  clear_value v4
  refine Keeps.ite ?_ ?_
  · exact h5
  · with_reducible refine Keeps.step (State.bump_keeps _ _) ?_
    exact h5

theorem State.trace_keeps (x1 : State) (x2 x3 x4 x5 x6 x7 : Nat) :
    Keeps x1 (State.trace x1 x2 x3 x4 x5 x6 x7) := by
  unfold State.trace
  extract_lets v0 v1 v2 v3 v4 v5
  refine Keeps.have v5 ?_ fun h6 => ?_
  · dsimp only [v5]
    with_reducible refine Keeps.record rfl ?_ ?_
    · exact Keeps.of_eq rfl rfl rfl rfl
    exact Keeps.refl _
  clear_value v5
  refine Keeps.ite ?_ ?_
  · refine Keeps.ite ?_ ?_
    · with_reducible refine Keeps.step (State.bump_keeps _ _) ?_
      exact h6
    · exact h6
  · exact Keeps.refl _

theorem State.traceOpen_keeps (x1 : State) (x2 x3 x4 : Nat) (x5 x6 x7 : Option Nat) :
    Keeps x1 (State.traceOpen x1 x2 x3 x4 x5 x6 x7) := by
  unfold State.traceOpen
  extract_lets v0 v1
  refine Keeps.have v1 ?_ fun h2 => ?_
  · with_reducible refine Keeps.step (State.trace_keeps _ _ _ _ _ _ _) ?_
    exact Keeps.refl _
  clear_value v1
  refine Keeps.ite ?_ ?_
  · with_reducible refine Keeps.record rfl ?_ ?_
    · exact Keeps.of_eq rfl rfl rfl rfl
    exact h2
  · exact Keeps.refl _

theorem State.post_keeps (x1 : State) (x2 x3 x4 : Nat) (x5 : List Byte) :
    Keeps x1 (State.post x1 x2 x3 x4 x5) := by
  unfold State.post
  extract_lets v0
  refine Keeps.have v0 ?_ fun h1 => ?_
  · with_reducible refine Keeps.step (State.postSlot_keeps _ _ _ _ _) ?_
    exact Keeps.refl _
  clear_value v0
  refine Keeps.ite ?_ ?_
  · exact h1
  · with_reducible refine Keeps.step (State.traceOpen_keeps _ _ _ _ _ _ _) ?_
    exact h1

theorem State.event_keeps (x1 : State) (x2 x3 x4 : Nat) :
    Keeps x1 (State.event x1 x2 x3 x4) := by
  unfold State.event
  extract_lets v0 v1
  refine Keeps.ite ?_ ?_
  · with_reducible refine Keeps.step (State.post_keeps _ _ _ _ _) ?_
    exact Keeps.refl _
  · exact Keeps.refl _

theorem State.dropSlices_keeps (x1 : State) (x2 : BistUnit → Bool) :
    Keeps x1 (State.dropSlices x1 x2) := by
  unfold State.dropSlices
  extract_lets v0 v1 v2
  refine Keeps.have v1 ?_ fun h3 => ?_
  · refine Keeps.foldl ?_ fun q4 y5 h6 => ?_
    · exact Keeps.refl _
    · with_reducible refine Keeps.step (Keeps.ofSame (State.freeUnit_same _ _) (by decide)) ?_
      exact h6
  clear_value v1
  with_reducible refine Keeps.step (State.addReg_keeps _ _ _) ?_
  with_reducible refine Keeps.record rfl ?_ ?_
  · exact Keeps.of_eq rfl rfl rfl rfl
  exact h3

theorem State.writeFreeze_keeps (x1 : State) (x2 : Nat) :
    Keeps x1 (State.writeFreeze x1 x2) := by
  unfold State.writeFreeze
  extract_lets v0 v1 v2 v3 v4
  refine Keeps.have v1 ?_ fun h5 => ?_
  · with_reducible refine Keeps.step (Keeps.ofSame (State.answer_same _ _) (by decide)) ?_
    exact Keeps.refl _
  clear_value v1
  refine Keeps.have v3 ?_ fun h6 => ?_
  · with_reducible refine Keeps.step (State.setReg_keeps _ _ _) ?_
    with_reducible refine Keeps.step (State.setReg_keeps _ _ _) ?_
    exact h5
  clear_value v3
  refine Keeps.ite ?_ ?_
  · with_reducible refine Keeps.step (Keeps.ofSame (State.answer_same _ _) (by decide)) ?_
    exact Keeps.refl _
  · refine Keeps.ite ?_ ?_
    · with_reducible refine Keeps.record rfl ?_ ?_
      · exact Keeps.of_eq rfl rfl rfl rfl
      exact h5
    · refine Keeps.ite ?_ ?_
      · with_reducible refine Keeps.record rfl ?_ ?_
        · exact Keeps.of_eq rfl rfl rfl rfl
        exact h6
      · with_reducible refine Keeps.step (Keeps.ofSame (State.stopAtOnce_same _) (by decide)) ?_
        exact h6

theorem State.traceStep_keeps (x1 : State) (x2 x3 x4 x5 x6 x7 x8 : Nat) :
    Keeps x1 (State.traceStep x1 x2 x3 x4 x5 x6 x7 x8) := by
  unfold State.traceStep
  with_reducible refine Keeps.step (State.trace_keeps _ _ _ _ _ _ _) ?_
  exact Keeps.refl _

theorem State.postStep_keeps (x1 : State) (x2 x3 x4 x5 x6 x7 : Nat) (x8 : FaultInfo) :
    Keeps x1 (State.postStep x1 x2 x3 x4 x5 x6 x7 x8) := by
  unfold State.postStep
  extract_lets v0 v1 v2 v3
  refine Keeps.have v1 ?_ fun h4 => ?_
  · with_reducible refine Keeps.step (State.writeFreeze_keeps _ _) ?_
    exact Keeps.refl _
  clear_value v1
  refine Keeps.have v2 ?_ fun h5 => ?_
  · refine Keeps.ite ?_ ?_
    · with_reducible refine Keeps.record rfl ?_ ?_
      · exact Keeps.of_eq rfl rfl rfl rfl
      exact h4
    · exact Keeps.refl _
  clear_value v2
  refine Keeps.ite ?_ ?_
  · with_reducible refine Keeps.step (State.post_keeps _ _ _ _ _) ?_
    exact h5
  · exact h5

end Sys2Proof.Machine
end

