-- ==== Sys2Proof/Laws/KeepMemory.lean ====
section
/-! SUPPORT. What the functions of Machine/Memory.lean keep: the dictionary and the store in canonical form, the field map
bounded, the fuses, the seal and the rollback counters. -/

namespace Sys2Proof.Machine

open Sys2Proof

theorem State.prefetch_keeps (x1 : State) (x2 x3 x4 : Nat) :
    Keeps x1 (State.prefetch x1 x2 x3 x4) := by
  unfold State.prefetch
  extract_lets v0 v1
  refine Keeps.have v1 ?_ fun h2 => ?_
  · with_reducible refine Keeps.step (State.bump_keeps _ _) ?_
    with_reducible refine Keeps.step (Keeps.ofSame (State.touch_same _ _) (by decide)) ?_
    exact Keeps.refl _
  clear_value v1
  refine Keeps.ite ?_ ?_
  · refine Keeps.ite ?_ ?_
    · with_reducible refine Keeps.step (Keeps.ofSame (State.cacheLine_same _ _ _ _) (by decide)) ?_
      exact h2
    · exact h2
  · exact Keeps.refl _

theorem State.walk_keeps (x1 : State) (x2 x3 x4 : Nat) :
    Keeps x1 (State.walk x1 x2 x3 x4).1 := by
  unfold State.walk
  extract_lets v0 v1 v2 v3 v4 v5
  refine Keeps.have v1 ?_ fun h6 => ?_
  · with_reducible refine Keeps.step (State.bump_keeps _ _) ?_
    with_reducible refine Keeps.step (Keeps.ofSame (State.setStore_same _ _ _) (by decide)) ?_
    exact Keeps.refl _
  clear_value v1
  refine Keeps.have v2 ?_ fun h7 => ?_
  · with_reducible refine Keeps.step (Keeps.ofSame (State.cacheLine_same _ _ _ _) (by decide)) ?_
    exact h6
  clear_value v2
  refine Keeps.have v5 ?_ fun h8 => ?_
  · with_reducible refine Keeps.step (Keeps.ofSame (State.putEntryAt_same _ _ _ _) (by decide)) ?_
    exact h7
  clear_value v5
  refine Keeps.iteFst ?_ ?_
  · dsimp only
    exact h6
  · refine Keeps.iteFst ?_ ?_
    · dsimp only
      exact h7
    · dsimp only
      with_reducible refine Keeps.record rfl ?_ ?_
      · exact Keeps.of_eq rfl rfl rfl rfl
      exact h8

theorem State.lookup_keeps (x1 : State) (x2 x3 x4 : Nat) (x5 : Bool) :
    Keeps x1 (State.lookup x1 x2 x3 x4 x5).1 := by
  unfold State.lookup
  split
  · rename_i e0 e1 e2
    refine Keeps.iteFst ?_ ?_
    · with_reducible refine Keeps.step (State.walk_keeps _ _ _ _) ?_
      exact Keeps.refl _
    · extract_lets v3
      refine Keeps.have v3 ?_ fun h4 => ?_
      · with_reducible refine Keeps.step (State.bump_keeps _ _) ?_
        with_reducible refine Keeps.record rfl ?_ ?_
        · exact Keeps.of_eq rfl rfl rfl rfl
        exact Keeps.refl _
      clear_value v3
      dsimp only
      with_reducible refine Keeps.step (State.prefetch_keeps _ _ _ _) ?_
      exact h4
  · rename_i e5 e6
    with_reducible refine Keeps.step (State.walk_keeps _ _ _ _) ?_
    exact Keeps.refl _

theorem State.translate_keeps (x1 : State) (x2 : Nat) (x3 x4 : Bool) (x5 : Accessor) (x6 : Option Nat) (x7 : List (Nat × Nat)) :
    Keeps x1 (State.translate x1 x2 x3 x4 x5 x6 x7).1 := by
  induction x7 generalizing x1
  · unfold State.translate
    dsimp only
    exact Keeps.refl _
  · rename_i i0 i1 i2
    unfold State.translate
    split
    · rename_i e3 e4 e5
      dsimp only
      refine Keeps.fstOf e5 ?_
      with_reducible refine Keeps.step (State.lookup_keeps _ _ _ _ _) ?_
      exact Keeps.refl _
    · rename_i e6 e7 e8 e9
      split
      · rename_i e10 e11 e12
        extract_lets v13
        refine Keeps.have v13 ?_ fun h14 => ?_
        · refine Keeps.ite ?_ ?_
          · with_reducible refine Keeps.step (State.bump_keeps _ _) ?_
            refine Keeps.fstOf e9 ?_
            with_reducible refine Keeps.step (State.lookup_keeps _ _ _ _ _) ?_
            exact Keeps.refl _
          · refine Keeps.ite ?_ ?_
            · with_reducible refine Keeps.step (State.bump_keeps _ _) ?_
              refine Keeps.fstOf e9 ?_
              with_reducible refine Keeps.step (State.lookup_keeps _ _ _ _ _) ?_
              exact Keeps.refl _
            · refine Keeps.fstOf e9 ?_
              with_reducible refine Keeps.step (State.lookup_keeps _ _ _ _ _) ?_
              exact Keeps.refl _
        clear_value v13
        dsimp only
        exact h14
      · rename_i e15 e16
        refine Keeps.iteFst ?_ ?_
        · dsimp only
          refine Keeps.fstOf e9 ?_
          with_reducible refine Keeps.step (State.lookup_keeps _ _ _ _ _) ?_
          exact Keeps.refl _
        · split
          · rename_i e17 e18 e19 e20
            dsimp only
            refine Keeps.fstOf e20 ?_
            with_reducible refine Keeps.step (i2 _) ?_
            refine Keeps.fstOf e9 ?_
            with_reducible refine Keeps.step (State.lookup_keeps _ _ _ _ _) ?_
            exact Keeps.refl _
          · rename_i e21 e22 e23 e24
            dsimp only
            refine Keeps.fstOf e24 ?_
            with_reducible refine Keeps.step (i2 _) ?_
            refine Keeps.fstOf e9 ?_
            with_reducible refine Keeps.step (State.lookup_keeps _ _ _ _ _) ?_
            exact Keeps.refl _

theorem State.countForwarded_keeps (x1 : State) (x2 : List (Nat × Nat)) (x3 : Nat) :
    Keeps x1 (State.countForwarded x1 x2 x3) := by
  unfold State.countForwarded
  extract_lets v0
  refine Keeps.ite ?_ ?_
  · exact Keeps.refl _
  · with_reducible refine Keeps.step (State.addReg_keeps _ _ _) ?_
    exact Keeps.refl _

end Sys2Proof.Machine
end

