-- ==== Sys2Proof/Laws/KeepPricking.lean ====
section
/-! SUPPORT. What the functions of Machine/Pricking.lean keep: the dictionary and the store in canonical form, the field map
bounded, the fuses, the seal and the rollback counters. -/

namespace Sys2Proof.Machine

open Sys2Proof

theorem execPrickingDoorbell_keeps (x1 : Fin 2) (x2 : Fin 8) (x3 : State) :
    OutKeeps x3 (execPrickingDoorbell x1 x2 x3) := by
  unfold execPrickingDoorbell
  extract_lets v0 v1 v2 v3
  refine OutKeeps.have v2 ?_ fun h4 => ?_
  · with_reducible refine Keeps.step (State.traceOpen_keeps _ _ _ _ _ _ _) ?_
    exact Keeps.refl _
  clear_value v2
  refine OutKeeps.ite ?_ ?_
  · refine OutKeeps.next ?_
    exact Keeps.refl _
  · refine OutKeeps.ite ?_ ?_
    · refine OutKeeps.next ?_
      with_reducible refine Keeps.record rfl ?_ ?_
      · exact Keeps.of_eq rfl rfl rfl rfl
      exact h4
    · refine OutKeeps.ite ?_ ?_
      · refine OutKeeps.next ?_
        with_reducible refine Keeps.record rfl ?_ ?_
        · exact Keeps.of_eq rfl rfl rfl rfl
        exact h4
      · split
        rename_i e5 e6 e7 e8 e9
        extract_lets v10 v11
        refine OutKeeps.ite ?_ ?_
        · refine OutKeeps.next ?_
          with_reducible refine Keeps.record rfl ?_ ?_
          · exact Keeps.of_eq rfl rfl rfl rfl
          exact h4
        · refine OutKeeps.next ?_
          with_reducible refine Keeps.record rfl ?_ ?_
          · exact Keeps.of_eq rfl rfl rfl rfl
          exact h4

theorem execPrickingSlotWrite_keeps (x1 : Fin 2) (x2 : Fin 8) (x3 : Nat) (x4 : BitVec 64) (x5 : State) :
    OutKeeps x5 (execPrickingSlotWrite x1 x2 x3 x4 x5) :=
  OutKeeps.ofSame (execPrickingSlotWrite_same _ _ _ _ _) (by decide)

end Sys2Proof.Machine
end

