-- ==== Sys2Proof/Laws/KeepSteps.lean ====
section
/-! SUPPORT. What the functions of Machine/Steps.lean keep: the dictionary and the store in canonical form, the field map
bounded, the fuses, the seal and the rollback counters. -/

namespace Sys2Proof.Machine

open Sys2Proof

theorem State.reportEnded_keeps (x1 : State) (x2 : Entry × FaultInfo) :
    Keeps x1 (State.reportEnded x1 x2) := by
  unfold State.reportEnded
  extract_lets v0 v1 v2 v3 v4
  refine Keeps.have v2 ?_ fun h5 => ?_
  · with_reducible refine Keeps.step (State.postStep_keeps _ _ _ _ _ _ _ _) ?_
    exact Keeps.refl _
  clear_value v2
  refine Keeps.have v3 ?_ fun h6 => ?_
  · with_reducible refine Keeps.step (State.traceStep_keeps _ _ _ _ _ _ _ _) ?_
    exact h5
  clear_value v3
  refine Keeps.have v4 ?_ fun h7 => ?_
  · with_reducible refine Keeps.step (Keeps.ofSame (State.note_same _ _ _ _) (by decide)) ?_
    exact h6
  clear_value v4
  refine Keeps.ite ?_ ?_
  · with_reducible refine Keeps.step (State.bump_keeps _ _) ?_
    exact h7
  · exact h7

theorem State.sweepEntries_keeps (x1 : State) (x2 : Entry → Option (EntrySt × FaultInfo)) :
    Keeps x1 (State.sweepEntries x1 x2) := by
  unfold State.sweepEntries
  split
  rename_i e0 e1 e2 e3
  refine Keeps.foldl ?_ fun q4 y5 h6 => ?_
  · with_reducible refine Keeps.record rfl ?_ ?_
    · exact Keeps.of_eq rfl rfl rfl rfl
    exact Keeps.refl _
  · with_reducible refine Keeps.step (State.reportEnded_keeps _ _) ?_
    exact h6

theorem State.countFault_keeps (x1 : State) (x2 : Nat) :
    Keeps x1 (State.countFault x1 x2) := by
  unfold State.countFault
  extract_lets v0
  refine Keeps.have v0 ?_ fun h1 => ?_
  · with_reducible refine Keeps.step (State.bump_keeps _ _) ?_
    exact Keeps.refl _
  clear_value v0
  refine Keeps.ite ?_ ?_
  · with_reducible refine Keeps.step (State.bump_keeps _ _) ?_
    exact h1
  · refine Keeps.ite ?_ ?_
    · with_reducible refine Keeps.step (State.bump_keeps _ _) ?_
      exact h1
    · refine Keeps.ite ?_ ?_
      · with_reducible refine Keeps.step (State.bump_keeps _ _) ?_
        exact h1
      · exact h1

theorem State.stepFault_keeps (x1 : State) (x2 : Grant) (x3 : FaultInfo) :
    Keeps x1 (State.stepFault x1 x2 x3) := by
  unfold State.stepFault
  extract_lets v0 v1 v2 v3 v4 v5
  refine Keeps.have v1 ?_ fun h6 => ?_
  · with_reducible refine Keeps.step (State.countFault_keeps _ _) ?_
    with_reducible refine Keeps.step (Keeps.ofSame (State.stopCores_same _ _) (by decide)) ?_
    exact Keeps.refl _
  clear_value v1
  refine Keeps.have v2 ?_ fun h7 => ?_
  · with_reducible refine Keeps.step (State.traceStep_keeps _ _ _ _ _ _ _ _) ?_
    with_reducible refine Keeps.step (State.postStep_keeps _ _ _ _ _ _ _ _) ?_
    exact h6
  clear_value v2
  refine Keeps.have v4 ?_ fun h8 => ?_
  · dsimp only [v4]
    with_reducible refine Keeps.record rfl ?_ ?_
    · exact Keeps.of_eq rfl rfl rfl rfl
    exact h7
  clear_value v4
  refine Keeps.have v5 ?_ fun h9 => ?_
  · refine Keeps.foldl ?_ fun q10 y11 h12 => ?_
    · exact h8
    · with_reducible refine Keeps.step (Keeps.ofSame (State.note_same _ _ _ _) (by decide)) ?_
      exact h12
  clear_value v5
  with_reducible refine Keeps.step (Keeps.ofSame (State.applyWaiting_same _ _) (by decide)) ?_
  with_reducible refine Keeps.step (State.sweepEntries_keeps _ _) ?_
  exact h9

theorem State.discardDie_keeps (x1 : State) (x2 : Nat) (x3 : FaultInfo) :
    Keeps x1 (State.discardDie x1 x2 x3) := by
  unfold State.discardDie
  extract_lets v0
  refine Keeps.have v0 ?_ fun h1 => ?_
  · refine Keeps.foldl ?_ fun q2 y3 h4 => ?_
    · exact Keeps.refl _
    · with_reducible refine Keeps.step (State.stepFault_keeps _ _ _) ?_
      exact h4
  clear_value v0
  with_reducible refine Keeps.step (State.sweepEntries_keeps _ _) ?_
  exact h1

theorem execEntryStartOffset_keeps (x1 x2 : Nat) (x3 : State) :
    OutKeeps x3 (execEntryStartOffset x1 x2 x3) :=
  OutKeeps.ofSame (execEntryStartOffset_same _ _ _) (by decide)

theorem execDeadlineTick_keeps (x1 : Fin 8) (x2 : State) :
    OutKeeps x2 (execDeadlineTick x1 x2) := by
  unfold execDeadlineTick
  refine OutKeeps.ite ?_ ?_
  · refine OutKeeps.next ?_
    exact Keeps.refl _
  · refine OutKeeps.next ?_
    with_reducible refine Keeps.step (State.sweepEntries_keeps _ _) ?_
    exact Keeps.refl _

theorem execStepRunLimit_keeps (x1 : Fin 8) (x2 : State) :
    OutKeeps x2 (execStepRunLimit x1 x2) := by
  unfold execStepRunLimit
  split
  · rename_i e0 e1 e2
    refine OutKeeps.next ?_
    with_reducible refine Keeps.step (State.stepFault_keeps _ _ _) ?_
    exact Keeps.refl _
  · rename_i e3 e4
    refine OutKeeps.next ?_
    exact Keeps.refl _

theorem State.refuseEntry_keeps (x1 : State) (x2 : Entry) (x3 : Status) :
    Keeps x1 (State.refuseEntry x1 x2 x3) := by
  unfold State.refuseEntry
  extract_lets v0 v1
  refine Keeps.have v0 ?_ fun h2 => ?_
  · with_reducible refine Keeps.step (Keeps.ofSame (State.note_same _ _ _ _) (by decide)) ?_
    with_reducible refine Keeps.step (State.postStep_keeps _ _ _ _ _ _ _ _) ?_
    exact Keeps.refl _
  clear_value v0
  refine Keeps.have v1 ?_ fun h3 => ?_
  · with_reducible refine Keeps.step (State.traceStep_keeps _ _ _ _ _ _ _ _) ?_
    exact h2
  clear_value v1
  refine Keeps.ite ?_ ?_
  · with_reducible refine Keeps.step (Keeps.ofSame (State.setEntry_same _ _ _ _) (by decide)) ?_
    exact h3
  · with_reducible refine Keeps.step (State.sweepEntries_keeps _ _) ?_
    with_reducible refine Keeps.step (Keeps.ofSame (State.setEntry_same _ _ _ _) (by decide)) ?_
    exact h3

theorem State.stepStart_keeps (x1 : State) (x2 : Grant) :
    Keeps x1 (State.stepStart x1 x2) := by
  unfold State.stepStart
  extract_lets v0 v1 v2 v3 v4 v5 v6 v7
  refine Keeps.have v4 ?_ fun h8 => ?_
  · with_reducible refine Keeps.step (State.traceStep_keeps _ _ _ _ _ _ _ _) ?_
    exact Keeps.refl _
  clear_value v4
  refine Keeps.have v6 ?_ fun h9 => ?_
  · with_reducible refine Keeps.step (Keeps.ofSame (State.setStream_same _ _ _) (by decide)) ?_
    with_reducible refine Keeps.step (Keeps.ofSame (State.recWrote_same _ _ _ _ _) (by decide)) ?_
    with_reducible refine Keeps.step (Keeps.ofSame (State.touch_same _ _) (by decide)) ?_
    with_reducible refine Keeps.step (Keeps.ofSame (State.touch_same _ _) (by decide)) ?_
    exact h8
  clear_value v6
  refine Keeps.have v7 ?_ fun h10 => ?_
  · dsimp only [v7]
    with_reducible refine Keeps.record rfl ?_ ?_
    · exact Keeps.of_eq rfl rfl rfl rfl
    exact h9
  clear_value v7
  refine Keeps.ite ?_ ?_
  · with_reducible refine Keeps.step (State.stepFault_keeps _ _ _) ?_
    exact h10
  · exact h10

theorem State.grantEntry_keeps (x1 : State) (x2 : Entry) :
    Keeps x1 (State.grantEntry x1 x2) := by
  unfold State.grantEntry
  extract_lets v0 v1 v2
  refine Keeps.have v2 ?_ fun h3 => ?_
  · with_reducible refine Keeps.step (Keeps.ofSame (State.setEntry_same _ _ _ _) (by decide)) ?_
    with_reducible refine Keeps.record rfl ?_ ?_
    · exact Keeps.of_eq rfl rfl rfl rfl
    exact Keeps.refl _
  clear_value v2
  refine Keeps.ite ?_ ?_
  · with_reducible refine Keeps.record rfl ?_ ?_
    · exact Keeps.of_eq rfl rfl rfl rfl
    exact h3
  · with_reducible refine Keeps.step (State.stepStart_keeps _ _) ?_
    exact h3

theorem execCoreGrant_keeps (x1 : Fin 8) (x2 : State) :
    OutKeeps x2 (execCoreGrant x1 x2) := by
  unfold execCoreGrant
  extract_lets v0 v1
  refine OutKeeps.ite ?_ ?_
  · refine OutKeeps.next ?_
    exact Keeps.refl _
  · split
    · rename_i e2 e3 e4 e5
      refine OutKeeps.next ?_
      with_reducible refine Keeps.step (State.refuseEntry_keeps _ _ _) ?_
      exact Keeps.refl _
    · rename_i e6 e7 e8
      refine OutKeeps.next ?_
      with_reducible refine Keeps.step (State.grantEntry_keeps _ _) ?_
      exact Keeps.refl _
    · rename_i e9 e10
      refine OutKeeps.next ?_
      exact Keeps.refl _

end Sys2Proof.Machine
end

