-- ==== Sys2Proof/Laws/KeepCapture.lean ====
section
/-! SUPPORT. What the functions of Machine/Capture.lean keep: the dictionary and the store in canonical form, the field map
bounded, the fuses, the seal and the rollback counters. -/

namespace Sys2Proof.Machine

open Sys2Proof

theorem State.captureBy_keeps (x1 : State) (x2 : Nat) (x3 : Grant) (x4 : Nat) (x5 : CoreRun) :
    Keeps x1 (State.captureBy x1 x2 x3 x4 x5) := by
  unfold State.captureBy
  extract_lets v0 v1 v2 v3 v4 v5 v6 v7 v8 v9 v10 v11 v12 v13 v14
  refine Keeps.have v14 ?_ fun h15 => ?_
  · with_reducible refine Keeps.step (State.setReg_keeps _ _ _) ?_
    exact Keeps.refl _
  clear_value v14
  refine Keeps.ite ?_ ?_
  · exact Keeps.refl _
  · refine Keeps.ite ?_ ?_
    · with_reducible refine Keeps.step (State.bump_keeps _ _) ?_
      exact h15
    · split
      · rename_i e16 e17
        with_reducible refine Keeps.step (State.bump_keeps _ _) ?_
        exact h15
      · rename_i e18 e19 e20
        refine Keeps.ite ?_ ?_
        · with_reducible refine Keeps.step (State.bump_keeps _ _) ?_
          exact h15
        · with_reducible refine Keeps.step (State.bump_keeps _ _) ?_
          with_reducible refine Keeps.step (State.setReg_keeps _ _ _) ?_
          with_reducible refine Keeps.step (Keeps.ofSame (State.hubWrite_same _ _ _ _ _) (by decide)) ?_
          exact h15

theorem State.capture_keeps (x1 : State) (x2 : Grant) (x3 : Nat) (x4 : CoreRun) :
    Keeps x1 (State.capture x1 x2 x3 x4) := by
  unfold State.capture
  refine Keeps.loopTo ?_ fun q0 y1 h2 => ?_
  · exact Keeps.refl _
  · refine Keeps.ite ?_ ?_
    · with_reducible refine Keeps.step (State.captureBy_keeps _ _ _ _ _) ?_
      exact h2
    · exact h2

end Sys2Proof.Machine
end

