-- ==== Sys2Proof/Laws/KeepPackets.lean ====
section
/-! SUPPORT. What the functions of Machine/Packets.lean keep: the dictionary and the store in canonical form, the field map
bounded, the fuses, the seal and the rollback counters. -/

namespace Sys2Proof.Machine

open Sys2Proof

theorem State.traceRequest_keeps (x1 : State) (x2 : Request) (x3 x4 : Nat) :
    Keeps x1 (State.traceRequest x1 x2 x3 x4) := by
  unfold State.traceRequest
  with_reducible refine Keeps.step (State.traceOpen_keeps _ _ _ _ _ _ _) ?_
  exact Keeps.refl _

theorem State.send_keeps (x1 : State) (x2 : Request) :
    Keeps x1 (State.send x1 x2) := by
  unfold State.send
  extract_lets v0 v1 v2
  refine Keeps.have v1 ?_ fun h3 => ?_
  · dsimp only [v1]
    with_reducible refine Keeps.record rfl ?_ ?_
    · exact Keeps.of_eq rfl rfl rfl rfl
    exact Keeps.refl _
  clear_value v1
  refine Keeps.have v2 ?_ fun h4 => ?_
  · refine Keeps.ite ?_ ?_
    · exact h3
    · with_reducible refine Keeps.step (Keeps.ofSame (State.depart_same _ _) (by decide)) ?_
      exact h3
  clear_value v2
  with_reducible refine Keeps.step (State.traceRequest_keeps _ _ _ _) ?_
  exact h4

theorem State.resend_keeps (x1 : State) (x2 : Request) (x3 : Request → Request) :
    Keeps x1 (State.resend x1 x2 x3) := by
  unfold State.resend
  extract_lets v0 v1
  refine Keeps.have v1 ?_ fun h2 => ?_
  · with_reducible refine Keeps.step (Keeps.ofSame (State.depart_same _ _) (by decide)) ?_
    with_reducible refine Keeps.step (Keeps.ofSame (State.updRequest_same _ _ _ _) (by decide)) ?_
    exact Keeps.refl _
  clear_value v1
  with_reducible refine Keeps.step (State.traceRequest_keeps _ _ _ _) ?_
  with_reducible refine Keeps.step (State.bump_keeps _ _) ?_
  exact h2

theorem State.resendAll_keeps (x1 : State) (x2 : Nat) (x3 : List Nat) :
    Keeps x1 (State.resendAll x1 x2 x3) := by
  unfold State.resendAll
  refine Keeps.foldl ?_ fun q0 y1 h2 => ?_
  · exact Keeps.refl _
  · split
    · rename_i e3 e4 e5
      with_reducible refine Keeps.step (State.resend_keeps _ _ _) ?_
      exact h2
    · rename_i e6 e7
      exact h2

end Sys2Proof.Machine
end

