-- ==== Sys2Proof/Laws/KeepForeign.lean ====
section
/-! SUPPORT. What the functions of Machine/Foreign.lean keep: the dictionary and the store in canonical form, the field map
bounded, the fuses, the seal and the rollback counters. -/

namespace Sys2Proof.Machine

open Sys2Proof

theorem State.reply_keeps (x1 : State) (x2 : Packet) (x3 : Status) (x4 : optParam (List Byte) []) :
    Keeps x1 (State.reply x1 x2 x3 x4) := by
  unfold State.reply
  extract_lets v0
  refine Keeps.have v0 ?_ fun h1 => ?_
  · refine Keeps.ite ?_ ?_
    · with_reducible refine Keeps.step (State.traceOpen_keeps _ _ _ _ _ _ _) ?_
      exact Keeps.refl _
    · exact Keeps.refl _
  clear_value v0
  with_reducible refine Keeps.step (Keeps.ofSame (State.respond_same _ _) (by decide)) ?_
  exact h1

theorem State.admitPacket_keeps (x1 : State) (x2 : Packet) (x3 : Nat) (x4 : Bool) (x5 : Accessor) (x6 : Option Nat) :
    Keeps x1 (State.admitPacket x1 x2 x3 x4 x5 x6).1 := by
  unfold State.admitPacket
  refine Keeps.iteFst ?_ ?_
  · dsimp only
    exact Keeps.refl _
  · refine Keeps.iteFst ?_ ?_
    · extract_lets v0 v1
      refine Keeps.iteFst ?_ ?_
      · dsimp only
        exact Keeps.refl _
      · split
        · rename_i e2 e3 e4 e5
          dsimp only
          refine Keeps.fstOf e5 ?_
          with_reducible refine Keeps.step (State.translate_keeps _ _ _ _ _ _ _) ?_
          exact Keeps.refl _
        · rename_i e6 e7 e8 e9
          refine Keeps.iteFst ?_ ?_
          · dsimp only
            with_reducible refine Keeps.step (State.bump_keeps _ _) ?_
            refine Keeps.fstOf e9 ?_
            with_reducible refine Keeps.step (State.translate_keeps _ _ _ _ _ _ _) ?_
            exact Keeps.refl _
          · dsimp only
            refine Keeps.ite ?_ ?_
            · with_reducible refine Keeps.step (Keeps.ofSame (State.dirtyAll_same _ _ _) (by decide)) ?_
              refine Keeps.fstOf e9 ?_
              with_reducible refine Keeps.step (State.translate_keeps _ _ _ _ _ _ _) ?_
              exact Keeps.refl _
            · refine Keeps.fstOf e9 ?_
              with_reducible refine Keeps.step (State.translate_keeps _ _ _ _ _ _ _) ?_
              exact Keeps.refl _
    · refine Keeps.iteFst ?_ ?_
      · split
        · rename_i e10 e11
          dsimp only
          exact Keeps.refl _
        · rename_i e12 e13 e14 e15
          refine Keeps.iteFst ?_ ?_
          · dsimp only
            exact Keeps.refl _
          · refine Keeps.iteFst ?_ ?_
            · dsimp only
              exact Keeps.refl _
            · dsimp only
              exact Keeps.refl _
      · dsimp only
        exact Keeps.refl _

theorem State.writePlace_keeps (s : State) (p : Packet) (bs : List Byte) (x : Place) :
    ∀ t, s.writePlace p bs x = some t → Keeps s t := by
  intro t ht
  cases x with
  | mem tier tr =>
    simp only [State.writePlace] at ht
    split at ht
    · exact absurd ht (by simp)
    · cases ht
      exact Keeps.step (Keeps.ofSame (State.wake_same _ _ _) (by decide)) (Keeps.ofSame (State.virtWrite_same _ _ _ _ _ _) (by decide))
  | scratch k =>
    simp only [State.writePlace, Option.some.injEq] at ht
    subst ht
    exact Keeps.ofSame (State.setCore_same _ _ _) (by decide)

theorem State.unknown_keeps (x1 : State) (x2 : Packet) :
    Keeps x1 (State.unknown x1 x2) := by
  unfold State.unknown
  with_reducible refine Keeps.step (State.reply_keeps _ _ _ _) ?_
  with_reducible refine Keeps.step (State.bump_keeps _ _) ?_
  exact Keeps.refl _

theorem State.again_keeps {s0 s : State} {p : Packet} {go : State}
    (h : Keeps s0 s) (hg : Keeps s0 go) : Keeps s0 (s.again p go) := by
  unfold State.again
  repeat' split
  · exact h
  · exact h
  · exact Keeps.step (State.unknown_keeps _ _) h
  · exact h.trans (Keeps.ofSame (State.respond_same _ _) (by decide))
  · exact hg

theorem State.once_keeps {s0 s : State} {p : Packet} {site age : Nat} {apply : State → State}
    (h : Keeps s0 s) (ha : ∀ t, Keeps s0 t → Keeps s0 (apply t)) : Keeps s0 (s.once p site age apply) := by
  unfold State.once
  repeat' split
  · exact Keeps.step (State.unknown_keeps _ _) h
  · exact Keeps.step (State.reply_keeps _ _ _ _) h
  · exact ha _ h

theorem State.settle_keeps (x1 : State) (x2 : Packet) (x3 : Nat) (x4 : Status) (x5 : List Byte) :
    Keeps x1 (State.settle x1 x2 x3 x4 x5) := by
  unfold State.settle
  with_reducible refine Keeps.step (State.reply_keeps _ _ _ _) ?_
  with_reducible refine Keeps.step (Keeps.ofSame (State.keepReply_same _ _) (by decide)) ?_
  exact Keeps.refl _

theorem State.landFlagPacket_keeps (x1 : State) (x2 : HeldPacket) :
    Keeps x1 (State.landFlagPacket x1 x2) := by
  unfold State.landFlagPacket
  extract_lets v0
  split
  · rename_i e1 e2
    with_reducible refine Keeps.step (State.reply_keeps _ _ _ _) ?_
    exact Keeps.refl _
  · rename_i e3 e4 e5
    split
    · rename_i e6 e7
      with_reducible refine Keeps.step (State.reply_keeps _ _ _ _) ?_
      exact Keeps.refl _
    · rename_i e8 e9 e10
      with_reducible refine Keeps.step (State.settle_keeps _ _ _ _ _) ?_
      refine Keeps.step (State.writePlace_keeps _ _ _ _ _ e10) ?_
      exact Keeps.refl _

theorem State.applyFlag_keeps (x1 : State) (x2 : HeldPacket) :
    Keeps x1 (State.applyFlag x1 x2) := by
  unfold State.applyFlag
  split
  · rename_i e0 e1 e2
    with_reducible refine Keeps.step (Keeps.ofSame (State.holdIn_same _ _ _) (by decide)) ?_
    exact Keeps.refl _
  · rename_i e3 e4
    with_reducible refine Keeps.step (State.landFlagPacket_keeps _ _) ?_
    exact Keeps.refl _

theorem State.trackerCheck_keeps (x1 : State) (x2 x3 x4 : Nat) :
    Keeps x1 (State.trackerCheck x1 x2 x3 x4) := by
  unfold State.trackerCheck
  split
  · rename_i e0 e1 e2
    split
    · rename_i e3 e4 e5
      refine Keeps.ite ?_ ?_
      · with_reducible refine Keeps.step (State.applyFlag_keeps _ _) ?_
        with_reducible refine Keeps.step (Keeps.ofSame (State.dropTracker_same _ _ _ _) (by decide)) ?_
        exact Keeps.refl _
      · exact Keeps.refl _
    · rename_i e6 e7
      exact Keeps.refl _
  · rename_i e8 e9
    exact Keeps.refl _

theorem State.landWrite_keeps (x1 : State) (x2 : HeldPacket) :
    Keeps x1 (State.landWrite x1 x2) := by
  unfold State.landWrite
  extract_lets v0 v1
  split
  · rename_i e2 e3
    with_reducible refine Keeps.step (State.reply_keeps _ _ _ _) ?_
    exact Keeps.refl _
  · rename_i e4 e5 e6
    extract_lets v7 v8
    refine Keeps.have v8 ?_ fun h9 => ?_
    · refine Keeps.ite ?_ ?_
      · with_reducible refine Keeps.step (State.trackerCheck_keeps _ _ _ _) ?_
        with_reducible refine Keeps.step (Keeps.ofSame (State.putTracker_same _ _) (by decide)) ?_
        refine Keeps.step (State.writePlace_keeps _ _ _ _ _ e6) ?_
        exact Keeps.refl _
      · refine Keeps.step (State.writePlace_keeps _ _ _ _ _ e6) ?_
        exact Keeps.refl _
    clear_value v8
    with_reducible refine Keeps.step (State.reply_keeps _ _ _ _) ?_
    exact h9

theorem State.landAtomicPacket_keeps (x1 : State) (x2 : HeldPacket) :
    Keeps x1 (State.landAtomicPacket x1 x2) := by
  unfold State.landAtomicPacket
  extract_lets v0 v1
  split
  · rename_i e2 e3
    with_reducible refine Keeps.step (State.reply_keeps _ _ _ _) ?_
    exact Keeps.refl _
  · rename_i e4 e5 e6
    extract_lets v7 v8
    split
    · rename_i e9 e10
      with_reducible refine Keeps.step (State.reply_keeps _ _ _ _) ?_
      exact Keeps.refl _
    · rename_i e11 e12 e13
      with_reducible refine Keeps.step (State.settle_keeps _ _ _ _ _) ?_
      refine Keeps.step (State.writePlace_keeps _ _ _ _ _ e13) ?_
      exact Keeps.refl _

theorem State.landHeld_keeps (x1 : State) (x2 : HeldPacket) :
    Keeps x1 (State.landHeld x1 x2) := by
  unfold State.landHeld
  split
  · rename_i e0 e1
    with_reducible refine Keeps.step (State.landWrite_keeps _ _) ?_
    exact Keeps.refl _
  · rename_i e2 e3
    with_reducible refine Keeps.step (State.landFlagPacket_keeps _ _) ?_
    exact Keeps.refl _
  · rename_i e4 e5 e6
    with_reducible refine Keeps.step (State.landAtomicPacket_keeps _ _) ?_
    exact Keeps.refl _

theorem State.doWrite_keeps (x1 : State) (x2 : Packet) (x3 : Bool) :
    Keeps x1 (State.doWrite x1 x2 x3) := by
  unfold State.doWrite
  split
  · rename_i e0 e1 e2 e3
    with_reducible refine Keeps.step (State.reply_keeps _ _ _ _) ?_
    refine Keeps.fstOf e3 ?_
    with_reducible refine Keeps.step (State.admitPacket_keeps _ _ _ _ _ _) ?_
    exact Keeps.refl _
  · rename_i e4 e5 e6 e7
    extract_lets v8 v9 v10
    refine Keeps.ite ?_ ?_
    · refine Keeps.fstOf e7 ?_
      with_reducible refine Keeps.step (State.admitPacket_keeps _ _ _ _ _ _) ?_
      exact Keeps.refl _
    · refine Keeps.ite ?_ ?_
      · with_reducible refine Keeps.step (State.reply_keeps _ _ _ _) ?_
        refine Keeps.fstOf e7 ?_
        with_reducible refine Keeps.step (State.admitPacket_keeps _ _ _ _ _ _) ?_
        exact Keeps.refl _
      · split
        · rename_i e11 e12 e13
          with_reducible refine Keeps.step (Keeps.ofSame (State.holdIn_same _ _ _) (by decide)) ?_
          refine Keeps.ite ?_ ?_
          · with_reducible refine Keeps.step (Keeps.ofSame (State.putTracker_same _ _) (by decide)) ?_
            refine Keeps.fstOf e7 ?_
            with_reducible refine Keeps.step (State.admitPacket_keeps _ _ _ _ _ _) ?_
            exact Keeps.refl _
          · refine Keeps.fstOf e7 ?_
            with_reducible refine Keeps.step (State.admitPacket_keeps _ _ _ _ _ _) ?_
            exact Keeps.refl _
        · rename_i e14 e15
          with_reducible refine Keeps.step (State.landWrite_keeps _ _) ?_
          refine Keeps.fstOf e7 ?_
          with_reducible refine Keeps.step (State.admitPacket_keeps _ _ _ _ _ _) ?_
          exact Keeps.refl _

theorem State.doFlag_keeps (x1 : State) (x2 : Packet) (x3 : Bool) :
    Keeps x1 (State.doFlag x1 x2 x3) := by
  unfold State.doFlag
  with_reducible refine State.again_keeps ?_ ?_
  · exact Keeps.refl _
  · split
    · rename_i e0 e1 e2 e3
      with_reducible refine Keeps.step (State.reply_keeps _ _ _ _) ?_
      refine Keeps.fstOf e3 ?_
      with_reducible refine Keeps.step (State.admitPacket_keeps _ _ _ _ _ _) ?_
      exact Keeps.refl _
    · rename_i e4 e5 e6 e7
      extract_lets v8 v9
      refine Keeps.ite ?_ ?_
      · refine Keeps.fstOf e7 ?_
        with_reducible refine Keeps.step (State.admitPacket_keeps _ _ _ _ _ _) ?_
        exact Keeps.refl _
      · with_reducible refine State.once_keeps ?_ ?_
        · refine Keeps.fstOf e7 ?_
          with_reducible refine Keeps.step (State.admitPacket_keeps _ _ _ _ _ _) ?_
          exact Keeps.refl _
        · intro y10 h11
          refine Keeps.ite ?_ ?_
          · with_reducible refine Keeps.step (State.applyFlag_keeps _ _) ?_
            exact h11
          · split
            · rename_i e12 e13
              refine Keeps.ite ?_ ?_
              · with_reducible refine Keeps.step (State.reply_keeps _ _ _ _) ?_
                exact h11
              · with_reducible refine Keeps.step (Keeps.ofSame (State.putTracker_same _ _) (by decide)) ?_
                exact h11
            · rename_i e14 e15 e16
              with_reducible refine Keeps.step (State.trackerCheck_keeps _ _ _ _) ?_
              with_reducible refine Keeps.step (Keeps.ofSame (State.putTracker_same _ _) (by decide)) ?_
              exact h11

theorem State.doAtomic_keeps (x1 : State) (x2 : Packet) :
    Keeps x1 (State.doAtomic x1 x2) := by
  unfold State.doAtomic
  with_reducible refine State.again_keeps ?_ ?_
  · exact Keeps.refl _
  · split
    · rename_i e0 e1 e2 e3
      with_reducible refine Keeps.step (State.reply_keeps _ _ _ _) ?_
      refine Keeps.fstOf e3 ?_
      with_reducible refine Keeps.step (State.admitPacket_keeps _ _ _ _ _ _) ?_
      exact Keeps.refl _
    · rename_i e4 e5 e6 e7
      extract_lets v8
      refine Keeps.ite ?_ ?_
      · refine Keeps.fstOf e7 ?_
        with_reducible refine Keeps.step (State.admitPacket_keeps _ _ _ _ _ _) ?_
        exact Keeps.refl _
      · with_reducible refine State.once_keeps ?_ ?_
        · refine Keeps.fstOf e7 ?_
          with_reducible refine Keeps.step (State.admitPacket_keeps _ _ _ _ _ _) ?_
          exact Keeps.refl _
        · intro y9 h10
          split
          · rename_i e11 e12 e13
            with_reducible refine Keeps.step (Keeps.ofSame (State.holdIn_same _ _ _) (by decide)) ?_
            exact h10
          · rename_i e14 e15
            with_reducible refine Keeps.step (State.landAtomicPacket_keeps _ _) ?_
            exact h10

end Sys2Proof.Machine
end

