-- ==== Sys2Proof/Laws/KeepLedger.lean ====
section
/-! SUPPORT. What the functions of Machine/Ledger.lean keep: the dictionary and the store in canonical form, the field map
bounded, the fuses, the seal and the rollback counters. -/

namespace Sys2Proof.Machine

open Sys2Proof

theorem State.ledgerReport_keeps (x1 : State) :
    Keeps x1 (State.ledgerReport x1) := by
  unfold State.ledgerReport
  extract_lets v0
  with_reducible refine Keeps.step (State.setReg_keeps _ _ _) ?_
  with_reducible refine Keeps.step (State.setReg_keeps _ _ _) ?_
  with_reducible refine Keeps.step (State.setReg_keeps _ _ _) ?_
  with_reducible refine Keeps.step (State.setReg_keeps _ _ _) ?_
  exact Keeps.refl _

theorem State.releaseWrites_keeps (x1 : State) (x2 : Migration) :
    Keeps x1 (State.releaseWrites x1 x2) := by
  unfold State.releaseWrites
  refine Keeps.foldl ?_ fun q0 y1 h2 => ?_
  · exact Keeps.refl _
  · with_reducible refine Keeps.step (State.landHeld_keeps _ _) ?_
    exact h2

theorem State.unmap_keeps (x1 : State) (x2 : List Nat) :
    Keeps x1 (State.unmap x1 x2) := by
  unfold State.unmap
  extract_lets v0 v1 v2 v3 v4
  refine Keeps.have v3 ?_ fun h5 => ?_
  · refine Keeps.foldl ?_ fun q6 y7 h8 => ?_
    · with_reducible refine Keeps.record rfl ?_ ?_
      · exact Keeps.of_eq rfl rfl rfl rfl
      exact Keeps.refl _
    · with_reducible refine Keeps.step (State.releaseWrites_keeps _ _) ?_
      exact h8
  clear_value v3
  refine Keeps.have v4 ?_ fun h9 => ?_
  · with_reducible refine Keeps.step (Keeps.ofSame (State.flip_same _) (by decide)) ?_
    refine Keeps.foldl ?_ fun q10 y11 h12 => ?_
    · exact h5
    · with_reducible refine Keeps.step (Keeps.ofSame (State.reEntry_same _ _ _) (by decide)) ?_
      exact h12
  clear_value v4
  with_reducible refine Keeps.step (Keeps.ofSame (State.holdFrames_same _ _) (by decide)) ?_
  exact h9

theorem State.abandonMig_keeps (x1 : State) (x2 : Migration) :
    Keeps x1 (State.abandonMig x1 x2) := by
  unfold State.abandonMig
  extract_lets v0 v1
  refine Keeps.have v0 ?_ fun h2 => ?_
  · with_reducible refine Keeps.step (Keeps.ofSame (State.reEntry_same _ _ _) (by decide)) ?_
    exact Keeps.refl _
  clear_value v0
  refine Keeps.have v1 ?_ fun h3 => ?_
  · dsimp only [v1]
    with_reducible refine Keeps.record rfl ?_ ?_
    · exact Keeps.of_eq rfl rfl rfl rfl
    exact h2
  clear_value v1
  with_reducible refine Keeps.step (State.bump_keeps _ _) ?_
  with_reducible refine Keeps.step (State.releaseWrites_keeps _ _) ?_
  exact h3

theorem State.retireFrame_keeps (x1 : State) (x2 x3 : Nat) :
    Keeps x1 (State.retireFrame x1 x2 x3) := by
  unfold State.retireFrame
  refine Keeps.ite ?_ ?_
  · exact Keeps.refl _
  · extract_lets v0 v1 v2
    refine Keeps.have v1 ?_ fun h3 => ?_
    · with_reducible refine Keeps.step (Keeps.ofSame (State.setStore_same _ _ _) (by decide)) ?_
      exact Keeps.refl _
    clear_value v1
    refine Keeps.have v2 ?_ fun h4 => ?_
    · with_reducible refine Keeps.step (State.mapRecord_keeps _ _) ?_
      exact h3
    clear_value v2
    refine Keeps.ite ?_ ?_
    · with_reducible refine Keeps.step (State.bump_keeps _ _) ?_
      exact h4
    · exact h4

theorem State.switchMig_keeps (x1 : State) (x2 : Migration) :
    Keeps x1 (State.switchMig x1 x2) := by
  unfold State.switchMig
  extract_lets v0 v1 v2 v3 v4
  refine Keeps.have v3 ?_ fun h5 => ?_
  · with_reducible refine Keeps.step (Keeps.ofSame (State.holdFrames_same _ _) (by decide)) ?_
    with_reducible refine Keeps.step (Keeps.ofSame (State.flip_same _) (by decide)) ?_
    with_reducible refine Keeps.step (Keeps.ofSame (State.reEntry_same _ _ _) (by decide)) ?_
    exact Keeps.refl _
  clear_value v3
  refine Keeps.have v4 ?_ fun h6 => ?_
  · with_reducible refine Keeps.step (State.bump_keeps _ _) ?_
    with_reducible refine Keeps.step (State.releaseWrites_keeps _ _) ?_
    with_reducible refine Keeps.step (Keeps.ofSame (State.setMig_same _ _ _) (by decide)) ?_
    exact h5
  clear_value v4
  with_reducible refine Keeps.step (State.ledgerReport_keeps _) ?_
  refine Keeps.foldl ?_ fun q7 y8 h9 => ?_
  · with_reducible refine Keeps.step (Keeps.ofSame (State.noteMoved_same _ _) (by decide)) ?_
    exact h6
  · refine Keeps.ite ?_ ?_
    · with_reducible refine Keeps.step (State.retireFrame_keeps _ _ _) ?_
      exact h9
    · exact h9

theorem State.endMig_keeps (x1 : State) (x2 : Migration) (x3 : Status) :
    Keeps x1 (State.endMig x1 x2 x3) := by
  unfold State.endMig
  extract_lets v0
  refine Keeps.have v0 ?_ fun h1 => ?_
  · with_reducible refine Keeps.step (State.abandonMig_keeps _ _) ?_
    exact Keeps.refl _
  clear_value v0
  split
  · rename_i e2 e3 e4 e5 e6 e7
    with_reducible refine Keeps.record rfl ?_ ?_
    · exact Keeps.of_eq rfl rfl rfl rfl
    exact h1
  · rename_i e8 e9 e10
    exact h1

theorem State.endDark_keeps (x1 : State) (x2 : Migration) :
    Keeps x1 (State.endDark x1 x2) := by
  unfold State.endDark
  with_reducible refine Keeps.step (State.endMig_keeps _ _ _) ?_
  exact Keeps.refl _

theorem State.restoreMoved_keeps (x1 : State) :
    Keeps x1 (State.restoreMoved x1) := by
  unfold State.restoreMoved
  split
  · rename_i e0 e1 e2
    refine Keeps.ite ?_ ?_
    · with_reducible refine Keeps.step (State.ledgerReport_keeps _) ?_
      refine Keeps.foldl ?_ fun q3 y4 h5 => ?_
      · with_reducible refine Keeps.record rfl ?_ ?_
        · exact Keeps.of_eq rfl rfl rfl rfl
        exact Keeps.refl _
      · with_reducible refine Keeps.step (Keeps.ofSame (State.moveBack_same _ _) (by decide)) ?_
        exact h5
    · exact Keeps.refl _
  · rename_i e6 e7
    exact Keeps.refl _

theorem State.drainOutcome_keeps (x1 : State) (x2 : Nat) (x3 : Status) :
    Keeps x1 (State.drainOutcome x1 x2 x3) := by
  unfold State.drainOutcome
  refine Keeps.ite ?_ ?_
  · exact Keeps.refl _
  · with_reducible refine Keeps.step (State.setReg_keeps _ _ _) ?_
    exact Keeps.refl _

theorem State.dropMigs_keeps (x1 : State) (x2 : Nat) :
    Keeps x1 (State.dropMigs x1 x2) := by
  unfold State.dropMigs
  with_reducible refine Keeps.step (State.restoreMoved_keeps _) ?_
  refine Keeps.foldl ?_ fun q0 y1 h2 => ?_
  · exact Keeps.refl _
  · with_reducible refine Keeps.step (State.endMig_keeps _ _ _) ?_
    exact h2

theorem State.polderDrop_keeps (x1 : State) (x2 : Nat) :
    Keeps x1 (State.polderDrop x1 x2) := by
  unfold State.polderDrop
  extract_lets v0 v1
  refine Keeps.have v0 ?_ fun h2 => ?_
  · with_reducible refine Keeps.step (State.dropSlices_keeps _ _) ?_
    with_reducible refine Keeps.step (State.dropMigs_keeps _ _) ?_
    exact Keeps.refl _
  clear_value v0
  with_reducible refine Keeps.step (Keeps.ofSame (State.setStore_same _ _ _) (by decide)) ?_
  exact h2

theorem State.channelDrop_keeps (x1 : State) (x2 : Nat) :
    Keeps x1 (State.channelDrop x1 x2) := by
  unfold State.channelDrop
  extract_lets v0 v1 v2 v3 v4 v5 v6 v7 v8
  refine Keeps.have v0 ?_ fun h9 => ?_
  · with_reducible refine Keeps.step (State.dropMigs_keeps _ _) ?_
    exact Keeps.refl _
  clear_value v0
  refine Keeps.have v3 ?_ fun h10 => ?_
  · with_reducible refine Keeps.step (Keeps.ofSame (State.setChan_same _ _ _) (by decide)) ?_
    exact h9
  clear_value v3
  refine Keeps.have v5 ?_ fun h11 => ?_
  · refine Keeps.ite ?_ ?_
    · with_reducible refine Keeps.step (Keeps.ofSame (State.setStore_same _ _ _) (by decide)) ?_
      exact h10
    · with_reducible refine Keeps.step (Keeps.ofSame (State.setStore_same _ _ _) (by decide)) ?_
      exact h10
  clear_value v5
  refine Keeps.have v6 ?_ fun h12 => ?_
  · with_reducible refine Keeps.step (State.addReg_keeps _ _ _) ?_
    exact h11
  clear_value v6
  refine Keeps.have v7 ?_ fun h13 => ?_
  · refine Keeps.ite ?_ ?_
    · with_reducible refine Keeps.step (State.drainOutcome_keeps _ _ _) ?_
      exact h12
    · exact h12
  clear_value v7
  refine Keeps.ite ?_ ?_
  · with_reducible refine Keeps.step (Keeps.ofSame (State.setStaging_same _ _) (by decide)) ?_
    exact h13
  · exact h13

theorem State.fullCheck_keeps (x1 : Nat) (x2 : State) :
    Keeps x2 (State.fullCheck x1 x2) := by
  induction x1 generalizing x2 with
  | zero => exact Keeps.refl _
  | succ n ih =>
    unfold State.fullCheck
    split
    · exact Keeps.refl _
    · refine Keeps.trans ?_ (ih _)
      split
      · exact State.channelDrop_keeps _ _
      · exact State.polderDrop_keeps _ _

theorem State.polderOut_keeps (x1 : State) (x2 : Nat) :
    Keeps x1 (State.polderOut x1 x2) := by
  unfold State.polderOut
  with_reducible refine Keeps.step (State.fullCheck_keeps _ _) ?_
  with_reducible refine Keeps.step (State.polderDrop_keeps _ _) ?_
  exact Keeps.refl _

theorem State.channelFail_keeps (x1 : State) (x2 : Nat) :
    Keeps x1 (State.channelFail x1 x2) := by
  unfold State.channelFail
  with_reducible refine Keeps.step (State.fullCheck_keeps _ _) ?_
  with_reducible refine Keeps.step (State.channelDrop_keeps _ _) ?_
  exact Keeps.refl _

theorem State.retireCheck_keeps (x1 : State) (x2 x3 : Nat) :
    Keeps x1 (State.retireCheck x1 x2 x3) := by
  unfold State.retireCheck
  refine Keeps.ite ?_ ?_
  · exact Keeps.refl _
  · split
    · rename_i e0 e1
      with_reducible refine Keeps.step (State.retireFrame_keeps _ _ _) ?_
      exact Keeps.refl _
    · rename_i e2 e3 e4 e5
      refine Keeps.ite ?_ ?_
      · exact Keeps.refl _
      · extract_lets v6 v7
        refine Keeps.ite ?_ ?_
        · exact Keeps.refl _
        · split
          · rename_i e8 e9 e10
            with_reducible refine Keeps.step (Keeps.ofSame (State.startMig_same _ _ _ _ _) (by decide)) ?_
            exact Keeps.refl _
          · rename_i e11 e12
            exact Keeps.refl _

theorem State.marked_keeps (x1 : State) (x2 x3 : Nat) :
    Keeps x1 (State.marked x1 x2 x3) := by
  unfold State.marked
  with_reducible refine Keeps.step (State.retireCheck_keeps _ _ _) ?_
  with_reducible refine Keeps.step (State.fullCheck_keeps _ _) ?_
  with_reducible refine Keeps.step (Keeps.ofSame (State.markDue_same _ _ _) (by decide)) ?_
  exact Keeps.refl _

theorem State.retireDue_keeps (x1 : State) :
    Keeps x1 (State.retireDue x1) := by
  unfold State.retireDue
  refine Keeps.loopTo ?_ fun q0 y1 h2 => ?_
  · exact Keeps.refl _
  · refine Keeps.foldl ?_ fun q3 y4 h5 => ?_
    · exact h2
    · with_reducible refine Keeps.step (State.retireCheck_keeps _ _ _) ?_
      exact h5

theorem State.feedAll_keeps (x1 : State) :
    Keeps x1 (State.feedAll x1) := by
  unfold State.feedAll
  with_reducible refine Keeps.step (State.retireDue_keeps _) ?_
  with_reducible refine Keeps.step (Keeps.ofSame (State.feedDrains_same _) (by decide)) ?_
  with_reducible refine Keeps.step (Keeps.ofSame (State.migrateSettled_same _) (by decide)) ?_
  with_reducible refine Keeps.step (Keeps.ofSame (State.feedMigrate_same _ _) (by decide)) ?_
  exact Keeps.refl _

theorem execMigrationPhaseEnd_keeps (x1 : Nat) (x2 : State) :
    OutKeeps x2 (execMigrationPhaseEnd x1 x2) := by
  unfold execMigrationPhaseEnd
  split
  · rename_i e0 e1
    refine OutKeeps.next ?_
    exact Keeps.refl _
  · rename_i e2 e3 e4
    extract_lets v5 v6
    refine OutKeeps.have v6 ?_ fun h7 => ?_
    · with_reducible refine Keeps.step (State.fullCheck_keeps _ _) ?_
      with_reducible refine Keeps.step (Keeps.ofSame (State.migRecopy_same _ _) (by decide)) ?_
      exact Keeps.refl _
    clear_value v6
    refine OutKeeps.ite ?_ ?_
    · refine OutKeeps.next ?_
      exact Keeps.refl _
    · refine OutKeeps.ite ?_ ?_
      · refine OutKeeps.ite ?_ ?_
        · refine OutKeeps.next ?_
          dsimp only [v5]
          with_reducible refine Keeps.step (State.feedAll_keeps _) ?_
          with_reducible refine Keeps.step (State.endDark_keeps _ _) ?_
          exact Keeps.refl _
        · refine OutKeeps.next ?_
          exact Keeps.refl _
      · split
        · rename_i e8 e9
          refine OutKeeps.next ?_
          with_reducible refine Keeps.step (Keeps.ofSame (State.setMig_same _ _ _) (by decide)) ?_
          with_reducible refine Keeps.step (State.fullCheck_keeps _ _) ?_
          with_reducible refine Keeps.step (Keeps.ofSame (State.migCopy_same _ _) (by decide)) ?_
          exact Keeps.refl _
        · rename_i e10 e11
          refine OutKeeps.next ?_
          with_reducible refine Keeps.step (Keeps.ofSame (State.setMig_same _ _ _) (by decide)) ?_
          with_reducible refine Keeps.step (State.fullCheck_keeps _ _) ?_
          with_reducible refine Keeps.step (Keeps.ofSame (State.migRecopy_same _ _) (by decide)) ?_
          exact Keeps.refl _
        · rename_i e12 e13
          refine OutKeeps.ite ?_ ?_
          · refine OutKeeps.next ?_
            with_reducible refine Keeps.step (Keeps.ofSame (State.setMig_same _ _ _) (by decide)) ?_
            exact h7
          · refine OutKeeps.next ?_
            with_reducible refine Keeps.step (Keeps.ofSame (State.setMig_same _ _ _) (by decide)) ?_
            exact h7
        · rename_i e14 e15
          refine OutKeeps.next ?_
          with_reducible refine Keeps.step (Keeps.ofSame (State.setMig_same _ _ _) (by decide)) ?_
          exact Keeps.refl _
        · rename_i e16 e17
          refine OutKeeps.next ?_
          dsimp only [v5]
          with_reducible refine Keeps.step (State.feedAll_keeps _) ?_
          with_reducible refine Keeps.step (State.switchMig_keeps _ _) ?_
          exact Keeps.refl _
        · rename_i e18 e19 e20 e21 e22 e23
          refine OutKeeps.next ?_
          exact Keeps.refl _

theorem State.takeLedger_keeps {s0 s : State} {mine : Nat → Bool} {body : List Nat → State → State}
    (h : Keeps s0 s) (hb : ∀ ws t, Keeps s0 t → Keeps s0 (body ws t)) : Keeps s0 (s.takeLedger mine body) := by
  unfold State.takeLedger
  split
  · exact h
  · split
    · extract_lets c t
      split
      · exact h.trans (Keeps.of_eq rfl rfl rfl rfl)
      · split
        · exact h.trans (Keeps.of_eq rfl rfl rfl rfl)
        · exact hb _ _ (h.trans (Keeps.of_eq rfl rfl rfl rfl))
    · exact h

theorem execLedgerQueueDoorbell_keeps (x1 : Fin 2) (x2 : Nat) (x3 : State) :
    OutKeeps x3 (execLedgerQueueDoorbell x1 x2 x3) := by
  unfold execLedgerQueueDoorbell
  extract_lets v0 v1
  refine OutKeeps.next ?_
  with_reducible refine when_keeps ?_ ?_
  · with_reducible refine Keeps.step (State.traceOpen_keeps _ _ _ _ _ _ _) ?_
    with_reducible refine Keeps.step (Keeps.ofSame (State.setPort_same _ _ _) (by decide)) ?_
    exact Keeps.refl _
  · exact Keeps.refl _

theorem execMap_keeps (x1 : State) :
    OutKeeps x1 (execMap x1) := by
  unfold execMap
  refine OutKeeps.next ?_
  with_reducible refine State.takeLedger_keeps ?_ ?_
  · exact Keeps.refl _
  · intro y0 y1 h2
    with_reducible refine Keeps.step (Keeps.ofSame (State.ledgerOk_same _) (by decide)) ?_
    with_reducible refine Keeps.step (State.ledgerReport_keeps _) ?_
    refine Keeps.foldl ?_ fun q3 y4 h5 => ?_
    · exact h2
    · with_reducible refine Keeps.step (Keeps.ofSame (State.reEntry_same _ _ _) (by decide)) ?_
      exact h5

theorem execUnmap_keeps (x1 : State) :
    OutKeeps x1 (execUnmap x1) := by
  unfold execUnmap
  refine OutKeeps.next ?_
  with_reducible refine State.takeLedger_keeps ?_ ?_
  · exact Keeps.refl _
  · intro y0 y1 h2
    with_reducible refine Keeps.step (Keeps.ofSame (State.ledgerOk_same _) (by decide)) ?_
    with_reducible refine Keeps.step (State.ledgerReport_keeps _) ?_
    with_reducible refine Keeps.step (State.unmap_keeps _ _) ?_
    exact h2

theorem execProtect_keeps (x1 : State) :
    OutKeeps x1 (execProtect x1) :=
  OutKeeps.ofSame (execProtect_same _) (by decide)

theorem execMigrate_keeps (x1 : State) :
    OutKeeps x1 (execMigrate x1) :=
  OutKeeps.ofSame (execMigrate_same _) (by decide)

theorem execUnmapstream_keeps (x1 : State) :
    OutKeeps x1 (execUnmapstream x1) := by
  unfold execUnmapstream
  refine OutKeeps.next ?_
  with_reducible refine State.takeLedger_keeps ?_ ?_
  · exact Keeps.refl _
  · intro y0 y1 h2
    with_reducible refine Keeps.step (Keeps.ofSame (State.ledgerOk_same _) (by decide)) ?_
    with_reducible refine Keeps.step (State.ledgerReport_keeps _) ?_
    with_reducible refine Keeps.step (State.unmap_keeps _ _) ?_
    exact h2

theorem State.finishLedger_keeps (x1 : State) (x2 : LedgerCmd) (x3 : Nat) :
    Keeps x1 (State.finishLedger x1 x2 x3) := by
  unfold State.finishLedger
  extract_lets v0 v1 v2 v3 v4 v5 v6
  refine Keeps.have v0 ?_ fun h7 => ?_
  · dsimp only [v0]
    with_reducible refine Keeps.record rfl ?_ ?_
    · exact Keeps.of_eq rfl rfl rfl rfl
    exact Keeps.refl _
  clear_value v0
  refine Keeps.have v6 ?_ fun h8 => ?_
  · with_reducible refine Keeps.step (Keeps.ofSame (State.setPort_same _ _ _) (by decide)) ?_
    exact h7
  clear_value v6
  refine Keeps.ite ?_ ?_
  · exact h7
  · refine Keeps.ite ?_ ?_
    · with_reducible refine Keeps.step (State.traceOpen_keeps _ _ _ _ _ _ _) ?_
      exact h8
    · exact h8

theorem execLedgerCommandComplete_keeps (x1 : State) :
    OutKeeps x1 (execLedgerCommandComplete x1) := by
  unfold execLedgerCommandComplete
  extract_lets v0
  refine OutKeeps.have v0 ?_ fun h1 => ?_
  · with_reducible refine State.takeLedger_keeps ?_ ?_
    · exact Keeps.refl _
    · intro y2 y3 h4
      exact h4
  clear_value v0
  split
  · rename_i e5 e6
    refine OutKeeps.next ?_
    exact h1
  · rename_i e7 e8 e9
    split
    · rename_i e10 e11
      refine OutKeeps.next ?_
      exact h1
    · rename_i e12 e13 e14
      refine OutKeeps.ite ?_ ?_
      · refine OutKeeps.next ?_
        with_reducible refine Keeps.step (State.finishLedger_keeps _ _ _) ?_
        exact h1
      · refine OutKeeps.next ?_
        exact h1

theorem execLedgerEpochDrain_keeps (x1 : State) :
    OutKeeps x1 (execLedgerEpochDrain x1) := by
  unfold execLedgerEpochDrain
  extract_lets v0 v1 v2
  refine OutKeeps.next ?_
  with_reducible refine Keeps.step (State.feedAll_keeps _) ?_
  with_reducible refine Keeps.step (State.setReg_keeps _ _ _) ?_
  with_reducible refine Keeps.record rfl ?_ ?_
  · exact Keeps.of_eq rfl rfl rfl rfl
  exact Keeps.refl _

theorem State.memError_keeps (x1 : State) (x2 : MemError) :
    Keeps x1 (State.memError x1 x2) := by
  unfold State.memError
  extract_lets v0 v1 v2 v3
  refine Keeps.have v3 ?_ fun h4 => ?_
  · with_reducible refine Keeps.step (Keeps.ofSame (State.setStore_same _ _ _) (by decide)) ?_
    exact Keeps.refl _
  clear_value v3
  refine Keeps.ite ?_ ?_
  · exact Keeps.refl _
  · refine Keeps.ite ?_ ?_
    · with_reducible refine Keeps.step (State.bump_keeps _ _) ?_
      exact Keeps.refl _
    · refine Keeps.ite ?_ ?_
      · exact Keeps.refl _
      · with_reducible refine Keeps.step (State.marked_keeps _ _ _) ?_
        exact h4

theorem State.memErrors_keeps (x1 : State) (x2 : List MemError) :
    Keeps x1 (State.memErrors x1 x2) := by
  unfold State.memErrors
  refine Keeps.foldl ?_ fun q0 y1 h2 => ?_
  · exact Keeps.refl _
  · with_reducible refine Keeps.step (State.memError_keeps _ _) ?_
    exact h2

theorem execPatrolScrub_keeps (x1 : Fin 16) (x2 : Nat) (x3 : List MemError) (x4 : State) :
    OutKeeps x4 (execPatrolScrub x1 x2 x3 x4) := by
  unfold execPatrolScrub
  extract_lets v0 v1 v2
  refine OutKeeps.have v2 ?_ fun h3 => ?_
  · with_reducible refine Keeps.step (Keeps.ofSame (State.setStore_same _ _ _) (by decide)) ?_
    exact Keeps.refl _
  clear_value v2
  refine OutKeeps.ite ?_ ?_
  · refine OutKeeps.next ?_
    exact Keeps.refl _
  · refine OutKeeps.next ?_
    with_reducible refine Keeps.step (State.memErrors_keeps _ _) ?_
    exact h3

theorem execSelfRefreshEntry_keeps (x1 : Fin 16) (x2 : State) :
    OutKeeps x2 (execSelfRefreshEntry x1 x2) :=
  OutKeeps.ofSame (execSelfRefreshEntry_same _ _) (by decide)

end Sys2Proof.Machine
end

