-- ==== Sys2Proof/Laws/KeepSequencer.lean ====
section
/-! SUPPORT. What the functions of Machine/Sequencer.lean keep: the dictionary and the store in canonical form, the field map
bounded, the fuses, the seal and the rollback counters. -/

namespace Sys2Proof.Machine

open Sys2Proof

theorem State.coreFault_keeps (x1 : State) (x2 : Nat) (x3 : Grant) (x4 x5 x6 x7 : Nat) (x8 : optParam Nat 0) :
    Keeps x1 (State.coreFault x1 x2 x3 x4 x5 x6 x7 x8) := by
  unfold State.coreFault
  with_reducible refine Keeps.step (State.stepFault_keeps _ _ _) ?_
  exact Keeps.refl _

theorem execInstructionIssue_keeps (x1 : Fin 8) (x2 : Fin 48) (x3 : State) :
    OutKeeps x3 (execInstructionIssue x1 x2 x3) :=
  OutKeeps.ofSame (execInstructionIssue_same _ _ _) (by decide)

theorem State.completeInstr_keeps (x1 : State) (x2 : Nat) (x3 : Grant) (x4 : CoreRun) (x5 : Nat) (x6 : QInstr) :
    Keeps x1 (State.completeInstr x1 x2 x3 x4 x5 x6) := by
  unfold State.completeInstr
  refine Keeps.ite ?_ ?_
  · extract_lets v0
    refine Keeps.ite ?_ ?_
    · with_reducible refine Keeps.step (State.coreFault_keeps _ _ _ _ _ _ _ _) ?_
      with_reducible refine Keeps.step (Keeps.ofSame (State.setRun_same _ _ _) (by decide)) ?_
      exact Keeps.refl _
    · with_reducible refine Keeps.step (Keeps.ofSame (State.setRun_same _ _ _) (by decide)) ?_
      exact Keeps.refl _
  · with_reducible refine Keeps.step (Keeps.ofSame (State.setRun_same _ _ _) (by decide)) ?_
    exact Keeps.refl _

theorem execInstructionComplete_keeps (x1 : Fin 8) (x2 : Fin 48) (x3 : Fin 12) (x4 : Nat) (x5 : State) :
    OutKeeps x5 (execInstructionComplete x1 x2 x3 x4 x5) := by
  unfold execInstructionComplete
  split
  · rename_i e0 e1
    refine OutKeeps.next ?_
    exact Keeps.refl _
  · rename_i e2 e3 e4 e5 e6
    extract_lets v7
    refine OutKeeps.ite ?_ ?_
    · refine OutKeeps.next ?_
      exact Keeps.refl _
    · split
      · rename_i e8 e9
        refine OutKeeps.next ?_
        exact Keeps.refl _
      · rename_i e10 e11 e12
        refine OutKeeps.ite ?_ ?_
        · refine OutKeeps.next ?_
          exact Keeps.refl _
        · refine OutKeeps.ite ?_ ?_
          · extract_lets v13
            refine OutKeeps.ite ?_ ?_
            · refine OutKeeps.next ?_
              with_reducible refine Keeps.step (State.completeInstr_keeps _ _ _ _ _ _) ?_
              exact Keeps.refl _
            · refine OutKeeps.next ?_
              exact Keeps.refl _
          · refine OutKeeps.next ?_
            with_reducible refine Keeps.step (State.completeInstr_keeps _ _ _ _ _ _) ?_
            exact Keeps.refl _

theorem State.sequence_keeps {s0 s : State} {die core c op : Nat}
    {f : Nat → Grant → CoreRun → Nat → State → State} (h : Keeps s0 s) (hf : ∀ k g r w t, Keeps s0 t → Keeps s0 (f k g r w t)) :
    Keeps s0 (s.sequence die core c op f) := by
  unfold State.sequence
  split
  · exact h
  · extract_lets w
    split
    · exact hf _ _ _ _ _ (h.trans (Keeps.ofSame (State.setRun_same _ _ _) (by decide)))
    · exact h

theorem execWaitpin_keeps (x1 : Fin 8) (x2 : Fin 48) (x3 : State) :
    OutKeeps x3 (execWaitpin x1 x2 x3) :=
  OutKeeps.ofSame (execWaitpin_same _ _ _) (by decide)

theorem execSemadd_keeps (x1 : Fin 8) (x2 : Fin 48) (x3 : State) :
    OutKeeps x3 (execSemadd x1 x2 x3) := by
  unfold execSemadd
  refine OutKeeps.next ?_
  with_reducible refine State.sequence_keeps ?_ ?_
  · exact Keeps.refl _
  · intro y0 y1 y2 y3 y4 h5
    extract_lets v6 v7
    refine Keeps.ite ?_ ?_
    · with_reducible refine Keeps.step (Keeps.ofSame (State.setSem_same _ _ _ _) (by decide)) ?_
      with_reducible refine Keeps.step (Keeps.ofSame (State.setRun_same _ _ _) (by decide)) ?_
      exact h5
    · with_reducible refine Keeps.step (State.coreFault_keeps _ _ _ _ _ _ _ _) ?_
      exact h5

theorem execSemwait_keeps (x1 : Fin 8) (x2 : Fin 48) (x3 : State) :
    OutKeeps x3 (execSemwait x1 x2 x3) :=
  OutKeeps.ofSame (execSemwait_same _ _ _) (by decide)

theorem execFence_keeps (x1 : Fin 8) (x2 : Fin 48) (x3 : State) :
    OutKeeps x3 (execFence x1 x2 x3) :=
  OutKeeps.ofSame (execFence_same _ _ _) (by decide)

theorem State.waitmem_keeps (x1 : State) (x2 : Nat) (x3 : Grant) (x4 : CoreRun) (x5 : Nat) (x6 : Bool) :
    Keeps x1 (State.waitmem x1 x2 x3 x4 x5 x6) := by
  unfold State.waitmem
  extract_lets v0 v1
  split
  · rename_i e2 e3 e4
    refine Keeps.ite ?_ ?_
    · exact Keeps.refl _
    · with_reducible refine Keeps.step (State.coreFault_keeps _ _ _ _ _ _ _ _) ?_
      exact Keeps.refl _
  · rename_i e5 e6
    refine Keeps.ite ?_ ?_
    · with_reducible refine Keeps.step (Keeps.ofSame (State.setRun_same _ _ _) (by decide)) ?_
      exact Keeps.refl _
    · with_reducible refine Keeps.step (Keeps.ofSame (State.setRun_same _ _ _) (by decide)) ?_
      exact Keeps.refl _

theorem execWaitmem_keeps (x1 : Fin 8) (x2 : Fin 48) (x3 : State) :
    OutKeeps x3 (execWaitmem x1 x2 x3) := by
  unfold execWaitmem
  refine OutKeeps.next ?_
  with_reducible refine State.sequence_keeps ?_ ?_
  · exact Keeps.refl _
  · intro y0 y1 y2 y3 y4 h5
    with_reducible refine Keeps.step (State.waitmem_keeps _ _ _ _ _ _) ?_
    exact h5

theorem execWaitmemPoll_keeps (x1 : Fin 8) (x2 : Fin 48) (x3 : State) :
    OutKeeps x3 (execWaitmemPoll x1 x2 x3) := by
  unfold execWaitmemPoll
  refine OutKeeps.next ?_
  with_reducible refine State.sequence_keeps ?_ ?_
  · exact Keeps.refl _
  · intro y0 y1 y2 y3 y4 h5
    refine Keeps.ite ?_ ?_
    · with_reducible refine Keeps.step (State.waitmem_keeps _ _ _ _ _ _) ?_
      exact h5
    · exact h5

theorem execNop_keeps (x1 : Fin 8) (x2 : Fin 48) (x3 : State) :
    OutKeeps x3 (execNop x1 x2 x3) :=
  OutKeeps.ofSame (execNop_same _ _ _) (by decide)

theorem execBr_keeps (x1 : Fin 8) (x2 : Fin 48) (x3 : State) :
    OutKeeps x3 (execBr x1 x2 x3) :=
  OutKeeps.ofSame (execBr_same _ _ _) (by decide)

theorem execBrc_keeps (x1 : Fin 8) (x2 : Fin 48) (x3 : State) :
    OutKeeps x3 (execBrc x1 x2 x3) :=
  OutKeeps.ofSame (execBrc_same _ _ _) (by decide)

theorem execIadd_keeps (x1 : Fin 8) (x2 : Fin 48) (x3 : State) :
    OutKeeps x3 (execIadd x1 x2 x3) :=
  OutKeeps.ofSame (execIadd_same _ _ _) (by decide)

theorem execIset_keeps (x1 : Fin 8) (x2 : Fin 48) (x3 : State) :
    OutKeeps x3 (execIset x1 x2 x3) :=
  OutKeeps.ofSame (execIset_same _ _ _) (by decide)

theorem execIload_keeps (x1 : Fin 8) (x2 : Fin 48) (x3 : State) :
    OutKeeps x3 (execIload x1 x2 x3) := by
  unfold execIload
  refine OutKeeps.next ?_
  with_reducible refine State.sequence_keeps ?_ ?_
  · exact Keeps.refl _
  · intro y0 y1 y2 y3 y4 h5
    extract_lets v6
    split
    · rename_i e7 e8 e9
      with_reducible refine Keeps.step (State.coreFault_keeps _ _ _ _ _ _ _ _) ?_
      exact h5
    · rename_i e10 e11
      refine Keeps.ite ?_ ?_
      · with_reducible refine Keeps.step (Keeps.ofSame (State.setRun_same _ _ _) (by decide)) ?_
        exact h5
      · with_reducible refine Keeps.step (Keeps.ofSame (State.setRun_same _ _ _) (by decide)) ?_
        exact h5

theorem execTrap_keeps (x1 : Fin 8) (x2 : Fin 48) (x3 : State) :
    OutKeeps x3 (execTrap x1 x2 x3) := by
  unfold execTrap
  refine OutKeeps.next ?_
  with_reducible refine State.sequence_keeps ?_ ?_
  · exact Keeps.refl _
  · intro y0 y1 y2 y3 y4 h5
    with_reducible refine Keeps.step (State.coreFault_keeps _ _ _ _ _ _ _ _) ?_
    exact h5

theorem State.judge_keeps (x1 : State) (x2 : Entry) :
    Keeps x1 (State.judge x1 x2).1 := by
  unfold State.judge
  refine Keeps.iteFst ?_ ?_
  · dsimp only
    with_reducible refine Keeps.step (State.bump_keeps _ _) ?_
    exact Keeps.refl _
  · extract_lets v0 v1
    refine Keeps.have v0 ?_ fun h2 => ?_
    · refine Keeps.ite ?_ ?_
      · with_reducible refine Keeps.step (State.bump_keeps _ _) ?_
        exact Keeps.refl _
      · exact Keeps.refl _
    clear_value v0
    refine Keeps.have v1 ?_ fun h3 => ?_
    · refine Keeps.ite ?_ ?_
      · with_reducible refine Keeps.step (State.bump_keeps _ _) ?_
        exact h2
      · exact h2
    clear_value v1
    dsimp only
    exact h3

theorem State.dropNext_keeps (x1 : State) (x2 : Grant) (x3 : Nat) :
    Keeps x1 (State.dropNext x1 x2 x3) := by
  unfold State.dropNext
  extract_lets v0 v1 v2
  refine Keeps.have v1 ?_ fun h3 => ?_
  · with_reducible refine Keeps.step (State.traceStep_keeps _ _ _ _ _ _ _ _) ?_
    with_reducible refine Keeps.step (State.postStep_keeps _ _ _ _ _ _ _ _) ?_
    exact Keeps.refl _
  clear_value v1
  refine Keeps.have v2 ?_ fun h4 => ?_
  · refine Keeps.foldl ?_ fun q5 y6 h7 => ?_
    · exact h3
    · with_reducible refine Keeps.step (Keeps.ofSame (State.note_same _ _ _ _) (by decide)) ?_
      exact h7
  clear_value v2
  with_reducible refine Keeps.step (State.sweepEntries_keeps _ _) ?_
  with_reducible refine Keeps.step (Keeps.ofSame (State.setEntry_same _ _ _ _) (by decide)) ?_
  exact h4

theorem State.commit_keeps (x1 : State) (x2 : Grant) :
    Keeps x1 (State.commit x1 x2) := by
  unfold State.commit
  extract_lets v0
  split
  · rename_i e1 e2
    with_reducible refine Keeps.step (Keeps.ofSame (State.freeGrant_same _ _) (by decide)) ?_
    exact Keeps.refl _
  · rename_i e3 e4 e5
    extract_lets v6
    split
    rename_i e7 e8 e9 e10
    extract_lets v11 v12 v13 v14
    refine Keeps.have v11 ?_ fun h15 => ?_
    · with_reducible refine Keeps.step (Keeps.ofSame (State.setStream_same _ _ _) (by decide)) ?_
      refine Keeps.fstOf e10 ?_
      refine Keeps.iteFst ?_ ?_
      · with_reducible refine Keeps.step (State.judge_keeps _ _) ?_
        exact Keeps.refl _
      · dsimp only
        exact Keeps.refl _
    clear_value v11
    refine Keeps.have v12 ?_ fun h16 => ?_
    · with_reducible refine Keeps.step (Keeps.ofSame (State.setEntry_same _ _ _ _) (by decide)) ?_
      with_reducible refine Keeps.step (State.traceStep_keeps _ _ _ _ _ _ _ _) ?_
      with_reducible refine Keeps.step (State.postStep_keeps _ _ _ _ _ _ _ _) ?_
      exact h15
    clear_value v12
    refine Keeps.have v13 ?_ fun h17 => ?_
    · refine Keeps.ite ?_ ?_
      · with_reducible refine Keeps.step (Keeps.ofSame (State.note_same _ _ _ _) (by decide)) ?_
        exact h16
      · exact h16
    clear_value v13
    refine Keeps.have v14 ?_ fun h18 => ?_
    · with_reducible refine Keeps.step (Keeps.ofSame (State.applyWaiting_same _ _) (by decide)) ?_
      with_reducible refine Keeps.step (Keeps.ofSame (State.freeGrant_same _ _) (by decide)) ?_
      exact h17
    clear_value v14
    refine Keeps.ite ?_ ?_
    · exact h18
    · refine Keeps.ite ?_ ?_
      · with_reducible refine Keeps.step (Keeps.ofSame (State.setEntry_same _ _ _ _) (by decide)) ?_
        exact h18
      · split
        · rename_i e19 e20
          with_reducible refine Keeps.step (State.dropNext_keeps _ _ _) ?_
          exact h18
        · rename_i e21 e22 e23
          refine Keeps.ite ?_ ?_
          · with_reducible refine Keeps.step (State.dropNext_keeps _ _ _) ?_
            exact h18
          · with_reducible refine Keeps.step (State.stepStart_keeps _ _) ?_
            exact h18

theorem execEndStep_keeps (x1 : Fin 8) (x2 : Fin 48) (x3 : State) :
    OutKeeps x3 (execEndStep x1 x2 x3) := by
  unfold execEndStep
  refine OutKeeps.next ?_
  with_reducible refine State.sequence_keeps ?_ ?_
  · exact Keeps.refl _
  · intro y0 y1 y2 y3 y4 h5
    refine Keeps.ite ?_ ?_
    · extract_lets v6 v7 v8 v9 v10
      refine Keeps.have v6 ?_ fun h11 => ?_
      · with_reducible refine Keeps.step (State.capture_keeps _ _ _ _) ?_
        exact h5
      clear_value v6
      refine Keeps.have v8 ?_ fun h12 => ?_
      · dsimp only [v8]
        split
        · rename_i e13 e14 e15
          with_reducible refine Keeps.step (Keeps.ofSame (State.setStream_same _ _ _) (by decide)) ?_
          exact h11
        · rename_i e16 e17
          exact h11
      clear_value v8
      refine Keeps.have v10 ?_ fun h18 => ?_
      · dsimp only [v10]
        with_reducible refine Keeps.record rfl ?_ ?_
        · exact Keeps.of_eq rfl rfl rfl rfl
        exact h12
      clear_value v10
      refine Keeps.ite ?_ ?_
      · with_reducible refine Keeps.step (State.commit_keeps _ _) ?_
        exact h18
      · exact h18
    · exact h5

end Sys2Proof.Machine
end

