-- ==== Sys2Proof/Laws/KeepUnits.lean ====
section
/-! SUPPORT. What the functions of Machine/Units.lean keep: the dictionary and the store in canonical form, the field map
bounded, the fuses, the seal and the rollback counters. -/

namespace Sys2Proof.Machine

open Sys2Proof

theorem State.startUnit_keeps {s0 s : State} {die core u c op : Nat}
    {check : Nat → Grant → CoreRun → QInstr → Chk} {effect : Nat → Grant → QInstr → State → State}
    (h : Keeps s0 s) (he : ∀ k g q t, Keeps s0 t → Keeps s0 (effect k g q t)) :
    Keeps s0 (s.startUnit die core u c op check effect) := by
  unfold State.startUnit
  split
  · exact h
  · split
    · exact h
    · extract_lets us
      split
      · split
        · exact h
        · exact Keeps.step (State.coreFault_keeps _ _ _ _ _ _ _) h
        · exact Keeps.step (State.completeInstr_keeps _ _ _ _ _ _) h
        · exact he _ _ _ _ (h.trans (Keeps.ofSame (State.setRun_same _ _ _) (by decide)))
      · exact h

end Sys2Proof.Machine
end

