-- ==== Sys2Proof/Laws/KeepVector.lean ====
section
/-! SUPPORT. What the functions of Machine/Vector.lean keep: the dictionary and the store in canonical form, the field map
bounded, the fuses, the seal and the rollback counters. -/

namespace Sys2Proof.Machine

open Sys2Proof

theorem State.vecStart_keeps {s0 s : State} {die core op : Nat}
    {check : State → Nat → Operands3 → Chk} {run : State → Nat → Operands3 → Nat → State}
    (h : Keeps s0 s) (hr : ∀ t k o w, Keeps s0 t → Keeps s0 (run t k o w)) :
    Keeps s0 (s.vecStart die core op check run) :=
  State.startUnit_keeps h fun k _ _ t ht => hr t k _ _ ht

theorem State.vecBin_keeps (x1 : State) (x2 x3 x4 : Nat) :
    Keeps x1 (State.vecBin x1 x2 x3 x4) := by
  unfold State.vecBin
  with_reducible refine State.vecStart_keeps ?_ ?_
  · exact Keeps.refl _
  · intro y0 y1 y2 y3 h4
    with_reducible refine Keeps.step (Keeps.ofSame (State.binRun_same _ _ _ _) (by decide)) ?_
    exact h4

theorem execAdd_keeps (x1 : Fin 8) (x2 : Fin 48) (x3 : State) :
    OutKeeps x3 (execAdd x1 x2 x3) := by
  unfold execAdd
  refine OutKeeps.next ?_
  with_reducible refine Keeps.step (State.vecBin_keeps _ _ _ _) ?_
  exact Keeps.refl _

theorem execSub_keeps (x1 : Fin 8) (x2 : Fin 48) (x3 : State) :
    OutKeeps x3 (execSub x1 x2 x3) := by
  unfold execSub
  refine OutKeeps.next ?_
  with_reducible refine Keeps.step (State.vecBin_keeps _ _ _ _) ?_
  exact Keeps.refl _

theorem execMul_keeps (x1 : Fin 8) (x2 : Fin 48) (x3 : State) :
    OutKeeps x3 (execMul x1 x2 x3) := by
  unfold execMul
  refine OutKeeps.next ?_
  with_reducible refine Keeps.step (State.vecBin_keeps _ _ _ _) ?_
  exact Keeps.refl _

theorem execFma_keeps (x1 : Fin 8) (x2 : Fin 48) (x3 : State) :
    OutKeeps x3 (execFma x1 x2 x3) := by
  unfold execFma
  refine OutKeeps.next ?_
  with_reducible refine Keeps.step (State.vecBin_keeps _ _ _ _) ?_
  exact Keeps.refl _

theorem execMax_keeps (x1 : Fin 8) (x2 : Fin 48) (x3 : State) :
    OutKeeps x3 (execMax x1 x2 x3) := by
  unfold execMax
  refine OutKeeps.next ?_
  with_reducible refine Keeps.step (State.vecBin_keeps _ _ _ _) ?_
  exact Keeps.refl _

theorem execMin_keeps (x1 : Fin 8) (x2 : Fin 48) (x3 : State) :
    OutKeeps x3 (execMin x1 x2 x3) := by
  unfold execMin
  refine OutKeeps.next ?_
  with_reducible refine Keeps.step (State.vecBin_keeps _ _ _ _) ?_
  exact Keeps.refl _

theorem execAbs_keeps (x1 : Fin 8) (x2 : Fin 48) (x3 : State) :
    OutKeeps x3 (execAbs x1 x2 x3) := by
  unfold execAbs
  refine OutKeeps.next ?_
  with_reducible refine State.vecStart_keeps ?_ ?_
  · exact Keeps.refl _
  · intro y0 y1 y2 y3 h4
    with_reducible refine Keeps.step (Keeps.ofSame (State.vecRows_same _ _ _ _) (by decide)) ?_
    exact h4

theorem execCvt_keeps (x1 : Fin 8) (x2 : Fin 48) (x3 : State) :
    OutKeeps x3 (execCvt x1 x2 x3) := by
  unfold execCvt
  refine OutKeeps.next ?_
  with_reducible refine State.vecStart_keeps ?_ ?_
  · exact Keeps.refl _
  · intro y0 y1 y2 y3 h4
    with_reducible refine Keeps.step (Keeps.ofSame (State.vecRows_same _ _ _ _ _) (by decide)) ?_
    exact h4

theorem execScale2_keeps (x1 : Fin 8) (x2 : Fin 48) (x3 : State) :
    OutKeeps x3 (execScale2 x1 x2 x3) := by
  unfold execScale2
  refine OutKeeps.next ?_
  with_reducible refine State.vecStart_keeps ?_ ?_
  · exact Keeps.refl _
  · intro y0 y1 y2 y3 h4
    with_reducible refine Keeps.step (Keeps.ofSame (State.vecRows_same _ _ _ _) (by decide)) ?_
    exact h4

theorem execTomx_keeps (x1 : Fin 8) (x2 : Fin 48) (x3 : State) :
    OutKeeps x3 (execTomx x1 x2 x3) := by
  unfold execTomx
  refine OutKeeps.next ?_
  with_reducible refine State.vecStart_keeps ?_ ?_
  · exact Keeps.refl _
  · intro y0 y1 y2 y3 h4
    extract_lets v5
    split
    rename_i e6 e7 e8 e9
    with_reducible refine Keeps.step (Keeps.ofSame (State.flagRun_same _ _ _) (by decide)) ?_
    with_reducible refine Keeps.step (Keeps.ofSame (State.setScratch_same _ _ _) (by decide)) ?_
    exact h4

theorem execGather_keeps (x1 : Fin 8) (x2 : Fin 48) (x3 : State) :
    OutKeeps x3 (execGather x1 x2 x3) := by
  unfold execGather
  refine OutKeeps.next ?_
  with_reducible refine State.vecStart_keeps ?_ ?_
  · exact Keeps.refl _
  · intro y0 y1 y2 y3 h4
    with_reducible refine Keeps.step (Keeps.ofSame (State.vecRows_same _ _ _ _) (by decide)) ?_
    exact h4

theorem execRope_keeps (x1 : Fin 8) (x2 : Fin 48) (x3 : State) :
    OutKeeps x3 (execRope x1 x2 x3) := by
  unfold execRope
  refine OutKeeps.next ?_
  with_reducible refine State.vecStart_keeps ?_ ?_
  · exact Keeps.refl _
  · intro y0 y1 y2 y3 h4
    with_reducible refine Keeps.step (Keeps.ofSame (State.vecRows_same _ _ _ _) (by decide)) ?_
    exact h4

theorem execTreemask_keeps (x1 : Fin 8) (x2 : Fin 48) (x3 : State) :
    OutKeeps x3 (execTreemask x1 x2 x3) := by
  unfold execTreemask
  refine OutKeeps.next ?_
  with_reducible refine State.vecStart_keeps ?_ ?_
  · exact Keeps.refl _
  · intro y0 y1 y2 y3 h4
    extract_lets v5 v6
    with_reducible refine Keeps.step (Keeps.ofSame (State.setScratch_same _ _ _) (by decide)) ?_
    exact h4

theorem execVectorCopy_keeps (x1 : Fin 8) (x2 : Fin 48) (x3 : State) :
    OutKeeps x3 (execVectorCopy x1 x2 x3) := by
  unfold execVectorCopy
  refine OutKeeps.next ?_
  with_reducible refine State.vecStart_keeps ?_ ?_
  · exact Keeps.refl _
  · intro y0 y1 y2 y3 h4
    extract_lets v5
    with_reducible refine Keeps.step (Keeps.ofSame (State.setScratch_same _ _ _) (by decide)) ?_
    exact h4

end Sys2Proof.Machine
end

