-- ==== Sys2Proof/Laws/KeepTransfers.lean ====
section
/-! SUPPORT. What the functions of Machine/Transfers.lean keep: the dictionary and the store in canonical form, the field map
bounded, the fuses, the seal and the rollback counters. -/

namespace Sys2Proof.Machine

open Sys2Proof

theorem State.access_keeps (x1 : State) (x2 : Orphan) (x3 : Operand) (x4 x5 : Bool) :
    Keeps x1 (State.access x1 x2 x3 x4 x5).1 := by
  unfold State.access
  split
  · rename_i e0 e1
    split
    · rename_i e2 e3 e4 e5
      refine Keeps.iteFst ?_ ?_
      · dsimp only
        with_reducible refine Keeps.step (State.bump_keeps _ _) ?_
        refine Keeps.fstOf e5 ?_
        with_reducible refine Keeps.step (State.translate_keeps _ _ _ _ _ _ _) ?_
        exact Keeps.refl _
      · dsimp only
        refine Keeps.fstOf e5 ?_
        with_reducible refine Keeps.step (State.translate_keeps _ _ _ _ _ _ _) ?_
        exact Keeps.refl _
    · rename_i e6 e7
      with_reducible refine Keeps.step (State.translate_keeps _ _ _ _ _ _ _) ?_
      exact Keeps.refl _
  · rename_i e8 e9
    with_reducible refine Keeps.step (State.translate_keeps _ _ _ _ _ _ _) ?_
    exact Keeps.refl _
  · rename_i e10 e11
    refine Keeps.iteFst ?_ ?_
    · dsimp only
      exact Keeps.refl _
    · dsimp only
      exact Keeps.refl _
  · rename_i e12 e13
    refine Keeps.iteFst ?_ ?_
    · dsimp only
      exact Keeps.refl _
    · dsimp only
      with_reducible refine Keeps.step (State.bump_keeps _ _) ?_
      exact Keeps.refl _
  · rename_i e14 e15 e16 e17 e18
    dsimp only
    exact Keeps.refl _

theorem State.accessBoth_keeps (x1 : State) (x2 : Orphan) :
    Keeps x1 (State.accessBoth x1 x2).1 := by
  unfold State.accessBoth
  extract_lets v0
  refine Keeps.iteFst ?_ ?_
  · dsimp only
    exact Keeps.refl _
  · split
    · rename_i e1 e2 e3 e4
      dsimp only
      refine Keeps.fstOf e4 ?_
      with_reducible refine Keeps.step (State.access_keeps _ _ _ _ _) ?_
      exact Keeps.refl _
    · rename_i e5 e6 e7 e8
      split
      · rename_i e9 e10 e11 e12
        dsimp only
        refine Keeps.fstOf e12 ?_
        with_reducible refine Keeps.step (State.access_keeps _ _ _ _ _) ?_
        refine Keeps.fstOf e8 ?_
        with_reducible refine Keeps.step (State.access_keeps _ _ _ _ _) ?_
        exact Keeps.refl _
      · rename_i e13 e14 e15 e16
        dsimp only
        with_reducible refine Keeps.step (Keeps.ofSame (State.dirtyOperand_same _ _ _) (by decide)) ?_
        refine Keeps.fstOf e16 ?_
        with_reducible refine Keeps.step (State.access_keeps _ _ _ _ _) ?_
        refine Keeps.fstOf e8 ?_
        with_reducible refine Keeps.step (State.access_keeps _ _ _ _ _) ?_
        exact Keeps.refl _

theorem State.sendReads_keeps (x1 : State) (x2 : Orphan) :
    Keeps x1 (State.sendReads x1 x2).1 := by
  unfold State.sendReads
  extract_lets v0 v1 v2
  refine Keeps.foldlFst ?_ fun q3 y4 h5 => ?_
  · dsimp only
    exact Keeps.refl _
  · split
    · rename_i e6 e7
      exact h5
    · rename_i e8 e9 e10
      extract_lets v11
      dsimp only
      with_reducible refine Keeps.step (State.send_keeps _ _) ?_
      exact h5

theorem State.sendWrites_keeps (x1 : State) (x2 : Orphan) :
    Keeps x1 (State.sendWrites x1 x2).1 := by
  unfold State.sendWrites
  extract_lets src fd counts ps skip step
  have h : ∀ (l : List (Nat × (Nat × Nat) × List Byte)) (q : (State × List Nat) × Nat), Keeps x1 q.1.1 → Keeps x1 (l.foldl step q).1.1 := by
    intro l
    induction l with
    | nil => exact fun _ h => h
    | cons p r ih =>
      exact fun q h => ih _ (Keeps.step (State.send_keeps _ _) (h.trans (Keeps.ofSame (State.uncache_same _ _ _ _) (by decide))))
  exact h ps _ (Keeps.refl _)

theorem State.sendAtomic_keeps (x1 : State) (x2 : Orphan) :
    Keeps x1 (State.sendAtomic x1 x2).1 := by
  unfold State.sendAtomic
  extract_lets v0
  split
  · rename_i e1 e2
    dsimp only
    exact Keeps.refl _
  · rename_i e3 e4 e5
    extract_lets v6
    refine Keeps.have v6 ?_ fun h7 => ?_
    · with_reducible refine Keeps.step (Keeps.ofSame (State.uncache_same _ _ _ _) (by decide)) ?_
      exact Keeps.refl _
    clear_value v6
    dsimp only
    with_reducible refine Keeps.step (State.send_keeps _ _) ?_
    exact h7

theorem State.sendFlag_keeps (x1 : State) (x2 : Orphan) :
    Keeps x1 (State.sendFlag x1 x2).1 := by
  unfold State.sendFlag
  extract_lets v0 v1 v2 v3
  refine Keeps.have v3 ?_ fun h4 => ?_
  · with_reducible refine Keeps.step (Keeps.ofSame (State.uncache_same _ _ _ _) (by decide)) ?_
    exact Keeps.refl _
  clear_value v3
  dsimp only
  with_reducible refine Keeps.step (Keeps.ofSame (State.noteOnce_same _ _) (by decide)) ?_
  with_reducible refine Keeps.step (State.send_keeps _ _) ?_
  exact h4

theorem State.sendXfer_keeps (x1 : State) (x2 : Orphan) :
    Keeps x1 (State.sendXfer x1 x2).1 := by
  unfold State.sendXfer
  split
  · rename_i e0 e1
    with_reducible refine Keeps.step (State.sendReads_keeps _ _) ?_
    exact Keeps.refl _
  · rename_i e2 e3
    with_reducible refine Keeps.step (State.sendAtomic_keeps _ _) ?_
    exact Keeps.refl _
  · rename_i e4 e5
    split
    rename_i e6 e7 e8 e9
    split
    rename_i e10 e11 e12 e13
    dsimp only
    refine Keeps.fstOf e13 ?_
    with_reducible refine Keeps.step (State.sendWrites_keeps _ _) ?_
    refine Keeps.fstOf e9 ?_
    with_reducible refine Keeps.step (State.sendReads_keeps _ _) ?_
    exact Keeps.refl _
  · rename_i e14 e15 e16 e17
    with_reducible refine Keeps.step (State.sendWrites_keeps _ _) ?_
    exact Keeps.refl _

theorem State.countHold_keeps (x1 : State) :
    Keeps x1 (State.countHold x1) := by
  unfold State.countHold
  with_reducible refine Keeps.step (State.bump_keeps _ _) ?_
  with_reducible refine Keeps.step (State.bump_keeps _ _) ?_
  exact Keeps.refl _

theorem State.xferGo_keeps (x1 : State) (x2 : Nat) (x3 : Grant) (x4 : QInstr) (x5 : Nat) :
    Keeps x1 (State.xferGo x1 x2 x3 x4 x5) := by
  unfold State.xferGo
  extract_lets v0 v1
  split
  · rename_i e2 e3 e4 e5
    with_reducible refine Keeps.step (State.coreFault_keeps _ _ _ _ _ _ _ _) ?_
    refine Keeps.fstOf e5 ?_
    with_reducible refine Keeps.step (State.accessBoth_keeps _ _) ?_
    exact Keeps.refl _
  · rename_i e6 e7 e8 e9 e10
    extract_lets v11 v12
    split
    rename_i e13 e14 e15 e16
    extract_lets v17 v18 v19 v20 v21
    refine Keeps.have v20 ?_ fun h22 => ?_
    · with_reducible refine Keeps.step (State.traceOpen_keeps _ _ _ _ _ _ _) ?_
      refine Keeps.fstOf e16 ?_
      with_reducible refine Keeps.step (Keeps.ofSame (State.takePhase_same _ _) (by decide)) ?_
      refine Keeps.fstOf e10 ?_
      with_reducible refine Keeps.step (State.accessBoth_keeps _ _) ?_
      exact Keeps.refl _
    clear_value v20
    refine Keeps.have v21 ?_ fun h23 => ?_
    · refine Keeps.ite ?_ ?_
      · with_reducible refine Keeps.step (State.traceOpen_keeps _ _ _ _ _ _ _) ?_
        with_reducible refine Keeps.step (State.countHold_keeps _) ?_
        exact h22
      · exact h22
    clear_value v21
    split
    rename_i e24 e25 e26 e27
    extract_lets v28 v29 v30 v31
    refine Keeps.have v28 ?_ fun h32 => ?_
    · refine Keeps.ite ?_ ?_
      · with_reducible refine Keeps.step (State.bump_keeps _ _) ?_
        refine Keeps.fstOf e27 ?_
        refine Keeps.iteFst ?_ ?_
        · dsimp only
          exact h23
        · with_reducible refine Keeps.step (State.sendXfer_keeps _ _) ?_
          with_reducible refine Keeps.step (Keeps.ofSame (State.dykeTakes_same _ _) (by decide)) ?_
          refine Keeps.ite ?_ ?_
          · with_reducible refine Keeps.step (Keeps.ofSame (State.noteOnce_same _ _) (by decide)) ?_
            exact h23
          · exact h23
      · refine Keeps.fstOf e27 ?_
        refine Keeps.iteFst ?_ ?_
        · dsimp only
          exact h23
        · with_reducible refine Keeps.step (State.sendXfer_keeps _ _) ?_
          with_reducible refine Keeps.step (Keeps.ofSame (State.dykeTakes_same _ _) (by decide)) ?_
          refine Keeps.ite ?_ ?_
          · with_reducible refine Keeps.step (Keeps.ofSame (State.noteOnce_same _ _) (by decide)) ?_
            exact h23
          · exact h23
    clear_value v28
    refine Keeps.have v31.1 ?_ fun h33 => ?_
    · with_reducible refine Keeps.step (State.sendFlag_keeps _ _) ?_
      exact h32
    clear_value v31
    split
    rename_i e34 e35 e36 e37
    with_reducible refine Keeps.step (Keeps.ofSame (State.joinArbiters_same _ _) (by decide)) ?_
    with_reducible refine Keeps.step (Keeps.ofSame (State.amend_same _ _ _ _ _) (by decide)) ?_
    refine Keeps.fstOf e37 ?_
    refine Keeps.iteFst ?_ ?_
    · dsimp only
      exact h33
    · dsimp only
      exact h32

theorem State.flagsDue_keeps (x1 : State) (x2 : Nat) :
    Keeps x1 (State.flagsDue x1 x2) := by
  unfold State.flagsDue
  refine Keeps.foldl ?_ fun q0 y1 h2 => ?_
  · exact Keeps.refl _
  · split
    · rename_i e3 e4
      exact h2
    · rename_i e5 e6 e7 e8
      split
      · rename_i e9 e10
        exact h2
      · rename_i e11 e12 e13
        extract_lets v14
        refine Keeps.ite ?_ ?_
        · split
          rename_i e15 e16 e17 e18
          with_reducible refine Keeps.step (Keeps.ofSame (State.amend_same _ _ _ _ _) (by decide)) ?_
          refine Keeps.fstOf e18 ?_
          with_reducible refine Keeps.step (State.sendFlag_keeps _ _) ?_
          exact h2
        · exact h2

theorem State.holdOne_keeps (x1 : State) (x2 x3 x4 : Nat) :
    Keeps x1 (State.holdOne x1 x2 x3 x4) := by
  unfold State.holdOne
  split
  · rename_i e0 e1
    exact Keeps.refl _
  · rename_i e2 e3 e4 e5
    split
    · rename_i e6 e7
      exact Keeps.refl _
    · rename_i e8 e9 e10
      refine Keeps.ite ?_ ?_
      · exact Keeps.refl _
      · with_reducible refine Keeps.step (State.traceOpen_keeps _ _ _ _ _ _ _) ?_
        with_reducible refine Keeps.step (State.countHold_keeps _) ?_
        with_reducible refine Keeps.step (Keeps.ofSame (State.amend_same _ _ _ _ _) (by decide)) ?_
        exact Keeps.refl _

theorem State.resumeOne_keeps (x1 : State) (x2 x3 x4 : Nat) :
    Keeps x1 (State.resumeOne x1 x2 x3 x4) := by
  unfold State.resumeOne
  split
  · rename_i e0 e1
    exact Keeps.refl _
  · rename_i e2 e3 e4 e5
    split
    · rename_i e6 e7
      exact Keeps.refl _
    · rename_i e8 e9 e10
      extract_lets v11 v12
      refine Keeps.ite ?_ ?_
      · exact Keeps.refl _
      · split
        · rename_i e13 e14 e15 e16
          with_reducible refine Keeps.step (State.coreFault_keeps _ _ _ _ _ _ _ _) ?_
          refine Keeps.fstOf e16 ?_
          refine Keeps.iteFst ?_ ?_
          · with_reducible refine Keeps.step (State.access_keeps _ _ _ _ _) ?_
            exact Keeps.refl _
          · dsimp only
            exact Keeps.refl _
        · rename_i e17 e18 e19 e20
          refine Keeps.ite ?_ ?_
          · with_reducible refine Keeps.step (State.coreFault_keeps _ _ _ _ _ _ _ _) ?_
            refine Keeps.fstOf e20 ?_
            refine Keeps.iteFst ?_ ?_
            · with_reducible refine Keeps.step (State.access_keeps _ _ _ _ _) ?_
              exact Keeps.refl _
            · dsimp only
              exact Keeps.refl _
          · extract_lets v21
            refine Keeps.have v21 ?_ fun h22 => ?_
            · refine Keeps.ite ?_ ?_
              · with_reducible refine Keeps.step (Keeps.ofSame (State.noteOnce_same _ _) (by decide)) ?_
                refine Keeps.fstOf e20 ?_
                refine Keeps.iteFst ?_ ?_
                · with_reducible refine Keeps.step (State.access_keeps _ _ _ _ _) ?_
                  exact Keeps.refl _
                · dsimp only
                  exact Keeps.refl _
              · refine Keeps.fstOf e20 ?_
                refine Keeps.iteFst ?_ ?_
                · with_reducible refine Keeps.step (State.access_keeps _ _ _ _ _) ?_
                  exact Keeps.refl _
                · dsimp only
                  exact Keeps.refl _
            clear_value v21
            split
            rename_i e23 e24 e25 e26
            with_reducible refine Keeps.step (State.traceOpen_keeps _ _ _ _ _ _ _) ?_
            with_reducible refine Keeps.step (State.flagsDue_keeps _ _) ?_
            with_reducible refine Keeps.step (Keeps.ofSame (State.amend_same _ _ _ _ _) (by decide)) ?_
            refine Keeps.fstOf e26 ?_
            refine Keeps.iteFst ?_ ?_
            · with_reducible refine Keeps.step (State.sendXfer_keeps _ _) ?_
              with_reducible refine Keeps.step (Keeps.ofSame (State.dykeTakes_same _ _) (by decide)) ?_
              exact h22
            · dsimp only
              with_reducible refine Keeps.step (State.resendAll_keeps _ _ _) ?_
              with_reducible refine Keeps.step (Keeps.ofSame (State.dykeTakes_same _ _) (by decide)) ?_
              exact h22

theorem State.holdTransfers_keeps (x1 : State) :
    Keeps x1 (State.holdTransfers x1) := by
  unfold State.holdTransfers
  refine Keeps.foldl ?_ fun q0 y1 h2 => ?_
  · exact Keeps.refl _
  · with_reducible refine Keeps.step (State.holdOne_keeps _ _ _ _) ?_
    exact h2

theorem State.resumeTransfers_keeps (x1 : State) :
    Keeps x1 (State.resumeTransfers x1) := by
  unfold State.resumeTransfers
  refine Keeps.foldl ?_ fun q0 y1 h2 => ?_
  · exact Keeps.refl _
  · with_reducible refine Keeps.step (State.resumeOne_keeps _ _ _ _) ?_
    exact h2

theorem State.countDelay_keeps (x1 : State) (x2 x3 x4 : Nat) :
    Keeps x1 (State.countDelay x1 x2 x3 x4) := by
  unfold State.countDelay
  split
  · rename_i e0 e1
    exact Keeps.refl _
  · rename_i e2 e3 e4 e5 e6
    split
    · rename_i e7 e8
      exact Keeps.refl _
    · rename_i e9 e10 e11 e12
      refine Keeps.ite ?_ ?_
      · exact Keeps.refl _
      · with_reducible refine Keeps.step (State.addReg_keeps _ _ _) ?_
        with_reducible refine Keeps.step (Keeps.ofSame (State.setRun_same _ _ _) (by decide)) ?_
        exact Keeps.refl _

theorem State.xferStart_keeps (x1 : State) (x2 x3 x4 x5 : Nat) :
    Keeps x1 (State.xferStart x1 x2 x3 x4 x5) := by
  unfold State.xferStart
  extract_lets v0 v1
  refine Keeps.have v1 ?_ fun h2 => ?_
  · with_reducible refine Keeps.step (State.countDelay_keeps _ _ _ _) ?_
    exact Keeps.refl _
  clear_value v1
  with_reducible refine State.startUnit_keeps ?_ ?_
  · exact h2
  · intro y3 y4 y5 y6 h7
    with_reducible refine Keeps.step (State.xferGo_keeps _ _ _ _ _) ?_
    exact h7

theorem execGet_keeps (x1 : Fin 8) (x2 : Fin 48) (x3 : Fin 4) (x4 : List MemError) (x5 : State) :
    OutKeeps x5 (execGet x1 x2 x3 x4 x5) := by
  unfold execGet
  refine OutKeeps.next ?_
  with_reducible refine Keeps.step (State.memErrors_keeps _ _) ?_
  with_reducible refine Keeps.step (State.xferStart_keeps _ _ _ _ _) ?_
  exact Keeps.refl _

theorem execPut_keeps (x1 : Fin 8) (x2 : Fin 48) (x3 : Fin 4) (x4 : List MemError) (x5 : State) :
    OutKeeps x5 (execPut x1 x2 x3 x4 x5) := by
  unfold execPut
  refine OutKeeps.next ?_
  with_reducible refine Keeps.step (State.memErrors_keeps _ _) ?_
  with_reducible refine Keeps.step (State.xferStart_keeps _ _ _ _ _) ?_
  exact Keeps.refl _

theorem execPutf_keeps (x1 : Fin 8) (x2 : Fin 48) (x3 : Fin 4) (x4 : State) :
    OutKeeps x4 (execPutf x1 x2 x3 x4) := by
  unfold execPutf
  refine OutKeeps.next ?_
  with_reducible refine Keeps.step (State.xferStart_keeps _ _ _ _ _) ?_
  exact Keeps.refl _

theorem execMcast_keeps (x1 : Fin 8) (x2 : Fin 48) (x3 : Fin 4) (x4 : State) :
    OutKeeps x4 (execMcast x1 x2 x3 x4) := by
  unfold execMcast
  refine OutKeeps.next ?_
  with_reducible refine Keeps.step (State.xferStart_keeps _ _ _ _ _) ?_
  exact Keeps.refl _

theorem execAtomic_keeps (x1 : Fin 8) (x2 : Fin 48) (x3 : Fin 4) (x4 : State) :
    OutKeeps x4 (execAtomic x1 x2 x3 x4) := by
  unfold execAtomic
  refine OutKeeps.next ?_
  with_reducible refine Keeps.step (State.xferStart_keeps _ _ _ _ _) ?_
  exact Keeps.refl _

theorem execCopy_keeps (x1 : Fin 8) (x2 : Fin 48) (x3 : Fin 4) (x4 : State) :
    OutKeeps x4 (execCopy x1 x2 x3 x4) := by
  unfold execCopy
  refine OutKeeps.next ?_
  with_reducible refine Keeps.step (State.xferStart_keeps _ _ _ _ _) ?_
  exact Keeps.refl _

theorem State.landData_keeps (x1 : State) (x2 : Orphan) (x3 : List Byte) :
    Keeps x1 (State.landData x1 x2 x3).after := by
  unfold State.landData
  extract_lets v0 v1 v2
  refine Keeps.have v2 ?_ fun h3 => ?_
  · with_reducible refine Keeps.step (Keeps.ofSame (State.wakeRec_same _ _ _) (by decide)) ?_
    with_reducible refine Keeps.step (Keeps.ofSame (State.wakeRec_same _ _ _) (by decide)) ?_
    with_reducible refine Keeps.step (Keeps.ofSame (State.wake_same _ _ _) (by decide)) ?_
    with_reducible refine Keeps.step (Keeps.ofSame (State.wake_same _ _ _) (by decide)) ?_
    with_reducible refine Keeps.step (State.countForwarded_keeps _ _ _) ?_
    with_reducible refine Keeps.step (State.countForwarded_keeps _ _ _) ?_
    exact Keeps.refl _
  clear_value v2
  split
  · rename_i e4 e5 e6
    dsimp only [Landed.after]
    exact Keeps.refl _
  · rename_i e7 e8
    split
    · rename_i e9 e10 e11
      dsimp only [Landed.after]
      exact Keeps.refl _
    · rename_i e12 e13
      split
      rename_i e14 e15 e16 e17
      dsimp only [Landed.after]
      refine Keeps.foldl ?_ fun q18 y19 h20 => ?_
      · exact h3
      · with_reducible refine Keeps.step (Keeps.ofSame (State.writeRun_same _ _ _ _ _ _) (by decide)) ?_
        exact h20

theorem State.landAtomic_keeps (x1 : State) (x2 : Orphan) :
    Keeps x1 (State.landAtomic x1 x2).1.after := by
  unfold State.landAtomic
  extract_lets v0 v1 v2 v3 v4 v5 v6
  split
  · rename_i e7
    dsimp only
    dsimp only [Landed.after]
    with_reducible refine Keeps.step (State.bump_keeps _ _) ?_
    exact Keeps.refl _
  · rename_i e8
    split
    · rename_i e9 e10 e11
      dsimp only
      dsimp only [Landed.after]
      exact Keeps.refl _
    · rename_i e12 e13
      dsimp only
      dsimp only [Landed.after]
      with_reducible refine Keeps.step (Keeps.ofSame (State.keepOwn_same _ _ _ _ _) (by decide)) ?_
      with_reducible refine Keeps.step (Keeps.ofSame (State.writeRun_same _ _ _ _ _ _) (by decide)) ?_
      exact Keeps.refl _

theorem State.landFlag_keeps (x1 : State) (x2 : Orphan) :
    Keeps x1 (State.landFlag x1 x2).after := by
  unfold State.landFlag
  extract_lets v0
  split
  · rename_i e1 e2 e3 e4
    dsimp only [Landed.after]
    refine Keeps.fstOf e4 ?_
    with_reducible refine Keeps.step (State.access_keeps _ _ _ _ _) ?_
    exact Keeps.refl _
  · rename_i e5 e6 e7 e8
    extract_lets v9
    split
    rename_i e10 e11 e12 e13
    extract_lets v14 v15 v16
    refine Keeps.have v16 ?_ fun h17 => ?_
    · with_reducible refine Keeps.step (Keeps.ofSame (State.writeRun_same _ _ _ _ _ _) (by decide)) ?_
      refine Keeps.fstOf e13 ?_
      refine Keeps.iteFst ?_ ?_
      · with_reducible refine Keeps.step (State.sendFlag_keeps _ _) ?_
        with_reducible refine Keeps.step (Keeps.ofSame (State.dirtyOperand_same _ _ _) (by decide)) ?_
        refine Keeps.fstOf e8 ?_
        with_reducible refine Keeps.step (State.access_keeps _ _ _ _ _) ?_
        exact Keeps.refl _
      · dsimp only
        with_reducible refine Keeps.step (Keeps.ofSame (State.noteOnce_same _ _) (by decide)) ?_
        with_reducible refine Keeps.step (Keeps.ofSame (State.dirtyOperand_same _ _ _) (by decide)) ?_
        refine Keeps.fstOf e8 ?_
        with_reducible refine Keeps.step (State.access_keeps _ _ _ _ _) ?_
        exact Keeps.refl _
    clear_value v16
    split
    · rename_i e18
      dsimp only [Landed.after]
      dsimp only [v14]
      refine Keeps.ite ?_ ?_
      · with_reducible refine Keeps.step (Keeps.ofSame (State.dropRequests_same _ _ _) (by decide)) ?_
        refine Keeps.fstOf e13 ?_
        refine Keeps.iteFst ?_ ?_
        · with_reducible refine Keeps.step (State.sendFlag_keeps _ _) ?_
          with_reducible refine Keeps.step (Keeps.ofSame (State.dirtyOperand_same _ _ _) (by decide)) ?_
          refine Keeps.fstOf e8 ?_
          with_reducible refine Keeps.step (State.access_keeps _ _ _ _ _) ?_
          exact Keeps.refl _
        · dsimp only
          with_reducible refine Keeps.step (Keeps.ofSame (State.noteOnce_same _ _) (by decide)) ?_
          with_reducible refine Keeps.step (Keeps.ofSame (State.dirtyOperand_same _ _ _) (by decide)) ?_
          refine Keeps.fstOf e8 ?_
          with_reducible refine Keeps.step (State.access_keeps _ _ _ _ _) ?_
          exact Keeps.refl _
      · refine Keeps.fstOf e13 ?_
        refine Keeps.iteFst ?_ ?_
        · with_reducible refine Keeps.step (State.sendFlag_keeps _ _) ?_
          with_reducible refine Keeps.step (Keeps.ofSame (State.dirtyOperand_same _ _ _) (by decide)) ?_
          refine Keeps.fstOf e8 ?_
          with_reducible refine Keeps.step (State.access_keeps _ _ _ _ _) ?_
          exact Keeps.refl _
        · dsimp only
          with_reducible refine Keeps.step (Keeps.ofSame (State.noteOnce_same _ _) (by decide)) ?_
          with_reducible refine Keeps.step (Keeps.ofSame (State.dirtyOperand_same _ _ _) (by decide)) ?_
          refine Keeps.fstOf e8 ?_
          with_reducible refine Keeps.step (State.access_keeps _ _ _ _ _) ?_
          exact Keeps.refl _
    · rename_i e19
      split
      · rename_i e20 e21 e22
        dsimp only [Landed.after]
        dsimp only [v14]
        refine Keeps.ite ?_ ?_
        · with_reducible refine Keeps.step (Keeps.ofSame (State.dropRequests_same _ _ _) (by decide)) ?_
          refine Keeps.fstOf e13 ?_
          refine Keeps.iteFst ?_ ?_
          · with_reducible refine Keeps.step (State.sendFlag_keeps _ _) ?_
            with_reducible refine Keeps.step (Keeps.ofSame (State.dirtyOperand_same _ _ _) (by decide)) ?_
            refine Keeps.fstOf e8 ?_
            with_reducible refine Keeps.step (State.access_keeps _ _ _ _ _) ?_
            exact Keeps.refl _
          · dsimp only
            with_reducible refine Keeps.step (Keeps.ofSame (State.noteOnce_same _ _) (by decide)) ?_
            with_reducible refine Keeps.step (Keeps.ofSame (State.dirtyOperand_same _ _ _) (by decide)) ?_
            refine Keeps.fstOf e8 ?_
            with_reducible refine Keeps.step (State.access_keeps _ _ _ _ _) ?_
            exact Keeps.refl _
        · refine Keeps.fstOf e13 ?_
          refine Keeps.iteFst ?_ ?_
          · with_reducible refine Keeps.step (State.sendFlag_keeps _ _) ?_
            with_reducible refine Keeps.step (Keeps.ofSame (State.dirtyOperand_same _ _ _) (by decide)) ?_
            refine Keeps.fstOf e8 ?_
            with_reducible refine Keeps.step (State.access_keeps _ _ _ _ _) ?_
            exact Keeps.refl _
          · dsimp only
            with_reducible refine Keeps.step (Keeps.ofSame (State.noteOnce_same _ _) (by decide)) ?_
            with_reducible refine Keeps.step (Keeps.ofSame (State.dirtyOperand_same _ _ _) (by decide)) ?_
            refine Keeps.fstOf e8 ?_
            with_reducible refine Keeps.step (State.access_keeps _ _ _ _ _) ?_
            exact Keeps.refl _
      · rename_i e23 e24
        dsimp only [Landed.after]
        dsimp only [v14]
        refine Keeps.ite ?_ ?_
        · with_reducible refine Keeps.step (Keeps.ofSame (State.dropRequests_same _ _ _) (by decide)) ?_
          with_reducible refine Keeps.step (Keeps.ofSame (State.keepOwn_same _ _ _ _ _) (by decide)) ?_
          exact h17
        · with_reducible refine Keeps.step (Keeps.ofSame (State.keepOwn_same _ _ _ _ _) (by decide)) ?_
          exact h17

theorem State.landXfer_keeps (x1 : State) (x2 : Orphan) (x3 : List Byte) :
    Keeps x1 (State.landXfer x1 x2 x3).after := by
  unfold State.landXfer
  split
  · rename_i e0 e1
    split
    · rename_i e2
      extract_lets v3 v4
      clear_value v4
      split
      · rename_i e5 e6 e7
        dsimp only [Landed.after]
        with_reducible refine Keeps.step (Keeps.ofSame (State.atomicResult_same _ _ _ _) (by decide)) ?_
        exact Keeps.refl _
      · rename_i e8
        dsimp only [Landed.after]
        exact Keeps.refl _
    · rename_i e9
      split
      · rename_i e10 e11 e12 e13 e14 e15
        dsimp only [Landed.after]
        with_reducible refine Keeps.step (Keeps.ofSame (State.atomicResult_same _ _ _ _) (by decide)) ?_
        refine Keeps.doneFstOf e15 ?_
        with_reducible refine Keeps.step (State.landAtomic_keeps _ _) ?_
        exact Keeps.refl _
      · rename_i e16 e17 e18 e19 e20 e21 e22
        dsimp only [Landed.after]
        refine Keeps.failFstOf e22 ?_
        with_reducible refine Keeps.step (State.landAtomic_keeps _ _) ?_
        exact Keeps.refl _
  · rename_i e23 e24
    extract_lets v25
    split
    · rename_i e26 e27 e28 e29 e30
      dsimp only [Landed.after]
      refine Keeps.failOf e30 ?_
      split
      · rename_i e31
        dsimp only [Landed.after]
        exact Keeps.refl _
      · rename_i e32
        with_reducible refine Keeps.step (State.landData_keeps _ _ _) ?_
        exact Keeps.refl _
    · rename_i e33 e34 e35 e36
      split
      · rename_i e37
        split
        · rename_i e38 e39 e40 e41
          dsimp only [Landed.after]
          refine Keeps.doneOf e41 ?_
          with_reducible refine Keeps.step (State.landFlag_keeps _ _) ?_
          refine Keeps.doneOf e36 ?_
          split
          · rename_i e42
            dsimp only [Landed.after]
            exact Keeps.refl _
          · rename_i e43
            with_reducible refine Keeps.step (State.landData_keeps _ _ _) ?_
            exact Keeps.refl _
        · rename_i e44 e45 e46 e47 e48
          dsimp only [Landed.after]
          refine Keeps.failOf e48 ?_
          with_reducible refine Keeps.step (State.landFlag_keeps _ _) ?_
          refine Keeps.doneOf e36 ?_
          split
          · rename_i e49
            dsimp only [Landed.after]
            exact Keeps.refl _
          · rename_i e50
            with_reducible refine Keeps.step (State.landData_keeps _ _ _) ?_
            exact Keeps.refl _
      · rename_i e51
        dsimp only [Landed.after]
        refine Keeps.doneOf e36 ?_
        split
        · rename_i e52
          dsimp only [Landed.after]
          exact Keeps.refl _
        · rename_i e53
          with_reducible refine Keeps.step (State.landData_keeps _ _ _) ?_
          exact Keeps.refl _

theorem State.xferDone_keeps (x1 : State) (x2 : Nat) (x3 : Grant) (x4 : CoreRun) (x5 x6 : Nat) (x7 : List Byte) :
    Keeps x1 (State.xferDone x1 x2 x3 x4 x5 x6 x7) := by
  unfold State.xferDone
  split
  · rename_i e0 e1
    exact Keeps.refl _
  · rename_i e2 e3 e4
    extract_lets v5 v6
    refine Keeps.ite ?_ ?_
    · exact Keeps.refl _
    · split
      · rename_i e7 e8 e9
        with_reducible refine Keeps.step (State.coreFault_keeps _ _ _ _ _ _ _ _) ?_
        with_reducible refine Keeps.step (Keeps.ofSame (State.dropRequests_same _ _ _) (by decide)) ?_
        exact Keeps.refl _
      · rename_i e10 e11
        refine Keeps.ite ?_ ?_
        · exact Keeps.refl _
        · refine Keeps.ite ?_ ?_
          · refine Keeps.ite ?_ ?_
            · with_reducible refine Keeps.step (State.coreFault_keeps _ _ _ _ _ _ _ _) ?_
              exact Keeps.refl _
            · exact Keeps.refl _
          · split
            · rename_i e12 e13 e14 e15 e16 e17
              with_reducible refine Keeps.step (State.coreFault_keeps _ _ _ _ _ _ _ _) ?_
              with_reducible refine Keeps.step (Keeps.ofSame (State.flagRun_same _ _ _) (by decide)) ?_
              with_reducible refine Keeps.step (Keeps.ofSame (State.dropRequests_same _ _ _) (by decide)) ?_
              refine Keeps.failOf e17 ?_
              split
              · rename_i e18
                dsimp only [Landed.after]
                exact Keeps.refl _
              · rename_i e19
                with_reducible refine Keeps.step (State.landXfer_keeps _ _ _) ?_
                exact Keeps.refl _
            · rename_i e20 e21 e22 e23
              extract_lets v24 v25
              refine Keeps.have v24 ?_ fun h26 => ?_
              · with_reducible refine Keeps.step (State.traceOpen_keeps _ _ _ _ _ _ _) ?_
                refine Keeps.doneOf e23 ?_
                split
                · rename_i e27
                  dsimp only [Landed.after]
                  exact Keeps.refl _
                · rename_i e28
                  with_reducible refine Keeps.step (State.landXfer_keeps _ _ _) ?_
                  exact Keeps.refl _
              clear_value v24
              refine Keeps.have v25 ?_ fun h29 => ?_
              · with_reducible refine Keeps.step (Keeps.ofSame (State.flagRun_same _ _ _) (by decide)) ?_
                with_reducible refine Keeps.step (Keeps.ofSame (State.dropRequests_same _ _ _) (by decide)) ?_
                exact h26
              clear_value v25
              refine Keeps.ite ?_ ?_
              · split
                rename_i e30 e31 e32 e33
                split
                · rename_i e34 e35 e36
                  with_reducible refine Keeps.step (Keeps.ofSame (State.setRun_same _ _ _) (by decide)) ?_
                  refine Keeps.fstOf e33 ?_
                  with_reducible refine Keeps.step (State.sendFlag_keeps _ _) ?_
                  exact h29
                · rename_i e37 e38
                  refine Keeps.fstOf e33 ?_
                  with_reducible refine Keeps.step (State.sendFlag_keeps _ _) ?_
                  exact h29
              · split
                · rename_i e39 e40 e41
                  with_reducible refine Keeps.step (State.completeInstr_keeps _ _ _ _ _ _) ?_
                  exact h29
                · rename_i e42 e43
                  exact h29

theorem execTransferComplete_keeps (x1 : Fin 8) (x2 : Fin 48) (x3 : Fin 4) (x4 : Nat) (x5 : Landing) (x6 : List Byte) (x7 : State) :
    OutKeeps x7 (execTransferComplete x1 x2 x3 x4 x5 x6 x7) := by
  unfold execTransferComplete
  split
  · rename_i e0
    split
    · rename_i e1 e2
      refine OutKeeps.next ?_
      exact Keeps.refl _
    · rename_i e3 e4 e5 e6 e7
      refine OutKeeps.next ?_
      with_reducible refine Keeps.step (State.xferDone_keeps _ _ _ _ _ _ _) ?_
      exact Keeps.refl _
  · rename_i e8 e9
    split
    · rename_i e10 e11
      refine OutKeeps.next ?_
      exact Keeps.refl _
    · rename_i e12 e13 e14
      extract_lets v15
      split
      · rename_i e16 e17
        refine OutKeeps.next ?_
        exact Keeps.refl _
      · rename_i e18 e19 e20
        extract_lets v21 v22
        refine OutKeeps.have v21 ?_ fun h23 => ?_
        · with_reducible refine Keeps.step (Keeps.ofSame (State.dropRequests_same _ _ _) (by decide)) ?_
          with_reducible refine Keeps.record rfl ?_ ?_
          · exact Keeps.of_eq rfl rfl rfl rfl
          exact Keeps.refl _
        clear_value v21
        refine OutKeeps.ite ?_ ?_
        · refine OutKeeps.next ?_
          exact h23
        · split
          · rename_i e24 e25 e26 e27
            refine OutKeeps.next ?_
            with_reducible refine Keeps.step (Keeps.ofSame (State.coreFlags_same _ _ _) (by decide)) ?_
            with_reducible refine Keeps.step (Keeps.ofSame (State.dropRequests_same _ _ _) (by decide)) ?_
            with_reducible refine Keeps.record rfl ?_ ?_
            · exact Keeps.of_eq rfl rfl rfl rfl
            refine Keeps.doneOf e27 ?_
            with_reducible refine Keeps.step (State.landXfer_keeps _ _ _) ?_
            exact Keeps.refl _
          · rename_i e28 e29 e30 e31 e32 e33
            refine OutKeeps.next ?_
            with_reducible refine Keeps.step (Keeps.ofSame (State.coreFlags_same _ _ _) (by decide)) ?_
            exact h23

theorem execArbiterWeightUpdate_keeps (x1 : Fin 8) (x2 : State) :
    OutKeeps x2 (execArbiterWeightUpdate x1 x2) :=
  OutKeeps.ofSame (execArbiterWeightUpdate_same _ _) (by decide)

theorem execDiePortWeightReport_keeps (x1 : Fin 8) (x2 : State) :
    OutKeeps x2 (execDiePortWeightReport x1 x2) :=
  OutKeeps.ofSame (execDiePortWeightReport_same _ _) (by decide)

end Sys2Proof.Machine
end

