-- ==== Sys2Proof/Laws/KeepLanes.lean ====
section
/-! SUPPORT. What the functions of Machine/Lanes.lean keep: the dictionary and the store in canonical form, the field map
bounded, the fuses, the seal and the rollback counters. -/

namespace Sys2Proof.Machine

open Sys2Proof

theorem State.relockRing_keeps (x1 : State) (x2 : Nat) :
    Keeps x1 (State.relockRing x1 x2) := by
  unfold State.relockRing
  with_reducible refine Keeps.step (State.bump_keeps _ _) ?_
  with_reducible refine Keeps.step (Keeps.ofSame (State.setMring_same _ _ _) (by decide)) ?_
  exact Keeps.refl _

theorem State.countRetrain_keeps (x1 : State) (x2 x3 x4 : Nat) :
    Keeps x1 (State.countRetrain x1 x2 x3 x4) := by
  unfold State.countRetrain
  extract_lets v0 v1 v2 v3
  refine Keeps.have v0 ?_ fun h4 => ?_
  · with_reducible refine Keeps.step (State.bump_keeps _ _) ?_
    exact Keeps.refl _
  clear_value v0
  refine Keeps.have v2 ?_ fun h5 => ?_
  · with_reducible refine Keeps.step (Keeps.ofSame (State.setLane_same _ _ _ _) (by decide)) ?_
    exact h4
  clear_value v2
  with_reducible refine Keeps.step (Keeps.ofSame (State.setLane_same _ _ _ _) (by decide)) ?_
  exact h5

theorem State.pathOut_keeps (x1 : State) (x2 x3 x4 : Nat) :
    Keeps x1 (State.pathOut x1 x2 x3 x4) := by
  unfold State.pathOut
  extract_lets v0 v1
  refine Keeps.have v1 ?_ fun h2 => ?_
  · with_reducible refine Keeps.step (Keeps.ofSame (State.setPath_same _ _ _ _ _) (by decide)) ?_
    exact Keeps.refl _
  clear_value v1
  refine Keeps.ite ?_ ?_
  · exact Keeps.refl _
  · with_reducible refine Keeps.step (State.countRetrain_keeps _ _ _ _) ?_
    with_reducible refine Keeps.step (Keeps.ofSame (State.markStanding_same _ _ _ _ _) (by decide)) ?_
    with_reducible refine Keeps.step (Keeps.ofSame (State.voidLease_same _ _ _ _) (by decide)) ?_
    exact h2

theorem State.trainFail_keeps (x1 : State) (x2 x3 x4 : Nat) :
    Keeps x1 (State.trainFail x1 x2 x3 x4) := by
  unfold State.trainFail
  extract_lets v0 v1
  refine Keeps.ite ?_ ?_
  · with_reducible refine Keeps.step (Keeps.ofSame (State.markStanding_same _ _ _ _ _) (by decide)) ?_
    with_reducible refine Keeps.step (State.mapRecord_keeps _ _) ?_
    with_reducible refine Keeps.step (State.bump_keeps _ _) ?_
    with_reducible refine Keeps.step (Keeps.ofSame (State.setPath_same _ _ _ _ _) (by decide)) ?_
    exact Keeps.refl _
  · with_reducible refine Keeps.step (State.countRetrain_keeps _ _ _ _) ?_
    with_reducible refine Keeps.step (Keeps.ofSame (State.setPath_same _ _ _ _ _) (by decide)) ?_
    exact Keeps.refl _

theorem State.laneReturn_keeps (x1 : State) (x2 x3 : Nat) :
    Keeps x1 (State.laneReturn x1 x2 x3) := by
  unfold State.laneReturn
  extract_lets v0 v1 v2
  refine Keeps.have v1 ?_ fun h3 => ?_
  · with_reducible refine Keeps.step (State.bump_keeps _ _) ?_
    with_reducible refine Keeps.step (Keeps.ofSame (State.setLane_same _ _ _ _) (by decide)) ?_
    exact Keeps.refl _
  clear_value v1
  refine Keeps.ite ?_ ?_
  · refine Keeps.ite ?_ ?_
    · refine Keeps.ite ?_ ?_
      · with_reducible refine Keeps.step (State.bump_keeps _ _) ?_
        exact h3
      · exact h3
    · exact Keeps.refl _
  · refine Keeps.ite ?_ ?_
    · with_reducible refine Keeps.step (Keeps.ofSame (State.setLane_same _ _ _ _) (by decide)) ?_
      exact Keeps.refl _
    · exact Keeps.refl _

theorem State.trainPass_keeps (x1 : State) (x2 x3 x4 : Nat) :
    Keeps x1 (State.trainPass x1 x2 x3 x4) := by
  unfold State.trainPass
  extract_lets v0 v1 v2 v3
  refine Keeps.have v0 ?_ fun h4 => ?_
  · dsimp only [v0]
    with_reducible refine Keeps.record rfl ?_ ?_
    · exact Keeps.mapLe rfl rfl (List.length_filter_le _ _) rfl
    exact Keeps.refl _
  clear_value v0
  refine Keeps.have v2 ?_ fun h5 => ?_
  · with_reducible refine Keeps.step (Keeps.ofSame (State.setPath_same _ _ _ _ _) (by decide)) ?_
    exact h4
  clear_value v2
  refine Keeps.have v3 ?_ fun h6 => ?_
  · refine Keeps.ite ?_ ?_
    · with_reducible refine Keeps.step (Keeps.ofSame (State.setLane_same _ _ _ _) (by decide)) ?_
      exact h5
    · exact h5
  clear_value v3
  with_reducible refine Keeps.step (State.laneReturn_keeps _ _ _) ?_
  exact h6

theorem State.relockLane_keeps (x1 : State) (x2 x3 x4 : Nat) :
    Keeps x1 (State.relockLane x1 x2 x3 x4) := by
  unfold State.relockLane
  extract_lets v0 v1 v2
  refine Keeps.have v0 ?_ fun h3 => ?_
  · with_reducible refine Keeps.step (State.relockRing_keeps _ _) ?_
    with_reducible refine Keeps.step (Keeps.ofSame (State.endTx_same _ _ _) (by decide)) ?_
    exact Keeps.refl _
  clear_value v0
  refine Keeps.have v1 ?_ fun h4 => ?_
  · refine Keeps.foldl ?_ fun q5 y6 h7 => ?_
    · exact h3
    · with_reducible refine Keeps.step (State.pathOut_keeps _ _ _ _) ?_
      exact h7
  clear_value v1
  with_reducible refine Keeps.step (Keeps.ofSame (State.setLane_same _ _ _ _) (by decide)) ?_
  exact h4

theorem State.ringLost_keeps (x1 : State) (x2 : Nat) :
    Keeps x1 (State.ringLost x1 x2) := by
  unfold State.ringLost
  extract_lets v0
  refine Keeps.have v0 ?_ fun h1 => ?_
  · with_reducible refine Keeps.step (State.relockRing_keeps _ _) ?_
    exact Keeps.refl _
  clear_value v0
  refine Keeps.foldl ?_ fun q2 y3 h4 => ?_
  · exact h1
  · with_reducible refine Keeps.step (State.pathOut_keeps _ _ _ _) ?_
    exact h4

theorem State.dropFresh_keeps (x1 : State) :
    Keeps x1 (State.dropFresh x1) := by
  unfold State.dropFresh
  extract_lets v0 v1
  split
  · rename_i e2 e3
    exact Keeps.refl _
  · rename_i e4 e5 e6
    refine Keeps.ite ?_ ?_
    · with_reducible refine Keeps.record rfl ?_ ?_
      · exact Keeps.secUpd rfl rfl rfl (SecKeeps.of_eq rfl rfl rfl rfl)
      exact Keeps.refl _
    · exact Keeps.refl _

theorem State.reportSite_keeps (x1 : State) (x2 : Nat) :
    Keeps x1 (State.reportSite x1 x2) := by
  unfold State.reportSite
  extract_lets v0
  with_reducible refine Keeps.step (State.setReg_keeps _ _ _) ?_
  exact Keeps.refl _

end Sys2Proof.Machine
end

