-- ==== Sys2Proof/Laws/KeepOutput.lean ====
section
/-! SUPPORT. What the functions of Machine/Output.lean keep: the dictionary and the store in canonical form, the field map
bounded, the fuses, the seal and the rollback counters. -/

namespace Sys2Proof.Machine

open Sys2Proof

theorem State.formOut_keeps (x1 : State) (x2 x3 x4 : Nat) :
    Keeps x1 (State.formOut x1 x2 x3 x4).1 := by
  unfold State.formOut
  split
  rename_i e0 e1 e2 e3
  extract_lets v4
  refine Keeps.have v4 ?_ fun h5 => ?_
  · with_reducible refine Keeps.step (Keeps.ofSame (State.setStream_same _ _ _) (by decide)) ?_
    with_reducible refine Keeps.step (Keeps.ofSame (State.touch_same _ _) (by decide)) ?_
    exact Keeps.refl _
  clear_value v4
  dsimp only
  refine Keeps.ite ?_ ?_
  · with_reducible refine Keeps.step (State.event_keeps _ _ _ _) ?_
    exact h5
  · exact h5

theorem State.postOut_keeps (x1 : State) (x2 : OutRec) (x3 : Nat) (x4 : Bool) :
    Keeps x1 (State.postOut x1 x2 x3 x4) := by
  unfold State.postOut
  extract_lets v0
  refine Keeps.ite ?_ ?_
  · exact Keeps.refl _
  · refine Keeps.ite ?_ ?_
    · with_reducible refine Keeps.step (State.bump_keeps _ _) ?_
      exact Keeps.refl _
    · split
      rename_i e1 e2 e3 e4
      split
      rename_i e5 e6 e7 e8
      extract_lets w9
      refine Keeps.have w9 ?_ fun h9 => ?_
      · with_reducible refine Keeps.step (State.bump_keeps _ _) ?_
        with_reducible refine Keeps.step (Keeps.ofSame (State.setPort_same _ _ _) (by decide)) ?_
        exact Keeps.refl _
      clear_value w9
      refine Keeps.ite ?_ ?_
      · with_reducible refine Keeps.step (State.traceOpen_keeps _ _ _ _ _ _ _) ?_
        exact h9
      · exact h9

theorem State.releaseHeld_keeps (x1 : State) :
    Keeps x1 (State.releaseHeld x1) := by
  unfold State.releaseHeld
  refine Keeps.ite ?_ ?_
  · extract_lets v0 v1
    refine Keeps.have v1 ?_ fun h2 => ?_
    · dsimp only [v1]
      with_reducible refine Keeps.record rfl ?_ ?_
      · exact Keeps.of_eq rfl rfl rfl rfl
      exact Keeps.refl _
    clear_value v1
    refine Keeps.foldl ?_ fun q3 y4 h5 => ?_
    · exact h2
    · with_reducible refine Keeps.step (State.postOut_keeps _ _ _ _) ?_
      exact h5
  · exact Keeps.refl _

end Sys2Proof.Machine
end

