-- ==== Sys2Proof/Laws/KeepGround.lean ====
section
/-! SUPPORT. What the functions of Machine/Ground.lean keep: the dictionary and the store in canonical form, the field map
bounded, the fuses, the seal and the rollback counters. -/

namespace Sys2Proof.Machine

open Sys2Proof

theorem State.turnLane_keeps (x1 : State) (x2 x3 : Nat) :
    Keeps x1 (State.turnLane x1 x2 x3) := by
  unfold State.turnLane
  extract_lets v0 v1 v2 v3 v4 v5 v6
  refine Keeps.have v0 ?_ fun h7 => ?_
  · with_reducible refine Keeps.step (Keeps.ofSame (State.endTx_same _ _ _) (by decide)) ?_
    exact Keeps.refl _
  clear_value v0
  refine Keeps.have v3 ?_ fun h8 => ?_
  · dsimp only [v3]
    split
    · rename_i e9 e10 e11
      refine Keeps.ite ?_ ?_
      · with_reducible refine Keeps.step (Keeps.ofSame (State.setLane_same _ _ _ _) (by decide)) ?_
        exact h7
      · with_reducible refine Keeps.step (Keeps.ofSame (State.setLane_same _ _ _ _) (by decide)) ?_
        exact Keeps.refl _
    · rename_i e12 e13
      exact Keeps.refl _
  clear_value v3
  refine Keeps.have v5 ?_ fun h14 => ?_
  · with_reducible refine Keeps.step (Keeps.ofSame (State.setLane_same _ _ _ _) (by decide)) ?_
    exact h8
  clear_value v5
  split
  · rename_i e15 e16 e17
    extract_lets v18 v19 v20
    refine Keeps.have v19 ?_ fun h21 => ?_
    · with_reducible refine Keeps.step (Keeps.ofSame (State.setLane_same _ _ _ _) (by decide)) ?_
      exact h14
    clear_value v19
    refine Keeps.have v20 ?_ fun h22 => ?_
    · refine Keeps.foldl ?_ fun q23 y24 h25 => ?_
      · exact h21
      · with_reducible refine Keeps.step (Keeps.ofSame (State.setLane_same _ _ _ _) (by decide)) ?_
        exact h25
    clear_value v20
    refine Keeps.ite ?_ ?_
    · with_reducible refine Keeps.step (State.traceOpen_keeps _ _ _ _ _ _ _) ?_
      with_reducible refine Keeps.step (Keeps.ofSame (State.sendIdent_same _ _ _ _ _ _ _) (by decide)) ?_
      exact h22
    · exact h14
  · rename_i e26 e27
    exact h8

theorem State.calEnd_keeps (x1 : State) (x2 x3 : Nat) :
    Keeps x1 (State.calEnd x1 x2 x3) := by
  unfold State.calEnd
  refine Keeps.ite ?_ ?_
  · extract_lets v0
    refine Keeps.have v0 ?_ fun h1 => ?_
    · dsimp only [v0]
      with_reducible refine Keeps.record rfl ?_ ?_
      · exact Keeps.of_eq rfl rfl rfl rfl
      exact Keeps.refl _
    clear_value v0
    refine Keeps.ite ?_ ?_
    · with_reducible refine Keeps.step (State.setReg_keeps _ _ _) ?_
      exact h1
    · exact h1
  · exact Keeps.refl _

theorem State.calDrop_keeps (x1 : State) (x2 : Nat) :
    Keeps x1 (State.calDrop x1 x2) := by
  unfold State.calDrop
  extract_lets v0 v1
  refine Keeps.have v1 ?_ fun h2 => ?_
  · with_reducible refine Keeps.step (Keeps.ofSame (State.setRegion_same _ _ _) (by decide)) ?_
    exact Keeps.refl _
  clear_value v1
  refine Keeps.ite ?_ ?_
  · with_reducible refine Keeps.step (Keeps.ofSame (State.tickFree_same _) (by decide)) ?_
    with_reducible refine Keeps.step (State.calEnd_keeps _ _ _) ?_
    exact h2
  · exact h2

theorem State.calSettled_keeps (x1 : State) (x2 : Nat) :
    Keeps x1 (State.calSettled x1 x2) := by
  unfold State.calSettled
  extract_lets v0 v1 v2
  refine Keeps.have v2 ?_ fun h3 => ?_
  · with_reducible refine Keeps.step (Keeps.ofSame (State.setRegion_same _ _ _) (by decide)) ?_
    exact Keeps.refl _
  clear_value v2
  refine Keeps.ite ?_ ?_
  · with_reducible refine Keeps.step (State.calEnd_keeps _ _ _) ?_
    exact h3
  · exact Keeps.refl _

theorem State.applyAllTrims_keeps (x1 : State) :
    Keeps x1 (State.applyAllTrims x1) := by
  unfold State.applyAllTrims
  refine Keeps.foldl ?_ fun q0 y1 h2 => ?_
  · refine Keeps.foldl ?_ fun q3 y4 h5 => ?_
    · exact Keeps.refl _
    · with_reducible refine Keeps.step (Keeps.ofSame (State.applyTrims_same _ _ _) (by decide)) ?_
      exact h5
  · with_reducible refine Keeps.step (State.calSettled_keeps _ _) ?_
    exact h2

theorem State.leasePeriod_keeps (x1 : State) :
    Keeps x1 (State.leasePeriod x1) := by
  unfold State.leasePeriod
  extract_lets v0 v1 v2 v3 v4
  refine Keeps.have v0 ?_ fun h5 => ?_
  · refine Keeps.foldl ?_ fun q6 y7 h8 => ?_
    · exact Keeps.refl _
    · with_reducible refine Keeps.step (State.turnLane_keeps _ _ _) ?_
      with_reducible refine Keeps.step (Keeps.ofSame (State.idleIdent_same _ _ _) (by decide)) ?_
      exact h8
  clear_value v0
  refine Keeps.have v1 ?_ fun h9 => ?_
  · refine Keeps.foldl ?_ fun q10 y11 h12 => ?_
    · exact h5
    · with_reducible refine Keeps.step (Keeps.ofSame (State.clearGrant_same _ _ _) (by decide)) ?_
      exact h12
  clear_value v1
  refine Keeps.have v2 ?_ fun h13 => ?_
  · refine Keeps.ite ?_ ?_
    · with_reducible refine Keeps.step (State.applyAllTrims_keeps _) ?_
      exact h9
    · exact h9
  clear_value v2
  refine Keeps.have v3 ?_ fun h14 => ?_
  · refine Keeps.foldl ?_ fun q15 y16 h17 => ?_
    · exact h13
    · with_reducible refine Keeps.step (Keeps.ofSame (State.calBegin_same _ _ _) (by decide)) ?_
      exact h17
  clear_value v3
  refine Keeps.have v4 ?_ fun h18 => ?_
  · refine Keeps.foldl ?_ fun q19 y20 h21 => ?_
    · exact h14
    · refine Keeps.ite ?_ ?_
      · exact h21
      · with_reducible refine Keeps.step (Keeps.ofSame (State.substitute_same _ _ _) (by decide)) ?_
        exact h21
  clear_value v4
  refine Keeps.foldl ?_ fun q22 y23 h24 => ?_
  · exact h18
  · refine Keeps.ite ?_ ?_
    · exact h24
    · with_reducible refine Keeps.step (Keeps.ofSame (State.arbitrate_same _ _) (by decide)) ?_
      exact h24

theorem execLeaseRequest_keeps (x1 x2 : Fin 12) (x3 : Nat) (x4 : Bool) (x5 : State) :
    OutKeeps x5 (execLeaseRequest x1 x2 x3 x4 x5) :=
  OutKeeps.ofSame (execLeaseRequest_same _ _ _ _ _) (by decide)

theorem execLeaseGrant_keeps (x1 : Fin 12) (x2 : State) :
    OutKeeps x2 (execLeaseGrant x1 x2) :=
  OutKeeps.ofSame (execLeaseGrant_same _ _) (by decide)

theorem execLeaseConfirm_keeps (x1 : Fin 12) (x2 : State) :
    OutKeeps x2 (execLeaseConfirm x1 x2) :=
  OutKeeps.ofSame (execLeaseConfirm_same _ _) (by decide)

theorem State.pairLost_keeps (x1 : State) :
    Keeps x1 (State.pairLost x1) := by
  unfold State.pairLost
  extract_lets v0 v1 v2 v3
  refine Keeps.have v0 ?_ fun h4 => ?_
  · with_reducible refine Keeps.step (State.releaseHeld_keeps _) ?_
    exact Keeps.refl _
  clear_value v0
  refine Keeps.have v3 ?_ fun h5 => ?_
  · dsimp only [v3]
    with_reducible refine Keeps.record rfl ?_ ?_
    · exact Keeps.of_eq rfl rfl rfl rfl
    exact h4
  clear_value v3
  refine Keeps.ite ?_ ?_
  · with_reducible refine Keeps.step (State.setReg_keeps _ _ _) ?_
    exact h5
  · exact h5

theorem execIdentityWord_keeps (x1 : IdentAt) (x2 : BitVec 64) (x3 : State) :
    OutKeeps x3 (execIdentityWord x1 x2 x3) := by
  unfold execIdentityWord
  extract_lets v0 v1 v2
  split
  · rename_i e3 e4 e5
    extract_lets v6 v7 v8 v9
    refine OutKeeps.next ?_
    with_reducible refine Keeps.record rfl ?_ ?_
    · exact Keeps.of_eq rfl rfl rfl rfl
    exact Keeps.refl _
  · rename_i e10 e11
    extract_lets v12 v13 v14 v15
    refine OutKeeps.have v15 ?_ fun h16 => ?_
    · dsimp only [v15]
      with_reducible refine Keeps.record rfl ?_ ?_
      · exact Keeps.of_eq rfl rfl rfl rfl
      exact Keeps.refl _
    clear_value v15
    refine OutKeeps.next ?_
    refine Keeps.ite ?_ ?_
    · with_reducible refine Keeps.step (State.pairLost_keeps _) ?_
      exact h16
    · exact h16
  · rename_i e17 e18 e19
    extract_lets v20 v21 v22 v23 v24 v25 v26 v27 v28 v29 v30 v31
    refine OutKeeps.have v25 ?_ fun h32 => ?_
    · refine Keeps.ite ?_ ?_
      · with_reducible refine Keeps.step (Keeps.ofSame (State.setPath_same _ _ _ _ _) (by decide)) ?_
        exact Keeps.refl _
      · exact Keeps.refl _
    clear_value v25
    refine OutKeeps.have v26 ?_ fun h33 => ?_
    · with_reducible refine Keeps.step (State.bump_keeps _ _) ?_
      exact h32
    clear_value v26
    refine OutKeeps.have v30 ?_ fun h34 => ?_
    · with_reducible refine Keeps.step (Keeps.ofSame (State.setLane_same _ _ _ _) (by decide)) ?_
      exact h32
    clear_value v30
    refine OutKeeps.have v31 ?_ fun h35 => ?_
    · with_reducible refine Keeps.step (State.traceOpen_keeps _ _ _ _ _ _ _) ?_
      with_reducible refine Keeps.step (State.bump_keeps _ _) ?_
      exact h34
    clear_value v31
    refine OutKeeps.ite ?_ ?_
    · refine OutKeeps.next ?_
      refine Keeps.ite ?_ ?_
      · with_reducible refine Keeps.step (State.pathOut_keeps _ _ _ _) ?_
        exact h33
      · exact h33
    · refine OutKeeps.ite ?_ ?_
      · refine OutKeeps.next ?_
        exact h34
      · refine OutKeeps.next ?_
        with_reducible refine Keeps.record rfl ?_ ?_
        · exact Keeps.of_eq rfl rfl rfl rfl
        exact h35

theorem State.startReset_keeps (x1 : State) (x2 : Nat) :
    Keeps x1 (State.startReset x1 x2) := by
  unfold State.startReset
  extract_lets v0 v1 v2 v3 v4 v5
  refine Keeps.have v1 ?_ fun h6 => ?_
  · with_reducible refine Keeps.step (State.bump_keeps _ _) ?_
    with_reducible refine Keeps.step (Keeps.ofSame (State.setRegion_same _ _ _) (by decide)) ?_
    exact Keeps.refl _
  clear_value v1
  refine Keeps.have v2 ?_ fun h7 => ?_
  · dsimp only [v2]
    split
    · rename_i e8 e9 e10
      with_reducible refine Keeps.step (State.discardDie_keeps _ _ _) ?_
      exact h6
    · rename_i e11 e12
      exact h6
  clear_value v2
  refine Keeps.have v3 ?_ fun h13 => ?_
  · with_reducible refine Keeps.step (State.dropSlices_keeps _ _) ?_
    exact h7
  clear_value v3
  refine Keeps.have v4 ?_ fun h14 => ?_
  · refine Keeps.ite ?_ ?_
    · with_reducible refine Keeps.step (State.pairLost_keeps _) ?_
      exact h13
    · exact h13
  clear_value v4
  with_reducible refine Keeps.step (State.dropFresh_keeps _) ?_
  with_reducible refine Keeps.step (State.reportSite_keeps _ _) ?_
  with_reducible refine Keeps.step (Keeps.ofSame (State.setArbiter_same _ _ _) (by decide)) ?_
  exact h14

theorem State.writeRegionCommand_keeps (x1 : State) (x2 : Nat) :
    Keeps x1 (State.writeRegionCommand x1 x2) := by
  unfold State.writeRegionCommand
  extract_lets v0 v1 v2 v3
  refine Keeps.have v2 ?_ fun h4 => ?_
  · with_reducible refine Keeps.step (State.setReg_keeps _ _ _) ?_
    with_reducible refine Keeps.step (Keeps.ofSame (State.answer_same _ _) (by decide)) ?_
    exact Keeps.refl _
  clear_value v2
  refine Keeps.ite ?_ ?_
  · with_reducible refine Keeps.step (State.startReset_keeps _ _) ?_
    with_reducible refine Keeps.step (Keeps.ofSame (State.setRegion_same _ _ _) (by decide)) ?_
    exact h4
  · exact h4

theorem execRegionReset_keeps (x1 : ResetCause) (x2 : State) :
    OutKeeps x2 (execRegionReset x1 x2) := by
  unfold execRegionReset
  split
  · rename_i e0 e1
    refine OutKeeps.next ?_
    with_reducible refine Keeps.step (State.writeRegionCommand_keeps _ _) ?_
    exact Keeps.refl _
  · rename_i e2 e3
    refine OutKeeps.next ?_
    with_reducible refine when_keeps ?_ ?_
    · with_reducible refine Keeps.step (State.startReset_keeps _ _) ?_
      exact Keeps.refl _
    · exact Keeps.refl _

theorem State.dropCals_keeps (x1 : State) (x2 : Nat) :
    Keeps x1 (State.dropCals x1 x2) := by
  unfold State.dropCals
  refine Keeps.foldl ?_ fun q0 y1 h2 => ?_
  · exact Keeps.refl _
  · extract_lets v3 v4 v5 v6
    refine Keeps.have v5 ?_ fun h7 => ?_
    · with_reducible refine Keeps.step (State.dropSlices_keeps _ _) ?_
      exact h2
    clear_value v5
    refine Keeps.have v6 ?_ fun h8 => ?_
    · with_reducible refine Keeps.step (Keeps.ofSame (State.setLane_same _ _ _ _) (by decide)) ?_
      exact h7
    clear_value v6
    refine Keeps.ite ?_ ?_
    · refine Keeps.foldl ?_ fun q9 y10 h11 => ?_
      · exact h8
      · with_reducible refine Keeps.step (Keeps.ofSame (State.dropTrims_same _ _) (by decide)) ?_
        exact h11
    · exact h2

theorem State.hear_keeps (x1 : State) (x2 x3 : Nat) :
    Keeps x1 (State.hear x1 x2 x3) := by
  unfold State.hear
  extract_lets v0 v1 v2 v3 v4
  refine Keeps.have v1 ?_ fun h5 => ?_
  · with_reducible refine Keeps.step (State.traceOpen_keeps _ _ _ _ _ _ _) ?_
    with_reducible refine Keeps.step (Keeps.ofSame (State.setRegion_same _ _ _) (by decide)) ?_
    exact Keeps.refl _
  clear_value v1
  refine Keeps.have v3 ?_ fun h6 => ?_
  · refine Keeps.foldl ?_ fun q7 y8 h9 => ?_
    · exact h5
    · with_reducible refine Keeps.step (Keeps.ofSame (State.markStanding_same _ _ _ _ _) (by decide)) ?_
      refine Keeps.foldl ?_ fun q10 y11 h12 => ?_
      · exact h9
      · with_reducible refine Keeps.step (Keeps.ofSame (State.voidLease_same _ _ _ _) (by decide)) ?_
        exact h12
  clear_value v3
  refine Keeps.have v4 ?_ fun h13 => ?_
  · with_reducible refine Keeps.step (State.holdTransfers_keeps _) ?_
    exact h6
  clear_value v4
  refine Keeps.ite ?_ ?_
  · exact Keeps.refl _
  · refine Keeps.ite ?_ ?_
    · with_reducible refine Keeps.step (State.dropCals_keeps _ _) ?_
      refine Keeps.foldl ?_ fun q14 y15 h16 => ?_
      · exact h13
      · with_reducible refine Keeps.step (State.endDark_keeps _ _) ?_
        exact h16
    · exact h13

theorem execRegionDarkNotice_keeps (x1 x2 : Fin 12) (x3 : State) :
    OutKeeps x3 (execRegionDarkNotice x1 x2 x3) := by
  unfold execRegionDarkNotice
  extract_lets v0
  refine OutKeeps.next ?_
  with_reducible refine when_keeps ?_ ?_
  · with_reducible refine Keeps.step (State.hear_keeps _ _ _) ?_
    exact Keeps.refl _
  · exact Keeps.refl _

theorem execRegionEndpointReset_keeps (x1 : Fin 12) (x2 : State) :
    OutKeeps x2 (execRegionEndpointReset x1 x2) := by
  unfold execRegionEndpointReset
  extract_lets v0 v1 v2 v3
  refine OutKeeps.have v1 ?_ fun h4 => ?_
  · refine Keeps.foldl ?_ fun q5 y6 h7 => ?_
    · exact Keeps.refl _
    · with_reducible refine Keeps.step (State.hear_keeps _ _ _) ?_
      exact h7
  clear_value v1
  refine OutKeeps.have v2 ?_ fun h8 => ?_
  · with_reducible refine Keeps.step (Keeps.ofSame (State.parkRegion_same _ _) (by decide)) ?_
    exact h4
  clear_value v2
  refine OutKeeps.ite ?_ ?_
  · refine OutKeeps.next ?_
    exact Keeps.refl _
  · refine OutKeeps.next ?_
    with_reducible refine Keeps.step (Keeps.ofSame (State.setRegion_same _ _ _) (by decide)) ?_
    exact h8

theorem State.lockRegion_keeps (x1 : State) (x2 : Nat) :
    Keeps x1 (State.lockRegion x1 x2) := by
  unfold State.lockRegion
  refine Keeps.ite ?_ ?_
  · with_reducible refine Keeps.step (Keeps.ofSame (State.setRegion_same _ _ _) (by decide)) ?_
    exact Keeps.refl _
  · extract_lets v0 v1
    refine Keeps.have v0 ?_ fun h2 => ?_
    · with_reducible refine Keeps.step (Keeps.ofSame (State.siteRingMap_same _ _ _) (by decide)) ?_
      exact Keeps.refl _
    clear_value v0
    with_reducible refine Keeps.step (State.addReg_keeps _ _ _) ?_
    with_reducible refine Keeps.step (Keeps.ofSame (State.setRegion_same _ _ _) (by decide)) ?_
    exact h2

theorem execRegionResetRelease_keeps (x1 : Fin 12) (x2 : State) :
    OutKeeps x2 (execRegionResetRelease x1 x2) := by
  unfold execRegionResetRelease
  extract_lets v0
  refine OutKeeps.next ?_
  with_reducible refine when_keeps ?_ ?_
  · with_reducible refine Keeps.step (State.lockRegion_keeps _ _) ?_
    exact Keeps.refl _
  · exact Keeps.refl _

theorem State.regionUp_keeps (x1 : State) (x2 : Nat) :
    Keeps x1 (State.regionUp x1 x2) := by
  unfold State.regionUp
  extract_lets v0 v1 v2 v3
  refine Keeps.have v1 ?_ fun h4 => ?_
  · with_reducible refine Keeps.step (Keeps.ofSame (State.pairTrains_same _ _) (by decide)) ?_
    with_reducible refine Keeps.step (Keeps.ofSame (State.setRegion_same _ _ _) (by decide)) ?_
    exact Keeps.refl _
  clear_value v1
  refine Keeps.have v2 ?_ fun h5 => ?_
  · refine Keeps.ite ?_ ?_
    · with_reducible refine Keeps.step (State.setReg_keeps _ _ _) ?_
      exact h4
    · exact h4
  clear_value v2
  refine Keeps.have v3 ?_ fun h6 => ?_
  · refine Keeps.ite ?_ ?_
    · with_reducible refine Keeps.step (Keeps.ofSame (State.scheduleSite_same _ _) (by decide)) ?_
      exact h5
    · exact h5
  clear_value v3
  with_reducible refine Keeps.step (State.reportSite_keeps _ _) ?_
  with_reducible refine Keeps.step (Keeps.ofSame (State.feedDrains_same _) (by decide)) ?_
  with_reducible refine Keeps.step (State.resumeTransfers_keeps _) ?_
  with_reducible refine Keeps.step (Keeps.ofSame (State.restLanes_same _) (by decide)) ?_
  exact h6

theorem execRegionUpNotice_keeps (x1 : Fin 12) (x2 : State) :
    OutKeeps x2 (execRegionUpNotice x1 x2) := by
  unfold execRegionUpNotice
  refine OutKeeps.next ?_
  with_reducible refine when_keeps ?_ ?_
  · with_reducible refine Keeps.step (State.regionUp_keeps _ _) ?_
    exact Keeps.refl _
  · exact Keeps.refl _

theorem execRegionReturnTimeout_keeps (x1 : Fin 12) (x2 : State) :
    OutKeeps x2 (execRegionReturnTimeout x1 x2) := by
  unfold execRegionReturnTimeout
  extract_lets v0 v1 v2
  refine OutKeeps.have v1 ?_ fun h3 => ?_
  · with_reducible refine Keeps.step (Keeps.ofSame (State.setRegion_same _ _ _) (by decide)) ?_
    exact Keeps.refl _
  clear_value v1
  refine OutKeeps.have v2 ?_ fun h4 => ?_
  · refine Keeps.ite ?_ ?_
    · with_reducible refine Keeps.step (Keeps.ofSame (State.tickFree_same _) (by decide)) ?_
      with_reducible refine Keeps.step (State.setReg_keeps _ _ _) ?_
      exact h3
    · exact h3
  clear_value v2
  refine OutKeeps.ite ?_ ?_
  · refine OutKeeps.next ?_
    exact Keeps.refl _
  · refine OutKeeps.next ?_
    with_reducible refine Keeps.step (State.reportSite_keeps _ _) ?_
    with_reducible refine Keeps.step (State.calDrop_keeps _ _) ?_
    exact h4

theorem execPathTrainingEnd_keeps (x1 x2 : Fin 12) (x3 : List (Fin 96)) (x4 : State) :
    OutKeeps x4 (execPathTrainingEnd x1 x2 x3 x4) := by
  unfold execPathTrainingEnd
  extract_lets v0 v1
  refine OutKeeps.ite ?_ ?_
  · refine OutKeeps.next ?_
    exact Keeps.refl _
  · refine OutKeeps.next ?_
    refine Keeps.foldl ?_ fun q2 y3 h4 => ?_
    · exact Keeps.refl _
    · extract_lets v5 v6 v7
      refine Keeps.have v6 ?_ fun h8 => ?_
      · with_reducible refine Keeps.step (Keeps.ofSame (State.setPath_same _ _ _ _ _) (by decide)) ?_
        exact h4
      clear_value v6
      refine Keeps.have v7 ?_ fun h9 => ?_
      · with_reducible refine Keeps.step (Keeps.ofSame (State.sendIdent_same _ _ _ _ _ _ _) (by decide)) ?_
        exact h8
      clear_value v7
      refine Keeps.ite ?_ ?_
      · exact h4
      · refine Keeps.ite ?_ ?_
        · exact h8
        · refine Keeps.ite ?_ ?_
          · with_reducible refine Keeps.step (State.laneReturn_keeps _ _ _) ?_
            with_reducible refine Keeps.step (State.trainFail_keeps _ _ _ _) ?_
            exact h9
          · with_reducible refine Keeps.step (State.trainPass_keeps _ _ _ _) ?_
            exact h9

theorem State.startFullCal_keeps (x1 : State) (x2 : Nat) :
    Keeps x1 (State.startFullCal x1 x2) := by
  unfold State.startFullCal
  extract_lets v0 v1 v2
  refine Keeps.have v1 ?_ fun h3 => ?_
  · with_reducible refine Keeps.step (State.bump_keeps _ _) ?_
    with_reducible refine Keeps.step (Keeps.ofSame (State.setRegion_same _ _ _) (by decide)) ?_
    exact Keeps.refl _
  clear_value v1
  refine Keeps.ite ?_ ?_
  · with_reducible refine Keeps.step (Keeps.ofSame (State.scheduleSite_same _ _) (by decide)) ?_
    exact h3
  · with_reducible refine Keeps.step (State.startReset_keeps _ _) ?_
    with_reducible refine Keeps.step (Keeps.ofSame (State.setRegion_same _ _ _) (by decide)) ?_
    exact h3

theorem State.dueFullCal_keeps (x1 : State) (x2 : Nat) :
    Keeps x1 (State.dueFullCal x1 x2) := by
  unfold State.dueFullCal
  extract_lets v0
  refine Keeps.ite ?_ ?_
  · with_reducible refine Keeps.step (State.startFullCal_keeps _ _) ?_
    with_reducible refine Keeps.step (Keeps.ofSame (State.setRegion_same _ _ _) (by decide)) ?_
    exact Keeps.refl _
  · exact Keeps.refl _

theorem State.wrongLine_keeps (x1 : State) (x2 : Nat) :
    Keeps x1 (State.wrongLine x1 x2) := by
  unfold State.wrongLine
  extract_lets v0 v1 v2
  with_reducible refine Keeps.step (State.dueFullCal_keeps _ _) ?_
  with_reducible refine Keeps.step (Keeps.ofSame (State.setRegion_same _ _ _) (by decide)) ?_
  exact Keeps.refl _

theorem execIdentityReport_keeps (x1 : State) :
    OutKeeps x1 (execIdentityReport x1) := by
  unfold execIdentityReport
  split
  · rename_i e0 e1
    refine OutKeeps.next ?_
    exact Keeps.refl _
  · rename_i e2 e3 e4 e5 e6 e7
    extract_lets v8 v9 v10 v11 v12 v13 v14 v15
    refine OutKeeps.have v8 ?_ fun h16 => ?_
    · dsimp only [v8]
      with_reducible refine Keeps.record rfl ?_ ?_
      · exact Keeps.of_eq rfl rfl rfl rfl
      exact Keeps.refl _
    clear_value v8
    refine OutKeeps.ite ?_ ?_
    · refine OutKeeps.next ?_
      with_reducible refine Keeps.step (State.wrongLine_keeps _ _) ?_
      with_reducible refine Keeps.step (State.relockLane_keeps _ _ _ _) ?_
      with_reducible refine Keeps.step (State.bump_keeps _ _) ?_
      exact h16
    · refine OutKeeps.ite ?_ ?_
      · refine OutKeeps.next ?_
        refine Keeps.foldl ?_ fun q17 y18 h19 => ?_
        · with_reducible refine Keeps.step (State.pathOut_keeps _ _ _ _) ?_
          exact h16
        · with_reducible refine Keeps.step (State.wrongLine_keeps _ _) ?_
          with_reducible refine Keeps.step (Keeps.ofSame (State.restartCal_same _ _) (by decide)) ?_
          with_reducible refine Keeps.step (State.ringLost_keeps _ _) ?_
          with_reducible refine Keeps.step (State.bump_keeps _ _) ?_
          exact h19
      · refine OutKeeps.ite ?_ ?_
        · refine OutKeeps.next ?_
          with_reducible refine Keeps.step (State.pathOut_keeps _ _ _ _) ?_
          exact h16
        · refine OutKeeps.next ?_
          exact h16

theorem State.laserPut_keeps (x1 : State) (x2 : Nat) (x3 : Laser) :
    Keeps x1 (State.laserPut x1 x2 x3) := by
  unfold State.laserPut
  with_reducible refine Keeps.step (State.setReg_keeps _ _ _) ?_
  with_reducible refine Keeps.step (Keeps.ofSame (State.setLaser_same _ _ _) (by decide)) ?_
  exact Keeps.refl _

theorem State.laserStatus_keeps (x1 : State) (x2 : Status) :
    Keeps x1 (State.laserStatus x1 x2) := by
  unfold State.laserStatus
  with_reducible refine Keeps.step (State.setReg_keeps _ _ _) ?_
  with_reducible refine Keeps.step (Keeps.ofSame (State.answer_same _ _) (by decide)) ?_
  exact Keeps.refl _

theorem State.rampOff_keeps (x1 : State) (x2 : Nat) :
    Keeps x1 (State.rampOff x1 x2) := by
  unfold State.rampOff
  with_reducible refine Keeps.step (State.laserPut_keeps _ _ _) ?_
  exact Keeps.refl _

theorem State.writeLaserCommand_keeps (x1 : State) (x2 : Nat) :
    Keeps x1 (State.writeLaserCommand x1 x2) := by
  unfold State.writeLaserCommand
  refine Keeps.ite ?_ ?_
  · with_reducible refine Keeps.step (Keeps.ofSame (State.answer_same _ _) (by decide)) ?_
    exact Keeps.refl _
  · extract_lets v0 v1
    refine Keeps.ite ?_ ?_
    · with_reducible refine Keeps.step (Keeps.ofSame (State.answer_same _ _) (by decide)) ?_
      exact Keeps.refl _
    · refine Keeps.ite ?_ ?_
      · refine Keeps.ite ?_ ?_
        · with_reducible refine Keeps.step (State.laserStatus_keeps _ _) ?_
          exact Keeps.refl _
        · refine Keeps.ite ?_ ?_
          · with_reducible refine Keeps.step (State.laserStatus_keeps _ _) ?_
            exact Keeps.refl _
          · with_reducible refine Keeps.step (State.setReg_keeps _ _ _) ?_
            with_reducible refine Keeps.step (Keeps.ofSame (State.answer_same _ _) (by decide)) ?_
            with_reducible refine Keeps.step (State.rampOff_keeps _ _) ?_
            exact Keeps.refl _
      · refine Keeps.ite ?_ ?_
        · with_reducible refine Keeps.step (State.laserStatus_keeps _ _) ?_
          exact Keeps.refl _
        · with_reducible refine Keeps.step (State.setReg_keeps _ _ _) ?_
          with_reducible refine Keeps.step (Keeps.ofSame (State.answer_same _ _) (by decide)) ?_
          with_reducible refine Keeps.step (State.laserPut_keeps _ _ _) ?_
          exact Keeps.refl _

theorem execLaserRelease_keeps (x1 : Fin 2) (x2 : State) :
    OutKeeps x2 (execLaserRelease x1 x2) := by
  unfold execLaserRelease
  refine OutKeeps.next ?_
  with_reducible refine Keeps.step (State.writeLaserCommand_keeps _ _) ?_
  exact Keeps.refl _

theorem execLaserStart_keeps (x1 : Fin 2) (x2 : State) :
    OutKeeps x2 (execLaserStart x1 x2) := by
  unfold execLaserStart
  refine OutKeeps.next ?_
  with_reducible refine Keeps.step (State.writeLaserCommand_keeps _ _) ?_
  exact Keeps.refl _

theorem State.allDark_keeps (x1 : State) :
    Keeps x1 (State.allDark x1) := by
  unfold State.allDark
  extract_lets v0 v1 v2 v3
  refine Keeps.have v1 ?_ fun h4 => ?_
  · refine Keeps.foldl ?_ fun q5 y6 h7 => ?_
    · exact Keeps.refl _
    · extract_lets v8 v9 v10
      refine Keeps.have v9 ?_ fun h11 => ?_
      · with_reducible refine Keeps.step (Keeps.ofSame (State.setRegion_same _ _ _) (by decide)) ?_
        exact h7
      clear_value v9
      refine Keeps.have v10 ?_ fun h12 => ?_
      · dsimp only [v10]
        split
        · rename_i e13 e14 e15
          with_reducible refine Keeps.step (State.discardDie_keeps _ _ _) ?_
          exact h11
        · rename_i e16 e17
          exact h11
      clear_value v10
      with_reducible refine Keeps.step (Keeps.ofSame (State.parkRegion_same _ _) (by decide)) ?_
      exact h12
  clear_value v1
  refine Keeps.have v2 ?_ fun h18 => ?_
  · refine Keeps.foldl ?_ fun q19 y20 h21 => ?_
    · exact h4
    · with_reducible refine Keeps.step (State.endDark_keeps _ _) ?_
      exact h21
  clear_value v2
  refine Keeps.have v3 ?_ fun h22 => ?_
  · refine Keeps.foldl ?_ fun q23 y24 h25 => ?_
    · with_reducible refine Keeps.step (State.pairLost_keeps _) ?_
      exact h18
    · with_reducible refine Keeps.step (State.dropCals_keeps _ _) ?_
      exact h25
  clear_value v3
  with_reducible refine Keeps.step (State.dropFresh_keeps _) ?_
  refine Keeps.foldl ?_ fun q26 y27 h28 => ?_
  · with_reducible refine Keeps.step (State.holdTransfers_keeps _) ?_
    exact h22
  · with_reducible refine Keeps.step (State.reportSite_keeps _ _) ?_
    exact h28

theorem State.lightBack_keeps (x1 : State) :
    Keeps x1 (State.lightBack x1) := by
  unfold State.lightBack
  refine Keeps.foldl ?_ fun q0 y1 h2 => ?_
  · exact Keeps.refl _
  · with_reducible refine Keeps.step (State.lockRegion_keeps _ _) ?_
    exact h2

theorem execLaserRampEnd_keeps (x1 : Fin 2) (x2 : State) :
    OutKeeps x2 (execLaserRampEnd x1 x2) := by
  unfold execLaserRampEnd
  extract_lets v0 v1
  refine OutKeeps.have v1 ?_ fun h2 => ?_
  · with_reducible refine Keeps.step (State.setReg_keeps _ _ _) ?_
    with_reducible refine Keeps.step (State.laserPut_keeps _ _ _) ?_
    exact Keeps.refl _
  clear_value v1
  refine OutKeeps.ite ?_ ?_
  · refine OutKeeps.next ?_
    with_reducible refine Keeps.step (State.lightBack_keeps _) ?_
    with_reducible refine Keeps.step (State.setReg_keeps _ _ _) ?_
    with_reducible refine Keeps.step (State.laserPut_keeps _ _ _) ?_
    exact Keeps.refl _
  · refine OutKeeps.ite ?_ ?_
    · refine OutKeeps.next ?_
      refine Keeps.ite ?_ ?_
      · with_reducible refine Keeps.step (Keeps.ofSame (State.endMulticasts_same _) (by decide)) ?_
        exact h2
      · with_reducible refine Keeps.step (State.allDark_keeps _) ?_
        exact h2
    · refine OutKeeps.next ?_
      exact Keeps.refl _

theorem State.laserFail_keeps (x1 : State) (x2 : Nat) (x3 : LaserSt) :
    Keeps x1 (State.laserFail x1 x2 x3) := by
  unfold State.laserFail
  extract_lets v0 v1
  refine Keeps.have v1 ?_ fun h2 => ?_
  · with_reducible refine Keeps.step (State.laserPut_keeps _ _ _) ?_
    exact Keeps.refl _
  clear_value v1
  refine Keeps.ite ?_ ?_
  · with_reducible refine Keeps.step (Keeps.ofSame (State.endMulticasts_same _) (by decide)) ?_
    exact h2
  · with_reducible refine Keeps.step (State.allDark_keeps _) ?_
    exact h2

theorem execLaserLoss_keeps (x1 : Fin 2) (x2 : State) :
    OutKeeps x2 (execLaserLoss x1 x2) := by
  unfold execLaserLoss
  refine OutKeeps.next ?_
  with_reducible refine when_keeps ?_ ?_
  · with_reducible refine Keeps.step (State.laserFail_keeps _ _ _) ?_
    exact Keeps.refl _
  · exact Keeps.refl _

theorem execLaserLossBoth_keeps (x1 : State) :
    OutKeeps x1 (execLaserLossBoth x1) := by
  unfold execLaserLossBoth
  extract_lets v0
  refine OutKeeps.next ?_
  with_reducible refine when_keeps ?_ ?_
  · with_reducible refine Keeps.step (State.allDark_keeps _) ?_
    dsimp only [v0]
    refine Keeps.ite ?_ ?_
    · with_reducible refine Keeps.step (State.laserPut_keeps _ _ _) ?_
      refine Keeps.ite ?_ ?_
      · with_reducible refine Keeps.step (State.laserPut_keeps _ _ _) ?_
        exact Keeps.refl _
      · exact Keeps.refl _
    · refine Keeps.ite ?_ ?_
      · with_reducible refine Keeps.step (State.laserPut_keeps _ _ _) ?_
        exact Keeps.refl _
      · exact Keeps.refl _
  · exact Keeps.refl _

theorem execLaserLightReturn_keeps (x1 : Fin 2) (x2 : State) :
    OutKeeps x2 (execLaserLightReturn x1 x2) := by
  unfold execLaserLightReturn
  extract_lets v0
  refine OutKeeps.next ?_
  with_reducible refine when_keeps ?_ ?_
  · with_reducible refine Keeps.step (State.lightBack_keeps _) ?_
    with_reducible refine Keeps.step (State.laserPut_keeps _ _ _) ?_
    exact Keeps.refl _
  · exact Keeps.refl _

theorem execLaserSeatReport_keeps (x1 : Fin 2) (x2 : Bool) (x3 : State) :
    OutKeeps x3 (execLaserSeatReport x1 x2 x3) := by
  unfold execLaserSeatReport
  extract_lets v0 v1 v2 v3
  refine OutKeeps.have v2 ?_ fun h4 => ?_
  · with_reducible refine Keeps.step (Keeps.ofSame (State.setLaser_same _ _ _) (by decide)) ?_
    exact Keeps.refl _
  clear_value v2
  refine OutKeeps.ite ?_ ?_
  · refine OutKeeps.next ?_
    with_reducible refine Keeps.step (State.laserPut_keeps _ _ _) ?_
    exact Keeps.refl _
  · refine OutKeeps.next ?_
    refine Keeps.ite ?_ ?_
    · with_reducible refine Keeps.step (State.laserFail_keeps _ _ _) ?_
      exact h4
    · with_reducible refine Keeps.step (State.laserPut_keeps _ _ _) ?_
      exact h4

end Sys2Proof.Machine
end

