-- ==== Sys2Proof/Laws/KeepSpecialFn.lean ====
section
/-! SUPPORT. What the functions of Machine/SpecialFn.lean keep: the dictionary and the store in canonical form, the field map
bounded, the fuses, the seal and the rollback counters. -/

namespace Sys2Proof.Machine

open Sys2Proof

theorem State.sfuStart_keeps {s0 s : State} {die core : Nat} {op : SfuOp}
    {run : State → Nat → Grant → QInstr → State}
    (h : Keeps s0 s) (hr : ∀ t k g q, Keeps s0 t → Keeps s0 (run t k g q)) :
    Keeps s0 (s.sfuStart die core op run) :=
  State.startUnit_keeps h fun k g q t ht => hr t k g q ht

theorem State.sfuMap_keeps (x1 : State) (x2 x3 : Nat) (x4 : SfuOp) :
    Keeps x1 (State.sfuMap x1 x2 x3 x4) := by
  unfold State.sfuMap
  with_reducible refine State.sfuStart_keeps ?_ ?_
  · exact Keeps.refl _
  · intro y0 y1 y2 y3 h4
    with_reducible refine Keeps.step (Keeps.ofSame (State.sfuRows_same _ _ _ _ _) (by decide)) ?_
    exact h4

theorem execExp_keeps (x1 : Fin 8) (x2 : Fin 48) (x3 : State) :
    OutKeeps x3 (execExp x1 x2 x3) := by
  unfold execExp
  refine OutKeeps.next ?_
  with_reducible refine Keeps.step (State.sfuMap_keeps _ _ _ _) ?_
  exact Keeps.refl _

theorem execRecip_keeps (x1 : Fin 8) (x2 : Fin 48) (x3 : State) :
    OutKeeps x3 (execRecip x1 x2 x3) := by
  unfold execRecip
  refine OutKeeps.next ?_
  with_reducible refine Keeps.step (State.sfuMap_keeps _ _ _ _) ?_
  exact Keeps.refl _

theorem execRsqrt_keeps (x1 : Fin 8) (x2 : Fin 48) (x3 : State) :
    OutKeeps x3 (execRsqrt x1 x2 x3) := by
  unfold execRsqrt
  refine OutKeeps.next ?_
  with_reducible refine Keeps.step (State.sfuMap_keeps _ _ _ _) ?_
  exact Keeps.refl _

theorem execSilu_keeps (x1 : Fin 8) (x2 : Fin 48) (x3 : State) :
    OutKeeps x3 (execSilu x1 x2 x3) := by
  unfold execSilu
  refine OutKeeps.next ?_
  with_reducible refine Keeps.step (State.sfuMap_keeps _ _ _ _) ?_
  exact Keeps.refl _

theorem execGelu_keeps (x1 : Fin 8) (x2 : Fin 48) (x3 : State) :
    OutKeeps x3 (execGelu x1 x2 x3) := by
  unfold execGelu
  refine OutKeeps.next ?_
  with_reducible refine Keeps.step (State.sfuMap_keeps _ _ _ _) ?_
  exact Keeps.refl _

theorem execSoftmax_keeps (x1 : Fin 8) (x2 : Fin 48) (x3 : State) :
    OutKeeps x3 (execSoftmax x1 x2 x3) := by
  unfold execSoftmax
  refine OutKeeps.next ?_
  with_reducible refine State.sfuStart_keeps ?_ ?_
  · exact Keeps.refl _
  · intro y0 y1 y2 y3 h4
    with_reducible refine Keeps.step (Keeps.ofSame (State.sfuRows_same _ _ _ _ _) (by decide)) ?_
    exact h4

theorem State.sfuNorm_keeps (x1 : State) (x2 x3 : Nat) (x4 : SfuOp) :
    Keeps x1 (State.sfuNorm x1 x2 x3 x4) := by
  unfold State.sfuNorm
  with_reducible refine State.sfuStart_keeps ?_ ?_
  · exact Keeps.refl _
  · intro y0 y1 y2 y3 h4
    with_reducible refine Keeps.step (Keeps.ofSame (State.sfuRows_same _ _ _ _ _) (by decide)) ?_
    exact h4

theorem execRmsnorm_keeps (x1 : Fin 8) (x2 : Fin 48) (x3 : State) :
    OutKeeps x3 (execRmsnorm x1 x2 x3) := by
  unfold execRmsnorm
  refine OutKeeps.next ?_
  with_reducible refine Keeps.step (State.sfuNorm_keeps _ _ _ _) ?_
  exact Keeps.refl _

theorem execLayernorm_keeps (x1 : Fin 8) (x2 : Fin 48) (x3 : State) :
    OutKeeps x3 (execLayernorm x1 x2 x3) := by
  unfold execLayernorm
  refine OutKeeps.next ?_
  with_reducible refine Keeps.step (State.sfuNorm_keeps _ _ _ _) ?_
  exact Keeps.refl _

theorem execRedsum_keeps (x1 : Fin 8) (x2 : Fin 48) (x3 : State) :
    OutKeeps x3 (execRedsum x1 x2 x3) := by
  unfold execRedsum
  refine OutKeeps.next ?_
  with_reducible refine State.sfuStart_keeps ?_ ?_
  · exact Keeps.refl _
  · intro y0 y1 y2 y3 h4
    with_reducible refine Keeps.step (Keeps.ofSame (State.sfuRows_same _ _ _ _ _) (by decide)) ?_
    exact h4

theorem execRedmax_keeps (x1 : Fin 8) (x2 : Fin 48) (x3 : State) :
    OutKeeps x3 (execRedmax x1 x2 x3) := by
  unfold execRedmax
  refine OutKeeps.next ?_
  with_reducible refine State.sfuStart_keeps ?_ ?_
  · exact Keeps.refl _
  · intro y0 y1 y2 y3 h4
    with_reducible refine Keeps.step (Keeps.ofSame (State.sfuRows_same _ _ _ _ _) (by decide)) ?_
    exact h4

theorem execTopk_keeps (x1 : Fin 8) (x2 : Fin 48) (x3 : State) :
    OutKeeps x3 (execTopk x1 x2 x3) := by
  unfold execTopk
  refine OutKeeps.next ?_
  with_reducible refine State.sfuStart_keeps ?_ ?_
  · exact Keeps.refl _
  · intro y0 y1 y2 y3 h4
    with_reducible refine Keeps.step (Keeps.ofSame (State.sfuRows_same _ _ _ _ _) (by decide)) ?_
    exact h4

theorem execSample_keeps (x1 : Fin 8) (x2 : Fin 48) (x3 : State) :
    OutKeeps x3 (execSample x1 x2 x3) := by
  unfold execSample
  refine OutKeeps.next ?_
  with_reducible refine State.sfuStart_keeps ?_ ?_
  · exact Keeps.refl _
  · intro y0 y1 y2 y3 h4
    with_reducible refine Keeps.step (Keeps.ofSame (State.sampleRun_same _ _ _ _) (by decide)) ?_
    exact h4

theorem execTreeverify_keeps (x1 : Fin 8) (x2 : Fin 48) (x3 : State) :
    OutKeeps x3 (execTreeverify x1 x2 x3) := by
  unfold execTreeverify
  refine OutKeeps.next ?_
  with_reducible refine State.sfuStart_keeps ?_ ?_
  · exact Keeps.refl _
  · intro y0 y1 y2 y3 h4
    with_reducible refine Keeps.step (Keeps.ofSame (State.verifyRun_same _ _ _ _) (by decide)) ?_
    exact h4

end Sys2Proof.Machine
end

