-- ==== Sys2Proof/Laws/KeepPair.lean ====
section
/-! SUPPORT. What the functions of Machine/Pair.lean keep: the dictionary and the store in canonical form, the field map
bounded, the fuses, the seal and the rollback counters. -/

namespace Sys2Proof.Machine

open Sys2Proof

theorem State.tracePair_keeps (x1 : State) (x2 x3 : Nat) :
    Keeps x1 (State.tracePair x1 x2 x3) := by
  unfold State.tracePair
  with_reducible refine Keeps.step (State.traceOpen_keeps _ _ _ _ _ _ _) ?_
  exact Keeps.refl _

theorem State.setClaim_keeps (s : State) (n : Nat) : Keeps s (s.setClaim n) := by
  have d : dictDflt (okey 0x8010 0) = 0 := by decide
  unfold State.setClaim
  refine Keeps.ite (Keeps.refl _) (Keeps.step (State.setReg_keeps _ _ _) ⟨fun h => ⟨h.1, ?_⟩, id, SecKeeps.refl _⟩)
  show dictWf (Tbl.put 0 s.nv _ _)
  rw [← d]
  exact dictWf_put _ _ h.2

theorem State.setSync_keeps (x1 : State) (x2 x3 : Nat) :
    Keeps x1 (State.setSync x1 x2 x3) := by
  unfold State.setSync
  extract_lets v0 v1
  refine Keeps.have v1 ?_ fun h2 => ?_
  · with_reducible refine Keeps.step (Keeps.ofSame (State.setStream_same _ _ _) (by decide)) ?_
    exact Keeps.refl _
  clear_value v1
  refine Keeps.ite ?_ ?_
  · exact Keeps.refl _
  · refine Keeps.ite ?_ ?_
    · with_reducible refine Keeps.step (State.event_keeps _ _ _ _) ?_
      exact h2
    · refine Keeps.ite ?_ ?_
      · with_reducible refine Keeps.step (State.event_keeps _ _ _ _) ?_
        exact h2
      · exact h2

theorem State.unsyncAll_keeps (x1 : State) :
    Keeps x1 (State.unsyncAll x1) := by
  unfold State.unsyncAll
  refine Keeps.foldl ?_ fun q0 y1 h2 => ?_
  · exact Keeps.refl _
  · with_reducible refine Keeps.step (State.setSync_keeps _ _ _) ?_
    exact h2

theorem State.syncLed_keeps (x1 : State) (x2 : Nat) :
    Keeps x1 (State.syncLed x1 x2) := by
  unfold State.syncLed
  refine Keeps.foldl ?_ fun q0 y1 h2 => ?_
  · exact Keeps.refl _
  · with_reducible refine Keeps.step (State.setSync_keeps _ _ _) ?_
    exact h2

theorem State.endRejoin_keeps (x1 : State) :
    Keeps x1 (State.endRejoin x1) := by
  unfold State.endRejoin
  refine Keeps.ite ?_ ?_
  · with_reducible refine Keeps.step (State.setReg_keeps _ _ _) ?_
    with_reducible refine Keeps.step (Keeps.ofSame (State.setPair_same _ _) (by decide)) ?_
    exact Keeps.refl _
  · exact Keeps.refl _

theorem State.takeActive_keeps (x1 : State) :
    Keeps x1 (State.takeActive x1) := by
  unfold State.takeActive
  extract_lets v0
  refine Keeps.have v0 ?_ fun h1 => ?_
  · with_reducible refine Keeps.step (Keeps.ofSame (State.setPair_same _ _) (by decide)) ?_
    with_reducible refine Keeps.step (State.endRejoin_keeps _) ?_
    exact Keeps.refl _
  clear_value v0
  with_reducible refine Keeps.step (Keeps.ofSame (State.setRole_same _ _) (by decide)) ?_
  with_reducible refine Keeps.step (State.syncLed_keeps _ _) ?_
  exact h1

theorem State.takeStandby_keeps (x1 : State) :
    Keeps x1 (State.takeStandby x1) := by
  unfold State.takeStandby
  extract_lets v0
  refine Keeps.have v0 ?_ fun h1 => ?_
  · with_reducible refine Keeps.step (Keeps.ofSame (State.setPair_same _ _) (by decide)) ?_
    exact Keeps.refl _
  clear_value v0
  with_reducible refine Keeps.step (Keeps.ofSame (State.setRole_same _ _) (by decide)) ?_
  with_reducible refine Keeps.step (State.syncLed_keeps _ _) ?_
  exact h1

theorem State.detach_keeps (x1 : State) :
    Keeps x1 (State.detach x1) := by
  unfold State.detach
  with_reducible refine Keeps.step (State.unsyncAll_keeps _) ?_
  with_reducible refine Keeps.step (Keeps.ofSame (State.setRole_same _ _) (by decide)) ?_
  with_reducible refine Keeps.step (Keeps.ofSame (State.setPair_same _ _) (by decide)) ?_
  with_reducible refine Keeps.step (State.releaseHeld_keeps _) ?_
  exact Keeps.refl _

theorem execPairLinkUp_keeps (x1 : Nat) (x2 : State) :
    OutKeeps x2 (execPairLinkUp x1 x2) :=
  OutKeeps.ofSame (execPairLinkUp_same _ _) (by decide)

theorem execPairLinkDown_keeps (x1 : State) :
    OutKeeps x1 (execPairLinkDown x1) := by
  unfold execPairLinkDown
  refine OutKeeps.next ?_
  with_reducible refine Keeps.step (State.pairLost_keeps _) ?_
  exact Keeps.refl _

theorem execHelloTimer_keeps (x1 : State) :
    OutKeeps x1 (execHelloTimer x1) :=
  OutKeeps.ofSame (execHelloTimer_same _) (by decide)

theorem State.leadNow_keeps (x1 : State) :
    Keeps x1 (State.leadNow x1) := by
  unfold State.leadNow
  refine Keeps.ite ?_ ?_
  · exact Keeps.refl _
  · with_reducible refine Keeps.step (State.takeActive_keeps _) ?_
    with_reducible refine Keeps.step (Keeps.ofSame (State.setPair_same _ _) (by decide)) ?_
    with_reducible refine Keeps.step (State.releaseHeld_keeps _) ?_
    exact Keeps.refl _

theorem State.takeHello_keeps (x1 : State) (x2 : Hello) :
    Keeps x1 (State.takeHello x1 x2) := by
  unfold State.takeHello
  extract_lets v0 v1 v2 v3
  refine Keeps.have v0 ?_ fun h4 => ?_
  · with_reducible refine Keeps.step (Keeps.ofSame (State.judgeJoin_same _ _) (by decide)) ?_
    with_reducible refine Keeps.step (State.setReg_keeps _ _ _) ?_
    with_reducible refine Keeps.step (Keeps.ofSame (State.unrefuse_same _ _) (by decide)) ?_
    with_reducible refine Keeps.step (Keeps.ofSame (State.setPair_same _ _) (by decide)) ?_
    exact Keeps.refl _
  clear_value v0
  refine Keeps.have v1 ?_ fun h5 => ?_
  · refine Keeps.ite ?_ ?_
    · with_reducible refine Keeps.step (State.setClaim_keeps _ _) ?_
      exact h4
    · exact h4
  clear_value v1
  refine Keeps.have v2 ?_ fun h6 => ?_
  · with_reducible refine Keeps.step (Keeps.ofSame (State.setPair_same _ _) (by decide)) ?_
    exact h5
  clear_value v2
  refine Keeps.have v3 ?_ fun h7 => ?_
  · with_reducible refine Keeps.step (Keeps.ofSame (State.followPartner_same _ _) (by decide)) ?_
    exact h4
  clear_value v3
  refine Keeps.ite ?_ ?_
  · refine Keeps.foldl ?_ fun q8 y9 h10 => ?_
    · with_reducible refine Keeps.step (State.leadNow_keeps _) ?_
      exact h6
    · with_reducible refine Keeps.step (State.setSync_keeps _ _ _) ?_
      exact h10
  · split
    · rename_i e11 e12
      refine Keeps.ite ?_ ?_
      · with_reducible refine Keeps.step (Keeps.ofSame (State.setPair_same _ _) (by decide)) ?_
        exact h7
      · with_reducible refine Keeps.step (Keeps.ofSame (State.setRole_same _ _) (by decide)) ?_
        exact h7
    · rename_i e13 e14
      refine Keeps.ite ?_ ?_
      · with_reducible refine Keeps.step (Keeps.ofSame (State.setPair_same _ _) (by decide)) ?_
        exact h7
      · with_reducible refine Keeps.step (Keeps.ofSame (State.setRole_same _ _) (by decide)) ?_
        exact h7
    · rename_i e15 e16
      refine Keeps.ite ?_ ?_
      · exact h7
      · with_reducible refine Keeps.step (State.detach_keeps _) ?_
        exact h7
    · rename_i e17 e18
      refine Keeps.ite ?_ ?_
      · with_reducible refine Keeps.step (Keeps.ofSame (State.setPair_same _ _) (by decide)) ?_
        exact h7
      · exact h7
    · rename_i e19 e20 e21 e22 e23
      exact h7

theorem execHello_keeps (x1 : Hello) (x2 : State) :
    OutKeeps x2 (execHello x1 x2) := by
  unfold execHello
  refine OutKeeps.next ?_
  with_reducible refine when_keeps ?_ ?_
  · with_reducible refine Keeps.step (State.takeHello_keeps _ _) ?_
    with_reducible refine Keeps.step (Keeps.ofSame (State.setPair_same _ _) (by decide)) ?_
    exact Keeps.refl _
  · exact Keeps.refl _

theorem execJoinTimeout_keeps (x1 : State) :
    OutKeeps x1 (execJoinTimeout x1) :=
  OutKeeps.ofSame (execJoinTimeout_same _) (by decide)

theorem execClaim_keeps (x1 : Nat) (x2 : State) :
    OutKeeps x2 (execClaim x1 x2) := by
  unfold execClaim
  refine OutKeeps.ite ?_ ?_
  · refine OutKeeps.next ?_
    exact Keeps.refl _
  · extract_lets v0
    refine OutKeeps.have v0 ?_ fun h1 => ?_
    · with_reducible refine Keeps.step (State.setReg_keeps _ _ _) ?_
      with_reducible refine Keeps.step (Keeps.ofSame (State.setPair_same _ _) (by decide)) ?_
      exact Keeps.refl _
    clear_value v0
    refine OutKeeps.next ?_
    refine Keeps.ite ?_ ?_
    · with_reducible refine Keeps.step (Keeps.ofSame (State.setPair_same _ _) (by decide)) ?_
      exact h1
    · exact h1

theorem execPricking_keeps (x1 : PrickCopy) (x2 : State) :
    OutKeeps x2 (execPricking x1 x2) :=
  OutKeeps.ofSame (execPricking_same _ _) (by decide)

theorem State.fixNext_keeps (x1 : State) (x2 : Prickings) :
    Keeps x1 (State.fixNext x1 x2) := by
  unfold State.fixNext
  split
  rename_i e0 e1 e2 e3
  extract_lets v4
  refine Keeps.have v4 ?_ fun h5 => ?_
  · dsimp only [v4]
    with_reducible refine Keeps.record rfl ?_ ?_
    · exact Keeps.of_eq rfl rfl rfl rfl
    exact Keeps.refl _
  clear_value v4
  refine Keeps.ite ?_ ?_
  · with_reducible refine Keeps.step (State.bump_keeps _ _) ?_
    exact h5
  · exact h5

theorem execStandbyPrickingFix_keeps (x1 : State) :
    OutKeeps x1 (execStandbyPrickingFix x1) := by
  unfold execStandbyPrickingFix
  extract_lets v0 v1 v2 v3
  refine OutKeeps.ite ?_ ?_
  · refine OutKeeps.next ?_
    exact Keeps.refl _
  · refine OutKeeps.next ?_
    with_reducible refine Keeps.step (Keeps.ofSame (State.setPair_same _ _) (by decide)) ?_
    with_reducible refine Keeps.step (State.fixNext_keeps _ _) ?_
    exact Keeps.refl _

theorem State.score_keeps (x1 : State) (x2 : Nat) (x3 : CompareClass) :
    Keeps x1 (State.score x1 x2 x3) := by
  unfold State.score
  extract_lets v0 v1 v2 v3 v4
  refine Keeps.have v1 ?_ fun h5 => ?_
  · with_reducible refine Keeps.step (State.bump_keeps _ _) ?_
    with_reducible refine Keeps.step (Keeps.ofSame (State.setPair_same _ _) (by decide)) ?_
    exact Keeps.refl _
  clear_value v1
  refine Keeps.have v2 ?_ fun h6 => ?_
  · refine Keeps.ite ?_ ?_
    · with_reducible refine Keeps.step (State.bump_keeps _ _) ?_
      exact h5
    · refine Keeps.ite ?_ ?_
      · with_reducible refine Keeps.step (State.bump_keeps _ _) ?_
        exact h5
      · exact h5
  clear_value v2
  refine Keeps.have v4 ?_ fun h7 => ?_
  · with_reducible refine Keeps.step (State.setReg_keeps _ _ _) ?_
    exact h6
  clear_value v4
  refine Keeps.ite ?_ ?_
  · with_reducible refine Keeps.step (State.setReg_keeps _ _ _) ?_
    with_reducible refine Keeps.step (Keeps.ofSame (State.beginArbitration_same _ _) (by decide)) ?_
    exact h7
  · exact h7

theorem State.compareStep_keeps (x1 : State) (x2 : List Nat) (x3 : Bool) (x4 : ActiveStep) :
    Keeps x1 (State.compareStep x1 x2 x3 x4) := by
  unfold State.compareStep
  refine Keeps.ite ?_ ?_
  · exact Keeps.refl _
  · split
    · rename_i e0 e1
      refine Keeps.ite ?_ ?_
      · with_reducible refine Keeps.step (Keeps.ofSame (State.setPair_same _ _) (by decide)) ?_
        exact Keeps.refl _
      · refine Keeps.ite ?_ ?_
        · with_reducible refine Keeps.step (State.setSync_keeps _ _ _) ?_
          exact Keeps.refl _
        · exact Keeps.refl _
    · rename_i e2 e3 e4
      extract_lets v5 v6 v7
      refine Keeps.have v5 ?_ fun h8 => ?_
      · with_reducible refine Keeps.step (Keeps.ofSame (State.setPair_same _ _) (by decide)) ?_
        exact Keeps.refl _
      clear_value v5
      refine Keeps.have v7 ?_ fun h9 => ?_
      · with_reducible refine Keeps.step (State.tracePair_keeps _ _ _) ?_
        with_reducible refine Keeps.step (State.score_keeps _ _ _) ?_
        exact h8
      clear_value v7
      refine Keeps.ite ?_ ?_
      · refine Keeps.ite ?_ ?_
        · refine Keeps.ite ?_ ?_
          · exact h9
          · with_reducible refine Keeps.step (State.setSync_keeps _ _ _) ?_
            exact h9
        · exact h8
      · refine Keeps.ite ?_ ?_
        · with_reducible refine Keeps.step (State.setSync_keeps _ _ _) ?_
          exact h8
        · refine Keeps.ite ?_ ?_
          · with_reducible refine Keeps.step (State.setSync_keeps _ _ _) ?_
            exact h8
          · exact h8

theorem State.sendAdopted_keeps (x1 : State) (x2 : Nat) (x3 : List StepNote) (x4 : List ActiveStep) (x5 : ActiveOut) :
    Keeps x1 (State.sendAdopted x1 x2 x3 x4 x5) := by
  unfold State.sendAdopted
  extract_lets v0 v1
  refine Keeps.ite ?_ ?_
  · clear_value v0
    split
    · rename_i e2 e3
      refine Keeps.ite ?_ ?_
      · with_reducible refine Keeps.step (State.postOut_keeps _ _ _ _) ?_
        exact Keeps.refl _
      · exact Keeps.refl _
    · rename_i e4
      exact Keeps.refl _
  · refine Keeps.ite ?_ ?_
    · exact Keeps.refl _
    · with_reducible refine Keeps.step (State.postOut_keeps _ _ _ _) ?_
      exact Keeps.refl _

theorem State.sendTrigger_keeps (x1 : State) (x2 x3 : Nat) (x4 : List Byte) :
    Keeps x1 (State.sendTrigger x1 x2 x3 x4) := by
  unfold State.sendTrigger
  refine Keeps.ite ?_ ?_
  · exact Keeps.refl _
  · with_reducible refine Keeps.step (State.send_keeps _ _) ?_
    with_reducible refine Keeps.step (Keeps.ofSame (State.noteSend_same _ _ _) (by decide)) ?_
    exact Keeps.refl _

theorem State.raiseClaim_keeps (x1 : State) :
    Keeps x1 (State.raiseClaim x1) := by
  unfold State.raiseClaim
  extract_lets v0 v1 v2
  refine Keeps.have v0 ?_ fun h3 => ?_
  · with_reducible refine Keeps.step (State.setClaim_keeps _ _) ?_
    exact Keeps.refl _
  clear_value v0
  refine Keeps.have v2 ?_ fun h4 => ?_
  · with_reducible refine Keeps.step (Keeps.ofSame (State.tellMore_same _ _) (by decide)) ?_
    exact h3
  clear_value v2
  refine Keeps.foldl ?_ fun q5 y6 h7 => ?_
  · exact h4
  · with_reducible refine Keeps.step (Keeps.ofSame (State.setPair_same _ _) (by decide)) ?_
    with_reducible refine Keeps.step (State.sendTrigger_keeps _ _ _ _) ?_
    exact h7

theorem State.takeover_keeps (x1 : State) :
    Keeps x1 (State.takeover x1) := by
  unfold State.takeover
  with_reducible refine Keeps.step (State.bump_keeps _ _) ?_
  with_reducible refine Keeps.step (Keeps.ofSame (State.setPair_same _ _) (by decide)) ?_
  with_reducible refine Keeps.step (State.raiseClaim_keeps _) ?_
  exact Keeps.refl _

theorem State.missRecord_keeps (x1 : State) :
    Keeps x1 (State.missRecord x1) := by
  unfold State.missRecord
  extract_lets v0 v1 v2
  refine Keeps.have v0 ?_ fun h3 => ?_
  · with_reducible refine Keeps.step (State.tracePair_keeps _ _ _) ?_
    with_reducible refine Keeps.step (State.releaseHeld_keeps _) ?_
    exact Keeps.refl _
  clear_value v0
  refine Keeps.have v1 ?_ fun h4 => ?_
  · with_reducible refine Keeps.step (State.bump_keeps _ _) ?_
    with_reducible refine Keeps.step (Keeps.ofSame (State.setPair_same _ _) (by decide)) ?_
    exact h3
  clear_value v1
  refine Keeps.ite ?_ ?_
  · exact h4
  · refine Keeps.ite ?_ ?_
    · with_reducible refine Keeps.step (Keeps.ofSame (State.tellMore_same _ _) (by decide)) ?_
      with_reducible refine Keeps.step (Keeps.ofSame (State.setPair_same _ _) (by decide)) ?_
      with_reducible refine Keeps.step (State.sendTrigger_keeps _ _ _ _) ?_
      exact h4
    · with_reducible refine Keeps.step (State.takeover_keeps _) ?_
      exact h4

theorem State.applyRecord_keeps (x1 : State) (x2 : List Byte) (x3 : Nat) :
    Keeps x1 (State.applyRecord x1 x2 x3) := by
  unfold State.applyRecord
  extract_lets v0 v1 v2 v3 v4 v5 v6 v7 v8 v9 v10 v11 v12
  refine Keeps.have v6 ?_ fun h13 => ?_
  · with_reducible refine Keeps.step (Keeps.ofSame (State.setPair_same _ _) (by decide)) ?_
    exact Keeps.refl _
  clear_value v6
  refine Keeps.have v7 ?_ fun h14 => ?_
  · refine Keeps.foldl ?_ fun q15 y16 h17 => ?_
    · exact h13
    · with_reducible refine Keeps.step (State.compareStep_keeps _ _ _ _) ?_
      exact h17
  clear_value v7
  refine Keeps.have v8 ?_ fun h18 => ?_
  · refine Keeps.foldl ?_ fun q19 y20 h21 => ?_
    · exact h14
    · with_reducible refine Keeps.step (State.bump_keeps _ _) ?_
      with_reducible refine Keeps.step (State.setSync_keeps _ _ _) ?_
      exact h21
  clear_value v8
  refine Keeps.have v9 ?_ fun h22 => ?_
  · refine Keeps.foldl ?_ fun q23 y24 h25 => ?_
    · exact h18
    · with_reducible refine Keeps.step (Keeps.ofSame (State.adopt_same _ _) (by decide)) ?_
      exact h25
  clear_value v9
  refine Keeps.have v10 ?_ fun h26 => ?_
  · refine Keeps.foldl ?_ fun q27 y28 h29 => ?_
    · exact h22
    · with_reducible refine Keeps.step (State.sendAdopted_keeps _ _ _ _ _) ?_
      exact h29
  clear_value v10
  refine Keeps.have v11 ?_ fun h30 => ?_
  · refine Keeps.ite ?_ ?_
    · exact h18
    · with_reducible refine Keeps.step (Keeps.ofSame (State.setPair_same _ _) (by decide)) ?_
      exact h26
  clear_value v11
  refine Keeps.have v12 ?_ fun h31 => ?_
  · with_reducible refine Keeps.step (Keeps.ofSame (State.setPair_same _ _) (by decide)) ?_
    exact h30
  clear_value v12
  refine Keeps.ite ?_ ?_
  · with_reducible refine Keeps.step (State.detach_keeps _) ?_
    with_reducible refine Keeps.step (Keeps.ofSame (State.setPair_same _ _) (by decide)) ?_
    exact h31
  · exact h31

theorem execCommit_keeps (x1 : List Byte) (x2 : State) :
    OutKeeps x2 (execCommit x1 x2) := by
  unfold execCommit
  refine OutKeeps.ite ?_ ?_
  · refine OutKeeps.next ?_
    exact Keeps.refl _
  · extract_lets v0
    refine OutKeeps.have v0 ?_ fun h1 => ?_
    · with_reducible refine Keeps.step (Keeps.ofSame (State.setPair_same _ _) (by decide)) ?_
      exact Keeps.refl _
    clear_value v0
    split
    · rename_i e2 e3
      refine OutKeeps.next ?_
      with_reducible refine Keeps.step (State.bump_keeps _ _) ?_
      with_reducible refine Keeps.step (State.tracePair_keeps _ _ _) ?_
      exact h1
    · rename_i e4 e5 e6
      refine OutKeeps.ite ?_ ?_
      · refine OutKeeps.next ?_
        with_reducible refine Keeps.step (State.tracePair_keeps _ _ _) ?_
        with_reducible refine Keeps.step (State.applyRecord_keeps _ _ _) ?_
        exact h1
      · refine OutKeeps.next ?_
        refine Keeps.ite ?_ ?_
        · exact h1
        · with_reducible refine Keeps.step (State.missRecord_keeps _) ?_
          exact h1

theorem execCommitHoldExpiry_keeps (x1 : State) :
    OutKeeps x1 (execCommitHoldExpiry x1) := by
  unfold execCommitHoldExpiry
  refine OutKeeps.next ?_
  with_reducible refine when_keeps ?_ ?_
  · with_reducible refine Keeps.step (State.missRecord_keeps _) ?_
    with_reducible refine Keeps.step (Keeps.ofSame (State.setPair_same _ _) (by decide)) ?_
    exact Keeps.refl _
  · exact Keeps.refl _

theorem execPingWaitExpiry_keeps (x1 : State) :
    OutKeeps x1 (execPingWaitExpiry x1) := by
  unfold execPingWaitExpiry
  refine OutKeeps.ite ?_ ?_
  · refine OutKeeps.next ?_
    exact Keeps.refl _
  · extract_lets v0 v1
    refine OutKeeps.have v1 ?_ fun h2 => ?_
    · with_reducible refine Keeps.step (Keeps.ofSame (State.setPair_same _ _) (by decide)) ?_
      exact Keeps.refl _
    clear_value v1
    refine OutKeeps.next ?_
    refine Keeps.ite ?_ ?_
    · with_reducible refine Keeps.step (State.detach_keeps _) ?_
      exact h2
    · with_reducible refine Keeps.step (State.takeover_keeps _) ?_
      exact h2

theorem State.writePairCommand_keeps (x1 : State) (x2 : Nat) :
    Keeps x1 (State.writePairCommand x1 x2) := by
  unfold State.writePairCommand
  refine Keeps.ite ?_ ?_
  · with_reducible refine Keeps.step (Keeps.ofSame (State.answer_same _ _) (by decide)) ?_
    exact Keeps.refl _
  · refine Keeps.ite ?_ ?_
    · refine Keeps.ite ?_ ?_
      · with_reducible refine Keeps.step (Keeps.ofSame (State.answer_same _ _) (by decide)) ?_
        exact Keeps.refl _
      · refine Keeps.ite ?_ ?_
        · with_reducible refine Keeps.step (Keeps.ofSame (State.answer_same _ _) (by decide)) ?_
          exact Keeps.refl _
        · extract_lets v0
          with_reducible refine Keeps.step (Keeps.ofSame (State.answer_same _ _) (by decide)) ?_
          with_reducible refine Keeps.step (State.setReg_keeps _ _ _) ?_
          with_reducible refine Keeps.step (Keeps.ofSame (State.tell_same _ _) (by decide)) ?_
          with_reducible refine Keeps.step (Keeps.ofSame (State.setPair_same _ _) (by decide)) ?_
          exact Keeps.refl _
    · refine Keeps.ite ?_ ?_
      · with_reducible refine Keeps.step (Keeps.ofSame (State.answer_same _ _) (by decide)) ?_
        exact Keeps.refl _
      · with_reducible refine Keeps.step (Keeps.ofSame (State.answer_same _ _) (by decide)) ?_
        with_reducible refine Keeps.step (State.setReg_keeps _ _ _) ?_
        with_reducible refine Keeps.step (Keeps.ofSame (State.setRole_same _ _) (by decide)) ?_
        with_reducible refine Keeps.step (State.unsyncAll_keeps _) ?_
        with_reducible refine Keeps.step (Keeps.ofSame (State.setPair_same _ _) (by decide)) ?_
        exact Keeps.refl _

theorem execSwitchover_keeps (x1 : State) :
    OutKeeps x1 (execSwitchover x1) := by
  unfold execSwitchover
  refine OutKeeps.next ?_
  with_reducible refine Keeps.step (State.writePairCommand_keeps _ _) ?_
  exact Keeps.refl _

theorem execRejoin_keeps (x1 : State) :
    OutKeeps x1 (execRejoin x1) := by
  unfold execRejoin
  refine OutKeeps.next ?_
  with_reducible refine Keeps.step (State.writePairCommand_keeps _ _) ?_
  exact Keeps.refl _

theorem execYield_keeps (x1 : Nat) (x2 : State) :
    OutKeeps x2 (execYield x1 x2) :=
  OutKeeps.ofSame (execYield_same _ _) (by decide)

theorem State.katEntry_keeps (x1 : State) (x2 : Kat) :
    Keeps x1 (State.katEntry x1 x2) := by
  unfold State.katEntry
  extract_lets v0
  with_reducible refine Keeps.step (State.bump_keeps _ _) ?_
  with_reducible refine Keeps.record rfl ?_ ?_
  · exact Keeps.of_eq rfl rfl rfl rfl
  exact Keeps.refl _

theorem State.arbitration_keeps (x1 : State) (x2 : Kat) :
    Keeps x1 (State.arbitration x1 x2) := by
  unfold State.arbitration
  split
  · rename_i e0 e1 e2 e3 e4 e5
    extract_lets v6 v7 v8 v9 v10 v11 v12 v13 v14 v15
    refine Keeps.have v6 ?_ fun h16 => ?_
    · with_reducible refine Keeps.step (Keeps.ofSame (State.setPair_same _ _) (by decide)) ?_
      exact Keeps.refl _
    clear_value v6
    refine Keeps.have v11 ?_ fun h17 => ?_
    · with_reducible refine Keeps.step (State.reportSite_keeps _ _) ?_
      with_reducible refine Keeps.step (State.discardDie_keeps _ _ _) ?_
      with_reducible refine Keeps.step (Keeps.ofSame (State.setDie_same _ _ _) (by decide)) ?_
      exact h16
    clear_value v11
    refine Keeps.have v14 ?_ fun h18 => ?_
    · with_reducible refine Keeps.step (Keeps.ofSame (State.setPair_same _ _) (by decide)) ?_
      exact h16
    clear_value v14
    refine Keeps.have v15 ?_ fun h19 => ?_
    · with_reducible refine Keeps.step (State.reportSite_keeps _ _) ?_
      with_reducible refine Keeps.step (Keeps.ofSame (State.setDie_same _ _ _) (by decide)) ?_
      exact h16
    clear_value v15
    clear_value v8
    clear_value v9
    split
    · rename_i e20 e21
      refine Keeps.ite ?_ ?_
      · refine Keeps.ite ?_ ?_
        · with_reducible refine Keeps.step (Keeps.ofSame (State.tellMore_same _ _) (by decide)) ?_
          with_reducible refine Keeps.step (Keeps.ofSame (State.setPair_same _ _) (by decide)) ?_
          exact h17
        · exact h17
      · with_reducible refine Keeps.step (Keeps.ofSame (State.setPair_same _ _) (by decide)) ?_
        exact h16
    · rename_i e22 e23
      refine Keeps.ite ?_ ?_
      · exact h16
      · with_reducible refine Keeps.step (Keeps.ofSame (State.startDieTest_same _ _) (by decide)) ?_
        with_reducible refine Keeps.step (Keeps.ofSame (State.setPair_same _ _) (by decide)) ?_
        refine Keeps.foldl ?_ fun q24 y25 h26 => ?_
        · exact h16
        · with_reducible refine Keeps.step (State.setSync_keeps _ _ _) ?_
          exact h26
    · rename_i e27 e28
      refine Keeps.ite ?_ ?_
      · exact h16
      · refine Keeps.ite ?_ ?_
        · with_reducible refine Keeps.step (State.stick_keeps _ _ _) ?_
          exact h18
        · exact h18
    · rename_i e29 e30
      refine Keeps.ite ?_ ?_
      · exact h19
      · with_reducible refine Keeps.step (Keeps.ofSame (State.setPair_same _ _) (by decide)) ?_
        exact h19
  · rename_i e31 e32 e33
    exact Keeps.refl _

theorem State.katResult_keeps (x1 : State) (x2 x3 : Nat) (x4 x5 : Bool) :
    Keeps x1 (State.katResult x1 x2 x3 x4 x5) := by
  unfold State.katResult
  extract_lets v0 v1 v2
  refine Keeps.have v2 ?_ fun h3 => ?_
  · with_reducible refine Keeps.step (Keeps.ofSame (State.setPair_same _ _) (by decide)) ?_
    exact Keeps.refl _
  clear_value v2
  split
  · rename_i e4 e5 e6
    refine Keeps.ite ?_ ?_
    · with_reducible refine Keeps.step (State.arbitration_keeps _ _) ?_
      exact h3
    · refine Keeps.ite ?_ ?_
      · with_reducible refine Keeps.step (Keeps.ofSame (State.setPair_same _ _) (by decide)) ?_
        exact h3
      · exact h3
  · rename_i e7 e8
    exact h3

theorem State.katPassed_keeps (x1 : State) (x2 : Nat) :
    Keeps x1 (State.katPassed x1 x2) := by
  unfold State.katPassed
  extract_lets v0 v1
  refine Keeps.have v0 ?_ fun h2 => ?_
  · with_reducible refine Keeps.step (Keeps.ofSame (State.setPair_same _ _) (by decide)) ?_
    with_reducible refine Keeps.step (State.setReg_keeps _ _ _) ?_
    exact Keeps.refl _
  clear_value v0
  refine Keeps.ite ?_ ?_
  · with_reducible refine Keeps.step (State.reportSite_keeps _ _) ?_
    with_reducible refine Keeps.step (Keeps.ofSame (State.setDie_same _ _ _) (by decide)) ?_
    exact h2
  · exact h2

theorem State.katOwn_keeps (x1 : State) (x2 x3 x4 : Nat) :
    Keeps x1 (State.katOwn x1 x2 x3 x4) := by
  unfold State.katOwn
  split
  · rename_i e0 e1
    exact Keeps.refl _
  · rename_i e2 e3 e4
    extract_lets v5 v6 v7 v8
    refine Keeps.have v6 ?_ fun h9 => ?_
    · with_reducible refine Keeps.step (Keeps.ofSame (State.setEntry_same _ _ _ _) (by decide)) ?_
      with_reducible refine Keeps.step (Keeps.ofSame (State.freeGrant_same _ _) (by decide)) ?_
      exact Keeps.refl _
    clear_value v6
    refine Keeps.have v7 ?_ fun h10 => ?_
    · refine Keeps.ite ?_ ?_
      · with_reducible refine Keeps.step (State.katPassed_keeps _ _) ?_
        exact h9
      · exact h9
    clear_value v7
    refine Keeps.have v8 ?_ fun h11 => ?_
    · refine Keeps.ite ?_ ?_
      · with_reducible refine Keeps.step (Keeps.ofSame (State.setPair_same _ _) (by decide)) ?_
        exact h10
      · exact h10
    clear_value v8
    with_reducible refine Keeps.step (State.katResult_keeps _ _ _ _ _) ?_
    with_reducible refine Keeps.step (Keeps.ofSame (State.tellMore_same _ _) (by decide)) ?_
    exact h11

theorem execKat_keeps (x1 : KatMsg) (x2 : State) :
    OutKeeps x2 (execKat x1 x2) := by
  unfold execKat
  refine OutKeeps.ite ?_ ?_
  · refine OutKeeps.next ?_
    exact Keeps.refl _
  · extract_lets v0
    refine OutKeeps.have v0 ?_ fun h1 => ?_
    · with_reducible refine Keeps.step (Keeps.ofSame (State.setPair_same _ _) (by decide)) ?_
      exact Keeps.refl _
    clear_value v0
    split
    · rename_i e2 e3 e4
      refine OutKeeps.next ?_
      with_reducible refine when_keeps ?_ ?_
      · with_reducible refine Keeps.step (Keeps.ofSame (State.setPair_same _ _) (by decide)) ?_
        exact h1
      · exact h1
    · rename_i e5 e6 e7 e8
      refine OutKeeps.next ?_
      with_reducible refine when_keeps ?_ ?_
      · with_reducible refine Keeps.step (State.katResult_keeps _ _ _ _ _) ?_
        exact h1
      · exact h1
    · rename_i e9 e10 e11 e12
      refine OutKeeps.next ?_
      with_reducible refine Keeps.step (State.katOwn_keeps _ _ _ _) ?_
      exact h1

theorem execKatInterval_keeps (x1 : State) :
    OutKeeps x1 (execKatInterval x1) :=
  OutKeeps.ofSame (execKatInterval_same _) (by decide)

theorem execKatResultTimeout_keeps (x1 : State) :
    OutKeeps x1 (execKatResultTimeout x1) :=
  OutKeeps.ofSame (execKatResultTimeout_same _) (by decide)

theorem execResync_keeps (x1 : StreamCopy) (x2 : State) :
    OutKeeps x2 (execResync x1 x2) := by
  unfold execResync
  extract_lets v0 v1 v2 v3 v4 v5
  refine OutKeeps.have v3 ?_ fun h6 => ?_
  · with_reducible refine Keeps.step (State.bump_keeps _ _) ?_
    exact Keeps.refl _
  clear_value v3
  refine OutKeeps.have v4 ?_ fun h7 => ?_
  · refine Keeps.foldl ?_ fun q8 y9 h10 => ?_
    · exact h6
    · with_reducible refine Keeps.step (Keeps.ofSame (State.hubWrite_same _ _ _ _ _) (by decide)) ?_
      exact h10
  clear_value v4
  refine OutKeeps.ite ?_ ?_
  · refine OutKeeps.next ?_
    exact Keeps.refl _
  · refine OutKeeps.ite ?_ ?_
    · refine OutKeeps.next ?_
      with_reducible refine Keeps.step (State.setSync_keeps _ _ _) ?_
      with_reducible refine Keeps.step (Keeps.ofSame (State.setPair_same _ _) (by decide)) ?_
      exact h6
    · refine OutKeeps.next ?_
      with_reducible refine Keeps.step (Keeps.ofSame (State.setStream_same _ _ _) (by decide)) ?_
      with_reducible refine Keeps.step (Keeps.ofSame (State.recWrote_same _ _ _ _ _) (by decide)) ?_
      exact h7

theorem execResyncEnd_keeps (x1 : Fin 16384) (x2 : State) :
    OutKeeps x2 (execResyncEnd x1 x2) :=
  OutKeeps.ofSame (execResyncEnd_same _ _) (by decide)

theorem State.sendOut_keeps (x1 : State) (x2 : OutRec) :
    Keeps x1 (State.sendOut x1 x2) := by
  unfold State.sendOut
  extract_lets v0
  refine Keeps.ite ?_ ?_
  · with_reducible refine Keeps.step (State.postOut_keeps _ _ _ _) ?_
    exact Keeps.refl _
  · refine Keeps.ite ?_ ?_
    · with_reducible refine Keeps.step (State.postOut_keeps _ _ _ _) ?_
      exact Keeps.refl _
    · split
      · rename_i e1 e2
        refine Keeps.ite ?_ ?_
        · exact Keeps.refl _
        · with_reducible refine Keeps.step (State.postOut_keeps _ _ _ _) ?_
          exact Keeps.refl _
      · rename_i e3 e4
        refine Keeps.ite ?_ ?_
        · exact Keeps.refl _
        · with_reducible refine Keeps.step (State.postOut_keeps _ _ _ _) ?_
          exact Keeps.refl _
      · rename_i e5 e6
        refine Keeps.ite ?_ ?_
        · with_reducible refine Keeps.step (State.postOut_keeps _ _ _ _) ?_
          exact Keeps.refl _
        · refine Keeps.ite ?_ ?_
          · exact Keeps.refl _
          · refine Keeps.ite ?_ ?_
            · with_reducible refine Keeps.step (Keeps.ofSame (State.setPair_same _ _) (by decide)) ?_
              exact Keeps.refl _
            · with_reducible refine Keeps.step (Keeps.ofSame (State.setPair_same _ _) (by decide)) ?_
              with_reducible refine Keeps.step (State.postOut_keeps _ _ _ _) ?_
              exact Keeps.refl _
      · rename_i e7 e8 e9 e10
        exact Keeps.refl _

theorem State.roleFirst_keeps (x1 : State) (x2 : Nat) :
    Keeps x1 (State.roleFirst x1 x2) := by
  unfold State.roleFirst
  refine Keeps.ite ?_ ?_
  · with_reducible refine Keeps.step (State.takeActive_keeps _) ?_
    exact Keeps.refl _
  · refine Keeps.ite ?_ ?_
    · extract_lets v0
      refine Keeps.have v0 ?_ fun h1 => ?_
      · refine Keeps.ite ?_ ?_
        · with_reducible refine Keeps.step (State.setReg_keeps _ _ _) ?_
          exact Keeps.refl _
        · exact Keeps.refl _
      clear_value v0
      with_reducible refine Keeps.step (State.unsyncAll_keeps _) ?_
      with_reducible refine Keeps.step (Keeps.ofSame (State.setRole_same _ _) (by decide)) ?_
      with_reducible refine Keeps.step (Keeps.ofSame (State.setPair_same _ _) (by decide)) ?_
      exact h1
    · exact Keeps.refl _

theorem State.roleLast_keeps (x1 : State) (x2 : Nat) :
    Keeps x1 (State.roleLast x1 x2) := by
  unfold State.roleLast
  refine Keeps.ite ?_ ?_
  · extract_lets v0
    refine Keeps.have v0 ?_ fun h1 => ?_
    · with_reducible refine Keeps.step (Keeps.ofSame (State.setPair_same _ _) (by decide)) ?_
      exact Keeps.refl _
    clear_value v0
    refine Keeps.ite ?_ ?_
    · with_reducible refine Keeps.step (State.takeActive_keeps _) ?_
      with_reducible refine Keeps.step (State.raiseClaim_keeps _) ?_
      exact h1
    · refine Keeps.ite ?_ ?_
      · with_reducible refine Keeps.step (State.setReg_keeps _ _ _) ?_
        with_reducible refine Keeps.step (State.takeStandby_keeps _) ?_
        exact h1
      · exact h1
  · refine Keeps.ite ?_ ?_
    · with_reducible refine Keeps.step (State.takeStandby_keeps _) ?_
      exact Keeps.refl _
    · exact Keeps.refl _

theorem State.pairBoundary_keeps (x1 : State) (x2 x3 : Nat) (x4 : List OutRec) :
    Keeps x1 (State.pairBoundary x1 x2 x3 x4) := by
  unfold State.pairBoundary
  refine Keeps.ite ?_ ?_
  · refine Keeps.foldl ?_ fun q0 y1 h2 => ?_
    · exact Keeps.refl _
    · with_reducible refine Keeps.step (State.sendOut_keeps _ _) ?_
      exact h2
  · extract_lets v3 v4 v5 v6 v7 v8 v9 v10 v11 v12 v13 v14
    refine Keeps.have v4 ?_ fun h15 => ?_
    · with_reducible refine Keeps.step (State.roleFirst_keeps _ _) ?_
      with_reducible refine Keeps.step (Keeps.ofSame (State.setPair_same _ _) (by decide)) ?_
      with_reducible refine Keeps.step (State.releaseHeld_keeps _) ?_
      exact Keeps.refl _
    clear_value v4
    refine Keeps.have v6 ?_ fun h16 => ?_
    · with_reducible refine Keeps.step (Keeps.ofSame (State.setPair_same _ _) (by decide)) ?_
      exact h15
    clear_value v6
    refine Keeps.have v7 ?_ fun h17 => ?_
    · refine Keeps.foldl ?_ fun q18 y19 h20 => ?_
      · exact h16
      · with_reducible refine Keeps.step (State.sendOut_keeps _ _) ?_
        exact h20
    clear_value v7
    refine Keeps.have v9 ?_ fun h21 => ?_
    · dsimp only [v9]
      split
      · rename_i e22 e23
        refine Keeps.ite ?_ ?_
        · exact h17
        · with_reducible refine Keeps.step (Keeps.ofSame (State.tellMore_same _ _) (by decide)) ?_
          with_reducible refine Keeps.step (State.tracePair_keeps _ _ _) ?_
          exact h17
      · rename_i e24 e25
        with_reducible refine Keeps.step (Keeps.ofSame (State.setPair_same _ _) (by decide)) ?_
        exact h17
      · rename_i e26 e27 e28
        exact h17
    clear_value v9
    refine Keeps.have v10 ?_ fun h29 => ?_
    · with_reducible refine Keeps.step (Keeps.ofSame (State.setPair_same _ _) (by decide)) ?_
      refine Keeps.foldl ?_ fun q30 y31 h32 => ?_
      · exact h21
      · with_reducible refine Keeps.step (State.setSync_keeps _ _ _) ?_
        exact h32
    clear_value v10
    refine Keeps.have v11 ?_ fun h33 => ?_
    · with_reducible refine Keeps.step (State.roleLast_keeps _ _) ?_
      exact h29
    clear_value v11
    refine Keeps.have v13 ?_ fun h34 => ?_
    · with_reducible refine Keeps.step (Keeps.ofSame (State.setPair_same _ _) (by decide)) ?_
      exact h33
    clear_value v13
    refine Keeps.have v14 ?_ fun h35 => ?_
    · refine Keeps.foldl ?_ fun q36 y37 h38 => ?_
      · exact h34
      · with_reducible refine Keeps.step (State.katEntry_keeps _ _) ?_
        exact h38
    clear_value v14
    refine Keeps.ite ?_ ?_
    · exact h35
    · refine Keeps.foldl ?_ fun q39 y40 h41 => ?_
      · exact h35
      · with_reducible refine Keeps.step (Keeps.ofSame (State.tellMore_same _ _) (by decide)) ?_
        with_reducible refine Keeps.step (State.bump_keeps _ _) ?_
        with_reducible refine Keeps.step (Keeps.ofSame (State.setPair_same _ _) (by decide)) ?_
        exact h41

theorem State.pairReport_keeps (x1 : State) :
    Keeps x1 (State.pairReport x1) := by
  unfold State.pairReport
  extract_lets v0 v1 v2 v3 v4
  refine Keeps.have v4 ?_ fun h5 => ?_
  · with_reducible refine Keeps.step (State.setReg_keeps _ _ _) ?_
    with_reducible refine Keeps.step (State.setReg_keeps _ _ _) ?_
    with_reducible refine Keeps.step (State.setReg_keeps _ _ _) ?_
    with_reducible refine Keeps.step (State.setReg_keeps _ _ _) ?_
    exact Keeps.refl _
  clear_value v4
  refine Keeps.ite ?_ ?_
  · with_reducible refine Keeps.step (State.setReg_keeps _ _ _) ?_
    with_reducible refine Keeps.step (Keeps.ofSame (State.setPair_same _ _) (by decide)) ?_
    exact h5
  · exact h5

end Sys2Proof.Machine
end

