-- ==== Sys2Proof/Laws/KeepPatterns.lean ====
section
/-! SUPPORT. What the functions of Machine/Patterns.lean keep: the dictionary and the store in canonical form, the field map
bounded, the fuses, the seal and the rollback counters. -/

namespace Sys2Proof.Machine

open Sys2Proof

theorem State.patternReport_keeps (x1 : State) (x2 : Nat) :
    Keeps x1 (State.patternReport x1 x2) := by
  unfold State.patternReport
  extract_lets v0
  with_reducible refine Keeps.step (State.setReg_keeps _ _ _) ?_
  with_reducible refine Keeps.step (State.setReg_keeps _ _ _) ?_
  exact Keeps.refl _

theorem State.patternLoad_keeps (x1 : State) :
    Keeps x1 (State.patternLoad x1) := by
  unfold State.patternLoad
  refine Keeps.ite ?_ ?_
  · with_reducible refine Keeps.step (Keeps.ofSame (State.answer_same _ _) (by decide)) ?_
    exact Keeps.refl _
  · extract_lets v0 v1 v2 v3
    refine Keeps.have v3 ?_ fun h4 => ?_
    · with_reducible refine Keeps.step (Keeps.ofSame (State.tierTouch_same _ _ _) (by decide)) ?_
      exact Keeps.refl _
    clear_value v3
    refine Keeps.ite ?_ ?_
    · with_reducible refine Keeps.step (Keeps.ofSame (State.answer_same _ _) (by decide)) ?_
      with_reducible refine Keeps.step (State.setReg_keeps _ _ _) ?_
      exact Keeps.refl _
    · with_reducible refine Keeps.step (Keeps.ofSame (State.answer_same _ _) (by decide)) ?_
      with_reducible refine Keeps.step (State.setReg_keeps _ _ _) ?_
      with_reducible refine Keeps.record rfl ?_ ?_
      · exact Keeps.of_eq rfl rfl rfl rfl
      exact h4

theorem execPatternLoad_keeps (x1 : State) :
    OutKeeps x1 (execPatternLoad x1) := by
  unfold execPatternLoad
  refine OutKeeps.next ?_
  with_reducible refine Keeps.step (State.patternLoad_keeps _) ?_
  exact Keeps.refl _

theorem State.patternUnload_keeps (x1 : State) :
    Keeps x1 (State.patternUnload x1) := by
  unfold State.patternUnload
  refine Keeps.ite ?_ ?_
  · with_reducible refine Keeps.step (Keeps.ofSame (State.answer_same _ _) (by decide)) ?_
    exact Keeps.refl _
  · extract_lets v0 v1 v2
    refine Keeps.have v2 ?_ fun h3 => ?_
    · refine Keeps.foldl ?_ fun q4 y5 h6 => ?_
      · exact Keeps.refl _
      · with_reducible refine Keeps.step (Keeps.ofSame (State.setDie_same _ _ _) (by decide)) ?_
        exact h6
    clear_value v2
    with_reducible refine Keeps.step (Keeps.ofSame (State.answer_same _ _) (by decide)) ?_
    with_reducible refine Keeps.step (State.setReg_keeps _ _ _) ?_
    exact h3

theorem execPatternUnload_keeps (x1 : State) :
    OutKeeps x1 (execPatternUnload x1) := by
  unfold execPatternUnload
  refine OutKeeps.next ?_
  with_reducible refine Keeps.step (State.patternUnload_keeps _) ?_
  exact Keeps.refl _

theorem writePatternCommand_keeps (x1 : Nat) (x2 : State) :
    Keeps x2 (writePatternCommand x1 x2) := by
  unfold writePatternCommand
  refine Keeps.ite ?_ ?_
  · with_reducible refine Keeps.step (State.patternLoad_keeps _) ?_
    exact Keeps.refl _
  · refine Keeps.ite ?_ ?_
    · with_reducible refine Keeps.step (State.patternUnload_keeps _) ?_
      exact Keeps.refl _
    · with_reducible refine Keeps.step (Keeps.ofSame (State.answer_same _ _) (by decide)) ?_
      exact Keeps.refl _

theorem State.placeImage_keeps (x1 : State) (x2 : Nat) (x3 : List Byte) :
    Keeps x1 (State.placeImage x1 x2 x3) := by
  unfold State.placeImage
  extract_lets v0 v1 v2 v3 v4 v5 v6 v7 v8
  refine Keeps.have v6 ?_ fun h9 => ?_
  · with_reducible refine Keeps.step (Keeps.ofSame (State.setDie_same _ _ _) (by decide)) ?_
    exact Keeps.refl _
  clear_value v6
  with_reducible refine Keeps.step (State.patternReport_keeps _ _) ?_
  with_reducible refine Keeps.step (Keeps.ofSame (State.setStore_same _ _ _) (by decide)) ?_
  exact h9

theorem execPatternLoadEnd_keeps (x1 : State) :
    OutKeeps x1 (execPatternLoadEnd x1) := by
  unfold execPatternLoadEnd
  split
  · rename_i e0 e1
    refine OutKeeps.next ?_
    exact Keeps.refl _
  · rename_i e2 e3 e4
    extract_lets v5 v6
    refine OutKeeps.have v5 ?_ fun h7 => ?_
    · dsimp only [v5]
      with_reducible refine Keeps.record rfl ?_ ?_
      · exact Keeps.of_eq rfl rfl rfl rfl
      exact Keeps.refl _
    clear_value v5
    refine OutKeeps.have v6 ?_ fun h8 => ?_
    · refine Keeps.foldl ?_ fun q9 y10 h11 => ?_
      · exact h7
      · with_reducible refine Keeps.step (State.placeImage_keeps _ _ _) ?_
        exact h11
    clear_value v6
    refine OutKeeps.ite ?_ ?_
    · refine OutKeeps.next ?_
      with_reducible refine Keeps.step (State.setReg_keeps _ _ _) ?_
      exact h7
    · refine OutKeeps.next ?_
      with_reducible refine Keeps.step (State.setReg_keeps _ _ _) ?_
      with_reducible refine Keeps.step (State.setReg_keeps _ _ _) ?_
      exact h8

theorem State.patternBoundary_keeps (x1 : State) :
    Keeps x1 (State.patternBoundary x1) := by
  unfold State.patternBoundary
  refine Keeps.loopTo ?_ fun q0 y1 h2 => ?_
  · exact Keeps.refl _
  · with_reducible refine Keeps.step (State.patternReport_keeps _ _) ?_
    with_reducible refine Keeps.step (Keeps.ofSame (State.setDie_same _ _ _) (by decide)) ?_
    exact h2

theorem execPatternImageFree_keeps (x1 : Fin 8) (x2 : State) :
    OutKeeps x2 (execPatternImageFree x1 x2) := by
  unfold execPatternImageFree
  extract_lets v0 v1 v2 v3 v4 v5 v6
  refine OutKeeps.have v4 ?_ fun h7 => ?_
  · with_reducible refine Keeps.step (Keeps.ofSame (State.setDie_same _ _ _) (by decide)) ?_
    exact Keeps.refl _
  clear_value v4
  refine OutKeeps.next ?_
  with_reducible refine Keeps.step (State.patternReport_keeps _ _) ?_
  with_reducible refine Keeps.step (Keeps.ofSame (State.setStore_same _ _ _) (by decide)) ?_
  exact h7

end Sys2Proof.Machine
end

