-- ==== Sys2Proof/Laws/KeepRings.lean ====
section
/-! SUPPORT. What the functions of Machine/Rings.lean keep: the dictionary and the store in canonical form, the field map
bounded, the fuses, the seal and the rollback counters. -/

namespace Sys2Proof.Machine

open Sys2Proof

theorem execLockInUpdate_keeps (x1 : Fin 12) (x2 : Fin 1344) (x3 : Int) (x4 : State) :
    OutKeeps x4 (execLockInUpdate x1 x2 x3 x4) := by
  unfold execLockInUpdate
  extract_lets v0 v1 v2 v3 v4 v5 v6 v7
  refine OutKeeps.have v5 ?_ fun h8 => ?_
  · with_reducible refine Keeps.step (Keeps.ofSame (State.tickFree_same _) (by decide)) ?_
    with_reducible refine Keeps.step (Keeps.ofSame (State.setMring_same _ _ _) (by decide)) ?_
    exact Keeps.refl _
  clear_value v5
  refine OutKeeps.have v7 ?_ fun h9 => ?_
  · with_reducible refine Keeps.step (Keeps.ofSame (State.setMring_same _ _ _) (by decide)) ?_
    with_reducible refine Keeps.step (State.traceOpen_keeps _ _ _ _ _ _ _) ?_
    with_reducible refine Keeps.step (State.bump_keeps _ _) ?_
    exact h8
  clear_value v7
  refine OutKeeps.ite ?_ ?_
  · refine OutKeeps.next ?_
    exact Keeps.refl _
  · refine OutKeeps.ite ?_ ?_
    · refine OutKeeps.next ?_
      with_reducible refine Keeps.step (Keeps.ofSame (State.restartCal_same _ _) (by decide)) ?_
      with_reducible refine Keeps.step (State.ringLost_keeps _ _) ?_
      exact h9
    · refine OutKeeps.next ?_
      exact h8

theorem execRingLockAchieved_keeps (x1 : Fin 12) (x2 : Fin 1344) (x3 : Option (Fin 16384)) (x4 : Fin 16) (x5 : State) :
    OutKeeps x5 (execRingLockAchieved x1 x2 x3 x4 x5) := by
  unfold execRingLockAchieved
  extract_lets v0 v1 v2 v3 v4 v5 v6
  refine OutKeeps.have v3 ?_ fun h7 => ?_
  · with_reducible refine Keeps.step (State.bump_keeps _ _) ?_
    with_reducible refine Keeps.step (Keeps.ofSame (State.setMring_same _ _ _) (by decide)) ?_
    exact Keeps.refl _
  clear_value v3
  refine OutKeeps.have v5 ?_ fun h8 => ?_
  · refine Keeps.foldl ?_ fun q9 y10 h11 => ?_
    · exact h7
    · refine Keeps.ite ?_ ?_
      · with_reducible refine Keeps.step (State.laneReturn_keeps _ _ _) ?_
        with_reducible refine Keeps.step (State.trainFail_keeps _ _ _ _) ?_
        exact h11
      · exact h11
  clear_value v5
  refine OutKeeps.ite ?_ ?_
  · refine OutKeeps.next ?_
    exact Keeps.refl _
  · split
    · rename_i e12 e13
      extract_lets v14 v15
      refine OutKeeps.have v14 ?_ fun h16 => ?_
      · with_reducible refine Keeps.step (Keeps.ofSame (State.setMring_same _ _ _) (by decide)) ?_
        exact Keeps.refl _
      clear_value v14
      refine OutKeeps.next ?_
      refine Keeps.ite ?_ ?_
      · with_reducible refine Keeps.step (Keeps.ofSame (State.setLane_same _ _ _ _) (by decide)) ?_
        exact h16
      · exact h16
    · rename_i e17
      refine OutKeeps.next ?_
      refine Keeps.ite ?_ ?_
      · with_reducible refine Keeps.step (State.relockRing_keeps _ _) ?_
        exact h8
      · with_reducible refine Keeps.step (Keeps.ofSame (State.setMring_same _ _ _) (by decide)) ?_
        exact h8

theorem execLaneCalibrationStart_keeps (x1 : Fin 12) (x2 : Fin 96) (x3 : State) :
    OutKeeps x3 (execLaneCalibrationStart x1 x2 x3) :=
  OutKeeps.ofSame (execLaneCalibrationStart_same _ _ _) (by decide)

theorem execLaneCalibrationEnd_keeps (x1 : Fin 12) (x2 : Fin 96) (x3 : List (Nat × Nat × Nat)) (x4 : State) :
    OutKeeps x4 (execLaneCalibrationEnd x1 x2 x3 x4) := by
  unfold execLaneCalibrationEnd
  extract_lets v0 v1 v2 v3 v4 v5
  refine OutKeeps.have v3 ?_ fun h6 => ?_
  · with_reducible refine Keeps.step (Keeps.ofSame (State.setLane_same _ _ _ _) (by decide)) ?_
    exact Keeps.refl _
  clear_value v3
  refine OutKeeps.have v4 ?_ fun h7 => ?_
  · with_reducible refine Keeps.step (Keeps.ofSame (State.applyTrims_same _ _ _) (by decide)) ?_
    exact h6
  clear_value v4
  refine OutKeeps.ite ?_ ?_
  · refine OutKeeps.next ?_
    exact Keeps.refl _
  · split
    · rename_i e8 e9
      refine OutKeeps.next ?_
      refine Keeps.ite ?_ ?_
      · with_reducible refine Keeps.step (State.calSettled_keeps _ _) ?_
        exact h7
      · refine Keeps.ite ?_ ?_
        · with_reducible refine Keeps.step (State.calSettled_keeps _ _) ?_
          with_reducible refine Keeps.step (Keeps.ofSame (State.setRegion_same _ _ _) (by decide)) ?_
          exact h7
        · with_reducible refine Keeps.step (State.startFullCal_keeps _ _) ?_
          exact h7
    · rename_i e10 e11 e12
      extract_lets v13 v14 v15
      refine OutKeeps.have v13 ?_ fun h16 => ?_
      · refine Keeps.foldl ?_ fun q17 y18 h19 => ?_
        · exact Keeps.refl _
        · with_reducible refine Keeps.step (Keeps.ofSame (State.saveTrims_same _ _ _) (by decide)) ?_
          exact h19
      clear_value v13
      refine OutKeeps.have v14 ?_ fun h20 => ?_
      · refine Keeps.foldl ?_ fun q21 y22 h23 => ?_
        · exact h16
        · extract_lets v24
          refine Keeps.ite ?_ ?_
          · with_reducible refine Keeps.step (State.countRetrain_keeps _ _ _ _) ?_
            with_reducible refine Keeps.step (Keeps.ofSame (State.setPath_same _ _ _ _ _) (by decide)) ?_
            exact h23
          · exact h23
      clear_value v14
      refine OutKeeps.next ?_
      with_reducible refine Keeps.step (State.laneReturn_keeps _ _ _) ?_
      with_reducible refine Keeps.step (Keeps.ofSame (State.setLane_same _ _ _ _) (by decide)) ?_
      exact h20

theorem State.writeCalCommand_keeps (x1 : State) (x2 : Nat) :
    Keeps x1 (State.writeCalCommand x1 x2) := by
  unfold State.writeCalCommand
  extract_lets v0 v1 v2 v3 v4
  refine Keeps.have v2 ?_ fun h5 => ?_
  · with_reducible refine Keeps.step (State.setReg_keeps _ _ _) ?_
    with_reducible refine Keeps.step (Keeps.ofSame (State.answer_same _ _) (by decide)) ?_
    exact Keeps.refl _
  clear_value v2
  refine Keeps.have v3 ?_ fun h6 => ?_
  · dsimp only [v3]
    with_reducible refine Keeps.record rfl ?_ ?_
    · exact Keeps.of_eq rfl rfl rfl rfl
    exact h5
  clear_value v3
  refine Keeps.ite ?_ ?_
  · exact h5
  · refine Keeps.ite ?_ ?_
    · with_reducible refine Keeps.step (State.startFullCal_keeps _ _) ?_
      exact h6
    · with_reducible refine Keeps.step (Keeps.ofSame (State.scheduleSite_same _ _) (by decide)) ?_
      with_reducible refine Keeps.step (Keeps.ofSame (State.setRegion_same _ _ _) (by decide)) ?_
      exact h6

theorem execLaneCalibrationCommand_keeps (x1 : State) :
    OutKeeps x1 (execLaneCalibrationCommand x1) := by
  unfold execLaneCalibrationCommand
  refine OutKeeps.next ?_
  with_reducible refine Keeps.step (State.writeCalCommand_keeps _ _) ?_
  exact Keeps.refl _

theorem execFullCalibrationCommand_keeps (x1 : State) :
    OutKeeps x1 (execFullCalibrationCommand x1) := by
  unfold execFullCalibrationCommand
  refine OutKeeps.next ?_
  with_reducible refine Keeps.step (State.writeCalCommand_keeps _ _) ?_
  exact Keeps.refl _

theorem State.writeRingSelect_keeps (x1 : State) (x2 x3 : Nat) :
    Keeps x1 (State.writeRingSelect x1 x2 x3) := by
  unfold State.writeRingSelect
  refine Keeps.ite ?_ ?_
  · with_reducible refine Keeps.step (Keeps.ofSame (State.answer_same _ _) (by decide)) ?_
    exact Keeps.refl _
  · with_reducible refine Keeps.step (Keeps.ofSame (State.answer_same _ _) (by decide)) ?_
    with_reducible refine Keeps.step (State.setReg_keeps _ _ _) ?_
    exact Keeps.refl _

theorem execRingSelect_keeps (x1 : Fin 2) (x2 : Nat) (x3 : State) :
    OutKeeps x3 (execRingSelect x1 x2 x3) := by
  unfold execRingSelect
  refine OutKeeps.next ?_
  with_reducible refine Keeps.step (State.writeRingSelect_keeps _ _ _) ?_
  exact Keeps.refl _

end Sys2Proof.Machine
end

