-- ==== Sys2Proof/Laws/KeepPorts.lean ====
section
/-! SUPPORT. What the functions of Machine/Ports.lean keep: the dictionary and the store in canonical form, the field map
bounded, the fuses, the seal and the rollback counters. -/

namespace Sys2Proof.Machine

open Sys2Proof

theorem State.disableRing_keeps (x1 : State) (x2 x3 : Nat) :
    Keeps x1 (State.disableRing x1 x2 x3) := by
  unfold State.disableRing
  extract_lets v0 v1
  refine Keeps.ite ?_ ?_
  · with_reducible refine Keeps.step (State.addReg_keeps _ _ _) ?_
    with_reducible refine Keeps.step (Keeps.ofSame (State.voidRing_same _ _ _) (by decide)) ?_
    with_reducible refine Keeps.step (Keeps.ofSame (State.setPort_same _ _ _) (by decide)) ?_
    exact Keeps.refl _
  · exact Keeps.refl _

theorem State.writeRing_keeps (x1 : State) (x2 x3 : Nat) (x4 : Bool) (x5 x6 : Nat) :
    Keeps x1 (State.writeRing x1 x2 x3 x4 x5 x6) := by
  unfold State.writeRing
  extract_lets v0 v1 v2 v3 v4 v5 v6 v7
  refine Keeps.have v3 ?_ fun h8 => ?_
  · refine Keeps.ite ?_ ?_
    · exact Keeps.refl _
    · with_reducible refine Keeps.step (State.disableRing_keeps _ _ _) ?_
      exact Keeps.refl _
  clear_value v3
  refine Keeps.ite ?_ ?_
  · exact Keeps.refl _
  · refine Keeps.ite ?_ ?_
    · with_reducible refine Keeps.step (Keeps.ofSame (State.setPort_same _ _ _) (by decide)) ?_
      exact h8
    · refine Keeps.ite ?_ ?_
      · with_reducible refine Keeps.step (Keeps.ofSame (State.setPort_same _ _ _) (by decide)) ?_
        exact Keeps.refl _
      · refine Keeps.ite ?_ ?_
        · with_reducible refine Keeps.step (Keeps.ofSame (State.markRing_same _ _ _) (by decide)) ?_
          with_reducible refine Keeps.step (Keeps.ofSame (State.setPort_same _ _ _) (by decide)) ?_
          exact Keeps.refl _
        · with_reducible refine Keeps.step (Keeps.ofSame (State.setPort_same _ _ _) (by decide)) ?_
          exact Keeps.refl _

theorem execRingEnable_keeps (x1 : Fin 2) (x2 : Fin 64) (x3 x4 : BitVec 16) (x5 : State) :
    OutKeeps x5 (execRingEnable x1 x2 x3 x4 x5) := by
  unfold execRingEnable
  refine OutKeeps.next ?_
  with_reducible refine Keeps.step (State.writeRing_keeps _ _ _ _ _ _) ?_
  exact Keeps.refl _

theorem execRingDisable_keeps (x1 : Fin 2) (x2 : Fin 64) (x3 : State) :
    OutKeeps x3 (execRingDisable x1 x2 x3) := by
  unfold execRingDisable
  extract_lets v0
  refine OutKeeps.next ?_
  with_reducible refine Keeps.step (State.writeRing_keeps _ _ _ _ _ _) ?_
  exact Keeps.refl _

theorem execConsumerIndexWrite_keeps (x1 : Fin 2) (x2 : Fin 64) (x3 : BitVec 32) (x4 : State) :
    OutKeeps x4 (execConsumerIndexWrite x1 x2 x3 x4) := by
  unfold execConsumerIndexWrite
  extract_lets v0 v1 v2 v3 v4 v5
  refine OutKeeps.ite ?_ ?_
  · refine OutKeeps.next ?_
    exact Keeps.refl _
  · refine OutKeeps.ite ?_ ?_
    · refine OutKeeps.next ?_
      with_reducible refine Keeps.step (State.bump_keeps _ _) ?_
      exact Keeps.refl _
    · refine OutKeeps.next ?_
      with_reducible refine Keeps.step (Keeps.ofSame (State.markRing_same _ _ _) (by decide)) ?_
      with_reducible refine Keeps.step (Keeps.ofSame (State.setPort_same _ _ _) (by decide)) ?_
      exact Keeps.refl _

theorem execIrqHoldoffEnd_keeps (x1 : Fin 2) (x2 : Fin 64) (x3 : State) :
    OutKeeps x3 (execIrqHoldoffEnd x1 x2 x3) :=
  OutKeeps.ofSame (execIrqHoldoffEnd_same _ _ _) (by decide)

theorem execBar2Write_keeps (x1 : Fin 2) (x2 : State) :
    OutKeeps x2 (execBar2Write x1 x2) := by
  unfold execBar2Write
  refine OutKeeps.next ?_
  with_reducible refine when_keeps ?_ ?_
  · with_reducible refine Keeps.step (State.bump_keeps _ _) ?_
    exact Keeps.refl _
  · exact Keeps.refl _

theorem execSqDisable_keeps (x1 : Fin 2) (x2 : Fin 64) (x3 : State) :
    OutKeeps x3 (execSqDisable x1 x2 x3) :=
  OutKeeps.ofSame (execSqDisable_same _ _ _) (by decide)

theorem execSqDoorbell_keeps (x1 : Fin 2) (x2 : Fin 64) (x3 : BitVec 64) (x4 : State) :
    OutKeeps x4 (execSqDoorbell x1 x2 x3 x4) := by
  unfold execSqDoorbell
  extract_lets v0 v1
  refine OutKeeps.next ?_
  with_reducible refine when_keeps ?_ ?_
  · with_reducible refine Keeps.step (State.traceOpen_keeps _ _ _ _ _ _ _) ?_
    with_reducible refine Keeps.step (Keeps.ofSame (State.setPort_same _ _ _) (by decide)) ?_
    exact Keeps.refl _
  · exact Keeps.refl _

theorem State.handoff_keeps (x1 : State) (x2 : Nat) :
    Keeps x1 (State.handoff x1 x2) := by
  unfold State.handoff
  extract_lets v0 v1
  refine Keeps.foldl ?_ fun q2 y3 h4 => ?_
  · exact Keeps.refl _
  · extract_lets v5
    refine Keeps.ite ?_ ?_
    · with_reducible refine Keeps.step (State.event_keeps _ _ _ _) ?_
      with_reducible refine Keeps.step (Keeps.ofSame (State.setStream_same _ _ _) (by decide)) ?_
      exact h4
    · refine Keeps.ite ?_ ?_
      · exact h4
      · with_reducible refine Keeps.step (State.event_keeps _ _ _ _) ?_
        with_reducible refine Keeps.step (Keeps.ofSame (State.setStream_same _ _ _) (by decide)) ?_
        exact h4

theorem State.finishLeave_keeps (x1 : State) (x2 : Nat) :
    Keeps x1 (State.finishLeave x1 x2) := by
  unfold State.finishLeave
  extract_lets v0
  refine Keeps.ite ?_ ?_
  · with_reducible refine Keeps.step (State.handoff_keeps _ _) ?_
    with_reducible refine Keeps.step (Keeps.ofSame (State.setPort_same _ _ _) (by decide)) ?_
    exact Keeps.refl _
  · exact Keeps.refl _

theorem State.endLeave_keeps (x1 : State) (x2 : Nat) :
    Keeps x1 (State.endLeave x1 x2) := by
  unfold State.endLeave
  extract_lets v0
  refine Keeps.ite ?_ ?_
  · with_reducible refine Keeps.step (State.handoff_keeps _ _) ?_
    with_reducible refine Keeps.step (Keeps.ofSame (State.setPort_same _ _ _) (by decide)) ?_
    exact Keeps.refl _
  · exact Keeps.refl _

theorem State.leaveUp_keeps (x1 : State) (x2 : Nat) :
    Keeps x1 (State.leaveUp x1 x2) := by
  unfold State.leaveUp
  extract_lets v0 v1 v2 v3 v4 v5
  refine Keeps.have v4 ?_ fun h6 => ?_
  · with_reducible refine Keeps.step (Keeps.ofSame (State.disown_same _ _) (by decide)) ?_
    with_reducible refine Keeps.step (Keeps.ofSame (State.setPort_same _ _ _) (by decide)) ?_
    exact Keeps.refl _
  clear_value v4
  refine Keeps.have v5 ?_ fun h7 => ?_
  · refine Keeps.foldl ?_ fun q8 y9 h10 => ?_
    · exact h6
    · with_reducible refine Keeps.step (State.disableRing_keeps _ _ _) ?_
      exact h10
  clear_value v5
  with_reducible refine Keeps.step (State.bump_keeps _ _) ?_
  with_reducible refine Keeps.step (State.finishLeave_keeps _ _) ?_
  with_reducible refine Keeps.step (Keeps.ofSame (State.loseSlots_same _ _) (by decide)) ?_
  with_reducible refine Keeps.step (Keeps.ofSame (State.dropBox_same _ _) (by decide)) ?_
  exact h7

theorem State.arriveUp_keeps (x1 : State) (x2 : Nat) :
    Keeps x1 (State.arriveUp x1 x2) := by
  unfold State.arriveUp
  extract_lets v0 v1 v2
  refine Keeps.have v0 ?_ fun h3 => ?_
  · with_reducible refine Keeps.step (State.endLeave_keeps _ _) ?_
    exact Keeps.refl _
  clear_value v0
  refine Keeps.have v2 ?_ fun h4 => ?_
  · refine Keeps.foldl ?_ fun q5 y6 h7 => ?_
    · exact h3
    · extract_lets v8
      refine Keeps.ite ?_ ?_
      · with_reducible refine Keeps.step (State.event_keeps _ _ _ _) ?_
        with_reducible refine Keeps.step (Keeps.ofSame (State.setStream_same _ _ _) (by decide)) ?_
        exact h7
      · refine Keeps.ite ?_ ?_
        · with_reducible refine Keeps.step (State.event_keeps _ _ _ _) ?_
          with_reducible refine Keeps.step (Keeps.ofSame (State.setStream_same _ _ _) (by decide)) ?_
          exact h7
        · exact h7
  clear_value v2
  refine Keeps.foldl ?_ fun q9 y10 h11 => ?_
  · exact h4
  · with_reducible refine Keeps.step (Keeps.ofSame (State.markRing_same _ _ _) (by decide)) ?_
    exact h11

theorem State.writePortControl_keeps (x1 : State) (x2 x3 : Nat) :
    Keeps x1 (State.writePortControl x1 x2 x3) := by
  unfold State.writePortControl
  extract_lets v0 v1 v2
  refine Keeps.have v1 ?_ fun h3 => ?_
  · with_reducible refine Keeps.step (Keeps.ofSame (State.setPort_same _ _ _) (by decide)) ?_
    exact Keeps.refl _
  clear_value v1
  split
  · rename_i e4 e5
    exact Keeps.refl _
  · rename_i e6 e7
    refine Keeps.ite ?_ ?_
    · with_reducible refine Keeps.step (Keeps.ofSame (State.signal_same _ _) (by decide)) ?_
      with_reducible refine Keeps.step (State.arriveUp_keeps _ _) ?_
      with_reducible refine Keeps.step (Keeps.ofSame (State.setPort_same _ _ _) (by decide)) ?_
      exact h3
    · exact h3
  · rename_i e8 e9
    refine Keeps.ite ?_ ?_
    · exact h3
    · with_reducible refine Keeps.step (Keeps.ofSame (State.signal_same _ _) (by decide)) ?_
      with_reducible refine Keeps.step (State.leaveUp_keeps _ _) ?_
      with_reducible refine Keeps.step (Keeps.ofSame (State.setPort_same _ _ _) (by decide)) ?_
      exact h3

theorem execPortEnable_keeps (x1 : Fin 2) (x2 : BitVec 63) (x3 : State) :
    OutKeeps x3 (execPortEnable x1 x2 x3) := by
  unfold execPortEnable
  refine OutKeeps.next ?_
  with_reducible refine Keeps.step (State.writePortControl_keeps _ _ _) ?_
  exact Keeps.refl _

theorem execPortDisable_keeps (x1 : Fin 2) (x2 : BitVec 63) (x3 : State) :
    OutKeeps x3 (execPortDisable x1 x2 x3) := by
  unfold execPortDisable
  refine OutKeeps.next ?_
  with_reducible refine Keeps.step (State.writePortControl_keeps _ _ _) ?_
  exact Keeps.refl _

theorem State.portDown_keeps (x1 : State) (x2 : Nat) :
    Keeps x1 (State.portDown x1 x2) := by
  unfold State.portDown
  extract_lets v0 v1 v2 v3 v4 v5
  refine Keeps.have v1 ?_ fun h6 => ?_
  · refine Keeps.ite ?_ ?_
    · with_reducible refine Keeps.step (State.leaveUp_keeps _ _) ?_
      with_reducible refine Keeps.step (Keeps.ofSame (State.setPort_same _ _ _) (by decide)) ?_
      exact Keeps.refl _
    · exact Keeps.refl _
  clear_value v1
  refine Keeps.have v3 ?_ fun h7 => ?_
  · with_reducible refine Keeps.step (Keeps.ofSame (State.setPort_same _ _ _) (by decide)) ?_
    exact h6
  clear_value v3
  refine Keeps.have v5 ?_ fun h8 => ?_
  · dsimp only [v5]
    with_reducible refine Keeps.record rfl ?_ ?_
    · exact Keeps.of_eq rfl rfl rfl rfl
    exact h7
  clear_value v5
  refine Keeps.ite ?_ ?_
  · exact Keeps.refl _
  · with_reducible refine Keeps.step (Keeps.ofSame (State.signal_same _ _) (by decide)) ?_
    exact h8

theorem execLinkDown_keeps (x1 : Fin 2) (x2 : State) :
    OutKeeps x2 (execLinkDown x1 x2) := by
  unfold execLinkDown
  refine OutKeeps.next ?_
  with_reducible refine Keeps.step (State.portDown_keeps _ _) ?_
  exact Keeps.refl _

theorem execPerst_keeps (x1 : Fin 2) (x2 : Bool) (x3 : State) :
    OutKeeps x3 (execPerst x1 x2 x3) := by
  unfold execPerst
  extract_lets v0 v1
  refine OutKeeps.have v0 ?_ fun h2 => ?_
  · refine Keeps.ite ?_ ?_
    · with_reducible refine Keeps.step (State.portDown_keeps _ _) ?_
      exact Keeps.refl _
    · exact Keeps.refl _
  clear_value v0
  refine OutKeeps.next ?_
  with_reducible refine Keeps.step (Keeps.ofSame (State.setPort_same _ _ _) (by decide)) ?_
  exact h2

theorem execHostLinkUp_keeps (x1 : Fin 2) (x2 : State) :
    OutKeeps x2 (execHostLinkUp x1 x2) :=
  OutKeeps.ofSame (execHostLinkUp_same _ _) (by decide)

theorem execWaitLimitExpiry_keeps (x1 : Fin 16384) (x2 : State) :
    OutKeeps x2 (execWaitLimitExpiry x1 x2) :=
  OutKeeps.ofSame (execWaitLimitExpiry_same _ _) (by decide)

end Sys2Proof.Machine
end

