-- ==== Sys2Proof/Laws/KeepStreams.lean ====
section
/-! SUPPORT. What the functions of Machine/Streams.lean keep: the dictionary and the store in canonical form, the field map
bounded, the fuses, the seal and the rollback counters. -/

namespace Sys2Proof.Machine

open Sys2Proof

theorem State.fetch_keeps (x1 : State) (x2 x3 : Nat) (x4 : Port) :
    Keeps x1 (State.fetch x1 x2 x3 x4) := by
  unfold State.fetch
  extract_lets v0 v1 v2 v3 v4 v5
  refine Keeps.have v4 ?_ fun h6 => ?_
  · with_reducible refine Keeps.step (Keeps.ofSame (State.setPort_same _ _ _) (by decide)) ?_
    exact Keeps.refl _
  clear_value v4
  refine Keeps.have v5 ?_ fun h7 => ?_
  · dsimp only [v5]
    with_reducible refine Keeps.record rfl ?_ ?_
    · exact Keeps.of_eq rfl rfl rfl rfl
    exact h6
  clear_value v5
  with_reducible refine Keeps.step (State.bump_keeps _ _) ?_
  exact h7

theorem execSqFetch_keeps (x1 : State) :
    OutKeeps x1 (execSqFetch x1) := by
  unfold execSqFetch
  extract_lets v0
  refine OutKeeps.ite ?_ ?_
  · refine OutKeeps.next ?_
    exact Keeps.refl _
  · split
    · rename_i e1 e2 e3 e4
      refine OutKeeps.next ?_
      with_reducible refine Keeps.step (State.fetch_keeps _ _ _ _) ?_
      exact Keeps.refl _
    · rename_i e5 e6
      split
      · rename_i e7 e8 e9 e10
        refine OutKeeps.next ?_
        with_reducible refine Keeps.step (State.fetch_keeps _ _ _ _) ?_
        exact Keeps.refl _
      · rename_i e11 e12
        refine OutKeeps.next ?_
        exact Keeps.refl _

theorem State.runCmd_keeps {s0 s : State} {p op : Nat} {effect : State → Taken → State}
    (h : Keeps s0 s) (he : ∀ t, Keeps s0 (effect s t)) : Keeps s0 (s.runCmd p op effect) := by
  unfold State.runCmd
  split
  · exact h
  · refine Keeps.trans ?_ (State.finishLeave_keeps _ _)
    split
    · split
      · exact h.trans (Keeps.ofSame (State.defer_same _ _ _ _ _) (by decide))
      · exact h.trans (Keeps.ofSame (State.finishCmd_same _ _ _ _ _) (by decide))
    · exact he _

theorem State.place1_keeps (x1 : State) (x2 : Nat) (x3 : List Byte) (x4 : Taken) :
    Keeps x1 (State.place1 x1 x2 x3 x4) := by
  unfold State.place1
  extract_lets v0 v1 v2 v3 v4 v5 v6 v7 v8 v9 v10 v11 v12 v13 v14 v15 v16 v17
  refine Keeps.have v14 ?_ fun h18 => ?_
  · refine Keeps.ite ?_ ?_
    · exact Keeps.refl _
    · with_reducible refine Keeps.step (Keeps.ofSame (State.hubWrite_same _ _ _ _ _) (by decide)) ?_
      exact Keeps.refl _
  clear_value v14
  refine Keeps.have v15 ?_ fun h19 => ?_
  · with_reducible refine Keeps.step (Keeps.ofSame (State.hubWrite_same _ _ _ _ _) (by decide)) ?_
    exact h18
  clear_value v15
  refine Keeps.have v17 ?_ fun h20 => ?_
  · with_reducible refine Keeps.step (Keeps.ofSame (State.setStream_same _ _ _) (by decide)) ?_
    exact h19
  clear_value v17
  refine Keeps.ite ?_ ?_
  · with_reducible refine Keeps.step (Keeps.ofSame (State.finishCmd_same _ _ _ _ _) (by decide)) ?_
    exact Keeps.refl _
  · refine Keeps.ite ?_ ?_
    · with_reducible refine Keeps.step (Keeps.ofSame (State.finishCmd_same _ _ _ _ _) (by decide)) ?_
      exact Keeps.refl _
    · with_reducible refine Keeps.step (Keeps.ofSame (State.finishCmd_same _ _ _ _ _) (by decide)) ?_
      with_reducible refine Keeps.step (State.bump_keeps _ _) ?_
      exact h20

theorem execIngress_keeps (x1 : Fin 2) (x2 : List Byte) (x3 : State) :
    OutKeeps x3 (execIngress x1 x2 x3) := by
  unfold execIngress
  refine OutKeeps.next ?_
  with_reducible refine State.runCmd_keeps ?_ ?_
  · exact Keeps.refl _
  · intro y0
    with_reducible refine Keeps.step (State.place1_keeps _ _ _ _) ?_
    exact Keeps.refl _

theorem execOpenStream_keeps (x1 : Fin 2) (x2 : State) :
    OutKeeps x2 (execOpenStream x1 x2) := by
  unfold execOpenStream
  refine OutKeeps.next ?_
  with_reducible refine State.runCmd_keeps ?_ ?_
  · exact Keeps.refl _
  · intro y0
    extract_lets v1 v2 v3 v4 v5
    refine Keeps.ite ?_ ?_
    · with_reducible refine Keeps.step (Keeps.ofSame (State.finishCmd_same _ _ _ _ _) (by decide)) ?_
      exact Keeps.refl _
    · with_reducible refine Keeps.step (Keeps.ofSame (State.signal_same _ _) (by decide)) ?_
      with_reducible refine Keeps.step (Keeps.ofSame (State.finishCmd_same _ _ _ _ _) (by decide)) ?_
      with_reducible refine Keeps.step (Keeps.ofSame (State.setStream_same _ _ _) (by decide)) ?_
      with_reducible refine Keeps.step (Keeps.ofSame (State.recWrote_same _ _ _ _ _) (by decide)) ?_
      with_reducible refine Keeps.step (Keeps.ofSame (State.recWrote_same _ _ _ _ _) (by decide)) ?_
      exact Keeps.refl _

theorem execCloseStream_keeps (x1 : Fin 2) (x2 : State) :
    OutKeeps x2 (execCloseStream x1 x2) := by
  unfold execCloseStream
  refine OutKeeps.next ?_
  with_reducible refine State.runCmd_keeps ?_ ?_
  · exact Keeps.refl _
  · intro y0
    extract_lets v1 v2 v3
    with_reducible refine Keeps.step (Keeps.ofSame (State.signal_same _ _) (by decide)) ?_
    with_reducible refine Keeps.step (Keeps.ofSame (State.setStream_same _ _ _) (by decide)) ?_
    exact Keeps.refl _

theorem execSampling_keeps (x1 : Fin 2) (x2 : State) :
    OutKeeps x2 (execSampling x1 x2) := by
  unfold execSampling
  refine OutKeeps.next ?_
  with_reducible refine State.runCmd_keeps ?_ ?_
  · exact Keeps.refl _
  · intro y0
    with_reducible refine Keeps.step (Keeps.ofSame (State.onRecord_same _ _ _ _) (by decide)) ?_
    exact Keeps.refl _

theorem execStatewrite_keeps (x1 : Fin 2) (x2 : List Byte) (x3 : State) :
    OutKeeps x3 (execStatewrite x1 x2 x3) := by
  unfold execStatewrite
  refine OutKeeps.next ?_
  with_reducible refine State.runCmd_keeps ?_ ?_
  · exact Keeps.refl _
  · intro y0
    refine Keeps.ite ?_ ?_
    · with_reducible refine Keeps.step (Keeps.ofSame (State.finishCmd_same _ _ _ _ _) (by decide)) ?_
      exact Keeps.refl _
    · with_reducible refine Keeps.step (Keeps.ofSame (State.onRecord_same _ _ _ _) (by decide)) ?_
      exact Keeps.refl _

theorem execStateread_keeps (x1 : Fin 2) (x2 : State) :
    OutKeeps x2 (execStateread x1 x2) := by
  unfold execStateread
  refine OutKeeps.next ?_
  with_reducible refine State.runCmd_keeps ?_ ?_
  · exact Keeps.refl _
  · intro y0
    refine Keeps.ite ?_ ?_
    · with_reducible refine Keeps.step (Keeps.ofSame (State.finishCmd_same _ _ _ _ _) (by decide)) ?_
      exact Keeps.refl _
    · with_reducible refine Keeps.step (Keeps.ofSame (State.onRecord_same _ _ _ _) (by decide)) ?_
      exact Keeps.refl _

theorem execMemwrite_keeps (x1 : Fin 2) (x2 : List Byte) (x3 : State) :
    OutKeeps x3 (execMemwrite x1 x2 x3) := by
  unfold execMemwrite
  refine OutKeeps.next ?_
  with_reducible refine State.runCmd_keeps ?_ ?_
  · exact Keeps.refl _
  · intro y0
    extract_lets v1 v2 v3
    refine Keeps.ite ?_ ?_
    · with_reducible refine Keeps.step (Keeps.ofSame (State.finishCmd_same _ _ _ _ _) (by decide)) ?_
      exact Keeps.refl _
    · with_reducible refine Keeps.step (Keeps.ofSame (State.finishCmd_same _ _ _ _ _) (by decide)) ?_
      with_reducible refine Keeps.step (Keeps.ofSame (State.hubWrite_same _ _ _ _ _) (by decide)) ?_
      exact Keeps.refl _

theorem execMemread_keeps (x1 : Fin 2) (x2 : State) :
    OutKeeps x2 (execMemread x1 x2) := by
  unfold execMemread
  refine OutKeeps.next ?_
  with_reducible refine State.runCmd_keeps ?_ ?_
  · exact Keeps.refl _
  · intro y0
    extract_lets v1 v2 v3 v4 v5 v6
    refine Keeps.have v6 ?_ fun h7 => ?_
    · with_reducible refine Keeps.step (Keeps.ofSame (State.wake_same _ _ _) (by decide)) ?_
      exact Keeps.refl _
    clear_value v6
    refine Keeps.ite ?_ ?_
    · with_reducible refine Keeps.step (Keeps.ofSame (State.finishCmd_same _ _ _ _ _) (by decide)) ?_
      exact Keeps.refl _
    · split
      · rename_i e8 e9 e10
        with_reducible refine Keeps.step (Keeps.ofSame (State.finishCmd_same _ _ _ _ _) (by decide)) ?_
        dsimp only [v5]
        with_reducible refine Keeps.record rfl ?_ ?_
        · exact Keeps.of_eq rfl rfl rfl rfl
        exact h7
      · rename_i e11 e12
        with_reducible refine Keeps.step (Keeps.ofSame (State.finishCmd_same _ _ _ _ _) (by decide)) ?_
        dsimp only [v5]
        with_reducible refine Keeps.record rfl ?_ ?_
        · exact Keeps.of_eq rfl rfl rfl rfl
        exact h7

theorem execRebind_keeps (x1 : Fin 2) (x2 : State) :
    OutKeeps x2 (execRebind x1 x2) := by
  unfold execRebind
  refine OutKeeps.next ?_
  with_reducible refine State.runCmd_keeps ?_ ?_
  · exact Keeps.refl _
  · intro y0
    extract_lets v1 v2 v3
    with_reducible refine Keeps.step (Keeps.ofSame (State.setStream_same _ _ _) (by decide)) ?_
    exact Keeps.refl _

theorem execCommandCompletion_keeps (x1 : Fin 2) (x2 : State) :
    OutKeeps x2 (execCommandCompletion x1 x2) := by
  unfold execCommandCompletion
  extract_lets v0 v1 v2
  split
  · rename_i e3 e4
    refine OutKeeps.next ?_
    exact Keeps.refl _
  · rename_i e5 e6 e7
    extract_lets v8 v9 v10 v11
    refine OutKeeps.have v10 ?_ fun h12 => ?_
    · with_reducible refine Keeps.step (Keeps.ofSame (State.setPort_same _ _ _) (by decide)) ?_
      exact Keeps.refl _
    clear_value v10
    refine OutKeeps.have v11 ?_ fun h13 => ?_
    · refine Keeps.ite ?_ ?_
      · with_reducible refine Keeps.step (State.traceOpen_keeps _ _ _ _ _ _ _) ?_
        exact h12
      · exact h12
    clear_value v11
    refine OutKeeps.next ?_
    refine Keeps.ite ?_ ?_
    · exact h13
    · with_reducible refine Keeps.step (State.bump_keeps _ _) ?_
      exact h13

theorem State.applyRebind_keeps (x1 : State) (x2 : Nat) :
    Keeps x1 (State.applyRebind x1 x2) := by
  unfold State.applyRebind
  extract_lets v0 v1
  split
  · rename_i e2 e3
    exact Keeps.refl _
  · rename_i e4 e5 e6
    extract_lets v7 v8 v9 v10
    refine Keeps.have v10 ?_ fun h11 => ?_
    · with_reducible refine Keeps.step (Keeps.ofSame (State.setStream_same _ _ _) (by decide)) ?_
      exact Keeps.refl _
    clear_value v10
    with_reducible refine Keeps.step (Keeps.ofSame (State.finishCmd_same _ _ _ _ _) (by decide)) ?_
    refine Keeps.ite ?_ ?_
    · with_reducible refine Keeps.step (State.event_keeps _ _ _ _) ?_
      exact h11
    · exact h11

theorem State.closeIdle_keeps (x1 : State) (x2 : Nat) :
    Keeps x1 (State.closeIdle x1 x2) := by
  unfold State.closeIdle
  extract_lets v0 v1 v2
  refine Keeps.have v1 ?_ fun h3 => ?_
  · refine Keeps.ite ?_ ?_
    · with_reducible refine Keeps.step (State.event_keeps _ _ _ _) ?_
      exact Keeps.refl _
    · exact Keeps.refl _
  clear_value v1
  refine Keeps.have v2 ?_ fun h4 => ?_
  · dsimp only [v2]
    split
    · rename_i e5 e6 e7
      with_reducible refine Keeps.step (Keeps.ofSame (State.finishCmd_same _ _ _ _ _) (by decide)) ?_
      exact h3
    · rename_i e8 e9
      exact h3
  clear_value v2
  refine Keeps.ite ?_ ?_
  · exact Keeps.refl _
  · with_reducible refine Keeps.step (Keeps.ofSame (State.setStream_same _ _ _) (by decide)) ?_
    exact h4

end Sys2Proof.Machine
end

