-- ==== Sys2Proof/Laws/KeepTier.lean ====
section
/-! SUPPORT. What the functions of Machine/Tier.lean keep: the dictionary and the store in canonical form, the field map
bounded, the fuses, the seal and the rollback counters. -/

namespace Sys2Proof.Machine

open Sys2Proof

theorem execPresenceDetect_keeps (x1 : Fin 16) (x2 : State) :
    OutKeeps x2 (execPresenceDetect x1 x2) :=
  OutKeeps.ofSame (execPresenceDetect_same _ _) (by decide)

theorem execPresenceRemoved_keeps (x1 : Fin 16) (x2 : State) :
    OutKeeps x2 (execPresenceRemoved x1 x2) := by
  unfold execPresenceRemoved
  extract_lets v0 v1 v2 v3
  refine OutKeeps.have v2 ?_ fun h4 => ?_
  · with_reducible refine Keeps.step (Keeps.ofSame (State.setChan_same _ _ _) (by decide)) ?_
    exact Keeps.refl _
  clear_value v2
  split
  · rename_i e5 e6
    refine OutKeeps.next ?_
    exact h4
  · rename_i e7 e8
    refine OutKeeps.next ?_
    with_reducible refine Keeps.step (Keeps.ofSame (State.setChan_same _ _ _) (by decide)) ?_
    exact h4
  · rename_i e9 e10 e11
    refine OutKeeps.next ?_
    with_reducible refine Keeps.step (State.channelFail_keeps _ _) ?_
    exact h4

theorem execSpdRead_keeps (x1 : Fin 16) (x2 : Spd) (x3 : State) :
    OutKeeps x3 (execSpdRead x1 x2 x3) :=
  OutKeeps.ofSame (execSpdRead_same _ _ _) (by decide)

theorem State.channelIn_keeps (s : State) (c : Nat) : Keeps s (s.channelIn c) := by
  unfold State.channelIn
  extract_lets x fs src s1
  refine Keeps.step (State.setReg_keeps _ _ _) (Keeps.step (Keeps.ofSame (State.setStore_same _ _ _) (by decide)) ?_)
  exact Keeps.mapLe rfl rfl (List.length_filter_le _ _) rfl

theorem execChannelTrainingEnd_keeps (x1 : Fin 16) (x2 : Bool) (x3 : State) :
    OutKeeps x3 (execChannelTrainingEnd x1 x2 x3) := by
  unfold execChannelTrainingEnd
  refine OutKeeps.ite ?_ ?_
  · refine OutKeeps.next ?_
    refine Keeps.ite ?_ ?_
    · with_reducible refine Keeps.step (State.channelIn_keeps _ _) ?_
      exact Keeps.refl _
    · with_reducible refine Keeps.step (State.channelFail_keeps _ _) ?_
      exact Keeps.refl _
  · refine OutKeeps.next ?_
    exact Keeps.refl _

theorem execI3cBusLoss_keeps (x1 : Fin 16) (x2 : State) :
    OutKeeps x2 (execI3cBusLoss x1 x2) := by
  unfold execI3cBusLoss
  split
  · rename_i e0 e1
    refine OutKeeps.next ?_
    with_reducible refine Keeps.step (State.channelFail_keeps _ _) ?_
    exact Keeps.refl _
  · rename_i e2 e3
    refine OutKeeps.next ?_
    with_reducible refine Keeps.step (State.channelFail_keeps _ _) ?_
    exact Keeps.refl _
  · rename_i e4 e5
    refine OutKeeps.next ?_
    with_reducible refine Keeps.step (State.channelFail_keeps _ _) ?_
    exact Keeps.refl _
  · rename_i e6 e7
    refine OutKeeps.next ?_
    with_reducible refine Keeps.step (State.channelFail_keeps _ _) ?_
    exact Keeps.refl _
  · rename_i e8 e9 e10 e11 e12
    refine OutKeeps.next ?_
    exact Keeps.refl _

theorem execPowerEnableOff_keeps (x1 : Fin 16) (x2 : State) :
    OutKeeps x2 (execPowerEnableOff x1 x2) :=
  OutKeeps.ofSame (execPowerEnableOff_same _ _) (by decide)

theorem execChannelSelfRefresh_keeps (x1 : Fin 16) (x2 : State) :
    OutKeeps x2 (execChannelSelfRefresh x1 x2) :=
  OutKeeps.ofSame (execChannelSelfRefresh_same _ _) (by decide)

theorem State.channelStatus_keeps (x1 : State) (x2 : Status) :
    Keeps x1 (State.channelStatus x1 x2) := by
  unfold State.channelStatus
  with_reducible refine Keeps.step (Keeps.ofSame (State.answer_same _ _) (by decide)) ?_
  with_reducible refine Keeps.step (State.drainOutcome_keeps _ _ _) ?_
  exact Keeps.refl _

theorem State.channelDrain_keeps (x1 : State) :
    Keeps x1 (State.channelDrain x1) := by
  unfold State.channelDrain
  extract_lets v0 v1
  split
  · rename_i e2 e3
    with_reducible refine Keeps.step (Keeps.ofSame (State.feedDrain_same _ _ _) (by decide)) ?_
    with_reducible refine Keeps.step (Keeps.ofSame (State.answer_same _ _) (by decide)) ?_
    with_reducible refine Keeps.step (State.setReg_keeps _ _ _) ?_
    with_reducible refine Keeps.step (State.addReg_keeps _ _ _) ?_
    with_reducible refine Keeps.step (Keeps.ofSame (State.setChan_same _ _ _) (by decide)) ?_
    exact Keeps.refl _
  · rename_i e4 e5
    with_reducible refine Keeps.step (State.channelStatus_keeps _ _) ?_
    exact Keeps.refl _

theorem execChannelDrain_keeps (x1 : State) :
    OutKeeps x1 (execChannelDrain x1) := by
  unfold execChannelDrain
  refine OutKeeps.next ?_
  with_reducible refine Keeps.step (State.channelDrain_keeps _) ?_
  exact Keeps.refl _

theorem State.channelDiscover_keeps (x1 : State) :
    Keeps x1 (State.channelDiscover x1) := by
  unfold State.channelDiscover
  extract_lets v0 v1
  refine Keeps.ite ?_ ?_
  · with_reducible refine Keeps.step (State.channelStatus_keeps _ _) ?_
    exact Keeps.refl _
  · split
    · rename_i e2 e3
      with_reducible refine Keeps.step (State.channelStatus_keeps _ _) ?_
      refine Keeps.ite ?_ ?_
      · with_reducible refine Keeps.step (Keeps.ofSame (State.setChan_same _ _ _) (by decide)) ?_
        exact Keeps.refl _
      · with_reducible refine Keeps.step (Keeps.ofSame (State.setChan_same _ _ _) (by decide)) ?_
        exact Keeps.refl _
    · rename_i e4 e5
      with_reducible refine Keeps.step (State.channelStatus_keeps _ _) ?_
      with_reducible refine Keeps.step (Keeps.ofSame (State.setChan_same _ _ _) (by decide)) ?_
      exact Keeps.refl _
    · rename_i e6 e7
      with_reducible refine Keeps.step (State.channelStatus_keeps _ _) ?_
      with_reducible refine Keeps.step (Keeps.ofSame (State.setChan_same _ _ _) (by decide)) ?_
      exact Keeps.refl _
    · rename_i e8 e9 e10 e11
      with_reducible refine Keeps.step (State.channelStatus_keeps _ _) ?_
      exact Keeps.refl _

theorem execDiscover_keeps (x1 : State) :
    OutKeeps x1 (execDiscover x1) := by
  unfold execDiscover
  refine OutKeeps.next ?_
  with_reducible refine Keeps.step (State.channelDiscover_keeps _) ?_
  exact Keeps.refl _

theorem writeChannelCommand_keeps (x1 : Nat) (x2 : State) :
    Keeps x2 (writeChannelCommand x1 x2) := by
  unfold writeChannelCommand
  refine Keeps.ite ?_ ?_
  · with_reducible refine Keeps.step (State.channelDrain_keeps _) ?_
    exact Keeps.refl _
  · refine Keeps.ite ?_ ?_
    · with_reducible refine Keeps.step (State.channelDiscover_keeps _) ?_
      exact Keeps.refl _
    · with_reducible refine Keeps.step (State.channelStatus_keeps _ _) ?_
      exact Keeps.refl _

theorem execDrainComplete_keeps (x1 : Fin 16) (x2 : State) :
    OutKeeps x2 (execDrainComplete x1 x2) := by
  unfold execDrainComplete
  extract_lets v0 v1 v2 v3 v4
  refine OutKeeps.have v3 ?_ fun h5 => ?_
  · with_reducible refine Keeps.step (Keeps.ofSame (State.setChan_same _ _ _) (by decide)) ?_
    exact Keeps.refl _
  clear_value v3
  refine OutKeeps.ite ?_ ?_
  · refine OutKeeps.next ?_
    with_reducible refine Keeps.step (State.drainOutcome_keeps _ _ _) ?_
    with_reducible refine Keeps.step (Keeps.ofSame (State.setStore_same _ _ _) (by decide)) ?_
    exact h5
  · refine OutKeeps.next ?_
    exact Keeps.refl _

theorem execStagingQueueDoorbell_keeps (x1 : Fin 2) (x2 : Nat) (x3 : State) :
    OutKeeps x3 (execStagingQueueDoorbell x1 x2 x3) := by
  unfold execStagingQueueDoorbell
  extract_lets v0 v1
  refine OutKeeps.next ?_
  with_reducible refine when_keeps ?_ ?_
  · with_reducible refine Keeps.step (State.traceOpen_keeps _ _ _ _ _ _ _) ?_
    with_reducible refine Keeps.step (Keeps.ofSame (State.setPort_same _ _ _) (by decide)) ?_
    exact Keeps.refl _
  · exact Keeps.refl _

theorem execStagein_keeps (x1 : List MemError) (x2 : State) :
    OutKeeps x2 (execStagein x1 x2) := by
  unfold execStagein
  refine OutKeeps.next ?_
  with_reducible refine Keeps.step (State.memErrors_keeps _ _) ?_
  with_reducible refine Keeps.step (Keeps.ofSame (State.takeStaging_same _ _) (by decide)) ?_
  exact Keeps.refl _

theorem execStageout_keeps (x1 : List MemError) (x2 : State) :
    OutKeeps x2 (execStageout x1 x2) := by
  unfold execStageout
  refine OutKeeps.next ?_
  with_reducible refine Keeps.step (State.memErrors_keeps _ _) ?_
  with_reducible refine Keeps.step (Keeps.ofSame (State.takeStaging_same _ _) (by decide)) ?_
  exact Keeps.refl _

theorem State.stageMove_keeps (x1 : State) (x2 x3 : Nat × Nat) :
    Keeps x1 (State.stageMove x1 x2 x3) := by
  unfold State.stageMove
  refine Keeps.ite ?_ ?_
  · exact Keeps.refl _
  · extract_lets v0 v1
    refine Keeps.have v0 ?_ fun h2 => ?_
    · with_reducible refine Keeps.step (Keeps.ofSame (State.moveBytes_same _ _ _ _ _ _) (by decide)) ?_
      exact Keeps.refl _
    clear_value v0
    refine Keeps.have v1 ?_ fun h3 => ?_
    · dsimp only [v1]
      split
      · rename_i e4 e5 e6
        refine Keeps.ite ?_ ?_
        · with_reducible refine Keeps.step (Keeps.ofSame (State.setMig_same _ _ _) (by decide)) ?_
          exact h2
        · exact h2
      · rename_i e7 e8
        exact h2
    clear_value v1
    with_reducible refine Keeps.step (State.marked_keeps _ _ _) ?_
    exact h3

theorem State.finishStaging_keeps (x1 : State) (x2 : StageCmd) (x3 : Nat) :
    Keeps x1 (State.finishStaging x1 x2 x3) := by
  unfold State.finishStaging
  refine Keeps.ite ?_ ?_
  · exact Keeps.refl _
  · extract_lets v0 v1 v2 v3 v4
    refine Keeps.have v4 ?_ fun h5 => ?_
    · with_reducible refine Keeps.step (Keeps.ofSame (State.setPort_same _ _ _) (by decide)) ?_
      exact Keeps.refl _
    clear_value v4
    refine Keeps.ite ?_ ?_
    · with_reducible refine Keeps.step (State.traceOpen_keeps _ _ _ _ _ _ _) ?_
      exact h5
    · exact h5

theorem State.stageCopy_keeps (x1 : State) (x2 : StageCmd) :
    Keeps x1 (State.stageCopy x1 x2).1 := by
  unfold State.stageCopy
  extract_lets v0 v1 v2
  refine Keeps.have v1 ?_ fun h3 => ?_
  · refine Keeps.foldl ?_ fun q4 y5 h6 => ?_
    · exact Keeps.refl _
    · refine Keeps.foldl ?_ fun q7 y8 h9 => ?_
      · exact h6
      · with_reducible refine Keeps.step (State.stageMove_keeps _ _ _) ?_
        exact h9
  clear_value v1
  refine Keeps.have v2 ?_ fun h10 => ?_
  · with_reducible refine Keeps.step (State.addReg_keeps _ _ _) ?_
    with_reducible refine Keeps.step (State.addReg_keeps _ _ _) ?_
    exact h3
  clear_value v2
  refine Keeps.iteFst ?_ ?_
  · dsimp only
    exact h3
  · refine Keeps.iteFst ?_ ?_
    · dsimp only
      with_reducible refine Keeps.step (State.bump_keeps _ _) ?_
      exact h10
    · dsimp only
      exact h10

theorem execStagingComplete_keeps (x1 : Nat) (x2 : State) :
    OutKeeps x2 (execStagingComplete x1 x2) := by
  unfold execStagingComplete
  split
  · rename_i e0 e1
    refine OutKeeps.next ?_
    with_reducible refine Keeps.step (Keeps.ofSame (State.takeStaging_same _ _) (by decide)) ?_
    exact Keeps.refl _
  · rename_i e2 e3 e4
    extract_lets v5
    refine OutKeeps.have v5 ?_ fun h6 => ?_
    · with_reducible refine Keeps.step (Keeps.ofSame (State.setStaging_same _ _) (by decide)) ?_
      exact Keeps.refl _
    clear_value v5
    split
    · rename_i e7 e8 e9
      refine OutKeeps.next ?_
      with_reducible refine Keeps.step (Keeps.ofSame (State.feedDrains_same _) (by decide)) ?_
      with_reducible refine Keeps.step (State.finishStaging_keeps _ _ _) ?_
      exact h6
    · rename_i e10 e11
      refine OutKeeps.ite ?_ ?_
      · refine OutKeeps.next ?_
        exact Keeps.refl _
      · split
        · rename_i e12 e13
          refine OutKeeps.next ?_
          exact Keeps.refl _
        · rename_i e14 e15 e16
          split
          rename_i e17 e18 e19 e20
          refine OutKeeps.next ?_
          with_reducible refine Keeps.step (Keeps.ofSame (State.feedDrains_same _) (by decide)) ?_
          with_reducible refine Keeps.step (State.finishStaging_keeps _ _ _) ?_
          refine Keeps.fstOf e20 ?_
          with_reducible refine Keeps.step (State.stageCopy_keeps _ _) ?_
          with_reducible refine Keeps.step (Keeps.ofSame (State.setStaging_same _ _) (by decide)) ?_
          exact Keeps.refl _

end Sys2Proof.Machine
end

