-- ==== Sys2Proof/Laws/KeepPower.lean ====
section
/-! SUPPORT. What the functions of Machine/Power.lean keep: the dictionary and the store in canonical form, the field map
bounded, the fuses, the seal and the rollback counters. -/

namespace Sys2Proof.Machine

open Sys2Proof

theorem State.reportOsc_keeps (x1 : State) :
    Keeps x1 (State.reportOsc x1) := by
  unfold State.reportOsc
  extract_lets v0
  with_reducible refine Keeps.step (State.setReg_keeps _ _ _) ?_
  exact Keeps.refl _

theorem execOscillatorLoss_keeps (x1 : Fin 2) (x2 : State) :
    OutKeeps x2 (execOscillatorLoss x1 x2) := by
  unfold execOscillatorLoss
  extract_lets v0
  refine OutKeeps.have v0 ?_ fun h1 => ?_
  · with_reducible refine Keeps.step (Keeps.ofSame (State.setPw_same _ _) (by decide)) ?_
    exact Keeps.refl _
  clear_value v0
  refine OutKeeps.next ?_
  refine Keeps.ite ?_ ?_
  · with_reducible refine Keeps.step (State.stick_keeps _ _ _) ?_
    with_reducible refine Keeps.step (Keeps.ofSame (State.setPw_same _ _) (by decide)) ?_
    exact h1
  · exact h1

theorem execOscillatorSwitch_keeps (x1 : State) :
    OutKeeps x1 (execOscillatorSwitch x1) :=
  OutKeeps.ofSame (execOscillatorSwitch_same _) (by decide)

theorem execOscillatorReturn_keeps (x1 : Fin 2) (x2 : State) :
    OutKeeps x2 (execOscillatorReturn x1 x2) :=
  OutKeeps.ofSame (execOscillatorReturn_same _ _) (by decide)

theorem execDroopStretch_keeps (x1 : Fin 54) (x2 : Fin 8) (x3 : State) :
    OutKeeps x3 (execDroopStretch x1 x2 x3) := by
  unfold execDroopStretch
  extract_lets v0 v1 v2
  refine OutKeeps.have v2 ?_ fun h3 => ?_
  · with_reducible refine Keeps.step (Keeps.ofSame (State.setPw_same _ _) (by decide)) ?_
    exact Keeps.refl _
  clear_value v2
  refine OutKeeps.next ?_
  with_reducible refine Keeps.step (State.setReg_keeps _ _ _) ?_
  with_reducible refine Keeps.step (State.bump_keeps _ _) ?_
  exact h3

theorem execSyncPulse_keeps (x1 : List (Fin 73 × Int)) (x2 : State) :
    OutKeeps x2 (execSyncPulse x1 x2) :=
  OutKeeps.ofSame (execSyncPulse_same _ _) (by decide)

theorem State.throttle_keeps (x1 : State) (x2 : Nat) :
    Keeps x1 (State.throttle x1 x2) := by
  unfold State.throttle
  extract_lets v0
  refine Keeps.ite ?_ ?_
  · with_reducible refine Keeps.step (State.trace_keeps _ _ _ _ _ _ _) ?_
    with_reducible refine Keeps.step (Keeps.ofSame (State.schedule_same _ _ _) (by decide)) ?_
    with_reducible refine Keeps.step (Keeps.ofSame (State.cancelRamp_same _ _) (by decide)) ?_
    exact Keeps.refl _
  · refine Keeps.ite ?_ ?_
    · with_reducible refine Keeps.step (Keeps.ofSame (State.cancelRamp_same _ _) (by decide)) ?_
      exact Keeps.refl _
    · exact Keeps.refl _

theorem State.writePoint_keeps (x1 : State) (x2 x3 : Nat) :
    Keeps x1 (State.writePoint x1 x2 x3) := by
  unfold State.writePoint
  refine Keeps.ite ?_ ?_
  · with_reducible refine Keeps.step (Keeps.ofSame (State.answer_same _ _) (by decide)) ?_
    exact Keeps.refl _
  · with_reducible refine Keeps.step (Keeps.ofSame (State.answer_same _ _) (by decide)) ?_
    with_reducible refine Keeps.step (State.keep_keeps _ _ _) ?_
    exact Keeps.refl _

theorem execDieOperatingPointWrite_keeps (x1 : Fin 8) (x2 : Nat) (x3 : State) :
    OutKeeps x3 (execDieOperatingPointWrite x1 x2 x3) := by
  unfold execDieOperatingPointWrite
  refine OutKeeps.next ?_
  with_reducible refine Keeps.step (State.writePoint_keeps _ _ _) ?_
  exact Keeps.refl _

theorem execVcoreRampStart_keeps (x1 : Fin 8) (x2 : State) :
    OutKeeps x2 (execVcoreRampStart x1 x2) :=
  OutKeeps.ofSame (execVcoreRampStart_same _ _) (by decide)

theorem execVcoreSettleCheck_keeps (x1 : Fin 8) (x2 : Bool) (x3 : State) :
    OutKeeps x3 (execVcoreSettleCheck x1 x2 x3) :=
  OutKeeps.ofSame (execVcoreSettleCheck_same _ _ _) (by decide)

theorem State.capCheck_keeps (x1 : State) :
    Keeps x1 (State.capCheck x1) := by
  unfold State.capCheck
  extract_lets v0 v1 v2 v3
  refine Keeps.ite ?_ ?_
  · exact Keeps.refl _
  · clear_value v3
    split
    · rename_i e4 e5
      with_reducible refine Keeps.step (State.stick_keeps _ _ _) ?_
      with_reducible refine Keeps.step (Keeps.ofSame (State.setPw_same _ _) (by decide)) ?_
      exact Keeps.refl _
    · rename_i e6
      refine Keeps.ite ?_ ?_
      · exact Keeps.refl _
      · with_reducible refine Keeps.step (State.stick_keeps _ _ _) ?_
        exact Keeps.refl _

theorem State.dieTrip_keeps (x1 : State) (x2 : Nat) :
    Keeps x1 (State.dieTrip x1 x2) := by
  unfold State.dieTrip
  extract_lets v0 v1 v2 v3 v4 v5 v6 v7 v8 v9 v10
  refine Keeps.have v1 ?_ fun h11 => ?_
  · with_reducible refine Keeps.step (State.discardDie_keeps _ _ _) ?_
    exact Keeps.refl _
  clear_value v1
  refine Keeps.have v2 ?_ fun h12 => ?_
  · with_reducible refine Keeps.step (State.dropSlices_keeps _ _) ?_
    with_reducible refine Keeps.step (Keeps.ofSame (State.clearCores_same _ _) (by decide)) ?_
    exact h11
  clear_value v2
  refine Keeps.have v4 ?_ fun h13 => ?_
  · with_reducible refine Keeps.step (Keeps.ofSame (State.setDie_same _ _ _) (by decide)) ?_
    exact h12
  clear_value v4
  refine Keeps.have v7 ?_ fun h14 => ?_
  · with_reducible refine Keeps.step (Keeps.ofSame (State.setThermal_same _ _ _) (by decide)) ?_
    exact h13
  clear_value v7
  refine Keeps.have v9 ?_ fun h15 => ?_
  · dsimp only [v9]
    with_reducible refine Keeps.record rfl ?_ ?_
    · exact Keeps.of_eq rfl rfl rfl rfl
    exact h14
  clear_value v9
  refine Keeps.have v10 ?_ fun h16 => ?_
  · with_reducible refine Keeps.step (State.trace_keeps _ _ _ _ _ _ _) ?_
    exact h15
  clear_value v10
  refine Keeps.ite ?_ ?_
  · exact Keeps.refl _
  · with_reducible refine Keeps.step (State.dropFresh_keeps _) ?_
    with_reducible refine Keeps.step (State.reportSite_keeps _ _) ?_
    with_reducible refine Keeps.step (State.bump_keeps _ _) ?_
    exact h16

theorem State.cold_keeps (s : State) : Keeps s s.cold := by
  have d : dictDflt keyOsc = 0 := by decide
  unfold State.cold
  refine ⟨fun h => ⟨?_, h.2⟩, fun h => h, ⟨rfl, fun h => h, CountsUp.refl _, CountsUp.refl _⟩⟩
  have := dictWf_put keyOsc (bits (s.reg keyOsc) 26 26 * 2 ^ 26) dictWf_nil
  rw [d] at this
  exact this

theorem State.faultOff_keeps (x1 : State) (x2 : FaultOff) :
    Keeps x1 (State.faultOff x1 x2) := by
  unfold State.faultOff
  refine Keeps.ite ?_ ?_
  · exact Keeps.refl _
  · extract_lets v0 v1
    refine Keeps.have v0 ?_ fun h2 => ?_
    · with_reducible refine Keeps.step (State.cold_keeps _) ?_
      exact Keeps.refl _
    clear_value v0
    refine Keeps.have v1 ?_ fun h3 => ?_
    · with_reducible refine Keeps.step (State.setReg_keeps _ _ _) ?_
      with_reducible refine Keeps.step (Keeps.ofSame (State.setPw_same _ _) (by decide)) ?_
      exact h2
    clear_value v1
    refine Keeps.ite ?_ ?_
    · with_reducible refine Keeps.step (State.setReg_keeps _ _ _) ?_
      exact h3
    · exact h3

theorem State.regionTrip_keeps (x1 : State) (x2 : Nat) :
    Keeps x1 (State.regionTrip x1 x2) := by
  unfold State.regionTrip
  refine Keeps.ite ?_ ?_
  · with_reducible refine Keeps.step (State.faultOff_keeps _ _) ?_
    exact Keeps.refl _
  · refine Keeps.ite ?_ ?_
    · exact Keeps.refl _
    · extract_lets v0 v1 v2 v3 v4
      refine Keeps.have v1 ?_ fun h5 => ?_
      · with_reducible refine Keeps.step (Keeps.ofSame (State.setThermal_same _ _ _) (by decide)) ?_
        exact Keeps.refl _
      clear_value v1
      refine Keeps.have v2 ?_ fun h6 => ?_
      · refine Keeps.ite ?_ ?_
        · with_reducible refine Keeps.step (State.startReset_keeps _ _) ?_
          exact h5
        · exact h5
      clear_value v2
      refine Keeps.have v3 ?_ fun h7 => ?_
      · with_reducible refine Keeps.step (Keeps.ofSame (State.siteRingMap_same _ _ _) (by decide)) ?_
        exact h6
      clear_value v3
      with_reducible refine Keeps.step (State.bump_keeps _ _) ?_
      with_reducible refine Keeps.step (Keeps.ofSame (State.setRegion_same _ _ _) (by decide)) ?_
      exact h7

theorem execHousekeepingMissed_keeps (x1 : List (Fin 8)) (x2 : Bool) (x3 : State) :
    OutKeeps x3 (execHousekeepingMissed x1 x2 x3) := by
  unfold execHousekeepingMissed
  extract_lets v0
  refine OutKeeps.have v0 ?_ fun h1 => ?_
  · refine Keeps.foldl ?_ fun q2 y3 h4 => ?_
    · exact Keeps.refl _
    · refine Keeps.ite ?_ ?_
      · with_reducible refine Keeps.step (State.dieTrip_keeps _ _) ?_
        exact h4
      · exact h4
  clear_value v0
  refine OutKeeps.next ?_
  refine Keeps.ite ?_ ?_
  · with_reducible refine Keeps.step (State.faultOff_keeps _ _) ?_
    exact h1
  · exact h1

theorem execDieRestart_keeps (x1 : Fin 8) (x2 : State) :
    OutKeeps x2 (execDieRestart x1 x2) := by
  unfold execDieRestart
  extract_lets v0 v1 v2 v3 v4 v5 v6
  refine OutKeeps.have v3 ?_ fun h7 => ?_
  · with_reducible refine Keeps.step (Keeps.ofSame (State.setThermal_same _ _ _) (by decide)) ?_
    exact Keeps.refl _
  clear_value v3
  refine OutKeeps.have v5 ?_ fun h8 => ?_
  · with_reducible refine Keeps.step (Keeps.ofSame (State.setDie_same _ _ _) (by decide)) ?_
    exact h7
  clear_value v5
  refine OutKeeps.have v6 ?_ fun h9 => ?_
  · dsimp only [v6]
    with_reducible refine Keeps.record rfl ?_ ?_
    · exact Keeps.of_eq rfl rfl rfl rfl
    exact h8
  clear_value v6
  refine OutKeeps.ite ?_ ?_
  · refine OutKeeps.next ?_
    exact Keeps.refl _
  · refine OutKeeps.next ?_
    with_reducible refine Keeps.step (State.reportSite_keeps _ _) ?_
    exact h9

theorem execRingRegionRestart_keeps (x1 : Fin 12) (x2 : State) :
    OutKeeps x2 (execRingRegionRestart x1 x2) := by
  unfold execRingRegionRestart
  extract_lets v0 v1 v2 v3 v4
  refine OutKeeps.have v1 ?_ fun h5 => ?_
  · with_reducible refine Keeps.step (Keeps.ofSame (State.setThermal_same _ _ _) (by decide)) ?_
    exact Keeps.refl _
  clear_value v1
  refine OutKeeps.have v3 ?_ fun h6 => ?_
  · with_reducible refine Keeps.step (Keeps.ofSame (State.setRegion_same _ _ _) (by decide)) ?_
    exact h5
  clear_value v3
  refine OutKeeps.ite ?_ ?_
  · refine OutKeeps.next ?_
    exact Keeps.refl _
  · refine OutKeeps.next ?_
    refine Keeps.ite ?_ ?_
    · with_reducible refine Keeps.step (State.lockRegion_keeps _ _) ?_
      exact h6
    · with_reducible refine Keeps.step (Keeps.ofSame (State.setRegion_same _ _ _) (by decide)) ?_
      exact h6

theorem execThermalTripClear_keeps (x1 : Nat) (x2 : State) :
    OutKeeps x2 (execThermalTripClear x1 x2) :=
  OutKeeps.ofSame (execThermalTripClear_same _ _) (by decide)

theorem execClockFault_keeps (x1 : State) :
    OutKeeps x1 (execClockFault x1) := by
  unfold execClockFault
  extract_lets v0
  refine OutKeeps.next ?_
  with_reducible refine when_keeps ?_ ?_
  · with_reducible refine Keeps.step (State.faultOff_keeps _ _) ?_
    with_reducible refine Keeps.step (State.stick_keeps _ _ _) ?_
    exact Keeps.refl _
  · exact Keeps.refl _

theorem execInputLow_keeps (x1 : State) :
    OutKeeps x1 (execInputLow x1) := by
  unfold execInputLow
  refine OutKeeps.next ?_
  with_reducible refine when_keeps ?_ ?_
  · with_reducible refine Keeps.step (State.stick_keeps _ _ _) ?_
    with_reducible refine Keeps.step (Keeps.ofSame (State.setPw_same _ _) (by decide)) ?_
    exact Keeps.refl _
  · exact Keeps.refl _

theorem execInputUndervoltage_keeps (x1 : State) :
    OutKeeps x1 (execInputUndervoltage x1) := by
  unfold execInputUndervoltage
  refine OutKeeps.next ?_
  with_reducible refine Keeps.step (State.faultOff_keeps _ _) ?_
  exact Keeps.refl _

theorem execInputOvervoltage_keeps (x1 : State) :
    OutKeeps x1 (execInputOvervoltage x1) := by
  unfold execInputOvervoltage
  refine OutKeeps.next ?_
  with_reducible refine Keeps.step (State.faultOff_keeps _ _) ?_
  exact Keeps.refl _

theorem execRailFault_keeps (x1 : State) :
    OutKeeps x1 (execRailFault x1) := by
  unfold execRailFault
  refine OutKeeps.next ?_
  with_reducible refine Keeps.step (State.faultOff_keeps _ _) ?_
  exact Keeps.refl _

theorem State.startBringUp_keeps (x1 : State) :
    Keeps x1 (State.startBringUp x1) := by
  unfold State.startBringUp
  with_reducible refine Keeps.step (State.setReg_keeps _ _ _) ?_
  with_reducible refine Keeps.step (State.cold_keeps _) ?_
  exact Keeps.refl _

theorem execInputRestored_keeps (x1 : State) :
    OutKeeps x1 (execInputRestored x1) := by
  unfold execInputRestored
  refine OutKeeps.ite ?_ ?_
  · refine OutKeeps.next ?_
    with_reducible refine when_keeps ?_ ?_
    · with_reducible refine Keeps.step (State.startBringUp_keeps _) ?_
      exact Keeps.refl _
    · exact Keeps.refl _
  · refine OutKeeps.next ?_
    with_reducible refine Keeps.step (Keeps.ofSame (State.setPw_same _ _) (by decide)) ?_
    exact Keeps.refl _

theorem execFaultOffRestart_keeps (x1 : State) :
    OutKeeps x1 (execFaultOffRestart x1) := by
  unfold execFaultOffRestart
  refine OutKeeps.next ?_
  with_reducible refine when_keeps ?_ ?_
  · with_reducible refine Keeps.step (State.startBringUp_keeps _) ?_
    exact Keeps.refl _
  · exact Keeps.refl _

theorem execPowerApplied_keeps (x1 : State) :
    OutKeeps x1 (execPowerApplied x1) := by
  unfold execPowerApplied
  refine OutKeeps.next ?_
  with_reducible refine when_keeps ?_ ?_
  · with_reducible refine Keeps.step (State.startBringUp_keeps _) ?_
    exact Keeps.refl _
  · exact Keeps.refl _

theorem State.retentionStop_keeps (x1 : State) :
    Keeps x1 (State.retentionStop x1) := by
  unfold State.retentionStop
  refine Keeps.ite ?_ ?_
  · exact Keeps.refl _
  · extract_lets v0
    refine Keeps.have v0 ?_ fun h1 => ?_
    · with_reducible refine Keeps.step (Keeps.ofSame (State.saveForRetention_same _) (by decide)) ?_
      with_reducible refine Keeps.step (Keeps.ofSame (State.setPw_same _ _) (by decide)) ?_
      with_reducible refine Keeps.record rfl ?_ ?_
      · exact Keeps.of_eq rfl rfl rfl rfl
      exact Keeps.refl _
    clear_value v0
    refine Keeps.foldl ?_ fun q2 y3 h4 => ?_
    · exact h1
    · refine Keeps.ite ?_ ?_
      · with_reducible refine Keeps.step (State.rampOff_keeps _ _) ?_
        exact h4
      · exact h4

theorem State.dropSessions_keeps (x1 : State) :
    Keeps x1 (State.dropSessions x1) := by
  unfold State.dropSessions
  with_reducible refine Keeps.step (State.setReg_keeps _ _ _) ?_
  with_reducible refine Keeps.record rfl ?_ ?_
  · exact Keeps.of_eq rfl rfl rfl rfl
  exact Keeps.refl _

theorem State.stopUpdate_keeps (x1 : State) :
    Keeps x1 (State.stopUpdate x1) := by
  unfold State.stopUpdate
  extract_lets v0 v1
  refine Keeps.ite ?_ ?_
  · with_reducible refine Keeps.step (Keeps.ofSame (State.tickFree_same _) (by decide)) ?_
    with_reducible refine Keeps.step (State.setReg_keeps _ _ _) ?_
    with_reducible refine Keeps.record rfl ?_ ?_
    · exact Keeps.secUpd rfl rfl rfl (SecKeeps.of_eq rfl rfl rfl rfl)
    exact Keeps.refl _
  · exact Keeps.refl _

theorem State.writePowerCommand_keeps (x1 : State) (x2 : Nat) :
    Keeps x1 (State.writePowerCommand x1 x2) := by
  unfold State.writePowerCommand
  extract_lets v0 v1 v2 v3 v4 v5 v6
  refine Keeps.have v1 ?_ fun h7 => ?_
  · with_reducible refine Keeps.step (State.stopUpdate_keeps _) ?_
    with_reducible refine Keeps.step (State.dropSessions_keeps _) ?_
    with_reducible refine Keeps.step (State.setReg_keeps _ _ _) ?_
    with_reducible refine Keeps.step (State.setReg_keeps _ _ _) ?_
    with_reducible refine Keeps.step (Keeps.ofSame (State.answer_same _ _) (by decide)) ?_
    exact Keeps.refl _
  clear_value v1
  refine Keeps.have v2 ?_ fun h8 => ?_
  · with_reducible refine Keeps.step (Keeps.ofSame (State.setPw_same _ _) (by decide)) ?_
    exact h7
  clear_value v2
  refine Keeps.have v3 ?_ fun h9 => ?_
  · with_reducible refine Keeps.step (State.setReg_keeps _ _ _) ?_
    with_reducible refine Keeps.step (State.setReg_keeps _ _ _) ?_
    with_reducible refine Keeps.step (Keeps.ofSame (State.answer_same _ _) (by decide)) ?_
    exact Keeps.refl _
  clear_value v3
  refine Keeps.have v4 ?_ fun h10 => ?_
  · refine Keeps.foldl ?_ fun q11 y12 h13 => ?_
    · exact h9
    · extract_lets v14
      refine Keeps.ite ?_ ?_
      · exact h13
      · with_reducible refine Keeps.step (Keeps.ofSame (State.clearCores_same _ _) (by decide)) ?_
        with_reducible refine Keeps.step (Keeps.ofSame (State.setDie_same _ _ _) (by decide)) ?_
        exact h13
  clear_value v4
  refine Keeps.have v5 ?_ fun h15 => ?_
  · dsimp only [v5]
    with_reducible refine Keeps.record rfl ?_ ?_
    · exact Keeps.of_eq rfl rfl rfl rfl
    exact h10
  clear_value v5
  refine Keeps.have v6 ?_ fun h16 => ?_
  · dsimp only [v6]
    with_reducible refine Keeps.record rfl ?_ ?_
    · exact Keeps.of_eq rfl rfl rfl rfl
    exact h15
  clear_value v6
  refine Keeps.ite ?_ ?_
  · with_reducible refine Keeps.step (Keeps.ofSame (State.answer_same _ _) (by decide)) ?_
    exact Keeps.refl _
  · refine Keeps.ite ?_ ?_
    · refine Keeps.ite ?_ ?_
      · exact h8
      · with_reducible refine Keeps.step (State.retentionStop_keeps _) ?_
        exact h8
    · refine Keeps.foldl ?_ fun q17 y18 h19 => ?_
      · exact h16
      · extract_lets v20
        refine Keeps.ite ?_ ?_
        · with_reducible refine Keeps.step (State.laserPut_keeps _ _ _) ?_
          exact h19
        · exact h19

theorem execEnterRetention_keeps (x1 : State) :
    OutKeeps x1 (execEnterRetention x1) := by
  unfold execEnterRetention
  refine OutKeeps.next ?_
  with_reducible refine Keeps.step (State.writePowerCommand_keeps _ _) ?_
  exact Keeps.refl _

theorem execWake_keeps (x1 : State) :
    OutKeeps x1 (execWake x1) := by
  unfold execWake
  refine OutKeeps.next ?_
  with_reducible refine Keeps.step (State.writePowerCommand_keeps _ _) ?_
  exact Keeps.refl _

theorem execRetentionEntryEnd_keeps (x1 : State) :
    OutKeeps x1 (execRetentionEntryEnd x1) := by
  unfold execRetentionEntryEnd
  refine OutKeeps.ite ?_ ?_
  · refine OutKeeps.next ?_
    exact Keeps.refl _
  · extract_lets v0 v1 v2 v3 v4 v5
    refine OutKeeps.have v0 ?_ fun h6 => ?_
    · refine Keeps.foldl ?_ fun q7 y8 h9 => ?_
      · exact Keeps.refl _
      · refine Keeps.ite ?_ ?_
        · with_reducible refine Keeps.step (State.laserPut_keeps _ _ _) ?_
          exact h9
        · exact h9
    clear_value v0
    refine OutKeeps.have v1 ?_ fun h10 => ?_
    · with_reducible refine Keeps.step (Keeps.ofSame (State.saveForRetention_same _) (by decide)) ?_
      with_reducible refine Keeps.step (State.dropSlices_keeps _ _) ?_
      with_reducible refine Keeps.step (State.allDark_keeps _) ?_
      exact h6
    clear_value v1
    refine OutKeeps.have v2 ?_ fun h11 => ?_
    · refine Keeps.foldl ?_ fun q12 y13 h14 => ?_
      · exact h10
      · refine Keeps.ite ?_ ?_
        · with_reducible refine Keeps.step (Keeps.ofSame (State.setStore_same _ _ _) (by decide)) ?_
          exact h14
        · exact h14
    clear_value v2
    refine OutKeeps.have v3 ?_ fun h15 => ?_
    · dsimp only [v3]
      with_reducible refine Keeps.record rfl ?_ ?_
      · exact Keeps.of_eq rfl rfl rfl rfl
      exact h11
    clear_value v3
    refine OutKeeps.have v4 ?_ fun h16 => ?_
    · refine Keeps.foldl ?_ fun q17 y18 h19 => ?_
      · exact h15
      · with_reducible refine Keeps.step (Keeps.ofSame (State.setDie_same _ _ _) (by decide)) ?_
        exact h19
    clear_value v4
    refine OutKeeps.have v5 ?_ fun h20 => ?_
    · dsimp only [v5]
      with_reducible refine Keeps.record rfl ?_ ?_
      · exact Keeps.of_eq rfl rfl rfl rfl
      exact h16
    clear_value v5
    refine OutKeeps.next ?_
    with_reducible refine Keeps.step (State.setReg_keeps _ _ _) ?_
    with_reducible refine Keeps.step (State.setReg_keeps _ _ _) ?_
    exact h20

theorem execWakeEnd_keeps (x1 : State) :
    OutKeeps x1 (execWakeEnd x1) := by
  unfold execWakeEnd
  extract_lets v0
  refine OutKeeps.next ?_
  with_reducible refine when_keeps ?_ ?_
  · with_reducible refine Keeps.step (State.feedAll_keeps _) ?_
    with_reducible refine Keeps.step (State.setReg_keeps _ _ _) ?_
    with_reducible refine Keeps.step (State.setReg_keeps _ _ _) ?_
    with_reducible refine Keeps.record rfl ?_ ?_
    · exact Keeps.of_eq rfl rfl rfl rfl
    exact Keeps.refl _
  · exact Keeps.refl _

end Sys2Proof.Machine
end

