-- ==== Sys2Proof/Laws/KeepRowMoves.lean ====
section
/-! SUPPORT. What the functions of Machine/RowMoves.lean keep: the dictionary and the store in canonical form, the field map
bounded, the fuses, the seal and the rollback counters. -/

namespace Sys2Proof.Machine

open Sys2Proof

theorem State.loseCore_keeps (x1 : State) (x2 x3 : Nat) :
    Keeps x1 (State.loseCore x1 x2 x3) := by
  unfold State.loseCore
  split
  · rename_i e0 e1 e2 e3
    with_reducible refine Keeps.step (State.coreFault_keeps _ _ _ _ _ _ _ _) ?_
    exact Keeps.refl _
  · rename_i e4 e5
    exact Keeps.refl _

theorem State.mapOutCore_keeps (x1 : State) (x2 : Nat) :
    Keeps x1 (State.mapOutCore x1 x2) := by
  unfold State.mapOutCore
  extract_lets v0 v1 v2 v3 v4 v5 v6
  refine Keeps.have v1 ?_ fun h7 => ?_
  · with_reducible refine Keeps.step (State.dropSlices_keeps _ _) ?_
    with_reducible refine Keeps.step (State.bump_keeps _ _) ?_
    with_reducible refine Keeps.step (State.mapRecord_keeps _ _) ?_
    exact Keeps.refl _
  clear_value v1
  refine Keeps.have v2 ?_ fun h8 => ?_
  · with_reducible refine Keeps.step (State.loseCore_keeps _ _ _) ?_
    exact h7
  clear_value v2
  refine Keeps.have v4 ?_ fun h9 => ?_
  · with_reducible refine Keeps.step (Keeps.ofSame (State.setCore_same _ _ _) (by decide)) ?_
    exact h8
  clear_value v4
  refine Keeps.ite ?_ ?_
  · with_reducible refine Keeps.step (State.discardDie_keeps _ _ _) ?_
    with_reducible refine Keeps.step (Keeps.ofSame (State.setDie_same _ _ _) (by decide)) ?_
    exact h9
  · exact h9

theorem State.dropSpare_keeps (x1 : State) (x2 x3 : Nat) :
    Keeps x1 (State.dropSpare x1 x2 x3) := by
  unfold State.dropSpare
  extract_lets v0
  with_reducible refine Keeps.step (Keeps.ofSame (State.setCore_same _ _ _) (by decide)) ?_
  with_reducible refine Keeps.step (State.mapRecord_keeps _ _) ?_
  exact Keeps.refl _

theorem State.mapOutBank_keeps (x1 : State) (x2 x3 : Nat) :
    Keeps x1 (State.mapOutBank x1 x2 x3) := by
  unfold State.mapOutBank
  extract_lets v0
  split
  · rename_i e1 e2
    exact Keeps.refl _
  · rename_i e3 e4 e5
    split
    · rename_i e6 e7
      with_reducible refine Keeps.step (State.mapOutCore_keeps _ _) ?_
      exact Keeps.refl _
    · rename_i e8 e9 e10 e11
      with_reducible refine Keeps.step (State.bump_keeps _ _) ?_
      with_reducible refine Keeps.step (Keeps.ofSame (State.setCore_same _ _ _) (by decide)) ?_
      with_reducible refine Keeps.step (State.mapRecord_keeps _ _) ?_
      exact Keeps.refl _

theorem State.ladder_keeps (x1 : State) (x2 : Nat) (x3 : RungFailure) :
    Keeps x1 (State.ladder x1 x2 x3) := by
  unfold State.ladder
  extract_lets v0
  refine Keeps.ite ?_ ?_
  · exact Keeps.refl _
  · refine Keeps.ite ?_ ?_
    · split
      · rename_i e1 e2
        with_reducible refine Keeps.step (State.dropSpare_keeps _ _ _) ?_
        exact Keeps.refl _
      · rename_i e3 e4
        exact Keeps.refl _
    · refine Keeps.ite ?_ ?_
      · refine Keeps.ite ?_ ?_
        · exact Keeps.refl _
        · with_reducible refine Keeps.step (Keeps.ofSame (State.setCore_same _ _ _) (by decide)) ?_
          exact Keeps.refl _
      · split
        · rename_i e5 e6 e7
          extract_lets v8 v9 v10
          refine Keeps.ite ?_ ?_
          · exact Keeps.refl _
          · refine Keeps.ite ?_ ?_
            · with_reducible refine Keeps.step (State.bump_keeps _ _) ?_
              with_reducible refine Keeps.step (Keeps.ofSame (State.setCore_same _ _ _) (by decide)) ?_
              with_reducible refine Keeps.step (State.mapRecord_keeps _ _) ?_
              exact Keeps.refl _
            · refine Keeps.ite ?_ ?_
              · with_reducible refine Keeps.step (State.bump_keeps _ _) ?_
                with_reducible refine Keeps.step (Keeps.ofSame (State.setCore_same _ _ _) (by decide)) ?_
                with_reducible refine Keeps.step (State.mapRecord_keeps _ _) ?_
                exact Keeps.refl _
              · split
                · rename_i e11 e12 e13
                  with_reducible refine Keeps.step (State.mapOutBank_keeps _ _ _) ?_
                  exact Keeps.refl _
                · rename_i e14 e15
                  with_reducible refine Keeps.step (State.mapOutCore_keeps _ _) ?_
                  exact Keeps.refl _
        · rename_i e16 e17
          with_reducible refine Keeps.step (State.mapOutBank_keeps _ _ _) ?_
          exact Keeps.refl _
        · rename_i e18
          with_reducible refine Keeps.step (State.mapOutCore_keeps _ _) ?_
          exact Keeps.refl _

theorem State.moveOne_keeps (x1 : State) (x2 : Nat) (x3 : Grant) (x4 : QInstr) (x5 : Bool) (x6 x7 : Nat) (x8 : List RowError) :
    Keeps x1 (State.moveOne x1 x2 x3 x4 x5 x6 x7 x8).1 := by
  unfold State.moveOne
  extract_lets v0 v1 v2
  refine Keeps.iteFst ?_ ?_
  · dsimp only
    with_reducible refine Keeps.step (State.coreFault_keeps _ _ _ _ _ _ _ _) ?_
    exact Keeps.refl _
  · refine Keeps.iteFst ?_ ?_
    · dsimp only
      with_reducible refine Keeps.step (State.coreFault_keeps _ _ _ _ _ _ _ _) ?_
      with_reducible refine Keeps.step (State.bump_keeps _ _) ?_
      exact Keeps.refl _
    · split
      rename_i e3 e4 e5 e6
      extract_lets v7 v8 v9
      refine Keeps.have v7 ?_ fun h10 => ?_
      · with_reducible refine Keeps.step (Keeps.ofSame (State.setCore_same _ _ _) (by decide)) ?_
        exact Keeps.refl _
      clear_value v7
      refine Keeps.have v8 ?_ fun h11 => ?_
      · refine Keeps.ite ?_ ?_
        · with_reducible refine Keeps.step (State.coreFault_keeps _ _ _ _ _ _ _ _) ?_
          exact h10
        · exact h10
      clear_value v8
      refine Keeps.have v9 ?_ fun h12 => ?_
      · refine Keeps.foldl ?_ fun q13 y14 h15 => ?_
        · exact h11
        · with_reducible refine Keeps.step (State.ladder_keeps _ _ _) ?_
          exact h15
      clear_value v9
      dsimp only
      exact h12

theorem State.moveRows_keeps (x1 : State) (x2 : Nat) (x3 : Grant) (x4 : QInstr) (x5 : Bool) (x6 : List RowError) (x7 : List (Nat × Nat)) (x8 : List ((Nat × Nat) × Nat)) :
    Keeps x1 (State.moveRows x1 x2 x3 x4 x5 x6 x7 x8).1 := by
  induction x8 generalizing x1 x7 with
  | nil => exact Keeps.refl _
  | cons e r ih =>
    obtain ⟨⟨a, scr⟩, i⟩ := e
    unfold State.moveRows
    split
    · exact ih _ _
    · dsimp only
      split
      · exact Keeps.trans (State.moveOne_keeps _ _ _ _ _ _ _ _) (ih _ _)
      · exact State.moveOne_keeps _ _ _ _ _ _ _ _

theorem State.portRows_keeps (x1 : State) (x2 : Nat) (x3 : Grant) (x4 : QInstr) (x5 : Nat) (x6 : Bool) (x7 : List RowError) (x8 : List ((Nat × Nat) × Nat)) :
    Keeps x1 (State.portRows x1 x2 x3 x4 x5 x6 x7 x8) := by
  unfold State.portRows
  split
  · rename_i e0 e1
    exact Keeps.refl _
  · rename_i e2 e3 e4
    extract_lets v5
    split
    rename_i e6 e7 e8 e9
    split
    · rename_i e10 e11
      refine Keeps.fstOf e9 ?_
      with_reducible refine Keeps.step (State.moveRows_keeps _ _ _ _ _ _ _ _) ?_
      exact Keeps.refl _
    · rename_i e12 e13 e14
      with_reducible refine Keeps.step (Keeps.ofSame (State.setRun_same _ _ _) (by decide)) ?_
      refine Keeps.fstOf e9 ?_
      with_reducible refine Keeps.step (State.moveRows_keeps _ _ _ _ _ _ _ _) ?_
      exact Keeps.refl _

theorem State.rowMove_keeps (x1 : State) (x2 x3 x4 : Nat) (x5 : Bool) (x6 : List RowError) :
    Keeps x1 (State.rowMove x1 x2 x3 x4 x5 x6) := by
  unfold State.rowMove
  extract_lets v0
  refine Keeps.have v0 ?_ fun h1 => ?_
  · with_reducible refine State.startUnit_keeps ?_ ?_
    · exact Keeps.refl _
    · intro y2 y3 y4 y5 h6
      with_reducible refine Keeps.step (State.portRows_keeps _ _ _ _ _ _ _ _) ?_
      exact h6
  clear_value v0
  split
  · rename_i e7 e8
    exact Keeps.refl _
  · rename_i e9 e10 e11 e12 e13
    split
    · rename_i e14 e15 e16 e17
      with_reducible refine Keeps.step (State.portRows_keeps _ _ _ _ _ _ _ _) ?_
      exact Keeps.refl _
    · rename_i e18 e19
      exact h1

theorem execRowin_keeps (x1 : Fin 8) (x2 : Fin 48) (x3 : List RowError) (x4 : State) :
    OutKeeps x4 (execRowin x1 x2 x3 x4) := by
  unfold execRowin
  refine OutKeeps.next ?_
  with_reducible refine Keeps.step (State.rowMove_keeps _ _ _ _ _ _) ?_
  exact Keeps.refl _

theorem execRowout_keeps (x1 : Fin 8) (x2 : Fin 48) (x3 : List RowError) (x4 : State) :
    OutKeeps x4 (execRowout x1 x2 x3 x4) := by
  unfold execRowout
  refine OutKeeps.next ?_
  with_reducible refine Keeps.step (State.rowMove_keeps _ _ _ _ _ _) ?_
  exact Keeps.refl _

theorem execRowinX_keeps (x1 : Fin 8) (x2 : Fin 48) (x3 : List RowError) (x4 : State) :
    OutKeeps x4 (execRowinX x1 x2 x3 x4) := by
  unfold execRowinX
  refine OutKeeps.next ?_
  with_reducible refine Keeps.step (State.rowMove_keeps _ _ _ _ _ _) ?_
  exact Keeps.refl _

theorem execRowoutX_keeps (x1 : Fin 8) (x2 : Fin 48) (x3 : List RowError) (x4 : State) :
    OutKeeps x4 (execRowoutX x1 x2 x3 x4) := by
  unfold execRowoutX
  refine OutKeeps.next ?_
  with_reducible refine Keeps.step (State.rowMove_keeps _ _ _ _ _ _) ?_
  exact Keeps.refl _

theorem execRowPortPauseEnd_keeps (x1 : Fin 8) (x2 : Fin 52) (x3 : State) :
    OutKeeps x3 (execRowPortPauseEnd x1 x2 x3) :=
  OutKeeps.ofSame (execRowPortPauseEnd_same _ _ _) (by decide)

theorem execBankCopyEnd_keeps (x1 : Fin 8) (x2 : Fin 52) (x3 : List Nat) (x4 : State) :
    OutKeeps x4 (execBankCopyEnd x1 x2 x3 x4) := by
  unfold execBankCopyEnd
  extract_lets v0 v1 v2
  split
  · rename_i e3 e4
    refine OutKeeps.next ?_
    exact Keeps.refl _
  · rename_i e5 e6 e7 e8 e9
    extract_lets v10 v11 v12
    refine OutKeeps.next ?_
    refine Keeps.foldl ?_ fun q13 y14 h15 => ?_
    · with_reducible refine Keeps.step (Keeps.ofSame (State.setCore_same _ _ _) (by decide)) ?_
      exact Keeps.refl _
    · with_reducible refine Keeps.step (State.ladder_keeps _ _ _) ?_
      exact h15

end Sys2Proof.Machine
end

