-- ==== Sys2Proof/Laws/KeepTest.lean ====
section
/-! SUPPORT. What the functions of Machine/Test.lean keep: the dictionary and the store in canonical form, the field map
bounded, the fuses, the seal and the rollback counters. -/

namespace Sys2Proof.Machine

open Sys2Proof

theorem execBistSliceStart_keeps (x1 : BistUnit) (x2 : State) :
    OutKeeps x2 (execBistSliceStart x1 x2) :=
  OutKeeps.ofSame (execBistSliceStart_same _ _) (by decide)

theorem State.laneOut_keeps (x1 : State) (x2 x3 : Nat) :
    Keeps x1 (State.laneOut x1 x2 x3) := by
  unfold State.laneOut
  refine Keeps.foldl ?_ fun q0 y1 h2 => ?_
  · exact Keeps.refl _
  · extract_lets v3
    refine Keeps.ite ?_ ?_
    · exact h2
    · with_reducible refine Keeps.step (Keeps.ofSame (State.markStanding_same _ _ _ _ _) (by decide)) ?_
      with_reducible refine Keeps.step (State.mapRecord_keeps _ _) ?_
      with_reducible refine Keeps.step (State.bump_keeps _ _) ?_
      with_reducible refine Keeps.step (Keeps.ofSame (State.voidLease_same _ _ _ _) (by decide)) ?_
      with_reducible refine Keeps.step (Keeps.ofSame (State.setPath_same _ _ _ _ _) (by decide)) ?_
      exact h2

theorem State.bistFail_keeps (x1 : State) (x2 : BistUnit) :
    Keeps x1 (State.bistFail x1 x2) := by
  unfold State.bistFail
  extract_lets v0
  refine Keeps.have v0 ?_ fun h1 => ?_
  · with_reducible refine Keeps.step (State.bump_keeps _ _) ?_
    exact Keeps.refl _
  clear_value v0
  split
  · rename_i e2 e3 e4
    refine Keeps.ite ?_ ?_
    · exact h1
    · with_reducible refine Keeps.step (State.mapOutCore_keeps _ _) ?_
      exact h1
  · rename_i e5 e6 e7 e8
    with_reducible refine Keeps.step (State.ladder_keeps _ _ _) ?_
    exact h1
  · rename_i e9 e10 e11
    with_reducible refine Keeps.step (State.laneOut_keeps _ _ _) ?_
    exact h1
  · rename_i e12 e13 e14
    with_reducible refine Keeps.step (State.setReg_keeps _ _ _) ?_
    exact h1

theorem State.bistLeave_keeps (x1 : State) (x2 : BistUnit) :
    Keeps x1 (State.bistLeave x1 x2) := by
  unfold State.bistLeave
  extract_lets v0
  refine Keeps.have v0 ?_ fun h1 => ?_
  · with_reducible refine Keeps.step (Keeps.ofSame (State.freeUnit_same _ _) (by decide)) ?_
    exact Keeps.refl _
  clear_value v0
  split
  · rename_i e2 e3 e4
    with_reducible refine Keeps.step (Keeps.ofSame (State.setCore_same _ _ _) (by decide)) ?_
    exact h1
  · rename_i e5 e6 e7
    with_reducible refine Keeps.step (State.calSettled_keeps _ _) ?_
    with_reducible refine Keeps.step (Keeps.ofSame (State.applyTrims_same _ _ _) (by decide)) ?_
    with_reducible refine Keeps.step (Keeps.ofSame (State.setLane_same _ _ _ _) (by decide)) ?_
    exact h1
  · rename_i e8 e9 e10
    exact h1

theorem execBistSliceEnd_keeps (x1 : BistUnit) (x2 : Bool) (x3 : State) :
    OutKeeps x3 (execBistSliceEnd x1 x2 x3) := by
  unfold execBistSliceEnd
  extract_lets v0 v1 v2 v3 v4 v5
  refine OutKeeps.have v1 ?_ fun h6 => ?_
  · with_reducible refine Keeps.step (State.bump_keeps _ _) ?_
    exact Keeps.refl _
  clear_value v1
  refine OutKeeps.have v5 ?_ fun h7 => ?_
  · with_reducible refine Keeps.step (State.bistLeave_keeps _ _) ?_
    with_reducible refine Keeps.record rfl ?_ ?_
    · exact Keeps.of_eq rfl rfl rfl rfl
    exact h6
  clear_value v5
  split
  · rename_i e8 e9
    refine OutKeeps.next ?_
    exact Keeps.refl _
  · rename_i e10 e11 e12
    refine OutKeeps.ite ?_ ?_
    · refine OutKeeps.next ?_
      exact Keeps.refl _
    · refine OutKeeps.ite ?_ ?_
      · refine OutKeeps.next ?_
        with_reducible refine Keeps.record rfl ?_ ?_
        · exact Keeps.of_eq rfl rfl rfl rfl
        exact h6
      · refine OutKeeps.next ?_
        refine Keeps.ite ?_ ?_
        · exact h7
        · with_reducible refine Keeps.step (State.bistFail_keeps _ _) ?_
          exact h7

theorem State.writeDieBist_keeps (x1 : State) (x2 : Nat) :
    Keeps x1 (State.writeDieBist x1 x2) := by
  unfold State.writeDieBist
  extract_lets v0 v1 v2
  refine Keeps.have v1 ?_ fun h3 => ?_
  · with_reducible refine Keeps.step (Keeps.ofSame (State.answer_same _ _) (by decide)) ?_
    exact Keeps.refl _
  clear_value v1
  split
  · rename_i e4 e5 e6
    refine Keeps.ite ?_ ?_
    · extract_lets v7
      with_reducible refine Keeps.step (State.setReg_keeps _ _ _) ?_
      with_reducible refine Keeps.record rfl ?_ ?_
      · exact Keeps.of_eq rfl rfl rfl rfl
      exact h3
    · exact h3
  · rename_i e8 e9
    exact h3

theorem execDieBist_keeps (x1 : Nat) (x2 : State) :
    OutKeeps x2 (execDieBist x1 x2) := by
  unfold execDieBist
  refine OutKeeps.next ?_
  with_reducible refine Keeps.step (State.writeDieBist_keeps _ _) ?_
  exact Keeps.refl _

theorem execDieBistEnd_keeps (x1 : Fin 8) (x2 : List BistUnit) (x3 : List (Fin 52)) (x4 : State) :
    OutKeeps x4 (execDieBistEnd x1 x2 x3 x4) := by
  unfold execDieBistEnd
  extract_lets v0 v1 v2 v3 v4 v5 v6 v7 v8 v9 v10
  refine OutKeeps.have v3 ?_ fun h11 => ?_
  · refine Keeps.foldl ?_ fun q12 y13 h14 => ?_
    · exact Keeps.refl _
    · with_reducible refine Keeps.step (State.bistFail_keeps _ _) ?_
      exact h14
  clear_value v3
  refine OutKeeps.have v4 ?_ fun h15 => ?_
  · refine Keeps.foldl ?_ fun q16 y17 h18 => ?_
    · exact h11
    · with_reducible refine Keeps.step (State.setReg_keeps _ _ _) ?_
      exact h18
  clear_value v4
  refine OutKeeps.have v5 ?_ fun h19 => ?_
  · with_reducible refine Keeps.step (State.addReg_keeps _ _ _) ?_
    exact h15
  clear_value v5
  refine OutKeeps.have v9 ?_ fun h20 => ?_
  · dsimp only [v9]
    with_reducible refine Keeps.record rfl ?_ ?_
    · exact Keeps.of_eq rfl rfl rfl rfl
    exact h19
  clear_value v9
  refine OutKeeps.have v10 ?_ fun h21 => ?_
  · refine Keeps.ite ?_ ?_
    · with_reducible refine Keeps.step (State.setReg_keeps _ _ _) ?_
      exact h20
    · exact h20
  clear_value v10
  refine OutKeeps.ite ?_ ?_
  · refine OutKeeps.next ?_
    exact Keeps.refl _
  · refine OutKeeps.next ?_
    refine Keeps.ite ?_ ?_
    · with_reducible refine Keeps.step (Keeps.ofSame (State.setPair_same _ _) (by decide)) ?_
      exact h21
    · exact h21

theorem execTestPortInstruction_keeps (x1 : TapInstr) (x2 : State) :
    OutKeeps x2 (execTestPortInstruction x1 x2) :=
  OutKeeps.ofSame (execTestPortInstruction_same _ _) (by decide)

theorem State.writeTrace_keeps (x1 : State) (x2 : Nat) :
    Keeps x1 (State.writeTrace x1 x2) := by
  unfold State.writeTrace
  refine Keeps.ite ?_ ?_
  · with_reducible refine Keeps.step (Keeps.ofSame (State.answer_same _ _) (by decide)) ?_
    exact Keeps.refl _
  · extract_lets v0 v1 v2 v3
    refine Keeps.have v1 ?_ fun h4 => ?_
    · with_reducible refine Keeps.step (Keeps.ofSame (State.answer_same _ _) (by decide)) ?_
      with_reducible refine Keeps.step (State.keep_keeps _ _ _) ?_
      exact Keeps.refl _
    clear_value v1
    refine Keeps.have v3 ?_ fun h5 => ?_
    · dsimp only [v3]
      with_reducible refine Keeps.record rfl ?_ ?_
      · exact Keeps.of_eq rfl rfl rfl rfl
      exact h4
    clear_value v3
    refine Keeps.ite ?_ ?_
    · refine Keeps.foldl ?_ fun q6 y7 h8 => ?_
      · exact h5
      · with_reducible refine Keeps.step (State.setReg_keeps _ _ _) ?_
        exact h8
    · exact h4

theorem execTraceControlWrite_keeps (x1 : Nat) (x2 : State) :
    OutKeeps x2 (execTraceControlWrite x1 x2) := by
  unfold execTraceControlWrite
  refine OutKeeps.next ?_
  with_reducible refine Keeps.step (State.writeTrace_keeps _ _) ?_
  exact Keeps.refl _

theorem execTraceBlockDrain_keeps (x1 : Fin 12) (x2 : State) :
    OutKeeps x2 (execTraceBlockDrain x1 x2) := by
  unfold execTraceBlockDrain
  extract_lets v0 v1 v2 v3 v4 v5
  refine OutKeeps.ite ?_ ?_
  · refine OutKeeps.next ?_
    exact Keeps.refl _
  · split
    rename_i e6 e7 e8 e9
    extract_lets v10 v11 v12 v13 v14 v15
    refine OutKeeps.have v10 ?_ fun h16 => ?_
    · with_reducible refine Keeps.step (Keeps.ofSame (State.physWrite_same _ _ _ _) (by decide)) ?_
      exact Keeps.refl _
    clear_value v10
    refine OutKeeps.have v13 ?_ fun h17 => ?_
    · dsimp only [v13]
      with_reducible refine Keeps.record rfl ?_ ?_
      · exact Keeps.of_eq rfl rfl rfl rfl
      exact h16
    clear_value v13
    refine OutKeeps.have v14 ?_ fun h18 => ?_
    · with_reducible refine Keeps.step (State.setReg_keeps _ _ _) ?_
      with_reducible refine Keeps.step (State.addReg_keeps _ _ _) ?_
      with_reducible refine Keeps.step (State.setReg_keeps _ _ _) ?_
      exact h17
    clear_value v14
    refine OutKeeps.next ?_
    refine Keeps.ite ?_ ?_
    · with_reducible refine Keeps.step (State.setReg_keeps _ _ _) ?_
      exact h18
    · exact h18

theorem State.writeTraceCopy_keeps (x1 : State) (x2 : Nat) :
    Keeps x1 (State.writeTraceCopy x1 x2) := by
  unfold State.writeTraceCopy
  extract_lets v0 v1 v2 v3
  refine Keeps.ite ?_ ?_
  · with_reducible refine Keeps.step (Keeps.ofSame (State.answer_same _ _) (by decide)) ?_
    exact Keeps.refl _
  · refine Keeps.ite ?_ ?_
    · with_reducible refine Keeps.step (Keeps.ofSame (State.answer_same _ _) (by decide)) ?_
      with_reducible refine Keeps.step (State.setReg_keeps _ _ _) ?_
      with_reducible refine Keeps.record rfl ?_ ?_
      · exact Keeps.of_eq rfl rfl rfl rfl
      exact Keeps.refl _
    · with_reducible refine Keeps.step (Keeps.ofSame (State.answer_same _ _) (by decide)) ?_
      with_reducible refine Keeps.step (State.setReg_keeps _ _ _) ?_
      exact Keeps.refl _

theorem execTraceCopy_keeps (x1 : Nat) (x2 : State) :
    OutKeeps x2 (execTraceCopy x1 x2) := by
  unfold execTraceCopy
  refine OutKeeps.next ?_
  with_reducible refine Keeps.step (State.writeTraceCopy_keeps _ _) ?_
  exact Keeps.refl _

theorem execTraceCopyEnd_keeps (x1 : State) :
    OutKeeps x1 (execTraceCopyEnd x1) := by
  unfold execTraceCopyEnd
  split
  · rename_i e0 e1
    refine OutKeeps.next ?_
    exact Keeps.refl _
  · rename_i e2 e3 e4 e5 e6
    extract_lets v7 v8 v9 v10
    refine OutKeeps.have v8 ?_ fun h11 => ?_
    · dsimp only [v8]
      with_reducible refine Keeps.record rfl ?_ ?_
      · exact Keeps.of_eq rfl rfl rfl rfl
      exact Keeps.refl _
    clear_value v8
    split
    · rename_i e12 e13
      dsimp only [v9]
      refine OutKeeps.next ?_
      with_reducible refine Keeps.step (State.setReg_keeps _ _ _) ?_
      exact h11
    · rename_i e14 e15 e16
      refine OutKeeps.ite ?_ ?_
      · refine OutKeeps.next ?_
        exact Keeps.refl _
      · refine OutKeeps.ite ?_ ?_
        · dsimp only [v9]
          refine OutKeeps.next ?_
          with_reducible refine Keeps.step (State.setReg_keeps _ _ _) ?_
          exact h11
        · dsimp only [v9]
          refine OutKeeps.next ?_
          with_reducible refine Keeps.step (State.setReg_keeps _ _ _) ?_
          with_reducible refine Keeps.step (Keeps.ofSame (State.hubWrite_same _ _ _ _ _) (by decide)) ?_
          exact h11

theorem State.writeDump_keeps (x1 : State) (x2 x3 x4 : Nat) :
    Keeps x1 (State.writeDump x1 x2 x3 x4) := by
  unfold State.writeDump
  refine Keeps.ite ?_ ?_
  · with_reducible refine Keeps.step (Keeps.ofSame (State.answer_same _ _) (by decide)) ?_
    exact Keeps.refl _
  · refine Keeps.ite ?_ ?_
    · with_reducible refine Keeps.step (Keeps.ofSame (State.answer_same _ _) (by decide)) ?_
      exact Keeps.refl _
    · refine Keeps.ite ?_ ?_
      · with_reducible refine Keeps.step (Keeps.ofSame (State.answer_same _ _) (by decide)) ?_
        exact Keeps.refl _
      · extract_lets v0 v1
        refine Keeps.have v1 ?_ fun h2 => ?_
        · with_reducible refine Keeps.step (Keeps.ofSame (State.answer_same _ _) (by decide)) ?_
          with_reducible refine Keeps.step (State.keep_keeps _ _ _) ?_
          exact Keeps.refl _
        clear_value v1
        refine Keeps.ite ?_ ?_
        · with_reducible refine Keeps.step (State.setReg_keeps _ _ _) ?_
          exact h2
        · exact h2

theorem execDumpTriggerWrite_keeps (x1 : Fin 4) (x2 : Fin 5) (x3 : Nat) (x4 : State) :
    OutKeeps x4 (execDumpTriggerWrite x1 x2 x3 x4) := by
  unfold execDumpTriggerWrite
  refine OutKeeps.next ?_
  with_reducible refine Keeps.step (State.writeDump_keeps _ _ _ _) ?_
  exact Keeps.refl _

theorem execFreezeAtBoundary_keeps (x1 : State) :
    OutKeeps x1 (execFreezeAtBoundary x1) := by
  unfold execFreezeAtBoundary
  refine OutKeeps.next ?_
  with_reducible refine Keeps.step (State.writeFreeze_keeps _ _) ?_
  exact Keeps.refl _

theorem execFreezeAtOnce_keeps (x1 : State) :
    OutKeeps x1 (execFreezeAtOnce x1) := by
  unfold execFreezeAtOnce
  refine OutKeeps.next ?_
  with_reducible refine Keeps.step (State.writeFreeze_keeps _ _) ?_
  exact Keeps.refl _

theorem execFreezeRelease_keeps (x1 : State) :
    OutKeeps x1 (execFreezeRelease x1) := by
  unfold execFreezeRelease
  refine OutKeeps.next ?_
  with_reducible refine Keeps.step (State.writeFreeze_keeps _ _) ?_
  exact Keeps.refl _

theorem execFreezeDrainEnd_keeps (x1 : State) :
    OutKeeps x1 (execFreezeDrainEnd x1) := by
  unfold execFreezeDrainEnd
  refine OutKeeps.ite ?_ ?_
  · refine OutKeeps.next ?_
    exact Keeps.refl _
  · extract_lets v0 v1 v2 v3
    refine OutKeeps.have v1 ?_ fun h4 => ?_
    · with_reducible refine Keeps.step (State.dropSlices_keeps _ _) ?_
      with_reducible refine Keeps.step (Keeps.ofSame (State.putFreezeRecord_same _ _) (by decide)) ?_
      exact Keeps.refl _
    clear_value v1
    refine OutKeeps.have v3 ?_ fun h5 => ?_
    · dsimp only [v3]
      with_reducible refine Keeps.record rfl ?_ ?_
      · exact Keeps.of_eq rfl rfl rfl rfl
      exact h4
    clear_value v3
    refine OutKeeps.next ?_
    with_reducible refine Keeps.step (State.bump_keeps _ _) ?_
    with_reducible refine Keeps.step (State.setReg_keeps _ _ _) ?_
    with_reducible refine Keeps.step (State.setReg_keeps _ _ _) ?_
    exact h5

theorem execFreezeDrainLimit_keeps (x1 : State) :
    OutKeeps x1 (execFreezeDrainLimit x1) := by
  unfold execFreezeDrainLimit
  refine OutKeeps.ite ?_ ?_
  · refine OutKeeps.next ?_
    exact Keeps.refl _
  · refine OutKeeps.next ?_
    with_reducible refine Keeps.step (Keeps.ofSame (State.stopAtOnce_same _) (by decide)) ?_
    with_reducible refine Keeps.step (State.bump_keeps _ _) ?_
    with_reducible refine Keeps.step (State.setReg_keeps _ _ _) ?_
    exact Keeps.refl _

theorem State.stopNow_keeps (x1 : State) (x2 : Nat) :
    Keeps x1 (State.stopNow x1 x2) := by
  unfold State.stopNow
  extract_lets v0 v1 v2 v3 v4 v5 v6
  refine Keeps.have v2 ?_ fun h7 => ?_
  · with_reducible refine Keeps.step (State.dropSlices_keeps _ _) ?_
    with_reducible refine Keeps.step (Keeps.ofSame (State.putFreezeRecord_same _ _) (by decide)) ?_
    with_reducible refine Keeps.record rfl ?_ ?_
    · exact Keeps.of_eq rfl rfl rfl rfl
    exact Keeps.refl _
  clear_value v2
  refine Keeps.have v3 ?_ fun h8 => ?_
  · dsimp only [v3]
    with_reducible refine Keeps.record rfl ?_ ?_
    · exact Keeps.of_eq rfl rfl rfl rfl
    exact h7
  clear_value v3
  refine Keeps.have v5 ?_ fun h9 => ?_
  · dsimp only [v5]
    with_reducible refine Keeps.record rfl ?_ ?_
    · exact Keeps.of_eq rfl rfl rfl rfl
    exact h8
  clear_value v5
  with_reducible refine Keeps.step (State.bump_keeps _ _) ?_
  with_reducible refine Keeps.step (State.setReg_keeps _ _ _) ?_
  refine Keeps.ite ?_ ?_
  · exact h9
  · with_reducible refine Keeps.step (State.setReg_keeps _ _ _) ?_
    exact h9

theorem State.applyPoint_keeps (x1 : State) (x2 x3 : Nat) :
    Keeps x1 (State.applyPoint x1 x2 x3) := by
  unfold State.applyPoint
  extract_lets v0
  refine Keeps.ite ?_ ?_
  · exact Keeps.refl _
  · with_reducible refine Keeps.step (State.trace_keeps _ _ _ _ _ _ _) ?_
    with_reducible refine Keeps.step (Keeps.ofSame (State.setDie_same _ _ _) (by decide)) ?_
    exact Keeps.refl _

theorem execSynchronisedChange_keeps (x1 : State) :
    OutKeeps x1 (execSynchronisedChange x1) := by
  unfold execSynchronisedChange
  split
  · rename_i e0 e1
    refine OutKeeps.next ?_
    exact Keeps.refl _
  · rename_i e2 e3 e4
    extract_lets v5
    refine OutKeeps.have v5 ?_ fun h6 => ?_
    · with_reducible refine Keeps.step (Keeps.ofSame (State.setPw_same _ _) (by decide)) ?_
      exact Keeps.refl _
    clear_value v5
    split
    · rename_i e7 e8 e9 e10
      refine OutKeeps.next ?_
      with_reducible refine Keeps.step (State.applyPoint_keeps _ _ _) ?_
      exact h6
    · rename_i e11 e12
      refine OutKeeps.next ?_
      refine Keeps.ite ?_ ?_
      · with_reducible refine Keeps.step (State.stopNow_keeps _ _) ?_
        exact h6
      · exact h6

end Sys2Proof.Machine
end

