-- ==== Sys2Proof/Laws/KeepSec.lean ====
section
/-! SUPPORT. What the functions of Machine/Sec.lean keep: the dictionary and the store in canonical form, the field map
bounded, the fuses, the seal and the rollback counters. -/

namespace Sys2Proof.Machine

open Sys2Proof

theorem State.setSec_keeps {s0 s : State} {f : Sec → Sec} (h : Keeps s0 s) (hf : SecKeeps s.sec (f s.sec)) :
    Keeps s0 (s.setSec f) := h.trans (Keeps.secUpd rfl rfl rfl hf)

theorem State.startImage_keeps (x1 : State) (x2 x3 x4 : Nat) :
    Keeps x1 (State.startImage x1 x2 x3 x4) := by
  unfold State.startImage
  with_reducible refine State.setSec_keeps ?_ ?_
  · exact Keeps.refl _
  · exact SecKeeps.of_eq rfl rfl rfl rfl

theorem State.setUpdate_keeps (x1 : State) (x2 : Update → Update) :
    Keeps x1 (State.setUpdate x1 x2) := by
  unfold State.setUpdate
  with_reducible refine State.setSec_keeps ?_ ?_
  · exact Keeps.refl _
  · exact SecKeeps.of_eq rfl rfl rfl rfl

theorem State.stageUpdate_keeps (x1 : State) :
    Keeps x1 (State.stageUpdate x1) := by
  unfold State.stageUpdate
  extract_lets v0
  split
  · rename_i e1 e2 e3
    with_reducible refine Keeps.step (Keeps.ofSame (State.answer_same _ _) (by decide)) ?_
    refine Keeps.ite ?_ ?_
    · with_reducible refine Keeps.step (State.setReg_keeps _ _ _) ?_
      exact Keeps.refl _
    · exact Keeps.refl _
  · rename_i e4 e5 e6
    split
    · rename_i e7 e8 e9
      with_reducible refine Keeps.step (Keeps.ofSame (State.answer_same _ _) (by decide)) ?_
      exact Keeps.refl _
    · rename_i e10 e11
      with_reducible refine Keeps.step (Keeps.ofSame (State.answer_same _ _) (by decide)) ?_
      with_reducible refine Keeps.step (State.setReg_keeps _ _ _) ?_
      with_reducible refine Keeps.step (State.setUpdate_keeps _ _) ?_
      with_reducible refine Keeps.step (Keeps.ofSame (State.tierTouch_same _ _ _) (by decide)) ?_
      exact Keeps.refl _

theorem State.beginSwitch_keeps (x1 : State) (x2 : Bool) :
    Keeps x1 (State.beginSwitch x1 x2) := by
  unfold State.beginSwitch
  extract_lets v0 v1 v2
  refine Keeps.have v1 ?_ fun h3 => ?_
  · with_reducible refine Keeps.step (State.setUpdate_keeps _ _) ?_
    exact Keeps.refl _
  clear_value v1
  refine Keeps.have v2 ?_ fun h4 => ?_
  · with_reducible refine Keeps.step (State.setUpdate_keeps _ _) ?_
    exact h3
  clear_value v2
  refine Keeps.ite ?_ ?_
  · with_reducible refine Keeps.step (Keeps.ofSame (State.answer_same _ _) (by decide)) ?_
    with_reducible refine Keeps.step (State.setReg_keeps _ _ _) ?_
    exact h4
  · refine Keeps.ite ?_ ?_
    · with_reducible refine Keeps.step (Keeps.ofSame (State.answer_same _ _) (by decide)) ?_
      with_reducible refine Keeps.step (State.setReg_keeps _ _ _) ?_
      with_reducible refine Keeps.step (State.setUpdate_keeps _ _) ?_
      exact h3
    · with_reducible refine Keeps.step (Keeps.ofSame (State.answer_same _ _) (by decide)) ?_
      with_reducible refine Keeps.step (State.setReg_keeps _ _ _) ?_
      exact h3

theorem leNat_lt (b : List Byte) : leNat b < 256 ^ b.length := by
  induction b with
  | nil => simp [leNat]
  | cons x r ih =>
    simp only [leNat, List.length_cons, Nat.pow_succ]
    have := x.isLt
    omega

theorem imgSecurity_lt (b : List Byte) : imgSecurity b < 2 ^ 64 := by
  have h := leNat_lt ((b.drop (8 * 2)).take 8)
  have l : ((b.drop (8 * 2)).take 8).length ≤ 8 := List.length_take_le _ _
  have := Nat.pow_le_pow_right (n := 256) (by decide) l
  show leNat ((b.drop (8 * 2)).take 8) < 2 ^ 64
  omega

theorem State.commitUpdate_keeps (s : State) : Keeps s s.commitUpdate := by
  unfold State.commitUpdate
  extract_lets u c v raise s1 s2
  refine Keeps.ite (Keeps.ofSame (State.answer_same _ _) (by decide)) ?_
  have h1 : Keeps s s1 := by
    dsimp only [s1]
    split
    · rename_i hr
      have hv : s.rollback c < v := by simpa [raise] using hr
      refine State.setSec_keeps (Keeps.refl _) ⟨rfl, id, CountsUp.put fun _ => ?_, CountsUp.put fun _ => Nat.le_succ _⟩
      have hl : v < 2 ^ 64 := imgSecurity_lt _
      unfold State.rollback at hv
      split at hv <;> omega
    · exact Keeps.refl _
  have h2 : Keeps s s2 := State.setSec_keeps h1 (SecKeeps.of_eq rfl rfl rfl rfl)
  exact Keeps.step (Keeps.ofSame (State.answer_same _ _) (by decide)) (Keeps.step (State.setReg_keeps _ _ _)
    (Keeps.step (State.setUpdate_keeps _ _) h2))

theorem State.writeUpdate_keeps (x1 : State) (x2 : Nat) :
    Keeps x1 (State.writeUpdate x1 x2) := by
  unfold State.writeUpdate
  extract_lets v0
  refine Keeps.ite ?_ ?_
  · with_reducible refine Keeps.step (Keeps.ofSame (State.answer_same _ _) (by decide)) ?_
    exact Keeps.refl _
  · split
    · rename_i e1
      with_reducible refine Keeps.step (State.stageUpdate_keeps _) ?_
      exact Keeps.refl _
    · rename_i e2
      with_reducible refine Keeps.step (State.commitUpdate_keeps _) ?_
      exact Keeps.refl _
    · rename_i e3
      with_reducible refine Keeps.step (State.beginSwitch_keeps _ _) ?_
      exact Keeps.refl _
    · rename_i e4
      with_reducible refine Keeps.step (State.beginSwitch_keeps _ _) ?_
      exact Keeps.refl _
    · rename_i e5 e6 e7 e8 e9
      with_reducible refine Keeps.step (State.beginSwitch_keeps _ _) ?_
      exact Keeps.refl _

theorem execUpdateStage_keeps (x1 : State) :
    OutKeeps x1 (execUpdateStage x1) := by
  unfold execUpdateStage
  refine OutKeeps.next ?_
  with_reducible refine Keeps.step (State.writeUpdate_keeps _ _) ?_
  exact Keeps.refl _

theorem execUpdateApply_keeps (x1 : State) :
    OutKeeps x1 (execUpdateApply x1) := by
  unfold execUpdateApply
  refine OutKeeps.next ?_
  with_reducible refine Keeps.step (State.writeUpdate_keeps _ _) ?_
  exact Keeps.refl _

theorem execUpdateCommit_keeps (x1 : State) :
    OutKeeps x1 (execUpdateCommit x1) := by
  unfold execUpdateCommit
  refine OutKeeps.next ?_
  with_reducible refine Keeps.step (State.writeUpdate_keeps _ _) ?_
  exact Keeps.refl _

theorem execUpdateRevert_keeps (x1 : State) :
    OutKeeps x1 (execUpdateRevert x1) := by
  unfold execUpdateRevert
  refine OutKeeps.next ?_
  with_reducible refine Keeps.step (State.writeUpdate_keeps _ _) ?_
  exact Keeps.refl _

theorem execUpdateResume_keeps (x1 : State) :
    OutKeeps x1 (execUpdateResume x1) := by
  unfold execUpdateResume
  refine OutKeeps.next ?_
  with_reducible refine Keeps.step (State.writeUpdate_keeps _ _) ?_
  exact Keeps.refl _

theorem execUpdateStageEnd_keeps (x1 : State) :
    OutKeeps x1 (execUpdateStageEnd x1) := by
  unfold execUpdateStageEnd
  extract_lets v0 v1
  refine OutKeeps.have v1 ?_ fun h2 => ?_
  · with_reducible refine State.setSec_keeps ?_ ?_
    · exact Keeps.refl _
    · exact SecKeeps.of_eq rfl rfl rfl rfl
  clear_value v1
  refine OutKeeps.ite ?_ ?_
  · refine OutKeeps.next ?_
    exact Keeps.refl _
  · refine OutKeeps.next ?_
    with_reducible refine Keeps.step (State.setReg_keeps _ _ _) ?_
    with_reducible refine Keeps.step (State.setReg_keeps _ _ _) ?_
    with_reducible refine Keeps.step (State.setUpdate_keeps _ _) ?_
    exact h2

theorem execUpdateSlice_keeps (x1 : State) :
    OutKeeps x1 (execUpdateSlice x1) := by
  unfold execUpdateSlice
  extract_lets v0
  refine OutKeeps.ite ?_ ?_
  · refine OutKeeps.next ?_
    exact Keeps.refl _
  · split
    · rename_i e1 e2
      refine OutKeeps.next ?_
      exact Keeps.refl _
    · rename_i e3 e4 e5 e6
      refine OutKeeps.ite ?_ ?_
      · refine OutKeeps.next ?_
        with_reducible refine Keeps.step (State.setUpdate_keeps _ _) ?_
        exact Keeps.refl _
      · extract_lets v7
        refine OutKeeps.next ?_
        with_reducible refine Keeps.step (State.setUpdate_keeps _ _) ?_
        with_reducible refine Keeps.step (State.startImage_keeps _ _ _ _) ?_
        exact Keeps.refl _

theorem execImageAliveReport_keeps (x1 : State) :
    OutKeeps x1 (execImageAliveReport x1) := by
  unfold execImageAliveReport
  extract_lets v0 v1 v2
  refine OutKeeps.have v1 ?_ fun h3 => ?_
  · with_reducible refine Keeps.step (State.setReg_keeps _ _ _) ?_
    with_reducible refine Keeps.step (State.setUpdate_keeps _ _) ?_
    exact Keeps.refl _
  clear_value v1
  refine OutKeeps.have v2 ?_ fun h4 => ?_
  · with_reducible refine State.setSec_keeps ?_ ?_
    · exact h3
    · exact SecKeeps.of_eq rfl rfl rfl rfl
  clear_value v2
  split
  · rename_i e5 e6
    refine OutKeeps.next ?_
    exact Keeps.refl _
  · rename_i e7 e8 e9
    refine OutKeeps.ite ?_ ?_
    · refine OutKeeps.next ?_
      with_reducible refine Keeps.step (State.setReg_keeps _ _ _) ?_
      with_reducible refine Keeps.step (State.setUpdate_keeps _ _) ?_
      exact h4
    · refine OutKeeps.next ?_
      exact h3

theorem execImageAliveTimeout_keeps (x1 : State) :
    OutKeeps x1 (execImageAliveTimeout x1) := by
  unfold execImageAliveTimeout
  extract_lets v0
  split
  · rename_i e1 e2
    refine OutKeeps.next ?_
    exact Keeps.refl _
  · rename_i e3 e4 e5
    refine OutKeeps.next ?_
    with_reducible refine Keeps.step (State.setReg_keeps _ _ _) ?_
    with_reducible refine Keeps.step (State.setUpdate_keeps _ _) ?_
    exact Keeps.refl _

theorem State.sliceBack_keeps (x1 : State) :
    Keeps x1 (State.sliceBack x1) := by
  unfold State.sliceBack
  extract_lets v0
  split
  · rename_i e1 e2
    exact Keeps.refl _
  · rename_i e3 e4 e5
    with_reducible refine Keeps.step (State.setUpdate_keeps _ _) ?_
    with_reducible refine State.setSec_keeps ?_ ?_
    · exact Keeps.refl _
    · exact SecKeeps.of_eq rfl rfl rfl rfl

theorem execSliceRetryTimeout_keeps (x1 : State) :
    OutKeeps x1 (execSliceRetryTimeout x1) := by
  unfold execSliceRetryTimeout
  refine OutKeeps.next ?_
  with_reducible refine when_keeps ?_ ?_
  · with_reducible refine Keeps.step (State.setReg_keeps _ _ _) ?_
    with_reducible refine Keeps.step (State.setUpdate_keeps _ _) ?_
    exact Keeps.refl _
  · exact Keeps.refl _

theorem execAutoCommit_keeps (x1 : State) :
    OutKeeps x1 (execAutoCommit x1) := by
  unfold execAutoCommit
  extract_lets v0 v1 v2 v3
  refine OutKeeps.have v3 ?_ fun h4 => ?_
  · with_reducible refine Keeps.step (State.commitUpdate_keeps _) ?_
    exact Keeps.refl _
  clear_value v3
  refine OutKeeps.next ?_
  with_reducible refine when_keeps ?_ ?_
  · with_reducible refine Keeps.record rfl ?_ ?_
    · exact Keeps.of_eq rfl rfl rfl rfl
    exact h4
  · exact Keeps.refl _

theorem State.writeRecLength_keeps (x1 : State) (x2 : Nat) :
    Keeps x1 (State.writeRecLength x1 x2) := by
  unfold State.writeRecLength
  refine Keeps.ite ?_ ?_
  · with_reducible refine Keeps.step (Keeps.ofSame (State.answer_same _ _) (by decide)) ?_
    exact Keeps.refl _
  · refine Keeps.ite ?_ ?_
    · with_reducible refine Keeps.step (Keeps.ofSame (State.answer_same _ _) (by decide)) ?_
      exact Keeps.refl _
    · with_reducible refine Keeps.step (Keeps.ofSame (State.answer_same _ _) (by decide)) ?_
      with_reducible refine Keeps.step (State.setReg_keeps _ _ _) ?_
      with_reducible refine State.setSec_keeps ?_ ?_
      · exact Keeps.refl _
      · exact SecKeeps.of_eq rfl rfl rfl rfl

theorem execRecoveryLength_keeps (x1 : Nat) (x2 : State) :
    OutKeeps x2 (execRecoveryLength x1 x2) := by
  unfold execRecoveryLength
  refine OutKeeps.next ?_
  with_reducible refine Keeps.step (State.writeRecLength_keeps _ _) ?_
  exact Keeps.refl _

theorem State.writeRecOffset_keeps (x1 : State) (x2 : Nat) :
    Keeps x1 (State.writeRecOffset x1 x2) := by
  unfold State.writeRecOffset
  refine Keeps.ite ?_ ?_
  · with_reducible refine Keeps.step (Keeps.ofSame (State.answer_same _ _) (by decide)) ?_
    exact Keeps.refl _
  · with_reducible refine Keeps.step (Keeps.ofSame (State.answer_same _ _) (by decide)) ?_
    with_reducible refine State.setSec_keeps ?_ ?_
    · exact Keeps.refl _
    · exact SecKeeps.of_eq rfl rfl rfl rfl

theorem execRecoveryOffset_keeps (x1 : Nat) (x2 : State) :
    OutKeeps x2 (execRecoveryOffset x1 x2) := by
  unfold execRecoveryOffset
  refine OutKeeps.next ?_
  with_reducible refine Keeps.step (State.writeRecOffset_keeps _ _) ?_
  exact Keeps.refl _

theorem State.writeRecPiece_keeps (x1 : State) (x2 : List Byte) :
    Keeps x1 (State.writeRecPiece x1 x2) := by
  unfold State.writeRecPiece
  refine Keeps.ite ?_ ?_
  · with_reducible refine Keeps.step (Keeps.ofSame (State.answer_same _ _) (by decide)) ?_
    exact Keeps.refl _
  · refine Keeps.ite ?_ ?_
    · with_reducible refine Keeps.step (Keeps.ofSame (State.answer_same _ _) (by decide)) ?_
      exact Keeps.refl _
    · split
      · rename_i e0 e1
        with_reducible refine Keeps.step (Keeps.ofSame (State.answer_same _ _) (by decide)) ?_
        exact Keeps.refl _
      · rename_i e2 e3 e4
        extract_lets v5 v6
        refine Keeps.have v6 ?_ fun h7 => ?_
        · with_reducible refine State.setSec_keeps ?_ ?_
          · exact Keeps.refl _
          · exact SecKeeps.of_eq rfl rfl rfl rfl
        clear_value v6
        refine Keeps.ite ?_ ?_
        · with_reducible refine Keeps.step (Keeps.ofSame (State.answer_same _ _) (by decide)) ?_
          exact Keeps.refl _
        · refine Keeps.ite ?_ ?_
          · with_reducible refine Keeps.step (Keeps.ofSame (State.answer_same _ _) (by decide)) ?_
            exact Keeps.refl _
          · with_reducible refine Keeps.step (Keeps.ofSame (State.answer_same _ _) (by decide)) ?_
            with_reducible refine Keeps.step (State.setReg_keeps _ _ _) ?_
            exact h7

theorem execRecoveryPiece_keeps (x1 : List Byte) (x2 : State) :
    OutKeeps x2 (execRecoveryPiece x1 x2) := by
  unfold execRecoveryPiece
  refine OutKeeps.next ?_
  with_reducible refine Keeps.step (State.writeRecPiece_keeps _ _) ?_
  exact Keeps.refl _

theorem State.writeRecVerify_keeps (x1 : State) (x2 : Nat) :
    Keeps x1 (State.writeRecVerify x1 x2) := by
  unfold State.writeRecVerify
  refine Keeps.ite ?_ ?_
  · with_reducible refine Keeps.step (Keeps.ofSame (State.answer_same _ _) (by decide)) ?_
    exact Keeps.refl _
  · refine Keeps.ite ?_ ?_
    · with_reducible refine Keeps.step (Keeps.ofSame (State.answer_same _ _) (by decide)) ?_
      exact Keeps.refl _
    · split
      · rename_i e0 e1
        with_reducible refine Keeps.step (Keeps.ofSame (State.answer_same _ _) (by decide)) ?_
        exact Keeps.refl _
      · rename_i e2 e3 e4
        refine Keeps.ite ?_ ?_
        · with_reducible refine Keeps.step (Keeps.ofSame (State.answer_same _ _) (by decide)) ?_
          exact Keeps.refl _
        · extract_lets v5 v6
          refine Keeps.have v6 ?_ fun h7 => ?_
          · with_reducible refine Keeps.step (State.setReg_keeps _ _ _) ?_
            with_reducible refine Keeps.step (Keeps.ofSame (State.answer_same _ _) (by decide)) ?_
            exact Keeps.refl _
          clear_value v6
          refine Keeps.ite ?_ ?_
          · with_reducible refine Keeps.step (State.setReg_keeps _ _ _) ?_
            exact h7
          · exact h7

theorem execRecoveryVerify_keeps (x1 : Nat) (x2 : State) :
    OutKeeps x2 (execRecoveryVerify x1 x2) := by
  unfold execRecoveryVerify
  refine OutKeeps.next ?_
  with_reducible refine Keeps.step (State.writeRecVerify_keeps _ _) ?_
  exact Keeps.refl _

theorem State.spdmError_keeps (x1 : State) (x2 x3 : Nat) :
    Keeps x1 (State.spdmError x1 x2 x3) := by
  unfold State.spdmError
  with_reducible refine State.setSec_keeps ?_ ?_
  · exact Keeps.refl _
  · exact SecKeeps.of_eq rfl rfl rfl rfl

theorem State.spdm_keeps {s0 s : State} {p need : Nat} {f : State → State}
    (h : Keeps s0 s) (hf : ∀ t, Keeps s0 t → Keeps s0 (f t)) : Keeps s0 (s.spdm p need f) := by
  unfold State.spdm
  repeat' split
  · exact h
  · exact Keeps.step (State.spdmError_keeps _ _ _) h
  · exact Keeps.step (State.spdmError_keeps _ _ _) h
  · exact hf _ h

theorem State.spdmSay_keeps (x1 : State) (x2 x3 x4 : Nat) (x5 : List Byte) :
    Keeps x1 (State.spdmSay x1 x2 x3 x4 x5) := by
  unfold State.spdmSay
  with_reducible refine State.setSec_keeps ?_ ?_
  · exact Keeps.refl _
  · exact SecKeeps.of_eq rfl rfl rfl rfl

theorem State.spdmSign_keeps (x1 : State) (x2 x3 x4 : Nat) (x5 x6 : List Byte) :
    Keeps x1 (State.spdmSign x1 x2 x3 x4 x5 x6) := by
  unfold State.spdmSign
  extract_lets v0
  with_reducible refine State.setSec_keeps ?_ ?_
  · exact Keeps.refl _
  · exact SecKeeps.of_eq rfl rfl rfl rfl

theorem State.setSpdm_keeps (x1 : State) (x2 x3 : Nat) :
    Keeps x1 (State.setSpdm x1 x2 x3) := by
  unfold State.setSpdm
  with_reducible refine State.setSec_keeps ?_ ?_
  · exact Keeps.refl _
  · exact SecKeeps.of_eq rfl rfl rfl rfl

theorem execGetVersion_keeps (x1 : Fin 2) (x2 : State) :
    OutKeeps x2 (execGetVersion x1 x2) := by
  unfold execGetVersion
  extract_lets v0
  refine OutKeeps.next ?_
  with_reducible refine State.spdm_keeps ?_ ?_
  · exact Keeps.refl _
  · intro y1 h2
    extract_lets v3
    refine Keeps.have v3 ?_ fun h4 => ?_
    · with_reducible refine State.setSec_keeps ?_ ?_
      · exact h2
      · exact SecKeeps.of_eq rfl rfl rfl rfl
    clear_value v3
    with_reducible refine Keeps.step (State.spdmSay_keeps _ _ _ _ _) ?_
    with_reducible refine Keeps.step (State.setSpdm_keeps _ _ _) ?_
    exact h4

theorem execGetCapabilities_keeps (x1 : Fin 2) (x2 : State) :
    OutKeeps x2 (execGetCapabilities x1 x2) := by
  unfold execGetCapabilities
  extract_lets v0
  refine OutKeeps.next ?_
  with_reducible refine State.spdm_keeps ?_ ?_
  · exact Keeps.refl _
  · intro y1 h2
    with_reducible refine Keeps.step (State.spdmSay_keeps _ _ _ _ _) ?_
    with_reducible refine Keeps.step (State.setSpdm_keeps _ _ _) ?_
    exact h2

theorem execNegotiateAlgorithms_keeps (x1 : Fin 2) (x2 : Bool) (x3 : State) :
    OutKeeps x3 (execNegotiateAlgorithms x1 x2 x3) := by
  unfold execNegotiateAlgorithms
  extract_lets v0
  refine OutKeeps.next ?_
  with_reducible refine State.spdm_keeps ?_ ?_
  · exact Keeps.refl _
  · intro y1 h2
    refine Keeps.ite ?_ ?_
    · with_reducible refine Keeps.step (State.spdmSay_keeps _ _ _ _ _) ?_
      with_reducible refine Keeps.step (State.setSpdm_keeps _ _ _) ?_
      exact h2
    · with_reducible refine Keeps.step (State.spdmError_keeps _ _ _) ?_
      exact h2

theorem execGetDigests_keeps (x1 : Fin 2) (x2 : State) :
    OutKeeps x2 (execGetDigests x1 x2) := by
  unfold execGetDigests
  refine OutKeeps.next ?_
  with_reducible refine State.spdm_keeps ?_ ?_
  · exact Keeps.refl _
  · intro y0 h1
    with_reducible refine Keeps.step (State.spdmSay_keeps _ _ _ _ _) ?_
    exact h1

theorem execGetCertificate_keeps (x1 : Fin 2) (x2 : Fin 8) (x3 x4 : BitVec 16) (x5 : State) :
    OutKeeps x5 (execGetCertificate x1 x2 x3 x4 x5) := by
  unfold execGetCertificate
  refine OutKeeps.next ?_
  with_reducible refine State.spdm_keeps ?_ ?_
  · exact Keeps.refl _
  · intro y0 h1
    refine Keeps.ite ?_ ?_
    · with_reducible refine Keeps.step (State.spdmError_keeps _ _ _) ?_
      exact h1
    · with_reducible refine Keeps.step (State.spdmSay_keeps _ _ _ _ _) ?_
      exact h1

theorem execChallenge_keeps (x1 : Fin 2) (x2 : Fin 8) (x3 : Bool) (x4 : List Byte) (x5 : State) :
    OutKeeps x5 (execChallenge x1 x2 x3 x4 x5) := by
  unfold execChallenge
  refine OutKeeps.next ?_
  with_reducible refine State.spdm_keeps ?_ ?_
  · exact Keeps.refl _
  · intro y0 h1
    refine Keeps.ite ?_ ?_
    · with_reducible refine Keeps.step (State.spdmError_keeps _ _ _) ?_
      exact h1
    · extract_lets v2
      with_reducible refine Keeps.step (Keeps.ofSame (State.tickFree_same _) (by decide)) ?_
      with_reducible refine Keeps.step (State.spdmSign_keeps _ _ _ _ _ _) ?_
      exact h1

theorem execGetMeasurements_keeps (x1 : Fin 2) (x2 : BitVec 8) (x3 : Bool) (x4 : List Byte) (x5 : State) :
    OutKeeps x5 (execGetMeasurements x1 x2 x3 x4 x5) := by
  unfold execGetMeasurements
  extract_lets v0 v1
  refine OutKeeps.next ?_
  with_reducible refine State.spdm_keeps ?_ ?_
  · exact Keeps.refl _
  · intro y2 h3
    refine Keeps.ite ?_ ?_
    · with_reducible refine Keeps.step (State.spdmError_keeps _ _ _) ?_
      exact h3
    · extract_lets v4
      refine Keeps.ite ?_ ?_
      · with_reducible refine Keeps.step (Keeps.ofSame (State.tickFree_same _) (by decide)) ?_
        with_reducible refine Keeps.step (State.spdmSign_keeps _ _ _ _ _ _) ?_
        exact h3
      · with_reducible refine Keeps.step (State.spdmSay_keeps _ _ _ _ _) ?_
        exact h3

end Sys2Proof.Machine
end

