-- ==== Sys2Proof/Laws/KeepTimebase.lean ====
section
/-! SUPPORT. What the functions of Machine/Timebase.lean keep: the dictionary and the store in canonical form, the field map
bounded, the fuses, the seal and the rollback counters. -/

namespace Sys2Proof.Machine

open Sys2Proof

theorem execWordClockEdge_keeps (x1 : Nat) (x2 x3 : Int) (x4 : State) :
    OutKeeps x4 (execWordClockEdge x1 x2 x3 x4) := by
  unfold execWordClockEdge
  extract_lets v0 v1 v2 v3 v4
  refine OutKeeps.ite ?_ ?_
  · refine OutKeeps.next ?_
    exact Keeps.refl _
  · refine OutKeeps.ite ?_ ?_
    · split
      rename_i e5 e6 e7 e8
      refine OutKeeps.next ?_
      with_reducible refine Keeps.step (State.stick_keeps _ _ _) ?_
      with_reducible refine Keeps.record rfl ?_ ?_
      · exact Keeps.of_eq rfl rfl rfl rfl
      exact Keeps.refl _
    · refine OutKeeps.next ?_
      with_reducible refine Keeps.record rfl ?_ ?_
      · exact Keeps.of_eq rfl rfl rfl rfl
      exact Keeps.refl _

theorem execPpsEdge_keeps (x1 : Nat) (x2 : Bool) (x3 : Int) (x4 : State) :
    OutKeeps x4 (execPpsEdge x1 x2 x3 x4) :=
  OutKeeps.ofSame (execPpsEdge_same _ _ _ _) (by decide)

theorem execMediaTick_keeps (x1 : State) :
    OutKeeps x1 (execMediaTick x1) :=
  OutKeeps.ofSame (execMediaTick_same _) (by decide)

theorem execPtpCorrelationRecord_keeps (x1 : Fin 2) (x2 x3 : Nat) (x4 : Int) (x5 : State) :
    OutKeeps x5 (execPtpCorrelationRecord x1 x2 x3 x4 x5) :=
  OutKeeps.ofSame (execPtpCorrelationRecord_same _ _ _ _ _) (by decide)

theorem execSourceLost_keeps (x1 : Fin 4) (x2 : State) :
    OutKeeps x2 (execSourceLost x1 x2) := by
  unfold execSourceLost
  split
  rename_i e0 e1 e2 e3
  refine OutKeeps.next ?_
  with_reducible refine Keeps.step (State.stick_keeps _ _ _) ?_
  with_reducible refine Keeps.record rfl ?_ ?_
  · exact Keeps.of_eq rfl rfl rfl rfl
  exact Keeps.refl _

theorem execSourceSwitch_keeps (x1 : Fin 4) (x2 : State) :
    OutKeeps x2 (execSourceSwitch x1 x2) := by
  unfold execSourceSwitch
  extract_lets v0 v1
  refine OutKeeps.next ?_
  with_reducible refine when_keeps ?_ ?_
  · with_reducible refine Keeps.step (State.stick_keeps _ _ _) ?_
    with_reducible refine Keeps.record rfl ?_ ?_
    · exact Keeps.of_eq rfl rfl rfl rfl
    exact Keeps.refl _
  · exact Keeps.refl _

theorem execAcquireTimeout_keeps (x1 : State) :
    OutKeeps x1 (execAcquireTimeout x1) :=
  OutKeeps.ofSame (execAcquireTimeout_same _) (by decide)

theorem execHoldoverLimitExpiry_keeps (x1 : State) :
    OutKeeps x1 (execHoldoverLimitExpiry x1) := by
  unfold execHoldoverLimitExpiry
  refine OutKeeps.next ?_
  with_reducible refine when_keeps ?_ ?_
  · with_reducible refine Keeps.step (State.stick_keeps _ _ _) ?_
    with_reducible refine Keeps.record rfl ?_ ?_
    · exact Keeps.of_eq rfl rfl rfl rfl
    exact Keeps.refl _
  · exact Keeps.refl _

theorem writeReferenceSource_keeps (x1 : Nat) (x2 : State) :
    Keeps x2 (writeReferenceSource x1 x2) := by
  unfold writeReferenceSource
  refine Keeps.ite ?_ ?_
  · with_reducible refine Keeps.step (Keeps.ofSame (State.answer_same _ _) (by decide)) ?_
    exact Keeps.refl _
  · with_reducible refine Keeps.step (Keeps.ofSame (State.answer_same _ _) (by decide)) ?_
    with_reducible refine Keeps.step (State.keep_keeps _ _ _) ?_
    with_reducible refine Keeps.record rfl ?_ ?_
    · exact Keeps.of_eq rfl rfl rfl rfl
    exact Keeps.refl _

theorem execMediaReferenceSourceWrite_keeps (x1 : Nat) (x2 : State) :
    OutKeeps x2 (execMediaReferenceSourceWrite x1 x2) := by
  unfold execMediaReferenceSourceWrite
  refine OutKeeps.next ?_
  with_reducible refine Keeps.step (writeReferenceSource_keeps _ _) ?_
  exact Keeps.refl _

theorem writeFrameLength_keeps (x1 : Nat) (x2 : State) :
    Keeps x2 (writeFrameLength x1 x2) := by
  unfold writeFrameLength
  refine Keeps.ite ?_ ?_
  · with_reducible refine Keeps.step (Keeps.ofSame (State.answer_same _ _) (by decide)) ?_
    exact Keeps.refl _
  · refine Keeps.ite ?_ ?_
    · with_reducible refine Keeps.step (Keeps.ofSame (State.answer_same _ _) (by decide)) ?_
      exact Keeps.refl _
    · with_reducible refine Keeps.step (Keeps.ofSame (State.answer_same _ _) (by decide)) ?_
      with_reducible refine Keeps.step (State.keep_keeps _ _ _) ?_
      exact Keeps.refl _

theorem execFrameLengthWrite_keeps (x1 : Nat) (x2 : State) :
    OutKeeps x2 (execFrameLengthWrite x1 x2) := by
  unfold execFrameLengthWrite
  refine OutKeeps.next ?_
  with_reducible refine Keeps.step (writeFrameLength_keeps _ _) ?_
  exact Keeps.refl _

theorem execFirstFrameBegin_keeps (x1 : Nat) (x2 : State) :
    OutKeeps x2 (execFirstFrameBegin x1 x2) :=
  OutKeeps.ofSame (execFirstFrameBegin_same _ _) (by decide)

end Sys2Proof.Machine
end

