-- ==== Sys2Proof/Laws/KeepBringUp.lean ====
section
/-! SUPPORT. What the functions of Machine/BringUp.lean keep: the dictionary and the store in canonical form, the field map
bounded, the fuses, the seal and the rollback counters. -/

namespace Sys2Proof.Machine

open Sys2Proof

theorem State.bootField_keeps (x1 : State) (x2 x3 x4 : Nat) :
    Keeps x1 (State.bootField x1 x2 x3 x4) := by
  unfold State.bootField
  with_reducible refine Keeps.step (State.setReg_keeps _ _ _) ?_
  exact Keeps.refl _

theorem State.bringEnd_keeps (x1 : State) (x2 : Nat) :
    Keeps x1 (State.bringEnd x1 x2) := by
  unfold State.bringEnd
  with_reducible refine Keeps.step (State.bootField_keeps _ _ _ _) ?_
  exact Keeps.refl _

theorem State.bring2_keeps (x1 : BringUp) (x2 : State) :
    Keeps x2 (State.bring2 x1 x2) := by
  unfold State.bring2
  refine Keeps.ite ?_ ?_
  · exact Keeps.refl _
  · extract_lets v0 v1
    refine Keeps.have v0 ?_ fun h2 => ?_
    · with_reducible refine Keeps.step (State.setReg_keeps _ _ _) ?_
      exact Keeps.refl _
    clear_value v0
    with_reducible refine Keeps.step (State.bringEnd_keeps _ _) ?_
    with_reducible refine Keeps.step (State.bootField_keeps _ _ _ _) ?_
    exact h2

theorem State.loadComp_keeps (x1 : State) (x2 x3 : Nat) :
    Keeps x1 (State.loadComp x1 x2 x3) := by
  unfold State.loadComp
  split
  · rename_i e0 e1
    exact Keeps.refl _
  · rename_i e2 e3 e4
    extract_lets v5 v6
    refine Keeps.have v5 ?_ fun h7 => ?_
    · refine Keeps.foldl ?_ fun q8 y9 h10 => ?_
      · exact Keeps.refl _
      · with_reducible refine Keeps.step (State.startImage_keeps _ _ _ _) ?_
        exact h10
    clear_value v5
    refine Keeps.have v6 ?_ fun h11 => ?_
    · with_reducible refine State.setSec_keeps ?_ ?_
      · exact h7
      · exact SecKeeps.of_eq rfl rfl rfl rfl
    clear_value v6
    refine Keeps.ite ?_ ?_
    · exact h11
    · with_reducible refine Keeps.step (State.bootField_keeps _ _ _ _) ?_
      exact h11

theorem State.bring3_keeps (x1 : State) :
    Keeps x1 (State.bring3 x1) := by
  unfold State.bring3
  extract_lets v0 v1 v2
  refine Keeps.have v1 ?_ fun h3 => ?_
  · with_reducible refine Keeps.step (State.loadComp_keeps _ _ _) ?_
    exact Keeps.refl _
  clear_value v1
  refine Keeps.have v2 ?_ fun h4 => ?_
  · with_reducible refine Keeps.step (State.loadComp_keeps _ _ _) ?_
    with_reducible refine Keeps.step (State.setUpdate_keeps _ _) ?_
    exact h3
  clear_value v2
  refine Keeps.ite ?_ ?_
  · with_reducible refine State.setSec_keeps ?_ ?_
    · with_reducible refine Keeps.step (State.bootField_keeps _ _ _ _) ?_
      exact h4
    · exact SecKeeps.of_eq rfl rfl rfl rfl
  · with_reducible refine Keeps.step (State.bringEnd_keeps _ _) ?_
    exact h4

theorem dictWf_merge (l : List (Nat × Nat)) (hl : ∀ e ∈ l, e.2 ≠ dictDflt e.1) {t : Tbl Nat}
    (h : dictWf t) : dictWf (l.foldl (fun t e => Tbl.ins t e.1 e.2) t) := by
  induction l generalizing t with
  | nil => exact h
  | cons x r ih =>
    exact ih (fun e he => hl e (List.mem_cons_of_mem _ he)) (dictWf_ins (hl x List.mem_cons_self) h)

theorem State.kept_wf {s : State} (h : dictWf s.nv) : dictWf s.kept := by
  unfold State.kept
  split
  · exact dictWf_filter _ h
  · exact h

theorem State.bring4_keeps (s : State) : Keeps s s.bring4 := by
  unfold State.bring4
  extract_lets kept base dap s1 s2 paired s3 src tb s4 s5 u
  have h1 : Keeps s s1 := by
    refine ⟨fun h => ?_, id, SecKeeps.refl _⟩
    have hk : dictWf kept := State.kept_wf h.2
    exact ⟨dictWf_merge base (fun e he => h.1.2 e (List.mem_filter.mp he).1) hk, hk⟩
  have h2 : Keeps s s2 := Keeps.step (State.setReg_keeps _ _ _) h1
  have h3 : Keeps s s3 := Keeps.step (Keeps.ofSame (State.setPair_same _ _) (by decide)) h2
  have h4 : Keeps s s4 := h3.trans (Keeps.of_eq rfl rfl rfl rfl)
  have h5 : Keeps s s5 := Keeps.step (State.reportOsc_keeps _) (Keeps.step (Keeps.ofSame (State.setPw_same _ _) (by decide)) h4)
  refine Keeps.step (State.bringEnd_keeps _ _) ?_
  exact Keeps.ite (Keeps.step (State.setReg_keeps _ _ _) h5) h5

theorem State.bring5_keeps (x1 : BringUp) (x2 : State) :
    Keeps x2 (State.bring5 x1 x2) := by
  unfold State.bring5
  refine Keeps.ite ?_ ?_
  · with_reducible refine Keeps.step (State.faultOff_keeps _ _) ?_
    exact Keeps.refl _
  · extract_lets v0 v1 v2
    refine Keeps.have v0 ?_ fun h3 => ?_
    · refine Keeps.foldl ?_ fun q4 y5 h6 => ?_
      · exact Keeps.refl _
      · with_reducible refine Keeps.step (Keeps.ofSame (State.setDie_same _ _ _) (by decide)) ?_
        exact h6
    clear_value v0
    refine Keeps.have v2 ?_ fun h7 => ?_
    · dsimp only [v2]
      with_reducible refine Keeps.record rfl ?_ ?_
      · exact Keeps.of_eq rfl rfl rfl rfl
      exact h3
    clear_value v2
    with_reducible refine Keeps.step (State.bringEnd_keeps _ _) ?_
    exact h7

theorem State.reportRevision_keeps (x1 : BringUp) (x2 : State) (x3 : Nat) :
    Keeps x2 (State.reportRevision x1 x2 x3) := by
  unfold State.reportRevision
  refine Keeps.ite ?_ ?_
  · with_reducible refine Keeps.step (State.setReg_keeps _ _ _) ?_
    with_reducible refine Keeps.step (State.setReg_keeps _ _ _) ?_
    exact Keeps.refl _
  · extract_lets v0 v1
    refine Keeps.have v1 ?_ fun h2 => ?_
    · with_reducible refine Keeps.step (State.setReg_keeps _ _ _) ?_
      with_reducible refine Keeps.step (State.setReg_keeps _ _ _) ?_
      exact Keeps.refl _
    clear_value v1
    refine Keeps.ite ?_ ?_
    · with_reducible refine Keeps.step (State.bootField_keeps _ _ _ _) ?_
      with_reducible refine Keeps.step (Keeps.ofSame (State.isolateSite_same _ _) (by decide)) ?_
      exact h2
    · exact h2

theorem State.bring6_keeps (x1 : BringUp) (x2 : State) :
    Keeps x2 (State.bring6 x1 x2) := by
  unfold State.bring6
  with_reducible refine Keeps.step (State.bringEnd_keeps _ _) ?_
  refine Keeps.foldl ?_ fun q0 y1 h2 => ?_
  · exact Keeps.refl _
  · with_reducible refine Keeps.step (State.reportRevision_keeps _ _ _) ?_
    exact h2

theorem State.bring7_keeps (x1 : State) :
    Keeps x1 (State.bring7 x1) := by
  unfold State.bring7
  extract_lets v0 v1 v2 v3 v4
  refine Keeps.have v0 ?_ fun h5 => ?_
  · refine Keeps.foldl ?_ fun q6 y7 h8 => ?_
    · exact Keeps.refl _
    · with_reducible refine Keeps.step (State.loadComp_keeps _ _ _) ?_
      exact h8
  clear_value v0
  refine Keeps.have v1 ?_ fun h9 => ?_
  · refine Keeps.ite ?_ ?_
    · exact h5
    · refine Keeps.foldl ?_ fun q10 y11 h12 => ?_
      · exact h5
      · with_reducible refine Keeps.step (Keeps.ofSame (State.isolateSite_same _ _) (by decide)) ?_
        exact h12
  clear_value v1
  refine Keeps.have v2 ?_ fun h13 => ?_
  · refine Keeps.ite ?_ ?_
    · exact h9
    · refine Keeps.foldl ?_ fun q14 y15 h16 => ?_
      · exact h9
      · with_reducible refine Keeps.step (Keeps.ofSame (State.setStore_same _ _ _) (by decide)) ?_
        exact h16
  clear_value v2
  refine Keeps.have v3 ?_ fun h17 => ?_
  · refine Keeps.ite ?_ ?_
    · exact h13
    · refine Keeps.foldl ?_ fun q18 y19 h20 => ?_
      · exact h13
      · with_reducible refine Keeps.step (Keeps.ofSame (State.setRegion_same _ _ _) (by decide)) ?_
        exact h20
  clear_value v3
  refine Keeps.have v4 ?_ fun h21 => ?_
  · refine Keeps.ite ?_ ?_
    · exact h17
    · refine Keeps.foldl ?_ fun q22 y23 h24 => ?_
      · exact h17
      · with_reducible refine Keeps.step (Keeps.ofSame (State.setChan_same _ _ _) (by decide)) ?_
        exact h24
  clear_value v4
  with_reducible refine Keeps.step (State.bringEnd_keeps _ _) ?_
  exact h21

theorem State.bring8_keeps (x1 : State) :
    Keeps x1 (State.bring8 x1) := by
  unfold State.bring8
  extract_lets v0 v1
  refine Keeps.have v1 ?_ fun h2 => ?_
  · refine Keeps.foldl ?_ fun q3 y4 h5 => ?_
    · exact Keeps.refl _
    · extract_lets v6 v7 v8
      refine Keeps.have v6 ?_ fun h9 => ?_
      · refine Keeps.foldl ?_ fun q10 y11 h12 => ?_
        · exact h5
        · with_reducible refine Keeps.step (Keeps.ofSame (State.setCore_same _ _ _) (by decide)) ?_
          exact h12
      clear_value v6
      refine Keeps.have v7 ?_ fun h13 => ?_
      · with_reducible refine Keeps.step (Keeps.ofSame (State.enableCores_same _ _) (by decide)) ?_
        exact h9
      clear_value v7
      with_reducible refine Keeps.step (Keeps.ofSame (State.setDie_same _ _ _) (by decide)) ?_
      exact h13
  clear_value v1
  with_reducible refine Keeps.step (State.bringEnd_keeps _ _) ?_
  exact h2

theorem State.bringChan_keeps (x1 : BringUp) (x2 : State) (x3 : Nat) :
    Keeps x2 (State.bringChan x1 x2 x3) := by
  unfold State.bringChan
  extract_lets v0 v1
  refine Keeps.have v1 ?_ fun h2 => ?_
  · with_reducible refine Keeps.step (Keeps.ofSame (State.setChan_same _ _ _) (by decide)) ?_
    exact Keeps.refl _
  clear_value v1
  refine Keeps.ite ?_ ?_
  · exact Keeps.refl _
  · split
    · rename_i e3 e4
      with_reducible refine Keeps.step (State.channelFail_keeps _ _) ?_
      exact h2
    · rename_i e5 e6 e7
      extract_lets v8
      refine Keeps.have v8 ?_ fun h9 => ?_
      · with_reducible refine Keeps.step (Keeps.ofSame (State.setChan_same _ _ _) (by decide)) ?_
        exact h2
      clear_value v8
      refine Keeps.ite ?_ ?_
      · exact h9
      · refine Keeps.ite ?_ ?_
        · with_reducible refine Keeps.step (State.channelFail_keeps _ _) ?_
          exact h9
        · with_reducible refine Keeps.step (State.channelIn_keeps _ _) ?_
          exact h9

theorem State.lightUp_keeps (x1 : BringUp) (x2 : State) :
    Keeps x2 (State.lightUp x1 x2) := by
  unfold State.lightUp
  refine Keeps.foldl ?_ fun q0 y1 h2 => ?_
  · exact Keeps.refl _
  · extract_lets v3 v4 v5
    refine Keeps.ite ?_ ?_
    · with_reducible refine Keeps.step (State.laserPut_keeps _ _ _) ?_
      exact h2
    · exact h2

theorem State.groundTrain_keeps (x1 : BringUp) (x2 : State) :
    Keeps x2 (State.groundTrain x1 x2) := by
  unfold State.groundTrain
  extract_lets v0 v1 v2 v3
  refine Keeps.have v1 ?_ fun h4 => ?_
  · dsimp only [v1]
    with_reducible refine Keeps.record rfl ?_ ?_
    · exact Keeps.of_eq rfl rfl rfl rfl
    exact Keeps.refl _
  clear_value v1
  refine Keeps.have v2 ?_ fun h5 => ?_
  · refine Keeps.foldl ?_ fun q6 y7 h8 => ?_
    · exact h4
    · refine Keeps.ite ?_ ?_
      · with_reducible refine Keeps.step (Keeps.ofSame (State.pairTrains_same _ _) (by decide)) ?_
        with_reducible refine Keeps.step (Keeps.ofSame (State.setRegion_same _ _ _) (by decide)) ?_
        exact h8
      · exact h8
  clear_value v2
  refine Keeps.have v3 ?_ fun h9 => ?_
  · refine Keeps.foldl ?_ fun q10 y11 h12 => ?_
    · exact h5
    · refine Keeps.ite ?_ ?_
      · exact h12
      · refine Keeps.foldl ?_ fun q13 y14 h15 => ?_
        · exact h12
        · refine Keeps.ite ?_ ?_
          · extract_lets v16 v17 v18
            refine Keeps.have v17 ?_ fun h19 => ?_
            · with_reducible refine Keeps.step (Keeps.ofSame (State.sendIdent_same _ _ _ _ _ _ _) (by decide)) ?_
              with_reducible refine Keeps.step (Keeps.ofSame (State.setPath_same _ _ _ _ _) (by decide)) ?_
              exact h15
            clear_value v17
            refine Keeps.have v18 ?_ fun h20 => ?_
            · with_reducible refine Keeps.step (State.bump_keeps _ _) ?_
              exact h19
            clear_value v18
            refine Keeps.ite ?_ ?_
            · exact h20
            · with_reducible refine Keeps.step (State.mapRecord_keeps _ _) ?_
              exact h20
          · extract_lets v21 v22
            refine Keeps.have v22 ?_ fun h23 => ?_
            · with_reducible refine Keeps.step (Keeps.ofSame (State.sendIdent_same _ _ _ _ _ _ _) (by decide)) ?_
              with_reducible refine Keeps.step (Keeps.ofSame (State.setPath_same _ _ _ _ _) (by decide)) ?_
              exact h15
            clear_value v22
            with_reducible refine Keeps.record rfl ?_ ?_
            · exact Keeps.mapLe rfl rfl (List.length_filter_le _ _) rfl
            exact h23
  clear_value v3
  with_reducible refine Keeps.step (Keeps.ofSame (State.restLanes_same _) (by decide)) ?_
  exact h9

theorem State.bring9_keeps (x1 : BringUp) (x2 : State) :
    Keeps x2 (State.bring9 x1 x2) := by
  unfold State.bring9
  extract_lets v0 v1 v2 v3
  refine Keeps.have v1 ?_ fun h4 => ?_
  · refine Keeps.foldl ?_ fun q5 y6 h7 => ?_
    · exact Keeps.refl _
    · with_reducible refine Keeps.step (Keeps.ofSame (State.bringPolder_same _ _ _) (by decide)) ?_
      exact h7
  clear_value v1
  refine Keeps.have v2 ?_ fun h8 => ?_
  · refine Keeps.foldl ?_ fun q9 y10 h11 => ?_
    · with_reducible refine Keeps.step (State.setReg_keeps _ _ _) ?_
      exact h4
    · with_reducible refine Keeps.step (State.bringChan_keeps _ _ _) ?_
      exact h11
  clear_value v2
  refine Keeps.have v3 ?_ fun h12 => ?_
  · refine Keeps.ite ?_ ?_
    · exact Keeps.refl _
    · with_reducible refine Keeps.step (Keeps.ofSame (State.groundStart_same _) (by decide)) ?_
      with_reducible refine Keeps.step (Keeps.ofSame (State.reserveTrace_same _) (by decide)) ?_
      exact h8
  clear_value v3
  refine Keeps.ite ?_ ?_
  · with_reducible refine Keeps.step (State.bringEnd_keeps _ _) ?_
    with_reducible refine Keeps.step (State.groundTrain_keeps _ _) ?_
    with_reducible refine Keeps.step (State.lightUp_keeps _ _) ?_
    exact h12
  · exact h12

theorem execLaserWaitTimeout_keeps (x1 : State) :
    OutKeeps x1 (execLaserWaitTimeout x1) := by
  unfold execLaserWaitTimeout
  extract_lets v0 v1 v2
  refine OutKeeps.have v1 ?_ fun h3 => ?_
  · refine Keeps.foldl ?_ fun q4 y5 h6 => ?_
    · exact Keeps.refl _
    · extract_lets v7
      refine Keeps.ite ?_ ?_
      · with_reducible refine Keeps.step (Keeps.ofSame (State.parkRegion_same _ _) (by decide)) ?_
        with_reducible refine Keeps.step (Keeps.ofSame (State.setRegion_same _ _ _) (by decide)) ?_
        exact h6
      · exact h6
  clear_value v1
  refine OutKeeps.ite ?_ ?_
  · refine OutKeeps.next ?_
    exact Keeps.refl _
  · refine OutKeeps.next ?_
    with_reducible refine Keeps.step (State.bringEnd_keeps _ _) ?_
    with_reducible refine Keeps.step (Keeps.ofSame (State.restLanes_same _) (by decide)) ?_
    with_reducible refine Keeps.step (Keeps.ofSame (State.setRegion_same _ _ _) (by decide)) ?_
    exact h3

theorem State.bring10_keeps (x1 : State) :
    Keeps x1 (State.bring10 x1) := by
  unfold State.bring10
  with_reducible refine Keeps.step (State.bringEnd_keeps _ _) ?_
  refine Keeps.foldl ?_ fun q0 y1 h2 => ?_
  · exact Keeps.refl _
  · with_reducible refine Keeps.step (State.reportSite_keeps _ _) ?_
    exact h2

theorem State.bring11_keeps (x1 : BringUp) (x2 : State) :
    Keeps x2 (State.bring11 x1 x2) := by
  unfold State.bring11
  with_reducible refine Keeps.step (State.bringEnd_keeps _ _) ?_
  refine Keeps.foldl ?_ fun q0 y1 h2 => ?_
  · exact Keeps.refl _
  · refine Keeps.ite ?_ ?_
    · exact h2
    · refine Keeps.ite ?_ ?_
      · extract_lets v3 v4
        refine Keeps.have v4 ?_ fun h5 => ?_
        · with_reducible refine Keeps.step (Keeps.ofSame (State.setDie_same _ _ _) (by decide)) ?_
          exact h2
        clear_value v4
        with_reducible refine Keeps.step (State.reportSite_keeps _ _) ?_
        exact h5
      · with_reducible refine Keeps.step (Keeps.ofSame (State.setPair_same _ _) (by decide)) ?_
        with_reducible refine Keeps.step (State.setReg_keeps _ _ _) ?_
        exact h2

theorem State.bring12_keeps (x1 : State) :
    Keeps x1 (State.bring12 x1) := by
  unfold State.bring12
  with_reducible refine Keeps.step (State.bringEnd_keeps _ _) ?_
  refine Keeps.foldl ?_ fun q0 y1 h2 => ?_
  · exact Keeps.refl _
  · extract_lets v3
    refine Keeps.ite ?_ ?_
    · with_reducible refine Keeps.step (Keeps.ofSame (State.signal_same _ _) (by decide)) ?_
      with_reducible refine Keeps.step (State.arriveUp_keeps _ _) ?_
      with_reducible refine Keeps.step (Keeps.ofSame (State.setPort_same _ _ _) (by decide)) ?_
      exact h2
    · exact h2

theorem State.bring13_keeps (x1 : State) :
    Keeps x1 (State.bring13 x1) := by
  unfold State.bring13
  with_reducible refine Keeps.step (State.bringEnd_keeps _ _) ?_
  with_reducible refine Keeps.step (State.bootField_keeps _ _ _ _) ?_
  with_reducible refine Keeps.step (State.setReg_keeps _ _ _) ?_
  exact Keeps.refl _

theorem State.bringStep_keeps (x1 : BringUp) (x2 : State) (x3 : Nat) :
    Keeps x2 (State.bringStep x1 x2 x3) := by
  unfold State.bringStep
  refine Keeps.ite ?_ ?_
  · exact Keeps.refl _
  · split
    · rename_i e0
      with_reducible refine Keeps.step (State.bring2_keeps _ _) ?_
      exact Keeps.refl _
    · rename_i e1
      with_reducible refine Keeps.step (State.bring3_keeps _) ?_
      exact Keeps.refl _
    · rename_i e2
      with_reducible refine Keeps.step (State.bring4_keeps _) ?_
      exact Keeps.refl _
    · rename_i e3
      with_reducible refine Keeps.step (State.bring5_keeps _ _) ?_
      exact Keeps.refl _
    · rename_i e4
      with_reducible refine Keeps.step (State.bring6_keeps _ _) ?_
      exact Keeps.refl _
    · rename_i e5
      with_reducible refine Keeps.step (State.bring7_keeps _) ?_
      exact Keeps.refl _
    · rename_i e6
      with_reducible refine Keeps.step (State.bring8_keeps _) ?_
      exact Keeps.refl _
    · rename_i e7
      with_reducible refine Keeps.step (State.bring9_keeps _ _) ?_
      exact Keeps.refl _
    · rename_i e8
      with_reducible refine Keeps.step (State.bring10_keeps _) ?_
      exact Keeps.refl _
    · rename_i e9
      with_reducible refine Keeps.step (State.bring11_keeps _ _) ?_
      exact Keeps.refl _
    · rename_i e10
      with_reducible refine Keeps.step (State.bring12_keeps _) ?_
      exact Keeps.refl _
    · rename_i e11
      with_reducible refine Keeps.step (State.bring13_keeps _) ?_
      exact Keeps.refl _
    · rename_i e12 e13 e14 e15 e16 e17 e18 e19 e20 e21 e22 e23 e24
      exact Keeps.refl _

theorem execBringUp_keeps (x1 : BringUp) (x2 : State) :
    OutKeeps x2 (execBringUp x1 x2) := by
  unfold execBringUp
  refine OutKeeps.next ?_
  refine Keeps.foldl ?_ fun q0 y1 h2 => ?_
  · exact Keeps.refl _
  · refine Keeps.ite ?_ ?_
    · with_reducible refine Keeps.step (State.bringStep_keeps _ _ _) ?_
      exact h2
    · exact h2

end Sys2Proof.Machine
end

