-- ==== Sys2Proof/Laws/KeepFabric.lean ====
section
/-! SUPPORT. What the functions of Machine/Fabric.lean keep: the dictionary and the store in canonical form, the field map
bounded, the fuses, the seal and the rollback counters. -/

namespace Sys2Proof.Machine

open Sys2Proof

theorem State.badCrc_keeps (x1 : State) (x2 : Via) :
    Keeps x1 (State.badCrc x1 x2) := by
  unfold State.badCrc
  split
  · rename_i e0 e1
    with_reducible refine Keeps.step (State.bump_keeps _ _) ?_
    exact Keeps.refl _
  · rename_i e2 e3 e4 e5
    extract_lets v6 v7 v8
    refine Keeps.have v8 ?_ fun h9 => ?_
    · with_reducible refine Keeps.step (Keeps.ofSame (State.setPath_same _ _ _ _ _) (by decide)) ?_
      with_reducible refine Keeps.step (State.bump_keeps _ _) ?_
      exact Keeps.refl _
    clear_value v8
    refine Keeps.ite ?_ ?_
    · with_reducible refine Keeps.step (State.pathOut_keeps _ _ _ _) ?_
      exact h9
    · exact h9
  · rename_i e10 e11
    exact Keeps.refl _

theorem State.pairResend_keeps (x1 : State) (x2 : Nat) :
    Keeps x1 (State.pairResend x1 x2) := by
  unfold State.pairResend
  split
  · rename_i e0 e1 e2
    with_reducible refine Keeps.step (State.bump_keeps _ _) ?_
    with_reducible refine Keeps.record rfl ?_ ?_
    · exact Keeps.of_eq rfl rfl rfl rfl
    exact Keeps.refl _
  · rename_i e3 e4
    with_reducible refine Keeps.record rfl ?_ ?_
    · exact Keeps.of_eq rfl rfl rfl rfl
    exact Keeps.refl _

theorem State.arrivePair_keeps (x1 : State) (x2 : Packet) (x3 : Nat → Bool) :
    Keeps x1 (State.arrivePair x1 x2 x3) := by
  unfold State.arrivePair
  refine Keeps.ite ?_ ?_
  · with_reducible refine Keeps.step (State.bump_keeps _ _) ?_
    exact Keeps.refl _
  · refine Keeps.ite ?_ ?_
    · exact Keeps.refl _
    · refine Keeps.ite ?_ ?_
      · with_reducible refine Keeps.record rfl ?_ ?_
        · exact Keeps.of_eq rfl rfl rfl rfl
        exact Keeps.refl _
      · refine Keeps.ite ?_ ?_
        · with_reducible refine Keeps.record rfl ?_ ?_
          · exact Keeps.of_eq rfl rfl rfl rfl
          exact Keeps.refl _
        · refine Keeps.ite ?_ ?_
          · with_reducible refine Keeps.step (Keeps.ofSame (State.pairAcked_same _ _ _) (by decide)) ?_
            exact Keeps.refl _
          · refine Keeps.ite ?_ ?_
            · refine Keeps.ite ?_ ?_
              · with_reducible refine Keeps.step (State.pairResend_keeps _ _) ?_
                exact Keeps.refl _
              · refine Keeps.ite ?_ ?_
                · with_reducible refine Keeps.step (Keeps.ofSame (State.pairAcked_same _ _ _) (by decide)) ?_
                  exact Keeps.refl _
                · with_reducible refine Keeps.record rfl ?_ ?_
                  · exact Keeps.of_eq rfl rfl rfl rfl
                  exact Keeps.refl _
            · exact Keeps.refl _

theorem State.arrive_keeps {s0 s : State} {p : Packet} {mine : Nat → Bool} {good : State → State}
    (h : Keeps s0 s) (hg : ∀ t, Keeps s0 t → Keeps s0 (good t)) : Keeps s0 (s.arrive p mine good) := by
  unfold State.arrive
  repeat' split
  · exact h
  · exact Keeps.step (State.badCrc_keeps _ _) h
  · exact Keeps.step (State.arrivePair_keeps _ _ _) h
  · exact Keeps.step (State.bump_keeps _ _) h
  · exact Keeps.step (State.reply_keeps _ _ _ _) h
  · exact hg _ h
  · exact h
  · exact Keeps.step (State.bump_keeps _ _) h
  · exact hg _ h
  · exact h

theorem State.doRead_keeps (x1 : State) (x2 : Packet) (x3 : Bool) (x4 : List MemError) :
    Keeps x1 (State.doRead x1 x2 x3 x4) := by
  unfold State.doRead
  split
  · rename_i e0 e1 e2 e3
    with_reducible refine Keeps.step (State.reply_keeps _ _ _ _) ?_
    refine Keeps.fstOf e3 ?_
    with_reducible refine Keeps.step (State.admitPacket_keeps _ _ _ _ _ _) ?_
    exact Keeps.refl _
  · rename_i e4 e5 e6 e7
    refine Keeps.ite ?_ ?_
    · refine Keeps.fstOf e7 ?_
      with_reducible refine Keeps.step (State.admitPacket_keeps _ _ _ _ _ _) ?_
      exact Keeps.refl _
    · extract_lets v8 v9
      refine Keeps.have v8 ?_ fun h10 => ?_
      · with_reducible refine Keeps.step (State.memErrors_keeps _ _) ?_
        refine Keeps.fstOf e7 ?_
        with_reducible refine Keeps.step (State.admitPacket_keeps _ _ _ _ _ _) ?_
        exact Keeps.refl _
      clear_value v8
      refine Keeps.have v9 ?_ fun h11 => ?_
      · dsimp only [v9]
        split
        · rename_i e12 e13 e14 e15
          with_reducible refine Keeps.step (Keeps.ofSame (State.wake_same _ _ _) (by decide)) ?_
          exact h10
        · rename_i e16 e17
          exact h10
      clear_value v9
      split
      · rename_i e18 e19
        with_reducible refine Keeps.step (State.reply_keeps _ _ _ _) ?_
        exact h10
      · rename_i e20 e21 e22
        with_reducible refine Keeps.step (State.reply_keeps _ _ _ _) ?_
        exact h11

theorem execRead_keeps (x1 : Packet) (x2 : List MemError) (x3 : State) :
    OutKeeps x3 (execRead x1 x2 x3) := by
  unfold execRead
  refine OutKeeps.next ?_
  with_reducible refine State.arrive_keeps ?_ ?_
  · exact Keeps.refl _
  · intro y0 h1
    with_reducible refine Keeps.step (State.doRead_keeps _ _ _ _) ?_
    exact h1

theorem execWrite_keeps (x1 : Packet) (x2 : State) :
    OutKeeps x2 (execWrite x1 x2) := by
  unfold execWrite
  refine OutKeeps.next ?_
  with_reducible refine State.arrive_keeps ?_ ?_
  · exact Keeps.refl _
  · intro y0 h1
    with_reducible refine Keeps.step (State.doWrite_keeps _ _ _) ?_
    exact h1

theorem execFlag_keeps (x1 : Packet) (x2 : State) :
    OutKeeps x2 (execFlag x1 x2) := by
  unfold execFlag
  refine OutKeeps.next ?_
  with_reducible refine State.arrive_keeps ?_ ?_
  · exact Keeps.refl _
  · intro y0 h1
    with_reducible refine Keeps.step (State.doFlag_keeps _ _ _) ?_
    exact h1

theorem execFlagEntryTimeout_keeps (x1 : Fin 4096) (x2 : Nat) (x3 : Fin 4) (x4 : State) :
    OutKeeps x4 (execFlagEntryTimeout x1 x2 x3 x4) := by
  unfold execFlagEntryTimeout
  split
  · rename_i e0 e1 e2
    refine OutKeeps.next ?_
    with_reducible refine when_keeps ?_ ?_
    · with_reducible refine Keeps.step (State.bump_keeps _ _) ?_
      with_reducible refine Keeps.step (Keeps.ofSame (State.dropTracker_same _ _ _ _) (by decide)) ?_
      exact Keeps.refl _
    · exact Keeps.refl _
  · rename_i e3 e4
    refine OutKeeps.next ?_
    exact Keeps.refl _

theorem execReplyCacheGuardEnd_keeps (x1 : Fin 12) (x2 : State) :
    OutKeeps x2 (execReplyCacheGuardEnd x1 x2) :=
  OutKeeps.ofSame (execReplyCacheGuardEnd_same _ _) (by decide)

theorem State.atomicPacket_keeps (x1 : State) (x2 : Packet) (x3 : Nat) :
    Keeps x1 (State.atomicPacket x1 x2 x3) := by
  unfold State.atomicPacket
  with_reducible refine State.arrive_keeps ?_ ?_
  · exact Keeps.refl _
  · intro y0 h1
    refine Keeps.ite ?_ ?_
    · with_reducible refine Keeps.step (State.reply_keeps _ _ _ _) ?_
      exact h1
    · refine Keeps.ite ?_ ?_
      · with_reducible refine Keeps.step (State.doAtomic_keeps _ _) ?_
        exact h1
      · exact h1

theorem execAdd32_keeps (x1 : Packet) (x2 : State) :
    OutKeeps x2 (execAdd32 x1 x2) := by
  unfold execAdd32
  refine OutKeeps.next ?_
  with_reducible refine Keeps.step (State.atomicPacket_keeps _ _ _) ?_
  exact Keeps.refl _

theorem execAdd64_keeps (x1 : Packet) (x2 : State) :
    OutKeeps x2 (execAdd64 x1 x2) := by
  unfold execAdd64
  refine OutKeeps.next ?_
  with_reducible refine Keeps.step (State.atomicPacket_keeps _ _ _) ?_
  exact Keeps.refl _

theorem execSwap32_keeps (x1 : Packet) (x2 : State) :
    OutKeeps x2 (execSwap32 x1 x2) := by
  unfold execSwap32
  refine OutKeeps.next ?_
  with_reducible refine Keeps.step (State.atomicPacket_keeps _ _ _) ?_
  exact Keeps.refl _

theorem execSwap64_keeps (x1 : Packet) (x2 : State) :
    OutKeeps x2 (execSwap64 x1 x2) := by
  unfold execSwap64
  refine OutKeeps.next ?_
  with_reducible refine Keeps.step (State.atomicPacket_keeps _ _ _) ?_
  exact Keeps.refl _

theorem execCas32_keeps (x1 : Packet) (x2 : State) :
    OutKeeps x2 (execCas32 x1 x2) := by
  unfold execCas32
  refine OutKeeps.next ?_
  with_reducible refine Keeps.step (State.atomicPacket_keeps _ _ _) ?_
  exact Keeps.refl _

theorem execCas64_keeps (x1 : Packet) (x2 : State) :
    OutKeeps x2 (execCas64 x1 x2) := by
  unfold execCas64
  refine OutKeeps.next ?_
  with_reducible refine Keeps.step (State.atomicPacket_keeps _ _ _) ?_
  exact Keeps.refl _

theorem execUmax32_keeps (x1 : Packet) (x2 : State) :
    OutKeeps x2 (execUmax32 x1 x2) := by
  unfold execUmax32
  refine OutKeeps.next ?_
  with_reducible refine Keeps.step (State.atomicPacket_keeps _ _ _) ?_
  exact Keeps.refl _

theorem execUmax64_keeps (x1 : Packet) (x2 : State) :
    OutKeeps x2 (execUmax64 x1 x2) := by
  unfold execUmax64
  refine OutKeeps.next ?_
  with_reducible refine Keeps.step (State.atomicPacket_keeps _ _ _) ?_
  exact Keeps.refl _

theorem execUmin32_keeps (x1 : Packet) (x2 : State) :
    OutKeeps x2 (execUmin32 x1 x2) := by
  unfold execUmin32
  refine OutKeeps.next ?_
  with_reducible refine Keeps.step (State.atomicPacket_keeps _ _ _) ?_
  exact Keeps.refl _

theorem execUmin64_keeps (x1 : Packet) (x2 : State) :
    OutKeeps x2 (execUmin64 x1 x2) := by
  unfold execUmin64
  refine OutKeeps.next ?_
  with_reducible refine Keeps.step (State.atomicPacket_keeps _ _ _) ?_
  exact Keeps.refl _

theorem execOr32_keeps (x1 : Packet) (x2 : State) :
    OutKeeps x2 (execOr32 x1 x2) := by
  unfold execOr32
  refine OutKeeps.next ?_
  with_reducible refine Keeps.step (State.atomicPacket_keeps _ _ _) ?_
  exact Keeps.refl _

theorem execOr64_keeps (x1 : Packet) (x2 : State) :
    OutKeeps x2 (execOr64 x1 x2) := by
  unfold execOr64
  refine OutKeeps.next ?_
  with_reducible refine Keeps.step (State.atomicPacket_keeps _ _ _) ?_
  exact Keeps.refl _

theorem execAnd32_keeps (x1 : Packet) (x2 : State) :
    OutKeeps x2 (execAnd32 x1 x2) := by
  unfold execAnd32
  refine OutKeeps.next ?_
  with_reducible refine Keeps.step (State.atomicPacket_keeps _ _ _) ?_
  exact Keeps.refl _

theorem execAnd64_keeps (x1 : Packet) (x2 : State) :
    OutKeeps x2 (execAnd64 x1 x2) := by
  unfold execAnd64
  refine OutKeeps.next ?_
  with_reducible refine Keeps.step (State.atomicPacket_keeps _ _ _) ?_
  exact Keeps.refl _

theorem execInvalidate_keeps (x1 : Packet) (x2 : State) :
    OutKeeps x2 (execInvalidate x1 x2) := by
  unfold execInvalidate
  refine OutKeeps.next ?_
  with_reducible refine State.arrive_keeps ?_ ?_
  · exact Keeps.refl _
  · intro y0 h1
    extract_lets v2 v3 v4
    refine Keeps.ite ?_ ?_
    · with_reducible refine Keeps.step (State.reply_keeps _ _ _ _) ?_
      exact h1
    · refine Keeps.ite ?_ ?_
      · with_reducible refine Keeps.step (State.reply_keeps _ _ _ _) ?_
        exact h1
      · with_reducible refine Keeps.step (State.reply_keeps _ _ _ _) ?_
        with_reducible refine Keeps.step (Keeps.ofSame (State.uncache_same _ _ _ _) (by decide)) ?_
        exact h1

theorem execLineCacheFlush_keeps (x1 : Nat) (x2 : State) :
    OutKeeps x2 (execLineCacheFlush x1 x2) :=
  OutKeeps.ofSame (execLineCacheFlush_same _ _) (by decide)

theorem execProbe_keeps (x1 : Packet) (x2 : State) :
    OutKeeps x2 (execProbe x1 x2) := by
  unfold execProbe
  refine OutKeeps.next ?_
  with_reducible refine State.arrive_keeps ?_ ?_
  · exact Keeps.refl _
  · intro y0 h1
    extract_lets v2
    refine Keeps.ite ?_ ?_
    · dsimp only [v2]
      with_reducible refine Keeps.step (Keeps.ofSame (State.respond_same _ _) (by decide)) ?_
      exact h1
    · refine Keeps.ite ?_ ?_
      · dsimp only [v2]
        with_reducible refine Keeps.step (Keeps.ofSame (State.respond_same _ _) (by decide)) ?_
        exact h1
      · refine Keeps.ite ?_ ?_
        · dsimp only [v2]
          with_reducible refine Keeps.step (Keeps.ofSame (State.respond_same _ _) (by decide)) ?_
          exact h1
        · split
          · rename_i e3 e4 e5
            dsimp only [v2]
            with_reducible refine Keeps.step (Keeps.ofSame (State.respond_same _ _) (by decide)) ?_
            exact h1
          · rename_i e6 e7
            dsimp only [v2]
            with_reducible refine Keeps.step (Keeps.ofSame (State.respond_same _ _) (by decide)) ?_
            exact h1

theorem State.takeResponse_keeps (x1 : State) (x2 : Packet) :
    Keeps x1 (State.takeResponse x1 x2) := by
  unfold State.takeResponse
  split
  · rename_i e0 e1
    exact Keeps.refl _
  · rename_i e2 e3 e4
    refine Keeps.ite ?_ ?_
    · exact Keeps.refl _
    · refine Keeps.ite ?_ ?_
      · with_reducible refine Keeps.step (Keeps.ofSame (State.updRequest_same _ _ _ _) (by decide)) ?_
        exact Keeps.refl _
      · refine Keeps.ite ?_ ?_
        · refine Keeps.ite ?_ ?_
          · with_reducible refine Keeps.step (Keeps.ofSame (State.updRequest_same _ _ _ _) (by decide)) ?_
            exact Keeps.refl _
          · with_reducible refine Keeps.step (State.resend_keeps _ _ _) ?_
            exact Keeps.refl _
        · extract_lets v5 v6 v7 v8 v9 v10
          refine Keeps.have v7 ?_ fun h11 => ?_
          · with_reducible refine Keeps.step (Keeps.ofSame (State.updRequest_same _ _ _ _) (by decide)) ?_
            exact Keeps.refl _
          clear_value v7
          refine Keeps.have v8 ?_ fun h12 => ?_
          · with_reducible refine Keeps.step (State.traceRequest_keeps _ _ _ _) ?_
            exact h11
          clear_value v8
          refine Keeps.have v9 ?_ fun h13 => ?_
          · with_reducible refine Keeps.step (Keeps.ofSame (State.dropRequests_same _ _ _) (by decide)) ?_
            exact h12
          clear_value v9
          refine Keeps.ite ?_ ?_
          · refine Keeps.ite ?_ ?_
            · with_reducible refine Keeps.record rfl ?_ ?_
              · exact Keeps.of_eq rfl rfl rfl rfl
              exact h13
            · refine Keeps.ite ?_ ?_
              · with_reducible refine Keeps.record rfl ?_ ?_
                · exact Keeps.of_eq rfl rfl rfl rfl
                exact h13
              · exact h13
          · refine Keeps.ite ?_ ?_
            · refine Keeps.ite ?_ ?_
              · with_reducible refine Keeps.step (Keeps.ofSame (State.fillCache_same _ _ _ _) (by decide)) ?_
                exact h12
              · exact h12
            · refine Keeps.ite ?_ ?_
              · with_reducible refine Keeps.step (State.flagsDue_keeps _ _) ?_
                exact h12
              · exact h12

theorem State.response_keeps (x1 : State) (x2 : Packet) (x3 : Nat) :
    Keeps x1 (State.response x1 x2 x3) := by
  unfold State.response
  with_reducible refine State.arrive_keeps ?_ ?_
  · exact Keeps.refl _
  · intro y0 h1
    with_reducible refine Keeps.step (State.takeResponse_keeps _ _) ?_
    exact h1

theorem execReadresp_keeps (x1 : Packet) (x2 : State) :
    OutKeeps x2 (execReadresp x1 x2) := by
  unfold execReadresp
  refine OutKeeps.next ?_
  with_reducible refine Keeps.step (State.response_keeps _ _ _) ?_
  exact Keeps.refl _

theorem execWriteack_keeps (x1 : Packet) (x2 : State) :
    OutKeeps x2 (execWriteack x1 x2) := by
  unfold execWriteack
  refine OutKeeps.next ?_
  with_reducible refine Keeps.step (State.response_keeps _ _ _) ?_
  exact Keeps.refl _

theorem execFlagack_keeps (x1 : Packet) (x2 : State) :
    OutKeeps x2 (execFlagack x1 x2) := by
  unfold execFlagack
  refine OutKeeps.next ?_
  with_reducible refine Keeps.step (State.response_keeps _ _ _) ?_
  exact Keeps.refl _

theorem execAtomicresp_keeps (x1 : Packet) (x2 : State) :
    OutKeeps x2 (execAtomicresp x1 x2) := by
  unfold execAtomicresp
  refine OutKeeps.next ?_
  with_reducible refine Keeps.step (State.response_keeps _ _ _) ?_
  exact Keeps.refl _

theorem execTriggerresp_keeps (x1 : Packet) (x2 : State) :
    OutKeeps x2 (execTriggerresp x1 x2) := by
  unfold execTriggerresp
  refine OutKeeps.next ?_
  with_reducible refine Keeps.step (State.response_keeps _ _ _) ?_
  exact Keeps.refl _

theorem execInvalack_keeps (x1 : Packet) (x2 : State) :
    OutKeeps x2 (execInvalack x1 x2) := by
  unfold execInvalack
  refine OutKeeps.next ?_
  with_reducible refine Keeps.step (State.response_keeps _ _ _) ?_
  exact Keeps.refl _

theorem execProberesp_keeps (x1 : Packet) (x2 : State) :
    OutKeeps x2 (execProberesp x1 x2) := by
  unfold execProberesp
  refine OutKeeps.next ?_
  with_reducible refine State.arrive_keeps ?_ ?_
  · exact Keeps.refl _
  · intro y0 h1
    split
    · rename_i e2 e3
      exact h1
    · rename_i e4 e5 e6
      refine Keeps.ite ?_ ?_
      · exact h1
      · refine Keeps.ite ?_ ?_
        · extract_lets v7
          refine Keeps.ite ?_ ?_
          · with_reducible refine Keeps.step (Keeps.ofSame (State.updRequest_same _ _ _ _) (by decide)) ?_
            exact h1
          · with_reducible refine Keeps.step (State.resend_keeps _ _ _) ?_
            exact h1
        · refine Keeps.ite ?_ ?_
          · with_reducible refine Keeps.step (State.takeResponse_keeps _ _) ?_
            exact h1
          · with_reducible refine Keeps.step (Keeps.ofSame (State.updRequest_same _ _ _ _) (by decide)) ?_
            exact h1

theorem State.pairTimeout_keeps (x1 : State) (x2 : Nat) :
    Keeps x1 (State.pairTimeout x1 x2) := by
  unfold State.pairTimeout
  split
  · rename_i e0 e1
    exact Keeps.refl _
  · rename_i e2 e3 e4
    refine Keeps.ite ?_ ?_
    · exact Keeps.refl _
    · refine Keeps.ite ?_ ?_
      · with_reducible refine Keeps.record rfl ?_ ?_
        · exact Keeps.of_eq rfl rfl rfl rfl
        exact Keeps.refl _
      · with_reducible refine Keeps.step (State.bump_keeps _ _) ?_
        with_reducible refine Keeps.record rfl ?_ ?_
        · exact Keeps.of_eq rfl rfl rfl rfl
        exact Keeps.refl _

theorem execResponseTimeout_keeps (x1 x2 : Nat) (x3 : State) :
    OutKeeps x3 (execResponseTimeout x1 x2 x3) := by
  unfold execResponseTimeout
  refine OutKeeps.ite ?_ ?_
  · refine OutKeeps.next ?_
    with_reducible refine Keeps.step (State.pairTimeout_keeps _ _) ?_
    exact Keeps.refl _
  · split
    · rename_i e0 e1
      refine OutKeeps.next ?_
      exact Keeps.refl _
    · rename_i e2 e3 e4
      refine OutKeeps.ite ?_ ?_
      · refine OutKeeps.next ?_
        exact Keeps.refl _
      · refine OutKeeps.ite ?_ ?_
        · refine OutKeeps.next ?_
          refine Keeps.ite ?_ ?_
          · with_reducible refine Keeps.step (Keeps.ofSame (State.dropRequests_same _ _ _) (by decide)) ?_
            exact Keeps.refl _
          · with_reducible refine Keeps.step (Keeps.ofSame (State.updRequest_same _ _ _ _) (by decide)) ?_
            exact Keeps.refl _
        · extract_lets v5 v6
          refine OutKeeps.have v5 ?_ fun h7 => ?_
          · with_reducible refine Keeps.step (State.bump_keeps _ _) ?_
            with_reducible refine Keeps.step (Keeps.ofSame (State.updRequest_same _ _ _ _) (by decide)) ?_
            exact Keeps.refl _
          clear_value v5
          refine OutKeeps.next ?_
          with_reducible refine Keeps.step (State.traceOpen_keeps _ _ _ _ _ _ _) ?_
          with_reducible refine Keeps.step (Keeps.ofSame (State.toPort_same _ _) (by decide)) ?_
          exact h7

theorem execBusyResend_keeps (x1 x2 : Nat) (x3 : State) :
    OutKeeps x3 (execBusyResend x1 x2 x3) := by
  unfold execBusyResend
  split
  · rename_i e0 e1 e2
    refine OutKeeps.next ?_
    with_reducible refine when_keeps ?_ ?_
    · with_reducible refine Keeps.step (State.resend_keeps _ _ _) ?_
      exact Keeps.refl _
    · exact Keeps.refl _
  · rename_i e3 e4
    refine OutKeeps.next ?_
    exact Keeps.refl _

theorem State.trigger_keeps {s0 s : State} {p : Packet} {mine : Nat → Bool} {run : State → State}
    (h : Keeps s0 s) (hr : ∀ t, Keeps s0 t → Keeps s0 (run t)) : Keeps s0 (s.trigger p mine run) := by
  refine State.arrive_keeps h fun t ht => ?_
  split
  · exact ht
  · refine State.again_keeps ht ?_
    split
    · exact (Keeps.step (State.bump_keeps _ _) ht).trans (State.reply_keeps _ _ _ _)
    · exact State.once_keeps ht hr

theorem execPing_keeps (x1 : Packet) (x2 : State) :
    OutKeeps x2 (execPing x1 x2) := by
  unfold execPing
  refine OutKeeps.next ?_
  with_reducible refine State.trigger_keeps ?_ ?_
  · exact Keeps.refl _
  · intro y0 h1
    with_reducible refine Keeps.step (State.settle_keeps _ _ _ _ _) ?_
    exact h1

theorem State.raiseFloor_keeps (x1 : State) (x2 x3 : Nat) :
    Keeps x1 (State.raiseFloor x1 x2 x3) := by
  unfold State.raiseFloor
  with_reducible refine Keeps.step (State.keep_keeps _ _ _) ?_
  with_reducible refine Keeps.record rfl ?_ ?_
  · exact Keeps.of_eq rfl rfl rfl rfl
  exact Keeps.refl _

theorem State.raiseFence_keeps (x1 : State) (x2 x3 : Nat) :
    Keeps x1 (State.raiseFence x1 x2 x3) := by
  unfold State.raiseFence
  refine Keeps.ite ?_ ?_
  · with_reducible refine Keeps.step (State.raiseFloor_keeps _ _ _) ?_
    exact Keeps.refl _
  · exact Keeps.refl _

theorem State.fenceReply_keeps (x1 : State) (x2 : Packet) :
    Keeps x1 (State.fenceReply x1 x2) := by
  unfold State.fenceReply
  extract_lets v0
  with_reducible refine Keeps.step (State.settle_keeps _ _ _ _ _) ?_
  exact Keeps.refl _

theorem execRaiseFence_keeps (x1 : Packet) (x2 : State) :
    OutKeeps x2 (execRaiseFence x1 x2) := by
  unfold execRaiseFence
  refine OutKeeps.next ?_
  with_reducible refine State.trigger_keeps ?_ ?_
  · exact Keeps.refl _
  · intro y0 h1
    extract_lets v2 v3 v4
    refine Keeps.have v4 ?_ fun h5 => ?_
    · with_reducible refine Keeps.step (State.raiseFence_keeps _ _ _) ?_
      exact h1
    clear_value v4
    refine Keeps.ite ?_ ?_
    · with_reducible refine Keeps.step (State.settle_keeps _ _ _ _ _) ?_
      exact h1
    · split
      · rename_i e6 e7 e8
        with_reducible refine Keeps.step (Keeps.ofSame (State.awaitFence_same _ _ _ _) (by decide)) ?_
        exact h5
      · rename_i e9 e10
        with_reducible refine Keeps.step (State.fenceReply_keeps _ _) ?_
        exact h5

theorem execFlushLineCache_keeps (x1 : Packet) (x2 : State) :
    OutKeeps x2 (execFlushLineCache x1 x2) := by
  unfold execFlushLineCache
  refine OutKeeps.next ?_
  with_reducible refine State.trigger_keeps ?_ ?_
  · exact Keeps.refl _
  · intro y0 h1
    with_reducible refine Keeps.step (State.settle_keeps _ _ _ _ _) ?_
    with_reducible refine Keeps.step (Keeps.ofSame (State.flushCache_same _) (by decide)) ?_
    exact h1

theorem execHostProcedure_keeps (x1 : Packet) (x2 : State) :
    OutKeeps x2 (execHostProcedure x1 x2) := by
  unfold execHostProcedure
  refine OutKeeps.next ?_
  with_reducible refine State.trigger_keeps ?_ ?_
  · exact Keeps.refl _
  · intro y0 h1
    extract_lets v2 v3 v4 v5
    refine Keeps.ite ?_ ?_
    · with_reducible refine Keeps.step (State.settle_keeps _ _ _ _ _) ?_
      exact h1
    · refine Keeps.ite ?_ ?_
      · with_reducible refine Keeps.step (State.settle_keeps _ _ _ _ _) ?_
        exact h1
      · split
        · rename_i e6 e7 e8
          with_reducible refine Keeps.step (State.settle_keeps _ _ _ _ _) ?_
          with_reducible refine Keeps.step (State.traceOpen_keeps _ _ _ _ _ _ _) ?_
          with_reducible refine Keeps.step (Keeps.ofSame (State.setPort_same _ _ _) (by decide)) ?_
          exact h1
        · rename_i e9 e10 e11
          with_reducible refine Keeps.step (State.reply_keeps _ _ _ _) ?_
          exact h1

theorem State.writeFence_keeps (x1 : State) (x2 x3 : Nat) :
    Keeps x1 (State.writeFence x1 x2 x3) := by
  unfold State.writeFence
  refine Keeps.ite ?_ ?_
  · refine Keeps.ite ?_ ?_
    · with_reducible refine Keeps.step (Keeps.ofSame (State.answer_same _ _) (by decide)) ?_
      exact Keeps.refl _
    · with_reducible refine Keeps.step (Keeps.ofSame (State.answer_same _ _) (by decide)) ?_
      with_reducible refine Keeps.step (State.keep_keeps _ _ _) ?_
      exact Keeps.refl _
  · refine Keeps.ite ?_ ?_
    · with_reducible refine Keeps.step (Keeps.ofSame (State.answer_same _ _) (by decide)) ?_
      exact Keeps.refl _
    · extract_lets v0 v1
      refine Keeps.have v1 ?_ fun h2 => ?_
      · with_reducible refine Keeps.step (State.raiseFloor_keeps _ _ _) ?_
        exact Keeps.refl _
      clear_value v1
      split
      · rename_i e3 e4 e5
        with_reducible refine Keeps.step (Keeps.ofSame (State.answer_same _ _) (by decide)) ?_
        with_reducible refine Keeps.step (Keeps.ofSame (State.awaitFence_same _ _ _ _) (by decide)) ?_
        exact h2
      · rename_i e6 e7
        with_reducible refine Keeps.step (Keeps.ofSame (State.answer_same _ _) (by decide)) ?_
        exact h2

theorem execClaimFenceWrite_keeps (x1 : Fin 48) (x2 : Nat) (x3 : State) :
    OutKeeps x3 (execClaimFenceWrite x1 x2 x3) := by
  unfold execClaimFenceWrite
  refine OutKeeps.next ?_
  with_reducible refine Keeps.step (State.writeFence_keeps _ _ _) ?_
  exact Keeps.refl _

theorem State.routeLoadStart_keeps (x1 : State) :
    Keeps x1 (State.routeLoadStart x1) := by
  unfold State.routeLoadStart
  extract_lets v0 v1
  refine Keeps.have v1 ?_ fun h2 => ?_
  · with_reducible refine Keeps.step (Keeps.ofSame (State.tierTouch_same _ _ _) (by decide)) ?_
    exact Keeps.refl _
  clear_value v1
  with_reducible refine Keeps.step (Keeps.ofSame (State.answer_same _ _) (by decide)) ?_
  with_reducible refine Keeps.step (State.setReg_keeps _ _ _) ?_
  with_reducible refine Keeps.record rfl ?_ ?_
  · exact Keeps.of_eq rfl rfl rfl rfl
  exact h2

theorem State.routeSwitchNow_keeps (x1 : State) :
    Keeps x1 (State.routeSwitchNow x1) := by
  unfold State.routeSwitchNow
  with_reducible refine Keeps.step (Keeps.ofSame (State.answer_same _ _) (by decide)) ?_
  with_reducible refine Keeps.step (State.setReg_keeps _ _ _) ?_
  with_reducible refine Keeps.step (State.setReg_keeps _ _ _) ?_
  with_reducible refine Keeps.step (Keeps.ofSame (State.setOld_same _ _) (by decide)) ?_
  with_reducible refine Keeps.step (State.traceOpen_keeps _ _ _ _ _ _ _) ?_
  exact Keeps.refl _

theorem State.writeRouteCommand_keeps (x1 : State) (x2 : Nat) :
    Keeps x1 (State.writeRouteCommand x1 x2) := by
  unfold State.writeRouteCommand
  refine Keeps.ite ?_ ?_
  · with_reducible refine Keeps.step (Keeps.ofSame (State.answer_same _ _) (by decide)) ?_
    exact Keeps.refl _
  · refine Keeps.ite ?_ ?_
    · with_reducible refine Keeps.step (Keeps.ofSame (State.answer_same _ _) (by decide)) ?_
      exact Keeps.refl _
    · refine Keeps.ite ?_ ?_
      · with_reducible refine Keeps.step (State.routeLoadStart_keeps _) ?_
        exact Keeps.refl _
      · with_reducible refine Keeps.step (State.routeSwitchNow_keeps _) ?_
        exact Keeps.refl _

theorem execRouteLoad_keeps (x1 : State) :
    OutKeeps x1 (execRouteLoad x1) := by
  unfold execRouteLoad
  refine OutKeeps.next ?_
  with_reducible refine Keeps.step (State.writeRouteCommand_keeps _ _) ?_
  exact Keeps.refl _

theorem execRouteSwitch_keeps (x1 : State) :
    OutKeeps x1 (execRouteSwitch x1) := by
  unfold execRouteSwitch
  refine OutKeeps.next ?_
  with_reducible refine Keeps.step (State.writeRouteCommand_keeps _ _) ?_
  exact Keeps.refl _

theorem execRouteLoadEnd_keeps (x1 : State) :
    OutKeeps x1 (execRouteLoadEnd x1) := by
  unfold execRouteLoadEnd
  split
  · rename_i e0 e1
    refine OutKeeps.next ?_
    exact Keeps.refl _
  · rename_i e2 e3 e4 e5
    extract_lets v6 v7 v8
    refine OutKeeps.next ?_
    with_reducible refine Keeps.step (State.setReg_keeps _ _ _) ?_
    with_reducible refine Keeps.record rfl ?_ ?_
    · exact Keeps.of_eq rfl rfl rfl rfl
    exact Keeps.refl _

theorem execEpochFree_keeps (x1 : Bool) (x2 : State) :
    OutKeeps x2 (execEpochFree x1 x2) := by
  unfold execEpochFree
  extract_lets v0 v1
  refine OutKeeps.ite ?_ ?_
  · refine OutKeeps.next ?_
    exact Keeps.refl _
  · refine OutKeeps.ite ?_ ?_
    · refine OutKeeps.next ?_
      with_reducible refine Keeps.step (Keeps.ofSame (State.setOld_same _ _) (by decide)) ?_
      exact Keeps.refl _
    · refine OutKeeps.ite ?_ ?_
      · refine OutKeeps.next ?_
        with_reducible refine Keeps.step (State.bump_keeps _ _) ?_
        with_reducible refine Keeps.record rfl ?_ ?_
        · exact Keeps.of_eq rfl rfl rfl rfl
        exact Keeps.refl _
      · refine OutKeeps.next ?_
        exact Keeps.refl _

theorem execFabricLaneTrained_keeps (x1 : Fin 4) (x2 : Fin 8) (x3 : State) :
    OutKeeps x3 (execFabricLaneTrained x1 x2 x3) :=
  OutKeeps.ofSame (execFabricLaneTrained_same _ _ _) (by decide)

theorem State.dykeAdmit_keeps (x1 : State) (x2 : Nat) (x3 : Packet) :
    Keeps x1 (State.dykeAdmit x1 x2 x3) := by
  unfold State.dykeAdmit
  extract_lets v0 v1
  refine Keeps.have v1 ?_ fun h2 => ?_
  · with_reducible refine Keeps.step (State.bump_keeps _ _) ?_
    exact Keeps.refl _
  clear_value v1
  refine Keeps.ite ?_ ?_
  · refine Keeps.ite ?_ ?_
    · with_reducible refine Keeps.step (State.bump_keeps _ _) ?_
      exact Keeps.refl _
    · with_reducible refine Keeps.step (State.reply_keeps _ _ _ _) ?_
      with_reducible refine Keeps.step (State.bump_keeps _ _) ?_
      exact Keeps.refl _
  · refine Keeps.ite ?_ ?_
    · refine Keeps.ite ?_ ?_
      · with_reducible refine Keeps.step (State.reply_keeps _ _ _ _) ?_
        exact h2
      · refine Keeps.ite ?_ ?_
        · with_reducible refine Keeps.step (State.doRead_keeps _ _ _ _) ?_
          exact h2
        · refine Keeps.ite ?_ ?_
          · with_reducible refine Keeps.step (State.doWrite_keeps _ _ _) ?_
            exact h2
          · with_reducible refine Keeps.step (State.doFlag_keeps _ _ _) ?_
            exact h2
    · with_reducible refine Keeps.step (State.reply_keeps _ _ _ _) ?_
      with_reducible refine Keeps.step (State.bump_keeps _ _) ?_
      exact Keeps.refl _

theorem State.dykeTake_keeps (x1 : State) (x2 : Nat) (x3 : Packet) :
    Keeps x1 (State.dykeTake x1 x2 x3) := by
  unfold State.dykeTake
  extract_lets v0
  refine Keeps.have v0 ?_ fun h1 => ?_
  · with_reducible refine Keeps.step (State.dykeAdmit_keeps _ _ _) ?_
    exact Keeps.refl _
  clear_value v0
  split
  · rename_i e2 e3 e4
    refine Keeps.ite ?_ ?_
    · with_reducible refine Keeps.step (Keeps.ofSame (State.setGuest_same _ _ _) (by decide)) ?_
      exact h1
    · exact h1
  · rename_i e5 e6
    exact h1

theorem execDykeGuestPacket_keeps (x1 : Fin 2) (x2 : Packet) (x3 : State) :
    OutKeeps x3 (execDykeGuestPacket x1 x2 x3) := by
  unfold execDykeGuestPacket
  extract_lets v0 v1 v2 v3
  refine OutKeeps.ite ?_ ?_
  · refine OutKeeps.next ?_
    exact Keeps.refl _
  · refine OutKeeps.ite ?_ ?_
    · refine OutKeeps.next ?_
      with_reducible refine Keeps.step (State.badCrc_keeps _ _) ?_
      exact Keeps.refl _
    · refine OutKeeps.ite ?_ ?_
      · refine OutKeeps.next ?_
        with_reducible refine Keeps.step (State.addReg_keeps _ _ _) ?_
        with_reducible refine Keeps.step (Keeps.ofSame (State.setGuest_same _ _ _) (by decide)) ?_
        exact Keeps.refl _
      · refine OutKeeps.next ?_
        with_reducible refine Keeps.step (State.dykeTake_keeps _ _ _) ?_
        with_reducible refine Keeps.step (Keeps.ofSame (State.setGuest_same _ _ _) (by decide)) ?_
        exact Keeps.refl _

theorem State.dykeGoOn_keeps (x1 : State) (x2 x3 : Nat) :
    Keeps x1 (State.dykeGoOn x1 x2 x3) := by
  induction x3 generalizing x1 with
  | zero => exact Keeps.refl _
  | succ k ih =>
    unfold State.dykeGoOn
    dsimp only
    split
    · exact Keeps.refl _
    · split
      · exact Keeps.refl _
      · exact Keeps.trans (Keeps.step (State.dykeTake_keeps _ _ _) (Keeps.ofSame (State.setGuest_same _ _ _) (by decide))) (ih _)

theorem State.dykePeriod_keeps (x1 : State) :
    Keeps x1 (State.dykePeriod x1) := by
  unfold State.dykePeriod
  refine Keeps.foldl ?_ fun q0 y1 h2 => ?_
  · exact Keeps.refl _
  · extract_lets v3 v4
    with_reducible refine Keeps.step (State.dykeGoOn_keeps _ _ _) ?_
    with_reducible refine Keeps.step (Keeps.ofSame (State.setGuest_same _ _ _) (by decide)) ?_
    exact h2

theorem State.writeWindow_keeps (x1 : State) (x2 x3 x4 : Nat) :
    Keeps x1 (State.writeWindow x1 x2 x3 x4) := by
  unfold State.writeWindow
  extract_lets v0 v1
  refine Keeps.ite ?_ ?_
  · refine Keeps.ite ?_ ?_
    · with_reducible refine Keeps.step (Keeps.ofSame (State.answer_same _ _) (by decide)) ?_
      exact Keeps.refl _
    · refine Keeps.ite ?_ ?_
      · with_reducible refine Keeps.step (Keeps.ofSame (State.answer_same _ _) (by decide)) ?_
        exact Keeps.refl _
      · with_reducible refine Keeps.step (Keeps.ofSame (State.answer_same _ _) (by decide)) ?_
        with_reducible refine Keeps.step (State.keep_keeps _ _ _) ?_
        exact Keeps.refl _
  · refine Keeps.ite ?_ ?_
    · with_reducible refine Keeps.step (Keeps.ofSame (State.answer_same _ _) (by decide)) ?_
      exact Keeps.refl _
    · refine Keeps.ite ?_ ?_
      · with_reducible refine Keeps.step (Keeps.ofSame (State.answer_same _ _) (by decide)) ?_
        exact Keeps.refl _
      · with_reducible refine Keeps.step (Keeps.ofSame (State.answer_same _ _) (by decide)) ?_
        with_reducible refine Keeps.step (State.keep_keeps _ _ _) ?_
        exact Keeps.refl _

theorem execDykeWindowWrite_keeps (x1 : Fin 2) (x2 : Fin 32) (x3 : Nat) (x4 : State) :
    OutKeeps x4 (execDykeWindowWrite x1 x2 x3 x4) := by
  unfold execDykeWindowWrite
  refine OutKeeps.next ?_
  with_reducible refine Keeps.step (State.writeWindow_keeps _ _ _ _) ?_
  exact Keeps.refl _

end Sys2Proof.Machine
end

