-- ==== Sys2Proof/Laws/KeepDictionary.lean ====
section
/-! SUPPORT. What the functions of Machine/Dictionary.lean keep: the dictionary and the store in canonical form, the field map
bounded, the fuses, the seal and the rollback counters. -/

namespace Sys2Proof.Machine

open Sys2Proof

theorem State.writeKey_keeps (x1 : State) (x2 : Who) (x3 x4 : Nat) :
    Keeps x1 (State.writeKey x1 x2 x3 x4) := by
  unfold State.writeKey
  extract_lets v0 v1
  refine Keeps.ite ?_ ?_
  · with_reducible refine Keeps.step (Keeps.ofSame (State.answer_same _ _) (by decide)) ?_
    exact Keeps.refl _
  · refine Keeps.ite ?_ ?_
    · with_reducible refine Keeps.step (Keeps.ofSame (State.answer_same _ _) (by decide)) ?_
      exact Keeps.refl _
    · refine Keeps.ite ?_ ?_
      · with_reducible refine Keeps.step (Keeps.ofSame (State.answer_same _ _) (by decide)) ?_
        exact Keeps.refl _
      · with_reducible refine Keeps.step (Keeps.ofSame (State.answer_same _ _) (by decide)) ?_
        with_reducible refine Keeps.step (Keeps.ofSame (State.closeSessions_same _ _) (by decide)) ?_
        with_reducible refine Keeps.step (State.keep_keeps _ _ _) ?_
        exact Keeps.refl _

theorem execAccessKeyWrite_keeps (x1 : Fin 4) (x2 : Fin 16) (x3 : Nat) (x4 : State) :
    OutKeeps x4 (execAccessKeyWrite x1 x2 x3 x4) := by
  unfold execAccessKeyWrite
  refine OutKeeps.next ?_
  with_reducible refine Keeps.step (State.writeKey_keeps _ _ _ _) ?_
  exact Keeps.refl _

theorem State.writeSeal_keeps (x1 : State) (x2 : Nat) :
    Keeps x1 (State.writeSeal x1 x2) := by
  unfold State.writeSeal
  extract_lets v0
  refine Keeps.ite ?_ ?_
  · refine Keeps.ite ?_ ?_
    · with_reducible refine Keeps.step (Keeps.ofSame (State.answer_same _ _) (by decide)) ?_
      with_reducible refine Keeps.step (Keeps.ofSame (State.closeSessions_same _ _) (by decide)) ?_
      with_reducible refine State.setSec_keeps ?_ ?_
      · exact Keeps.refl _
      · exact ⟨rfl, fun _ => Nat.succ_ne_zero _, CountsUp.refl _, CountsUp.refl _⟩
    · with_reducible refine Keeps.step (Keeps.ofSame (State.answer_same _ _) (by decide)) ?_
      with_reducible refine State.setSec_keeps ?_ ?_
      · exact Keeps.refl _
      · exact SecKeeps.of_eq rfl rfl rfl rfl
  · refine Keeps.ite ?_ ?_
    · with_reducible refine Keeps.step (Keeps.ofSame (State.answer_same _ _) (by decide)) ?_
      with_reducible refine State.setSec_keeps ?_ ?_
      · exact Keeps.refl _
      · exact SecKeeps.of_eq rfl rfl rfl rfl
    · with_reducible refine Keeps.step (Keeps.ofSame (State.answer_same _ _) (by decide)) ?_
      exact Keeps.refl _

theorem execFieldSealArm_keeps (x1 : BitVec 32) (x2 : State) :
    OutKeeps x2 (execFieldSealArm x1 x2) := by
  unfold execFieldSealArm
  refine OutKeeps.next ?_
  with_reducible refine Keeps.step (State.writeSeal_keeps _ _) ?_
  exact Keeps.refl _

theorem execFieldSealConfirm_keeps (x1 : BitVec 32) (x2 : State) :
    OutKeeps x2 (execFieldSealConfirm x1 x2) := by
  unfold execFieldSealConfirm
  refine OutKeeps.next ?_
  with_reducible refine Keeps.step (State.writeSeal_keeps _ _) ?_
  exact Keeps.refl _

theorem execFieldSealArmExpiry_keeps (x1 : State) :
    OutKeeps x1 (execFieldSealArmExpiry x1) := by
  unfold execFieldSealArmExpiry
  refine OutKeeps.next ?_
  with_reducible refine State.setSec_keeps ?_ ?_
  · exact Keeps.refl _
  · exact SecKeeps.of_eq rfl rfl rfl rfl

theorem execRestoreDefaults_keeps (x1 : Nat) (x2 : State) :
    OutKeeps x2 (execRestoreDefaults x1 x2) :=
  OutKeeps.ofSame (execRestoreDefaults_same _ _) (by decide)

theorem State.writeSticky_keeps (x1 : State) (x2 x3 x4 : Nat) :
    Keeps x1 (State.writeSticky x1 x2 x3 x4) := by
  unfold State.writeSticky
  extract_lets v0
  with_reducible refine Keeps.step (Keeps.ofSame (State.answer_same _ _) (by decide)) ?_
  with_reducible refine Keeps.step (State.setReg_keeps _ _ _) ?_
  exact Keeps.refl _

theorem State.writePlain_keeps (x1 : State) (x2 : ObjRow) (x3 x4 x5 : Nat) :
    Keeps x1 (State.writePlain x1 x2 x3 x4 x5) := by
  unfold State.writePlain
  refine Keeps.ite ?_ ?_
  · with_reducible refine Keeps.step (Keeps.ofSame (State.answer_same _ _) (by decide)) ?_
    exact Keeps.refl _
  · refine Keeps.ite ?_ ?_
    · with_reducible refine Keeps.step (Keeps.ofSame (State.answer_same _ _) (by decide)) ?_
      exact Keeps.refl _
    · extract_lets v0 v1 v2
      refine Keeps.have v1 ?_ fun h3 => ?_
      · with_reducible refine Keeps.step (Keeps.ofSame (State.answer_same _ _) (by decide)) ?_
        with_reducible refine Keeps.step (State.keep_keeps _ _ _) ?_
        exact Keeps.refl _
      clear_value v1
      refine Keeps.ite ?_ ?_
      · with_reducible refine Keeps.record rfl ?_ ?_
        · exact Keeps.of_eq rfl rfl rfl rfl
        exact h3
      · exact h3

theorem State.writeIdle_keeps (x1 : State) (x2 : ObjRow) (x3 x4 x5 : Nat) :
    Keeps x1 (State.writeIdle x1 x2 x3 x4 x5) := by
  unfold State.writeIdle
  extract_lets v0
  refine Keeps.have v0 ?_ fun h1 => ?_
  · with_reducible refine Keeps.step (State.writePlain_keeps _ _ _ _ _) ?_
    exact Keeps.refl _
  clear_value v0
  refine Keeps.ite ?_ ?_
  · refine Keeps.foldl ?_ fun q2 y3 h4 => ?_
    · exact h1
    · with_reducible refine Keeps.step (Keeps.ofSame (State.touch_same _ _) (by decide)) ?_
      exact h4
  · exact h1

theorem State.writeObj_keeps (x1 : State) (x2 : Who) (x3 : ObjRow) (x4 x5 x6 : Nat) :
    Keeps x1 (State.writeObj x1 x2 x3 x4 x5 x6) := by
  unfold State.writeObj
  refine Keeps.ite ?_ ?_
  · with_reducible refine Keeps.step (State.writeSticky_keeps _ _ _ _) ?_
    exact Keeps.refl _
  · split
    · rename_i e0 e1
      with_reducible refine Keeps.step (Keeps.ofSame (State.writeRestore_same _ _) (by decide)) ?_
      exact Keeps.refl _
    · rename_i e2 e3
      with_reducible refine Keeps.step (State.writeKey_keeps _ _ _ _) ?_
      exact Keeps.refl _
    · rename_i e4 e5
      with_reducible refine Keeps.step (writeFrameLength_keeps _ _) ?_
      exact Keeps.refl _
    · rename_i e6 e7
      with_reducible refine Keeps.step (writeReferenceSource_keeps _ _) ?_
      exact Keeps.refl _
    · rename_i e8 e9
      with_reducible refine Keeps.step (State.writePoint_keeps _ _ _) ?_
      exact Keeps.refl _
    · rename_i e10 e11
      with_reducible refine Keeps.step (writePatternCommand_keeps _ _) ?_
      exact Keeps.refl _
    · rename_i e12 e13
      with_reducible refine Keeps.step (State.writeIdle_keeps _ _ _ _ _) ?_
      exact Keeps.refl _
    · rename_i e14 e15
      with_reducible refine Keeps.step (writeChannelCommand_keeps _ _) ?_
      exact Keeps.refl _
    · rename_i e16 e17
      with_reducible refine Keeps.step (State.writeLaserCommand_keeps _ _) ?_
      exact Keeps.refl _
    · rename_i e18 e19
      with_reducible refine Keeps.step (State.writeRegionCommand_keeps _ _) ?_
      exact Keeps.refl _
    · rename_i e20 e21
      with_reducible refine Keeps.step (State.writeCalCommand_keeps _ _) ?_
      exact Keeps.refl _
    · rename_i e22 e23
      with_reducible refine Keeps.step (State.writeRingSelect_keeps _ _ _) ?_
      exact Keeps.refl _
    · rename_i e24 e25
      with_reducible refine Keeps.step (State.writeWindow_keeps _ _ _ _) ?_
      exact Keeps.refl _
    · rename_i e26 e27
      with_reducible refine Keeps.step (State.writeWindow_keeps _ _ _ _) ?_
      exact Keeps.refl _
    · rename_i e28 e29
      with_reducible refine Keeps.step (State.writeRouteCommand_keeps _ _) ?_
      exact Keeps.refl _
    · rename_i e30 e31
      with_reducible refine Keeps.step (State.writeFence_keeps _ _ _) ?_
      exact Keeps.refl _
    · rename_i e32 e33
      with_reducible refine Keeps.step (Keeps.ofSame (State.writeLineCacheFlush_same _ _) (by decide)) ?_
      exact Keeps.refl _
    · rename_i e34 e35
      with_reducible refine Keeps.step (State.writePairCommand_keeps _ _) ?_
      exact Keeps.refl _
    · rename_i e36 e37
      with_reducible refine Keeps.step (Keeps.ofSame (State.writeTripClear_same _ _) (by decide)) ?_
      exact Keeps.refl _
    · rename_i e38 e39
      with_reducible refine Keeps.step (State.writePowerCommand_keeps _ _) ?_
      exact Keeps.refl _
    · rename_i e40 e41
      with_reducible refine Keeps.step (State.writeUpdate_keeps _ _) ?_
      exact Keeps.refl _
    · rename_i e42 e43
      with_reducible refine Keeps.step (State.writeSeal_keeps _ _) ?_
      exact Keeps.refl _
    · rename_i e44 e45
      with_reducible refine Keeps.step (State.writeDieBist_keeps _ _) ?_
      exact Keeps.refl _
    · rename_i e46 e47
      with_reducible refine Keeps.step (State.writeTrace_keeps _ _) ?_
      exact Keeps.refl _
    · rename_i e48 e49
      with_reducible refine Keeps.step (State.writeTraceCopy_keeps _ _) ?_
      exact Keeps.refl _
    · rename_i e50 e51
      with_reducible refine Keeps.step (State.writeDump_keeps _ _ _ _) ?_
      exact Keeps.refl _
    · rename_i e52 e53
      with_reducible refine Keeps.step (State.writeDump_keeps _ _ _ _) ?_
      exact Keeps.refl _
    · rename_i e54 e55
      with_reducible refine Keeps.step (State.writeDump_keeps _ _ _ _) ?_
      exact Keeps.refl _
    · rename_i e56 e57
      with_reducible refine Keeps.step (State.writeDump_keeps _ _ _ _) ?_
      exact Keeps.refl _
    · rename_i e58 e59
      with_reducible refine Keeps.step (State.writeFreeze_keeps _ _) ?_
      exact Keeps.refl _
    · rename_i e60 e61
      refine Keeps.ite ?_ ?_
      · with_reducible refine Keeps.step (Keeps.ofSame (State.answer_same _ _) (by decide)) ?_
        exact Keeps.refl _
      · with_reducible refine Keeps.step (State.writePlain_keeps _ _ _ _ _) ?_
        exact Keeps.refl _
    · rename_i e62 e63 e64 e65 e66 e67 e68 e69 e70 e71 e72 e73 e74 e75 e76 e77 e78 e79 e80 e81 e82 e83 e84 e85 e86 e87 e88 e89 e90 e91 e92 e93 e94
      with_reducible refine Keeps.step (State.writePlain_keeps _ _ _ _ _) ?_
      exact Keeps.refl _

theorem State.writeDict_keeps (x1 : State) (x2 : Who) (x3 x4 : Nat) (x5 : List Byte) :
    Keeps x1 (State.writeDict x1 x2 x3 x4 x5) := by
  unfold State.writeDict
  split
  · rename_i e0 e1 e2
    with_reducible refine Keeps.step (Keeps.ofSame (State.answer_same _ _) (by decide)) ?_
    exact Keeps.refl _
  · rename_i e3 e4 e5
    with_reducible refine Keeps.step (State.writeObj_keeps _ _ _ _ _ _) ?_
    exact Keeps.refl _

theorem State.serveWrite_keeps (x1 : State) (x2 : Who) (x3 x4 : Nat) (x5 : List Byte) :
    Keeps x1 (State.serveWrite x1 x2 x3 x4 x5).1 := by
  unfold State.serveWrite
  extract_lets v0
  refine Keeps.have v0 ?_ fun h1 => ?_
  · with_reducible refine Keeps.step (State.writeDict_keeps _ _ _ _ _) ?_
    exact Keeps.refl _
  clear_value v0
  dsimp only
  exact h1

theorem State.serveOpenOp_keeps (x1 : State) (x2 : Session) (x3 : List Byte) :
    Keeps x1 (State.serveOpenOp x1 x2 x3).1 := by
  unfold State.serveOpenOp
  extract_lets v0 v1
  split
  · rename_i e2 e3
    with_reducible refine Keeps.step (Keeps.ofSame (State.serveRead_same _ _ _ _ _) (by decide)) ?_
    exact Keeps.refl _
  · rename_i e4 e5
    with_reducible refine Keeps.step (State.serveWrite_keeps _ _ _ _ _) ?_
    exact Keeps.refl _
  · rename_i e6 e7
    with_reducible refine Keeps.step (Keeps.ofSame (State.serveRecord_same _ _ _ _ _) (by decide)) ?_
    exact Keeps.refl _
  · rename_i e8 e9
    refine Keeps.iteFst ?_ ?_
    · dsimp only
      exact Keeps.refl _
    · dsimp only
      with_reducible refine Keeps.step (Keeps.ofSame (State.closeSessions_same _ _) (by decide)) ?_
      exact Keeps.refl _
  · rename_i e10 e11 e12 e13 e14
    with_reducible refine Keeps.step (Keeps.ofSame (State.serveWatch_same _ _ _) (by decide)) ?_
    exact Keeps.refl _

theorem State.sendKept_keeps (x1 : State) (x2 x3 : Nat) (x4 x5 : List Byte) (x6 : Nat) (x7 : List Byte) :
    Keeps x1 (State.sendKept x1 x2 x3 x4 x5 x6 x7) := by
  unfold State.sendKept
  extract_lets v0 v1
  refine Keeps.have v1 ?_ fun h2 => ?_
  · dsimp only [v1]
    split
    · rename_i e3 e4 e5
      with_reducible refine Keeps.step (Keeps.ofSame (State.putSession_same _ _) (by decide)) ?_
      exact Keeps.refl _
    · rename_i e6 e7
      exact Keeps.refl _
  clear_value v1
  with_reducible refine Keeps.step (Keeps.ofSame (State.sendFrame_same _ _) (by decide)) ?_
  with_reducible refine Keeps.step (State.bump_keeps _ _) ?_
  exact h2

theorem State.serveOpenSession_keeps (x1 : State) (x2 : Nat) (x3 : Session) (x4 : List Byte) :
    Keeps x1 (State.serveOpenSession x1 x2 x3 x4) := by
  unfold State.serveOpenSession
  extract_lets v0 v1
  refine Keeps.ite ?_ ?_
  · with_reducible refine Keeps.step (State.bump_keeps _ _) ?_
    with_reducible refine Keeps.step (State.bump_keeps _ _) ?_
    exact Keeps.refl _
  · split
    · rename_i e2 e3 e4
      with_reducible refine Keeps.step (Keeps.ofSame (State.sendFrame_same _ _) (by decide)) ?_
      with_reducible refine Keeps.step (State.bump_keeps _ _) ?_
      exact Keeps.refl _
    · rename_i e5 e6
      refine Keeps.ite ?_ ?_
      · with_reducible refine Keeps.step (Keeps.ofSame (State.sendFrame_same _ _) (by decide)) ?_
        with_reducible refine Keeps.step (State.bump_keeps _ _) ?_
        with_reducible refine Keeps.step (State.bump_keeps _ _) ?_
        exact Keeps.refl _
      · split
        rename_i e7 e8 e9 e10 e11
        refine Keeps.ite ?_ ?_
        · split
          · rename_i e12 e13 e14
            with_reducible refine Keeps.step (Keeps.ofSame (State.putSession_same _ _) (by decide)) ?_
            with_reducible refine Keeps.step (Keeps.ofSame (State.fenceFor_same _ _) (by decide)) ?_
            refine Keeps.fstOf e11 ?_
            refine Keeps.iteFst ?_ ?_
            · with_reducible refine Keeps.step (State.serveOpenOp_keeps _ _ _) ?_
              exact Keeps.refl _
            · dsimp only
              exact Keeps.refl _
          · rename_i e15 e16
            refine Keeps.fstOf e11 ?_
            refine Keeps.iteFst ?_ ?_
            · with_reducible refine Keeps.step (State.serveOpenOp_keeps _ _ _) ?_
              exact Keeps.refl _
            · dsimp only
              exact Keeps.refl _
        · with_reducible refine Keeps.step (State.sendKept_keeps _ _ _ _ _ _ _) ?_
          refine Keeps.fstOf e11 ?_
          refine Keeps.iteFst ?_ ?_
          · with_reducible refine Keeps.step (State.serveOpenOp_keeps _ _ _) ?_
            exact Keeps.refl _
          · dsimp only
            exact Keeps.refl _

theorem State.servePending_keeps (x1 : State) (x2 : Nat) (x3 : Session) (x4 : List Byte) :
    Keeps x1 (State.servePending x1 x2 x3 x4) := by
  unfold State.servePending
  extract_lets v0 v1
  refine Keeps.have v0 ?_ fun h2 => ?_
  · with_reducible refine Keeps.step (State.bump_keeps _ _) ?_
    exact Keeps.refl _
  clear_value v0
  refine Keeps.ite ?_ ?_
  · with_reducible refine Keeps.step (Keeps.ofSame (State.sendFrame_same _ _) (by decide)) ?_
    exact h2
  · split
    · rename_i e3 e4
      with_reducible refine Keeps.step (Keeps.ofSame (State.sendFrame_same _ _) (by decide)) ?_
      with_reducible refine Keeps.step (State.bump_keeps _ _) ?_
      with_reducible refine Keeps.step (Keeps.ofSame (State.closeSessions_same _ _) (by decide)) ?_
      exact h2
    · rename_i e5 e6 e7
      with_reducible refine Keeps.step (Keeps.ofSame (State.sendFrame_same _ _) (by decide)) ?_
      with_reducible refine Keeps.step (Keeps.ofSame (State.putSession_same _ _) (by decide)) ?_
      exact h2

theorem State.recWrite_keeps (s : State) (n v : Nat) (b : List Byte) :
    Keeps s (match n with
      | 1 => s.writeRecLength v
      | 2 => s.writeRecOffset v
      | 3 => s.writeRecPiece b
      | _ => s.writeRecVerify v) := by
  split
  · exact State.writeRecLength_keeps _ _
  · exact State.writeRecOffset_keeps _ _
  · exact State.writeRecPiece_keeps _ _
  · exact State.writeRecVerify_keeps _ _

theorem State.serveRecovery_keeps (s : State) (f : List Byte) :
    ∀ t, s.serveRecovery f = some t → Keeps s t.1 := by
  intro t ht
  unfold State.serveRecovery at ht
  extract_lets idx sub mine v u at ht
  split at ht
  · split at ht
    · exact absurd ht (by simp)
    · split at ht
      · cases ht; exact Keeps.refl _
      · split at ht <;> (cases ht; exact Keeps.refl _)
  · split at ht
    · exact absurd ht (by simp)
    · split at ht
      · exact absurd ht (by simp)
      · split at ht
        · cases ht; exact Keeps.refl _
        · cases ht
          exact State.recWrite_keeps s sub v (fPayload f)
  · exact absurd ht (by simp)

theorem State.serveSessionless_keeps (x1 : State) (x2 : Nat) (x3 : List Byte) :
    Keeps x1 (State.serveSessionless x1 x2 x3) := by
  unfold State.serveSessionless
  extract_lets v0 v1 v2
  refine Keeps.ite ?_ ?_
  · with_reducible refine Keeps.step (State.bump_keeps _ _) ?_
    exact Keeps.refl _
  · refine Keeps.ite ?_ ?_
    · split
      · rename_i e3 e4
        with_reducible refine Keeps.step (State.bump_keeps _ _) ?_
        exact Keeps.refl _
      · rename_i e5 e6 e7 e8 e9
        dsimp only [v2]
        with_reducible refine Keeps.step (Keeps.ofSame (State.sendFrame_same _ _) (by decide)) ?_
        with_reducible refine Keeps.step (State.bump_keeps _ _) ?_
        with_reducible refine Keeps.step (Keeps.ofSame (State.setDap_same _ _) (by decide)) ?_
        refine Keeps.step (State.serveRecovery_keeps _ _ _ e9) ?_
        exact Keeps.refl _
    · refine Keeps.ite ?_ ?_
      · dsimp only [v2]
        with_reducible refine Keeps.step (Keeps.ofSame (State.sendFrame_same _ _) (by decide)) ?_
        with_reducible refine Keeps.step (State.bump_keeps _ _) ?_
        with_reducible refine Keeps.step (Keeps.ofSame (State.setDap_same _ _) (by decide)) ?_
        exact Keeps.refl _
      · refine Keeps.ite ?_ ?_
        · dsimp only [v2]
          with_reducible refine Keeps.step (Keeps.ofSame (State.sendFrame_same _ _) (by decide)) ?_
          with_reducible refine Keeps.step (State.bump_keeps _ _) ?_
          with_reducible refine Keeps.step (Keeps.ofSame (State.setDap_same _ _) (by decide)) ?_
          exact Keeps.refl _
        · split
          rename_i e10 e11 e12 e13 e14
          dsimp only [v2]
          with_reducible refine Keeps.step (Keeps.ofSame (State.sendFrame_same _ _) (by decide)) ?_
          with_reducible refine Keeps.step (State.bump_keeps _ _) ?_
          with_reducible refine Keeps.step (Keeps.ofSame (State.setDap_same _ _) (by decide)) ?_
          refine Keeps.fstOf e14 ?_
          split
          · rename_i e15 e16
            with_reducible refine Keeps.step (Keeps.ofSame (State.serveRead_same _ _ _ _ _) (by decide)) ?_
            exact Keeps.refl _
          · rename_i e17 e18
            with_reducible refine Keeps.step (Keeps.ofSame (State.serveRecord_same _ _ _ _ _) (by decide)) ?_
            exact Keeps.refl _
          · rename_i e19 e20 e21
            with_reducible refine Keeps.step (Keeps.ofSame (State.serveOpen_same _ _) (by decide)) ?_
            exact Keeps.refl _

theorem State.serve_keeps (x1 : State) (x2 : Nat) (x3 : List Byte) :
    Keeps x1 (State.serve x1 x2 x3) := by
  unfold State.serve
  extract_lets v0 v1
  refine Keeps.have v0 ?_ fun h2 => ?_
  · with_reducible refine Keeps.step (Keeps.ofSame (State.setDap_same _ _) (by decide)) ?_
    exact Keeps.refl _
  clear_value v0
  refine Keeps.ite ?_ ?_
  · exact h2
  · refine Keeps.ite ?_ ?_
    · with_reducible refine Keeps.step (State.bump_keeps _ _) ?_
      exact h2
    · refine Keeps.ite ?_ ?_
      · with_reducible refine Keeps.step (State.serveSessionless_keeps _ _ _) ?_
        exact h2
      · split
        · rename_i e3 e4
          with_reducible refine Keeps.step (Keeps.ofSame (State.sendFrame_same _ _) (by decide)) ?_
          with_reducible refine Keeps.step (State.bump_keeps _ _) ?_
          exact h2
        · rename_i e5 e6 e7
          refine Keeps.ite ?_ ?_
          · with_reducible refine Keeps.step (Keeps.ofSame (State.sendFrame_same _ _) (by decide)) ?_
            with_reducible refine Keeps.step (State.bump_keeps _ _) ?_
            exact h2
          · refine Keeps.ite ?_ ?_
            · with_reducible refine Keeps.step (State.serveOpenSession_keeps _ _ _ _) ?_
              exact h2
            · with_reducible refine Keeps.step (State.servePending_keeps _ _ _ _) ?_
              exact h2

theorem State.serveAs_keeps (x1 : State) (x2 x3 : Nat) (x4 : List Byte) :
    Keeps x1 (State.serveAs x1 x2 x3 x4) := by
  unfold State.serveAs
  refine Keeps.ite ?_ ?_
  · with_reducible refine Keeps.step (State.serve_keeps _ _ _) ?_
    exact Keeps.refl _
  · exact Keeps.refl _

theorem execDapRead_keeps (x1 : Fin 2) (x2 : List Byte) (x3 : State) :
    OutKeeps x3 (execDapRead x1 x2 x3) := by
  unfold execDapRead
  refine OutKeeps.next ?_
  with_reducible refine Keeps.step (State.serveAs_keeps _ _ _ _) ?_
  exact Keeps.refl _

theorem execDapWrite_keeps (x1 : Fin 2) (x2 : List Byte) (x3 : State) :
    OutKeeps x3 (execDapWrite x1 x2 x3) := by
  unfold execDapWrite
  refine OutKeeps.next ?_
  with_reducible refine Keeps.step (State.serveAs_keeps _ _ _ _) ?_
  exact Keeps.refl _

theorem execDapReadrecord_keeps (x1 : Fin 2) (x2 : List Byte) (x3 : State) :
    OutKeeps x3 (execDapReadrecord x1 x2 x3) := by
  unfold execDapReadrecord
  refine OutKeeps.next ?_
  with_reducible refine Keeps.step (State.serveAs_keeps _ _ _ _) ?_
  exact Keeps.refl _

theorem execDapOpen_keeps (x1 : Fin 2) (x2 : List Byte) (x3 : State) :
    OutKeeps x3 (execDapOpen x1 x2 x3) := by
  unfold execDapOpen
  refine OutKeeps.next ?_
  with_reducible refine Keeps.step (State.serveAs_keeps _ _ _ _) ?_
  exact Keeps.refl _

theorem execDapAuth_keeps (x1 : Fin 2) (x2 : List Byte) (x3 : State) :
    OutKeeps x3 (execDapAuth x1 x2 x3) := by
  unfold execDapAuth
  refine OutKeeps.next ?_
  with_reducible refine Keeps.step (State.serveAs_keeps _ _ _ _) ?_
  exact Keeps.refl _

theorem execDapClose_keeps (x1 : Fin 2) (x2 : List Byte) (x3 : State) :
    OutKeeps x3 (execDapClose x1 x2 x3) := by
  unfold execDapClose
  refine OutKeeps.next ?_
  with_reducible refine Keeps.step (State.serveAs_keeps _ _ _ _) ?_
  exact Keeps.refl _

theorem execDapWatch_keeps (x1 : Fin 2) (x2 : List Byte) (x3 : State) :
    OutKeeps x3 (execDapWatch x1 x2 x3) := by
  unfold execDapWatch
  refine OutKeeps.next ?_
  with_reducible refine Keeps.step (State.serveAs_keeps _ _ _ _) ?_
  exact Keeps.refl _

theorem execSessionPendingExpiry_keeps (x1 : BitVec 32) (x2 : State) :
    OutKeeps x2 (execSessionPendingExpiry x1 x2) :=
  OutKeeps.ofSame (execSessionPendingExpiry_same _ _) (by decide)

theorem execSessionIdleExpiry_keeps (x1 : BitVec 32) (x2 : State) :
    OutKeeps x2 (execSessionIdleExpiry x1 x2) :=
  OutKeeps.ofSame (execSessionIdleExpiry_same _ _) (by decide)

theorem execNetworkConfigApply_keeps (x1 : State) :
    OutKeeps x1 (execNetworkConfigApply x1) :=
  OutKeeps.ofSame (execNetworkConfigApply_same _) (by decide)

theorem execFieldNetworkLink_keeps (x1 : Fin 2) (x2 : Bool) (x3 : State) :
    OutKeeps x3 (execFieldNetworkLink x1 x2 x3) :=
  OutKeeps.ofSame (execFieldNetworkLink_same _ _ _) (by decide)

theorem State.boxServe_keeps (x1 : State) (x2 : Nat) :
    Keeps x1 (State.boxServe x1 x2).1 := by
  unfold State.boxServe
  extract_lets v0 v1 v2 v3 v4
  refine Keeps.iteFst ?_ ?_
  · dsimp only
    exact Keeps.refl _
  · clear_value v4
    split
    · rename_i e5
      with_reducible refine Keeps.step (Keeps.ofSame (State.serveRead_same _ _ _ _ _) (by decide)) ?_
      exact Keeps.refl _
    · rename_i e6
      with_reducible refine Keeps.step (State.serveWrite_keeps _ _ _ _ _) ?_
      exact Keeps.refl _
    · rename_i e7 e8 e9
      with_reducible refine Keeps.step (Keeps.ofSame (State.serveRecord_same _ _ _ _ _) (by decide)) ?_
      exact Keeps.refl _

theorem execBar4Go_keeps (x1 : Fin 2) (x2 : State) :
    OutKeeps x2 (execBar4Go x1 x2) := by
  unfold execBar4Go
  extract_lets v0
  refine OutKeeps.ite ?_ ?_
  · refine OutKeeps.next ?_
    exact Keeps.refl _
  · refine OutKeeps.ite ?_ ?_
    · refine OutKeeps.next ?_
      with_reducible refine Keeps.step (State.bump_keeps _ _) ?_
      exact Keeps.refl _
    · split
      rename_i e1 e2 e3 e4 e5
      extract_lets v6 v7
      refine OutKeeps.next ?_
      refine Keeps.ite ?_ ?_
      · with_reducible refine Keeps.step (Keeps.ofSame (State.setPort_same _ _ _) (by decide)) ?_
        with_reducible refine Keeps.step (Keeps.ofSame (State.fenceFor_same _ _) (by decide)) ?_
        refine Keeps.fstOf e5 ?_
        with_reducible refine Keeps.step (State.boxServe_keeps _ _) ?_
        exact Keeps.refl _
      · with_reducible refine Keeps.step (Keeps.ofSame (State.setPort_same _ _ _) (by decide)) ?_
        refine Keeps.fstOf e5 ?_
        with_reducible refine Keeps.step (State.boxServe_keeps _ _) ?_
        exact Keeps.refl _

theorem State.fenceDone_keeps (x1 : State) (x2 : FenceAsker) :
    Keeps x1 (State.fenceDone x1 x2) := by
  unfold State.fenceDone
  split
  · rename_i e0 e1
    with_reducible refine Keeps.step (State.fenceReply_keeps _ _) ?_
    exact Keeps.refl _
  · rename_i e2
    with_reducible refine Keeps.step (Keeps.ofSame (State.answer_same _ _) (by decide)) ?_
    exact Keeps.refl _
  · rename_i e3
    exact Keeps.refl _
  · rename_i e4 e5
    extract_lets v6 v7
    with_reducible refine Keeps.step (Keeps.ofSame (State.setPort_same _ _ _) (by decide)) ?_
    exact Keeps.refl _
  · rename_i e8 e9 e10 e11
    split
    · rename_i e12 e13 e14
      with_reducible refine Keeps.step (State.sendKept_keeps _ _ _ _ _ _ _) ?_
      exact Keeps.refl _
    · rename_i e15 e16
      exact Keeps.refl _

theorem State.settleFences_keeps (x1 : State) :
    Keeps x1 (State.settleFences x1) := by
  unfold State.settleFences
  extract_lets v0 v1 v2
  refine Keeps.have v2 ?_ fun h3 => ?_
  · dsimp only [v2]
    with_reducible refine Keeps.record rfl ?_ ?_
    · exact Keeps.of_eq rfl rfl rfl rfl
    exact Keeps.refl _
  clear_value v2
  refine Keeps.foldl ?_ fun q4 y5 h6 => ?_
  · exact h3
  · with_reducible refine Keeps.step (State.fenceDone_keeps _ _) ?_
    exact h6

theorem execLeasePeriod_keeps (x1 : State) :
    OutKeeps x1 (execLeasePeriod x1) := by
  unfold execLeasePeriod
  extract_lets v0
  refine OutKeeps.have v0 ?_ fun h1 => ?_
  · with_reducible refine Keeps.step (State.dykePeriod_keeps _) ?_
    with_reducible refine Keeps.step (State.leasePeriod_keeps _) ?_
    exact Keeps.refl _
  clear_value v0
  refine OutKeeps.next ?_
  with_reducible refine Keeps.step (State.settleFences_keeps _) ?_
  refine Keeps.foldl ?_ fun q2 y3 h4 => ?_
  · exact h1
  · with_reducible refine Keeps.step (Keeps.ofSame (State.drainPort_same _ _) (by decide)) ?_
    with_reducible refine Keeps.step (Keeps.ofSame (State.portIdents_same _ _) (by decide)) ?_
    exact h4

theorem State.writeBar0_keeps (x1 : State) (x2 x3 x4 : Nat) :
    Keeps x1 (State.writeBar0 x1 x2 x3 x4) := by
  unfold State.writeBar0
  extract_lets v0 v1 v2 v3 v4
  refine Keeps.ite ?_ ?_
  · exact Keeps.refl _
  · refine Keeps.ite ?_ ?_
    · with_reducible refine Keeps.step (State.writePortControl_keeps _ _ _) ?_
      exact Keeps.refl _
    · refine Keeps.ite ?_ ?_
      · with_reducible refine Keeps.step (Keeps.ofSame (State.writeSq_same _ _ _ _) (by decide)) ?_
        exact Keeps.refl _
      · refine Keeps.ite ?_ ?_
        · refine Keeps.ite ?_ ?_
          · with_reducible refine Keeps.step (State.writeRing_keeps _ _ _ _ _ _) ?_
            exact Keeps.refl _
          · with_reducible refine Keeps.step (Keeps.ofSame (State.setPort_same _ _ _) (by decide)) ?_
            exact Keeps.refl _
        · refine Keeps.ite ?_ ?_
          · with_reducible refine Keeps.record rfl ?_ ?_
            · exact Keeps.of_eq rfl rfl rfl rfl
            exact Keeps.refl _
          · refine Keeps.ite ?_ ?_
            · with_reducible refine Keeps.record rfl ?_ ?_
              · exact Keeps.of_eq rfl rfl rfl rfl
              exact Keeps.refl _
            · refine Keeps.ite ?_ ?_
              · split
                · rename_i e5 e6
                  with_reducible refine Keeps.step (Keeps.ofSame (State.setPort_same _ _ _) (by decide)) ?_
                  exact Keeps.refl _
                · rename_i e7 e8
                  exact Keeps.refl _
                · rename_i e9 e10 e11
                  with_reducible refine Keeps.step (Keeps.ofSame (State.setPort_same _ _ _) (by decide)) ?_
                  exact Keeps.refl _
              · refine Keeps.ite ?_ ?_
                · split
                  · rename_i e12 e13
                    with_reducible refine Keeps.step (Keeps.ofSame (State.setPort_same _ _ _) (by decide)) ?_
                    exact Keeps.refl _
                  · rename_i e14 e15
                    exact Keeps.refl _
                  · rename_i e16 e17 e18
                    refine Keeps.ite ?_ ?_
                    · exact Keeps.refl _
                    · with_reducible refine Keeps.step (Keeps.ofSame (State.setPort_same _ _ _) (by decide)) ?_
                      exact Keeps.refl _
                · refine Keeps.ite ?_ ?_
                  · with_reducible refine Keeps.step (Keeps.ofSame (State.setPort_same _ _ _) (by decide)) ?_
                    exact Keeps.refl _
                  · exact Keeps.refl _

theorem execRegisterWrite_keeps (x1 : RegTarget) (x2 : State) :
    OutKeeps x2 (execRegisterWrite x1 x2) := by
  unfold execRegisterWrite
  split
  · rename_i e0 e1 e2 e3
    refine OutKeeps.next ?_
    refine Keeps.ite ?_ ?_
    · with_reducible refine Keeps.step (State.writeDict_keeps _ _ _ _ _) ?_
      exact Keeps.refl _
    · exact Keeps.refl _
  · rename_i e4 e5 e6 e7
    refine OutKeeps.next ?_
    with_reducible refine Keeps.step (State.writeBar0_keeps _ _ _ _) ?_
    exact Keeps.refl _
  · rename_i e8 e9 e10 e11
    refine OutKeeps.next ?_
    with_reducible refine Keeps.step (Keeps.ofSame (State.writeBar4_same _ _ _ _) (by decide)) ?_
    exact Keeps.refl _

end Sys2Proof.Machine
end

