-- ==== Sys2Proof/Laws/KeepEngine.lean ====
section
/-! SUPPORT. What the functions of Machine/Engine.lean keep: the dictionary and the store in canonical form, the field map
bounded, the fuses, the seal and the rollback counters. -/

namespace Sys2Proof.Machine

open Sys2Proof

theorem execMma_keeps (x1 : Fin 8) (x2 : Fin 48) (x3 : Fin 4) (x4 : State) :
    OutKeeps x4 (execMma x1 x2 x3 x4) := by
  unfold execMma
  extract_lets v0
  refine OutKeeps.next ?_
  with_reducible refine State.startUnit_keeps ?_ ?_
  · exact Keeps.refl _
  · intro y1 y2 y3 y4 h5
    with_reducible refine Keeps.step (Keeps.ofSame (State.mmaRun_same _ _ _ _ _) (by decide)) ?_
    exact h5

theorem execMma4_keeps (x1 : Fin 8) (x2 : Fin 48) (x3 : State) :
    OutKeeps x3 (execMma4 x1 x2 x3) := by
  unfold execMma4
  refine OutKeeps.next ?_
  with_reducible refine State.startUnit_keeps ?_ ?_
  · exact Keeps.refl _
  · intro y0 y1 y2 y3 h4
    with_reducible refine Keeps.step (Keeps.ofSame (State.mmaRun_same _ _ _ _ _) (by decide)) ?_
    exact h4

theorem execDrain_keeps (x1 : Fin 8) (x2 : Fin 48) (x3 : Fin 4) (x4 : State) :
    OutKeeps x4 (execDrain x1 x2 x3 x4) := by
  unfold execDrain
  extract_lets v0
  refine OutKeeps.next ?_
  with_reducible refine State.startUnit_keeps ?_ ?_
  · exact Keeps.refl _
  · intro y1 y2 y3 y4 h5
    with_reducible refine Keeps.step (Keeps.ofSame (State.drainRun_same _ _ _ _ _) (by decide)) ?_
    exact h5

theorem execAccload_keeps (x1 : Fin 8) (x2 : Fin 48) (x3 : Fin 4) (x4 : State) :
    OutKeeps x4 (execAccload x1 x2 x3 x4) := by
  unfold execAccload
  extract_lets v0
  refine OutKeeps.next ?_
  with_reducible refine State.startUnit_keeps ?_ ?_
  · exact Keeps.refl _
  · intro y1 y2 y3 y4 h5
    with_reducible refine Keeps.step (Keeps.ofSame (State.loadRun_same _ _ _ _ _) (by decide)) ?_
    exact h5

end Sys2Proof.Machine
end

