-- ==== Sys2Proof/Laws/KeepFrame.lean ====
section
/-! SUPPORT. What the functions of Machine/Frame.lean keep: the dictionary and the store in canonical form, the field map
bounded, the fuses, the seal and the rollback counters. -/

namespace Sys2Proof.Machine

open Sys2Proof

theorem State.formAll_keeps (x1 : State) (x2 x3 : Nat) :
    Keeps x1 (State.formAll x1 x2 x3).1 := by
  unfold State.formAll
  refine Keeps.foldlFst ?_ fun q0 y1 h2 => ?_
  · dsimp only
    exact Keeps.refl _
  · split
    rename_i e3 e4 e5 e6
    dsimp only
    refine Keeps.fstOf e6 ?_
    with_reducible refine Keeps.step (State.formOut_keeps _ _ _ _) ?_
    exact h2

theorem State.streamBoundary_keeps (x1 : State) :
    Keeps x1 (State.streamBoundary x1) := by
  unfold State.streamBoundary
  extract_lets v0
  with_reducible refine Keeps.step (State.finishLeave_keeps _ _) ?_
  with_reducible refine Keeps.step (State.finishLeave_keeps _ _) ?_
  refine Keeps.foldl ?_ fun q1 y2 h3 => ?_
  · exact Keeps.refl _
  · with_reducible refine Keeps.step (State.closeIdle_keeps _ _) ?_
    with_reducible refine Keeps.step (State.applyRebind_keeps _ _) ?_
    exact h3

theorem State.discardFlight_keeps (x1 : State) :
    Keeps x1 (State.discardFlight x1) := by
  unfold State.discardFlight
  extract_lets v0 v1
  refine Keeps.have v0 ?_ fun h2 => ?_
  · refine Keeps.foldl ?_ fun q3 y4 h5 => ?_
    · exact Keeps.refl _
    · with_reducible refine Keeps.step (State.stepFault_keeps _ _ _) ?_
      exact h5
  clear_value v0
  refine Keeps.have v1 ?_ fun h6 => ?_
  · with_reducible refine Keeps.step (Keeps.ofSame (State.discardCommands_same _) (by decide)) ?_
    exact h2
  clear_value v1
  with_reducible refine Keeps.record rfl ?_ ?_
  · exact Keeps.of_eq rfl rfl rfl rfl
  exact h6

theorem State.withdrawPast_keeps (x1 : State) :
    Keeps x1 (State.withdrawPast x1) := by
  unfold State.withdrawPast
  with_reducible refine Keeps.step (State.sweepEntries_keeps _ _) ?_
  exact Keeps.refl _

theorem State.releaseBoundary_keeps (x1 : State) :
    Keeps x1 (State.releaseBoundary x1) := by
  unfold State.releaseBoundary
  refine Keeps.ite ?_ ?_
  · exact Keeps.refl _
  · extract_lets v0 v1 v2
    refine Keeps.have v0 ?_ fun h3 => ?_
    · with_reducible refine Keeps.step (State.withdrawPast_keeps _) ?_
      refine Keeps.ite ?_ ?_
      · with_reducible refine Keeps.step (State.discardFlight_keeps _) ?_
        exact Keeps.refl _
      · exact Keeps.refl _
    clear_value v0
    refine Keeps.have v2 ?_ fun h4 => ?_
    · dsimp only [v2]
      with_reducible refine Keeps.record rfl ?_ ?_
      · exact Keeps.of_eq rfl rfl rfl rfl
      exact h3
    clear_value v2
    with_reducible refine Keeps.step (Keeps.ofSame (State.feedDrains_same _) (by decide)) ?_
    with_reducible refine Keeps.step (State.setReg_keeps _ _ _) ?_
    exact h4

theorem State.distribute_keeps (x1 : State) :
    Keeps x1 (State.distribute x1) := by
  unfold State.distribute
  split
  · rename_i e0 e1
    exact Keeps.refl _
  · rename_i e2 e3 e4
    refine Keeps.ite ?_ ?_
    · exact Keeps.refl _
    · extract_lets v5 v6
      refine Keeps.have v6 ?_ fun h7 => ?_
      · dsimp only [v6]
        with_reducible refine Keeps.record rfl ?_ ?_
        · exact Keeps.of_eq rfl rfl rfl rfl
        exact Keeps.refl _
      clear_value v6
      with_reducible refine Keeps.step (State.sweepEntries_keeps _ _) ?_
      exact h7

theorem State.fixBoundary_keeps (x1 : State) :
    Keeps x1 (State.fixBoundary x1) := by
  unfold State.fixBoundary
  refine Keeps.ite ?_ ?_
  · exact Keeps.refl _
  · extract_lets v0
    refine Keeps.have v0 ?_ fun h1 => ?_
    · with_reducible refine Keeps.step (State.fixNext_keeps _ _) ?_
      exact Keeps.refl _
    clear_value v0
    split
    · rename_i e2 e3 e4 e5 e6
      with_reducible refine Keeps.step (Keeps.ofSame (State.tellMore_same _ _) (by decide)) ?_
      exact h1
    · rename_i e7 e8 e9
      exact h1

theorem State.trimBoundary_keeps (x1 : State) :
    Keeps x1 (State.trimBoundary x1) := by
  unfold State.trimBoundary
  extract_lets v0 v1
  refine Keeps.have v1 ?_ fun h2 => ?_
  · refine Keeps.ite ?_ ?_
    · with_reducible refine Keeps.step (State.applyAllTrims_keeps _) ?_
      exact Keeps.refl _
    · exact Keeps.refl _
  clear_value v1
  with_reducible refine Keeps.record rfl ?_ ?_
  · exact Keeps.of_eq rfl rfl rfl rfl
  exact h2

theorem State.pointBoundary_keeps (x1 : State) :
    Keeps x1 (State.pointBoundary x1) := by
  unfold State.pointBoundary
  refine Keeps.foldl ?_ fun q0 y1 h2 => ?_
  · with_reducible refine Keeps.step (State.capCheck_keeps _) ?_
    exact Keeps.refl _
  · with_reducible refine Keeps.step (Keeps.ofSame (State.boundaryPoint_same _ _) (by decide)) ?_
    exact h2

theorem execFrameBoundary_keeps (x1 : State) :
    OutKeeps x1 (execFrameBoundary x1) := by
  unfold execFrameBoundary
  extract_lets v0 v1 v2
  refine OutKeeps.have v1 ?_ fun h3 => ?_
  · with_reducible refine Keeps.step (Keeps.ofSame (State.advanceFrame_same _) (by decide)) ?_
    exact Keeps.refl _
  clear_value v1
  refine OutKeeps.have v2 ?_ fun h4 => ?_
  · dsimp only [v2]
    with_reducible refine Keeps.record rfl ?_ ?_
    · exact Keeps.of_eq rfl rfl rfl rfl
    exact h3
  clear_value v2
  refine OutKeeps.ite ?_ ?_
  · refine OutKeeps.next ?_
    exact Keeps.refl _
  · split
    rename_i e5 e6 e7 e8
    extract_lets v9 v10 v11 v12
    refine OutKeeps.have v9 ?_ fun h13 => ?_
    · with_reducible refine Keeps.step (State.streamBoundary_keeps _) ?_
      with_reducible refine Keeps.step (State.pairBoundary_keeps _ _ _ _) ?_
      refine Keeps.fstOf e8 ?_
      with_reducible refine Keeps.step (State.formAll_keeps _ _ _) ?_
      exact h4
    clear_value v9
    refine OutKeeps.have v10 ?_ fun h14 => ?_
    · with_reducible refine Keeps.step (State.retentionStop_keeps _) ?_
      with_reducible refine Keeps.step (Keeps.ofSame (State.freezeBoundary_same _) (by decide)) ?_
      with_reducible refine Keeps.step (State.releaseBoundary_keeps _) ?_
      exact h13
    clear_value v10
    refine OutKeeps.have v11 ?_ fun h15 => ?_
    · with_reducible refine Keeps.step (State.fixBoundary_keeps _) ?_
      with_reducible refine Keeps.step (State.distribute_keeps _) ?_
      with_reducible refine Keeps.step (State.patternBoundary_keeps _) ?_
      exact h14
    clear_value v11
    refine OutKeeps.have v12 ?_ fun h16 => ?_
    · with_reducible refine Keeps.step (State.sliceBack_keeps _) ?_
      with_reducible refine Keeps.step (State.pointBoundary_keeps _) ?_
      with_reducible refine Keeps.step (State.trimBoundary_keeps _) ?_
      exact h15
    clear_value v12
    refine OutKeeps.next ?_
    with_reducible refine Keeps.step (Keeps.ofSame (State.signal_same _ _) (by decide)) ?_
    exact h16

end Sys2Proof.Machine
end

