-- ==== Sys2Proof/Laws/KeepHousekeeping.lean ====
section
/-! SUPPORT. What the functions of Machine/Housekeeping.lean keep: the dictionary and the store in canonical form, the field map
bounded, the fuses, the seal and the rollback counters. -/

namespace Sys2Proof.Machine

open Sys2Proof

theorem State.readSensors_keeps (x1 : State) (x2 : List Int) :
    Keeps x1 (State.readSensors x1 x2) := by
  unfold State.readSensors
  extract_lets v0 v1 v2 v3 v4
  refine Keeps.have v1 ?_ fun h5 => ?_
  · dsimp only [v1]
    dsimp only [v0]
    with_reducible refine Keeps.record rfl ?_ ?_
    · exact Keeps.of_eq rfl rfl rfl rfl
    exact Keeps.refl _
  clear_value v1
  refine Keeps.have v2 ?_ fun h6 => ?_
  · dsimp only [v2]
    dsimp only [v0]
    with_reducible refine Keeps.record rfl ?_ ?_
    · exact Keeps.of_eq rfl rfl rfl rfl
    exact h5
  clear_value v2
  refine Keeps.have v3 ?_ fun h7 => ?_
  · dsimp only [v3]
    dsimp only [v0]
    with_reducible refine Keeps.record rfl ?_ ?_
    · exact Keeps.of_eq rfl rfl rfl rfl
    exact h6
  clear_value v3
  with_reducible refine Keeps.step (State.addReg_keeps _ _ _) ?_
  with_reducible refine Keeps.record rfl ?_ ?_
  · exact Keeps.of_eq rfl rfl rfl rfl
  exact h7

theorem State.countActions_keeps (x1 : State) (x2 x3 : Thermal) :
    Keeps x1 (State.countActions x1 x2 x3) := by
  unfold State.countActions
  extract_lets v0 v1
  refine Keeps.have v0 ?_ fun h2 => ?_
  · refine Keeps.ite ?_ ?_
    · with_reducible refine Keeps.step (State.bump_keeps _ _) ?_
      exact Keeps.refl _
    · exact Keeps.refl _
  clear_value v0
  refine Keeps.have v1 ?_ fun h3 => ?_
  · refine Keeps.ite ?_ ?_
    · with_reducible refine Keeps.step (State.bump_keeps _ _) ?_
      exact h2
    · exact h2
  clear_value v1
  refine Keeps.ite ?_ ?_
  · with_reducible refine Keeps.step (State.bump_keeps _ _) ?_
    exact h3
  · exact h3

theorem State.throttleUnit_keeps (x1 : State) (x2 : Nat) :
    Keeps x1 (State.throttleUnit x1 x2) := by
  unfold State.throttleUnit
  extract_lets v0 v1 v2 v3 v4 v5
  refine Keeps.have v5 ?_ fun h6 => ?_
  · with_reducible refine Keeps.step (State.countActions_keeps _ _ _) ?_
    with_reducible refine Keeps.step (Keeps.ofSame (State.setThermal_same _ _ _) (by decide)) ?_
    exact Keeps.refl _
  clear_value v5
  refine Keeps.ite ?_ ?_
  · with_reducible refine Keeps.step (State.throttle_keeps _ _) ?_
    exact h6
  · exact h6

theorem State.dieRound_keeps (x1 x2 : State) (x3 : Nat) :
    Keeps x2 (State.dieRound x1 x2 x3) := by
  unfold State.dieRound
  extract_lets v0 v1
  refine Keeps.have v1 ?_ fun h2 => ?_
  · with_reducible refine Keeps.step (Keeps.ofSame (State.setThermal_same _ _ _) (by decide)) ?_
    exact Keeps.refl _
  clear_value v1
  refine Keeps.ite ?_ ?_
  · with_reducible refine Keeps.step (Keeps.ofSame (State.trippedUnit_same _ _ _ _) (by decide)) ?_
    exact h2
  · refine Keeps.ite ?_ ?_
    · exact h2
    · split
      rename_i e3 e4 e5 e6
      extract_lets v7
      refine Keeps.have v7 ?_ fun h8 => ?_
      · with_reducible refine Keeps.step (State.addReg_keeps _ _ _) ?_
        exact h2
      clear_value v7
      refine Keeps.ite ?_ ?_
      · with_reducible refine Keeps.step (State.dieTrip_keeps _ _) ?_
        exact h8
      · with_reducible refine Keeps.step (State.throttleUnit_keeps _ _) ?_
        exact h8

theorem State.hubRound_keeps (x1 x2 : State) :
    Keeps x2 (State.hubRound x1 x2).1 := by
  unfold State.hubRound
  extract_lets v0 v1
  refine Keeps.have v1 ?_ fun h2 => ?_
  · with_reducible refine Keeps.step (Keeps.ofSame (State.setThermal_same _ _ _) (by decide)) ?_
    exact Keeps.refl _
  clear_value v1
  split
  rename_i e3 e4 e5 e6
  extract_lets v7
  refine Keeps.have v7 ?_ fun h8 => ?_
  · with_reducible refine Keeps.step (State.addReg_keeps _ _ _) ?_
    exact h2
  clear_value v7
  dsimp only
  with_reducible refine Keeps.step (State.throttleUnit_keeps _ _) ?_
  exact h8

theorem State.fieldRound_keeps (x1 x2 : State) (x3 : Nat) :
    Keeps x2 (State.fieldRound x1 x2 x3).1 := by
  unfold State.fieldRound
  refine Keeps.iteFst ?_ ?_
  · dsimp only
    with_reducible refine Keeps.step (Keeps.ofSame (State.trippedUnit_same _ _ _ _) (by decide)) ?_
    exact Keeps.refl _
  · split
    rename_i e0 e1 e2 e3
    extract_lets v4
    refine Keeps.have v4 ?_ fun h5 => ?_
    · with_reducible refine Keeps.step (State.addReg_keeps _ _ _) ?_
      exact Keeps.refl _
    clear_value v4
    dsimp only
    refine Keeps.ite ?_ ?_
    · with_reducible refine Keeps.step (State.regionTrip_keeps _ _) ?_
      exact h5
    · exact h5

theorem State.isolateDie_keeps (x1 : State) (x2 : Nat) :
    Keeps x1 (State.isolateDie x1 x2) := by
  unfold State.isolateDie
  extract_lets v0 v1 v2 v3 v4 v5
  refine Keeps.have v2 ?_ fun h6 => ?_
  · with_reducible refine Keeps.step (State.discardDie_keeps _ _ _) ?_
    with_reducible refine Keeps.step (Keeps.ofSame (State.setDie_same _ _ _) (by decide)) ?_
    exact Keeps.refl _
  clear_value v2
  refine Keeps.have v4 ?_ fun h7 => ?_
  · with_reducible refine Keeps.step (Keeps.ofSame (State.parkRegion_same _ _) (by decide)) ?_
    with_reducible refine Keeps.step (Keeps.ofSame (State.setRegion_same _ _ _) (by decide)) ?_
    exact h6
  clear_value v4
  refine Keeps.have v5 ?_ fun h8 => ?_
  · refine Keeps.foldl ?_ fun q9 y10 h11 => ?_
    · exact h7
    · with_reducible refine Keeps.step (State.endDark_keeps _ _) ?_
      exact h11
  clear_value v5
  with_reducible refine Keeps.step (State.dropFresh_keeps _) ?_
  with_reducible refine Keeps.step (State.dropSlices_keeps _ _) ?_
  with_reducible refine Keeps.step (State.holdTransfers_keeps _) ?_
  with_reducible refine Keeps.step (State.calDrop_keeps _ _) ?_
  with_reducible refine Keeps.step (State.dropCals_keeps _ _) ?_
  exact h8

theorem State.ifaceOut_keeps (x1 : State) (x2 : Conn) :
    Keeps x1 (State.ifaceOut x1 x2) := by
  unfold State.ifaceOut
  split
  · rename_i e0 e1 e2
    with_reducible refine Keeps.step (State.ladder_keeps _ _ _) ?_
    exact Keeps.refl _
  · rename_i e3 e4 e5
    refine Keeps.ite ?_ ?_
    · exact Keeps.refl _
    · extract_lets v6 v7
      refine Keeps.have v6 ?_ fun h8 => ?_
      · with_reducible refine Keeps.step (State.dropSlices_keeps _ _) ?_
        exact Keeps.refl _
      clear_value v6
      with_reducible refine Keeps.step (Keeps.ofSame (State.setStore_same _ _ _) (by decide)) ?_
      exact h8
  · rename_i e9 e10 e11 e12
    refine Keeps.ite ?_ ?_
    · exact Keeps.refl _
    · with_reducible refine Keeps.step (State.isolateDie_keeps _ _) ?_
      exact Keeps.refl _
  · rename_i e13 e14 e15
    with_reducible refine Keeps.step (State.reportSite_keeps _ _) ?_
    with_reducible refine Keeps.step (Keeps.ofSame (State.setDie_same _ _ _) (by decide)) ?_
    exact Keeps.refl _

theorem State.loseConn_keeps (x1 : State) (x2 : Conn) :
    Keeps x1 (State.loseConn x1 x2) := by
  unfold State.loseConn
  refine Keeps.ite ?_ ?_
  · exact Keeps.refl _
  · extract_lets v0 v1 v2
    refine Keeps.have v2 ?_ fun h3 => ?_
    · with_reducible refine Keeps.step (Keeps.ofSame (State.setDie_same _ _ _) (by decide)) ?_
      exact Keeps.refl _
    clear_value v2
    refine Keeps.ite ?_ ?_
    · with_reducible refine Keeps.step (State.mapRecord_keeps _ _) ?_
      exact h3
    · with_reducible refine Keeps.step (State.ifaceOut_keeps _ _) ?_
      exact h3

theorem State.bankLayers_keeps (x1 : State) (x2 : List (Fin 8)) :
    Keeps x1 (State.bankLayers x1 x2) := by
  unfold State.bankLayers
  refine Keeps.foldl ?_ fun q0 y1 h2 => ?_
  · exact Keeps.refl _
  · extract_lets v3 v4 v5
    refine Keeps.have v5 ?_ fun h6 => ?_
    · with_reducible refine Keeps.step (Keeps.ofSame (State.setDie_same _ _ _) (by decide)) ?_
      exact h2
    clear_value v5
    refine Keeps.ite ?_ ?_
    · with_reducible refine Keeps.step (State.discardDie_keeps _ _ _) ?_
      exact h6
    · exact h6

theorem State.laserRound_keeps (x1 : State) (x2 : Nat) (x3 : List Int) (x4 : Bool) :
    Keeps x1 (State.laserRound x1 x2 x3 x4) := by
  unfold State.laserRound
  extract_lets v0 v1 v2 v3 v4 v5 v6 v7 v8
  refine Keeps.have v5 ?_ fun h9 => ?_
  · with_reducible refine Keeps.step (Keeps.ofSame (State.setLaser_same _ _ _) (by decide)) ?_
    exact Keeps.refl _
  clear_value v5
  refine Keeps.ite ?_ ?_
  · exact h9
  · refine Keeps.ite ?_ ?_
    · with_reducible refine Keeps.step (State.laserFail_keeps _ _ _) ?_
      exact h9
    · with_reducible refine Keeps.step (State.laserPut_keeps _ _ _) ?_
      exact h9

theorem State.lightRound_keeps (x1 : State) (x2 : Readings) :
    Keeps x1 (State.lightRound x1 x2) := by
  unfold State.lightRound
  extract_lets v0 v1
  refine Keeps.have v0 ?_ fun h2 => ?_
  · refine Keeps.foldl ?_ fun q3 y4 h5 => ?_
    · exact Keeps.refl _
    · refine Keeps.ite ?_ ?_
      · with_reducible refine Keeps.step (State.setReg_keeps _ _ _) ?_
        exact h5
      · exact h5
  clear_value v0
  refine Keeps.have v1 ?_ fun h6 => ?_
  · refine Keeps.foldl ?_ fun q7 y8 h9 => ?_
    · exact h2
    · refine Keeps.ite ?_ ?_
      · with_reducible refine Keeps.step (State.setReg_keeps _ _ _) ?_
        with_reducible refine Keeps.step (State.setReg_keeps _ _ _) ?_
        exact h9
      · exact h9
  clear_value v1
  with_reducible refine Keeps.step (State.laserRound_keeps _ _ _ _) ?_
  with_reducible refine Keeps.step (State.laserRound_keeps _ _ _ _) ?_
  exact h6

theorem State.coolantRound_keeps (x1 : State) (x2 : Readings) :
    Keeps x1 (State.coolantRound x1 x2) := by
  unfold State.coolantRound
  extract_lets v0 v1 v2 v3 v4 v5
  refine Keeps.have v3 ?_ fun h6 => ?_
  · with_reducible refine Keeps.step (Keeps.ofSame (State.setPw_same _ _) (by decide)) ?_
    exact Keeps.refl _
  clear_value v3
  refine Keeps.have v5 ?_ fun h7 => ?_
  · with_reducible refine Keeps.step (State.setReg_keeps _ _ _) ?_
    with_reducible refine Keeps.step (State.setReg_keeps _ _ _) ?_
    with_reducible refine Keeps.step (State.setReg_keeps _ _ _) ?_
    with_reducible refine Keeps.step (State.setReg_keeps _ _ _) ?_
    exact h6
  clear_value v5
  refine Keeps.ite ?_ ?_
  · refine Keeps.foldl ?_ fun q8 y9 h10 => ?_
    · exact h7
    · with_reducible refine Keeps.step (State.throttle_keeps _ _) ?_
      exact h10
  · exact h7

theorem State.powerRound_keeps (x1 : State) (x2 : Readings) :
    Keeps x1 (State.powerRound x1 x2) := by
  unfold State.powerRound
  extract_lets v0 v1 v2 v3 v4 v5 v6
  refine Keeps.have v2 ?_ fun h7 => ?_
  · with_reducible refine Keeps.step (Keeps.ofSame (State.setPw_same _ _) (by decide)) ?_
    exact Keeps.refl _
  clear_value v2
  refine Keeps.have v4 ?_ fun h8 => ?_
  · with_reducible refine Keeps.step (State.setReg_keeps _ _ _) ?_
    with_reducible refine Keeps.step (State.setReg_keeps _ _ _) ?_
    exact h7
  clear_value v4
  refine Keeps.have v5 ?_ fun h9 => ?_
  · refine Keeps.foldl ?_ fun q10 y11 h12 => ?_
    · exact h8
    · with_reducible refine Keeps.step (State.setReg_keeps _ _ _) ?_
      exact h12
  clear_value v5
  refine Keeps.ite ?_ ?_
  · with_reducible refine Keeps.step (State.stick_keeps _ _ _) ?_
    exact h9
  · exact h9

theorem State.reports_keeps (x1 : State) (x2 : Readings) :
    Keeps x1 (State.reports x1 x2) := by
  unfold State.reports
  extract_lets v0 v1 v2 v3 v4 v5
  refine Keeps.have v0 ?_ fun h6 => ?_
  · refine Keeps.foldl ?_ fun q7 y8 h9 => ?_
    · exact Keeps.refl _
    · with_reducible refine Keeps.step (State.setReg_keeps _ _ _) ?_
      with_reducible refine Keeps.step (State.setReg_keeps _ _ _) ?_
      exact h9
  clear_value v0
  refine Keeps.have v1 ?_ fun h10 => ?_
  · dsimp only [v1]
    with_reducible refine Keeps.record rfl ?_ ?_
    · exact Keeps.of_eq rfl rfl rfl rfl
    exact h6
  clear_value v1
  refine Keeps.have v2 ?_ fun h11 => ?_
  · refine Keeps.foldl ?_ fun q12 y13 h14 => ?_
    · exact h10
    · with_reducible refine Keeps.step (State.setReg_keeps _ _ _) ?_
      exact h14
  clear_value v2
  refine Keeps.have v3 ?_ fun h15 => ?_
  · refine Keeps.foldl ?_ fun q16 y17 h18 => ?_
    · exact h11
    · with_reducible refine Keeps.step (State.setReg_keeps _ _ _) ?_
      exact h18
  clear_value v3
  refine Keeps.have v4 ?_ fun h19 => ?_
  · with_reducible refine Keeps.step (State.reportOsc_keeps _) ?_
    exact h15
  clear_value v4
  refine Keeps.have v5 ?_ fun h20 => ?_
  · refine Keeps.ite ?_ ?_
    · with_reducible refine Keeps.step (State.pairReport_keeps _) ?_
      exact h19
    · exact h19
  clear_value v5
  refine Keeps.ite ?_ ?_
  · refine Keeps.foldl ?_ fun q21 y22 h23 => ?_
    · exact h20
    · with_reducible refine Keeps.step (State.reportSite_keeps _ _) ?_
      exact h23
  · exact h20

theorem State.roundActs_keeps (x1 x2 : State) (x3 : Readings) (x4 : Bool) :
    Keeps x2 (State.roundActs x1 x2 x3 x4) := by
  unfold State.roundActs
  extract_lets v0 v1 v2 v3 v4 v5 v6
  refine Keeps.have v0 ?_ fun h7 => ?_
  · refine Keeps.foldl ?_ fun q8 y9 h10 => ?_
    · exact Keeps.refl _
    · with_reducible refine Keeps.step (State.dieRound_keeps _ _ _) ?_
      exact h10
  clear_value v0
  refine Keeps.have v1 ?_ fun h11 => ?_
  · refine Keeps.foldl ?_ fun q12 y13 h14 => ?_
    · with_reducible refine Keeps.step (Keeps.ofSame (State.scheduleCals_same _) (by decide)) ?_
      with_reducible refine Keeps.step (Keeps.ofSame (State.ringRound_same _ _) (by decide)) ?_
      exact h7
    · with_reducible refine Keeps.step (State.dueFullCal_keeps _ _) ?_
      exact h14
  clear_value v1
  refine Keeps.have v2 ?_ fun h15 => ?_
  · refine Keeps.foldl ?_ fun q16 y17 h18 => ?_
    · with_reducible refine Keeps.step (State.bankLayers_keeps _ _) ?_
      with_reducible refine Keeps.step (Keeps.ofSame (State.memoryRound_same _ _) (by decide)) ?_
      exact h11
    · with_reducible refine Keeps.step (State.loseConn_keeps _ _) ?_
      exact h18
  clear_value v2
  refine Keeps.have v3 ?_ fun h19 => ?_
  · with_reducible refine Keeps.step (State.powerRound_keeps _ _) ?_
    with_reducible refine Keeps.step (State.coolantRound_keeps _ _) ?_
    with_reducible refine Keeps.step (State.lightRound_keeps _ _) ?_
    exact h15
  clear_value v3
  refine Keeps.have v5 ?_ fun h20 => ?_
  · refine Keeps.ite ?_ ?_
    · with_reducible refine Keeps.record rfl ?_ ?_
      · exact Keeps.of_eq rfl rfl rfl rfl
      exact h19
    · exact h19
  clear_value v5
  refine Keeps.have v6 ?_ fun h21 => ?_
  · with_reducible refine Keeps.step (Keeps.ofSame (State.setDap_same _ _) (by decide)) ?_
    with_reducible refine Keeps.step (State.reports_keeps _ _) ?_
    with_reducible refine Keeps.step (State.feedAll_keeps _) ?_
    exact h20
  clear_value v6
  with_reducible refine Keeps.step (Keeps.ofSame (State.notifyAll_same _) (by decide)) ?_
  exact h21

theorem execHousekeepingRound_keeps (x1 : Readings) (x2 : State) :
    OutKeeps x2 (execHousekeepingRound x1 x2) := by
  unfold execHousekeepingRound
  refine OutKeeps.ite ?_ ?_
  · refine OutKeeps.next ?_
    exact Keeps.refl _
  · extract_lets v0 v1
    refine OutKeeps.have v1 ?_ fun h2 => ?_
    · with_reducible refine Keeps.step (State.readSensors_keeps _ _) ?_
      exact Keeps.refl _
    clear_value v1
    split
    rename_i e3 e4 e5 e6
    split
    rename_i e7 e8 e9 e10
    refine OutKeeps.ite ?_ ?_
    · refine OutKeeps.next ?_
      with_reducible refine Keeps.step (State.faultOff_keeps _ _) ?_
      refine Keeps.fstOf e10 ?_
      refine Keeps.foldlFst ?_ fun q11 y12 h13 => ?_
      · dsimp only
        refine Keeps.fstOf e6 ?_
        with_reducible refine Keeps.step (State.hubRound_keeps _ _) ?_
        exact h2
      · split
        rename_i e14 e15 e16 e17
        dsimp only
        refine Keeps.fstOf e17 ?_
        with_reducible refine Keeps.step (State.fieldRound_keeps _ _ _) ?_
        exact h13
    · refine OutKeeps.next ?_
      with_reducible refine Keeps.step (State.roundActs_keeps _ _ _ _) ?_
      refine Keeps.fstOf e10 ?_
      refine Keeps.foldlFst ?_ fun q18 y19 h20 => ?_
      · dsimp only
        refine Keeps.fstOf e6 ?_
        with_reducible refine Keeps.step (State.hubRound_keeps _ _) ?_
        exact h2
      · split
        rename_i e21 e22 e23 e24
        dsimp only
        refine Keeps.fstOf e24 ?_
        with_reducible refine Keeps.step (State.fieldRound_keeps _ _ _) ?_
        exact h20

end Sys2Proof.Machine
end

