-- ==== Sys2Proof/Laws/MemKeep.lean ====
section
/-! SUPPORT. The canonical form of the memories: every function of the model keeps each polder memory, each tier channel
and host memory canonical. The lemmas compose over the functions of the model as those of `Same` do. -/

namespace Sys2Proof

open Sys2Proof.Machine

/-- A memory function keeps the memories canonical. -/
structure MemKeeps (s t : State) : Prop where
  ok : MemOk s → MemOk t

theorem Machine.State.reset_mem : MemOk State.reset := ⟨by simp [State.reset], rfl⟩

theorem MemOk.store {s : State} (h : MemOk s) (u : Nat) : Memory.wf (s.store u).mem = true := by
  have : ∀ (t : Tbl Store), (∀ e ∈ t, Memory.wf e.2.mem = true) → Memory.wf (Tbl.get {} t u).mem = true := by
    intro t
    induction t with
    | nil => intro _; rfl
    | cons e r ih =>
      intro g
      obtain ⟨i, x⟩ := e
      simp only [Tbl.get]
      split
      · exact g (i, x) List.mem_cons_self
      · split
        · rfl
        · exact ih fun e he => g e (List.mem_cons_of_mem _ he)
  exact this s.stores h.stores

theorem MemOk.put {s : State} (h : MemOk s) (u : Nat) {x : Store} (hx : Memory.wf x.mem = true) :
    MemOk (s.setStore u x) := by
  refine ⟨fun e he => ?_, h.host⟩
  have he : e ∈ Tbl.put {} s.stores u x := he
  unfold Tbl.put at he
  split at he
  · exact h.stores e (Tbl.mem_del he)
  · rcases Tbl.mem_ins he with he | he
    · subst he; exact hx
    · exact h.stores e he

theorem foldl_wf {α : Type} (f : Tbl Byte → α → Tbl Byte) (hf : ∀ m x, Memory.wf m = true → Memory.wf (f m x) = true)
    (l : List α) {m : Tbl Byte} (h : Memory.wf m = true) : Memory.wf (l.foldl f m) = true := by
  induction l generalizing m with
  | nil => exact h
  | cons x r ih => exact ih (hf m x h)

theorem MemKeeps.refl (s : State) : MemKeeps s s := ⟨id⟩

theorem MemKeeps.trans {s t u : State} (h : MemKeeps s t) (g : MemKeeps t u) : MemKeeps s u := ⟨fun k => g.ok (h.ok k)⟩

theorem MemKeeps.of_eq {s t : State} (a : t.stores = s.stores) (b : t.hostMem = s.hostMem) : MemKeeps s t :=
  ⟨fun h => ⟨by rw [a]; exact h.stores, by rw [b]; exact h.host⟩⟩

/-- A function that leaves the memories alone keeps them canonical. -/
theorem MemKeeps.ofSame {W : List Part} {s t : State} (h : Same W s t)
    (hw : (!W.contains .stores && !W.contains .hostMem) = true) : MemKeeps s t := by
  simp only [Bool.and_eq_true, Bool.not_eq_true', List.contains_eq_mem, decide_eq_false_iff_not] at hw
  exact MemKeeps.of_eq (h .stores hw.1) (h .hostMem hw.2)

/-- An update of host memory. -/
theorem MemKeeps.hostUpd {s t : State} (a : t.stores = s.stores)
    (b : Memory.wf s.hostMem = true → Memory.wf t.hostMem = true) : MemKeeps s t :=
  ⟨fun h => ⟨by rw [a]; exact h.stores, b h.host⟩⟩

/-- An update that changes no store's bytes, or drops stores. -/
theorem MemKeeps.storesUpd {s t : State} (a : ∀ e ∈ t.stores, ∃ d ∈ s.stores, e.2.mem = d.2.mem)
    (b : t.hostMem = s.hostMem) : MemKeeps s t := by
  refine ⟨fun h => ⟨fun e he => ?_, by rw [b]; exact h.host⟩⟩
  obtain ⟨d, hd, hm⟩ := a e he
  rw [hm]
  exact h.stores d hd

theorem MemKeeps.step {s t u : State} (g : MemKeeps t u) (h : MemKeeps s t) : MemKeeps s u := h.trans g

theorem MemKeeps.record {s t : State} {a1 a2 a3 a4 a5 a6 a7 a8 a9 a10 a11 a12 a13 a14 a15 a16 a17 a18 a19 a20 a21 a22 a23
    a24 a25 a26 a27 a28 a29 a30 a31 a32 a33 a34 a35 a36 a37 a38 a39 a40 a41 a42 a43 a44 a45 a46 a47 a48 a49 a50 a51
    a52 a53 a54 a55 a56 a57 a58 a59 a60 a61 a62 a63 a64 a65}
    (_ : a65 = t.pending) (g : MemKeeps t (State.mk a1 a2 a3 a4 a5 a6 a7 a8 a9 a10 a11 a12 a13 a14 a15 a16 a17 a18 a19
    a20 a21 a22 a23 a24 a25 a26 a27 a28 a29 a30 a31 a32 a33 a34 a35 a36 a37 a38 a39 a40 a41 a42 a43 a44 a45 a46 a47
    a48 a49 a50 a51 a52 a53 a54 a55 a56 a57 a58 a59 a60 a61 a62 a63 a64 a65))
    (h : MemKeeps s t) : MemKeeps s (State.mk a1 a2 a3 a4 a5 a6 a7 a8 a9 a10 a11 a12 a13 a14 a15 a16 a17 a18 a19 a20 a21 a22
    a23 a24 a25 a26 a27 a28 a29 a30 a31 a32 a33 a34 a35 a36 a37 a38 a39 a40 a41 a42 a43 a44 a45 a46 a47 a48 a49 a50
    a51 a52 a53 a54 a55 a56 a57 a58 a59 a60 a61 a62 a63 a64 a65) := h.trans g

theorem MemKeeps.ite {s a b : State} {c : Prop} [Decidable c] (h : MemKeeps s a) (g : MemKeeps s b) :
    MemKeeps s (if c then a else b) := by split <;> assumption

theorem MemKeeps.foldl {α : Type} {s0 s : State} {f : State → α → State} {l : List α}
    (h : MemKeeps s0 s) (hf : ∀ t x, MemKeeps s0 t → MemKeeps s0 (f t x)) : MemKeeps s0 (l.foldl f s) := by
  induction l generalizing s with
  | nil => exact h
  | cons x r ih => exact ih (hf s x h)

theorem MemKeeps.foldlFst {α β : Type} {s0 : State} {p : State × β} {f : State × β → α → State × β}
    {l : List α} (h : MemKeeps s0 p.1) (hf : ∀ q x, MemKeeps s0 q.1 → MemKeeps s0 (f q x).1) :
    MemKeeps s0 (l.foldl f p).1 := by
  induction l generalizing p with
  | nil => exact h
  | cons x r ih => exact ih (hf p x h)

theorem MemKeeps.iteFst {β : Type} {s : State} {a b : State × β} {c : Prop} [Decidable c]
    (h : MemKeeps s a.1) (g : MemKeeps s b.1) : MemKeeps s (if c then a else b).1 := by split <;> assumption

theorem MemKeeps.loopTo {s0 s : State} {n : Nat} {f : Nat → State → State}
    (h : MemKeeps s0 s) (hf : ∀ t i, MemKeeps s0 t → MemKeeps s0 (f i t)) : MemKeeps s0 (loopTo n f s) :=
  MemKeeps.foldl h hf

theorem MemKeeps.have {s u : State} (t : State) (h : MemKeeps s t) (k : MemKeeps s t → MemKeeps s u) : MemKeeps s u := k h

theorem MemKeeps.fstOf {β : Type} {s t : State} {p : State × β} {b : β} (e : p = (t, b)) (h : MemKeeps s p.1) :
    MemKeeps s t := by subst e; exact h

theorem MemKeeps.failOf {s t : State} {l : Landed} {c a f : Nat} (e : l = .fail t c a f) (h : MemKeeps s l.after) :
    MemKeeps s t := by subst e; exact h

theorem MemKeeps.doneOf {s t : State} {l : Landed} {f : Nat} (e : l = .done t f) (h : MemKeeps s l.after) :
    MemKeeps s t := by subst e; exact h

theorem MemKeeps.failFstOf {β : Type} {s t : State} {p : Landed × β} {c a f : Nat} {b : β}
    (e : p = (.fail t c a f, b)) (h : MemKeeps s p.1.after) : MemKeeps s t := by subst e; exact h

theorem MemKeeps.doneFstOf {β : Type} {s t : State} {p : Landed × β} {f : Nat} {b : β}
    (e : p = (.done t f, b)) (h : MemKeeps s p.1.after) : MemKeeps s t := by subst e; exact h

/-- What a command keeps when it answers a next state. -/
structure OutMemKeeps (s : State) (o : Out) : Prop where
  ofNext : ∀ t, o = .next t → MemKeeps s t

theorem OutMemKeeps.have {s : State} {o : Out} (t : State) (h : MemKeeps s t) (k : MemKeeps s t → OutMemKeeps s o) :
    OutMemKeeps s o := k h

theorem OutMemKeeps.next {s t : State} (h : MemKeeps s t) : OutMemKeeps s (.next t) :=
  ⟨by intro u hu; cases hu; exact h⟩

theorem OutMemKeeps.ofSame {W : List Part} {s : State} {o : Out} (h : OutSame W s o)
    (hw : (!W.contains .stores && !W.contains .hostMem) = true) : OutMemKeeps s o :=
  ⟨fun t e => MemKeeps.ofSame (h.ofNext t e) hw⟩

theorem OutMemKeeps.ite {s : State} {a b : Out} {c : Prop} [Decidable c] (h : OutMemKeeps s a)
    (g : OutMemKeeps s b) : OutMemKeeps s (if c then a else b) := by split <;> assumption

end Sys2Proof
end

