-- ==== Sys2Proof/Laws/MemOps.lean ====
section
/-! SUPPORT. The functions of Machine/Ops.lean keep the memories in canonical form. -/

namespace Sys2Proof.Machine

open Sys2Proof

theorem when_mem {s0 : State} {b : Bool} {t s : State} (h : MemKeeps s0 t) (g : MemKeeps s0 s) :
    MemKeeps s0 (when b t s) := by
  unfold when; split <;> assumption

theorem State.setStore_mem {s0 s : State} {u : Nat} {x : Store} (h : MemKeeps s0 s)
    (hx : MemOk s → Memory.wf x.mem = true) : MemKeeps s0 (s.setStore u x) :=
  h.trans ⟨fun g => g.put u (hx g)⟩

end Sys2Proof.Machine
end

