-- ==== Sys2Proof/Laws/MemMemory.lean ====
section
/-! SUPPORT. The functions of Machine/Memory.lean keep the memories in canonical form. -/

namespace Sys2Proof.Machine

open Sys2Proof

theorem State.touch_mem (x1 : State) (x2 : Nat) :
    MemKeeps x1 (State.touch x1 x2) := by
  unfold State.touch
  refine MemKeeps.ite ?_ ?_
  · with_reducible refine State.setStore_mem ?_ ?_
    · exact MemKeeps.refl _
    · exact fun h => MemOk.store h _
  · exact MemKeeps.refl _

theorem State.touchReplicas_mem (x1 : State) :
    MemKeeps x1 (State.touchReplicas x1) := by
  unfold State.touchReplicas
  refine MemKeeps.loopTo ?_ fun q0 y1 h2 => ?_
  · exact MemKeeps.refl _
  · refine MemKeeps.ite ?_ ?_
    · exact h2
    · with_reducible refine MemKeeps.step (State.touch_mem _ _) ?_
      exact h2

theorem State.prefetch_mem (x1 : State) (x2 x3 x4 : Nat) :
    MemKeeps x1 (State.prefetch x1 x2 x3 x4) := by
  unfold State.prefetch
  extract_lets v0 v1
  refine MemKeeps.have v1 ?_ fun h2 => ?_
  · with_reducible refine MemKeeps.step (MemKeeps.ofSame (State.bump_same _ _) (by decide)) ?_
    with_reducible refine MemKeeps.step (State.touch_mem _ _) ?_
    exact MemKeeps.refl _
  clear_value v1
  refine MemKeeps.ite ?_ ?_
  · refine MemKeeps.ite ?_ ?_
    · with_reducible refine MemKeeps.step (MemKeeps.ofSame (State.cacheLine_same _ _ _ _) (by decide)) ?_
      exact h2
    · exact h2
  · exact MemKeeps.refl _

theorem State.walk_mem (x1 : State) (x2 x3 x4 : Nat) :
    MemKeeps x1 (State.walk x1 x2 x3 x4).1 := by
  unfold State.walk
  extract_lets v0 v1 v2 v3 v4 v5
  refine MemKeeps.have v1 ?_ fun h6 => ?_
  · with_reducible refine MemKeeps.step (MemKeeps.ofSame (State.bump_same _ _) (by decide)) ?_
    with_reducible refine State.setStore_mem ?_ ?_
    · exact MemKeeps.refl _
    · exact fun h => MemOk.store h _
  clear_value v1
  refine MemKeeps.have v2 ?_ fun h7 => ?_
  · with_reducible refine MemKeeps.step (MemKeeps.ofSame (State.cacheLine_same _ _ _ _) (by decide)) ?_
    exact h6
  clear_value v2
  refine MemKeeps.have v5 ?_ fun h8 => ?_
  · with_reducible refine MemKeeps.step (MemKeeps.ofSame (State.putEntryAt_same _ _ _ _) (by decide)) ?_
    exact h7
  clear_value v5
  refine MemKeeps.iteFst ?_ ?_
  · dsimp only
    exact h6
  · refine MemKeeps.iteFst ?_ ?_
    · dsimp only
      exact h7
    · dsimp only
      with_reducible refine MemKeeps.record rfl ?_ ?_
      · exact MemKeeps.of_eq rfl rfl
      exact h8

theorem State.lookup_mem (x1 : State) (x2 x3 x4 : Nat) (x5 : Bool) :
    MemKeeps x1 (State.lookup x1 x2 x3 x4 x5).1 := by
  unfold State.lookup
  split
  · rename_i e0 e1 e2
    refine MemKeeps.iteFst ?_ ?_
    · with_reducible refine MemKeeps.step (State.walk_mem _ _ _ _) ?_
      exact MemKeeps.refl _
    · extract_lets v3
      refine MemKeeps.have v3 ?_ fun h4 => ?_
      · with_reducible refine MemKeeps.step (MemKeeps.ofSame (State.bump_same _ _) (by decide)) ?_
        with_reducible refine MemKeeps.record rfl ?_ ?_
        · exact MemKeeps.of_eq rfl rfl
        exact MemKeeps.refl _
      clear_value v3
      dsimp only
      with_reducible refine MemKeeps.step (State.prefetch_mem _ _ _ _) ?_
      exact h4
  · rename_i e5 e6
    with_reducible refine MemKeeps.step (State.walk_mem _ _ _ _) ?_
    exact MemKeeps.refl _

theorem State.setDirty_mem (x1 : State) (x2 x3 : Nat) :
    MemKeeps x1 (State.setDirty x1 x2 x3) := by
  unfold State.setDirty
  refine MemKeeps.ite ?_ ?_
  · exact MemKeeps.refl _
  · extract_lets v0 v1
    refine MemKeeps.have v0 ?_ fun h2 => ?_
    · with_reducible refine MemKeeps.step (State.touchReplicas_mem _) ?_
      exact MemKeeps.refl _
    clear_value v0
    with_reducible refine MemKeeps.record rfl ?_ ?_
    · exact MemKeeps.of_eq rfl rfl
    exact h2

theorem State.dirtyAll_mem (x1 : State) (x2 : Nat) (x3 : List (Nat × Nat)) :
    MemKeeps x1 (State.dirtyAll x1 x2 x3) := by
  unfold State.dirtyAll
  refine MemKeeps.foldl ?_ fun q0 y1 h2 => ?_
  · exact MemKeeps.refl _
  · with_reducible refine MemKeeps.step (State.setDirty_mem _ _ _) ?_
    exact h2

theorem State.translate_mem (x1 : State) (x2 : Nat) (x3 x4 : Bool) (x5 : Accessor) (x6 : Option Nat) (x7 : List (Nat × Nat)) :
    MemKeeps x1 (State.translate x1 x2 x3 x4 x5 x6 x7).1 := by
  induction x7 generalizing x1
  · unfold State.translate
    dsimp only
    exact MemKeeps.refl _
  · rename_i i0 i1 i2
    unfold State.translate
    split
    · rename_i e3 e4 e5
      dsimp only
      refine MemKeeps.fstOf e5 ?_
      with_reducible refine MemKeeps.step (State.lookup_mem _ _ _ _ _) ?_
      exact MemKeeps.refl _
    · rename_i e6 e7 e8 e9
      split
      · rename_i e10 e11 e12
        extract_lets v13
        refine MemKeeps.have v13 ?_ fun h14 => ?_
        · refine MemKeeps.ite ?_ ?_
          · with_reducible refine MemKeeps.step (MemKeeps.ofSame (State.bump_same _ _) (by decide)) ?_
            refine MemKeeps.fstOf e9 ?_
            with_reducible refine MemKeeps.step (State.lookup_mem _ _ _ _ _) ?_
            exact MemKeeps.refl _
          · refine MemKeeps.ite ?_ ?_
            · with_reducible refine MemKeeps.step (MemKeeps.ofSame (State.bump_same _ _) (by decide)) ?_
              refine MemKeeps.fstOf e9 ?_
              with_reducible refine MemKeeps.step (State.lookup_mem _ _ _ _ _) ?_
              exact MemKeeps.refl _
            · refine MemKeeps.fstOf e9 ?_
              with_reducible refine MemKeeps.step (State.lookup_mem _ _ _ _ _) ?_
              exact MemKeeps.refl _
        clear_value v13
        dsimp only
        exact h14
      · rename_i e15 e16
        refine MemKeeps.iteFst ?_ ?_
        · dsimp only
          refine MemKeeps.fstOf e9 ?_
          with_reducible refine MemKeeps.step (State.lookup_mem _ _ _ _ _) ?_
          exact MemKeeps.refl _
        · split
          · rename_i e17 e18 e19 e20
            dsimp only
            refine MemKeeps.fstOf e20 ?_
            with_reducible refine MemKeeps.step (i2 _) ?_
            refine MemKeeps.fstOf e9 ?_
            with_reducible refine MemKeeps.step (State.lookup_mem _ _ _ _ _) ?_
            exact MemKeeps.refl _
          · rename_i e21 e22 e23 e24
            dsimp only
            refine MemKeeps.fstOf e24 ?_
            with_reducible refine MemKeeps.step (i2 _) ?_
            refine MemKeeps.fstOf e9 ?_
            with_reducible refine MemKeeps.step (State.lookup_mem _ _ _ _ _) ?_
            exact MemKeeps.refl _

theorem State.physWrite_mem (x1 : State) (x2 x3 : Nat) (x4 : List Byte) :
    MemKeeps x1 (State.physWrite x1 x2 x3 x4) := by
  unfold State.physWrite
  extract_lets v0 v1
  refine MemKeeps.have v1 ?_ fun h2 => ?_
  · with_reducible refine State.setStore_mem ?_ ?_
    · exact MemKeeps.refl _
    · exact fun h => wrBytes_wf _ (MemOk.store h _) _
  clear_value v1
  split
  · rename_i e3 e4 e5
    refine MemKeeps.ite ?_ ?_
    · with_reducible refine MemKeeps.record rfl ?_ ?_
      · exact MemKeeps.of_eq rfl rfl
      exact h2
    · refine MemKeeps.ite ?_ ?_
      · extract_lets v6 v7 v8
        with_reducible refine State.setStore_mem ?_ ?_
        · exact h2
        · exact fun h => wrBytes_wf _ (MemOk.store h _) _
      · exact h2
  · rename_i e9 e10
    exact h2

theorem State.recWrote_mem (x1 : State) (x2 : Stream) (x3 : Bool) (x4 x5 : Nat) :
    MemKeeps x1 (State.recWrote x1 x2 x3 x4 x5) := by
  unfold State.recWrote
  with_reducible refine State.setStore_mem ?_ ?_
  · exact MemKeeps.refl _
  · exact fun h => MemOk.store h _

theorem State.virtWrite_mem (x1 : State) (x2 : List (Nat × Nat)) (x3 : Nat) (x4 : Bool) (x5 : Nat) (x6 : List Byte) :
    MemKeeps x1 (State.virtWrite x1 x2 x3 x4 x5 x6) := by
  unfold State.virtWrite
  refine MemKeeps.foldl ?_ fun q0 y1 h2 => ?_
  · exact MemKeeps.refl _
  · split
    rename_i e3 e4 e5 e6
    with_reducible refine MemKeeps.step (State.physWrite_mem _ _ _ _) ?_
    exact h2

theorem State.wake_mem (x1 : State) (x2 : List (Nat × Nat)) (x3 : Nat) :
    MemKeeps x1 (State.wake x1 x2 x3) := by
  unfold State.wake
  refine MemKeeps.foldl ?_ fun q0 y1 h2 => ?_
  · exact MemKeeps.refl _
  · with_reducible refine MemKeeps.step (State.touch_mem _ _) ?_
    exact h2

end Sys2Proof.Machine
end

