-- ==== Sys2Proof/Laws/MemHubMemory.lean ====
section
/-! SUPPORT. The functions of Machine/HubMemory.lean keep the memories in canonical form. -/

namespace Sys2Proof.Machine

open Sys2Proof

theorem State.hubWrite_mem (x1 : State) (x2 : List (Nat × Nat)) (x3 : Bool) (x4 : Nat) (x5 : List Byte) :
    MemKeeps x1 (State.hubWrite x1 x2 x3 x4 x5) := by
  unfold State.hubWrite
  refine MemKeeps.foldl ?_ fun q0 y1 h2 => ?_
  · exact MemKeeps.refl _
  · extract_lets v3 v4
    refine MemKeeps.foldl ?_ fun q5 y6 h7 => ?_
    · exact h2
    · with_reducible refine MemKeeps.step (State.physWrite_mem _ _ _ _) ?_
      exact h7

end Sys2Proof.Machine
end

