-- ==== Sys2Proof/Laws/MemPricking.lean ====
section
/-! SUPPORT. The functions of Machine/Pricking.lean keep the memories in canonical form. -/

namespace Sys2Proof.Machine

open Sys2Proof

theorem execPrickingDoorbell_mem (x1 : Fin 2) (x2 : Fin 8) (x3 : State) :
    OutMemKeeps x3 (execPrickingDoorbell x1 x2 x3) :=
  OutMemKeeps.ofSame (execPrickingDoorbell_same _ _ _) (by decide)

theorem execPrickingSlotWrite_mem (x1 : Fin 2) (x2 : Fin 8) (x3 : Nat) (x4 : BitVec 64) (x5 : State) :
    OutMemKeeps x5 (execPrickingSlotWrite x1 x2 x3 x4 x5) :=
  OutMemKeeps.ofSame (execPrickingSlotWrite_same _ _ _ _ _) (by decide)

end Sys2Proof.Machine
end

