-- ==== Sys2Proof/Laws/MemStreamRecord.lean ====
section
/-! SUPPORT. The functions of Machine/StreamRecord.lean keep the memories in canonical form. -/

namespace Sys2Proof.Machine

open Sys2Proof

theorem State.applyDeferred_mem (x1 : State) (x2 : Deferred) :
    MemKeeps x1 (State.applyDeferred x1 x2) := by
  unfold State.applyDeferred
  extract_lets v0 v1 v2 v3 v4 v5 v6
  refine MemKeeps.have v2 ?_ fun h7 => ?_
  · with_reducible refine MemKeeps.step (State.touch_mem _ _) ?_
    exact MemKeeps.refl _
  clear_value v2
  refine MemKeeps.have v6 ?_ fun h8 => ?_
  · dsimp only [v6]
    with_reducible refine MemKeeps.record rfl ?_ ?_
    · exact MemKeeps.hostUpd rfl fun h => wrBytes_wf _ h _
    exact h7
  clear_value v6
  refine MemKeeps.ite ?_ ?_
  · with_reducible refine MemKeeps.step (MemKeeps.ofSame (State.finishCmd_same _ _ _ _ _) (by decide)) ?_
    exact h7
  · split
    · rename_i e9 e10
      split
      · rename_i e11 e12 e13
        with_reducible refine MemKeeps.step (MemKeeps.ofSame (State.finishCmd_same _ _ _ _ _) (by decide)) ?_
        exact h7
      · rename_i e14 e15
        split
        · rename_i e16 e17 e18
          with_reducible refine MemKeeps.step (MemKeeps.ofSame (State.finishCmd_same _ _ _ _ _) (by decide)) ?_
          exact h7
        · rename_i e19 e20
          with_reducible refine MemKeeps.step (MemKeeps.ofSame (State.finishCmd_same _ _ _ _ _) (by decide)) ?_
          with_reducible refine MemKeeps.step (MemKeeps.ofSame (State.setStream_same _ _ _) (by decide)) ?_
          exact h7
    · rename_i e21 e22
      with_reducible refine MemKeeps.step (MemKeeps.ofSame (State.finishCmd_same _ _ _ _ _) (by decide)) ?_
      with_reducible refine MemKeeps.step (MemKeeps.ofSame (State.setStream_same _ _ _) (by decide)) ?_
      with_reducible refine MemKeeps.step (State.recWrote_mem _ _ _ _ _) ?_
      exact h7
    · rename_i e23 e24 e25
      with_reducible refine MemKeeps.step (MemKeeps.ofSame (State.finishCmd_same _ _ _ _ _) (by decide)) ?_
      exact h8

theorem State.applyWaiting_mem (x1 : State) (x2 : Nat) :
    MemKeeps x1 (State.applyWaiting x1 x2) := by
  unfold State.applyWaiting
  extract_lets v0
  refine MemKeeps.ite ?_ ?_
  · exact MemKeeps.refl _
  · refine MemKeeps.foldl ?_ fun q1 y2 h3 => ?_
    · with_reducible refine MemKeeps.step (MemKeeps.ofSame (State.setStream_same _ _ _) (by decide)) ?_
      exact MemKeeps.refl _
    · with_reducible refine MemKeeps.step (State.applyDeferred_mem _ _) ?_
      exact h3

end Sys2Proof.Machine
end

