-- ==== Sys2Proof/Laws/MemSteps.lean ====
section
/-! SUPPORT. The functions of Machine/Steps.lean keep the memories in canonical form. -/

namespace Sys2Proof.Machine

open Sys2Proof

theorem State.stepFault_mem (x1 : State) (x2 : Grant) (x3 : FaultInfo) :
    MemKeeps x1 (State.stepFault x1 x2 x3) := by
  unfold State.stepFault
  extract_lets v0 v1 v2 v3 v4 v5
  refine MemKeeps.have v1 ?_ fun h6 => ?_
  · with_reducible refine MemKeeps.step (MemKeeps.ofSame (State.countFault_same _ _) (by decide)) ?_
    with_reducible refine MemKeeps.step (MemKeeps.ofSame (State.stopCores_same _ _) (by decide)) ?_
    exact MemKeeps.refl _
  clear_value v1
  refine MemKeeps.have v2 ?_ fun h7 => ?_
  · with_reducible refine MemKeeps.step (MemKeeps.ofSame (State.traceStep_same _ _ _ _ _ _ _ _) (by decide)) ?_
    with_reducible refine MemKeeps.step (MemKeeps.ofSame (State.postStep_same _ _ _ _ _ _ _ _) (by decide)) ?_
    exact h6
  clear_value v2
  refine MemKeeps.have v4 ?_ fun h8 => ?_
  · dsimp only [v4]
    with_reducible refine MemKeeps.record rfl ?_ ?_
    · exact MemKeeps.of_eq rfl rfl
    exact h7
  clear_value v4
  refine MemKeeps.have v5 ?_ fun h9 => ?_
  · refine MemKeeps.foldl ?_ fun q10 y11 h12 => ?_
    · exact h8
    · with_reducible refine MemKeeps.step (MemKeeps.ofSame (State.note_same _ _ _ _) (by decide)) ?_
      exact h12
  clear_value v5
  with_reducible refine MemKeeps.step (State.applyWaiting_mem _ _) ?_
  with_reducible refine MemKeeps.step (MemKeeps.ofSame (State.sweepEntries_same _ _) (by decide)) ?_
  exact h9

theorem State.discardDie_mem (x1 : State) (x2 : Nat) (x3 : FaultInfo) :
    MemKeeps x1 (State.discardDie x1 x2 x3) := by
  unfold State.discardDie
  extract_lets v0
  refine MemKeeps.have v0 ?_ fun h1 => ?_
  · refine MemKeeps.foldl ?_ fun q2 y3 h4 => ?_
    · exact MemKeeps.refl _
    · with_reducible refine MemKeeps.step (State.stepFault_mem _ _ _) ?_
      exact h4
  clear_value v0
  with_reducible refine MemKeeps.step (MemKeeps.ofSame (State.sweepEntries_same _ _) (by decide)) ?_
  exact h1

theorem execEntryStartOffset_mem (x1 x2 : Nat) (x3 : State) :
    OutMemKeeps x3 (execEntryStartOffset x1 x2 x3) :=
  OutMemKeeps.ofSame (execEntryStartOffset_same _ _ _) (by decide)

theorem execDeadlineTick_mem (x1 : Fin 8) (x2 : State) :
    OutMemKeeps x2 (execDeadlineTick x1 x2) :=
  OutMemKeeps.ofSame (execDeadlineTick_same _ _) (by decide)

theorem execStepRunLimit_mem (x1 : Fin 8) (x2 : State) :
    OutMemKeeps x2 (execStepRunLimit x1 x2) := by
  unfold execStepRunLimit
  split
  · rename_i e0 e1 e2
    refine OutMemKeeps.next ?_
    with_reducible refine MemKeeps.step (State.stepFault_mem _ _ _) ?_
    exact MemKeeps.refl _
  · rename_i e3 e4
    refine OutMemKeeps.next ?_
    exact MemKeeps.refl _

theorem State.stepStart_mem (x1 : State) (x2 : Grant) :
    MemKeeps x1 (State.stepStart x1 x2) := by
  unfold State.stepStart
  extract_lets v0 v1 v2 v3 v4 v5 v6 v7
  refine MemKeeps.have v4 ?_ fun h8 => ?_
  · with_reducible refine MemKeeps.step (MemKeeps.ofSame (State.traceStep_same _ _ _ _ _ _ _ _) (by decide)) ?_
    exact MemKeeps.refl _
  clear_value v4
  refine MemKeeps.have v6 ?_ fun h9 => ?_
  · with_reducible refine MemKeeps.step (MemKeeps.ofSame (State.setStream_same _ _ _) (by decide)) ?_
    with_reducible refine MemKeeps.step (State.recWrote_mem _ _ _ _ _) ?_
    with_reducible refine MemKeeps.step (State.touch_mem _ _) ?_
    with_reducible refine MemKeeps.step (State.touch_mem _ _) ?_
    exact h8
  clear_value v6
  refine MemKeeps.have v7 ?_ fun h10 => ?_
  · dsimp only [v7]
    with_reducible refine MemKeeps.record rfl ?_ ?_
    · exact MemKeeps.of_eq rfl rfl
    exact h9
  clear_value v7
  refine MemKeeps.ite ?_ ?_
  · with_reducible refine MemKeeps.step (State.stepFault_mem _ _ _) ?_
    exact h10
  · exact h10

theorem State.grantEntry_mem (x1 : State) (x2 : Entry) :
    MemKeeps x1 (State.grantEntry x1 x2) := by
  unfold State.grantEntry
  extract_lets v0 v1 v2
  refine MemKeeps.have v2 ?_ fun h3 => ?_
  · with_reducible refine MemKeeps.step (MemKeeps.ofSame (State.setEntry_same _ _ _ _) (by decide)) ?_
    with_reducible refine MemKeeps.record rfl ?_ ?_
    · exact MemKeeps.of_eq rfl rfl
    exact MemKeeps.refl _
  clear_value v2
  refine MemKeeps.ite ?_ ?_
  · with_reducible refine MemKeeps.record rfl ?_ ?_
    · exact MemKeeps.of_eq rfl rfl
    exact h3
  · with_reducible refine MemKeeps.step (State.stepStart_mem _ _) ?_
    exact h3

theorem execCoreGrant_mem (x1 : Fin 8) (x2 : State) :
    OutMemKeeps x2 (execCoreGrant x1 x2) := by
  unfold execCoreGrant
  extract_lets v0 v1
  refine OutMemKeeps.ite ?_ ?_
  · refine OutMemKeeps.next ?_
    exact MemKeeps.refl _
  · split
    · rename_i e2 e3 e4 e5
      refine OutMemKeeps.next ?_
      with_reducible refine MemKeeps.step (MemKeeps.ofSame (State.refuseEntry_same _ _ _) (by decide)) ?_
      exact MemKeeps.refl _
    · rename_i e6 e7 e8
      refine OutMemKeeps.next ?_
      with_reducible refine MemKeeps.step (State.grantEntry_mem _ _) ?_
      exact MemKeeps.refl _
    · rename_i e9 e10
      refine OutMemKeeps.next ?_
      exact MemKeeps.refl _

end Sys2Proof.Machine
end

