-- ==== Sys2Proof/Laws/MemCapture.lean ====
section
/-! SUPPORT. The functions of Machine/Capture.lean keep the memories in canonical form. -/

namespace Sys2Proof.Machine

open Sys2Proof

theorem State.captureBy_mem (x1 : State) (x2 : Nat) (x3 : Grant) (x4 : Nat) (x5 : CoreRun) :
    MemKeeps x1 (State.captureBy x1 x2 x3 x4 x5) := by
  unfold State.captureBy
  extract_lets v0 v1 v2 v3 v4 v5 v6 v7 v8 v9 v10 v11 v12 v13 v14
  refine MemKeeps.have v14 ?_ fun h15 => ?_
  · with_reducible refine MemKeeps.step (MemKeeps.ofSame (State.setReg_same _ _ _) (by decide)) ?_
    exact MemKeeps.refl _
  clear_value v14
  refine MemKeeps.ite ?_ ?_
  · exact MemKeeps.refl _
  · refine MemKeeps.ite ?_ ?_
    · with_reducible refine MemKeeps.step (MemKeeps.ofSame (State.bump_same _ _) (by decide)) ?_
      exact h15
    · split
      · rename_i e16 e17
        with_reducible refine MemKeeps.step (MemKeeps.ofSame (State.bump_same _ _) (by decide)) ?_
        exact h15
      · rename_i e18 e19 e20
        refine MemKeeps.ite ?_ ?_
        · with_reducible refine MemKeeps.step (MemKeeps.ofSame (State.bump_same _ _) (by decide)) ?_
          exact h15
        · with_reducible refine MemKeeps.step (MemKeeps.ofSame (State.bump_same _ _) (by decide)) ?_
          with_reducible refine MemKeeps.step (MemKeeps.ofSame (State.setReg_same _ _ _) (by decide)) ?_
          with_reducible refine MemKeeps.step (State.hubWrite_mem _ _ _ _ _) ?_
          exact h15

theorem State.capture_mem (x1 : State) (x2 : Grant) (x3 : Nat) (x4 : CoreRun) :
    MemKeeps x1 (State.capture x1 x2 x3 x4) := by
  unfold State.capture
  refine MemKeeps.loopTo ?_ fun q0 y1 h2 => ?_
  · exact MemKeeps.refl _
  · refine MemKeeps.ite ?_ ?_
    · with_reducible refine MemKeeps.step (State.captureBy_mem _ _ _ _ _) ?_
      exact h2
    · exact h2

end Sys2Proof.Machine
end

