-- ==== Sys2Proof/Laws/MemForeign.lean ====
section
/-! SUPPORT. The functions of Machine/Foreign.lean keep the memories in canonical form. -/

namespace Sys2Proof.Machine

open Sys2Proof

theorem State.admitPacket_mem (x1 : State) (x2 : Packet) (x3 : Nat) (x4 : Bool) (x5 : Accessor) (x6 : Option Nat) :
    MemKeeps x1 (State.admitPacket x1 x2 x3 x4 x5 x6).1 := by
  unfold State.admitPacket
  refine MemKeeps.iteFst ?_ ?_
  · dsimp only
    exact MemKeeps.refl _
  · refine MemKeeps.iteFst ?_ ?_
    · extract_lets v0 v1
      refine MemKeeps.iteFst ?_ ?_
      · dsimp only
        exact MemKeeps.refl _
      · split
        · rename_i e2 e3 e4 e5
          dsimp only
          refine MemKeeps.fstOf e5 ?_
          with_reducible refine MemKeeps.step (State.translate_mem _ _ _ _ _ _ _) ?_
          exact MemKeeps.refl _
        · rename_i e6 e7 e8 e9
          refine MemKeeps.iteFst ?_ ?_
          · dsimp only
            with_reducible refine MemKeeps.step (MemKeeps.ofSame (State.bump_same _ _) (by decide)) ?_
            refine MemKeeps.fstOf e9 ?_
            with_reducible refine MemKeeps.step (State.translate_mem _ _ _ _ _ _ _) ?_
            exact MemKeeps.refl _
          · dsimp only
            refine MemKeeps.ite ?_ ?_
            · with_reducible refine MemKeeps.step (State.dirtyAll_mem _ _ _) ?_
              refine MemKeeps.fstOf e9 ?_
              with_reducible refine MemKeeps.step (State.translate_mem _ _ _ _ _ _ _) ?_
              exact MemKeeps.refl _
            · refine MemKeeps.fstOf e9 ?_
              with_reducible refine MemKeeps.step (State.translate_mem _ _ _ _ _ _ _) ?_
              exact MemKeeps.refl _
    · refine MemKeeps.iteFst ?_ ?_
      · split
        · rename_i e10 e11
          dsimp only
          exact MemKeeps.refl _
        · rename_i e12 e13 e14 e15
          refine MemKeeps.iteFst ?_ ?_
          · dsimp only
            exact MemKeeps.refl _
          · refine MemKeeps.iteFst ?_ ?_
            · dsimp only
              exact MemKeeps.refl _
            · dsimp only
              exact MemKeeps.refl _
      · dsimp only
        exact MemKeeps.refl _

theorem State.writePlace_mem (s : State) (p : Packet) (bs : List Byte) (x : Place) :
    ∀ t, s.writePlace p bs x = some t → MemKeeps s t := by
  intro t ht
  cases x with
  | mem tier tr =>
    simp only [State.writePlace] at ht
    split at ht
    · exact absurd ht (by simp)
    · cases ht
      exact MemKeeps.step (State.wake_mem _ _ _) (State.virtWrite_mem _ _ _ _ _ _)
  | scratch k =>
    simp only [State.writePlace, Option.some.injEq] at ht
    subst ht
    exact MemKeeps.ofSame (State.setCore_same _ _ _) (by decide)

theorem State.again_mem {s0 s : State} {p : Packet} {go : State}
    (h : MemKeeps s0 s) (hg : MemKeeps s0 go) : MemKeeps s0 (s.again p go) := by
  unfold State.again
  repeat' split
  · exact h
  · exact h
  · exact h.trans (MemKeeps.ofSame (State.unknown_same _ _) (by decide))
  · exact h.trans (MemKeeps.ofSame (State.respond_same _ _) (by decide))
  · exact hg

theorem State.once_mem {s0 s : State} {p : Packet} {site age : Nat} {apply : State → State}
    (h : MemKeeps s0 s) (ha : ∀ t, MemKeeps s0 t → MemKeeps s0 (apply t)) : MemKeeps s0 (s.once p site age apply) := by
  unfold State.once
  repeat' split
  · exact h.trans (MemKeeps.ofSame (State.unknown_same _ _) (by decide))
  · exact h.trans (MemKeeps.ofSame (State.reply_same _ _ _ _) (by decide))
  · exact ha _ h

theorem State.landFlagPacket_mem (x1 : State) (x2 : HeldPacket) :
    MemKeeps x1 (State.landFlagPacket x1 x2) := by
  unfold State.landFlagPacket
  extract_lets v0
  split
  · rename_i e1 e2
    with_reducible refine MemKeeps.step (MemKeeps.ofSame (State.reply_same _ _ _ _) (by decide)) ?_
    exact MemKeeps.refl _
  · rename_i e3 e4 e5
    split
    · rename_i e6 e7
      with_reducible refine MemKeeps.step (MemKeeps.ofSame (State.reply_same _ _ _ _) (by decide)) ?_
      exact MemKeeps.refl _
    · rename_i e8 e9 e10
      with_reducible refine MemKeeps.step (MemKeeps.ofSame (State.settle_same _ _ _ _ _) (by decide)) ?_
      refine MemKeeps.step (State.writePlace_mem _ _ _ _ _ e10) ?_
      exact MemKeeps.refl _

theorem State.applyFlag_mem (x1 : State) (x2 : HeldPacket) :
    MemKeeps x1 (State.applyFlag x1 x2) := by
  unfold State.applyFlag
  split
  · rename_i e0 e1 e2
    with_reducible refine MemKeeps.step (MemKeeps.ofSame (State.holdIn_same _ _ _) (by decide)) ?_
    exact MemKeeps.refl _
  · rename_i e3 e4
    with_reducible refine MemKeeps.step (State.landFlagPacket_mem _ _) ?_
    exact MemKeeps.refl _

theorem State.trackerCheck_mem (x1 : State) (x2 x3 x4 : Nat) :
    MemKeeps x1 (State.trackerCheck x1 x2 x3 x4) := by
  unfold State.trackerCheck
  split
  · rename_i e0 e1 e2
    split
    · rename_i e3 e4 e5
      refine MemKeeps.ite ?_ ?_
      · with_reducible refine MemKeeps.step (State.applyFlag_mem _ _) ?_
        with_reducible refine MemKeeps.step (MemKeeps.ofSame (State.dropTracker_same _ _ _ _) (by decide)) ?_
        exact MemKeeps.refl _
      · exact MemKeeps.refl _
    · rename_i e6 e7
      exact MemKeeps.refl _
  · rename_i e8 e9
    exact MemKeeps.refl _

theorem State.landWrite_mem (x1 : State) (x2 : HeldPacket) :
    MemKeeps x1 (State.landWrite x1 x2) := by
  unfold State.landWrite
  extract_lets v0 v1
  split
  · rename_i e2 e3
    with_reducible refine MemKeeps.step (MemKeeps.ofSame (State.reply_same _ _ _ _) (by decide)) ?_
    exact MemKeeps.refl _
  · rename_i e4 e5 e6
    extract_lets v7 v8
    refine MemKeeps.have v8 ?_ fun h9 => ?_
    · refine MemKeeps.ite ?_ ?_
      · with_reducible refine MemKeeps.step (State.trackerCheck_mem _ _ _ _) ?_
        with_reducible refine MemKeeps.step (MemKeeps.ofSame (State.putTracker_same _ _) (by decide)) ?_
        refine MemKeeps.step (State.writePlace_mem _ _ _ _ _ e6) ?_
        exact MemKeeps.refl _
      · refine MemKeeps.step (State.writePlace_mem _ _ _ _ _ e6) ?_
        exact MemKeeps.refl _
    clear_value v8
    with_reducible refine MemKeeps.step (MemKeeps.ofSame (State.reply_same _ _ _ _) (by decide)) ?_
    exact h9

theorem State.landAtomicPacket_mem (x1 : State) (x2 : HeldPacket) :
    MemKeeps x1 (State.landAtomicPacket x1 x2) := by
  unfold State.landAtomicPacket
  extract_lets v0 v1
  split
  · rename_i e2 e3
    with_reducible refine MemKeeps.step (MemKeeps.ofSame (State.reply_same _ _ _ _) (by decide)) ?_
    exact MemKeeps.refl _
  · rename_i e4 e5 e6
    extract_lets v7 v8
    split
    · rename_i e9 e10
      with_reducible refine MemKeeps.step (MemKeeps.ofSame (State.reply_same _ _ _ _) (by decide)) ?_
      exact MemKeeps.refl _
    · rename_i e11 e12 e13
      with_reducible refine MemKeeps.step (MemKeeps.ofSame (State.settle_same _ _ _ _ _) (by decide)) ?_
      refine MemKeeps.step (State.writePlace_mem _ _ _ _ _ e13) ?_
      exact MemKeeps.refl _

theorem State.landHeld_mem (x1 : State) (x2 : HeldPacket) :
    MemKeeps x1 (State.landHeld x1 x2) := by
  unfold State.landHeld
  split
  · rename_i e0 e1
    with_reducible refine MemKeeps.step (State.landWrite_mem _ _) ?_
    exact MemKeeps.refl _
  · rename_i e2 e3
    with_reducible refine MemKeeps.step (State.landFlagPacket_mem _ _) ?_
    exact MemKeeps.refl _
  · rename_i e4 e5 e6
    with_reducible refine MemKeeps.step (State.landAtomicPacket_mem _ _) ?_
    exact MemKeeps.refl _

theorem State.doWrite_mem (x1 : State) (x2 : Packet) (x3 : Bool) :
    MemKeeps x1 (State.doWrite x1 x2 x3) := by
  unfold State.doWrite
  split
  · rename_i e0 e1 e2 e3
    with_reducible refine MemKeeps.step (MemKeeps.ofSame (State.reply_same _ _ _ _) (by decide)) ?_
    refine MemKeeps.fstOf e3 ?_
    with_reducible refine MemKeeps.step (State.admitPacket_mem _ _ _ _ _ _) ?_
    exact MemKeeps.refl _
  · rename_i e4 e5 e6 e7
    extract_lets v8 v9 v10
    refine MemKeeps.ite ?_ ?_
    · refine MemKeeps.fstOf e7 ?_
      with_reducible refine MemKeeps.step (State.admitPacket_mem _ _ _ _ _ _) ?_
      exact MemKeeps.refl _
    · refine MemKeeps.ite ?_ ?_
      · with_reducible refine MemKeeps.step (MemKeeps.ofSame (State.reply_same _ _ _ _) (by decide)) ?_
        refine MemKeeps.fstOf e7 ?_
        with_reducible refine MemKeeps.step (State.admitPacket_mem _ _ _ _ _ _) ?_
        exact MemKeeps.refl _
      · split
        · rename_i e11 e12 e13
          with_reducible refine MemKeeps.step (MemKeeps.ofSame (State.holdIn_same _ _ _) (by decide)) ?_
          refine MemKeeps.ite ?_ ?_
          · with_reducible refine MemKeeps.step (MemKeeps.ofSame (State.putTracker_same _ _) (by decide)) ?_
            refine MemKeeps.fstOf e7 ?_
            with_reducible refine MemKeeps.step (State.admitPacket_mem _ _ _ _ _ _) ?_
            exact MemKeeps.refl _
          · refine MemKeeps.fstOf e7 ?_
            with_reducible refine MemKeeps.step (State.admitPacket_mem _ _ _ _ _ _) ?_
            exact MemKeeps.refl _
        · rename_i e14 e15
          with_reducible refine MemKeeps.step (State.landWrite_mem _ _) ?_
          refine MemKeeps.fstOf e7 ?_
          with_reducible refine MemKeeps.step (State.admitPacket_mem _ _ _ _ _ _) ?_
          exact MemKeeps.refl _

theorem State.doFlag_mem (x1 : State) (x2 : Packet) (x3 : Bool) :
    MemKeeps x1 (State.doFlag x1 x2 x3) := by
  unfold State.doFlag
  with_reducible refine State.again_mem ?_ ?_
  · exact MemKeeps.refl _
  · split
    · rename_i e0 e1 e2 e3
      with_reducible refine MemKeeps.step (MemKeeps.ofSame (State.reply_same _ _ _ _) (by decide)) ?_
      refine MemKeeps.fstOf e3 ?_
      with_reducible refine MemKeeps.step (State.admitPacket_mem _ _ _ _ _ _) ?_
      exact MemKeeps.refl _
    · rename_i e4 e5 e6 e7
      extract_lets v8 v9
      refine MemKeeps.ite ?_ ?_
      · refine MemKeeps.fstOf e7 ?_
        with_reducible refine MemKeeps.step (State.admitPacket_mem _ _ _ _ _ _) ?_
        exact MemKeeps.refl _
      · with_reducible refine State.once_mem ?_ ?_
        · refine MemKeeps.fstOf e7 ?_
          with_reducible refine MemKeeps.step (State.admitPacket_mem _ _ _ _ _ _) ?_
          exact MemKeeps.refl _
        · intro y10 h11
          refine MemKeeps.ite ?_ ?_
          · with_reducible refine MemKeeps.step (State.applyFlag_mem _ _) ?_
            exact h11
          · split
            · rename_i e12 e13
              refine MemKeeps.ite ?_ ?_
              · with_reducible refine MemKeeps.step (MemKeeps.ofSame (State.reply_same _ _ _ _) (by decide)) ?_
                exact h11
              · with_reducible refine MemKeeps.step (MemKeeps.ofSame (State.putTracker_same _ _) (by decide)) ?_
                exact h11
            · rename_i e14 e15 e16
              with_reducible refine MemKeeps.step (State.trackerCheck_mem _ _ _ _) ?_
              with_reducible refine MemKeeps.step (MemKeeps.ofSame (State.putTracker_same _ _) (by decide)) ?_
              exact h11

theorem State.doAtomic_mem (x1 : State) (x2 : Packet) :
    MemKeeps x1 (State.doAtomic x1 x2) := by
  unfold State.doAtomic
  with_reducible refine State.again_mem ?_ ?_
  · exact MemKeeps.refl _
  · split
    · rename_i e0 e1 e2 e3
      with_reducible refine MemKeeps.step (MemKeeps.ofSame (State.reply_same _ _ _ _) (by decide)) ?_
      refine MemKeeps.fstOf e3 ?_
      with_reducible refine MemKeeps.step (State.admitPacket_mem _ _ _ _ _ _) ?_
      exact MemKeeps.refl _
    · rename_i e4 e5 e6 e7
      extract_lets v8
      refine MemKeeps.ite ?_ ?_
      · refine MemKeeps.fstOf e7 ?_
        with_reducible refine MemKeeps.step (State.admitPacket_mem _ _ _ _ _ _) ?_
        exact MemKeeps.refl _
      · with_reducible refine State.once_mem ?_ ?_
        · refine MemKeeps.fstOf e7 ?_
          with_reducible refine MemKeeps.step (State.admitPacket_mem _ _ _ _ _ _) ?_
          exact MemKeeps.refl _
        · intro y9 h10
          split
          · rename_i e11 e12 e13
            with_reducible refine MemKeeps.step (MemKeeps.ofSame (State.holdIn_same _ _ _) (by decide)) ?_
            exact h10
          · rename_i e14 e15
            with_reducible refine MemKeeps.step (State.landAtomicPacket_mem _ _) ?_
            exact h10

end Sys2Proof.Machine
end

