-- ==== Sys2Proof/Laws/MemLedger.lean ====
section
/-! SUPPORT. The functions of Machine/Ledger.lean keep the memories in canonical form. -/

namespace Sys2Proof.Machine

open Sys2Proof

theorem State.reEntry_mem (x1 : State) (x2 : Nat) (x3 : Nat → Nat) :
    MemKeeps x1 (State.reEntry x1 x2 x3) := by
  unfold State.reEntry
  extract_lets v0
  refine MemKeeps.have v0 ?_ fun h1 => ?_
  · with_reducible refine MemKeeps.step (State.touchReplicas_mem _) ?_
    exact MemKeeps.refl _
  clear_value v0
  with_reducible refine MemKeeps.record rfl ?_ ?_
  · exact MemKeeps.of_eq rfl rfl
  exact h1

theorem State.releaseWrites_mem (x1 : State) (x2 : Migration) :
    MemKeeps x1 (State.releaseWrites x1 x2) := by
  unfold State.releaseWrites
  refine MemKeeps.foldl ?_ fun q0 y1 h2 => ?_
  · exact MemKeeps.refl _
  · with_reducible refine MemKeeps.step (State.landHeld_mem _ _) ?_
    exact h2

theorem State.unmap_mem (x1 : State) (x2 : List Nat) :
    MemKeeps x1 (State.unmap x1 x2) := by
  unfold State.unmap
  extract_lets v0 v1 v2 v3 v4
  refine MemKeeps.have v3 ?_ fun h5 => ?_
  · refine MemKeeps.foldl ?_ fun q6 y7 h8 => ?_
    · with_reducible refine MemKeeps.record rfl ?_ ?_
      · exact MemKeeps.of_eq rfl rfl
      exact MemKeeps.refl _
    · with_reducible refine MemKeeps.step (State.releaseWrites_mem _ _) ?_
      exact h8
  clear_value v3
  refine MemKeeps.have v4 ?_ fun h9 => ?_
  · with_reducible refine MemKeeps.step (MemKeeps.ofSame (State.flip_same _) (by decide)) ?_
    refine MemKeeps.foldl ?_ fun q10 y11 h12 => ?_
    · exact h5
    · with_reducible refine MemKeeps.step (State.reEntry_mem _ _ _) ?_
      exact h12
  clear_value v4
  with_reducible refine MemKeeps.step (MemKeeps.ofSame (State.holdFrames_same _ _) (by decide)) ?_
  exact h9

theorem State.moveBytes_mem (x1 : State) (x2 x3 x4 x5 x6 : Nat) :
    MemKeeps x1 (State.moveBytes x1 x2 x3 x4 x5 x6) := by
  unfold State.moveBytes
  extract_lets v0 v1 v2 v3 v4
  refine MemKeeps.have v0 ?_ fun h5 => ?_
  · with_reducible refine MemKeeps.step (State.touch_mem _ _) ?_
    exact MemKeeps.refl _
  clear_value v0
  with_reducible refine State.setStore_mem ?_ ?_
  · exact h5
  · exact fun h => foldl_wf _ (fun _ _ hm => wrByte_wf hm _ _) _ (wrZeros_wf (MemOk.store h _) _ _)

theorem State.migCopy_mem (x1 : State) (x2 : Migration) :
    MemKeeps x1 (State.migCopy x1 x2) := by
  unfold State.migCopy
  refine MemKeeps.foldl ?_ fun q0 y1 h2 => ?_
  · exact MemKeeps.refl _
  · with_reducible refine MemKeeps.step (State.moveBytes_mem _ _ _ _ _ _) ?_
    exact h2

theorem State.migRecopy_mem (x1 : State) (x2 : Migration) :
    MemKeeps x1 (State.migRecopy x1 x2) := by
  unfold State.migRecopy
  refine MemKeeps.foldl ?_ fun q0 y1 h2 => ?_
  · exact MemKeeps.refl _
  · refine MemKeeps.foldl ?_ fun q3 y4 h5 => ?_
    · exact h2
    · extract_lets v6
      with_reducible refine MemKeeps.step (State.moveBytes_mem _ _ _ _ _ _) ?_
      exact h5

theorem State.startMig_mem (x1 : State) (x2 : Nat) (x3 : MigOwner) (x4 x5 : Nat) :
    MemKeeps x1 (State.startMig x1 x2 x3 x4 x5) := by
  unfold State.startMig
  extract_lets v0 v1 v2 v3 v4
  refine MemKeeps.have v4 ?_ fun h5 => ?_
  · with_reducible refine MemKeeps.step (State.reEntry_mem _ _ _) ?_
    exact MemKeeps.refl _
  clear_value v4
  with_reducible refine MemKeeps.record rfl ?_ ?_
  · exact MemKeeps.of_eq rfl rfl
  exact h5

theorem State.abandonMig_mem (x1 : State) (x2 : Migration) :
    MemKeeps x1 (State.abandonMig x1 x2) := by
  unfold State.abandonMig
  extract_lets v0 v1
  refine MemKeeps.have v0 ?_ fun h2 => ?_
  · with_reducible refine MemKeeps.step (State.reEntry_mem _ _ _) ?_
    exact MemKeeps.refl _
  clear_value v0
  refine MemKeeps.have v1 ?_ fun h3 => ?_
  · dsimp only [v1]
    with_reducible refine MemKeeps.record rfl ?_ ?_
    · exact MemKeeps.of_eq rfl rfl
    exact h2
  clear_value v1
  with_reducible refine MemKeeps.step (MemKeeps.ofSame (State.bump_same _ _) (by decide)) ?_
  with_reducible refine MemKeeps.step (State.releaseWrites_mem _ _) ?_
  exact h3

theorem State.feedMigrate_mem (x1 : State) (x2 : Nat) :
    MemKeeps x1 (State.feedMigrate x1 x2) := by
  induction x2 generalizing x1
  · unfold State.feedMigrate
    exact MemKeeps.refl _
  · rename_i i0 i1
    unfold State.feedMigrate
    split
    · rename_i e2 e3
      exact MemKeeps.refl _
    · rename_i e4 e5 e6
      split
      · rename_i e7 e8
        exact MemKeeps.refl _
      · rename_i e9 e10 e11 e12 e13
        refine MemKeeps.ite ?_ ?_
        · exact MemKeeps.refl _
        · extract_lets v14 v15
          with_reducible refine MemKeeps.step (i1 _) ?_
          with_reducible refine MemKeeps.step (State.startMig_mem _ _ _ _ _) ?_
          with_reducible refine MemKeeps.record rfl ?_ ?_
          · exact MemKeeps.of_eq rfl rfl
          exact MemKeeps.refl _

theorem State.retireFrame_mem (x1 : State) (x2 x3 : Nat) :
    MemKeeps x1 (State.retireFrame x1 x2 x3) := by
  unfold State.retireFrame
  refine MemKeeps.ite ?_ ?_
  · exact MemKeeps.refl _
  · extract_lets v0 v1 v2
    refine MemKeeps.have v1 ?_ fun h3 => ?_
    · with_reducible refine State.setStore_mem ?_ ?_
      · exact MemKeeps.refl _
      · exact fun h => MemOk.store h _
    clear_value v1
    refine MemKeeps.have v2 ?_ fun h4 => ?_
    · with_reducible refine MemKeeps.step (MemKeeps.ofSame (State.mapRecord_same _ _) (by decide)) ?_
      exact h3
    clear_value v2
    refine MemKeeps.ite ?_ ?_
    · with_reducible refine MemKeeps.step (MemKeeps.ofSame (State.bump_same _ _) (by decide)) ?_
      exact h4
    · exact h4

theorem State.switchMig_mem (x1 : State) (x2 : Migration) :
    MemKeeps x1 (State.switchMig x1 x2) := by
  unfold State.switchMig
  extract_lets v0 v1 v2 v3 v4
  refine MemKeeps.have v3 ?_ fun h5 => ?_
  · with_reducible refine MemKeeps.step (MemKeeps.ofSame (State.holdFrames_same _ _) (by decide)) ?_
    with_reducible refine MemKeeps.step (MemKeeps.ofSame (State.flip_same _) (by decide)) ?_
    with_reducible refine MemKeeps.step (State.reEntry_mem _ _ _) ?_
    exact MemKeeps.refl _
  clear_value v3
  refine MemKeeps.have v4 ?_ fun h6 => ?_
  · with_reducible refine MemKeeps.step (MemKeeps.ofSame (State.bump_same _ _) (by decide)) ?_
    with_reducible refine MemKeeps.step (State.releaseWrites_mem _ _) ?_
    with_reducible refine MemKeeps.step (MemKeeps.ofSame (State.setMig_same _ _ _) (by decide)) ?_
    exact h5
  clear_value v4
  with_reducible refine MemKeeps.step (MemKeeps.ofSame (State.ledgerReport_same _) (by decide)) ?_
  refine MemKeeps.foldl ?_ fun q7 y8 h9 => ?_
  · with_reducible refine MemKeeps.step (MemKeeps.ofSame (State.noteMoved_same _ _) (by decide)) ?_
    exact h6
  · refine MemKeeps.ite ?_ ?_
    · with_reducible refine MemKeeps.step (State.retireFrame_mem _ _ _) ?_
      exact h9
    · exact h9

theorem State.feedDrain_mem (x1 : State) (x2 x3 : Nat) :
    MemKeeps x1 (State.feedDrain x1 x2 x3) := by
  induction x3 generalizing x1
  · unfold State.feedDrain
    exact MemKeeps.refl _
  · rename_i i0 i1
    unfold State.feedDrain
    refine MemKeeps.ite ?_ ?_
    · exact MemKeeps.refl _
    · split
      · rename_i e2 e3 e4 e5 e6 e7 e8 e9
        with_reducible refine MemKeeps.step (i1 _) ?_
        with_reducible refine MemKeeps.step (State.startMig_mem _ _ _ _ _) ?_
        exact MemKeeps.refl _
      · rename_i e10 e11 e12
        exact MemKeeps.refl _

theorem State.feedDrains_mem (x1 : State) :
    MemKeeps x1 (State.feedDrains x1) := by
  unfold State.feedDrains
  refine MemKeeps.loopTo ?_ fun q0 y1 h2 => ?_
  · exact MemKeeps.refl _
  · with_reducible refine MemKeeps.step (State.feedDrain_mem _ _ _) ?_
    exact h2

theorem State.endMig_mem (x1 : State) (x2 : Migration) (x3 : Status) :
    MemKeeps x1 (State.endMig x1 x2 x3) := by
  unfold State.endMig
  extract_lets v0
  refine MemKeeps.have v0 ?_ fun h1 => ?_
  · with_reducible refine MemKeeps.step (State.abandonMig_mem _ _) ?_
    exact MemKeeps.refl _
  clear_value v0
  split
  · rename_i e2 e3 e4 e5 e6 e7
    with_reducible refine MemKeeps.record rfl ?_ ?_
    · exact MemKeeps.of_eq rfl rfl
    exact h1
  · rename_i e8 e9 e10
    exact h1

theorem State.endDark_mem (x1 : State) (x2 : Migration) :
    MemKeeps x1 (State.endDark x1 x2) := by
  unfold State.endDark
  with_reducible refine MemKeeps.step (State.endMig_mem _ _ _) ?_
  exact MemKeeps.refl _

theorem State.markDue_mem (x1 : State) (x2 x3 : Nat) :
    MemKeeps x1 (State.markDue x1 x2 x3) := by
  unfold State.markDue
  refine MemKeeps.ite ?_ ?_
  · exact MemKeeps.refl _
  · with_reducible refine State.setStore_mem ?_ ?_
    · exact MemKeeps.refl _
    · exact fun h => MemOk.store h _

theorem State.moveBack_mem (x1 : State) (x2 : Nat × Nat × Nat) :
    MemKeeps x1 (State.moveBack x1 x2) := by
  unfold State.moveBack
  extract_lets v0 v1 v2 v3 v4 v5 v6 v7 v8 v9
  refine MemKeeps.have v6 ?_ fun h10 => ?_
  · dsimp only [v6]
    with_reducible refine MemKeeps.record rfl ?_ ?_
    · exact MemKeeps.of_eq rfl rfl
    exact MemKeeps.refl _
  clear_value v6
  refine MemKeeps.have v7 ?_ fun h11 => ?_
  · refine MemKeeps.foldl ?_ fun q12 y13 h14 => ?_
    · exact h10
    · with_reducible refine MemKeeps.step (State.moveBytes_mem _ _ _ _ _ _) ?_
      exact h14
  clear_value v7
  refine MemKeeps.have v8 ?_ fun h15 => ?_
  · with_reducible refine MemKeeps.step (MemKeeps.ofSame (State.flip_same _) (by decide)) ?_
    with_reducible refine MemKeeps.step (State.reEntry_mem _ _ _) ?_
    exact h11
  clear_value v8
  refine MemKeeps.have v9 ?_ fun h16 => ?_
  · dsimp only [v9]
    with_reducible refine MemKeeps.record rfl ?_ ?_
    · exact MemKeeps.of_eq rfl rfl
    exact h15
  clear_value v9
  refine MemKeeps.ite ?_ ?_
  · exact MemKeeps.refl _
  · refine MemKeeps.foldl ?_ fun q17 y18 h19 => ?_
    · with_reducible refine MemKeeps.step (MemKeeps.ofSame (State.holdFrames_same _ _) (by decide)) ?_
      exact h16
    · with_reducible refine MemKeeps.step (State.markDue_mem _ _ _) ?_
      exact h19

theorem State.restoreMoved_mem (x1 : State) :
    MemKeeps x1 (State.restoreMoved x1) := by
  unfold State.restoreMoved
  split
  · rename_i e0 e1 e2
    refine MemKeeps.ite ?_ ?_
    · with_reducible refine MemKeeps.step (MemKeeps.ofSame (State.ledgerReport_same _) (by decide)) ?_
      refine MemKeeps.foldl ?_ fun q3 y4 h5 => ?_
      · with_reducible refine MemKeeps.record rfl ?_ ?_
        · exact MemKeeps.of_eq rfl rfl
        exact MemKeeps.refl _
      · with_reducible refine MemKeeps.step (State.moveBack_mem _ _) ?_
        exact h5
    · exact MemKeeps.refl _
  · rename_i e6 e7
    exact MemKeeps.refl _

theorem State.dropMigs_mem (x1 : State) (x2 : Nat) :
    MemKeeps x1 (State.dropMigs x1 x2) := by
  unfold State.dropMigs
  with_reducible refine MemKeeps.step (State.restoreMoved_mem _) ?_
  refine MemKeeps.foldl ?_ fun q0 y1 h2 => ?_
  · exact MemKeeps.refl _
  · with_reducible refine MemKeeps.step (State.endMig_mem _ _ _) ?_
    exact h2

theorem State.polderDrop_mem (x1 : State) (x2 : Nat) :
    MemKeeps x1 (State.polderDrop x1 x2) := by
  unfold State.polderDrop
  extract_lets v0 v1
  refine MemKeeps.have v0 ?_ fun h2 => ?_
  · with_reducible refine MemKeeps.step (MemKeeps.ofSame (State.dropSlices_same _ _) (by decide)) ?_
    with_reducible refine MemKeeps.step (State.dropMigs_mem _ _) ?_
    exact MemKeeps.refl _
  clear_value v0
  with_reducible refine State.setStore_mem ?_ ?_
  · exact h2
  · exact fun _ => rfl

theorem State.channelDrop_mem (x1 : State) (x2 : Nat) :
    MemKeeps x1 (State.channelDrop x1 x2) := by
  unfold State.channelDrop
  extract_lets v0 v1 v2 v3 v4 v5 v6 v7 v8
  refine MemKeeps.have v0 ?_ fun h9 => ?_
  · with_reducible refine MemKeeps.step (State.dropMigs_mem _ _) ?_
    exact MemKeeps.refl _
  clear_value v0
  refine MemKeeps.have v3 ?_ fun h10 => ?_
  · with_reducible refine MemKeeps.step (MemKeeps.ofSame (State.setChan_same _ _ _) (by decide)) ?_
    exact h9
  clear_value v3
  refine MemKeeps.have v5 ?_ fun h11 => ?_
  · refine MemKeeps.ite ?_ ?_
    · with_reducible refine State.setStore_mem ?_ ?_
      · exact h10
      · exact fun _ => rfl
    · with_reducible refine State.setStore_mem ?_ ?_
      · exact h10
      · exact fun h => MemOk.store h _
  clear_value v5
  refine MemKeeps.have v6 ?_ fun h12 => ?_
  · with_reducible refine MemKeeps.step (MemKeeps.ofSame (State.addReg_same _ _ _) (by decide)) ?_
    exact h11
  clear_value v6
  refine MemKeeps.have v7 ?_ fun h13 => ?_
  · refine MemKeeps.ite ?_ ?_
    · with_reducible refine MemKeeps.step (MemKeeps.ofSame (State.drainOutcome_same _ _ _) (by decide)) ?_
      exact h12
    · exact h12
  clear_value v7
  refine MemKeeps.ite ?_ ?_
  · with_reducible refine MemKeeps.step (MemKeeps.ofSame (State.setStaging_same _ _) (by decide)) ?_
    exact h13
  · exact h13

theorem State.fullCheck_mem (x1 : Nat) (x2 : State) :
    MemKeeps x2 (State.fullCheck x1 x2) := by
  induction x1 generalizing x2 with
  | zero => exact MemKeeps.refl _
  | succ n ih =>
    unfold State.fullCheck
    split
    · exact MemKeeps.refl _
    · refine MemKeeps.trans ?_ (ih _)
      split
      · exact State.channelDrop_mem _ _
      · exact State.polderDrop_mem _ _

theorem State.polderOut_mem (x1 : State) (x2 : Nat) :
    MemKeeps x1 (State.polderOut x1 x2) := by
  unfold State.polderOut
  with_reducible refine MemKeeps.step (State.fullCheck_mem _ _) ?_
  with_reducible refine MemKeeps.step (State.polderDrop_mem _ _) ?_
  exact MemKeeps.refl _

theorem State.channelFail_mem (x1 : State) (x2 : Nat) :
    MemKeeps x1 (State.channelFail x1 x2) := by
  unfold State.channelFail
  with_reducible refine MemKeeps.step (State.fullCheck_mem _ _) ?_
  with_reducible refine MemKeeps.step (State.channelDrop_mem _ _) ?_
  exact MemKeeps.refl _

theorem State.retireCheck_mem (x1 : State) (x2 x3 : Nat) :
    MemKeeps x1 (State.retireCheck x1 x2 x3) := by
  unfold State.retireCheck
  refine MemKeeps.ite ?_ ?_
  · exact MemKeeps.refl _
  · split
    · rename_i e0 e1
      with_reducible refine MemKeeps.step (State.retireFrame_mem _ _ _) ?_
      exact MemKeeps.refl _
    · rename_i e2 e3 e4 e5
      refine MemKeeps.ite ?_ ?_
      · exact MemKeeps.refl _
      · extract_lets v6 v7
        refine MemKeeps.ite ?_ ?_
        · exact MemKeeps.refl _
        · split
          · rename_i e8 e9 e10
            with_reducible refine MemKeeps.step (State.startMig_mem _ _ _ _ _) ?_
            exact MemKeeps.refl _
          · rename_i e11 e12
            exact MemKeeps.refl _

theorem State.marked_mem (x1 : State) (x2 x3 : Nat) :
    MemKeeps x1 (State.marked x1 x2 x3) := by
  unfold State.marked
  with_reducible refine MemKeeps.step (State.retireCheck_mem _ _ _) ?_
  with_reducible refine MemKeeps.step (State.fullCheck_mem _ _) ?_
  with_reducible refine MemKeeps.step (State.markDue_mem _ _ _) ?_
  exact MemKeeps.refl _

theorem State.retireDue_mem (x1 : State) :
    MemKeeps x1 (State.retireDue x1) := by
  unfold State.retireDue
  refine MemKeeps.loopTo ?_ fun q0 y1 h2 => ?_
  · exact MemKeeps.refl _
  · refine MemKeeps.foldl ?_ fun q3 y4 h5 => ?_
    · exact h2
    · with_reducible refine MemKeeps.step (State.retireCheck_mem _ _ _) ?_
      exact h5

theorem State.feedAll_mem (x1 : State) :
    MemKeeps x1 (State.feedAll x1) := by
  unfold State.feedAll
  with_reducible refine MemKeeps.step (State.retireDue_mem _) ?_
  with_reducible refine MemKeeps.step (State.feedDrains_mem _) ?_
  with_reducible refine MemKeeps.step (MemKeeps.ofSame (State.migrateSettled_same _) (by decide)) ?_
  with_reducible refine MemKeeps.step (State.feedMigrate_mem _ _) ?_
  exact MemKeeps.refl _

theorem execMigrationPhaseEnd_mem (x1 : Nat) (x2 : State) :
    OutMemKeeps x2 (execMigrationPhaseEnd x1 x2) := by
  unfold execMigrationPhaseEnd
  split
  · rename_i e0 e1
    refine OutMemKeeps.next ?_
    exact MemKeeps.refl _
  · rename_i e2 e3 e4
    extract_lets v5 v6
    refine OutMemKeeps.have v6 ?_ fun h7 => ?_
    · with_reducible refine MemKeeps.step (State.fullCheck_mem _ _) ?_
      with_reducible refine MemKeeps.step (State.migRecopy_mem _ _) ?_
      exact MemKeeps.refl _
    clear_value v6
    refine OutMemKeeps.ite ?_ ?_
    · refine OutMemKeeps.next ?_
      exact MemKeeps.refl _
    · refine OutMemKeeps.ite ?_ ?_
      · refine OutMemKeeps.ite ?_ ?_
        · refine OutMemKeeps.next ?_
          dsimp only [v5]
          with_reducible refine MemKeeps.step (State.feedAll_mem _) ?_
          with_reducible refine MemKeeps.step (State.endDark_mem _ _) ?_
          exact MemKeeps.refl _
        · refine OutMemKeeps.next ?_
          exact MemKeeps.refl _
      · split
        · rename_i e8 e9
          refine OutMemKeeps.next ?_
          with_reducible refine MemKeeps.step (MemKeeps.ofSame (State.setMig_same _ _ _) (by decide)) ?_
          with_reducible refine MemKeeps.step (State.fullCheck_mem _ _) ?_
          with_reducible refine MemKeeps.step (State.migCopy_mem _ _) ?_
          exact MemKeeps.refl _
        · rename_i e10 e11
          refine OutMemKeeps.next ?_
          with_reducible refine MemKeeps.step (MemKeeps.ofSame (State.setMig_same _ _ _) (by decide)) ?_
          with_reducible refine MemKeeps.step (State.fullCheck_mem _ _) ?_
          with_reducible refine MemKeeps.step (State.migRecopy_mem _ _) ?_
          exact MemKeeps.refl _
        · rename_i e12 e13
          refine OutMemKeeps.ite ?_ ?_
          · refine OutMemKeeps.next ?_
            with_reducible refine MemKeeps.step (MemKeeps.ofSame (State.setMig_same _ _ _) (by decide)) ?_
            exact h7
          · refine OutMemKeeps.next ?_
            with_reducible refine MemKeeps.step (MemKeeps.ofSame (State.setMig_same _ _ _) (by decide)) ?_
            exact h7
        · rename_i e14 e15
          refine OutMemKeeps.next ?_
          with_reducible refine MemKeeps.step (MemKeeps.ofSame (State.setMig_same _ _ _) (by decide)) ?_
          exact MemKeeps.refl _
        · rename_i e16 e17
          refine OutMemKeeps.next ?_
          dsimp only [v5]
          with_reducible refine MemKeeps.step (State.feedAll_mem _) ?_
          with_reducible refine MemKeeps.step (State.switchMig_mem _ _) ?_
          exact MemKeeps.refl _
        · rename_i e18 e19 e20 e21 e22 e23
          refine OutMemKeeps.next ?_
          exact MemKeeps.refl _

theorem State.takeLedger_mem {s0 s : State} {mine : Nat → Bool} {body : List Nat → State → State}
    (h : MemKeeps s0 s) (hb : ∀ ws t, MemKeeps s0 t → MemKeeps s0 (body ws t)) : MemKeeps s0 (s.takeLedger mine body) := by
  unfold State.takeLedger
  split
  · exact h
  · split
    · extract_lets c t
      split
      · exact h.trans (MemKeeps.of_eq rfl rfl)
      · split
        · exact h.trans (MemKeeps.of_eq rfl rfl)
        · exact hb _ _ (h.trans (MemKeeps.of_eq rfl rfl))
    · exact h

theorem execLedgerQueueDoorbell_mem (x1 : Fin 2) (x2 : Nat) (x3 : State) :
    OutMemKeeps x3 (execLedgerQueueDoorbell x1 x2 x3) :=
  OutMemKeeps.ofSame (execLedgerQueueDoorbell_same _ _ _) (by decide)

theorem execMap_mem (x1 : State) :
    OutMemKeeps x1 (execMap x1) := by
  unfold execMap
  refine OutMemKeeps.next ?_
  with_reducible refine State.takeLedger_mem ?_ ?_
  · exact MemKeeps.refl _
  · intro y0 y1 h2
    with_reducible refine MemKeeps.step (MemKeeps.ofSame (State.ledgerOk_same _) (by decide)) ?_
    with_reducible refine MemKeeps.step (MemKeeps.ofSame (State.ledgerReport_same _) (by decide)) ?_
    refine MemKeeps.foldl ?_ fun q3 y4 h5 => ?_
    · exact h2
    · with_reducible refine MemKeeps.step (State.reEntry_mem _ _ _) ?_
      exact h5

theorem execUnmap_mem (x1 : State) :
    OutMemKeeps x1 (execUnmap x1) := by
  unfold execUnmap
  refine OutMemKeeps.next ?_
  with_reducible refine State.takeLedger_mem ?_ ?_
  · exact MemKeeps.refl _
  · intro y0 y1 h2
    with_reducible refine MemKeeps.step (MemKeeps.ofSame (State.ledgerOk_same _) (by decide)) ?_
    with_reducible refine MemKeeps.step (MemKeeps.ofSame (State.ledgerReport_same _) (by decide)) ?_
    with_reducible refine MemKeeps.step (State.unmap_mem _ _) ?_
    exact h2

theorem execProtect_mem (x1 : State) :
    OutMemKeeps x1 (execProtect x1) := by
  unfold execProtect
  refine OutMemKeeps.next ?_
  with_reducible refine State.takeLedger_mem ?_ ?_
  · exact MemKeeps.refl _
  · intro y0 y1 h2
    with_reducible refine MemKeeps.step (MemKeeps.ofSame (State.ledgerOk_same _) (by decide)) ?_
    with_reducible refine MemKeeps.step (MemKeeps.ofSame (State.flip_same _) (by decide)) ?_
    refine MemKeeps.foldl ?_ fun q3 y4 h5 => ?_
    · exact h2
    · with_reducible refine MemKeeps.step (State.reEntry_mem _ _ _) ?_
      exact h5

theorem execMigrate_mem (x1 : State) :
    OutMemKeeps x1 (execMigrate x1) := by
  unfold execMigrate
  refine OutMemKeeps.next ?_
  with_reducible refine State.takeLedger_mem ?_ ?_
  · exact MemKeeps.refl _
  · intro y0 y1 h2
    extract_lets v3 v4
    refine MemKeeps.have v4 ?_ fun h5 => ?_
    · dsimp only [v4]
      with_reducible refine MemKeeps.record rfl ?_ ?_
      · exact MemKeeps.of_eq rfl rfl
      exact h2
    clear_value v4
    with_reducible refine MemKeeps.step (State.feedMigrate_mem _ _) ?_
    exact h5

theorem execUnmapstream_mem (x1 : State) :
    OutMemKeeps x1 (execUnmapstream x1) := by
  unfold execUnmapstream
  refine OutMemKeeps.next ?_
  with_reducible refine State.takeLedger_mem ?_ ?_
  · exact MemKeeps.refl _
  · intro y0 y1 h2
    with_reducible refine MemKeeps.step (MemKeeps.ofSame (State.ledgerOk_same _) (by decide)) ?_
    with_reducible refine MemKeeps.step (MemKeeps.ofSame (State.ledgerReport_same _) (by decide)) ?_
    with_reducible refine MemKeeps.step (State.unmap_mem _ _) ?_
    exact h2

theorem execLedgerCommandComplete_mem (x1 : State) :
    OutMemKeeps x1 (execLedgerCommandComplete x1) :=
  OutMemKeeps.ofSame (execLedgerCommandComplete_same _) (by decide)

theorem execLedgerEpochDrain_mem (x1 : State) :
    OutMemKeeps x1 (execLedgerEpochDrain x1) := by
  unfold execLedgerEpochDrain
  extract_lets v0 v1 v2
  refine OutMemKeeps.next ?_
  with_reducible refine MemKeeps.step (State.feedAll_mem _) ?_
  with_reducible refine MemKeeps.step (MemKeeps.ofSame (State.setReg_same _ _ _) (by decide)) ?_
  with_reducible refine MemKeeps.record rfl ?_ ?_
  · exact MemKeeps.of_eq rfl rfl
  exact MemKeeps.refl _

theorem State.memError_mem (x1 : State) (x2 : MemError) :
    MemKeeps x1 (State.memError x1 x2) := by
  unfold State.memError
  extract_lets v0 v1 v2 v3
  refine MemKeeps.have v3 ?_ fun h4 => ?_
  · with_reducible refine State.setStore_mem ?_ ?_
    · exact MemKeeps.refl _
    · exact fun h => MemOk.store h _
  clear_value v3
  refine MemKeeps.ite ?_ ?_
  · exact MemKeeps.refl _
  · refine MemKeeps.ite ?_ ?_
    · with_reducible refine MemKeeps.step (MemKeeps.ofSame (State.bump_same _ _) (by decide)) ?_
      exact MemKeeps.refl _
    · refine MemKeeps.ite ?_ ?_
      · exact MemKeeps.refl _
      · with_reducible refine MemKeeps.step (State.marked_mem _ _ _) ?_
        exact h4

theorem State.memErrors_mem (x1 : State) (x2 : List MemError) :
    MemKeeps x1 (State.memErrors x1 x2) := by
  unfold State.memErrors
  refine MemKeeps.foldl ?_ fun q0 y1 h2 => ?_
  · exact MemKeeps.refl _
  · with_reducible refine MemKeeps.step (State.memError_mem _ _) ?_
    exact h2

theorem execPatrolScrub_mem (x1 : Fin 16) (x2 : Nat) (x3 : List MemError) (x4 : State) :
    OutMemKeeps x4 (execPatrolScrub x1 x2 x3 x4) := by
  unfold execPatrolScrub
  extract_lets v0 v1 v2
  refine OutMemKeeps.have v2 ?_ fun h3 => ?_
  · with_reducible refine State.setStore_mem ?_ ?_
    · exact MemKeeps.refl _
    · exact fun h => MemOk.store h _
  clear_value v2
  refine OutMemKeeps.ite ?_ ?_
  · refine OutMemKeeps.next ?_
    exact MemKeeps.refl _
  · refine OutMemKeeps.next ?_
    with_reducible refine MemKeeps.step (State.memErrors_mem _ _) ?_
    exact h3

theorem execSelfRefreshEntry_mem (x1 : Fin 16) (x2 : State) :
    OutMemKeeps x2 (execSelfRefreshEntry x1 x2) := by
  unfold execSelfRefreshEntry
  extract_lets v0
  refine OutMemKeeps.next ?_
  with_reducible refine when_mem ?_ ?_
  · with_reducible refine State.setStore_mem ?_ ?_
    · exact MemKeeps.refl _
    · exact fun h => MemOk.store h _
  · exact MemKeeps.refl _

end Sys2Proof.Machine
end

