-- ==== Sys2Proof/Laws/MemSequencer.lean ====
section
/-! SUPPORT. The functions of Machine/Sequencer.lean keep the memories in canonical form. -/

namespace Sys2Proof.Machine

open Sys2Proof

theorem State.coreFault_mem (x1 : State) (x2 : Nat) (x3 : Grant) (x4 x5 x6 x7 : Nat) (x8 : optParam Nat 0) :
    MemKeeps x1 (State.coreFault x1 x2 x3 x4 x5 x6 x7 x8) := by
  unfold State.coreFault
  with_reducible refine MemKeeps.step (State.stepFault_mem _ _ _) ?_
  exact MemKeeps.refl _

theorem execInstructionIssue_mem (x1 : Fin 8) (x2 : Fin 48) (x3 : State) :
    OutMemKeeps x3 (execInstructionIssue x1 x2 x3) :=
  OutMemKeeps.ofSame (execInstructionIssue_same _ _ _) (by decide)

theorem State.completeInstr_mem (x1 : State) (x2 : Nat) (x3 : Grant) (x4 : CoreRun) (x5 : Nat) (x6 : QInstr) :
    MemKeeps x1 (State.completeInstr x1 x2 x3 x4 x5 x6) := by
  unfold State.completeInstr
  refine MemKeeps.ite ?_ ?_
  · extract_lets v0
    refine MemKeeps.ite ?_ ?_
    · with_reducible refine MemKeeps.step (State.coreFault_mem _ _ _ _ _ _ _ _) ?_
      with_reducible refine MemKeeps.step (MemKeeps.ofSame (State.setRun_same _ _ _) (by decide)) ?_
      exact MemKeeps.refl _
    · with_reducible refine MemKeeps.step (MemKeeps.ofSame (State.setRun_same _ _ _) (by decide)) ?_
      exact MemKeeps.refl _
  · with_reducible refine MemKeeps.step (MemKeeps.ofSame (State.setRun_same _ _ _) (by decide)) ?_
    exact MemKeeps.refl _

theorem execInstructionComplete_mem (x1 : Fin 8) (x2 : Fin 48) (x3 : Fin 12) (x4 : Nat) (x5 : State) :
    OutMemKeeps x5 (execInstructionComplete x1 x2 x3 x4 x5) := by
  unfold execInstructionComplete
  split
  · rename_i e0 e1
    refine OutMemKeeps.next ?_
    exact MemKeeps.refl _
  · rename_i e2 e3 e4 e5 e6
    extract_lets v7
    refine OutMemKeeps.ite ?_ ?_
    · refine OutMemKeeps.next ?_
      exact MemKeeps.refl _
    · split
      · rename_i e8 e9
        refine OutMemKeeps.next ?_
        exact MemKeeps.refl _
      · rename_i e10 e11 e12
        refine OutMemKeeps.ite ?_ ?_
        · refine OutMemKeeps.next ?_
          exact MemKeeps.refl _
        · refine OutMemKeeps.ite ?_ ?_
          · extract_lets v13
            refine OutMemKeeps.ite ?_ ?_
            · refine OutMemKeeps.next ?_
              with_reducible refine MemKeeps.step (State.completeInstr_mem _ _ _ _ _ _) ?_
              exact MemKeeps.refl _
            · refine OutMemKeeps.next ?_
              exact MemKeeps.refl _
          · refine OutMemKeeps.next ?_
            with_reducible refine MemKeeps.step (State.completeInstr_mem _ _ _ _ _ _) ?_
            exact MemKeeps.refl _

theorem State.sequence_mem {s0 s : State} {die core c op : Nat}
    {f : Nat → Grant → CoreRun → Nat → State → State} (h : MemKeeps s0 s) (hf : ∀ k g r w t, MemKeeps s0 t → MemKeeps s0 (f k g r w t)) :
    MemKeeps s0 (s.sequence die core c op f) := by
  unfold State.sequence
  split
  · exact h
  · extract_lets w
    split
    · exact hf _ _ _ _ _ (h.trans (MemKeeps.ofSame (State.setRun_same _ _ _) (by decide)))
    · exact h

theorem execWaitpin_mem (x1 : Fin 8) (x2 : Fin 48) (x3 : State) :
    OutMemKeeps x3 (execWaitpin x1 x2 x3) :=
  OutMemKeeps.ofSame (execWaitpin_same _ _ _) (by decide)

theorem execSemadd_mem (x1 : Fin 8) (x2 : Fin 48) (x3 : State) :
    OutMemKeeps x3 (execSemadd x1 x2 x3) := by
  unfold execSemadd
  refine OutMemKeeps.next ?_
  with_reducible refine State.sequence_mem ?_ ?_
  · exact MemKeeps.refl _
  · intro y0 y1 y2 y3 y4 h5
    extract_lets v6 v7
    refine MemKeeps.ite ?_ ?_
    · with_reducible refine MemKeeps.step (MemKeeps.ofSame (State.setSem_same _ _ _ _) (by decide)) ?_
      with_reducible refine MemKeeps.step (MemKeeps.ofSame (State.setRun_same _ _ _) (by decide)) ?_
      exact h5
    · with_reducible refine MemKeeps.step (State.coreFault_mem _ _ _ _ _ _ _ _) ?_
      exact h5

theorem execSemwait_mem (x1 : Fin 8) (x2 : Fin 48) (x3 : State) :
    OutMemKeeps x3 (execSemwait x1 x2 x3) :=
  OutMemKeeps.ofSame (execSemwait_same _ _ _) (by decide)

theorem execFence_mem (x1 : Fin 8) (x2 : Fin 48) (x3 : State) :
    OutMemKeeps x3 (execFence x1 x2 x3) :=
  OutMemKeeps.ofSame (execFence_same _ _ _) (by decide)

theorem State.waitmem_mem (x1 : State) (x2 : Nat) (x3 : Grant) (x4 : CoreRun) (x5 : Nat) (x6 : Bool) :
    MemKeeps x1 (State.waitmem x1 x2 x3 x4 x5 x6) := by
  unfold State.waitmem
  extract_lets v0 v1
  split
  · rename_i e2 e3 e4
    refine MemKeeps.ite ?_ ?_
    · exact MemKeeps.refl _
    · with_reducible refine MemKeeps.step (State.coreFault_mem _ _ _ _ _ _ _ _) ?_
      exact MemKeeps.refl _
  · rename_i e5 e6
    refine MemKeeps.ite ?_ ?_
    · with_reducible refine MemKeeps.step (MemKeeps.ofSame (State.setRun_same _ _ _) (by decide)) ?_
      exact MemKeeps.refl _
    · with_reducible refine MemKeeps.step (MemKeeps.ofSame (State.setRun_same _ _ _) (by decide)) ?_
      exact MemKeeps.refl _

theorem execWaitmem_mem (x1 : Fin 8) (x2 : Fin 48) (x3 : State) :
    OutMemKeeps x3 (execWaitmem x1 x2 x3) := by
  unfold execWaitmem
  refine OutMemKeeps.next ?_
  with_reducible refine State.sequence_mem ?_ ?_
  · exact MemKeeps.refl _
  · intro y0 y1 y2 y3 y4 h5
    with_reducible refine MemKeeps.step (State.waitmem_mem _ _ _ _ _ _) ?_
    exact h5

theorem execWaitmemPoll_mem (x1 : Fin 8) (x2 : Fin 48) (x3 : State) :
    OutMemKeeps x3 (execWaitmemPoll x1 x2 x3) := by
  unfold execWaitmemPoll
  refine OutMemKeeps.next ?_
  with_reducible refine State.sequence_mem ?_ ?_
  · exact MemKeeps.refl _
  · intro y0 y1 y2 y3 y4 h5
    refine MemKeeps.ite ?_ ?_
    · with_reducible refine MemKeeps.step (State.waitmem_mem _ _ _ _ _ _) ?_
      exact h5
    · exact h5

theorem execNop_mem (x1 : Fin 8) (x2 : Fin 48) (x3 : State) :
    OutMemKeeps x3 (execNop x1 x2 x3) :=
  OutMemKeeps.ofSame (execNop_same _ _ _) (by decide)

theorem execBr_mem (x1 : Fin 8) (x2 : Fin 48) (x3 : State) :
    OutMemKeeps x3 (execBr x1 x2 x3) :=
  OutMemKeeps.ofSame (execBr_same _ _ _) (by decide)

theorem execBrc_mem (x1 : Fin 8) (x2 : Fin 48) (x3 : State) :
    OutMemKeeps x3 (execBrc x1 x2 x3) :=
  OutMemKeeps.ofSame (execBrc_same _ _ _) (by decide)

theorem execIadd_mem (x1 : Fin 8) (x2 : Fin 48) (x3 : State) :
    OutMemKeeps x3 (execIadd x1 x2 x3) :=
  OutMemKeeps.ofSame (execIadd_same _ _ _) (by decide)

theorem execIset_mem (x1 : Fin 8) (x2 : Fin 48) (x3 : State) :
    OutMemKeeps x3 (execIset x1 x2 x3) :=
  OutMemKeeps.ofSame (execIset_same _ _ _) (by decide)

theorem execIload_mem (x1 : Fin 8) (x2 : Fin 48) (x3 : State) :
    OutMemKeeps x3 (execIload x1 x2 x3) := by
  unfold execIload
  refine OutMemKeeps.next ?_
  with_reducible refine State.sequence_mem ?_ ?_
  · exact MemKeeps.refl _
  · intro y0 y1 y2 y3 y4 h5
    extract_lets v6
    split
    · rename_i e7 e8 e9
      with_reducible refine MemKeeps.step (State.coreFault_mem _ _ _ _ _ _ _ _) ?_
      exact h5
    · rename_i e10 e11
      refine MemKeeps.ite ?_ ?_
      · with_reducible refine MemKeeps.step (MemKeeps.ofSame (State.setRun_same _ _ _) (by decide)) ?_
        exact h5
      · with_reducible refine MemKeeps.step (MemKeeps.ofSame (State.setRun_same _ _ _) (by decide)) ?_
        exact h5

theorem execTrap_mem (x1 : Fin 8) (x2 : Fin 48) (x3 : State) :
    OutMemKeeps x3 (execTrap x1 x2 x3) := by
  unfold execTrap
  refine OutMemKeeps.next ?_
  with_reducible refine State.sequence_mem ?_ ?_
  · exact MemKeeps.refl _
  · intro y0 y1 y2 y3 y4 h5
    with_reducible refine MemKeeps.step (State.coreFault_mem _ _ _ _ _ _ _ _) ?_
    exact h5

theorem State.commit_mem (x1 : State) (x2 : Grant) :
    MemKeeps x1 (State.commit x1 x2) := by
  unfold State.commit
  extract_lets v0
  split
  · rename_i e1 e2
    with_reducible refine MemKeeps.step (MemKeeps.ofSame (State.freeGrant_same _ _) (by decide)) ?_
    exact MemKeeps.refl _
  · rename_i e3 e4 e5
    extract_lets v6
    split
    rename_i e7 e8 e9 e10
    extract_lets v11 v12 v13 v14
    refine MemKeeps.have v11 ?_ fun h15 => ?_
    · with_reducible refine MemKeeps.step (MemKeeps.ofSame (State.setStream_same _ _ _) (by decide)) ?_
      refine MemKeeps.fstOf e10 ?_
      refine MemKeeps.iteFst ?_ ?_
      · with_reducible refine MemKeeps.step (MemKeeps.ofSame (State.judge_same _ _) (by decide)) ?_
        exact MemKeeps.refl _
      · dsimp only
        exact MemKeeps.refl _
    clear_value v11
    refine MemKeeps.have v12 ?_ fun h16 => ?_
    · with_reducible refine MemKeeps.step (MemKeeps.ofSame (State.setEntry_same _ _ _ _) (by decide)) ?_
      with_reducible refine MemKeeps.step (MemKeeps.ofSame (State.traceStep_same _ _ _ _ _ _ _ _) (by decide)) ?_
      with_reducible refine MemKeeps.step (MemKeeps.ofSame (State.postStep_same _ _ _ _ _ _ _ _) (by decide)) ?_
      exact h15
    clear_value v12
    refine MemKeeps.have v13 ?_ fun h17 => ?_
    · refine MemKeeps.ite ?_ ?_
      · with_reducible refine MemKeeps.step (MemKeeps.ofSame (State.note_same _ _ _ _) (by decide)) ?_
        exact h16
      · exact h16
    clear_value v13
    refine MemKeeps.have v14 ?_ fun h18 => ?_
    · with_reducible refine MemKeeps.step (State.applyWaiting_mem _ _) ?_
      with_reducible refine MemKeeps.step (MemKeeps.ofSame (State.freeGrant_same _ _) (by decide)) ?_
      exact h17
    clear_value v14
    refine MemKeeps.ite ?_ ?_
    · exact h18
    · refine MemKeeps.ite ?_ ?_
      · with_reducible refine MemKeeps.step (MemKeeps.ofSame (State.setEntry_same _ _ _ _) (by decide)) ?_
        exact h18
      · split
        · rename_i e19 e20
          with_reducible refine MemKeeps.step (MemKeeps.ofSame (State.dropNext_same _ _ _) (by decide)) ?_
          exact h18
        · rename_i e21 e22 e23
          refine MemKeeps.ite ?_ ?_
          · with_reducible refine MemKeeps.step (MemKeeps.ofSame (State.dropNext_same _ _ _) (by decide)) ?_
            exact h18
          · with_reducible refine MemKeeps.step (State.stepStart_mem _ _) ?_
            exact h18

theorem execEndStep_mem (x1 : Fin 8) (x2 : Fin 48) (x3 : State) :
    OutMemKeeps x3 (execEndStep x1 x2 x3) := by
  unfold execEndStep
  refine OutMemKeeps.next ?_
  with_reducible refine State.sequence_mem ?_ ?_
  · exact MemKeeps.refl _
  · intro y0 y1 y2 y3 y4 h5
    refine MemKeeps.ite ?_ ?_
    · extract_lets v6 v7 v8 v9 v10
      refine MemKeeps.have v6 ?_ fun h11 => ?_
      · with_reducible refine MemKeeps.step (State.capture_mem _ _ _ _) ?_
        exact h5
      clear_value v6
      refine MemKeeps.have v8 ?_ fun h12 => ?_
      · dsimp only [v8]
        split
        · rename_i e13 e14 e15
          with_reducible refine MemKeeps.step (MemKeeps.ofSame (State.setStream_same _ _ _) (by decide)) ?_
          exact h11
        · rename_i e16 e17
          exact h11
      clear_value v8
      refine MemKeeps.have v10 ?_ fun h18 => ?_
      · dsimp only [v10]
        with_reducible refine MemKeeps.record rfl ?_ ?_
        · exact MemKeeps.of_eq rfl rfl
        exact h12
      clear_value v10
      refine MemKeeps.ite ?_ ?_
      · with_reducible refine MemKeeps.step (State.commit_mem _ _) ?_
        exact h18
      · exact h18
    · exact h5

end Sys2Proof.Machine
end

