-- ==== Sys2Proof/Laws/MemUnits.lean ====
section
/-! SUPPORT. The functions of Machine/Units.lean keep the memories in canonical form. -/

namespace Sys2Proof.Machine

open Sys2Proof

theorem State.startUnit_mem {s0 s : State} {die core u c op : Nat}
    {check : Nat → Grant → CoreRun → QInstr → Chk} {effect : Nat → Grant → QInstr → State → State}
    (h : MemKeeps s0 s) (he : ∀ k g q t, MemKeeps s0 t → MemKeeps s0 (effect k g q t)) :
    MemKeeps s0 (s.startUnit die core u c op check effect) := by
  unfold State.startUnit
  split
  · exact h
  · split
    · exact h
    · extract_lets us
      split
      · split
        · exact h
        · exact MemKeeps.step (State.coreFault_mem _ _ _ _ _ _ _) h
        · exact MemKeeps.step (State.completeInstr_mem _ _ _ _ _ _) h
        · exact he _ _ _ _ (h.trans (MemKeeps.ofSame (State.setRun_same _ _ _) (by decide)))
      · exact h

end Sys2Proof.Machine
end

