-- ==== Sys2Proof/Laws/MemVector.lean ====
section
/-! SUPPORT. The functions of Machine/Vector.lean keep the memories in canonical form. -/

namespace Sys2Proof.Machine

open Sys2Proof

theorem State.vecStart_mem {s0 s : State} {die core op : Nat}
    {check : State → Nat → Operands3 → Chk} {run : State → Nat → Operands3 → Nat → State}
    (h : MemKeeps s0 s) (hr : ∀ t k o w, MemKeeps s0 t → MemKeeps s0 (run t k o w)) :
    MemKeeps s0 (s.vecStart die core op check run) :=
  State.startUnit_mem h fun k _ _ t ht => hr t k _ _ ht

theorem State.vecBin_mem (x1 : State) (x2 x3 x4 : Nat) :
    MemKeeps x1 (State.vecBin x1 x2 x3 x4) := by
  unfold State.vecBin
  with_reducible refine State.vecStart_mem ?_ ?_
  · exact MemKeeps.refl _
  · intro y0 y1 y2 y3 h4
    with_reducible refine MemKeeps.step (MemKeeps.ofSame (State.binRun_same _ _ _ _) (by decide)) ?_
    exact h4

theorem execAdd_mem (x1 : Fin 8) (x2 : Fin 48) (x3 : State) :
    OutMemKeeps x3 (execAdd x1 x2 x3) := by
  unfold execAdd
  refine OutMemKeeps.next ?_
  with_reducible refine MemKeeps.step (State.vecBin_mem _ _ _ _) ?_
  exact MemKeeps.refl _

theorem execSub_mem (x1 : Fin 8) (x2 : Fin 48) (x3 : State) :
    OutMemKeeps x3 (execSub x1 x2 x3) := by
  unfold execSub
  refine OutMemKeeps.next ?_
  with_reducible refine MemKeeps.step (State.vecBin_mem _ _ _ _) ?_
  exact MemKeeps.refl _

theorem execMul_mem (x1 : Fin 8) (x2 : Fin 48) (x3 : State) :
    OutMemKeeps x3 (execMul x1 x2 x3) := by
  unfold execMul
  refine OutMemKeeps.next ?_
  with_reducible refine MemKeeps.step (State.vecBin_mem _ _ _ _) ?_
  exact MemKeeps.refl _

theorem execFma_mem (x1 : Fin 8) (x2 : Fin 48) (x3 : State) :
    OutMemKeeps x3 (execFma x1 x2 x3) := by
  unfold execFma
  refine OutMemKeeps.next ?_
  with_reducible refine MemKeeps.step (State.vecBin_mem _ _ _ _) ?_
  exact MemKeeps.refl _

theorem execMax_mem (x1 : Fin 8) (x2 : Fin 48) (x3 : State) :
    OutMemKeeps x3 (execMax x1 x2 x3) := by
  unfold execMax
  refine OutMemKeeps.next ?_
  with_reducible refine MemKeeps.step (State.vecBin_mem _ _ _ _) ?_
  exact MemKeeps.refl _

theorem execMin_mem (x1 : Fin 8) (x2 : Fin 48) (x3 : State) :
    OutMemKeeps x3 (execMin x1 x2 x3) := by
  unfold execMin
  refine OutMemKeeps.next ?_
  with_reducible refine MemKeeps.step (State.vecBin_mem _ _ _ _) ?_
  exact MemKeeps.refl _

theorem execAbs_mem (x1 : Fin 8) (x2 : Fin 48) (x3 : State) :
    OutMemKeeps x3 (execAbs x1 x2 x3) := by
  unfold execAbs
  refine OutMemKeeps.next ?_
  with_reducible refine State.vecStart_mem ?_ ?_
  · exact MemKeeps.refl _
  · intro y0 y1 y2 y3 h4
    with_reducible refine MemKeeps.step (MemKeeps.ofSame (State.vecRows_same _ _ _ _) (by decide)) ?_
    exact h4

theorem execCvt_mem (x1 : Fin 8) (x2 : Fin 48) (x3 : State) :
    OutMemKeeps x3 (execCvt x1 x2 x3) := by
  unfold execCvt
  refine OutMemKeeps.next ?_
  with_reducible refine State.vecStart_mem ?_ ?_
  · exact MemKeeps.refl _
  · intro y0 y1 y2 y3 h4
    with_reducible refine MemKeeps.step (MemKeeps.ofSame (State.vecRows_same _ _ _ _ _) (by decide)) ?_
    exact h4

theorem execScale2_mem (x1 : Fin 8) (x2 : Fin 48) (x3 : State) :
    OutMemKeeps x3 (execScale2 x1 x2 x3) := by
  unfold execScale2
  refine OutMemKeeps.next ?_
  with_reducible refine State.vecStart_mem ?_ ?_
  · exact MemKeeps.refl _
  · intro y0 y1 y2 y3 h4
    with_reducible refine MemKeeps.step (MemKeeps.ofSame (State.vecRows_same _ _ _ _) (by decide)) ?_
    exact h4

theorem execTomx_mem (x1 : Fin 8) (x2 : Fin 48) (x3 : State) :
    OutMemKeeps x3 (execTomx x1 x2 x3) := by
  unfold execTomx
  refine OutMemKeeps.next ?_
  with_reducible refine State.vecStart_mem ?_ ?_
  · exact MemKeeps.refl _
  · intro y0 y1 y2 y3 h4
    extract_lets v5
    split
    rename_i e6 e7 e8 e9
    with_reducible refine MemKeeps.step (MemKeeps.ofSame (State.flagRun_same _ _ _) (by decide)) ?_
    with_reducible refine MemKeeps.step (MemKeeps.ofSame (State.setScratch_same _ _ _) (by decide)) ?_
    exact h4

theorem execGather_mem (x1 : Fin 8) (x2 : Fin 48) (x3 : State) :
    OutMemKeeps x3 (execGather x1 x2 x3) := by
  unfold execGather
  refine OutMemKeeps.next ?_
  with_reducible refine State.vecStart_mem ?_ ?_
  · exact MemKeeps.refl _
  · intro y0 y1 y2 y3 h4
    with_reducible refine MemKeeps.step (MemKeeps.ofSame (State.vecRows_same _ _ _ _) (by decide)) ?_
    exact h4

theorem execRope_mem (x1 : Fin 8) (x2 : Fin 48) (x3 : State) :
    OutMemKeeps x3 (execRope x1 x2 x3) := by
  unfold execRope
  refine OutMemKeeps.next ?_
  with_reducible refine State.vecStart_mem ?_ ?_
  · exact MemKeeps.refl _
  · intro y0 y1 y2 y3 h4
    with_reducible refine MemKeeps.step (MemKeeps.ofSame (State.vecRows_same _ _ _ _) (by decide)) ?_
    exact h4

theorem execTreemask_mem (x1 : Fin 8) (x2 : Fin 48) (x3 : State) :
    OutMemKeeps x3 (execTreemask x1 x2 x3) := by
  unfold execTreemask
  refine OutMemKeeps.next ?_
  with_reducible refine State.vecStart_mem ?_ ?_
  · exact MemKeeps.refl _
  · intro y0 y1 y2 y3 h4
    extract_lets v5 v6
    with_reducible refine MemKeeps.step (MemKeeps.ofSame (State.setScratch_same _ _ _) (by decide)) ?_
    exact h4

theorem execVectorCopy_mem (x1 : Fin 8) (x2 : Fin 48) (x3 : State) :
    OutMemKeeps x3 (execVectorCopy x1 x2 x3) := by
  unfold execVectorCopy
  refine OutMemKeeps.next ?_
  with_reducible refine State.vecStart_mem ?_ ?_
  · exact MemKeeps.refl _
  · intro y0 y1 y2 y3 h4
    extract_lets v5
    with_reducible refine MemKeeps.step (MemKeeps.ofSame (State.setScratch_same _ _ _) (by decide)) ?_
    exact h4

end Sys2Proof.Machine
end

