-- ==== Sys2Proof/Laws/MemTransfers.lean ====
section
/-! SUPPORT. The functions of Machine/Transfers.lean keep the memories in canonical form. -/

namespace Sys2Proof.Machine

open Sys2Proof

theorem State.access_mem (x1 : State) (x2 : Orphan) (x3 : Operand) (x4 x5 : Bool) :
    MemKeeps x1 (State.access x1 x2 x3 x4 x5).1 := by
  unfold State.access
  split
  · rename_i e0 e1
    split
    · rename_i e2 e3 e4 e5
      refine MemKeeps.iteFst ?_ ?_
      · dsimp only
        with_reducible refine MemKeeps.step (MemKeeps.ofSame (State.bump_same _ _) (by decide)) ?_
        refine MemKeeps.fstOf e5 ?_
        with_reducible refine MemKeeps.step (State.translate_mem _ _ _ _ _ _ _) ?_
        exact MemKeeps.refl _
      · dsimp only
        refine MemKeeps.fstOf e5 ?_
        with_reducible refine MemKeeps.step (State.translate_mem _ _ _ _ _ _ _) ?_
        exact MemKeeps.refl _
    · rename_i e6 e7
      with_reducible refine MemKeeps.step (State.translate_mem _ _ _ _ _ _ _) ?_
      exact MemKeeps.refl _
  · rename_i e8 e9
    with_reducible refine MemKeeps.step (State.translate_mem _ _ _ _ _ _ _) ?_
    exact MemKeeps.refl _
  · rename_i e10 e11
    refine MemKeeps.iteFst ?_ ?_
    · dsimp only
      exact MemKeeps.refl _
    · dsimp only
      exact MemKeeps.refl _
  · rename_i e12 e13
    refine MemKeeps.iteFst ?_ ?_
    · dsimp only
      exact MemKeeps.refl _
    · dsimp only
      with_reducible refine MemKeeps.step (MemKeeps.ofSame (State.bump_same _ _) (by decide)) ?_
      exact MemKeeps.refl _
  · rename_i e14 e15 e16 e17 e18
    dsimp only
    exact MemKeeps.refl _

theorem State.dirtyOperand_mem (x1 : State) (x2 : Orphan) (x3 : Operand) :
    MemKeeps x1 (State.dirtyOperand x1 x2 x3) := by
  unfold State.dirtyOperand
  refine MemKeeps.ite ?_ ?_
  · with_reducible refine MemKeeps.step (State.dirtyAll_mem _ _ _) ?_
    exact MemKeeps.refl _
  · exact MemKeeps.refl _

theorem State.accessBoth_mem (x1 : State) (x2 : Orphan) :
    MemKeeps x1 (State.accessBoth x1 x2).1 := by
  unfold State.accessBoth
  extract_lets v0
  refine MemKeeps.iteFst ?_ ?_
  · dsimp only
    exact MemKeeps.refl _
  · split
    · rename_i e1 e2 e3 e4
      dsimp only
      refine MemKeeps.fstOf e4 ?_
      with_reducible refine MemKeeps.step (State.access_mem _ _ _ _ _) ?_
      exact MemKeeps.refl _
    · rename_i e5 e6 e7 e8
      split
      · rename_i e9 e10 e11 e12
        dsimp only
        refine MemKeeps.fstOf e12 ?_
        with_reducible refine MemKeeps.step (State.access_mem _ _ _ _ _) ?_
        refine MemKeeps.fstOf e8 ?_
        with_reducible refine MemKeeps.step (State.access_mem _ _ _ _ _) ?_
        exact MemKeeps.refl _
      · rename_i e13 e14 e15 e16
        dsimp only
        with_reducible refine MemKeeps.step (State.dirtyOperand_mem _ _ _) ?_
        refine MemKeeps.fstOf e16 ?_
        with_reducible refine MemKeeps.step (State.access_mem _ _ _ _ _) ?_
        refine MemKeeps.fstOf e8 ?_
        with_reducible refine MemKeeps.step (State.access_mem _ _ _ _ _) ?_
        exact MemKeeps.refl _

theorem State.writeRun_mem (x1 : State) (x2 : Orphan) (x3 : Operand) (x4 : List (Nat × Nat)) (x5 : Nat) (x6 : List Byte) :
    MemKeeps x1 (State.writeRun x1 x2 x3 x4 x5 x6) := by
  unfold State.writeRun
  split
  · rename_i e0 e1
    extract_lets v2
    with_reducible refine MemKeeps.step (MemKeeps.ofSame (State.setScratch_same _ _ _) (by decide)) ?_
    exact MemKeeps.refl _
  · rename_i e3 e4
    refine MemKeeps.foldl ?_ fun q5 y6 h7 => ?_
    · exact MemKeeps.refl _
    · split
      · rename_i e8 e9 e10
        with_reducible refine MemKeeps.step (MemKeeps.ofSame (State.setScratch_same _ _ _) (by decide)) ?_
        exact h7
      · rename_i e11 e12
        exact h7
  · rename_i e13 e14
    refine MemKeeps.foldl ?_ fun q15 y16 h17 => ?_
    · exact MemKeeps.refl _
    · split
      · rename_i e18 e19 e20
        with_reducible refine MemKeeps.step (MemKeeps.ofSame (State.setScratch_same _ _ _) (by decide)) ?_
        exact h17
      · rename_i e21 e22
        exact h17
  · rename_i e23 e24
    with_reducible refine MemKeeps.step (State.virtWrite_mem _ _ _ _ _ _) ?_
    exact MemKeeps.refl _
  · rename_i e25 e26
    with_reducible refine MemKeeps.step (State.virtWrite_mem _ _ _ _ _ _) ?_
    exact MemKeeps.refl _
  · rename_i e27 e28
    extract_lets v29
    with_reducible refine MemKeeps.step (MemKeeps.ofSame (State.setStream_same _ _ _) (by decide)) ?_
    with_reducible refine MemKeeps.step (State.recWrote_mem _ _ _ _ _) ?_
    exact MemKeeps.refl _
  · rename_i e30 e31 e32 e33 e34 e35 e36
    exact MemKeeps.refl _

theorem State.wakeRec_mem (x1 : State) (x2 : Orphan) (x3 : Operand) :
    MemKeeps x1 (State.wakeRec x1 x2 x3) := by
  unfold State.wakeRec
  refine MemKeeps.ite ?_ ?_
  · with_reducible refine MemKeeps.step (State.touch_mem _ _) ?_
    exact MemKeeps.refl _
  · exact MemKeeps.refl _

theorem State.xferGo_mem (x1 : State) (x2 : Nat) (x3 : Grant) (x4 : QInstr) (x5 : Nat) :
    MemKeeps x1 (State.xferGo x1 x2 x3 x4 x5) := by
  unfold State.xferGo
  extract_lets v0 v1
  split
  · rename_i e2 e3 e4 e5
    with_reducible refine MemKeeps.step (State.coreFault_mem _ _ _ _ _ _ _ _) ?_
    refine MemKeeps.fstOf e5 ?_
    with_reducible refine MemKeeps.step (State.accessBoth_mem _ _) ?_
    exact MemKeeps.refl _
  · rename_i e6 e7 e8 e9 e10
    extract_lets v11 v12
    split
    rename_i e13 e14 e15 e16
    extract_lets v17 v18 v19 v20 v21
    refine MemKeeps.have v20 ?_ fun h22 => ?_
    · with_reducible refine MemKeeps.step (MemKeeps.ofSame (State.traceOpen_same _ _ _ _ _ _ _) (by decide)) ?_
      refine MemKeeps.fstOf e16 ?_
      with_reducible refine MemKeeps.step (MemKeeps.ofSame (State.takePhase_same _ _) (by decide)) ?_
      refine MemKeeps.fstOf e10 ?_
      with_reducible refine MemKeeps.step (State.accessBoth_mem _ _) ?_
      exact MemKeeps.refl _
    clear_value v20
    refine MemKeeps.have v21 ?_ fun h23 => ?_
    · refine MemKeeps.ite ?_ ?_
      · with_reducible refine MemKeeps.step (MemKeeps.ofSame (State.traceOpen_same _ _ _ _ _ _ _) (by decide)) ?_
        with_reducible refine MemKeeps.step (MemKeeps.ofSame (State.countHold_same _) (by decide)) ?_
        exact h22
      · exact h22
    clear_value v21
    split
    rename_i e24 e25 e26 e27
    extract_lets v28 v29 v30 v31
    refine MemKeeps.have v28 ?_ fun h32 => ?_
    · refine MemKeeps.ite ?_ ?_
      · with_reducible refine MemKeeps.step (MemKeeps.ofSame (State.bump_same _ _) (by decide)) ?_
        refine MemKeeps.fstOf e27 ?_
        refine MemKeeps.iteFst ?_ ?_
        · dsimp only
          exact h23
        · with_reducible refine MemKeeps.step (MemKeeps.ofSame (State.sendXfer_same _ _) (by decide)) ?_
          with_reducible refine MemKeeps.step (MemKeeps.ofSame (State.dykeTakes_same _ _) (by decide)) ?_
          refine MemKeeps.ite ?_ ?_
          · with_reducible refine MemKeeps.step (MemKeeps.ofSame (State.noteOnce_same _ _) (by decide)) ?_
            exact h23
          · exact h23
      · refine MemKeeps.fstOf e27 ?_
        refine MemKeeps.iteFst ?_ ?_
        · dsimp only
          exact h23
        · with_reducible refine MemKeeps.step (MemKeeps.ofSame (State.sendXfer_same _ _) (by decide)) ?_
          with_reducible refine MemKeeps.step (MemKeeps.ofSame (State.dykeTakes_same _ _) (by decide)) ?_
          refine MemKeeps.ite ?_ ?_
          · with_reducible refine MemKeeps.step (MemKeeps.ofSame (State.noteOnce_same _ _) (by decide)) ?_
            exact h23
          · exact h23
    clear_value v28
    refine MemKeeps.have v31.1 ?_ fun h33 => ?_
    · with_reducible refine MemKeeps.step (MemKeeps.ofSame (State.sendFlag_same _ _) (by decide)) ?_
      exact h32
    clear_value v31
    split
    rename_i e34 e35 e36 e37
    with_reducible refine MemKeeps.step (MemKeeps.ofSame (State.joinArbiters_same _ _) (by decide)) ?_
    with_reducible refine MemKeeps.step (MemKeeps.ofSame (State.amend_same _ _ _ _ _) (by decide)) ?_
    refine MemKeeps.fstOf e37 ?_
    refine MemKeeps.iteFst ?_ ?_
    · dsimp only
      exact h33
    · dsimp only
      exact h32

theorem State.resumeOne_mem (x1 : State) (x2 x3 x4 : Nat) :
    MemKeeps x1 (State.resumeOne x1 x2 x3 x4) := by
  unfold State.resumeOne
  split
  · rename_i e0 e1
    exact MemKeeps.refl _
  · rename_i e2 e3 e4 e5
    split
    · rename_i e6 e7
      exact MemKeeps.refl _
    · rename_i e8 e9 e10
      extract_lets v11 v12
      refine MemKeeps.ite ?_ ?_
      · exact MemKeeps.refl _
      · split
        · rename_i e13 e14 e15 e16
          with_reducible refine MemKeeps.step (State.coreFault_mem _ _ _ _ _ _ _ _) ?_
          refine MemKeeps.fstOf e16 ?_
          refine MemKeeps.iteFst ?_ ?_
          · with_reducible refine MemKeeps.step (State.access_mem _ _ _ _ _) ?_
            exact MemKeeps.refl _
          · dsimp only
            exact MemKeeps.refl _
        · rename_i e17 e18 e19 e20
          refine MemKeeps.ite ?_ ?_
          · with_reducible refine MemKeeps.step (State.coreFault_mem _ _ _ _ _ _ _ _) ?_
            refine MemKeeps.fstOf e20 ?_
            refine MemKeeps.iteFst ?_ ?_
            · with_reducible refine MemKeeps.step (State.access_mem _ _ _ _ _) ?_
              exact MemKeeps.refl _
            · dsimp only
              exact MemKeeps.refl _
          · extract_lets v21
            refine MemKeeps.have v21 ?_ fun h22 => ?_
            · refine MemKeeps.ite ?_ ?_
              · with_reducible refine MemKeeps.step (MemKeeps.ofSame (State.noteOnce_same _ _) (by decide)) ?_
                refine MemKeeps.fstOf e20 ?_
                refine MemKeeps.iteFst ?_ ?_
                · with_reducible refine MemKeeps.step (State.access_mem _ _ _ _ _) ?_
                  exact MemKeeps.refl _
                · dsimp only
                  exact MemKeeps.refl _
              · refine MemKeeps.fstOf e20 ?_
                refine MemKeeps.iteFst ?_ ?_
                · with_reducible refine MemKeeps.step (State.access_mem _ _ _ _ _) ?_
                  exact MemKeeps.refl _
                · dsimp only
                  exact MemKeeps.refl _
            clear_value v21
            split
            rename_i e23 e24 e25 e26
            with_reducible refine MemKeeps.step (MemKeeps.ofSame (State.traceOpen_same _ _ _ _ _ _ _) (by decide)) ?_
            with_reducible refine MemKeeps.step (MemKeeps.ofSame (State.flagsDue_same _ _) (by decide)) ?_
            with_reducible refine MemKeeps.step (MemKeeps.ofSame (State.amend_same _ _ _ _ _) (by decide)) ?_
            refine MemKeeps.fstOf e26 ?_
            refine MemKeeps.iteFst ?_ ?_
            · with_reducible refine MemKeeps.step (MemKeeps.ofSame (State.sendXfer_same _ _) (by decide)) ?_
              with_reducible refine MemKeeps.step (MemKeeps.ofSame (State.dykeTakes_same _ _) (by decide)) ?_
              exact h22
            · dsimp only
              with_reducible refine MemKeeps.step (MemKeeps.ofSame (State.resendAll_same _ _ _) (by decide)) ?_
              with_reducible refine MemKeeps.step (MemKeeps.ofSame (State.dykeTakes_same _ _) (by decide)) ?_
              exact h22

theorem State.resumeTransfers_mem (x1 : State) :
    MemKeeps x1 (State.resumeTransfers x1) := by
  unfold State.resumeTransfers
  refine MemKeeps.foldl ?_ fun q0 y1 h2 => ?_
  · exact MemKeeps.refl _
  · with_reducible refine MemKeeps.step (State.resumeOne_mem _ _ _ _) ?_
    exact h2

theorem State.xferStart_mem (x1 : State) (x2 x3 x4 x5 : Nat) :
    MemKeeps x1 (State.xferStart x1 x2 x3 x4 x5) := by
  unfold State.xferStart
  extract_lets v0 v1
  refine MemKeeps.have v1 ?_ fun h2 => ?_
  · with_reducible refine MemKeeps.step (MemKeeps.ofSame (State.countDelay_same _ _ _ _) (by decide)) ?_
    exact MemKeeps.refl _
  clear_value v1
  with_reducible refine State.startUnit_mem ?_ ?_
  · exact h2
  · intro y3 y4 y5 y6 h7
    with_reducible refine MemKeeps.step (State.xferGo_mem _ _ _ _ _) ?_
    exact h7

theorem execGet_mem (x1 : Fin 8) (x2 : Fin 48) (x3 : Fin 4) (x4 : List MemError) (x5 : State) :
    OutMemKeeps x5 (execGet x1 x2 x3 x4 x5) := by
  unfold execGet
  refine OutMemKeeps.next ?_
  with_reducible refine MemKeeps.step (State.memErrors_mem _ _) ?_
  with_reducible refine MemKeeps.step (State.xferStart_mem _ _ _ _ _) ?_
  exact MemKeeps.refl _

theorem execPut_mem (x1 : Fin 8) (x2 : Fin 48) (x3 : Fin 4) (x4 : List MemError) (x5 : State) :
    OutMemKeeps x5 (execPut x1 x2 x3 x4 x5) := by
  unfold execPut
  refine OutMemKeeps.next ?_
  with_reducible refine MemKeeps.step (State.memErrors_mem _ _) ?_
  with_reducible refine MemKeeps.step (State.xferStart_mem _ _ _ _ _) ?_
  exact MemKeeps.refl _

theorem execPutf_mem (x1 : Fin 8) (x2 : Fin 48) (x3 : Fin 4) (x4 : State) :
    OutMemKeeps x4 (execPutf x1 x2 x3 x4) := by
  unfold execPutf
  refine OutMemKeeps.next ?_
  with_reducible refine MemKeeps.step (State.xferStart_mem _ _ _ _ _) ?_
  exact MemKeeps.refl _

theorem execMcast_mem (x1 : Fin 8) (x2 : Fin 48) (x3 : Fin 4) (x4 : State) :
    OutMemKeeps x4 (execMcast x1 x2 x3 x4) := by
  unfold execMcast
  refine OutMemKeeps.next ?_
  with_reducible refine MemKeeps.step (State.xferStart_mem _ _ _ _ _) ?_
  exact MemKeeps.refl _

theorem execAtomic_mem (x1 : Fin 8) (x2 : Fin 48) (x3 : Fin 4) (x4 : State) :
    OutMemKeeps x4 (execAtomic x1 x2 x3 x4) := by
  unfold execAtomic
  refine OutMemKeeps.next ?_
  with_reducible refine MemKeeps.step (State.xferStart_mem _ _ _ _ _) ?_
  exact MemKeeps.refl _

theorem execCopy_mem (x1 : Fin 8) (x2 : Fin 48) (x3 : Fin 4) (x4 : State) :
    OutMemKeeps x4 (execCopy x1 x2 x3 x4) := by
  unfold execCopy
  refine OutMemKeeps.next ?_
  with_reducible refine MemKeeps.step (State.xferStart_mem _ _ _ _ _) ?_
  exact MemKeeps.refl _

theorem State.landData_mem (x1 : State) (x2 : Orphan) (x3 : List Byte) :
    MemKeeps x1 (State.landData x1 x2 x3).after := by
  unfold State.landData
  extract_lets v0 v1 v2
  refine MemKeeps.have v2 ?_ fun h3 => ?_
  · with_reducible refine MemKeeps.step (State.wakeRec_mem _ _ _) ?_
    with_reducible refine MemKeeps.step (State.wakeRec_mem _ _ _) ?_
    with_reducible refine MemKeeps.step (State.wake_mem _ _ _) ?_
    with_reducible refine MemKeeps.step (State.wake_mem _ _ _) ?_
    with_reducible refine MemKeeps.step (MemKeeps.ofSame (State.countForwarded_same _ _ _) (by decide)) ?_
    with_reducible refine MemKeeps.step (MemKeeps.ofSame (State.countForwarded_same _ _ _) (by decide)) ?_
    exact MemKeeps.refl _
  clear_value v2
  split
  · rename_i e4 e5 e6
    dsimp only [Landed.after]
    exact MemKeeps.refl _
  · rename_i e7 e8
    split
    · rename_i e9 e10 e11
      dsimp only [Landed.after]
      exact MemKeeps.refl _
    · rename_i e12 e13
      split
      rename_i e14 e15 e16 e17
      dsimp only [Landed.after]
      refine MemKeeps.foldl ?_ fun q18 y19 h20 => ?_
      · exact h3
      · with_reducible refine MemKeeps.step (State.writeRun_mem _ _ _ _ _ _) ?_
        exact h20

theorem State.landAtomic_mem (x1 : State) (x2 : Orphan) :
    MemKeeps x1 (State.landAtomic x1 x2).1.after := by
  unfold State.landAtomic
  extract_lets v0 v1 v2 v3 v4 v5 v6
  split
  · rename_i e7
    dsimp only
    dsimp only [Landed.after]
    with_reducible refine MemKeeps.step (MemKeeps.ofSame (State.bump_same _ _) (by decide)) ?_
    exact MemKeeps.refl _
  · rename_i e8
    split
    · rename_i e9 e10 e11
      dsimp only
      dsimp only [Landed.after]
      exact MemKeeps.refl _
    · rename_i e12 e13
      dsimp only
      dsimp only [Landed.after]
      with_reducible refine MemKeeps.step (MemKeeps.ofSame (State.keepOwn_same _ _ _ _ _) (by decide)) ?_
      with_reducible refine MemKeeps.step (State.writeRun_mem _ _ _ _ _ _) ?_
      exact MemKeeps.refl _

theorem State.atomicResult_mem (x1 : State) (x2 : Orphan) (x3 x4 : Nat) :
    MemKeeps x1 (State.atomicResult x1 x2 x3 x4) := by
  unfold State.atomicResult
  extract_lets v0
  with_reducible refine MemKeeps.step (State.writeRun_mem _ _ _ _ _ _) ?_
  exact MemKeeps.refl _

theorem State.landFlag_mem (x1 : State) (x2 : Orphan) :
    MemKeeps x1 (State.landFlag x1 x2).after := by
  unfold State.landFlag
  extract_lets v0
  split
  · rename_i e1 e2 e3 e4
    dsimp only [Landed.after]
    refine MemKeeps.fstOf e4 ?_
    with_reducible refine MemKeeps.step (State.access_mem _ _ _ _ _) ?_
    exact MemKeeps.refl _
  · rename_i e5 e6 e7 e8
    extract_lets v9
    split
    rename_i e10 e11 e12 e13
    extract_lets v14 v15 v16
    refine MemKeeps.have v16 ?_ fun h17 => ?_
    · with_reducible refine MemKeeps.step (State.writeRun_mem _ _ _ _ _ _) ?_
      refine MemKeeps.fstOf e13 ?_
      refine MemKeeps.iteFst ?_ ?_
      · with_reducible refine MemKeeps.step (MemKeeps.ofSame (State.sendFlag_same _ _) (by decide)) ?_
        with_reducible refine MemKeeps.step (State.dirtyOperand_mem _ _ _) ?_
        refine MemKeeps.fstOf e8 ?_
        with_reducible refine MemKeeps.step (State.access_mem _ _ _ _ _) ?_
        exact MemKeeps.refl _
      · dsimp only
        with_reducible refine MemKeeps.step (MemKeeps.ofSame (State.noteOnce_same _ _) (by decide)) ?_
        with_reducible refine MemKeeps.step (State.dirtyOperand_mem _ _ _) ?_
        refine MemKeeps.fstOf e8 ?_
        with_reducible refine MemKeeps.step (State.access_mem _ _ _ _ _) ?_
        exact MemKeeps.refl _
    clear_value v16
    split
    · rename_i e18
      dsimp only [Landed.after]
      dsimp only [v14]
      refine MemKeeps.ite ?_ ?_
      · with_reducible refine MemKeeps.step (MemKeeps.ofSame (State.dropRequests_same _ _ _) (by decide)) ?_
        refine MemKeeps.fstOf e13 ?_
        refine MemKeeps.iteFst ?_ ?_
        · with_reducible refine MemKeeps.step (MemKeeps.ofSame (State.sendFlag_same _ _) (by decide)) ?_
          with_reducible refine MemKeeps.step (State.dirtyOperand_mem _ _ _) ?_
          refine MemKeeps.fstOf e8 ?_
          with_reducible refine MemKeeps.step (State.access_mem _ _ _ _ _) ?_
          exact MemKeeps.refl _
        · dsimp only
          with_reducible refine MemKeeps.step (MemKeeps.ofSame (State.noteOnce_same _ _) (by decide)) ?_
          with_reducible refine MemKeeps.step (State.dirtyOperand_mem _ _ _) ?_
          refine MemKeeps.fstOf e8 ?_
          with_reducible refine MemKeeps.step (State.access_mem _ _ _ _ _) ?_
          exact MemKeeps.refl _
      · refine MemKeeps.fstOf e13 ?_
        refine MemKeeps.iteFst ?_ ?_
        · with_reducible refine MemKeeps.step (MemKeeps.ofSame (State.sendFlag_same _ _) (by decide)) ?_
          with_reducible refine MemKeeps.step (State.dirtyOperand_mem _ _ _) ?_
          refine MemKeeps.fstOf e8 ?_
          with_reducible refine MemKeeps.step (State.access_mem _ _ _ _ _) ?_
          exact MemKeeps.refl _
        · dsimp only
          with_reducible refine MemKeeps.step (MemKeeps.ofSame (State.noteOnce_same _ _) (by decide)) ?_
          with_reducible refine MemKeeps.step (State.dirtyOperand_mem _ _ _) ?_
          refine MemKeeps.fstOf e8 ?_
          with_reducible refine MemKeeps.step (State.access_mem _ _ _ _ _) ?_
          exact MemKeeps.refl _
    · rename_i e19
      split
      · rename_i e20 e21 e22
        dsimp only [Landed.after]
        dsimp only [v14]
        refine MemKeeps.ite ?_ ?_
        · with_reducible refine MemKeeps.step (MemKeeps.ofSame (State.dropRequests_same _ _ _) (by decide)) ?_
          refine MemKeeps.fstOf e13 ?_
          refine MemKeeps.iteFst ?_ ?_
          · with_reducible refine MemKeeps.step (MemKeeps.ofSame (State.sendFlag_same _ _) (by decide)) ?_
            with_reducible refine MemKeeps.step (State.dirtyOperand_mem _ _ _) ?_
            refine MemKeeps.fstOf e8 ?_
            with_reducible refine MemKeeps.step (State.access_mem _ _ _ _ _) ?_
            exact MemKeeps.refl _
          · dsimp only
            with_reducible refine MemKeeps.step (MemKeeps.ofSame (State.noteOnce_same _ _) (by decide)) ?_
            with_reducible refine MemKeeps.step (State.dirtyOperand_mem _ _ _) ?_
            refine MemKeeps.fstOf e8 ?_
            with_reducible refine MemKeeps.step (State.access_mem _ _ _ _ _) ?_
            exact MemKeeps.refl _
        · refine MemKeeps.fstOf e13 ?_
          refine MemKeeps.iteFst ?_ ?_
          · with_reducible refine MemKeeps.step (MemKeeps.ofSame (State.sendFlag_same _ _) (by decide)) ?_
            with_reducible refine MemKeeps.step (State.dirtyOperand_mem _ _ _) ?_
            refine MemKeeps.fstOf e8 ?_
            with_reducible refine MemKeeps.step (State.access_mem _ _ _ _ _) ?_
            exact MemKeeps.refl _
          · dsimp only
            with_reducible refine MemKeeps.step (MemKeeps.ofSame (State.noteOnce_same _ _) (by decide)) ?_
            with_reducible refine MemKeeps.step (State.dirtyOperand_mem _ _ _) ?_
            refine MemKeeps.fstOf e8 ?_
            with_reducible refine MemKeeps.step (State.access_mem _ _ _ _ _) ?_
            exact MemKeeps.refl _
      · rename_i e23 e24
        dsimp only [Landed.after]
        dsimp only [v14]
        refine MemKeeps.ite ?_ ?_
        · with_reducible refine MemKeeps.step (MemKeeps.ofSame (State.dropRequests_same _ _ _) (by decide)) ?_
          with_reducible refine MemKeeps.step (MemKeeps.ofSame (State.keepOwn_same _ _ _ _ _) (by decide)) ?_
          exact h17
        · with_reducible refine MemKeeps.step (MemKeeps.ofSame (State.keepOwn_same _ _ _ _ _) (by decide)) ?_
          exact h17

theorem State.landXfer_mem (x1 : State) (x2 : Orphan) (x3 : List Byte) :
    MemKeeps x1 (State.landXfer x1 x2 x3).after := by
  unfold State.landXfer
  split
  · rename_i e0 e1
    split
    · rename_i e2
      extract_lets v3 v4
      clear_value v4
      split
      · rename_i e5 e6 e7
        dsimp only [Landed.after]
        with_reducible refine MemKeeps.step (State.atomicResult_mem _ _ _ _) ?_
        exact MemKeeps.refl _
      · rename_i e8
        dsimp only [Landed.after]
        exact MemKeeps.refl _
    · rename_i e9
      split
      · rename_i e10 e11 e12 e13 e14 e15
        dsimp only [Landed.after]
        with_reducible refine MemKeeps.step (State.atomicResult_mem _ _ _ _) ?_
        refine MemKeeps.doneFstOf e15 ?_
        with_reducible refine MemKeeps.step (State.landAtomic_mem _ _) ?_
        exact MemKeeps.refl _
      · rename_i e16 e17 e18 e19 e20 e21 e22
        dsimp only [Landed.after]
        refine MemKeeps.failFstOf e22 ?_
        with_reducible refine MemKeeps.step (State.landAtomic_mem _ _) ?_
        exact MemKeeps.refl _
  · rename_i e23 e24
    extract_lets v25
    split
    · rename_i e26 e27 e28 e29 e30
      dsimp only [Landed.after]
      refine MemKeeps.failOf e30 ?_
      split
      · rename_i e31
        dsimp only [Landed.after]
        exact MemKeeps.refl _
      · rename_i e32
        with_reducible refine MemKeeps.step (State.landData_mem _ _ _) ?_
        exact MemKeeps.refl _
    · rename_i e33 e34 e35 e36
      split
      · rename_i e37
        split
        · rename_i e38 e39 e40 e41
          dsimp only [Landed.after]
          refine MemKeeps.doneOf e41 ?_
          with_reducible refine MemKeeps.step (State.landFlag_mem _ _) ?_
          refine MemKeeps.doneOf e36 ?_
          split
          · rename_i e42
            dsimp only [Landed.after]
            exact MemKeeps.refl _
          · rename_i e43
            with_reducible refine MemKeeps.step (State.landData_mem _ _ _) ?_
            exact MemKeeps.refl _
        · rename_i e44 e45 e46 e47 e48
          dsimp only [Landed.after]
          refine MemKeeps.failOf e48 ?_
          with_reducible refine MemKeeps.step (State.landFlag_mem _ _) ?_
          refine MemKeeps.doneOf e36 ?_
          split
          · rename_i e49
            dsimp only [Landed.after]
            exact MemKeeps.refl _
          · rename_i e50
            with_reducible refine MemKeeps.step (State.landData_mem _ _ _) ?_
            exact MemKeeps.refl _
      · rename_i e51
        dsimp only [Landed.after]
        refine MemKeeps.doneOf e36 ?_
        split
        · rename_i e52
          dsimp only [Landed.after]
          exact MemKeeps.refl _
        · rename_i e53
          with_reducible refine MemKeeps.step (State.landData_mem _ _ _) ?_
          exact MemKeeps.refl _

theorem State.xferDone_mem (x1 : State) (x2 : Nat) (x3 : Grant) (x4 : CoreRun) (x5 x6 : Nat) (x7 : List Byte) :
    MemKeeps x1 (State.xferDone x1 x2 x3 x4 x5 x6 x7) := by
  unfold State.xferDone
  split
  · rename_i e0 e1
    exact MemKeeps.refl _
  · rename_i e2 e3 e4
    extract_lets v5 v6
    refine MemKeeps.ite ?_ ?_
    · exact MemKeeps.refl _
    · split
      · rename_i e7 e8 e9
        with_reducible refine MemKeeps.step (State.coreFault_mem _ _ _ _ _ _ _ _) ?_
        with_reducible refine MemKeeps.step (MemKeeps.ofSame (State.dropRequests_same _ _ _) (by decide)) ?_
        exact MemKeeps.refl _
      · rename_i e10 e11
        refine MemKeeps.ite ?_ ?_
        · exact MemKeeps.refl _
        · refine MemKeeps.ite ?_ ?_
          · refine MemKeeps.ite ?_ ?_
            · with_reducible refine MemKeeps.step (State.coreFault_mem _ _ _ _ _ _ _ _) ?_
              exact MemKeeps.refl _
            · exact MemKeeps.refl _
          · split
            · rename_i e12 e13 e14 e15 e16 e17
              with_reducible refine MemKeeps.step (State.coreFault_mem _ _ _ _ _ _ _ _) ?_
              with_reducible refine MemKeeps.step (MemKeeps.ofSame (State.flagRun_same _ _ _) (by decide)) ?_
              with_reducible refine MemKeeps.step (MemKeeps.ofSame (State.dropRequests_same _ _ _) (by decide)) ?_
              refine MemKeeps.failOf e17 ?_
              split
              · rename_i e18
                dsimp only [Landed.after]
                exact MemKeeps.refl _
              · rename_i e19
                with_reducible refine MemKeeps.step (State.landXfer_mem _ _ _) ?_
                exact MemKeeps.refl _
            · rename_i e20 e21 e22 e23
              extract_lets v24 v25
              refine MemKeeps.have v24 ?_ fun h26 => ?_
              · with_reducible refine MemKeeps.step (MemKeeps.ofSame (State.traceOpen_same _ _ _ _ _ _ _) (by decide)) ?_
                refine MemKeeps.doneOf e23 ?_
                split
                · rename_i e27
                  dsimp only [Landed.after]
                  exact MemKeeps.refl _
                · rename_i e28
                  with_reducible refine MemKeeps.step (State.landXfer_mem _ _ _) ?_
                  exact MemKeeps.refl _
              clear_value v24
              refine MemKeeps.have v25 ?_ fun h29 => ?_
              · with_reducible refine MemKeeps.step (MemKeeps.ofSame (State.flagRun_same _ _ _) (by decide)) ?_
                with_reducible refine MemKeeps.step (MemKeeps.ofSame (State.dropRequests_same _ _ _) (by decide)) ?_
                exact h26
              clear_value v25
              refine MemKeeps.ite ?_ ?_
              · split
                rename_i e30 e31 e32 e33
                split
                · rename_i e34 e35 e36
                  with_reducible refine MemKeeps.step (MemKeeps.ofSame (State.setRun_same _ _ _) (by decide)) ?_
                  refine MemKeeps.fstOf e33 ?_
                  with_reducible refine MemKeeps.step (MemKeeps.ofSame (State.sendFlag_same _ _) (by decide)) ?_
                  exact h29
                · rename_i e37 e38
                  refine MemKeeps.fstOf e33 ?_
                  with_reducible refine MemKeeps.step (MemKeeps.ofSame (State.sendFlag_same _ _) (by decide)) ?_
                  exact h29
              · split
                · rename_i e39 e40 e41
                  with_reducible refine MemKeeps.step (State.completeInstr_mem _ _ _ _ _ _) ?_
                  exact h29
                · rename_i e42 e43
                  exact h29

theorem execTransferComplete_mem (x1 : Fin 8) (x2 : Fin 48) (x3 : Fin 4) (x4 : Nat) (x5 : Landing) (x6 : List Byte) (x7 : State) :
    OutMemKeeps x7 (execTransferComplete x1 x2 x3 x4 x5 x6 x7) := by
  unfold execTransferComplete
  split
  · rename_i e0
    split
    · rename_i e1 e2
      refine OutMemKeeps.next ?_
      exact MemKeeps.refl _
    · rename_i e3 e4 e5 e6 e7
      refine OutMemKeeps.next ?_
      with_reducible refine MemKeeps.step (State.xferDone_mem _ _ _ _ _ _ _) ?_
      exact MemKeeps.refl _
  · rename_i e8 e9
    split
    · rename_i e10 e11
      refine OutMemKeeps.next ?_
      exact MemKeeps.refl _
    · rename_i e12 e13 e14
      extract_lets v15
      split
      · rename_i e16 e17
        refine OutMemKeeps.next ?_
        exact MemKeeps.refl _
      · rename_i e18 e19 e20
        extract_lets v21 v22
        refine OutMemKeeps.have v21 ?_ fun h23 => ?_
        · with_reducible refine MemKeeps.step (MemKeeps.ofSame (State.dropRequests_same _ _ _) (by decide)) ?_
          with_reducible refine MemKeeps.record rfl ?_ ?_
          · exact MemKeeps.of_eq rfl rfl
          exact MemKeeps.refl _
        clear_value v21
        refine OutMemKeeps.ite ?_ ?_
        · refine OutMemKeeps.next ?_
          exact h23
        · split
          · rename_i e24 e25 e26 e27
            refine OutMemKeeps.next ?_
            with_reducible refine MemKeeps.step (MemKeeps.ofSame (State.coreFlags_same _ _ _) (by decide)) ?_
            with_reducible refine MemKeeps.step (MemKeeps.ofSame (State.dropRequests_same _ _ _) (by decide)) ?_
            with_reducible refine MemKeeps.record rfl ?_ ?_
            · exact MemKeeps.of_eq rfl rfl
            refine MemKeeps.doneOf e27 ?_
            with_reducible refine MemKeeps.step (State.landXfer_mem _ _ _) ?_
            exact MemKeeps.refl _
          · rename_i e28 e29 e30 e31 e32 e33
            refine OutMemKeeps.next ?_
            with_reducible refine MemKeeps.step (MemKeeps.ofSame (State.coreFlags_same _ _ _) (by decide)) ?_
            exact h23

theorem execArbiterWeightUpdate_mem (x1 : Fin 8) (x2 : State) :
    OutMemKeeps x2 (execArbiterWeightUpdate x1 x2) :=
  OutMemKeeps.ofSame (execArbiterWeightUpdate_same _ _) (by decide)

theorem execDiePortWeightReport_mem (x1 : Fin 8) (x2 : State) :
    OutMemKeeps x2 (execDiePortWeightReport x1 x2) :=
  OutMemKeeps.ofSame (execDiePortWeightReport_same _ _) (by decide)

end Sys2Proof.Machine
end

