-- ==== Sys2Proof/Laws/MemOutput.lean ====
section
/-! SUPPORT. The functions of Machine/Output.lean keep the memories in canonical form. -/

namespace Sys2Proof.Machine

open Sys2Proof

theorem State.formOut_mem (x1 : State) (x2 x3 x4 : Nat) :
    MemKeeps x1 (State.formOut x1 x2 x3 x4).1 := by
  unfold State.formOut
  split
  rename_i e0 e1 e2 e3
  extract_lets v4
  refine MemKeeps.have v4 ?_ fun h5 => ?_
  · with_reducible refine MemKeeps.step (MemKeeps.ofSame (State.setStream_same _ _ _) (by decide)) ?_
    with_reducible refine MemKeeps.step (State.touch_mem _ _) ?_
    exact MemKeeps.refl _
  clear_value v4
  dsimp only
  refine MemKeeps.ite ?_ ?_
  · with_reducible refine MemKeeps.step (MemKeeps.ofSame (State.event_same _ _ _ _) (by decide)) ?_
    exact h5
  · exact h5

end Sys2Proof.Machine
end

