-- ==== Sys2Proof/Laws/MemGround.lean ====
section
/-! SUPPORT. The functions of Machine/Ground.lean keep the memories in canonical form. -/

namespace Sys2Proof.Machine

open Sys2Proof

theorem execLeaseRequest_mem (x1 x2 : Fin 12) (x3 : Nat) (x4 : Bool) (x5 : State) :
    OutMemKeeps x5 (execLeaseRequest x1 x2 x3 x4 x5) :=
  OutMemKeeps.ofSame (execLeaseRequest_same _ _ _ _ _) (by decide)

theorem execLeaseGrant_mem (x1 : Fin 12) (x2 : State) :
    OutMemKeeps x2 (execLeaseGrant x1 x2) :=
  OutMemKeeps.ofSame (execLeaseGrant_same _ _) (by decide)

theorem execLeaseConfirm_mem (x1 : Fin 12) (x2 : State) :
    OutMemKeeps x2 (execLeaseConfirm x1 x2) :=
  OutMemKeeps.ofSame (execLeaseConfirm_same _ _) (by decide)

theorem execIdentityWord_mem (x1 : IdentAt) (x2 : BitVec 64) (x3 : State) :
    OutMemKeeps x3 (execIdentityWord x1 x2 x3) :=
  OutMemKeeps.ofSame (execIdentityWord_same _ _ _) (by decide)

theorem State.startReset_mem (x1 : State) (x2 : Nat) :
    MemKeeps x1 (State.startReset x1 x2) := by
  unfold State.startReset
  extract_lets v0 v1 v2 v3 v4 v5
  refine MemKeeps.have v1 ?_ fun h6 => ?_
  · with_reducible refine MemKeeps.step (MemKeeps.ofSame (State.bump_same _ _) (by decide)) ?_
    with_reducible refine MemKeeps.step (MemKeeps.ofSame (State.setRegion_same _ _ _) (by decide)) ?_
    exact MemKeeps.refl _
  clear_value v1
  refine MemKeeps.have v2 ?_ fun h7 => ?_
  · dsimp only [v2]
    split
    · rename_i e8 e9 e10
      with_reducible refine MemKeeps.step (State.discardDie_mem _ _ _) ?_
      exact h6
    · rename_i e11 e12
      exact h6
  clear_value v2
  refine MemKeeps.have v3 ?_ fun h13 => ?_
  · with_reducible refine MemKeeps.step (MemKeeps.ofSame (State.dropSlices_same _ _) (by decide)) ?_
    exact h7
  clear_value v3
  refine MemKeeps.have v4 ?_ fun h14 => ?_
  · refine MemKeeps.ite ?_ ?_
    · with_reducible refine MemKeeps.step (MemKeeps.ofSame (State.pairLost_same _) (by decide)) ?_
      exact h13
    · exact h13
  clear_value v4
  with_reducible refine MemKeeps.step (MemKeeps.ofSame (State.dropFresh_same _) (by decide)) ?_
  with_reducible refine MemKeeps.step (MemKeeps.ofSame (State.reportSite_same _ _) (by decide)) ?_
  with_reducible refine MemKeeps.step (MemKeeps.ofSame (State.setArbiter_same _ _ _) (by decide)) ?_
  exact h14

theorem State.writeRegionCommand_mem (x1 : State) (x2 : Nat) :
    MemKeeps x1 (State.writeRegionCommand x1 x2) := by
  unfold State.writeRegionCommand
  extract_lets v0 v1 v2 v3
  refine MemKeeps.have v2 ?_ fun h4 => ?_
  · with_reducible refine MemKeeps.step (MemKeeps.ofSame (State.setReg_same _ _ _) (by decide)) ?_
    with_reducible refine MemKeeps.step (MemKeeps.ofSame (State.answer_same _ _) (by decide)) ?_
    exact MemKeeps.refl _
  clear_value v2
  refine MemKeeps.ite ?_ ?_
  · with_reducible refine MemKeeps.step (State.startReset_mem _ _) ?_
    with_reducible refine MemKeeps.step (MemKeeps.ofSame (State.setRegion_same _ _ _) (by decide)) ?_
    exact h4
  · exact h4

theorem execRegionReset_mem (x1 : ResetCause) (x2 : State) :
    OutMemKeeps x2 (execRegionReset x1 x2) := by
  unfold execRegionReset
  split
  · rename_i e0 e1
    refine OutMemKeeps.next ?_
    with_reducible refine MemKeeps.step (State.writeRegionCommand_mem _ _) ?_
    exact MemKeeps.refl _
  · rename_i e2 e3
    refine OutMemKeeps.next ?_
    with_reducible refine when_mem ?_ ?_
    · with_reducible refine MemKeeps.step (State.startReset_mem _ _) ?_
      exact MemKeeps.refl _
    · exact MemKeeps.refl _

theorem State.hear_mem (x1 : State) (x2 x3 : Nat) :
    MemKeeps x1 (State.hear x1 x2 x3) := by
  unfold State.hear
  extract_lets v0 v1 v2 v3 v4
  refine MemKeeps.have v1 ?_ fun h5 => ?_
  · with_reducible refine MemKeeps.step (MemKeeps.ofSame (State.traceOpen_same _ _ _ _ _ _ _) (by decide)) ?_
    with_reducible refine MemKeeps.step (MemKeeps.ofSame (State.setRegion_same _ _ _) (by decide)) ?_
    exact MemKeeps.refl _
  clear_value v1
  refine MemKeeps.have v3 ?_ fun h6 => ?_
  · refine MemKeeps.foldl ?_ fun q7 y8 h9 => ?_
    · exact h5
    · with_reducible refine MemKeeps.step (MemKeeps.ofSame (State.markStanding_same _ _ _ _ _) (by decide)) ?_
      refine MemKeeps.foldl ?_ fun q10 y11 h12 => ?_
      · exact h9
      · with_reducible refine MemKeeps.step (MemKeeps.ofSame (State.voidLease_same _ _ _ _) (by decide)) ?_
        exact h12
  clear_value v3
  refine MemKeeps.have v4 ?_ fun h13 => ?_
  · with_reducible refine MemKeeps.step (MemKeeps.ofSame (State.holdTransfers_same _) (by decide)) ?_
    exact h6
  clear_value v4
  refine MemKeeps.ite ?_ ?_
  · exact MemKeeps.refl _
  · refine MemKeeps.ite ?_ ?_
    · with_reducible refine MemKeeps.step (MemKeeps.ofSame (State.dropCals_same _ _) (by decide)) ?_
      refine MemKeeps.foldl ?_ fun q14 y15 h16 => ?_
      · exact h13
      · with_reducible refine MemKeeps.step (State.endDark_mem _ _) ?_
        exact h16
    · exact h13

theorem execRegionDarkNotice_mem (x1 x2 : Fin 12) (x3 : State) :
    OutMemKeeps x3 (execRegionDarkNotice x1 x2 x3) := by
  unfold execRegionDarkNotice
  extract_lets v0
  refine OutMemKeeps.next ?_
  with_reducible refine when_mem ?_ ?_
  · with_reducible refine MemKeeps.step (State.hear_mem _ _ _) ?_
    exact MemKeeps.refl _
  · exact MemKeeps.refl _

theorem execRegionEndpointReset_mem (x1 : Fin 12) (x2 : State) :
    OutMemKeeps x2 (execRegionEndpointReset x1 x2) := by
  unfold execRegionEndpointReset
  extract_lets v0 v1 v2 v3
  refine OutMemKeeps.have v1 ?_ fun h4 => ?_
  · refine MemKeeps.foldl ?_ fun q5 y6 h7 => ?_
    · exact MemKeeps.refl _
    · with_reducible refine MemKeeps.step (State.hear_mem _ _ _) ?_
      exact h7
  clear_value v1
  refine OutMemKeeps.have v2 ?_ fun h8 => ?_
  · with_reducible refine MemKeeps.step (MemKeeps.ofSame (State.parkRegion_same _ _) (by decide)) ?_
    exact h4
  clear_value v2
  refine OutMemKeeps.ite ?_ ?_
  · refine OutMemKeeps.next ?_
    exact MemKeeps.refl _
  · refine OutMemKeeps.next ?_
    with_reducible refine MemKeeps.step (MemKeeps.ofSame (State.setRegion_same _ _ _) (by decide)) ?_
    exact h8

theorem execRegionResetRelease_mem (x1 : Fin 12) (x2 : State) :
    OutMemKeeps x2 (execRegionResetRelease x1 x2) :=
  OutMemKeeps.ofSame (execRegionResetRelease_same _ _) (by decide)

theorem State.regionUp_mem (x1 : State) (x2 : Nat) :
    MemKeeps x1 (State.regionUp x1 x2) := by
  unfold State.regionUp
  extract_lets v0 v1 v2 v3
  refine MemKeeps.have v1 ?_ fun h4 => ?_
  · with_reducible refine MemKeeps.step (MemKeeps.ofSame (State.pairTrains_same _ _) (by decide)) ?_
    with_reducible refine MemKeeps.step (MemKeeps.ofSame (State.setRegion_same _ _ _) (by decide)) ?_
    exact MemKeeps.refl _
  clear_value v1
  refine MemKeeps.have v2 ?_ fun h5 => ?_
  · refine MemKeeps.ite ?_ ?_
    · with_reducible refine MemKeeps.step (MemKeeps.ofSame (State.setReg_same _ _ _) (by decide)) ?_
      exact h4
    · exact h4
  clear_value v2
  refine MemKeeps.have v3 ?_ fun h6 => ?_
  · refine MemKeeps.ite ?_ ?_
    · with_reducible refine MemKeeps.step (MemKeeps.ofSame (State.scheduleSite_same _ _) (by decide)) ?_
      exact h5
    · exact h5
  clear_value v3
  with_reducible refine MemKeeps.step (MemKeeps.ofSame (State.reportSite_same _ _) (by decide)) ?_
  with_reducible refine MemKeeps.step (State.feedDrains_mem _) ?_
  with_reducible refine MemKeeps.step (State.resumeTransfers_mem _) ?_
  with_reducible refine MemKeeps.step (MemKeeps.ofSame (State.restLanes_same _) (by decide)) ?_
  exact h6

theorem execRegionUpNotice_mem (x1 : Fin 12) (x2 : State) :
    OutMemKeeps x2 (execRegionUpNotice x1 x2) := by
  unfold execRegionUpNotice
  refine OutMemKeeps.next ?_
  with_reducible refine when_mem ?_ ?_
  · with_reducible refine MemKeeps.step (State.regionUp_mem _ _) ?_
    exact MemKeeps.refl _
  · exact MemKeeps.refl _

theorem execRegionReturnTimeout_mem (x1 : Fin 12) (x2 : State) :
    OutMemKeeps x2 (execRegionReturnTimeout x1 x2) :=
  OutMemKeeps.ofSame (execRegionReturnTimeout_same _ _) (by decide)

theorem execPathTrainingEnd_mem (x1 x2 : Fin 12) (x3 : List (Fin 96)) (x4 : State) :
    OutMemKeeps x4 (execPathTrainingEnd x1 x2 x3 x4) :=
  OutMemKeeps.ofSame (execPathTrainingEnd_same _ _ _ _) (by decide)

theorem State.startFullCal_mem (x1 : State) (x2 : Nat) :
    MemKeeps x1 (State.startFullCal x1 x2) := by
  unfold State.startFullCal
  extract_lets v0 v1 v2
  refine MemKeeps.have v1 ?_ fun h3 => ?_
  · with_reducible refine MemKeeps.step (MemKeeps.ofSame (State.bump_same _ _) (by decide)) ?_
    with_reducible refine MemKeeps.step (MemKeeps.ofSame (State.setRegion_same _ _ _) (by decide)) ?_
    exact MemKeeps.refl _
  clear_value v1
  refine MemKeeps.ite ?_ ?_
  · with_reducible refine MemKeeps.step (MemKeeps.ofSame (State.scheduleSite_same _ _) (by decide)) ?_
    exact h3
  · with_reducible refine MemKeeps.step (State.startReset_mem _ _) ?_
    with_reducible refine MemKeeps.step (MemKeeps.ofSame (State.setRegion_same _ _ _) (by decide)) ?_
    exact h3

theorem State.dueFullCal_mem (x1 : State) (x2 : Nat) :
    MemKeeps x1 (State.dueFullCal x1 x2) := by
  unfold State.dueFullCal
  extract_lets v0
  refine MemKeeps.ite ?_ ?_
  · with_reducible refine MemKeeps.step (State.startFullCal_mem _ _) ?_
    with_reducible refine MemKeeps.step (MemKeeps.ofSame (State.setRegion_same _ _ _) (by decide)) ?_
    exact MemKeeps.refl _
  · exact MemKeeps.refl _

theorem State.wrongLine_mem (x1 : State) (x2 : Nat) :
    MemKeeps x1 (State.wrongLine x1 x2) := by
  unfold State.wrongLine
  extract_lets v0 v1 v2
  with_reducible refine MemKeeps.step (State.dueFullCal_mem _ _) ?_
  with_reducible refine MemKeeps.step (MemKeeps.ofSame (State.setRegion_same _ _ _) (by decide)) ?_
  exact MemKeeps.refl _

theorem execIdentityReport_mem (x1 : State) :
    OutMemKeeps x1 (execIdentityReport x1) := by
  unfold execIdentityReport
  split
  · rename_i e0 e1
    refine OutMemKeeps.next ?_
    exact MemKeeps.refl _
  · rename_i e2 e3 e4 e5 e6 e7
    extract_lets v8 v9 v10 v11 v12 v13 v14 v15
    refine OutMemKeeps.have v8 ?_ fun h16 => ?_
    · dsimp only [v8]
      with_reducible refine MemKeeps.record rfl ?_ ?_
      · exact MemKeeps.of_eq rfl rfl
      exact MemKeeps.refl _
    clear_value v8
    refine OutMemKeeps.ite ?_ ?_
    · refine OutMemKeeps.next ?_
      with_reducible refine MemKeeps.step (State.wrongLine_mem _ _) ?_
      with_reducible refine MemKeeps.step (MemKeeps.ofSame (State.relockLane_same _ _ _ _) (by decide)) ?_
      with_reducible refine MemKeeps.step (MemKeeps.ofSame (State.bump_same _ _) (by decide)) ?_
      exact h16
    · refine OutMemKeeps.ite ?_ ?_
      · refine OutMemKeeps.next ?_
        refine MemKeeps.foldl ?_ fun q17 y18 h19 => ?_
        · with_reducible refine MemKeeps.step (MemKeeps.ofSame (State.pathOut_same _ _ _ _) (by decide)) ?_
          exact h16
        · with_reducible refine MemKeeps.step (State.wrongLine_mem _ _) ?_
          with_reducible refine MemKeeps.step (MemKeeps.ofSame (State.restartCal_same _ _) (by decide)) ?_
          with_reducible refine MemKeeps.step (MemKeeps.ofSame (State.ringLost_same _ _) (by decide)) ?_
          with_reducible refine MemKeeps.step (MemKeeps.ofSame (State.bump_same _ _) (by decide)) ?_
          exact h19
      · refine OutMemKeeps.ite ?_ ?_
        · refine OutMemKeeps.next ?_
          with_reducible refine MemKeeps.step (MemKeeps.ofSame (State.pathOut_same _ _ _ _) (by decide)) ?_
          exact h16
        · refine OutMemKeeps.next ?_
          exact h16

theorem execLaserRelease_mem (x1 : Fin 2) (x2 : State) :
    OutMemKeeps x2 (execLaserRelease x1 x2) :=
  OutMemKeeps.ofSame (execLaserRelease_same _ _) (by decide)

theorem execLaserStart_mem (x1 : Fin 2) (x2 : State) :
    OutMemKeeps x2 (execLaserStart x1 x2) :=
  OutMemKeeps.ofSame (execLaserStart_same _ _) (by decide)

theorem State.allDark_mem (x1 : State) :
    MemKeeps x1 (State.allDark x1) := by
  unfold State.allDark
  extract_lets v0 v1 v2 v3
  refine MemKeeps.have v1 ?_ fun h4 => ?_
  · refine MemKeeps.foldl ?_ fun q5 y6 h7 => ?_
    · exact MemKeeps.refl _
    · extract_lets v8 v9 v10
      refine MemKeeps.have v9 ?_ fun h11 => ?_
      · with_reducible refine MemKeeps.step (MemKeeps.ofSame (State.setRegion_same _ _ _) (by decide)) ?_
        exact h7
      clear_value v9
      refine MemKeeps.have v10 ?_ fun h12 => ?_
      · dsimp only [v10]
        split
        · rename_i e13 e14 e15
          with_reducible refine MemKeeps.step (State.discardDie_mem _ _ _) ?_
          exact h11
        · rename_i e16 e17
          exact h11
      clear_value v10
      with_reducible refine MemKeeps.step (MemKeeps.ofSame (State.parkRegion_same _ _) (by decide)) ?_
      exact h12
  clear_value v1
  refine MemKeeps.have v2 ?_ fun h18 => ?_
  · refine MemKeeps.foldl ?_ fun q19 y20 h21 => ?_
    · exact h4
    · with_reducible refine MemKeeps.step (State.endDark_mem _ _) ?_
      exact h21
  clear_value v2
  refine MemKeeps.have v3 ?_ fun h22 => ?_
  · refine MemKeeps.foldl ?_ fun q23 y24 h25 => ?_
    · with_reducible refine MemKeeps.step (MemKeeps.ofSame (State.pairLost_same _) (by decide)) ?_
      exact h18
    · with_reducible refine MemKeeps.step (MemKeeps.ofSame (State.dropCals_same _ _) (by decide)) ?_
      exact h25
  clear_value v3
  with_reducible refine MemKeeps.step (MemKeeps.ofSame (State.dropFresh_same _) (by decide)) ?_
  refine MemKeeps.foldl ?_ fun q26 y27 h28 => ?_
  · with_reducible refine MemKeeps.step (MemKeeps.ofSame (State.holdTransfers_same _) (by decide)) ?_
    exact h22
  · with_reducible refine MemKeeps.step (MemKeeps.ofSame (State.reportSite_same _ _) (by decide)) ?_
    exact h28

theorem execLaserRampEnd_mem (x1 : Fin 2) (x2 : State) :
    OutMemKeeps x2 (execLaserRampEnd x1 x2) := by
  unfold execLaserRampEnd
  extract_lets v0 v1
  refine OutMemKeeps.have v1 ?_ fun h2 => ?_
  · with_reducible refine MemKeeps.step (MemKeeps.ofSame (State.setReg_same _ _ _) (by decide)) ?_
    with_reducible refine MemKeeps.step (MemKeeps.ofSame (State.laserPut_same _ _ _) (by decide)) ?_
    exact MemKeeps.refl _
  clear_value v1
  refine OutMemKeeps.ite ?_ ?_
  · refine OutMemKeeps.next ?_
    with_reducible refine MemKeeps.step (MemKeeps.ofSame (State.lightBack_same _) (by decide)) ?_
    with_reducible refine MemKeeps.step (MemKeeps.ofSame (State.setReg_same _ _ _) (by decide)) ?_
    with_reducible refine MemKeeps.step (MemKeeps.ofSame (State.laserPut_same _ _ _) (by decide)) ?_
    exact MemKeeps.refl _
  · refine OutMemKeeps.ite ?_ ?_
    · refine OutMemKeeps.next ?_
      refine MemKeeps.ite ?_ ?_
      · with_reducible refine MemKeeps.step (MemKeeps.ofSame (State.endMulticasts_same _) (by decide)) ?_
        exact h2
      · with_reducible refine MemKeeps.step (State.allDark_mem _) ?_
        exact h2
    · refine OutMemKeeps.next ?_
      exact MemKeeps.refl _

theorem State.laserFail_mem (x1 : State) (x2 : Nat) (x3 : LaserSt) :
    MemKeeps x1 (State.laserFail x1 x2 x3) := by
  unfold State.laserFail
  extract_lets v0 v1
  refine MemKeeps.have v1 ?_ fun h2 => ?_
  · with_reducible refine MemKeeps.step (MemKeeps.ofSame (State.laserPut_same _ _ _) (by decide)) ?_
    exact MemKeeps.refl _
  clear_value v1
  refine MemKeeps.ite ?_ ?_
  · with_reducible refine MemKeeps.step (MemKeeps.ofSame (State.endMulticasts_same _) (by decide)) ?_
    exact h2
  · with_reducible refine MemKeeps.step (State.allDark_mem _) ?_
    exact h2

theorem execLaserLoss_mem (x1 : Fin 2) (x2 : State) :
    OutMemKeeps x2 (execLaserLoss x1 x2) := by
  unfold execLaserLoss
  refine OutMemKeeps.next ?_
  with_reducible refine when_mem ?_ ?_
  · with_reducible refine MemKeeps.step (State.laserFail_mem _ _ _) ?_
    exact MemKeeps.refl _
  · exact MemKeeps.refl _

theorem execLaserLossBoth_mem (x1 : State) :
    OutMemKeeps x1 (execLaserLossBoth x1) := by
  unfold execLaserLossBoth
  extract_lets v0
  refine OutMemKeeps.next ?_
  with_reducible refine when_mem ?_ ?_
  · with_reducible refine MemKeeps.step (State.allDark_mem _) ?_
    dsimp only [v0]
    refine MemKeeps.ite ?_ ?_
    · with_reducible refine MemKeeps.step (MemKeeps.ofSame (State.laserPut_same _ _ _) (by decide)) ?_
      refine MemKeeps.ite ?_ ?_
      · with_reducible refine MemKeeps.step (MemKeeps.ofSame (State.laserPut_same _ _ _) (by decide)) ?_
        exact MemKeeps.refl _
      · exact MemKeeps.refl _
    · refine MemKeeps.ite ?_ ?_
      · with_reducible refine MemKeeps.step (MemKeeps.ofSame (State.laserPut_same _ _ _) (by decide)) ?_
        exact MemKeeps.refl _
      · exact MemKeeps.refl _
  · exact MemKeeps.refl _

theorem execLaserLightReturn_mem (x1 : Fin 2) (x2 : State) :
    OutMemKeeps x2 (execLaserLightReturn x1 x2) :=
  OutMemKeeps.ofSame (execLaserLightReturn_same _ _) (by decide)

theorem execLaserSeatReport_mem (x1 : Fin 2) (x2 : Bool) (x3 : State) :
    OutMemKeeps x3 (execLaserSeatReport x1 x2 x3) := by
  unfold execLaserSeatReport
  extract_lets v0 v1 v2 v3
  refine OutMemKeeps.have v2 ?_ fun h4 => ?_
  · with_reducible refine MemKeeps.step (MemKeeps.ofSame (State.setLaser_same _ _ _) (by decide)) ?_
    exact MemKeeps.refl _
  clear_value v2
  refine OutMemKeeps.ite ?_ ?_
  · refine OutMemKeeps.next ?_
    with_reducible refine MemKeeps.step (MemKeeps.ofSame (State.laserPut_same _ _ _) (by decide)) ?_
    exact MemKeeps.refl _
  · refine OutMemKeeps.next ?_
    refine MemKeeps.ite ?_ ?_
    · with_reducible refine MemKeeps.step (State.laserFail_mem _ _ _) ?_
      exact h4
    · with_reducible refine MemKeeps.step (MemKeeps.ofSame (State.laserPut_same _ _ _) (by decide)) ?_
      exact h4

end Sys2Proof.Machine
end

