-- ==== Sys2Proof/Laws/MemSpecialFn.lean ====
section
/-! SUPPORT. The functions of Machine/SpecialFn.lean keep the memories in canonical form. -/

namespace Sys2Proof.Machine

open Sys2Proof

theorem State.sfuStart_mem {s0 s : State} {die core : Nat} {op : SfuOp}
    {run : State → Nat → Grant → QInstr → State}
    (h : MemKeeps s0 s) (hr : ∀ t k g q, MemKeeps s0 t → MemKeeps s0 (run t k g q)) :
    MemKeeps s0 (s.sfuStart die core op run) :=
  State.startUnit_mem h fun k g q t ht => hr t k g q ht

theorem State.sfuMap_mem (x1 : State) (x2 x3 : Nat) (x4 : SfuOp) :
    MemKeeps x1 (State.sfuMap x1 x2 x3 x4) := by
  unfold State.sfuMap
  with_reducible refine State.sfuStart_mem ?_ ?_
  · exact MemKeeps.refl _
  · intro y0 y1 y2 y3 h4
    with_reducible refine MemKeeps.step (MemKeeps.ofSame (State.sfuRows_same _ _ _ _ _) (by decide)) ?_
    exact h4

theorem execExp_mem (x1 : Fin 8) (x2 : Fin 48) (x3 : State) :
    OutMemKeeps x3 (execExp x1 x2 x3) := by
  unfold execExp
  refine OutMemKeeps.next ?_
  with_reducible refine MemKeeps.step (State.sfuMap_mem _ _ _ _) ?_
  exact MemKeeps.refl _

theorem execRecip_mem (x1 : Fin 8) (x2 : Fin 48) (x3 : State) :
    OutMemKeeps x3 (execRecip x1 x2 x3) := by
  unfold execRecip
  refine OutMemKeeps.next ?_
  with_reducible refine MemKeeps.step (State.sfuMap_mem _ _ _ _) ?_
  exact MemKeeps.refl _

theorem execRsqrt_mem (x1 : Fin 8) (x2 : Fin 48) (x3 : State) :
    OutMemKeeps x3 (execRsqrt x1 x2 x3) := by
  unfold execRsqrt
  refine OutMemKeeps.next ?_
  with_reducible refine MemKeeps.step (State.sfuMap_mem _ _ _ _) ?_
  exact MemKeeps.refl _

theorem execSilu_mem (x1 : Fin 8) (x2 : Fin 48) (x3 : State) :
    OutMemKeeps x3 (execSilu x1 x2 x3) := by
  unfold execSilu
  refine OutMemKeeps.next ?_
  with_reducible refine MemKeeps.step (State.sfuMap_mem _ _ _ _) ?_
  exact MemKeeps.refl _

theorem execGelu_mem (x1 : Fin 8) (x2 : Fin 48) (x3 : State) :
    OutMemKeeps x3 (execGelu x1 x2 x3) := by
  unfold execGelu
  refine OutMemKeeps.next ?_
  with_reducible refine MemKeeps.step (State.sfuMap_mem _ _ _ _) ?_
  exact MemKeeps.refl _

theorem execSoftmax_mem (x1 : Fin 8) (x2 : Fin 48) (x3 : State) :
    OutMemKeeps x3 (execSoftmax x1 x2 x3) := by
  unfold execSoftmax
  refine OutMemKeeps.next ?_
  with_reducible refine State.sfuStart_mem ?_ ?_
  · exact MemKeeps.refl _
  · intro y0 y1 y2 y3 h4
    with_reducible refine MemKeeps.step (MemKeeps.ofSame (State.sfuRows_same _ _ _ _ _) (by decide)) ?_
    exact h4

theorem State.sfuNorm_mem (x1 : State) (x2 x3 : Nat) (x4 : SfuOp) :
    MemKeeps x1 (State.sfuNorm x1 x2 x3 x4) := by
  unfold State.sfuNorm
  with_reducible refine State.sfuStart_mem ?_ ?_
  · exact MemKeeps.refl _
  · intro y0 y1 y2 y3 h4
    with_reducible refine MemKeeps.step (MemKeeps.ofSame (State.sfuRows_same _ _ _ _ _) (by decide)) ?_
    exact h4

theorem execRmsnorm_mem (x1 : Fin 8) (x2 : Fin 48) (x3 : State) :
    OutMemKeeps x3 (execRmsnorm x1 x2 x3) := by
  unfold execRmsnorm
  refine OutMemKeeps.next ?_
  with_reducible refine MemKeeps.step (State.sfuNorm_mem _ _ _ _) ?_
  exact MemKeeps.refl _

theorem execLayernorm_mem (x1 : Fin 8) (x2 : Fin 48) (x3 : State) :
    OutMemKeeps x3 (execLayernorm x1 x2 x3) := by
  unfold execLayernorm
  refine OutMemKeeps.next ?_
  with_reducible refine MemKeeps.step (State.sfuNorm_mem _ _ _ _) ?_
  exact MemKeeps.refl _

theorem execRedsum_mem (x1 : Fin 8) (x2 : Fin 48) (x3 : State) :
    OutMemKeeps x3 (execRedsum x1 x2 x3) := by
  unfold execRedsum
  refine OutMemKeeps.next ?_
  with_reducible refine State.sfuStart_mem ?_ ?_
  · exact MemKeeps.refl _
  · intro y0 y1 y2 y3 h4
    with_reducible refine MemKeeps.step (MemKeeps.ofSame (State.sfuRows_same _ _ _ _ _) (by decide)) ?_
    exact h4

theorem execRedmax_mem (x1 : Fin 8) (x2 : Fin 48) (x3 : State) :
    OutMemKeeps x3 (execRedmax x1 x2 x3) := by
  unfold execRedmax
  refine OutMemKeeps.next ?_
  with_reducible refine State.sfuStart_mem ?_ ?_
  · exact MemKeeps.refl _
  · intro y0 y1 y2 y3 h4
    with_reducible refine MemKeeps.step (MemKeeps.ofSame (State.sfuRows_same _ _ _ _ _) (by decide)) ?_
    exact h4

theorem execTopk_mem (x1 : Fin 8) (x2 : Fin 48) (x3 : State) :
    OutMemKeeps x3 (execTopk x1 x2 x3) := by
  unfold execTopk
  refine OutMemKeeps.next ?_
  with_reducible refine State.sfuStart_mem ?_ ?_
  · exact MemKeeps.refl _
  · intro y0 y1 y2 y3 h4
    with_reducible refine MemKeeps.step (MemKeeps.ofSame (State.sfuRows_same _ _ _ _ _) (by decide)) ?_
    exact h4

theorem execSample_mem (x1 : Fin 8) (x2 : Fin 48) (x3 : State) :
    OutMemKeeps x3 (execSample x1 x2 x3) := by
  unfold execSample
  refine OutMemKeeps.next ?_
  with_reducible refine State.sfuStart_mem ?_ ?_
  · exact MemKeeps.refl _
  · intro y0 y1 y2 y3 h4
    with_reducible refine MemKeeps.step (MemKeeps.ofSame (State.sampleRun_same _ _ _ _) (by decide)) ?_
    exact h4

theorem execTreeverify_mem (x1 : Fin 8) (x2 : Fin 48) (x3 : State) :
    OutMemKeeps x3 (execTreeverify x1 x2 x3) := by
  unfold execTreeverify
  refine OutMemKeeps.next ?_
  with_reducible refine State.sfuStart_mem ?_ ?_
  · exact MemKeeps.refl _
  · intro y0 y1 y2 y3 h4
    with_reducible refine MemKeeps.step (MemKeeps.ofSame (State.verifyRun_same _ _ _ _) (by decide)) ?_
    exact h4

end Sys2Proof.Machine
end

