-- ==== Sys2Proof/Laws/MemPair.lean ====
section
/-! SUPPORT. The functions of Machine/Pair.lean keep the memories in canonical form. -/

namespace Sys2Proof.Machine

open Sys2Proof

theorem execPairLinkUp_mem (x1 : Nat) (x2 : State) :
    OutMemKeeps x2 (execPairLinkUp x1 x2) :=
  OutMemKeeps.ofSame (execPairLinkUp_same _ _) (by decide)

theorem execPairLinkDown_mem (x1 : State) :
    OutMemKeeps x1 (execPairLinkDown x1) :=
  OutMemKeeps.ofSame (execPairLinkDown_same _) (by decide)

theorem execHelloTimer_mem (x1 : State) :
    OutMemKeeps x1 (execHelloTimer x1) :=
  OutMemKeeps.ofSame (execHelloTimer_same _) (by decide)

theorem execHello_mem (x1 : Hello) (x2 : State) :
    OutMemKeeps x2 (execHello x1 x2) :=
  OutMemKeeps.ofSame (execHello_same _ _) (by decide)

theorem execJoinTimeout_mem (x1 : State) :
    OutMemKeeps x1 (execJoinTimeout x1) :=
  OutMemKeeps.ofSame (execJoinTimeout_same _) (by decide)

theorem execClaim_mem (x1 : Nat) (x2 : State) :
    OutMemKeeps x2 (execClaim x1 x2) :=
  OutMemKeeps.ofSame (execClaim_same _ _) (by decide)

theorem execPricking_mem (x1 : PrickCopy) (x2 : State) :
    OutMemKeeps x2 (execPricking x1 x2) :=
  OutMemKeeps.ofSame (execPricking_same _ _) (by decide)

theorem execStandbyPrickingFix_mem (x1 : State) :
    OutMemKeeps x1 (execStandbyPrickingFix x1) :=
  OutMemKeeps.ofSame (execStandbyPrickingFix_same _) (by decide)

theorem execCommit_mem (x1 : List Byte) (x2 : State) :
    OutMemKeeps x2 (execCommit x1 x2) :=
  OutMemKeeps.ofSame (execCommit_same _ _) (by decide)

theorem execCommitHoldExpiry_mem (x1 : State) :
    OutMemKeeps x1 (execCommitHoldExpiry x1) :=
  OutMemKeeps.ofSame (execCommitHoldExpiry_same _) (by decide)

theorem execPingWaitExpiry_mem (x1 : State) :
    OutMemKeeps x1 (execPingWaitExpiry x1) :=
  OutMemKeeps.ofSame (execPingWaitExpiry_same _) (by decide)

theorem execSwitchover_mem (x1 : State) :
    OutMemKeeps x1 (execSwitchover x1) :=
  OutMemKeeps.ofSame (execSwitchover_same _) (by decide)

theorem execRejoin_mem (x1 : State) :
    OutMemKeeps x1 (execRejoin x1) :=
  OutMemKeeps.ofSame (execRejoin_same _) (by decide)

theorem execYield_mem (x1 : Nat) (x2 : State) :
    OutMemKeeps x2 (execYield x1 x2) :=
  OutMemKeeps.ofSame (execYield_same _ _) (by decide)

theorem State.arbitration_mem (x1 : State) (x2 : Kat) :
    MemKeeps x1 (State.arbitration x1 x2) := by
  unfold State.arbitration
  split
  · rename_i e0 e1 e2 e3 e4 e5
    extract_lets v6 v7 v8 v9 v10 v11 v12 v13 v14 v15
    refine MemKeeps.have v6 ?_ fun h16 => ?_
    · with_reducible refine MemKeeps.step (MemKeeps.ofSame (State.setPair_same _ _) (by decide)) ?_
      exact MemKeeps.refl _
    clear_value v6
    refine MemKeeps.have v11 ?_ fun h17 => ?_
    · with_reducible refine MemKeeps.step (MemKeeps.ofSame (State.reportSite_same _ _) (by decide)) ?_
      with_reducible refine MemKeeps.step (State.discardDie_mem _ _ _) ?_
      with_reducible refine MemKeeps.step (MemKeeps.ofSame (State.setDie_same _ _ _) (by decide)) ?_
      exact h16
    clear_value v11
    refine MemKeeps.have v14 ?_ fun h18 => ?_
    · with_reducible refine MemKeeps.step (MemKeeps.ofSame (State.setPair_same _ _) (by decide)) ?_
      exact h16
    clear_value v14
    refine MemKeeps.have v15 ?_ fun h19 => ?_
    · with_reducible refine MemKeeps.step (MemKeeps.ofSame (State.reportSite_same _ _) (by decide)) ?_
      with_reducible refine MemKeeps.step (MemKeeps.ofSame (State.setDie_same _ _ _) (by decide)) ?_
      exact h16
    clear_value v15
    clear_value v8
    clear_value v9
    split
    · rename_i e20 e21
      refine MemKeeps.ite ?_ ?_
      · refine MemKeeps.ite ?_ ?_
        · with_reducible refine MemKeeps.step (MemKeeps.ofSame (State.tellMore_same _ _) (by decide)) ?_
          with_reducible refine MemKeeps.step (MemKeeps.ofSame (State.setPair_same _ _) (by decide)) ?_
          exact h17
        · exact h17
      · with_reducible refine MemKeeps.step (MemKeeps.ofSame (State.setPair_same _ _) (by decide)) ?_
        exact h16
    · rename_i e22 e23
      refine MemKeeps.ite ?_ ?_
      · exact h16
      · with_reducible refine MemKeeps.step (MemKeeps.ofSame (State.startDieTest_same _ _) (by decide)) ?_
        with_reducible refine MemKeeps.step (MemKeeps.ofSame (State.setPair_same _ _) (by decide)) ?_
        refine MemKeeps.foldl ?_ fun q24 y25 h26 => ?_
        · exact h16
        · with_reducible refine MemKeeps.step (MemKeeps.ofSame (State.setSync_same _ _ _) (by decide)) ?_
          exact h26
    · rename_i e27 e28
      refine MemKeeps.ite ?_ ?_
      · exact h16
      · refine MemKeeps.ite ?_ ?_
        · with_reducible refine MemKeeps.step (MemKeeps.ofSame (State.stick_same _ _ _) (by decide)) ?_
          exact h18
        · exact h18
    · rename_i e29 e30
      refine MemKeeps.ite ?_ ?_
      · exact h19
      · with_reducible refine MemKeeps.step (MemKeeps.ofSame (State.setPair_same _ _) (by decide)) ?_
        exact h19
  · rename_i e31 e32 e33
    exact MemKeeps.refl _

theorem State.katResult_mem (x1 : State) (x2 x3 : Nat) (x4 x5 : Bool) :
    MemKeeps x1 (State.katResult x1 x2 x3 x4 x5) := by
  unfold State.katResult
  extract_lets v0 v1 v2
  refine MemKeeps.have v2 ?_ fun h3 => ?_
  · with_reducible refine MemKeeps.step (MemKeeps.ofSame (State.setPair_same _ _) (by decide)) ?_
    exact MemKeeps.refl _
  clear_value v2
  split
  · rename_i e4 e5 e6
    refine MemKeeps.ite ?_ ?_
    · with_reducible refine MemKeeps.step (State.arbitration_mem _ _) ?_
      exact h3
    · refine MemKeeps.ite ?_ ?_
      · with_reducible refine MemKeeps.step (MemKeeps.ofSame (State.setPair_same _ _) (by decide)) ?_
        exact h3
      · exact h3
  · rename_i e7 e8
    exact h3

theorem State.katOwn_mem (x1 : State) (x2 x3 x4 : Nat) :
    MemKeeps x1 (State.katOwn x1 x2 x3 x4) := by
  unfold State.katOwn
  split
  · rename_i e0 e1
    exact MemKeeps.refl _
  · rename_i e2 e3 e4
    extract_lets v5 v6 v7 v8
    refine MemKeeps.have v6 ?_ fun h9 => ?_
    · with_reducible refine MemKeeps.step (MemKeeps.ofSame (State.setEntry_same _ _ _ _) (by decide)) ?_
      with_reducible refine MemKeeps.step (MemKeeps.ofSame (State.freeGrant_same _ _) (by decide)) ?_
      exact MemKeeps.refl _
    clear_value v6
    refine MemKeeps.have v7 ?_ fun h10 => ?_
    · refine MemKeeps.ite ?_ ?_
      · with_reducible refine MemKeeps.step (MemKeeps.ofSame (State.katPassed_same _ _) (by decide)) ?_
        exact h9
      · exact h9
    clear_value v7
    refine MemKeeps.have v8 ?_ fun h11 => ?_
    · refine MemKeeps.ite ?_ ?_
      · with_reducible refine MemKeeps.step (MemKeeps.ofSame (State.setPair_same _ _) (by decide)) ?_
        exact h10
      · exact h10
    clear_value v8
    with_reducible refine MemKeeps.step (State.katResult_mem _ _ _ _ _) ?_
    with_reducible refine MemKeeps.step (MemKeeps.ofSame (State.tellMore_same _ _) (by decide)) ?_
    exact h11

theorem execKat_mem (x1 : KatMsg) (x2 : State) :
    OutMemKeeps x2 (execKat x1 x2) := by
  unfold execKat
  refine OutMemKeeps.ite ?_ ?_
  · refine OutMemKeeps.next ?_
    exact MemKeeps.refl _
  · extract_lets v0
    refine OutMemKeeps.have v0 ?_ fun h1 => ?_
    · with_reducible refine MemKeeps.step (MemKeeps.ofSame (State.setPair_same _ _) (by decide)) ?_
      exact MemKeeps.refl _
    clear_value v0
    split
    · rename_i e2 e3 e4
      refine OutMemKeeps.next ?_
      with_reducible refine when_mem ?_ ?_
      · with_reducible refine MemKeeps.step (MemKeeps.ofSame (State.setPair_same _ _) (by decide)) ?_
        exact h1
      · exact h1
    · rename_i e5 e6 e7 e8
      refine OutMemKeeps.next ?_
      with_reducible refine when_mem ?_ ?_
      · with_reducible refine MemKeeps.step (State.katResult_mem _ _ _ _ _) ?_
        exact h1
      · exact h1
    · rename_i e9 e10 e11 e12
      refine OutMemKeeps.next ?_
      with_reducible refine MemKeeps.step (State.katOwn_mem _ _ _ _) ?_
      exact h1

theorem execKatInterval_mem (x1 : State) :
    OutMemKeeps x1 (execKatInterval x1) :=
  OutMemKeeps.ofSame (execKatInterval_same _) (by decide)

theorem execKatResultTimeout_mem (x1 : State) :
    OutMemKeeps x1 (execKatResultTimeout x1) :=
  OutMemKeeps.ofSame (execKatResultTimeout_same _) (by decide)

theorem execResync_mem (x1 : StreamCopy) (x2 : State) :
    OutMemKeeps x2 (execResync x1 x2) := by
  unfold execResync
  extract_lets v0 v1 v2 v3 v4 v5
  refine OutMemKeeps.have v3 ?_ fun h6 => ?_
  · with_reducible refine MemKeeps.step (MemKeeps.ofSame (State.bump_same _ _) (by decide)) ?_
    exact MemKeeps.refl _
  clear_value v3
  refine OutMemKeeps.have v4 ?_ fun h7 => ?_
  · refine MemKeeps.foldl ?_ fun q8 y9 h10 => ?_
    · exact h6
    · with_reducible refine MemKeeps.step (State.hubWrite_mem _ _ _ _ _) ?_
      exact h10
  clear_value v4
  refine OutMemKeeps.ite ?_ ?_
  · refine OutMemKeeps.next ?_
    exact MemKeeps.refl _
  · refine OutMemKeeps.ite ?_ ?_
    · refine OutMemKeeps.next ?_
      with_reducible refine MemKeeps.step (MemKeeps.ofSame (State.setSync_same _ _ _) (by decide)) ?_
      with_reducible refine MemKeeps.step (MemKeeps.ofSame (State.setPair_same _ _) (by decide)) ?_
      exact h6
    · refine OutMemKeeps.next ?_
      with_reducible refine MemKeeps.step (MemKeeps.ofSame (State.setStream_same _ _ _) (by decide)) ?_
      with_reducible refine MemKeeps.step (State.recWrote_mem _ _ _ _ _) ?_
      exact h7

theorem execResyncEnd_mem (x1 : Fin 16384) (x2 : State) :
    OutMemKeeps x2 (execResyncEnd x1 x2) :=
  OutMemKeeps.ofSame (execResyncEnd_same _ _) (by decide)

end Sys2Proof.Machine
end

