-- ==== Sys2Proof/Laws/MemPatterns.lean ====
section
/-! SUPPORT. The functions of Machine/Patterns.lean keep the memories in canonical form. -/

namespace Sys2Proof.Machine

open Sys2Proof

theorem State.tierTouch_mem (x1 : State) (x2 x3 : Nat) :
    MemKeeps x1 (State.tierTouch x1 x2 x3) := by
  unfold State.tierTouch
  split
  · rename_i e0 e1 e2
    with_reducible refine MemKeeps.step (State.wake_mem _ _ _) ?_
    exact MemKeeps.refl _
  · rename_i e3 e4
    exact MemKeeps.refl _

theorem State.patternLoad_mem (x1 : State) :
    MemKeeps x1 (State.patternLoad x1) := by
  unfold State.patternLoad
  refine MemKeeps.ite ?_ ?_
  · with_reducible refine MemKeeps.step (MemKeeps.ofSame (State.answer_same _ _) (by decide)) ?_
    exact MemKeeps.refl _
  · extract_lets v0 v1 v2 v3
    refine MemKeeps.have v3 ?_ fun h4 => ?_
    · with_reducible refine MemKeeps.step (State.tierTouch_mem _ _ _) ?_
      exact MemKeeps.refl _
    clear_value v3
    refine MemKeeps.ite ?_ ?_
    · with_reducible refine MemKeeps.step (MemKeeps.ofSame (State.answer_same _ _) (by decide)) ?_
      with_reducible refine MemKeeps.step (MemKeeps.ofSame (State.setReg_same _ _ _) (by decide)) ?_
      exact MemKeeps.refl _
    · with_reducible refine MemKeeps.step (MemKeeps.ofSame (State.answer_same _ _) (by decide)) ?_
      with_reducible refine MemKeeps.step (MemKeeps.ofSame (State.setReg_same _ _ _) (by decide)) ?_
      with_reducible refine MemKeeps.record rfl ?_ ?_
      · exact MemKeeps.of_eq rfl rfl
      exact h4

theorem execPatternLoad_mem (x1 : State) :
    OutMemKeeps x1 (execPatternLoad x1) := by
  unfold execPatternLoad
  refine OutMemKeeps.next ?_
  with_reducible refine MemKeeps.step (State.patternLoad_mem _) ?_
  exact MemKeeps.refl _

theorem execPatternUnload_mem (x1 : State) :
    OutMemKeeps x1 (execPatternUnload x1) :=
  OutMemKeeps.ofSame (execPatternUnload_same _) (by decide)

theorem writePatternCommand_mem (x1 : Nat) (x2 : State) :
    MemKeeps x2 (writePatternCommand x1 x2) := by
  unfold writePatternCommand
  refine MemKeeps.ite ?_ ?_
  · with_reducible refine MemKeeps.step (State.patternLoad_mem _) ?_
    exact MemKeeps.refl _
  · refine MemKeeps.ite ?_ ?_
    · with_reducible refine MemKeeps.step (MemKeeps.ofSame (State.patternUnload_same _) (by decide)) ?_
      exact MemKeeps.refl _
    · with_reducible refine MemKeeps.step (MemKeeps.ofSame (State.answer_same _ _) (by decide)) ?_
      exact MemKeeps.refl _

theorem State.placeImage_mem (x1 : State) (x2 : Nat) (x3 : List Byte) :
    MemKeeps x1 (State.placeImage x1 x2 x3) := by
  unfold State.placeImage
  extract_lets v0 v1 v2 v3 v4 v5 v6 v7 v8
  refine MemKeeps.have v6 ?_ fun h9 => ?_
  · with_reducible refine MemKeeps.step (MemKeeps.ofSame (State.setDie_same _ _ _) (by decide)) ?_
    exact MemKeeps.refl _
  clear_value v6
  with_reducible refine MemKeeps.step (MemKeeps.ofSame (State.patternReport_same _ _) (by decide)) ?_
  with_reducible refine State.setStore_mem ?_ ?_
  · exact h9
  · exact fun h => wrBytes_wf _ (MemOk.store h _) _

theorem execPatternLoadEnd_mem (x1 : State) :
    OutMemKeeps x1 (execPatternLoadEnd x1) := by
  unfold execPatternLoadEnd
  split
  · rename_i e0 e1
    refine OutMemKeeps.next ?_
    exact MemKeeps.refl _
  · rename_i e2 e3 e4
    extract_lets v5 v6
    refine OutMemKeeps.have v5 ?_ fun h7 => ?_
    · dsimp only [v5]
      with_reducible refine MemKeeps.record rfl ?_ ?_
      · exact MemKeeps.of_eq rfl rfl
      exact MemKeeps.refl _
    clear_value v5
    refine OutMemKeeps.have v6 ?_ fun h8 => ?_
    · refine MemKeeps.foldl ?_ fun q9 y10 h11 => ?_
      · exact h7
      · with_reducible refine MemKeeps.step (State.placeImage_mem _ _ _) ?_
        exact h11
    clear_value v6
    refine OutMemKeeps.ite ?_ ?_
    · refine OutMemKeeps.next ?_
      with_reducible refine MemKeeps.step (MemKeeps.ofSame (State.setReg_same _ _ _) (by decide)) ?_
      exact h7
    · refine OutMemKeeps.next ?_
      with_reducible refine MemKeeps.step (MemKeeps.ofSame (State.setReg_same _ _ _) (by decide)) ?_
      with_reducible refine MemKeeps.step (MemKeeps.ofSame (State.setReg_same _ _ _) (by decide)) ?_
      exact h8

theorem execPatternImageFree_mem (x1 : Fin 8) (x2 : State) :
    OutMemKeeps x2 (execPatternImageFree x1 x2) := by
  unfold execPatternImageFree
  extract_lets v0 v1 v2 v3 v4 v5 v6
  refine OutMemKeeps.have v4 ?_ fun h7 => ?_
  · with_reducible refine MemKeeps.step (MemKeeps.ofSame (State.setDie_same _ _ _) (by decide)) ?_
    exact MemKeeps.refl _
  clear_value v4
  refine OutMemKeeps.next ?_
  with_reducible refine MemKeeps.step (MemKeeps.ofSame (State.patternReport_same _ _) (by decide)) ?_
  with_reducible refine State.setStore_mem ?_ ?_
  · exact h7
  · exact fun h => foldl_wf _ (fun _ _ hm => wrZeros_wf hm _ _) _ (MemOk.store h _)

end Sys2Proof.Machine
end

