-- ==== Sys2Proof/Laws/MemRings.lean ====
section
/-! SUPPORT. The functions of Machine/Rings.lean keep the memories in canonical form. -/

namespace Sys2Proof.Machine

open Sys2Proof

theorem execLockInUpdate_mem (x1 : Fin 12) (x2 : Fin 1344) (x3 : Int) (x4 : State) :
    OutMemKeeps x4 (execLockInUpdate x1 x2 x3 x4) :=
  OutMemKeeps.ofSame (execLockInUpdate_same _ _ _ _) (by decide)

theorem execRingLockAchieved_mem (x1 : Fin 12) (x2 : Fin 1344) (x3 : Option (Fin 16384)) (x4 : Fin 16) (x5 : State) :
    OutMemKeeps x5 (execRingLockAchieved x1 x2 x3 x4 x5) :=
  OutMemKeeps.ofSame (execRingLockAchieved_same _ _ _ _ _) (by decide)

theorem execLaneCalibrationStart_mem (x1 : Fin 12) (x2 : Fin 96) (x3 : State) :
    OutMemKeeps x3 (execLaneCalibrationStart x1 x2 x3) :=
  OutMemKeeps.ofSame (execLaneCalibrationStart_same _ _ _) (by decide)

theorem execLaneCalibrationEnd_mem (x1 : Fin 12) (x2 : Fin 96) (x3 : List (Nat × Nat × Nat)) (x4 : State) :
    OutMemKeeps x4 (execLaneCalibrationEnd x1 x2 x3 x4) := by
  unfold execLaneCalibrationEnd
  extract_lets v0 v1 v2 v3 v4 v5
  refine OutMemKeeps.have v3 ?_ fun h6 => ?_
  · with_reducible refine MemKeeps.step (MemKeeps.ofSame (State.setLane_same _ _ _ _) (by decide)) ?_
    exact MemKeeps.refl _
  clear_value v3
  refine OutMemKeeps.have v4 ?_ fun h7 => ?_
  · with_reducible refine MemKeeps.step (MemKeeps.ofSame (State.applyTrims_same _ _ _) (by decide)) ?_
    exact h6
  clear_value v4
  refine OutMemKeeps.ite ?_ ?_
  · refine OutMemKeeps.next ?_
    exact MemKeeps.refl _
  · split
    · rename_i e8 e9
      refine OutMemKeeps.next ?_
      refine MemKeeps.ite ?_ ?_
      · with_reducible refine MemKeeps.step (MemKeeps.ofSame (State.calSettled_same _ _) (by decide)) ?_
        exact h7
      · refine MemKeeps.ite ?_ ?_
        · with_reducible refine MemKeeps.step (MemKeeps.ofSame (State.calSettled_same _ _) (by decide)) ?_
          with_reducible refine MemKeeps.step (MemKeeps.ofSame (State.setRegion_same _ _ _) (by decide)) ?_
          exact h7
        · with_reducible refine MemKeeps.step (State.startFullCal_mem _ _) ?_
          exact h7
    · rename_i e10 e11 e12
      extract_lets v13 v14 v15
      refine OutMemKeeps.have v13 ?_ fun h16 => ?_
      · refine MemKeeps.foldl ?_ fun q17 y18 h19 => ?_
        · exact MemKeeps.refl _
        · with_reducible refine MemKeeps.step (MemKeeps.ofSame (State.saveTrims_same _ _ _) (by decide)) ?_
          exact h19
      clear_value v13
      refine OutMemKeeps.have v14 ?_ fun h20 => ?_
      · refine MemKeeps.foldl ?_ fun q21 y22 h23 => ?_
        · exact h16
        · extract_lets v24
          refine MemKeeps.ite ?_ ?_
          · with_reducible refine MemKeeps.step (MemKeeps.ofSame (State.countRetrain_same _ _ _ _) (by decide)) ?_
            with_reducible refine MemKeeps.step (MemKeeps.ofSame (State.setPath_same _ _ _ _ _) (by decide)) ?_
            exact h23
          · exact h23
      clear_value v14
      refine OutMemKeeps.next ?_
      with_reducible refine MemKeeps.step (MemKeeps.ofSame (State.laneReturn_same _ _ _) (by decide)) ?_
      with_reducible refine MemKeeps.step (MemKeeps.ofSame (State.setLane_same _ _ _ _) (by decide)) ?_
      exact h20

theorem State.writeCalCommand_mem (x1 : State) (x2 : Nat) :
    MemKeeps x1 (State.writeCalCommand x1 x2) := by
  unfold State.writeCalCommand
  extract_lets v0 v1 v2 v3 v4
  refine MemKeeps.have v2 ?_ fun h5 => ?_
  · with_reducible refine MemKeeps.step (MemKeeps.ofSame (State.setReg_same _ _ _) (by decide)) ?_
    with_reducible refine MemKeeps.step (MemKeeps.ofSame (State.answer_same _ _) (by decide)) ?_
    exact MemKeeps.refl _
  clear_value v2
  refine MemKeeps.have v3 ?_ fun h6 => ?_
  · dsimp only [v3]
    with_reducible refine MemKeeps.record rfl ?_ ?_
    · exact MemKeeps.of_eq rfl rfl
    exact h5
  clear_value v3
  refine MemKeeps.ite ?_ ?_
  · exact h5
  · refine MemKeeps.ite ?_ ?_
    · with_reducible refine MemKeeps.step (State.startFullCal_mem _ _) ?_
      exact h6
    · with_reducible refine MemKeeps.step (MemKeeps.ofSame (State.scheduleSite_same _ _) (by decide)) ?_
      with_reducible refine MemKeeps.step (MemKeeps.ofSame (State.setRegion_same _ _ _) (by decide)) ?_
      exact h6

theorem execLaneCalibrationCommand_mem (x1 : State) :
    OutMemKeeps x1 (execLaneCalibrationCommand x1) := by
  unfold execLaneCalibrationCommand
  refine OutMemKeeps.next ?_
  with_reducible refine MemKeeps.step (State.writeCalCommand_mem _ _) ?_
  exact MemKeeps.refl _

theorem execFullCalibrationCommand_mem (x1 : State) :
    OutMemKeeps x1 (execFullCalibrationCommand x1) := by
  unfold execFullCalibrationCommand
  refine OutMemKeeps.next ?_
  with_reducible refine MemKeeps.step (State.writeCalCommand_mem _ _) ?_
  exact MemKeeps.refl _

theorem execRingSelect_mem (x1 : Fin 2) (x2 : Nat) (x3 : State) :
    OutMemKeeps x3 (execRingSelect x1 x2 x3) :=
  OutMemKeeps.ofSame (execRingSelect_same _ _ _) (by decide)

end Sys2Proof.Machine
end

