-- ==== Sys2Proof/Laws/MemPorts.lean ====
section
/-! SUPPORT. The functions of Machine/Ports.lean keep the memories in canonical form. -/

namespace Sys2Proof.Machine

open Sys2Proof

theorem execRingEnable_mem (x1 : Fin 2) (x2 : Fin 64) (x3 x4 : BitVec 16) (x5 : State) :
    OutMemKeeps x5 (execRingEnable x1 x2 x3 x4 x5) :=
  OutMemKeeps.ofSame (execRingEnable_same _ _ _ _ _) (by decide)

theorem execRingDisable_mem (x1 : Fin 2) (x2 : Fin 64) (x3 : State) :
    OutMemKeeps x3 (execRingDisable x1 x2 x3) :=
  OutMemKeeps.ofSame (execRingDisable_same _ _ _) (by decide)

theorem execConsumerIndexWrite_mem (x1 : Fin 2) (x2 : Fin 64) (x3 : BitVec 32) (x4 : State) :
    OutMemKeeps x4 (execConsumerIndexWrite x1 x2 x3 x4) :=
  OutMemKeeps.ofSame (execConsumerIndexWrite_same _ _ _ _) (by decide)

theorem execIrqHoldoffEnd_mem (x1 : Fin 2) (x2 : Fin 64) (x3 : State) :
    OutMemKeeps x3 (execIrqHoldoffEnd x1 x2 x3) :=
  OutMemKeeps.ofSame (execIrqHoldoffEnd_same _ _ _) (by decide)

theorem execBar2Write_mem (x1 : Fin 2) (x2 : State) :
    OutMemKeeps x2 (execBar2Write x1 x2) :=
  OutMemKeeps.ofSame (execBar2Write_same _ _) (by decide)

theorem execSqDisable_mem (x1 : Fin 2) (x2 : Fin 64) (x3 : State) :
    OutMemKeeps x3 (execSqDisable x1 x2 x3) :=
  OutMemKeeps.ofSame (execSqDisable_same _ _ _) (by decide)

theorem execSqDoorbell_mem (x1 : Fin 2) (x2 : Fin 64) (x3 : BitVec 64) (x4 : State) :
    OutMemKeeps x4 (execSqDoorbell x1 x2 x3 x4) :=
  OutMemKeeps.ofSame (execSqDoorbell_same _ _ _ _) (by decide)

theorem execPortEnable_mem (x1 : Fin 2) (x2 : BitVec 63) (x3 : State) :
    OutMemKeeps x3 (execPortEnable x1 x2 x3) :=
  OutMemKeeps.ofSame (execPortEnable_same _ _ _) (by decide)

theorem execPortDisable_mem (x1 : Fin 2) (x2 : BitVec 63) (x3 : State) :
    OutMemKeeps x3 (execPortDisable x1 x2 x3) :=
  OutMemKeeps.ofSame (execPortDisable_same _ _ _) (by decide)

theorem execLinkDown_mem (x1 : Fin 2) (x2 : State) :
    OutMemKeeps x2 (execLinkDown x1 x2) :=
  OutMemKeeps.ofSame (execLinkDown_same _ _) (by decide)

theorem execPerst_mem (x1 : Fin 2) (x2 : Bool) (x3 : State) :
    OutMemKeeps x3 (execPerst x1 x2 x3) :=
  OutMemKeeps.ofSame (execPerst_same _ _ _) (by decide)

theorem execHostLinkUp_mem (x1 : Fin 2) (x2 : State) :
    OutMemKeeps x2 (execHostLinkUp x1 x2) :=
  OutMemKeeps.ofSame (execHostLinkUp_same _ _) (by decide)

theorem execWaitLimitExpiry_mem (x1 : Fin 16384) (x2 : State) :
    OutMemKeeps x2 (execWaitLimitExpiry x1 x2) :=
  OutMemKeeps.ofSame (execWaitLimitExpiry_same _ _) (by decide)

end Sys2Proof.Machine
end

