-- ==== Sys2Proof/Laws/MemStreams.lean ====
section
/-! SUPPORT. The functions of Machine/Streams.lean keep the memories in canonical form. -/

namespace Sys2Proof.Machine

open Sys2Proof

theorem execSqFetch_mem (x1 : State) :
    OutMemKeeps x1 (execSqFetch x1) :=
  OutMemKeeps.ofSame (execSqFetch_same _) (by decide)

theorem State.runCmd_mem {s0 s : State} {p op : Nat} {effect : State → Taken → State}
    (h : MemKeeps s0 s) (he : ∀ t, MemKeeps s0 (effect s t)) : MemKeeps s0 (s.runCmd p op effect) := by
  unfold State.runCmd
  split
  · exact h
  · refine MemKeeps.trans ?_ (MemKeeps.ofSame (State.finishLeave_same _ _) (by decide))
    split
    · split
      · exact h.trans (MemKeeps.ofSame (State.defer_same _ _ _ _ _) (by decide))
      · exact h.trans (MemKeeps.ofSame (State.finishCmd_same _ _ _ _ _) (by decide))
    · exact he _

theorem State.place1_mem (x1 : State) (x2 : Nat) (x3 : List Byte) (x4 : Taken) :
    MemKeeps x1 (State.place1 x1 x2 x3 x4) := by
  unfold State.place1
  extract_lets v0 v1 v2 v3 v4 v5 v6 v7 v8 v9 v10 v11 v12 v13 v14 v15 v16 v17
  refine MemKeeps.have v14 ?_ fun h18 => ?_
  · refine MemKeeps.ite ?_ ?_
    · exact MemKeeps.refl _
    · with_reducible refine MemKeeps.step (State.hubWrite_mem _ _ _ _ _) ?_
      exact MemKeeps.refl _
  clear_value v14
  refine MemKeeps.have v15 ?_ fun h19 => ?_
  · with_reducible refine MemKeeps.step (State.hubWrite_mem _ _ _ _ _) ?_
    exact h18
  clear_value v15
  refine MemKeeps.have v17 ?_ fun h20 => ?_
  · with_reducible refine MemKeeps.step (MemKeeps.ofSame (State.setStream_same _ _ _) (by decide)) ?_
    exact h19
  clear_value v17
  refine MemKeeps.ite ?_ ?_
  · with_reducible refine MemKeeps.step (MemKeeps.ofSame (State.finishCmd_same _ _ _ _ _) (by decide)) ?_
    exact MemKeeps.refl _
  · refine MemKeeps.ite ?_ ?_
    · with_reducible refine MemKeeps.step (MemKeeps.ofSame (State.finishCmd_same _ _ _ _ _) (by decide)) ?_
      exact MemKeeps.refl _
    · with_reducible refine MemKeeps.step (MemKeeps.ofSame (State.finishCmd_same _ _ _ _ _) (by decide)) ?_
      with_reducible refine MemKeeps.step (MemKeeps.ofSame (State.bump_same _ _) (by decide)) ?_
      exact h20

theorem execIngress_mem (x1 : Fin 2) (x2 : List Byte) (x3 : State) :
    OutMemKeeps x3 (execIngress x1 x2 x3) := by
  unfold execIngress
  refine OutMemKeeps.next ?_
  with_reducible refine State.runCmd_mem ?_ ?_
  · exact MemKeeps.refl _
  · intro y0
    with_reducible refine MemKeeps.step (State.place1_mem _ _ _ _) ?_
    exact MemKeeps.refl _

theorem execOpenStream_mem (x1 : Fin 2) (x2 : State) :
    OutMemKeeps x2 (execOpenStream x1 x2) := by
  unfold execOpenStream
  refine OutMemKeeps.next ?_
  with_reducible refine State.runCmd_mem ?_ ?_
  · exact MemKeeps.refl _
  · intro y0
    extract_lets v1 v2 v3 v4 v5
    refine MemKeeps.ite ?_ ?_
    · with_reducible refine MemKeeps.step (MemKeeps.ofSame (State.finishCmd_same _ _ _ _ _) (by decide)) ?_
      exact MemKeeps.refl _
    · with_reducible refine MemKeeps.step (MemKeeps.ofSame (State.signal_same _ _) (by decide)) ?_
      with_reducible refine MemKeeps.step (MemKeeps.ofSame (State.finishCmd_same _ _ _ _ _) (by decide)) ?_
      with_reducible refine MemKeeps.step (MemKeeps.ofSame (State.setStream_same _ _ _) (by decide)) ?_
      with_reducible refine MemKeeps.step (State.recWrote_mem _ _ _ _ _) ?_
      with_reducible refine MemKeeps.step (State.recWrote_mem _ _ _ _ _) ?_
      exact MemKeeps.refl _

theorem execCloseStream_mem (x1 : Fin 2) (x2 : State) :
    OutMemKeeps x2 (execCloseStream x1 x2) :=
  OutMemKeeps.ofSame (execCloseStream_same _ _) (by decide)

theorem State.onRecord_mem (x1 : State) (x2 : Nat) (x3 : List Byte) (x4 : Taken) :
    MemKeeps x1 (State.onRecord x1 x2 x3 x4) := by
  unfold State.onRecord
  extract_lets v0 v1
  refine MemKeeps.ite ?_ ?_
  · with_reducible refine MemKeeps.step (MemKeeps.ofSame (State.defer_same _ _ _ _ _) (by decide)) ?_
    exact MemKeeps.refl _
  · with_reducible refine MemKeeps.step (State.applyDeferred_mem _ _) ?_
    exact MemKeeps.refl _

theorem execSampling_mem (x1 : Fin 2) (x2 : State) :
    OutMemKeeps x2 (execSampling x1 x2) := by
  unfold execSampling
  refine OutMemKeeps.next ?_
  with_reducible refine State.runCmd_mem ?_ ?_
  · exact MemKeeps.refl _
  · intro y0
    with_reducible refine MemKeeps.step (State.onRecord_mem _ _ _ _) ?_
    exact MemKeeps.refl _

theorem execStatewrite_mem (x1 : Fin 2) (x2 : List Byte) (x3 : State) :
    OutMemKeeps x3 (execStatewrite x1 x2 x3) := by
  unfold execStatewrite
  refine OutMemKeeps.next ?_
  with_reducible refine State.runCmd_mem ?_ ?_
  · exact MemKeeps.refl _
  · intro y0
    refine MemKeeps.ite ?_ ?_
    · with_reducible refine MemKeeps.step (MemKeeps.ofSame (State.finishCmd_same _ _ _ _ _) (by decide)) ?_
      exact MemKeeps.refl _
    · with_reducible refine MemKeeps.step (State.onRecord_mem _ _ _ _) ?_
      exact MemKeeps.refl _

theorem execStateread_mem (x1 : Fin 2) (x2 : State) :
    OutMemKeeps x2 (execStateread x1 x2) := by
  unfold execStateread
  refine OutMemKeeps.next ?_
  with_reducible refine State.runCmd_mem ?_ ?_
  · exact MemKeeps.refl _
  · intro y0
    refine MemKeeps.ite ?_ ?_
    · with_reducible refine MemKeeps.step (MemKeeps.ofSame (State.finishCmd_same _ _ _ _ _) (by decide)) ?_
      exact MemKeeps.refl _
    · with_reducible refine MemKeeps.step (State.onRecord_mem _ _ _ _) ?_
      exact MemKeeps.refl _

theorem execMemwrite_mem (x1 : Fin 2) (x2 : List Byte) (x3 : State) :
    OutMemKeeps x3 (execMemwrite x1 x2 x3) := by
  unfold execMemwrite
  refine OutMemKeeps.next ?_
  with_reducible refine State.runCmd_mem ?_ ?_
  · exact MemKeeps.refl _
  · intro y0
    extract_lets v1 v2 v3
    refine MemKeeps.ite ?_ ?_
    · with_reducible refine MemKeeps.step (MemKeeps.ofSame (State.finishCmd_same _ _ _ _ _) (by decide)) ?_
      exact MemKeeps.refl _
    · with_reducible refine MemKeeps.step (MemKeeps.ofSame (State.finishCmd_same _ _ _ _ _) (by decide)) ?_
      with_reducible refine MemKeeps.step (State.hubWrite_mem _ _ _ _ _) ?_
      exact MemKeeps.refl _

theorem execMemread_mem (x1 : Fin 2) (x2 : State) :
    OutMemKeeps x2 (execMemread x1 x2) := by
  unfold execMemread
  refine OutMemKeeps.next ?_
  with_reducible refine State.runCmd_mem ?_ ?_
  · exact MemKeeps.refl _
  · intro y0
    extract_lets v1 v2 v3 v4 v5 v6
    refine MemKeeps.have v6 ?_ fun h7 => ?_
    · with_reducible refine MemKeeps.step (State.wake_mem _ _ _) ?_
      exact MemKeeps.refl _
    clear_value v6
    refine MemKeeps.ite ?_ ?_
    · with_reducible refine MemKeeps.step (MemKeeps.ofSame (State.finishCmd_same _ _ _ _ _) (by decide)) ?_
      exact MemKeeps.refl _
    · split
      · rename_i e8 e9 e10
        with_reducible refine MemKeeps.step (MemKeeps.ofSame (State.finishCmd_same _ _ _ _ _) (by decide)) ?_
        dsimp only [v5]
        with_reducible refine MemKeeps.record rfl ?_ ?_
        · exact MemKeeps.hostUpd rfl fun h => wrBytes_wf _ h _
        exact h7
      · rename_i e11 e12
        with_reducible refine MemKeeps.step (MemKeeps.ofSame (State.finishCmd_same _ _ _ _ _) (by decide)) ?_
        dsimp only [v5]
        with_reducible refine MemKeeps.record rfl ?_ ?_
        · exact MemKeeps.hostUpd rfl fun h => wrBytes_wf _ h _
        exact h7

theorem execRebind_mem (x1 : Fin 2) (x2 : State) :
    OutMemKeeps x2 (execRebind x1 x2) :=
  OutMemKeeps.ofSame (execRebind_same _ _) (by decide)

theorem execCommandCompletion_mem (x1 : Fin 2) (x2 : State) :
    OutMemKeeps x2 (execCommandCompletion x1 x2) :=
  OutMemKeeps.ofSame (execCommandCompletion_same _ _) (by decide)

end Sys2Proof.Machine
end

