-- ==== Sys2Proof/Laws/MemTier.lean ====
section
/-! SUPPORT. The functions of Machine/Tier.lean keep the memories in canonical form. -/

namespace Sys2Proof.Machine

open Sys2Proof

theorem execPresenceDetect_mem (x1 : Fin 16) (x2 : State) :
    OutMemKeeps x2 (execPresenceDetect x1 x2) :=
  OutMemKeeps.ofSame (execPresenceDetect_same _ _) (by decide)

theorem execPresenceRemoved_mem (x1 : Fin 16) (x2 : State) :
    OutMemKeeps x2 (execPresenceRemoved x1 x2) := by
  unfold execPresenceRemoved
  extract_lets v0 v1 v2 v3
  refine OutMemKeeps.have v2 ?_ fun h4 => ?_
  · with_reducible refine MemKeeps.step (MemKeeps.ofSame (State.setChan_same _ _ _) (by decide)) ?_
    exact MemKeeps.refl _
  clear_value v2
  split
  · rename_i e5 e6
    refine OutMemKeeps.next ?_
    exact h4
  · rename_i e7 e8
    refine OutMemKeeps.next ?_
    with_reducible refine MemKeeps.step (MemKeeps.ofSame (State.setChan_same _ _ _) (by decide)) ?_
    exact h4
  · rename_i e9 e10 e11
    refine OutMemKeeps.next ?_
    with_reducible refine MemKeeps.step (State.channelFail_mem _ _) ?_
    exact h4

theorem execSpdRead_mem (x1 : Fin 16) (x2 : Spd) (x3 : State) :
    OutMemKeeps x3 (execSpdRead x1 x2 x3) :=
  OutMemKeeps.ofSame (execSpdRead_same _ _ _) (by decide)

theorem State.channelIn_mem (x1 : State) (x2 : Nat) :
    MemKeeps x1 (State.channelIn x1 x2) := by
  unfold State.channelIn
  extract_lets v0 v1 v2 v3 v4
  refine MemKeeps.have v2 ?_ fun h5 => ?_
  · with_reducible refine MemKeeps.step (MemKeeps.ofSame (State.setChan_same _ _ _) (by decide)) ?_
    exact MemKeeps.refl _
  clear_value v2
  refine MemKeeps.have v3 ?_ fun h6 => ?_
  · dsimp only [v3]
    with_reducible refine MemKeeps.record rfl ?_ ?_
    · exact MemKeeps.of_eq rfl rfl
    exact h5
  clear_value v3
  with_reducible refine MemKeeps.step (MemKeeps.ofSame (State.setReg_same _ _ _) (by decide)) ?_
  with_reducible refine State.setStore_mem ?_ ?_
  · exact h6
  · exact fun _ => rfl

theorem execChannelTrainingEnd_mem (x1 : Fin 16) (x2 : Bool) (x3 : State) :
    OutMemKeeps x3 (execChannelTrainingEnd x1 x2 x3) := by
  unfold execChannelTrainingEnd
  refine OutMemKeeps.ite ?_ ?_
  · refine OutMemKeeps.next ?_
    refine MemKeeps.ite ?_ ?_
    · with_reducible refine MemKeeps.step (State.channelIn_mem _ _) ?_
      exact MemKeeps.refl _
    · with_reducible refine MemKeeps.step (State.channelFail_mem _ _) ?_
      exact MemKeeps.refl _
  · refine OutMemKeeps.next ?_
    exact MemKeeps.refl _

theorem execI3cBusLoss_mem (x1 : Fin 16) (x2 : State) :
    OutMemKeeps x2 (execI3cBusLoss x1 x2) := by
  unfold execI3cBusLoss
  split
  · rename_i e0 e1
    refine OutMemKeeps.next ?_
    with_reducible refine MemKeeps.step (State.channelFail_mem _ _) ?_
    exact MemKeeps.refl _
  · rename_i e2 e3
    refine OutMemKeeps.next ?_
    with_reducible refine MemKeeps.step (State.channelFail_mem _ _) ?_
    exact MemKeeps.refl _
  · rename_i e4 e5
    refine OutMemKeeps.next ?_
    with_reducible refine MemKeeps.step (State.channelFail_mem _ _) ?_
    exact MemKeeps.refl _
  · rename_i e6 e7
    refine OutMemKeeps.next ?_
    with_reducible refine MemKeeps.step (State.channelFail_mem _ _) ?_
    exact MemKeeps.refl _
  · rename_i e8 e9 e10 e11 e12
    refine OutMemKeeps.next ?_
    exact MemKeeps.refl _

theorem execPowerEnableOff_mem (x1 : Fin 16) (x2 : State) :
    OutMemKeeps x2 (execPowerEnableOff x1 x2) :=
  OutMemKeeps.ofSame (execPowerEnableOff_same _ _) (by decide)

theorem execChannelSelfRefresh_mem (x1 : Fin 16) (x2 : State) :
    OutMemKeeps x2 (execChannelSelfRefresh x1 x2) := by
  unfold execChannelSelfRefresh
  extract_lets v0 v1
  refine OutMemKeeps.next ?_
  with_reducible refine when_mem ?_ ?_
  · with_reducible refine State.setStore_mem ?_ ?_
    · exact MemKeeps.refl _
    · exact fun h => MemOk.store h _
  · exact MemKeeps.refl _

theorem State.channelDrain_mem (x1 : State) :
    MemKeeps x1 (State.channelDrain x1) := by
  unfold State.channelDrain
  extract_lets v0 v1
  split
  · rename_i e2 e3
    with_reducible refine MemKeeps.step (State.feedDrain_mem _ _ _) ?_
    with_reducible refine MemKeeps.step (MemKeeps.ofSame (State.answer_same _ _) (by decide)) ?_
    with_reducible refine MemKeeps.step (MemKeeps.ofSame (State.setReg_same _ _ _) (by decide)) ?_
    with_reducible refine MemKeeps.step (MemKeeps.ofSame (State.addReg_same _ _ _) (by decide)) ?_
    with_reducible refine MemKeeps.step (MemKeeps.ofSame (State.setChan_same _ _ _) (by decide)) ?_
    exact MemKeeps.refl _
  · rename_i e4 e5
    with_reducible refine MemKeeps.step (MemKeeps.ofSame (State.channelStatus_same _ _) (by decide)) ?_
    exact MemKeeps.refl _

theorem execChannelDrain_mem (x1 : State) :
    OutMemKeeps x1 (execChannelDrain x1) := by
  unfold execChannelDrain
  refine OutMemKeeps.next ?_
  with_reducible refine MemKeeps.step (State.channelDrain_mem _) ?_
  exact MemKeeps.refl _

theorem execDiscover_mem (x1 : State) :
    OutMemKeeps x1 (execDiscover x1) :=
  OutMemKeeps.ofSame (execDiscover_same _) (by decide)

theorem writeChannelCommand_mem (x1 : Nat) (x2 : State) :
    MemKeeps x2 (writeChannelCommand x1 x2) := by
  unfold writeChannelCommand
  refine MemKeeps.ite ?_ ?_
  · with_reducible refine MemKeeps.step (State.channelDrain_mem _) ?_
    exact MemKeeps.refl _
  · refine MemKeeps.ite ?_ ?_
    · with_reducible refine MemKeeps.step (MemKeeps.ofSame (State.channelDiscover_same _) (by decide)) ?_
      exact MemKeeps.refl _
    · with_reducible refine MemKeeps.step (MemKeeps.ofSame (State.channelStatus_same _ _) (by decide)) ?_
      exact MemKeeps.refl _

theorem execDrainComplete_mem (x1 : Fin 16) (x2 : State) :
    OutMemKeeps x2 (execDrainComplete x1 x2) := by
  unfold execDrainComplete
  extract_lets v0 v1 v2 v3 v4
  refine OutMemKeeps.have v3 ?_ fun h5 => ?_
  · with_reducible refine MemKeeps.step (MemKeeps.ofSame (State.setChan_same _ _ _) (by decide)) ?_
    exact MemKeeps.refl _
  clear_value v3
  refine OutMemKeeps.ite ?_ ?_
  · refine OutMemKeeps.next ?_
    with_reducible refine MemKeeps.step (MemKeeps.ofSame (State.drainOutcome_same _ _ _) (by decide)) ?_
    with_reducible refine State.setStore_mem ?_ ?_
    · exact h5
    · exact fun h => MemOk.store h _
  · refine OutMemKeeps.next ?_
    exact MemKeeps.refl _

theorem execStagingQueueDoorbell_mem (x1 : Fin 2) (x2 : Nat) (x3 : State) :
    OutMemKeeps x3 (execStagingQueueDoorbell x1 x2 x3) :=
  OutMemKeeps.ofSame (execStagingQueueDoorbell_same _ _ _) (by decide)

theorem execStagein_mem (x1 : List MemError) (x2 : State) :
    OutMemKeeps x2 (execStagein x1 x2) := by
  unfold execStagein
  refine OutMemKeeps.next ?_
  with_reducible refine MemKeeps.step (State.memErrors_mem _ _) ?_
  with_reducible refine MemKeeps.step (MemKeeps.ofSame (State.takeStaging_same _ _) (by decide)) ?_
  exact MemKeeps.refl _

theorem execStageout_mem (x1 : List MemError) (x2 : State) :
    OutMemKeeps x2 (execStageout x1 x2) := by
  unfold execStageout
  refine OutMemKeeps.next ?_
  with_reducible refine MemKeeps.step (State.memErrors_mem _ _) ?_
  with_reducible refine MemKeeps.step (MemKeeps.ofSame (State.takeStaging_same _ _) (by decide)) ?_
  exact MemKeeps.refl _

theorem State.stageMove_mem (x1 : State) (x2 x3 : Nat × Nat) :
    MemKeeps x1 (State.stageMove x1 x2 x3) := by
  unfold State.stageMove
  refine MemKeeps.ite ?_ ?_
  · exact MemKeeps.refl _
  · extract_lets v0 v1
    refine MemKeeps.have v0 ?_ fun h2 => ?_
    · with_reducible refine MemKeeps.step (State.moveBytes_mem _ _ _ _ _ _) ?_
      exact MemKeeps.refl _
    clear_value v0
    refine MemKeeps.have v1 ?_ fun h3 => ?_
    · dsimp only [v1]
      split
      · rename_i e4 e5 e6
        refine MemKeeps.ite ?_ ?_
        · with_reducible refine MemKeeps.step (MemKeeps.ofSame (State.setMig_same _ _ _) (by decide)) ?_
          exact h2
        · exact h2
      · rename_i e7 e8
        exact h2
    clear_value v1
    with_reducible refine MemKeeps.step (State.marked_mem _ _ _) ?_
    exact h3

theorem State.stageCopy_mem (x1 : State) (x2 : StageCmd) :
    MemKeeps x1 (State.stageCopy x1 x2).1 := by
  unfold State.stageCopy
  extract_lets v0 v1 v2
  refine MemKeeps.have v1 ?_ fun h3 => ?_
  · refine MemKeeps.foldl ?_ fun q4 y5 h6 => ?_
    · exact MemKeeps.refl _
    · refine MemKeeps.foldl ?_ fun q7 y8 h9 => ?_
      · exact h6
      · with_reducible refine MemKeeps.step (State.stageMove_mem _ _ _) ?_
        exact h9
  clear_value v1
  refine MemKeeps.have v2 ?_ fun h10 => ?_
  · with_reducible refine MemKeeps.step (MemKeeps.ofSame (State.addReg_same _ _ _) (by decide)) ?_
    with_reducible refine MemKeeps.step (MemKeeps.ofSame (State.addReg_same _ _ _) (by decide)) ?_
    exact h3
  clear_value v2
  refine MemKeeps.iteFst ?_ ?_
  · dsimp only
    exact h3
  · refine MemKeeps.iteFst ?_ ?_
    · dsimp only
      with_reducible refine MemKeeps.step (MemKeeps.ofSame (State.bump_same _ _) (by decide)) ?_
      exact h10
    · dsimp only
      exact h10

theorem execStagingComplete_mem (x1 : Nat) (x2 : State) :
    OutMemKeeps x2 (execStagingComplete x1 x2) := by
  unfold execStagingComplete
  split
  · rename_i e0 e1
    refine OutMemKeeps.next ?_
    with_reducible refine MemKeeps.step (MemKeeps.ofSame (State.takeStaging_same _ _) (by decide)) ?_
    exact MemKeeps.refl _
  · rename_i e2 e3 e4
    extract_lets v5
    refine OutMemKeeps.have v5 ?_ fun h6 => ?_
    · with_reducible refine MemKeeps.step (MemKeeps.ofSame (State.setStaging_same _ _) (by decide)) ?_
      exact MemKeeps.refl _
    clear_value v5
    split
    · rename_i e7 e8 e9
      refine OutMemKeeps.next ?_
      with_reducible refine MemKeeps.step (State.feedDrains_mem _) ?_
      with_reducible refine MemKeeps.step (MemKeeps.ofSame (State.finishStaging_same _ _ _) (by decide)) ?_
      exact h6
    · rename_i e10 e11
      refine OutMemKeeps.ite ?_ ?_
      · refine OutMemKeeps.next ?_
        exact MemKeeps.refl _
      · split
        · rename_i e12 e13
          refine OutMemKeeps.next ?_
          exact MemKeeps.refl _
        · rename_i e14 e15 e16
          split
          rename_i e17 e18 e19 e20
          refine OutMemKeeps.next ?_
          with_reducible refine MemKeeps.step (State.feedDrains_mem _) ?_
          with_reducible refine MemKeeps.step (MemKeeps.ofSame (State.finishStaging_same _ _ _) (by decide)) ?_
          refine MemKeeps.fstOf e20 ?_
          with_reducible refine MemKeeps.step (State.stageCopy_mem _ _) ?_
          with_reducible refine MemKeeps.step (MemKeeps.ofSame (State.setStaging_same _ _) (by decide)) ?_
          exact MemKeeps.refl _

end Sys2Proof.Machine
end

