-- ==== Sys2Proof/Laws/MemPower.lean ====
section
/-! SUPPORT. The functions of Machine/Power.lean keep the memories in canonical form. -/

namespace Sys2Proof.Machine

open Sys2Proof

theorem execOscillatorLoss_mem (x1 : Fin 2) (x2 : State) :
    OutMemKeeps x2 (execOscillatorLoss x1 x2) :=
  OutMemKeeps.ofSame (execOscillatorLoss_same _ _) (by decide)

theorem execOscillatorSwitch_mem (x1 : State) :
    OutMemKeeps x1 (execOscillatorSwitch x1) :=
  OutMemKeeps.ofSame (execOscillatorSwitch_same _) (by decide)

theorem execOscillatorReturn_mem (x1 : Fin 2) (x2 : State) :
    OutMemKeeps x2 (execOscillatorReturn x1 x2) :=
  OutMemKeeps.ofSame (execOscillatorReturn_same _ _) (by decide)

theorem execDroopStretch_mem (x1 : Fin 54) (x2 : Fin 8) (x3 : State) :
    OutMemKeeps x3 (execDroopStretch x1 x2 x3) :=
  OutMemKeeps.ofSame (execDroopStretch_same _ _ _) (by decide)

theorem execSyncPulse_mem (x1 : List (Fin 73 × Int)) (x2 : State) :
    OutMemKeeps x2 (execSyncPulse x1 x2) :=
  OutMemKeeps.ofSame (execSyncPulse_same _ _) (by decide)

theorem execDieOperatingPointWrite_mem (x1 : Fin 8) (x2 : Nat) (x3 : State) :
    OutMemKeeps x3 (execDieOperatingPointWrite x1 x2 x3) :=
  OutMemKeeps.ofSame (execDieOperatingPointWrite_same _ _ _) (by decide)

theorem execVcoreRampStart_mem (x1 : Fin 8) (x2 : State) :
    OutMemKeeps x2 (execVcoreRampStart x1 x2) :=
  OutMemKeeps.ofSame (execVcoreRampStart_same _ _) (by decide)

theorem execVcoreSettleCheck_mem (x1 : Fin 8) (x2 : Bool) (x3 : State) :
    OutMemKeeps x3 (execVcoreSettleCheck x1 x2 x3) :=
  OutMemKeeps.ofSame (execVcoreSettleCheck_same _ _ _) (by decide)

theorem State.dieTrip_mem (x1 : State) (x2 : Nat) :
    MemKeeps x1 (State.dieTrip x1 x2) := by
  unfold State.dieTrip
  extract_lets v0 v1 v2 v3 v4 v5 v6 v7 v8 v9 v10
  refine MemKeeps.have v1 ?_ fun h11 => ?_
  · with_reducible refine MemKeeps.step (State.discardDie_mem _ _ _) ?_
    exact MemKeeps.refl _
  clear_value v1
  refine MemKeeps.have v2 ?_ fun h12 => ?_
  · with_reducible refine MemKeeps.step (MemKeeps.ofSame (State.dropSlices_same _ _) (by decide)) ?_
    with_reducible refine MemKeeps.step (MemKeeps.ofSame (State.clearCores_same _ _) (by decide)) ?_
    exact h11
  clear_value v2
  refine MemKeeps.have v4 ?_ fun h13 => ?_
  · with_reducible refine MemKeeps.step (MemKeeps.ofSame (State.setDie_same _ _ _) (by decide)) ?_
    exact h12
  clear_value v4
  refine MemKeeps.have v7 ?_ fun h14 => ?_
  · with_reducible refine MemKeeps.step (MemKeeps.ofSame (State.setThermal_same _ _ _) (by decide)) ?_
    exact h13
  clear_value v7
  refine MemKeeps.have v9 ?_ fun h15 => ?_
  · dsimp only [v9]
    with_reducible refine MemKeeps.record rfl ?_ ?_
    · exact MemKeeps.of_eq rfl rfl
    exact h14
  clear_value v9
  refine MemKeeps.have v10 ?_ fun h16 => ?_
  · with_reducible refine MemKeeps.step (MemKeeps.ofSame (State.trace_same _ _ _ _ _ _ _) (by decide)) ?_
    exact h15
  clear_value v10
  refine MemKeeps.ite ?_ ?_
  · exact MemKeeps.refl _
  · with_reducible refine MemKeeps.step (MemKeeps.ofSame (State.dropFresh_same _) (by decide)) ?_
    with_reducible refine MemKeeps.step (MemKeeps.ofSame (State.reportSite_same _ _) (by decide)) ?_
    with_reducible refine MemKeeps.step (MemKeeps.ofSame (State.bump_same _ _) (by decide)) ?_
    exact h16

theorem State.cold_mem (s : State) : MemKeeps s s.cold := by
  unfold State.cold
  exact ⟨fun h => ⟨by simp [State.reset], h.host⟩⟩

theorem State.faultOff_mem (x1 : State) (x2 : FaultOff) :
    MemKeeps x1 (State.faultOff x1 x2) := by
  unfold State.faultOff
  refine MemKeeps.ite ?_ ?_
  · exact MemKeeps.refl _
  · extract_lets v0 v1
    refine MemKeeps.have v0 ?_ fun h2 => ?_
    · with_reducible refine MemKeeps.step (State.cold_mem _) ?_
      exact MemKeeps.refl _
    clear_value v0
    refine MemKeeps.have v1 ?_ fun h3 => ?_
    · with_reducible refine MemKeeps.step (MemKeeps.ofSame (State.setReg_same _ _ _) (by decide)) ?_
      with_reducible refine MemKeeps.step (MemKeeps.ofSame (State.setPw_same _ _) (by decide)) ?_
      exact h2
    clear_value v1
    refine MemKeeps.ite ?_ ?_
    · with_reducible refine MemKeeps.step (MemKeeps.ofSame (State.setReg_same _ _ _) (by decide)) ?_
      exact h3
    · exact h3

theorem State.regionTrip_mem (x1 : State) (x2 : Nat) :
    MemKeeps x1 (State.regionTrip x1 x2) := by
  unfold State.regionTrip
  refine MemKeeps.ite ?_ ?_
  · with_reducible refine MemKeeps.step (State.faultOff_mem _ _) ?_
    exact MemKeeps.refl _
  · refine MemKeeps.ite ?_ ?_
    · exact MemKeeps.refl _
    · extract_lets v0 v1 v2 v3 v4
      refine MemKeeps.have v1 ?_ fun h5 => ?_
      · with_reducible refine MemKeeps.step (MemKeeps.ofSame (State.setThermal_same _ _ _) (by decide)) ?_
        exact MemKeeps.refl _
      clear_value v1
      refine MemKeeps.have v2 ?_ fun h6 => ?_
      · refine MemKeeps.ite ?_ ?_
        · with_reducible refine MemKeeps.step (State.startReset_mem _ _) ?_
          exact h5
        · exact h5
      clear_value v2
      refine MemKeeps.have v3 ?_ fun h7 => ?_
      · with_reducible refine MemKeeps.step (MemKeeps.ofSame (State.siteRingMap_same _ _ _) (by decide)) ?_
        exact h6
      clear_value v3
      with_reducible refine MemKeeps.step (MemKeeps.ofSame (State.bump_same _ _) (by decide)) ?_
      with_reducible refine MemKeeps.step (MemKeeps.ofSame (State.setRegion_same _ _ _) (by decide)) ?_
      exact h7

theorem execHousekeepingMissed_mem (x1 : List (Fin 8)) (x2 : Bool) (x3 : State) :
    OutMemKeeps x3 (execHousekeepingMissed x1 x2 x3) := by
  unfold execHousekeepingMissed
  extract_lets v0
  refine OutMemKeeps.have v0 ?_ fun h1 => ?_
  · refine MemKeeps.foldl ?_ fun q2 y3 h4 => ?_
    · exact MemKeeps.refl _
    · refine MemKeeps.ite ?_ ?_
      · with_reducible refine MemKeeps.step (State.dieTrip_mem _ _) ?_
        exact h4
      · exact h4
  clear_value v0
  refine OutMemKeeps.next ?_
  refine MemKeeps.ite ?_ ?_
  · with_reducible refine MemKeeps.step (State.faultOff_mem _ _) ?_
    exact h1
  · exact h1

theorem execDieRestart_mem (x1 : Fin 8) (x2 : State) :
    OutMemKeeps x2 (execDieRestart x1 x2) :=
  OutMemKeeps.ofSame (execDieRestart_same _ _) (by decide)

theorem execRingRegionRestart_mem (x1 : Fin 12) (x2 : State) :
    OutMemKeeps x2 (execRingRegionRestart x1 x2) :=
  OutMemKeeps.ofSame (execRingRegionRestart_same _ _) (by decide)

theorem execThermalTripClear_mem (x1 : Nat) (x2 : State) :
    OutMemKeeps x2 (execThermalTripClear x1 x2) :=
  OutMemKeeps.ofSame (execThermalTripClear_same _ _) (by decide)

theorem execClockFault_mem (x1 : State) :
    OutMemKeeps x1 (execClockFault x1) := by
  unfold execClockFault
  extract_lets v0
  refine OutMemKeeps.next ?_
  with_reducible refine when_mem ?_ ?_
  · with_reducible refine MemKeeps.step (State.faultOff_mem _ _) ?_
    with_reducible refine MemKeeps.step (MemKeeps.ofSame (State.stick_same _ _ _) (by decide)) ?_
    exact MemKeeps.refl _
  · exact MemKeeps.refl _

theorem execInputLow_mem (x1 : State) :
    OutMemKeeps x1 (execInputLow x1) :=
  OutMemKeeps.ofSame (execInputLow_same _) (by decide)

theorem execInputUndervoltage_mem (x1 : State) :
    OutMemKeeps x1 (execInputUndervoltage x1) := by
  unfold execInputUndervoltage
  refine OutMemKeeps.next ?_
  with_reducible refine MemKeeps.step (State.faultOff_mem _ _) ?_
  exact MemKeeps.refl _

theorem execInputOvervoltage_mem (x1 : State) :
    OutMemKeeps x1 (execInputOvervoltage x1) := by
  unfold execInputOvervoltage
  refine OutMemKeeps.next ?_
  with_reducible refine MemKeeps.step (State.faultOff_mem _ _) ?_
  exact MemKeeps.refl _

theorem execRailFault_mem (x1 : State) :
    OutMemKeeps x1 (execRailFault x1) := by
  unfold execRailFault
  refine OutMemKeeps.next ?_
  with_reducible refine MemKeeps.step (State.faultOff_mem _ _) ?_
  exact MemKeeps.refl _

theorem State.startBringUp_mem (x1 : State) :
    MemKeeps x1 (State.startBringUp x1) := by
  unfold State.startBringUp
  with_reducible refine MemKeeps.step (MemKeeps.ofSame (State.setReg_same _ _ _) (by decide)) ?_
  with_reducible refine MemKeeps.step (State.cold_mem _) ?_
  exact MemKeeps.refl _

theorem execInputRestored_mem (x1 : State) :
    OutMemKeeps x1 (execInputRestored x1) := by
  unfold execInputRestored
  refine OutMemKeeps.ite ?_ ?_
  · refine OutMemKeeps.next ?_
    with_reducible refine when_mem ?_ ?_
    · with_reducible refine MemKeeps.step (State.startBringUp_mem _) ?_
      exact MemKeeps.refl _
    · exact MemKeeps.refl _
  · refine OutMemKeeps.next ?_
    with_reducible refine MemKeeps.step (MemKeeps.ofSame (State.setPw_same _ _) (by decide)) ?_
    exact MemKeeps.refl _

theorem execFaultOffRestart_mem (x1 : State) :
    OutMemKeeps x1 (execFaultOffRestart x1) := by
  unfold execFaultOffRestart
  refine OutMemKeeps.next ?_
  with_reducible refine when_mem ?_ ?_
  · with_reducible refine MemKeeps.step (State.startBringUp_mem _) ?_
    exact MemKeeps.refl _
  · exact MemKeeps.refl _

theorem execPowerApplied_mem (x1 : State) :
    OutMemKeeps x1 (execPowerApplied x1) := by
  unfold execPowerApplied
  refine OutMemKeeps.next ?_
  with_reducible refine when_mem ?_ ?_
  · with_reducible refine MemKeeps.step (State.startBringUp_mem _) ?_
    exact MemKeeps.refl _
  · exact MemKeeps.refl _

theorem State.saveForRetention_mem (x1 : State) :
    MemKeeps x1 (State.saveForRetention x1) := by
  unfold State.saveForRetention
  extract_lets v0 v1
  refine MemKeeps.have v0 ?_ fun h2 => ?_
  · dsimp only [v0]
    with_reducible refine MemKeeps.record rfl ?_ ?_
    · exact MemKeeps.storesUpd (fun e he => by obtain ⟨d, hd, rfl⟩ := List.mem_map.mp he; exact ⟨d, hd, rfl⟩) rfl
    exact MemKeeps.refl _
  clear_value v0
  refine MemKeeps.have v1 ?_ fun h3 => ?_
  · dsimp only [v1]
    with_reducible refine MemKeeps.record rfl ?_ ?_
    · exact MemKeeps.storesUpd (fun e he => ⟨e, (List.mem_filter.mp he).1, rfl⟩) rfl
    exact h2
  clear_value v1
  refine MemKeeps.foldl ?_ fun q4 y5 h6 => ?_
  · exact h3
  · with_reducible refine MemKeeps.record rfl ?_ ?_
    · exact MemKeeps.of_eq rfl rfl
    exact h6

theorem State.retentionStop_mem (x1 : State) :
    MemKeeps x1 (State.retentionStop x1) := by
  unfold State.retentionStop
  refine MemKeeps.ite ?_ ?_
  · exact MemKeeps.refl _
  · extract_lets v0
    refine MemKeeps.have v0 ?_ fun h1 => ?_
    · with_reducible refine MemKeeps.step (State.saveForRetention_mem _) ?_
      with_reducible refine MemKeeps.step (MemKeeps.ofSame (State.setPw_same _ _) (by decide)) ?_
      with_reducible refine MemKeeps.record rfl ?_ ?_
      · exact MemKeeps.of_eq rfl rfl
      exact MemKeeps.refl _
    clear_value v0
    refine MemKeeps.foldl ?_ fun q2 y3 h4 => ?_
    · exact h1
    · refine MemKeeps.ite ?_ ?_
      · with_reducible refine MemKeeps.step (MemKeeps.ofSame (State.rampOff_same _ _) (by decide)) ?_
        exact h4
      · exact h4

theorem State.writePowerCommand_mem (x1 : State) (x2 : Nat) :
    MemKeeps x1 (State.writePowerCommand x1 x2) := by
  unfold State.writePowerCommand
  extract_lets v0 v1 v2 v3 v4 v5 v6
  refine MemKeeps.have v1 ?_ fun h7 => ?_
  · with_reducible refine MemKeeps.step (MemKeeps.ofSame (State.stopUpdate_same _) (by decide)) ?_
    with_reducible refine MemKeeps.step (MemKeeps.ofSame (State.dropSessions_same _) (by decide)) ?_
    with_reducible refine MemKeeps.step (MemKeeps.ofSame (State.setReg_same _ _ _) (by decide)) ?_
    with_reducible refine MemKeeps.step (MemKeeps.ofSame (State.setReg_same _ _ _) (by decide)) ?_
    with_reducible refine MemKeeps.step (MemKeeps.ofSame (State.answer_same _ _) (by decide)) ?_
    exact MemKeeps.refl _
  clear_value v1
  refine MemKeeps.have v2 ?_ fun h8 => ?_
  · with_reducible refine MemKeeps.step (MemKeeps.ofSame (State.setPw_same _ _) (by decide)) ?_
    exact h7
  clear_value v2
  refine MemKeeps.have v3 ?_ fun h9 => ?_
  · with_reducible refine MemKeeps.step (MemKeeps.ofSame (State.setReg_same _ _ _) (by decide)) ?_
    with_reducible refine MemKeeps.step (MemKeeps.ofSame (State.setReg_same _ _ _) (by decide)) ?_
    with_reducible refine MemKeeps.step (MemKeeps.ofSame (State.answer_same _ _) (by decide)) ?_
    exact MemKeeps.refl _
  clear_value v3
  refine MemKeeps.have v4 ?_ fun h10 => ?_
  · refine MemKeeps.foldl ?_ fun q11 y12 h13 => ?_
    · exact h9
    · extract_lets v14
      refine MemKeeps.ite ?_ ?_
      · exact h13
      · with_reducible refine MemKeeps.step (MemKeeps.ofSame (State.clearCores_same _ _) (by decide)) ?_
        with_reducible refine MemKeeps.step (MemKeeps.ofSame (State.setDie_same _ _ _) (by decide)) ?_
        exact h13
  clear_value v4
  refine MemKeeps.have v5 ?_ fun h15 => ?_
  · dsimp only [v5]
    with_reducible refine MemKeeps.record rfl ?_ ?_
    · exact MemKeeps.storesUpd (fun e he => by obtain ⟨d, hd, rfl⟩ := List.mem_map.mp he; exact ⟨d, hd, rfl⟩) rfl
    exact h10
  clear_value v5
  refine MemKeeps.have v6 ?_ fun h16 => ?_
  · dsimp only [v6]
    with_reducible refine MemKeeps.record rfl ?_ ?_
    · exact MemKeeps.storesUpd (fun e he => ⟨e, (List.mem_filter.mp he).1, rfl⟩) rfl
    exact h15
  clear_value v6
  refine MemKeeps.ite ?_ ?_
  · with_reducible refine MemKeeps.step (MemKeeps.ofSame (State.answer_same _ _) (by decide)) ?_
    exact MemKeeps.refl _
  · refine MemKeeps.ite ?_ ?_
    · refine MemKeeps.ite ?_ ?_
      · exact h8
      · with_reducible refine MemKeeps.step (State.retentionStop_mem _) ?_
        exact h8
    · refine MemKeeps.foldl ?_ fun q17 y18 h19 => ?_
      · exact h16
      · extract_lets v20
        refine MemKeeps.ite ?_ ?_
        · with_reducible refine MemKeeps.step (MemKeeps.ofSame (State.laserPut_same _ _ _) (by decide)) ?_
          exact h19
        · exact h19

theorem execEnterRetention_mem (x1 : State) :
    OutMemKeeps x1 (execEnterRetention x1) := by
  unfold execEnterRetention
  refine OutMemKeeps.next ?_
  with_reducible refine MemKeeps.step (State.writePowerCommand_mem _ _) ?_
  exact MemKeeps.refl _

theorem execWake_mem (x1 : State) :
    OutMemKeeps x1 (execWake x1) := by
  unfold execWake
  refine OutMemKeeps.next ?_
  with_reducible refine MemKeeps.step (State.writePowerCommand_mem _ _) ?_
  exact MemKeeps.refl _

theorem execRetentionEntryEnd_mem (x1 : State) :
    OutMemKeeps x1 (execRetentionEntryEnd x1) := by
  unfold execRetentionEntryEnd
  refine OutMemKeeps.ite ?_ ?_
  · refine OutMemKeeps.next ?_
    exact MemKeeps.refl _
  · extract_lets v0 v1 v2 v3 v4 v5
    refine OutMemKeeps.have v0 ?_ fun h6 => ?_
    · refine MemKeeps.foldl ?_ fun q7 y8 h9 => ?_
      · exact MemKeeps.refl _
      · refine MemKeeps.ite ?_ ?_
        · with_reducible refine MemKeeps.step (MemKeeps.ofSame (State.laserPut_same _ _ _) (by decide)) ?_
          exact h9
        · exact h9
    clear_value v0
    refine OutMemKeeps.have v1 ?_ fun h10 => ?_
    · with_reducible refine MemKeeps.step (State.saveForRetention_mem _) ?_
      with_reducible refine MemKeeps.step (MemKeeps.ofSame (State.dropSlices_same _ _) (by decide)) ?_
      with_reducible refine MemKeeps.step (State.allDark_mem _) ?_
      exact h6
    clear_value v1
    refine OutMemKeeps.have v2 ?_ fun h11 => ?_
    · refine MemKeeps.foldl ?_ fun q12 y13 h14 => ?_
      · exact h10
      · refine MemKeeps.ite ?_ ?_
        · with_reducible refine State.setStore_mem ?_ ?_
          · exact h14
          · exact fun h => MemOk.store h _
        · exact h14
    clear_value v2
    refine OutMemKeeps.have v3 ?_ fun h15 => ?_
    · dsimp only [v3]
      with_reducible refine MemKeeps.record rfl ?_ ?_
      · exact MemKeeps.of_eq rfl rfl
      exact h11
    clear_value v3
    refine OutMemKeeps.have v4 ?_ fun h16 => ?_
    · refine MemKeeps.foldl ?_ fun q17 y18 h19 => ?_
      · exact h15
      · with_reducible refine MemKeeps.step (MemKeeps.ofSame (State.setDie_same _ _ _) (by decide)) ?_
        exact h19
    clear_value v4
    refine OutMemKeeps.have v5 ?_ fun h20 => ?_
    · dsimp only [v5]
      with_reducible refine MemKeeps.record rfl ?_ ?_
      · exact MemKeeps.of_eq rfl rfl
      exact h16
    clear_value v5
    refine OutMemKeeps.next ?_
    with_reducible refine MemKeeps.step (MemKeeps.ofSame (State.setReg_same _ _ _) (by decide)) ?_
    with_reducible refine MemKeeps.step (MemKeeps.ofSame (State.setReg_same _ _ _) (by decide)) ?_
    exact h20

theorem execWakeEnd_mem (x1 : State) :
    OutMemKeeps x1 (execWakeEnd x1) := by
  unfold execWakeEnd
  extract_lets v0
  refine OutMemKeeps.next ?_
  with_reducible refine when_mem ?_ ?_
  · with_reducible refine MemKeeps.step (State.feedAll_mem _) ?_
    with_reducible refine MemKeeps.step (MemKeeps.ofSame (State.setReg_same _ _ _) (by decide)) ?_
    with_reducible refine MemKeeps.step (MemKeeps.ofSame (State.setReg_same _ _ _) (by decide)) ?_
    with_reducible refine MemKeeps.record rfl ?_ ?_
    · exact MemKeeps.of_eq rfl rfl
    exact MemKeeps.refl _
  · exact MemKeeps.refl _

end Sys2Proof.Machine
end

