-- ==== Sys2Proof/Laws/MemRowMoves.lean ====
section
/-! SUPPORT. The functions of Machine/RowMoves.lean keep the memories in canonical form. -/

namespace Sys2Proof.Machine

open Sys2Proof

theorem State.loseCore_mem (x1 : State) (x2 x3 : Nat) :
    MemKeeps x1 (State.loseCore x1 x2 x3) := by
  unfold State.loseCore
  split
  · rename_i e0 e1 e2 e3
    with_reducible refine MemKeeps.step (State.coreFault_mem _ _ _ _ _ _ _ _) ?_
    exact MemKeeps.refl _
  · rename_i e4 e5
    exact MemKeeps.refl _

theorem State.mapOutCore_mem (x1 : State) (x2 : Nat) :
    MemKeeps x1 (State.mapOutCore x1 x2) := by
  unfold State.mapOutCore
  extract_lets v0 v1 v2 v3 v4 v5 v6
  refine MemKeeps.have v1 ?_ fun h7 => ?_
  · with_reducible refine MemKeeps.step (MemKeeps.ofSame (State.dropSlices_same _ _) (by decide)) ?_
    with_reducible refine MemKeeps.step (MemKeeps.ofSame (State.bump_same _ _) (by decide)) ?_
    with_reducible refine MemKeeps.step (MemKeeps.ofSame (State.mapRecord_same _ _) (by decide)) ?_
    exact MemKeeps.refl _
  clear_value v1
  refine MemKeeps.have v2 ?_ fun h8 => ?_
  · with_reducible refine MemKeeps.step (State.loseCore_mem _ _ _) ?_
    exact h7
  clear_value v2
  refine MemKeeps.have v4 ?_ fun h9 => ?_
  · with_reducible refine MemKeeps.step (MemKeeps.ofSame (State.setCore_same _ _ _) (by decide)) ?_
    exact h8
  clear_value v4
  refine MemKeeps.ite ?_ ?_
  · with_reducible refine MemKeeps.step (State.discardDie_mem _ _ _) ?_
    with_reducible refine MemKeeps.step (MemKeeps.ofSame (State.setDie_same _ _ _) (by decide)) ?_
    exact h9
  · exact h9

theorem State.mapOutBank_mem (x1 : State) (x2 x3 : Nat) :
    MemKeeps x1 (State.mapOutBank x1 x2 x3) := by
  unfold State.mapOutBank
  extract_lets v0
  split
  · rename_i e1 e2
    exact MemKeeps.refl _
  · rename_i e3 e4 e5
    split
    · rename_i e6 e7
      with_reducible refine MemKeeps.step (State.mapOutCore_mem _ _) ?_
      exact MemKeeps.refl _
    · rename_i e8 e9 e10 e11
      with_reducible refine MemKeeps.step (MemKeeps.ofSame (State.bump_same _ _) (by decide)) ?_
      with_reducible refine MemKeeps.step (MemKeeps.ofSame (State.setCore_same _ _ _) (by decide)) ?_
      with_reducible refine MemKeeps.step (MemKeeps.ofSame (State.mapRecord_same _ _) (by decide)) ?_
      exact MemKeeps.refl _

theorem State.ladder_mem (x1 : State) (x2 : Nat) (x3 : RungFailure) :
    MemKeeps x1 (State.ladder x1 x2 x3) := by
  unfold State.ladder
  extract_lets v0
  refine MemKeeps.ite ?_ ?_
  · exact MemKeeps.refl _
  · refine MemKeeps.ite ?_ ?_
    · split
      · rename_i e1 e2
        with_reducible refine MemKeeps.step (MemKeeps.ofSame (State.dropSpare_same _ _ _) (by decide)) ?_
        exact MemKeeps.refl _
      · rename_i e3 e4
        exact MemKeeps.refl _
    · refine MemKeeps.ite ?_ ?_
      · refine MemKeeps.ite ?_ ?_
        · exact MemKeeps.refl _
        · with_reducible refine MemKeeps.step (MemKeeps.ofSame (State.setCore_same _ _ _) (by decide)) ?_
          exact MemKeeps.refl _
      · split
        · rename_i e5 e6 e7
          extract_lets v8 v9 v10
          refine MemKeeps.ite ?_ ?_
          · exact MemKeeps.refl _
          · refine MemKeeps.ite ?_ ?_
            · with_reducible refine MemKeeps.step (MemKeeps.ofSame (State.bump_same _ _) (by decide)) ?_
              with_reducible refine MemKeeps.step (MemKeeps.ofSame (State.setCore_same _ _ _) (by decide)) ?_
              with_reducible refine MemKeeps.step (MemKeeps.ofSame (State.mapRecord_same _ _) (by decide)) ?_
              exact MemKeeps.refl _
            · refine MemKeeps.ite ?_ ?_
              · with_reducible refine MemKeeps.step (MemKeeps.ofSame (State.bump_same _ _) (by decide)) ?_
                with_reducible refine MemKeeps.step (MemKeeps.ofSame (State.setCore_same _ _ _) (by decide)) ?_
                with_reducible refine MemKeeps.step (MemKeeps.ofSame (State.mapRecord_same _ _) (by decide)) ?_
                exact MemKeeps.refl _
              · split
                · rename_i e11 e12 e13
                  with_reducible refine MemKeeps.step (State.mapOutBank_mem _ _ _) ?_
                  exact MemKeeps.refl _
                · rename_i e14 e15
                  with_reducible refine MemKeeps.step (State.mapOutCore_mem _ _) ?_
                  exact MemKeeps.refl _
        · rename_i e16 e17
          with_reducible refine MemKeeps.step (State.mapOutBank_mem _ _ _) ?_
          exact MemKeeps.refl _
        · rename_i e18
          with_reducible refine MemKeeps.step (State.mapOutCore_mem _ _) ?_
          exact MemKeeps.refl _

theorem State.moveOne_mem (x1 : State) (x2 : Nat) (x3 : Grant) (x4 : QInstr) (x5 : Bool) (x6 x7 : Nat) (x8 : List RowError) :
    MemKeeps x1 (State.moveOne x1 x2 x3 x4 x5 x6 x7 x8).1 := by
  unfold State.moveOne
  extract_lets v0 v1 v2
  refine MemKeeps.iteFst ?_ ?_
  · dsimp only
    with_reducible refine MemKeeps.step (State.coreFault_mem _ _ _ _ _ _ _ _) ?_
    exact MemKeeps.refl _
  · refine MemKeeps.iteFst ?_ ?_
    · dsimp only
      with_reducible refine MemKeeps.step (State.coreFault_mem _ _ _ _ _ _ _ _) ?_
      with_reducible refine MemKeeps.step (MemKeeps.ofSame (State.bump_same _ _) (by decide)) ?_
      exact MemKeeps.refl _
    · split
      rename_i e3 e4 e5 e6
      extract_lets v7 v8 v9
      refine MemKeeps.have v7 ?_ fun h10 => ?_
      · with_reducible refine MemKeeps.step (MemKeeps.ofSame (State.setCore_same _ _ _) (by decide)) ?_
        exact MemKeeps.refl _
      clear_value v7
      refine MemKeeps.have v8 ?_ fun h11 => ?_
      · refine MemKeeps.ite ?_ ?_
        · with_reducible refine MemKeeps.step (State.coreFault_mem _ _ _ _ _ _ _ _) ?_
          exact h10
        · exact h10
      clear_value v8
      refine MemKeeps.have v9 ?_ fun h12 => ?_
      · refine MemKeeps.foldl ?_ fun q13 y14 h15 => ?_
        · exact h11
        · with_reducible refine MemKeeps.step (State.ladder_mem _ _ _) ?_
          exact h15
      clear_value v9
      dsimp only
      exact h12

theorem State.moveRows_mem (x1 : State) (x2 : Nat) (x3 : Grant) (x4 : QInstr) (x5 : Bool) (x6 : List RowError) (x7 : List (Nat × Nat)) (x8 : List ((Nat × Nat) × Nat)) :
    MemKeeps x1 (State.moveRows x1 x2 x3 x4 x5 x6 x7 x8).1 := by
  induction x8 generalizing x1 x7 with
  | nil => exact MemKeeps.refl _
  | cons e r ih =>
    obtain ⟨⟨a, scr⟩, i⟩ := e
    unfold State.moveRows
    split
    · exact ih _ _
    · dsimp only
      split
      · exact MemKeeps.trans (State.moveOne_mem _ _ _ _ _ _ _ _) (ih _ _)
      · exact State.moveOne_mem _ _ _ _ _ _ _ _

theorem State.portRows_mem (x1 : State) (x2 : Nat) (x3 : Grant) (x4 : QInstr) (x5 : Nat) (x6 : Bool) (x7 : List RowError) (x8 : List ((Nat × Nat) × Nat)) :
    MemKeeps x1 (State.portRows x1 x2 x3 x4 x5 x6 x7 x8) := by
  unfold State.portRows
  split
  · rename_i e0 e1
    exact MemKeeps.refl _
  · rename_i e2 e3 e4
    extract_lets v5
    split
    rename_i e6 e7 e8 e9
    split
    · rename_i e10 e11
      refine MemKeeps.fstOf e9 ?_
      with_reducible refine MemKeeps.step (State.moveRows_mem _ _ _ _ _ _ _ _) ?_
      exact MemKeeps.refl _
    · rename_i e12 e13 e14
      with_reducible refine MemKeeps.step (MemKeeps.ofSame (State.setRun_same _ _ _) (by decide)) ?_
      refine MemKeeps.fstOf e9 ?_
      with_reducible refine MemKeeps.step (State.moveRows_mem _ _ _ _ _ _ _ _) ?_
      exact MemKeeps.refl _

theorem State.rowMove_mem (x1 : State) (x2 x3 x4 : Nat) (x5 : Bool) (x6 : List RowError) :
    MemKeeps x1 (State.rowMove x1 x2 x3 x4 x5 x6) := by
  unfold State.rowMove
  extract_lets v0
  refine MemKeeps.have v0 ?_ fun h1 => ?_
  · with_reducible refine State.startUnit_mem ?_ ?_
    · exact MemKeeps.refl _
    · intro y2 y3 y4 y5 h6
      with_reducible refine MemKeeps.step (State.portRows_mem _ _ _ _ _ _ _ _) ?_
      exact h6
  clear_value v0
  split
  · rename_i e7 e8
    exact MemKeeps.refl _
  · rename_i e9 e10 e11 e12 e13
    split
    · rename_i e14 e15 e16 e17
      with_reducible refine MemKeeps.step (State.portRows_mem _ _ _ _ _ _ _ _) ?_
      exact MemKeeps.refl _
    · rename_i e18 e19
      exact h1

theorem execRowin_mem (x1 : Fin 8) (x2 : Fin 48) (x3 : List RowError) (x4 : State) :
    OutMemKeeps x4 (execRowin x1 x2 x3 x4) := by
  unfold execRowin
  refine OutMemKeeps.next ?_
  with_reducible refine MemKeeps.step (State.rowMove_mem _ _ _ _ _ _) ?_
  exact MemKeeps.refl _

theorem execRowout_mem (x1 : Fin 8) (x2 : Fin 48) (x3 : List RowError) (x4 : State) :
    OutMemKeeps x4 (execRowout x1 x2 x3 x4) := by
  unfold execRowout
  refine OutMemKeeps.next ?_
  with_reducible refine MemKeeps.step (State.rowMove_mem _ _ _ _ _ _) ?_
  exact MemKeeps.refl _

theorem execRowinX_mem (x1 : Fin 8) (x2 : Fin 48) (x3 : List RowError) (x4 : State) :
    OutMemKeeps x4 (execRowinX x1 x2 x3 x4) := by
  unfold execRowinX
  refine OutMemKeeps.next ?_
  with_reducible refine MemKeeps.step (State.rowMove_mem _ _ _ _ _ _) ?_
  exact MemKeeps.refl _

theorem execRowoutX_mem (x1 : Fin 8) (x2 : Fin 48) (x3 : List RowError) (x4 : State) :
    OutMemKeeps x4 (execRowoutX x1 x2 x3 x4) := by
  unfold execRowoutX
  refine OutMemKeeps.next ?_
  with_reducible refine MemKeeps.step (State.rowMove_mem _ _ _ _ _ _) ?_
  exact MemKeeps.refl _

theorem execRowPortPauseEnd_mem (x1 : Fin 8) (x2 : Fin 52) (x3 : State) :
    OutMemKeeps x3 (execRowPortPauseEnd x1 x2 x3) :=
  OutMemKeeps.ofSame (execRowPortPauseEnd_same _ _ _) (by decide)

theorem execBankCopyEnd_mem (x1 : Fin 8) (x2 : Fin 52) (x3 : List Nat) (x4 : State) :
    OutMemKeeps x4 (execBankCopyEnd x1 x2 x3 x4) := by
  unfold execBankCopyEnd
  extract_lets v0 v1 v2
  split
  · rename_i e3 e4
    refine OutMemKeeps.next ?_
    exact MemKeeps.refl _
  · rename_i e5 e6 e7 e8 e9
    extract_lets v10 v11 v12
    refine OutMemKeeps.next ?_
    refine MemKeeps.foldl ?_ fun q13 y14 h15 => ?_
    · with_reducible refine MemKeeps.step (MemKeeps.ofSame (State.setCore_same _ _ _) (by decide)) ?_
      exact MemKeeps.refl _
    · with_reducible refine MemKeeps.step (State.ladder_mem _ _ _) ?_
      exact h15

end Sys2Proof.Machine
end

