-- ==== Sys2Proof/Laws/MemTest.lean ====
section
/-! SUPPORT. The functions of Machine/Test.lean keep the memories in canonical form. -/

namespace Sys2Proof.Machine

open Sys2Proof

theorem execBistSliceStart_mem (x1 : BistUnit) (x2 : State) :
    OutMemKeeps x2 (execBistSliceStart x1 x2) :=
  OutMemKeeps.ofSame (execBistSliceStart_same _ _) (by decide)

theorem State.bistFail_mem (x1 : State) (x2 : BistUnit) :
    MemKeeps x1 (State.bistFail x1 x2) := by
  unfold State.bistFail
  extract_lets v0
  refine MemKeeps.have v0 ?_ fun h1 => ?_
  · with_reducible refine MemKeeps.step (MemKeeps.ofSame (State.bump_same _ _) (by decide)) ?_
    exact MemKeeps.refl _
  clear_value v0
  split
  · rename_i e2 e3 e4
    refine MemKeeps.ite ?_ ?_
    · exact h1
    · with_reducible refine MemKeeps.step (State.mapOutCore_mem _ _) ?_
      exact h1
  · rename_i e5 e6 e7 e8
    with_reducible refine MemKeeps.step (State.ladder_mem _ _ _) ?_
    exact h1
  · rename_i e9 e10 e11
    with_reducible refine MemKeeps.step (MemKeeps.ofSame (State.laneOut_same _ _ _) (by decide)) ?_
    exact h1
  · rename_i e12 e13 e14
    with_reducible refine MemKeeps.step (MemKeeps.ofSame (State.setReg_same _ _ _) (by decide)) ?_
    exact h1

theorem execBistSliceEnd_mem (x1 : BistUnit) (x2 : Bool) (x3 : State) :
    OutMemKeeps x3 (execBistSliceEnd x1 x2 x3) := by
  unfold execBistSliceEnd
  extract_lets v0 v1 v2 v3 v4 v5
  refine OutMemKeeps.have v1 ?_ fun h6 => ?_
  · with_reducible refine MemKeeps.step (MemKeeps.ofSame (State.bump_same _ _) (by decide)) ?_
    exact MemKeeps.refl _
  clear_value v1
  refine OutMemKeeps.have v5 ?_ fun h7 => ?_
  · with_reducible refine MemKeeps.step (MemKeeps.ofSame (State.bistLeave_same _ _) (by decide)) ?_
    with_reducible refine MemKeeps.record rfl ?_ ?_
    · exact MemKeeps.of_eq rfl rfl
    exact h6
  clear_value v5
  split
  · rename_i e8 e9
    refine OutMemKeeps.next ?_
    exact MemKeeps.refl _
  · rename_i e10 e11 e12
    refine OutMemKeeps.ite ?_ ?_
    · refine OutMemKeeps.next ?_
      exact MemKeeps.refl _
    · refine OutMemKeeps.ite ?_ ?_
      · refine OutMemKeeps.next ?_
        with_reducible refine MemKeeps.record rfl ?_ ?_
        · exact MemKeeps.of_eq rfl rfl
        exact h6
      · refine OutMemKeeps.next ?_
        refine MemKeeps.ite ?_ ?_
        · exact h7
        · with_reducible refine MemKeeps.step (State.bistFail_mem _ _) ?_
          exact h7

theorem execDieBist_mem (x1 : Nat) (x2 : State) :
    OutMemKeeps x2 (execDieBist x1 x2) :=
  OutMemKeeps.ofSame (execDieBist_same _ _) (by decide)

theorem execDieBistEnd_mem (x1 : Fin 8) (x2 : List BistUnit) (x3 : List (Fin 52)) (x4 : State) :
    OutMemKeeps x4 (execDieBistEnd x1 x2 x3 x4) := by
  unfold execDieBistEnd
  extract_lets v0 v1 v2 v3 v4 v5 v6 v7 v8 v9 v10
  refine OutMemKeeps.have v3 ?_ fun h11 => ?_
  · refine MemKeeps.foldl ?_ fun q12 y13 h14 => ?_
    · exact MemKeeps.refl _
    · with_reducible refine MemKeeps.step (State.bistFail_mem _ _) ?_
      exact h14
  clear_value v3
  refine OutMemKeeps.have v4 ?_ fun h15 => ?_
  · refine MemKeeps.foldl ?_ fun q16 y17 h18 => ?_
    · exact h11
    · with_reducible refine MemKeeps.step (MemKeeps.ofSame (State.setReg_same _ _ _) (by decide)) ?_
      exact h18
  clear_value v4
  refine OutMemKeeps.have v5 ?_ fun h19 => ?_
  · with_reducible refine MemKeeps.step (MemKeeps.ofSame (State.addReg_same _ _ _) (by decide)) ?_
    exact h15
  clear_value v5
  refine OutMemKeeps.have v9 ?_ fun h20 => ?_
  · dsimp only [v9]
    with_reducible refine MemKeeps.record rfl ?_ ?_
    · exact MemKeeps.of_eq rfl rfl
    exact h19
  clear_value v9
  refine OutMemKeeps.have v10 ?_ fun h21 => ?_
  · refine MemKeeps.ite ?_ ?_
    · with_reducible refine MemKeeps.step (MemKeeps.ofSame (State.setReg_same _ _ _) (by decide)) ?_
      exact h20
    · exact h20
  clear_value v10
  refine OutMemKeeps.ite ?_ ?_
  · refine OutMemKeeps.next ?_
    exact MemKeeps.refl _
  · refine OutMemKeeps.next ?_
    refine MemKeeps.ite ?_ ?_
    · with_reducible refine MemKeeps.step (MemKeeps.ofSame (State.setPair_same _ _) (by decide)) ?_
      exact h21
    · exact h21

theorem execTestPortInstruction_mem (x1 : TapInstr) (x2 : State) :
    OutMemKeeps x2 (execTestPortInstruction x1 x2) :=
  OutMemKeeps.ofSame (execTestPortInstruction_same _ _) (by decide)

theorem execTraceControlWrite_mem (x1 : Nat) (x2 : State) :
    OutMemKeeps x2 (execTraceControlWrite x1 x2) :=
  OutMemKeeps.ofSame (execTraceControlWrite_same _ _) (by decide)

theorem execTraceBlockDrain_mem (x1 : Fin 12) (x2 : State) :
    OutMemKeeps x2 (execTraceBlockDrain x1 x2) := by
  unfold execTraceBlockDrain
  extract_lets v0 v1 v2 v3 v4 v5
  refine OutMemKeeps.ite ?_ ?_
  · refine OutMemKeeps.next ?_
    exact MemKeeps.refl _
  · split
    rename_i e6 e7 e8 e9
    extract_lets v10 v11 v12 v13 v14 v15
    refine OutMemKeeps.have v10 ?_ fun h16 => ?_
    · with_reducible refine MemKeeps.step (State.physWrite_mem _ _ _ _) ?_
      exact MemKeeps.refl _
    clear_value v10
    refine OutMemKeeps.have v13 ?_ fun h17 => ?_
    · dsimp only [v13]
      with_reducible refine MemKeeps.record rfl ?_ ?_
      · exact MemKeeps.of_eq rfl rfl
      exact h16
    clear_value v13
    refine OutMemKeeps.have v14 ?_ fun h18 => ?_
    · with_reducible refine MemKeeps.step (MemKeeps.ofSame (State.setReg_same _ _ _) (by decide)) ?_
      with_reducible refine MemKeeps.step (MemKeeps.ofSame (State.addReg_same _ _ _) (by decide)) ?_
      with_reducible refine MemKeeps.step (MemKeeps.ofSame (State.setReg_same _ _ _) (by decide)) ?_
      exact h17
    clear_value v14
    refine OutMemKeeps.next ?_
    refine MemKeeps.ite ?_ ?_
    · with_reducible refine MemKeeps.step (MemKeeps.ofSame (State.setReg_same _ _ _) (by decide)) ?_
      exact h18
    · exact h18

theorem execTraceCopy_mem (x1 : Nat) (x2 : State) :
    OutMemKeeps x2 (execTraceCopy x1 x2) :=
  OutMemKeeps.ofSame (execTraceCopy_same _ _) (by decide)

theorem execTraceCopyEnd_mem (x1 : State) :
    OutMemKeeps x1 (execTraceCopyEnd x1) := by
  unfold execTraceCopyEnd
  split
  · rename_i e0 e1
    refine OutMemKeeps.next ?_
    exact MemKeeps.refl _
  · rename_i e2 e3 e4 e5 e6
    extract_lets v7 v8 v9 v10
    refine OutMemKeeps.have v8 ?_ fun h11 => ?_
    · dsimp only [v8]
      with_reducible refine MemKeeps.record rfl ?_ ?_
      · exact MemKeeps.of_eq rfl rfl
      exact MemKeeps.refl _
    clear_value v8
    split
    · rename_i e12 e13
      dsimp only [v9]
      refine OutMemKeeps.next ?_
      with_reducible refine MemKeeps.step (MemKeeps.ofSame (State.setReg_same _ _ _) (by decide)) ?_
      exact h11
    · rename_i e14 e15 e16
      refine OutMemKeeps.ite ?_ ?_
      · refine OutMemKeeps.next ?_
        exact MemKeeps.refl _
      · refine OutMemKeeps.ite ?_ ?_
        · dsimp only [v9]
          refine OutMemKeeps.next ?_
          with_reducible refine MemKeeps.step (MemKeeps.ofSame (State.setReg_same _ _ _) (by decide)) ?_
          exact h11
        · dsimp only [v9]
          refine OutMemKeeps.next ?_
          with_reducible refine MemKeeps.step (MemKeeps.ofSame (State.setReg_same _ _ _) (by decide)) ?_
          with_reducible refine MemKeeps.step (State.hubWrite_mem _ _ _ _ _) ?_
          exact h11

theorem execDumpTriggerWrite_mem (x1 : Fin 4) (x2 : Fin 5) (x3 : Nat) (x4 : State) :
    OutMemKeeps x4 (execDumpTriggerWrite x1 x2 x3 x4) :=
  OutMemKeeps.ofSame (execDumpTriggerWrite_same _ _ _ _) (by decide)

theorem execFreezeAtBoundary_mem (x1 : State) :
    OutMemKeeps x1 (execFreezeAtBoundary x1) :=
  OutMemKeeps.ofSame (execFreezeAtBoundary_same _) (by decide)

theorem execFreezeAtOnce_mem (x1 : State) :
    OutMemKeeps x1 (execFreezeAtOnce x1) :=
  OutMemKeeps.ofSame (execFreezeAtOnce_same _) (by decide)

theorem execFreezeRelease_mem (x1 : State) :
    OutMemKeeps x1 (execFreezeRelease x1) :=
  OutMemKeeps.ofSame (execFreezeRelease_same _) (by decide)

theorem State.putFreezeRecord_mem (x1 : State) (x2 : List Byte) :
    MemKeeps x1 (State.putFreezeRecord x1 x2) := by
  unfold State.putFreezeRecord
  extract_lets v0
  refine MemKeeps.ite ?_ ?_
  · exact MemKeeps.refl _
  · split
    · rename_i e1 e2 e3
      refine MemKeeps.ite ?_ ?_
      · with_reducible refine MemKeeps.step (State.hubWrite_mem _ _ _ _ _) ?_
        exact MemKeeps.refl _
      · exact MemKeeps.refl _
    · rename_i e4 e5
      exact MemKeeps.refl _

theorem execFreezeDrainEnd_mem (x1 : State) :
    OutMemKeeps x1 (execFreezeDrainEnd x1) := by
  unfold execFreezeDrainEnd
  refine OutMemKeeps.ite ?_ ?_
  · refine OutMemKeeps.next ?_
    exact MemKeeps.refl _
  · extract_lets v0 v1 v2 v3
    refine OutMemKeeps.have v1 ?_ fun h4 => ?_
    · with_reducible refine MemKeeps.step (MemKeeps.ofSame (State.dropSlices_same _ _) (by decide)) ?_
      with_reducible refine MemKeeps.step (State.putFreezeRecord_mem _ _) ?_
      exact MemKeeps.refl _
    clear_value v1
    refine OutMemKeeps.have v3 ?_ fun h5 => ?_
    · dsimp only [v3]
      with_reducible refine MemKeeps.record rfl ?_ ?_
      · exact MemKeeps.of_eq rfl rfl
      exact h4
    clear_value v3
    refine OutMemKeeps.next ?_
    with_reducible refine MemKeeps.step (MemKeeps.ofSame (State.bump_same _ _) (by decide)) ?_
    with_reducible refine MemKeeps.step (MemKeeps.ofSame (State.setReg_same _ _ _) (by decide)) ?_
    with_reducible refine MemKeeps.step (MemKeeps.ofSame (State.setReg_same _ _ _) (by decide)) ?_
    exact h5

theorem execFreezeDrainLimit_mem (x1 : State) :
    OutMemKeeps x1 (execFreezeDrainLimit x1) :=
  OutMemKeeps.ofSame (execFreezeDrainLimit_same _) (by decide)

theorem State.stopNow_mem (x1 : State) (x2 : Nat) :
    MemKeeps x1 (State.stopNow x1 x2) := by
  unfold State.stopNow
  extract_lets v0 v1 v2 v3 v4 v5 v6
  refine MemKeeps.have v2 ?_ fun h7 => ?_
  · with_reducible refine MemKeeps.step (MemKeeps.ofSame (State.dropSlices_same _ _) (by decide)) ?_
    with_reducible refine MemKeeps.step (State.putFreezeRecord_mem _ _) ?_
    with_reducible refine MemKeeps.record rfl ?_ ?_
    · exact MemKeeps.of_eq rfl rfl
    exact MemKeeps.refl _
  clear_value v2
  refine MemKeeps.have v3 ?_ fun h8 => ?_
  · dsimp only [v3]
    with_reducible refine MemKeeps.record rfl ?_ ?_
    · exact MemKeeps.of_eq rfl rfl
    exact h7
  clear_value v3
  refine MemKeeps.have v5 ?_ fun h9 => ?_
  · dsimp only [v5]
    with_reducible refine MemKeeps.record rfl ?_ ?_
    · exact MemKeeps.of_eq rfl rfl
    exact h8
  clear_value v5
  with_reducible refine MemKeeps.step (MemKeeps.ofSame (State.bump_same _ _) (by decide)) ?_
  with_reducible refine MemKeeps.step (MemKeeps.ofSame (State.setReg_same _ _ _) (by decide)) ?_
  refine MemKeeps.ite ?_ ?_
  · exact h9
  · with_reducible refine MemKeeps.step (MemKeeps.ofSame (State.setReg_same _ _ _) (by decide)) ?_
    exact h9

theorem execSynchronisedChange_mem (x1 : State) :
    OutMemKeeps x1 (execSynchronisedChange x1) := by
  unfold execSynchronisedChange
  split
  · rename_i e0 e1
    refine OutMemKeeps.next ?_
    exact MemKeeps.refl _
  · rename_i e2 e3 e4
    extract_lets v5
    refine OutMemKeeps.have v5 ?_ fun h6 => ?_
    · with_reducible refine MemKeeps.step (MemKeeps.ofSame (State.setPw_same _ _) (by decide)) ?_
      exact MemKeeps.refl _
    clear_value v5
    split
    · rename_i e7 e8 e9 e10
      refine OutMemKeeps.next ?_
      with_reducible refine MemKeeps.step (MemKeeps.ofSame (State.applyPoint_same _ _ _) (by decide)) ?_
      exact h6
    · rename_i e11 e12
      refine OutMemKeeps.next ?_
      refine MemKeeps.ite ?_ ?_
      · with_reducible refine MemKeeps.step (State.stopNow_mem _ _) ?_
        exact h6
      · exact h6

end Sys2Proof.Machine
end

