-- ==== Sys2Proof/Laws/MemSec.lean ====
section
/-! SUPPORT. The functions of Machine/Sec.lean keep the memories in canonical form. -/

namespace Sys2Proof.Machine

open Sys2Proof

theorem State.stageUpdate_mem (x1 : State) :
    MemKeeps x1 (State.stageUpdate x1) := by
  unfold State.stageUpdate
  extract_lets v0
  split
  · rename_i e1 e2 e3
    with_reducible refine MemKeeps.step (MemKeeps.ofSame (State.answer_same _ _) (by decide)) ?_
    refine MemKeeps.ite ?_ ?_
    · with_reducible refine MemKeeps.step (MemKeeps.ofSame (State.setReg_same _ _ _) (by decide)) ?_
      exact MemKeeps.refl _
    · exact MemKeeps.refl _
  · rename_i e4 e5 e6
    split
    · rename_i e7 e8 e9
      with_reducible refine MemKeeps.step (MemKeeps.ofSame (State.answer_same _ _) (by decide)) ?_
      exact MemKeeps.refl _
    · rename_i e10 e11
      with_reducible refine MemKeeps.step (MemKeeps.ofSame (State.answer_same _ _) (by decide)) ?_
      with_reducible refine MemKeeps.step (MemKeeps.ofSame (State.setReg_same _ _ _) (by decide)) ?_
      with_reducible refine MemKeeps.step (MemKeeps.ofSame (State.setUpdate_same _ _) (by decide)) ?_
      with_reducible refine MemKeeps.step (State.tierTouch_mem _ _ _) ?_
      exact MemKeeps.refl _

theorem State.writeUpdate_mem (x1 : State) (x2 : Nat) :
    MemKeeps x1 (State.writeUpdate x1 x2) := by
  unfold State.writeUpdate
  extract_lets v0
  refine MemKeeps.ite ?_ ?_
  · with_reducible refine MemKeeps.step (MemKeeps.ofSame (State.answer_same _ _) (by decide)) ?_
    exact MemKeeps.refl _
  · split
    · rename_i e1
      with_reducible refine MemKeeps.step (State.stageUpdate_mem _) ?_
      exact MemKeeps.refl _
    · rename_i e2
      with_reducible refine MemKeeps.step (MemKeeps.ofSame (State.commitUpdate_same _) (by decide)) ?_
      exact MemKeeps.refl _
    · rename_i e3
      with_reducible refine MemKeeps.step (MemKeeps.ofSame (State.beginSwitch_same _ _) (by decide)) ?_
      exact MemKeeps.refl _
    · rename_i e4
      with_reducible refine MemKeeps.step (MemKeeps.ofSame (State.beginSwitch_same _ _) (by decide)) ?_
      exact MemKeeps.refl _
    · rename_i e5 e6 e7 e8 e9
      with_reducible refine MemKeeps.step (MemKeeps.ofSame (State.beginSwitch_same _ _) (by decide)) ?_
      exact MemKeeps.refl _

theorem execUpdateStage_mem (x1 : State) :
    OutMemKeeps x1 (execUpdateStage x1) := by
  unfold execUpdateStage
  refine OutMemKeeps.next ?_
  with_reducible refine MemKeeps.step (State.writeUpdate_mem _ _) ?_
  exact MemKeeps.refl _

theorem execUpdateApply_mem (x1 : State) :
    OutMemKeeps x1 (execUpdateApply x1) := by
  unfold execUpdateApply
  refine OutMemKeeps.next ?_
  with_reducible refine MemKeeps.step (State.writeUpdate_mem _ _) ?_
  exact MemKeeps.refl _

theorem execUpdateCommit_mem (x1 : State) :
    OutMemKeeps x1 (execUpdateCommit x1) := by
  unfold execUpdateCommit
  refine OutMemKeeps.next ?_
  with_reducible refine MemKeeps.step (State.writeUpdate_mem _ _) ?_
  exact MemKeeps.refl _

theorem execUpdateRevert_mem (x1 : State) :
    OutMemKeeps x1 (execUpdateRevert x1) := by
  unfold execUpdateRevert
  refine OutMemKeeps.next ?_
  with_reducible refine MemKeeps.step (State.writeUpdate_mem _ _) ?_
  exact MemKeeps.refl _

theorem execUpdateResume_mem (x1 : State) :
    OutMemKeeps x1 (execUpdateResume x1) := by
  unfold execUpdateResume
  refine OutMemKeeps.next ?_
  with_reducible refine MemKeeps.step (State.writeUpdate_mem _ _) ?_
  exact MemKeeps.refl _

theorem execUpdateStageEnd_mem (x1 : State) :
    OutMemKeeps x1 (execUpdateStageEnd x1) :=
  OutMemKeeps.ofSame (execUpdateStageEnd_same _) (by decide)

theorem execUpdateSlice_mem (x1 : State) :
    OutMemKeeps x1 (execUpdateSlice x1) :=
  OutMemKeeps.ofSame (execUpdateSlice_same _) (by decide)

theorem execImageAliveReport_mem (x1 : State) :
    OutMemKeeps x1 (execImageAliveReport x1) :=
  OutMemKeeps.ofSame (execImageAliveReport_same _) (by decide)

theorem execImageAliveTimeout_mem (x1 : State) :
    OutMemKeeps x1 (execImageAliveTimeout x1) :=
  OutMemKeeps.ofSame (execImageAliveTimeout_same _) (by decide)

theorem execSliceRetryTimeout_mem (x1 : State) :
    OutMemKeeps x1 (execSliceRetryTimeout x1) :=
  OutMemKeeps.ofSame (execSliceRetryTimeout_same _) (by decide)

theorem execAutoCommit_mem (x1 : State) :
    OutMemKeeps x1 (execAutoCommit x1) :=
  OutMemKeeps.ofSame (execAutoCommit_same _) (by decide)

theorem execRecoveryLength_mem (x1 : Nat) (x2 : State) :
    OutMemKeeps x2 (execRecoveryLength x1 x2) :=
  OutMemKeeps.ofSame (execRecoveryLength_same _ _) (by decide)

theorem execRecoveryOffset_mem (x1 : Nat) (x2 : State) :
    OutMemKeeps x2 (execRecoveryOffset x1 x2) :=
  OutMemKeeps.ofSame (execRecoveryOffset_same _ _) (by decide)

theorem execRecoveryPiece_mem (x1 : List Byte) (x2 : State) :
    OutMemKeeps x2 (execRecoveryPiece x1 x2) :=
  OutMemKeeps.ofSame (execRecoveryPiece_same _ _) (by decide)

theorem execRecoveryVerify_mem (x1 : Nat) (x2 : State) :
    OutMemKeeps x2 (execRecoveryVerify x1 x2) :=
  OutMemKeeps.ofSame (execRecoveryVerify_same _ _) (by decide)

theorem State.spdm_mem {s0 s : State} {p need : Nat} {f : State → State}
    (h : MemKeeps s0 s) (hf : ∀ t, MemKeeps s0 t → MemKeeps s0 (f t)) : MemKeeps s0 (s.spdm p need f) := by
  unfold State.spdm
  repeat' split
  · exact h
  · exact h.trans (MemKeeps.ofSame (State.spdmError_same _ _ _) (by decide))
  · exact h.trans (MemKeeps.ofSame (State.spdmError_same _ _ _) (by decide))
  · exact hf _ h

theorem execGetVersion_mem (x1 : Fin 2) (x2 : State) :
    OutMemKeeps x2 (execGetVersion x1 x2) :=
  OutMemKeeps.ofSame (execGetVersion_same _ _) (by decide)

theorem execGetCapabilities_mem (x1 : Fin 2) (x2 : State) :
    OutMemKeeps x2 (execGetCapabilities x1 x2) :=
  OutMemKeeps.ofSame (execGetCapabilities_same _ _) (by decide)

theorem execNegotiateAlgorithms_mem (x1 : Fin 2) (x2 : Bool) (x3 : State) :
    OutMemKeeps x3 (execNegotiateAlgorithms x1 x2 x3) :=
  OutMemKeeps.ofSame (execNegotiateAlgorithms_same _ _ _) (by decide)

theorem execGetDigests_mem (x1 : Fin 2) (x2 : State) :
    OutMemKeeps x2 (execGetDigests x1 x2) :=
  OutMemKeeps.ofSame (execGetDigests_same _ _) (by decide)

theorem execGetCertificate_mem (x1 : Fin 2) (x2 : Fin 8) (x3 x4 : BitVec 16) (x5 : State) :
    OutMemKeeps x5 (execGetCertificate x1 x2 x3 x4 x5) :=
  OutMemKeeps.ofSame (execGetCertificate_same _ _ _ _ _) (by decide)

theorem execChallenge_mem (x1 : Fin 2) (x2 : Fin 8) (x3 : Bool) (x4 : List Byte) (x5 : State) :
    OutMemKeeps x5 (execChallenge x1 x2 x3 x4 x5) :=
  OutMemKeeps.ofSame (execChallenge_same _ _ _ _ _) (by decide)

theorem execGetMeasurements_mem (x1 : Fin 2) (x2 : BitVec 8) (x3 : Bool) (x4 : List Byte) (x5 : State) :
    OutMemKeeps x5 (execGetMeasurements x1 x2 x3 x4 x5) :=
  OutMemKeeps.ofSame (execGetMeasurements_same _ _ _ _ _) (by decide)

end Sys2Proof.Machine
end

