-- ==== Sys2Proof/Laws/MemTimebase.lean ====
section
/-! SUPPORT. The functions of Machine/Timebase.lean keep the memories in canonical form. -/

namespace Sys2Proof.Machine

open Sys2Proof

theorem execWordClockEdge_mem (x1 : Nat) (x2 x3 : Int) (x4 : State) :
    OutMemKeeps x4 (execWordClockEdge x1 x2 x3 x4) :=
  OutMemKeeps.ofSame (execWordClockEdge_same _ _ _ _) (by decide)

theorem execPpsEdge_mem (x1 : Nat) (x2 : Bool) (x3 : Int) (x4 : State) :
    OutMemKeeps x4 (execPpsEdge x1 x2 x3 x4) :=
  OutMemKeeps.ofSame (execPpsEdge_same _ _ _ _) (by decide)

theorem execMediaTick_mem (x1 : State) :
    OutMemKeeps x1 (execMediaTick x1) :=
  OutMemKeeps.ofSame (execMediaTick_same _) (by decide)

theorem execPtpCorrelationRecord_mem (x1 : Fin 2) (x2 x3 : Nat) (x4 : Int) (x5 : State) :
    OutMemKeeps x5 (execPtpCorrelationRecord x1 x2 x3 x4 x5) :=
  OutMemKeeps.ofSame (execPtpCorrelationRecord_same _ _ _ _ _) (by decide)

theorem execSourceLost_mem (x1 : Fin 4) (x2 : State) :
    OutMemKeeps x2 (execSourceLost x1 x2) :=
  OutMemKeeps.ofSame (execSourceLost_same _ _) (by decide)

theorem execSourceSwitch_mem (x1 : Fin 4) (x2 : State) :
    OutMemKeeps x2 (execSourceSwitch x1 x2) :=
  OutMemKeeps.ofSame (execSourceSwitch_same _ _) (by decide)

theorem execAcquireTimeout_mem (x1 : State) :
    OutMemKeeps x1 (execAcquireTimeout x1) :=
  OutMemKeeps.ofSame (execAcquireTimeout_same _) (by decide)

theorem execHoldoverLimitExpiry_mem (x1 : State) :
    OutMemKeeps x1 (execHoldoverLimitExpiry x1) :=
  OutMemKeeps.ofSame (execHoldoverLimitExpiry_same _) (by decide)

theorem execMediaReferenceSourceWrite_mem (x1 : Nat) (x2 : State) :
    OutMemKeeps x2 (execMediaReferenceSourceWrite x1 x2) :=
  OutMemKeeps.ofSame (execMediaReferenceSourceWrite_same _ _) (by decide)

theorem execFrameLengthWrite_mem (x1 : Nat) (x2 : State) :
    OutMemKeeps x2 (execFrameLengthWrite x1 x2) :=
  OutMemKeeps.ofSame (execFrameLengthWrite_same _ _) (by decide)

theorem execFirstFrameBegin_mem (x1 : Nat) (x2 : State) :
    OutMemKeeps x2 (execFirstFrameBegin x1 x2) :=
  OutMemKeeps.ofSame (execFirstFrameBegin_same _ _) (by decide)

end Sys2Proof.Machine
end

