-- ==== Sys2Proof/Laws/MemBringUp.lean ====
section
/-! SUPPORT. The functions of Machine/BringUp.lean keep the memories in canonical form. -/

namespace Sys2Proof.Machine

open Sys2Proof

theorem State.bring5_mem (x1 : BringUp) (x2 : State) :
    MemKeeps x2 (State.bring5 x1 x2) := by
  unfold State.bring5
  refine MemKeeps.ite ?_ ?_
  · with_reducible refine MemKeeps.step (State.faultOff_mem _ _) ?_
    exact MemKeeps.refl _
  · extract_lets v0 v1 v2
    refine MemKeeps.have v0 ?_ fun h3 => ?_
    · refine MemKeeps.foldl ?_ fun q4 y5 h6 => ?_
      · exact MemKeeps.refl _
      · with_reducible refine MemKeeps.step (MemKeeps.ofSame (State.setDie_same _ _ _) (by decide)) ?_
        exact h6
    clear_value v0
    refine MemKeeps.have v2 ?_ fun h7 => ?_
    · dsimp only [v2]
      with_reducible refine MemKeeps.record rfl ?_ ?_
      · exact MemKeeps.of_eq rfl rfl
      exact h3
    clear_value v2
    with_reducible refine MemKeeps.step (MemKeeps.ofSame (State.bringEnd_same _ _) (by decide)) ?_
    exact h7

theorem State.bring7_mem (x1 : State) :
    MemKeeps x1 (State.bring7 x1) := by
  unfold State.bring7
  extract_lets v0 v1 v2 v3 v4
  refine MemKeeps.have v0 ?_ fun h5 => ?_
  · refine MemKeeps.foldl ?_ fun q6 y7 h8 => ?_
    · exact MemKeeps.refl _
    · with_reducible refine MemKeeps.step (MemKeeps.ofSame (State.loadComp_same _ _ _) (by decide)) ?_
      exact h8
  clear_value v0
  refine MemKeeps.have v1 ?_ fun h9 => ?_
  · refine MemKeeps.ite ?_ ?_
    · exact h5
    · refine MemKeeps.foldl ?_ fun q10 y11 h12 => ?_
      · exact h5
      · with_reducible refine MemKeeps.step (MemKeeps.ofSame (State.isolateSite_same _ _) (by decide)) ?_
        exact h12
  clear_value v1
  refine MemKeeps.have v2 ?_ fun h13 => ?_
  · refine MemKeeps.ite ?_ ?_
    · exact h9
    · refine MemKeeps.foldl ?_ fun q14 y15 h16 => ?_
      · exact h9
      · with_reducible refine State.setStore_mem ?_ ?_
        · exact h16
        · exact fun h => MemOk.store h _
  clear_value v2
  refine MemKeeps.have v3 ?_ fun h17 => ?_
  · refine MemKeeps.ite ?_ ?_
    · exact h13
    · refine MemKeeps.foldl ?_ fun q18 y19 h20 => ?_
      · exact h13
      · with_reducible refine MemKeeps.step (MemKeeps.ofSame (State.setRegion_same _ _ _) (by decide)) ?_
        exact h20
  clear_value v3
  refine MemKeeps.have v4 ?_ fun h21 => ?_
  · refine MemKeeps.ite ?_ ?_
    · exact h17
    · refine MemKeeps.foldl ?_ fun q22 y23 h24 => ?_
      · exact h17
      · with_reducible refine MemKeeps.step (MemKeeps.ofSame (State.setChan_same _ _ _) (by decide)) ?_
        exact h24
  clear_value v4
  with_reducible refine MemKeeps.step (MemKeeps.ofSame (State.bringEnd_same _ _) (by decide)) ?_
  exact h21

theorem State.bringPolder_mem (x1 : BringUp) (x2 : State) (x3 : Nat) :
    MemKeeps x2 (State.bringPolder x1 x2 x3) := by
  unfold State.bringPolder
  extract_lets v0
  with_reducible refine State.setStore_mem ?_ ?_
  · exact MemKeeps.refl _
  · exact fun h => MemOk.store h _

theorem State.bringChan_mem (x1 : BringUp) (x2 : State) (x3 : Nat) :
    MemKeeps x2 (State.bringChan x1 x2 x3) := by
  unfold State.bringChan
  extract_lets v0 v1
  refine MemKeeps.have v1 ?_ fun h2 => ?_
  · with_reducible refine MemKeeps.step (MemKeeps.ofSame (State.setChan_same _ _ _) (by decide)) ?_
    exact MemKeeps.refl _
  clear_value v1
  refine MemKeeps.ite ?_ ?_
  · exact MemKeeps.refl _
  · split
    · rename_i e3 e4
      with_reducible refine MemKeeps.step (State.channelFail_mem _ _) ?_
      exact h2
    · rename_i e5 e6 e7
      extract_lets v8
      refine MemKeeps.have v8 ?_ fun h9 => ?_
      · with_reducible refine MemKeeps.step (MemKeeps.ofSame (State.setChan_same _ _ _) (by decide)) ?_
        exact h2
      clear_value v8
      refine MemKeeps.ite ?_ ?_
      · exact h9
      · refine MemKeeps.ite ?_ ?_
        · with_reducible refine MemKeeps.step (State.channelFail_mem _ _) ?_
          exact h9
        · with_reducible refine MemKeeps.step (State.channelIn_mem _ _) ?_
          exact h9

theorem State.bring9_mem (x1 : BringUp) (x2 : State) :
    MemKeeps x2 (State.bring9 x1 x2) := by
  unfold State.bring9
  extract_lets v0 v1 v2 v3
  refine MemKeeps.have v1 ?_ fun h4 => ?_
  · refine MemKeeps.foldl ?_ fun q5 y6 h7 => ?_
    · exact MemKeeps.refl _
    · with_reducible refine MemKeeps.step (State.bringPolder_mem _ _ _) ?_
      exact h7
  clear_value v1
  refine MemKeeps.have v2 ?_ fun h8 => ?_
  · refine MemKeeps.foldl ?_ fun q9 y10 h11 => ?_
    · with_reducible refine MemKeeps.step (MemKeeps.ofSame (State.setReg_same _ _ _) (by decide)) ?_
      exact h4
    · with_reducible refine MemKeeps.step (State.bringChan_mem _ _ _) ?_
      exact h11
  clear_value v2
  refine MemKeeps.have v3 ?_ fun h12 => ?_
  · refine MemKeeps.ite ?_ ?_
    · exact MemKeeps.refl _
    · with_reducible refine MemKeeps.step (MemKeeps.ofSame (State.groundStart_same _) (by decide)) ?_
      with_reducible refine MemKeeps.step (MemKeeps.ofSame (State.reserveTrace_same _) (by decide)) ?_
      exact h8
  clear_value v3
  refine MemKeeps.ite ?_ ?_
  · with_reducible refine MemKeeps.step (MemKeeps.ofSame (State.bringEnd_same _ _) (by decide)) ?_
    with_reducible refine MemKeeps.step (MemKeeps.ofSame (State.groundTrain_same _ _) (by decide)) ?_
    with_reducible refine MemKeeps.step (MemKeeps.ofSame (State.lightUp_same _ _) (by decide)) ?_
    exact h12
  · exact h12

theorem execLaserWaitTimeout_mem (x1 : State) :
    OutMemKeeps x1 (execLaserWaitTimeout x1) :=
  OutMemKeeps.ofSame (execLaserWaitTimeout_same _) (by decide)

theorem State.bringStep_mem (x1 : BringUp) (x2 : State) (x3 : Nat) :
    MemKeeps x2 (State.bringStep x1 x2 x3) := by
  unfold State.bringStep
  refine MemKeeps.ite ?_ ?_
  · exact MemKeeps.refl _
  · split
    · rename_i e0
      with_reducible refine MemKeeps.step (MemKeeps.ofSame (State.bring2_same _ _) (by decide)) ?_
      exact MemKeeps.refl _
    · rename_i e1
      with_reducible refine MemKeeps.step (MemKeeps.ofSame (State.bring3_same _) (by decide)) ?_
      exact MemKeeps.refl _
    · rename_i e2
      with_reducible refine MemKeeps.step (MemKeeps.ofSame (State.bring4_same _) (by decide)) ?_
      exact MemKeeps.refl _
    · rename_i e3
      with_reducible refine MemKeeps.step (State.bring5_mem _ _) ?_
      exact MemKeeps.refl _
    · rename_i e4
      with_reducible refine MemKeeps.step (MemKeeps.ofSame (State.bring6_same _ _) (by decide)) ?_
      exact MemKeeps.refl _
    · rename_i e5
      with_reducible refine MemKeeps.step (State.bring7_mem _) ?_
      exact MemKeeps.refl _
    · rename_i e6
      with_reducible refine MemKeeps.step (MemKeeps.ofSame (State.bring8_same _) (by decide)) ?_
      exact MemKeeps.refl _
    · rename_i e7
      with_reducible refine MemKeeps.step (State.bring9_mem _ _) ?_
      exact MemKeeps.refl _
    · rename_i e8
      with_reducible refine MemKeeps.step (MemKeeps.ofSame (State.bring10_same _) (by decide)) ?_
      exact MemKeeps.refl _
    · rename_i e9
      with_reducible refine MemKeeps.step (MemKeeps.ofSame (State.bring11_same _ _) (by decide)) ?_
      exact MemKeeps.refl _
    · rename_i e10
      with_reducible refine MemKeeps.step (MemKeeps.ofSame (State.bring12_same _) (by decide)) ?_
      exact MemKeeps.refl _
    · rename_i e11
      with_reducible refine MemKeeps.step (MemKeeps.ofSame (State.bring13_same _) (by decide)) ?_
      exact MemKeeps.refl _
    · rename_i e12 e13 e14 e15 e16 e17 e18 e19 e20 e21 e22 e23 e24
      exact MemKeeps.refl _

theorem execBringUp_mem (x1 : BringUp) (x2 : State) :
    OutMemKeeps x2 (execBringUp x1 x2) := by
  unfold execBringUp
  refine OutMemKeeps.next ?_
  refine MemKeeps.foldl ?_ fun q0 y1 h2 => ?_
  · exact MemKeeps.refl _
  · refine MemKeeps.ite ?_ ?_
    · with_reducible refine MemKeeps.step (State.bringStep_mem _ _ _) ?_
      exact h2
    · exact h2

end Sys2Proof.Machine
end

