-- ==== Sys2Proof/Laws/MemFabric.lean ====
section
/-! SUPPORT. The functions of Machine/Fabric.lean keep the memories in canonical form. -/

namespace Sys2Proof.Machine

open Sys2Proof

theorem State.arrive_mem {s0 s : State} {p : Packet} {mine : Nat → Bool} {good : State → State}
    (h : MemKeeps s0 s) (hg : ∀ t, MemKeeps s0 t → MemKeeps s0 (good t)) : MemKeeps s0 (s.arrive p mine good) := by
  unfold State.arrive
  repeat' split
  · exact h
  · exact h.trans (MemKeeps.ofSame (State.badCrc_same _ _) (by decide))
  · exact h.trans (MemKeeps.ofSame (State.arrivePair_same _ _ _) (by decide))
  · exact h.trans (MemKeeps.ofSame (State.bump_same _ _) (by decide))
  · exact h.trans (MemKeeps.ofSame (State.reply_same _ _ _ _) (by decide))
  · exact hg _ h
  · exact h
  · exact h.trans (MemKeeps.ofSame (State.bump_same _ _) (by decide))
  · exact hg _ h
  · exact h

theorem State.doRead_mem (x1 : State) (x2 : Packet) (x3 : Bool) (x4 : List MemError) :
    MemKeeps x1 (State.doRead x1 x2 x3 x4) := by
  unfold State.doRead
  split
  · rename_i e0 e1 e2 e3
    with_reducible refine MemKeeps.step (MemKeeps.ofSame (State.reply_same _ _ _ _) (by decide)) ?_
    refine MemKeeps.fstOf e3 ?_
    with_reducible refine MemKeeps.step (State.admitPacket_mem _ _ _ _ _ _) ?_
    exact MemKeeps.refl _
  · rename_i e4 e5 e6 e7
    refine MemKeeps.ite ?_ ?_
    · refine MemKeeps.fstOf e7 ?_
      with_reducible refine MemKeeps.step (State.admitPacket_mem _ _ _ _ _ _) ?_
      exact MemKeeps.refl _
    · extract_lets v8 v9
      refine MemKeeps.have v8 ?_ fun h10 => ?_
      · with_reducible refine MemKeeps.step (State.memErrors_mem _ _) ?_
        refine MemKeeps.fstOf e7 ?_
        with_reducible refine MemKeeps.step (State.admitPacket_mem _ _ _ _ _ _) ?_
        exact MemKeeps.refl _
      clear_value v8
      refine MemKeeps.have v9 ?_ fun h11 => ?_
      · dsimp only [v9]
        split
        · rename_i e12 e13 e14 e15
          with_reducible refine MemKeeps.step (State.wake_mem _ _ _) ?_
          exact h10
        · rename_i e16 e17
          exact h10
      clear_value v9
      split
      · rename_i e18 e19
        with_reducible refine MemKeeps.step (MemKeeps.ofSame (State.reply_same _ _ _ _) (by decide)) ?_
        exact h10
      · rename_i e20 e21 e22
        with_reducible refine MemKeeps.step (MemKeeps.ofSame (State.reply_same _ _ _ _) (by decide)) ?_
        exact h11

theorem execRead_mem (x1 : Packet) (x2 : List MemError) (x3 : State) :
    OutMemKeeps x3 (execRead x1 x2 x3) := by
  unfold execRead
  refine OutMemKeeps.next ?_
  with_reducible refine State.arrive_mem ?_ ?_
  · exact MemKeeps.refl _
  · intro y0 h1
    with_reducible refine MemKeeps.step (State.doRead_mem _ _ _ _) ?_
    exact h1

theorem execWrite_mem (x1 : Packet) (x2 : State) :
    OutMemKeeps x2 (execWrite x1 x2) := by
  unfold execWrite
  refine OutMemKeeps.next ?_
  with_reducible refine State.arrive_mem ?_ ?_
  · exact MemKeeps.refl _
  · intro y0 h1
    with_reducible refine MemKeeps.step (State.doWrite_mem _ _ _) ?_
    exact h1

theorem execFlag_mem (x1 : Packet) (x2 : State) :
    OutMemKeeps x2 (execFlag x1 x2) := by
  unfold execFlag
  refine OutMemKeeps.next ?_
  with_reducible refine State.arrive_mem ?_ ?_
  · exact MemKeeps.refl _
  · intro y0 h1
    with_reducible refine MemKeeps.step (State.doFlag_mem _ _ _) ?_
    exact h1

theorem execFlagEntryTimeout_mem (x1 : Fin 4096) (x2 : Nat) (x3 : Fin 4) (x4 : State) :
    OutMemKeeps x4 (execFlagEntryTimeout x1 x2 x3 x4) :=
  OutMemKeeps.ofSame (execFlagEntryTimeout_same _ _ _ _) (by decide)

theorem execReplyCacheGuardEnd_mem (x1 : Fin 12) (x2 : State) :
    OutMemKeeps x2 (execReplyCacheGuardEnd x1 x2) :=
  OutMemKeeps.ofSame (execReplyCacheGuardEnd_same _ _) (by decide)

theorem State.atomicPacket_mem (x1 : State) (x2 : Packet) (x3 : Nat) :
    MemKeeps x1 (State.atomicPacket x1 x2 x3) := by
  unfold State.atomicPacket
  with_reducible refine State.arrive_mem ?_ ?_
  · exact MemKeeps.refl _
  · intro y0 h1
    refine MemKeeps.ite ?_ ?_
    · with_reducible refine MemKeeps.step (MemKeeps.ofSame (State.reply_same _ _ _ _) (by decide)) ?_
      exact h1
    · refine MemKeeps.ite ?_ ?_
      · with_reducible refine MemKeeps.step (State.doAtomic_mem _ _) ?_
        exact h1
      · exact h1

theorem execAdd32_mem (x1 : Packet) (x2 : State) :
    OutMemKeeps x2 (execAdd32 x1 x2) := by
  unfold execAdd32
  refine OutMemKeeps.next ?_
  with_reducible refine MemKeeps.step (State.atomicPacket_mem _ _ _) ?_
  exact MemKeeps.refl _

theorem execAdd64_mem (x1 : Packet) (x2 : State) :
    OutMemKeeps x2 (execAdd64 x1 x2) := by
  unfold execAdd64
  refine OutMemKeeps.next ?_
  with_reducible refine MemKeeps.step (State.atomicPacket_mem _ _ _) ?_
  exact MemKeeps.refl _

theorem execSwap32_mem (x1 : Packet) (x2 : State) :
    OutMemKeeps x2 (execSwap32 x1 x2) := by
  unfold execSwap32
  refine OutMemKeeps.next ?_
  with_reducible refine MemKeeps.step (State.atomicPacket_mem _ _ _) ?_
  exact MemKeeps.refl _

theorem execSwap64_mem (x1 : Packet) (x2 : State) :
    OutMemKeeps x2 (execSwap64 x1 x2) := by
  unfold execSwap64
  refine OutMemKeeps.next ?_
  with_reducible refine MemKeeps.step (State.atomicPacket_mem _ _ _) ?_
  exact MemKeeps.refl _

theorem execCas32_mem (x1 : Packet) (x2 : State) :
    OutMemKeeps x2 (execCas32 x1 x2) := by
  unfold execCas32
  refine OutMemKeeps.next ?_
  with_reducible refine MemKeeps.step (State.atomicPacket_mem _ _ _) ?_
  exact MemKeeps.refl _

theorem execCas64_mem (x1 : Packet) (x2 : State) :
    OutMemKeeps x2 (execCas64 x1 x2) := by
  unfold execCas64
  refine OutMemKeeps.next ?_
  with_reducible refine MemKeeps.step (State.atomicPacket_mem _ _ _) ?_
  exact MemKeeps.refl _

theorem execUmax32_mem (x1 : Packet) (x2 : State) :
    OutMemKeeps x2 (execUmax32 x1 x2) := by
  unfold execUmax32
  refine OutMemKeeps.next ?_
  with_reducible refine MemKeeps.step (State.atomicPacket_mem _ _ _) ?_
  exact MemKeeps.refl _

theorem execUmax64_mem (x1 : Packet) (x2 : State) :
    OutMemKeeps x2 (execUmax64 x1 x2) := by
  unfold execUmax64
  refine OutMemKeeps.next ?_
  with_reducible refine MemKeeps.step (State.atomicPacket_mem _ _ _) ?_
  exact MemKeeps.refl _

theorem execUmin32_mem (x1 : Packet) (x2 : State) :
    OutMemKeeps x2 (execUmin32 x1 x2) := by
  unfold execUmin32
  refine OutMemKeeps.next ?_
  with_reducible refine MemKeeps.step (State.atomicPacket_mem _ _ _) ?_
  exact MemKeeps.refl _

theorem execUmin64_mem (x1 : Packet) (x2 : State) :
    OutMemKeeps x2 (execUmin64 x1 x2) := by
  unfold execUmin64
  refine OutMemKeeps.next ?_
  with_reducible refine MemKeeps.step (State.atomicPacket_mem _ _ _) ?_
  exact MemKeeps.refl _

theorem execOr32_mem (x1 : Packet) (x2 : State) :
    OutMemKeeps x2 (execOr32 x1 x2) := by
  unfold execOr32
  refine OutMemKeeps.next ?_
  with_reducible refine MemKeeps.step (State.atomicPacket_mem _ _ _) ?_
  exact MemKeeps.refl _

theorem execOr64_mem (x1 : Packet) (x2 : State) :
    OutMemKeeps x2 (execOr64 x1 x2) := by
  unfold execOr64
  refine OutMemKeeps.next ?_
  with_reducible refine MemKeeps.step (State.atomicPacket_mem _ _ _) ?_
  exact MemKeeps.refl _

theorem execAnd32_mem (x1 : Packet) (x2 : State) :
    OutMemKeeps x2 (execAnd32 x1 x2) := by
  unfold execAnd32
  refine OutMemKeeps.next ?_
  with_reducible refine MemKeeps.step (State.atomicPacket_mem _ _ _) ?_
  exact MemKeeps.refl _

theorem execAnd64_mem (x1 : Packet) (x2 : State) :
    OutMemKeeps x2 (execAnd64 x1 x2) := by
  unfold execAnd64
  refine OutMemKeeps.next ?_
  with_reducible refine MemKeeps.step (State.atomicPacket_mem _ _ _) ?_
  exact MemKeeps.refl _

theorem execInvalidate_mem (x1 : Packet) (x2 : State) :
    OutMemKeeps x2 (execInvalidate x1 x2) :=
  OutMemKeeps.ofSame (execInvalidate_same _ _) (by decide)

theorem execLineCacheFlush_mem (x1 : Nat) (x2 : State) :
    OutMemKeeps x2 (execLineCacheFlush x1 x2) :=
  OutMemKeeps.ofSame (execLineCacheFlush_same _ _) (by decide)

theorem execProbe_mem (x1 : Packet) (x2 : State) :
    OutMemKeeps x2 (execProbe x1 x2) :=
  OutMemKeeps.ofSame (execProbe_same _ _) (by decide)

theorem execReadresp_mem (x1 : Packet) (x2 : State) :
    OutMemKeeps x2 (execReadresp x1 x2) :=
  OutMemKeeps.ofSame (execReadresp_same _ _) (by decide)

theorem execWriteack_mem (x1 : Packet) (x2 : State) :
    OutMemKeeps x2 (execWriteack x1 x2) :=
  OutMemKeeps.ofSame (execWriteack_same _ _) (by decide)

theorem execFlagack_mem (x1 : Packet) (x2 : State) :
    OutMemKeeps x2 (execFlagack x1 x2) :=
  OutMemKeeps.ofSame (execFlagack_same _ _) (by decide)

theorem execAtomicresp_mem (x1 : Packet) (x2 : State) :
    OutMemKeeps x2 (execAtomicresp x1 x2) :=
  OutMemKeeps.ofSame (execAtomicresp_same _ _) (by decide)

theorem execTriggerresp_mem (x1 : Packet) (x2 : State) :
    OutMemKeeps x2 (execTriggerresp x1 x2) :=
  OutMemKeeps.ofSame (execTriggerresp_same _ _) (by decide)

theorem execInvalack_mem (x1 : Packet) (x2 : State) :
    OutMemKeeps x2 (execInvalack x1 x2) :=
  OutMemKeeps.ofSame (execInvalack_same _ _) (by decide)

theorem execProberesp_mem (x1 : Packet) (x2 : State) :
    OutMemKeeps x2 (execProberesp x1 x2) :=
  OutMemKeeps.ofSame (execProberesp_same _ _) (by decide)

theorem execResponseTimeout_mem (x1 x2 : Nat) (x3 : State) :
    OutMemKeeps x3 (execResponseTimeout x1 x2 x3) :=
  OutMemKeeps.ofSame (execResponseTimeout_same _ _ _) (by decide)

theorem execBusyResend_mem (x1 x2 : Nat) (x3 : State) :
    OutMemKeeps x3 (execBusyResend x1 x2 x3) :=
  OutMemKeeps.ofSame (execBusyResend_same _ _ _) (by decide)

theorem State.trigger_mem {s0 s : State} {p : Packet} {mine : Nat → Bool} {run : State → State}
    (h : MemKeeps s0 s) (hr : ∀ t, MemKeeps s0 t → MemKeeps s0 (run t)) : MemKeeps s0 (s.trigger p mine run) := by
  refine State.arrive_mem h fun t ht => ?_
  split
  · exact ht
  · refine State.again_mem ht ?_
    split
    · exact (ht.trans (MemKeeps.ofSame (State.bump_same _ _) (by decide))).trans (MemKeeps.ofSame (State.reply_same _ _ _ _) (by decide))
    · exact State.once_mem ht hr

theorem execPing_mem (x1 : Packet) (x2 : State) :
    OutMemKeeps x2 (execPing x1 x2) :=
  OutMemKeeps.ofSame (execPing_same _ _) (by decide)

theorem execRaiseFence_mem (x1 : Packet) (x2 : State) :
    OutMemKeeps x2 (execRaiseFence x1 x2) :=
  OutMemKeeps.ofSame (execRaiseFence_same _ _) (by decide)

theorem execFlushLineCache_mem (x1 : Packet) (x2 : State) :
    OutMemKeeps x2 (execFlushLineCache x1 x2) :=
  OutMemKeeps.ofSame (execFlushLineCache_same _ _) (by decide)

theorem execHostProcedure_mem (x1 : Packet) (x2 : State) :
    OutMemKeeps x2 (execHostProcedure x1 x2) :=
  OutMemKeeps.ofSame (execHostProcedure_same _ _) (by decide)

theorem execClaimFenceWrite_mem (x1 : Fin 48) (x2 : Nat) (x3 : State) :
    OutMemKeeps x3 (execClaimFenceWrite x1 x2 x3) :=
  OutMemKeeps.ofSame (execClaimFenceWrite_same _ _ _) (by decide)

theorem State.routeLoadStart_mem (x1 : State) :
    MemKeeps x1 (State.routeLoadStart x1) := by
  unfold State.routeLoadStart
  extract_lets v0 v1
  refine MemKeeps.have v1 ?_ fun h2 => ?_
  · with_reducible refine MemKeeps.step (State.tierTouch_mem _ _ _) ?_
    exact MemKeeps.refl _
  clear_value v1
  with_reducible refine MemKeeps.step (MemKeeps.ofSame (State.answer_same _ _) (by decide)) ?_
  with_reducible refine MemKeeps.step (MemKeeps.ofSame (State.setReg_same _ _ _) (by decide)) ?_
  with_reducible refine MemKeeps.record rfl ?_ ?_
  · exact MemKeeps.of_eq rfl rfl
  exact h2

theorem State.writeRouteCommand_mem (x1 : State) (x2 : Nat) :
    MemKeeps x1 (State.writeRouteCommand x1 x2) := by
  unfold State.writeRouteCommand
  refine MemKeeps.ite ?_ ?_
  · with_reducible refine MemKeeps.step (MemKeeps.ofSame (State.answer_same _ _) (by decide)) ?_
    exact MemKeeps.refl _
  · refine MemKeeps.ite ?_ ?_
    · with_reducible refine MemKeeps.step (MemKeeps.ofSame (State.answer_same _ _) (by decide)) ?_
      exact MemKeeps.refl _
    · refine MemKeeps.ite ?_ ?_
      · with_reducible refine MemKeeps.step (State.routeLoadStart_mem _) ?_
        exact MemKeeps.refl _
      · with_reducible refine MemKeeps.step (MemKeeps.ofSame (State.routeSwitchNow_same _) (by decide)) ?_
        exact MemKeeps.refl _

theorem execRouteLoad_mem (x1 : State) :
    OutMemKeeps x1 (execRouteLoad x1) := by
  unfold execRouteLoad
  refine OutMemKeeps.next ?_
  with_reducible refine MemKeeps.step (State.writeRouteCommand_mem _ _) ?_
  exact MemKeeps.refl _

theorem execRouteSwitch_mem (x1 : State) :
    OutMemKeeps x1 (execRouteSwitch x1) := by
  unfold execRouteSwitch
  refine OutMemKeeps.next ?_
  with_reducible refine MemKeeps.step (State.writeRouteCommand_mem _ _) ?_
  exact MemKeeps.refl _

theorem execRouteLoadEnd_mem (x1 : State) :
    OutMemKeeps x1 (execRouteLoadEnd x1) :=
  OutMemKeeps.ofSame (execRouteLoadEnd_same _) (by decide)

theorem execEpochFree_mem (x1 : Bool) (x2 : State) :
    OutMemKeeps x2 (execEpochFree x1 x2) :=
  OutMemKeeps.ofSame (execEpochFree_same _ _) (by decide)

theorem execFabricLaneTrained_mem (x1 : Fin 4) (x2 : Fin 8) (x3 : State) :
    OutMemKeeps x3 (execFabricLaneTrained x1 x2 x3) :=
  OutMemKeeps.ofSame (execFabricLaneTrained_same _ _ _) (by decide)

theorem State.dykeAdmit_mem (x1 : State) (x2 : Nat) (x3 : Packet) :
    MemKeeps x1 (State.dykeAdmit x1 x2 x3) := by
  unfold State.dykeAdmit
  extract_lets v0 v1
  refine MemKeeps.have v1 ?_ fun h2 => ?_
  · with_reducible refine MemKeeps.step (MemKeeps.ofSame (State.bump_same _ _) (by decide)) ?_
    exact MemKeeps.refl _
  clear_value v1
  refine MemKeeps.ite ?_ ?_
  · refine MemKeeps.ite ?_ ?_
    · with_reducible refine MemKeeps.step (MemKeeps.ofSame (State.bump_same _ _) (by decide)) ?_
      exact MemKeeps.refl _
    · with_reducible refine MemKeeps.step (MemKeeps.ofSame (State.reply_same _ _ _ _) (by decide)) ?_
      with_reducible refine MemKeeps.step (MemKeeps.ofSame (State.bump_same _ _) (by decide)) ?_
      exact MemKeeps.refl _
  · refine MemKeeps.ite ?_ ?_
    · refine MemKeeps.ite ?_ ?_
      · with_reducible refine MemKeeps.step (MemKeeps.ofSame (State.reply_same _ _ _ _) (by decide)) ?_
        exact h2
      · refine MemKeeps.ite ?_ ?_
        · with_reducible refine MemKeeps.step (State.doRead_mem _ _ _ _) ?_
          exact h2
        · refine MemKeeps.ite ?_ ?_
          · with_reducible refine MemKeeps.step (State.doWrite_mem _ _ _) ?_
            exact h2
          · with_reducible refine MemKeeps.step (State.doFlag_mem _ _ _) ?_
            exact h2
    · with_reducible refine MemKeeps.step (MemKeeps.ofSame (State.reply_same _ _ _ _) (by decide)) ?_
      with_reducible refine MemKeeps.step (MemKeeps.ofSame (State.bump_same _ _) (by decide)) ?_
      exact MemKeeps.refl _

theorem State.dykeTake_mem (x1 : State) (x2 : Nat) (x3 : Packet) :
    MemKeeps x1 (State.dykeTake x1 x2 x3) := by
  unfold State.dykeTake
  extract_lets v0
  refine MemKeeps.have v0 ?_ fun h1 => ?_
  · with_reducible refine MemKeeps.step (State.dykeAdmit_mem _ _ _) ?_
    exact MemKeeps.refl _
  clear_value v0
  split
  · rename_i e2 e3 e4
    refine MemKeeps.ite ?_ ?_
    · with_reducible refine MemKeeps.step (MemKeeps.ofSame (State.setGuest_same _ _ _) (by decide)) ?_
      exact h1
    · exact h1
  · rename_i e5 e6
    exact h1

theorem execDykeGuestPacket_mem (x1 : Fin 2) (x2 : Packet) (x3 : State) :
    OutMemKeeps x3 (execDykeGuestPacket x1 x2 x3) := by
  unfold execDykeGuestPacket
  extract_lets v0 v1 v2 v3
  refine OutMemKeeps.ite ?_ ?_
  · refine OutMemKeeps.next ?_
    exact MemKeeps.refl _
  · refine OutMemKeeps.ite ?_ ?_
    · refine OutMemKeeps.next ?_
      with_reducible refine MemKeeps.step (MemKeeps.ofSame (State.badCrc_same _ _) (by decide)) ?_
      exact MemKeeps.refl _
    · refine OutMemKeeps.ite ?_ ?_
      · refine OutMemKeeps.next ?_
        with_reducible refine MemKeeps.step (MemKeeps.ofSame (State.addReg_same _ _ _) (by decide)) ?_
        with_reducible refine MemKeeps.step (MemKeeps.ofSame (State.setGuest_same _ _ _) (by decide)) ?_
        exact MemKeeps.refl _
      · refine OutMemKeeps.next ?_
        with_reducible refine MemKeeps.step (State.dykeTake_mem _ _ _) ?_
        with_reducible refine MemKeeps.step (MemKeeps.ofSame (State.setGuest_same _ _ _) (by decide)) ?_
        exact MemKeeps.refl _

theorem State.dykeGoOn_mem (x1 : State) (x2 x3 : Nat) :
    MemKeeps x1 (State.dykeGoOn x1 x2 x3) := by
  induction x3 generalizing x1 with
  | zero => exact MemKeeps.refl _
  | succ k ih =>
    unfold State.dykeGoOn
    dsimp only
    split
    · exact MemKeeps.refl _
    · split
      · exact MemKeeps.refl _
      · exact MemKeeps.trans (MemKeeps.step (State.dykeTake_mem _ _ _) (MemKeeps.ofSame (State.setGuest_same _ _ _) (by decide))) (ih _)

theorem State.dykePeriod_mem (x1 : State) :
    MemKeeps x1 (State.dykePeriod x1) := by
  unfold State.dykePeriod
  refine MemKeeps.foldl ?_ fun q0 y1 h2 => ?_
  · exact MemKeeps.refl _
  · extract_lets v3 v4
    with_reducible refine MemKeeps.step (State.dykeGoOn_mem _ _ _) ?_
    with_reducible refine MemKeeps.step (MemKeeps.ofSame (State.setGuest_same _ _ _) (by decide)) ?_
    exact h2

theorem execDykeWindowWrite_mem (x1 : Fin 2) (x2 : Fin 32) (x3 : Nat) (x4 : State) :
    OutMemKeeps x4 (execDykeWindowWrite x1 x2 x3 x4) :=
  OutMemKeeps.ofSame (execDykeWindowWrite_same _ _ _ _) (by decide)

end Sys2Proof.Machine
end

