-- ==== Sys2Proof/Laws/MemDictionary.lean ====
section
/-! SUPPORT. The functions of Machine/Dictionary.lean keep the memories in canonical form. -/

namespace Sys2Proof.Machine

open Sys2Proof

theorem execAccessKeyWrite_mem (x1 : Fin 4) (x2 : Fin 16) (x3 : Nat) (x4 : State) :
    OutMemKeeps x4 (execAccessKeyWrite x1 x2 x3 x4) :=
  OutMemKeeps.ofSame (execAccessKeyWrite_same _ _ _ _) (by decide)

theorem execFieldSealArm_mem (x1 : BitVec 32) (x2 : State) :
    OutMemKeeps x2 (execFieldSealArm x1 x2) :=
  OutMemKeeps.ofSame (execFieldSealArm_same _ _) (by decide)

theorem execFieldSealConfirm_mem (x1 : BitVec 32) (x2 : State) :
    OutMemKeeps x2 (execFieldSealConfirm x1 x2) :=
  OutMemKeeps.ofSame (execFieldSealConfirm_same _ _) (by decide)

theorem execFieldSealArmExpiry_mem (x1 : State) :
    OutMemKeeps x1 (execFieldSealArmExpiry x1) :=
  OutMemKeeps.ofSame (execFieldSealArmExpiry_same _) (by decide)

theorem execRestoreDefaults_mem (x1 : Nat) (x2 : State) :
    OutMemKeeps x2 (execRestoreDefaults x1 x2) :=
  OutMemKeeps.ofSame (execRestoreDefaults_same _ _) (by decide)

theorem State.writeIdle_mem (x1 : State) (x2 : ObjRow) (x3 x4 x5 : Nat) :
    MemKeeps x1 (State.writeIdle x1 x2 x3 x4 x5) := by
  unfold State.writeIdle
  extract_lets v0
  refine MemKeeps.have v0 ?_ fun h1 => ?_
  · with_reducible refine MemKeeps.step (MemKeeps.ofSame (State.writePlain_same _ _ _ _ _) (by decide)) ?_
    exact MemKeeps.refl _
  clear_value v0
  refine MemKeeps.ite ?_ ?_
  · refine MemKeeps.foldl ?_ fun q2 y3 h4 => ?_
    · exact h1
    · with_reducible refine MemKeeps.step (State.touch_mem _ _) ?_
      exact h4
  · exact h1

theorem State.writeObj_mem (x1 : State) (x2 : Who) (x3 : ObjRow) (x4 x5 x6 : Nat) :
    MemKeeps x1 (State.writeObj x1 x2 x3 x4 x5 x6) := by
  unfold State.writeObj
  refine MemKeeps.ite ?_ ?_
  · with_reducible refine MemKeeps.step (MemKeeps.ofSame (State.writeSticky_same _ _ _ _) (by decide)) ?_
    exact MemKeeps.refl _
  · split
    · rename_i e0 e1
      with_reducible refine MemKeeps.step (MemKeeps.ofSame (State.writeRestore_same _ _) (by decide)) ?_
      exact MemKeeps.refl _
    · rename_i e2 e3
      with_reducible refine MemKeeps.step (MemKeeps.ofSame (State.writeKey_same _ _ _ _) (by decide)) ?_
      exact MemKeeps.refl _
    · rename_i e4 e5
      with_reducible refine MemKeeps.step (MemKeeps.ofSame (writeFrameLength_same _ _) (by decide)) ?_
      exact MemKeeps.refl _
    · rename_i e6 e7
      with_reducible refine MemKeeps.step (MemKeeps.ofSame (writeReferenceSource_same _ _) (by decide)) ?_
      exact MemKeeps.refl _
    · rename_i e8 e9
      with_reducible refine MemKeeps.step (MemKeeps.ofSame (State.writePoint_same _ _ _) (by decide)) ?_
      exact MemKeeps.refl _
    · rename_i e10 e11
      with_reducible refine MemKeeps.step (writePatternCommand_mem _ _) ?_
      exact MemKeeps.refl _
    · rename_i e12 e13
      with_reducible refine MemKeeps.step (State.writeIdle_mem _ _ _ _ _) ?_
      exact MemKeeps.refl _
    · rename_i e14 e15
      with_reducible refine MemKeeps.step (writeChannelCommand_mem _ _) ?_
      exact MemKeeps.refl _
    · rename_i e16 e17
      with_reducible refine MemKeeps.step (MemKeeps.ofSame (State.writeLaserCommand_same _ _) (by decide)) ?_
      exact MemKeeps.refl _
    · rename_i e18 e19
      with_reducible refine MemKeeps.step (State.writeRegionCommand_mem _ _) ?_
      exact MemKeeps.refl _
    · rename_i e20 e21
      with_reducible refine MemKeeps.step (State.writeCalCommand_mem _ _) ?_
      exact MemKeeps.refl _
    · rename_i e22 e23
      with_reducible refine MemKeeps.step (MemKeeps.ofSame (State.writeRingSelect_same _ _ _) (by decide)) ?_
      exact MemKeeps.refl _
    · rename_i e24 e25
      with_reducible refine MemKeeps.step (MemKeeps.ofSame (State.writeWindow_same _ _ _ _) (by decide)) ?_
      exact MemKeeps.refl _
    · rename_i e26 e27
      with_reducible refine MemKeeps.step (MemKeeps.ofSame (State.writeWindow_same _ _ _ _) (by decide)) ?_
      exact MemKeeps.refl _
    · rename_i e28 e29
      with_reducible refine MemKeeps.step (State.writeRouteCommand_mem _ _) ?_
      exact MemKeeps.refl _
    · rename_i e30 e31
      with_reducible refine MemKeeps.step (MemKeeps.ofSame (State.writeFence_same _ _ _) (by decide)) ?_
      exact MemKeeps.refl _
    · rename_i e32 e33
      with_reducible refine MemKeeps.step (MemKeeps.ofSame (State.writeLineCacheFlush_same _ _) (by decide)) ?_
      exact MemKeeps.refl _
    · rename_i e34 e35
      with_reducible refine MemKeeps.step (MemKeeps.ofSame (State.writePairCommand_same _ _) (by decide)) ?_
      exact MemKeeps.refl _
    · rename_i e36 e37
      with_reducible refine MemKeeps.step (MemKeeps.ofSame (State.writeTripClear_same _ _) (by decide)) ?_
      exact MemKeeps.refl _
    · rename_i e38 e39
      with_reducible refine MemKeeps.step (State.writePowerCommand_mem _ _) ?_
      exact MemKeeps.refl _
    · rename_i e40 e41
      with_reducible refine MemKeeps.step (State.writeUpdate_mem _ _) ?_
      exact MemKeeps.refl _
    · rename_i e42 e43
      with_reducible refine MemKeeps.step (MemKeeps.ofSame (State.writeSeal_same _ _) (by decide)) ?_
      exact MemKeeps.refl _
    · rename_i e44 e45
      with_reducible refine MemKeeps.step (MemKeeps.ofSame (State.writeDieBist_same _ _) (by decide)) ?_
      exact MemKeeps.refl _
    · rename_i e46 e47
      with_reducible refine MemKeeps.step (MemKeeps.ofSame (State.writeTrace_same _ _) (by decide)) ?_
      exact MemKeeps.refl _
    · rename_i e48 e49
      with_reducible refine MemKeeps.step (MemKeeps.ofSame (State.writeTraceCopy_same _ _) (by decide)) ?_
      exact MemKeeps.refl _
    · rename_i e50 e51
      with_reducible refine MemKeeps.step (MemKeeps.ofSame (State.writeDump_same _ _ _ _) (by decide)) ?_
      exact MemKeeps.refl _
    · rename_i e52 e53
      with_reducible refine MemKeeps.step (MemKeeps.ofSame (State.writeDump_same _ _ _ _) (by decide)) ?_
      exact MemKeeps.refl _
    · rename_i e54 e55
      with_reducible refine MemKeeps.step (MemKeeps.ofSame (State.writeDump_same _ _ _ _) (by decide)) ?_
      exact MemKeeps.refl _
    · rename_i e56 e57
      with_reducible refine MemKeeps.step (MemKeeps.ofSame (State.writeDump_same _ _ _ _) (by decide)) ?_
      exact MemKeeps.refl _
    · rename_i e58 e59
      with_reducible refine MemKeeps.step (MemKeeps.ofSame (State.writeFreeze_same _ _) (by decide)) ?_
      exact MemKeeps.refl _
    · rename_i e60 e61
      refine MemKeeps.ite ?_ ?_
      · with_reducible refine MemKeeps.step (MemKeeps.ofSame (State.answer_same _ _) (by decide)) ?_
        exact MemKeeps.refl _
      · with_reducible refine MemKeeps.step (MemKeeps.ofSame (State.writePlain_same _ _ _ _ _) (by decide)) ?_
        exact MemKeeps.refl _
    · rename_i e62 e63 e64 e65 e66 e67 e68 e69 e70 e71 e72 e73 e74 e75 e76 e77 e78 e79 e80 e81 e82 e83 e84 e85 e86 e87 e88 e89 e90 e91 e92 e93 e94
      with_reducible refine MemKeeps.step (MemKeeps.ofSame (State.writePlain_same _ _ _ _ _) (by decide)) ?_
      exact MemKeeps.refl _

theorem State.writeDict_mem (x1 : State) (x2 : Who) (x3 x4 : Nat) (x5 : List Byte) :
    MemKeeps x1 (State.writeDict x1 x2 x3 x4 x5) := by
  unfold State.writeDict
  split
  · rename_i e0 e1 e2
    with_reducible refine MemKeeps.step (MemKeeps.ofSame (State.answer_same _ _) (by decide)) ?_
    exact MemKeeps.refl _
  · rename_i e3 e4 e5
    with_reducible refine MemKeeps.step (State.writeObj_mem _ _ _ _ _ _) ?_
    exact MemKeeps.refl _

theorem State.serveWrite_mem (x1 : State) (x2 : Who) (x3 x4 : Nat) (x5 : List Byte) :
    MemKeeps x1 (State.serveWrite x1 x2 x3 x4 x5).1 := by
  unfold State.serveWrite
  extract_lets v0
  refine MemKeeps.have v0 ?_ fun h1 => ?_
  · with_reducible refine MemKeeps.step (State.writeDict_mem _ _ _ _ _) ?_
    exact MemKeeps.refl _
  clear_value v0
  dsimp only
  exact h1

theorem State.serveOpenOp_mem (x1 : State) (x2 : Session) (x3 : List Byte) :
    MemKeeps x1 (State.serveOpenOp x1 x2 x3).1 := by
  unfold State.serveOpenOp
  extract_lets v0 v1
  split
  · rename_i e2 e3
    with_reducible refine MemKeeps.step (MemKeeps.ofSame (State.serveRead_same _ _ _ _ _) (by decide)) ?_
    exact MemKeeps.refl _
  · rename_i e4 e5
    with_reducible refine MemKeeps.step (State.serveWrite_mem _ _ _ _ _) ?_
    exact MemKeeps.refl _
  · rename_i e6 e7
    with_reducible refine MemKeeps.step (MemKeeps.ofSame (State.serveRecord_same _ _ _ _ _) (by decide)) ?_
    exact MemKeeps.refl _
  · rename_i e8 e9
    refine MemKeeps.iteFst ?_ ?_
    · dsimp only
      exact MemKeeps.refl _
    · dsimp only
      with_reducible refine MemKeeps.step (MemKeeps.ofSame (State.closeSessions_same _ _) (by decide)) ?_
      exact MemKeeps.refl _
  · rename_i e10 e11 e12 e13 e14
    with_reducible refine MemKeeps.step (MemKeeps.ofSame (State.serveWatch_same _ _ _) (by decide)) ?_
    exact MemKeeps.refl _

theorem State.serveOpenSession_mem (x1 : State) (x2 : Nat) (x3 : Session) (x4 : List Byte) :
    MemKeeps x1 (State.serveOpenSession x1 x2 x3 x4) := by
  unfold State.serveOpenSession
  extract_lets v0 v1
  refine MemKeeps.ite ?_ ?_
  · with_reducible refine MemKeeps.step (MemKeeps.ofSame (State.bump_same _ _) (by decide)) ?_
    with_reducible refine MemKeeps.step (MemKeeps.ofSame (State.bump_same _ _) (by decide)) ?_
    exact MemKeeps.refl _
  · split
    · rename_i e2 e3 e4
      with_reducible refine MemKeeps.step (MemKeeps.ofSame (State.sendFrame_same _ _) (by decide)) ?_
      with_reducible refine MemKeeps.step (MemKeeps.ofSame (State.bump_same _ _) (by decide)) ?_
      exact MemKeeps.refl _
    · rename_i e5 e6
      refine MemKeeps.ite ?_ ?_
      · with_reducible refine MemKeeps.step (MemKeeps.ofSame (State.sendFrame_same _ _) (by decide)) ?_
        with_reducible refine MemKeeps.step (MemKeeps.ofSame (State.bump_same _ _) (by decide)) ?_
        with_reducible refine MemKeeps.step (MemKeeps.ofSame (State.bump_same _ _) (by decide)) ?_
        exact MemKeeps.refl _
      · split
        rename_i e7 e8 e9 e10 e11
        refine MemKeeps.ite ?_ ?_
        · split
          · rename_i e12 e13 e14
            with_reducible refine MemKeeps.step (MemKeeps.ofSame (State.putSession_same _ _) (by decide)) ?_
            with_reducible refine MemKeeps.step (MemKeeps.ofSame (State.fenceFor_same _ _) (by decide)) ?_
            refine MemKeeps.fstOf e11 ?_
            refine MemKeeps.iteFst ?_ ?_
            · with_reducible refine MemKeeps.step (State.serveOpenOp_mem _ _ _) ?_
              exact MemKeeps.refl _
            · dsimp only
              exact MemKeeps.refl _
          · rename_i e15 e16
            refine MemKeeps.fstOf e11 ?_
            refine MemKeeps.iteFst ?_ ?_
            · with_reducible refine MemKeeps.step (State.serveOpenOp_mem _ _ _) ?_
              exact MemKeeps.refl _
            · dsimp only
              exact MemKeeps.refl _
        · with_reducible refine MemKeeps.step (MemKeeps.ofSame (State.sendKept_same _ _ _ _ _ _ _) (by decide)) ?_
          refine MemKeeps.fstOf e11 ?_
          refine MemKeeps.iteFst ?_ ?_
          · with_reducible refine MemKeeps.step (State.serveOpenOp_mem _ _ _) ?_
            exact MemKeeps.refl _
          · dsimp only
            exact MemKeeps.refl _

theorem State.serve_mem (x1 : State) (x2 : Nat) (x3 : List Byte) :
    MemKeeps x1 (State.serve x1 x2 x3) := by
  unfold State.serve
  extract_lets v0 v1
  refine MemKeeps.have v0 ?_ fun h2 => ?_
  · with_reducible refine MemKeeps.step (MemKeeps.ofSame (State.setDap_same _ _) (by decide)) ?_
    exact MemKeeps.refl _
  clear_value v0
  refine MemKeeps.ite ?_ ?_
  · exact h2
  · refine MemKeeps.ite ?_ ?_
    · with_reducible refine MemKeeps.step (MemKeeps.ofSame (State.bump_same _ _) (by decide)) ?_
      exact h2
    · refine MemKeeps.ite ?_ ?_
      · with_reducible refine MemKeeps.step (MemKeeps.ofSame (State.serveSessionless_same _ _ _) (by decide)) ?_
        exact h2
      · split
        · rename_i e3 e4
          with_reducible refine MemKeeps.step (MemKeeps.ofSame (State.sendFrame_same _ _) (by decide)) ?_
          with_reducible refine MemKeeps.step (MemKeeps.ofSame (State.bump_same _ _) (by decide)) ?_
          exact h2
        · rename_i e5 e6 e7
          refine MemKeeps.ite ?_ ?_
          · with_reducible refine MemKeeps.step (MemKeeps.ofSame (State.sendFrame_same _ _) (by decide)) ?_
            with_reducible refine MemKeeps.step (MemKeeps.ofSame (State.bump_same _ _) (by decide)) ?_
            exact h2
          · refine MemKeeps.ite ?_ ?_
            · with_reducible refine MemKeeps.step (State.serveOpenSession_mem _ _ _ _) ?_
              exact h2
            · with_reducible refine MemKeeps.step (MemKeeps.ofSame (State.servePending_same _ _ _ _) (by decide)) ?_
              exact h2

theorem State.serveAs_mem (x1 : State) (x2 x3 : Nat) (x4 : List Byte) :
    MemKeeps x1 (State.serveAs x1 x2 x3 x4) := by
  unfold State.serveAs
  refine MemKeeps.ite ?_ ?_
  · with_reducible refine MemKeeps.step (State.serve_mem _ _ _) ?_
    exact MemKeeps.refl _
  · exact MemKeeps.refl _

theorem execDapRead_mem (x1 : Fin 2) (x2 : List Byte) (x3 : State) :
    OutMemKeeps x3 (execDapRead x1 x2 x3) := by
  unfold execDapRead
  refine OutMemKeeps.next ?_
  with_reducible refine MemKeeps.step (State.serveAs_mem _ _ _ _) ?_
  exact MemKeeps.refl _

theorem execDapWrite_mem (x1 : Fin 2) (x2 : List Byte) (x3 : State) :
    OutMemKeeps x3 (execDapWrite x1 x2 x3) := by
  unfold execDapWrite
  refine OutMemKeeps.next ?_
  with_reducible refine MemKeeps.step (State.serveAs_mem _ _ _ _) ?_
  exact MemKeeps.refl _

theorem execDapReadrecord_mem (x1 : Fin 2) (x2 : List Byte) (x3 : State) :
    OutMemKeeps x3 (execDapReadrecord x1 x2 x3) := by
  unfold execDapReadrecord
  refine OutMemKeeps.next ?_
  with_reducible refine MemKeeps.step (State.serveAs_mem _ _ _ _) ?_
  exact MemKeeps.refl _

theorem execDapOpen_mem (x1 : Fin 2) (x2 : List Byte) (x3 : State) :
    OutMemKeeps x3 (execDapOpen x1 x2 x3) := by
  unfold execDapOpen
  refine OutMemKeeps.next ?_
  with_reducible refine MemKeeps.step (State.serveAs_mem _ _ _ _) ?_
  exact MemKeeps.refl _

theorem execDapAuth_mem (x1 : Fin 2) (x2 : List Byte) (x3 : State) :
    OutMemKeeps x3 (execDapAuth x1 x2 x3) := by
  unfold execDapAuth
  refine OutMemKeeps.next ?_
  with_reducible refine MemKeeps.step (State.serveAs_mem _ _ _ _) ?_
  exact MemKeeps.refl _

theorem execDapClose_mem (x1 : Fin 2) (x2 : List Byte) (x3 : State) :
    OutMemKeeps x3 (execDapClose x1 x2 x3) := by
  unfold execDapClose
  refine OutMemKeeps.next ?_
  with_reducible refine MemKeeps.step (State.serveAs_mem _ _ _ _) ?_
  exact MemKeeps.refl _

theorem execDapWatch_mem (x1 : Fin 2) (x2 : List Byte) (x3 : State) :
    OutMemKeeps x3 (execDapWatch x1 x2 x3) := by
  unfold execDapWatch
  refine OutMemKeeps.next ?_
  with_reducible refine MemKeeps.step (State.serveAs_mem _ _ _ _) ?_
  exact MemKeeps.refl _

theorem execSessionPendingExpiry_mem (x1 : BitVec 32) (x2 : State) :
    OutMemKeeps x2 (execSessionPendingExpiry x1 x2) :=
  OutMemKeeps.ofSame (execSessionPendingExpiry_same _ _) (by decide)

theorem execSessionIdleExpiry_mem (x1 : BitVec 32) (x2 : State) :
    OutMemKeeps x2 (execSessionIdleExpiry x1 x2) :=
  OutMemKeeps.ofSame (execSessionIdleExpiry_same _ _) (by decide)

theorem execNetworkConfigApply_mem (x1 : State) :
    OutMemKeeps x1 (execNetworkConfigApply x1) :=
  OutMemKeeps.ofSame (execNetworkConfigApply_same _) (by decide)

theorem execFieldNetworkLink_mem (x1 : Fin 2) (x2 : Bool) (x3 : State) :
    OutMemKeeps x3 (execFieldNetworkLink x1 x2 x3) :=
  OutMemKeeps.ofSame (execFieldNetworkLink_same _ _ _) (by decide)

theorem State.boxServe_mem (x1 : State) (x2 : Nat) :
    MemKeeps x1 (State.boxServe x1 x2).1 := by
  unfold State.boxServe
  extract_lets v0 v1 v2 v3 v4
  refine MemKeeps.iteFst ?_ ?_
  · dsimp only
    exact MemKeeps.refl _
  · clear_value v4
    split
    · rename_i e5
      with_reducible refine MemKeeps.step (MemKeeps.ofSame (State.serveRead_same _ _ _ _ _) (by decide)) ?_
      exact MemKeeps.refl _
    · rename_i e6
      with_reducible refine MemKeeps.step (State.serveWrite_mem _ _ _ _ _) ?_
      exact MemKeeps.refl _
    · rename_i e7 e8 e9
      with_reducible refine MemKeeps.step (MemKeeps.ofSame (State.serveRecord_same _ _ _ _ _) (by decide)) ?_
      exact MemKeeps.refl _

theorem execBar4Go_mem (x1 : Fin 2) (x2 : State) :
    OutMemKeeps x2 (execBar4Go x1 x2) := by
  unfold execBar4Go
  extract_lets v0
  refine OutMemKeeps.ite ?_ ?_
  · refine OutMemKeeps.next ?_
    exact MemKeeps.refl _
  · refine OutMemKeeps.ite ?_ ?_
    · refine OutMemKeeps.next ?_
      with_reducible refine MemKeeps.step (MemKeeps.ofSame (State.bump_same _ _) (by decide)) ?_
      exact MemKeeps.refl _
    · split
      rename_i e1 e2 e3 e4 e5
      extract_lets v6 v7
      refine OutMemKeeps.next ?_
      refine MemKeeps.ite ?_ ?_
      · with_reducible refine MemKeeps.step (MemKeeps.ofSame (State.setPort_same _ _ _) (by decide)) ?_
        with_reducible refine MemKeeps.step (MemKeeps.ofSame (State.fenceFor_same _ _) (by decide)) ?_
        refine MemKeeps.fstOf e5 ?_
        with_reducible refine MemKeeps.step (State.boxServe_mem _ _) ?_
        exact MemKeeps.refl _
      · with_reducible refine MemKeeps.step (MemKeeps.ofSame (State.setPort_same _ _ _) (by decide)) ?_
        refine MemKeeps.fstOf e5 ?_
        with_reducible refine MemKeeps.step (State.boxServe_mem _ _) ?_
        exact MemKeeps.refl _

theorem execLeasePeriod_mem (x1 : State) :
    OutMemKeeps x1 (execLeasePeriod x1) := by
  unfold execLeasePeriod
  extract_lets v0
  refine OutMemKeeps.have v0 ?_ fun h1 => ?_
  · with_reducible refine MemKeeps.step (State.dykePeriod_mem _) ?_
    with_reducible refine MemKeeps.step (MemKeeps.ofSame (State.leasePeriod_same _) (by decide)) ?_
    exact MemKeeps.refl _
  clear_value v0
  refine OutMemKeeps.next ?_
  with_reducible refine MemKeeps.step (MemKeeps.ofSame (State.settleFences_same _) (by decide)) ?_
  refine MemKeeps.foldl ?_ fun q2 y3 h4 => ?_
  · exact h1
  · with_reducible refine MemKeeps.step (MemKeeps.ofSame (State.drainPort_same _ _) (by decide)) ?_
    with_reducible refine MemKeeps.step (MemKeeps.ofSame (State.portIdents_same _ _) (by decide)) ?_
    exact h4

theorem execRegisterWrite_mem (x1 : RegTarget) (x2 : State) :
    OutMemKeeps x2 (execRegisterWrite x1 x2) := by
  unfold execRegisterWrite
  split
  · rename_i e0 e1 e2 e3
    refine OutMemKeeps.next ?_
    refine MemKeeps.ite ?_ ?_
    · with_reducible refine MemKeeps.step (State.writeDict_mem _ _ _ _ _) ?_
      exact MemKeeps.refl _
    · exact MemKeeps.refl _
  · rename_i e4 e5 e6 e7
    refine OutMemKeeps.next ?_
    with_reducible refine MemKeeps.step (MemKeeps.ofSame (State.writeBar0_same _ _ _ _) (by decide)) ?_
    exact MemKeeps.refl _
  · rename_i e8 e9 e10 e11
    refine OutMemKeeps.next ?_
    with_reducible refine MemKeeps.step (MemKeeps.ofSame (State.writeBar4_same _ _ _ _) (by decide)) ?_
    exact MemKeeps.refl _

end Sys2Proof.Machine
end

