-- ==== Sys2Proof/Laws/MemEngine.lean ====
section
/-! SUPPORT. The functions of Machine/Engine.lean keep the memories in canonical form. -/

namespace Sys2Proof.Machine

open Sys2Proof

theorem execMma_mem (x1 : Fin 8) (x2 : Fin 48) (x3 : Fin 4) (x4 : State) :
    OutMemKeeps x4 (execMma x1 x2 x3 x4) := by
  unfold execMma
  extract_lets v0
  refine OutMemKeeps.next ?_
  with_reducible refine State.startUnit_mem ?_ ?_
  · exact MemKeeps.refl _
  · intro y1 y2 y3 y4 h5
    with_reducible refine MemKeeps.step (MemKeeps.ofSame (State.mmaRun_same _ _ _ _ _) (by decide)) ?_
    exact h5

theorem execMma4_mem (x1 : Fin 8) (x2 : Fin 48) (x3 : State) :
    OutMemKeeps x3 (execMma4 x1 x2 x3) := by
  unfold execMma4
  refine OutMemKeeps.next ?_
  with_reducible refine State.startUnit_mem ?_ ?_
  · exact MemKeeps.refl _
  · intro y0 y1 y2 y3 h4
    with_reducible refine MemKeeps.step (MemKeeps.ofSame (State.mmaRun_same _ _ _ _ _) (by decide)) ?_
    exact h4

theorem execDrain_mem (x1 : Fin 8) (x2 : Fin 48) (x3 : Fin 4) (x4 : State) :
    OutMemKeeps x4 (execDrain x1 x2 x3 x4) := by
  unfold execDrain
  extract_lets v0
  refine OutMemKeeps.next ?_
  with_reducible refine State.startUnit_mem ?_ ?_
  · exact MemKeeps.refl _
  · intro y1 y2 y3 y4 h5
    with_reducible refine MemKeeps.step (MemKeeps.ofSame (State.drainRun_same _ _ _ _ _) (by decide)) ?_
    exact h5

theorem execAccload_mem (x1 : Fin 8) (x2 : Fin 48) (x3 : Fin 4) (x4 : State) :
    OutMemKeeps x4 (execAccload x1 x2 x3 x4) := by
  unfold execAccload
  extract_lets v0
  refine OutMemKeeps.next ?_
  with_reducible refine State.startUnit_mem ?_ ?_
  · exact MemKeeps.refl _
  · intro y1 y2 y3 y4 h5
    with_reducible refine MemKeeps.step (MemKeeps.ofSame (State.loadRun_same _ _ _ _ _) (by decide)) ?_
    exact h5

end Sys2Proof.Machine
end

