-- ==== Sys2Proof/Laws/MemFrame.lean ====
section
/-! SUPPORT. The functions of Machine/Frame.lean keep the memories in canonical form. -/

namespace Sys2Proof.Machine

open Sys2Proof

theorem State.formAll_mem (x1 : State) (x2 x3 : Nat) :
    MemKeeps x1 (State.formAll x1 x2 x3).1 := by
  unfold State.formAll
  refine MemKeeps.foldlFst ?_ fun q0 y1 h2 => ?_
  · dsimp only
    exact MemKeeps.refl _
  · split
    rename_i e3 e4 e5 e6
    dsimp only
    refine MemKeeps.fstOf e6 ?_
    with_reducible refine MemKeeps.step (State.formOut_mem _ _ _ _) ?_
    exact h2

theorem State.discardFlight_mem (x1 : State) :
    MemKeeps x1 (State.discardFlight x1) := by
  unfold State.discardFlight
  extract_lets v0 v1
  refine MemKeeps.have v0 ?_ fun h2 => ?_
  · refine MemKeeps.foldl ?_ fun q3 y4 h5 => ?_
    · exact MemKeeps.refl _
    · with_reducible refine MemKeeps.step (State.stepFault_mem _ _ _) ?_
      exact h5
  clear_value v0
  refine MemKeeps.have v1 ?_ fun h6 => ?_
  · with_reducible refine MemKeeps.step (MemKeeps.ofSame (State.discardCommands_same _) (by decide)) ?_
    exact h2
  clear_value v1
  with_reducible refine MemKeeps.record rfl ?_ ?_
  · exact MemKeeps.of_eq rfl rfl
  exact h6

theorem State.releaseBoundary_mem (x1 : State) :
    MemKeeps x1 (State.releaseBoundary x1) := by
  unfold State.releaseBoundary
  refine MemKeeps.ite ?_ ?_
  · exact MemKeeps.refl _
  · extract_lets v0 v1 v2
    refine MemKeeps.have v0 ?_ fun h3 => ?_
    · with_reducible refine MemKeeps.step (MemKeeps.ofSame (State.withdrawPast_same _) (by decide)) ?_
      refine MemKeeps.ite ?_ ?_
      · with_reducible refine MemKeeps.step (State.discardFlight_mem _) ?_
        exact MemKeeps.refl _
      · exact MemKeeps.refl _
    clear_value v0
    refine MemKeeps.have v2 ?_ fun h4 => ?_
    · dsimp only [v2]
      with_reducible refine MemKeeps.record rfl ?_ ?_
      · exact MemKeeps.of_eq rfl rfl
      exact h3
    clear_value v2
    with_reducible refine MemKeeps.step (State.feedDrains_mem _) ?_
    with_reducible refine MemKeeps.step (MemKeeps.ofSame (State.setReg_same _ _ _) (by decide)) ?_
    exact h4

theorem execFrameBoundary_mem (x1 : State) :
    OutMemKeeps x1 (execFrameBoundary x1) := by
  unfold execFrameBoundary
  extract_lets v0 v1 v2
  refine OutMemKeeps.have v1 ?_ fun h3 => ?_
  · with_reducible refine MemKeeps.step (MemKeeps.ofSame (State.advanceFrame_same _) (by decide)) ?_
    exact MemKeeps.refl _
  clear_value v1
  refine OutMemKeeps.have v2 ?_ fun h4 => ?_
  · dsimp only [v2]
    with_reducible refine MemKeeps.record rfl ?_ ?_
    · exact MemKeeps.of_eq rfl rfl
    exact h3
  clear_value v2
  refine OutMemKeeps.ite ?_ ?_
  · refine OutMemKeeps.next ?_
    exact MemKeeps.refl _
  · split
    rename_i e5 e6 e7 e8
    extract_lets v9 v10 v11 v12
    refine OutMemKeeps.have v9 ?_ fun h13 => ?_
    · with_reducible refine MemKeeps.step (MemKeeps.ofSame (State.streamBoundary_same _) (by decide)) ?_
      with_reducible refine MemKeeps.step (MemKeeps.ofSame (State.pairBoundary_same _ _ _ _) (by decide)) ?_
      refine MemKeeps.fstOf e8 ?_
      with_reducible refine MemKeeps.step (State.formAll_mem _ _ _) ?_
      exact h4
    clear_value v9
    refine OutMemKeeps.have v10 ?_ fun h14 => ?_
    · with_reducible refine MemKeeps.step (State.retentionStop_mem _) ?_
      with_reducible refine MemKeeps.step (MemKeeps.ofSame (State.freezeBoundary_same _) (by decide)) ?_
      with_reducible refine MemKeeps.step (State.releaseBoundary_mem _) ?_
      exact h13
    clear_value v10
    refine OutMemKeeps.have v11 ?_ fun h15 => ?_
    · with_reducible refine MemKeeps.step (MemKeeps.ofSame (State.fixBoundary_same _) (by decide)) ?_
      with_reducible refine MemKeeps.step (MemKeeps.ofSame (State.distribute_same _) (by decide)) ?_
      with_reducible refine MemKeeps.step (MemKeeps.ofSame (State.patternBoundary_same _) (by decide)) ?_
      exact h14
    clear_value v11
    refine OutMemKeeps.have v12 ?_ fun h16 => ?_
    · with_reducible refine MemKeeps.step (MemKeeps.ofSame (State.sliceBack_same _) (by decide)) ?_
      with_reducible refine MemKeeps.step (MemKeeps.ofSame (State.pointBoundary_same _) (by decide)) ?_
      with_reducible refine MemKeeps.step (MemKeeps.ofSame (State.trimBoundary_same _) (by decide)) ?_
      exact h15
    clear_value v12
    refine OutMemKeeps.next ?_
    with_reducible refine MemKeeps.step (MemKeeps.ofSame (State.signal_same _ _) (by decide)) ?_
    exact h16

end Sys2Proof.Machine
end

