-- ==== Sys2Proof/Laws/MemHousekeeping.lean ====
section
/-! SUPPORT. The functions of Machine/Housekeeping.lean keep the memories in canonical form. -/

namespace Sys2Proof.Machine

open Sys2Proof

theorem State.trippedUnit_mem (x1 : State) (x2 : Nat) (x3 : List Nat) (x4 : Bool) :
    MemKeeps x1 (State.trippedUnit x1 x2 x3 x4) := by
  unfold State.trippedUnit
  extract_lets v0 v1 v2 v3 v4 v5 v6
  refine MemKeeps.have v6 ?_ fun h7 => ?_
  · with_reducible refine MemKeeps.step (MemKeeps.ofSame (State.setThermal_same _ _ _) (by decide)) ?_
    exact MemKeeps.refl _
  clear_value v6
  refine MemKeeps.ite ?_ ?_
  · refine MemKeeps.foldl ?_ fun q8 y9 h10 => ?_
    · exact h7
    · with_reducible refine State.setStore_mem ?_ ?_
      · exact h10
      · exact fun h => MemOk.store h _
  · exact h7

theorem State.dieRound_mem (x1 x2 : State) (x3 : Nat) :
    MemKeeps x2 (State.dieRound x1 x2 x3) := by
  unfold State.dieRound
  extract_lets v0 v1
  refine MemKeeps.have v1 ?_ fun h2 => ?_
  · with_reducible refine MemKeeps.step (MemKeeps.ofSame (State.setThermal_same _ _ _) (by decide)) ?_
    exact MemKeeps.refl _
  clear_value v1
  refine MemKeeps.ite ?_ ?_
  · with_reducible refine MemKeeps.step (State.trippedUnit_mem _ _ _ _) ?_
    exact h2
  · refine MemKeeps.ite ?_ ?_
    · exact h2
    · split
      rename_i e3 e4 e5 e6
      extract_lets v7
      refine MemKeeps.have v7 ?_ fun h8 => ?_
      · with_reducible refine MemKeeps.step (MemKeeps.ofSame (State.addReg_same _ _ _) (by decide)) ?_
        exact h2
      clear_value v7
      refine MemKeeps.ite ?_ ?_
      · with_reducible refine MemKeeps.step (State.dieTrip_mem _ _) ?_
        exact h8
      · with_reducible refine MemKeeps.step (MemKeeps.ofSame (State.throttleUnit_same _ _) (by decide)) ?_
        exact h8

theorem State.fieldRound_mem (x1 x2 : State) (x3 : Nat) :
    MemKeeps x2 (State.fieldRound x1 x2 x3).1 := by
  unfold State.fieldRound
  refine MemKeeps.iteFst ?_ ?_
  · dsimp only
    with_reducible refine MemKeeps.step (State.trippedUnit_mem _ _ _ _) ?_
    exact MemKeeps.refl _
  · split
    rename_i e0 e1 e2 e3
    extract_lets v4
    refine MemKeeps.have v4 ?_ fun h5 => ?_
    · with_reducible refine MemKeeps.step (MemKeeps.ofSame (State.addReg_same _ _ _) (by decide)) ?_
      exact MemKeeps.refl _
    clear_value v4
    dsimp only
    refine MemKeeps.ite ?_ ?_
    · with_reducible refine MemKeeps.step (State.regionTrip_mem _ _) ?_
      exact h5
    · exact h5

theorem State.memoryRound_mem (x1 : State) (x2 : Readings) :
    MemKeeps x1 (State.memoryRound x1 x2) := by
  unfold State.memoryRound
  extract_lets v0
  refine MemKeeps.have v0 ?_ fun h1 => ?_
  · refine MemKeeps.foldl ?_ fun q2 y3 h4 => ?_
    · exact MemKeeps.refl _
    · extract_lets v5 v6
      with_reducible refine State.setStore_mem ?_ ?_
      · exact h4
      · exact fun h => MemOk.store h _
  clear_value v0
  refine MemKeeps.foldl ?_ fun q7 y8 h9 => ?_
  · exact h1
  · split
    · rename_i e10 e11
      exact h9
    · rename_i e12 e13 e14 e15
      refine MemKeeps.ite ?_ ?_
      · with_reducible refine MemKeeps.step (MemKeeps.ofSame (State.setChan_same _ _ _) (by decide)) ?_
        with_reducible refine State.setStore_mem ?_ ?_
        · exact h9
        · exact fun h => MemOk.store h _
      · with_reducible refine MemKeeps.step (MemKeeps.ofSame (State.setChan_same _ _ _) (by decide)) ?_
        with_reducible refine State.setStore_mem ?_ ?_
        · exact h9
        · exact fun h => MemOk.store h _

theorem State.isolateDie_mem (x1 : State) (x2 : Nat) :
    MemKeeps x1 (State.isolateDie x1 x2) := by
  unfold State.isolateDie
  extract_lets v0 v1 v2 v3 v4 v5
  refine MemKeeps.have v2 ?_ fun h6 => ?_
  · with_reducible refine MemKeeps.step (State.discardDie_mem _ _ _) ?_
    with_reducible refine MemKeeps.step (MemKeeps.ofSame (State.setDie_same _ _ _) (by decide)) ?_
    exact MemKeeps.refl _
  clear_value v2
  refine MemKeeps.have v4 ?_ fun h7 => ?_
  · with_reducible refine MemKeeps.step (MemKeeps.ofSame (State.parkRegion_same _ _) (by decide)) ?_
    with_reducible refine MemKeeps.step (MemKeeps.ofSame (State.setRegion_same _ _ _) (by decide)) ?_
    exact h6
  clear_value v4
  refine MemKeeps.have v5 ?_ fun h8 => ?_
  · refine MemKeeps.foldl ?_ fun q9 y10 h11 => ?_
    · exact h7
    · with_reducible refine MemKeeps.step (State.endDark_mem _ _) ?_
      exact h11
  clear_value v5
  with_reducible refine MemKeeps.step (MemKeeps.ofSame (State.dropFresh_same _) (by decide)) ?_
  with_reducible refine MemKeeps.step (MemKeeps.ofSame (State.dropSlices_same _ _) (by decide)) ?_
  with_reducible refine MemKeeps.step (MemKeeps.ofSame (State.holdTransfers_same _) (by decide)) ?_
  with_reducible refine MemKeeps.step (MemKeeps.ofSame (State.calDrop_same _ _) (by decide)) ?_
  with_reducible refine MemKeeps.step (MemKeeps.ofSame (State.dropCals_same _ _) (by decide)) ?_
  exact h8

theorem State.ifaceOut_mem (x1 : State) (x2 : Conn) :
    MemKeeps x1 (State.ifaceOut x1 x2) := by
  unfold State.ifaceOut
  split
  · rename_i e0 e1 e2
    with_reducible refine MemKeeps.step (State.ladder_mem _ _ _) ?_
    exact MemKeeps.refl _
  · rename_i e3 e4 e5
    refine MemKeeps.ite ?_ ?_
    · exact MemKeeps.refl _
    · extract_lets v6 v7
      refine MemKeeps.have v6 ?_ fun h8 => ?_
      · with_reducible refine MemKeeps.step (MemKeeps.ofSame (State.dropSlices_same _ _) (by decide)) ?_
        exact MemKeeps.refl _
      clear_value v6
      with_reducible refine State.setStore_mem ?_ ?_
      · exact h8
      · exact fun h => MemOk.store h _
  · rename_i e9 e10 e11 e12
    refine MemKeeps.ite ?_ ?_
    · exact MemKeeps.refl _
    · with_reducible refine MemKeeps.step (State.isolateDie_mem _ _) ?_
      exact MemKeeps.refl _
  · rename_i e13 e14 e15
    with_reducible refine MemKeeps.step (MemKeeps.ofSame (State.reportSite_same _ _) (by decide)) ?_
    with_reducible refine MemKeeps.step (MemKeeps.ofSame (State.setDie_same _ _ _) (by decide)) ?_
    exact MemKeeps.refl _

theorem State.loseConn_mem (x1 : State) (x2 : Conn) :
    MemKeeps x1 (State.loseConn x1 x2) := by
  unfold State.loseConn
  refine MemKeeps.ite ?_ ?_
  · exact MemKeeps.refl _
  · extract_lets v0 v1 v2
    refine MemKeeps.have v2 ?_ fun h3 => ?_
    · with_reducible refine MemKeeps.step (MemKeeps.ofSame (State.setDie_same _ _ _) (by decide)) ?_
      exact MemKeeps.refl _
    clear_value v2
    refine MemKeeps.ite ?_ ?_
    · with_reducible refine MemKeeps.step (MemKeeps.ofSame (State.mapRecord_same _ _) (by decide)) ?_
      exact h3
    · with_reducible refine MemKeeps.step (State.ifaceOut_mem _ _) ?_
      exact h3

theorem State.bankLayers_mem (x1 : State) (x2 : List (Fin 8)) :
    MemKeeps x1 (State.bankLayers x1 x2) := by
  unfold State.bankLayers
  refine MemKeeps.foldl ?_ fun q0 y1 h2 => ?_
  · exact MemKeeps.refl _
  · extract_lets v3 v4 v5
    refine MemKeeps.have v5 ?_ fun h6 => ?_
    · with_reducible refine MemKeeps.step (MemKeeps.ofSame (State.setDie_same _ _ _) (by decide)) ?_
      exact h2
    clear_value v5
    refine MemKeeps.ite ?_ ?_
    · with_reducible refine MemKeeps.step (State.discardDie_mem _ _ _) ?_
      exact h6
    · exact h6

theorem State.laserRound_mem (x1 : State) (x2 : Nat) (x3 : List Int) (x4 : Bool) :
    MemKeeps x1 (State.laserRound x1 x2 x3 x4) := by
  unfold State.laserRound
  extract_lets v0 v1 v2 v3 v4 v5 v6 v7 v8
  refine MemKeeps.have v5 ?_ fun h9 => ?_
  · with_reducible refine MemKeeps.step (MemKeeps.ofSame (State.setLaser_same _ _ _) (by decide)) ?_
    exact MemKeeps.refl _
  clear_value v5
  refine MemKeeps.ite ?_ ?_
  · exact h9
  · refine MemKeeps.ite ?_ ?_
    · with_reducible refine MemKeeps.step (State.laserFail_mem _ _ _) ?_
      exact h9
    · with_reducible refine MemKeeps.step (MemKeeps.ofSame (State.laserPut_same _ _ _) (by decide)) ?_
      exact h9

theorem State.lightRound_mem (x1 : State) (x2 : Readings) :
    MemKeeps x1 (State.lightRound x1 x2) := by
  unfold State.lightRound
  extract_lets v0 v1
  refine MemKeeps.have v0 ?_ fun h2 => ?_
  · refine MemKeeps.foldl ?_ fun q3 y4 h5 => ?_
    · exact MemKeeps.refl _
    · refine MemKeeps.ite ?_ ?_
      · with_reducible refine MemKeeps.step (MemKeeps.ofSame (State.setReg_same _ _ _) (by decide)) ?_
        exact h5
      · exact h5
  clear_value v0
  refine MemKeeps.have v1 ?_ fun h6 => ?_
  · refine MemKeeps.foldl ?_ fun q7 y8 h9 => ?_
    · exact h2
    · refine MemKeeps.ite ?_ ?_
      · with_reducible refine MemKeeps.step (MemKeeps.ofSame (State.setReg_same _ _ _) (by decide)) ?_
        with_reducible refine MemKeeps.step (MemKeeps.ofSame (State.setReg_same _ _ _) (by decide)) ?_
        exact h9
      · exact h9
  clear_value v1
  with_reducible refine MemKeeps.step (State.laserRound_mem _ _ _ _) ?_
  with_reducible refine MemKeeps.step (State.laserRound_mem _ _ _ _) ?_
  exact h6

theorem State.roundActs_mem (x1 x2 : State) (x3 : Readings) (x4 : Bool) :
    MemKeeps x2 (State.roundActs x1 x2 x3 x4) := by
  unfold State.roundActs
  extract_lets v0 v1 v2 v3 v4 v5 v6
  refine MemKeeps.have v0 ?_ fun h7 => ?_
  · refine MemKeeps.foldl ?_ fun q8 y9 h10 => ?_
    · exact MemKeeps.refl _
    · with_reducible refine MemKeeps.step (State.dieRound_mem _ _ _) ?_
      exact h10
  clear_value v0
  refine MemKeeps.have v1 ?_ fun h11 => ?_
  · refine MemKeeps.foldl ?_ fun q12 y13 h14 => ?_
    · with_reducible refine MemKeeps.step (MemKeeps.ofSame (State.scheduleCals_same _) (by decide)) ?_
      with_reducible refine MemKeeps.step (MemKeeps.ofSame (State.ringRound_same _ _) (by decide)) ?_
      exact h7
    · with_reducible refine MemKeeps.step (State.dueFullCal_mem _ _) ?_
      exact h14
  clear_value v1
  refine MemKeeps.have v2 ?_ fun h15 => ?_
  · refine MemKeeps.foldl ?_ fun q16 y17 h18 => ?_
    · with_reducible refine MemKeeps.step (State.bankLayers_mem _ _) ?_
      with_reducible refine MemKeeps.step (State.memoryRound_mem _ _) ?_
      exact h11
    · with_reducible refine MemKeeps.step (State.loseConn_mem _ _) ?_
      exact h18
  clear_value v2
  refine MemKeeps.have v3 ?_ fun h19 => ?_
  · with_reducible refine MemKeeps.step (MemKeeps.ofSame (State.powerRound_same _ _) (by decide)) ?_
    with_reducible refine MemKeeps.step (MemKeeps.ofSame (State.coolantRound_same _ _) (by decide)) ?_
    with_reducible refine MemKeeps.step (State.lightRound_mem _ _) ?_
    exact h15
  clear_value v3
  refine MemKeeps.have v5 ?_ fun h20 => ?_
  · refine MemKeeps.ite ?_ ?_
    · with_reducible refine MemKeeps.record rfl ?_ ?_
      · exact MemKeeps.of_eq rfl rfl
      exact h19
    · exact h19
  clear_value v5
  refine MemKeeps.have v6 ?_ fun h21 => ?_
  · with_reducible refine MemKeeps.step (MemKeeps.ofSame (State.setDap_same _ _) (by decide)) ?_
    with_reducible refine MemKeeps.step (MemKeeps.ofSame (State.reports_same _ _) (by decide)) ?_
    with_reducible refine MemKeeps.step (State.feedAll_mem _) ?_
    exact h20
  clear_value v6
  with_reducible refine MemKeeps.step (MemKeeps.ofSame (State.notifyAll_same _) (by decide)) ?_
  exact h21

theorem execHousekeepingRound_mem (x1 : Readings) (x2 : State) :
    OutMemKeeps x2 (execHousekeepingRound x1 x2) := by
  unfold execHousekeepingRound
  refine OutMemKeeps.ite ?_ ?_
  · refine OutMemKeeps.next ?_
    exact MemKeeps.refl _
  · extract_lets v0 v1
    refine OutMemKeeps.have v1 ?_ fun h2 => ?_
    · with_reducible refine MemKeeps.step (MemKeeps.ofSame (State.readSensors_same _ _) (by decide)) ?_
      exact MemKeeps.refl _
    clear_value v1
    split
    rename_i e3 e4 e5 e6
    split
    rename_i e7 e8 e9 e10
    refine OutMemKeeps.ite ?_ ?_
    · refine OutMemKeeps.next ?_
      with_reducible refine MemKeeps.step (State.faultOff_mem _ _) ?_
      refine MemKeeps.fstOf e10 ?_
      refine MemKeeps.foldlFst ?_ fun q11 y12 h13 => ?_
      · dsimp only
        refine MemKeeps.fstOf e6 ?_
        with_reducible refine MemKeeps.step (MemKeeps.ofSame (State.hubRound_same _ _) (by decide)) ?_
        exact h2
      · split
        rename_i e14 e15 e16 e17
        dsimp only
        refine MemKeeps.fstOf e17 ?_
        with_reducible refine MemKeeps.step (State.fieldRound_mem _ _ _) ?_
        exact h13
    · refine OutMemKeeps.next ?_
      with_reducible refine MemKeeps.step (State.roundActs_mem _ _ _ _) ?_
      refine MemKeeps.fstOf e10 ?_
      refine MemKeeps.foldlFst ?_ fun q18 y19 h20 => ?_
      · dsimp only
        refine MemKeeps.fstOf e6 ?_
        with_reducible refine MemKeeps.step (MemKeeps.ofSame (State.hubRound_same _ _) (by decide)) ?_
        exact h2
      · split
        rename_i e21 e22 e23 e24
        dsimp only
        refine MemKeeps.fstOf e24 ?_
        with_reducible refine MemKeeps.step (State.fieldRound_mem _ _ _) ?_
        exact h20

end Sys2Proof.Machine
end

