-- ==== Sys2Proof/Laws/Sealed.lean ====
section
/-! SUPPORT. A sealed packet: its check holds, and sealing changes no field that the check covers. -/

namespace Sys2Proof

@[simp] theorem Packet.words_sealed (p : Packet) : p.sealed.words = p.words := rfl
@[simp] theorem Packet.payload_sealed (p : Packet) : p.sealed.payload = p.payload := rfl
@[simp] theorem Packet.check_sealed (p : Packet) : p.sealed.check = p.check := rfl
@[simp] theorem Packet.crcOk_sealed (p : Packet) : p.sealed.crcOk = true := by
  unfold Packet.crcOk
  rw [Packet.check_sealed]
  exact beq_self_eq_true _

end Sys2Proof
end

