-- ==== Sys2Proof/Laws/Slices.lean ====
section
/-! SUPPORT. What abandoning BIST slices leaves alone, by the kinds of unit that are abandoned. -/

namespace Sys2Proof.Machine

open Sys2Proof

theorem foldl_keeps {α β γ : Type} (f : α → β → α) (g : α → γ) (l : List β) (h : ∀ a, ∀ b ∈ l, g (f a b) = g a) (s : α) :
    g (l.foldl f s) = g s := by
  induction l generalizing s with
  | nil => rfl
  | cons b r ih => exact (ih (fun a c hc => h a c (List.mem_cons_of_mem _ hc)) _).trans (h s b List.mem_cons_self)

/-- No lane's slice is abandoned: the lanes stay. -/
theorem State.dropSlices_lanes (s : State) (p : BistUnit → Bool) (h : ∀ a n, p (.lane a n) = false) : (s.dropSlices p).lanes = s.lanes := by
  have k : ∀ (t : State) (b : BistSlice), p b.unit = true → (t.freeUnit b.unit).lanes = t.lanes := by
    intro t b hb
    cases hu : b.unit with
    | lane a n => rw [hu, h] at hb; cases hb
    | core d m => rfl
    | bank d m x => rfl
    | region q c => rfl
  refine foldl_keeps (fun (t : State) (b : BistSlice) => t.freeUnit b.unit) (·.lanes) _ (fun t b hb => k t b ?_) s
  exact (List.mem_filter.mp hb).2

/-- No slice of a core or bank is abandoned: the cores stay. -/
theorem State.dropSlices_cores (s : State) (p : BistUnit → Bool) (hc : ∀ d m, p (.core d m) = false) (hb : ∀ d m x, p (.bank d m x) = false) :
    (s.dropSlices p).cores = s.cores := by
  have k : ∀ (t : State) (b : BistSlice), p b.unit = true → (t.freeUnit b.unit).cores = t.cores := by
    intro t b h
    cases hu : b.unit with
    | lane a n => rfl
    | core d m => rw [hu, hc] at h; cases h
    | bank d m x => rw [hu, hb] at h; cases h
    | region q c => rfl
  refine foldl_keeps (fun (t : State) (b : BistSlice) => t.freeUnit b.unit) (·.cores) _ (fun t b hb => k t b ?_) s
  exact (List.mem_filter.mp hb).2

end Sys2Proof.Machine
end

