-- ==== Sys2Proof/Laws/State.lean ====
section
/-! SUPPORT. The laws of the state's plain updates: for each update and each field that it leaves alone one equation, and for
each update what is read after it. -/

namespace Sys2Proof.Machine

open Sys2Proof

@[simp] theorem State.setReg_nv (s : State) (k v : Nat) : (s.setReg k v).nv = s.nv := rfl
@[simp] theorem State.setReg_lastStatus (s : State) (k v : Nat) : (s.setReg k v).lastStatus = s.lastStatus := rfl
@[simp] theorem State.setReg_freeCtr (s : State) (k v : Nat) : (s.setReg k v).freeCtr = s.freeCtr := rfl
@[simp] theorem State.setReg_hostMem (s : State) (k v : Nat) : (s.setReg k v).hostMem = s.hostMem := rfl
@[simp] theorem State.setReg_tb (s : State) (k v : Nat) : (s.setReg k v).tb = s.tb := rfl
@[simp] theorem State.setReg_prick (s : State) (k v : Nat) : (s.setReg k v).prick = s.prick := rfl
@[simp] theorem State.setReg_entries (s : State) (k v : Nat) : (s.setReg k v).entries = s.entries := rfl
@[simp] theorem State.setReg_cores (s : State) (k v : Nat) : (s.setReg k v).cores = s.cores := rfl
@[simp] theorem State.setReg_runs (s : State) (k v : Nat) : (s.setReg k v).runs = s.runs := rfl
@[simp] theorem State.setReg_dies (s : State) (k v : Nat) : (s.setReg k v).dies = s.dies := rfl
@[simp] theorem State.setReg_grants (s : State) (k v : Nat) : (s.setReg k v).grants = s.grants := rfl
@[simp] theorem State.setReg_nextGrant (s : State) (k v : Nat) : (s.setReg k v).nextGrant = s.nextGrant := rfl
@[simp] theorem State.setReg_orphans (s : State) (k v : Nat) : (s.setReg k v).orphans = s.orphans := rfl
@[simp] theorem State.setReg_stopped (s : State) (k v : Nat) : (s.setReg k v).stopped = s.stopped := rfl
@[simp] theorem State.setReg_fuseMap (s : State) (k v : Nat) : (s.setReg k v).fuseMap = s.fuseMap := rfl
@[simp] theorem State.setReg_fieldMap (s : State) (k v : Nat) : (s.setReg k v).fieldMap = s.fieldMap := rfl
@[simp] theorem State.setReg_patCmd (s : State) (k v : Nat) : (s.setReg k v).patCmd = s.patCmd := rfl
@[simp] theorem State.setReg_halted (s : State) (k v : Nat) : (s.setReg k v).halted = s.halted := rfl
@[simp] theorem State.setReg_stores (s : State) (k v : Nat) : (s.setReg k v).stores = s.stores := rfl
@[simp] theorem State.setReg_ledger (s : State) (k v : Nat) : (s.setReg k v).ledger = s.ledger := rfl
@[simp] theorem State.setReg_tlb (s : State) (k v : Nat) : (s.setReg k v).tlb = s.tlb := rfl
@[simp] theorem State.setReg_epoch (s : State) (k v : Nat) : (s.setReg k v).epoch = s.epoch := rfl
@[simp] theorem State.setReg_heldFrames (s : State) (k v : Nat) : (s.setReg k v).heldFrames = s.heldFrames := rfl
@[simp] theorem State.setReg_migs (s : State) (k v : Nat) : (s.setReg k v).migs = s.migs := rfl
@[simp] theorem State.setReg_ledgerCmd (s : State) (k v : Nat) : (s.setReg k v).ledgerCmd = s.ledgerCmd := rfl
@[simp] theorem State.setReg_ledgerTurn (s : State) (k v : Nat) : (s.setReg k v).ledgerTurn = s.ledgerTurn := rfl
@[simp] theorem State.setReg_chans (s : State) (k v : Nat) : (s.setReg k v).chans = s.chans := rfl
@[simp] theorem State.setReg_staging (s : State) (k v : Nat) : (s.setReg k v).staging = s.staging := rfl
@[simp] theorem State.setReg_stagingTurn (s : State) (k v : Nat) : (s.setReg k v).stagingTurn = s.stagingTurn := rfl
@[simp] theorem State.setReg_nvTrims (s : State) (k v : Nat) : (s.setReg k v).nvTrims = s.nvTrims := rfl
@[simp] theorem State.setReg_trimWords (s : State) (k v : Nat) : (s.setReg k v).trimWords = s.trimWords := rfl
@[simp] theorem State.setReg_trimMode (s : State) (k v : Nat) : (s.setReg k v).trimMode = s.trimMode := rfl
@[simp] theorem State.setReg_calCmd (s : State) (k v : Nat) : (s.setReg k v).calCmd = s.calCmd := rfl
@[simp] theorem State.setReg_regions (s : State) (k v : Nat) : (s.setReg k v).regions = s.regions := rfl
@[simp] theorem State.setReg_rings (s : State) (k v : Nat) : (s.setReg k v).rings = s.rings := rfl
@[simp] theorem State.setReg_lanes (s : State) (k v : Nat) : (s.setReg k v).lanes = s.lanes := rfl
@[simp] theorem State.setReg_paths (s : State) (k v : Nat) : (s.setReg k v).paths = s.paths := rfl
@[simp] theorem State.setReg_arbiters (s : State) (k v : Nat) : (s.setReg k v).arbiters = s.arbiters := rfl
@[simp] theorem State.setReg_lasers (s : State) (k v : Nat) : (s.setReg k v).lasers = s.lasers := rfl
@[simp] theorem State.setReg_identReports (s : State) (k v : Nat) : (s.setReg k v).identReports = s.identReports := rfl
@[simp] theorem State.setReg_guests (s : State) (k v : Nat) : (s.setReg k v).guests = s.guests := rfl
@[simp] theorem State.setReg_requests (s : State) (k v : Nat) : (s.setReg k v).requests = s.requests := rfl
@[simp] theorem State.setReg_seqs (s : State) (k v : Nat) : (s.setReg k v).seqs = s.seqs := rfl
@[simp] theorem State.setReg_phases (s : State) (k v : Nat) : (s.setReg k v).phases = s.phases := rfl
@[simp] theorem State.setReg_trackers (s : State) (k v : Nat) : (s.setReg k v).trackers = s.trackers := rfl
@[simp] theorem State.setReg_replies (s : State) (k v : Nat) : (s.setReg k v).replies = s.replies := rfl
@[simp] theorem State.setReg_guards (s : State) (k v : Nat) : (s.setReg k v).guards = s.guards := rfl
@[simp] theorem State.setReg_lastResponse (s : State) (k v : Nat) : (s.setReg k v).lastResponse = s.lastResponse := rfl
@[simp] theorem State.setReg_lineCache (s : State) (k v : Nat) : (s.setReg k v).lineCache = s.lineCache := rfl
@[simp] theorem State.setReg_xports (s : State) (k v : Nat) : (s.setReg k v).xports = s.xports := rfl
@[simp] theorem State.setReg_routes (s : State) (k v : Nat) : (s.setReg k v).routes = s.routes := rfl
@[simp] theorem State.setReg_hub (s : State) (k v : Nat) : (s.setReg k v).hub = s.hub := rfl
@[simp] theorem State.setReg_routeLoad (s : State) (k v : Nat) : (s.setReg k v).routeLoad = s.routeLoad := rfl
@[simp] theorem State.setReg_pair (s : State) (k v : Nat) : (s.setReg k v).pair = s.pair := rfl
@[simp] theorem State.setReg_ports (s : State) (k v : Nat) : (s.setReg k v).ports = s.ports := rfl
@[simp] theorem State.setReg_streams (s : State) (k v : Nat) : (s.setReg k v).streams = s.streams := rfl
@[simp] theorem State.setReg_sqPort (s : State) (k v : Nat) : (s.setReg k v).sqPort = s.sqPort := rfl
@[simp] theorem State.setReg_dap (s : State) (k v : Nat) : (s.setReg k v).dap = s.dap := rfl
@[simp] theorem State.setReg_thermals (s : State) (k v : Nat) : (s.setReg k v).thermals = s.thermals := rfl
@[simp] theorem State.setReg_sensors (s : State) (k v : Nat) : (s.setReg k v).sensors = s.sensors := rfl
@[simp] theorem State.setReg_pw (s : State) (k v : Nat) : (s.setReg k v).pw = s.pw := rfl
@[simp] theorem State.setReg_sec (s : State) (k v : Nat) : (s.setReg k v).sec = s.sec := rfl
@[simp] theorem State.setReg_test (s : State) (k v : Nat) : (s.setReg k v).test = s.test := rfl
@[simp] theorem State.setReg_pending (s : State) (k v : Nat) : (s.setReg k v).pending = s.pending := rfl

@[simp] theorem State.addReg_nv (s : State) (k n : Nat) : (s.addReg k n).nv = s.nv := rfl
@[simp] theorem State.addReg_lastStatus (s : State) (k n : Nat) : (s.addReg k n).lastStatus = s.lastStatus := rfl
@[simp] theorem State.addReg_freeCtr (s : State) (k n : Nat) : (s.addReg k n).freeCtr = s.freeCtr := rfl
@[simp] theorem State.addReg_hostMem (s : State) (k n : Nat) : (s.addReg k n).hostMem = s.hostMem := rfl
@[simp] theorem State.addReg_tb (s : State) (k n : Nat) : (s.addReg k n).tb = s.tb := rfl
@[simp] theorem State.addReg_prick (s : State) (k n : Nat) : (s.addReg k n).prick = s.prick := rfl
@[simp] theorem State.addReg_entries (s : State) (k n : Nat) : (s.addReg k n).entries = s.entries := rfl
@[simp] theorem State.addReg_cores (s : State) (k n : Nat) : (s.addReg k n).cores = s.cores := rfl
@[simp] theorem State.addReg_runs (s : State) (k n : Nat) : (s.addReg k n).runs = s.runs := rfl
@[simp] theorem State.addReg_dies (s : State) (k n : Nat) : (s.addReg k n).dies = s.dies := rfl
@[simp] theorem State.addReg_grants (s : State) (k n : Nat) : (s.addReg k n).grants = s.grants := rfl
@[simp] theorem State.addReg_nextGrant (s : State) (k n : Nat) : (s.addReg k n).nextGrant = s.nextGrant := rfl
@[simp] theorem State.addReg_orphans (s : State) (k n : Nat) : (s.addReg k n).orphans = s.orphans := rfl
@[simp] theorem State.addReg_stopped (s : State) (k n : Nat) : (s.addReg k n).stopped = s.stopped := rfl
@[simp] theorem State.addReg_fuseMap (s : State) (k n : Nat) : (s.addReg k n).fuseMap = s.fuseMap := rfl
@[simp] theorem State.addReg_fieldMap (s : State) (k n : Nat) : (s.addReg k n).fieldMap = s.fieldMap := rfl
@[simp] theorem State.addReg_patCmd (s : State) (k n : Nat) : (s.addReg k n).patCmd = s.patCmd := rfl
@[simp] theorem State.addReg_halted (s : State) (k n : Nat) : (s.addReg k n).halted = s.halted := rfl
@[simp] theorem State.addReg_stores (s : State) (k n : Nat) : (s.addReg k n).stores = s.stores := rfl
@[simp] theorem State.addReg_ledger (s : State) (k n : Nat) : (s.addReg k n).ledger = s.ledger := rfl
@[simp] theorem State.addReg_tlb (s : State) (k n : Nat) : (s.addReg k n).tlb = s.tlb := rfl
@[simp] theorem State.addReg_epoch (s : State) (k n : Nat) : (s.addReg k n).epoch = s.epoch := rfl
@[simp] theorem State.addReg_heldFrames (s : State) (k n : Nat) : (s.addReg k n).heldFrames = s.heldFrames := rfl
@[simp] theorem State.addReg_migs (s : State) (k n : Nat) : (s.addReg k n).migs = s.migs := rfl
@[simp] theorem State.addReg_ledgerCmd (s : State) (k n : Nat) : (s.addReg k n).ledgerCmd = s.ledgerCmd := rfl
@[simp] theorem State.addReg_ledgerTurn (s : State) (k n : Nat) : (s.addReg k n).ledgerTurn = s.ledgerTurn := rfl
@[simp] theorem State.addReg_chans (s : State) (k n : Nat) : (s.addReg k n).chans = s.chans := rfl
@[simp] theorem State.addReg_staging (s : State) (k n : Nat) : (s.addReg k n).staging = s.staging := rfl
@[simp] theorem State.addReg_stagingTurn (s : State) (k n : Nat) : (s.addReg k n).stagingTurn = s.stagingTurn := rfl
@[simp] theorem State.addReg_nvTrims (s : State) (k n : Nat) : (s.addReg k n).nvTrims = s.nvTrims := rfl
@[simp] theorem State.addReg_trimWords (s : State) (k n : Nat) : (s.addReg k n).trimWords = s.trimWords := rfl
@[simp] theorem State.addReg_trimMode (s : State) (k n : Nat) : (s.addReg k n).trimMode = s.trimMode := rfl
@[simp] theorem State.addReg_calCmd (s : State) (k n : Nat) : (s.addReg k n).calCmd = s.calCmd := rfl
@[simp] theorem State.addReg_regions (s : State) (k n : Nat) : (s.addReg k n).regions = s.regions := rfl
@[simp] theorem State.addReg_rings (s : State) (k n : Nat) : (s.addReg k n).rings = s.rings := rfl
@[simp] theorem State.addReg_lanes (s : State) (k n : Nat) : (s.addReg k n).lanes = s.lanes := rfl
@[simp] theorem State.addReg_paths (s : State) (k n : Nat) : (s.addReg k n).paths = s.paths := rfl
@[simp] theorem State.addReg_arbiters (s : State) (k n : Nat) : (s.addReg k n).arbiters = s.arbiters := rfl
@[simp] theorem State.addReg_lasers (s : State) (k n : Nat) : (s.addReg k n).lasers = s.lasers := rfl
@[simp] theorem State.addReg_identReports (s : State) (k n : Nat) : (s.addReg k n).identReports = s.identReports := rfl
@[simp] theorem State.addReg_guests (s : State) (k n : Nat) : (s.addReg k n).guests = s.guests := rfl
@[simp] theorem State.addReg_requests (s : State) (k n : Nat) : (s.addReg k n).requests = s.requests := rfl
@[simp] theorem State.addReg_seqs (s : State) (k n : Nat) : (s.addReg k n).seqs = s.seqs := rfl
@[simp] theorem State.addReg_phases (s : State) (k n : Nat) : (s.addReg k n).phases = s.phases := rfl
@[simp] theorem State.addReg_trackers (s : State) (k n : Nat) : (s.addReg k n).trackers = s.trackers := rfl
@[simp] theorem State.addReg_replies (s : State) (k n : Nat) : (s.addReg k n).replies = s.replies := rfl
@[simp] theorem State.addReg_guards (s : State) (k n : Nat) : (s.addReg k n).guards = s.guards := rfl
@[simp] theorem State.addReg_lastResponse (s : State) (k n : Nat) : (s.addReg k n).lastResponse = s.lastResponse := rfl
@[simp] theorem State.addReg_lineCache (s : State) (k n : Nat) : (s.addReg k n).lineCache = s.lineCache := rfl
@[simp] theorem State.addReg_xports (s : State) (k n : Nat) : (s.addReg k n).xports = s.xports := rfl
@[simp] theorem State.addReg_routes (s : State) (k n : Nat) : (s.addReg k n).routes = s.routes := rfl
@[simp] theorem State.addReg_hub (s : State) (k n : Nat) : (s.addReg k n).hub = s.hub := rfl
@[simp] theorem State.addReg_routeLoad (s : State) (k n : Nat) : (s.addReg k n).routeLoad = s.routeLoad := rfl
@[simp] theorem State.addReg_pair (s : State) (k n : Nat) : (s.addReg k n).pair = s.pair := rfl
@[simp] theorem State.addReg_ports (s : State) (k n : Nat) : (s.addReg k n).ports = s.ports := rfl
@[simp] theorem State.addReg_streams (s : State) (k n : Nat) : (s.addReg k n).streams = s.streams := rfl
@[simp] theorem State.addReg_sqPort (s : State) (k n : Nat) : (s.addReg k n).sqPort = s.sqPort := rfl
@[simp] theorem State.addReg_dap (s : State) (k n : Nat) : (s.addReg k n).dap = s.dap := rfl
@[simp] theorem State.addReg_thermals (s : State) (k n : Nat) : (s.addReg k n).thermals = s.thermals := rfl
@[simp] theorem State.addReg_sensors (s : State) (k n : Nat) : (s.addReg k n).sensors = s.sensors := rfl
@[simp] theorem State.addReg_pw (s : State) (k n : Nat) : (s.addReg k n).pw = s.pw := rfl
@[simp] theorem State.addReg_sec (s : State) (k n : Nat) : (s.addReg k n).sec = s.sec := rfl
@[simp] theorem State.addReg_test (s : State) (k n : Nat) : (s.addReg k n).test = s.test := rfl
@[simp] theorem State.addReg_pending (s : State) (k n : Nat) : (s.addReg k n).pending = s.pending := rfl

@[simp] theorem State.bump_nv (s : State) (k : Nat) : (s.bump k).nv = s.nv := rfl
@[simp] theorem State.bump_lastStatus (s : State) (k : Nat) : (s.bump k).lastStatus = s.lastStatus := rfl
@[simp] theorem State.bump_freeCtr (s : State) (k : Nat) : (s.bump k).freeCtr = s.freeCtr := rfl
@[simp] theorem State.bump_hostMem (s : State) (k : Nat) : (s.bump k).hostMem = s.hostMem := rfl
@[simp] theorem State.bump_tb (s : State) (k : Nat) : (s.bump k).tb = s.tb := rfl
@[simp] theorem State.bump_prick (s : State) (k : Nat) : (s.bump k).prick = s.prick := rfl
@[simp] theorem State.bump_entries (s : State) (k : Nat) : (s.bump k).entries = s.entries := rfl
@[simp] theorem State.bump_cores (s : State) (k : Nat) : (s.bump k).cores = s.cores := rfl
@[simp] theorem State.bump_runs (s : State) (k : Nat) : (s.bump k).runs = s.runs := rfl
@[simp] theorem State.bump_dies (s : State) (k : Nat) : (s.bump k).dies = s.dies := rfl
@[simp] theorem State.bump_grants (s : State) (k : Nat) : (s.bump k).grants = s.grants := rfl
@[simp] theorem State.bump_nextGrant (s : State) (k : Nat) : (s.bump k).nextGrant = s.nextGrant := rfl
@[simp] theorem State.bump_orphans (s : State) (k : Nat) : (s.bump k).orphans = s.orphans := rfl
@[simp] theorem State.bump_stopped (s : State) (k : Nat) : (s.bump k).stopped = s.stopped := rfl
@[simp] theorem State.bump_fuseMap (s : State) (k : Nat) : (s.bump k).fuseMap = s.fuseMap := rfl
@[simp] theorem State.bump_fieldMap (s : State) (k : Nat) : (s.bump k).fieldMap = s.fieldMap := rfl
@[simp] theorem State.bump_patCmd (s : State) (k : Nat) : (s.bump k).patCmd = s.patCmd := rfl
@[simp] theorem State.bump_halted (s : State) (k : Nat) : (s.bump k).halted = s.halted := rfl
@[simp] theorem State.bump_stores (s : State) (k : Nat) : (s.bump k).stores = s.stores := rfl
@[simp] theorem State.bump_ledger (s : State) (k : Nat) : (s.bump k).ledger = s.ledger := rfl
@[simp] theorem State.bump_tlb (s : State) (k : Nat) : (s.bump k).tlb = s.tlb := rfl
@[simp] theorem State.bump_epoch (s : State) (k : Nat) : (s.bump k).epoch = s.epoch := rfl
@[simp] theorem State.bump_heldFrames (s : State) (k : Nat) : (s.bump k).heldFrames = s.heldFrames := rfl
@[simp] theorem State.bump_migs (s : State) (k : Nat) : (s.bump k).migs = s.migs := rfl
@[simp] theorem State.bump_ledgerCmd (s : State) (k : Nat) : (s.bump k).ledgerCmd = s.ledgerCmd := rfl
@[simp] theorem State.bump_ledgerTurn (s : State) (k : Nat) : (s.bump k).ledgerTurn = s.ledgerTurn := rfl
@[simp] theorem State.bump_chans (s : State) (k : Nat) : (s.bump k).chans = s.chans := rfl
@[simp] theorem State.bump_staging (s : State) (k : Nat) : (s.bump k).staging = s.staging := rfl
@[simp] theorem State.bump_stagingTurn (s : State) (k : Nat) : (s.bump k).stagingTurn = s.stagingTurn := rfl
@[simp] theorem State.bump_nvTrims (s : State) (k : Nat) : (s.bump k).nvTrims = s.nvTrims := rfl
@[simp] theorem State.bump_trimWords (s : State) (k : Nat) : (s.bump k).trimWords = s.trimWords := rfl
@[simp] theorem State.bump_trimMode (s : State) (k : Nat) : (s.bump k).trimMode = s.trimMode := rfl
@[simp] theorem State.bump_calCmd (s : State) (k : Nat) : (s.bump k).calCmd = s.calCmd := rfl
@[simp] theorem State.bump_regions (s : State) (k : Nat) : (s.bump k).regions = s.regions := rfl
@[simp] theorem State.bump_rings (s : State) (k : Nat) : (s.bump k).rings = s.rings := rfl
@[simp] theorem State.bump_lanes (s : State) (k : Nat) : (s.bump k).lanes = s.lanes := rfl
@[simp] theorem State.bump_paths (s : State) (k : Nat) : (s.bump k).paths = s.paths := rfl
@[simp] theorem State.bump_arbiters (s : State) (k : Nat) : (s.bump k).arbiters = s.arbiters := rfl
@[simp] theorem State.bump_lasers (s : State) (k : Nat) : (s.bump k).lasers = s.lasers := rfl
@[simp] theorem State.bump_identReports (s : State) (k : Nat) : (s.bump k).identReports = s.identReports := rfl
@[simp] theorem State.bump_guests (s : State) (k : Nat) : (s.bump k).guests = s.guests := rfl
@[simp] theorem State.bump_requests (s : State) (k : Nat) : (s.bump k).requests = s.requests := rfl
@[simp] theorem State.bump_seqs (s : State) (k : Nat) : (s.bump k).seqs = s.seqs := rfl
@[simp] theorem State.bump_phases (s : State) (k : Nat) : (s.bump k).phases = s.phases := rfl
@[simp] theorem State.bump_trackers (s : State) (k : Nat) : (s.bump k).trackers = s.trackers := rfl
@[simp] theorem State.bump_replies (s : State) (k : Nat) : (s.bump k).replies = s.replies := rfl
@[simp] theorem State.bump_guards (s : State) (k : Nat) : (s.bump k).guards = s.guards := rfl
@[simp] theorem State.bump_lastResponse (s : State) (k : Nat) : (s.bump k).lastResponse = s.lastResponse := rfl
@[simp] theorem State.bump_lineCache (s : State) (k : Nat) : (s.bump k).lineCache = s.lineCache := rfl
@[simp] theorem State.bump_xports (s : State) (k : Nat) : (s.bump k).xports = s.xports := rfl
@[simp] theorem State.bump_routes (s : State) (k : Nat) : (s.bump k).routes = s.routes := rfl
@[simp] theorem State.bump_hub (s : State) (k : Nat) : (s.bump k).hub = s.hub := rfl
@[simp] theorem State.bump_routeLoad (s : State) (k : Nat) : (s.bump k).routeLoad = s.routeLoad := rfl
@[simp] theorem State.bump_pair (s : State) (k : Nat) : (s.bump k).pair = s.pair := rfl
@[simp] theorem State.bump_ports (s : State) (k : Nat) : (s.bump k).ports = s.ports := rfl
@[simp] theorem State.bump_streams (s : State) (k : Nat) : (s.bump k).streams = s.streams := rfl
@[simp] theorem State.bump_sqPort (s : State) (k : Nat) : (s.bump k).sqPort = s.sqPort := rfl
@[simp] theorem State.bump_dap (s : State) (k : Nat) : (s.bump k).dap = s.dap := rfl
@[simp] theorem State.bump_thermals (s : State) (k : Nat) : (s.bump k).thermals = s.thermals := rfl
@[simp] theorem State.bump_sensors (s : State) (k : Nat) : (s.bump k).sensors = s.sensors := rfl
@[simp] theorem State.bump_pw (s : State) (k : Nat) : (s.bump k).pw = s.pw := rfl
@[simp] theorem State.bump_sec (s : State) (k : Nat) : (s.bump k).sec = s.sec := rfl
@[simp] theorem State.bump_test (s : State) (k : Nat) : (s.bump k).test = s.test := rfl
@[simp] theorem State.bump_pending (s : State) (k : Nat) : (s.bump k).pending = s.pending := rfl

@[simp] theorem State.stick_nv (s : State) (k b : Nat) : (s.stick k b).nv = s.nv := rfl
@[simp] theorem State.stick_lastStatus (s : State) (k b : Nat) : (s.stick k b).lastStatus = s.lastStatus := rfl
@[simp] theorem State.stick_freeCtr (s : State) (k b : Nat) : (s.stick k b).freeCtr = s.freeCtr := rfl
@[simp] theorem State.stick_hostMem (s : State) (k b : Nat) : (s.stick k b).hostMem = s.hostMem := rfl
@[simp] theorem State.stick_tb (s : State) (k b : Nat) : (s.stick k b).tb = s.tb := rfl
@[simp] theorem State.stick_prick (s : State) (k b : Nat) : (s.stick k b).prick = s.prick := rfl
@[simp] theorem State.stick_entries (s : State) (k b : Nat) : (s.stick k b).entries = s.entries := rfl
@[simp] theorem State.stick_cores (s : State) (k b : Nat) : (s.stick k b).cores = s.cores := rfl
@[simp] theorem State.stick_runs (s : State) (k b : Nat) : (s.stick k b).runs = s.runs := rfl
@[simp] theorem State.stick_dies (s : State) (k b : Nat) : (s.stick k b).dies = s.dies := rfl
@[simp] theorem State.stick_grants (s : State) (k b : Nat) : (s.stick k b).grants = s.grants := rfl
@[simp] theorem State.stick_nextGrant (s : State) (k b : Nat) : (s.stick k b).nextGrant = s.nextGrant := rfl
@[simp] theorem State.stick_orphans (s : State) (k b : Nat) : (s.stick k b).orphans = s.orphans := rfl
@[simp] theorem State.stick_stopped (s : State) (k b : Nat) : (s.stick k b).stopped = s.stopped := rfl
@[simp] theorem State.stick_fuseMap (s : State) (k b : Nat) : (s.stick k b).fuseMap = s.fuseMap := rfl
@[simp] theorem State.stick_fieldMap (s : State) (k b : Nat) : (s.stick k b).fieldMap = s.fieldMap := rfl
@[simp] theorem State.stick_patCmd (s : State) (k b : Nat) : (s.stick k b).patCmd = s.patCmd := rfl
@[simp] theorem State.stick_halted (s : State) (k b : Nat) : (s.stick k b).halted = s.halted := rfl
@[simp] theorem State.stick_stores (s : State) (k b : Nat) : (s.stick k b).stores = s.stores := rfl
@[simp] theorem State.stick_ledger (s : State) (k b : Nat) : (s.stick k b).ledger = s.ledger := rfl
@[simp] theorem State.stick_tlb (s : State) (k b : Nat) : (s.stick k b).tlb = s.tlb := rfl
@[simp] theorem State.stick_epoch (s : State) (k b : Nat) : (s.stick k b).epoch = s.epoch := rfl
@[simp] theorem State.stick_heldFrames (s : State) (k b : Nat) : (s.stick k b).heldFrames = s.heldFrames := rfl
@[simp] theorem State.stick_migs (s : State) (k b : Nat) : (s.stick k b).migs = s.migs := rfl
@[simp] theorem State.stick_ledgerCmd (s : State) (k b : Nat) : (s.stick k b).ledgerCmd = s.ledgerCmd := rfl
@[simp] theorem State.stick_ledgerTurn (s : State) (k b : Nat) : (s.stick k b).ledgerTurn = s.ledgerTurn := rfl
@[simp] theorem State.stick_chans (s : State) (k b : Nat) : (s.stick k b).chans = s.chans := rfl
@[simp] theorem State.stick_staging (s : State) (k b : Nat) : (s.stick k b).staging = s.staging := rfl
@[simp] theorem State.stick_stagingTurn (s : State) (k b : Nat) : (s.stick k b).stagingTurn = s.stagingTurn := rfl
@[simp] theorem State.stick_nvTrims (s : State) (k b : Nat) : (s.stick k b).nvTrims = s.nvTrims := rfl
@[simp] theorem State.stick_trimWords (s : State) (k b : Nat) : (s.stick k b).trimWords = s.trimWords := rfl
@[simp] theorem State.stick_trimMode (s : State) (k b : Nat) : (s.stick k b).trimMode = s.trimMode := rfl
@[simp] theorem State.stick_calCmd (s : State) (k b : Nat) : (s.stick k b).calCmd = s.calCmd := rfl
@[simp] theorem State.stick_regions (s : State) (k b : Nat) : (s.stick k b).regions = s.regions := rfl
@[simp] theorem State.stick_rings (s : State) (k b : Nat) : (s.stick k b).rings = s.rings := rfl
@[simp] theorem State.stick_lanes (s : State) (k b : Nat) : (s.stick k b).lanes = s.lanes := rfl
@[simp] theorem State.stick_paths (s : State) (k b : Nat) : (s.stick k b).paths = s.paths := rfl
@[simp] theorem State.stick_arbiters (s : State) (k b : Nat) : (s.stick k b).arbiters = s.arbiters := rfl
@[simp] theorem State.stick_lasers (s : State) (k b : Nat) : (s.stick k b).lasers = s.lasers := rfl
@[simp] theorem State.stick_identReports (s : State) (k b : Nat) : (s.stick k b).identReports = s.identReports := rfl
@[simp] theorem State.stick_guests (s : State) (k b : Nat) : (s.stick k b).guests = s.guests := rfl
@[simp] theorem State.stick_requests (s : State) (k b : Nat) : (s.stick k b).requests = s.requests := rfl
@[simp] theorem State.stick_seqs (s : State) (k b : Nat) : (s.stick k b).seqs = s.seqs := rfl
@[simp] theorem State.stick_phases (s : State) (k b : Nat) : (s.stick k b).phases = s.phases := rfl
@[simp] theorem State.stick_trackers (s : State) (k b : Nat) : (s.stick k b).trackers = s.trackers := rfl
@[simp] theorem State.stick_replies (s : State) (k b : Nat) : (s.stick k b).replies = s.replies := rfl
@[simp] theorem State.stick_guards (s : State) (k b : Nat) : (s.stick k b).guards = s.guards := rfl
@[simp] theorem State.stick_lastResponse (s : State) (k b : Nat) : (s.stick k b).lastResponse = s.lastResponse := rfl
@[simp] theorem State.stick_lineCache (s : State) (k b : Nat) : (s.stick k b).lineCache = s.lineCache := rfl
@[simp] theorem State.stick_xports (s : State) (k b : Nat) : (s.stick k b).xports = s.xports := rfl
@[simp] theorem State.stick_routes (s : State) (k b : Nat) : (s.stick k b).routes = s.routes := rfl
@[simp] theorem State.stick_hub (s : State) (k b : Nat) : (s.stick k b).hub = s.hub := rfl
@[simp] theorem State.stick_routeLoad (s : State) (k b : Nat) : (s.stick k b).routeLoad = s.routeLoad := rfl
@[simp] theorem State.stick_pair (s : State) (k b : Nat) : (s.stick k b).pair = s.pair := rfl
@[simp] theorem State.stick_ports (s : State) (k b : Nat) : (s.stick k b).ports = s.ports := rfl
@[simp] theorem State.stick_streams (s : State) (k b : Nat) : (s.stick k b).streams = s.streams := rfl
@[simp] theorem State.stick_sqPort (s : State) (k b : Nat) : (s.stick k b).sqPort = s.sqPort := rfl
@[simp] theorem State.stick_dap (s : State) (k b : Nat) : (s.stick k b).dap = s.dap := rfl
@[simp] theorem State.stick_thermals (s : State) (k b : Nat) : (s.stick k b).thermals = s.thermals := rfl
@[simp] theorem State.stick_sensors (s : State) (k b : Nat) : (s.stick k b).sensors = s.sensors := rfl
@[simp] theorem State.stick_pw (s : State) (k b : Nat) : (s.stick k b).pw = s.pw := rfl
@[simp] theorem State.stick_sec (s : State) (k b : Nat) : (s.stick k b).sec = s.sec := rfl
@[simp] theorem State.stick_test (s : State) (k b : Nat) : (s.stick k b).test = s.test := rfl
@[simp] theorem State.stick_pending (s : State) (k b : Nat) : (s.stick k b).pending = s.pending := rfl

@[simp] theorem State.answer_dict (s : State) (x : Status) : (s.answer x).dict = s.dict := rfl
@[simp] theorem State.answer_nv (s : State) (x : Status) : (s.answer x).nv = s.nv := rfl
@[simp] theorem State.answer_freeCtr (s : State) (x : Status) : (s.answer x).freeCtr = s.freeCtr := rfl
@[simp] theorem State.answer_hostMem (s : State) (x : Status) : (s.answer x).hostMem = s.hostMem := rfl
@[simp] theorem State.answer_tb (s : State) (x : Status) : (s.answer x).tb = s.tb := rfl
@[simp] theorem State.answer_prick (s : State) (x : Status) : (s.answer x).prick = s.prick := rfl
@[simp] theorem State.answer_entries (s : State) (x : Status) : (s.answer x).entries = s.entries := rfl
@[simp] theorem State.answer_cores (s : State) (x : Status) : (s.answer x).cores = s.cores := rfl
@[simp] theorem State.answer_runs (s : State) (x : Status) : (s.answer x).runs = s.runs := rfl
@[simp] theorem State.answer_dies (s : State) (x : Status) : (s.answer x).dies = s.dies := rfl
@[simp] theorem State.answer_grants (s : State) (x : Status) : (s.answer x).grants = s.grants := rfl
@[simp] theorem State.answer_nextGrant (s : State) (x : Status) : (s.answer x).nextGrant = s.nextGrant := rfl
@[simp] theorem State.answer_orphans (s : State) (x : Status) : (s.answer x).orphans = s.orphans := rfl
@[simp] theorem State.answer_stopped (s : State) (x : Status) : (s.answer x).stopped = s.stopped := rfl
@[simp] theorem State.answer_fuseMap (s : State) (x : Status) : (s.answer x).fuseMap = s.fuseMap := rfl
@[simp] theorem State.answer_fieldMap (s : State) (x : Status) : (s.answer x).fieldMap = s.fieldMap := rfl
@[simp] theorem State.answer_patCmd (s : State) (x : Status) : (s.answer x).patCmd = s.patCmd := rfl
@[simp] theorem State.answer_halted (s : State) (x : Status) : (s.answer x).halted = s.halted := rfl
@[simp] theorem State.answer_stores (s : State) (x : Status) : (s.answer x).stores = s.stores := rfl
@[simp] theorem State.answer_ledger (s : State) (x : Status) : (s.answer x).ledger = s.ledger := rfl
@[simp] theorem State.answer_tlb (s : State) (x : Status) : (s.answer x).tlb = s.tlb := rfl
@[simp] theorem State.answer_epoch (s : State) (x : Status) : (s.answer x).epoch = s.epoch := rfl
@[simp] theorem State.answer_heldFrames (s : State) (x : Status) : (s.answer x).heldFrames = s.heldFrames := rfl
@[simp] theorem State.answer_migs (s : State) (x : Status) : (s.answer x).migs = s.migs := rfl
@[simp] theorem State.answer_ledgerCmd (s : State) (x : Status) : (s.answer x).ledgerCmd = s.ledgerCmd := rfl
@[simp] theorem State.answer_ledgerTurn (s : State) (x : Status) : (s.answer x).ledgerTurn = s.ledgerTurn := rfl
@[simp] theorem State.answer_chans (s : State) (x : Status) : (s.answer x).chans = s.chans := rfl
@[simp] theorem State.answer_staging (s : State) (x : Status) : (s.answer x).staging = s.staging := rfl
@[simp] theorem State.answer_stagingTurn (s : State) (x : Status) : (s.answer x).stagingTurn = s.stagingTurn := rfl
@[simp] theorem State.answer_nvTrims (s : State) (x : Status) : (s.answer x).nvTrims = s.nvTrims := rfl
@[simp] theorem State.answer_trimWords (s : State) (x : Status) : (s.answer x).trimWords = s.trimWords := rfl
@[simp] theorem State.answer_trimMode (s : State) (x : Status) : (s.answer x).trimMode = s.trimMode := rfl
@[simp] theorem State.answer_calCmd (s : State) (x : Status) : (s.answer x).calCmd = s.calCmd := rfl
@[simp] theorem State.answer_regions (s : State) (x : Status) : (s.answer x).regions = s.regions := rfl
@[simp] theorem State.answer_rings (s : State) (x : Status) : (s.answer x).rings = s.rings := rfl
@[simp] theorem State.answer_lanes (s : State) (x : Status) : (s.answer x).lanes = s.lanes := rfl
@[simp] theorem State.answer_paths (s : State) (x : Status) : (s.answer x).paths = s.paths := rfl
@[simp] theorem State.answer_arbiters (s : State) (x : Status) : (s.answer x).arbiters = s.arbiters := rfl
@[simp] theorem State.answer_lasers (s : State) (x : Status) : (s.answer x).lasers = s.lasers := rfl
@[simp] theorem State.answer_identReports (s : State) (x : Status) : (s.answer x).identReports = s.identReports := rfl
@[simp] theorem State.answer_guests (s : State) (x : Status) : (s.answer x).guests = s.guests := rfl
@[simp] theorem State.answer_requests (s : State) (x : Status) : (s.answer x).requests = s.requests := rfl
@[simp] theorem State.answer_seqs (s : State) (x : Status) : (s.answer x).seqs = s.seqs := rfl
@[simp] theorem State.answer_phases (s : State) (x : Status) : (s.answer x).phases = s.phases := rfl
@[simp] theorem State.answer_trackers (s : State) (x : Status) : (s.answer x).trackers = s.trackers := rfl
@[simp] theorem State.answer_replies (s : State) (x : Status) : (s.answer x).replies = s.replies := rfl
@[simp] theorem State.answer_guards (s : State) (x : Status) : (s.answer x).guards = s.guards := rfl
@[simp] theorem State.answer_lastResponse (s : State) (x : Status) : (s.answer x).lastResponse = s.lastResponse := rfl
@[simp] theorem State.answer_lineCache (s : State) (x : Status) : (s.answer x).lineCache = s.lineCache := rfl
@[simp] theorem State.answer_xports (s : State) (x : Status) : (s.answer x).xports = s.xports := rfl
@[simp] theorem State.answer_routes (s : State) (x : Status) : (s.answer x).routes = s.routes := rfl
@[simp] theorem State.answer_hub (s : State) (x : Status) : (s.answer x).hub = s.hub := rfl
@[simp] theorem State.answer_routeLoad (s : State) (x : Status) : (s.answer x).routeLoad = s.routeLoad := rfl
@[simp] theorem State.answer_pair (s : State) (x : Status) : (s.answer x).pair = s.pair := rfl
@[simp] theorem State.answer_ports (s : State) (x : Status) : (s.answer x).ports = s.ports := rfl
@[simp] theorem State.answer_streams (s : State) (x : Status) : (s.answer x).streams = s.streams := rfl
@[simp] theorem State.answer_sqPort (s : State) (x : Status) : (s.answer x).sqPort = s.sqPort := rfl
@[simp] theorem State.answer_dap (s : State) (x : Status) : (s.answer x).dap = s.dap := rfl
@[simp] theorem State.answer_thermals (s : State) (x : Status) : (s.answer x).thermals = s.thermals := rfl
@[simp] theorem State.answer_sensors (s : State) (x : Status) : (s.answer x).sensors = s.sensors := rfl
@[simp] theorem State.answer_pw (s : State) (x : Status) : (s.answer x).pw = s.pw := rfl
@[simp] theorem State.answer_sec (s : State) (x : Status) : (s.answer x).sec = s.sec := rfl
@[simp] theorem State.answer_test (s : State) (x : Status) : (s.answer x).test = s.test := rfl
@[simp] theorem State.answer_pending (s : State) (x : Status) : (s.answer x).pending = s.pending := rfl

@[simp] theorem State.answerCode_dict (s : State) (c : Nat) : (s.answerCode c).dict = s.dict := rfl
@[simp] theorem State.answerCode_nv (s : State) (c : Nat) : (s.answerCode c).nv = s.nv := rfl
@[simp] theorem State.answerCode_freeCtr (s : State) (c : Nat) : (s.answerCode c).freeCtr = s.freeCtr := rfl
@[simp] theorem State.answerCode_hostMem (s : State) (c : Nat) : (s.answerCode c).hostMem = s.hostMem := rfl
@[simp] theorem State.answerCode_tb (s : State) (c : Nat) : (s.answerCode c).tb = s.tb := rfl
@[simp] theorem State.answerCode_prick (s : State) (c : Nat) : (s.answerCode c).prick = s.prick := rfl
@[simp] theorem State.answerCode_entries (s : State) (c : Nat) : (s.answerCode c).entries = s.entries := rfl
@[simp] theorem State.answerCode_cores (s : State) (c : Nat) : (s.answerCode c).cores = s.cores := rfl
@[simp] theorem State.answerCode_runs (s : State) (c : Nat) : (s.answerCode c).runs = s.runs := rfl
@[simp] theorem State.answerCode_dies (s : State) (c : Nat) : (s.answerCode c).dies = s.dies := rfl
@[simp] theorem State.answerCode_grants (s : State) (c : Nat) : (s.answerCode c).grants = s.grants := rfl
@[simp] theorem State.answerCode_nextGrant (s : State) (c : Nat) : (s.answerCode c).nextGrant = s.nextGrant := rfl
@[simp] theorem State.answerCode_orphans (s : State) (c : Nat) : (s.answerCode c).orphans = s.orphans := rfl
@[simp] theorem State.answerCode_stopped (s : State) (c : Nat) : (s.answerCode c).stopped = s.stopped := rfl
@[simp] theorem State.answerCode_fuseMap (s : State) (c : Nat) : (s.answerCode c).fuseMap = s.fuseMap := rfl
@[simp] theorem State.answerCode_fieldMap (s : State) (c : Nat) : (s.answerCode c).fieldMap = s.fieldMap := rfl
@[simp] theorem State.answerCode_patCmd (s : State) (c : Nat) : (s.answerCode c).patCmd = s.patCmd := rfl
@[simp] theorem State.answerCode_halted (s : State) (c : Nat) : (s.answerCode c).halted = s.halted := rfl
@[simp] theorem State.answerCode_stores (s : State) (c : Nat) : (s.answerCode c).stores = s.stores := rfl
@[simp] theorem State.answerCode_ledger (s : State) (c : Nat) : (s.answerCode c).ledger = s.ledger := rfl
@[simp] theorem State.answerCode_tlb (s : State) (c : Nat) : (s.answerCode c).tlb = s.tlb := rfl
@[simp] theorem State.answerCode_epoch (s : State) (c : Nat) : (s.answerCode c).epoch = s.epoch := rfl
@[simp] theorem State.answerCode_heldFrames (s : State) (c : Nat) : (s.answerCode c).heldFrames = s.heldFrames := rfl
@[simp] theorem State.answerCode_migs (s : State) (c : Nat) : (s.answerCode c).migs = s.migs := rfl
@[simp] theorem State.answerCode_ledgerCmd (s : State) (c : Nat) : (s.answerCode c).ledgerCmd = s.ledgerCmd := rfl
@[simp] theorem State.answerCode_ledgerTurn (s : State) (c : Nat) : (s.answerCode c).ledgerTurn = s.ledgerTurn := rfl
@[simp] theorem State.answerCode_chans (s : State) (c : Nat) : (s.answerCode c).chans = s.chans := rfl
@[simp] theorem State.answerCode_staging (s : State) (c : Nat) : (s.answerCode c).staging = s.staging := rfl
@[simp] theorem State.answerCode_stagingTurn (s : State) (c : Nat) : (s.answerCode c).stagingTurn = s.stagingTurn := rfl
@[simp] theorem State.answerCode_nvTrims (s : State) (c : Nat) : (s.answerCode c).nvTrims = s.nvTrims := rfl
@[simp] theorem State.answerCode_trimWords (s : State) (c : Nat) : (s.answerCode c).trimWords = s.trimWords := rfl
@[simp] theorem State.answerCode_trimMode (s : State) (c : Nat) : (s.answerCode c).trimMode = s.trimMode := rfl
@[simp] theorem State.answerCode_calCmd (s : State) (c : Nat) : (s.answerCode c).calCmd = s.calCmd := rfl
@[simp] theorem State.answerCode_regions (s : State) (c : Nat) : (s.answerCode c).regions = s.regions := rfl
@[simp] theorem State.answerCode_rings (s : State) (c : Nat) : (s.answerCode c).rings = s.rings := rfl
@[simp] theorem State.answerCode_lanes (s : State) (c : Nat) : (s.answerCode c).lanes = s.lanes := rfl
@[simp] theorem State.answerCode_paths (s : State) (c : Nat) : (s.answerCode c).paths = s.paths := rfl
@[simp] theorem State.answerCode_arbiters (s : State) (c : Nat) : (s.answerCode c).arbiters = s.arbiters := rfl
@[simp] theorem State.answerCode_lasers (s : State) (c : Nat) : (s.answerCode c).lasers = s.lasers := rfl
@[simp] theorem State.answerCode_identReports (s : State) (c : Nat) : (s.answerCode c).identReports = s.identReports := rfl
@[simp] theorem State.answerCode_guests (s : State) (c : Nat) : (s.answerCode c).guests = s.guests := rfl
@[simp] theorem State.answerCode_requests (s : State) (c : Nat) : (s.answerCode c).requests = s.requests := rfl
@[simp] theorem State.answerCode_seqs (s : State) (c : Nat) : (s.answerCode c).seqs = s.seqs := rfl
@[simp] theorem State.answerCode_phases (s : State) (c : Nat) : (s.answerCode c).phases = s.phases := rfl
@[simp] theorem State.answerCode_trackers (s : State) (c : Nat) : (s.answerCode c).trackers = s.trackers := rfl
@[simp] theorem State.answerCode_replies (s : State) (c : Nat) : (s.answerCode c).replies = s.replies := rfl
@[simp] theorem State.answerCode_guards (s : State) (c : Nat) : (s.answerCode c).guards = s.guards := rfl
@[simp] theorem State.answerCode_lastResponse (s : State) (c : Nat) : (s.answerCode c).lastResponse = s.lastResponse := rfl
@[simp] theorem State.answerCode_lineCache (s : State) (c : Nat) : (s.answerCode c).lineCache = s.lineCache := rfl
@[simp] theorem State.answerCode_xports (s : State) (c : Nat) : (s.answerCode c).xports = s.xports := rfl
@[simp] theorem State.answerCode_routes (s : State) (c : Nat) : (s.answerCode c).routes = s.routes := rfl
@[simp] theorem State.answerCode_hub (s : State) (c : Nat) : (s.answerCode c).hub = s.hub := rfl
@[simp] theorem State.answerCode_routeLoad (s : State) (c : Nat) : (s.answerCode c).routeLoad = s.routeLoad := rfl
@[simp] theorem State.answerCode_pair (s : State) (c : Nat) : (s.answerCode c).pair = s.pair := rfl
@[simp] theorem State.answerCode_ports (s : State) (c : Nat) : (s.answerCode c).ports = s.ports := rfl
@[simp] theorem State.answerCode_streams (s : State) (c : Nat) : (s.answerCode c).streams = s.streams := rfl
@[simp] theorem State.answerCode_sqPort (s : State) (c : Nat) : (s.answerCode c).sqPort = s.sqPort := rfl
@[simp] theorem State.answerCode_dap (s : State) (c : Nat) : (s.answerCode c).dap = s.dap := rfl
@[simp] theorem State.answerCode_thermals (s : State) (c : Nat) : (s.answerCode c).thermals = s.thermals := rfl
@[simp] theorem State.answerCode_sensors (s : State) (c : Nat) : (s.answerCode c).sensors = s.sensors := rfl
@[simp] theorem State.answerCode_pw (s : State) (c : Nat) : (s.answerCode c).pw = s.pw := rfl
@[simp] theorem State.answerCode_sec (s : State) (c : Nat) : (s.answerCode c).sec = s.sec := rfl
@[simp] theorem State.answerCode_test (s : State) (c : Nat) : (s.answerCode c).test = s.test := rfl
@[simp] theorem State.answerCode_pending (s : State) (c : Nat) : (s.answerCode c).pending = s.pending := rfl

@[simp] theorem State.tickFree_dict (s : State) : (s.tickFree).dict = s.dict := rfl
@[simp] theorem State.tickFree_nv (s : State) : (s.tickFree).nv = s.nv := rfl
@[simp] theorem State.tickFree_lastStatus (s : State) : (s.tickFree).lastStatus = s.lastStatus := rfl
@[simp] theorem State.tickFree_hostMem (s : State) : (s.tickFree).hostMem = s.hostMem := rfl
@[simp] theorem State.tickFree_tb (s : State) : (s.tickFree).tb = s.tb := rfl
@[simp] theorem State.tickFree_prick (s : State) : (s.tickFree).prick = s.prick := rfl
@[simp] theorem State.tickFree_entries (s : State) : (s.tickFree).entries = s.entries := rfl
@[simp] theorem State.tickFree_cores (s : State) : (s.tickFree).cores = s.cores := rfl
@[simp] theorem State.tickFree_runs (s : State) : (s.tickFree).runs = s.runs := rfl
@[simp] theorem State.tickFree_dies (s : State) : (s.tickFree).dies = s.dies := rfl
@[simp] theorem State.tickFree_grants (s : State) : (s.tickFree).grants = s.grants := rfl
@[simp] theorem State.tickFree_nextGrant (s : State) : (s.tickFree).nextGrant = s.nextGrant := rfl
@[simp] theorem State.tickFree_orphans (s : State) : (s.tickFree).orphans = s.orphans := rfl
@[simp] theorem State.tickFree_stopped (s : State) : (s.tickFree).stopped = s.stopped := rfl
@[simp] theorem State.tickFree_fuseMap (s : State) : (s.tickFree).fuseMap = s.fuseMap := rfl
@[simp] theorem State.tickFree_fieldMap (s : State) : (s.tickFree).fieldMap = s.fieldMap := rfl
@[simp] theorem State.tickFree_patCmd (s : State) : (s.tickFree).patCmd = s.patCmd := rfl
@[simp] theorem State.tickFree_halted (s : State) : (s.tickFree).halted = s.halted := rfl
@[simp] theorem State.tickFree_stores (s : State) : (s.tickFree).stores = s.stores := rfl
@[simp] theorem State.tickFree_ledger (s : State) : (s.tickFree).ledger = s.ledger := rfl
@[simp] theorem State.tickFree_tlb (s : State) : (s.tickFree).tlb = s.tlb := rfl
@[simp] theorem State.tickFree_epoch (s : State) : (s.tickFree).epoch = s.epoch := rfl
@[simp] theorem State.tickFree_heldFrames (s : State) : (s.tickFree).heldFrames = s.heldFrames := rfl
@[simp] theorem State.tickFree_migs (s : State) : (s.tickFree).migs = s.migs := rfl
@[simp] theorem State.tickFree_ledgerCmd (s : State) : (s.tickFree).ledgerCmd = s.ledgerCmd := rfl
@[simp] theorem State.tickFree_ledgerTurn (s : State) : (s.tickFree).ledgerTurn = s.ledgerTurn := rfl
@[simp] theorem State.tickFree_chans (s : State) : (s.tickFree).chans = s.chans := rfl
@[simp] theorem State.tickFree_staging (s : State) : (s.tickFree).staging = s.staging := rfl
@[simp] theorem State.tickFree_stagingTurn (s : State) : (s.tickFree).stagingTurn = s.stagingTurn := rfl
@[simp] theorem State.tickFree_nvTrims (s : State) : (s.tickFree).nvTrims = s.nvTrims := rfl
@[simp] theorem State.tickFree_trimWords (s : State) : (s.tickFree).trimWords = s.trimWords := rfl
@[simp] theorem State.tickFree_trimMode (s : State) : (s.tickFree).trimMode = s.trimMode := rfl
@[simp] theorem State.tickFree_calCmd (s : State) : (s.tickFree).calCmd = s.calCmd := rfl
@[simp] theorem State.tickFree_regions (s : State) : (s.tickFree).regions = s.regions := rfl
@[simp] theorem State.tickFree_rings (s : State) : (s.tickFree).rings = s.rings := rfl
@[simp] theorem State.tickFree_lanes (s : State) : (s.tickFree).lanes = s.lanes := rfl
@[simp] theorem State.tickFree_paths (s : State) : (s.tickFree).paths = s.paths := rfl
@[simp] theorem State.tickFree_arbiters (s : State) : (s.tickFree).arbiters = s.arbiters := rfl
@[simp] theorem State.tickFree_lasers (s : State) : (s.tickFree).lasers = s.lasers := rfl
@[simp] theorem State.tickFree_identReports (s : State) : (s.tickFree).identReports = s.identReports := rfl
@[simp] theorem State.tickFree_guests (s : State) : (s.tickFree).guests = s.guests := rfl
@[simp] theorem State.tickFree_requests (s : State) : (s.tickFree).requests = s.requests := rfl
@[simp] theorem State.tickFree_seqs (s : State) : (s.tickFree).seqs = s.seqs := rfl
@[simp] theorem State.tickFree_phases (s : State) : (s.tickFree).phases = s.phases := rfl
@[simp] theorem State.tickFree_trackers (s : State) : (s.tickFree).trackers = s.trackers := rfl
@[simp] theorem State.tickFree_replies (s : State) : (s.tickFree).replies = s.replies := rfl
@[simp] theorem State.tickFree_guards (s : State) : (s.tickFree).guards = s.guards := rfl
@[simp] theorem State.tickFree_lastResponse (s : State) : (s.tickFree).lastResponse = s.lastResponse := rfl
@[simp] theorem State.tickFree_lineCache (s : State) : (s.tickFree).lineCache = s.lineCache := rfl
@[simp] theorem State.tickFree_xports (s : State) : (s.tickFree).xports = s.xports := rfl
@[simp] theorem State.tickFree_routes (s : State) : (s.tickFree).routes = s.routes := rfl
@[simp] theorem State.tickFree_hub (s : State) : (s.tickFree).hub = s.hub := rfl
@[simp] theorem State.tickFree_routeLoad (s : State) : (s.tickFree).routeLoad = s.routeLoad := rfl
@[simp] theorem State.tickFree_pair (s : State) : (s.tickFree).pair = s.pair := rfl
@[simp] theorem State.tickFree_ports (s : State) : (s.tickFree).ports = s.ports := rfl
@[simp] theorem State.tickFree_streams (s : State) : (s.tickFree).streams = s.streams := rfl
@[simp] theorem State.tickFree_sqPort (s : State) : (s.tickFree).sqPort = s.sqPort := rfl
@[simp] theorem State.tickFree_dap (s : State) : (s.tickFree).dap = s.dap := rfl
@[simp] theorem State.tickFree_thermals (s : State) : (s.tickFree).thermals = s.thermals := rfl
@[simp] theorem State.tickFree_sensors (s : State) : (s.tickFree).sensors = s.sensors := rfl
@[simp] theorem State.tickFree_pw (s : State) : (s.tickFree).pw = s.pw := rfl
@[simp] theorem State.tickFree_sec (s : State) : (s.tickFree).sec = s.sec := rfl
@[simp] theorem State.tickFree_test (s : State) : (s.tickFree).test = s.test := rfl
@[simp] theorem State.tickFree_pending (s : State) : (s.tickFree).pending = s.pending := rfl

@[simp] theorem State.setCore_dict (s : State) (k : Nat) (x : PCore) : (s.setCore k x).dict = s.dict := rfl
@[simp] theorem State.setCore_nv (s : State) (k : Nat) (x : PCore) : (s.setCore k x).nv = s.nv := rfl
@[simp] theorem State.setCore_lastStatus (s : State) (k : Nat) (x : PCore) : (s.setCore k x).lastStatus = s.lastStatus := rfl
@[simp] theorem State.setCore_freeCtr (s : State) (k : Nat) (x : PCore) : (s.setCore k x).freeCtr = s.freeCtr := rfl
@[simp] theorem State.setCore_hostMem (s : State) (k : Nat) (x : PCore) : (s.setCore k x).hostMem = s.hostMem := rfl
@[simp] theorem State.setCore_tb (s : State) (k : Nat) (x : PCore) : (s.setCore k x).tb = s.tb := rfl
@[simp] theorem State.setCore_prick (s : State) (k : Nat) (x : PCore) : (s.setCore k x).prick = s.prick := rfl
@[simp] theorem State.setCore_entries (s : State) (k : Nat) (x : PCore) : (s.setCore k x).entries = s.entries := rfl
@[simp] theorem State.setCore_runs (s : State) (k : Nat) (x : PCore) : (s.setCore k x).runs = s.runs := rfl
@[simp] theorem State.setCore_dies (s : State) (k : Nat) (x : PCore) : (s.setCore k x).dies = s.dies := rfl
@[simp] theorem State.setCore_grants (s : State) (k : Nat) (x : PCore) : (s.setCore k x).grants = s.grants := rfl
@[simp] theorem State.setCore_nextGrant (s : State) (k : Nat) (x : PCore) : (s.setCore k x).nextGrant = s.nextGrant := rfl
@[simp] theorem State.setCore_orphans (s : State) (k : Nat) (x : PCore) : (s.setCore k x).orphans = s.orphans := rfl
@[simp] theorem State.setCore_stopped (s : State) (k : Nat) (x : PCore) : (s.setCore k x).stopped = s.stopped := rfl
@[simp] theorem State.setCore_fuseMap (s : State) (k : Nat) (x : PCore) : (s.setCore k x).fuseMap = s.fuseMap := rfl
@[simp] theorem State.setCore_fieldMap (s : State) (k : Nat) (x : PCore) : (s.setCore k x).fieldMap = s.fieldMap := rfl
@[simp] theorem State.setCore_patCmd (s : State) (k : Nat) (x : PCore) : (s.setCore k x).patCmd = s.patCmd := rfl
@[simp] theorem State.setCore_halted (s : State) (k : Nat) (x : PCore) : (s.setCore k x).halted = s.halted := rfl
@[simp] theorem State.setCore_stores (s : State) (k : Nat) (x : PCore) : (s.setCore k x).stores = s.stores := rfl
@[simp] theorem State.setCore_ledger (s : State) (k : Nat) (x : PCore) : (s.setCore k x).ledger = s.ledger := rfl
@[simp] theorem State.setCore_tlb (s : State) (k : Nat) (x : PCore) : (s.setCore k x).tlb = s.tlb := rfl
@[simp] theorem State.setCore_epoch (s : State) (k : Nat) (x : PCore) : (s.setCore k x).epoch = s.epoch := rfl
@[simp] theorem State.setCore_heldFrames (s : State) (k : Nat) (x : PCore) : (s.setCore k x).heldFrames = s.heldFrames := rfl
@[simp] theorem State.setCore_migs (s : State) (k : Nat) (x : PCore) : (s.setCore k x).migs = s.migs := rfl
@[simp] theorem State.setCore_ledgerCmd (s : State) (k : Nat) (x : PCore) : (s.setCore k x).ledgerCmd = s.ledgerCmd := rfl
@[simp] theorem State.setCore_ledgerTurn (s : State) (k : Nat) (x : PCore) : (s.setCore k x).ledgerTurn = s.ledgerTurn := rfl
@[simp] theorem State.setCore_chans (s : State) (k : Nat) (x : PCore) : (s.setCore k x).chans = s.chans := rfl
@[simp] theorem State.setCore_staging (s : State) (k : Nat) (x : PCore) : (s.setCore k x).staging = s.staging := rfl
@[simp] theorem State.setCore_stagingTurn (s : State) (k : Nat) (x : PCore) : (s.setCore k x).stagingTurn = s.stagingTurn := rfl
@[simp] theorem State.setCore_nvTrims (s : State) (k : Nat) (x : PCore) : (s.setCore k x).nvTrims = s.nvTrims := rfl
@[simp] theorem State.setCore_trimWords (s : State) (k : Nat) (x : PCore) : (s.setCore k x).trimWords = s.trimWords := rfl
@[simp] theorem State.setCore_trimMode (s : State) (k : Nat) (x : PCore) : (s.setCore k x).trimMode = s.trimMode := rfl
@[simp] theorem State.setCore_calCmd (s : State) (k : Nat) (x : PCore) : (s.setCore k x).calCmd = s.calCmd := rfl
@[simp] theorem State.setCore_regions (s : State) (k : Nat) (x : PCore) : (s.setCore k x).regions = s.regions := rfl
@[simp] theorem State.setCore_rings (s : State) (k : Nat) (x : PCore) : (s.setCore k x).rings = s.rings := rfl
@[simp] theorem State.setCore_lanes (s : State) (k : Nat) (x : PCore) : (s.setCore k x).lanes = s.lanes := rfl
@[simp] theorem State.setCore_paths (s : State) (k : Nat) (x : PCore) : (s.setCore k x).paths = s.paths := rfl
@[simp] theorem State.setCore_arbiters (s : State) (k : Nat) (x : PCore) : (s.setCore k x).arbiters = s.arbiters := rfl
@[simp] theorem State.setCore_lasers (s : State) (k : Nat) (x : PCore) : (s.setCore k x).lasers = s.lasers := rfl
@[simp] theorem State.setCore_identReports (s : State) (k : Nat) (x : PCore) : (s.setCore k x).identReports = s.identReports := rfl
@[simp] theorem State.setCore_guests (s : State) (k : Nat) (x : PCore) : (s.setCore k x).guests = s.guests := rfl
@[simp] theorem State.setCore_requests (s : State) (k : Nat) (x : PCore) : (s.setCore k x).requests = s.requests := rfl
@[simp] theorem State.setCore_seqs (s : State) (k : Nat) (x : PCore) : (s.setCore k x).seqs = s.seqs := rfl
@[simp] theorem State.setCore_phases (s : State) (k : Nat) (x : PCore) : (s.setCore k x).phases = s.phases := rfl
@[simp] theorem State.setCore_trackers (s : State) (k : Nat) (x : PCore) : (s.setCore k x).trackers = s.trackers := rfl
@[simp] theorem State.setCore_replies (s : State) (k : Nat) (x : PCore) : (s.setCore k x).replies = s.replies := rfl
@[simp] theorem State.setCore_guards (s : State) (k : Nat) (x : PCore) : (s.setCore k x).guards = s.guards := rfl
@[simp] theorem State.setCore_lastResponse (s : State) (k : Nat) (x : PCore) : (s.setCore k x).lastResponse = s.lastResponse := rfl
@[simp] theorem State.setCore_lineCache (s : State) (k : Nat) (x : PCore) : (s.setCore k x).lineCache = s.lineCache := rfl
@[simp] theorem State.setCore_xports (s : State) (k : Nat) (x : PCore) : (s.setCore k x).xports = s.xports := rfl
@[simp] theorem State.setCore_routes (s : State) (k : Nat) (x : PCore) : (s.setCore k x).routes = s.routes := rfl
@[simp] theorem State.setCore_hub (s : State) (k : Nat) (x : PCore) : (s.setCore k x).hub = s.hub := rfl
@[simp] theorem State.setCore_routeLoad (s : State) (k : Nat) (x : PCore) : (s.setCore k x).routeLoad = s.routeLoad := rfl
@[simp] theorem State.setCore_pair (s : State) (k : Nat) (x : PCore) : (s.setCore k x).pair = s.pair := rfl
@[simp] theorem State.setCore_ports (s : State) (k : Nat) (x : PCore) : (s.setCore k x).ports = s.ports := rfl
@[simp] theorem State.setCore_streams (s : State) (k : Nat) (x : PCore) : (s.setCore k x).streams = s.streams := rfl
@[simp] theorem State.setCore_sqPort (s : State) (k : Nat) (x : PCore) : (s.setCore k x).sqPort = s.sqPort := rfl
@[simp] theorem State.setCore_dap (s : State) (k : Nat) (x : PCore) : (s.setCore k x).dap = s.dap := rfl
@[simp] theorem State.setCore_thermals (s : State) (k : Nat) (x : PCore) : (s.setCore k x).thermals = s.thermals := rfl
@[simp] theorem State.setCore_sensors (s : State) (k : Nat) (x : PCore) : (s.setCore k x).sensors = s.sensors := rfl
@[simp] theorem State.setCore_pw (s : State) (k : Nat) (x : PCore) : (s.setCore k x).pw = s.pw := rfl
@[simp] theorem State.setCore_sec (s : State) (k : Nat) (x : PCore) : (s.setCore k x).sec = s.sec := rfl
@[simp] theorem State.setCore_test (s : State) (k : Nat) (x : PCore) : (s.setCore k x).test = s.test := rfl
@[simp] theorem State.setCore_pending (s : State) (k : Nat) (x : PCore) : (s.setCore k x).pending = s.pending := rfl

@[simp] theorem State.setRun_dict (s : State) (k : Nat) (x : Option CoreRun) : (s.setRun k x).dict = s.dict := rfl
@[simp] theorem State.setRun_nv (s : State) (k : Nat) (x : Option CoreRun) : (s.setRun k x).nv = s.nv := rfl
@[simp] theorem State.setRun_lastStatus (s : State) (k : Nat) (x : Option CoreRun) : (s.setRun k x).lastStatus = s.lastStatus := rfl
@[simp] theorem State.setRun_freeCtr (s : State) (k : Nat) (x : Option CoreRun) : (s.setRun k x).freeCtr = s.freeCtr := rfl
@[simp] theorem State.setRun_hostMem (s : State) (k : Nat) (x : Option CoreRun) : (s.setRun k x).hostMem = s.hostMem := rfl
@[simp] theorem State.setRun_tb (s : State) (k : Nat) (x : Option CoreRun) : (s.setRun k x).tb = s.tb := rfl
@[simp] theorem State.setRun_prick (s : State) (k : Nat) (x : Option CoreRun) : (s.setRun k x).prick = s.prick := rfl
@[simp] theorem State.setRun_entries (s : State) (k : Nat) (x : Option CoreRun) : (s.setRun k x).entries = s.entries := rfl
@[simp] theorem State.setRun_cores (s : State) (k : Nat) (x : Option CoreRun) : (s.setRun k x).cores = s.cores := rfl
@[simp] theorem State.setRun_dies (s : State) (k : Nat) (x : Option CoreRun) : (s.setRun k x).dies = s.dies := rfl
@[simp] theorem State.setRun_grants (s : State) (k : Nat) (x : Option CoreRun) : (s.setRun k x).grants = s.grants := rfl
@[simp] theorem State.setRun_nextGrant (s : State) (k : Nat) (x : Option CoreRun) : (s.setRun k x).nextGrant = s.nextGrant := rfl
@[simp] theorem State.setRun_orphans (s : State) (k : Nat) (x : Option CoreRun) : (s.setRun k x).orphans = s.orphans := rfl
@[simp] theorem State.setRun_stopped (s : State) (k : Nat) (x : Option CoreRun) : (s.setRun k x).stopped = s.stopped := rfl
@[simp] theorem State.setRun_fuseMap (s : State) (k : Nat) (x : Option CoreRun) : (s.setRun k x).fuseMap = s.fuseMap := rfl
@[simp] theorem State.setRun_fieldMap (s : State) (k : Nat) (x : Option CoreRun) : (s.setRun k x).fieldMap = s.fieldMap := rfl
@[simp] theorem State.setRun_patCmd (s : State) (k : Nat) (x : Option CoreRun) : (s.setRun k x).patCmd = s.patCmd := rfl
@[simp] theorem State.setRun_halted (s : State) (k : Nat) (x : Option CoreRun) : (s.setRun k x).halted = s.halted := rfl
@[simp] theorem State.setRun_stores (s : State) (k : Nat) (x : Option CoreRun) : (s.setRun k x).stores = s.stores := rfl
@[simp] theorem State.setRun_ledger (s : State) (k : Nat) (x : Option CoreRun) : (s.setRun k x).ledger = s.ledger := rfl
@[simp] theorem State.setRun_tlb (s : State) (k : Nat) (x : Option CoreRun) : (s.setRun k x).tlb = s.tlb := rfl
@[simp] theorem State.setRun_epoch (s : State) (k : Nat) (x : Option CoreRun) : (s.setRun k x).epoch = s.epoch := rfl
@[simp] theorem State.setRun_heldFrames (s : State) (k : Nat) (x : Option CoreRun) : (s.setRun k x).heldFrames = s.heldFrames := rfl
@[simp] theorem State.setRun_migs (s : State) (k : Nat) (x : Option CoreRun) : (s.setRun k x).migs = s.migs := rfl
@[simp] theorem State.setRun_ledgerCmd (s : State) (k : Nat) (x : Option CoreRun) : (s.setRun k x).ledgerCmd = s.ledgerCmd := rfl
@[simp] theorem State.setRun_ledgerTurn (s : State) (k : Nat) (x : Option CoreRun) : (s.setRun k x).ledgerTurn = s.ledgerTurn := rfl
@[simp] theorem State.setRun_chans (s : State) (k : Nat) (x : Option CoreRun) : (s.setRun k x).chans = s.chans := rfl
@[simp] theorem State.setRun_staging (s : State) (k : Nat) (x : Option CoreRun) : (s.setRun k x).staging = s.staging := rfl
@[simp] theorem State.setRun_stagingTurn (s : State) (k : Nat) (x : Option CoreRun) : (s.setRun k x).stagingTurn = s.stagingTurn := rfl
@[simp] theorem State.setRun_nvTrims (s : State) (k : Nat) (x : Option CoreRun) : (s.setRun k x).nvTrims = s.nvTrims := rfl
@[simp] theorem State.setRun_trimWords (s : State) (k : Nat) (x : Option CoreRun) : (s.setRun k x).trimWords = s.trimWords := rfl
@[simp] theorem State.setRun_trimMode (s : State) (k : Nat) (x : Option CoreRun) : (s.setRun k x).trimMode = s.trimMode := rfl
@[simp] theorem State.setRun_calCmd (s : State) (k : Nat) (x : Option CoreRun) : (s.setRun k x).calCmd = s.calCmd := rfl
@[simp] theorem State.setRun_regions (s : State) (k : Nat) (x : Option CoreRun) : (s.setRun k x).regions = s.regions := rfl
@[simp] theorem State.setRun_rings (s : State) (k : Nat) (x : Option CoreRun) : (s.setRun k x).rings = s.rings := rfl
@[simp] theorem State.setRun_lanes (s : State) (k : Nat) (x : Option CoreRun) : (s.setRun k x).lanes = s.lanes := rfl
@[simp] theorem State.setRun_paths (s : State) (k : Nat) (x : Option CoreRun) : (s.setRun k x).paths = s.paths := rfl
@[simp] theorem State.setRun_arbiters (s : State) (k : Nat) (x : Option CoreRun) : (s.setRun k x).arbiters = s.arbiters := rfl
@[simp] theorem State.setRun_lasers (s : State) (k : Nat) (x : Option CoreRun) : (s.setRun k x).lasers = s.lasers := rfl
@[simp] theorem State.setRun_identReports (s : State) (k : Nat) (x : Option CoreRun) : (s.setRun k x).identReports = s.identReports := rfl
@[simp] theorem State.setRun_guests (s : State) (k : Nat) (x : Option CoreRun) : (s.setRun k x).guests = s.guests := rfl
@[simp] theorem State.setRun_requests (s : State) (k : Nat) (x : Option CoreRun) : (s.setRun k x).requests = s.requests := rfl
@[simp] theorem State.setRun_seqs (s : State) (k : Nat) (x : Option CoreRun) : (s.setRun k x).seqs = s.seqs := rfl
@[simp] theorem State.setRun_phases (s : State) (k : Nat) (x : Option CoreRun) : (s.setRun k x).phases = s.phases := rfl
@[simp] theorem State.setRun_trackers (s : State) (k : Nat) (x : Option CoreRun) : (s.setRun k x).trackers = s.trackers := rfl
@[simp] theorem State.setRun_replies (s : State) (k : Nat) (x : Option CoreRun) : (s.setRun k x).replies = s.replies := rfl
@[simp] theorem State.setRun_guards (s : State) (k : Nat) (x : Option CoreRun) : (s.setRun k x).guards = s.guards := rfl
@[simp] theorem State.setRun_lastResponse (s : State) (k : Nat) (x : Option CoreRun) : (s.setRun k x).lastResponse = s.lastResponse := rfl
@[simp] theorem State.setRun_lineCache (s : State) (k : Nat) (x : Option CoreRun) : (s.setRun k x).lineCache = s.lineCache := rfl
@[simp] theorem State.setRun_xports (s : State) (k : Nat) (x : Option CoreRun) : (s.setRun k x).xports = s.xports := rfl
@[simp] theorem State.setRun_routes (s : State) (k : Nat) (x : Option CoreRun) : (s.setRun k x).routes = s.routes := rfl
@[simp] theorem State.setRun_hub (s : State) (k : Nat) (x : Option CoreRun) : (s.setRun k x).hub = s.hub := rfl
@[simp] theorem State.setRun_routeLoad (s : State) (k : Nat) (x : Option CoreRun) : (s.setRun k x).routeLoad = s.routeLoad := rfl
@[simp] theorem State.setRun_pair (s : State) (k : Nat) (x : Option CoreRun) : (s.setRun k x).pair = s.pair := rfl
@[simp] theorem State.setRun_ports (s : State) (k : Nat) (x : Option CoreRun) : (s.setRun k x).ports = s.ports := rfl
@[simp] theorem State.setRun_streams (s : State) (k : Nat) (x : Option CoreRun) : (s.setRun k x).streams = s.streams := rfl
@[simp] theorem State.setRun_sqPort (s : State) (k : Nat) (x : Option CoreRun) : (s.setRun k x).sqPort = s.sqPort := rfl
@[simp] theorem State.setRun_dap (s : State) (k : Nat) (x : Option CoreRun) : (s.setRun k x).dap = s.dap := rfl
@[simp] theorem State.setRun_thermals (s : State) (k : Nat) (x : Option CoreRun) : (s.setRun k x).thermals = s.thermals := rfl
@[simp] theorem State.setRun_sensors (s : State) (k : Nat) (x : Option CoreRun) : (s.setRun k x).sensors = s.sensors := rfl
@[simp] theorem State.setRun_pw (s : State) (k : Nat) (x : Option CoreRun) : (s.setRun k x).pw = s.pw := rfl
@[simp] theorem State.setRun_sec (s : State) (k : Nat) (x : Option CoreRun) : (s.setRun k x).sec = s.sec := rfl
@[simp] theorem State.setRun_test (s : State) (k : Nat) (x : Option CoreRun) : (s.setRun k x).test = s.test := rfl
@[simp] theorem State.setRun_pending (s : State) (k : Nat) (x : Option CoreRun) : (s.setRun k x).pending = s.pending := rfl

@[simp] theorem State.setDie_dict (s : State) (k : Nat) (x : Die) : (s.setDie k x).dict = s.dict := rfl
@[simp] theorem State.setDie_nv (s : State) (k : Nat) (x : Die) : (s.setDie k x).nv = s.nv := rfl
@[simp] theorem State.setDie_lastStatus (s : State) (k : Nat) (x : Die) : (s.setDie k x).lastStatus = s.lastStatus := rfl
@[simp] theorem State.setDie_freeCtr (s : State) (k : Nat) (x : Die) : (s.setDie k x).freeCtr = s.freeCtr := rfl
@[simp] theorem State.setDie_hostMem (s : State) (k : Nat) (x : Die) : (s.setDie k x).hostMem = s.hostMem := rfl
@[simp] theorem State.setDie_tb (s : State) (k : Nat) (x : Die) : (s.setDie k x).tb = s.tb := rfl
@[simp] theorem State.setDie_prick (s : State) (k : Nat) (x : Die) : (s.setDie k x).prick = s.prick := rfl
@[simp] theorem State.setDie_entries (s : State) (k : Nat) (x : Die) : (s.setDie k x).entries = s.entries := rfl
@[simp] theorem State.setDie_cores (s : State) (k : Nat) (x : Die) : (s.setDie k x).cores = s.cores := rfl
@[simp] theorem State.setDie_runs (s : State) (k : Nat) (x : Die) : (s.setDie k x).runs = s.runs := rfl
@[simp] theorem State.setDie_grants (s : State) (k : Nat) (x : Die) : (s.setDie k x).grants = s.grants := rfl
@[simp] theorem State.setDie_nextGrant (s : State) (k : Nat) (x : Die) : (s.setDie k x).nextGrant = s.nextGrant := rfl
@[simp] theorem State.setDie_orphans (s : State) (k : Nat) (x : Die) : (s.setDie k x).orphans = s.orphans := rfl
@[simp] theorem State.setDie_stopped (s : State) (k : Nat) (x : Die) : (s.setDie k x).stopped = s.stopped := rfl
@[simp] theorem State.setDie_fuseMap (s : State) (k : Nat) (x : Die) : (s.setDie k x).fuseMap = s.fuseMap := rfl
@[simp] theorem State.setDie_fieldMap (s : State) (k : Nat) (x : Die) : (s.setDie k x).fieldMap = s.fieldMap := rfl
@[simp] theorem State.setDie_patCmd (s : State) (k : Nat) (x : Die) : (s.setDie k x).patCmd = s.patCmd := rfl
@[simp] theorem State.setDie_halted (s : State) (k : Nat) (x : Die) : (s.setDie k x).halted = s.halted := rfl
@[simp] theorem State.setDie_stores (s : State) (k : Nat) (x : Die) : (s.setDie k x).stores = s.stores := rfl
@[simp] theorem State.setDie_ledger (s : State) (k : Nat) (x : Die) : (s.setDie k x).ledger = s.ledger := rfl
@[simp] theorem State.setDie_tlb (s : State) (k : Nat) (x : Die) : (s.setDie k x).tlb = s.tlb := rfl
@[simp] theorem State.setDie_epoch (s : State) (k : Nat) (x : Die) : (s.setDie k x).epoch = s.epoch := rfl
@[simp] theorem State.setDie_heldFrames (s : State) (k : Nat) (x : Die) : (s.setDie k x).heldFrames = s.heldFrames := rfl
@[simp] theorem State.setDie_migs (s : State) (k : Nat) (x : Die) : (s.setDie k x).migs = s.migs := rfl
@[simp] theorem State.setDie_ledgerCmd (s : State) (k : Nat) (x : Die) : (s.setDie k x).ledgerCmd = s.ledgerCmd := rfl
@[simp] theorem State.setDie_ledgerTurn (s : State) (k : Nat) (x : Die) : (s.setDie k x).ledgerTurn = s.ledgerTurn := rfl
@[simp] theorem State.setDie_chans (s : State) (k : Nat) (x : Die) : (s.setDie k x).chans = s.chans := rfl
@[simp] theorem State.setDie_staging (s : State) (k : Nat) (x : Die) : (s.setDie k x).staging = s.staging := rfl
@[simp] theorem State.setDie_stagingTurn (s : State) (k : Nat) (x : Die) : (s.setDie k x).stagingTurn = s.stagingTurn := rfl
@[simp] theorem State.setDie_nvTrims (s : State) (k : Nat) (x : Die) : (s.setDie k x).nvTrims = s.nvTrims := rfl
@[simp] theorem State.setDie_trimWords (s : State) (k : Nat) (x : Die) : (s.setDie k x).trimWords = s.trimWords := rfl
@[simp] theorem State.setDie_trimMode (s : State) (k : Nat) (x : Die) : (s.setDie k x).trimMode = s.trimMode := rfl
@[simp] theorem State.setDie_calCmd (s : State) (k : Nat) (x : Die) : (s.setDie k x).calCmd = s.calCmd := rfl
@[simp] theorem State.setDie_regions (s : State) (k : Nat) (x : Die) : (s.setDie k x).regions = s.regions := rfl
@[simp] theorem State.setDie_rings (s : State) (k : Nat) (x : Die) : (s.setDie k x).rings = s.rings := rfl
@[simp] theorem State.setDie_lanes (s : State) (k : Nat) (x : Die) : (s.setDie k x).lanes = s.lanes := rfl
@[simp] theorem State.setDie_paths (s : State) (k : Nat) (x : Die) : (s.setDie k x).paths = s.paths := rfl
@[simp] theorem State.setDie_arbiters (s : State) (k : Nat) (x : Die) : (s.setDie k x).arbiters = s.arbiters := rfl
@[simp] theorem State.setDie_lasers (s : State) (k : Nat) (x : Die) : (s.setDie k x).lasers = s.lasers := rfl
@[simp] theorem State.setDie_identReports (s : State) (k : Nat) (x : Die) : (s.setDie k x).identReports = s.identReports := rfl
@[simp] theorem State.setDie_guests (s : State) (k : Nat) (x : Die) : (s.setDie k x).guests = s.guests := rfl
@[simp] theorem State.setDie_requests (s : State) (k : Nat) (x : Die) : (s.setDie k x).requests = s.requests := rfl
@[simp] theorem State.setDie_seqs (s : State) (k : Nat) (x : Die) : (s.setDie k x).seqs = s.seqs := rfl
@[simp] theorem State.setDie_phases (s : State) (k : Nat) (x : Die) : (s.setDie k x).phases = s.phases := rfl
@[simp] theorem State.setDie_trackers (s : State) (k : Nat) (x : Die) : (s.setDie k x).trackers = s.trackers := rfl
@[simp] theorem State.setDie_replies (s : State) (k : Nat) (x : Die) : (s.setDie k x).replies = s.replies := rfl
@[simp] theorem State.setDie_guards (s : State) (k : Nat) (x : Die) : (s.setDie k x).guards = s.guards := rfl
@[simp] theorem State.setDie_lastResponse (s : State) (k : Nat) (x : Die) : (s.setDie k x).lastResponse = s.lastResponse := rfl
@[simp] theorem State.setDie_lineCache (s : State) (k : Nat) (x : Die) : (s.setDie k x).lineCache = s.lineCache := rfl
@[simp] theorem State.setDie_xports (s : State) (k : Nat) (x : Die) : (s.setDie k x).xports = s.xports := rfl
@[simp] theorem State.setDie_routes (s : State) (k : Nat) (x : Die) : (s.setDie k x).routes = s.routes := rfl
@[simp] theorem State.setDie_hub (s : State) (k : Nat) (x : Die) : (s.setDie k x).hub = s.hub := rfl
@[simp] theorem State.setDie_routeLoad (s : State) (k : Nat) (x : Die) : (s.setDie k x).routeLoad = s.routeLoad := rfl
@[simp] theorem State.setDie_pair (s : State) (k : Nat) (x : Die) : (s.setDie k x).pair = s.pair := rfl
@[simp] theorem State.setDie_ports (s : State) (k : Nat) (x : Die) : (s.setDie k x).ports = s.ports := rfl
@[simp] theorem State.setDie_streams (s : State) (k : Nat) (x : Die) : (s.setDie k x).streams = s.streams := rfl
@[simp] theorem State.setDie_sqPort (s : State) (k : Nat) (x : Die) : (s.setDie k x).sqPort = s.sqPort := rfl
@[simp] theorem State.setDie_dap (s : State) (k : Nat) (x : Die) : (s.setDie k x).dap = s.dap := rfl
@[simp] theorem State.setDie_thermals (s : State) (k : Nat) (x : Die) : (s.setDie k x).thermals = s.thermals := rfl
@[simp] theorem State.setDie_sensors (s : State) (k : Nat) (x : Die) : (s.setDie k x).sensors = s.sensors := rfl
@[simp] theorem State.setDie_pw (s : State) (k : Nat) (x : Die) : (s.setDie k x).pw = s.pw := rfl
@[simp] theorem State.setDie_sec (s : State) (k : Nat) (x : Die) : (s.setDie k x).sec = s.sec := rfl
@[simp] theorem State.setDie_test (s : State) (k : Nat) (x : Die) : (s.setDie k x).test = s.test := rfl
@[simp] theorem State.setDie_pending (s : State) (k : Nat) (x : Die) : (s.setDie k x).pending = s.pending := rfl

@[simp] theorem State.setStore_dict (s : State) (k : Nat) (x : Store) : (s.setStore k x).dict = s.dict := rfl
@[simp] theorem State.setStore_nv (s : State) (k : Nat) (x : Store) : (s.setStore k x).nv = s.nv := rfl
@[simp] theorem State.setStore_lastStatus (s : State) (k : Nat) (x : Store) : (s.setStore k x).lastStatus = s.lastStatus := rfl
@[simp] theorem State.setStore_freeCtr (s : State) (k : Nat) (x : Store) : (s.setStore k x).freeCtr = s.freeCtr := rfl
@[simp] theorem State.setStore_hostMem (s : State) (k : Nat) (x : Store) : (s.setStore k x).hostMem = s.hostMem := rfl
@[simp] theorem State.setStore_tb (s : State) (k : Nat) (x : Store) : (s.setStore k x).tb = s.tb := rfl
@[simp] theorem State.setStore_prick (s : State) (k : Nat) (x : Store) : (s.setStore k x).prick = s.prick := rfl
@[simp] theorem State.setStore_entries (s : State) (k : Nat) (x : Store) : (s.setStore k x).entries = s.entries := rfl
@[simp] theorem State.setStore_cores (s : State) (k : Nat) (x : Store) : (s.setStore k x).cores = s.cores := rfl
@[simp] theorem State.setStore_runs (s : State) (k : Nat) (x : Store) : (s.setStore k x).runs = s.runs := rfl
@[simp] theorem State.setStore_dies (s : State) (k : Nat) (x : Store) : (s.setStore k x).dies = s.dies := rfl
@[simp] theorem State.setStore_grants (s : State) (k : Nat) (x : Store) : (s.setStore k x).grants = s.grants := rfl
@[simp] theorem State.setStore_nextGrant (s : State) (k : Nat) (x : Store) : (s.setStore k x).nextGrant = s.nextGrant := rfl
@[simp] theorem State.setStore_orphans (s : State) (k : Nat) (x : Store) : (s.setStore k x).orphans = s.orphans := rfl
@[simp] theorem State.setStore_stopped (s : State) (k : Nat) (x : Store) : (s.setStore k x).stopped = s.stopped := rfl
@[simp] theorem State.setStore_fuseMap (s : State) (k : Nat) (x : Store) : (s.setStore k x).fuseMap = s.fuseMap := rfl
@[simp] theorem State.setStore_fieldMap (s : State) (k : Nat) (x : Store) : (s.setStore k x).fieldMap = s.fieldMap := rfl
@[simp] theorem State.setStore_patCmd (s : State) (k : Nat) (x : Store) : (s.setStore k x).patCmd = s.patCmd := rfl
@[simp] theorem State.setStore_halted (s : State) (k : Nat) (x : Store) : (s.setStore k x).halted = s.halted := rfl
@[simp] theorem State.setStore_ledger (s : State) (k : Nat) (x : Store) : (s.setStore k x).ledger = s.ledger := rfl
@[simp] theorem State.setStore_tlb (s : State) (k : Nat) (x : Store) : (s.setStore k x).tlb = s.tlb := rfl
@[simp] theorem State.setStore_epoch (s : State) (k : Nat) (x : Store) : (s.setStore k x).epoch = s.epoch := rfl
@[simp] theorem State.setStore_heldFrames (s : State) (k : Nat) (x : Store) : (s.setStore k x).heldFrames = s.heldFrames := rfl
@[simp] theorem State.setStore_migs (s : State) (k : Nat) (x : Store) : (s.setStore k x).migs = s.migs := rfl
@[simp] theorem State.setStore_ledgerCmd (s : State) (k : Nat) (x : Store) : (s.setStore k x).ledgerCmd = s.ledgerCmd := rfl
@[simp] theorem State.setStore_ledgerTurn (s : State) (k : Nat) (x : Store) : (s.setStore k x).ledgerTurn = s.ledgerTurn := rfl
@[simp] theorem State.setStore_chans (s : State) (k : Nat) (x : Store) : (s.setStore k x).chans = s.chans := rfl
@[simp] theorem State.setStore_staging (s : State) (k : Nat) (x : Store) : (s.setStore k x).staging = s.staging := rfl
@[simp] theorem State.setStore_stagingTurn (s : State) (k : Nat) (x : Store) : (s.setStore k x).stagingTurn = s.stagingTurn := rfl
@[simp] theorem State.setStore_nvTrims (s : State) (k : Nat) (x : Store) : (s.setStore k x).nvTrims = s.nvTrims := rfl
@[simp] theorem State.setStore_trimWords (s : State) (k : Nat) (x : Store) : (s.setStore k x).trimWords = s.trimWords := rfl
@[simp] theorem State.setStore_trimMode (s : State) (k : Nat) (x : Store) : (s.setStore k x).trimMode = s.trimMode := rfl
@[simp] theorem State.setStore_calCmd (s : State) (k : Nat) (x : Store) : (s.setStore k x).calCmd = s.calCmd := rfl
@[simp] theorem State.setStore_regions (s : State) (k : Nat) (x : Store) : (s.setStore k x).regions = s.regions := rfl
@[simp] theorem State.setStore_rings (s : State) (k : Nat) (x : Store) : (s.setStore k x).rings = s.rings := rfl
@[simp] theorem State.setStore_lanes (s : State) (k : Nat) (x : Store) : (s.setStore k x).lanes = s.lanes := rfl
@[simp] theorem State.setStore_paths (s : State) (k : Nat) (x : Store) : (s.setStore k x).paths = s.paths := rfl
@[simp] theorem State.setStore_arbiters (s : State) (k : Nat) (x : Store) : (s.setStore k x).arbiters = s.arbiters := rfl
@[simp] theorem State.setStore_lasers (s : State) (k : Nat) (x : Store) : (s.setStore k x).lasers = s.lasers := rfl
@[simp] theorem State.setStore_identReports (s : State) (k : Nat) (x : Store) : (s.setStore k x).identReports = s.identReports := rfl
@[simp] theorem State.setStore_guests (s : State) (k : Nat) (x : Store) : (s.setStore k x).guests = s.guests := rfl
@[simp] theorem State.setStore_requests (s : State) (k : Nat) (x : Store) : (s.setStore k x).requests = s.requests := rfl
@[simp] theorem State.setStore_seqs (s : State) (k : Nat) (x : Store) : (s.setStore k x).seqs = s.seqs := rfl
@[simp] theorem State.setStore_phases (s : State) (k : Nat) (x : Store) : (s.setStore k x).phases = s.phases := rfl
@[simp] theorem State.setStore_trackers (s : State) (k : Nat) (x : Store) : (s.setStore k x).trackers = s.trackers := rfl
@[simp] theorem State.setStore_replies (s : State) (k : Nat) (x : Store) : (s.setStore k x).replies = s.replies := rfl
@[simp] theorem State.setStore_guards (s : State) (k : Nat) (x : Store) : (s.setStore k x).guards = s.guards := rfl
@[simp] theorem State.setStore_lastResponse (s : State) (k : Nat) (x : Store) : (s.setStore k x).lastResponse = s.lastResponse := rfl
@[simp] theorem State.setStore_lineCache (s : State) (k : Nat) (x : Store) : (s.setStore k x).lineCache = s.lineCache := rfl
@[simp] theorem State.setStore_xports (s : State) (k : Nat) (x : Store) : (s.setStore k x).xports = s.xports := rfl
@[simp] theorem State.setStore_routes (s : State) (k : Nat) (x : Store) : (s.setStore k x).routes = s.routes := rfl
@[simp] theorem State.setStore_hub (s : State) (k : Nat) (x : Store) : (s.setStore k x).hub = s.hub := rfl
@[simp] theorem State.setStore_routeLoad (s : State) (k : Nat) (x : Store) : (s.setStore k x).routeLoad = s.routeLoad := rfl
@[simp] theorem State.setStore_pair (s : State) (k : Nat) (x : Store) : (s.setStore k x).pair = s.pair := rfl
@[simp] theorem State.setStore_ports (s : State) (k : Nat) (x : Store) : (s.setStore k x).ports = s.ports := rfl
@[simp] theorem State.setStore_streams (s : State) (k : Nat) (x : Store) : (s.setStore k x).streams = s.streams := rfl
@[simp] theorem State.setStore_sqPort (s : State) (k : Nat) (x : Store) : (s.setStore k x).sqPort = s.sqPort := rfl
@[simp] theorem State.setStore_dap (s : State) (k : Nat) (x : Store) : (s.setStore k x).dap = s.dap := rfl
@[simp] theorem State.setStore_thermals (s : State) (k : Nat) (x : Store) : (s.setStore k x).thermals = s.thermals := rfl
@[simp] theorem State.setStore_sensors (s : State) (k : Nat) (x : Store) : (s.setStore k x).sensors = s.sensors := rfl
@[simp] theorem State.setStore_pw (s : State) (k : Nat) (x : Store) : (s.setStore k x).pw = s.pw := rfl
@[simp] theorem State.setStore_sec (s : State) (k : Nat) (x : Store) : (s.setStore k x).sec = s.sec := rfl
@[simp] theorem State.setStore_test (s : State) (k : Nat) (x : Store) : (s.setStore k x).test = s.test := rfl
@[simp] theorem State.setStore_pending (s : State) (k : Nat) (x : Store) : (s.setStore k x).pending = s.pending := rfl

@[simp] theorem State.setChan_dict (s : State) (k : Nat) (x : Chan) : (s.setChan k x).dict = s.dict := rfl
@[simp] theorem State.setChan_nv (s : State) (k : Nat) (x : Chan) : (s.setChan k x).nv = s.nv := rfl
@[simp] theorem State.setChan_lastStatus (s : State) (k : Nat) (x : Chan) : (s.setChan k x).lastStatus = s.lastStatus := rfl
@[simp] theorem State.setChan_freeCtr (s : State) (k : Nat) (x : Chan) : (s.setChan k x).freeCtr = s.freeCtr := rfl
@[simp] theorem State.setChan_hostMem (s : State) (k : Nat) (x : Chan) : (s.setChan k x).hostMem = s.hostMem := rfl
@[simp] theorem State.setChan_tb (s : State) (k : Nat) (x : Chan) : (s.setChan k x).tb = s.tb := rfl
@[simp] theorem State.setChan_prick (s : State) (k : Nat) (x : Chan) : (s.setChan k x).prick = s.prick := rfl
@[simp] theorem State.setChan_entries (s : State) (k : Nat) (x : Chan) : (s.setChan k x).entries = s.entries := rfl
@[simp] theorem State.setChan_cores (s : State) (k : Nat) (x : Chan) : (s.setChan k x).cores = s.cores := rfl
@[simp] theorem State.setChan_runs (s : State) (k : Nat) (x : Chan) : (s.setChan k x).runs = s.runs := rfl
@[simp] theorem State.setChan_dies (s : State) (k : Nat) (x : Chan) : (s.setChan k x).dies = s.dies := rfl
@[simp] theorem State.setChan_grants (s : State) (k : Nat) (x : Chan) : (s.setChan k x).grants = s.grants := rfl
@[simp] theorem State.setChan_nextGrant (s : State) (k : Nat) (x : Chan) : (s.setChan k x).nextGrant = s.nextGrant := rfl
@[simp] theorem State.setChan_orphans (s : State) (k : Nat) (x : Chan) : (s.setChan k x).orphans = s.orphans := rfl
@[simp] theorem State.setChan_stopped (s : State) (k : Nat) (x : Chan) : (s.setChan k x).stopped = s.stopped := rfl
@[simp] theorem State.setChan_fuseMap (s : State) (k : Nat) (x : Chan) : (s.setChan k x).fuseMap = s.fuseMap := rfl
@[simp] theorem State.setChan_fieldMap (s : State) (k : Nat) (x : Chan) : (s.setChan k x).fieldMap = s.fieldMap := rfl
@[simp] theorem State.setChan_patCmd (s : State) (k : Nat) (x : Chan) : (s.setChan k x).patCmd = s.patCmd := rfl
@[simp] theorem State.setChan_halted (s : State) (k : Nat) (x : Chan) : (s.setChan k x).halted = s.halted := rfl
@[simp] theorem State.setChan_stores (s : State) (k : Nat) (x : Chan) : (s.setChan k x).stores = s.stores := rfl
@[simp] theorem State.setChan_ledger (s : State) (k : Nat) (x : Chan) : (s.setChan k x).ledger = s.ledger := rfl
@[simp] theorem State.setChan_tlb (s : State) (k : Nat) (x : Chan) : (s.setChan k x).tlb = s.tlb := rfl
@[simp] theorem State.setChan_epoch (s : State) (k : Nat) (x : Chan) : (s.setChan k x).epoch = s.epoch := rfl
@[simp] theorem State.setChan_heldFrames (s : State) (k : Nat) (x : Chan) : (s.setChan k x).heldFrames = s.heldFrames := rfl
@[simp] theorem State.setChan_migs (s : State) (k : Nat) (x : Chan) : (s.setChan k x).migs = s.migs := rfl
@[simp] theorem State.setChan_ledgerCmd (s : State) (k : Nat) (x : Chan) : (s.setChan k x).ledgerCmd = s.ledgerCmd := rfl
@[simp] theorem State.setChan_ledgerTurn (s : State) (k : Nat) (x : Chan) : (s.setChan k x).ledgerTurn = s.ledgerTurn := rfl
@[simp] theorem State.setChan_staging (s : State) (k : Nat) (x : Chan) : (s.setChan k x).staging = s.staging := rfl
@[simp] theorem State.setChan_stagingTurn (s : State) (k : Nat) (x : Chan) : (s.setChan k x).stagingTurn = s.stagingTurn := rfl
@[simp] theorem State.setChan_nvTrims (s : State) (k : Nat) (x : Chan) : (s.setChan k x).nvTrims = s.nvTrims := rfl
@[simp] theorem State.setChan_trimWords (s : State) (k : Nat) (x : Chan) : (s.setChan k x).trimWords = s.trimWords := rfl
@[simp] theorem State.setChan_trimMode (s : State) (k : Nat) (x : Chan) : (s.setChan k x).trimMode = s.trimMode := rfl
@[simp] theorem State.setChan_calCmd (s : State) (k : Nat) (x : Chan) : (s.setChan k x).calCmd = s.calCmd := rfl
@[simp] theorem State.setChan_regions (s : State) (k : Nat) (x : Chan) : (s.setChan k x).regions = s.regions := rfl
@[simp] theorem State.setChan_rings (s : State) (k : Nat) (x : Chan) : (s.setChan k x).rings = s.rings := rfl
@[simp] theorem State.setChan_lanes (s : State) (k : Nat) (x : Chan) : (s.setChan k x).lanes = s.lanes := rfl
@[simp] theorem State.setChan_paths (s : State) (k : Nat) (x : Chan) : (s.setChan k x).paths = s.paths := rfl
@[simp] theorem State.setChan_arbiters (s : State) (k : Nat) (x : Chan) : (s.setChan k x).arbiters = s.arbiters := rfl
@[simp] theorem State.setChan_lasers (s : State) (k : Nat) (x : Chan) : (s.setChan k x).lasers = s.lasers := rfl
@[simp] theorem State.setChan_identReports (s : State) (k : Nat) (x : Chan) : (s.setChan k x).identReports = s.identReports := rfl
@[simp] theorem State.setChan_guests (s : State) (k : Nat) (x : Chan) : (s.setChan k x).guests = s.guests := rfl
@[simp] theorem State.setChan_requests (s : State) (k : Nat) (x : Chan) : (s.setChan k x).requests = s.requests := rfl
@[simp] theorem State.setChan_seqs (s : State) (k : Nat) (x : Chan) : (s.setChan k x).seqs = s.seqs := rfl
@[simp] theorem State.setChan_phases (s : State) (k : Nat) (x : Chan) : (s.setChan k x).phases = s.phases := rfl
@[simp] theorem State.setChan_trackers (s : State) (k : Nat) (x : Chan) : (s.setChan k x).trackers = s.trackers := rfl
@[simp] theorem State.setChan_replies (s : State) (k : Nat) (x : Chan) : (s.setChan k x).replies = s.replies := rfl
@[simp] theorem State.setChan_guards (s : State) (k : Nat) (x : Chan) : (s.setChan k x).guards = s.guards := rfl
@[simp] theorem State.setChan_lastResponse (s : State) (k : Nat) (x : Chan) : (s.setChan k x).lastResponse = s.lastResponse := rfl
@[simp] theorem State.setChan_lineCache (s : State) (k : Nat) (x : Chan) : (s.setChan k x).lineCache = s.lineCache := rfl
@[simp] theorem State.setChan_xports (s : State) (k : Nat) (x : Chan) : (s.setChan k x).xports = s.xports := rfl
@[simp] theorem State.setChan_routes (s : State) (k : Nat) (x : Chan) : (s.setChan k x).routes = s.routes := rfl
@[simp] theorem State.setChan_hub (s : State) (k : Nat) (x : Chan) : (s.setChan k x).hub = s.hub := rfl
@[simp] theorem State.setChan_routeLoad (s : State) (k : Nat) (x : Chan) : (s.setChan k x).routeLoad = s.routeLoad := rfl
@[simp] theorem State.setChan_pair (s : State) (k : Nat) (x : Chan) : (s.setChan k x).pair = s.pair := rfl
@[simp] theorem State.setChan_ports (s : State) (k : Nat) (x : Chan) : (s.setChan k x).ports = s.ports := rfl
@[simp] theorem State.setChan_streams (s : State) (k : Nat) (x : Chan) : (s.setChan k x).streams = s.streams := rfl
@[simp] theorem State.setChan_sqPort (s : State) (k : Nat) (x : Chan) : (s.setChan k x).sqPort = s.sqPort := rfl
@[simp] theorem State.setChan_dap (s : State) (k : Nat) (x : Chan) : (s.setChan k x).dap = s.dap := rfl
@[simp] theorem State.setChan_thermals (s : State) (k : Nat) (x : Chan) : (s.setChan k x).thermals = s.thermals := rfl
@[simp] theorem State.setChan_sensors (s : State) (k : Nat) (x : Chan) : (s.setChan k x).sensors = s.sensors := rfl
@[simp] theorem State.setChan_pw (s : State) (k : Nat) (x : Chan) : (s.setChan k x).pw = s.pw := rfl
@[simp] theorem State.setChan_sec (s : State) (k : Nat) (x : Chan) : (s.setChan k x).sec = s.sec := rfl
@[simp] theorem State.setChan_test (s : State) (k : Nat) (x : Chan) : (s.setChan k x).test = s.test := rfl
@[simp] theorem State.setChan_pending (s : State) (k : Nat) (x : Chan) : (s.setChan k x).pending = s.pending := rfl

@[simp] theorem State.setPort_dict (s : State) (k : Nat) (x : Port) : (s.setPort k x).dict = s.dict := rfl
@[simp] theorem State.setPort_nv (s : State) (k : Nat) (x : Port) : (s.setPort k x).nv = s.nv := rfl
@[simp] theorem State.setPort_lastStatus (s : State) (k : Nat) (x : Port) : (s.setPort k x).lastStatus = s.lastStatus := rfl
@[simp] theorem State.setPort_freeCtr (s : State) (k : Nat) (x : Port) : (s.setPort k x).freeCtr = s.freeCtr := rfl
@[simp] theorem State.setPort_hostMem (s : State) (k : Nat) (x : Port) : (s.setPort k x).hostMem = s.hostMem := rfl
@[simp] theorem State.setPort_tb (s : State) (k : Nat) (x : Port) : (s.setPort k x).tb = s.tb := rfl
@[simp] theorem State.setPort_prick (s : State) (k : Nat) (x : Port) : (s.setPort k x).prick = s.prick := rfl
@[simp] theorem State.setPort_entries (s : State) (k : Nat) (x : Port) : (s.setPort k x).entries = s.entries := rfl
@[simp] theorem State.setPort_cores (s : State) (k : Nat) (x : Port) : (s.setPort k x).cores = s.cores := rfl
@[simp] theorem State.setPort_runs (s : State) (k : Nat) (x : Port) : (s.setPort k x).runs = s.runs := rfl
@[simp] theorem State.setPort_dies (s : State) (k : Nat) (x : Port) : (s.setPort k x).dies = s.dies := rfl
@[simp] theorem State.setPort_grants (s : State) (k : Nat) (x : Port) : (s.setPort k x).grants = s.grants := rfl
@[simp] theorem State.setPort_nextGrant (s : State) (k : Nat) (x : Port) : (s.setPort k x).nextGrant = s.nextGrant := rfl
@[simp] theorem State.setPort_orphans (s : State) (k : Nat) (x : Port) : (s.setPort k x).orphans = s.orphans := rfl
@[simp] theorem State.setPort_stopped (s : State) (k : Nat) (x : Port) : (s.setPort k x).stopped = s.stopped := rfl
@[simp] theorem State.setPort_fuseMap (s : State) (k : Nat) (x : Port) : (s.setPort k x).fuseMap = s.fuseMap := rfl
@[simp] theorem State.setPort_fieldMap (s : State) (k : Nat) (x : Port) : (s.setPort k x).fieldMap = s.fieldMap := rfl
@[simp] theorem State.setPort_patCmd (s : State) (k : Nat) (x : Port) : (s.setPort k x).patCmd = s.patCmd := rfl
@[simp] theorem State.setPort_halted (s : State) (k : Nat) (x : Port) : (s.setPort k x).halted = s.halted := rfl
@[simp] theorem State.setPort_stores (s : State) (k : Nat) (x : Port) : (s.setPort k x).stores = s.stores := rfl
@[simp] theorem State.setPort_ledger (s : State) (k : Nat) (x : Port) : (s.setPort k x).ledger = s.ledger := rfl
@[simp] theorem State.setPort_tlb (s : State) (k : Nat) (x : Port) : (s.setPort k x).tlb = s.tlb := rfl
@[simp] theorem State.setPort_epoch (s : State) (k : Nat) (x : Port) : (s.setPort k x).epoch = s.epoch := rfl
@[simp] theorem State.setPort_heldFrames (s : State) (k : Nat) (x : Port) : (s.setPort k x).heldFrames = s.heldFrames := rfl
@[simp] theorem State.setPort_migs (s : State) (k : Nat) (x : Port) : (s.setPort k x).migs = s.migs := rfl
@[simp] theorem State.setPort_ledgerCmd (s : State) (k : Nat) (x : Port) : (s.setPort k x).ledgerCmd = s.ledgerCmd := rfl
@[simp] theorem State.setPort_ledgerTurn (s : State) (k : Nat) (x : Port) : (s.setPort k x).ledgerTurn = s.ledgerTurn := rfl
@[simp] theorem State.setPort_chans (s : State) (k : Nat) (x : Port) : (s.setPort k x).chans = s.chans := rfl
@[simp] theorem State.setPort_staging (s : State) (k : Nat) (x : Port) : (s.setPort k x).staging = s.staging := rfl
@[simp] theorem State.setPort_stagingTurn (s : State) (k : Nat) (x : Port) : (s.setPort k x).stagingTurn = s.stagingTurn := rfl
@[simp] theorem State.setPort_nvTrims (s : State) (k : Nat) (x : Port) : (s.setPort k x).nvTrims = s.nvTrims := rfl
@[simp] theorem State.setPort_trimWords (s : State) (k : Nat) (x : Port) : (s.setPort k x).trimWords = s.trimWords := rfl
@[simp] theorem State.setPort_trimMode (s : State) (k : Nat) (x : Port) : (s.setPort k x).trimMode = s.trimMode := rfl
@[simp] theorem State.setPort_calCmd (s : State) (k : Nat) (x : Port) : (s.setPort k x).calCmd = s.calCmd := rfl
@[simp] theorem State.setPort_regions (s : State) (k : Nat) (x : Port) : (s.setPort k x).regions = s.regions := rfl
@[simp] theorem State.setPort_rings (s : State) (k : Nat) (x : Port) : (s.setPort k x).rings = s.rings := rfl
@[simp] theorem State.setPort_lanes (s : State) (k : Nat) (x : Port) : (s.setPort k x).lanes = s.lanes := rfl
@[simp] theorem State.setPort_paths (s : State) (k : Nat) (x : Port) : (s.setPort k x).paths = s.paths := rfl
@[simp] theorem State.setPort_arbiters (s : State) (k : Nat) (x : Port) : (s.setPort k x).arbiters = s.arbiters := rfl
@[simp] theorem State.setPort_lasers (s : State) (k : Nat) (x : Port) : (s.setPort k x).lasers = s.lasers := rfl
@[simp] theorem State.setPort_identReports (s : State) (k : Nat) (x : Port) : (s.setPort k x).identReports = s.identReports := rfl
@[simp] theorem State.setPort_guests (s : State) (k : Nat) (x : Port) : (s.setPort k x).guests = s.guests := rfl
@[simp] theorem State.setPort_requests (s : State) (k : Nat) (x : Port) : (s.setPort k x).requests = s.requests := rfl
@[simp] theorem State.setPort_seqs (s : State) (k : Nat) (x : Port) : (s.setPort k x).seqs = s.seqs := rfl
@[simp] theorem State.setPort_phases (s : State) (k : Nat) (x : Port) : (s.setPort k x).phases = s.phases := rfl
@[simp] theorem State.setPort_trackers (s : State) (k : Nat) (x : Port) : (s.setPort k x).trackers = s.trackers := rfl
@[simp] theorem State.setPort_replies (s : State) (k : Nat) (x : Port) : (s.setPort k x).replies = s.replies := rfl
@[simp] theorem State.setPort_guards (s : State) (k : Nat) (x : Port) : (s.setPort k x).guards = s.guards := rfl
@[simp] theorem State.setPort_lastResponse (s : State) (k : Nat) (x : Port) : (s.setPort k x).lastResponse = s.lastResponse := rfl
@[simp] theorem State.setPort_lineCache (s : State) (k : Nat) (x : Port) : (s.setPort k x).lineCache = s.lineCache := rfl
@[simp] theorem State.setPort_xports (s : State) (k : Nat) (x : Port) : (s.setPort k x).xports = s.xports := rfl
@[simp] theorem State.setPort_routes (s : State) (k : Nat) (x : Port) : (s.setPort k x).routes = s.routes := rfl
@[simp] theorem State.setPort_hub (s : State) (k : Nat) (x : Port) : (s.setPort k x).hub = s.hub := rfl
@[simp] theorem State.setPort_routeLoad (s : State) (k : Nat) (x : Port) : (s.setPort k x).routeLoad = s.routeLoad := rfl
@[simp] theorem State.setPort_pair (s : State) (k : Nat) (x : Port) : (s.setPort k x).pair = s.pair := rfl
@[simp] theorem State.setPort_streams (s : State) (k : Nat) (x : Port) : (s.setPort k x).streams = s.streams := rfl
@[simp] theorem State.setPort_sqPort (s : State) (k : Nat) (x : Port) : (s.setPort k x).sqPort = s.sqPort := rfl
@[simp] theorem State.setPort_dap (s : State) (k : Nat) (x : Port) : (s.setPort k x).dap = s.dap := rfl
@[simp] theorem State.setPort_thermals (s : State) (k : Nat) (x : Port) : (s.setPort k x).thermals = s.thermals := rfl
@[simp] theorem State.setPort_sensors (s : State) (k : Nat) (x : Port) : (s.setPort k x).sensors = s.sensors := rfl
@[simp] theorem State.setPort_pw (s : State) (k : Nat) (x : Port) : (s.setPort k x).pw = s.pw := rfl
@[simp] theorem State.setPort_sec (s : State) (k : Nat) (x : Port) : (s.setPort k x).sec = s.sec := rfl
@[simp] theorem State.setPort_test (s : State) (k : Nat) (x : Port) : (s.setPort k x).test = s.test := rfl
@[simp] theorem State.setPort_pending (s : State) (k : Nat) (x : Port) : (s.setPort k x).pending = s.pending := rfl

@[simp] theorem State.setStream_dict (s : State) (k : Nat) (x : Stream) : (s.setStream k x).dict = s.dict := rfl
@[simp] theorem State.setStream_nv (s : State) (k : Nat) (x : Stream) : (s.setStream k x).nv = s.nv := rfl
@[simp] theorem State.setStream_lastStatus (s : State) (k : Nat) (x : Stream) : (s.setStream k x).lastStatus = s.lastStatus := rfl
@[simp] theorem State.setStream_freeCtr (s : State) (k : Nat) (x : Stream) : (s.setStream k x).freeCtr = s.freeCtr := rfl
@[simp] theorem State.setStream_hostMem (s : State) (k : Nat) (x : Stream) : (s.setStream k x).hostMem = s.hostMem := rfl
@[simp] theorem State.setStream_tb (s : State) (k : Nat) (x : Stream) : (s.setStream k x).tb = s.tb := rfl
@[simp] theorem State.setStream_prick (s : State) (k : Nat) (x : Stream) : (s.setStream k x).prick = s.prick := rfl
@[simp] theorem State.setStream_entries (s : State) (k : Nat) (x : Stream) : (s.setStream k x).entries = s.entries := rfl
@[simp] theorem State.setStream_cores (s : State) (k : Nat) (x : Stream) : (s.setStream k x).cores = s.cores := rfl
@[simp] theorem State.setStream_runs (s : State) (k : Nat) (x : Stream) : (s.setStream k x).runs = s.runs := rfl
@[simp] theorem State.setStream_dies (s : State) (k : Nat) (x : Stream) : (s.setStream k x).dies = s.dies := rfl
@[simp] theorem State.setStream_grants (s : State) (k : Nat) (x : Stream) : (s.setStream k x).grants = s.grants := rfl
@[simp] theorem State.setStream_nextGrant (s : State) (k : Nat) (x : Stream) : (s.setStream k x).nextGrant = s.nextGrant := rfl
@[simp] theorem State.setStream_orphans (s : State) (k : Nat) (x : Stream) : (s.setStream k x).orphans = s.orphans := rfl
@[simp] theorem State.setStream_stopped (s : State) (k : Nat) (x : Stream) : (s.setStream k x).stopped = s.stopped := rfl
@[simp] theorem State.setStream_fuseMap (s : State) (k : Nat) (x : Stream) : (s.setStream k x).fuseMap = s.fuseMap := rfl
@[simp] theorem State.setStream_fieldMap (s : State) (k : Nat) (x : Stream) : (s.setStream k x).fieldMap = s.fieldMap := rfl
@[simp] theorem State.setStream_patCmd (s : State) (k : Nat) (x : Stream) : (s.setStream k x).patCmd = s.patCmd := rfl
@[simp] theorem State.setStream_halted (s : State) (k : Nat) (x : Stream) : (s.setStream k x).halted = s.halted := rfl
@[simp] theorem State.setStream_stores (s : State) (k : Nat) (x : Stream) : (s.setStream k x).stores = s.stores := rfl
@[simp] theorem State.setStream_ledger (s : State) (k : Nat) (x : Stream) : (s.setStream k x).ledger = s.ledger := rfl
@[simp] theorem State.setStream_tlb (s : State) (k : Nat) (x : Stream) : (s.setStream k x).tlb = s.tlb := rfl
@[simp] theorem State.setStream_epoch (s : State) (k : Nat) (x : Stream) : (s.setStream k x).epoch = s.epoch := rfl
@[simp] theorem State.setStream_heldFrames (s : State) (k : Nat) (x : Stream) : (s.setStream k x).heldFrames = s.heldFrames := rfl
@[simp] theorem State.setStream_migs (s : State) (k : Nat) (x : Stream) : (s.setStream k x).migs = s.migs := rfl
@[simp] theorem State.setStream_ledgerCmd (s : State) (k : Nat) (x : Stream) : (s.setStream k x).ledgerCmd = s.ledgerCmd := rfl
@[simp] theorem State.setStream_ledgerTurn (s : State) (k : Nat) (x : Stream) : (s.setStream k x).ledgerTurn = s.ledgerTurn := rfl
@[simp] theorem State.setStream_chans (s : State) (k : Nat) (x : Stream) : (s.setStream k x).chans = s.chans := rfl
@[simp] theorem State.setStream_staging (s : State) (k : Nat) (x : Stream) : (s.setStream k x).staging = s.staging := rfl
@[simp] theorem State.setStream_stagingTurn (s : State) (k : Nat) (x : Stream) : (s.setStream k x).stagingTurn = s.stagingTurn := rfl
@[simp] theorem State.setStream_nvTrims (s : State) (k : Nat) (x : Stream) : (s.setStream k x).nvTrims = s.nvTrims := rfl
@[simp] theorem State.setStream_trimWords (s : State) (k : Nat) (x : Stream) : (s.setStream k x).trimWords = s.trimWords := rfl
@[simp] theorem State.setStream_trimMode (s : State) (k : Nat) (x : Stream) : (s.setStream k x).trimMode = s.trimMode := rfl
@[simp] theorem State.setStream_calCmd (s : State) (k : Nat) (x : Stream) : (s.setStream k x).calCmd = s.calCmd := rfl
@[simp] theorem State.setStream_regions (s : State) (k : Nat) (x : Stream) : (s.setStream k x).regions = s.regions := rfl
@[simp] theorem State.setStream_rings (s : State) (k : Nat) (x : Stream) : (s.setStream k x).rings = s.rings := rfl
@[simp] theorem State.setStream_lanes (s : State) (k : Nat) (x : Stream) : (s.setStream k x).lanes = s.lanes := rfl
@[simp] theorem State.setStream_paths (s : State) (k : Nat) (x : Stream) : (s.setStream k x).paths = s.paths := rfl
@[simp] theorem State.setStream_arbiters (s : State) (k : Nat) (x : Stream) : (s.setStream k x).arbiters = s.arbiters := rfl
@[simp] theorem State.setStream_lasers (s : State) (k : Nat) (x : Stream) : (s.setStream k x).lasers = s.lasers := rfl
@[simp] theorem State.setStream_identReports (s : State) (k : Nat) (x : Stream) : (s.setStream k x).identReports = s.identReports := rfl
@[simp] theorem State.setStream_guests (s : State) (k : Nat) (x : Stream) : (s.setStream k x).guests = s.guests := rfl
@[simp] theorem State.setStream_requests (s : State) (k : Nat) (x : Stream) : (s.setStream k x).requests = s.requests := rfl
@[simp] theorem State.setStream_seqs (s : State) (k : Nat) (x : Stream) : (s.setStream k x).seqs = s.seqs := rfl
@[simp] theorem State.setStream_phases (s : State) (k : Nat) (x : Stream) : (s.setStream k x).phases = s.phases := rfl
@[simp] theorem State.setStream_trackers (s : State) (k : Nat) (x : Stream) : (s.setStream k x).trackers = s.trackers := rfl
@[simp] theorem State.setStream_replies (s : State) (k : Nat) (x : Stream) : (s.setStream k x).replies = s.replies := rfl
@[simp] theorem State.setStream_guards (s : State) (k : Nat) (x : Stream) : (s.setStream k x).guards = s.guards := rfl
@[simp] theorem State.setStream_lastResponse (s : State) (k : Nat) (x : Stream) : (s.setStream k x).lastResponse = s.lastResponse := rfl
@[simp] theorem State.setStream_lineCache (s : State) (k : Nat) (x : Stream) : (s.setStream k x).lineCache = s.lineCache := rfl
@[simp] theorem State.setStream_xports (s : State) (k : Nat) (x : Stream) : (s.setStream k x).xports = s.xports := rfl
@[simp] theorem State.setStream_routes (s : State) (k : Nat) (x : Stream) : (s.setStream k x).routes = s.routes := rfl
@[simp] theorem State.setStream_hub (s : State) (k : Nat) (x : Stream) : (s.setStream k x).hub = s.hub := rfl
@[simp] theorem State.setStream_routeLoad (s : State) (k : Nat) (x : Stream) : (s.setStream k x).routeLoad = s.routeLoad := rfl
@[simp] theorem State.setStream_pair (s : State) (k : Nat) (x : Stream) : (s.setStream k x).pair = s.pair := rfl
@[simp] theorem State.setStream_ports (s : State) (k : Nat) (x : Stream) : (s.setStream k x).ports = s.ports := rfl
@[simp] theorem State.setStream_sqPort (s : State) (k : Nat) (x : Stream) : (s.setStream k x).sqPort = s.sqPort := rfl
@[simp] theorem State.setStream_dap (s : State) (k : Nat) (x : Stream) : (s.setStream k x).dap = s.dap := rfl
@[simp] theorem State.setStream_thermals (s : State) (k : Nat) (x : Stream) : (s.setStream k x).thermals = s.thermals := rfl
@[simp] theorem State.setStream_sensors (s : State) (k : Nat) (x : Stream) : (s.setStream k x).sensors = s.sensors := rfl
@[simp] theorem State.setStream_pw (s : State) (k : Nat) (x : Stream) : (s.setStream k x).pw = s.pw := rfl
@[simp] theorem State.setStream_sec (s : State) (k : Nat) (x : Stream) : (s.setStream k x).sec = s.sec := rfl
@[simp] theorem State.setStream_test (s : State) (k : Nat) (x : Stream) : (s.setStream k x).test = s.test := rfl
@[simp] theorem State.setStream_pending (s : State) (k : Nat) (x : Stream) : (s.setStream k x).pending = s.pending := rfl

@[simp] theorem State.answer_lastStatus (s : State) (x : Status) : (s.answer x).lastStatus = x.code := rfl
@[simp] theorem State.answerCode_lastStatus (s : State) (c : Nat) : (s.answerCode c).lastStatus = c := rfl
@[simp] theorem State.tickFree_freeCtr (s : State) : s.tickFree.freeCtr = s.freeCtr + 1 := rfl

/-! Reading after a write. -/

theorem State.core_setCore {s : State} (h : Tbl.rising s.cores = true) (k j : Nat) (x : PCore) :
    (s.setCore k x).core j = if j = k then x else s.core j := Tbl.get_put _ h _ _ _

theorem State.run_setRun {s : State} (h : Tbl.rising s.runs = true) (k j : Nat) (x : Option CoreRun) :
    (s.setRun k x).run j = if j = k then x else s.run j := Tbl.get_put _ h _ _ _

theorem State.dieOf_setDie {s : State} (h : Tbl.rising s.dies = true) (k j : Nat) (x : Die) :
    (s.setDie k x).dieOf j = if j = k then x else s.dieOf j := Tbl.get_put _ h _ _ _

theorem State.store_setStore {s : State} (h : Tbl.rising s.stores = true) (k j : Nat) (x : Store) :
    (s.setStore k x).store j = if j = k then x else s.store j := Tbl.get_put _ h _ _ _

theorem State.chan_setChan {s : State} (h : Tbl.rising s.chans = true) (k j : Nat) (x : Chan) :
    (s.setChan k x).chan j = if j = k then x else s.chan j := Tbl.get_put _ h _ _ _

theorem State.port_setPort {s : State} (h : Tbl.rising s.ports = true) (k j : Nat) (x : Port) :
    (s.setPort k x).port j = if j = k then x else s.port j := Tbl.get_put _ h _ _ _

theorem State.stream_setStream {s : State} (h : Tbl.rising s.streams = true) (k j : Nat) (x : Stream) :
    (s.setStream k x).stream j = if j = k then x else s.stream j := Tbl.get_put _ h _ _ _

theorem State.reg_keep {s : State} (h : Tbl.rising s.dict = true) (k j v : Nat) :
    (s.keep k v).reg j = if j = k then v else s.reg j := by
  unfold State.keep
  dsimp only
  split
  · exact State.reg_setReg h k j v
  · exact State.reg_setReg h k j v

theorem State.reg_addReg {s : State} (h : Tbl.rising s.dict = true) (k j n : Nat) :
    (s.addReg k n).reg j = if j = k then s.reg k + n else s.reg j := State.reg_setReg h k j _

theorem State.reg_bump {s : State} (h : Tbl.rising s.dict = true) (k j : Nat) :
    (s.bump k).reg j = if j = k then s.reg k + 1 else s.reg j := State.reg_setReg h k j _

theorem State.reg_stick {s : State} (h : Tbl.rising s.dict = true) (k j b : Nat) :
    (s.stick k b).reg j = if j = k then s.reg k ||| b else s.reg j := State.reg_setReg h k j _

/-- A stored dictionary value leaves the dictionary in order. -/
theorem State.setReg_rising {s : State} (h : Tbl.rising s.dict = true) (k v : Nat) : Tbl.rising (s.setReg k v).dict = true :=
  Tbl.rising_put _ k v h

end Sys2Proof.Machine
end

