-- ==== Sys2Proof/WellFormed.lean ====
section
/-! DEFINITION. Well-formed commands: every operand fits the field or register that the spec gives it. The meanings are total and do
not rely on it. -/

namespace Sys2Proof

/-- A number that a field of w bits holds. -/
def fits (v w : Nat) : Bool := decide (v < 2 ^ w)

/-- A packet's header fields fit Table 11-2, and its payload is at most 8 whole lines. -/
def Packet.wf (p : Packet) : Bool :=
  fits p.opcode 6 && fits p.epoch 1 && fits p.lines 4 && fits p.channel 2 && fits p.dest 24 && fits p.source 24 && fits p.seq 32 &&
  fits p.claim 32 && fits p.tail 6 && fits p.rsv2 10 && fits p.address 48 && fits p.status 8 && fits p.space 4 && fits p.phase 2 &&
  fits p.storeIndex 10 && fits p.storeCount 11 && fits p.aux 6 && fits p.rsv3 22 && fits p.crc 32 && fits p.rsvT 32 && decide (p.payload.length % 64 = 0) && decide (p.payload.length ≤ 512)

/-- A HELLO's fields fit the registers that they come from (Table 12-2). -/
def Hello.wf (h : Hello) : Bool :=
  fits h.claim 32 && fits h.priority 8 && fits h.role 3 && fits h.frameLength 16 && fits h.anchorFrame 64 && fits h.anchorTick 64 &&
  fits h.digest 64 && h.opened.all (fits · 14) && h.unsynced.all (fits · 14) && h.led.all (fits · 14)

/-- A copied pricking has at most 32,768 entries of two words (R72). -/
def PrickCopy.wf (c : PrickCopy) : Bool :=
  fits c.frame 64 && fits c.slot 3 && decide (c.entries.length ≤ 32768) && c.entries.all (fun e => fits e.1 64 && fits e.2 64)

/-- A copied stream context fits Table 13-19, and its state record is 1 to 16 pages (R550). -/
def StreamCopy.wf (c : StreamCopy) : Bool :=
  fits c.stream 14 && fits c.home 3 && fits c.owner 1 && fits c.ringQ0 6 && fits c.ringQ1 6 && fits c.f0 64 && fits c.emitted 64 && fits c.inHead 64 && fits c.inSeq 32 && fits c.inTick 64 &&
  decide (c.state.length % 4096 = 0) && decide (4096 ≤ c.state.length) && decide (c.state.length ≤ 65536)

/-- A round's lists are no longer than what they read (Table 15-4, R313, R358). -/
def Readings.wf (r : Readings) : Bool :=
  decide (r.sensors.length ≤ 536) && decide (r.dimms.length ≤ 16) && decide (r.package.length ≤ 4) && decide (r.dieWatts.length ≤ 8) &&
  decide (r.rails.length ≤ 31) && decide (r.taps.length ≤ 16) && decide (r.shares.length ≤ 16)

/-- Bring-up has 13 steps and reads the revision words of at most 12 sites (Table 16-1, R657). -/
def BringUp.wf (e : BringUp) : Bool := decide (e.upTo ≤ 13) && decide (e.revisions.length ≤ 12)

/-- The bytes of a register write are at most those of the largest subindex (Table 14-1). -/
def RegTarget.wf (t : RegTarget) : Bool :=
  match t with
  | .object _ _ data => decide (data.length ≤ 512)
  | .bar0 _ offset _ => decide (offset.toNat % 8 = 0)
  | .bar4 _ offset _ => decide (offset.toNat % 8 = 0)

/-- A frame of the dictionary protocol holds at least its header of 24 bytes and at most 1,280 bytes (Table 14-5). -/
def dapFrameWf (f : List Byte) : Bool := decide (24 ≤ f.length) && decide (f.length ≤ 1280)

/-- A row error lies in one of the 64 groups of a port, at one of its bit positions (R37). -/
def RowError.wf (e : RowError) : Bool := decide (e.group < 64) && e.bits.all (fun b => decide (b < 72))

/-- A command whose operands all fit. -/
def wellFormed (i : Instr) : Bool :=
  match i with
  | .powerApplied => true
  | .bringUp env => env.wf
  | .laserWaitTimeout => true
  | .wordClockEdge _ _ _ => true
  | .ppsEdge _ _ _ => true
  | .mediaTick => true
  | .ptpCorrelationRecord _ word2 _ _ => fits word2 64
  | .sourceLost _ => true
  | .sourceSwitch _ => true
  | .acquireTimeout => true
  | .holdoverLimitExpiry => true
  | .mediaReferenceSourceWrite v => fits v 8
  | .firstFrameBegin _ => true
  | .frameBoundary => true
  | .frameLengthWrite v => fits v 16
  | .prickingDoorbell _ _ => true
  | .entryStartOffset _ _ => true
  | .coreGrant _ => true
  | .deadlineTick _ => true
  | .stepRunLimit _ => true
  | .instructionIssue _ _ => true
  | .instructionComplete _ _ _ _ => true
  | .rowPortPauseEnd _ _ => true
  | .bankCopyEnd _ _ _ => true
  | .arbiterWeightUpdate _ => true
  | .diePortWeightReport _ => true
  | .dieOperatingPointWrite _ v => fits v 8
  | .synchronisedChange => true
  | .vcoreRampStart _ => true
  | .vcoreSettleCheck _ _ => true
  | .rowin _ _ errs => errs.all RowError.wf
  | .rowout _ _ errs => errs.all RowError.wf
  | .rowinX _ _ errs => errs.all RowError.wf
  | .rowoutX _ _ errs => errs.all RowError.wf
  | .mma _ _ _ => true
  | .mma4 _ _ => true
  | .drain _ _ _ => true
  | .accload _ _ _ => true
  | .add _ _ => true
  | .sub _ _ => true
  | .mul _ _ => true
  | .fma _ _ => true
  | .max _ _ => true
  | .min _ _ => true
  | .abs _ _ => true
  | .cvt _ _ => true
  | .tomx _ _ => true
  | .scale2 _ _ => true
  | .gather _ _ => true
  | .rope _ _ => true
  | .treemask _ _ => true
  | .vectorCopy _ _ => true
  | .exp _ _ => true
  | .recip _ _ => true
  | .rsqrt _ _ => true
  | .silu _ _ => true
  | .gelu _ _ => true
  | .softmax _ _ => true
  | .rmsnorm _ _ => true
  | .layernorm _ _ => true
  | .redsum _ _ => true
  | .redmax _ _ => true
  | .topk _ _ => true
  | .sample _ _ => true
  | .treeverify _ _ => true
  | .get _ _ _ errs => errs.all (fun e => decide (e.line < 2 ^ 32))
  | .put _ _ _ errs => errs.all (fun e => decide (e.line < 2 ^ 32))
  | .putf _ _ _ => true
  | .mcast _ _ _ => true
  | .atomic _ _ _ => true
  | .copy _ _ _ => true
  | .transferComplete _ _ _ _ _ _ => true
  | .waitpin _ _ => true
  | .semadd _ _ => true
  | .semwait _ _ => true
  | .fence _ _ => true
  | .waitmem _ _ => true
  | .waitmemPoll _ _ => true
  | .nop _ _ => true
  | .endStep _ _ => true
  | .br _ _ => true
  | .brc _ _ => true
  | .iadd _ _ => true
  | .iset _ _ => true
  | .iload _ _ => true
  | .trap _ _ => true
  | .patternLoad => true
  | .patternUnload => true
  | .patternImageFree _ => true
  | .patrolScrub _ _ errs => errs.all (fun e => decide (e.line < 2 ^ 32))
  | .ledgerEpochDrain => true
  | .ledgerQueueDoorbell _ v => fits v 64
  | .map => true
  | .unmap => true
  | .protect => true
  | .migrate => true
  | .unmapstream => true
  | .migrationPhaseEnd _ => true
  | .selfRefreshEntry _ => true
  | .channelSelfRefresh _ => true
  | .presenceDetect _ => true
  | .presenceRemoved _ => true
  | .spdRead _ _ => true
  | .channelTrainingEnd _ _ => true
  | .i3cBusLoss _ => true
  | .channelDrain => true
  | .discover => true
  | .drainComplete _ => true
  | .powerEnableOff _ => true
  | .stagingQueueDoorbell _ v => fits v 64
  | .stagein errs => errs.all (fun e => decide (e.line < 2 ^ 32))
  | .stageout errs => errs.all (fun e => decide (e.line < 2 ^ 32))
  | .stagingComplete _ => true
  | .leasePeriod => true
  | .leaseRequest _ _ _ _ => true
  | .leaseGrant _ => true
  | .leaseConfirm _ => true
  | .identityWord _ _ => true
  | .identityReport => true
  | .pathTrainingEnd _ _ _ => true
  | .laserRelease _ => true
  | .laserStart _ => true
  | .laserRampEnd _ => true
  | .laserLoss _ => true
  | .laserLossBoth => true
  | .laserSeatReport _ _ => true
  | .regionReset _ => true
  | .regionDarkNotice _ _ => true
  | .regionEndpointReset _ => true
  | .regionResetRelease _ => true
  | .regionUpNotice _ => true
  | .regionReturnTimeout _ => true
  | .dykeGuestPacket _ p => p.wf
  | .dykeWindowWrite _ _ v => fits v 64
  | .housekeepingRound r => r.wf
  | .housekeepingMissed _ _ => true
  | .lockInUpdate _ _ _ => true
  | .ringLockAchieved _ _ _ _ => true
  | .laneCalibrationStart _ _ => true
  | .laneCalibrationEnd _ _ _ => true
  | .laneCalibrationCommand => true
  | .fullCalibrationCommand => true
  | .ringSelect _ v => fits v 16
  | .read p errs => p.wf && errs.all (fun e => decide (e.line < 2 ^ 32))
  | .write p => p.wf
  | .flag p => p.wf
  | .invalidate p => p.wf
  | .probe p => p.wf
  | .readresp p => p.wf
  | .writeack p => p.wf
  | .flagack p => p.wf
  | .atomicresp p => p.wf
  | .triggerresp p => p.wf
  | .invalack p => p.wf
  | .proberesp p => p.wf
  | .responseTimeout source seq => fits source 12 && fits seq 32
  | .busyResend source seq => fits source 12 && fits seq 32
  | .flagEntryTimeout _ source _ => fits source 24
  | .replyCacheGuardEnd _ => true
  | .add32 p => p.wf
  | .add64 p => p.wf
  | .swap32 p => p.wf
  | .swap64 p => p.wf
  | .cas32 p => p.wf
  | .cas64 p => p.wf
  | .umax32 p => p.wf
  | .umax64 p => p.wf
  | .umin32 p => p.wf
  | .umin64 p => p.wf
  | .or32 p => p.wf
  | .or64 p => p.wf
  | .and32 p => p.wf
  | .and64 p => p.wf
  | .ping p => p.wf
  | .raiseFence p => p.wf
  | .flushLineCache p => p.wf
  | .hostProcedure p => p.wf
  | .claimFenceWrite _ v => fits v 32
  | .lineCacheFlush v => fits v 8
  | .routeLoad => true
  | .routeSwitch => true
  | .epochFree _ => true
  | .pairLinkUp lanes => fits lanes 16
  | .pairLinkDown => true
  | .helloTimer => true
  | .hello h => h.wf
  | .pricking c => c.wf
  | .commit _ => true
  | .resync c => c.wf
  | .resyncEnd _ => true
  | .claim n => fits n 32
  | .yield _ => true
  | .kat _ => true
  | .joinTimeout => true
  | .standbyPrickingFix => true
  | .commitHoldExpiry => true
  | .pingWaitExpiry => true
  | .katInterval => true
  | .katResultTimeout => true
  | .switchover => true
  | .rejoin => true
  | .sqDoorbell _ _ _ => true
  | .sqFetch => true
  | .ingress _ _ => true
  | .openStream _ => true
  | .closeStream _ => true
  | .sampling _ => true
  | .statewrite _ _ => true
  | .stateread _ => true
  | .memwrite _ _ => true
  | .memread _ => true
  | .rebind _ => true
  | .portEnable _ _ => true
  | .portDisable _ _ => true
  | .linkDown _ => true
  | .perst _ _ => true
  | .waitLimitExpiry _ => true
  | .sqDisable _ _ => true
  | .ringEnable _ _ _ _ => true
  | .ringDisable _ _ => true
  | .consumerIndexWrite _ _ _ => true
  | .irqHoldoffEnd _ _ => true
  | .bar2Write _ => true
  | .prickingSlotWrite _ _ word _ => decide (word < 4 + 2 * 32768)
  | .dapRead _ frame => dapFrameWf frame
  | .dapWrite _ frame => dapFrameWf frame
  | .dapReadrecord _ frame => dapFrameWf frame
  | .dapOpen _ frame => dapFrameWf frame
  | .dapAuth _ frame => dapFrameWf frame
  | .dapClose _ frame => dapFrameWf frame
  | .dapWatch _ frame => dapFrameWf frame
  | .sessionPendingExpiry _ => true
  | .sessionIdleExpiry _ => true
  | .bar4Go _ => true
  | .accessKeyWrite _ sub v => fits v (if sub.val % 2 = 0 then 4096 else 8)
  | .networkConfigApply => true
  | .fieldSealArm _ => true
  | .fieldSealConfirm _ => true
  | .fieldSealArmExpiry => true
  | .restoreDefaults v => fits v 32
  | .registerWrite target => target.wf
  | .oscillatorLoss _ => true
  | .oscillatorSwitch => true
  | .clockFault => true
  | .droopStretch _ _ => true
  | .syncPulse _ => true
  | .dieRestart _ => true
  | .thermalTripClear v => fits v 8
  | .inputLow => true
  | .inputUndervoltage => true
  | .inputOvervoltage => true
  | .inputRestored => true
  | .railFault => true
  | .faultOffRestart => true
  | .enterRetention => true
  | .retentionEntryEnd => true
  | .wake => true
  | .wakeEnd => true
  | .recoveryLength v => fits v 32
  | .recoveryOffset v => fits v 32
  | .recoveryPiece piece => decide (piece.length = 512)
  | .recoveryVerify v => fits v 8
  | .updateStage => true
  | .updateApply => true
  | .updateCommit => true
  | .updateRevert => true
  | .updateResume => true
  | .updateSlice => true
  | .imageAliveTimeout => true
  | .sliceRetryTimeout => true
  | .autoCommit => true
  | .getVersion _ => true
  | .getCapabilities _ => true
  | .negotiateAlgorithms _ _ => true
  | .getDigests _ => true
  | .getCertificate _ _ _ _ => true
  | .challenge _ _ _ nonce => decide (nonce.length = 32)
  | .getMeasurements _ _ _ nonce => decide (nonce.length = 32)
  | .bistSliceStart _ => true
  | .bistSliceEnd _ _ => true
  | .dieBist v => fits v 8
  | .dieBistEnd _ _ _ => true
  | .testPortInstruction _ => true
  | .traceControlWrite v => fits v 64
  | .traceBlockDrain _ => true
  | .traceCopy v => fits v 8
  | .dumpTriggerWrite _ _ v => fits v 64
  | .freezeAtBoundary => true
  | .freezeAtOnce => true
  | .freezeRelease => true
  | .freezeDrainEnd => true
  | .freezeDrainLimit => true
  | .hostLinkUp _ => true
  | .laserLightReturn _ => true
  | .ringRegionRestart _ => true
  | .fabricLaneTrained _ _ => true
  | .oscillatorReturn _ => true
  | .fieldNetworkLink _ _ => true
  | .imageAliveReport => true
  | .ledgerCommandComplete => true
  | .commandCompletion _ => true
  | .patternLoadEnd => true
  | .routeLoadEnd => true
  | .traceCopyEnd => true
  | .updateStageEnd => true

end Sys2Proof
end

