-- ==== Sys2Proof/Tests/Slice0.lean ====
section
/-! SUPPORT. Small tests. First the terms that the checks of well-formedness refuse, then the spec's worked examples and code
points, then for every obligation with hypotheses a concrete state and operands that meet them. -/

namespace Sys2Proof.Tests

set_option Elab.async false

open Sys2Proof Sys2Proof.Machine

/-! Small states. -/

/-- A grant of one core at step 0, with its code at address 64 of P0 and its descriptors at address 4,096. -/
def tGrant : Grant :=
  { id := 5, die := 0, frame := 9, entry := 0, stream := 7, pattern := 3, step := 0, cls := .bulk, cores := [0], tick := 0,
    base := 0, codeOff := 64, codeLen := 1, descOff := 4096, descCount := 19 }

/-- The bytes of a descriptor in the core's own scratch: format, base, extents, stride of Dim1, scale base. -/
def tDesc (f base d0 d1 st sb : Nat) : List Byte :=
  leBytes 8 (f * 2 ^ 55 + base) ++ leBytes 8 (d0 * 2 ^ 48 + d1 * 2 ^ 32 + 2 ^ 16) ++ leBytes 8 (st * 2 ^ 32) ++ leBytes 8 sb

/-- Descriptors: 0 and 1 FP32 rows of 32, 2 a UINT32 word, 3 and 4 BF16 of 32 × 32 and 32 × 64, 5 FP32 of 64 × 32, 6 E4M3 of
32, 7 an FP32 pair, 8 a UINT32 pair, 9, 10 and 11 FP32 rows of 1, 8 and 72, 12 BF16 of 32 × 128; 13 to 17 for
transfers: another core's scratch, a multicast target, a word there, and two extents of the stream's state;
18 an extent of the polder space. -/
def tDescs : List Byte :=
  tDesc 0 0 32 1 0 0 ++ tDesc 0 128 32 1 0 0 ++ tDesc 0x0A 256 1 1 0 0 ++ tDesc 1 0x1000 32 32 64 0 ++ tDesc 1 0x2000 32 64 64 0 ++
  tDesc 0 0x4000 64 32 256 0 ++ tDesc 3 512 32 1 0 1024 ++ tDesc 0 2048 2 1 0 0 ++ tDesc 0x0A 2112 2 1 0 0 ++ tDesc 0 2176 1 1 0 0 ++
  tDesc 0 2240 8 1 0 0 ++ tDesc 0 2304 72 1 0 0 ++ tDesc 1 0x1000 32 128 64 0 ++
  tDesc 32 0x200 32 1 0 (2 ^ 48) ++ tDesc 64 0x200 32 1 0 (2 ^ 48) ++ tDesc 42 0x400 1 1 0 (2 ^ 48) ++ tDesc 192 0x400 32 1 0 0 ++
  tDesc 192 0x800 32 1 0 0 ++ tDesc 96 0 32 1 0 0

/-- The bytes of `tDescs` at address 4,096, those that are not 0. -/
def tMem : Tbl Byte :=
  [(4106, 1), (4108, 1), (4110, 32), (4128, 128), (4138, 1), (4140, 1), (4142, 32), (4161, 1), (4167, 5), (4170, 1),
   (4172, 1), (4174, 1), (4193, 16), (4198, 128), (4202, 1), (4204, 32), (4206, 32), (4212, 64), (4225, 32), (4230, 128),
   (4234, 1), (4236, 64), (4238, 32), (4244, 64), (4257, 64), (4266, 1), (4268, 32), (4270, 64), (4277, 1), (4289, 2),
   (4294, 128), (4295, 1), (4298, 1), (4300, 1), (4302, 32), (4313, 4), (4321, 8), (4330, 1), (4332, 1), (4334, 2),
   (4352, 64), (4353, 8), (4359, 5), (4362, 1), (4364, 1), (4366, 2), (4384, 128), (4385, 8), (4394, 1), (4396, 1),
   (4398, 1), (4416, 192), (4417, 8), (4426, 1), (4428, 1), (4430, 8), (4449, 9), (4458, 1), (4460, 1), (4462, 72),
   (4481, 16), (4486, 128), (4490, 1), (4492, 128), (4494, 32), (4500, 64), (4513, 2), (4519, 16), (4522, 1), (4524, 1),
   (4526, 32), (4542, 1), (4545, 2), (4551, 32), (4554, 1), (4556, 1), (4558, 32), (4574, 1), (4577, 4), (4583, 21),
   (4586, 1), (4588, 1), (4590, 1), (4606, 1), (4609, 4), (4615, 96), (4618, 1), (4620, 1), (4622, 32), (4641, 8), (4647,
   96), (4650, 1), (4652, 1), (4654, 32), (4679, 48), (4682, 1), (4684, 1), (4686, 32)]

theorem test_tMem : wrBytes [] 4096 tDescs = tMem := by decide +kernel

/-- Core 0 of die 0 in a running step of one instruction w, with a given part. -/
def tRun (w : Nat) (r : CoreRun) : State :=
  { State.reset with
    cores := [(0, { number := some 0, mode := .inService })]
    grants := [tGrant]
    runs := [(0, some r)]
    stores := [(0, { mem := wrLe tMem 64 8 w })]
    dies := [(0, { up := true })]
    streams := [(7, { st := .opened })] }

/-- The part of a core that has just started the step. -/
def tPart : CoreRun := { grant := 5, pos := 0 }

/-- The entry that the step belongs to. -/
def tEntry : Entry :=
  { frame := 9, idx := 0, die := 0, stream := 7, cls := .bulk, pattern := 3, firstStep := 0, stepCount := 1, start := 0, deadline := 99,
    cores := 1, after := none, st := .running, frameLength := 480 }

/-- The instruction w at the head of the queues of units us. -/
def tHead (us : List Nat) (w : Nat) : CoreRun := { tPart with queues := us.map (fun u => (u, [{ idx := 0, word := w }])) }

/-- All dies up, with cores 0 and 1 on each, and the transfer w at the head of TQ0 of core 0 of die 0. -/
def tXfer (w : Nat) : State :=
  { tRun w (tHead [8] w) with
    cores := (List.range 8).flatMap (fun d => [(d * 64, { number := some 0, mode := .inService }), (d * 64 + 1, { number := some 1, mode := .inService })])
    dies := (List.range 8).map (fun d => (d, { up := true }))
    streams := [(7, { st := .opened, stateSize := 1 })] }

/-- The conditions of `AtHead` as one check. -/
def tAtHead (s : State) (die : Fin 8) (core : Fin 48) (u c o k : Nat) (g : Grant) (r : CoreRun) (q : QInstr) : Bool :=
  decide (s.running die.val core.val = some (k, g, r)) && decide ((r.queue u).head? = some q) &&
  (unitsFor u q.word).all (fun v => decide (((r.queue v).head?).map (·.idx) = some q.idx)) &&
  decide (iClass q.word = c) && decide (iOp q.word = o) &&
  (!iWaitValid q.word || decide (iWaitCount q.word + seqAsks s g r (iWaitPin q.word) +
    (((List.range u).drop 1).map (fun v => unitAsks r v (iWaitPin q.word))).sum ≤ r.pin (iWaitPin q.word))) && Tbl.rising r.pins

theorem tAtHead_spec {s : State} {die : Fin 8} {core : Fin 48} {u c o k : Nat} {g : Grant} {r : CoreRun} {q : QInstr}
    (h : tAtHead s die core u c o k g r q = true) : AtHead s die core u c o k g r q := by
  simp only [tAtHead, Bool.and_eq_true, decide_eq_true_eq, List.all_eq_true, Bool.or_eq_true, Bool.not_eq_true'] at h
  obtain ⟨⟨⟨⟨⟨⟨h1, h2⟩, h3⟩, h4⟩, h5⟩, h6⟩, h7⟩ := h
  exact ⟨h1, h2, h3, h4, h5, fun hv => h6.resolve_left (by simp [hv]), h7⟩

/-- `ScratchOk` as one check. -/
def tScratch (o : Operand) : Bool := decide (o.d.space = 0) && o.aligned && o.inScratch

theorem tScratch_spec {o : Operand} (h : tScratch o = true) : ScratchOk o := by
  simp only [tScratch, Bool.and_eq_true, decide_eq_true_eq] at h
  exact ⟨h.1.1, h.1.2, h.2⟩

/-- `SfuOk` as one check. -/
def tSfu (s : State) (op : SfuOp) (k : Nat) (g : Grant) (r : CoreRun) (q : QInstr) : Bool :=
  let o := s.operands3 g q
  let n := o.a.d.logLen (immSpan q.word)
  (!usesRecord op || decide (r.pos = 0)) && tScratch o.dst && tScratch o.a && (!usesB op q.word || tScratch o.b) && decide (o.a.d.count ≠ 0) &&
  immOk op q.word && sfuShape op q.word o && decide (n ≤ 1048576) &&
  (!decide (op = .topk) || (decide (0 < immK q.word) && decide (immK q.word ≤ 256) && decide (immK q.word ≤ n))) &&
  (!usesRecord op || (decide (recCheck (s.heldRecord g r) ≠ some .typeMismatch) && decide (recTopK (s.heldRecord g r) ≤ 1024))) &&
  (!decide (op = .treeverify) || (decide (o.b.d.dim1 ≤ 64) && !treeTableBad o.b (s.core k).scratch n))

theorem tSfu_spec {s : State} {op : SfuOp} {k : Nat} {g : Grant} {r : CoreRun} {q : QInstr} (h : tSfu s op k g r q = true) :
    SfuOk s op k g r q := by
  simp only [tSfu, Bool.and_eq_true, decide_eq_true_eq, Bool.or_eq_true, Bool.not_eq_true', decide_eq_false_iff_not] at h
  obtain ⟨⟨⟨⟨⟨⟨⟨⟨⟨⟨h1, h2⟩, h3⟩, h4⟩, h5⟩, h6⟩, h7⟩, h8⟩, h9⟩, h10⟩, h11⟩ := h
  refine ⟨fun e => h1.resolve_left (by simp [e]), tScratch_spec h2, tScratch_spec h3, fun e => tScratch_spec (h4.resolve_left (by simp [e])), h5, h6, h7,
    h8, fun e => ?_, fun e => h10.resolve_left (by simp [e]), fun e => h11.resolve_left (by simp [e])⟩
  have := h9.resolve_left (by simp [e]); exact ⟨this.1.1, this.1.2, this.2⟩

/-- `XferOk` as one check. -/
def tXferOk (s : State) (op : Nat) (x : Orphan) : Bool :=
  let l := s.xLocal x
  let r := s.xRemote x
  let f := s.xFlag x
  decide (iOp x.q.word = op) && xSpaces op l r && decide (l.d.count ≠ 0) && sameDims l.d r.d &&
  (if op = 4 then atomicOk (xAux x) l r else xFormats l r) && (l.aligned && r.aligned) && (decide (s.inSpace x l = none) && decide (s.inSpace x r = none)) &&
  (s.targetUp x l && s.targetUp x r) &&
  (!decide (op = 2) || (flagOk f && f.aligned && decide (s.inSpace x f = none) && s.targetUp x f)) && !writesProtected (s.xDst x)

theorem tXferOk_spec {s : State} {op : Nat} {x : Orphan} (h : tXferOk s op x = true) : XferOk s op x := by
  simp only [tXferOk, Bool.and_eq_true, decide_eq_true_eq, Bool.or_eq_true, Bool.not_eq_true', decide_eq_false_iff_not] at h
  obtain ⟨⟨⟨⟨⟨⟨⟨⟨⟨h1, h2⟩, h3⟩, h4⟩, h5⟩, h6⟩, h7⟩, h8⟩, h9⟩, h10⟩ := h
  refine ⟨h1, h2, h3, h4, h5, h6, h7, h8, fun e => ?_, h10⟩
  have := h9.resolve_left (by simp [e]); exact ⟨this.1.1.1, this.1.1.2, this.1.2, this.2⟩

/-- `XferFree` as one check. -/
def tXferFree (s : State) (r : CoreRun) (g : Grant) (k u : Nat) (q : QInstr) : Bool :=
  !s.flagsWait r g k u q && (!decide ((s.xRemote (xferOf g k q)).d.space = 5) || !s.queueHolds g k (r.active u) q) &&
  !s.xferStuck (s.peek (xferOf g k q)) && !s.dykeWaits (xferOf g k q) && !s.onceWaits g k (r.active u) q

theorem tXferFree_spec {s : State} {r : CoreRun} {g : Grant} {k u : Nat} {q : QInstr} (h : tXferFree s r g k u q = true) :
    XferFree s r g k u q := by
  simp only [tXferFree, Bool.and_eq_true, decide_eq_true_eq, Bool.or_eq_true, Bool.not_eq_true', decide_eq_false_iff_not] at h
  obtain ⟨⟨⟨⟨h1, h2⟩, h3⟩, h4⟩, h5⟩ := h
  exact ⟨h1, fun e => h2.resolve_left (by simp [e]), h3, h4, h5⟩

/-- A module in service whose host port 0 is Up with the words ws as entry 0 of its ledger queue and vs of its staging queue. -/
def tQueued (ws vs : List Nat) : State :=
  let words := (ws.zipIdx.map (fun x => (0x2000 + x.2, x.1))) ++ (vs.zipIdx.map (fun x => (0x2800 + x.2, x.1)))
  let q : Port := { st := .up, ledgerQ := { tail := if ws = [] then 0 else 1 }, stagingQ := { tail := if vs = [] then 0 else 1 }, bar0 := words.filter (fun e => decide (e.2 ≠ 0)) }
  { State.reset with dict := [(okey 0x9200 0, 1)], ports := [(0, q)] }

/-- A request of opcode op with `n` lines for byte 256 of the scratch of enabled core 0 of die 0, and its payload. -/
def tPacket (op n aux : Nat) (payload : List Byte) : Packet :=
  Packet.sealed { opcode := op, epoch := 0, compressed := false, lines := n, channel := channelOf op, retry := false, multicast := false, dest := 0, source := 0x123456, seq := 9, claim := 0, tail := 0, rsv2 := 0, address := 256, status := 0, space := 1, phase := 0, counted := false, storeIndex := 0, storeCount := 0, aux := aux, rsv3 := 0, payload := payload, crc := 0, rsvT := 0, via := .port 0 }

/-- A module that packets reach at core 0 of die 0: every region up, fabric port 0 with lanes, and endpoint 0. -/
def tFabric : State :=
  { State.reset with
    cores := [(0, { number := some 0, mode := .inService, scratch := [(256, 5)] })]
    dies := [(0, { up := true })]
    regions := (List.range 12).map (fun x => (x, { st := .up }))
    xports := [(0, { lanes := 1 })] }

/-- `Arrived` as one check, but for the CRC, which a sealed packet holds. -/
def tArrived (s : State) (p : Packet) : Bool :=
  !s.frozen && s.viaUp p.via && !p.viaPair && decide (endpointOf p.dest = s.endpoint) && decide (p.channel = channelOf p.opcode) && wellForm p

theorem tArrived_spec {s : State} {p : Packet} (h : tArrived s p.sealed = true) : Arrived s p.sealed := by
  simp only [tArrived, Bool.and_eq_true, decide_eq_true_eq, Bool.not_eq_true'] at h
  obtain ⟨⟨⟨⟨⟨h1, h2⟩, h3⟩, h5⟩, h6⟩, h7⟩ := h
  exact ⟨h1, h2, h3, p.crcOk_sealed, h5, h6, h7⟩

/-! Terms that a check of well-formedness refuses. -/

theorem test_fits : fits 255 8 = true ∧ fits 256 8 = false := by decide

/-- A well-formed packet of one line. -/
def tOk : Packet := { tPacket 1 1 0 (List.replicate 64 0) with crc := 0 }

/-- Each field of a packet one beyond its width (Table 11-2), and payloads that are no whole lines or too long. -/
theorem test_packet_wf : tOk.wf = true ∧
    [{ tOk with opcode := 2 ^ 6 }, { tOk with lines := 2 ^ 4 }, { tOk with epoch := 2 }, { tOk with channel := 4 }, { tOk with rsv2 := 2 ^ 10 },
     { tOk with rsv3 := 2 ^ 22 }, { tOk with crc := 2 ^ 32 }, { tOk with rsvT := 2 ^ 32 }, { tOk with dest := 2 ^ 24 }, { tOk with source := 2 ^ 24 },
     { tOk with seq := 2 ^ 32 }, { tOk with claim := 2 ^ 32 }, { tOk with tail := 2 ^ 6 }, { tOk with address := 2 ^ 48 },
     { tOk with status := 2 ^ 8 }, { tOk with space := 2 ^ 4 }, { tOk with phase := 2 ^ 2 }, { tOk with storeIndex := 2 ^ 10 },
     { tOk with storeCount := 2 ^ 11 }, { tOk with aux := 2 ^ 6 }, { tOk with payload := [0] },
     { tOk with payload := List.replicate 576 0 }].all (fun p => !p.wf) = true := by decide +kernel

/-- A HELLO of reset values. -/
def tHello : Hello := { claim := 0, priority := 0, serial := 0, role := 0, begun := false, frameLength := 480, anchorFrame := 0, anchorTick := 0, digest := 0, ready := false, opened := [], unsynced := [], led := [] }

theorem test_hello_wf : tHello.wf = true ∧
    [{ tHello with claim := 2 ^ 32 }, { tHello with priority := 2 ^ 8 }, { tHello with role := 2 ^ 3 },
     { tHello with frameLength := 2 ^ 16 }, { tHello with anchorFrame := 2 ^ 64 }, { tHello with anchorTick := 2 ^ 64 },
     { tHello with digest := 2 ^ 64 }, { tHello with opened := [2 ^ 14] }, { tHello with unsynced := [2 ^ 14] }, { tHello with led := [2 ^ 14] }].all
      (fun h => !h.wf) = true := by decide +kernel

theorem test_prickCopy_wf :
    ({ frame := 1, slot := 7, repeatable := false, entries := [(1, 2)] } : PrickCopy).wf = true ∧
    [({ frame := 2 ^ 64, slot := 0, repeatable := false, entries := [] } : PrickCopy),
     { frame := 0, slot := 8, repeatable := false, entries := [] },
     { frame := 0, slot := 0, repeatable := false, entries := [(2 ^ 64, 0)] },
     { frame := 0, slot := 0, repeatable := false, entries := [(0, 2 ^ 64)] }].all (fun c => !c.wf) = true := by decide +kernel

theorem test_prickCopy_long :
    ({ frame := 0, slot := 0, repeatable := false, entries := List.replicate 32769 (0, 0) } : PrickCopy).wf = false := by
  simp [PrickCopy.wf, -List.reduceReplicate]

/-- A copied stream context with a record of one page. -/
def tCopy : StreamCopy := { stream := 7, home := 0, owner := 0, failover := false, reportSteps := false, outSize := 0, ringQ0 := 0, ringQ1 := 0, f0 := 0, emitted := 0, inHead := 0, inSeq := 0, inTick := 0, state := List.replicate 4096 0, granules := [] }

theorem test_streamCopy_long : { tCopy with state := List.replicate 4097 0 }.wf = false ∧
    { tCopy with state := List.replicate 69632 0 }.wf = false ∧ tCopy.wf = true := by
  simp [StreamCopy.wf, tCopy, fits, -List.reduceReplicate]

theorem test_streamCopy_wf :
    [{ tCopy with stream := 2 ^ 14 }, { tCopy with home := 8 }, { tCopy with owner := 2 }, { tCopy with ringQ0 := 64 },
     { tCopy with ringQ1 := 64 }, { tCopy with f0 := 2 ^ 64 }, { tCopy with emitted := 2 ^ 64 }, { tCopy with inHead := 2 ^ 64 },
     { tCopy with inSeq := 2 ^ 32 }, { tCopy with inTick := 2 ^ 64 }, { tCopy with state := [] }].all (fun c => !c.wf) = true := by
  decide +kernel

theorem test_readings_wf : ({} : Readings).wf = true ∧
    [({ sensors := List.replicate 537 0 } : Readings), { dimms := List.replicate 17 (0, 0) }, { package := List.replicate 5 0 },
     { dieWatts := List.replicate 9 0 }, { rails := List.replicate 32 0 }, { taps := List.replicate 17 0 },
     { shares := List.replicate 17 (0, 0) }].all (fun r => !r.wf) = true := by decide +kernel

/-- A bring-up of all steps that meets no failure. -/
def tBring : BringUp := { upTo := 13, fusesOk := true, railsOk := true, revisions := [], unlisted := [], modules := [], polderFail := [], chanFail := [], light := true, taps := [], pathFail := [], katFail := [] }

theorem test_bringUp_wf : tBring.wf = true ∧ { tBring with upTo := 14 }.wf = false ∧
    { tBring with revisions := List.replicate 13 0 }.wf = false := by decide

theorem test_regTarget_wf : (RegTarget.bar0 0 8 0).wf = true ∧ (RegTarget.bar0 0 4 0).wf = false ∧ (RegTarget.bar4 0 4 0).wf = false ∧
    (RegTarget.object 0 0 (List.replicate 513 0)).wf = false := by decide +kernel

theorem test_dapFrame_wf : dapFrameWf (List.replicate 24 0) = true ∧ dapFrameWf (List.replicate 23 0) = false ∧
    dapFrameWf (List.replicate 1281 0) = false := by decide +kernel

theorem test_rowError_wf : RowError.wf { row := 0, group := 63, bits := [71] } = true ∧ RowError.wf { row := 0, group := 64, bits := [] } = false ∧
    RowError.wf { row := 0, group := 0, bits := [72] } = false := by decide

/-- A packet that no field check passes. -/
def tBadPacket : Packet := { tOk with opcode := 64 }

/-- For every command with a check, a term that its check refuses. -/
theorem test_wellFormed_refuses_1 :
    [Instr.bringUp { tBring with upTo := 14 }, .ptpCorrelationRecord 0 (2 ^ 64) 0 0, .mediaReferenceSourceWrite 256,
     .frameLengthWrite 65536, .dieOperatingPointWrite 0 256, .rowin 0 0 [{ row := 0, group := 64, bits := [] }],
     .rowout 0 0 [{ row := 0, group := 64, bits := [] }], .rowinX 0 0 [{ row := 0, group := 64, bits := [] }],
     .rowoutX 0 0 [{ row := 0, group := 64, bits := [] }], .get 0 0 0 [{ unit := 0, line := 2 ^ 32, parts := 1, flips := 1 }],
     .patrolScrub 0 0 [{ unit := 0, line := 2 ^ 32, parts := 1, flips := 1 }], .ledgerQueueDoorbell 0 (2 ^ 64),
     .stagingQueueDoorbell 0 (2 ^ 64), .dykeGuestPacket 0 tBadPacket, .dykeWindowWrite 0 0 (2 ^ 64),
     .housekeepingRound { shares := List.replicate 17 (0, 0) }, .ringSelect 0 65536, .read tBadPacket [],
     .read tOk [{ unit := 0, line := 2 ^ 32, parts := 1, flips := 1 }]].all (fun i => !wellFormed i) = true := by decide +kernel

theorem test_wellFormed_refuses_2 :
    ([Instr.write, .flag, .invalidate, .probe, .readresp, .writeack, .flagack, .atomicresp, .triggerresp, .invalack, .proberesp,
      .add32, .add64, .swap32, .swap64, .cas32, .cas64, .umax32, .umax64, .umin32, .umin64, .or32, .or64, .and32, .and64, .ping,
      .raiseFence, .flushLineCache, .hostProcedure].map (fun f => f tBadPacket)).all (fun i => !wellFormed i) = true := by decide +kernel

theorem test_wellFormed_refuses_3 :
    [Instr.responseTimeout 4096 0, .responseTimeout 0 (2 ^ 32), .busyResend 4096 0, .busyResend 0 (2 ^ 32), .flagEntryTimeout 0 (2 ^ 24) 0,
     .claimFenceWrite 0 (2 ^ 32), .lineCacheFlush 256, .pairLinkUp 65536, .hello { tHello with role := 8 },
     .pricking { frame := 0, slot := 8, repeatable := false, entries := [] }, .resync { tCopy with owner := 2 }, .claim (2 ^ 32),
     .prickingSlotWrite 0 0 65540 0, .dapRead 0 [], .dapWrite 0 [], .dapReadrecord 0 [], .dapOpen 0 [], .dapAuth 0 [], .dapClose 0 [],
     .dapWatch 0 [], .accessKeyWrite 0 1 256, .accessKeyWrite 0 0 (2 ^ 4096), .restoreDefaults (2 ^ 32), .registerWrite (.bar0 0 4 0),
     .thermalTripClear 256, .recoveryLength (2 ^ 32), .recoveryOffset (2 ^ 32), .recoveryPiece [], .recoveryVerify 256,
     .challenge 0 0 false [], .getMeasurements 0 0 false [], .dieBist 256, .traceControlWrite (2 ^ 64), .traceCopy 256,
     .dumpTriggerWrite 0 0 (2 ^ 64)].all (fun i => !wellFormed i) = true := by decide +kernel

/-! The spec's worked examples and code points. -/

/-- Section 0.4, the example under R17: 0x0000_0010 is newer than 0xFFFF_FFF0, 0x7FFF_FFF0 is not. -/
theorem test_sequence_order : newer32 0x10 0xFFFFFFF0 = true ∧ newer32 0x7FFFFFF0 0xFFFFFFF0 = false := by decide

/-- Section 4.2, the example under R149: a block with 500.0 and 300.0 gets the scale 0x7F, the codes 0x7E and 0x79, and
ConvSaturated. -/
theorem test_mx_block :
    toMxBlock .e4m3 fmtE4M3 (Fp.ofInt 500 :: Fp.ofInt 300 :: List.replicate 30 (Fp.ofInt 0)) =
      (0x7F, 0x7E :: 0x79 :: List.replicate 30 0, flagConvSaturated) := by decide +kernel

/-- Table 4-6: the KV4 block of 2.75, −1.0, 0.5, 0.125, −2.0, 1.25 and ten zeros, which sets no flag. -/
theorem test_kv4_block :
    toKvBlock true ([.fin false 11 (-2), .fin true 1 0, .fin false 1 (-1), .fin false 1 (-3), .fin true 2 0, .fin false 5 (-2)] ++
      List.replicate 10 (Fp.ofInt 0)) = (0x2F, [7, 0xC, 2, 1, 0xE, 5] ++ List.replicate 10 0, 0) := by decide +kernel

/-- Table 4-6: element 0 decodes to 2.8125. -/
theorem test_kv4_decode : Fp.eqNum (fromKv true 0x2F 7).1 (.fin false 45 (-4)) = true := by decide

/-- Table 6-8: the mask rows of the eight-node tree. -/
theorem test_tree_mask : treeMasks [0, 0, 0, 1, 1, 2, 3, 4] = [1, 3, 5, 0xB, 0x13, 0x25, 0x4B, 0x93] := by decide

/-- Section 5.15: the word 0x30C0_0310_0020_0800 is MMA4 with a wait on pin 0 for 1, an increment of pin 2, DescA 0 and
DescB 1, and it is a well-formed instruction. -/
theorem test_mma4_word :
    let w := 0x30C0031000200800
    iClass w = 3 ∧ iOp w = 1 ∧ iWaitValid w = true ∧ iWaitPin w = 0 ∧ iWaitCount w = 1 ∧ iIncValid w = true ∧ iIncPin w = 2 ∧
      bits w 32 27 = 0 ∧ bits w 26 21 = 1 ∧ bits w 11 11 = 1 ∧ instrOk w 5 = true := by decide

/-- The same word, from its stored bytes 00 08 20 00 10 03 C0 30. -/
theorem test_mma4_bytes : rdLe (wrBytes [] 64 [0x00, 0x08, 0x20, 0x00, 0x10, 0x03, 0xC0, 0x30]) 64 8 = 0x30C0031000200800 := by decide

/-- Section 7.6: the entry 0xA090_0000_0010_1234 is Valid, Placement 1, Pinned, Accessed, Unit 1 and Frame 0x0_1234, with
Write, Fabric and Guest 0; address 0x0000_2A37_8C40 has the ledger index 0x2A37. -/
theorem test_ledger_entry :
    let e := 0xA090000000101234
    eValid e = true ∧ ePlacement e = 1 ∧ ePinned e = true ∧ eAccessed e = true ∧ eUnit e = 1 ∧ eFrame e = 0x1234 ∧
      eWrite e = false ∧ eFabric e = false ∧ eGuest e = false ∧ ledgerIndex false 0x2A378C40 = 0x2A37 := by decide

/-- Section 13.10: in a ring of four slots, index 6 is slot 2 of pass 1, with Generation 1 and Phase 1, and index 8 returns to slot 0
with Generation 2 and Phase 0. -/
theorem test_ring_slots :
    let r : Ring := { enable := true, slotCount := 4, slotSize := 256, producer := 6, consumer := 6 }
    let x := Tbl.get {} (r.write 1 [1, 2]).slots 2
    let y := Tbl.get {} (((r.write 1 []).write 1 []).write 1 []).slots 0
    x.gen = 1 ∧ x.phase = 1 ∧ x.kind = 1 ∧ x.status = 0 ∧ x.content = [1, 2] ∧ (r.write 1 []).producer = 7 ∧ y.gen = 2 ∧ y.phase = 0 := by
  decide

/-- Section 14.9: the frame that writes 1 to `0x6201:00` in session 7, with RequestId 5. -/
theorem test_dictionary_frame :
    let f : List Byte := leBytes 8 0x0101020000000007 ++ leBytes 8 0x0000000562010000 ++ leBytes 8 0x0001000000000000 ++ [1]
    fVersion f = 1 ∧ fType f = 1 ∧ fOpcode f = 2 ∧ fSession f = 7 ∧ fRequest f = 5 ∧ fIndex f = 0x6201 ∧ fSub f = 0 ∧ fLength f = 1 ∧
      fPayload f = [1] := by decide

/-- Section 2.7: entry 6 of the example pricking, in words of Table 2-6 order, is read back as it was written. -/
theorem test_pricking_entry :
    let e : PEntry := { stream := 0x123, die := 2, cls := 0, rsv := 0, pattern := 0x52, firstStep := 30, stepCount := 4, start := 0, deadline := 440, cores := 2, after := some 5 }
    pentryOf e.words.1 e.words.2 = e := by decide

/-! Single steps. -/

/-- A media tick counts once the first frame has begun (R15, R67). -/
theorem test_media_tick :
    (match exec .mediaTick { State.reset with tb := { started := true, begun := true, st := .freeRun, active := 5, count := 41 } } with
     | .next t => decide (t.tb.count = 42)
     | _ => false) = true := by decide

/-- A step takes the command in front and leaves the rest (log entry 7). -/
theorem test_step_takes_front :
    (match step { State.reset with pending := [.acquireTimeout, .frameBoundary] } with
     | .next t => decide (t.pending = [.frameBoundary])
     | _ => false) = true := by decide

/-- An empty queue idles (log entry 7). -/
theorem test_step_idles : step State.reset = .next State.reset := rfl

/-- IADD adds into its index register (Table 5-7): I2 := I1 + 5. -/
theorem test_index_register_zero : setIreg [] 0 7 = [] ∧ ireg (setIreg [] 3 7) 3 = 7 ∧ ireg (setIreg [] 3 (2 ^ 32 + 1)) 3 = 1 := by decide

/-! A concrete state and operands for the hypotheses of every obligation. -/

theorem test_meets_ReferenceEdgesDriveTheCount :
    ∃ s : State, s.tb.started = true ∧ Tbl.rising s.dict = true ∧ Tbl.rising s.tb.src = true ∧ s.tb.st = .locked ∧ s.tb.active = 2 ∧ s.tb.begun = true ∧
      s.tb.phase = 0 ∧ s.tb.steer = 0 ∧ s.tb.count % 48000 = 47999 ∧ (10 ^ 13 < 479424 * 20858364 ∨ 480576 * 20858364 < 10 ^ 13) ∧
      (479424 * 20858363 ≤ 10 ^ 13 ∧ 10 ^ 13 ≤ 480576 * 20858363) :=
  ⟨{ State.reset with tb := { started := true, st := .locked, active := 2, begun := true, count := 47999 } }, by decide⟩

theorem test_meets_SourceChangesKeepTheCount :
    (let s : State := { State.reset with tb := { started := true, ptpRec := [(1, 10 ^ 9)] } }
     999999999 < Tbl.get 0 (Tbl.put 0 s.tb.ptpRec 2 0) 1 % 2 ^ 32) ∧
    (let s : State := { State.reset with tb := { started := true, ptpRec := [(5, 999999999)] } }
     s.tb.started = true ∧ Tbl.rising s.tb.src = true ∧ Tbl.get 0 (Tbl.put 0 s.tb.ptpRec 6 1) 5 % 2 ^ 32 ≤ 999999999 ∧ s.reg (okey 0x2010 0) = 0) ∧
    (let s : State := { State.reset with tb := { started := true, st := .locked, active := 1, src := [(1, { count := 4800, good := true })] } }
     s.tb.st = .locked ∧ s.tb.active = 0 + 1 ∧ Tbl.rising s.dict = true ∧
       ({ s.tb with src := Tbl.put {} s.tb.src 1 {} } : Timebase).best 0 = none) ∧
    (let s : State := { State.reset with tb := { started := true, st := .locked, active := 2, src := [(1, { count := 4800, good := true }), (2, { count := 3, good := true })] } }
     s.tb.st = .locked ∧ s.tb.active = 1 + 1 ∧ s.reg (okey 0x2010 0) = 0 ∧ (s.tb.source 1).good = true ∧
       ({ s.tb with src := Tbl.put {} s.tb.src 2 {} } : Timebase).best 0 = some 1) ∧
    (let s : State := { State.reset with tb := { started := true } }
     s.tb.st = .acquiring ∧ ({ s.tb with st := .locked, active := 4 } : Timebase).active = 4 - 0 ∧ Tbl.rising s.dict = true ∧ ({ s with tb := { s.tb with st := .holdover } } : State).tb.st = .holdover) := by
  decide

theorem test_meets_ReferenceAndFrameLengthWrites :
    (5 < 6 ∧ 5 ≤ 5) ∧ Tbl.rising State.reset.dict = true ∧ Tbl.rising State.reset.nv = true ∧
    (∃ v, 96 ≤ v ∧ v ≤ 4800 ∧ 48000 % v = 0) ∧ (95 < 96 ∧ 48000 % 97 ≠ 0) ∧
    (let a : Accepted := { frame := 3, slot := 0, repeatable := false, frameLength := 480, entries := [] }
     let s : State := { State.reset with prick := { accepted := [a] } }
     a ∈ s.prick.accepted ∧ s.tb.frame < a.frame) ∧
    ((∀ a ∈ State.reset.prick.accepted, a.frame ≤ State.reset.tb.frame) ∧
      ∀ a, State.reset.prick.fixed = some a → a.frame ≤ State.reset.tb.frame) := by
  refine ⟨by decide, by decide, by decide, ⟨96, by decide⟩, by decide, by decide, ?_, ?_⟩
  · intro a h; cases h
  · intro a h; cases h

theorem test_meets_FrameNumberCountsBoundaries :
    (let s : State := { State.reset with tb := { started := true, st := .freeRun, active := 5, left := true } }
     s.tb.left = true ∧ s.tb.begun = false ∧ s.pair.waits = false ∧ s.pair.follow = none ∧ s.tb.active ≠ 3 ∧ s.tb.active ≠ 4) ∧
    (let s : State := { State.reset with tb := { started := true, st := .locked, active := 2, left := true, ppsNow := true } }
     s.tb.left = true ∧ s.tb.begun = false ∧ s.pair.waits = false ∧ s.pair.follow = none ∧ s.tb.ppsNow = true) ∧
    (let s : State := { State.reset with tb := { started := true, st := .holdover, active := 4, left := true } }
     s.tb.left = true ∧ s.tb.begun = false ∧ s.pair.waits = false ∧ s.pair.follow = none ∧ s.tb.active = 3 + 1) ∧
    (let s : State := { State.reset with tb := { left := true }, pair := { follow := some (7, 48000, 480) } }
     s.tb.left = true ∧ s.tb.begun = false ∧ s.pair.waits = false ∧ s.pair.follow = some (7, 48000, 480)) ∧
    (let s : State := { State.reset with tb := { begun := true, count := 480 } }
     s.tb.begun = true ∧ Tbl.rising s.tb.anchors = true ∧ s.tb.frameStart + s.tb.frameLength ≤ s.tb.count ∧ s.reachesSite siteH = true ∧ s.reachesSite 0 = false) ∧
    (let s : State := { State.reset with tb := { begun := true, count := 479 } }
     s.tb.count < s.tb.frameStart + s.tb.frameLength) := by decide

theorem test_meets_PrickingFixRepeatsOnlyWhatItMay :
    let a : Accepted := { frame := 4, slot := 1, repeatable := true, frameLength := 480, entries := [] }
    let p : Prickings := { fixed := some a, repeats := 2, accepted := [{ a with frame := 6 }] }
    p.accepted.find? (fun b => decide (b.frame = 5 + 1)) = some { a with frame := 6 } ∧
    ((∀ b ∈ p.accepted, b.frame ≠ 4 + 1) ∧ p.fixed = some a ∧ a.frame = 4 ∧ a.repeatable = true ∧ p.repeats < 3 ∧ a.frameLength = 480) ∧
    (∀ x, p.fixed = some x → x.frame ≠ 4 ∨ x.repeatable = false ∨ 2 ≤ p.repeats ∨ x.frameLength ≠ 480) := by
  refine ⟨by decide, by decide, ?_⟩
  intro x h; cases h; decide

theorem test_meets_DoorbellJudgesAPricking :
    let p : Port := { st := .up }
    let s : State := { State.reset with ports := [(0, p), (1, p)], tb := { begun := true, frame := 5 }, prick := { mem := [(0, 7), (1, 2 ^ 16 + 1), (5, 10 * 2 ^ 24), (131072, 6), (131073, 2 ^ 16), (262144, 15), (262145, 2 ^ 16), (393217, 2 ^ 17), (524288, 7), (524289, 2 ^ 16 + 32769), (655360, 7), (655361, 2 ^ 16 + 1), (655364, 2 ^ 40), (786432, 7), (786433, 2 ^ 16 + 1)], accepted := [{ frame := 7, slot := 3, repeatable := false, frameLength := 480, entries := [] }] } }
    (s.port 0).st ≠ .down ∧ (s.port 1).st ≠ .down ∧ s.reg (okey 0xB011 0) = 0 ∧ s.reg (okey 0x3010 0) / 2 ^ 0 % 2 ≠ 1 ∧
    s.reg (okey 0x3010 0) / 2 ^ 0 % 2 = 0 ∧ State.reset.tb.begun = false ∧
    (bits (s.prick.word 3 1) 23 16 ≠ 1) ∧ 32768 < bits (s.prick.word 4 1) 15 0 ∧
    (s.prick.word 1 0 < s.tb.frame + 2 ∧ bits (s.prick.word 1 1) 23 16 = 1) ∧ (s.tb.frame + 9 < s.prick.word 2 0) ∧
    (bits (s.prick.word 0 1) 23 16 = 1 ∧ bits (s.prick.word 0 1) 63 32 = 0 ∧ bits (s.prick.word 0 1) 31 25 = 0 ∧ bits (s.prick.word 0 2) 31 8 = 0 ∧
      bits (s.prick.word 0 1) 15 0 = 1 ∧ s.tb.frame + 2 ≤ s.prick.word 0 0 ∧ s.prick.word 0 0 ≤ s.tb.frame + 9 ∧
      (s.prick.entriesOf 0 1).all (fun e => decide (e.rsv = 0) && decide (e.cls ≠ 3) && decide (e.start < e.deadline) && decide (e.cores ≤ 48) &&
        decide (e.deadline ≤ 1 * s.tb.frameLength) && e.after.isNone) = true) ∧
    (bits (s.prick.word 5 1) 23 16 = 1 ∧ bits (s.prick.word 5 1) 15 0 = 1 ∧ bits (s.prick.word 5 4) 44 40 ≠ 0) ∧
    (bits (s.prick.word 6 1) 23 16 = 1 ∧ bits (s.prick.word 6 1) 15 0 = 1 ∧ badEntry s.tb.frameLength (s.prick.entriesOf 6 1) = some (.typeMismatch, 0)) ∧
    Tbl.rising s.prick.ro = true := by decide

theorem test_meets_ControlInstructionsActAsTabled_issue : ∀ o ∈ [0, 1, 2, 3, 4, 5, 6, 7],
    AtIssue (tRun (o * 2 ^ 55) tPart) 0 0 0 o 0 tGrant tPart (o * 2 ^ 55) := by
  intro o h
  simp only [List.mem_cons, List.not_mem_nil, or_false] at h
  rcases h with rfl | rfl | rfl | rfl | rfl | rfl | rfl | rfl <;> constructor <;> decide +kernel

theorem test_meets_ControlInstructionsActAsTabled_iload :
    (let o := operand ((tRun 0 tPart).stepDesc 0 0 4096 2) 0
     o.d.space = 0 ∧ o.f = .uint32 ∧ o.d.count ≠ 0 ∧ o.aligned = true ∧ o.inScratch = true) ∧
    (operand ((tRun 0 tPart).stepDesc 0 0 4096 0) 0).f ≠ .uint32 ∧
    (let o := operand (descOf (0x0A * 2 ^ 55) 0 0 0) 0
     o.d.space = 0 ∧ o.f = .uint32 ∧ o.d.count = 0) := by decide +kernel

theorem test_meets_ControlInstructionsActAsTabled_end :
    (∀ i, i < 11 → tPart.queue (i + 1) = [] ∧ tPart.active (i + 1) = []) ∧ (∀ n, n < 4 → (tRun 0 tPart).dumpMatches n tGrant = false) ∧
    tPart.sfu = none ∧ tGrant.cores = [0 % 64] ∧ coreKey tGrant.die (0 % 64) = 0 ∧
    (let s : State := { tRun (2 ^ 55) tPart with entries := [tEntry] }
     s.entries.find? (fun x => decide (x.frame = tGrant.frame) && decide (x.idx = tGrant.entry)) = some tEntry ∧
       tEntry.stepCount ≤ tEntry.done + 1 ∧ (s.stream tGrant.stream).st ≠ .closed ∧ (s.stream tGrant.stream).deferred = []) ∧
    (let g := { tGrant with cores := [0, 1] }
     let s : State := { tRun (2 ^ 55) tPart with runs := [(0, some tPart), (1, some { tPart with pos := 1 })] }
     ∃ m ∈ g.cores, coreKey g.die m ≠ 0 ∧ ∃ y, s.run (coreKey g.die m) = some y ∧ y.ended = false) := by
  refine ⟨fun i _ => ⟨rfl, rfl⟩, by decide +kernel, rfl, rfl, rfl, by decide +kernel, 1, by decide +kernel, by decide +kernel, { tPart with pos := 1 }, by decide +kernel, rfl⟩

theorem test_meets_SynchronisationInstructionsStopIssue : ∀ o ∈ [0, 1, 2, 3, 4],
    AtIssue (tRun (2 ^ 60 + o * 2 ^ 55) tPart) 0 0 1 o 0 tGrant tPart (2 ^ 60 + o * 2 ^ 55) := by
  intro o h
  simp only [List.mem_cons, List.not_mem_nil, or_false] at h
  rcases h with rfl | rfl | rfl | rfl | rfl <;> constructor <;> decide +kernel

theorem test_meets_SynchronisationInstructionsStopIssue_operands :
    (Tbl.get 0 [(3, 2 ^ 32 - 1)] 3 + 0 < 2 ^ 32 ∧ 2 ^ 32 ≤ Tbl.get 0 [(3, 2 ^ 32 - 1)] 3 + 1) ∧
    ((∃ i, i < 11 ∧ bits (2 ^ 24) (24 + i) (24 + i) = 1 ∧ ({ tPart with queues := [(1, [{ idx := 0, word := 0 }])] } : CoreRun).queue (i + 1) ≠ []) ∧
      ∀ i, i < 11 → bits (2 ^ 24) (24 + i) (24 + i) = 1 → tPart.queue (i + 1) = [] ∧ tPart.active (i + 1) = []) ∧
    (let o := operand ((tRun 0 tPart).stepDesc 0 0 4096 2) 0
     o.d.space = 0 ∧ o.f = .uint32 ∧ o.aligned = true ∧ o.inScratch = true ∧ (tRun 0 tPart).run 0 = some tPart) ∧
    (operand ((tRun 0 tPart).stepDesc 0 0 4096 0) 0).f ≠ .uint32 := by
  refine ⟨by decide +kernel, ⟨⟨0, by decide +kernel, by decide +kernel, by decide +kernel⟩, fun i _ _ => ⟨rfl, rfl⟩⟩, by decide +kernel, by decide +kernel⟩

theorem test_meets_EntriesRunByTheirDies :
    let e : Entry := { tEntry with st := .pending, after := some 0, idx := 1 }
    let s : State := { tRun 0 tPart with entries := [{ tEntry with st := .committed }, e], tb := { begun := true, count := 99 } }
    (s.halted = false ∧ e ∈ s.entries ∧ e.start ≤ s.dieTick e.die ∧ predState s.entries e = some .committed ∧ e.deadline ≤ s.dieTick 0) ∧
    (s.stopped = false ∧ s.grants = [tGrant] ∧ tGrant.die = 0) ∧
    ({ s with tb := { count := 48000 } } : State).grants = [tGrant] ∧
    tGrant.tick + ({ s with tb := { count := 48000 } } : State).reg (okey 0x4310 0) ≤ ({ s with tb := { count := 48000 } } : State).dieTick 0 ∧ Tbl.rising s.runs = true := by decide +kernel

theorem test_meets_EntriesRunByTheirDies_grant :
    let e : Entry := { tEntry with st := .ready, cls := .live }
    let s : State := { tRun 0 tPart with entries := [e], runs := [], grants := [], dies := [(0, { up := true, patterns := [{ id := 3, base := 0, length := 256, steps := 1 }] })] }
    let u : State := { s with dies := [(0, { up := true })] }
    ((s.dieOf 0).up = true ∧ (s.dieOf 0).isolated = false ∧ s.halted = false ∧ s.pausedBy 4 0 = false ∧ s.readyOrder 0 = [e] ∧
      s.grantChecks e = none ∧ e.cls ≠ .bulk ∧ e.cores ≤ (s.freeCores 0).length ∧ e.die = 0 ∧ e.pattern ≠ 2 ^ 16) ∧
    (u.readyOrder 0 = [e] ∧ u.grantChecks e = some .notReady) := by decide +kernel

theorem test_meets_IssueAndCompletionMoveInstructions :
    (∀ w ∈ [2 * 2 ^ 60, 3 * 2 ^ 60 + 3 * 2 ^ 33, 6 * 2 ^ 60 + 3 * 2 ^ 33, 3 * 2 ^ 60 + 2 ^ 55],
      (tRun w tPart).running 0 0 = some (0, tGrant, tPart) ∧ tPart.pc < tGrant.codeLen ∧ (tRun w tPart).stepCode tGrant 0 = w) ∧
    (let r : CoreRun := { tPart with started := [(6, [{ idx := 0, word := 4 * 2 ^ 60 + 2 ^ 40 + 7 * 2 ^ 35 }])], pins := [(7, 65535)] }
     (tRun 0 r).running 0 0 = some (0, tGrant, r) ∧ r.active 6 = [{ idx := 0, word := 4 * 2 ^ 60 + 2 ^ 40 + 7 * 2 ^ 35 }] ∧
       iIncValid (4 * 2 ^ 60 + 2 ^ 40 + 7 * 2 ^ 35) = true ∧ 65535 ≤ Tbl.get 0 r.pins (iIncPin (4 * 2 ^ 60 + 2 ^ 40 + 7 * 2 ^ 35)) ∧
       Tbl.get 0 tPart.pins (iIncPin (4 * 2 ^ 60 + 2 ^ 40 + 7 * 2 ^ 35)) < 65535 ∧ iIncValid (4 * 2 ^ 60) = false) := by decide +kernel

theorem test_meets_RowMovesMoveTheirRows : [0, 1, 2, 3].all (fun o =>
    let w := 2 * 2 ^ 60 + o * 2 ^ 55 + (if o < 2 then 2 ^ 27 + 4095 * 2 ^ 15 else 2 ^ 23)
    let v := 2 * 2 ^ 60 + o * 2 ^ 55
    tAtHead (tRun w (tHead [1] w)) 0 0 1 2 o 0 tGrant (tHead [1] w) { idx := 0, word := w } && decide ((tHead [1] w).active 1 = []) &&
    (if o < 2 then decide (bits w 30 27 = 1 ∧ bits w 26 15 + 1 ≤ 4096) else decide (bits w 26 23 = 1 ∧ ireg [] (bits w 30 27) % 512 = 0)) &&
    tAtHead (tRun v (tHead [1] v)) 0 0 1 2 o 0 tGrant (tHead [1] v) { idx := 0, word := v } &&
    decide (bits v 30 27 = 0 ∧ bits v 26 23 = 0)) = true := by decide +kernel

theorem test_meets_RowMovesMoveTheirRows_core :
    let s := tRun 0 tPart
    (s.core 0).pause = false ∧ (s.core 0).copy = none ∧ (s.core 0).bistBank = none ∧ (s.dieOf tGrant.die).bankReset = false ∧
    (s.core 0).physRow 0 ∉ (s.core 0).poisoned ∧ (s.core 0).width = 0 ∧ (s.core 0).bankDoubles = [] ∧ (s.core 0).corrections = [] ∧
    0 ∈ ({ s.core 0 with poisoned := [0] } : PCore).poisoned := by decide +kernel

theorem test_meets_RungsOfTheLadder :
    let c : PCore := { number := some 0, mode := .inService }
    let s : State := { State.reset with cores := [(0, c), (1, { c with number := some 1, width := 1, groupsUsed := [5] }), (2, { c with copy := some (4, 4, 32), number := some 2 })] }
    ((s.core 0).mode = .inService ∧ (s.core 0).copy = none ∧ (s.core 0).dropped 63 = false ∧ 63 ∉ (s.core 0).groupsUsed ∧ (s.core 0).width = 0 ∧
      1 < s.coresInService 0 ∧ s.run 0 = none ∧ s.test.slices = []) ∧
    ((s.core 1).width ≠ 0 ∧ (s.core 1).dropped 5 = false ∧ 5 ∈ (s.core 1).groupsUsed ∧ (s.core 1).logicalOf 31 = some 31 ∧ (s.core 1).spareBanks = [32, 33]) ∧
    ((s.core 2).copy = some (4, 4, 32) ∧ (s.core 2).later = []) ∧
    (({ c with spareBanks := [] } : PCore).logicalOf 31 = some 31 ∧ ({ c with spareBanks := [] } : PCore).spareBanks = []) ∧
    ({ c with groupsUsed := [31, 32] } : PCore).groupsUsed = [31, 32] := by decide +kernel

theorem test_meets_EnginesAccumulate_mma :
    let w := 3 * 2 ^ 60 + 3 * 2 ^ 27 + 4 * 2 ^ 21
    let s := tRun w (tHead [2] w)
    let q : QInstr := { idx := 0, word := w }
    AtHead s 0 0 2 3 0 0 tGrant (tHead [2] w) q ∧ SetFree (tHead [2] w) [2] w ∧ MmaOk 32 (s.mmaOperands tGrant q).1 (s.mmaOperands tGrant q).2 := by
  refine ⟨tAtHead_spec (by decide +kernel), by unfold SetFree; decide +kernel, ?_⟩
  repeat' first | decide +kernel | constructor

theorem test_meets_EnginesAccumulate_mma4 :
    let w := 3 * 2 ^ 60 + 2 ^ 55 + 12 * 2 ^ 27 + 4 * 2 ^ 21
    let s := tRun w (tHead [2, 3, 4, 5] w)
    let q : QInstr := { idx := 0, word := w }
    AtHead s 0 0 2 3 1 0 tGrant (tHead [2, 3, 4, 5] w) q ∧ SetFree (tHead [2, 3, 4, 5] w) [2, 3, 4, 5] w ∧
    MmaOk 128 (s.mmaOperands tGrant q).1 (s.mmaOperands tGrant q).2 := by
  refine ⟨tAtHead_spec (by decide +kernel), by unfold SetFree; decide +kernel, ?_⟩
  repeat' first | decide +kernel | constructor

theorem test_meets_EnginesAccumulate_drain :
    let w := 3 * 2 ^ 60 + 2 * 2 ^ 55 + 5 * 2 ^ 27
    let v := 3 * 2 ^ 60 + 3 * 2 ^ 55 + 5 * 2 ^ 27
    AtHead (tRun w (tHead [5] w)) 0 0 5 3 2 0 tGrant (tHead [5] w) { idx := 0, word := w } ∧
    SetFree (tHead [5] w) (unitsFor 5 w) w ∧ AccOk 32 .fp32 ((tRun w (tHead [5] w)).accOperand tGrant { idx := 0, word := w }) ∧
    bits w 20 20 = 0 ∧ bits w 21 21 = 0 ∧ AtHead (tRun v (tHead [2] v)) 0 0 2 3 3 0 tGrant (tHead [2] v) { idx := 0, word := v } ∧
    SetFree (tHead [2] v) [2] v ∧ AccOk 32 .fp32 ((tRun v (tHead [2] v)).accOperand tGrant { idx := 0, word := v }) := by
  refine ⟨tAtHead_spec (by decide +kernel), by unfold SetFree; decide +kernel, ?_, by decide, by decide, tAtHead_spec (by decide +kernel),
    by unfold SetFree; decide +kernel, ?_⟩
  all_goals repeat' first | decide +kernel | constructor

theorem test_meets_EnginesAccumulate_space : (operand (descOf (2 ^ 60) 0 0 0) 0).d.space ≠ 0 ∧ (operand (descOf 0 0 0 0) 0).d.count = 0 := by decide

theorem test_meets_VectorArithmeticRoundsOnce : [0, 1, 2, 3, 4, 5].all (fun n =>
    let w := 4 * 2 ^ 60 + n * 2 ^ 55 + 2 ^ 29
    let o := (tRun w (tHead [6] w)).operands3 tGrant { idx := 0, word := w }
    tAtHead (tRun w (tHead [6] w)) 0 0 6 4 n 0 tGrant (tHead [6] w) { idx := 0, word := w } && tScratch o.dst && tScratch o.a && tScratch o.b &&
    decide (o.dst.d.count ≠ 0) && sameDims o.dst.d o.a.d && broadcastOk o.a.d o.b.d true && o.a.f.arith && o.b.f.arith && o.dst.f.plain &&
    noMix [o.a.f, o.b.f, o.dst.f]) = true := by decide +kernel

theorem test_meets_VectorArithmeticRoundsOnce_empty :
    let o := operand (descOf 0 0 0 0) 0
    o.d.space = 0 ∧ o.d.count = 0 ∧ iIncValid (4 * 2 ^ 60) = false ∧ (operand (descOf (2 * 2 ^ 60) 0 0 0) 0).d.space ≠ 0 := by decide +kernel

theorem test_meets_VectorConversionsAndRearrangements :
    [(6, 2 ^ 29), (7, 2 ^ 29), (8, 6 * 2 ^ 29), (9, 2 ^ 29), (10, 2 ^ 29 + 2 * 2 ^ 17), (11, 2 ^ 29), (12, 8 * 2 ^ 29 + 7 * 2 ^ 23), (13, 2 ^ 29)].all (fun x =>
    let w := 4 * 2 ^ 60 + x.1 * 2 ^ 55 + x.2
    let o := (tRun w (tHead [6] w)).operands3 tGrant { idx := 0, word := w }
    tAtHead (tRun w (tHead [6] w)) 0 0 6 4 x.1 0 tGrant (tHead [6] w) { idx := 0, word := w } && tScratch o.dst && tScratch o.a &&
    decide (o.dst.d.count ≠ 0)) = true := by decide +kernel

theorem test_meets_VectorConversionsAndRearrangements_forms :
    let o (x : Nat) : Operands3 := (tRun 0 tPart).operands3 tGrant { idx := 0, word := x }
    (let p := o (2 ^ 29); sameDims p.dst.d p.a.d = true ∧ p.a.f.arith = true ∧ p.dst.f.plain = true ∧ noMix [p.a.f, p.dst.f] = true ∧
      p.a.d.dim0 % 2 = 0 ∧ p.b.f = .fp32 ∧ p.b.d.dim0 = p.a.d.dim0 ∧ broadcastOk p.a.d p.b.d false = true ∧ tScratch p.b = true ∧
      noMix [p.a.f, p.b.f, p.dst.f] = true ∧ p.a.f = p.dst.f ∧ p.dst.f.isMx = false) ∧
    (let p := o (2 ^ 29 + 2 * 2 ^ 17); tScratch p.b = true ∧ p.a.f.arith = true ∧ p.dst.f.plain = true ∧ noMix [p.a.f, p.dst.f] = true ∧ p.b.f = .uint32 ∧
      p.b.d.dim0 = 1 ∧ p.b.d.dim2 = p.a.d.dim2 ∧ p.dst.d.dim0 = p.a.d.dim0 ∧ p.dst.d.dim1 = p.b.d.dim1 ∧ p.dst.d.dim2 = p.a.d.dim2 ∧
      ∀ x ∈ p.dst.d.rows, gatherIndex p [] x.1 x.2 < p.a.d.dim1) ∧
    (let p := o (8 * 2 ^ 29 + 7 * 2 ^ 23); p.a.f = .fp32 ∧ p.a.d.dim0 = 2 ∧ p.a.d.dim2 = 1 ∧ p.a.d.dim1 ≤ 64 ∧ p.dst.f = .uint32 ∧ p.dst.d.dim0 = 2 ∧
      p.dst.d.dim1 = p.a.d.dim1 ∧ p.dst.d.dim2 = 1 ∧ parentsOk (treeParents p.a []) = true ∧ tokensOk (treeTokens p.a []) = true) ∧
    (let p := o (6 * 2 ^ 29); sameDims p.dst.d p.a.d = true ∧ p.a.f = .fp32 ∧ p.dst.f.isMx = true) := by
  decide +kernel

theorem test_meets_SpecialFunctionsWriteTheirRows :
    [(SfuOp.exp, 2 ^ 29), (.recip, 2 ^ 29), (.rsqrt, 2 ^ 29), (.silu, 2 ^ 29), (.gelu, 2 ^ 29), (.softmax, 2 ^ 29), (.rmsnorm, 2 ^ 29),
      (.layernorm, 2 ^ 29), (.redsum, 9 * 2 ^ 29), (.redmax, 9 * 2 ^ 29), (.topk, 7 * 2 ^ 29 + 1)].all (fun x =>
    let w := 5 * 2 ^ 60 + x.1.code * 2 ^ 55 + x.2
    tAtHead (tRun w (tHead [7] w)) 0 0 7 5 x.1.code 0 tGrant (tHead [7] w) { idx := 0, word := w } &&
    tSfu (tRun w (tHead [7] w)) x.1 0 tGrant (tHead [7] w) { idx := 0, word := w }) = true := by decide +kernel

theorem test_meets_SamplingAdvancesTheRecord :
    [(SfuOp.sample, 10 * 2 ^ 29), (.treeverify, 11 * 2 ^ 29 + 7 * 2 ^ 17)].all (fun x =>
    let w := 5 * 2 ^ 60 + x.1.code * 2 ^ 55 + x.2
    let r := { tHead [7] w with sfu := some (initialRecord 0) }
    tAtHead (tRun w r) 0 0 7 5 x.1.code 0 tGrant r { idx := 0, word := w } && tSfu (tRun w r) x.1 0 tGrant r { idx := 0, word := w }) = true := by
  decide +kernel

theorem test_meets_SamplingAdvancesTheRecord_pos :
    let w := 5 * 2 ^ 60 + 11 * 2 ^ 55
    let r := { tHead [7] w with pos := 1 }
    AtHead (tRun w r) 0 0 7 5 11 0 tGrant r { idx := 0, word := w } ∧ r.pos ≠ 0 := ⟨tAtHead_spec (by decide +kernel), by decide⟩

theorem test_meets_TransfersStartAndAreHeldByDarkRegions :
    [(0, 13 * 2 ^ 21), (1, 13 * 2 ^ 21), (2, 13 * 2 ^ 21 + 15 * 2 ^ 7), (3, 14 * 2 ^ 21), (4, 2 * 2 ^ 27 + 15 * 2 ^ 21), (5, 16 * 2 ^ 27 + 17 * 2 ^ 21)].all (fun x =>
      let w := 6 * 2 ^ 60 + x.1 * 2 ^ 55 + x.2
      let s := tXfer w
      let q : QInstr := { idx := 0, word := w }
      let y := xferOf tGrant 0 q
      tAtHead s 0 0 8 6 x.1 0 tGrant (tHead [8] w) q && tXferFree s (tHead [8] w) tGrant 0 8 q && Tbl.rising s.stores && tXferOk s x.1 y &&
      decide ((s.xLocal y).d.space = 0 ∨ (s.xLocal y).d.space = 6) &&
      decide ((s.xRemote y).d.space = 1 ∨ (s.xRemote y).d.space = 2 ∨ (s.xRemote y).d.space = 6) && (s.xFlags y).all (fun o => decide (o.d.space ≠ 5)) &&
      (match ((started s 0 8 (tHead [8] w) q).accessBoth y).2 with | .ok p => decide (p = ([], [])) | .error _ => false)) = true := by
  decide +kernel

theorem test_meets_TransfersStartAndAreHeldByDarkRegions_refused :
    let w := 6 * 2 ^ 60 + 2 ^ 55 + 18 * 2 ^ 21
    let s := tXfer w
    let q : QInstr := { idx := 0, word := w }
    tAtHead s 0 0 8 6 1 0 tGrant (tHead [8] w) q = true ∧ tXferFree s (tHead [8] w) tGrant 0 8 q = true ∧ tXferOk s 1 (xferOf tGrant 0 q) = true ∧
    (match ((started s 0 8 (tHead [8] w) q).accessBoth (xferOf tGrant 0 q)).2 with | .ok _ => false | .error e => decide (e.1 = .accessDenied)) = true := by
  decide +kernel

theorem test_meets_TransfersLandWhole :
    ∀ x ∈ [(0, 13 * 2 ^ 21), (1, 13 * 2 ^ 21), (2, 13 * 2 ^ 21 + 15 * 2 ^ 7), (4, 2 * 2 ^ 27 + 15 * 2 ^ 21)],
    let w := 6 * 2 ^ 60 + x.1 * 2 ^ 55 + x.2
    let q : QInstr := { idx := 0, word := w }
    let r : CoreRun := { tPart with started := [(8, [q])] }
    let s : State := { tXfer w with runs := [(0, some r)] }
    let y := xferOf tGrant 0 q
    s.running 0 0 = some (0, tGrant, r) ∧ (r.active 8)[0]? = some q ∧ iClass w = 6 ∧ iOp w = x.1 ∧ s.run 0 = some r ∧ coreKey y.die y.core = 0 ∧
    s.reg (okey 0xB011 0) = 0 ∧ (s.xLocal y).d.space = 0 ∧ (s.xRemote y).d.space = 1 ∧ (s.xLocal y).f = (s.xRemote y).f ∧
    s.targetCore y y.die (s.xRemote y) = some 1 ∧ (x.1 = 2 → (s.xFlag y).d.space = 1 ∧ s.targetCore y y.die (s.xFlag y) = some 1 ∧
      (s.xFlag y).runs = [((s.xFlag y).eb, 4)]) ∧ iIncValid w = false ∧
    (x.1 = 4 → (s.xRemote y).runs = [((s.xRemote y).eb, atomicWidth (bits w 12 7))]) ∧ s.queueHolds tGrant 0 [] q = false ∧ Tbl.rising s.dies = true := by
  intro n h
  simp only [List.mem_cons, List.not_mem_nil, or_false] at h
  rcases h with rfl | rfl | rfl | rfl <;> decide +kernel

theorem test_meets_TransfersLandWhole_orphan :
    let x : Orphan := { die := 0, core := 0, stream := 7, base := 0, descOff := 4096, q := { idx := 0, word := 6 * 2 ^ 60, held := true } }
    let s : State := { tRun 0 tPart with orphans := [x] }
    s.stopped = false ∧ s.physOf 0 0 = some 0 ∧ s.orphans = [x] ∧ bits x.q.word 34 33 = 0 ∧ x.q.held = true := by decide +kernel

theorem test_meets_OperatingPointsChangeSafely :
    (Tbl.rising State.reset.dict = true ∧ Tbl.rising State.reset.nv = true) ∧
    (let s : State := { State.reset with dies := [(0, { up := true, point := 2 })] }
     (s.dieOf 0).up = true ∧ s.tripped 0 = false ∧ s.pointNext 0 < (s.dieOf 0).point ∧ (s.dieOf 1).point ≤ s.pointNext 1) ∧
    (let s : State := { State.reset with dies := [(0, { up := true, point := 2, ramp := some 0 })] }
     (s.dieOf 0).ramp ≠ none) ∧
    (let c : Change := { time := 32000, what := .point 0 0 }
     let s : State := { State.reset with dies := [(0, { up := true, point := 2, settled := true, vcore := 800 })], pw := { changes := [c] } }
     firstChange s.pw.changes = some c ∧ (s.dieOf 0).up = true ∧ s.tripped 0 = false ∧
       ¬ (0 < (s.dieOf 0).point ∧ ((s.dieOf 0).settled = false ∨ (s.dieOf 0).vcore < voltage 0))) ∧
    (let c : Change := { time := 32000, what := .point 0 0 }
     let s : State := { State.reset with dies := [(0, { up := true, point := 2, settled := false })], pw := { changes := [c] } }
     firstChange s.pw.changes = some c ∧ (s.dieOf 0).up = true ∧ s.tripped 0 = false ∧ 0 < (s.dieOf 0).point ∧ (s.dieOf 0).settled = false) ∧
    (let c : Change := { time := 32000, what := .stop }
     let s : State := { State.reset with pw := { changes := [c] }, test := { freeze := .stopping } }
     firstChange s.pw.changes = some c ∧ s.test.freeze = .stopping ∧ Tbl.rising s.dict = true) := by
  decide +kernel

theorem test_meets_PatternsLoadWholeAndUnloadAtABoundary :
    (let s : State := { State.reset with dict := [(okey 0x4300 5, Status.busy.code)] }
     s.reg (okey 0x4300 5) = Status.busy.code) ∧
    (State.reset.reg (okey 0x4300 5) ≠ Status.busy.code ∧ Tbl.rising State.reset.dict = true ∧ Tbl.rising State.reset.stores = true) ∧
    (let s : State := { State.reset with patCmd := some { mask := 3, status := 0, image := [0, 0, 0, 0, 0, 0, 7, 0] }, dict := [] }
     Tbl.rising s.dict = true ∧ bits 3 1 1 = 1 ∧ bits 3 2 2 = 0) ∧
    (let p : Pattern := { id := 7, base := 2 ^ 36, length := 1, steps := 1, old := true }
     let s : State := { State.reset with dies := [(0, { patterns := [p] })], stores := [(0, { mem := [(2 ^ 36, 5)] })], dict := [(okey 0x4300 1, 1), (okey 0x4300 6, 7)] }
     Tbl.rising s.dict = true ∧ Tbl.rising s.dies = true ∧ Tbl.rising s.stores = true ∧ p ∈ (s.dieOf 0).patterns ∧ p.old = true ∧
       s.stores.all (fun e => Memory.wf e.2.mem) = true ∧ Memory.wf s.hostMem = true ∧ s.grants = [] ∧ (s.dieOf 1).holds 7 = false ∧
       ({ s.dieOf 0 with patterns := [{ p with old := false }] } : Die).holds 7 = true) ∧
    (let s : State := { State.reset with patCmd := some { mask := 3, status := Status.typeMismatch.code, image := [] } }
     Tbl.rising s.dict = true ∧ Status.typeMismatch.code ≠ 0) := by
  decide +kernel

theorem test_meets_LedgerCommandsChangeEveryReplica :
    [(1, 2 ^ 58 + 6145), (3, 0), (4, 6146), (5, 0), (2, 0)].all (fun x =>
      let ws := [x.1 * 2 ^ 56 + (if x.1 = 5 then 0 else 1), 0, x.2, 0]
      let s : State := { tQueued ws [] with ledger := if x.1 = 1 then [] else (List.range 8).map (fun d => (d * 2 ^ 25, 2 ^ 63 + 2 ^ 36 + 6145)) }
      (match s.ledgerNext with | some y => decide (y.1 = 0 ∧ y.2.2.2 = ws) | none => false) && decide (lOpcode ws = x.1) &&
      Tbl.rising s.ledger && decide (s.ledgerCheck ws = none) && decide (s.migs = []) && decide (s.recentMoves.length + 64 ≤ s.reg (okey 0x5041 0)) &&
      (if x.1 = 5 then s.ownedBy (bits (ws.getD 1 0) 13 0) else lIndices ws).all (fun k => !s.replicaBad k)) = true := by
  decide +kernel

theorem test_meets_LedgerCommandsChangeEveryReplica_refused :
    let ws := [2 * 2 ^ 56 + 1, 0, 0, 0]
    let s := tQueued ws []
    (match s.ledgerNext with | some y => decide (y.1 = 0 ∧ y.2.2.2 = ws) | none => false) = true ∧ Tbl.rising s.ledger = true ∧
      s.ledgerCheck ws = some .accessDenied := by
  decide +kernel

theorem test_meets_LedgerCommandsChangeEveryReplica_poisoned :
    let ws := [2 ^ 56 + 1, 0, 2 ^ 58 + 6145, 0]
    let s : State := { tQueued ws [] with stores := [(1, { poison := [0] })] }
    (match s.ledgerNext with | some y => decide (y.1 = 0 ∧ y.2.2.2 = ws) | none => false) = true ∧ Tbl.rising s.ledger = true ∧
      s.ledgerCheck ws = none ∧ ∃ k ∈ lIndices ws, s.replicaBad k = true := by
  decide +kernel

theorem test_meets_LedgerQueuesCompleteInOrder :
    ((tQueued [] []).port 0).st ≠ .down ∧ ((tQueued [] []).port 1).st = .down ∧
    (let c : LedgerCmd := { port := 0, entry := 0, words := [2 ^ 57, 0, 0, 0], status := some 0, ring := some 1 }
     let s : State := { tQueued [] [] with ledgerCmd := some c, ports := [(0, { st := .up, rings := [(1, { enable := true, slotSize := 64, slotCount := 16, reserved := 1 })] })] }
     s.stopped = false ∧ s.ledgerCmd = some c ∧ c.gone = false ∧ s.migs = [] ∧ ((s.port 0).ring 1).enable = true ∧ (s.port 0).st = .up ∧
       ({ c with gone := true } : LedgerCmd).gone = true ∧ ({ c with status := none } : LedgerCmd).status = none) := by
  decide +kernel

theorem test_meets_MigrationsMoveGranulesWhole :
    [1, 2, 3, 4, 5, 0, 6].all (fun n =>
      let m : Migration := { index := 7, owner := .command 0, oldUnit := 0, oldFrame := 6145, newUnit := 1, newFrame := 6146, phase := max n 1 }
      let s : State := { State.reset with
        regions := if n = 0 ∨ n = 6 then [] else (List.range 12).map (fun x => (x, { st := .up })), ledger := [(7, 2 ^ 63 + 2 ^ 54 + 6145)], migs := [m], halted := true }
      decide (s.migs.find? (fun x => decide (x.index = 7)) = some m) && !s.stopped &&
      (s.migUnits m).all (fun p => !s.pausedBy 5 p.1 && !s.pausedBy 5 p.2 && decide (((s.migRecopy m).store p.2).poison.length < 4096)) &&
      decide (s.migDark m = decide (n = 0 ∨ n = 6)) && decide (s.migUnits m = [(0, 1)]) &&
      (List.range 16).all (fun c => decide ((s.chan c).st ≠ .draining)) && (List.range 32).all (fun w => decide ((s.store w).due = [])) &&
      Tbl.rising s.ledger && Tbl.rising s.dict && s.ledgerCmd.isNone && Tbl.rising s.stores && Memory.wf s.hostMem && decide (s.stores = [])) = true := by
  decide +kernel

theorem test_meets_MemoryUpkeepKeepsData :
    (State.reset.store 3).out = false ∧ State.reset.pausedBy 5 3 = false ∧ Tbl.rising State.reset.dict = true ∧ Tbl.rising State.reset.stores = true ∧
    (State.reset.store 3).poison.length < 4095 ∧ State.reset.reg (okey 0x5030 0) ≠ 0 ∧ State.reset.reg (okey 0x9200 0) < 3 ∧
    3 ≤ ({ State.reset with dict := [(okey 0x9200 0, 3)] } : State).reg (okey 0x9200 0) ∧
    (let s : State := { State.reset with dict := Tbl.put (dictDflt (okey 0x5030 0)) [] (okey 0x5030 0) 0 }
     s.reg (okey 0x5030 0) = 0) ∧
    (let s : State := { State.reset with chans := [(2, { st := .draining })] }
     (s.chan 2).st = .draining) := by
  decide +kernel

theorem test_meets_ChannelsMoveThroughTheirStates :
    [ChanSt.empty, .discovering, .training, .inService, .draining, .drained, .refused, .failed].all (fun st =>
      let s : State := { State.reset with chans := [(4, { st := st })], sec := { State.reset.sec with runs := [(8 * 16 + 4, 1)] } }
      decide ((s.chan 4).st = st) && Tbl.rising s.chans && Tbl.rising s.dict && !s.pausedBy 8 4 && s.hasImage 8 4) = true ∧
    State.reset.reg (okey 0x5110 1) = 0 ∧
    (let s : State := { State.reset with dict := [(okey 0x5110 1, 16)] }
     s.reg (okey 0x5110 1) = 16) ∧
    (∃ d : Spd, d.crcOk = true ∧ d.rdimm = true ∧ d.modules = 1 ∧ d.subchannels = 2 ∧ d.subchannelBits = 40 ∧ d.dramWidth = 8 ∧ d.ranks = 2 ∧ d.stack = 4 ∧ d.capacity = 256 ∧ d.rate = 6400) := by
  refine ⟨by decide +kernel, by decide +kernel, by decide +kernel, ?_⟩
  exact ⟨{ crcOk := true, rdimm := true, modules := 1, subchannels := 2, subchannelBits := 40, dramWidth := 8, ranks := 2, stack := 4, capacity := 256, rate := 6400, serial := 1 }, by decide⟩

theorem test_meets_DrainsEmptyAChannel :
    (let s : State := { State.reset with dict := [(okey 0x5110 1, 3)], chans := [(3, { st := .inService, capacity := 16 }), (4, { st := .draining })] }
     s.reg (okey 0x5110 1) = 3 ∧ (s.chan 3).st = .inService ∧ s.granulesOn 3 = [] ∧ Tbl.rising s.dict = true ∧ (s.chan 4).st = .draining ∧
       s.granulesOn 4 = [] ∧ s.stagingTouches 4 = false ∧ (∀ d, d < 16 → d ≠ 4 → (s.chan d).st ≠ .draining) ∧ (s.chan 5).st ≠ .draining) ∧
    (let s : State := { State.reset with dict := [(okey 0x5110 1, 3)], chans := [(3, { st := .inService, capacity := 16 })], ledger := [(2 ^ 24, 2 ^ 63 + 2 * 2 ^ 61 + 3 * 2 ^ 20 + 4)] }
     s.granulesOn 3 ≠ [] ∧ s.reg (okey 0x5110 1) = 3 ∧ (s.chan 3).st = .inService ∧
       (((List.range 16).filter (fun d => decide (d ≠ 3) && decide ((s.chan d).st = .inService))).map s.freeFrames).sum < (s.granulesOn 3).length) ∧
    (let s : State := { State.reset with dict := [(okey 0x5110 1, 16)] }
     s.reg (okey 0x5110 1) = 16) := by
  decide +kernel

theorem test_meets_StagingCopiesAfterItsChecks :
    [1, 2].all (fun n =>
      let ws := [n * 2 ^ 56 + 1, 0, 2 ^ 16, 0, 0, 0]
      let s := tQueued [] ws
      (match s.stagingNext with | some y => decide (y.1 = 0 ∧ y.2.2.2 = ws) | none => false) && decide (gOpcode ws = n)) = true ∧
    (let c : StageCmd := { port := 0, entry := 0, words := [2 ^ 56 + 1, 0, 0, 0, 0, 0], status := some 9 }
     let s : State := { State.reset with staging := [c] }
     (∀ d, d < 16 → (s.chan d).st ≠ .draining) ∧ s.stopped = false ∧ s.staging[0]? = some c ∧ c.gone = false ∧ ({ c with gone := true } : StageCmd).gone = true) ∧
    (let f (u n : Nat) : List (Nat × Nat) := [(u, n)]
     let c : StageCmd := { port := 0, entry := 0, words := [2 ^ 56 + 1, 0, 0, 0, 0, 0], map := [(f 18 4, [f 0 7000, f 2 7000, f 4 7000, f 6 7000])], gone := true, flight := [0] }
     let s : State := { State.reset with staging := [c], chans := [(2, { st := .inService })], regions := (List.range 12).map (fun x => (x, { st := .up })) }
     s.staging[0]? = some c ∧ s.stageDark c = false ∧ s.stageWaits c = false ∧ (stageLanded 0 c s.staging).isSome = true ∧ s.stageServes c = true ∧ ((s.stageMoves c).flatMap (fun m => m.2)).Nodup ∧
       (s.stageMoves c).all (fun m => decide (m.1.1 = 18) && m.2.all (fun d => decide (d.1 < 16) && decide (d.2 % 65536 = 0))) = true ∧
       s.stores = [] ∧ gCount c.words = 1 ∧ Tbl.rising s.dict = true ∧ Memory.wf s.hostMem = true ∧ ({ s with regions := [] } : State).stageDark c = true ∧
       stageLanded 0 { c with todo := [1] } [{ c with todo := [1] }, { c with flight := List.replicate 64 0 }] = none) := by
  decide +kernel

theorem test_meets_LeasesAreAskedGrantedAndConfirmed :
    (let s : State := { State.reset with
       regions := (List.range 12).map (fun x => (x, { st := .up })), lasers := [(0, { st := .supplying }), (1, { st := .supplying })],
       lanes := [(3, { tx := .leased, txPeer := 1, rx := .idle })], dies := [(0, { siteWeights := [(1, 7)] })] }
     brideExists 0 1 = true ∧ s.pathUp 0 1 = true ∧ (dieAt 0).isSome = true ∧ 1 ∈ rowMates 0 ∧ s.bothLasers = true ∧ Tbl.rising s.lanes = true ∧
       (s.lane 0 3).tx = .leased ∧ (s.lane 0 3).txPeer = 1 ∧ dieAt 0 = some 0 ∧ Tbl.get 0 (s.dieOf 0).siteWeights 1 = 7 ∧ dieAt 4 = none ∧ 4 ≠ siteH) ∧
    (let s : State := { State.reset with
       regions := (List.range 12).map (fun x => (x, { st := .up }))
       lanes := [(3, { tx := .idle, offers := [(1, 5), (2, 5)] }), (4, { tx := .leased, txPeer := 1 }), (100, { rx := .leased, rxPeer := 0, revoked := true })] }
     (s.lane 0 3).offers ≠ [] ∧ s.freeTx 0 3 = true ∧ Tbl.rising s.lanes = true ∧ chooseOffer 0 [(2, 5), (1, 5)] = some 1 ∧
       (s.lane 0 4).tx = .leased ∧ 1 ∈ s.receiversOf 0 4 ∧ (s.lane 1 4).revoked = true) ∧
    (let s : State := { State.reset with
       regions := (List.range 12).map (fun x => (x, { st := .up }))
       lanes := [(3, { tx := .idle, confirmed := some 1, rx := .idle }), (99, { rx := .idle, granted := some 0 }), (100, { rx := .idle, granted := some 16 })] }
     Tbl.rising s.lanes = true ∧ (s.lane 1 3).granted = some 0 ∧ (s.lane 0 3).confirmed = some 1 ∧ (s.lane 1 4).granted = some 16 ∧ (s.lane 0 5).granted = none ∧
       s.pathUp 0 1 = true) ∧
    (let l : Lane := { tx := .idle, confirmed := some 1 }
     (∀ b, (({ State.reset with lanes := [(3, l)] } : State).lane b 3).cal = 0) ∧ Tbl.rising [(3, l), (99, { rxNext := some 0, rx := .idle })] = true ∧
     (({ State.reset with lanes := [(3, l), (99, { rxNext := some 0, rx := .idle })] } : State).lane 1 3).rxNext = some 0) := by
  refine ⟨by decide +kernel, by decide +kernel, by decide +kernel, ?_, by decide, by decide +kernel⟩
  intro b
  simp only [State.lane, Tbl.get]
  split
  · rfl
  · split <;> rfl

theorem test_meets_IdentityWordsFindBadPaths :
    (let w : BitVec 64 := (0x0010660000000000 : BitVec 64) ||| (crc8Ident 0x0010660000000000).setWidth 64
     let s : State := { State.reset with lanes := [(3, { tx := .leased, txPeer := 1 }), (99, { rx := .leased, rxPeer := 0 })] }
     (crc8Ident (0x1 : BitVec 64) == (0x1 : BitVec 64).setWidth 8) = false ∧ (s.lane 0 3).rxPeer = 0xF ∧ (crc8Ident w == w.setWidth 8) = true ∧
       (s.lane 1 3).rxPeer = 0 ∧ Tbl.rising s.lanes = true ∧ Tbl.rising s.dict = true) ∧
    (let s : State := { State.reset with
       identReports := [(1, 3, 3 * 2 ^ 45 + 4 * 2 ^ 41)], lanes := [(99, { rx := .leased, rxPeer := 0 })] }
     bits (3 * 2 ^ 45 + 4 * 2 ^ 41) 44 41 ≠ bits (3 * 2 ^ 45 + 4 * 2 ^ 41) 51 45 % 16 ∧ (s.mring (ringKey 0 6)).st ≠ .notFitted ∧
       (s.mring (ringKey 0 6)).st ≠ .out ∧ (s.lane 1 3).rxPeer < 12 ∧ brideExists (s.lane 1 3).rxPeer 1 = true ∧
       bits (3 * 2 ^ 45 + 3 * 2 ^ 41) 44 41 = bits (3 * 2 ^ 45 + 3 * 2 ^ 41) 51 45 % 16 ∧ bits (3 * 2 ^ 45 + 3 * 2 ^ 41) 51 45 = 3 ∧ (s.pathOf 0 1 3).st = 0 ∧
       (s.mring (dropRing 0 1 3)).st = .parked) ∧
    (let s : State := { State.reset with
       paths := [(pathKey 0 1 3, { st := 1 })], rings := [(6, { st := .locked }), (1560, { st := .locked })]
       regions := (List.range 12).map (fun x => (x, { st := .up })) }
     brideExists 0 1 = true ∧ (∀ x ∈ pathRegions 0 1, s.pausedBy 6 x = false) ∧ Tbl.rising s.paths = true ∧ Tbl.rising s.lanes = true ∧ s.canTrain 0 1 = true ∧ (s.pathOf 0 1 3).st = 1 ∧
       (∀ k ∈ pathRings 0 1 3, (s.mring k).st = .locked)) := by
  decide +kernel

theorem test_meets_LaserModulesRampAndFail :
    ([LaserSt.absent, .seated, .rampUp, .supplying, .flagged, .rampDown, .removable, .failed].all (fun a =>
      [LaserSt.supplying, .failed].all (fun b =>
        let s : State := { State.reset with lasers := [(0, { st := a, seat := true }), (1, { st := b, seat := true })] }
        decide ((s.laser 0).st = a) && decide ((s.laser 1).st = b) && (s.laser 0).seat && Tbl.rising s.lasers && Tbl.rising s.lanes && Tbl.rising s.dict &&
        decide (s.ramping = decide (a = .rampUp ∨ a = .rampDown)))) = true) ∧
    (let s : State := { State.reset with regions := [(3, { st := .dark })] }
     (s.region 3).st = .dark ∧ (s.region 3).isolated = false ∧ (s.region 3).tripped = false ∧ (s.region 3).barred = false ∧ (s.region 4).st = .parked) := by
  decide +kernel

theorem test_meets_RegionsGoDarkAndReturn :
    [RegionSt.parked, .up, .noticed, .reset, .locking, .dark].all (fun st =>
      [0, 4, 12].all (fun x =>
        let s : State := { State.reset with dict := if x = 0 then [] else [(okey 0x6020 1, x)], regions := [(0, { st := st })], thermals := [(16, { trip := .pending, rest := 20000 })], rings := [] }
        decide (s.reg (okey 0x6020 1) = x) && decide ((s.region 0).st = st) && !(s.region 0).tripped && !(s.region 0).barred && Tbl.rising s.dict &&
        Tbl.rising s.regions && s.pathsTried 1 && decide ((s.thermal 16).trip = .pending) && decide (restartRounds ≤ (s.thermal 16).rest) && decide (0 ≠ siteH) && (siteRings 0).all (fun k => decide ((s.mring k).st = .parked)))) = true := by
  decide +kernel

theorem test_meets_RingsLockAndAreFoundLost :
    (let r : MicroRing := { heater := 8000 }
     r.rate = 0 ∧ r.heater ≤ 16383 ∧ 0 < r.step 300 7 ∧ r.step 300 7 < 16383 ∧ 0 < r.step (-500) 7 ∧ r.step (-500) 7 < 16383) ∧
    [RingSt.locked, .sweeping, .parked].all (fun st => [true, false].all (fun o =>
      let s : State := { State.reset with rings := [(6, { st := st, heater := 8000, outside := o })], lanes := [(3, { tx := .relocking })] }
      decide ((s.mring (ringKey 0 6)).st = st) && decide ((s.mring 6).outside = o) && Tbl.rising s.dict && Tbl.rising s.paths && decide (slotKind 6 = 0) &&
      decide (slotLane 6 = 3) && decide ((s.lane 0 3).tx = .relocking) && (pathsOfRing 6).any (fun p => decide ((s.pathOf p.1 p.2 3).st = 0)) &&
      (pathsOfRing 6).all (fun p =>
        decide ((({ s with paths := (List.range 12).map (fun b => (pathKey 0 b 3, { st := 1, fails := [0, 1] })) } : State).pathOf p.1 p.2 3).st = 1)) &&
      decide ((({ s with lanes := [(3, { tx := .leased, txPeer := 1, txGroup := 0 })] } : State).lane 0 3).tx = .leased))) = true := by
  decide +kernel

theorem test_meets_CalibrationSetsTrimsLaneByLane :
    ([LaneSt.idle, .standing, .leased].all (fun tx => [0, 2].all (fun c =>
      let s : State := { State.reset with
        dict := [(okey 0x6203 1, 0)], regions := (List.range 12).map (fun x => (x, { st := .up })), lanes := [(3, { tx := tx, calDue := true, cal := c, calFails := [0] })] }
      (s.lane 0 3).calDue && (List.range 3).all (fun m => !(s.lane 0 m).calDue) && decide ((s.region 0).st = .up) && (s.calFree 0 3) && decide ((s.lane 0 3).cal = c) &&
      decide ((s.lane 0 3).tx = tx) && (peersOf 0).all (fun b => s.pathUp 0 b && !(s.calBlocked 0 b)) && Tbl.rising s.paths && !(s.laneSlice 0 3) && decide (bestEye [(1, 2, 3)] = some (1, 2)) && Tbl.rising s.dict &&
      Tbl.rising s.rings && Tbl.rising s.lanes && (s.lane 0 3).calFails.any (fun x => decide (s.tb.count < x + 28800000)) && !(s.region 0).calRun &&
      decide (s.reg (okey 0x6203 1) = 0))) = true) ∧
    [0, 5, 12].all (fun x =>
      let s : State := { State.reset with dict := if x = 0 then [] else [(okey 0x6203 1, x)], regions := [(5, { st := .dark })] }
      decide (s.reg (okey 0x6203 1) = x) && decide ((s.region 0).st = .parked) && decide ((s.region 5).st ≠ .up)) = true := by
  decide +kernel

theorem test_meets_HousekeepingTripsAndReports :
    (let s : State := { State.reset with
       dict := [(keyBootState, 13 * 2 ^ 24)], dies := [(2, { up := true })], sensors := [(100, { reading := 900, values := [900] }), (390, { reading := 896, values := [896] })] }
     s.powerState ≠ 5 ∧ bits (s.reg keyBootState) 27 24 ≠ 0 ∧ Tbl.rising s.dict = true ∧ Tbl.rising s.sensors = true ∧ Tbl.rising s.dies = true ∧
       100 ∈ dieSensors 2 ∧ 390 ∈ hubSensors ∧ (s.dieOf 2).up = true ∧ (s.dieOf 2).sideOut = false ∧ (s.thermal 2).trip = .none ∧ (s.sensor 100).suspect = false ∧ (s.sensor 100).off = 0 ∧
       (s.sensor 100).values ≠ [] ∧ 896 ≤ (s.sensor 100).reading ∧ 896 ≤ ([] : List Int).getD 100 (s.sensor 100).reading ∧ (s.sensor 390).values ≠ [] ∧
       896 ≤ (s.sensor 390).reading) ∧
    bits (State.reset.reg keyBootState) 27 24 = 0 ∧
    (let s : State := { State.reset with thermals := [(0, { trip := .latched }), (1, { trip := .pending, rest := 20000 })] }
     s.tb.begun = false ∧ restartRounds ≤ (s.thermal 1).rest ∧ dieAt 0 = some 0 ∧ (s.thermal 0).trip = .latched ∧ (s.thermal 1).trip = .pending ∧ (s.thermal 0).trip ≠ .pending ∧ dieAt 11 = some 7 ∧
       (s.thermal 7).trip ≠ .latched ∧ dieAt 5 = none) ∧
    (let x : Sensor := { reading := 100, off := 7 }
     3 ≤ ([0, 0, 0] : List Int).length ∧ x.suspect = false ∧ ({ x with suspect := true } : Sensor).suspect = true) := by
  decide +kernel

theorem test_meets_ReferenceClockHoldsAndReturns :
    Tbl.rising State.reset.dict = true ∧ State.reset.pw.primary = false ∧ State.reset.pw.secondary = false ∧ State.reset.powerState ≠ 5 ∧
    State.reset.pw.skew = [] ∧ State.reset.pw.osc = (0 : Fin 2).val ∧ State.reset.pw.osc ≠ (1 : Fin 2).val ∧
    ({ State.reset with pw := { primary := true } } : State).pw.primary = true := by
  decide +kernel

theorem test_meets_FaultsAndBringUpFollowTheirOrder :
    State.reset.powerState = 0 ∧ State.reset.powerState ≠ 5 ∧ State.reset.recovering = false ∧ State.reset.test.testMode = false ∧
    ([1, 4, 5, 7, 8, 9, 10, 12].all (fun n =>
      let s : State := { State.reset with dict := [(keyBootState, n * 2 ^ 24)], regions := [(5, { st := .locking }), (6, { st := .locking })] }
      decide (s.powerState = 0) && !s.recovering && decide (s.bringAt = n) && Tbl.rising s.dict && Tbl.rising s.cores && Tbl.rising s.dies &&
      decide ((s.region siteH).st = .locking) && decide ((s.laser 0).st = .absent) && decide ((s.laser 1).st = .absent))) = true ∧
    ((({ State.reset with lasers := [(0, { seat := true })] } : State).laser 0).seat = true) ∧
    (let s : State := { State.reset with dict := [(keyPower, 5)], pw := { fault := .input } }
     s.powerState = 5 ∧ s.pw.fault = .input ∧ s.pw.fault ≠ .hubTrip ∧ ({ s with pw := { fault := .hubTrip } } : State).pw.fault = .hubTrip) ∧
    (({ State.reset with lasers := [(0, { st := .supplying })] } : State).laser 0).st = .supplying := by
  decide +kernel

theorem test_meets_RetentionKeepsTheMemories :
    ([0, 1, 2, 3, 4].all (fun n =>
      let s : State := { State.reset with
        dict := if n = 0 then [] else [(keyPower, n)], halted := true, lasers := [(0, { st := .seated, seat := true })], stores := [(3, { mem := [(5, 7)] })] }
      decide (s.powerState = n) && !s.retentionBusy && Tbl.rising s.dict && Tbl.rising s.stores && Tbl.rising s.dies && Tbl.rising s.cores && s.halted &&
      decide ((s.laser 0).seat = true ∧ (s.laser 0).st = .seated) && s.unitServes 3 && !s.tb.begun && decide (s.test.freeze = .none) &&
      (List.range 12).all (fun x => decide ((s.region x).st ≠ .locking)) && decide ((s.laser 1).st ≠ .rampUp) && decide (s.migs = []) && !(s.dieOf 0).isolated)) = true ∧
    ({ State.reset with dict := [(keyPower, 1)], streams := [(7, { st := .opened })] } : State).retentionBusy = true := by
  decide +kernel

theorem test_meets_PacketsAreJudgedBeforeTheirEffect :
    let p := tPacket 1 1 0 []
    tFabric.frozen = false ∧ tFabric.viaUp p.via = true ∧ State.reset.viaUp p.via = false ∧ ({ p with tail := 1 } : Packet).crcOk = false ∧
    p.viaPair = false ∧ ({ p with via := .pair 0 } : Packet).viaPair = true ∧ endpointOf p.source = 0x123456 / 4096 ∧ p.channel = 0 ∧ knownAnswer 1 8 = false ∧
    tFabric.viaUp (.lane 0 1 3) = true ∧ (tFabric.pathOf 0 1 3).st = 0 ∧
    endpointOf p.dest = tFabric.endpoint ∧ endpointOf 4096 ≠ tFabric.endpoint ∧ linesOk 1 9 = false ∧ linesOk 0x22 1 = false ∧ linesOk 7 1 = false ∧
    tArrived tFabric p = true ∧ 1 ≤ p.opcode ∧ p.opcode ≤ 6 ∧ Tbl.rising tFabric.dict = true := by
  decide +kernel

theorem test_meets_RemoteAccessesLandOrAreRefused :
    [(1, 1, 0), (2, 1, 0), (2, 1, 1), (3, 0, 0), (3, 0, 2)].all (fun o =>
      let p : Packet := Packet.sealed { tPacket o.1 o.2.1 0 (List.replicate (64 * if o.1 = 1 then 0 else o.2.1) 7) with
        counted := decide (o.2.2 = 1), storeCount := o.2.2 }
      let n := if o.1 = 3 then 4 else packetBytes p
      let a := tFabric.admitPacket p n (decide (o.1 ≠ 1)) .fabric (if o.1 = 3 then some 0 else none)
      tArrived tFabric p && decide (p.opcode = o.1) && decide (a.1 = tFabric) && (match a.2 with | .ok x => decide (x = .scratch 0 256) | .error _ => false) &&
      !tFabric.placeLost p (.scratch 0 256) && (tFabric.holder p (.scratch 0 256)).isNone && (tFabric.readPlace p n (.scratch 0 256)).isSome &&
      (tFabric.writePlace p (p.payload.take n) (.scratch 0 256)).isSome && !tFabric.inHand p.source p.seq && !p.retry &&
      decide (tFabric.placeSite p (.scratch 0 256) = 0) && decide (tFabric.tracker (trackerOf p) p.source p.phase = none) && !tFabric.trackerFull (trackerOf p) &&
      !tFabric.cacheFull 0 && decide (tFabric.packetCore p = some (0, 256)) && unitServesSpace p &&
      decide (256 + packetBytes p ≤ scratchBytes) && (tFabric.core 0).serves && (tFabric.dieOf 0).up) = true ∧
    (let p : Packet := { tPacket 1 1 0 [] with space := 3 }
     unitServesSpace p = false ∧ (match (tFabric.admitPacket p 64 false .fabric none).2 with | .error st => decide (st = .accessDenied) | .ok _ => false) = true) ∧
    (let y : Tracker := { dest := 3, source := 9, phase := 1, flag := some { packet := tPacket 3 0 0 [], guest := false, place := .scratch 0 0 } }
     let s : State := { State.reset with trackers := [y] }
     s.tracker 3 9 1 = some y ∧ y.flag ≠ none) ∧
    dieAt 4 = none ∧ dieAt 0 = some 0 ∧ (tFabric.dieOf 0).up = true ∧ (tFabric.dieOf 0).isolated = false := by
  decide +kernel

theorem test_meets_AtomicsReturnTheOldValueOnce :
    (List.range 14).all (fun op =>
      let p := tPacket 4 1 op (List.replicate 64 7)
      let a := tFabric.admitPacket p (atomicWidth op) true .fabric (some 0)
      tArrived tFabric p && decide (p.opcode = 4) && decide (a.1 = tFabric) && (match a.2 with | .ok x => decide (x = .scratch 0 256) | .error _ => false) &&
      !tFabric.placeLost p (.scratch 0 256) && (tFabric.holder p (.scratch 0 256)).isNone && !tFabric.inHand p.source p.seq && decide (tFabric.placeSite p (.scratch 0 256) = 0) &&
      !tFabric.cacheFull 0 && (tFabric.readPlace p (atomicWidth op) (.scratch 0 256)).isSome && (tFabric.writePlace p (leBytes (atomicWidth op) 5) (.scratch 0 256)).isSome &&
      decide (tFabric.replies = []) && !p.retry && !tFabric.hubLost 0 &&
      (({ tFabric with guards := [0] } : State).guards.contains 0) && tArrived tFabric (Packet.sealed { p with aux := 14 }) && tArrived tFabric (Packet.sealed { p with retry := true })) = true ∧
    (let r : Reply := { site := 5, source := 0x123456, seq := 9, status := 3, line := [], tick := 0 }
     [r].find? (fun x => decide (x.source = 0x123456) && decide (x.seq = 9)) = some r) := by
  decide +kernel

theorem test_meets_TriggersProbesAndInvalidationsAreAnswered :
    (let q := { State.reset with dict := [(okey 0x7200 17, 1), (okey 0x7210 1, 2 ^ 15 + 0x123), (okey 0x7210 2, 2 ^ 63 + 2 ^ 16 + 6)] }
     let s : State := { tFabric with dict := q.dict, ports := [(0, { st := .up, control := 2 ^ 10, rings := [(0, { enable := true, slotSize := 128, slotCount := 16 })] })] }
     Tbl.rising s.dict = true ∧
     [(5, 1, 0), (5, 1, 1), (5, 1, 2), (5, 1, 16), (6, 1, 0), (7, 0, 0)].all (fun o =>
       let p : Packet := tPacket o.1 o.2.1 o.2.2 (List.replicate (64 * o.2.1) 0)
       tArrived s p && decide (p.opcode = o.1) && s.triggerOk p && !s.inHand p.source p.seq && !p.retry && !s.cacheFull siteH &&
       decide (s.migs = []) && decide (s.hub.fences = []) && !(s.fenceWaits (s.hub.raises + 1)) &&
       decide (bits (s.senderMask (endpointOf p.source)) 63 63 = 1) && decide (bits (State.reset.senderMask (endpointOf p.source)) 63 63 ≠ 1) &&
       decide (s.trackers = []) && decide (s.replies = []) && decide (leNat (p.payload.take 1) ≤ 15)) = true ∧
     ((s.port 0).ring 0).free ≠ 0 ∧ ((s.port 0).ring 0).lost = 0 ∧ (s.port 0).st = .up ∧ bits (s.port 0).control 10 10 = 1 ∧ s.reg (okey 0x7200 17) = 1) ∧
    tFabric.triggerOk (tPacket 5 1 1 []) = false ∧ tArrived tFabric (tPacket 5 1 1 (List.replicate 64 0)) = true ∧
    tFabric.inHand 0x123456 9 = false ∧ (tPacket 5 1 1 []).retry = false ∧
    (let r : Reply := { site := 5, source := 0x123456, seq := 9, status := 3, line := [], tick := 0 }
     [r].find? (fun x => decide (x.source = 0x123456) && decide (x.seq = 9)) = some r) := by
  decide +kernel

theorem test_meets_ResponsesSettleTheirRequests :
    let q : Request := { source := 0x800, seq := 9, dest := 0x123000, opcode := 1, address := 0, size := 64 }
    let b := { q with opcode := 5, busy := true }
    let a := { q with answer := some (0, []) }
    let with1 (r : Request) : State := { tFabric with requests := [r], dict := [(okey 0x7020 3, 4)] }
    let p : Packet := Packet.sealed { tPacket 0x21 0 0 [] with dest := 0x800 }
    tArrived (with1 q) p = true ∧ tArrived (with1 q) (Packet.sealed { p with opcode := 0x27, channel := 2, aux := 1 }) = true ∧
    tArrived (with1 q) (Packet.sealed { p with opcode := 0x25, lines := 1, payload := List.replicate 64 0 }) = true ∧ (with1 q).answerLost p = false ∧
    (with1 q).request (p.dest % 2 ^ 12) p.seq = some q ∧ (with1 b).request 0x800 9 = some b ∧ (with1 a).request 0x800 9 = some a ∧
    State.reset.request 0x800 9 = none ∧ (q.opcode + 0x20) % 64 = 0x21 ∧ (b.opcode + 0x20) % 64 = 0x25 ∧ q.answer = none ∧ b.answer = none ∧
    (with1 q).stopped = false ∧ (with1 q).reqHeld q = false ∧
    ({ with1 q with regions := [(siteF, { st := .noticed, heard := [siteH] })] } : State).reqHeld q = true ∧
    q.probes < (with1 q).reg (okey 0x7020 3) ∧ (with1 q).reg (okey 0x7020 3) ≤ ({ q with probes := 4 } : Request).probes ∧ Tbl.rising (with1 q).dict = true := by
  decide +kernel

theorem test_meets_RoutesAndGuestWindowsAreKept :
    let q : Request := { source := 0x800, seq := 9, dest := 0x123000, opcode := 1, address := 0, size := 64, epoch := 1 }
    let s : State := { tFabric with
      hub := { tFabric.hub with oldRoute := true }, requests := [q], guests := [(0, { fitted := true })], sec := { tFabric.sec with runs := [(112, 1)] }
      routes := [(7, 2 ^ 15)] }
    let x : XPort := { lanes := 1, queue := [{ input := 5, packet := tPacket 2 0 0 [] }] }
    State.reset.hub.oldRoute = false ∧ State.reset.routeLoad = none ∧ s.hub.oldRoute = true ∧ q.answer = none ∧ q.epoch = 1 - s.activeEpoch ∧
    (s.region siteF).up = true ∧ s.hasImage 7 0 = true ∧ s.pausedBy 7 0 = false ∧ State.reset.hasImage 7 0 = false ∧ (s.guest 0).fitted = true ∧
    s.exitPort 7 0 = some 0 ∧ s.portServes 0 = true ∧ bits (Tbl.get 0 s.routes 7) 15 15 = 1 ∧ (s.xport 0).queued < 2 ^ 64 ∧ x.arbitrated = some { x with turn := 5, left := 1 } ∧
    s.pathLost (siteG 0, siteH) = false ∧ (s.lane siteH 3).discards = false ∧ (s.guest 0).inDebt < s.guestShare 0 ∧ (s.guest 0).waiting = [] ∧ s.frozen = false ∧ endpointOf q.dest ≠ s.endpoint ∧
    wellForm (tPacket 1 1 0 []) = true ∧ wellForm (tPacket 1 0 0 []) = false ∧ Tbl.rising State.reset.dict = true ∧ Tbl.rising State.reset.routes = true ∧
    (List.replicate 32768 (0 : Byte)).length = 32768 := by
  decide +kernel

theorem test_meets_PairRolesFollowTheHellos :
    let h : Hello := { claim := 4, priority := 0, serial := 0, role := 2, begun := true, frameLength := 480, anchorFrame := 7, anchorTick := 99, digest := 0, ready := true, opened := [], unsynced := [], led := [] }
    let o : PairOut := { seq := 9, msg := .hello h }
    let m (op ch n : Nat) : Packet := Packet.sealed { tPacket op n 0 (List.replicate (64 * n) 0) with channel := ch, dest := pairUnit, source := pairUnit, via := .pair 0 }
    let at_ (r : Role) : State := { tFabric with pair := { role := r, lanes := 1 }, sec := { tFabric.sec with runs := [(112, 1)] } }
    let a : State := { at_ .active with dict := [(okey 0x8010 0, 9)] }
    let f : Accepted := { frame := 1, slot := 0, repeatable := false, frameLength := 480, entries := [] }
    let b : State := { at_ .standby with tb := { tFabric.tb with begun := true, count := 480 }, pair := { (at_ .standby).pair with copies := [f] } }
    (∀ op ch n, (m op ch n).crcOk = true) ∧ (at_ .joining).paired = true ∧ (at_ .joining).linkUp = true ∧ State.reset.paired = false ∧ (at_ .active).hasImage 7 0 = true ∧ (at_ .active).pausedBy 7 0 = false ∧
    ((at_ .active).region siteF).up = true ∧ (at_ .joining).first h = false ∧ a.first { h with begun := false } = true ∧ Tbl.rising a.dict = true ∧ h.claim < 2 ^ 32 - 1 ∧
    b.first h = false ∧ State.reset.pair.waits = false ∧ ({ State.reset with pair := { waits := true } } : State).pair.waits = true ∧
    ({ a with pair := { a.pair with partner := some h } } : State).takeoverReady = true ∧ a.takeoverReady = false ∧
    Tbl.rising State.reset.streams = true ∧ b.tb.frameStart + b.tb.frameLength / 2 ≤ b.tb.count ∧ b.prick.fixed = none ∧
    b.pair.copies.find? (fun a => decide (a.frame = b.tb.frame + 1)) = some f ∧
    [(2, 0, 1), (7, 2, 0), (0x22, 1, 0), (0x27, 2, 0)].all (fun x => let p := m x.1 x.2.1 x.2.2
      a.viaUp p.via && p.viaPair && wellForm p && !p.compressed && decide (endpointOf p.dest = 0) && decide (endpointOf p.source = 0) &&
      decide (p.dest % 2 ^ 12 = pairUnit) && decide (p.channel = x.2.1) && decide (p.opcode = x.1)) = true ∧
    [o].find? (fun o => decide (o.seq = 9)) = some o ∧ o.probes < 4 ∧ a.frozen = false ∧ a.stopped = false ∧ a.linkUp = true ∧
    State.reset.linkUp = false ∧ a.pair.takes = false ∧ a.pair.partner.isNone = true ∧ Tbl.rising State.reset.seqs = true := by
  refine ⟨fun _ _ _ => Packet.crcOk_sealed _, ?_⟩
  decide +kernel

theorem test_meets_CommitsChecksAndResyncsKeepThePair :
    let k : Kat := { die := 3, frame := 7, arb := true, mine := some true }
    let s : State := { tFabric with pair := { role := .standby, lanes := 1, expect := some 0, kats := [k], refused := [2] }, streams := [(7, { st := .opened, paired := true, sync := 1 })] }
    let r := commitBytes 0 0 0 0 [] []
    s.paired = true ∧ s.linkUp = true ∧ s.pair.late = false ∧ s.recordGood r 0 = true ∧ s.recordGood [] 0 = false ∧ State.reset.pair.role ≠ .standby ∧
    s.anchorGap 0 (leNat ((r.drop 8).take 8)) ≤ 2 ∧ Tbl.rising s.dict = true ∧ max s.claim s.partnerClaim < 2 ^ 32 - 1 ∧
    s.tb.frameStart + min (s.limit 0x8024) (s.tb.frameLength / 2) ≤ ({ s.tb with count := 960 } : _).count ∧
    (s.pair.missed + 1 < s.limit 0x8025 ∨ s.limit 0x8025 ≤ s.pair.missed + 1) ∧ s.pair.pinging = false ∧ s.pair.takes = false ∧
    s.pair.kats.find? (fun k => decide (k.die = 3) && decide (k.frame = 7)) = some k ∧ Tbl.rising s.streams = true ∧ s.pairedStreams = [7] ∧
    ({ s with pair := { s.pair with role := .active, kats := [{ k with mine := some false }] } } : State).pair.kats.find?
      (fun k => decide (k.die = 3) && decide (k.frame = 7)) = some { k with mine := some false } ∧
    (let g := { tGrant with pattern := katPattern, die := 3 }
     [g].find? (fun g => decide (g.die = 3) && decide (g.pattern = katPattern)) = some g) ∧
    (s.stream 7).paired = true ∧ (s.stream 7).st ≠ .closed ∧ 2 ∈ s.pair.refused ∧ 7 ∉ s.pair.refused ∧
    eValid (s.entryAt 0 (ledgerIndex false 0)) = false := by
  decide +kernel

theorem test_meets_StreamCommandsAreFetchedCheckedAndCompleted :
    let ws := [7 * 2 ^ 56, 0, 0, 0, 0, 0, 0, 0]
    let c : Taken := { sq := 0, entry := 0, words := ws, ring := some 0 }
    let b : Taken := { sq := 0, entry := 1, words := [4 * 2 ^ 56 + 7 * 2 ^ 18, 0, 0, 2 ^ 63 + 1, 0, 0, 0, 0], ring := none }
    let z : State := { State.reset with ports := [(0, { st := .up, leaving := true, taken := [b] })], streams := [(7, { st := .opened, owner := 1, deferred := [{ port := 0, sq := 0, entry := 0, words := [], data := [] }] })] }
    let q : Port := { st := .up, sqs := [(0, { enable := true, tail := 1 })], bar0 := [(524288, 7 * 2 ^ 56)] }
    let s : State := { State.reset with dict := [(okey 0x9200 0, 1)], ports := [(0, q)] }
    let u : State := { s with ports := [(0, { st := .up, taken := [c], rings := [(0, { enable := true, slotSize := 64, slotCount := 16 })] })] }
    let d : State := { s with ports := [(0, { st := .up, taken := [{ c with status := some 5 }], rings := [(0, { enable := true })] })] }
    (State.reset.port 0).st = .down ∧ (s.port 0).st ≠ .down ∧ Tbl.rising (s.port 0).sqs = true ∧ s.takes = true ∧ State.reset.takes = false ∧
    ((s.port s.sqPort).nextSq (s.frozen && decide (s.reg (okey 0x9200 0) = 1))).isSome = true ∧ s.sqPort < 2 ∧ (State.reset.port 0).nextSq false = none ∧
    u.nextCmd 0 7 = some c ∧ u.stopped = false ∧ u.sqCheck 0 c = some .ok ∧ State.reset.nextCmd 0 7 = none ∧ sqOpcode (cOpcode ws) = true ∧ sqClean ws = true ∧
    cOpcode ws ∈ [7, 8] ∧ memLength ws = 0 ∧ (d.port 0).taken.find? (fun t => t.status.isSome) = some { c with status := some 5 } ∧ Tbl.rising d.ports = true ∧
    ((d.port 0).ring 0).enable = true ∧ State.reset.tb.begun = false ∧
    z.nextCmd 0 4 = some b ∧ z.sqCheck 0 b = some .accessDenied ∧ (z.stream 7).deferred ≠ [] ∧ z.parked 0 b = false ∧ b.status = none ∧
    (z.port 0).leaving = true ∧ (s.port 0).leaving = false ∧ ({ c with range := some [] } : Taken).range ≠ none ∧
    ({ s with streams := [(7, { st := .waiting })] } : State).stream 7 = { st := .waiting } ∧ (State.reset.stream 7).st ≠ .waiting := by
  decide +kernel

theorem test_meets_StreamCommandsHaveTheirEffects :
    let w (op w2 w3 w4 : Nat) : List Nat := [op * 2 ^ 56 + 7 * 2 ^ 18, 0, w2, w3, w4, 0, 0, 0]
    let c (ws : List Nat) : Taken := { sq := 0, entry := 0, words := ws, ring := none, range := some [(0, 2 ^ 63 + 7 * 2 ^ 37 + 2 ^ 36)] }
    let e := 2 ^ 63 + 7 * 2 ^ 37 + 2 ^ 36
    let x : Stream := { st := .opened, stateSize := 1, inSize := 65536 }
    let s (ws : List Nat) (o : Bool) : State := { State.reset with
      ports := [(0, { st := .up, taken := [c ws] })]
      regions := (List.range 12).map (fun x => (x, { st := .up }))
      dies := (List.range 8).map (fun x => (x, { up := true }))
      cores := [(0, { number := some 0, mode := .inService })]
      ledger := [(0, e)]
      tb := { State.reset.tb with begun := true }
      streams := if o then [(7, x)] else [] }
    let z := { s (w 1 (2 ^ 56 + 8) 0 0) true with streams := [(7, { x with inHead := 65536 - 32 })] }
    z.nextCmd 0 1 = some (c (w 1 (2 ^ 56 + 8) 0 0)) ∧ z.sqCheck 0 (c (w 1 (2 ^ 56 + 8) 0 0)) = none ∧
    (match z.hubRange false (65536 - 32) 32, z.hubRange false 0 64 with
      | some tr, some ur => z.hubServes (tr ++ ur)
      | _, _ => false) = true ∧
    [(w 2 0 (2 ^ 48) (2 ^ 53 + 2 ^ 47), false), (w 3 0 0 0, true), (w 4 0 0 (2 ^ 63 + 1), true), (w 5 (0x100 * 2 ^ 32 + 8) 0 0, true), (w 6 8 0 0, true), (w 7 0 64 0, true), (w 8 0 64 0, true),
      (w 9 0 0 0, true), (w 1 (2 ^ 56 + 8) 0 0, true)].all (fun o =>
      let t := s o.1 o.2
      decide (t.nextCmd 0 (cOpcode o.1) = some (c o.1)) && decide (t.sqCheck 0 (c o.1) = none) && !t.stopped && !t.recordLost (c o.1) && !t.cmdWaits (c o.1) &&
      decide ((t.stream 7).deferred = []) && !t.streamRuns 7 && !(t.touch ((t.stream 7).recUnit false)).recReadBad (t.stream 7) false 0 64 &&
      !(t.touch ((t.stream 7).recUnit false)).recWriteBad (t.stream 7) false 0x100 8 &&
      (match t.hubRange false 0 64 with | some tr => t.hubServes tr && t.rangeServes tr 0 | none => false)) = true := by
  decide +kernel

theorem test_meets_HostPortsAndRingsFollowTheirStates :
    let r : Ring := { enable := true, slotCount := 16, slotSize := 64, producer := 3, holding := true }
    let at_ (x : PortSt) (r : Ring) : State := { State.reset with ports := [(0, { st := x, rings := [(0, r)] })], dict := [(okey 0x9200 0, 1), (keyBootState, 7 * 2 ^ 24)], streams := [(7, { st := .waiting })] }
    ((at_ .up r).port 0).taken = [] ∧ 12 ≤ bits (({ State.reset with dict := [(keyBootState, 12 * 2 ^ 24)] } : State).reg keyBootState) 27 24 ∧
    ((at_ .up r).port 0).st = .up ∧ (State.reset.port 0).st = .down ∧ (State.reset.port 0).perst = false ∧ ((at_ .linked r).port 0).st = .linked ∧
    (at_ .linked r).reg (okey 0x9200 0) ≠ 0 ∧ State.reset.reg (okey 0x9200 0) = 0 ∧ Tbl.rising (at_ .up r).ports = true ∧ Tbl.rising ((at_ .up r).port 0).rings = true ∧
    Tbl.rising (at_ .up r).streams = true ∧ Tbl.rising (at_ .up r).dict = true ∧ 7 ≤ bits ((at_ .up r).reg keyBootState) 27 24 ∧
    Tbl.rising ((at_ .up r).port 0).sqs = true ∧ ((at_ .up r).port 0).ring 0 = r ∧ ((at_ .up {}).port 0).ring 0 = {} ∧ ringCheck 16 64 = .ok ∧ ringCheck 3 64 = .typeMismatch ∧
    ringCheck 16384 16384 = .lengthExceeds ∧ r.lost = 0 ∧ newer32 2 (BitVec.ofNat 32 r.consumer) = true ∧ newer32 2 (BitVec.ofNat 32 r.producer) = false ∧
    newer32 0 (BitVec.ofNat 32 r.consumer) = false ∧ 0 < min ((2 + 2 ^ 32 - r.consumer) % 2 ^ 32) r.slotCount ∧ Tbl.rising r.slots = true := by
  decide +kernel

theorem test_meets_DictionaryFramesAreJudgedAndAnswered :
    let s : State := { State.reset with dict := [(okey 0x9200 0, 1), (keyBootState, 13 * 2 ^ 24)], dap := { sessions := [{ id := 5, level := 2, entry := 1, stationNonce := [], deviceNonce := [] }] } }
    let f (op session n : Nat) (p : List Byte) : List Byte := leBytes 8 (2 ^ 56 + 2 ^ 48 + op * 2 ^ 40 + session) ++ leBytes 8 (2 ^ 32 + 0x2003 * 2 ^ 16) ++ leBytes 8 (n * 2 ^ 48) ++ p
    let o := f 4 0 40 (leBytes 8 (1 + 2 ^ 8) ++ List.replicate 32 0)
    s.serves = true ∧ State.reset.serves = false ∧ (f 1 0 0 []).length = 24 + fLength (f 1 0 0 []) ∧ fOpcode (f 1 0 0 []) = 1 ∧ fVersion (f 1 0 0 []) = 1 ∧ fType (f 1 0 0 []) = 1 ∧
    fSession (f 1 0 0 []) = 0 ∧ s.recovering = false ∧ s.recentAnswers.length < 100 ∧ fRsvOk (f 1 0 0 []) = true ∧
    (match s.readCheck { level := 0 } 0x2003 0 with | .ok _ => true | .error _ => false) = true ∧
    (match s.readCheck { level := 0 } 0x2022 0 with | .ok _ => false | .error st => decide (st = .accessDenied)) = true ∧
    o.length = 24 + fLength o ∧ s.openCheck (fPayload o) = .accessDenied ∧
    ({ s with dict := [(okey 0x1100 4, 2)] } : State).openCheck (fPayload o) = .ok ∧ (f 5 5 1024 (List.replicate 1024 0)).length = 24 + 1024 ∧
    (s.session 5).isSome = true ∧ s.session 6 = none ∧ (f 2 5 2 [1, 0] ++ List.replicate 16 0).length = 24 + fLength (f 2 5 2 [1, 0]) + 16 ∧
    newer32 (BitVec.ofNat 32 1) (BitVec.ofNat 32 0) = true ∧ anyRow 0xFFFF 0 = none := by
  decide +kernel
theorem test_meets_signedFrame :
    let f := leBytes 8 (2 ^ 56 + 2 ^ 48 + 2 * 2 ^ 40 + 5) ++ leBytes 8 (2 ^ 32 + 0x8024 * 2 ^ 16) ++ leBytes 8 (2 * 2 ^ 48) ++ [9, 0] ++
      mac16 [] (leBytes 8 (2 ^ 56 + 2 ^ 48 + 2 * 2 ^ 40 + 5) ++ leBytes 8 (2 ^ 32 + 0x8024 * 2 ^ 16) ++ leBytes 8 (2 * 2 ^ 48) ++ [9, 0])
    fLength f = 2 ∧ fSession f = 5 ∧ fOpcode f = 2 ∧ fVersion f = 1 ∧ fType f = 1 ∧ fRsvOk f = true ∧ f.length = 24 + 2 + 16 ∧
      f.drop (24 + 2) = mac16 [] (f.take (24 + 2)) := by
  refine ⟨by decide +kernel, by decide +kernel, by decide +kernel, by decide +kernel, by decide +kernel, by decide +kernel, ?_, rfl⟩
  simp [mac16, leBytes]

theorem test_meets_DictionaryWritesTakeEffectByTheirObjects :
    let s : State := { State.reset with dict := [(okey 0x9200 0, 1), (okey 0xA001 0, 13 * 2 ^ 24)], ports := [(0, { st := .up, box := { request := 2 ^ 56 + 0x2003 * 2 ^ 32 } })] }
    s.serves = true ∧ State.reset.serves = false ∧ s.recovering = false ∧ s.barServes 0 = true ∧ State.reset.barServes 0 = false ∧
    (match s.writeCheck { level := 3 } 0x8024 0 2 with | .ok r => decide (r.lo ≤ 9 ∧ 9 ≤ r.hi ∧ 7 < r.lo) | .error _ => false) = true ∧
    (match s.writeCheck { level := 3 } 0x2011 0 4 with | .ok r => decide (r.access = .w1c) | .error _ => false) = true ∧
    (match s.writeCheck { level := 1 } 0x8024 0 2 with | .ok _ => false | .error st => decide (st = .accessDenied)) = true ∧
    Tbl.rising s.dict = true ∧ Tbl.rising s.nv = true ∧ s.keyLevel 1 ≤ 3 ∧ s.sec.armed = false ∧ Tbl.rising s.dap.net = true ∧ Tbl.rising s.dap.link = true ∧
    Tbl.rising (s.port 0).bar0 = true ∧ Tbl.rising (s.port 0).rings = true ∧ (s.port 0).box.busy = false ∧ bits (s.port 0).box.request 63 56 = 1 ∧
    (match s.readCheck { level := s.reg (okey 0x1210 1), bar4 := true } 0x2003 0 with | .ok _ => true | .error _ => false) = true ∧
    (s.fuse (okey 0x0101 4) % 2 ^ 32 < 2 ^ 32) := by
  decide +kernel

theorem test_meets_UpdatesStageSwitchAndCommit :
    let at_ (u : Update) : State := { tFabric with sec := { tFabric.sec with update := u, runs := [(4 * 16, 1)] }, tb := { tFabric.tb with begun := true, count := 2000000000 }, dict := [(okey 0x9200 0, 1), (okey 0xA040 1, 4), (okey 0xA040 6, 8), (okey 0xA040 9, 1)] }
    let u : Update := { ph := .staged, comp := 4, slot := 1 }
    (at_ u).updateCheck 2 = .ok ∧ (at_ u).updateCheck 4 = .ok ∧ (at_ { u with ph := .stopped }).updateCheck 5 = .ok ∧ (at_ u).updateCheck 3 = .ok ∧ (at_ {}).updateCheck 1 = .ok ∧
    (at_ { u with ph := .applying }).updateCheck 2 = .busy ∧ State.reset.updateCheck 1 ≠ .ok ∧ compOk ((at_ u).reg (okey 0xA040 1)) = true ∧ (at_ u).powerState = 1 ∧
    Tbl.rising (at_ u).sec.slots = true ∧ Tbl.rising (at_ u).sec.active = true ∧ Tbl.rising (at_ u).stores = true ∧ Tbl.rising (at_ u).dict = true ∧
    (at_ u).reg keyUpdDone = instances 4 ∧ u.last + (at_ u).reg (okey 0xA040 9) * hourTicks ≤ (at_ u).tb.count ∧ (at_ u).rollback 4 = 0 ∧ Tbl.get 0 (at_ u).sec.blown 4 < 256 ∧
    (at_ { u with ph := .applying }).toSwitch = [0, 1, 2, 3, 4, 5, 6, 7] ∧ ({ at_ { u with ph := .applying } with tb := { tFabric.tb with begun := true } } : State).sliceTime = true ∧
    (at_ u).instanceDown 4 0 = false ∧ (at_ { u with fresh := some (0, 1) }).sec.update.fresh = some (0, 1) ∧ (at_ { u with waits := true }).sec.update.waits = true ∧
    imgSecurity ((List.replicate 16 0) ++ [7]) = 7 := by
  decide +kernel

theorem test_meets_RecoveryAndAttestationAnswer :
    let s : State := { State.reset with dict := [(okey 0xA001 0, 2 * 2 ^ 28)], sec := { State.reset.sec with recLength := some 1216, recPieces := [0, 512, 1024] } }
    let q : State := { State.reset with dict := [(okey 0x9200 0, 1), (okey 0xA001 0, 13 * 2 ^ 24)], ports := [(0, { st := .linked })], sec := { State.reset.sec with spdm := [(0, 3)] } }
    State.reset.recovering = false ∧ s.recovering = true ∧ Tbl.rising s.sec.slots = true ∧ s.sec.recOffset % 512 = 0 ∧ s.sec.recOffset < 1216 ∧ (1216 + 511) / 512 ≤ s.sec.recPieces.length ∧
    (List.replicate 512 (0 : Byte)).length = 512 ∧ Tbl.rising s.dict = true ∧ q.doeServes 0 = true ∧ q.pausedBy 3 0 = false ∧ q.spdmAt 0 = 3 ∧ State.reset.doeServes 0 = false ∧
    ({ q with sec := { q.sec with update := { comp := 3, fresh := some (0, 1) } } } : State).pausedBy 3 0 = true ∧ State.reset.spdmAt 0 < 1 ∧
    Tbl.rising q.sec.transcript = true := by
  decide +kernel

theorem test_meets_SelfTestsRunAndActOnFailures :
    let r : BistUnit := .region 3 4
    let s : State := { tFabric with dict := [(okey 0x9200 0, 1)], cores := [(0, { number := some 0, mode := .inService })] }
    let w (u : BistUnit) (again : Bool) : State := { s with test := { s.test with slices := [{ unit := u, again := again }], dieTests := [2], dieCmd := some 2 } }
    s.bistReady r = true ∧ s.bistReady (.core 0 0) = true ∧ s.bistReady (.bank 0 0 3) = true ∧ State.reset.bistReady r = false ∧ s.test.clock < s.bistCycle ∧ Tbl.rising s.dict = true ∧
    (w r true).test.slices.find? (fun b => b.unit == r) = some { unit := r, again := true } ∧
    (w (.core 0 0) false).test.slices.find? (fun b => b.unit == .core 0 0) = some { unit := .core 0 0, again := false } ∧
    Tbl.rising s.test.last = true ∧ Tbl.rising s.cores = true ∧ dieAt 0 = some 0 ∧ dieAt 5 = none ∧ s.powerState = 1 ∧ 0 ∉ s.test.dieTests ∧ 2 ∈ (w r true).test.dieTests ∧
    ofDie 2 (.region 4 0) = true ∧ (w r true).bistMapped (.region 4 0) = true ∧ State.reset.test.testMode = false := by
  decide +kernel
theorem test_meets_bistOverdueFirst :
    let u : BistUnit := .region 3 4
    let s : State := { tFabric with dict := [(okey 0x9200 0, 1), (okey 0xB001 2, 1)], test := { tFabric.test with clock := 15000000, last := [(bistKey u, 10000000)] } }
    s.bistReady u = true ∧ s.bistOverdue u = false ∧ s.bistCycle ≤ s.test.clock ∧ s.bistOverdue (.region 0 0) = true ∧ s.bistReady (.region 0 0) = true ∧
    .region 0 0 ∈ bistUnits (bistKind u) := by
  decide +kernel

theorem test_meets_TraceAndFreezeKeepTheirRecords :
    let r : TraceRec := { stamp := 1, cls := 2, site := 3, unit := 4, event := 5, seq := 6, arg0 := 7, arg1 := 8 }
    let s : State := { tFabric with dict := [(okey 0x9200 0, 1), (okey 0xB010 0, 1), (okey 0xB013 2, 64)], chans := [(0, { st := .inService, traceFrames := 1 })], ledger := [(2 ^ 24, 2 ^ 63 + 2 * 2 ^ 61 + 2 ^ 58)], test := { tFabric.test with bufs := [(3, { recs := [r] })] } }
    let w (f : FreezeSt) : State := { s with test := { s.test with freeze := f, copy := some (0, 64, 0) } }
    Tbl.rising s.dict = true ∧ s.reg (okey 0xB010 0) ≠ 0 ∧ ({ s with dict := [(okey 0xB010 0, 0)] } : State).reg (okey 0xB010 0) = 0 ∧ s.traceBlocks ≠ 0 ∧ (Tbl.get {} s.test.bufs 3).recs ≠ [] ∧
    bits (s.reg (okey 0xB011 0)) 63 63 = 0 ∧ s.traceCopyCheck 1 = .ok ∧ (w .none).traceCopyCheck 1 = .busy ∧ State.reset.traceCopyCheck 1 = .ok ∧ State.reset.reg (okey 0xB013 2) = 0 ∧
    (s.hubRange true 0 64).isSome = true ∧ (State.reset.hubRange true 0 64) = none ∧ (match s.hubRange true 0 64 with | some tr => s.hubServes tr && !s.hubWaits tr true true 0 64 | none => false) = true ∧
    s.freezeCheck 1 = .ok ∧ s.freezeCheck 2 = .ok ∧ s.freezeCheck 3 = .notReady ∧ (w .frozen).freezeCheck 3 = .ok ∧ (w .draining).test.freeze = .draining ∧ (w .draining).drained = true ∧
    s.reg (okey 0xB020 2) = 0 ∧ Tbl.rising s.test.bufs = true := by
  decide +kernel

theorem test_meets_CommandsRunFromTheQueue : State.reset.pending = [] := by
  decide +kernel

theorem test_meets_StepsKeepTheStoredFormsCanonical :
    let s : State := { tFabric with pending := [.helloTimer], dict := [(okey 0x9200 0, 1)], nv := [(okey 0x8002 0, 3)], hostMem := [(5, 1)], stores := [(0, { mem := [(9, 2)] })] }
    Tbl.rising s.dict = true ∧ s.dict.all (fun e => decide (e.2 ≠ dictDflt e.1)) = true ∧ Tbl.rising s.nv = true ∧ s.nv.all (fun e => decide (e.2 ≠ dictDflt e.1)) = true ∧
    Memory.wf s.hostMem = true ∧ s.stores.all (fun e => Memory.wf e.2.mem) = true ∧ (match step s with | .next t => decide (t.pending = []) | _ => false) = true := by
  decide +kernel

theorem test_meets_StepsKeepTheTablesInOrder :
    let s : State := { tFabric with pending := [.helloTimer], streams := [(7, { st := .opened })], ports := [(0, { st := .up, rings := [(0, { slots := [(0, {})] })] })] }
    InOrder s ∧ Tbl.rising s.nv = true ∧ (match step s with | .next t => decide (t.pending = []) | _ => false) = true := by
  refine ⟨?_, by decide +kernel, by decide +kernel⟩
  constructor <;> decide +kernel

theorem test_meets_NoStepUndoesFusesSealOrCounters :
    let s : State := { tFabric with pending := [.fieldSealArm 0], sec := { tFabric.sec with sealBits := 4, counters := [(3, 2)], blown := [(3, 1)] } }
    s.isSealed = true ∧ s.fieldMap.length ≤ 65536 ∧ Tbl.rising s.sec.counters = true ∧ Tbl.rising s.sec.blown = true ∧
    (match step s with | .next t => decide (t.pending = []) | _ => false) = true := by
  decide +kernel

end Sys2Proof.Tests
end

section
/-! SUPPORT. The rules of the vector unit: what its instruction at the head of the queue does for each verdict of its checks, when the checks
of an operation pass, and what is read from the core after the effect. -/

namespace Sys2Proof

open Sys2Proof.Machine

/-! The start of a vector instruction. -/

/-- A vector instruction stands in the queue of the vector unit alone. -/
theorem AtHead.unitsFor_vector {s : State} {die : Fin 8} {core : Fin 48} {n k : Nat} {g : Grant} {r : CoreRun} {q : QInstr}
    (h : AtHead s die core 6 4 n k g r q) : unitsFor 6 q.word = [6] := by
  simp [unitsFor, allEngines, h.cls]

section

variable {s : State} {die : Fin 8} {core : Fin 48} {n k : Nat} {g : Grant} {r : CoreRun} {q : QInstr}
  {check : State → Nat → Operands3 → Chk} {run : State → Nat → Operands3 → Nat → State}

/-- A vector instruction whose checks pass starts and takes effect on its operands (R107, R199). -/
theorem vecStart_go (h : AtHead s die core 6 4 n k g r q) (hc : check s k (s.operands3 g q) = .go) :
    s.vecStart die.val core.val n check run = run (started s k 6 r q) k (s.operands3 g q) q.word := by
  rw [State.vecStart, startUnit_atHead h (by simp [h.unitsFor_vector]), hc]
  rfl

/-- A vector instruction with nothing to do completes at once (R190). -/
theorem vecStart_once (h : AtHead s die core 6 4 n k g r q) (hc : check s k (s.operands3 g q) = .once) :
    s.vecStart die.val core.val n check run = s.completeInstr k g (r.pop [6] q.word) 6 q := by
  rw [State.vecStart, startUnit_atHead h (by simp [h.unitsFor_vector]), hc, h.unitsFor_vector]
  rfl

/-- A vector instruction that fails a check faults the step and names the vector unit (R227, R231). -/
theorem vecStart_fault {b : Bad} (h : AtHead s die core 6 4 n k g r q) (hc : check s k (s.operands3 g q) = .fault b) :
    s.vecStart die.val core.val n check run = s.coreFault k g 6 q.idx b.cause b.addr := by
  rw [State.vecStart, startUnit_atHead h (by simp [h.unitsFor_vector]), hc, h.unitsFor_vector]
  rfl

end

/-! What is read after the effect. -/

/-- A core at which an instruction stands has an enabled number (R11). -/
theorem AtHead.number_ne_none {s : State} {die : Fin 8} {core : Fin 48} {u c o k : Nat} {g : Grant} {r : CoreRun} {q : QInstr}
    (h : AtHead s die core u c o k g r q) : (s.core k).number ≠ none := by
  have hr := h.runs
  unfold State.running at hr
  split at hr
  · cases hr
  · cases hp : s.physOf die core with
    | none => simp [hp] at hr
    | some m =>
      have hn : (s.core (coreKey die m)).number = some core.val := by simpa using List.find?_some hp
      have hk : coreKey die m = k := by
        simp only [hp] at hr
        split at hr
        · cases hr
        · split at hr
          · cases hr
          · simp only [Option.some.injEq, Prod.mk.injEq] at hr
            exact hr.1
      simp [← hk, hn]

/-- What a write other than of the default leaves is read back, whatever the order of the table. -/
theorem Tbl.get_put_of_ne {α : Type} [DecidableEq α] {d v : α} (h : v ≠ d) (t : Tbl α) (k : Nat) : Tbl.get d (Tbl.put d t k v) k = v := by
  simp [Tbl.put, h, Tbl.get_ins]

/-- The scratch of a core with an enabled number is what was written last. -/
theorem scratch_setScratch {t : State} {k : Nat} (h : (t.core k).number ≠ none) (m : Tbl Byte) : ((t.setScratch k m).core k).scratch = m := by
  have hd : ({ t.core k with scratch := m } : PCore) ≠ {} := fun e => h (congrArg PCore.number e)
  exact congrArg PCore.scratch (Tbl.get_put_of_ne hd t.cores k)

@[simp] theorem flagRun_core (t : State) (k fl j : Nat) : (t.flagRun k fl).core j = t.core j := by
  unfold State.flagRun; split <;> rfl

theorem started_same (s : State) (k u : Nat) (r : CoreRun) (q : QInstr) : Same [.cores, .runs] s (started s k u r q) :=
  (State.setRun_same _ _ _).mono (by decide)

/-! When the checks pass. -/

theorem Operands3.empty_eq_false {o : Operands3} (h : o.dst.d.count ≠ 0) : o.empty = false := by simp [Operands3.empty, h]

end Sys2Proof
end

section
/-! SUPPORT. ADD, SUB, MUL, FMA, MAX and MIN: their checks, their exact results, and O14. -/

namespace Sys2Proof

open Sys2Proof.Machine

/-- The six operations with two sources start as `vecBin` says. -/
theorem exec_vecBin {die : Fin 8} {core : Fin 48} {n : Nat} {i : Instr} (h : (n, i) ∈ [(0, Instr.add die core), (1, .sub die core),
    (2, .mul die core), (3, .fma die core), (4, .max die core), (5, .min die core)]) (s : State) :
    exec i s = .next (s.vecBin die.val core.val n) := by
  simp only [List.mem_cons, Prod.mk.injEq, List.not_mem_nil, or_false] at h
  rcases h with ⟨rfl, rfl⟩ | ⟨rfl, rfl⟩ | ⟨rfl, rfl⟩ | ⟨rfl, rfl⟩ | ⟨rfl, rfl⟩ | ⟨rfl, rfl⟩ <;> rfl

/-- The exact result of each operation (Table 5-9, R736). -/
theorem vecOp_eq_ite (n : Nat) (x y c : Fp) : vecOp n x y c =
    if n = 0 then Fp.add x y else if n = 1 then Fp.add x y.neg else if n = 2 then Fp.mul x y
    else if n = 3 then ((Fp.add (Fp.mul x y).1 c).1, orFlags (Fp.mul x y).2 (Fp.add (Fp.mul x y).1 c).2)
    else if n = 4 then (if x.isNan || y.isNan then .nan else if Fp.lt x y then y else x, 0)
    else (if x.isNan || y.isNan then .nan else if Fp.lt y x then y else x, 0) := by
  match n with
  | 0 | 1 | 2 | 3 | 4 | _ + 5 => rfl

/-- The operation writes its exact results, with the flags of reading and computing beside them. -/
theorem binRun_eq_written (t : State) (k n : Nat) (o : Operands3) : t.binRun k n o =
    written t k o.dst (fun i1 i2 j =>
      let m := (t.core k).scratch
      let x := o.a.value m i1 i2 j
      let y := o.b.bcast m i1 i2 j
      let c := if n = 3 then o.dst.value m i1 i2 j else (Fp.fin false 0 0, 0)
      let z := vecOp n x.1 y.1 c.1
      (z.1, orAll [x.2, y.2, c.2, z.2])) := rfl

theorem binCheck_go {o : Operands3} (hd : ScratchOk o.dst) (ha : ScratchOk o.a) (hb : ScratchOk o.b) (hn : o.dst.d.count ≠ 0)
    (hs : sameDims o.dst.d o.a.d = true) (hbc : broadcastOk o.a.d o.b.d true = true) (hfa : o.a.f.arith = true) (hfb : o.b.f.arith = true)
    (hfd : o.dst.f.plain = true) (hm : noMix [o.a.f, o.b.f, o.dst.f] = true) : binCheck o = .go :=
  vecCheck_go (by simp [hd, ha, hb]) (Operands3.empty_eq_false hn) (by simp [hs, hbc, hfa, hfb, hfd, hm]) (by simp)

theorem binCheck_space {o : Operands3} (h : o.dst.d.space ≠ 0 ∨ o.a.d.space ≠ 0 ∨ o.b.d.space ≠ 0) :
    binCheck o = .fault { cause := Status.typeMismatch.code } := by
  rcases h with h | h | h
  · exact vecCheck_space (o := o.dst) (by simp) h
  · exact vecCheck_space (o := o.a) (by simp) h
  · exact vecCheck_space (o := o.b) (by simp) h

theorem binCheck_once {o : Operands3} (hd : o.dst.d.space = 0) (ha : o.a.d.space = 0) (hb : o.b.d.space = 0) (na : o.a.d.count = 0)
    (nd : o.dst.d.count = 0) : binCheck o = .once := by
  have he : o.empty = true := by simp [Operands3.empty, na, nd]
  unfold binCheck
  rw [he]
  exact vecCheck_once (by simp [hd, ha, hb])

/-- Settles O14: the checks pass, and the effect of each operation is its exact result, rounded as it is written. -/
theorem vectorArithmeticRoundsOnce : Obligations.VectorArithmeticRoundsOnce := by
  unfold Obligations.VectorArithmeticRoundsOnce
  refine ⟨?_, ?_⟩
  · intro s die core k n i g r q o m hi h ho hd ha hb hn hs hbc hfa hfb hfd hm hscr
    subst ho hscr
    have hgo : binCheck (s.operands3 g q) = .go := binCheck_go hd ha hb hn hs hbc hfa hfb hfd hm
    rw [exec_vecBin hi, State.vecBin, vecStart_go h hgo, binRun_eq_written]
    simp only [vecOp_eq_ite]
    rfl
  · intro s die core k n i g r q o hi h ho
    subst ho
    rw [exec_vecBin hi, State.vecBin]
    refine ⟨fun hsp => ?_, fun hd ha hb na nd => ?_⟩
    · rw [vecStart_fault h (binCheck_space hsp)]
      rfl
    · rw [vecStart_once h (binCheck_once hd ha hb na nd)]

end Sys2Proof
end

section
/-! SUPPORT. ABS, CVT, TOMX, SCALE2, GATHER, ROPE, TREEMASK and COPY: when their checks pass, what each of them does then, and O15. -/

namespace Sys2Proof

open Sys2Proof.Machine

/-! When the checks pass. -/

section

variable {o : Operands3} {m : Tbl Byte}

theorem unaryCheck_go (hd : ScratchOk o.dst) (ha : ScratchOk o.a) (hn : o.dst.d.count ≠ 0) (hs : sameDims o.dst.d o.a.d = true)
    (hfa : o.a.f.arith = true) (hfd : o.dst.f.plain = true) (hm : noMix [o.a.f, o.dst.f] = true) : unaryCheck o = .go :=
  vecCheck_go (by simp [hd, ha]) (Operands3.empty_eq_false hn) (by simp [hs, hfa, hfd, hm]) (by simp)

/-- GATHER goes on when every index names a row of A (R204). -/
theorem gatherCheck_go (hd : ScratchOk o.dst) (ha : ScratchOk o.a) (hb : ScratchOk o.b) (hn : o.dst.d.count ≠ 0) (hfa : o.a.f.arith = true)
    (hfd : o.dst.f.plain = true) (hm : noMix [o.a.f, o.dst.f] = true) (hfb : o.b.f = .uint32) (b0 : o.b.d.dim0 = 1)
    (b2 : o.b.d.dim2 = o.a.d.dim2 ∨ o.b.d.dim2 = 1) (d0 : o.dst.d.dim0 = o.a.d.dim0) (d1 : o.dst.d.dim1 = o.b.d.dim1)
    (d2 : o.dst.d.dim2 = o.a.d.dim2) (hi : ∀ x ∈ o.dst.d.rows, gatherIndex o m x.1 x.2 < o.a.d.dim1) : gatherCheck o m = .go := by
  have hall : o.dst.d.rows.all (fun x => decide (gatherIndex o m x.1 x.2 < o.a.d.dim1)) = true := by
    simpa only [List.all_eq_true, decide_eq_true_eq] using hi
  unfold gatherCheck
  extract_lets c
  have hc : c = .go := vecCheck_go (by simp [hd, ha, hb]) (by simp [hn]) (by simpa [hfa, hfd, hm, hfb, b0, d0, d1, d2] using b2) (by simp)
  rw [if_neg (by simp [hall]), hc]

/-- TREEMASK goes on when its table holds a draft tree in order (R258, R259). -/
theorem treemaskCheck_go (hd : ScratchOk o.dst) (ha : ScratchOk o.a) (hn : o.dst.d.count ≠ 0) (hfa : o.a.f = .fp32) (a0 : o.a.d.dim0 = 2)
    (a2 : o.a.d.dim2 = 1) (a1 : o.a.d.dim1 ≤ 64)
    (hform : (o.dst.f = .uint32 ∧ o.dst.d.dim0 = 2) ∨ ((o.dst.f = .fp32 ∨ o.dst.f = .bf16) ∧ o.dst.d.dim0 = o.a.d.dim1))
    (d1 : o.dst.d.dim1 = o.a.d.dim1) (d2 : o.dst.d.dim2 = 1) (hp : parentsOk (treeParents o.a m) = true)
    (ht : tokensOk (treeTokens o.a m) = true) : treemaskCheck o m = .go := by
  unfold treemaskCheck
  extract_lets n form c
  have hf : form = true := by
    rcases hform with ⟨h, e⟩ | ⟨h | h, e⟩ <;> simp [form, n, h, e]
  have hc : c = .go := vecCheck_go (by simp [hd, ha]) (Operands3.empty_eq_false hn) (by simp [n, hf, hfa, a0, a2, d1, d2])
    (by simp [need, n, a1])
  rw [if_neg (by simp [hp, ht]), hc]

end

/-! What the operations compute. -/

/-- A rotated pair: the second element is x × sin + y × cos, the first x × cos − y × sin (R204). -/
theorem ropeElem_eq_ite (p : Prop) [Decidable p] (x y c d : Flagged Fp) : ropeElem (decide p) x y c d =
    if p then
      ((Fp.add (Fp.mul x.1 d.1).1 (Fp.mul y.1 c.1).1).1,
        orAll [x.2, y.2, c.2, d.2, (Fp.mul x.1 d.1).2, (Fp.mul y.1 c.1).2, (Fp.add (Fp.mul x.1 d.1).1 (Fp.mul y.1 c.1).1).2])
    else
      ((Fp.add (Fp.mul x.1 c.1).1 (Fp.mul y.1 d.1).1.neg).1,
        orAll [x.2, y.2, c.2, d.2, (Fp.mul x.1 c.1).2, (Fp.mul y.1 d.1).2, (Fp.add (Fp.mul x.1 c.1).1 (Fp.mul y.1 d.1).1.neg).2]) := by
  by_cases h : p <;> simp [ropeElem, h]

/-- The rows of a tensor written as MX blocks one after another, row (i1, i2) with the values v gives, and the flags of all (R146 to R149). -/
def putMxRows (o : Operand) (m : Tbl Byte) (v : Nat × Nat → List (Flagged Fp)) : Tbl Byte × Nat :=
  o.d.rows.foldl (fun st p =>
    let x := putMxRow o st.1 p.1 p.2 (v p)
    (x.1, orFlags st.2 x.2)) (m, 0)

/-- The flags beside it do not change what TOMX writes. -/
theorem putMxRows_fst (o : Operand) (m : Tbl Byte) (v : Nat × Nat → List (Flagged Fp)) :
    (putMxRows o m v).1 = o.d.rows.foldl (fun u p => (putMxRow o u p.1 p.2 (v p)).1) m :=
  (List.foldl_hom Prod.fst (fun _ _ => rfl)).symm

/-- The code of a mask bit in a row of TREEMASK in additive form (R259). -/
theorem maskCode_decide (f : Fmt) (p : Prop) [Decidable p] :
    maskCode f (decide p) = if p then 0 else if f = .bf16 then 0xFF80 else 0xFF800000 := by
  simp [maskCode]

/-! The instructions: what each does with scratch m as it stood at the start (log entry 20). -/

/-- The started state with new scratch differs from the state before in its core and its part of the step alone. -/
theorem setScratch_started {s : State} {die : Fin 8} {core : Fin 48} {u c n k : Nat} {g : Grant} {r : CoreRun} {q : QInstr}
    (h : AtHead s die core u c n k g r q) (m : Tbl Byte) :
    Same [.cores, .runs] s ((started s k u r q).setScratch k m) ∧ ((started s k u r q).setScratch k m).runs = (started s k u r q).runs ∧
      (((started s k u r q).setScratch k m).core k).scratch = m :=
  ⟨Same.step (State.setScratch_same _ _ _) (by decide) (started_same s k u r q), rfl, scratch_setScratch h.number_ne_none m⟩

section

variable {s : State} {die : Fin 8} {core : Fin 48} {k : Nat} {g : Grant} {r : CoreRun} {q : QInstr} {o : Operands3} {m : Tbl Byte}
  (ho : o = s.operands3 g q) (hscr : m = (s.core k).scratch) (hd : ScratchOk o.dst) (ha : ScratchOk o.a) (hn : o.dst.d.count ≠ 0)

include ho hscr

theorem exec_gather_go (h : AtHead s die core 6 4 10 k g r q) (hc : gatherCheck o m = .go) :
    exec (.gather die core) s = .next (written (started s k 6 r q) k o.dst (fun i1 i2 i => o.a.value m (gatherIndex o m i1 i2) i2 i)) := by
  subst ho hscr
  exact congrArg Host.Outcome.next (vecStart_go h hc)

theorem exec_treemask_go (h : AtHead s die core 6 4 12 k g r q) (hc : treemaskCheck o m = .go) :
    exec (.treemask die core) s = .next ((started s k 6 r q).setScratch k
      ((treeMasks ((treeParents o.a m).map (fun p => p.getD 0))).zipIdx.foldl (fun u x =>
        o.dst.putRow u x.2 0 (if o.dst.f = .uint32 then [x.1 % 2 ^ 32, x.1 / 2 ^ 32]
          else (List.range o.a.d.dim1).map (fun j => maskCode o.dst.f (decide (x.1 / 2 ^ j % 2 = 1))))) m)) := by
  subst ho hscr
  exact congrArg Host.Outcome.next (vecStart_go h hc)

include hd ha hn

theorem exec_abs_go (h : AtHead s die core 6 4 6 k g r q) (hs : sameDims o.dst.d o.a.d = true) (hfa : o.a.f.arith = true)
    (hfd : o.dst.f.plain = true) (hm : noMix [o.a.f, o.dst.f] = true) :
    exec (.abs die core) s = .next (written (started s k 6 r q) k o.dst
      (fun i1 i2 i => ((o.a.value m i1 i2 i).1.abs, (o.a.value m i1 i2 i).2))) := by
  have hc : unaryCheck o = .go := unaryCheck_go hd ha hn hs hfa hfd hm
  subst ho hscr
  exact congrArg Host.Outcome.next (vecStart_go h hc)

theorem exec_cvt_go (h : AtHead s die core 6 4 7 k g r q) (hs : sameDims o.dst.d o.a.d = true) (hfa : o.a.f.arith = true)
    (hfd : o.dst.f.plain = true) :
    exec (.cvt die core) s = .next (written (started s k 6 r q) k o.dst (fun i1 i2 i => o.a.elem m i1 i2 i) convert) := by
  subst ho hscr
  refine congrArg Host.Outcome.next (vecStart_go h ?_)
  exact vecCheck_go (by simp [hd, ha]) (Operands3.empty_eq_false hn) (by simp [hs, hfa, hfd]) (by simp)

/-- SCALE2 takes Imm as a signed number of 13 bits. -/
theorem exec_scale2_go (h : AtHead s die core 6 4 9 k g r q) (hs : sameDims o.dst.d o.a.d = true) (hfa : o.a.f.arith = true)
    (hfd : o.dst.f.plain = true) (hm : noMix [o.a.f, o.dst.f] = true) :
    exec (.scale2 die core) s = .next (written (started s k 6 r q) k o.dst
      (fun i1 i2 i => ((o.a.value m i1 i2 i).1.scale (signed 13 (fImm q.word)), (o.a.value m i1 i2 i).2))) := by
  have hc : unaryCheck o = .go := unaryCheck_go hd ha hn hs hfa hfd hm
  subst ho hscr
  exact congrArg Host.Outcome.next (vecStart_go h hc)

theorem exec_rope_go (h : AtHead s die core 6 4 11 k g r q) (hs : sameDims o.dst.d o.a.d = true) (hfa : o.a.f.arith = true)
    (hfd : o.dst.f.plain = true) (hb : ScratchOk o.b) (he : o.a.d.dim0 % 2 = 0) (hfb : o.b.f = .fp32) (b0 : o.b.d.dim0 = o.a.d.dim0)
    (hbc : broadcastOk o.a.d o.b.d false = true) (hm : noMix [o.a.f, o.b.f, o.dst.f] = true) :
    exec (.rope die core) s = .next (written (started s k 6 r q) k o.dst (fun i1 i2 i =>
      let cs (x : Nat) : Flagged Fp := o.b.value m (bIdx o.b.d.dim1 i1) (bIdx o.b.d.dim2 i2) x
      ropeElem (decide (i % 2 = 1)) (o.a.value m i1 i2 (i / 2 * 2)) (o.a.value m i1 i2 (i / 2 * 2 + 1)) (cs (i / 2 * 2))
        (cs (i / 2 * 2 + 1)))) := by
  subst ho hscr
  refine congrArg Host.Outcome.next (vecStart_go h ?_)
  refine vecCheck_go (by simp [hd, ha, hb]) (Operands3.empty_eq_false hn) ?_ (by simp)
  rw [hm]
  simp [hs, hfa, hfd, he, hfb, b0, hbc]

theorem exec_tomx_go (h : AtHead s die core 6 4 8 k g r q) (hs : sameDims o.dst.d o.a.d = true)
    (hfa : o.a.f.isMx = true ∨ o.a.f = .fp32 ∨ o.a.f = .bf16) (hfd : o.dst.f.isMx = true) :
    exec (.tomx die core) s = .next
      (let w := putMxRows o.dst m (fun p => o.a.rowVals m p.1 p.2)
       ((started s k 6 r q).setScratch k w.1).flagRun k w.2) := by
  subst ho hscr
  refine congrArg Host.Outcome.next (vecStart_go h ?_)
  exact vecCheck_go (by simp [hd, ha]) (Operands3.empty_eq_false hn) (by simpa [hs, hfd, or_assoc] using hfa) (by simp)

theorem exec_vectorCopy_go (h : AtHead s die core 6 4 13 k g r q) (hs : sameDims o.dst.d o.a.d = true) (hf : o.a.f = o.dst.f)
    (hfd : o.dst.f.isMx = false) :
    exec (.vectorCopy die core) s = .next ((started s k 6 r q).setScratch k
      (o.dst.d.rows.foldl (fun u p => wrBytes u (o.dst.row p.1 p.2) (rdBytes m (o.a.row p.1 p.2) o.a.rowLen)) m)) := by
  subst ho hscr
  refine congrArg Host.Outcome.next (vecStart_go h ?_)
  exact vecCheck_go (by simp [hd, ha]) (Operands3.empty_eq_false hn) (by simp [hs, hf, hfd]) (by simp)

end

/-- Settles O15: for each of the eight instructions the checks pass, and its effect on scratch is the one that the statement names. -/
theorem vectorConversionsAndRearrangements : Obligations.VectorConversionsAndRearrangements := by
  unfold Obligations.VectorConversionsAndRearrangements
  intro s die core k g r q o m ho hscr hd ha hn two mx
  refine ⟨?abs, ?cvt, ?scale2, ?gather, ?rope, ?tomx, ?treemask, ?copy⟩
  case abs =>
    rintro h ⟨hs, hfa, hfd⟩ hm
    exact exec_abs_go ho hscr hd ha hn h hs hfa hfd hm
  case cvt =>
    rintro h ⟨hs, hfa, hfd⟩
    exact exec_cvt_go ho hscr hd ha hn h hs hfa hfd
  case scale2 =>
    rintro h ⟨hs, hfa, hfd⟩ hm
    exact exec_scale2_go ho hscr hd ha hn h hs hfa hfd hm
  case gather =>
    intro h hb hfa hfd hm hfb b0 b2 d0 d1 d2 hi
    exact exec_gather_go ho hscr h (gatherCheck_go hd ha hb hn hfa hfd hm hfb b0 b2 d0 d1 d2 hi)
  case rope =>
    rintro h ⟨hs, hfa, hfd⟩ hb he hfb b0 hbc hm
    rw [exec_rope_go ho hscr hd ha hn h hs hfa hfd hb he hfb b0 hbc hm]
    simp only [ropeElem_eq_ite]
    rfl
  case tomx =>
    intro h hs hfa hfd
    obtain ⟨hsame, -, hscratch⟩ := setScratch_started h (putMxRows o.dst m (fun p => o.a.rowVals m p.1 p.2)).1
    refine ⟨_, exec_tomx_go ho hscr hd ha hn h hs hfa hfd, Same.step (State.flagRun_same _ _ _) (by decide) hsame, ?_⟩
    rw [flagRun_core, hscratch, putMxRows_fst]
  case treemask =>
    intro h hfa a0 a2 a1 hform d1 d2 hp ht
    have hc : treemaskCheck o m = .go := treemaskCheck_go hd ha hn hfa a0 a2 a1 hform d1 d2 hp ht
    simp only [← maskCode_decide]
    exact ⟨_, exec_treemask_go ho hscr h hc, setScratch_started h _⟩
  case copy =>
    intro h hs hf hfd
    exact ⟨_, exec_vectorCopy_go ho hscr hd ha hn h hs hf hfd, setScratch_started h _⟩

end Sys2Proof
end

section
/-! SUPPORT. The special function unit: what its instruction at the head of the queue does for each verdict of its checks, the special values of
the elementwise functions, and O16. -/

namespace Sys2Proof

open Sys2Proof.Machine

/-! The start of a special function instruction. -/

/-- A special function instruction stands in the queue of its unit alone. -/
theorem AtHead.unitsFor_special {s : State} {die : Fin 8} {core : Fin 48} {n k : Nat} {g : Grant} {r : CoreRun} {q : QInstr}
    (h : AtHead s die core 7 5 n k g r q) : unitsFor 7 q.word = [7] := by
  simp [unitsFor, allEngines, h.cls]

section

variable {s : State} {die : Fin 8} {core : Fin 48} {op : SfuOp} {k : Nat} {g : Grant} {r : CoreRun} {q : QInstr}
  {run : State → Nat → Grant → QInstr → State}

/-- A special function instruction whose checks pass starts and takes effect (R107, R206). -/
theorem exec_special_go {i : Instr} (hi : exec i s = .next (s.sfuStart die.val core.val op run)) (h : AtHead s die core 7 5 op.code k g r q)
    (hok : SfuOk s op k g r q) : exec i s = .next (run (started s k 7 r q) k g q) := by
  rw [hi, State.sfuStart, startUnit_atHead h (by simp [h.unitsFor_special]), sfuCheck_go hok]

/-- A special function instruction that fails a check faults the step and names its unit (R227, R231). -/
theorem exec_special_fault {i : Instr} (hi : exec i s = .next (s.sfuStart die.val core.val op run))
    (h : AtHead s die core 7 5 op.code k g r q) {b : Bad} (hc : s.sfuCheck op k g r q = .fault b) :
    exec i s = .next (s.coreFault k g 7 q.idx b.cause b.addr) := by
  rw [hi, State.sfuStart, startUnit_atHead h (by simp [h.unitsFor_special]), hc, h.unitsFor_special]
  rfl

/-- An operation on the sampling-state record is refused off the grant's first core (R247). -/
theorem sfuCheck_otherCore (hu : usesRecord op = true) (hp : r.pos ≠ 0) :
    s.sfuCheck op k g r q = .fault { cause := Status.typeMismatch.code } := by
  unfold State.sfuCheck
  rw [hu, decide_eq_true hp]
  rfl

end

/-! Imm as bits of the instruction word (Table 6-1). -/

theorem immSpan_eq (w : Nat) : immSpan w = decide (bits w 12 12 = 1) := by
  simp only [immSpan, fImm, bits]; congr 2; omega

theorem immK_eq (w : Nat) : immK w = bits w 8 0 := by
  simp only [immK, fImm, bits]; omega

/-- The five elementwise functions start as `sfuMap` says. -/
theorem exec_sfuMap {die : Fin 8} {core : Fin 48} {op : SfuOp} {i : Instr} (h : (op, i) ∈ [(SfuOp.exp, Instr.exp die core),
    (.recip, .recip die core), (.rsqrt, .rsqrt die core), (.silu, .silu die core), (.gelu, .gelu die core)]) (s : State) :
    exec i s = .next (s.sfuMap die.val core.val op) := by
  simp only [List.mem_cons, Prod.mk.injEq, List.not_mem_nil, or_false] at h
  rcases h with ⟨rfl, rfl⟩ | ⟨rfl, rfl⟩ | ⟨rfl, rfl⟩ | ⟨rfl, rfl⟩ | ⟨rfl, rfl⟩ <;> rfl

/-! Special values (Table 6-3): they do not depend on the free value v. -/

theorem f32_zero (s : Bool) : f32 (fmtFP32.sign s) = .fin s 0 (-149) := by cases s <;> decide

theorem f32_negOne : f32 0xBF800000 = .fin true (2 ^ 23) (-23) := by decide

theorem sfuRecip_zero (s : Bool) (v : Nat) : sfuElem .recip (f32 (fmtFP32.sign s)) v = (fmtFP32.sign s + 0x7F800000, flagInfProduced) := by
  rw [f32_zero]; rfl

theorem sfuRsqrt_zero (s : Bool) (v : Nat) : sfuElem .rsqrt (f32 (fmtFP32.sign s)) v = (fmtFP32.sign s + 0x7F800000, flagInfProduced) := by
  rw [f32_zero]; rfl

theorem sfuRsqrt_negOne (v : Nat) : sfuElem .rsqrt (f32 0xBF800000) v = (nanCode fmtFP32, flagNanProduced) := by
  rw [f32_negOne]; rfl

/-- Settles O16: each instruction passes its checks and takes the effect that its row of Table 5-10 names; the special values come from the
cases of Table 6-3 that use no free value. -/
theorem specialFunctionsWriteTheirRows : Obligations.SpecialFunctionsWriteTheirRows := by
  unfold Obligations.SpecialFunctionsWriteTheirRows
  refine ⟨?elementwise, ?rows, ?special⟩
  case elementwise =>
    intro s die core k op i g r q hi h hok
    exact exec_special_go (exec_sfuMap hi s) h hok
  case rows =>
    intro s die core k g r q
    simp only [← immK_eq]
    refine ⟨?softmax, ?rmsnorm, ?layernorm, ?redsum, ?redmax, ?topk⟩
    case softmax => exact fun h hok => (exec_special_go (op := .softmax) rfl h hok).trans rfl
    case rmsnorm => exact fun h hok => (exec_special_go (op := .rmsnorm) rfl h hok).trans rfl
    case layernorm => exact fun h hok => (exec_special_go (op := .layernorm) rfl h hok).trans rfl
    case redsum => exact fun h hok => (exec_special_go (op := .redsum) rfl h hok).trans rfl
    case redmax => exact fun h hok => (exec_special_go (op := .redmax) rfl h hok).trans rfl
    case topk =>
      intro h hok
      rw [exec_special_go (op := .topk) rfl h hok]
      simp only [List.length_map]
  case special =>
    intro v
    refine ⟨rfl, sfuRecip_zero false v, sfuRecip_zero true v, ?_, ?_, ?_, rfl, rfl, rfl, rfl⟩
    · exact congrArg Prod.fst (sfuRsqrt_zero false v)
    · rw [sfuRsqrt_negOne]; decide
    · rw [sfuRsqrt_negOne]

end Sys2Proof
end

section
/-! SUPPORT. SAMPLE and TREEVERIFY: the sampling-state record that they find and the one that they leave, what they change beside it, and
O17. -/

namespace Sys2Proof

open Sys2Proof.Machine

/-! Words of the record (Table 6-4): a draw changes neither the seed key nor the settings of word 2. -/

@[simp] theorem wd_recDraws_zero (ws : List Nat) (n : Nat) : wd (recDraws ws n) 0 = wd ws 0 := rfl
@[simp] theorem wd_recDraws_one (ws : List Nat) (n : Nat) : wd (recDraws ws n) 1 = n % 2 ^ 64 := rfl
@[simp] theorem wd_recDraws_two (ws : List Nat) (n : Nat) : wd (recDraws ws n) 2 = wd ws 2 := rfl
@[simp] theorem wd_recLast_zero (ws : List Nat) (d : Draw) : wd (recLast ws d) 0 = wd ws 0 := rfl
@[simp] theorem wd_recLast_two (ws : List Nat) (d : Draw) : wd (recLast ws d) 2 = wd ws 2 := rfl

/-- The record v continues ws: its DrawIndex is n, and its words 0 and 2 are those of ws (R248, R252, R261). -/
def Continues (ws v : List Nat) (n : Nat) : Prop := wd v 1 = n % 2 ^ 64 ∧ wd v 0 = wd ws 0 ∧ wd v 2 = wd ws 2

/-- SAMPLE leaves a record that continues the one before, whether a row had a token or not (R252). -/
theorem continues_recDraws (ws : List Nat) (last : Option Draw) (n : Nat) :
    Continues ws (recDraws (match last with | some d => recLast ws d | none => ws) n) n := by
  cases last <;> simp [Continues]

/-- TREEVERIFY leaves a record that continues the one before, a + 1 draws on for a accepted nodes (R261). -/
theorem continues_recWalk (ws : List Nat) (w : Walk) (tokens : List Nat) (n : Nat) :
    Continues ws (recWalk ws w tokens n) (wd ws 1 + w.path.length + 1) := by
  have hlast (i : Nat) (hi : i = 0 ∨ i = 2) :
      wd (match w.final, w.last with | some d, _ => recLast ws d | none, some d => recLast ws d | none, none => ws) i = wd ws i := by
    rcases hi with rfl | rfl <;> split <;> rfl
  exact ⟨rfl, hlast 0 (.inl rfl), hlast 2 (.inr rfl)⟩

/-! The running part of the core, and the record in it. -/

theorem run_setRun (s : State) (k : Nat) (r : CoreRun) : (s.setRun k (some r)).run k = some r :=
  Tbl.get_put_of_ne (d := none) (v := some r) (by simp) s.runs k

theorem flagRun_run {s : State} {k : Nat} {r : CoreRun} (h : s.run k = some r) (fl : Nat) : (s.flagRun k fl).run k = some (r.flag fl) := by
  unfold State.flagRun; rw [h]; exact run_setRun s k _

theorem holdRecord_run {s : State} {k : Nat} {r : CoreRun} (h : s.run k = some r) (ws : List Nat) :
    (s.holdRecord k ws).run k = some { r with sfu := some ws } := by
  unfold State.holdRecord; rw [h]; exact run_setRun s k _

@[simp] theorem holdRecord_core (s : State) (k : Nat) (ws : List Nat) (j : Nat) : (s.holdRecord k ws).core j = s.core j := by
  unfold State.holdRecord; split <;> rfl

@[simp] theorem takeWait_sfu (r : CoreRun) (w : Nat) : (r.takeWait w).sfu = r.sfu := by
  unfold CoreRun.takeWait; split <;> rfl

/-- An instruction acts on the record that its core held when it started (R247, R248). -/
theorem recordOf_started {s : State} {die : Fin 8} {core : Fin 48} {n k : Nat} {g : Grant} {r : CoreRun} {q : QInstr}
    (h : AtHead s die core 7 5 n k g r q) : (started s k 7 r q).recordOf k g = s.heldRecord g r := by
  have hsfu : ((r.pop [7] q.word).enter [7] q).sfu = r.sfu := takeWait_sfu r q.word
  have hrun : (started s k 7 r q).run k = some ((r.pop [7] q.word).enter [7] q) := by
    rw [started, h.unitsFor_special]; exact run_setRun s k _
  unfold State.recordOf State.heldRecord
  rw [hrun]; simp only [hsfu]; rfl

/-! The effect that SAMPLE and TREEVERIFY have in common. -/

/-- The end of both: `w` is the scratch written with the flags of writing, `fl` the flags of the draws, `ws` the record after them, and the
entry notes its tokens and draws. -/
def drawn (t : State) (k : Nat) (g : Grant) (w : Tbl Byte × Nat) (fl : Nat) (ws tokens : List Nat) (ds : List Draw) : State :=
  (((t.setScratch k w.1).flagRun k (orFlags w.2 fl)).holdRecord k ws).noteDraws g tokens ds

/-- A change of entries that keeps what φ reads of each keeps it for all. -/
theorem setEntry_map {α : Type} (s : State) (frame idx : Nat) {f : Entry → Entry} {φ : Entry → α} (h : ∀ e, φ (f e) = φ e) :
    (s.setEntry frame idx f).entries.map φ = s.entries.map φ := by
  simp only [State.setEntry, List.map_map]
  refine List.map_congr_left fun e _ => ?_
  simp only [Function.comp_apply]
  split
  · exact h e
  · rfl

section

variable (t : State) (k : Nat) (g : Grant) (w : Tbl Byte × Nat) (fl : Nat) (ws tokens : List Nat) (ds : List Draw)

/-- Up to the entry's notes the effect stays in the core and its part of the step. -/
theorem holdRecord_flagRun_setScratch_same :
    Same [.cores, .runs] t (((t.setScratch k w.1).flagRun k (orFlags w.2 fl)).holdRecord k ws) :=
  Same.step (State.holdRecord_same _ _ _) (by decide) <|
    Same.step (State.flagRun_same _ _ _) (by decide) <| (State.setScratch_same _ _ _).mono (by decide)

theorem drawn_same : Same [.cores, .runs, .entries] t (drawn t k g w fl ws tokens ds) :=
  Same.step (State.noteDraws_same _ _ _ _) (by decide) ((holdRecord_flagRun_setScratch_same t k w fl ws).mono (by decide))

theorem drawn_scratch (hn : (t.core k).number ≠ none) : ((drawn t k g w fl ws tokens ds).core k).scratch = w.1 := by
  change ((((t.setScratch k w.1).flagRun k (orFlags w.2 fl)).holdRecord k ws).core k).scratch = w.1
  rw [holdRecord_core, flagRun_core, scratch_setScratch hn]

theorem drawn_run {r : CoreRun} (hr : t.run k = some r) :
    (drawn t k g w fl ws tokens ds).run k = some { r.flag (orFlags w.2 fl) with sfu := some ws } :=
  holdRecord_run (flagRun_run (s := t.setScratch k w.1) hr _) ws

/-- The draws change no entry's place or state. -/
theorem drawn_entries : (drawn t k g w fl ws tokens ds).entries.map (fun e => (e.frame, e.idx, e.st)) =
    t.entries.map (fun e => (e.frame, e.idx, e.st)) := by
  have hentries : (((t.setScratch k w.1).flagRun k (orFlags w.2 fl)).holdRecord k ws).entries = t.entries :=
    holdRecord_flagRun_setScratch_same t k w fl ws .entries (by decide)
  rw [← hentries]
  exact setEntry_map _ _ _ fun _ => rfl

end

section

variable {s : State} {die : Fin 8} {core : Fin 48} {n k : Nat} {g : Grant} {r : CoreRun} {q : QInstr}
  (h : AtHead s die core 7 5 n k g r q) (w : Tbl Byte × Nat) (fl : Nat) (tokens : List Nat) (ds : List Draw)

include h

/-- What is read after the common effect on a started instruction whose record continues the one found. -/
theorem drawn_started {ws v : List Nat} {m : Nat} (hv : Continues ws v m) :
    Same [.cores, .runs, .entries] s (drawn (started s k 7 r q) k g w fl v tokens ds) ∧
      ((drawn (started s k 7 r q) k g w fl v tokens ds).core k).scratch = w.1 ∧
      ∃ x, (drawn (started s k 7 r q) k g w fl v tokens ds).run k = some x ∧ ∃ v, x.sfu = some v ∧ Continues ws v m :=
  ⟨Same.step (drawn_same _ _ _ _ _ _ _ _) (by decide) ((started_same s k 7 r q).mono (by decide)),
    drawn_scratch _ _ _ _ _ _ _ _ h.number_ne_none, _, drawn_run _ _ _ _ _ _ _ _ (run_setRun s k _), v, rfl, hv⟩

end

/-! The two instructions on the record that they find. -/

section

variable {s : State} {die : Fin 8} {core : Fin 48} {k : Nat} {g : Grant} {r : CoreRun} {q : QInstr}

/-- SAMPLE draws once for each logical row, from DrawIndex on (R251, R252, Table 6-5). -/
theorem exec_sample_go (h : AtHead s die core 7 5 11 k g r q) (hok : SfuOk s .sample k g r q) {o : Operands3} {ws : List Nat}
    {rows : List (List (Flagged Nat))} {draws : List (Option Draw × Nat)} (ho : o = s.operands3 g q) (hws : ws = s.heldRecord g r)
    (hrows : rows = o.a.logical (s.core k).scratch (immSpan q.word))
    (hdraws : draws = rows.zipIdx.map (fun x => drawRow ws g.stream ((wd ws 1 + x.2) % 2 ^ 64) (x.1.map (·.1)))) :
    exec (.sample die core) s = .next (drawn (started s k 7 r q) k g
      (putFlat o.dst (s.core k).scratch (draws.flatMap (fun d => drawOut d.1))) (orAll (draws.map (·.2)))
      (recDraws (match (draws.filterMap (·.1)).getLast? with | some d => recLast ws d | none => ws) (wd ws 1 + rows.length))
      ((draws.filterMap (·.1)).map (·.token)) (draws.filterMap (·.1))) := by
  have hrun : exec (.sample die core) s = .next ((started s k 7 r q).sampleRun k g q) := exec_special_go (op := .sample) rfl h hok
  rw [hrun, State.sampleRun, recordOf_started h, ← hws]
  subst ho hrows hdraws
  rfl

/-- TREEVERIFY walks the draft tree and writes the path, its length and the final draw (R260, R261, Table 6-6). -/
theorem exec_treeverify_go (h : AtHead s die core 7 5 12 k g r q) (hok : SfuOk s .treeverify k g r q) {o : Operands3}
    {ws parents tokens : List Nat} {rows : List (List Nat)} {w : Walk} (ho : o = s.operands3 g q) (hws : ws = s.heldRecord g r)
    (hrows : rows = (o.a.logical (s.core k).scratch (immSpan q.word)).map (fun x => x.map (·.1)))
    (hparents : parents = (treeParents o.b (s.core k).scratch).map (fun p => p.getD 0))
    (htokens : tokens = (treeTokens o.b (s.core k).scratch).map (fun p => p.getD 0))
    (hw : w = treeWalk ws g.stream rows parents tokens (parents.length + 1) 0 {}) :
    exec (.treeverify die core) s = .next (drawn (started s k 7 r q) k g
      (putFlat o.dst (s.core k).scratch (w.path.map f32OfNat ++ List.replicate (64 - w.path.length) 0xBF800000 ++
        [f32OfNat w.path.length] ++ (drawOut w.final).take 7)) w.flags (recWalk ws w tokens parents.length)
      (w.path.map (fun j => tokens.getD j 0) ++ (w.final.map (·.token)).toList) w.draws) := by
  have hrun : exec (.treeverify die core) s = .next ((started s k 7 r q).verifyRun k g q) := exec_special_go (op := .treeverify) rfl h hok
  rw [hrun, State.verifyRun, recordOf_started h, ← hws]
  subst ho hrows hparents htokens hw
  rfl

end

/-- Settles O17: both instructions end in the common effect, on a record that continues the one found; off the first core the check faults. -/
theorem samplingAdvancesTheRecord : Obligations.SamplingAdvancesTheRecord := by
  unfold Obligations.SamplingAdvancesTheRecord
  refine ⟨?sample, ?treeverify, ?otherCore⟩
  case sample =>
    intro s die core k g r q o ws rows draws h hok ho hws hrows hdraws
    rw [← immSpan_eq] at hrows
    obtain ⟨hsame, hscratch, x, hx, hv⟩ := drawn_started h (putFlat o.dst (s.core k).scratch (draws.flatMap (fun d => drawOut d.1)))
      (orAll (draws.map (·.2))) ((draws.filterMap (·.1)).map (·.token)) (draws.filterMap (·.1))
      (continues_recDraws ws (draws.filterMap (·.1)).getLast? (wd ws 1 + rows.length))
    exact ⟨_, x, exec_sample_go h hok ho hws hrows hdraws, hsame, hscratch, hx, hv, drawn_entries _ _ _ _ _ _ _ _⟩
  case treeverify =>
    intro s die core k g r q o ws parents tokens rows w h hok ho hws hrows hparents htokens hw
    rw [← immSpan_eq] at hrows
    obtain ⟨hsame, hscratch, x, hx, hv⟩ := drawn_started h _ w.flags _ w.draws (continues_recWalk ws w tokens parents.length)
    exact ⟨_, x, exec_treeverify_go h hok ho hws hrows hparents htokens hw, hsame, hscratch, hx, hv⟩
  case otherCore =>
    intro s die core k g r q h hp
    exact (exec_special_fault (op := .sample) rfl h (sfuCheck_otherCore rfl hp)).trans rfl

end Sys2Proof
end
